-- ==== Sys2Proof/Word.lean ====
section
/-! DEFINITION. Sys2Proof/Word.lean: the word types of the manual (R485, R496) and the one shape every sparse table of
the model has. -/
namespace Sys2Proof

/-- A byte. -/
abbrev Byte := BitVec 8

/-- A word of the register bus (R485). -/
abbrev Word := BitVec 32

/-- A 64-bit register, a GTIME value (R16) or a program word (R54). -/
abbrev DWord := BitVec 64

/-- A sparse table: pairs of key and entry, keys strictly rising in its canonical form. -/
abbrev Tab (α : Type) := List (Nat × α)

/-- The keys of a table rise strictly: its canonical form. -/
def Tab.sorted {α : Type} : Tab α → Bool
  | [] => true
  | [_] => true
  | p :: q :: t => decide (p.1 < q.1) && Tab.sorted (q :: t)

end Sys2Proof
end

