-- ==== Sys2Proof/Syntax.lean ====
section
/-! DEFINITION. Sys2Proof/Syntax.lean: the commands of the block and their operands. A command is one of the steps that
spec/opcode_table.json lists: a register access that has a row of its own, an operation of a bus or protocol, an event at
a pin or lane, or an event of one of the stack's own engines and timers. Its operands are what comes from outside the
stack: who asks, the unit or object meant, the bytes that arrive, and what a sensor, a lane or an array shows. -/
namespace Sys2Proof

/-- A path onto the register bus: a chain or the I3C port (R485, R486). -/
inductive Path where
  | chain (k : Fin 16)
  | i3c
deriving DecidableEq, Repr

/-- The path number of the manual's PATH fields: chain 0 to 15, 0x10 I3C (R429, R509). -/
def Path.num : Path → Nat
  | .chain k => k.val
  | .i3c => 16

/-- A requester context (R486): the path, and the SID of the session the request is tagged under, 0 without one. -/
structure Req where
  path : Path
  sid : Nat
deriving DecidableEq, Repr

/-- A packet of a chain (R215 to R217): its LSEQ, type t, label, TAGGED flag, payload and session tag. -/
structure Packet where
  lseq : Nat
  type : Nat
  label : Nat
  tagged : Bool
  payload : List Byte
  tag : List Byte
deriving DecidableEq, Repr

/-- The units a VXU command goes to: one, by its VXU_CMD, or several, by VXU_GCMD (R73, R78). -/
inductive VxuSel where
  | unit (n : Fin 16)
  | group (mask : BitVec 16)
deriving DecidableEq, Repr

/-- The conditions under which a lane is lost by itself (R198); PARTNER is the DROP_RECEIVED row. -/
inductive LossCond where
  | los | unc | marker | skew | marginal
deriving DecidableEq, Repr

/-- A 66-bit block of a lane: sync header and 64-bit payload (R184, R186). -/
structure RxBlock where
  sync : BitVec 2
  bits : BitVec 64
deriving DecidableEq, Repr

/-- What a codeword read finds (R282, R285): the error that has entered the stored codeword since it was last read, the
error of this read alone, and that of the reread after an ADDRESS_MISMATCH. Each is a list of (position, mask) in symbol
order; positions 36 and 37 stand for a fetch from another address. -/
structure ReadErrs where
  cell : List (Nat × BitVec 16)
  line : List (Nat × BitVec 16)
  reread : List (Nat × BitVec 16)
deriving DecidableEq, Repr

/-- Who reads a codeword (R284): a host or engine that takes the data, or the FCE, for a structure of a domain. -/
inductive Reader where
  | data
  | domainEntry (d : BitVec 24)
  | domainMap (d : BitVec 24)
  | exceptionLog (lost : Nat)
  | poolEntry (p : BitVec 16)
deriving DecidableEq, Repr

/-- What a full calibration finds (R332): lanes without an eye, as (channel, lane), and new values, as (channel, setting,
value); a lane is 0 to 77 for data/check and 128 + n for command/address lane n, a setting 128 × kind + lane. -/
structure CalResult where
  noEye : List (Nat × Nat)
  values : List (Nat × Nat × Nat)
deriving DecidableEq, Repr

/-- Whose next leg starts (R305, R306, R328): a channel's traverse, the base-die round, or a block of a full-stack
self-test, laid out as BST_ARG. -/
inductive LegWho where
  | dram (c : Fin 32)
  | base
  | full
deriving DecidableEq, Repr

/-- Why the fuse array is sensed (R437): by command, at a cold load, or at a band change. At a cold load the bits are given that
manufacture has programmed since the last one (R407). -/
inductive SenseWhy where
  | command (r : Req)
  | coldLoad (made : List (Fin 1024 × BitVec 64))
  | bandChange
deriving DecidableEq, Repr

/-- What the fuse engine meets in the steps of an operation (R439, R440): for each bit in order the program pulses it takes beyond one,
none beyond the list; for each bit that is pulsed whether VFUSE is in range at the start of the pulse, as at the last one beyond the list;
how many bits verify before one that does not, if one does not; and what each sense of the operation finds marginal, nothing beyond the list. -/
structure FuseResult where
  pulses : List (Fin 4)
  vfuse : List Bool
  fails : Option Nat
  weak : List (List (Fin 65536))
deriving DecidableEq, Repr

/-- What one measurement reads (R338, R340, R360): the 76 sensors; for the core dies 1 to 16 and the zones 0 to 3, what the kiln model,
whose coefficients lie in the MGC firmware, makes of their heat inputs: the model value with the lid at 0 °C, and its rise with the lid in
1/256; the power of the base die in mW; and each stack rail's mean current, its voltage and its largest 10 µs mean current since the last
measurement. Temperatures are in 1/16 °C. -/
structure Thermals where
  sensors : List (BitVec 16)
  nodes : List (BitVec 16 × BitVec 16)
  base : BitVec 32
  rails : List (BitVec 16 × BitVec 16 × BitVec 16)
deriving DecidableEq, Repr

/-- What a cold load finds that does not stand in the stack (R406, R452): a start-up failure of SEC, 1 known-answer test or 3
entropy source, and pages of the configuration flash that were written from outside. -/
structure LoadFind where
  sec : Option (BitVec 2)
  pages : List (Fin 2112 × List Byte)
deriving DecidableEq, Repr

/-- What the start-up tests of a cold load find (R299, R327): by channel, the runs of its check-logic test up to the eighth, each
the tally of completed vectors and whether the signature matches the ROM value (one full and good run where none is given), the
blocks, laid out as BST_ARG, whose TSV lane, clock, VXU, RAE or SRAM test fails, and the initial calibration. -/
structure StartTests where
  ecc : List (Fin 32 × List (Nat × Bool))
  fails : List (BitVec 32)
  cal : CalResult
deriving DecidableEq, Repr

/-- The commands of the block: one constructor per row of spec/opcode_table.json, in the table's order. Each docstring
quotes the row's rule and summary. -/
inductive Instr where
  /-- RESET_N_LOW (R524): RESET_N falls: lanes go idle, PD1 to PD19 turn off, sessions end and the stack enters COLD. -/
  | resetNLow
  /-- RESET_N_RELEASE (R460): The ACLK edge that samples RESET_N high with PWRGOOD high starts the cold boot: the AON leaves reset and fuse sense and root PLL lock begin. -/
  | resetNRelease
  /-- ROOT_PLL_LOCK (R16): The root PLL first locks after reset: GTIME starts from zero and the REFCLK monitor arms. -/
  | rootPllLock
  /-- PWRGOOD_RISE (R520): PWRGOOD goes high, which is one of the conditions for leaving COLD. -/
  | pwrgoodRise
  /-- PWRGOOD_LOST (R522): PWRGOOD falls while RESET_N is high: the FATAL fault PWRGOOD_LOST is recorded and the safe-state reaction starts. -/
  | pwrgoodLost
  /-- CLOCK_LOST (R370): No REFCLK edge for 1 µs, or loss of root PLL lock, raises the FATAL fault CLOCK_LOST. -/
  | clockLost (pll : Bool)
  /-- SHUTDOWN_REARM (R357): After every sensor has read below its re-arm temperature for 100 ms, the shutdown records are set ARMED and COLD may proceed. -/
  | shutdownRearm
  /-- LOAD_ENTRY (R23): The stack leaves COLD for LOAD once every release condition holds, then checks SEC, reads the ledger, and selects the firmware set and the configuration generation. -/
  | loadEntry (found : LoadFind)
  /-- LOAD_COMPLETE (R23): Bring-up and the start-up tests complete: capability flags are set and the stack enters SERVICE or MAINTAIN. -/
  | loadComplete (r : StartTests)
  /-- MODE_REQ_SERVICE (R25): A host request for SERVICE from HOLD or MAINTAIN: after the checks, the stack leaves self-refresh or dispatches the queued closes. -/
  | modeReqService (r : Req) (cal : CalResult)
  /-- MODE_REQ_HOLD (R26): A host request for HOLD from SERVICE: it is checked, then dispatch stops and credits for fail traffic are withheld. -/
  | modeReqHold (r : Req)
  /-- HOLD_ENTRY_COMPLETE (R270): Once running analyses have drained and the cadastre cache has been written back, the DMCs empty their queues and place every core die in self-refresh; the mode then reads HOLD. -/
  | holdEntryComplete
  /-- MODE_REQ_MAINTAIN (R25): An Owner request for MAINTAIN from SERVICE: streams end with reason MODE and fail-carrying chains withhold credits. -/
  | modeReqMaintain (r : Req)
  /-- WARM_LOAD (R473): The warm load runs its timed steps: streams and sessions end, dies enter self-refresh, the new image is checked and loaded, and the stack returns to its previous mode. -/
  | warmLoad
  /-- FATAL_FAULT (R383): A FATAL fault starts the safe-state reaction: the mode becomes SAFE, FAULT_N goes low, SAFE blocks are sent, dies enter self-refresh and domains power down. -/
  | fatalFault (src : Fin 8) (a b : BitVec 32)
  /-- VXU_START (R74): VXU command START, issued through VXU_CMD or VXU_GCMD: after the checks the unit enters LOADING. -/
  | vxuStart (r : Req) (u : VxuSel)
  /-- VXU_PAUSE (R63): VXU command PAUSE sets pause pending; composing stops now, or at the next PAUSEPT when the program has pause points. -/
  | vxuPause (r : Req) (u : VxuSel)
  /-- VXU_RESUME (R63): VXU command RESUME returns a PAUSED stream to LOADING. -/
  | vxuResume (r : Req) (u : VxuSel)
  /-- VXU_STOP (R63): VXU command STOP discards the composed frames and ends the stream with HOST_STOP. -/
  | vxuStop (r : Req) (u : VxuSel)
  /-- VXU_HEADER_CHECK (R68): The program header read at LOADING is checked; a failure refuses the stream and returns it to IDLE. -/
  | vxuHeaderCheck (u : Fin 16) (intact : Bool)
  /-- VXU_READY (R64): The subroutine section is loaded and the reservoir has reached its start level: the stream enters RUNNING or ARMED. -/
  | vxuReady (u : Fin 16)
  /-- START_DEADLINE_EXPIRE (R63): The start deadline expires before the stream is ready: the stream ends with START_MISS. -/
  | startDeadlineExpire (u : Fin 16)
  /-- START_MARK (R63): GTIME reaches VXU_START_AT: an ARMED stream starts sending, or a stream still LOADING ends with START_MISS. -/
  | startMark (u : Fin 16)
  /-- VXU_FRAME_SLOT (R59): A frame slot of the pacer falls due and the chain can accept a frame: the unit sends a DATA, PAUSE or END frame, or a STALL frame, or an END frame with UNDERRUN. -/
  | vxuFrameSlot (u : Fin 16) (cycles : Nat)
  /-- VXU_PROGRAM_FETCH (R51): Main-section bytes arrive in the stream reservoir from the VEC partition. -/
  | vxuProgramFetch (u : Fin 16) (intact : Bool)
  /-- VXU_BOUND_STOP (R62): The read or decode count of a 4,096-frame window exceeds its bound: the stream ends with BOUND. -/
  | vxuBoundStop (u : Fin 16)
  /-- VEC_PACKET_CLOSE (R232): 64 CCLK cycles pass after a VEC packet's first frame without an eighth frame: the packet is closed. -/
  | vecPacketClose (u : Fin 16)
  /-- NOP (R54): Instruction NOP does nothing. -/
  | nop (u : Fin 16)
  /-- LIT (R54): Instruction LIT emits the n literal vectors that follow it. -/
  | lit (u : Fin 16)
  /-- RLIT (R54): Instruction RLIT emits the following literal vector n times. -/
  | rlit (u : Fin 16)
  /-- TPL (R54): Instruction TPL loads template T[t] from the following vector. -/
  | tpl (u : Fin 16)
  /-- EMIT (R54): Instruction EMIT emits compose(T[t]) n times. -/
  | emit (u : Fin 16)
  /-- EMITS (R54): Instruction EMITS emits c composed templates n times, stepping field register Xx after each pass. -/
  | emits (u : Fin 16)
  /-- SETX (R54): Instruction SETX sets Xx to an immediate value, modulo its width. -/
  | setx (u : Fin 16)
  /-- ADDX (R54): Instruction ADDX adds a sign-extended immediate to Xx. -/
  | addx (u : Fin 16)
  /-- ANDX (R54): Instruction ANDX ANDs Xx with an immediate. -/
  | andx (u : Fin 16)
  /-- ORX (R54): Instruction ORX ORs Xx with an immediate. -/
  | orx (u : Fin 16)
  /-- XORX (R54): Instruction XORX XORs Xx with an immediate. -/
  | xorx (u : Fin 16)
  /-- CPYX (R54): Instruction CPYX copies Xy into Xx. -/
  | cpyx (u : Fin 16)
  /-- XADD (R54): Instruction XADD adds Xy to Xx. -/
  | xadd (u : Fin 16)
  /-- SETM (R54): Instruction SETM sets the modulus width of Xx and reduces Xx. -/
  | setm (u : Fin 16)
  /-- FIELD (R54): Instruction FIELD configures field slot FSs. -/
  | field (u : Fin 16)
  /-- LOOP (R54): Instruction LOOP pushes a loop of n passes. -/
  | loop (u : Fin 16)
  /-- ENDL (R54): Instruction ENDL decrements the innermost loop count and repeats the body or pops the loop. -/
  | endl (u : Fin 16)
  /-- CALL (R54): Instruction CALL pushes the return point and jumps into the subroutine section. -/
  | call (u : Fin 16)
  /-- RET (R54): Instruction RET pops the call stack and continues at the return point. -/
  | ret (u : Fin 16)
  /-- MARK (R54): Instruction MARK makes an id pending for the next emitted vector. -/
  | mark (u : Fin 16)
  /-- PAUSEPT (R63): Instruction PAUSEPT stops composing when a pause is pending. -/
  | pausept (u : Fin 16)
  /-- END (R54): Instruction END ends the program after the last emitted vector. -/
  | endProg (u : Fin 16)
  /-- FAIL_PACKET (R233): An accepted FAIL packet: each of its records enters the cadastre ingest queue. -/
  | failPacket (k : Fin 16) (payload : List Byte)
  /-- FAIL_RECORD (R84): A fail record taken from the ingest queue is logged if configured, checked, and then ordered: released, held, window-pushed, or excepted. -/
  | failRecord
  /-- CAP_BLOCK_TIMEOUT (R93): 10 µs after its first record, a short capture block is written out. -/
  | capBlockTimeout (p : Fin 16)
  /-- GAP_TIMER_EXPIRE (R85): A source's gap timer expires: a gap is declared and the held records are released. -/
  | gapTimerExpire (src : Fin 256)
  /-- FOLD_RECORD (R97): A fold pipe translates a released record through its plat and enters its points into the lots and tallies. -/
  | foldRecord
  /-- RESYNC (R84): Command RESYNC in CAD_SRC_CMD clears the source's NX. -/
  | resync (r : Req) (src : Fin 256)
  /-- OPEN (R98): Domain command OPEN opens a range of FREE domains on sites and blocks, with a plat, spares and budgets. -/
  | domOpen (r : Req) (upto : Option (BitVec 25))
  /-- CLOSE (R101): Domain command CLOSE, IMMEDIATE or FENCED, moves a range of OPEN domains to CLOSING, or queues it outside SERVICE. -/
  | domClose (r : Req) (fenced : Bool) (upto : Option (BitVec 25))
  /-- RELEASE (R104): Domain command RELEASE returns OPEN or DONE domains to FREE and frees their heap and site-map slots. -/
  | domRelease (r : Req) (upto : Option (BitVec 25))
  /-- POOL_DEF (R100): Domain command POOL_DEF defines a group pool of shared spare rows and columns. -/
  | poolDef (r : Req) (upto : Option (BitVec 25))
  /-- POOL_DEL (R100): Domain command POOL_DEL deletes a pool that has no members. -/
  | poolDel (r : Req) (upto : Option (BitVec 25))
  /-- FENCE_TIMER_EXPIRE (R101): The fence timer of a FENCED close expires: FENCE_TIMEOUT is set and the missing sources are recorded. -/
  | fenceTimerExpire (d : BitVec 24)
  /-- CLOSE_RECORD_BUILD (R110): When a CLOSING domain's close condition holds and its heap reservation succeeds, the FCE builds the close record, marks heavy lines, checks the tracked capacity, and marks the domain CLOSED. -/
  | closeRecordBuild (d : BitVec 24)
  /-- READOUT_SUMMARY (R112): Readout form SUMMARY writes the domain entry to a BUF partition. -/
  | readoutSummary (r : Req)
  /-- READOUT_POINTS (R112): Readout form POINTS writes every fail point in row-major order. -/
  | readoutPoints (r : Req)
  /-- READOUT_LINES (R112): Readout form LINES writes every failing line with its exact count. -/
  | readoutLines (r : Req)
  /-- READOUT_CLOSE_RECORD (R112): Readout form CLOSE_RECORD writes the domain's close record. -/
  | readoutCloseRecord (r : Req)
  /-- READOUT_DONE (R113): A readout completes, or is cut at CAD_RMAX: the header is written and BUSY clears. -/
  | readoutDone
  /-- CAD_EXC_RPTR_WRITE (R91): The host advances the exception log read pointer, but only over entries that have been written. -/
  | cadExcRptrWrite (r : Req) (v : Word)
  /-- RAE_TAKE_UP (R123): The dispatcher hands the head CLOSED domain to the lowest idle engine in the pool, and the domain enters ANALYSING. -/
  | raeTakeUp (intact : Bool)
  /-- TIME_BUDGET_EXPIRE (R127): The time budget of an analysis expires and the search returns SPENT. -/
  | timeBudgetExpire (e : Fin 64) (nodes : Nat)
  /-- NODE_BUDGET_SPENT (R127): A call of node() would exceed the node budget, and the search returns SPENT. -/
  | nodeBudgetSpent (e : Fin 64)
  /-- FIRST_PASS_END (R132): An engine ends its stages and writes a result, or holds the pool outcome with its options. -/
  | firstPassEnd (e : Fin 64)
  /-- POOL_ROUND (R133): A pool round divides the residual pool spares among its candidates and writes their results. -/
  | poolRound (pool : BitVec 16)
  /-- RAE_ENGINE_ERROR (R126): An engine's internal error removes it from the pool and re-dispatches its domain at the head of the queue. -/
  | raeEngineError (e : Fin 64)
  /-- RESULT_RING_COPY (R146): A completed result is copied into the next slot of the result ring when the ring is enabled and has room. -/
  | resultRingCopy
  /-- HOLDOFF_EXPIRE (R147): The alert holdoff ends, and RESULT_READY is raised for the slots written during it. -/
  | holdoffExpire
  /-- REANALYSE (R152): RAE command REANALYSE returns an UNDECIDED domain to CLOSED with new budgets and queues it at the tail. -/
  | reanalyse (r : Req)
  /-- CLEAR_LAT (R148): RAE command CLEAR_LAT clears RAE_LAT_MAX. -/
  | clearLat (r : Req)
  /-- RAE_RING_CFG_WRITE (R150): A checked write of the ring configuration; enabling the ring resets WPTR and RPTR. -/
  | raeRingCfgWrite (r : Req) (v : Word)
  /-- RAE_RING_RPTR_WRITE (R150): The host advances the result ring read pointer. -/
  | raeRingRptrWrite (r : Req) (v : Word)
  /-- SHED_EVALUATION (R176): After a capacity change, present capacity is evaluated and classes are shed, lowest rank first. -/
  | shedEvaluation
  /-- REINSTATEMENT (R178): QOS_STABLE reaches 100 ms: shed classes that now fit are reinstated, in descending rank. -/
  | reinstatement
  /-- HOLD_EXCEEDED (R175): Credit withholding for a conforming in-force RT-CAPTURE class lasts longer than H, and GUARANTEE_MISS is raised. -/
  | holdExceeded (n : Fin 32)
  /-- LANE_SIGNAL_DETECT (R195): A signal has been present for 10 µs on a lane in DETECT: the lane enters TRAIN. -/
  | laneSignalDetect (l : Fin 64)
  /-- NO_SIGNAL (R195): No signal after 1 s in DETECT sets the NO_SIGNAL event. -/
  | noSignal (l : Fin 64)
  /-- TRAINING_FRAME (R194): A received training frame's tap request is answered in the next frame but one. -/
  | trainingFrame (l : Fin 64) (control : BitVec 16) (status : BitVec 16) (atLimit : BitVec 3) (own : BitVec 16)
  /-- TRAINING_END (R194): Both sides have sent RX_READY in 8 frames: the lane switches to blocks and enters LOCK. -/
  | trainingEnd (l : Fin 64)
  /-- TRAIN_TMO (R195): The 300 ms training timer expires: the lane returns to DETECT with backoff. -/
  | trainTmo (l : Fin 64)
  /-- LOCK_ACHIEVED (R188): Codeword lock and block lock are gained: the lane enters CAPX and sends CAPX blocks. -/
  | lockAchieved (l : Fin 64)
  /-- LOCK_TMO (R195): The 2 ms lock timer expires: the lane returns to DETECT with backoff. -/
  | lockTmo (l : Fin 64)
  /-- CAPX_MATCH (R196): Three matching CAPX blocks arrive: the lane enters STANDBY. -/
  | capxMatch (l : Fin 64) (body : BitVec 56)
  /-- CAPX_MISMATCH (R196): A mismatching CAPX block arrives, or the CAPX timer expires: the lane returns to DETECT and PARTNER_MISMATCH is raised. -/
  | capxMismatch (l : Fin 64) (body : Option (BitVec 56))
  /-- LANE_READY (R195): A lane in STANDBY has been clean and within skew for 1 ms, and becomes ready. -/
  | laneReady (l : Fin 64)
  /-- BACKOFF_EXPIRE (R195): The 10 ms or 1 s retry backoff after a failed bring-up ends. -/
  | backoffExpire (l : Fin 64)
  /-- CHAIN_FORMATION (R197): The formation window ends, or every configured lane is ready, or MINW lanes are ready: formation starts with epoch 0. -/
  | chainFormation (k : Fin 16) (windowEnd : Bool)
  /-- LANE_LOSS (R199): A lane in LOCK or later meets a loss condition; an ACTIVE lane is dropped with a DROP column. -/
  | laneLoss (k : Fin 16) (lanes : BitVec 64) (cond : LossCond)
  /-- DROP_RECEIVED (R200): An EPOCH DROP from the partner is applied to the receive direction, answered or merged. -/
  | dropReceived (k : Fin 16) (body : BitVec 56)
  /-- REJOIN_ANNOUNCE (R202): The stack announces a rejoin of ready lanes. -/
  | rejoinAnnounce (k : Fin 16)
  /-- REJOIN_ACK_RECEIVED (R202): The partner's ACK arrives, and the stack sends COMMIT with a new epoch and switch stripe. -/
  | rejoinAckReceived (k : Fin 16) (body : BitVec 56)
  /-- REJOIN_LAPSED (R202): No usable ACK arrives within 10 µs, and the rejoin lapses. -/
  | rejoinLapsed (k : Fin 16)
  /-- PARTNER_COMMIT_RECEIVED (R202): The partner's COMMIT with the same mask arrives. -/
  | partnerCommitReceived (k : Fin 16) (body : BitVec 56)
  /-- PARTNER_COMMIT_TIMEOUT (R202): The partner's COMMIT does not arrive within 10 µs, and the stack sends a DROP with the old mask. -/
  | partnerCommitTimeout (k : Fin 16)
  /-- EPOCH_SWITCH (R192): A direction reaches its switch stripe and runs on the new mask and epoch. -/
  | epochSwitch (k : Fin 16) (transmit : Bool)
  /-- LANE_MARKER_SEND (R188): Every 256th codeword, a lane sends a LANE_MARKER as its first block. -/
  | laneMarkerSend (l : Fin 64)
  /-- WADDING_INSERT (R189): A WADDING column is inserted on every transmitting lane of a chain, at least once per 1,280 block times. -/
  | waddingInsert (k : Fin 16)
  /-- RETRAIN (R213): Lane command RETRAIN returns a lane that is not ACTIVE to DETECT without backoff. -/
  | retrain (r : Req) (l : Fin 64)
  /-- PRBS_CFG_WRITE (R208): A checked write enables or disables the PRBS generator or checker of a lane outside any chain. -/
  | prbsCfgWrite (r : Req) (l : Fin 64) (v : Word)
  /-- INJECT_BIT (R209): Injection kind BIT puts COUNT bit errors into the PRBS stream. -/
  | injectBit (r : Req) (l : Fin 64) (count : BitVec 8)
  /-- INJECT_SYMBOL (R209): Injection kind SYMBOL puts COUNT symbol errors into one codeword. -/
  | injectSymbol (r : Req) (l : Fin 64) (count : BitVec 8)
  /-- INJECT_SYNC (R209): Injection kind SYNC puts an invalid sync header into one block. -/
  | injectSync (r : Req) (l : Fin 64)
  /-- INJECT_LOL (R209): Injection kind LOL treats the lane as lost under condition UNC. -/
  | injectLol (r : Req) (l : Fin 64)
  /-- PACKET_RECEIVE (R221): A received packet is checked for link errors and LSEQ, then accepted, discarded, or answered as a duplicate. -/
  | packetReceive (k : Fin 16) (slots : List (Option RxBlock)) (late : BitVec 32)
  /-- CREDIT (R227): A CREDIT packet updates the granted totals of the pools it names. -/
  | creditPacket (k : Fin 16) (p : Packet)
  /-- BRD (R234): A BRD request reads partition data and is answered with response fragments. -/
  | brd (k : Fin 16) (p : Packet)
  /-- BWR (R235): A BWR request writes partition data and sends a completion when asked or on error. -/
  | bwr (k : Fin 16) (p : Packet)
  /-- CTL_REQUEST (R239): A CTL request is checked as a whole, then its operations are executed in order and a response is sent. -/
  | ctlRequest (k : Fin 16) (p : Packet) (late : BitVec 32)
  /-- ACK_RECEIVED (R223): An ACK releases the acknowledged packets from the replay buffer. -/
  | ackReceived (k : Fin 16) (body : BitVec 56)
  /-- NAK_RECEIVED (R223): A NAK releases earlier packets and starts a replay. -/
  | nakReceived (k : Fin 16) (body : BitVec 56)
  /-- REPLAY_TIMEOUT (R223): The oldest unacknowledged packet has gone 2 µs since its last sending, and a replay starts. -/
  | replayTimeout (k : Fin 16)
  /-- CREDIT_GRANT_SEND (R229): A CREDIT packet is sent once a pool has advanced by 64 credits, or 1 µs after a smaller advance. -/
  | creditGrantSend (k : Fin 16)
  /-- ALERT_SEND (R241): Queued alerts are sent in ASEQ order as ALERT packets when their chain is UP and the mode admits it. -/
  | alertSend (k : Fin 16)
  /-- NONCE (R413): Session operation NONCE returns a 32-byte nonce, bound to its path and valid for 1 s. -/
  | nonce (r : Req)
  /-- NONCE_EXPIRE (R413): An outstanding nonce expires after 1 s. -/
  | nonceExpire (p : Path)
  /-- SESSION_OPEN (R415): Session operation OPEN checks the nonce, key and signature, derives the session keys and returns a signed response. -/
  | sessionOpen (r : Req) (ext : List Byte)
  /-- SESSION_CLOSE (R421): Session operation CLOSE ends the session after its tagged response has been sent. -/
  | sessionClose (r : Req)
  /-- IDENTITY (R425): Session operation IDENTITY returns the part, the serial number, the DIK public key and the vendor endorsement. -/
  | identity (r : Req)
  /-- ATTEST (R426): Session operation ATTEST returns a DIK-signed attestation report over the host nonce. -/
  | attest (r : Req) (hnonce : List Byte)
  /-- ENROLL (R408): Session operation ENROLL programs and locks the owner anchor; the stack then becomes OWNED. -/
  | enroll (r : Req)
  /-- EVICT (R421): Session operation EVICT, by the Owner, ends a named session. -/
  | evict (r : Req) (ext : List Byte)
  /-- SESSION_IDLE_TIMEOUT (R421): The idle timer of a session expires, and the session ends. -/
  | sessionIdleTimeout (slot : Fin 16)
  /-- DEBUG_UNLOCK (R427): A write of SEC_DBG_CTL opens IEEE 1500 or IEEE 1838 access until reset and ends every other session. -/
  | debugUnlock (r : Req) (v : Word)
  /-- SEC_FATAL (R406): SEC detects a self-test, DIK, entropy, watchdog or glitch failure, which is a FATAL fault. -/
  | secFatal (cause : Fin 5)
  /-- I3C_DIRECT_READ (R489): An I3C private write of kind 0x01 reads a register of the public read-only subset. -/
  | i3cDirectRead (bytes : List Byte) (late : Bool)
  /-- I3C_CTL_FRAME (R490): An I3C private write of kind 0x05 carries a CTL request frame. -/
  | i3cCtlFrame (bytes : List Byte) (late : BitVec 32)
  /-- I3C_PRIVATE_READ (R489): An I3C private read fetches the prepared answer, or is NACKed until the answer is ready. -/
  | i3cPrivateRead
  /-- ENTDAA (R488): CCC ENTDAA assigns a dynamic address. -/
  | entdaa (addr : BitVec 7)
  /-- SETDASA (R488): CCC SETDASA assigns a dynamic address from static address 0x3A. -/
  | setdasa (static : BitVec 7) (addr : BitVec 7)
  /-- SETNEWDA (R488): CCC SETNEWDA changes the dynamic address. -/
  | setnewda (addr : BitVec 7)
  /-- RSTDAA (R488): CCC RSTDAA resets the dynamic address. -/
  | rstdaa
  /-- ENEC (R488): CCC ENEC is acknowledged and changes nothing. -/
  | enec
  /-- DISEC (R488): CCC DISEC is acknowledged and changes nothing. -/
  | disec
  /-- GETPID (R488): CCC GETPID returns the 48-bit provisional ID. -/
  | getpid
  /-- GETBCR (R488): CCC GETBCR returns BCR 0x00. -/
  | getbcr
  /-- GETDCR (R488): CCC GETDCR returns DCR 0x00. -/
  | getdcr
  /-- GETSTATUS (R488): CCC GETSTATUS returns the target status. -/
  | getstatus
  /-- GETMWL (R488): CCC GETMWL returns a maximum write length of 580 bytes. -/
  | getmwl
  /-- GETMRL (R488): CCC GETMRL returns a maximum read length of 578 bytes. -/
  | getmrl
  /-- I3C_UNSUPPORTED_CCC (R488): Any other CCC is ignored, and NACKed where a reply is requested. -/
  | i3cUnsupportedCcc (reply : Bool)
  /-- REFRESH_TICK (R262): A refresh tick of a channel decrements PULLED, or increments OWED and forces a refresh when no postponement is in effect. -/
  | refreshTick (c : Fin 32)
  /-- PULL_IN_REFRESH (R262): A channel idle for 100 ns issues a pull-in refresh at level 4. -/
  | pullInRefresh (c : Fin 32)
  /-- ROW_IDLE_PRECHARGE (R256): An open row that has had no request for 32 DCK cycles is closed. -/
  | rowIdlePrecharge (c : Fin 32) (bank : Fin 32)
  /-- DMC_READ (R257): A codeword read is scheduled, issued and decoded, and the data is delivered or the integrity outcome is reported. -/
  | dmcRead (c : Fin 32) (a : BitVec 32) (cls : Fin 32) (age cycles : Nat) (late : Bool) (errs : ReadErrs) (reader : Reader)
  /-- DMC_WRITE (R287): A codeword write is queued, merged into a merge-buffer entry if narrow, or written in full. -/
  | dmcWrite (c : Fin 32) (a : BitVec 32) (cls : Fin 32) (age : Nat) (late : Bool) (data : BitVec 512) (bytes : BitVec 64)
  /-- MERGE_ENTRY_TIMEOUT (R288): 2 µs after allocation, a merge entry is written by read-modify-write. -/
  | mergeEntryTimeout (c : Fin 32) (a : BitVec 32) (errs : ReadErrs)
  /-- ERROR_RETURN (R266): A command parity error return: CLEAR is sent, and the bad command and every later command are reissued. -/
  | errorReturn (c : Fin 32) (back : Fin 32)
  /-- CA_LANE_TEST_DONE (R267): The command/address lane test ends: traffic resumes, a lane is spared, or the channel is retired. -/
  | caLaneTestDone (c : Fin 32) (bad : BitVec 16)
  /-- TRANSIT_START (R268): A due frequency transit starts once the 1 ms spacing has passed, and runs its timed steps to the new point. -/
  | transitStart (ticks : Nat) (cal : CalResult)
  /-- DMC_FREQ_REQ (R271): A point request in HOLD sets the divider and the timings within 3 µs, and HOLD_FREQ is set. -/
  | dmcFreqReq (r : Req) (v : Word)
  /-- SCRUB_ROW (R293): Patrol scrub reads one row and writes back or poisons its codewords. -/
  | scrubRow (c : Fin 32) (errs : List (Fin 32 × ReadErrs))
  /-- CORRECTED2_WRITEBACK (R295): A demand read that gave CORRECTED_2 is written back within 10 µs. -/
  | corrected2Writeback (c : Fin 32) (a : BitVec 32)
  /-- HOTPOS (R297): One symbol position is corrected in at least 64 codewords within 1 ms: its lanes are queued for test, or are judged from the bit statistics. -/
  | hotpos (c : Fin 32) (sym : Fin 36)
  /-- ECC_INJ_ARM (R302): A write of ECC_INJ_CTL arms or disarms an ECC injection. -/
  | eccInjArm (r : Req) (v : Word)
  /-- LEG_START (R307): The traverse starts its next leg within the limits of MAXCONC, PERRAIL and STAGGER. -/
  | legStart (w : LegWho)
  /-- LEG_END (R309): A leg's tally reaches the expected value: PASS or FAIL, followed by the action of its kind. -/
  | legEnd (block signature : BitVec 32) (column : Option (Fin 32))
  /-- LEG_BUDGET_EXPIRE (R307): A leg's budget expires with its tally short, and the leg is INCOMPLETE. -/
  | legBudgetExpire (block tally : BitVec 32)
  /-- COLUMN_REPAIR_CHUNK (R315): One chunk of 64 rows of a column repair is copied, and the remap is enabled after the last chunk. -/
  | columnRepairChunk (c : Fin 32)
  /-- CLK_BUNDLE_LOST (R320): A clock bundle misses 16 DCK edges: the group switches to the other bundle, or the die group is retired. -/
  | clkBundleLost (g : Fin 4) (b : Fin 2)
  /-- SALVAGE_SLICE (R323): Salvage copies the next slice of a retired channel into reserve space and remaps it. -/
  | salvageSlice (mismatches : Nat) (dead : Bool)
  /-- FULLTEST (R328): BST command FULLTEST runs every leg kind on every block. -/
  | fulltest (r : Req)
  /-- FULLTEST_DONE (R328): The full-stack self-test ends, and FULLTEST_DONE is raised. -/
  | fulltestDone
  /-- ABORT_FULLTEST (R328): BST command ABORT_FULLTEST ends a running test after its running legs. -/
  | abortFulltest (r : Req)
  /-- FUSE_COMMIT (R318): BST command FUSE_COMMIT programs the unfused repair log entries into blank repair sets and clears the log. -/
  | fuseCommit (r : Req)
  /-- LEG (R337): BST command LEG queues an out-of-turn leg on a named block. -/
  | legCmd (r : Req)
  /-- CAL_STEP (R330): A calibration step measures one lane group or the impedance in a traffic gap, and accepts or rejects the values. -/
  | calStep (c : Fin 32) (values : List (Nat × Nat))
  /-- CAL_STEP_FORCED (R330): A step that has waited 10 ms is forced at level 4. -/
  | calStepForced (c : Fin 32) (values : List (Nat × Nat))
  /-- CAL_TAP_MOVE (R331): An accepted setting moves one tap toward its new value, at least 10 µs after the last move on its lane. -/
  | calTapMove (c : Fin 32) (kind : Fin 4) (lane : Fin 78)
  /-- THERMAL_MEASUREMENT (R358): At each interval, the sensors are read and sensors excluded, the model updated, and shutdown, throttle, warning, band and interval decided. -/
  | thermalMeasurement (m : Thermals)
  /-- THROTTLE_STEP (R348): The 2 ms rising timer or the 20 ms falling timer expires, and the throttle level moves by one. -/
  | throttleStep
  /-- FASTER_POINT_TIMER (R352): A faster point has been permitted by the band for 1 s, and a transit to it is ordered. -/
  | fasterPointTimer
  /-- COMPARATOR_SCAN (R354): Every 20 µs, the AON comparators check every sensor against its shutdown threshold. -/
  | comparatorScan (sensors : List (BitVec 16))
  /-- RAIL_OC (R361): A rail current above its trip value for 1 µs is a FATAL fault. -/
  | railOc (r : Fin 6) (mA : BitVec 16)
  /-- RAIL_UV (R361): A rail voltage below 95 % for 1 µs is a FATAL fault. -/
  | railUv (r : Fin 6) (mV : BitVec 16)
  /-- RAIL_PEAK (R361): A rail current above 90 % of its rated value for 1 ms sets PEAK and WARN90. -/
  | railPeak (r : Fin 6) (mA : BitVec 16)
  /-- CLEAR_PEAK (R368): PWR command CLEAR_PEAK clears the current peaks and WARN90. -/
  | clearPeak (r : Req)
  /-- MGC_WATCHDOG (R370): An MGC core fails to service its watchdog for 10 ms, which is a FATAL fault. -/
  | mgcWatchdog (core : Fin 4)
  /-- LEDGER_COPY (R379): A history entry is copied to the ledger ring within the rate limits. -/
  | ledgerCopy (bad : Option (BitVec 32))
  /-- ACK_ALERTN (R381): FLT command ACK_ALERTN releases ALERT_N. -/
  | ackAlertn (r : Req)
  /-- CLEAR_ALL (R373): FLT command CLEAR_ALL clears every sticky bit. -/
  | clearAll (r : Req)
  /-- FLT_FORCE (R375): A write of FLT_FORCE raises a fault source as if it had been detected, without its remedial action. -/
  | fltForce (r : Req) (n : Fin 4) (v : Word)
  /-- AVAIL_MS_TICK (R385): Each millisecond of ACLK time is classed as unscheduled or available. -/
  | availMsTick
  /-- AVAIL_SLOT_WRITE (R386): Every 1,000 ms, and at mode changes, the availability counts are written to a ledger slot. -/
  | availSlotWrite (bad : Option (BitVec 32))
  /-- AVAIL_BUCKET_ROLL (R387): A 168 h availability bucket ends; AVAIL_BUDGET is recorded when the 52-week budget is exceeded. -/
  | availBucketRoll
  /-- PMC_SEL_WRITE (R391): A write of a counter selection, which clears the counter when the event selection changes. -/
  | pmcSelWrite (r : Req) (n : Fin 128) (v : Word)
  /-- COUNTER_WRAP (R388): A 48-bit counter wraps and sets its PMC_OVF bit. -/
  | counterWrap (n : Fin 128) (inc : BitVec 48)
  /-- PMC_SAMPLE (R396): A counter's sample period is reached, and a sample of the event context is taken. -/
  | pmcSample (n : Fin 128) (skid : Option (Fin 16))
  /-- COUNTER_DUMP (R393): Every PERIOD × 100 µs in SERVICE, the counters are snapshot and written as records to the DMP ring. -/
  | counterDump
  /-- SENSE (R437): A fuse array sense at both references, ordered by command, at cold load or at a band change. -/
  | sense (why : SenseWhy) (weak : List (Fin 1024 × BitVec 64))
  /-- REINFORCE (R451): FSE command REINFORCE pulses the marginal bits of the ROLLBACK regions and the OPEN regions. -/
  | reinforce (r : Req)
  /-- FSE_SLOCK (R436): A write-once sticky lock blocks programming of a region until reset. -/
  | fseSlock (r : Req) (n : Fin 16) (v : Word)
  /-- FUSE_OPERATION_END (R448): A fuse programming operation ends, with its status. -/
  | fuseOperationEnd (res : FuseResult)
  /-- BEGIN (R470): UPD command BEGIN checks chunk 0 and starts or resumes staging of a package. -/
  | updBegin (r : Req) (flashOk : Bool)
  /-- CHUNK (R469): UPD command CHUNK stores the next chunk after checking its digest. -/
  | updChunk (r : Req) (flashOk : Bool)
  /-- VERIFY (R471): UPD command VERIFY reconstructs and checks the staged package. -/
  | updVerify (r : Req)
  /-- VERIFY_DONE (R469): Verification ends in VERIFIED or FAILED, and UPDATE_VERIFIED is raised. -/
  | verifyDone (flashOk : Bool)
  /-- ACTIVATE (R472): UPD command ACTIVATE saves settings, programs a patch region when needed, and then begins the warm load. -/
  | activate (r : Req) (ok : Bool)
  /-- CONFIRM (R475): UPD command CONFIRM confirms the trial set and raises the rollback floors. -/
  | confirm (r : Req)
  /-- ROLLBACK (R476): UPD command ROLLBACK returns to the confirmed set through a warm load. -/
  | rollback (r : Req)
  /-- ABORT (R469): UPD command ABORT abandons the staged data. -/
  | updAbort (r : Req)
  /-- TRIAL_EXPIRE (R474): UPD_TRIAL reaches 86,400,000 ms, and the trial set is rolled back. -/
  | trialExpire
  /-- SETTINGS_SAVE (R465): Every 15 minutes of SERVICE, a new settings generation is written, read back, and made CUR. -/
  | settingsSave (ok : Bool)
  /-- COMMIT (R503): A write of GLB_COMMIT with DISCARD 0 checks the shadows of the named groups and puts them into effect in one cycle. -/
  | commit (r : Req) (mask : BitVec 16)
  /-- DISCARD (R504): A write of GLB_COMMIT with DISCARD 1 copies the values in effect back into the named shadows. -/
  | discard (r : Req) (mask : BitVec 16)
  /-- REGISTER_WRITE (R493): A write to a register that has no row of its own is checked in order and stored, shadowed or rejected. -/
  | registerWrite (r : Req) (a : BitVec 32) (size : Fin 4) (v : BitVec 64) (late : Bool)
  /-- FEC_CODEWORD_RECEIVED (R185): A lane receiver takes in one RS(544,514) codeword: it corrects or discards its blocks, deletes lane blocks, checks markers and counts into LNK_L_CW, CW_CORR, SYM_CORR, CW_UNC and DISCARD. -/
  | fecCodewordReceived (l : Fin 64) (symbols : List (BitVec 10)) (offs : Fin 5) (late : BitVec 32)
  /-- RECEIVE_EMPTY_SLOT (R189): The receive elastic buffer of a lane runs empty, and the receiver inserts an empty slot toward the packet layer and counts it in LNK_L_WAD_INS. -/
  | receiveEmptySlot (l : Fin 64)
  /-- TEST_ACCESS_PORT_OPERATION (R531): A TCK/TMS/TRST_N sequence on the IEEE 1149.1 port loads an instruction or shifts a data register, with IDCODE, BYPASS, EXTEST, HIGHZ, CLAMP and the lifecycle- and unlock-gated 1500 and 1838 codes. -/
  | testAccessPortOperation (trstN : Bool) (steps : List (Bool × Bool))
deriving DecidableEq, Repr

end Sys2Proof
end

