-- ==== Sys2Proof/Decode.lean ====
section
/-! DEFINITION. Sys2Proof/Decode.lean: the commands that a word spells. spec/opcode_table.json gives no row any bits, so no word
spells a command: every word is turned away. The words the manual does define, those of a vector program, are decoded where
a VXU executes them (Machine/VxuProg.lean). -/
namespace Sys2Proof

/-- The command spelled by an instruction word of `nbits` bits: none, since the table gives no row bits. -/
def decodeTableWord (_nbits _w : Nat) : Option Instr := none

end Sys2Proof
end

