-- ==== Sys2Proof/Config.lean ====
section
/-! DEFINITION. Sys2Proof/Config.lean: the values the manual leaves open. Each is a constant without a body, so that
nothing can be proved of its value; the first argument of a drawn value is the draw's number (`State.fresh`), so that two
draws are independent (notes/assumptions/3.md). -/
namespace Sys2Proof.Config

/-- A byte of stack memory that nothing has written, as a read finds it (R537): the draw and the byte's key. -/
opaque freeByte : Nat → Nat → Byte

/-- Whether a read of a codeword that nothing has written finds it readable (R537): the draw and the codeword's key. -/
opaque unwrittenReadable : Nat → Nat → Bool

/-- The macro an SRAM bank of R303 belongs to; the manual gives each macro a spare bank and not its banks (R311). -/
opaque sramMacro : Nat → Nat

/-- The label that a sample of served bytes latches where the traffic has none, by draw. -/
opaque freeLabel : Nat → Byte

/-- The signature the MGC derives from the ROM seed of a leg on a block (R303), which the spec does not give. -/
opaque legSignature : BitVec 32 → BitVec 32

/-- A value the manual does not state, drawn afresh. -/
opaque freeNat : Nat → Nat

/-- A list of values the manual does not state, drawn afresh. -/
opaque freeList : Nat → List Nat

/-- The I3C manufacturer ID of Wenquedel, which the manual does not give (R488). -/
opaque manufacturerId : BitVec 15

/-- The level of a boundary-scan control cell that enables its output, which the manual does not give (R532). -/
opaque controlEnables : Bool

/-- A byte of SEC's random bit generator: the draw and the byte's place. -/
opaque randomByte : Nat → Nat → Byte

/-! What the firmware of a set contains and the manual leaves to it (R456, R461, R464, R466). -/

/-- The SHA-512 of the vendor's public key, as SEC ROM holds it. -/
opaque vendorKeyHash : BitVec 512

/-- The compatibility list that an MGC firmware component carries. -/
opaque compatList : List Byte → List (BitVec 512)

/-- The settings format that the set of a manifest hash writes. -/
opaque settingsFormat : BitVec 512 → Nat

/-- What the body of a settings generation holds beside the traverse pointers, by the draw of the save: the fitted constants of the kiln
model and the starting equalisation of the lanes. -/
opaque settingsRest : Nat → List Byte

/-- Whether the set of a manifest hash reads a settings format of another set. -/
opaque readsFormat : BitVec 512 → Nat → Bool

end Sys2Proof.Config
end

