-- ==== Sys2Proof/Machine/Reg.lean ====
section
/-! DEFINITION. Sys2Proof/Machine/Reg.lean: the register addresses of the manual, under the manual's names, and the
bit positions of their fields. Each `Reg.<NAME>` is the address of the register's low word (R507 and the register table
of the owning chapter); an argument numbers the unit, lane, chain, channel, slot or array element. Each `Fld.<NAME>_<FIELD>`
is a field's bit range. A 64-bit register's high word lies four above its low word. -/
namespace Sys2Proof

/-- A bit range [hi:lo] of a register, both ends included (R2). -/
structure Fld where
  hi : Nat
  lo : Nat
deriving DecidableEq, Repr

/-- VXU_CMD: command; reads zero (RW, 32 bits, n below 16; R72). -/
def Reg.VXU_CMD (n : Nat) : Nat := 0x400000 + n * 0x1000
def Fld.VXU_CMD_CMD : Fld := ⟨3, 0⟩
/-- VXU_STATUS: state, reason, last status (RO, 32 bits, n below 16; R72). -/
def Reg.VXU_STATUS (n : Nat) : Nat := 0x400004 + n * 0x1000
def Fld.VXU_STATUS_LSTAT : Fld := ⟨23, 16⟩
def Fld.VXU_STATUS_REASON : Fld := ⟨11, 8⟩
def Fld.VXU_STATUS_PPEND : Fld := ⟨3, 3⟩
def Fld.VXU_STATUS_STATE : Fld := ⟨2, 0⟩
/-- VXU_PROG_OFF: byte offset of the program in the bound VEC partition (RW, 64 bits, n below 16; R72). -/
def Reg.VXU_PROG_OFF (n : Nat) : Nat := 0x400008 + n * 0x1000
/-- VXU_START_AT: start mark as GTIME; 0 = start when ready (RW, 64 bits, n below 16; R72). -/
def Reg.VXU_START_AT (n : Nat) : Nat := 0x400010 + n * 0x1000
/-- VXU_POLICY: underrun policy (RW, 32 bits, n below 16; R72). -/
def Reg.VXU_POLICY (n : Nat) : Nat := 0x400018 + n * 0x1000
def Fld.VXU_POLICY_POLICY : Fld := ⟨1, 0⟩
/-- VXU_BIND: binding (RWS, 32 bits, n below 16; R72). -/
def Reg.VXU_BIND (n : Nat) : Nat := 0x400020 + n * 0x1000
def Fld.VXU_BIND_EN : Fld := ⟨31, 31⟩
def Fld.VXU_BIND_PART : Fld := ⟨27, 24⟩
def Fld.VXU_BIND_CHAIN : Fld := ⟨19, 16⟩
def Fld.VXU_BIND_LABEL : Fld := ⟨15, 8⟩
/-- VXU_RATE: pacer increment INC (RO, 32 bits, n below 16; R72). -/
def Reg.VXU_RATE (n : Nat) : Nat := 0x400024 + n * 0x1000
/-- VXU_RES_SIZE: reservoir size in 64-byte units (RO, 32 bits, n below 16; R72). -/
def Reg.VXU_RES_SIZE (n : Nat) : Nat := 0x400028 + n * 0x1000
/-- VXU_RES_START: start level in 64-byte units (RO, 32 bits, n below 16; R72). -/
def Reg.VXU_RES_START (n : Nat) : Nat := 0x40002c + n * 0x1000
/-- VXU_RES_LEVEL: current fill in 64-byte units (RO, 32 bits, n below 16; R72). -/
def Reg.VXU_RES_LEVEL (n : Nat) : Nat := 0x400030 + n * 0x1000
/-- VXU_VCYC: VCYC of the next data vector (RO, 32 bits, n below 16; R72). -/
def Reg.VXU_VCYC (n : Nat) : Nat := 0x400034 + n * 0x1000
/-- VXU_FRAMES: DATA frames sent since START (RO, 64 bits, n below 16; R72). -/
def Reg.VXU_FRAMES (n : Nat) : Nat := 0x400038 + n * 0x1000
/-- VXU_STALLS: STALL frames sent since START (RO, 64 bits, n below 16; R72). -/
def Reg.VXU_STALLS (n : Nat) : Nat := 0x400040 + n * 0x1000
/-- VXU_TXWAIT: CCLK cycles of transmit wait since START (RO, 64 bits, n below 16; R72). -/
def Reg.VXU_TXWAIT (n : Nat) : Nat := 0x400048 + n * 0x1000
/-- VXU_PROG_POS: byte offset, from the program start, of the next main-section word to decode (RO, 64 bits, n below 16; R72). -/
def Reg.VXU_PROG_POS (n : Nat) : Nat := 0x400050 + n * 0x1000
/-- VXU_T_START: GTIME of the first DATA frame (RO, 64 bits, n below 16; R72). -/
def Reg.VXU_T_START (n : Nat) : Nat := 0x400058 + n * 0x1000
/-- VXU_T_END: GTIME of the END frame, or of the stop (RO, 64 bits, n below 16; R72). -/
def Reg.VXU_T_END (n : Nat) : Nat := 0x400060 + n * 0x1000
/-- VXU_EVENTS: event bits (W1C, 32 bits, n below 16; R72). -/
def Reg.VXU_EVENTS (n : Nat) : Nat := 0x400068 + n * 0x1000
def Fld.VXU_EVENTS_CHAIN_DOWN : Fld := ⟨5, 5⟩
def Fld.VXU_EVENTS_INTEGRITY : Fld := ⟨4, 4⟩
def Fld.VXU_EVENTS_BOUND : Fld := ⟨3, 3⟩
def Fld.VXU_EVENTS_PROG_ERR : Fld := ⟨2, 2⟩
def Fld.VXU_EVENTS_UNDERRUN : Fld := ⟨1, 1⟩
def Fld.VXU_EVENTS_START_MISS : Fld := ⟨0, 0⟩
/-- VXU_ERR_INFO: fault detail (RO, 32 bits, n below 16; R72). -/
def Reg.VXU_ERR_INFO (n : Nat) : Nat := 0x40006c + n * 0x1000
def Fld.VXU_ERR_INFO_SECT : Fld := ⟨31, 29⟩
def Fld.VXU_ERR_INFO_WORD : Fld := ⟨28, 0⟩
/-- CAD_STATUS: status bits (RO, 32 bits; R115). -/
def Reg.CAD_STATUS : Nat := 0x500000
def Fld.CAD_STATUS_PIN_SPILL : Fld := ⟨3, 3⟩
def Fld.CAD_STATUS_HEAP_LOW : Fld := ⟨2, 2⟩
def Fld.CAD_STATUS_EXC_FULL : Fld := ⟨1, 1⟩
def Fld.CAD_STATUS_PAUSED : Fld := ⟨0, 0⟩
/-- CAD_EVENTS: event bits (W1C, 32 bits; R115). -/
def Reg.CAD_EVENTS : Nat := 0x500004
def Fld.CAD_EVENTS_DOMAIN_DAMAGED : Fld := ⟨7, 7⟩
def Fld.CAD_EVENTS_FENCE_TIMEOUT : Fld := ⟨6, 6⟩
def Fld.CAD_EVENTS_CAP_FULL : Fld := ⟨5, 5⟩
def Fld.CAD_EVENTS_HEAP_FULL : Fld := ⟨4, 4⟩
def Fld.CAD_EVENTS_EXC_FULL : Fld := ⟨3, 3⟩
def Fld.CAD_EVENTS_SOURCE_LOST : Fld := ⟨2, 2⟩
def Fld.CAD_EVENTS_LATE : Fld := ⟨1, 1⟩
def Fld.CAD_EVENTS_GAP : Fld := ⟨0, 0⟩
/-- CAD_FOLDED: records folded since reset (RO, 64 bits; R115). -/
def Reg.CAD_FOLDED : Nat := 0x500008
/-- CAD_EXC_TOTAL: exceptions since reset (RO, 64 bits; R115). -/
def Reg.CAD_EXC_TOTAL : Nat := 0x500010
/-- CAD_OPEN: domains OPEN or CLOSING (RO, 32 bits; R115). -/
def Reg.CAD_OPEN : Nat := 0x500018
/-- CAD_TRACKED: domains not FREE (RO, 32 bits; R115). -/
def Reg.CAD_TRACKED : Nat := 0x50001c
/-- CAD_HEAP_FREE: free heap in bytes (RO, 64 bits; R115). -/
def Reg.CAD_HEAP_FREE : Nat := 0x500020
/-- CAD_QFILL: records in the ingest queue (RO, 32 bits; R115). -/
def Reg.CAD_QFILL : Nat := 0x500028
/-- CAD_PIN_MISS: spill-area reads, saturating (RO, 32 bits; R115). -/
def Reg.CAD_PIN_MISS : Nat := 0x50002c
/-- CAD_DEFBUD: default budgets (RWS, 32 bits; R115). -/
def Reg.CAD_DEFBUD : Nat := 0x500030
def Fld.CAD_DEFBUD_NBUD : Fld := ⟨31, 16⟩
def Fld.CAD_DEFBUD_TBUD : Fld := ⟨15, 0⟩
/-- CAD_DCMD: domain command; reads zero (RW, 32 bits; R115). -/
def Reg.CAD_DCMD : Nat := 0x500040
def Fld.CAD_DCMD_MODE : Fld := ⟨7, 4⟩
def Fld.CAD_DCMD_CMD : Fld := ⟨3, 0⟩
/-- CAD_DSTAT: command progress (RO, 32 bits; R115). -/
def Reg.CAD_DSTAT : Nat := 0x500044
def Fld.CAD_DSTAT_BUSY : Fld := ⟨31, 31⟩
def Fld.CAD_DSTAT_STOPPED : Fld := ⟨30, 30⟩
def Fld.CAD_DSTAT_DONE : Fld := ⟨24, 0⟩
/-- CAD_DFIRST: [23:0] first domain id (RW, 32 bits; R115). -/
def Reg.CAD_DFIRST : Nat := 0x500048
/-- CAD_DCOUNT: [24:0] domain count, 1 to 2^24 (RW, 32 bits; R115). -/
def Reg.CAD_DCOUNT : Nat := 0x50004c
/-- CAD_DSITE: first site and plat (RW, 32 bits; R115). -/
def Reg.CAD_DSITE : Nat := 0x500050
def Fld.CAD_DSITE_SITE : Fld := ⟨25, 16⟩
def Fld.CAD_DSITE_PLAT : Fld := ⟨5, 0⟩
/-- CAD_DSPARE: spares and pool (RW, 32 bits; R115). -/
def Reg.CAD_DSPARE : Nat := 0x500054
def Fld.CAD_DSPARE_POOL : Fld := ⟨31, 16⟩
def Fld.CAD_DSPARE_CS : Fld := ⟨14, 8⟩
def Fld.CAD_DSPARE_RS : Fld := ⟨6, 0⟩
/-- CAD_DBUDGET: budgets (RW, 32 bits; R115). -/
def Reg.CAD_DBUDGET : Nat := 0x500058
def Fld.CAD_DBUDGET_NBUD : Fld := ⟨31, 16⟩
def Fld.CAD_DBUDGET_TBUD : Fld := ⟨15, 0⟩
/-- CAD_FENCE_TMO: [15:0] fence timeout in µs; 0 = 100 µs (RW, 32 bits; R115). -/
def Reg.CAD_FENCE_TMO : Nat := 0x50005c
/-- CAD_FENCE_ID: fence id (RW, 32 bits; R115). -/
def Reg.CAD_FENCE_ID : Nat := 0x500060
/-- CAD_FENCE_SRC: source mask; bit b of register i selects source 32i + b (RW, 32 bits, i below 8; R115). -/
def Reg.CAD_FENCE_SRC (i : Nat) : Nat := 0x500080 + i * 4
/-- CAD_FENCE_MISS: sources missing at the last fence timeout (RO, 32 bits, i below 8; R115). -/
def Reg.CAD_FENCE_MISS (i : Nat) : Nat := 0x5000a0 + i * 4
/-- CAD_RCMD: [3:0] FORM; reads zero (RW, 32 bits; R115). -/
def Reg.CAD_RCMD : Nat := 0x5000c0
def Fld.CAD_RCMD_FORM : Fld := ⟨3, 0⟩
/-- CAD_RSTAT: [31] BUSY; [23:16] status of the last readout (RO, 32 bits; R115). -/
def Reg.CAD_RSTAT : Nat := 0x5000c4
def Fld.CAD_RSTAT_BUSY : Fld := ⟨31, 31⟩
def Fld.CAD_RSTAT_STATUS : Fld := ⟨23, 16⟩
/-- CAD_RDOM: [23:0] domain id (RW, 32 bits; R115). -/
def Reg.CAD_RDOM : Nat := 0x5000c8
/-- CAD_RMAX: output limit in bytes (RW, 32 bits; R115). -/
def Reg.CAD_RMAX : Nat := 0x5000cc
/-- CAD_RDEST: [63:60] BUF partition; [59:0] byte offset, a multiple of 64 (RW, 64 bits; R115). -/
def Reg.CAD_RDEST : Nat := 0x5000d0
def Fld.CAD_RDEST_PART : Fld := ⟨63, 60⟩
def Fld.CAD_RDEST_OFFSET : Fld := ⟨59, 0⟩
/-- CAD_RLABEL: [7:0] label for readout traffic (RW, 32 bits; R115). -/
def Reg.CAD_RLABEL : Nat := 0x5000d8
def Fld.CAD_RLABEL_LABEL : Fld := ⟨7, 0⟩
/-- CAD_EXC_WPTR: [21:0] next entry written (RO, 32 bits; R115). -/
def Reg.CAD_EXC_WPTR : Nat := 0x500100
/-- CAD_EXC_RPTR: [21:0] next entry to read (RW, 32 bits; R115). -/
def Reg.CAD_EXC_RPTR : Nat := 0x500104
/-- CAD_EXC_LOST: exceptions not logged, saturating (RO, 32 bits; R115). -/
def Reg.CAD_EXC_LOST : Nat := 0x500108
/-- CAD_EXC_CNT: exceptions per reason code, saturating (RO, 32 bits, i below 16; R115). -/
def Reg.CAD_EXC_CNT (i : Nat) : Nat := 0x500140 + i * 4
/-- CAD_SRC_CFG: source configuration (RWS, 32 bits, n below 256; R115). -/
def Reg.CAD_SRC_CFG (n : Nat) : Nat := 0x501000 + n * 0x20
def Fld.CAD_SRC_CFG_EN : Fld := ⟨31, 31⟩
def Fld.CAD_SRC_CFG_LOG_RING : Fld := ⟨30, 30⟩
def Fld.CAD_SRC_CFG_GAP_TMO : Fld := ⟨29, 20⟩
def Fld.CAD_SRC_CFG_CHAIN : Fld := ⟨19, 16⟩
def Fld.CAD_SRC_CFG_LABEL : Fld := ⟨15, 8⟩
def Fld.CAD_SRC_CFG_CAPPART : Fld := ⟨7, 4⟩
def Fld.CAD_SRC_CFG_MODE : Fld := ⟨1, 0⟩
/-- CAD_SRC_NX: NX (RO, 32 bits, n below 256; R115). -/
def Reg.CAD_SRC_NX (n : Nat) : Nat := 0x501004 + n * 0x20
/-- CAD_SRC_HELD: [10:0] records held (RO, 32 bits, n below 256; R115). -/
def Reg.CAD_SRC_HELD (n : Nat) : Nat := 0x501008 + n * 0x20
/-- CAD_SRC_MARK: VCYC of the last released MARKER (RO, 32 bits, n below 256; R115). -/
def Reg.CAD_SRC_MARK (n : Nat) : Nat := 0x50100c + n * 0x20
/-- CAD_SRC_GAPS: gaps declared, saturating (RO, 32 bits, n below 256; R115). -/
def Reg.CAD_SRC_GAPS (n : Nat) : Nat := 0x501010 + n * 0x20
/-- CAD_SRC_LATE: late records folded, saturating (RO, 32 bits, n below 256; R115). -/
def Reg.CAD_SRC_LATE (n : Nat) : Nat := 0x501014 + n * 0x20
/-- CAD_SRC_CMD: [0] RESYNC; reads zero (RW, 32 bits, n below 256; R115). -/
def Reg.CAD_SRC_CMD (n : Nat) : Nat := 0x501018 + n * 0x20
/-- CAD_SRC_STAT: [31] NX valid; [30] gap timer running; [29] chain down (RO, 32 bits, n below 256; R115). -/
def Reg.CAD_SRC_STAT (n : Nat) : Nat := 0x50101c + n * 0x20
def Fld.CAD_SRC_STAT_NXVALID : Fld := ⟨31, 31⟩
def Fld.CAD_SRC_STAT_GAPTIMER : Fld := ⟨30, 30⟩
def Fld.CAD_SRC_STAT_DOWN : Fld := ⟨29, 29⟩
/-- CAD_CAP_WPTR: byte offset of the next log block (RO, 64 bits, n below 16; R115). -/
def Reg.CAD_CAP_WPTR (n : Nat) : Nat := 0x503000 + n * 0x10
/-- CAD_CAP_WRAPS: ring wraps (RO, 32 bits, n below 16; R115). -/
def Reg.CAD_CAP_WRAPS (n : Nat) : Nat := 0x503008 + n * 0x10
/-- CAD_CAP_DROP: records not logged, saturating (RO, 32 bits, n below 16; R115). -/
def Reg.CAD_CAP_DROP (n : Nat) : Nat := 0x50300c + n * 0x10
/-- CAD_PLAT: plat descriptor (R95) (RWS, 32 bits, n below 64, i below 64; R115). -/
def Reg.CAD_PLAT (n i : Nat) : Nat := 0x504000 + n * 0x100 + i * 4
/-- RAE_STATUS: pool status (RO, 32 bits; R148). -/
def Reg.RAE_STATUS : Nat := 0x600000
def Fld.RAE_STATUS_STALLED : Fld := ⟨31, 31⟩
def Fld.RAE_STATUS_IN_POOL : Fld := ⟨30, 24⟩
def Fld.RAE_STATUS_BUSY : Fld := ⟨22, 16⟩
/-- RAE_EVENTS: event bits (W1C, 32 bits; R148). -/
def Reg.RAE_EVENTS : Nat := 0x600004
def Fld.RAE_EVENTS_ENGINE_FAIL : Fld := ⟨5, 5⟩
def Fld.RAE_EVENTS_RING_FULL : Fld := ⟨4, 4⟩
def Fld.RAE_EVENTS_RING_DROP : Fld := ⟨3, 3⟩
def Fld.RAE_EVENTS_POOL_EXHAUSTED : Fld := ⟨2, 2⟩
def Fld.RAE_EVENTS_UNDECIDED : Fld := ⟨1, 1⟩
def Fld.RAE_EVENTS_REDISPATCH : Fld := ⟨0, 0⟩
/-- RAE_QDEPTH: [24:0] domains in the dispatch queue (RO, 32 bits; R148). -/
def Reg.RAE_QDEPTH : Nat := 0x600008
/-- RAE_POOL_MAP: bit e: RAEe in the pool (RO, 64 bits; R148). -/
def Reg.RAE_POOL_MAP : Nat := 0x600010
/-- RAE_BUSY_MAP: bit e: RAEe analysing (RO, 64 bits; R148). -/
def Reg.RAE_BUSY_MAP : Nat := 0x600018
/-- RAE_LEG_MAP: bit e: RAEe out for a leg (RO, 64 bits; R148). -/
def Reg.RAE_LEG_MAP : Nat := 0x600020
/-- RAE_FAIL_MAP: bit e: RAEe failed (RO, 64 bits; R148). -/
def Reg.RAE_FAIL_MAP : Nat := 0x600028
/-- RAE_CNT_SOLVED: SOLVED results since reset (RO, 64 bits; R148). -/
def Reg.RAE_CNT_SOLVED : Nat := 0x600030
/-- RAE_CNT_UNREP: UNREPAIRABLE results (RO, 64 bits; R148). -/
def Reg.RAE_CNT_UNREP : Nat := 0x600038
/-- RAE_CNT_UNDEC: UNDECIDED results (RO, 64 bits; R148). -/
def Reg.RAE_CNT_UNDEC : Nat := 0x600040
/-- RAE_CNT_OVF: OVERFLOW results (RO, 64 bits; R148). -/
def Reg.RAE_CNT_OVF : Nat := 0x600048
/-- RAE_REDISPATCH: re-dispatches (R126), saturating (RO, 32 bits; R148). -/
def Reg.RAE_REDISPATCH : Nat := 0x600050
/-- RAE_LAT_MAX: largest t0-to-complete in CCLK cycles since reset or CLEAR_LAT, saturating (RO, 32 bits; R148). -/
def Reg.RAE_LAT_MAX : Nat := 0x600054
/-- RAE_CMD: command; reads zero (RW, 32 bits; R148). -/
def Reg.RAE_CMD : Nat := 0x600058
def Fld.RAE_CMD_CMD : Fld := ⟨3, 0⟩
/-- RAE_ARG: [23:0] domain id (RW, 32 bits; R148). -/
def Reg.RAE_ARG : Nat := 0x60005c
def Fld.RAE_ARG_DOMAIN : Fld := ⟨23, 0⟩
/-- RAE_ABUD: [31:16] NBUD, [15:0] TBUD for REANALYSE; 0 = default (RW, 32 bits; R148). -/
def Reg.RAE_ABUD : Nat := 0x600060
def Fld.RAE_ABUD_NBUD : Fld := ⟨31, 16⟩
def Fld.RAE_ABUD_TBUD : Fld := ⟨15, 0⟩
/-- RAE_RING_CFG: ring configuration (RW, 32 bits; R148). -/
def Reg.RAE_RING_CFG : Nat := 0x600070
def Fld.RAE_RING_CFG_EN : Fld := ⟨31, 31⟩
def Fld.RAE_RING_CFG_ALERT_EN : Fld := ⟨30, 30⟩
def Fld.RAE_RING_CFG_PART : Fld := ⟨27, 24⟩
def Fld.RAE_RING_CFG_LABEL : Fld := ⟨23, 16⟩
def Fld.RAE_RING_CFG_HOLDOFF : Fld := ⟨15, 0⟩
/-- RAE_RING_BASE: byte offset, a multiple of 1 KiB (RW, 64 bits; R148). -/
def Reg.RAE_RING_BASE : Nat := 0x600078
/-- RAE_RING_SLOTS: [24:0] slots, 2 to 2^24 (RW, 32 bits; R148). -/
def Reg.RAE_RING_SLOTS : Nat := 0x600080
/-- RAE_RING_WPTR: [23:0] next slot written (RO, 32 bits; R148). -/
def Reg.RAE_RING_WPTR : Nat := 0x600084
/-- RAE_RING_RPTR: [23:0] next slot to read (RW, 32 bits; R148). -/
def Reg.RAE_RING_RPTR : Nat := 0x600088
/-- RAE_RING_DEFER: results in the copy queue (RO, 32 bits; R148). -/
def Reg.RAE_RING_DEFER : Nat := 0x60008c
/-- RAE_RING_DROP: copies removed by RELEASE, saturating (RO, 32 bits; R148). -/
def Reg.RAE_RING_DROP : Nat := 0x600090
/-- RAE_E_STAT: engine state (RO, 32 bits, n below 64; R148). -/
def Reg.RAE_E_STAT (n : Nat) : Nat := 0x601000 + n * 0x20
def Fld.RAE_E_STAT_STATE : Fld := ⟨31, 29⟩
def Fld.RAE_E_STAT_DOMAIN : Fld := ⟨23, 0⟩
/-- RAE_E_NODES: nodes of the current or last analysis (RO, 32 bits, n below 64; R148). -/
def Reg.RAE_E_NODES (n : Nat) : Nat := 0x601004 + n * 0x20
/-- RAE_E_DONE: analyses concluded since reset (RO, 64 bits, n below 64; R148). -/
def Reg.RAE_E_DONE (n : Nat) : Nat := 0x601008 + n * 0x20
/-- RAE_E_ELAPSED: CCLK cycles from take-up of the current or last analysis (RO, 32 bits, n below 64; R148). -/
def Reg.RAE_E_ELAPSED (n : Nat) : Nat := 0x601010 + n * 0x20
/-- QOS_STATUS: counts and waiting state (RO, 32 bits; R181). -/
def Reg.QOS_STATUS : Nat := 0xa0000
def Fld.QOS_STATUS_WAIT : Fld := ⟨31, 31⟩
def Fld.QOS_STATUS_INFORCE_N : Fld := ⟨20, 16⟩
def Fld.QOS_STATUS_SHED_N : Fld := ⟨4, 0⟩
/-- QOS_EVENTS: event bits (W1C, 32 bits; R181). -/
def Reg.QOS_EVENTS : Nat := 0xa0004
def Fld.QOS_EVENTS_MISS : Fld := ⟨3, 3⟩
def Fld.QOS_EVENTS_REINSTATE : Fld := ⟨2, 2⟩
def Fld.QOS_EVENTS_SHED : Fld := ⟨1, 1⟩
def Fld.QOS_EVENTS_OVERCOMMIT : Fld := ⟨0, 0⟩
/-- QOS_INFORCE: bit n: SCn guaranteed and in force (RO, 32 bits; R181). -/
def Reg.QOS_INFORCE : Nat := 0xa0008
/-- QOS_SHED: bit n: SCn shed (RO, 32 bits; R181). -/
def Reg.QOS_SHED : Nat := 0xa000c
/-- QOS_STABLE: µs since the last capacity change, saturating (RO, 32 bits; R181). -/
def Reg.QOS_STABLE : Nat := 0xa0010
/-- QOS_MAINT_SHARE: maintenance shares in effect (RO, 32 bits; R181). -/
def Reg.QOS_MAINT_SHARE : Nat := 0xa0014
def Fld.QOS_MAINT_SHARE_REF : Fld := ⟨31, 24⟩
def Fld.QOS_MAINT_SHARE_SCR : Fld := ⟨23, 16⟩
def Fld.QOS_MAINT_SHARE_TRV : Fld := ⟨15, 8⟩
def Fld.QOS_MAINT_SHARE_CAL : Fld := ⟨7, 0⟩
/-- QOS_FOLD_FREE: fold pipe capacity not reserved, 10^6 B/s (RO, 32 bits; R181). -/
def Reg.QOS_FOLD_FREE : Nat := 0xa0018
/-- QOS_TAG_RSV: [16:0] tags reserved (RO, 32 bits; R181). -/
def Reg.QOS_TAG_RSV : Nat := 0xa001c
/-- QOS_ADM_LAST: result of the last admission evaluation (RO, 32 bits; R181). -/
def Reg.QOS_ADM_LAST : Nat := 0xa0020
def Fld.QOS_ADM_LAST_STATUS : Fld := ⟨23, 16⟩
def Fld.QOS_ADM_LAST_KIND : Fld := ⟨15, 8⟩
def Fld.QOS_ADM_LAST_INDEX : Fld := ⟨7, 0⟩
/-- QOS_IQ_SIZE: ingest queue, units of 4 KiB (RWS, 32 bits; R181). -/
def Reg.QOS_IQ_SIZE : Nat := 0xa0040
/-- QOS_SRES_SIZE: stream reservoirs, units of 4 KiB (RWS, 32 bits, i below 16; R181). -/
def Reg.QOS_SRES_SIZE (i : Nat) : Nat := 0xa0080 + i * 4
/-- QOS_SRES_START: start levels, units of 64 bytes (RWS, 32 bits, i below 16; R181). -/
def Reg.QOS_SRES_START (i : Nat) : Nat := 0xa00c0 + i * 4
/-- QOS_CRES_SIZE: capture reservoirs, units of 4 KiB (RWS, 32 bits, i below 32; R181). -/
def Reg.QOS_CRES_SIZE (i : Nat) : Nat := 0xa0100 + i * 4
/-- QOS_LABEL: label table, 4 labels per register (RWS, 32 bits, i below 64; R181). -/
def Reg.QOS_LABEL (i : Nat) : Nat := 0xa0200 + i * 4
def Fld.QOS_LABEL_CLS3 : Fld := ⟨28, 24⟩
def Fld.QOS_LABEL_CLS2 : Fld := ⟨20, 16⟩
def Fld.QOS_LABEL_CLS1 : Fld := ⟨12, 8⟩
def Fld.QOS_LABEL_CLS0 : Fld := ⟨4, 0⟩
/-- QOS_CH_FREE: U(c) less in-force demand at present capacity, 10^6 B/s (RO, 32 bits, i below 32; R181). -/
def Reg.QOS_CH_FREE (i : Nat) : Nat := 0xa0300 + i * 4
/-- QOS_TX_FREE: transmit capacity of Ck not reserved, 10^6 B/s (RO, 32 bits, i below 16; R181). -/
def Reg.QOS_TX_FREE (i : Nat) : Nat := 0xa0380 + i * 4
/-- QOS_RX_FREE: receive capacity of Ck not reserved, 10^6 B/s (RO, 32 bits, i below 16; R181). -/
def Reg.QOS_RX_FREE (i : Nat) : Nat := 0xa03c0 + i * 4
/-- QOS_C_CFG: CLASS value, word i = bytes 4i to 4i + 3; RO for SC0 (RWS, 32 bits, n below 32, i below 6; R181). -/
def Reg.QOS_C_CFG (n i : Nat) : Nat := 0xa1000 + n * 0x40 + i * 4
/-- QOS_C_STAT: class state (RO, 32 bits, n below 32; R181). -/
def Reg.QOS_C_STAT (n : Nat) : Nat := 0xa1018 + n * 0x40
def Fld.QOS_C_STAT_TYPE : Fld := ⟨31, 29⟩
def Fld.QOS_C_STAT_SHED : Fld := ⟨28, 28⟩
def Fld.QOS_C_STAT_INFORCE : Fld := ⟨27, 27⟩
def Fld.QOS_C_STAT_RANK : Fld := ⟨23, 16⟩
def Fld.QOS_C_STAT_USERS : Fld := ⟨15, 0⟩
/-- QOS_C_MISS: guarantee misses, saturating (RO, 32 bits, n below 32; R181). -/
def Reg.QOS_C_MISS (n : Nat) : Nat := 0xa101c + n * 0x40
/-- QOS_C_SHEDS: times shed, saturating (RO, 32 bits, n below 32; R181). -/
def Reg.QOS_C_SHEDS (n : Nat) : Nat := 0xa1020 + n * 0x40
/-- QOS_C_HOLD: µs of withheld credit, saturating (RO, 32 bits, n below 32; R181). -/
def Reg.QOS_C_HOLD (n : Nat) : Nat := 0xa1024 + n * 0x40
/-- QOS_C_LATMAX: LAT: largest age at service, 10 ns units (RO, 32 bits, n below 32; R181). -/
def Reg.QOS_C_LATMAX (n : Nat) : Nat := 0xa1028 + n * 0x40
/-- QOS_C_LATOVER: LAT: requests served after TARGET, saturating (RO, 32 bits, n below 32; R181). -/
def Reg.QOS_C_LATOVER (n : Nat) : Nat := 0xa102c + n * 0x40
/-- QOS_C_BYTES: bytes served since reset (RO, 64 bits, n below 32; R181). -/
def Reg.QOS_C_BYTES (n : Nat) : Nat := 0xa1030 + n * 0x40
/-- LNK_L_STATUS: lane state (RO, 32 bits, n below 64; R211). -/
def Reg.LNK_L_STATUS (n : Nat) : Nat := 0x100000 + n * 0x400
def Fld.LNK_L_STATUS_STATE : Fld := ⟨31, 28⟩
def Fld.LNK_L_STATUS_CHAIN : Fld := ⟨27, 24⟩
def Fld.LNK_L_STATUS_INCHAIN : Fld := ⟨23, 23⟩
def Fld.LNK_L_STATUS_READY : Fld := ⟨22, 22⟩
def Fld.LNK_L_STATUS_CW_LOCK : Fld := ⟨21, 21⟩
def Fld.LNK_L_STATUS_BLK_LOCK : Fld := ⟨20, 20⟩
def Fld.LNK_L_STATUS_SKEW : Fld := ⟨14, 8⟩
def Fld.LNK_L_STATUS_FAILSTREAK : Fld := ⟨7, 0⟩
/-- LNK_L_EVENTS: event bits (W1C, 32 bits, n below 64; R211). -/
def Reg.LNK_L_EVENTS (n : Nat) : Nat := 0x100004 + n * 0x400
def Fld.LNK_L_EVENTS_NO_SIGNAL : Fld := ⟨7, 7⟩
def Fld.LNK_L_EVENTS_TRAIN_TMO : Fld := ⟨6, 6⟩
def Fld.LNK_L_EVENTS_LOCK_TMO : Fld := ⟨5, 5⟩
def Fld.LNK_L_EVENTS_CAPX_MISMATCH : Fld := ⟨4, 4⟩
def Fld.LNK_L_EVENTS_LOS : Fld := ⟨3, 3⟩
def Fld.LNK_L_EVENTS_UNC_BURST : Fld := ⟨2, 2⟩
def Fld.LNK_L_EVENTS_MARGINAL : Fld := ⟨1, 1⟩
def Fld.LNK_L_EVENTS_DROPPED : Fld := ⟨0, 0⟩
/-- LNK_L_CMD: [3:0] 0x1 RETRAIN; reads zero (RW, 32 bits, n below 64; R211). -/
def Reg.LNK_L_CMD (n : Nat) : Nat := 0x100008 + n * 0x400
def Fld.LNK_L_CMD_CMD : Fld := ⟨3, 0⟩
/-- LNK_L_TXEQ: [23:16] pre, [15:8] main, [7:0] post tap step of the stack's transmitter (RO, 32 bits, n below 64; R211). -/
def Reg.LNK_L_TXEQ (n : Nat) : Nat := 0x10000c + n * 0x400
def Fld.LNK_L_TXEQ_PRE : Fld := ⟨23, 16⟩
def Fld.LNK_L_TXEQ_MAIN : Fld := ⟨15, 8⟩
def Fld.LNK_L_TXEQ_POST : Fld := ⟨7, 0⟩
/-- LNK_L_CW: codewords received (RO, 64 bits, n below 64; R211). -/
def Reg.LNK_L_CW (n : Nat) : Nat := 0x100010 + n * 0x400
/-- LNK_L_CW_CORR: codewords with at least one corrected symbol (RO, 64 bits, n below 64; R211). -/
def Reg.LNK_L_CW_CORR (n : Nat) : Nat := 0x100018 + n * 0x400
/-- LNK_L_SYM_CORR: symbols corrected (RO, 64 bits, n below 64; R211). -/
def Reg.LNK_L_SYM_CORR (n : Nat) : Nat := 0x100020 + n * 0x400
/-- LNK_L_CW_UNC: uncorrectable codewords (RO, 64 bits, n below 64; R211). -/
def Reg.LNK_L_CW_UNC (n : Nat) : Nat := 0x100028 + n * 0x400
/-- LNK_L_DISCARD: blocks discarded under R185, saturating (RO, 32 bits, n below 64; R211). -/
def Reg.LNK_L_DISCARD (n : Nat) : Nat := 0x100030 + n * 0x400
/-- LNK_L_DROPS: drops, saturating (RO, 32 bits, n below 64; R211). -/
def Reg.LNK_L_DROPS (n : Nat) : Nat := 0x100034 + n * 0x400
/-- LNK_L_FAILS: failed bring-ups, saturating (RO, 32 bits, n below 64; R211). -/
def Reg.LNK_L_FAILS (n : Nat) : Nat := 0x100038 + n * 0x400
/-- LNK_L_WAD_INS: empty slots inserted by the receiver, saturating (RO, 32 bits, n below 64; R211). -/
def Reg.LNK_L_WAD_INS (n : Nat) : Nat := 0x10003c + n * 0x400
/-- LNK_L_PRBS_CFG: PRBS control (RW, 32 bits, n below 64; R211). -/
def Reg.LNK_L_PRBS_CFG (n : Nat) : Nat := 0x100040 + n * 0x400
def Fld.LNK_L_PRBS_CFG_TX_EN : Fld := ⟨31, 31⟩
def Fld.LNK_L_PRBS_CFG_RX_EN : Fld := ⟨30, 30⟩
def Fld.LNK_L_PRBS_CFG_PATTERN : Fld := ⟨3, 0⟩
/-- LNK_L_PRBS_BITS: bits checked (RO, 64 bits, n below 64; R211). -/
def Reg.LNK_L_PRBS_BITS (n : Nat) : Nat := 0x100048 + n * 0x400
/-- LNK_L_PRBS_ERR: bit errors (RO, 64 bits, n below 64; R211). -/
def Reg.LNK_L_PRBS_ERR (n : Nat) : Nat := 0x100050 + n * 0x400
/-- LNK_L_INJ: injection; reads zero (RW, 32 bits, n below 64; R211). -/
def Reg.LNK_L_INJ (n : Nat) : Nat := 0x100058 + n * 0x400
def Fld.LNK_L_INJ_KIND : Fld := ⟨27, 24⟩
def Fld.LNK_L_INJ_COUNT : Fld := ⟨7, 0⟩
/-- LNK_C_CFG: configuration (RO, 32 bits, n below 16; R211). -/
def Reg.LNK_C_CFG (n : Nat) : Nat := 0x110000 + n * 0x100
def Fld.LNK_C_CFG_EN : Fld := ⟨31, 31⟩
def Fld.LNK_C_CFG_MINW : Fld := ⟨20, 16⟩
def Fld.LNK_C_CFG_PARTNER : Fld := ⟨15, 0⟩
/-- LNK_C_LANES: configured lanes (RO, 64 bits, n below 16; R211). -/
def Reg.LNK_C_LANES (n : Nat) : Nat := 0x110008 + n * 0x100
/-- LNK_C_ACTIVE: active lanes in the receive direction (RO, 64 bits, n below 16; R211). -/
def Reg.LNK_C_ACTIVE (n : Nat) : Nat := 0x110010 + n * 0x100
/-- LNK_C_STATUS: chain state (RO, 32 bits, n below 16; R211). -/
def Reg.LNK_C_STATUS (n : Nat) : Nat := 0x110018 + n * 0x100
def Fld.LNK_C_STATUS_STATE : Fld := ⟨31, 30⟩
def Fld.LNK_C_STATUS_EPOCH : Fld := ⟨29, 24⟩
def Fld.LNK_C_STATUS_NACT : Fld := ⟨20, 16⟩
def Fld.LNK_C_STATUS_PEER : Fld := ⟨15, 0⟩
/-- LNK_C_EVENTS: event bits (W1C, 32 bits, n below 16; R211). -/
def Reg.LNK_C_EVENTS (n : Nat) : Nat := 0x11001c + n * 0x100
def Fld.LNK_C_EVENTS_PARTNER_MISMATCH : Fld := ⟨4, 4⟩
def Fld.LNK_C_EVENTS_MERGED : Fld := ⟨3, 3⟩
def Fld.LNK_C_EVENTS_REJOIN_LAPSED : Fld := ⟨2, 2⟩
def Fld.LNK_C_EVENTS_UP : Fld := ⟨1, 1⟩
def Fld.LNK_C_EVENTS_DOWN : Fld := ⟨0, 0⟩
/-- LNK_C_DOWNS: times down, saturating (RO, 32 bits, n below 16; R211). -/
def Reg.LNK_C_DOWNS (n : Nat) : Nat := 0x110020 + n * 0x100
/-- LNK_C_EPOCHS: epoch changes, saturating (RO, 32 bits, n below 16; R211). -/
def Reg.LNK_C_EPOCHS (n : Nat) : Nat := 0x110024 + n * 0x100
/-- LNK_C_T_UP: GTIME of the last formation (RO, 64 bits, n below 16; R211). -/
def Reg.LNK_C_T_UP (n : Nat) : Nat := 0x110028 + n * 0x100
/-- LNK_P_STATUS: retry state (RO, 32 bits, n below 16; R248). -/
def Reg.LNK_P_STATUS (n : Nat) : Nat := 0x120000 + n * 0x400
def Fld.LNK_P_STATUS_REPLAYING : Fld := ⟨31, 31⟩
def Fld.LNK_P_STATUS_TXFULL : Fld := ⟨30, 30⟩
def Fld.LNK_P_STATUS_UNACKED : Fld := ⟨28, 16⟩
def Fld.LNK_P_STATUS_RBUF_USED : Fld := ⟨11, 0⟩
/-- LNK_P_EVENTS: event bits (W1C, 32 bits, n below 16; R248). -/
def Reg.LNK_P_EVENTS (n : Nat) : Nat := 0x120004 + n * 0x400
def Fld.LNK_P_EVENTS_ALERT_LOST : Fld := ⟨6, 6⟩
def Fld.LNK_P_EVENTS_RETRY_EXHAUSTED : Fld := ⟨5, 5⟩
def Fld.LNK_P_EVENTS_CREDIT_OVERRUN : Fld := ⟨4, 4⟩
def Fld.LNK_P_EVENTS_FORMAT : Fld := ⟨3, 3⟩
def Fld.LNK_P_EVENTS_ACK_INVALID : Fld := ⟨2, 2⟩
def Fld.LNK_P_EVENTS_NAK_RX : Fld := ⟨1, 1⟩
def Fld.LNK_P_EVENTS_NAK_TX : Fld := ⟨0, 0⟩
/-- LNK_P_TX_PKTS: new packets sent (RO, 64 bits, n below 16; R248). -/
def Reg.LNK_P_TX_PKTS (n : Nat) : Nat := 0x120008 + n * 0x400
/-- LNK_P_RX_PKTS: packets accepted (RO, 64 bits, n below 16; R248). -/
def Reg.LNK_P_RX_PKTS (n : Nat) : Nat := 0x120010 + n * 0x400
/-- LNK_P_REPLAYS: replays, saturating (RO, 32 bits, n below 16; R248). -/
def Reg.LNK_P_REPLAYS (n : Nat) : Nat := 0x120018 + n * 0x400
/-- LNK_P_NAK_TX: NAKs sent, saturating (RO, 32 bits, n below 16; R248). -/
def Reg.LNK_P_NAK_TX (n : Nat) : Nat := 0x12001c + n * 0x400
/-- LNK_P_NAK_RX: NAKs received, saturating (RO, 32 bits, n below 16; R248). -/
def Reg.LNK_P_NAK_RX (n : Nat) : Nat := 0x120020 + n * 0x400
/-- LNK_P_RX_DISCARD: packets discarded for link errors or as duplicates (R221), saturating (RO, 32 bits, n below 16; R248). -/
def Reg.LNK_P_RX_DISCARD (n : Nat) : Nat := 0x120024 + n * 0x400
/-- LNK_P_FORMAT: packets with content errors, saturating (RO, 32 bits, n below 16; R248). -/
def Reg.LNK_P_FORMAT (n : Nat) : Nat := 0x120028 + n * 0x400
/-- LNK_P_CREDIT_OVR: credit overruns, saturating (RO, 32 bits, n below 16; R248). -/
def Reg.LNK_P_CREDIT_OVR (n : Nat) : Nat := 0x12002c + n * 0x400
/-- LNK_P_TX_LSEQ: [31:16] oldest unacknowledged LSEQ; [15:0] next LSEQ to send (RO, 32 bits, n below 16; R248). -/
def Reg.LNK_P_TX_LSEQ (n : Nat) : Nat := 0x120030 + n * 0x400
def Fld.LNK_P_TX_LSEQ_OLDEST : Fld := ⟨31, 16⟩
def Fld.LNK_P_TX_LSEQ_NEXT : Fld := ⟨15, 0⟩
/-- LNK_P_RX_LSEQ: [31:16] zero; [15:0] E (RO, 32 bits, n below 16; R248). -/
def Reg.LNK_P_RX_LSEQ (n : Nat) : Nat := 0x120034 + n * 0x400
/-- LNK_P_CRWAIT: CCLK cycles in which a packet waited for partner credit (RO, 64 bits, n below 16; R248). -/
def Reg.LNK_P_CRWAIT (n : Nat) : Nat := 0x120038 + n * 0x400
/-- LNK_P_ALERT_LOST: alert records discarded, saturating (RO, 32 bits, n below 16; R248). -/
def Reg.LNK_P_ALERT_LOST (n : Nat) : Nat := 0x120040 + n * 0x400
/-- LNK_P_GIVEN: [23:0] total credits granted by the stack, per pool (RO, 32 bits, n below 16, i below 33; R248). -/
def Reg.LNK_P_GIVEN (n i : Nat) : Nat := 0x120100 + n * 0x400 + i * 4
/-- LNK_P_HELD: [23:0] credits that the stack may still spend, per pool: (total granted by the partner − credits consumed) mod 2^24 (R228) (RO, 32 bits, n below 16, i below 33; R248). -/
def Reg.LNK_P_HELD (n i : Nat) : Nat := 0x120200 + n * 0x400 + i * 4
/-- DMC_STATUS: channel state (RO, 32 bits, n below 32; R275). -/
def Reg.DMC_STATUS (n : Nat) : Nat := 0x200000 + n * 0x1000
def Fld.DMC_STATUS_STATE : Fld := ⟨31, 29⟩
def Fld.DMC_STATUS_HALF : Fld := ⟨28, 28⟩
def Fld.DMC_STATUS_POINT : Fld := ⟨27, 26⟩
def Fld.DMC_STATUS_REFMUL : Fld := ⟨25, 24⟩
def Fld.DMC_STATUS_POSTPONE : Fld := ⟨23, 23⟩
def Fld.DMC_STATUS_OWED : Fld := ⟨19, 16⟩
def Fld.DMC_STATUS_PULLED : Fld := ⟨15, 12⟩
/-- DMC_EVENTS: event bits (W1C, 32 bits, n below 32; R275). -/
def Reg.DMC_EVENTS (n : Nat) : Nat := 0x200004 + n * 0x1000
def Fld.DMC_EVENTS_REPLAY_EXH : Fld := ⟨3, 3⟩
def Fld.DMC_EVENTS_CAPAR : Fld := ⟨2, 2⟩
def Fld.DMC_EVENTS_REF_FORCED : Fld := ⟨1, 1⟩
def Fld.DMC_EVENTS_LATE_HIT : Fld := ⟨0, 0⟩
/-- DMC_QDEPTH: queue fill (RO, 32 bits, n below 32; R275). -/
def Reg.DMC_QDEPTH (n : Nat) : Nat := 0x200008 + n * 0x1000
def Fld.DMC_QDEPTH_WQ : Fld := ⟨23, 16⟩
def Fld.DMC_QDEPTH_RQ : Fld := ⟨7, 0⟩
/-- DMC_LAT_MAX: longest read queue-to-delivery time since reset, in CCLK cycles, saturating (RO, 32 bits, n below 32; R275). -/
def Reg.DMC_LAT_MAX (n : Nat) : Nat := 0x20000c + n * 0x1000
/-- DMC_REF_CNT: refreshes issued, pull-ins included (RO, 64 bits, n below 32; R275). -/
def Reg.DMC_REF_CNT (n : Nat) : Nat := 0x200010 + n * 0x1000
/-- DMC_REF_FORCED: refreshes forced at OWED = 8, saturating (RO, 32 bits, n below 32; R275). -/
def Reg.DMC_REF_FORCED (n : Nat) : Nat := 0x200018 + n * 0x1000
/-- DMC_REF_OWEDMAX: [3:0] largest OWED since reset (RO, 32 bits, n below 32; R275). -/
def Reg.DMC_REF_OWEDMAX (n : Nat) : Nat := 0x20001c + n * 0x1000
/-- DMC_RD_CNT: codewords read (RO, 64 bits, n below 32; R275). -/
def Reg.DMC_RD_CNT (n : Nat) : Nat := 0x200020 + n * 0x1000
/-- DMC_WR_CNT: codewords written (RO, 64 bits, n below 32; R275). -/
def Reg.DMC_WR_CNT (n : Nat) : Nat := 0x200028 + n * 0x1000
/-- DMC_ACT_CNT: activates (RO, 64 bits, n below 32; R275). -/
def Reg.DMC_ACT_CNT (n : Nat) : Nat := 0x200030 + n * 0x1000
/-- DMC_HIT_CNT: column commands to an already open row (RO, 64 bits, n below 32; R275). -/
def Reg.DMC_HIT_CNT (n : Nat) : Nat := 0x200038 + n * 0x1000
/-- DMC_CAPAR_CNT: error returns, saturating (RO, 32 bits, n below 32; R275). -/
def Reg.DMC_CAPAR_CNT (n : Nat) : Nat := 0x200040 + n * 0x1000
/-- DMC_REPLAY_CNT: replays, saturating (RO, 32 bits, n below 32; R275). -/
def Reg.DMC_REPLAY_CNT (n : Nat) : Nat := 0x200044 + n * 0x1000
/-- DMC_TIM_ACT: active timing set (RO, 32 bits, n below 32, i below 6; R275). -/
def Reg.DMC_TIM_ACT (n i : Nat) : Nat := 0x200100 + n * 0x1000 + i * 4
/-- DMC_TIM_SHD: shadow timing set (RO, 32 bits, n below 32, i below 6; R275). -/
def Reg.DMC_TIM_SHD (n i : Nat) : Nat := 0x200140 + n * 0x1000 + i * 4
/-- DMC_G_STATUS: point and transit state (RO, 32 bits; R276). -/
def Reg.DMC_G_STATUS : Nat := 0x220000
def Fld.DMC_G_STATUS_TRANSIT : Fld := ⟨31, 31⟩
def Fld.DMC_G_STATUS_DUE : Fld := ⟨30, 30⟩
def Fld.DMC_G_STATUS_DUE_POINT : Fld := ⟨29, 28⟩
def Fld.DMC_G_STATUS_POINT : Fld := ⟨27, 26⟩
/-- DMC_G_EVENTS: event bits (W1C, 32 bits; R276). -/
def Reg.DMC_G_EVENTS : Nat := 0x220004
def Fld.DMC_G_EVENTS_HOLD_FREQ : Fld := ⟨1, 1⟩
def Fld.DMC_G_EVENTS_TRANSIT : Fld := ⟨0, 0⟩
/-- DMC_FREQ_REQ: point requested in HOLD (RW, 32 bits; R276). -/
def Reg.DMC_FREQ_REQ : Nat := 0x220008
def Fld.DMC_FREQ_REQ_POINT : Fld := ⟨1, 0⟩
/-- DMC_TRANSITS: transits since reset, saturating (RO, 32 bits; R276). -/
def Reg.DMC_TRANSITS : Nat := 0x22000c
/-- DMC_T_TRANSIT: GTIME of the start of the last transit (RO, 64 bits; R276). -/
def Reg.DMC_T_TRANSIT : Nat := 0x220010
/-- DMC_TRANSIT_MAX: longest transit since reset, in SCLK ticks (RO, 32 bits; R276). -/
def Reg.DMC_TRANSIT_MAX : Nat := 0x220018
/-- DMC_NARROW_MAP: bit c: ch c at half width (RO, 32 bits; R276). -/
def Reg.DMC_NARROW_MAP : Nat := 0x22001c
/-- DMC_RETIRED_MAP: bit c: ch c retired (RO, 32 bits; R276). -/
def Reg.DMC_RETIRED_MAP : Nat := 0x220020
/-- DMC_SR_MAP: bit c: ch c in self-refresh (RO, 32 bits; R276). -/
def Reg.DMC_SR_MAP : Nat := 0x220024
/-- ECC_C_STATUS: scrub and hot-position state (RO, 32 bits, n below 32; R300). -/
def Reg.ECC_C_STATUS (n : Nat) : Nat := 0x300000 + n * 0x100
def Fld.ECC_C_STATUS_SCRUB : Fld := ⟨31, 30⟩
def Fld.ECC_C_STATUS_HOTPOS : Fld := ⟨29, 29⟩
def Fld.ECC_C_STATUS_HOTSYM : Fld := ⟨21, 16⟩
/-- ECC_C_EVENTS: event bits (W1C, 32 bits, n below 32; R300). -/
def Reg.ECC_C_EVENTS (n : Nat) : Nat := 0x300004 + n * 0x100
def Fld.ECC_C_EVENTS_HOTPOS : Fld := ⟨5, 5⟩
def Fld.ECC_C_EVENTS_ADDR : Fld := ⟨4, 4⟩
def Fld.ECC_C_EVENTS_UNC : Fld := ⟨3, 3⟩
def Fld.ECC_C_EVENTS_POISON_RD : Fld := ⟨2, 2⟩
def Fld.ECC_C_EVENTS_RMW_FAIL : Fld := ⟨1, 1⟩
def Fld.ECC_C_EVENTS_CORR : Fld := ⟨0, 0⟩
/-- ECC_C_CORR1: CORRECTED_1 events (RO, 64 bits, n below 32; R300). -/
def Reg.ECC_C_CORR1 (n : Nat) : Nat := 0x300008 + n * 0x100
/-- ECC_C_CORR2: CORRECTED_2 events (RO, 64 bits, n below 32; R300). -/
def Reg.ECC_C_CORR2 (n : Nat) : Nat := 0x300010 + n * 0x100
/-- ECC_C_UNC: UNCORRECTABLE events, saturating (RO, 32 bits, n below 32; R300). -/
def Reg.ECC_C_UNC (n : Nat) : Nat := 0x300018 + n * 0x100
/-- ECC_C_ADDR: [31:16] persistent, [15:0] transient mismatches, each saturating (RO, 32 bits, n below 32; R300). -/
def Reg.ECC_C_ADDR (n : Nat) : Nat := 0x30001c + n * 0x100
def Fld.ECC_C_ADDR_PERSIST : Fld := ⟨31, 16⟩
def Fld.ECC_C_ADDR_TRANS : Fld := ⟨15, 0⟩
/-- ECC_C_POISON_RD: POISON reads other than scrub, saturating (RO, 32 bits, n below 32; R300). -/
def Reg.ECC_C_POISON_RD (n : Nat) : Nat := 0x300020 + n * 0x100
/-- ECC_C_POISON_WR: codewords poisoned, saturating (RO, 32 bits, n below 32; R300). -/
def Reg.ECC_C_POISON_WR (n : Nat) : Nat := 0x300024 + n * 0x100
/-- ECC_C_RMW: read-modify-writes (RO, 64 bits, n below 32; R300). -/
def Reg.ECC_C_RMW (n : Nat) : Nat := 0x300028 + n * 0x100
/-- ECC_C_RMW_FAIL: failed read-modify-writes, saturating (RO, 32 bits, n below 32; R300). -/
def Reg.ECC_C_RMW_FAIL (n : Nat) : Nat := 0x300030 + n * 0x100
/-- ECC_C_MERGE_FILL: [10:0] merge entries in use (RO, 32 bits, n below 32; R300). -/
def Reg.ECC_C_MERGE_FILL (n : Nat) : Nat := 0x300034 + n * 0x100
/-- ECC_C_SCRUB_PTR: [20:0] a[31:11] of the next row to scrub (RO, 32 bits, n below 32; R300). -/
def Reg.ECC_C_SCRUB_PTR (n : Nat) : Nat := 0x300038 + n * 0x100
/-- ECC_C_SCRUB_PASSES: passes completed, saturating (RO, 32 bits, n below 32; R300). -/
def Reg.ECC_C_SCRUB_PASSES (n : Nat) : Nat := 0x30003c + n * 0x100
/-- ECC_C_SCRUB_LAST: length of the last pass in ms, saturating (RO, 32 bits, n below 32; R300). -/
def Reg.ECC_C_SCRUB_LAST (n : Nat) : Nat := 0x300040 + n * 0x100
/-- ECC_C_LAST_INFO: last event (RO, 32 bits, n below 32; R300). -/
def Reg.ECC_C_LAST_INFO (n : Nat) : Nat := 0x300044 + n * 0x100
def Fld.ECC_C_LAST_INFO_CLASS : Fld := ⟨31, 29⟩
def Fld.ECC_C_LAST_INFO_SOURCE : Fld := ⟨28, 26⟩
def Fld.ECC_C_LAST_INFO_SYM_B : Fld := ⟨15, 8⟩
def Fld.ECC_C_LAST_INFO_SYM_A : Fld := ⟨7, 0⟩
/-- ECC_C_LAST_ADDR: channel-local address of the last event (RO, 32 bits, n below 32; R300). -/
def Reg.ECC_C_LAST_ADDR (n : Nat) : Nat := 0x300048 + n * 0x100
/-- ECC_C_LAST_TIME: GTIME of the last event (RO, 64 bits, n below 32; R300). -/
def Reg.ECC_C_LAST_TIME (n : Nat) : Nat := 0x300050 + n * 0x100
/-- ECC_G_EVENTS: event bits (W1C, 32 bits; R300). -/
def Reg.ECC_G_EVENTS : Nat := 0x310000
def Fld.ECC_G_EVENTS_INJ_APPLIED : Fld := ⟨1, 1⟩
def Fld.ECC_G_EVENTS_ST_FAIL : Fld := ⟨0, 0⟩
/-- ECC_SCRUB_CFG: scrub period (RWS, 32 bits; R300). -/
def Reg.ECC_SCRUB_CFG : Nat := 0x310004
def Fld.ECC_SCRUB_CFG_PERIOD : Fld := ⟨15, 0⟩
/-- ECC_INJ_CTL: injection control (RW, 32 bits; R300). -/
def Reg.ECC_INJ_CTL : Nat := 0x310008
def Fld.ECC_INJ_CTL_ARM : Fld := ⟨31, 31⟩
def Fld.ECC_INJ_CTL_KIND : Fld := ⟨30, 28⟩
def Fld.ECC_INJ_CTL_SYM_B : Fld := ⟨27, 22⟩
def Fld.ECC_INJ_CTL_SYM_A : Fld := ⟨21, 16⟩
def Fld.ECC_INJ_CTL_CHANNEL : Fld := ⟨4, 0⟩
/-- ECC_INJ_ADDR: channel-local address, a[5:0] zero (RW, 32 bits; R300). -/
def Reg.ECC_INJ_ADDR : Nat := 0x31000c
/-- ECC_INJ_MASK: [31:16] MASK_B, [15:0] MASK_A (RW, 32 bits; R300). -/
def Reg.ECC_INJ_MASK : Nat := 0x310010
def Fld.ECC_INJ_MASK_MASK_B : Fld := ⟨31, 16⟩
def Fld.ECC_INJ_MASK_MASK_A : Fld := ⟨15, 0⟩
/-- ECC_ST_PASS: bit c: ch c passed R299 (RO, 32 bits; R300). -/
def Reg.ECC_ST_PASS : Nat := 0x310014
/-- ECC_ST_FAIL: bit c: ch c failed (RO, 32 bits; R300). -/
def Reg.ECC_ST_FAIL : Nat := 0x310018
/-- ECC_ST_INCOMPLETE: bit c: ch c held out after 8 INCOMPLETE runs (RO, 32 bits; R300). -/
def Reg.ECC_ST_INCOMPLETE : Nat := 0x31001c
/-- BST_STATUS: test and salvage state (RO, 32 bits; R334). -/
def Reg.BST_STATUS : Nat := 0x90000
def Fld.BST_STATUS_FULLTEST : Fld := ⟨31, 31⟩
def Fld.BST_STATUS_MIGRATING : Fld := ⟨30, 30⟩
def Fld.BST_STATUS_LAST_OUT : Fld := ⟨18, 16⟩
def Fld.BST_STATUS_RUNNING : Fld := ⟨3, 0⟩
/-- BST_EVENTS: event bits (W1C, 32 bits; R334). -/
def Reg.BST_EVENTS : Nat := 0x90004
def Fld.BST_EVENTS_FULLTEST_DONE : Fld := ⟨7, 7⟩
def Fld.BST_EVENTS_PARCEL_LOST : Fld := ⟨6, 6⟩
def Fld.BST_EVENTS_RETIRED : Fld := ⟨5, 5⟩
def Fld.BST_EVENTS_NARROWED : Fld := ⟨4, 4⟩
def Fld.BST_EVENTS_SPARED : Fld := ⟨3, 3⟩
def Fld.BST_EVENTS_REPAIR : Fld := ⟨2, 2⟩
def Fld.BST_EVENTS_LEG_STUCK : Fld := ⟨1, 1⟩
def Fld.BST_EVENTS_LEG_FAIL : Fld := ⟨0, 0⟩
/-- BST_CMD: [3:0] 0x1 FULLTEST, 0x2 FUSE_COMMIT, 0x3 LEG, 0x4 ABORT_FULLTEST; reads zero (RW, 32 bits; R334). -/
def Reg.BST_CMD : Nat := 0x90008
def Fld.BST_CMD_CMD : Fld := ⟨3, 0⟩
/-- BST_ARG: block of a LEG command (RW, 32 bits; R334). -/
def Reg.BST_ARG : Nat := 0x9000c
def Fld.BST_ARG_KIND : Fld := ⟨31, 28⟩
def Fld.BST_ARG_UNIT : Fld := ⟨27, 22⟩
def Fld.BST_ARG_INDEX : Fld := ⟨21, 0⟩
/-- BST_TRV_CFG: traverse rates (RWS, 32 bits; R334). -/
def Reg.BST_TRV_CFG : Nat := 0x90010
def Fld.BST_TRV_CFG_BASEPER : Fld := ⟨27, 16⟩
def Fld.BST_TRV_CFG_RATE : Fld := ⟨15, 0⟩
/-- BST_LEG_CFG: budget and staggering (RWS, 32 bits; R334). -/
def Reg.BST_LEG_CFG : Nat := 0x90014
def Fld.BST_LEG_CFG_STAGGER : Fld := ⟨23, 16⟩
def Fld.BST_LEG_CFG_PERRAIL : Fld := ⟨14, 12⟩
def Fld.BST_LEG_CFG_MAXCONC : Fld := ⟨11, 8⟩
def Fld.BST_LEG_CFG_BUDGET : Fld := ⟨4, 0⟩
/-- BST_LEGS: legs started (RO, 64 bits; R334). -/
def Reg.BST_LEGS : Nat := 0x90018
/-- BST_PASS: PASS outcomes (RO, 64 bits; R334). -/
def Reg.BST_PASS : Nat := 0x90020
/-- BST_FAIL: FAIL outcomes, saturating (RO, 32 bits; R334). -/
def Reg.BST_FAIL : Nat := 0x90028
/-- BST_INCOMPLETE: INCOMPLETE outcomes, preemptions included, saturating (RO, 32 bits; R334). -/
def Reg.BST_INCOMPLETE : Nat := 0x9002c
/-- BST_PREEMPT: preemptions, saturating (RO, 32 bits; R334). -/
def Reg.BST_PREEMPT : Nat := 0x90030
/-- BST_LAST_LEG: block of the last leg ended, laid out as BST_ARG (RO, 32 bits; R334). -/
def Reg.BST_LAST_LEG : Nat := 0x90034
/-- BST_LAST_TIME: GTIME at which it ended (RO, 64 bits; R334). -/
def Reg.BST_LAST_TIME : Nat := 0x90038
/-- BST_MIG_STATUS: salvage state (RO, 32 bits; R334). -/
def Reg.BST_MIG_STATUS : Nat := 0x90040
def Fld.BST_MIG_STATUS_ACTIVE : Fld := ⟨31, 31⟩
def Fld.BST_MIG_STATUS_CHANNEL : Fld := ⟨30, 26⟩
def Fld.BST_MIG_STATUS_QUEUED : Fld := ⟨25, 16⟩
def Fld.BST_MIG_STATUS_LEFT : Fld := ⟨15, 0⟩
/-- BST_MIG_SAVED: slices saved since cold load, saturating (RO, 32 bits; R334). -/
def Reg.BST_MIG_SAVED : Nat := 0x90044
/-- BST_MIG_LOST: slices not saved since cold load, saturating (RO, 32 bits; R334). -/
def Reg.BST_MIG_LOST : Nat := 0x90048
/-- BST_RES_FREE: least free reserve on a non-retired reserve channel, MiB (RO, 32 bits; R334). -/
def Reg.BST_RES_FREE : Nat := 0x9004c
/-- BST_LOG_FILL: [13:0] entries in the repair log (RO, 32 bits; R334). -/
def Reg.BST_LOG_FILL : Nat := 0x90050
/-- BST_LOG_IDX: [12:0] entry selected (RW, 32 bits; R334). -/
def Reg.BST_LOG_IDX : Nat := 0x90054
/-- BST_LOG_ENTRY: selected entry (R317); zero at or beyond the fill (RO, 32 bits; R334). -/
def Reg.BST_LOG_ENTRY : Nat := 0x90058
/-- BST_DG_CLK: bit 2g + b: bundle b of DGg lost (RO, 32 bits; R334). -/
def Reg.BST_DG_CLK : Nat := 0x9005c
/-- BST_C_STATE: width and spares (RO, 32 bits, n below 32; R334). -/
def Reg.BST_C_STATE (n : Nat) : Nat := 0x91000 + n * 0x40
def Fld.BST_C_STATE_WIDTH : Fld := ⟨31, 30⟩
def Fld.BST_C_STATE_CAUSE : Fld := ⟨29, 27⟩
def Fld.BST_C_STATE_GOOD : Fld := ⟨22, 16⟩
def Fld.BST_C_STATE_FREE_DATA : Fld := ⟨13, 8⟩
def Fld.BST_C_STATE_FREE_CA : Fld := ⟨1, 0⟩
/-- BST_C_TRV_PTR: [20:0] a[31:11] of the next ROW leg (RO, 32 bits, n below 32; R334). -/
def Reg.BST_C_TRV_PTR (n : Nat) : Nat := 0x91004 + n * 0x40
/-- BST_C_ROUNDS: rounds completed, saturating (RO, 32 bits, n below 32; R334). -/
def Reg.BST_C_ROUNDS (n : Nat) : Nat := 0x91008 + n * 0x40
/-- BST_C_REPAIRS: [31:16] column, [15:0] row repairs in effect (RO, 32 bits, n below 32; R334). -/
def Reg.BST_C_REPAIRS (n : Nat) : Nat := 0x9100c + n * 0x40
def Fld.BST_C_REPAIRS_COL : Fld := ⟨31, 16⟩
def Fld.BST_C_REPAIRS_ROW : Fld := ⟨15, 0⟩
/-- BST_C_LFAIL: bit n of register i: physical data/check lane 32i + n failed (RO, 32 bits, n below 32, i below 3; R334). -/
def Reg.BST_C_LFAIL (n i : Nat) : Nat := 0x91010 + n * 0x40 + i * 4
/-- BST_C_CAFAIL: [15:0] physical command/address lanes failed (RO, 32 bits, n below 32; R334). -/
def Reg.BST_C_CAFAIL (n : Nat) : Nat := 0x9101c + n * 0x40
/-- CAL_STATUS: [31] SUSPENDED; [30:0] reserved (RO, 32 bits; R334). -/
def Reg.CAL_STATUS : Nat := 0x80000
def Fld.CAL_STATUS_SUSPENDED : Fld := ⟨31, 31⟩
/-- CAL_EVENTS: event bits (W1C, 32 bits; R334). -/
def Reg.CAL_EVENTS : Nat := 0x80004
def Fld.CAL_EVENTS_REJECT3 : Fld := ⟨1, 1⟩
def Fld.CAL_EVENTS_REJECT : Fld := ⟨0, 0⟩
/-- CAL_CFG: rate and limit (RWS, 32 bits; R334). -/
def Reg.CAL_CFG : Nat := 0x80008
def Fld.CAL_CFG_LIM : Fld := ⟨23, 16⟩
def Fld.CAL_CFG_RATE : Fld := ⟨15, 0⟩
/-- CAL_C_STEPS: steps run (RO, 64 bits, n below 32; R334). -/
def Reg.CAL_C_STEPS (n : Nat) : Nat := 0x81000 + n * 0x40
/-- CAL_C_ACCEPT: values accepted, saturating (RO, 32 bits, n below 32; R334). -/
def Reg.CAL_C_ACCEPT (n : Nat) : Nat := 0x81008 + n * 0x40
/-- CAL_C_REJECT: values rejected, saturating (RO, 32 bits, n below 32; R334). -/
def Reg.CAL_C_REJECT (n : Nat) : Nat := 0x8100c + n * 0x40
/-- CAL_C_FORCED: steps forced, saturating (RO, 32 bits, n below 32; R334). -/
def Reg.CAL_C_FORCED (n : Nat) : Nat := 0x81010 + n * 0x40
/-- CAL_C_LAST_INFO: last step (RO, 32 bits, n below 32; R334). -/
def Reg.CAL_C_LAST_INFO (n : Nat) : Nat := 0x81014 + n * 0x40
def Fld.CAL_C_LAST_INFO_KIND : Fld := ⟨31, 30⟩
def Fld.CAL_C_LAST_INFO_ACCEPTED : Fld := ⟨29, 29⟩
def Fld.CAL_C_LAST_INFO_LANE : Fld := ⟨23, 16⟩
def Fld.CAL_C_LAST_INFO_BENCH : Fld := ⟨15, 8⟩
def Fld.CAL_C_LAST_INFO_NEW : Fld := ⟨7, 0⟩
/-- CAL_C_LAST_TIME: GTIME of the last step (RO, 64 bits, n below 32; R334). -/
def Reg.CAL_C_LAST_TIME (n : Nat) : Nat := 0x81018 + n * 0x40
/-- CAL_C_FULL_TIME: GTIME of the last full calibration (RO, 64 bits, n below 32; R334). -/
def Reg.CAL_C_FULL_TIME (n : Nat) : Nat := 0x81020 + n * 0x40
/-- CAL_C_DRIFT_MAX: [7:0] largest accepted difference from a benchmark, in taps (RO, 32 bits, n below 32; R334). -/
def Reg.CAL_C_DRIFT_MAX (n : Nat) : Nat := 0x81028 + n * 0x40
/-- THM_STATUS: band, throttle, interval (RO, 32 bits; R365). -/
def Reg.THM_STATUS : Nat := 0x60000
def Fld.THM_STATUS_BAND : Fld := ⟨31, 29⟩
def Fld.THM_STATUS_LEVEL : Fld := ⟨28, 26⟩
def Fld.THM_STATUS_INTERVAL : Fld := ⟨25, 24⟩
def Fld.THM_STATUS_WARN : Fld := ⟨23, 23⟩
def Fld.THM_STATUS_HOTDIE : Fld := ⟨22, 18⟩
def Fld.THM_STATUS_EXCLUDED : Fld := ⟨17, 11⟩
/-- THM_EVENTS: event bits (W1C, 32 bits; R365). -/
def Reg.THM_EVENTS : Nat := 0x60004
def Fld.THM_EVENTS_FIT_HELD : Fld := ⟨6, 6⟩
def Fld.THM_EVENTS_SHUT_RECORD : Fld := ⟨5, 5⟩
def Fld.THM_EVENTS_MODEL_ONLY : Fld := ⟨4, 4⟩
def Fld.THM_EVENTS_SUSPECT : Fld := ⟨3, 3⟩
def Fld.THM_EVENTS_THROTTLE : Fld := ⟨2, 2⟩
def Fld.THM_EVENTS_WARN : Fld := ⟨1, 1⟩
def Fld.THM_EVENTS_BAND : Fld := ⟨0, 0⟩
/-- THM_HOT: [31:16] H; [15:0] base-die estimate (RO, 32 bits; R365). -/
def Reg.THM_HOT : Nat := 0x60008
def Fld.THM_HOT_H : Fld := ⟨31, 16⟩
def Fld.THM_HOT_BASE : Fld := ⟨15, 0⟩
/-- THM_CFG: THERMAL entry in effect (RO, 32 bits; R365). -/
def Reg.THM_CFG : Nat := 0x6000c
def Fld.THM_CFG_MAXLVL : Fld := ⟨10, 8⟩
def Fld.THM_CFG_POINTS : Fld := ⟨3, 0⟩
/-- THM_EXCL: bit n of register i: sensor 32i + n excluded (RO, 32 bits, i below 3; R365). -/
def Reg.THM_EXCL (i : Nat) : Nat := 0x60010 + i * 4
/-- THM_LID: [15:0] fitted lid temperature (RO, 32 bits; R365). -/
def Reg.THM_LID : Nat := 0x6001c
/-- THM_BAND_CNT: band changes, saturating (RO, 32 bits; R365). -/
def Reg.THM_BAND_CNT : Nat := 0x60020
/-- THM_THR_TIME: ms at a level above 0, saturating (RO, 32 bits; R365). -/
def Reg.THM_THR_TIME : Nat := 0x60024
/-- THM_T_BAND: GTIME of the last band change (RO, 64 bits; R365). -/
def Reg.THM_T_BAND : Nat := 0x60028
/-- THM_SHUT_IDX: [3:0] record selected, 0 = most recent (RW, 32 bits; R365). -/
def Reg.THM_SHUT_IDX : Nat := 0x60030
/-- THM_SHUT_CNT: [4:0] records held, 0 to 16 (RO, 32 bits; R365). -/
def Reg.THM_SHUT_CNT : Nat := 0x60034
/-- THM_SHUT_REC: selected record, bytes 4i to 4i + 3 (RO, 32 bits, i below 4; R365). -/
def Reg.THM_SHUT_REC (i : Nat) : Nat := 0x60038 + i * 4
/-- THM_D_EST: [31:16] estimate; [15:0] median, 0x8000 when undefined (RO, 32 bits, n below 17; R365). -/
def Reg.THM_D_EST (n : Nat) : Nat := 0x60100 + n * 0x10
def Fld.THM_D_EST_EST : Fld := ⟨31, 16⟩
def Fld.THM_D_EST_MEDIAN : Fld := ⟨15, 0⟩
/-- THM_D_MODEL: [15:0] model value; for d = 0, hottest zone (RO, 32 bits, n below 17; R365). -/
def Reg.THM_D_MODEL (n : Nat) : Nat := 0x60104 + n * 0x10
/-- THM_D_POWER: input power in mW (RO, 32 bits, n below 17; R365). -/
def Reg.THM_D_POWER (n : Nat) : Nat := 0x60108 + n * 0x10
/-- THM_D_STAT: sensors in use (RO, 32 bits, n below 17; R365). -/
def Reg.THM_D_STAT (n : Nat) : Nat := 0x6010c + n * 0x10
def Fld.THM_D_STAT_MODEL_ONLY : Fld := ⟨4, 4⟩
def Fld.THM_D_STAT_SENSORS : Fld := ⟨3, 0⟩
/-- THM_Z_EST: as THM_D_EST, for zone z (RO, 32 bits, n below 4; R365). -/
def Reg.THM_Z_EST (n : Nat) : Nat := 0x60220 + n * 0x8
def Fld.THM_Z_EST_EST : Fld := ⟨31, 16⟩
def Fld.THM_Z_EST_MEDIAN : Fld := ⟨15, 0⟩
/-- THM_Z_MODEL: [15:0] model value (RO, 32 bits, n below 4; R365). -/
def Reg.THM_Z_MODEL (n : Nat) : Nat := 0x60224 + n * 0x8
/-- THM_SENS: sensor n (RO, 32 bits, i below 76; R365). -/
def Reg.THM_SENS (i : Nat) : Nat := 0x60400 + i * 4
def Fld.THM_SENS_EXCL : Fld := ⟨31, 31⟩
def Fld.THM_SENS_READING : Fld := ⟨15, 0⟩
/-- PWR_STATUS: domain and rail state (RO, 32 bits; R367). -/
def Reg.PWR_STATUS : Nat := 0x70000
def Fld.PWR_STATUS_CHANGING : Fld := ⟨31, 31⟩
def Fld.PWR_STATUS_IN_REG : Fld := ⟨5, 0⟩
/-- PWR_EVENTS: event bits (W1C, 32 bits; R367). -/
def Reg.PWR_EVENTS : Nat := 0x70004
def Fld.PWR_EVENTS_RAIL_OFF : Fld := ⟨1, 1⟩
def Fld.PWR_EVENTS_PEAK : Fld := ⟨0, 0⟩
/-- PWR_DOM0: bits [2n+1:2n]: state of PDn, n = 0 to 15 (RO, 32 bits; R367). -/
def Reg.PWR_DOM0 : Nat := 0x70008
/-- PWR_DOM1: bits [2n+1:2n]: state of PD(16 + n), n = 0 to 3; [31:8] reserved (RO, 32 bits; R367). -/
def Reg.PWR_DOM1 : Nat := 0x7000c
/-- PWR_RAIL_OFF: [5:0] bit r: rail r off for retirement (RO, 32 bits; R367). -/
def Reg.PWR_RAIL_OFF : Nat := 0x70010
/-- PWR_R_I: [15:0] mean current in mA (RO, 32 bits, n below 6; R367). -/
def Reg.PWR_R_I (n : Nat) : Nat := 0x70020 + n * 0x10
/-- PWR_R_V: [15:0] voltage in mV (RO, 32 bits, n below 6; R367). -/
def Reg.PWR_R_V (n : Nat) : Nat := 0x70024 + n * 0x10
/-- PWR_R_IPEAK: [15:0] largest 10 µs mean since reset or CLEAR_PEAK, mA (RO, 32 bits, n below 6; R367). -/
def Reg.PWR_R_IPEAK (n : Nat) : Nat := 0x70028 + n * 0x10
/-- PWR_R_STAT: rail state (RO, 32 bits, n below 6; R367). -/
def Reg.PWR_R_STAT (n : Nat) : Nat := 0x7002c + n * 0x10
def Fld.PWR_R_STAT_IN_REG : Fld := ⟨31, 31⟩
def Fld.PWR_R_STAT_OFF : Fld := ⟨30, 30⟩
def Fld.PWR_R_STAT_WARN90 : Fld := ⟨29, 29⟩
/-- PWR_EST_BASE: base-die power from R340, mW (RO, 32 bits; R367). -/
def Reg.PWR_EST_BASE : Nat := 0x70080
/-- PWR_EST_STACK: sum of rail powers, mW (RO, 32 bits; R367). -/
def Reg.PWR_EST_STACK : Nat := 0x70084
/-- PWR_CMD: [3:0] 0x1 CLEAR_PEAK; reads zero (RW, 32 bits; R367). -/
def Reg.PWR_CMD : Nat := 0x70088
def Fld.PWR_CMD_CMD : Fld := ⟨3, 0⟩
/-- FLT_STATUS: fault state (RO, 32 bits; R399). -/
def Reg.FLT_STATUS : Nat := 0x10000
def Fld.FLT_STATUS_FAULT_N : Fld := ⟨31, 31⟩
def Fld.FLT_STATUS_ALERT_N : Fld := ⟨30, 30⟩
def Fld.FLT_STATUS_MAXSEV : Fld := ⟨29, 28⟩
def Fld.FLT_STATUS_NSET : Fld := ⟨7, 0⟩
/-- FLT_SUMMARY: public summary (RO, 32 bits; R399). -/
def Reg.FLT_SUMMARY : Nat := 0x10004
def Fld.FLT_SUMMARY_MAXSEV : Fld := ⟨31, 30⟩
def Fld.FLT_SUMMARY_ANY : Fld := ⟨29, 29⟩
def Fld.FLT_SUMMARY_FAULT_N : Fld := ⟨28, 28⟩
def Fld.FLT_SUMMARY_ALERT_N : Fld := ⟨27, 27⟩
def Fld.FLT_SUMMARY_LASTSRC : Fld := ⟨26, 20⟩
def Fld.FLT_SUMMARY_ACODE : Fld := ⟨15, 0⟩
/-- FLT_CFG: thresholds (RWS, 32 bits; R399). -/
def Reg.FLT_CFG : Nat := 0x10008
def Fld.FLT_CFG_ASEV : Fld := ⟨5, 4⟩
def Fld.FLT_CFG_NSEV : Fld := ⟨1, 0⟩
/-- FLT_CMD: [3:0] 0x1 ACK_ALERTN, 0x2 CLEAR_ALL; reads zero (RW, 32 bits; R399). -/
def Reg.FLT_CMD : Nat := 0x1000c
def Fld.FLT_CMD_CMD : Fld := ⟨3, 0⟩
/-- FLT_STICKY: bit n of register i: source 32i + n (W1C, 32 bits, i below 4; R399). -/
def Reg.FLT_STICKY (i : Nat) : Nat := 0x10010 + i * 4
/-- FLT_MASK: bit n of register i: source 32i + n masked (RWS, 32 bits, i below 4; R399). -/
def Reg.FLT_MASK (i : Nat) : Nat := 0x10020 + i * 4
/-- FLT_FORCE: bit n of register i: force source 32i + n; reads zero (RW, 32 bits, i below 4; R399). -/
def Reg.FLT_FORCE (i : Nat) : Nat := 0x10030 + i * 4
/-- FLT_SEV: bits [2n+1:2n] of register i: severity of source 16i + n (RO, 32 bits, i below 8; R399). -/
def Reg.FLT_SEV (i : Nat) : Nat := 0x10040 + i * 4
/-- FLT_HIST_NEXT: HSEQ of the next entry (RO, 32 bits; R399). -/
def Reg.FLT_HIST_NEXT : Nat := 0x10060
/-- FLT_HIST_IDX: HSEQ of the entry selected (RW, 32 bits; R399). -/
def Reg.FLT_HIST_IDX : Nat := 0x10064
/-- FLT_HIST_LOST: entries replaced, saturating (RO, 32 bits; R399). -/
def Reg.FLT_HIST_LOST : Nat := 0x10068
/-- FLT_SUPPRESSED: detections without an entry (R372), saturating (RO, 32 bits; R399). -/
def Reg.FLT_SUPPRESSED : Nat := 0x1006c
/-- FLT_HIST_ENT: selected entry, bytes 4i to 4i + 3 (RO, 32 bits, i below 8; R399). -/
def Reg.FLT_HIST_ENT (i : Nat) : Nat := 0x10080 + i * 4
/-- FLT_LED_NEXT: PSEQ of the next ledger entry (RO, 64 bits; R399). -/
def Reg.FLT_LED_NEXT : Nat := 0x100a0
/-- FLT_LED_IDX: PSEQ of the ledger entry selected; rejected with E_RANGE when not held (RW, 64 bits; R399). -/
def Reg.FLT_LED_IDX : Nat := 0x100a8
/-- FLT_LED_LOST: entries not copied, saturating (RO, 32 bits; R399). -/
def Reg.FLT_LED_LOST : Nat := 0x100b0
/-- FLT_LED_ENT: selected ledger entry (RO, 32 bits, i below 8; R399). -/
def Reg.FLT_LED_ENT (i : Nat) : Nat := 0x100c0 + i * 4
/-- FLT_LAST_FATAL: PSEQ of the newest FATAL ledger entry; all ones when none (RO, 64 bits; R399). -/
def Reg.FLT_LAST_FATAL : Nat := 0x100e0
/-- FLT_AV_UNSCHED: lifetime unscheduled time, ms (RO, 64 bits; R399). -/
def Reg.FLT_AV_UNSCHED : Nat := 0x10100
/-- FLT_AV_AVAIL: lifetime available time, ms (RO, 64 bits; R399). -/
def Reg.FLT_AV_AVAIL : Nat := 0x10108
/-- FLT_AV_52W: R387, ms (RO, 32 bits; R399). -/
def Reg.FLT_AV_52W : Nat := 0x10110
/-- FLT_AV_PPB: R387 (RO, 32 bits; R399). -/
def Reg.FLT_AV_PPB : Nat := 0x10114
/-- FLT_AV_LOADS: cold loads since manufacture (RO, 32 bits; R399). -/
def Reg.FLT_AV_LOADS : Nat := 0x10118
/-- FLT_AV_SAFES: entries into SAFE since manufacture (RO, 32 bits; R399). -/
def Reg.FLT_AV_SAFES : Nat := 0x1011c
/-- PMC_STATUS: [31] DUMPING; [9:0] samples held; other bits reserved (RO, 32 bits; R402). -/
def Reg.PMC_STATUS : Nat := 0x20000
def Fld.PMC_STATUS_DUMPING : Fld := ⟨31, 31⟩
def Fld.PMC_STATUS_SAMPLES : Fld := ⟨9, 0⟩
/-- PMC_EVENTS: event bits (W1C, 32 bits; R402). -/
def Reg.PMC_EVENTS : Nat := 0x20004
def Fld.PMC_EVENTS_DMP_SKIP : Fld := ⟨2, 2⟩
def Fld.PMC_EVENTS_SMP_LOST : Fld := ⟨1, 1⟩
def Fld.PMC_EVENTS_OVF : Fld := ⟨0, 0⟩
/-- PMC_CFG: dump period and Observer rights (RWS, 32 bits; R402). -/
def Reg.PMC_CFG : Nat := 0x20008
def Fld.PMC_CFG_OBS_PART : Fld := ⟨31, 16⟩
def Fld.PMC_CFG_PERIOD : Fld := ⟨15, 0⟩
/-- PMC_DSEQ: DSEQ of the next dump (RO, 64 bits; R402). -/
def Reg.PMC_DSEQ : Nat := 0x20010
/-- PMC_DMP_WPTR: byte offset of the next record (RO, 64 bits; R402). -/
def Reg.PMC_DMP_WPTR : Nat := 0x20018
/-- PMC_DMP_WRAPS: ring wraps, saturating (RO, 32 bits; R402). -/
def Reg.PMC_DMP_WRAPS : Nat := 0x20020
/-- PMC_DMP_SKIP: skipped dumps, saturating (RO, 32 bits; R402). -/
def Reg.PMC_DMP_SKIP : Nat := 0x20024
/-- PMC_SMP_LOST: samples lost, saturating (RO, 32 bits; R402). -/
def Reg.PMC_SMP_LOST : Nat := 0x20028
/-- PMC_OVF: bit n of register i: counter 32i + n wrapped (W1C, 32 bits, i below 4; R402). -/
def Reg.PMC_OVF (i : Nat) : Nat := 0x20040 + i * 4
/-- PMC_SEL: event selection (RW, 32 bits, n below 128; R402). -/
def Reg.PMC_SEL (n : Nat) : Nat := 0x21000 + n * 0x10
def Fld.PMC_SEL_EN : Fld := ⟨31, 31⟩
def Fld.PMC_SEL_SAMPLE : Fld := ⟨30, 30⟩
def Fld.PMC_SEL_SCOPE : Fld := ⟨29, 28⟩
def Fld.PMC_SEL_PART : Fld := ⟨27, 24⟩
def Fld.PMC_SEL_FILTER : Fld := ⟨23, 16⟩
def Fld.PMC_SEL_FEN : Fld := ⟨15, 15⟩
def Fld.PMC_SEL_EVENT : Fld := ⟨7, 0⟩
/-- PMC_SPER: sample period, 1 to 0xFFFF_FFFF (RW, 32 bits, n below 128; R402). -/
def Reg.PMC_SPER (n : Nat) : Nat := 0x21004 + n * 0x10
/-- PMC_CNT: [63:48] reserved; [47:0] count (RW, 64 bits, n below 128; R402). -/
def Reg.PMC_CNT (n : Nat) : Nat := 0x21008 + n * 0x10
def Fld.PMC_CNT_COUNT : Fld := ⟨47, 0⟩
/-- SEC_STATUS: lifecycle, debug and session state (RO, 32 bits; R428). -/
def Reg.SEC_STATUS : Nat := 0x30000
def Fld.SEC_STATUS_LIFECYCLE : Fld := ⟨31, 30⟩
def Fld.SEC_STATUS_DBG_OPEN : Fld := ⟨29, 29⟩
def Fld.SEC_STATUS_DBG_EVER : Fld := ⟨28, 28⟩
def Fld.SEC_STATUS_KAT_OK : Fld := ⟨27, 27⟩
def Fld.SEC_STATUS_OPEN_N : Fld := ⟨20, 16⟩
def Fld.SEC_STATUS_HOST_KEYS : Fld := ⟨5, 0⟩
/-- SEC_EVENTS: event bits (W1C, 32 bits; R428). -/
def Reg.SEC_EVENTS : Nat := 0x30004
def Fld.SEC_EVENTS_DBG_UNLOCK : Fld := ⟨5, 5⟩
def Fld.SEC_EVENTS_ENROLLED : Fld := ⟨4, 4⟩
def Fld.SEC_EVENTS_EVICT : Fld := ⟨3, 3⟩
def Fld.SEC_EVENTS_IDLE_CLOSE : Fld := ⟨2, 2⟩
def Fld.SEC_EVENTS_TAG_FAIL : Fld := ⟨1, 1⟩
def Fld.SEC_EVENTS_OPEN_FAIL : Fld := ⟨0, 0⟩
/-- SEC_SELF: the requester's own session (RO, 32 bits; R428). -/
def Reg.SEC_SELF : Nat := 0x30008
def Fld.SEC_SELF_SID : Fld := ⟨31, 16⟩
def Fld.SEC_SELF_ROLE : Fld := ⟨15, 8⟩
def Fld.SEC_SELF_PATH : Fld := ⟨7, 0⟩
/-- SEC_DBG_CTL: debug unlock (RW, 32 bits; R428). -/
def Reg.SEC_DBG_CTL : Nat := 0x3000c
def Fld.SEC_DBG_CTL_UNLOCK : Fld := ⟨31, 31⟩
def Fld.SEC_DBG_CTL_P1838 : Fld := ⟨1, 1⟩
def Fld.SEC_DBG_CTL_P1500 : Fld := ⟨0, 0⟩
/-- SEC_UID: UID, bytes 4i to 4i + 3 (RO, 32 bits, i below 16; R428). -/
def Reg.SEC_UID (i : Nat) : Nat := 0x30010 + i * 4
/-- SEC_ANCHOR: owner anchor, bytes 4i to 4i + 3 (RO, 32 bits, i below 16; R428). -/
def Reg.SEC_ANCHOR (i : Nat) : Nat := 0x30050 + i * 4
/-- SEC_OPEN_CNT: sessions opened since reset (RO, 64 bits; R428). -/
def Reg.SEC_OPEN_CNT : Nat := 0x30090
/-- SEC_OPEN_FAIL: failed OPENs, saturating (RO, 32 bits; R428). -/
def Reg.SEC_OPEN_FAIL : Nat := 0x30098
/-- SEC_TAG_FAIL: tag failures, saturating (RO, 32 bits; R428). -/
def Reg.SEC_TAG_FAIL : Nat := 0x3009c
/-- SEC_REPLAY: SCNT rejections, saturating (RO, 32 bits; R428). -/
def Reg.SEC_REPLAY : Nat := 0x300a0
/-- SEC_AUTH_REJ: E_AUTH returned, saturating (RO, 32 bits; R428). -/
def Reg.SEC_AUTH_REJ : Nat := 0x300a4
/-- SEC_PRIV_REJ: E_PRIV returned, saturating (RO, 32 bits; R428). -/
def Reg.SEC_PRIV_REJ : Nat := 0x300a8
/-- SEC_S_STAT: slot state (RO, 32 bits, n below 16; R428). -/
def Reg.SEC_S_STAT (n : Nat) : Nat := 0x30100 + n * 0x20
def Fld.SEC_S_STAT_OPEN : Fld := ⟨31, 31⟩
def Fld.SEC_S_STAT_ROLE : Fld := ⟨30, 28⟩
def Fld.SEC_S_STAT_PATH : Fld := ⟨20, 16⟩
def Fld.SEC_S_STAT_SID : Fld := ⟨15, 0⟩
/-- SEC_S_KEY: [7:0] KEYSEL (RO, 32 bits, n below 16; R428). -/
def Reg.SEC_S_KEY (n : Nat) : Nat := 0x30104 + n * 0x20
/-- SEC_S_T_OPEN: GTIME at opening (RO, 64 bits, n below 16; R428). -/
def Reg.SEC_S_T_OPEN (n : Nat) : Nat := 0x30108 + n * 0x20
/-- SEC_S_SCNT: last SCNT accepted (RO, 64 bits, n below 16; R428). -/
def Reg.SEC_S_SCNT (n : Nat) : Nat := 0x30110 + n * 0x20
/-- SEC_S_IDLE: [11:0] seconds left before idle timeout (RO, 32 bits, n below 16; R428). -/
def Reg.SEC_S_IDLE (n : Nat) : Nat := 0x30118 + n * 0x20
/-- FSE_STATUS: engine state (RO, 32 bits; R449). -/
def Reg.FSE_STATUS : Nat := 0x40000
def Fld.FSE_STATUS_BUSY : Fld := ⟨31, 31⟩
def Fld.FSE_STATUS_SOURCE : Fld := ⟨30, 30⟩
def Fld.FSE_STATUS_LAST : Fld := ⟨23, 16⟩
/-- FSE_EVENTS: event bits (W1C, 32 bits; R449). -/
def Reg.FSE_EVENTS : Nat := 0x40004
def Fld.FSE_EVENTS_INVALID : Fld := ⟨3, 3⟩
def Fld.FSE_EVENTS_MARGINAL : Fld := ⟨2, 2⟩
def Fld.FSE_EVENTS_REINFORCED : Fld := ⟨1, 1⟩
def Fld.FSE_EVENTS_DONE : Fld := ⟨0, 0⟩
/-- FSE_CMD: [3:0] 0x1 SENSE, 0x2 REINFORCE; reads zero (RW, 32 bits; R449). -/
def Reg.FSE_CMD : Nat := 0x40008
def Fld.FSE_CMD_CMD : Fld := ⟨3, 0⟩
/-- FSE_RSEL: word selected for reading (RW, 32 bits; R449). -/
def Reg.FSE_RSEL : Nat := 0x4000c
def Fld.FSE_RSEL_REF : Fld := ⟨31, 31⟩
def Fld.FSE_RSEL_REGION : Fld := ⟨19, 16⟩
def Fld.FSE_RSEL_WORD : Fld := ⟨5, 0⟩
/-- FSE_RDATA: selected word (RO, 64 bits; R449). -/
def Reg.FSE_RDATA : Nat := 0x40010
/-- FSE_T_SENSE: GTIME of the last sense (RO, 64 bits; R449). -/
def Reg.FSE_T_SENSE : Nat := 0x40018
/-- FSE_THERM: [9:0] count in effect of thermometer t (RO, 32 bits, i below 4; R449). -/
def Reg.FSE_THERM (i : Nat) : Nat := 0x40020 + i * 4
/-- FSE_MARG_CNT: marginal bits at the last sense, saturating (RO, 32 bits; R449). -/
def Reg.FSE_MARG_CNT : Nat := 0x40030
/-- FSE_PULSES: pulses since reset, saturating (RO, 32 bits; R449). -/
def Reg.FSE_PULSES : Nat := 0x40034
/-- FSE_REG_STAT: state of region n (RO, 32 bits, i below 16; R449). -/
def Reg.FSE_REG_STAT (i : Nat) : Nat := 0x40040 + i * 4
def Fld.FSE_REG_STAT_STATE : Fld := ⟨31, 29⟩
def Fld.FSE_REG_STAT_LOCKED : Fld := ⟨28, 28⟩
def Fld.FSE_REG_STAT_SLOCK : Fld := ⟨27, 27⟩
def Fld.FSE_REG_STAT_REASON : Fld := ⟨26, 24⟩
def Fld.FSE_REG_STAT_INDEX : Fld := ⟨23, 16⟩
def Fld.FSE_REG_STAT_MARG : Fld := ⟨15, 8⟩
def Fld.FSE_REG_STAT_UNSTABLE : Fld := ⟨7, 0⟩
/-- FSE_SLOCK: sticky lock of region n (WO1, 32 bits, i below 16; R449). -/
def Reg.FSE_SLOCK (i : Nat) : Nat := 0x40080 + i * 4
def Fld.FSE_SLOCK_SLOCK : Fld := ⟨0, 0⟩
/-- UPD_STATUS: staging and trial state (RO, 32 bits; R482). -/
def Reg.UPD_STATUS : Nat := 0x50000
def Fld.UPD_STATUS_BUSY : Fld := ⟨31, 31⟩
def Fld.UPD_STATUS_STATE : Fld := ⟨30, 28⟩
def Fld.UPD_STATUS_TYPE : Fld := ⟨27, 27⟩
def Fld.UPD_STATUS_RECOVERY : Fld := ⟨26, 26⟩
def Fld.UPD_STATUS_TRIAL : Fld := ⟨25, 25⟩
def Fld.UPD_STATUS_FLOOR_PEND : Fld := ⟨24, 24⟩
def Fld.UPD_STATUS_LAST : Fld := ⟨23, 16⟩
/-- UPD_EVENTS: event bits (W1C, 32 bits; R482). -/
def Reg.UPD_EVENTS : Nat := 0x50004
def Fld.UPD_EVENTS_ROLLED_BACK : Fld := ⟨3, 3⟩
def Fld.UPD_EVENTS_CONFIRMED : Fld := ⟨2, 2⟩
def Fld.UPD_EVENTS_ACTIVATED : Fld := ⟨1, 1⟩
def Fld.UPD_EVENTS_DONE : Fld := ⟨0, 0⟩
/-- UPD_CMD: [3:0] 0x1 BEGIN, 0x2 CHUNK, 0x3 VERIFY, 0x4 ACTIVATE, 0x5 CONFIRM, 0x6 ROLLBACK, 0x7 ABORT; reads zero (RW, 32 bits; R482). -/
def Reg.UPD_CMD : Nat := 0x50008
def Fld.UPD_CMD_CMD : Fld := ⟨3, 0⟩
/-- UPD_ARG: [8:0] chunk index for CHUNK (RW, 32 bits; R482). -/
def Reg.UPD_ARG : Nat := 0x5000c
def Fld.UPD_ARG_INDEX : Fld := ⟨8, 0⟩
/-- UPD_BOOT: outcome of the last load (RO, 32 bits; R482). -/
def Reg.UPD_BOOT : Nat := 0x50010
def Fld.UPD_BOOT_SOURCE : Fld := ⟨31, 30⟩
def Fld.UPD_BOOT_ACT : Fld := ⟨29, 29⟩
def Fld.UPD_BOOT_TBOOTS : Fld := ⟨28, 27⟩
def Fld.UPD_BOOT_FW_STATUS : Fld := ⟨23, 16⟩
def Fld.UPD_BOOT_FW_CHECK : Fld := ⟨15, 8⟩
/-- UPD_STG_NEXT: [9:0] next chunk expected (RO, 32 bits; R482). -/
def Reg.UPD_STG_NEXT : Nat := 0x50014
/-- UPD_STG_TOTAL: [9:0] n of the staged package (RO, 32 bits; R482). -/
def Reg.UPD_STG_TOTAL : Nat := 0x50018
/-- UPD_TRIAL: ms of SERVICE on trial, saturating (RO, 32 bits; R482). -/
def Reg.UPD_TRIAL : Nat := 0x5001c
/-- UPD_SPW: SPW in effect (RO, 64 bits; R482). -/
def Reg.UPD_SPW : Nat := 0x50020
/-- UPD_CFG_GEN: configuration generation in effect; 0 when empty (RO, 32 bits; R482). -/
def Reg.UPD_CFG_GEN : Nat := 0x50028
/-- UPD_SET_CUR: settings generation CUR (RO, 32 bits; R482). -/
def Reg.UPD_SET_CUR : Nat := 0x5002c
/-- UPD_SET_KEPT: settings generation KEPT; 0 when none (RO, 32 bits; R482). -/
def Reg.UPD_SET_KEPT : Nat := 0x50030
/-- UPD_CFG_LOG: slot i at the last load: [31:24] status, [23:0] generation, bits [23:0] (RO, 32 bits, i below 8; R482). -/
def Reg.UPD_CFG_LOG (i : Nat) : Nat := 0x50040 + i * 4
/-- UPD_HASH: manifest hash of slot ACT, bytes 4i to 4i + 3 (RO, 32 bits, i below 16; R482). -/
def Reg.UPD_HASH (i : Nat) : Nat := 0x50060 + i * 4
/-- UPD_FLOOR: [9:0] floor of MGC, RAE, PHY, SEC (RO, 32 bits, i below 4; R482). -/
def Reg.UPD_FLOOR (i : Nat) : Nat := 0x500a0 + i * 4
/-- UPD_WIN: chunk window (RW, 32 bits, i below 4096; R482). -/
def Reg.UPD_WIN (i : Nat) : Nat := 0x54000 + i * 4
/-- GLB_ID: part, stepping, register map format; public (RO, 32 bits; R508). -/
def Reg.GLB_ID : Nat := 0x0
def Fld.GLB_ID_PART : Fld := ⟨31, 16⟩
def Fld.GLB_ID_STEPPING : Fld := ⟨15, 8⟩
def Fld.GLB_ID_MAPFMT : Fld := ⟨7, 0⟩
/-- GLB_EVENTS: event bits (W1C, 32 bits; R508). -/
def Reg.GLB_EVENTS : Nat := 0x4
def Fld.GLB_EVENTS_COMMIT_REJ : Fld := ⟨2, 2⟩
def Fld.GLB_EVENTS_ACCESS_REJ : Fld := ⟨1, 1⟩
def Fld.GLB_EVENTS_COMMIT : Fld := ⟨0, 0⟩
/-- GLB_SERIAL: serial number, as in IDENTITY (R425); public (RO, 64 bits; R508). -/
def Reg.GLB_SERIAL : Nat := 0x8
/-- GLB_MODE: mode (R22); public (RO, 32 bits; R508). -/
def Reg.GLB_MODE : Nat := 0x10
def Fld.GLB_MODE_TRANS : Fld := ⟨31, 31⟩
def Fld.GLB_MODE_WARM : Fld := ⟨8, 8⟩
def Fld.GLB_MODE_TARGET : Fld := ⟨7, 4⟩
def Fld.GLB_MODE_MODE : Fld := ⟨3, 0⟩
/-- GLB_MODE_REQ: [3:0] target mode code (R25); reads zero (RW, 32 bits; R508). -/
def Reg.GLB_MODE_REQ : Nat := 0x14
def Fld.GLB_MODE_REQ_TARGET : Fld := ⟨3, 0⟩
/-- GLB_CAP: capability flags (R30) (RO, 32 bits; R508). -/
def Reg.GLB_CAP : Nat := 0x18
/-- GLB_BOOT: outcome of the last load; public (RO, 32 bits; R508). -/
def Reg.GLB_BOOT : Nat := 0x1c
def Fld.GLB_BOOT_WARM : Fld := ⟨31, 31⟩
def Fld.GLB_BOOT_RESULT : Fld := ⟨30, 28⟩
def Fld.GLB_BOOT_CFG_FALLBACK : Fld := ⟨27, 27⟩
def Fld.GLB_BOOT_FW_FALLBACK : Fld := ⟨26, 26⟩
def Fld.GLB_BOOT_GEN : Fld := ⟨23, 0⟩
/-- GLB_GTIME: GTIME (R16) (RO, 64 bits; R508). -/
def Reg.GLB_GTIME : Nat := 0x20
/-- GLB_GCFG: GLOBAL entry in effect (RO, 32 bits; R508). -/
def Reg.GLB_GCFG : Nat := 0x28
def Fld.GLB_GCFG_ALERT_CHAINS : Fld := ⟨31, 16⟩
def Fld.GLB_GCFG_HOLD_LINKS : Fld := ⟨8, 8⟩
def Fld.GLB_GCFG_DEFPOINT : Fld := ⟨5, 4⟩
def Fld.GLB_GCFG_NSEV : Fld := ⟨1, 0⟩
/-- GLB_COMMIT: commit or discard; reads zero (RW, 32 bits; R508). -/
def Reg.GLB_COMMIT : Nat := 0x30
def Fld.GLB_COMMIT_DISCARD : Fld := ⟨31, 31⟩
def Fld.GLB_COMMIT_MASK : Fld := ⟨15, 0⟩
/-- GLB_COMMIT_STAT: last commit or discard (RO, 32 bits; R508). -/
def Reg.GLB_COMMIT_STAT : Nat := 0x34
def Fld.GLB_COMMIT_STAT_STATUS : Fld := ⟨31, 24⟩
def Fld.GLB_COMMIT_STAT_DISCARD : Fld := ⟨23, 23⟩
def Fld.GLB_COMMIT_STAT_PATH : Fld := ⟨20, 16⟩
def Fld.GLB_COMMIT_STAT_MASK : Fld := ⟨15, 0⟩
/-- GLB_COMMIT_T: GTIME of the last commit cycle (RO, 64 bits; R508). -/
def Reg.GLB_COMMIT_T : Nat := 0x38
/-- GLB_COMMIT_PEND: [15:0] bit g: group g holds a shadow written since its last commit or discard (RO, 32 bits; R508). -/
def Reg.GLB_COMMIT_PEND : Nat := 0x40
/-- GLB_COMMITS: commits that passed, saturating (RO, 32 bits; R508). -/
def Reg.GLB_COMMITS : Nat := 0x44
/-- GLB_COMMIT_REJ: commits rejected, saturating (RO, 32 bits; R508). -/
def Reg.GLB_COMMIT_REJ : Nat := 0x48
/-- GLB_ERR_ADDR: address of the last rejected access (RO, 32 bits; R508). -/
def Reg.GLB_ERR_ADDR : Nat := 0x50
/-- GLB_ERR_INFO: detail of the last rejected access (RO, 32 bits; R508). -/
def Reg.GLB_ERR_INFO : Nat := 0x54
def Fld.GLB_ERR_INFO_STATUS : Fld := ⟨31, 24⟩
def Fld.GLB_ERR_INFO_PATH : Fld := ⟨23, 19⟩
def Fld.GLB_ERR_INFO_WRITE : Fld := ⟨18, 18⟩
def Fld.GLB_ERR_INFO_SIZE : Fld := ⟨17, 16⟩
def Fld.GLB_ERR_INFO_SID : Fld := ⟨15, 0⟩
/-- GLB_ERR_CNT: rejected accesses, saturating (RO, 32 bits; R508). -/
def Reg.GLB_ERR_CNT : Nat := 0x58
/-- GLB_SCRATCH: free for the host; no effect (RW, 32 bits, i below 4; R508). -/
def Reg.GLB_SCRATCH (i : Nat) : Nat := 0x60 + i * 4
/-- GLB_I3C_STAT: I3C port state (RO, 32 bits; R508). -/
def Reg.GLB_I3C_STAT : Nat := 0x70
def Fld.GLB_I3C_STAT_DA_VALID : Fld := ⟨31, 31⟩
def Fld.GLB_I3C_STAT_DA : Fld := ⟨30, 24⟩
def Fld.GLB_I3C_STAT_BADFRAME : Fld := ⟨23, 16⟩
def Fld.GLB_I3C_STAT_DROPPED : Fld := ⟨15, 0⟩
/-- VXU_GCMD: unit mask and command; reads zero (RW, 32 bits; R78). -/
def Reg.VXU_GCMD : Nat := 0x410000
def Fld.VXU_GCMD_MASK : Fld := ⟨31, 16⟩
def Fld.VXU_GCMD_CMD : Fld := ⟨3, 0⟩

end Sys2Proof
end

