-- ==== Sys2Proof/Machine/RegMap.lean ====
section
/-! DEFINITION. Sys2Proof/Machine/RegMap.lean: the register map of R507 and the owning chapters as one table, a row per
register of the register tables: where its words lie, which of its bits are RW, RWS, W1C and WO1 (R4), and the commit
group of its RWS fields (R502). `resetWord` is the Reset column (R3); a register whose table gives no Reset reads zero
(DESIGN CHOICE, notes/assumptions/2.md). -/
namespace Sys2Proof.Machine

/-- One register of a register table: `count` banks `stride` bytes apart from `base` (a stride of 0: one bank); in each
bank `arr` elements of `width` bytes from offset `off`; the writable bits by access code (R4); the commit group of R502
(6: none). -/
structure RegRow where
  base : Nat
  stride : Nat
  count : Nat
  off : Nat
  width : Nat
  arr : Nat
  rw : Nat
  rws : Nat
  w1c : Nat
  wo1 : Nat
  group : Nat
deriving DecidableEq, Repr

/-- The byte address `a` lies in the register. -/
def RegRow.covers (r : RegRow) (a : Nat) : Bool :=
  let start := r.base + r.off
  if a < start then false
  else
    let d := a - start
    if r.stride = 0 then d < r.arr * r.width
    else d / r.stride < r.count && d % r.stride < r.arr * r.width

/-- The bank number of an address the row covers. -/
def RegRow.bank (r : RegRow) (a : Nat) : Nat :=
  if r.stride = 0 then 0 else (a - (r.base + r.off)) / r.stride

/-- The writable bits of the register, by whatever access code. -/
def RegRow.writable (r : RegRow) : Nat := r.rw ||| r.rws ||| r.w1c ||| r.wo1

/-- The registers of block GLB. -/
def regMapGlb : List RegRow := [
  ⟨0x0, 0x0, 1, 0x0, 4, 1, 0x0, 0x0, 0x0, 0x0, 6⟩, -- GLB_ID (R508)
  ⟨0x0, 0x0, 1, 0x4, 4, 1, 0x0, 0x0, 0x7, 0x0, 6⟩, -- GLB_EVENTS (R508)
  ⟨0x0, 0x0, 1, 0x8, 8, 1, 0x0, 0x0, 0x0, 0x0, 6⟩, -- GLB_SERIAL (R508)
  ⟨0x0, 0x0, 1, 0x10, 4, 1, 0x0, 0x0, 0x0, 0x0, 6⟩, -- GLB_MODE (R508)
  ⟨0x0, 0x0, 1, 0x14, 4, 1, 0xf, 0x0, 0x0, 0x0, 6⟩, -- GLB_MODE_REQ (R508)
  ⟨0x0, 0x0, 1, 0x18, 4, 1, 0x0, 0x0, 0x0, 0x0, 6⟩, -- GLB_CAP (R508)
  ⟨0x0, 0x0, 1, 0x1c, 4, 1, 0x0, 0x0, 0x0, 0x0, 6⟩, -- GLB_BOOT (R508)
  ⟨0x0, 0x0, 1, 0x20, 8, 1, 0x0, 0x0, 0x0, 0x0, 6⟩, -- GLB_GTIME (R508)
  ⟨0x0, 0x0, 1, 0x28, 4, 1, 0x0, 0x0, 0x0, 0x0, 6⟩, -- GLB_GCFG (R508)
  ⟨0x0, 0x0, 1, 0x30, 4, 1, 0x8000ffff, 0x0, 0x0, 0x0, 6⟩, -- GLB_COMMIT (R508)
  ⟨0x0, 0x0, 1, 0x34, 4, 1, 0x0, 0x0, 0x0, 0x0, 6⟩, -- GLB_COMMIT_STAT (R508)
  ⟨0x0, 0x0, 1, 0x38, 8, 1, 0x0, 0x0, 0x0, 0x0, 6⟩, -- GLB_COMMIT_T (R508)
  ⟨0x0, 0x0, 1, 0x40, 4, 1, 0x0, 0x0, 0x0, 0x0, 6⟩, -- GLB_COMMIT_PEND (R508)
  ⟨0x0, 0x0, 1, 0x44, 4, 1, 0x0, 0x0, 0x0, 0x0, 6⟩, -- GLB_COMMITS (R508)
  ⟨0x0, 0x0, 1, 0x48, 4, 1, 0x0, 0x0, 0x0, 0x0, 6⟩, -- GLB_COMMIT_REJ (R508)
  ⟨0x0, 0x0, 1, 0x50, 4, 1, 0x0, 0x0, 0x0, 0x0, 6⟩, -- GLB_ERR_ADDR (R508)
  ⟨0x0, 0x0, 1, 0x54, 4, 1, 0x0, 0x0, 0x0, 0x0, 6⟩, -- GLB_ERR_INFO (R508)
  ⟨0x0, 0x0, 1, 0x58, 4, 1, 0x0, 0x0, 0x0, 0x0, 6⟩, -- GLB_ERR_CNT (R508)
  ⟨0x0, 0x0, 1, 0x60, 4, 4, 0xffffffff, 0x0, 0x0, 0x0, 6⟩, -- GLB_SCRATCH (R508)
  ⟨0x0, 0x0, 1, 0x70, 4, 1, 0x0, 0x0, 0x0, 0x0, 6⟩  -- GLB_I3C_STAT (R508)
  ]

/-- The registers of block FLT. -/
def regMapFlt : List RegRow := [
  ⟨0x10000, 0x0, 1, 0x0, 4, 1, 0x0, 0x0, 0x0, 0x0, 6⟩, -- FLT_STATUS (R399)
  ⟨0x10000, 0x0, 1, 0x4, 4, 1, 0x0, 0x0, 0x0, 0x0, 6⟩, -- FLT_SUMMARY (R399)
  ⟨0x10000, 0x0, 1, 0x8, 4, 1, 0x0, 0x33, 0x0, 0x0, 4⟩, -- FLT_CFG (R399)
  ⟨0x10000, 0x0, 1, 0xc, 4, 1, 0xf, 0x0, 0x0, 0x0, 6⟩, -- FLT_CMD (R399)
  ⟨0x10000, 0x0, 1, 0x10, 4, 4, 0x0, 0x0, 0xffffffff, 0x0, 6⟩, -- FLT_STICKY (R399)
  ⟨0x10000, 0x0, 1, 0x20, 4, 4, 0x0, 0xffffffff, 0x0, 0x0, 4⟩, -- FLT_MASK (R399)
  ⟨0x10000, 0x0, 1, 0x30, 4, 4, 0xffffffff, 0x0, 0x0, 0x0, 6⟩, -- FLT_FORCE (R399)
  ⟨0x10000, 0x0, 1, 0x40, 4, 8, 0x0, 0x0, 0x0, 0x0, 6⟩, -- FLT_SEV (R399)
  ⟨0x10000, 0x0, 1, 0x60, 4, 1, 0x0, 0x0, 0x0, 0x0, 6⟩, -- FLT_HIST_NEXT (R399)
  ⟨0x10000, 0x0, 1, 0x64, 4, 1, 0xffffffff, 0x0, 0x0, 0x0, 6⟩, -- FLT_HIST_IDX (R399)
  ⟨0x10000, 0x0, 1, 0x68, 4, 1, 0x0, 0x0, 0x0, 0x0, 6⟩, -- FLT_HIST_LOST (R399)
  ⟨0x10000, 0x0, 1, 0x6c, 4, 1, 0x0, 0x0, 0x0, 0x0, 6⟩, -- FLT_SUPPRESSED (R399)
  ⟨0x10000, 0x0, 1, 0x80, 4, 8, 0x0, 0x0, 0x0, 0x0, 6⟩, -- FLT_HIST_ENT (R399)
  ⟨0x10000, 0x0, 1, 0xa0, 8, 1, 0x0, 0x0, 0x0, 0x0, 6⟩, -- FLT_LED_NEXT (R399)
  ⟨0x10000, 0x0, 1, 0xa8, 8, 1, 0xffffffffffffffff, 0x0, 0x0, 0x0, 6⟩, -- FLT_LED_IDX (R399)
  ⟨0x10000, 0x0, 1, 0xb0, 4, 1, 0x0, 0x0, 0x0, 0x0, 6⟩, -- FLT_LED_LOST (R399)
  ⟨0x10000, 0x0, 1, 0xc0, 4, 8, 0x0, 0x0, 0x0, 0x0, 6⟩, -- FLT_LED_ENT (R399)
  ⟨0x10000, 0x0, 1, 0xe0, 8, 1, 0x0, 0x0, 0x0, 0x0, 6⟩, -- FLT_LAST_FATAL (R399)
  ⟨0x10000, 0x0, 1, 0x100, 8, 1, 0x0, 0x0, 0x0, 0x0, 6⟩, -- FLT_AV_UNSCHED (R399)
  ⟨0x10000, 0x0, 1, 0x108, 8, 1, 0x0, 0x0, 0x0, 0x0, 6⟩, -- FLT_AV_AVAIL (R399)
  ⟨0x10000, 0x0, 1, 0x110, 4, 1, 0x0, 0x0, 0x0, 0x0, 6⟩, -- FLT_AV_52W (R399)
  ⟨0x10000, 0x0, 1, 0x114, 4, 1, 0x0, 0x0, 0x0, 0x0, 6⟩, -- FLT_AV_PPB (R399)
  ⟨0x10000, 0x0, 1, 0x118, 4, 1, 0x0, 0x0, 0x0, 0x0, 6⟩, -- FLT_AV_LOADS (R399)
  ⟨0x10000, 0x0, 1, 0x11c, 4, 1, 0x0, 0x0, 0x0, 0x0, 6⟩  -- FLT_AV_SAFES (R399)
  ]

/-- The registers of block PMC. -/
def regMapPmc : List RegRow := [
  ⟨0x20000, 0x0, 1, 0x0, 4, 1, 0x0, 0x0, 0x0, 0x0, 6⟩, -- PMC_STATUS (R402)
  ⟨0x20000, 0x0, 1, 0x4, 4, 1, 0x0, 0x0, 0x7, 0x0, 6⟩, -- PMC_EVENTS (R402)
  ⟨0x20000, 0x0, 1, 0x8, 4, 1, 0x0, 0xffffffff, 0x0, 0x0, 5⟩, -- PMC_CFG (R402)
  ⟨0x20000, 0x0, 1, 0x10, 8, 1, 0x0, 0x0, 0x0, 0x0, 6⟩, -- PMC_DSEQ (R402)
  ⟨0x20000, 0x0, 1, 0x18, 8, 1, 0x0, 0x0, 0x0, 0x0, 6⟩, -- PMC_DMP_WPTR (R402)
  ⟨0x20000, 0x0, 1, 0x20, 4, 1, 0x0, 0x0, 0x0, 0x0, 6⟩, -- PMC_DMP_WRAPS (R402)
  ⟨0x20000, 0x0, 1, 0x24, 4, 1, 0x0, 0x0, 0x0, 0x0, 6⟩, -- PMC_DMP_SKIP (R402)
  ⟨0x20000, 0x0, 1, 0x28, 4, 1, 0x0, 0x0, 0x0, 0x0, 6⟩, -- PMC_SMP_LOST (R402)
  ⟨0x20000, 0x0, 1, 0x40, 4, 4, 0x0, 0x0, 0xffffffff, 0x0, 6⟩, -- PMC_OVF (R402)
  ⟨0x21000, 0x10, 128, 0x0, 4, 1, 0xffff80ff, 0x0, 0x0, 0x0, 6⟩, -- PMC_SEL (R402)
  ⟨0x21000, 0x10, 128, 0x4, 4, 1, 0xffffffff, 0x0, 0x0, 0x0, 6⟩, -- PMC_SPER (R402)
  ⟨0x21000, 0x10, 128, 0x8, 8, 1, 0xffffffffffff, 0x0, 0x0, 0x0, 6⟩  -- PMC_CNT (R402)
  ]

/-- The registers of block SEC. -/
def regMapSec : List RegRow := [
  ⟨0x30000, 0x0, 1, 0x0, 4, 1, 0x0, 0x0, 0x0, 0x0, 6⟩, -- SEC_STATUS (R428)
  ⟨0x30000, 0x0, 1, 0x4, 4, 1, 0x0, 0x0, 0x3f, 0x0, 6⟩, -- SEC_EVENTS (R428)
  ⟨0x30000, 0x0, 1, 0x8, 4, 1, 0x0, 0x0, 0x0, 0x0, 6⟩, -- SEC_SELF (R428)
  ⟨0x30000, 0x0, 1, 0xc, 4, 1, 0x80000003, 0x0, 0x0, 0x0, 6⟩, -- SEC_DBG_CTL (R428)
  ⟨0x30000, 0x0, 1, 0x10, 4, 16, 0x0, 0x0, 0x0, 0x0, 6⟩, -- SEC_UID (R428)
  ⟨0x30000, 0x0, 1, 0x50, 4, 16, 0x0, 0x0, 0x0, 0x0, 6⟩, -- SEC_ANCHOR (R428)
  ⟨0x30000, 0x0, 1, 0x90, 8, 1, 0x0, 0x0, 0x0, 0x0, 6⟩, -- SEC_OPEN_CNT (R428)
  ⟨0x30000, 0x0, 1, 0x98, 4, 1, 0x0, 0x0, 0x0, 0x0, 6⟩, -- SEC_OPEN_FAIL (R428)
  ⟨0x30000, 0x0, 1, 0x9c, 4, 1, 0x0, 0x0, 0x0, 0x0, 6⟩, -- SEC_TAG_FAIL (R428)
  ⟨0x30000, 0x0, 1, 0xa0, 4, 1, 0x0, 0x0, 0x0, 0x0, 6⟩, -- SEC_REPLAY (R428)
  ⟨0x30000, 0x0, 1, 0xa4, 4, 1, 0x0, 0x0, 0x0, 0x0, 6⟩, -- SEC_AUTH_REJ (R428)
  ⟨0x30000, 0x0, 1, 0xa8, 4, 1, 0x0, 0x0, 0x0, 0x0, 6⟩, -- SEC_PRIV_REJ (R428)
  ⟨0x30100, 0x20, 16, 0x0, 4, 1, 0x0, 0x0, 0x0, 0x0, 6⟩, -- SEC_S_STAT (R428)
  ⟨0x30100, 0x20, 16, 0x4, 4, 1, 0x0, 0x0, 0x0, 0x0, 6⟩, -- SEC_S_KEY (R428)
  ⟨0x30100, 0x20, 16, 0x8, 8, 1, 0x0, 0x0, 0x0, 0x0, 6⟩, -- SEC_S_T_OPEN (R428)
  ⟨0x30100, 0x20, 16, 0x10, 8, 1, 0x0, 0x0, 0x0, 0x0, 6⟩, -- SEC_S_SCNT (R428)
  ⟨0x30100, 0x20, 16, 0x18, 4, 1, 0x0, 0x0, 0x0, 0x0, 6⟩  -- SEC_S_IDLE (R428)
  ]

/-- The registers of block FSE. -/
def regMapFse : List RegRow := [
  ⟨0x40000, 0x0, 1, 0x0, 4, 1, 0x0, 0x0, 0x0, 0x0, 6⟩, -- FSE_STATUS (R449)
  ⟨0x40000, 0x0, 1, 0x4, 4, 1, 0x0, 0x0, 0xf, 0x0, 6⟩, -- FSE_EVENTS (R449)
  ⟨0x40000, 0x0, 1, 0x8, 4, 1, 0xf, 0x0, 0x0, 0x0, 6⟩, -- FSE_CMD (R449)
  ⟨0x40000, 0x0, 1, 0xc, 4, 1, 0x800f003f, 0x0, 0x0, 0x0, 6⟩, -- FSE_RSEL (R449)
  ⟨0x40000, 0x0, 1, 0x10, 8, 1, 0x0, 0x0, 0x0, 0x0, 6⟩, -- FSE_RDATA (R449)
  ⟨0x40000, 0x0, 1, 0x18, 8, 1, 0x0, 0x0, 0x0, 0x0, 6⟩, -- FSE_T_SENSE (R449)
  ⟨0x40000, 0x0, 1, 0x20, 4, 4, 0x0, 0x0, 0x0, 0x0, 6⟩, -- FSE_THERM (R449)
  ⟨0x40000, 0x0, 1, 0x30, 4, 1, 0x0, 0x0, 0x0, 0x0, 6⟩, -- FSE_MARG_CNT (R449)
  ⟨0x40000, 0x0, 1, 0x34, 4, 1, 0x0, 0x0, 0x0, 0x0, 6⟩, -- FSE_PULSES (R449)
  ⟨0x40000, 0x0, 1, 0x40, 4, 16, 0x0, 0x0, 0x0, 0x0, 6⟩, -- FSE_REG_STAT (R449)
  ⟨0x40000, 0x0, 1, 0x80, 4, 16, 0x0, 0x0, 0x0, 0x1, 6⟩  -- FSE_SLOCK (R449)
  ]

/-- The registers of block UPD. -/
def regMapUpd : List RegRow := [
  ⟨0x50000, 0x0, 1, 0x0, 4, 1, 0x0, 0x0, 0x0, 0x0, 6⟩, -- UPD_STATUS (R482)
  ⟨0x50000, 0x0, 1, 0x4, 4, 1, 0x0, 0x0, 0xf, 0x0, 6⟩, -- UPD_EVENTS (R482)
  ⟨0x50000, 0x0, 1, 0x8, 4, 1, 0xf, 0x0, 0x0, 0x0, 6⟩, -- UPD_CMD (R482)
  ⟨0x50000, 0x0, 1, 0xc, 4, 1, 0x1ff, 0x0, 0x0, 0x0, 6⟩, -- UPD_ARG (R482)
  ⟨0x50000, 0x0, 1, 0x10, 4, 1, 0x0, 0x0, 0x0, 0x0, 6⟩, -- UPD_BOOT (R482)
  ⟨0x50000, 0x0, 1, 0x14, 4, 1, 0x0, 0x0, 0x0, 0x0, 6⟩, -- UPD_STG_NEXT (R482)
  ⟨0x50000, 0x0, 1, 0x18, 4, 1, 0x0, 0x0, 0x0, 0x0, 6⟩, -- UPD_STG_TOTAL (R482)
  ⟨0x50000, 0x0, 1, 0x1c, 4, 1, 0x0, 0x0, 0x0, 0x0, 6⟩, -- UPD_TRIAL (R482)
  ⟨0x50000, 0x0, 1, 0x20, 8, 1, 0x0, 0x0, 0x0, 0x0, 6⟩, -- UPD_SPW (R482)
  ⟨0x50000, 0x0, 1, 0x28, 4, 1, 0x0, 0x0, 0x0, 0x0, 6⟩, -- UPD_CFG_GEN (R482)
  ⟨0x50000, 0x0, 1, 0x2c, 4, 1, 0x0, 0x0, 0x0, 0x0, 6⟩, -- UPD_SET_CUR (R482)
  ⟨0x50000, 0x0, 1, 0x30, 4, 1, 0x0, 0x0, 0x0, 0x0, 6⟩, -- UPD_SET_KEPT (R482)
  ⟨0x50000, 0x0, 1, 0x40, 4, 8, 0x0, 0x0, 0x0, 0x0, 6⟩, -- UPD_CFG_LOG (R482)
  ⟨0x50000, 0x0, 1, 0x60, 4, 16, 0x0, 0x0, 0x0, 0x0, 6⟩, -- UPD_HASH (R482)
  ⟨0x50000, 0x0, 1, 0xa0, 4, 4, 0x0, 0x0, 0x0, 0x0, 6⟩, -- UPD_FLOOR (R482)
  ⟨0x50000, 0x0, 1, 0x4000, 4, 4096, 0xffffffff, 0x0, 0x0, 0x0, 6⟩  -- UPD_WIN (R482)
  ]

/-- The registers of block THM. -/
def regMapThm : List RegRow := [
  ⟨0x60000, 0x0, 1, 0x0, 4, 1, 0x0, 0x0, 0x0, 0x0, 6⟩, -- THM_STATUS (R365)
  ⟨0x60000, 0x0, 1, 0x4, 4, 1, 0x0, 0x0, 0x7f, 0x0, 6⟩, -- THM_EVENTS (R365)
  ⟨0x60000, 0x0, 1, 0x8, 4, 1, 0x0, 0x0, 0x0, 0x0, 6⟩, -- THM_HOT (R365)
  ⟨0x60000, 0x0, 1, 0xc, 4, 1, 0x0, 0x0, 0x0, 0x0, 6⟩, -- THM_CFG (R365)
  ⟨0x60000, 0x0, 1, 0x10, 4, 3, 0x0, 0x0, 0x0, 0x0, 6⟩, -- THM_EXCL (R365)
  ⟨0x60000, 0x0, 1, 0x1c, 4, 1, 0x0, 0x0, 0x0, 0x0, 6⟩, -- THM_LID (R365)
  ⟨0x60000, 0x0, 1, 0x20, 4, 1, 0x0, 0x0, 0x0, 0x0, 6⟩, -- THM_BAND_CNT (R365)
  ⟨0x60000, 0x0, 1, 0x24, 4, 1, 0x0, 0x0, 0x0, 0x0, 6⟩, -- THM_THR_TIME (R365)
  ⟨0x60000, 0x0, 1, 0x28, 8, 1, 0x0, 0x0, 0x0, 0x0, 6⟩, -- THM_T_BAND (R365)
  ⟨0x60000, 0x0, 1, 0x30, 4, 1, 0xf, 0x0, 0x0, 0x0, 6⟩, -- THM_SHUT_IDX (R365)
  ⟨0x60000, 0x0, 1, 0x34, 4, 1, 0x0, 0x0, 0x0, 0x0, 6⟩, -- THM_SHUT_CNT (R365)
  ⟨0x60000, 0x0, 1, 0x38, 4, 4, 0x0, 0x0, 0x0, 0x0, 6⟩, -- THM_SHUT_REC (R365)
  ⟨0x60100, 0x10, 17, 0x0, 4, 1, 0x0, 0x0, 0x0, 0x0, 6⟩, -- THM_D_EST (R365)
  ⟨0x60100, 0x10, 17, 0x4, 4, 1, 0x0, 0x0, 0x0, 0x0, 6⟩, -- THM_D_MODEL (R365)
  ⟨0x60100, 0x10, 17, 0x8, 4, 1, 0x0, 0x0, 0x0, 0x0, 6⟩, -- THM_D_POWER (R365)
  ⟨0x60100, 0x10, 17, 0xc, 4, 1, 0x0, 0x0, 0x0, 0x0, 6⟩, -- THM_D_STAT (R365)
  ⟨0x60220, 0x8, 4, 0x0, 4, 1, 0x0, 0x0, 0x0, 0x0, 6⟩, -- THM_Z_EST (R365)
  ⟨0x60220, 0x8, 4, 0x4, 4, 1, 0x0, 0x0, 0x0, 0x0, 6⟩, -- THM_Z_MODEL (R365)
  ⟨0x60000, 0x0, 1, 0x400, 4, 76, 0x0, 0x0, 0x0, 0x0, 6⟩  -- THM_SENS (R365)
  ]

/-- The registers of block PWR. -/
def regMapPwr : List RegRow := [
  ⟨0x70000, 0x0, 1, 0x0, 4, 1, 0x0, 0x0, 0x0, 0x0, 6⟩, -- PWR_STATUS (R367)
  ⟨0x70000, 0x0, 1, 0x4, 4, 1, 0x0, 0x0, 0x3, 0x0, 6⟩, -- PWR_EVENTS (R367)
  ⟨0x70000, 0x0, 1, 0x8, 4, 1, 0x0, 0x0, 0x0, 0x0, 6⟩, -- PWR_DOM0 (R367)
  ⟨0x70000, 0x0, 1, 0xc, 4, 1, 0x0, 0x0, 0x0, 0x0, 6⟩, -- PWR_DOM1 (R367)
  ⟨0x70000, 0x0, 1, 0x10, 4, 1, 0x0, 0x0, 0x0, 0x0, 6⟩, -- PWR_RAIL_OFF (R367)
  ⟨0x70020, 0x10, 6, 0x0, 4, 1, 0x0, 0x0, 0x0, 0x0, 6⟩, -- PWR_R_I (R367)
  ⟨0x70020, 0x10, 6, 0x4, 4, 1, 0x0, 0x0, 0x0, 0x0, 6⟩, -- PWR_R_V (R367)
  ⟨0x70020, 0x10, 6, 0x8, 4, 1, 0x0, 0x0, 0x0, 0x0, 6⟩, -- PWR_R_IPEAK (R367)
  ⟨0x70020, 0x10, 6, 0xc, 4, 1, 0x0, 0x0, 0x0, 0x0, 6⟩, -- PWR_R_STAT (R367)
  ⟨0x70000, 0x0, 1, 0x80, 4, 1, 0x0, 0x0, 0x0, 0x0, 6⟩, -- PWR_EST_BASE (R367)
  ⟨0x70000, 0x0, 1, 0x84, 4, 1, 0x0, 0x0, 0x0, 0x0, 6⟩, -- PWR_EST_STACK (R367)
  ⟨0x70000, 0x0, 1, 0x88, 4, 1, 0xf, 0x0, 0x0, 0x0, 6⟩  -- PWR_CMD (R367)
  ]

/-- The registers of block CAL. -/
def regMapCal : List RegRow := [
  ⟨0x80000, 0x0, 1, 0x0, 4, 1, 0x0, 0x0, 0x0, 0x0, 6⟩, -- CAL_STATUS (R334)
  ⟨0x80000, 0x0, 1, 0x4, 4, 1, 0x0, 0x0, 0x3, 0x0, 6⟩, -- CAL_EVENTS (R334)
  ⟨0x80000, 0x0, 1, 0x8, 4, 1, 0x0, 0xffffff, 0x0, 0x0, 3⟩, -- CAL_CFG (R334)
  ⟨0x81000, 0x40, 32, 0x0, 8, 1, 0x0, 0x0, 0x0, 0x0, 6⟩, -- CAL_C_STEPS (R334)
  ⟨0x81000, 0x40, 32, 0x8, 4, 1, 0x0, 0x0, 0x0, 0x0, 6⟩, -- CAL_C_ACCEPT (R334)
  ⟨0x81000, 0x40, 32, 0xc, 4, 1, 0x0, 0x0, 0x0, 0x0, 6⟩, -- CAL_C_REJECT (R334)
  ⟨0x81000, 0x40, 32, 0x10, 4, 1, 0x0, 0x0, 0x0, 0x0, 6⟩, -- CAL_C_FORCED (R334)
  ⟨0x81000, 0x40, 32, 0x14, 4, 1, 0x0, 0x0, 0x0, 0x0, 6⟩, -- CAL_C_LAST_INFO (R334)
  ⟨0x81000, 0x40, 32, 0x18, 8, 1, 0x0, 0x0, 0x0, 0x0, 6⟩, -- CAL_C_LAST_TIME (R334)
  ⟨0x81000, 0x40, 32, 0x20, 8, 1, 0x0, 0x0, 0x0, 0x0, 6⟩, -- CAL_C_FULL_TIME (R334)
  ⟨0x81000, 0x40, 32, 0x28, 4, 1, 0x0, 0x0, 0x0, 0x0, 6⟩  -- CAL_C_DRIFT_MAX (R334)
  ]

/-- The registers of block BST. -/
def regMapBst : List RegRow := [
  ⟨0x90000, 0x0, 1, 0x0, 4, 1, 0x0, 0x0, 0x0, 0x0, 6⟩, -- BST_STATUS (R334)
  ⟨0x90000, 0x0, 1, 0x4, 4, 1, 0x0, 0x0, 0xff, 0x0, 6⟩, -- BST_EVENTS (R334)
  ⟨0x90000, 0x0, 1, 0x8, 4, 1, 0xf, 0x0, 0x0, 0x0, 6⟩, -- BST_CMD (R334)
  ⟨0x90000, 0x0, 1, 0xc, 4, 1, 0xffffffff, 0x0, 0x0, 0x0, 6⟩, -- BST_ARG (R334)
  ⟨0x90000, 0x0, 1, 0x10, 4, 1, 0x0, 0xfffffff, 0x0, 0x0, 3⟩, -- BST_TRV_CFG (R334)
  ⟨0x90000, 0x0, 1, 0x14, 4, 1, 0x0, 0xff7f1f, 0x0, 0x0, 3⟩, -- BST_LEG_CFG (R334)
  ⟨0x90000, 0x0, 1, 0x18, 8, 1, 0x0, 0x0, 0x0, 0x0, 6⟩, -- BST_LEGS (R334)
  ⟨0x90000, 0x0, 1, 0x20, 8, 1, 0x0, 0x0, 0x0, 0x0, 6⟩, -- BST_PASS (R334)
  ⟨0x90000, 0x0, 1, 0x28, 4, 1, 0x0, 0x0, 0x0, 0x0, 6⟩, -- BST_FAIL (R334)
  ⟨0x90000, 0x0, 1, 0x2c, 4, 1, 0x0, 0x0, 0x0, 0x0, 6⟩, -- BST_INCOMPLETE (R334)
  ⟨0x90000, 0x0, 1, 0x30, 4, 1, 0x0, 0x0, 0x0, 0x0, 6⟩, -- BST_PREEMPT (R334)
  ⟨0x90000, 0x0, 1, 0x34, 4, 1, 0x0, 0x0, 0x0, 0x0, 6⟩, -- BST_LAST_LEG (R334)
  ⟨0x90000, 0x0, 1, 0x38, 8, 1, 0x0, 0x0, 0x0, 0x0, 6⟩, -- BST_LAST_TIME (R334)
  ⟨0x90000, 0x0, 1, 0x40, 4, 1, 0x0, 0x0, 0x0, 0x0, 6⟩, -- BST_MIG_STATUS (R334)
  ⟨0x90000, 0x0, 1, 0x44, 4, 1, 0x0, 0x0, 0x0, 0x0, 6⟩, -- BST_MIG_SAVED (R334)
  ⟨0x90000, 0x0, 1, 0x48, 4, 1, 0x0, 0x0, 0x0, 0x0, 6⟩, -- BST_MIG_LOST (R334)
  ⟨0x90000, 0x0, 1, 0x4c, 4, 1, 0x0, 0x0, 0x0, 0x0, 6⟩, -- BST_RES_FREE (R334)
  ⟨0x90000, 0x0, 1, 0x50, 4, 1, 0x0, 0x0, 0x0, 0x0, 6⟩, -- BST_LOG_FILL (R334)
  ⟨0x90000, 0x0, 1, 0x54, 4, 1, 0x1fff, 0x0, 0x0, 0x0, 6⟩, -- BST_LOG_IDX (R334)
  ⟨0x90000, 0x0, 1, 0x58, 4, 1, 0x0, 0x0, 0x0, 0x0, 6⟩, -- BST_LOG_ENTRY (R334)
  ⟨0x90000, 0x0, 1, 0x5c, 4, 1, 0x0, 0x0, 0x0, 0x0, 6⟩, -- BST_DG_CLK (R334)
  ⟨0x91000, 0x40, 32, 0x0, 4, 1, 0x0, 0x0, 0x0, 0x0, 6⟩, -- BST_C_STATE (R334)
  ⟨0x91000, 0x40, 32, 0x4, 4, 1, 0x0, 0x0, 0x0, 0x0, 6⟩, -- BST_C_TRV_PTR (R334)
  ⟨0x91000, 0x40, 32, 0x8, 4, 1, 0x0, 0x0, 0x0, 0x0, 6⟩, -- BST_C_ROUNDS (R334)
  ⟨0x91000, 0x40, 32, 0xc, 4, 1, 0x0, 0x0, 0x0, 0x0, 6⟩, -- BST_C_REPAIRS (R334)
  ⟨0x91000, 0x40, 32, 0x10, 4, 3, 0x0, 0x0, 0x0, 0x0, 6⟩, -- BST_C_LFAIL (R334)
  ⟨0x91000, 0x40, 32, 0x1c, 4, 1, 0x0, 0x0, 0x0, 0x0, 6⟩  -- BST_C_CAFAIL (R334)
  ]

/-- The registers of block QOS. -/
def regMapQos : List RegRow := [
  ⟨0xa0000, 0x0, 1, 0x0, 4, 1, 0x0, 0x0, 0x0, 0x0, 6⟩, -- QOS_STATUS (R181)
  ⟨0xa0000, 0x0, 1, 0x4, 4, 1, 0x0, 0x0, 0xf, 0x0, 6⟩, -- QOS_EVENTS (R181)
  ⟨0xa0000, 0x0, 1, 0x8, 4, 1, 0x0, 0x0, 0x0, 0x0, 6⟩, -- QOS_INFORCE (R181)
  ⟨0xa0000, 0x0, 1, 0xc, 4, 1, 0x0, 0x0, 0x0, 0x0, 6⟩, -- QOS_SHED (R181)
  ⟨0xa0000, 0x0, 1, 0x10, 4, 1, 0x0, 0x0, 0x0, 0x0, 6⟩, -- QOS_STABLE (R181)
  ⟨0xa0000, 0x0, 1, 0x14, 4, 1, 0x0, 0x0, 0x0, 0x0, 6⟩, -- QOS_MAINT_SHARE (R181)
  ⟨0xa0000, 0x0, 1, 0x18, 4, 1, 0x0, 0x0, 0x0, 0x0, 6⟩, -- QOS_FOLD_FREE (R181)
  ⟨0xa0000, 0x0, 1, 0x1c, 4, 1, 0x0, 0x0, 0x0, 0x0, 6⟩, -- QOS_TAG_RSV (R181)
  ⟨0xa0000, 0x0, 1, 0x20, 4, 1, 0x0, 0x0, 0x0, 0x0, 6⟩, -- QOS_ADM_LAST (R181)
  ⟨0xa0000, 0x0, 1, 0x40, 4, 1, 0x0, 0xffffffff, 0x0, 0x0, 0⟩, -- QOS_IQ_SIZE (R181)
  ⟨0xa0000, 0x0, 1, 0x80, 4, 16, 0x0, 0xffffffff, 0x0, 0x0, 0⟩, -- QOS_SRES_SIZE (R181)
  ⟨0xa0000, 0x0, 1, 0xc0, 4, 16, 0x0, 0xffffffff, 0x0, 0x0, 0⟩, -- QOS_SRES_START (R181)
  ⟨0xa0000, 0x0, 1, 0x100, 4, 32, 0x0, 0xffffffff, 0x0, 0x0, 0⟩, -- QOS_CRES_SIZE (R181)
  ⟨0xa0000, 0x0, 1, 0x200, 4, 64, 0x0, 0x1f1f1f1f, 0x0, 0x0, 0⟩, -- QOS_LABEL (R181)
  ⟨0xa0000, 0x0, 1, 0x300, 4, 32, 0x0, 0x0, 0x0, 0x0, 6⟩, -- QOS_CH_FREE (R181)
  ⟨0xa0000, 0x0, 1, 0x380, 4, 16, 0x0, 0x0, 0x0, 0x0, 6⟩, -- QOS_TX_FREE (R181)
  ⟨0xa0000, 0x0, 1, 0x3c0, 4, 16, 0x0, 0x0, 0x0, 0x0, 6⟩, -- QOS_RX_FREE (R181)
  ⟨0xa1000, 0x40, 32, 0x0, 4, 6, 0x0, 0xffffffff, 0x0, 0x0, 0⟩, -- QOS_C_CFG (R181)
  ⟨0xa1000, 0x40, 32, 0x18, 4, 1, 0x0, 0x0, 0x0, 0x0, 6⟩, -- QOS_C_STAT (R181)
  ⟨0xa1000, 0x40, 32, 0x1c, 4, 1, 0x0, 0x0, 0x0, 0x0, 6⟩, -- QOS_C_MISS (R181)
  ⟨0xa1000, 0x40, 32, 0x20, 4, 1, 0x0, 0x0, 0x0, 0x0, 6⟩, -- QOS_C_SHEDS (R181)
  ⟨0xa1000, 0x40, 32, 0x24, 4, 1, 0x0, 0x0, 0x0, 0x0, 6⟩, -- QOS_C_HOLD (R181)
  ⟨0xa1000, 0x40, 32, 0x28, 4, 1, 0x0, 0x0, 0x0, 0x0, 6⟩, -- QOS_C_LATMAX (R181)
  ⟨0xa1000, 0x40, 32, 0x2c, 4, 1, 0x0, 0x0, 0x0, 0x0, 6⟩, -- QOS_C_LATOVER (R181)
  ⟨0xa1000, 0x40, 32, 0x30, 8, 1, 0x0, 0x0, 0x0, 0x0, 6⟩  -- QOS_C_BYTES (R181)
  ]

/-- The registers of block LNK. -/
def regMapLnk : List RegRow := [
  ⟨0x100000, 0x400, 64, 0x0, 4, 1, 0x0, 0x0, 0x0, 0x0, 6⟩, -- LNK_L_STATUS (R211)
  ⟨0x100000, 0x400, 64, 0x4, 4, 1, 0x0, 0x0, 0xff, 0x0, 6⟩, -- LNK_L_EVENTS (R211)
  ⟨0x100000, 0x400, 64, 0x8, 4, 1, 0xf, 0x0, 0x0, 0x0, 6⟩, -- LNK_L_CMD (R211)
  ⟨0x100000, 0x400, 64, 0xc, 4, 1, 0x0, 0x0, 0x0, 0x0, 6⟩, -- LNK_L_TXEQ (R211)
  ⟨0x100000, 0x400, 64, 0x10, 8, 1, 0x0, 0x0, 0x0, 0x0, 6⟩, -- LNK_L_CW (R211)
  ⟨0x100000, 0x400, 64, 0x18, 8, 1, 0x0, 0x0, 0x0, 0x0, 6⟩, -- LNK_L_CW_CORR (R211)
  ⟨0x100000, 0x400, 64, 0x20, 8, 1, 0x0, 0x0, 0x0, 0x0, 6⟩, -- LNK_L_SYM_CORR (R211)
  ⟨0x100000, 0x400, 64, 0x28, 8, 1, 0x0, 0x0, 0x0, 0x0, 6⟩, -- LNK_L_CW_UNC (R211)
  ⟨0x100000, 0x400, 64, 0x30, 4, 1, 0x0, 0x0, 0x0, 0x0, 6⟩, -- LNK_L_DISCARD (R211)
  ⟨0x100000, 0x400, 64, 0x34, 4, 1, 0x0, 0x0, 0x0, 0x0, 6⟩, -- LNK_L_DROPS (R211)
  ⟨0x100000, 0x400, 64, 0x38, 4, 1, 0x0, 0x0, 0x0, 0x0, 6⟩, -- LNK_L_FAILS (R211)
  ⟨0x100000, 0x400, 64, 0x3c, 4, 1, 0x0, 0x0, 0x0, 0x0, 6⟩, -- LNK_L_WAD_INS (R211)
  ⟨0x100000, 0x400, 64, 0x40, 4, 1, 0xc000000f, 0x0, 0x0, 0x0, 6⟩, -- LNK_L_PRBS_CFG (R211)
  ⟨0x100000, 0x400, 64, 0x48, 8, 1, 0x0, 0x0, 0x0, 0x0, 6⟩, -- LNK_L_PRBS_BITS (R211)
  ⟨0x100000, 0x400, 64, 0x50, 8, 1, 0x0, 0x0, 0x0, 0x0, 6⟩, -- LNK_L_PRBS_ERR (R211)
  ⟨0x100000, 0x400, 64, 0x58, 4, 1, 0xf0000ff, 0x0, 0x0, 0x0, 6⟩, -- LNK_L_INJ (R211)
  ⟨0x110000, 0x100, 16, 0x0, 4, 1, 0x0, 0x0, 0x0, 0x0, 6⟩, -- LNK_C_CFG (R211)
  ⟨0x110000, 0x100, 16, 0x8, 8, 1, 0x0, 0x0, 0x0, 0x0, 6⟩, -- LNK_C_LANES (R211)
  ⟨0x110000, 0x100, 16, 0x10, 8, 1, 0x0, 0x0, 0x0, 0x0, 6⟩, -- LNK_C_ACTIVE (R211)
  ⟨0x110000, 0x100, 16, 0x18, 4, 1, 0x0, 0x0, 0x0, 0x0, 6⟩, -- LNK_C_STATUS (R211)
  ⟨0x110000, 0x100, 16, 0x1c, 4, 1, 0x0, 0x0, 0x1f, 0x0, 6⟩, -- LNK_C_EVENTS (R211)
  ⟨0x110000, 0x100, 16, 0x20, 4, 1, 0x0, 0x0, 0x0, 0x0, 6⟩, -- LNK_C_DOWNS (R211)
  ⟨0x110000, 0x100, 16, 0x24, 4, 1, 0x0, 0x0, 0x0, 0x0, 6⟩, -- LNK_C_EPOCHS (R211)
  ⟨0x110000, 0x100, 16, 0x28, 8, 1, 0x0, 0x0, 0x0, 0x0, 6⟩, -- LNK_C_T_UP (R211)
  ⟨0x120000, 0x400, 16, 0x0, 4, 1, 0x0, 0x0, 0x0, 0x0, 6⟩, -- LNK_P_STATUS (R248)
  ⟨0x120000, 0x400, 16, 0x4, 4, 1, 0x0, 0x0, 0x7f, 0x0, 6⟩, -- LNK_P_EVENTS (R248)
  ⟨0x120000, 0x400, 16, 0x8, 8, 1, 0x0, 0x0, 0x0, 0x0, 6⟩, -- LNK_P_TX_PKTS (R248)
  ⟨0x120000, 0x400, 16, 0x10, 8, 1, 0x0, 0x0, 0x0, 0x0, 6⟩, -- LNK_P_RX_PKTS (R248)
  ⟨0x120000, 0x400, 16, 0x18, 4, 1, 0x0, 0x0, 0x0, 0x0, 6⟩, -- LNK_P_REPLAYS (R248)
  ⟨0x120000, 0x400, 16, 0x1c, 4, 1, 0x0, 0x0, 0x0, 0x0, 6⟩, -- LNK_P_NAK_TX (R248)
  ⟨0x120000, 0x400, 16, 0x20, 4, 1, 0x0, 0x0, 0x0, 0x0, 6⟩, -- LNK_P_NAK_RX (R248)
  ⟨0x120000, 0x400, 16, 0x24, 4, 1, 0x0, 0x0, 0x0, 0x0, 6⟩, -- LNK_P_RX_DISCARD (R248)
  ⟨0x120000, 0x400, 16, 0x28, 4, 1, 0x0, 0x0, 0x0, 0x0, 6⟩, -- LNK_P_FORMAT (R248)
  ⟨0x120000, 0x400, 16, 0x2c, 4, 1, 0x0, 0x0, 0x0, 0x0, 6⟩, -- LNK_P_CREDIT_OVR (R248)
  ⟨0x120000, 0x400, 16, 0x30, 4, 1, 0x0, 0x0, 0x0, 0x0, 6⟩, -- LNK_P_TX_LSEQ (R248)
  ⟨0x120000, 0x400, 16, 0x34, 4, 1, 0x0, 0x0, 0x0, 0x0, 6⟩, -- LNK_P_RX_LSEQ (R248)
  ⟨0x120000, 0x400, 16, 0x38, 8, 1, 0x0, 0x0, 0x0, 0x0, 6⟩, -- LNK_P_CRWAIT (R248)
  ⟨0x120000, 0x400, 16, 0x40, 4, 1, 0x0, 0x0, 0x0, 0x0, 6⟩, -- LNK_P_ALERT_LOST (R248)
  ⟨0x120000, 0x400, 16, 0x100, 4, 33, 0x0, 0x0, 0x0, 0x0, 6⟩, -- LNK_P_GIVEN (R248)
  ⟨0x120000, 0x400, 16, 0x200, 4, 33, 0x0, 0x0, 0x0, 0x0, 6⟩  -- LNK_P_HELD (R248)
  ]

/-- The registers of block DMC. -/
def regMapDmc : List RegRow := [
  ⟨0x200000, 0x1000, 32, 0x0, 4, 1, 0x0, 0x0, 0x0, 0x0, 6⟩, -- DMC_STATUS (R275)
  ⟨0x200000, 0x1000, 32, 0x4, 4, 1, 0x0, 0x0, 0xf, 0x0, 6⟩, -- DMC_EVENTS (R275)
  ⟨0x200000, 0x1000, 32, 0x8, 4, 1, 0x0, 0x0, 0x0, 0x0, 6⟩, -- DMC_QDEPTH (R275)
  ⟨0x200000, 0x1000, 32, 0xc, 4, 1, 0x0, 0x0, 0x0, 0x0, 6⟩, -- DMC_LAT_MAX (R275)
  ⟨0x200000, 0x1000, 32, 0x10, 8, 1, 0x0, 0x0, 0x0, 0x0, 6⟩, -- DMC_REF_CNT (R275)
  ⟨0x200000, 0x1000, 32, 0x18, 4, 1, 0x0, 0x0, 0x0, 0x0, 6⟩, -- DMC_REF_FORCED (R275)
  ⟨0x200000, 0x1000, 32, 0x1c, 4, 1, 0x0, 0x0, 0x0, 0x0, 6⟩, -- DMC_REF_OWEDMAX (R275)
  ⟨0x200000, 0x1000, 32, 0x20, 8, 1, 0x0, 0x0, 0x0, 0x0, 6⟩, -- DMC_RD_CNT (R275)
  ⟨0x200000, 0x1000, 32, 0x28, 8, 1, 0x0, 0x0, 0x0, 0x0, 6⟩, -- DMC_WR_CNT (R275)
  ⟨0x200000, 0x1000, 32, 0x30, 8, 1, 0x0, 0x0, 0x0, 0x0, 6⟩, -- DMC_ACT_CNT (R275)
  ⟨0x200000, 0x1000, 32, 0x38, 8, 1, 0x0, 0x0, 0x0, 0x0, 6⟩, -- DMC_HIT_CNT (R275)
  ⟨0x200000, 0x1000, 32, 0x40, 4, 1, 0x0, 0x0, 0x0, 0x0, 6⟩, -- DMC_CAPAR_CNT (R275)
  ⟨0x200000, 0x1000, 32, 0x44, 4, 1, 0x0, 0x0, 0x0, 0x0, 6⟩, -- DMC_REPLAY_CNT (R275)
  ⟨0x200000, 0x1000, 32, 0x100, 4, 6, 0x0, 0x0, 0x0, 0x0, 6⟩, -- DMC_TIM_ACT (R275)
  ⟨0x200000, 0x1000, 32, 0x140, 4, 6, 0x0, 0x0, 0x0, 0x0, 6⟩, -- DMC_TIM_SHD (R275)
  ⟨0x220000, 0x0, 1, 0x0, 4, 1, 0x0, 0x0, 0x0, 0x0, 6⟩, -- DMC_G_STATUS (R276)
  ⟨0x220000, 0x0, 1, 0x4, 4, 1, 0x0, 0x0, 0x3, 0x0, 6⟩, -- DMC_G_EVENTS (R276)
  ⟨0x220000, 0x0, 1, 0x8, 4, 1, 0x3, 0x0, 0x0, 0x0, 6⟩, -- DMC_FREQ_REQ (R276)
  ⟨0x220000, 0x0, 1, 0xc, 4, 1, 0x0, 0x0, 0x0, 0x0, 6⟩, -- DMC_TRANSITS (R276)
  ⟨0x220000, 0x0, 1, 0x10, 8, 1, 0x0, 0x0, 0x0, 0x0, 6⟩, -- DMC_T_TRANSIT (R276)
  ⟨0x220000, 0x0, 1, 0x18, 4, 1, 0x0, 0x0, 0x0, 0x0, 6⟩, -- DMC_TRANSIT_MAX (R276)
  ⟨0x220000, 0x0, 1, 0x1c, 4, 1, 0x0, 0x0, 0x0, 0x0, 6⟩, -- DMC_NARROW_MAP (R276)
  ⟨0x220000, 0x0, 1, 0x20, 4, 1, 0x0, 0x0, 0x0, 0x0, 6⟩, -- DMC_RETIRED_MAP (R276)
  ⟨0x220000, 0x0, 1, 0x24, 4, 1, 0x0, 0x0, 0x0, 0x0, 6⟩  -- DMC_SR_MAP (R276)
  ]

/-- The registers of block ECC. -/
def regMapEcc : List RegRow := [
  ⟨0x300000, 0x100, 32, 0x0, 4, 1, 0x0, 0x0, 0x0, 0x0, 6⟩, -- ECC_C_STATUS (R300)
  ⟨0x300000, 0x100, 32, 0x4, 4, 1, 0x0, 0x0, 0x3f, 0x0, 6⟩, -- ECC_C_EVENTS (R300)
  ⟨0x300000, 0x100, 32, 0x8, 8, 1, 0x0, 0x0, 0x0, 0x0, 6⟩, -- ECC_C_CORR1 (R300)
  ⟨0x300000, 0x100, 32, 0x10, 8, 1, 0x0, 0x0, 0x0, 0x0, 6⟩, -- ECC_C_CORR2 (R300)
  ⟨0x300000, 0x100, 32, 0x18, 4, 1, 0x0, 0x0, 0x0, 0x0, 6⟩, -- ECC_C_UNC (R300)
  ⟨0x300000, 0x100, 32, 0x1c, 4, 1, 0x0, 0x0, 0x0, 0x0, 6⟩, -- ECC_C_ADDR (R300)
  ⟨0x300000, 0x100, 32, 0x20, 4, 1, 0x0, 0x0, 0x0, 0x0, 6⟩, -- ECC_C_POISON_RD (R300)
  ⟨0x300000, 0x100, 32, 0x24, 4, 1, 0x0, 0x0, 0x0, 0x0, 6⟩, -- ECC_C_POISON_WR (R300)
  ⟨0x300000, 0x100, 32, 0x28, 8, 1, 0x0, 0x0, 0x0, 0x0, 6⟩, -- ECC_C_RMW (R300)
  ⟨0x300000, 0x100, 32, 0x30, 4, 1, 0x0, 0x0, 0x0, 0x0, 6⟩, -- ECC_C_RMW_FAIL (R300)
  ⟨0x300000, 0x100, 32, 0x34, 4, 1, 0x0, 0x0, 0x0, 0x0, 6⟩, -- ECC_C_MERGE_FILL (R300)
  ⟨0x300000, 0x100, 32, 0x38, 4, 1, 0x0, 0x0, 0x0, 0x0, 6⟩, -- ECC_C_SCRUB_PTR (R300)
  ⟨0x300000, 0x100, 32, 0x3c, 4, 1, 0x0, 0x0, 0x0, 0x0, 6⟩, -- ECC_C_SCRUB_PASSES (R300)
  ⟨0x300000, 0x100, 32, 0x40, 4, 1, 0x0, 0x0, 0x0, 0x0, 6⟩, -- ECC_C_SCRUB_LAST (R300)
  ⟨0x300000, 0x100, 32, 0x44, 4, 1, 0x0, 0x0, 0x0, 0x0, 6⟩, -- ECC_C_LAST_INFO (R300)
  ⟨0x300000, 0x100, 32, 0x48, 4, 1, 0x0, 0x0, 0x0, 0x0, 6⟩, -- ECC_C_LAST_ADDR (R300)
  ⟨0x300000, 0x100, 32, 0x50, 8, 1, 0x0, 0x0, 0x0, 0x0, 6⟩, -- ECC_C_LAST_TIME (R300)
  ⟨0x310000, 0x0, 1, 0x0, 4, 1, 0x0, 0x0, 0x3, 0x0, 6⟩, -- ECC_G_EVENTS (R300)
  ⟨0x310000, 0x0, 1, 0x4, 4, 1, 0x0, 0xffff, 0x0, 0x0, 3⟩, -- ECC_SCRUB_CFG (R300)
  ⟨0x310000, 0x0, 1, 0x8, 4, 1, 0xffff001f, 0x0, 0x0, 0x0, 6⟩, -- ECC_INJ_CTL (R300)
  ⟨0x310000, 0x0, 1, 0xc, 4, 1, 0xffffffff, 0x0, 0x0, 0x0, 6⟩, -- ECC_INJ_ADDR (R300)
  ⟨0x310000, 0x0, 1, 0x10, 4, 1, 0xffffffff, 0x0, 0x0, 0x0, 6⟩, -- ECC_INJ_MASK (R300)
  ⟨0x310000, 0x0, 1, 0x14, 4, 1, 0x0, 0x0, 0x0, 0x0, 6⟩, -- ECC_ST_PASS (R300)
  ⟨0x310000, 0x0, 1, 0x18, 4, 1, 0x0, 0x0, 0x0, 0x0, 6⟩, -- ECC_ST_FAIL (R300)
  ⟨0x310000, 0x0, 1, 0x1c, 4, 1, 0x0, 0x0, 0x0, 0x0, 6⟩  -- ECC_ST_INCOMPLETE (R300)
  ]

/-- The registers of block VXU. -/
def regMapVxu : List RegRow := [
  ⟨0x400000, 0x1000, 16, 0x0, 4, 1, 0xf, 0x0, 0x0, 0x0, 6⟩, -- VXU_CMD (R72)
  ⟨0x400000, 0x1000, 16, 0x4, 4, 1, 0x0, 0x0, 0x0, 0x0, 6⟩, -- VXU_STATUS (R72)
  ⟨0x400000, 0x1000, 16, 0x8, 8, 1, 0xffffffffffffffff, 0x0, 0x0, 0x0, 6⟩, -- VXU_PROG_OFF (R72)
  ⟨0x400000, 0x1000, 16, 0x10, 8, 1, 0xffffffffffffffff, 0x0, 0x0, 0x0, 6⟩, -- VXU_START_AT (R72)
  ⟨0x400000, 0x1000, 16, 0x18, 4, 1, 0x3, 0x0, 0x0, 0x0, 6⟩, -- VXU_POLICY (R72)
  ⟨0x400000, 0x1000, 16, 0x20, 4, 1, 0x0, 0x8f0fff00, 0x0, 0x0, 1⟩, -- VXU_BIND (R72)
  ⟨0x400000, 0x1000, 16, 0x24, 4, 1, 0x0, 0x0, 0x0, 0x0, 6⟩, -- VXU_RATE (R72)
  ⟨0x400000, 0x1000, 16, 0x28, 4, 1, 0x0, 0x0, 0x0, 0x0, 6⟩, -- VXU_RES_SIZE (R72)
  ⟨0x400000, 0x1000, 16, 0x2c, 4, 1, 0x0, 0x0, 0x0, 0x0, 6⟩, -- VXU_RES_START (R72)
  ⟨0x400000, 0x1000, 16, 0x30, 4, 1, 0x0, 0x0, 0x0, 0x0, 6⟩, -- VXU_RES_LEVEL (R72)
  ⟨0x400000, 0x1000, 16, 0x34, 4, 1, 0x0, 0x0, 0x0, 0x0, 6⟩, -- VXU_VCYC (R72)
  ⟨0x400000, 0x1000, 16, 0x38, 8, 1, 0x0, 0x0, 0x0, 0x0, 6⟩, -- VXU_FRAMES (R72)
  ⟨0x400000, 0x1000, 16, 0x40, 8, 1, 0x0, 0x0, 0x0, 0x0, 6⟩, -- VXU_STALLS (R72)
  ⟨0x400000, 0x1000, 16, 0x48, 8, 1, 0x0, 0x0, 0x0, 0x0, 6⟩, -- VXU_TXWAIT (R72)
  ⟨0x400000, 0x1000, 16, 0x50, 8, 1, 0x0, 0x0, 0x0, 0x0, 6⟩, -- VXU_PROG_POS (R72)
  ⟨0x400000, 0x1000, 16, 0x58, 8, 1, 0x0, 0x0, 0x0, 0x0, 6⟩, -- VXU_T_START (R72)
  ⟨0x400000, 0x1000, 16, 0x60, 8, 1, 0x0, 0x0, 0x0, 0x0, 6⟩, -- VXU_T_END (R72)
  ⟨0x400000, 0x1000, 16, 0x68, 4, 1, 0x0, 0x0, 0x3f, 0x0, 6⟩, -- VXU_EVENTS (R72)
  ⟨0x400000, 0x1000, 16, 0x6c, 4, 1, 0x0, 0x0, 0x0, 0x0, 6⟩, -- VXU_ERR_INFO (R72)
  ⟨0x410000, 0x0, 1, 0x0, 4, 1, 0xffff000f, 0x0, 0x0, 0x0, 6⟩  -- VXU_GCMD (R78)
  ]

/-- The registers of block CAD. -/
def regMapCad : List RegRow := [
  ⟨0x500000, 0x0, 1, 0x0, 4, 1, 0x0, 0x0, 0x0, 0x0, 6⟩, -- CAD_STATUS (R115)
  ⟨0x500000, 0x0, 1, 0x4, 4, 1, 0x0, 0x0, 0xff, 0x0, 6⟩, -- CAD_EVENTS (R115)
  ⟨0x500000, 0x0, 1, 0x8, 8, 1, 0x0, 0x0, 0x0, 0x0, 6⟩, -- CAD_FOLDED (R115)
  ⟨0x500000, 0x0, 1, 0x10, 8, 1, 0x0, 0x0, 0x0, 0x0, 6⟩, -- CAD_EXC_TOTAL (R115)
  ⟨0x500000, 0x0, 1, 0x18, 4, 1, 0x0, 0x0, 0x0, 0x0, 6⟩, -- CAD_OPEN (R115)
  ⟨0x500000, 0x0, 1, 0x1c, 4, 1, 0x0, 0x0, 0x0, 0x0, 6⟩, -- CAD_TRACKED (R115)
  ⟨0x500000, 0x0, 1, 0x20, 8, 1, 0x0, 0x0, 0x0, 0x0, 6⟩, -- CAD_HEAP_FREE (R115)
  ⟨0x500000, 0x0, 1, 0x28, 4, 1, 0x0, 0x0, 0x0, 0x0, 6⟩, -- CAD_QFILL (R115)
  ⟨0x500000, 0x0, 1, 0x2c, 4, 1, 0x0, 0x0, 0x0, 0x0, 6⟩, -- CAD_PIN_MISS (R115)
  ⟨0x500000, 0x0, 1, 0x30, 4, 1, 0x0, 0xffffffff, 0x0, 0x0, 2⟩, -- CAD_DEFBUD (R115)
  ⟨0x500000, 0x0, 1, 0x40, 4, 1, 0xff, 0x0, 0x0, 0x0, 6⟩, -- CAD_DCMD (R115)
  ⟨0x500000, 0x0, 1, 0x44, 4, 1, 0x0, 0x0, 0x0, 0x0, 6⟩, -- CAD_DSTAT (R115)
  ⟨0x500000, 0x0, 1, 0x48, 4, 1, 0xffffff, 0x0, 0x0, 0x0, 6⟩, -- CAD_DFIRST (R115)
  ⟨0x500000, 0x0, 1, 0x4c, 4, 1, 0x1ffffff, 0x0, 0x0, 0x0, 6⟩, -- CAD_DCOUNT (R115)
  ⟨0x500000, 0x0, 1, 0x50, 4, 1, 0x3ff003f, 0x0, 0x0, 0x0, 6⟩, -- CAD_DSITE (R115)
  ⟨0x500000, 0x0, 1, 0x54, 4, 1, 0xffff7f7f, 0x0, 0x0, 0x0, 6⟩, -- CAD_DSPARE (R115)
  ⟨0x500000, 0x0, 1, 0x58, 4, 1, 0xffffffff, 0x0, 0x0, 0x0, 6⟩, -- CAD_DBUDGET (R115)
  ⟨0x500000, 0x0, 1, 0x5c, 4, 1, 0xffff, 0x0, 0x0, 0x0, 6⟩, -- CAD_FENCE_TMO (R115)
  ⟨0x500000, 0x0, 1, 0x60, 4, 1, 0xffffffff, 0x0, 0x0, 0x0, 6⟩, -- CAD_FENCE_ID (R115)
  ⟨0x500000, 0x0, 1, 0x80, 4, 8, 0xffffffff, 0x0, 0x0, 0x0, 6⟩, -- CAD_FENCE_SRC (R115)
  ⟨0x500000, 0x0, 1, 0xa0, 4, 8, 0x0, 0x0, 0x0, 0x0, 6⟩, -- CAD_FENCE_MISS (R115)
  ⟨0x500000, 0x0, 1, 0xc0, 4, 1, 0xf, 0x0, 0x0, 0x0, 6⟩, -- CAD_RCMD (R115)
  ⟨0x500000, 0x0, 1, 0xc4, 4, 1, 0x0, 0x0, 0x0, 0x0, 6⟩, -- CAD_RSTAT (R115)
  ⟨0x500000, 0x0, 1, 0xc8, 4, 1, 0xffffff, 0x0, 0x0, 0x0, 6⟩, -- CAD_RDOM (R115)
  ⟨0x500000, 0x0, 1, 0xcc, 4, 1, 0xffffffff, 0x0, 0x0, 0x0, 6⟩, -- CAD_RMAX (R115)
  ⟨0x500000, 0x0, 1, 0xd0, 8, 1, 0xffffffffffffffff, 0x0, 0x0, 0x0, 6⟩, -- CAD_RDEST (R115)
  ⟨0x500000, 0x0, 1, 0xd8, 4, 1, 0xff, 0x0, 0x0, 0x0, 6⟩, -- CAD_RLABEL (R115)
  ⟨0x500000, 0x0, 1, 0x100, 4, 1, 0x0, 0x0, 0x0, 0x0, 6⟩, -- CAD_EXC_WPTR (R115)
  ⟨0x500000, 0x0, 1, 0x104, 4, 1, 0x3fffff, 0x0, 0x0, 0x0, 6⟩, -- CAD_EXC_RPTR (R115)
  ⟨0x500000, 0x0, 1, 0x108, 4, 1, 0x0, 0x0, 0x0, 0x0, 6⟩, -- CAD_EXC_LOST (R115)
  ⟨0x500000, 0x0, 1, 0x140, 4, 16, 0x0, 0x0, 0x0, 0x0, 6⟩, -- CAD_EXC_CNT (R115)
  ⟨0x501000, 0x20, 256, 0x0, 4, 1, 0x0, 0xfffffff3, 0x0, 0x0, 2⟩, -- CAD_SRC_CFG (R115)
  ⟨0x501000, 0x20, 256, 0x4, 4, 1, 0x0, 0x0, 0x0, 0x0, 6⟩, -- CAD_SRC_NX (R115)
  ⟨0x501000, 0x20, 256, 0x8, 4, 1, 0x0, 0x0, 0x0, 0x0, 6⟩, -- CAD_SRC_HELD (R115)
  ⟨0x501000, 0x20, 256, 0xc, 4, 1, 0x0, 0x0, 0x0, 0x0, 6⟩, -- CAD_SRC_MARK (R115)
  ⟨0x501000, 0x20, 256, 0x10, 4, 1, 0x0, 0x0, 0x0, 0x0, 6⟩, -- CAD_SRC_GAPS (R115)
  ⟨0x501000, 0x20, 256, 0x14, 4, 1, 0x0, 0x0, 0x0, 0x0, 6⟩, -- CAD_SRC_LATE (R115)
  ⟨0x501000, 0x20, 256, 0x18, 4, 1, 0x1, 0x0, 0x0, 0x0, 6⟩, -- CAD_SRC_CMD (R115)
  ⟨0x501000, 0x20, 256, 0x1c, 4, 1, 0x0, 0x0, 0x0, 0x0, 6⟩, -- CAD_SRC_STAT (R115)
  ⟨0x503000, 0x10, 16, 0x0, 8, 1, 0x0, 0x0, 0x0, 0x0, 6⟩, -- CAD_CAP_WPTR (R115)
  ⟨0x503000, 0x10, 16, 0x8, 4, 1, 0x0, 0x0, 0x0, 0x0, 6⟩, -- CAD_CAP_WRAPS (R115)
  ⟨0x503000, 0x10, 16, 0xc, 4, 1, 0x0, 0x0, 0x0, 0x0, 6⟩, -- CAD_CAP_DROP (R115)
  ⟨0x504000, 0x100, 64, 0x0, 4, 64, 0x0, 0xffffffff, 0x0, 0x0, 2⟩  -- CAD_PLAT (R115)
  ]

/-- The registers of block RAE. -/
def regMapRae : List RegRow := [
  ⟨0x600000, 0x0, 1, 0x0, 4, 1, 0x0, 0x0, 0x0, 0x0, 6⟩, -- RAE_STATUS (R148)
  ⟨0x600000, 0x0, 1, 0x4, 4, 1, 0x0, 0x0, 0x3f, 0x0, 6⟩, -- RAE_EVENTS (R148)
  ⟨0x600000, 0x0, 1, 0x8, 4, 1, 0x0, 0x0, 0x0, 0x0, 6⟩, -- RAE_QDEPTH (R148)
  ⟨0x600000, 0x0, 1, 0x10, 8, 1, 0x0, 0x0, 0x0, 0x0, 6⟩, -- RAE_POOL_MAP (R148)
  ⟨0x600000, 0x0, 1, 0x18, 8, 1, 0x0, 0x0, 0x0, 0x0, 6⟩, -- RAE_BUSY_MAP (R148)
  ⟨0x600000, 0x0, 1, 0x20, 8, 1, 0x0, 0x0, 0x0, 0x0, 6⟩, -- RAE_LEG_MAP (R148)
  ⟨0x600000, 0x0, 1, 0x28, 8, 1, 0x0, 0x0, 0x0, 0x0, 6⟩, -- RAE_FAIL_MAP (R148)
  ⟨0x600000, 0x0, 1, 0x30, 8, 1, 0x0, 0x0, 0x0, 0x0, 6⟩, -- RAE_CNT_SOLVED (R148)
  ⟨0x600000, 0x0, 1, 0x38, 8, 1, 0x0, 0x0, 0x0, 0x0, 6⟩, -- RAE_CNT_UNREP (R148)
  ⟨0x600000, 0x0, 1, 0x40, 8, 1, 0x0, 0x0, 0x0, 0x0, 6⟩, -- RAE_CNT_UNDEC (R148)
  ⟨0x600000, 0x0, 1, 0x48, 8, 1, 0x0, 0x0, 0x0, 0x0, 6⟩, -- RAE_CNT_OVF (R148)
  ⟨0x600000, 0x0, 1, 0x50, 4, 1, 0x0, 0x0, 0x0, 0x0, 6⟩, -- RAE_REDISPATCH (R148)
  ⟨0x600000, 0x0, 1, 0x54, 4, 1, 0x0, 0x0, 0x0, 0x0, 6⟩, -- RAE_LAT_MAX (R148)
  ⟨0x600000, 0x0, 1, 0x58, 4, 1, 0xf, 0x0, 0x0, 0x0, 6⟩, -- RAE_CMD (R148)
  ⟨0x600000, 0x0, 1, 0x5c, 4, 1, 0xffffff, 0x0, 0x0, 0x0, 6⟩, -- RAE_ARG (R148)
  ⟨0x600000, 0x0, 1, 0x60, 4, 1, 0xffffffff, 0x0, 0x0, 0x0, 6⟩, -- RAE_ABUD (R148)
  ⟨0x600000, 0x0, 1, 0x70, 4, 1, 0xcfffffff, 0x0, 0x0, 0x0, 6⟩, -- RAE_RING_CFG (R148)
  ⟨0x600000, 0x0, 1, 0x78, 8, 1, 0xffffffffffffffff, 0x0, 0x0, 0x0, 6⟩, -- RAE_RING_BASE (R148)
  ⟨0x600000, 0x0, 1, 0x80, 4, 1, 0x1ffffff, 0x0, 0x0, 0x0, 6⟩, -- RAE_RING_SLOTS (R148)
  ⟨0x600000, 0x0, 1, 0x84, 4, 1, 0x0, 0x0, 0x0, 0x0, 6⟩, -- RAE_RING_WPTR (R148)
  ⟨0x600000, 0x0, 1, 0x88, 4, 1, 0xffffff, 0x0, 0x0, 0x0, 6⟩, -- RAE_RING_RPTR (R148)
  ⟨0x600000, 0x0, 1, 0x8c, 4, 1, 0x0, 0x0, 0x0, 0x0, 6⟩, -- RAE_RING_DEFER (R148)
  ⟨0x600000, 0x0, 1, 0x90, 4, 1, 0x0, 0x0, 0x0, 0x0, 6⟩, -- RAE_RING_DROP (R148)
  ⟨0x601000, 0x20, 64, 0x0, 4, 1, 0x0, 0x0, 0x0, 0x0, 6⟩, -- RAE_E_STAT (R148)
  ⟨0x601000, 0x20, 64, 0x4, 4, 1, 0x0, 0x0, 0x0, 0x0, 6⟩, -- RAE_E_NODES (R148)
  ⟨0x601000, 0x20, 64, 0x8, 8, 1, 0x0, 0x0, 0x0, 0x0, 6⟩, -- RAE_E_DONE (R148)
  ⟨0x601000, 0x20, 64, 0x10, 4, 1, 0x0, 0x0, 0x0, 0x0, 6⟩  -- RAE_E_ELAPSED (R148)
  ]

/-- The register table of the block an address falls in (R507). -/
def regMapOf (a : Nat) : List RegRow :=
  match a / 0x10000 with
  | 0 => regMapGlb
  | 1 => regMapFlt
  | 2 => regMapPmc
  | 3 => regMapSec
  | 4 => regMapFse
  | 5 => regMapUpd
  | 6 => regMapThm
  | 7 => regMapPwr
  | 8 => regMapCal
  | 9 => regMapBst
  | 10 => regMapQos
  | h =>
    match h / 16 with
    | 1 => regMapLnk
    | 2 => regMapDmc
    | 3 => regMapEcc
    | 4 => regMapVxu
    | 5 => regMapCad
    | 6 => regMapRae
    | _ => []

/-- The register an address falls in; none is a reserved or unimplemented location (step 5 of R493). -/
def regRow? (a : Nat) : Option RegRow := (regMapOf a).find? (·.covers a)

/-- Registers outside any bank whose Reset column is not zero, with that value. -/
def resetFixed : List (Nat × Nat) := [
  (Reg.CAD_DEFBUD, 0x400028),
  (Reg.QOS_MAINT_SHARE, 0x23050a05),
  (Reg.ECC_SCRUB_CFG, 0x14),
  (Reg.BST_TRV_CFG, 0xa07d0),
  (Reg.BST_LEG_CFG, 0xa2414),
  (Reg.CAL_CFG, 0x630d4),
  (Reg.THM_CFG, 0x40f),
  (Reg.FLT_CFG, 0x12),
  (Reg.SEC_SELF, 0xff00),
  (Reg.GLB_ID, 0x16480001),
  (Reg.GLB_GCFG, 0x2)]

/-- Banked registers whose Reset column is not zero: first address, stride, count, value. -/
def resetBanked : List (Nat × Nat × Nat × Nat) := [
  (0x200000, 0x1000, 32, 0x80000000),
  (0x300044, 0x100, 32, 0xffff),
  (0x91000, 0x40, 32, 0x4e0602),
  (0x7002c, 0x10, 6, 0x40000000)
  ]

/-- The word a register word holds after RESET_N is released and before any configuration entry is applied (R3), as the
Reset columns give it. QOS_C_CFG0 of SCn is 0x0100_0400 + n and QOS_C_STAT.TYPE is 4 for n from 1 (R182). -/
def resetNat (a : Nat) : Nat :=
  match resetFixed.find? (·.1 == a) with
  | some p => p.2
  | none =>
    if 0xa1040 ≤ a ∧ a < 0xa1800 ∧ a % 0x40 = 0 then 0x01000400 + (a - 0xa1000) / 0x40
    else if 0xa1040 ≤ a ∧ a < 0xa1800 ∧ a % 0x40 = 0x18 then 0x80000000
    else
      match resetBanked.find? (fun r => r.1 ≤ a && (a - r.1) % r.2.1 == 0 && (a - r.1) / r.2.1 < r.2.2.1) with
      | some r => r.2.2.2
      | none => 0

/-- `resetNat` as a word. -/
def resetWord (a : Nat) : Word := BitVec.ofNat 32 (resetNat a)

end Sys2Proof.Machine
end

