-- ==== Sys2Proof/Machine/State.lean ====
section
/-! DEFINITION. Sys2Proof/Machine/State.lean: everything the manual gives the stack to hold, as plain data, and the
machine right after reset. A register of a register table has its home in `regs`, unless the manual makes it the view of
something a structure below holds (then the structure's field says which register shows it). Sparse tables list only what
differs from the value an unlisted key stands for. -/
namespace Sys2Proof.Machine

/-- The six major modes (R22). -/
inductive Mode where
  | cold | load | service | hold | maintain | safe
deriving DecidableEq, Repr

/-- The mode codes of R22. -/
def Mode.code : Mode → Nat
  | .cold => 0 | .load => 1 | .service => 2 | .hold => 3 | .maintain => 4 | .safe => 5

/-- The statuses of R506; no other is returned (R6). -/
inductive Status where
  | ok | eAccess | eAlign | eWidth | eRange | eLocked | eWriteOnce | eState | eAuth | ePriv
  | eOvercommit | eBusy | eVersion | eIntegrity | eConflict | eResource
deriving DecidableEq, Repr

/-- The status codes of R506. -/
def Status.code : Status → Nat
  | .ok => 0 | .eAccess => 1 | .eAlign => 2 | .eWidth => 3 | .eRange => 4 | .eLocked => 5 | .eWriteOnce => 6
  | .eState => 7 | .eAuth => 8 | .ePriv => 9 | .eOvercommit => 10 | .eBusy => 11 | .eVersion => 12
  | .eIntegrity => 13 | .eConflict => 14 | .eResource => 15

/-- The session roles (R408, R409, R429). -/
inductive Role where
  | enrolment | owner | operator | observer
deriving DecidableEq, Repr

/-- The role codes of R429. -/
def Role.code : Role → Nat
  | .enrolment => 0 | .owner => 1 | .operator => 2 | .observer => 3

/-- An alert record (R241): code, the chain it concerns (0xFF for none), ASEQ, GTIME and the parameter words. -/
structure Alert where
  code : Nat
  chain : Nat
  aseq : Nat
  gtime : Nat
  p0 : Nat
  p1 : Nat
  p2 : Nat
  p3 : Nat
deriving DecidableEq, Repr

/-- A fault history entry (R377); `pseq` is none while the entry is not copied. -/
structure HistEntry where
  pseq : Option Nat
  src : Nat
  sev : Nat
  forced : Bool
  cold : Bool
  gtime : Nat
  loads : Nat
  hseq : Nat
  a : Nat
  b : Nat
deriving DecidableEq, Repr

/-- What a step puts out: the model's own record of the blocks, columns, answers and pin events that leave the stack. -/
inductive Emission where
  /-- a packet on a chain, first sent or resent by a replay (R223): its START block goes to a place of a stripe and the others
  follow in the order of R192 -/
  | packet (chain : Nat) (p : Packet) (resent : Bool) (stripe place : Nat)
  /-- an ACK or NAK block of a chain (R214, R221, R222), with the stripe and the place it takes -/
  | stripeBlock (chain : Nat) (b : RxBlock) (stripe place : Nat)
  /-- a column of one lane block on every transmitting lane of a chain (R189): its type and 56-bit body -/
  | column (chain type body : Nat)
  /-- a lane block on a lane (R187, R188, R196), and from entry into SAFE on the SAFE block that fills its lane (R383) -/
  | block (lane : Nat) (type : Nat) (body : Nat)
  /-- errors injected into the next codeword of a lane (R209): symbol positions, each with what is added to its symbol -/
  | symbolErrors (lane : Nat) (errs : List (Nat × Nat))
  /-- an invalid sync header injected into the next block of a lane (R209) -/
  | badHeader (lane : Nat) (sync : BitVec 2)
  /-- the symbols of a PRBS stream that a lane sends in a tick (R208) -/
  | prbs (lane : Nat) (symbols : List Nat)
  /-- a training frame on a lane (R194): its 4,096 symbols -/
  | training (lane : Nat) (symbols : List Nat)
  /-- the bytes an I3C private read or CCC returns (R488, R489) -/
  | i3c (bytes : List Byte)
  /-- an I3C NACK (R488, R489) -/
  | i3cNack
  /-- a bit shifted out on TDO (R531) -/
  | tdo (bit : Bool)
  /-- a DRAM command or transfer the stack issues on a channel: kind and address (R256, R262, R265) -/
  | dram (channel kind addr : Nat)
deriving DecidableEq, Repr

/-- The answer the stack gives to the last command that is answered: a status (R506) and data. -/
structure Answer where
  status : Status
  data : List Byte
deriving DecidableEq, Repr

/-- A partition of the configuration in effect (R32, R36). -/
structure Partition where
  pers : Nat
  grain : Nat                        -- k: the grain is 2^k bytes
  chmask : Nat
  parcels : List Nat
deriving DecidableEq, Repr

/-- One part of a slice placed in reserve space (R324): its reserve channel and its offset in that channel's reserve;
`sub` names the record of a part that was salvaged again. -/
structure ResPart where
  ch : Nat
  base : Nat
  sub : Option Nat
deriving DecidableEq, Repr

/-- What became of a slice of a retired channel (R324): its parcel, its size, its parts over the reserve channels in interleave
order; a lost slice has none. -/
structure MovedSlice where
  parcel : Nat
  size : Nat
  parts : List ResPart
  lost : Bool
deriving DecidableEq, Repr

/-- The state of salvage on one channel (R323, R325). A slice is named by 32 × parcel + channel; a part of a
migrated slice that lies on the channel by 2^20 + 64 × its record + its place there. -/
structure Salvage where
  ch : Nat
  left : List Nat
  saved : Nat
  lost : Nat
deriving DecidableEq, Repr

/-- The configuration in effect beyond the registers it loads, and the map of stack memory. -/
structure CfgSt where
  gen : Nat := 0                     -- generation in effect; 0 when empty
  empty : Bool := true               -- the empty service configuration (R28)
  runtime : Nat := 0x300             -- the RUNTIME word (R46)
  parts : Tab Partition := []
  resMask : Nat := 0                 -- reserve channel set (R37)
  resParcels : List Nat := []
  frames : Tab (List Nat) := []      -- slice map: 32 × parcel + channel, to the slice's frames (R250)
  moved : Tab MovedSlice := []       -- slices that left a retired channel (R324)
  nextMoved : Nat := 12288           -- number of the next part that is salvaged again
  resFill : Tab Nat := []            -- reserve fill pointers (R324)
  salvage : Option Salvage := none   -- salvage in progress
  retQueue : List Nat := []          -- retired channels waiting for salvage (R322)
  parcelLost : List Nat := []        -- parcels reported PARCEL_LOST (R324)
deriving DecidableEq, Repr


/-- The states of a stream (R63, R75). -/
inductive VxuState where
  | idle | loading | armed | running | paused
deriving DecidableEq, Repr

/-- The state codes of R75. -/
def VxuState.code : VxuState → Nat
  | .idle => 0 | .loading => 1 | .armed => 2 | .running => 3 | .paused => 4

/-- A field slot FSs (table of R51): register, position, width, invert, enable. -/
structure FieldSlot where
  reg : Nat
  pos : Nat
  width : Nat
  inv : Bool
  en : Bool
deriving DecidableEq, Repr

/-- A level of the loop stack: passes remaining, the section and word index of the first word of the body, and the
number of calls open when the loop was opened (R54, R55). -/
structure LoopLevel where
  left : Nat
  inSub : Bool
  body : Nat
  depth : Nat
deriving DecidableEq, Repr

/-- A level of the call stack: the return point (R54). -/
structure CallLevel where
  inSub : Bool
  ret : Nat
deriving DecidableEq, Repr

/-- An emission in progress (R54): what the repetitions of EMIT and EMITS, LIT or RLIT still have to emit. `tpl`
emits templates t .. t + c - 1 in turn, k of them done in the present pass, then adds `step` to Xx. -/
inductive Emitting where
  | tpl (t c x : Nat) (step : BitVec 48) (k left : Nat)
  | lit (left : Nat)
  | rlit (v : BitVec 512) (left : Nat)
deriving DecidableEq, Repr

/-- A composed DATA frame (R57): its vectors in order and the marked one, if any (R56). -/
structure VecFrame where
  vecs : List (BitVec 512)
  mark : Option (Nat × BitVec 16)
deriving DecidableEq, Repr

/-- The boundary before a LIT, where an integrity stop falls (R67): frames composed, the frame being composed, the pending
mark and the word index of the LIT. -/
structure LitFrom where
  composed : Nat := 0
  cur : VecFrame := ⟨[], none⟩
  mark : Option (BitVec 16) := none
  pos : Nat := 0
deriving DecidableEq, Repr

/-- An END frame owed by a stream that has ended (R63): its bytes, the chain and label it was bound to, and whether the unit has
started another stream since. -/
structure OwedEnd where
  frame : List Byte
  chain : Nat
  label : Nat
  old : Bool := false
deriving DecidableEq, Repr

/-- One vector expansion unit. The registers VXU_STATUS, VXU_VCYC, VXU_FRAMES, VXU_STALLS, VXU_TXWAIT, VXU_PROG_POS,
VXU_T_START, VXU_T_END, VXU_ERR_INFO and VXU_RES_LEVEL are read from here (R71, R72). -/
structure VxuUnit where
  state : VxuState := .idle
  reason : Nat := 0            -- VXU_STATUS.REASON (R67)
  lstat : Nat := 0             -- VXU_STATUS.LSTAT (R68)
  ppend : Bool := false        -- VXU_STATUS.PPEND (R63)
  -- header fields of the program in force (R50)
  hdrOk : Bool := false
  width : Nat := 0
  pp : Bool := false
  progLen : Nat := 0
  subLen : Nat := 0
  readBound : Nat := 0
  decodeBound : Nat := 0
  progOff : Nat := 0           -- VXU_PROG_OFF as START or RESUME took it
  tCmd : Nat := 0              -- GTIME at which START or RESUME was accepted: the start deadline runs from there (R64)
  -- program store (R51)
  sub : List (Option DWord) := []    -- subroutine store; none: a word that could not be read intact (R67)
  fetched : Nat := 0                 -- main-section bytes fetched
  resv : List (Option DWord) := []   -- stream reservoir: fetched words not yet decoded
  win : List (Option DWord) := []    -- loop window: the most recently decoded main-section words, oldest first
  pos : Nat := 0                     -- word index of the next word within its section
  inSub : Bool := false              -- that section is the subroutine section
  -- expansion unit state (table of R51)
  x : List (BitVec 48) := List.replicate 8 0
  m : List Nat := List.replicate 8 48
  tmpl : List (BitVec 512) := List.replicate 16 0
  fs : List FieldSlot := List.replicate 8 ⟨0, 0, 1, false, false⟩
  loops : List LoopLevel := []       -- innermost first
  calls : List CallLevel := []       -- innermost first
  mark : Option (BitVec 16) := none
  -- composing (R58, R60)
  emis : Option Emitting := none
  cur : VecFrame := ⟨[], none⟩       -- the frame being composed
  composed : Nat := 0                -- frames composed since START
  litFrom : LitFrom := {}            -- the boundary before the last LIT (R67)
  frames : List VecFrame := []       -- composed frames not yet sent, oldest first
  stopped : Bool := false            -- composing stopped for a pause (R63)
  ending : Option Nat := none        -- stop reason to follow the composed frames (R63)
  owed : List OwedEnd := []          -- END frames owed in the next slots by streams already ended, oldest first (R63)
  -- pacing and sending (R56, R59, R62, R69)
  acc : Nat := 0
  due : Nat := 0
  sent : Bool := false               -- a frame has been sent since START
  first : Bool := true               -- the next DATA frame carries START = 1
  stallRun : Nat := 0
  vcyc : BitVec 32 := 0
  nFrames : DWord := 0
  nStalls : DWord := 0
  txWait : DWord := 0
  tStart : DWord := 0
  tEnd : DWord := 0
  errSect : Nat := 0                 -- VXU_ERR_INFO of the last stop (R71, R76)
  errWord : Nat := 0
  endSect : Nat := 0                 -- where a program error that still awaits its END frame was decoded (R63, R76)
  endWord : Nat := 0
  winFrames : Nat := 0               -- DATA frames composed in the present window of 4,096 (R62)
  winRead : Nat := 0
  winDec : Nat := 0
  packet : List (List Byte) := []    -- frames of the VEC packet being filled (R232)
  tPacket : Nat := 0                 -- GTIME of its first frame
  out : Bool := false                -- out for a self-test leg (R309)
deriving DecidableEq, Repr

/-- A fail record as received: its 32 bytes and the chain it came on (R79, R538). -/
structure FailRec where
  bytes : List Byte
  chain : Nat
deriving DecidableEq, Repr

/-- A record source beyond its registers (R84 to R88). -/
structure Source where
  nx : Option Nat := none            -- NX, none while not valid
  held : List (Nat × FailRec) := []  -- held records by SSEQ, in order of distance from NX
  timer : Bool := false              -- the gap timer runs
  tGap : Nat := 0                    -- GTIME at which it last started (R85)
  gaps : List (Nat × Nat) := []      -- the 16 most recent declared gaps, newest first: first missing SSEQ, count
  mark : Nat := 0                    -- CAD_SRC_MARK
  marked : Bool := false             -- a MARKER has been released since the source was configured
  markSeq : Nat := 0                 -- records released before that MARKER, over all sources (R101)
deriving DecidableEq, Repr

/-- A released record on its way to a fold pipe (R84, R87), with its number among the released records. -/
structure Released where
  fail : FailRec
  late : Bool
  seq : Nat
deriving DecidableEq, Repr

/-- The capture log of one CAP partition (R93, R94). -/
structure CapLog where
  wptr : Nat := 0                    -- CAD_CAP_WPTR
  wraps : Nat := 0                   -- CAD_CAP_WRAPS
  seq : Nat := 0                     -- block sequence number of the next block
  start : Nat := 0                   -- GTIME of the open block's first record
  chain : Nat := 0                   -- its chain
  recs : List (List Byte) := []      -- records of the open block, oldest first
  full : Bool := false               -- LINEAR and full
deriving DecidableEq, Repr

/-- The states of a repair domain (R103). -/
inductive DomState where
  | free | open | closing | closed | analysing | done
deriving DecidableEq, Repr

/-- The state codes of R103. -/
def DomState.code : DomState → Nat
  | .free => 0 | .open => 1 | .closing => 2 | .closed => 3 | .analysing => 4 | .done => 5

/-- A lot of the map (R105): its form and its points as 256 × row offset + column offset, in order of entry. -/
structure Lot where
  bitmap : Bool
  pts : List Nat
deriving DecidableEq, Repr

/-- The origin of a line in a repair list (R140). -/
inductive Origin where
  | heavy | must | branch | short
deriving DecidableEq, Repr

/-- The origin codes of R140. -/
def Origin.code : Origin → Nat
  | .heavy => 0 | .must => 1 | .branch => 2 | .short => 3

/-- A line of a repair list: axis (column when `col`), index, origin. -/
structure Line where
  col : Bool
  idx : Nat
  origin : Origin
deriving DecidableEq, Repr

/-- A close record (R110, R120, R121). Heavy lines carry their tallies; points are (row, column) in row-major order. -/
structure CloseRec where
  domain : Nat
  flags : Nat
  plat : Nat
  rs : Nat
  cs : Nat
  pr : Nat
  pc : Nat
  pool : Nat
  hr : Nat
  hc : Nat
  lp : Nat
  fp : Nat
  rows : Nat
  cols : Nat
  tClosed : Nat
  tbud : Nat
  nbud : Nat
  heavyRows : List (Nat × Nat)
  heavyCols : List (Nat × Nat)
  points : List (Nat × Nat)
  ovf : Bool
deriving DecidableEq, Repr

/-- A pool option found by a first pass (R132): its demand in pool rows and columns, and its repair list. -/
structure PoolOption where
  rows : Nat
  cols : Nat
  lines : List Line
deriving DecidableEq, Repr

/-- A first-pass outcome held for a pool round (R132): result kind 1 stands for OPTIONS. -/
structure PassOutcome where
  kind : Nat
  proof : Nat
  options : List PoolOption
  partialSearch : Bool
  a : Nat
  b : Nat
  lines : List Line
  nodes : Nat
deriving DecidableEq, Repr

/-- A result record (R137 to R141): a repair-list entry is (line, pool spare, spare index). -/
structure ResultRec where
  domain : Nat
  kind : Nat
  proof : Nat
  flags : Nat
  engine : Nat
  localRows : Nat
  localCols : Nat
  poolRows : Nat
  poolCols : Nat
  nodes : Nat
  t0 : Nat
  tDone : Nat
  closeAddr : Nat
  pool : Nat
  residRows : Nat
  residCols : Nat
  a : Nat
  b : Nat
  fp : Nat
  entries : List (Line × Bool × Nat)
deriving DecidableEq, Repr

/-- What a place in the heap is for (R102, R105, R106, R108, R110): a lot in sparse form or as a bitmap, by its key, an entry of
the spill area, the lot list, a close record, a result record. -/
inductive HeapUse where
  | lot (key : Nat)
  | bitmap (key : Nat)
  | spill | lotList | closeRec | result
deriving DecidableEq, Repr

/-- A place in the heap: its first unit of 64 bytes, counted from the start of the partition, and how many it takes (R109). -/
structure HeapSpace where
  use : HeapUse
  first : Nat
  units : Nat
deriving DecidableEq, Repr

/-- A repair domain: its domain table entry (R103), its map (R105, R107) and what the analysis holds for it. -/
structure Domain where
  state : DomState := .free
  partnerLoss : Bool := false
  lateFolded : Bool := false
  mapIncomplete : Bool := false
  fenceTimeout : Bool := false
  ovf : Bool := false
  spilled : Bool := false
  site : Nat := 0
  block : Nat := 0
  plat : Nat := 0
  rs : Nat := 0
  cs : Nat := 0
  pool : Nat := 0
  tbud : Nat := 0
  nbud : Nat := 0
  fp : Nat := 0
  nRows : Nat := 0
  nCols : Nat := 0
  hr : Nat := 0
  hc : Nat := 0
  lp : Nat := 0
  closeAddr : Nat := 0
  resultAddr : Nat := 0
  folded : Nat := 0
  tClosed : Nat := 0
  lots : Tab Lot := []               -- key 256 × a + b
  rowT : Tab Nat := []               -- row tallies, saturating at 255
  colT : Tab Nat := []               -- column tallies
  spaces : List HeapSpace := []      -- the places in the heap it holds, oldest first (R109)
  closeSeq : Nat := 0                -- CLOSING in mode IMMEDIATE: records released before the CLOSE was accepted (R101)
  fence : Option (Nat × List Nat × Nat) := none  -- CLOSING in mode FENCED: fence id, the sources selected, first domain
  timer : Bool := false              -- its fence timer runs
  fenceDue : Nat := 0                -- when it expires, in half ticks of GTIME (R101)
  missing : Bool := false            -- the fence timer has expired: the fence no longer waits
  closeRec : Option CloseRec := none
  outcome : Option PassOutcome := none
  result : Option ResultRec := none
  reanalysed : Bool := false
  tClosedT0 : Nat := 0               -- t0 of the analysis in progress (R143, R152)
deriving DecidableEq, Repr

/-- A group pool (R100, R136). -/
structure Pool where
  pr : Nat
  pc : Nat
  grantedRows : Nat := 0
  grantedCols : Nat := 0
  rounds : Nat := 0
  tRound : Nat := 0
  round : List Nat := []             -- the candidates of a round that has come due, ascending; empty when none has (R133)
  runner : Option Nat := none        -- the engine that is to run it
deriving DecidableEq, Repr

/-- An exception log entry (R92). -/
structure ExcEntry where
  bytes : List Byte
  gtime : Nat
  reason : Nat
  chain : Nat
  domain : Option Nat
deriving DecidableEq, Repr

/-- A queued CLOSE (R118): its range and mode with the fence registers as they stood when it was accepted, and the records
released before that. -/
structure QueuedClose where
  first : Nat
  count : Nat
  fenced : Bool
  fenceId : Nat
  srcs : List Nat
  seq : Nat
deriving DecidableEq, Repr

/-- A domain command in progress (R117, R118): its CMD, its range, what the command registers held when it was accepted, and the
fence of a CLOSE. A pool command names one pool, in `new.pool`, with PR and PC in `new.rs` and `new.cs`. -/
structure DomCmd where
  op : Nat
  first : Nat
  count : Nat
  new : Domain
  fenced : Bool
  fenceId : Nat
  srcs : List Nat
  seq : Nat                          -- records released before it was accepted (R101)
deriving DecidableEq, Repr

/-- A readout in progress (R112, R113). -/
structure Readout where
  domain : Nat
  form : Nat
  part : Nat
  off : Nat
  entries : Nat
  cut : Bool
  foldedStart : Nat
  tStart : Nat
  conf : Bool                        -- its traffic conforms (R162)
deriving DecidableEq, Repr

/-- The fail cadastre engine. -/
structure CadSt where
  ingest : List FailRec := []        -- records accepted and not yet ordered, oldest first (R21)
  sources : Tab Source := []
  released : List Released := []     -- released records waiting for a fold pipe (R84)
  relSeq : Nat := 0                  -- records released so far
  caps : Tab CapLog := []
  domains : Tab Domain := []         -- unlisted: FREE with a zero entry
  siteMap : Tab (Nat × Bool) := []   -- slot 256 × site + block: domain id; true while an OPEN or CLOSING domain holds it (R99)
  sitePlat : Tab Nat := []           -- the plat a site holds (R99)
  pools : Tab Pool := []
  lotIndex : List (Nat × Nat) := []  -- lot index entries (domain, lot), least recently used first (R108)
  tallyLines : List (Nat × Nat) := []  -- tally store lines (domain, 2 × line group + column flag), least recently used first
  exc : Tab ExcEntry := []           -- exception log by ring index (R90)
  heapUsed : Nat := 0                -- heap units of 64 bytes in use (R109)
  heapLost : List HeapSpace := []    -- places of domains whose entry was lost: heap returns only at RELEASE (R109)
  heapLow : Bool := false            -- CAD_STATUS.HEAP_LOW
  folded : Nat := 0                  -- CAD_FOLDED
  excTotal : Nat := 0                -- CAD_EXC_TOTAL
  dcmd : Option DomCmd := none       -- the domain command that is BUSY (R117)
  stopped : Bool := false            -- CAD_DSTAT.STOPPED
  done : Nat := 0                    -- CAD_DSTAT.DONE
  closeQ : List QueuedClose := []    -- closes queued outside SERVICE, oldest first (R118)
  readout : Option Readout := none
  rstat : Nat := 0                   -- status of the last readout (CAD_RSTAT)
  tLeft : Nat := 0                   -- GTIME at which SERVICE was last left: gap and fence timers stand still from then
deriving DecidableEq, Repr

/-- One redundancy analysis engine (R123 to R127, R148). -/
structure Engine where
  domain : Option Nat := none        -- the domain it analyses
  last : Nat := 0                    -- domain of the current or last analysis
  leg : Bool := false                -- out for a self-test leg
  failed : Bool := false
  phase : Nat := 0                   -- RAE_E_STAT.STATE of an analysis: 1 LOADING, 2 SEARCH, 3 WRITING (R149)
  spent : Option (Nat × Nat) := none -- a budget is spent: 1 time or 2 node budget, and the node() calls made before it
  tTake : Nat := 0                   -- GTIME of the take-up
  nodes : Nat := 0                   -- RAE_E_NODES
  done : Nat := 0                    -- RAE_E_DONE
  elapsed : Nat := 0                 -- RAE_E_ELAPSED
deriving DecidableEq, Repr

/-- Redundancy analysis beyond its registers. -/
structure RaeSt where
  engines : Tab Engine := []
  queue : List Nat := []             -- dispatch queue of domain ids (R123)
  limit : Nat := 64                  -- engines the throttle action allows (R347)
  copyQ : List ResultRec := []       -- results complete and not yet copied, in order (R146)
  ringNew : Nat := 0                 -- slots written since the last RESULT_READY (R147)
  holdoff : Bool := false            -- an alert holdoff runs (R147)
  holdoffDue : Nat := 0              -- when it ends, in half ticks of GTIME
  dispatch : Bool := true            -- dispatch is not stopped (R26)
deriving DecidableEq, Repr

/-- Service classes beyond their registers (R162, R175 to R179). -/
structure QosSt where
  inforce : Nat := 0                 -- QOS_INFORCE
  shed : Nat := 0                    -- QOS_SHED
  tChange : Nat := 0                 -- GTIME of the last capacity change
  bucket : Tab (Nat × Nat) := []     -- class: tokens in bytes × 312,500,000 and the GTIME they stood so; unlisted: full
  stray : Nat := 0                   -- bit n: the traffic that class n sent last did not conform (R175)
  missAlert : Tab Nat := []          -- class: GTIME of its last GUARANTEE_MISS alert (R179)
  holdTicks : Tab Nat := []          -- class: SCLK ticks its credits were withheld, up to the end of the last interval (QOS_C_HOLD)
  withheld : Tab (Nat × Bool) := []  -- class: its FAIL credits are withheld, since this GTIME; HOLD_EXCEEDED was raised (R175)
  shedAt : Tab Nat := []             -- class: GTIME of its last shedding (R180)
  change : Bool := false             -- a capacity change waits for its evaluation (R176)
deriving DecidableEq, Repr


/-- The lane states (R195, R212). -/
inductive LaneState where
  | off | detect | train | lock | capx | standby | active | test
deriving DecidableEq, Repr

/-- The lane state codes of R212. -/
def LaneState.code : LaneState → Nat
  | .off => 0 | .detect => 1 | .train => 2 | .lock => 3 | .capx => 4 | .standby => 5 | .active => 6 | .test => 7

/-- A PRBS checker (R208): the last bits received, or the pattern's own once it has locked, the error-free symbols in a row, and whether
it has locked. -/
structure PrbsCheck where
  reg : Nat := 0
  run : Nat := 0
  lock : Bool := false
deriving DecidableEq, Repr

/-- One lane (R193 to R198, R208, R209). Its counters are registers. -/
structure Lane where
  state : LaneState := .off
  ready : Bool := false
  cwLock : Bool := false
  blkLock : Bool := false
  markAt : Option Nat := none        -- block time at which its last marker arrived (R193)
  skewAt : Option Nat := none        -- GTIME since which its skew exceeds 125 block times (R193)
  scr : Nat := 0                     -- the 58 scrambled bits received last (R184)
  rxq : List (Nat × List (Option RxBlock)) := []  -- codewords not yet destriped, oldest first: codewords since the marker
                                     -- position, and the blocks, none for a discarded one (R185, R192)
  tTimer : Nat := 0                  -- GTIME at which the timer of its state or its backoff last started (R195)
  failStreak : Nat := 0
  backoff : Bool := false            -- a retry backoff runs (R195)
  signalSent : Bool := false         -- NO_SIGNAL already set in this stay in DETECT (R195)
  rxReady : Nat := 0                 -- consecutive training frames with RX_READY received (R194)
  txReady : Nat := 0                 -- consecutive training frames with RX_READY sent (R194)
  frames : Option Nat := none        -- frame boundaries since both sides had 8 of them (R194)
  gen : Nat := 0                     -- the register of its PRBS generator, 0 before its first use (R194, R208)
  request : Option (Nat × Nat) := none  -- the stack's own tap request, not yet answered, and the frames since (R194)
  tapDue : List (Option Nat) := [none, none]  -- tap answers due in the next frame and the next but one (R194)
  phase : Option Nat := none         -- codewords since the last marker position; none before the first marker (R188)
  markerBad : Nat := 0               -- markers missing, invalid or misnamed in a row (R188)
  hdrRun : Nat := 0                  -- consecutive blocks with a valid sync header (R188)
  uncRun : Nat := 0                  -- consecutive uncorrectable codewords (R198)
  margWin : Nat := 0                 -- the 1 ms window, by GTIME, of the count below (R198)
  margCnt : Nat := 0                 -- codewords of the window with 9 or more corrected symbols
  inj : Option (Nat × Nat) := none   -- an injection not yet applied: kind and count (R209)
  flipIn : Nat := 0                  -- bits of the PRBS stream up to the next injected error (R209)
  check : PrbsCheck := {}
deriving DecidableEq, Repr

/-- The chain states (R212). -/
inductive ChainState where
  | off | forming | up
deriving DecidableEq, Repr

/-- The chain state codes of R212. -/
def ChainState.code : ChainState → Nat
  | .off => 0 | .forming => 1 | .up => 2

/-- The exchange of R202 on a chain: what the stack has announced or committed. `form` marks a formation (R204),
`partner` that the partner's COMMIT has arrived. -/
inductive Rejoin where
  | none
  | announced (mask : Nat) (form : Bool)
  | committed (mask old : Nat) (form partner : Bool)
deriving DecidableEq, Repr

/-- A switch of a direction of a chain that its switch stripe will bring (R192, R199, R200, R202). -/
structure Switch where
  mask : Nat
  epoch : Nat
  stripe : Nat
  drop : Bool
  dropped : List (Nat × Nat) := []   -- the lanes that leave, with the condition of the alert (R242), 0 where none of them holds
deriving DecidableEq, Repr

/-- One chain (R191 to R206). Masks number the configured lanes in ascending lane index (R187). -/
structure ChainLnk where
  en : Bool := false
  minw : Nat := 0
  partner : Nat := 0
  lanes : Nat := 0                   -- bit n: lane Ln is configured
  margLim : Nat := 0
  state : ChainState := .off
  peer : Nat := 0                    -- ID of the last matching CAPX
  window : Bool := false             -- the formation window is open (R197)
  windowAt : Nat := 0                -- GTIME at which it opened
  windowOver : Bool := false         -- it has ended with fewer than MINW lanes ready, or the chain was UP before (R197, R205)
  txMask : Nat := 0
  txEpoch : Nat := 0
  txStripe : Nat := 0                -- number of the stripe being filled or sent next (R192)
  txPos : Nat := 0                   -- stripe blocks already placed in it
  txSwitch : Option Switch := none
  rxMask : Nat := 0
  rxEpoch : Nat := 0
  rxStripe : Nat := 0                -- number of the next stripe received (R192)
  rxSwitch : Option Switch := none
  rejoin : Rejoin := .none
  tSent : Nat := 0                   -- GTIME at which the stack last sent an ANNOUNCE or a COMMIT (R202)
  lapsed : Option Nat := none        -- GTIME at which a rejoin last lapsed (R202)
  discard : Bool := false            -- received stripe blocks are discarded until the partner's new epoch (R199)
  holdOff : Bool := false            -- its lanes are off in HOLD with HOLD-links 0: no chain down (R205)
  tUp : Nat := 0                     -- LNK_C_T_UP
deriving DecidableEq, Repr

/-- A new packet that waits (R161, R224, R228): its traffic conforms, and the GTIME since which it waits. -/
structure Waiting where
  pkt : Packet
  conf : Bool
  since : Nat
deriving DecidableEq, Repr

/-- The packet layer of one chain (R214 to R231, R243). Credit totals are per pool, 0 to 32, modulo 2^24; a pool not
listed stands at zero. -/
structure ChainPkt where
  txNext : Nat := 0                  -- LSEQ of the next new packet (R220)
  replay : List Packet := []         -- unacknowledged packets, oldest first (R223)
  sentAt : List Nat := []            -- GTIME of the last sending of each of them (R223)
  waiting : List Waiting := []       -- new packets waiting for credit or room, oldest first (R224, R228)
  streak : Nat := 0                  -- consecutive replays without the oldest packet changing (R223)
  replayEnd : Nat := 0               -- GTIME at which the last replay has been sent (R249)
  rxAsm : List (Option RxBlock) := []  -- stripe blocks of the packet being received, none for an error slot (R216, R218)
  aheadSent : Nat := 0               -- stripe block positions taken ahead of the levels since formation (R219)
  ackSent : Nat := 0                 -- ACK and NAK blocks sent since formation (R219)
  ackOwed : Bool := false            -- an ACK waits for its share of the positions (R219)
  nakOwed : Bool := false            -- a NAK waits for its share of the positions (R219)
  round : Tab Nat := []              -- class: packets sent in the present round of level 5 (R161)
  e : Nat := 0                       -- E, the LSEQ expected next (R221)
  nakE : Option (Nat × Nat) := none  -- the E last answered with NAK, and GTIME of that NAK (R221)
  granted : Tab Nat := []            -- credits granted by the partner (R227)
  consumed : Tab Nat := []           -- credits the stack has consumed (R228)
  given : Tab Nat := []              -- credits granted by the stack (R229)
  givenSent : Tab Nat := []          -- the totals last sent in a CREDIT packet (R229)
  movedAt : Tab Nat := []            -- pools whose total has moved since, with the GTIME of the move (R229)
  rxUsed : Tab Nat := []             -- credits used by the packets the stack accepted (R228)
  ctlOwed : List Nat := []           -- costs of the accepted CTL requests not yet answered, oldest first (R229)
  alerts : List Alert := []          -- alert queue, oldest first (R243)
deriving DecidableEq, Repr

/-- The width of a channel (R319). -/
inductive Width where
  | full | half | retired
deriving DecidableEq, Repr

/-- The width codes of R335. -/
def Width.code : Width → Nat
  | .full => 0 | .half => 1 | .retired => 2

/-- A merge-buffer entry (R287): its codeword, its data, its byte-valid mask, the class whose write
allocated it and the bytes already charged (R290); `due`: its 2 µs are over, and it waits for its bank (R288, R312). -/
structure MergeEntry where
  addr : Nat
  data : BitVec 512
  valid : BitVec 64
  cls : Nat
  charged : Nat
  due : Bool := false
  t : Nat := 0                       -- GTIME of its allocation, moved on by the time in self-refresh (R288, R292)
deriving DecidableEq, Repr

/-- What a request to a channel does: it reads a codeword for a reader, or codeword `slot` of a BRD in progress; it writes some
bytes, of which its class has paid for `paid` (R290); it sends a refused write again, as it was encoded (R266); or it is a write
whose command has been issued, by the number of that command, and whose data stand here until its parity window has passed (R255,
R266). -/
inductive ReqOp where
  | read (errs : ReadErrs) (reader : Reader)
  | job (id slot : Nat)
  | write (data : BitVec 512) (bytes : BitVec 64) (paid : Nat)
  | again (data : BitVec 512) (err : List (Nat × BitVec 16))
  | sent (num : Nat) (data : BitVec 512) (err : List (Nat × BitVec 16))
deriving DecidableEq, Repr

/-- The request is a write. -/
def ReqOp.isWrite : ReqOp → Bool
  | .write _ _ _ => true
  | .again _ _ => true
  | .sent _ _ _ => true
  | _ => false

/-- The request is a write that has been issued. -/
def ReqOp.isSent : ReqOp → Bool
  | .sent _ _ _ => true
  | _ => false

/-- The request is a write that has yet to be issued. -/
def ReqOp.waitsWrite (o : ReqOp) : Bool := o.isWrite && !o.isSent

/-- A codeword request that waits for its channel (R255): its number in order of arrival, its codeword, its class with whether it
conforms and since when it waits, and the transaction tag it holds once it has left its class arbiter (R12). -/
structure DmcReq where
  seq : Nat
  addr : Nat
  cls : Nat
  conf : Bool
  since : Nat
  op : ReqOp
  tag : Option Nat
deriving DecidableEq, Repr

/-- A command in the retry buffer (R266): kind 1 read, 2 write, 3 activate, 4 precharge, 5 refresh; its address and GTIME of its
issue; what a write stores, and what its codeword holds if the die ignores it (R265); of a refresh that does not count as issued yet,
OWED at its issue. -/
structure DramCmd where
  kind : Nat
  addr : Nat
  at_ : Nat
  data : BitVec 512 := 0
  err : List (Nat × BitVec 16) := []
  oldMem : List Host.Cell := []
  oldErr : List (Nat × BitVec 16) := []
  owes : Option Nat := none
deriving DecidableEq, Repr

/-- A codeword of a BRD in progress: not yet read, its data, or not delivered. -/
inductive JobCw where
  | waits
  | data (d : BitVec 512)
  | bad
deriving DecidableEq, Repr


/-- A benchmark (R329): value, GTIME and band. -/
structure Bench where
  value : Nat
  gtime : Nat
  band : Nat
deriving DecidableEq, Repr

/-- A channel: its memory controller (R255 to R274), its data integrity (R279 to R302), its lanes, legs and repairs
(R303 to R322) and its calibration (R329 to R332). Its counters are registers. -/
structure Chan where
  on : Bool := false                 -- powered and brought up; DMC_STATUS.STATE reads OFF otherwise
  sr : Bool := false                 -- its core die is in self-refresh
  srAt : Nat := 0                    -- GTIME at which it last entered self-refresh (R292)
  width : Width := .full
  cause : Nat := 0                   -- retirement cause (R319, R326)
  owed : Nat := 0                    -- OWED (R262)
  pulled : Nat := 0                  -- PULLED (R262)
  postpone : Bool := false           -- postponement in effect (R174)
  openRows : Tab Nat := []           -- bank group × 4 + bank: its open row (R256)
  held : Bool := false               -- traffic is held for a command/address lane test (R267, R285)
  retry : List DramCmd := []         -- command retry buffer, oldest first (R266)
  issued : Nat := 0                  -- commands issued
  work : Nat := 0                    -- activates, column commands and refreshes since the last model update (R340)
  refused : Option (Nat × Nat) := none  -- the command last refused, by its number, and its consecutive refusals (R267)
  rq : List DmcReq := []             -- read queue, oldest first (R255)
  wq : List DmcReq := []             -- write queue, oldest first (R255)
  arb : List DmcReq := []            -- requests that wait in their class arbiters for a queue or a tag, oldest first (R255)
  round : Tab Nat := []              -- class: requests the scheduler has served in the present round of level 5 (R161, R256)
  roundArb : Tab Nat := []           -- class: requests that have left its arbiter in the present round of level 5 (R161, R255)
  merge : List MergeEntry := []      -- merge buffer, oldest allocation first (R287)
  wb : List Nat := []                -- codewords whose CORRECTED_2 demand read is still to be written back (R295)
  scrubStart : Nat := 0              -- GTIME at which the scrub pass began (R294)
  hotSym : Nat := 0                  -- ECC_C_STATUS.HOTSYM
  hotLast : Tab Nat := []            -- symbol position: GTIME of its last HOTPOS (R297)
  hotWin : Nat := 0                  -- the 1 ms window, by GTIME, of the two counts below (R297, R320)
  hotCnt : Tab Nat := []             -- symbol position: codewords corrected there in the window
  hotBits : Tab Nat := []            -- logical lane: corrected bits it carried in the window (R280)
  cands : List Nat := []             -- repair candidates: rows a[31:11] handed over under R296
  dataFail : List Nat := []          -- failed physical data/check lanes
  caFail : List Nat := []            -- failed physical command/address lanes
  steer : List Nat := List.range 72  -- logical data/check lane: its physical lane (R319)
  caSteer : List Nat := List.range 14  -- logical command/address lane: its physical lane
  chkCopy : Nat := 0                 -- the check-logic copy that serves (R303)
  oot : List Nat := []               -- out-of-turn legs queued, oldest first, laid out as BST_ARG (R305)
  rerun : List Nat := []             -- scheduled legs that run again, oldest first (R309)
  rowLegs : Nat := 0                 -- ROW legs since the last side leg (R305)
  side : Nat := 0                    -- next leg of the side round, 0 to 733 (R305)
  trvPtr : Nat := 0                  -- BST_C_TRV_PTR
  rowRepair : Tab Nat := []          -- 65,536 × bank + row: its spare row
  colRepair : Tab Nat := []          -- 1,024 × bank + 32 × segment + column: its spare column
  badSpares : List Nat := []         -- 32 × bank + spare row 0 to 7, or 8 + 2 × segment + spare column (R311)
  colFails : List Nat := []          -- columns that produced a one-column FAIL in this round (R314)
  colCopy : List (Nat × Nat) := []   -- column repairs being copied: entry (R317) and chunks copied (R315)
  unrepaired : List Nat := []        -- rows left unrepaired (R314)
  incRun : Tab Nat := []             -- block: consecutive INCOMPLETE outcomes (R310)
  preRun : Tab Nat := []             -- block: consecutive preemptions (R312)
  passOver : List Nat := []          -- blocks passed over until the next round (R310)
  lastRow : Bool := false            -- the leg of the round's last row has been taken up (R305, R314)
  calPos : Nat := 0                  -- next calibration step, 0 to 22 (R330)
  setting : Tab Nat := []            -- 128 × kind + lane: the setting in use, in taps or codes (R329)
  target : Tab Nat := []             -- settings that still move toward an accepted value (R331)
  lastMove : Tab Nat := []           -- lane, 128 + command/address lane, 256 for IMP: GTIME of its last tap move (R331)
  bench : Tab Bench := []            -- 512 × point + 128 × kind + lane (R329)
  rejRun : Tab Nat := []             -- lane, 128 + command/address lane: consecutive rejections (R331)
deriving DecidableEq, Repr


/-- A running leg (R303 to R313): its block laid out as BST_ARG, whether it may be preempted (R312), and the logical lane steered
away for it (R303). -/
structure Leg where
  block : Nat
  preemptible : Bool
  back : Option Nat
  since : Nat := 0                   -- GTIME of its start, from which its budget runs (R307)
deriving DecidableEq, Repr

/-- Self-test beyond the channels (R303 to R328). -/
structure BstSt where
  running : List Leg := []
  lastStart : Option Nat := none     -- GTIME of the last leg start (R307)
  basePos : Nat := 0                 -- next base-die leg of the round, 0 to 3,191 (R306)
  baseQueue : List Nat := []         -- base-die legs that run again (R309), oldest first
  incRun : Tab Nat := []             -- base-die block: consecutive INCOMPLETE outcomes
  preRun : Tab Nat := []             -- VXU block: consecutive preemptions
  passOver : List Nat := []          -- base-die blocks passed over until the next round
  vxuOff : List Nat := []            -- VXUs whose leg failed (R311)
  sramSpared : List Nat := []        -- SRAM banks replaced by the spare of their macro (R311)
  sramOut : List Nat := []           -- SRAM banks left in use without a spare
  clkLost : List Nat := []           -- 2 × die group + bundle (BST_DG_CLK)
  dgRetired : List Nat := []         -- retired die groups
  lastOut : Nat := 0                 -- BST_STATUS.LAST_OUT
  fulltest : Bool := false
  aborting : Bool := false           -- ABORT_FULLTEST accepted
  ftLoad : Bool := false             -- the running test is the one of LOAD (R328)
  ftRepairs : Nat := 0
  ftFailed : Nat := 0
  ftInc : Nat := 0                   -- legs of the test that were left INCOMPLETE (R310, R333)
  ftPos : Nat := 0                   -- blocks the test has come to, in its order (R328)
  ftRerun : List Nat := []           -- its legs that run again, oldest first (R309)
  log : List Nat := []               -- repair log entries (R317), kept in the ledger
  softRepair : Bool := false         -- SOFT_REPAIR_ONLY: a repair fuse region is invalid (R30)
deriving DecidableEq, Repr


/-- A shutdown record (R356). -/
structure ShutRec where
  gtime : Nat
  die : Nat
  path : Nat
  band : Nat
  armed : Bool
  complete : Bool
  value : Nat
  loads : Nat
deriving DecidableEq, Repr

/-- The thermal state (R338 to R358). Temperatures are in 1/16 °C; a table's entry for a die or zone is named by the die
number 1 to 16, or 32 + zone. -/
structure ThmSt where
  reading : Tab Int := []            -- sensor: last reading
  excluded : List Nat := []
  departs : Tab Nat := []            -- sensor: consecutive readings that departed (R342)
  median : Tab Int := []             -- die or zone: its median, unlisted when undefined
  model : Tab Int := []              -- die or zone: its model value
  lid : Int := 0
  fitHeld : Bool := false            -- the fit was held at the last update (R341)
  modelOnly : List Nat := []         -- dies and zones whose sensors are all excluded (R343)
  band : Nat := 0
  level : Nat := 0                   -- throttle level
  interval : Nat := 0                -- 0 1 ms, 1 100 µs, 2 20 µs
  longRun : Nat := 0                 -- consecutive readings that allow a longer interval (R344)
  warnCore : Bool := false           -- the warning condition holds of the core dies (R345)
  warnBase : Bool := false           -- it holds of the base die
  rising : Bool := false             -- the 2 ms rising timer runs
  falling : Bool := false            -- the 20 ms falling timer runs
  tStep : Nat := 0                   -- GTIME at which the timer that runs last started (R348)
  thrCore : Bool := false            -- the throttle condition holds of the core dies (R345)
  thrBase : Bool := false            -- it holds of the base die
  permit : Option Nat := none        -- a faster point that the band permits, its 1 s timer running (R352)
  tPermit : Nat := 0                 -- GTIME since which the band permits it
  maxlvl : Nat := 4                  -- THERMAL entry in effect (R353)
  points : Nat := 15
  records : List ShutRec := []       -- shutdown records, newest first, at most 16, kept in the ledger
  announce : Nat := 0                -- records, from the newest, that await their SHUTDOWN_RECORD alert (R357)
  hot : Bool := false                -- the shutdown condition was detected and has not ended (R371)
  thrMs : Nat := 0                   -- SCLK ticks spent at a level above 0, up to the last return to 0 (THM_THR_TIME)
  thrSince : Option Nat := none      -- GTIME at which the level left 0
  trip : Bool := false               -- THERMTRIP_N is low
  cool : Bool := false               -- a shutdown has turned the rails off (R355)
deriving DecidableEq, Repr

/-- The states of a power domain (R362); `changing` is the code 3 of R368. -/
inductive PwrState where
  | off | ret | on | changing
deriving DecidableEq, Repr

/-- The state codes of R368. -/
def PwrState.code : PwrState → Nat
  | .off => 0 | .ret => 1 | .on => 2 | .changing => 3

/-- Power beyond the registers (R359 to R363). -/
structure PwrSt where
  dom : Tab PwrState := [(0, .on), (12, .on)]  -- PDn; unlisted: OFF
  railOff : Nat := 0                 -- PWR_RAIL_OFF: rails turned off for retirement
deriving DecidableEq, Repr


/-- A ledger word, or the words of one record of it, as the writes other than copies of history entries name them (R317, R356, R386,
R457, R459, R469). -/
inductive LedgerWord where
  | slot (n : Nat)          -- an availability slot (R386)
  | pointer (b : Bool)      -- the set pointer word: copy A, or B
  | current                 -- CUR
  | kept                    -- KEPT
  | staging                 -- the staging record
  | floor (i : Nat)         -- a rollback floor
  | repair (i : Nat)        -- an entry of the repair log (R317)
  | trip                    -- the trip marker of the newest shutdown (R355)
  | shutdown                -- the newest shutdown record
deriving DecidableEq, Repr

/-- Faults and alerts (R371 to R384). The sticky bits, masks and thresholds are registers. -/
structure FltSt where
  hist : List HistEntry := []          -- the 64 most recent entries, oldest first (R378)
  hseq : Nat := 0                      -- FLT_HIST_NEXT
  histLost : Nat := 0                  -- FLT_HIST_LOST
  suppressed : Nat := 0                -- FLT_SUPPRESSED
  lastEntry : List (Nat × Nat × Nat) := []  -- CORRECTED sources: source, detail A, GTIME of the last entry (R372)
  coldLatch : List (Nat × Nat × Nat) := []  -- details latched in COLD: source, A, B (R376)
  toCopy : List HistEntry := []        -- entries not yet offered to the ledger, oldest first (R379)
  ledger : List HistEntry := []        -- the ring of 4,096 copies, oldest first, kept in the ledger (R379)
  pseq : Nat := 0                      -- FLT_LED_NEXT
  copySec : Nat := 0                   -- the second, by GTIME, that the counts below belong to (R379)
  copied : Nat := 0
  copiedCorr : Nat := 0
  ledLost : Nat := 0                   -- FLT_LED_LOST
  unchecked : List LedgerWord := []    -- ledger writes whose read-back check is to come (R370)
  badWords : List LedgerWord := []     -- ledger words whose last write failed its check twice
  lastSrc : Nat := 0                   -- FLT_SUMMARY.LASTSRC
  acode : Nat := 0                     -- FLT_SUMMARY.ACODE (R381)
  alertN : Bool := false               -- ALERT_N is driven low (R381)
  aseq : Nat := 0                      -- ASEQ of the next alert (R241)
  safeSrc : Option (Nat × Nat) := none -- source and GTIME[31:0] that the SAFE blocks name (R383, R384)
deriving DecidableEq, Repr

/-- What a sample of an event latches (R396): GTIME, the context words A and B, and the counter's value after the event. -/
structure SampleCtx where
  gtime : Nat
  a : Nat
  b : Nat
  value : Nat
deriving DecidableEq, Repr

/-- A performance counter sample (R396), with the scope of its counter: 0 DEVICE, 1 PARTITION and the partition, 2 SECURITY. -/
structure Sample where
  counter : Nat
  skid : Nat
  b : Nat
  gtime : Nat
  a : Nat
  value : Nat
  scope : Nat × Nat
deriving DecidableEq, Repr

/-- The performance counters beyond their registers (R388 to R396). -/
structure PmcSt where
  samples : List Sample := []      -- the buffer of 512 (R396)
  since : Tab Nat := []            -- counter: count since its last sample (R396)
  due : Tab (List SampleCtx) := [] -- counter with a sample due: the event that completed the period and those after it, at most 16
  dseq : Nat := 0                  -- PMC_DSEQ
  wptr : Nat := 0                  -- PMC_DMP_WPTR
  wraps : Nat := 0                 -- PMC_DMP_WRAPS
  skipped : Nat := 0               -- PMC_DMP_SKIP
  smpLost : Nat := 0               -- PMC_SMP_LOST
  scopes : Tab (Nat × Nat) := []   -- DMP slot: scope and partition of the record written there (R394, R398)
deriving DecidableEq, Repr

/-- One availability slot of the ledger (R386): the counts, the mode at the write, whether its time counts as unscheduled,
the slot sequence, UPD_TRIAL and the CRC. -/
structure AvSlot where
  unsched : Nat
  avail : Nat
  loads : Nat
  safes : Nat
  mode : Nat
  counts : Bool
  seq : Nat
  trial : Nat := 0                 -- UPD_TRIAL (R474)
  crc : Nat                        -- the CRC-16 of R80 over what stands above
deriving DecidableEq, Repr

/-- The availability account (R385 to R387). -/
structure AvailSt where
  unsched : Nat := 0               -- FLT_AV_UNSCHED, ms
  avail : Nat := 0                 -- FLT_AV_AVAIL, ms
  loads : Nat := 0                 -- FLT_AV_LOADS
  safes : Nat := 0                 -- FLT_AV_SAFES
  slots : Tab AvSlot := []         -- the 32 ledger slots
  slotSeq : Nat := 0
  maintLoad : Bool := false        -- the present MAINTAIN was entered from LOAD (R22)
  buckets : List (Nat × Nat) := [(0, 0)]  -- unscheduled and counted ms, newest first, at most 52 (R387)
  budgetHit : Bool := false        -- AVAIL_BUDGET recorded in the current bucket (R387)
deriving DecidableEq, Repr

/-- An outstanding nonce (R413): its path (chain 0 to 15, 0x10 I3C), value and expiry. -/
structure Nonce where
  path : Nat
  value : BitVec 256
  expires : Nat
deriving DecidableEq, Repr

/-- An open session (R416, R421, R429). -/
structure Session where
  sid : Nat
  role : Role
  path : Nat                        -- chain 0 to 15, 0x10 I3C
  keysel : Nat
  key : List Byte                   -- the public key that opened it (R415 step 9, R408)
  timeout : Nat                     -- s
  tLast : Nat                       -- GTIME at which its idle timer last started (R418); SEC_S_IDLE counts down from it
  tOpen : Nat
  scntIn : Nat := 0                 -- last SCNT accepted (R418)
  scntOut : Nat := 0                -- last SCNT the stack sent (R419)
  khs : BitVec 512
  ksh : BitVec 512
  fails : List Nat := []            -- GTIME of its tag failures within the last second (R420)
deriving DecidableEq, Repr

/-- How the answer of an ENROLL in progress is sent (R408, R419): as the answer to the command; as the CTL response to a request body on
a chain, or to a frame; or no more, since its session's keys have been erased (R422). -/
inductive EnrolVia where
  | command
  | chain (k : Nat) (body : List Byte)
  | frame (body : List Byte)
  | lost
deriving DecidableEq, Repr

/-- An ENROLL in progress (R408): its requester, the slot and the session it is answered under, how it is answered, and the packets of the
same session that are to be sent after its answer (R240), each with whether it conforms. -/
structure EnrolJob where
  req : Req
  sess : Nat × Session
  via : EnrolVia
  later : List (Packet × Bool) := []
deriving DecidableEq, Repr

/-- A BRD that waits for some of its codewords (R234): its chain, its request, the slot and the session it is answered under, its
partition, whether its traffic conforms, and its codewords. -/
structure BrdJob where
  chain : Nat
  pkt : Packet
  sess : Option (Nat × Session)
  part : Nat
  conf : Bool
  cws : List JobCw
deriving DecidableEq, Repr

/-- A HOST_KEY entry (R409). -/
structure HostKey where
  index : Nat
  role : Role
  key : List Byte
deriving DecidableEq, Repr

/-- The lifecycle states (R407). -/
inductive Lifecycle where
  | vendor | unowned | owned
deriving DecidableEq, Repr

/-- The lifecycle codes of R407. -/
def Lifecycle.code : Lifecycle → Nat
  | .vendor => 0 | .unowned => 1 | .owned => 2

/-- The security island (R405 to R430). The DIK, anchor and endorsement stand in the fuses. -/
structure SecSt where
  sessions : Tab Session := []      -- slot 0 to 15
  closing : List (Nat × Session) := []  -- sessions that have ended while requests of theirs are still being answered (R421)
  serving : Option (Nat × Nat) := none  -- slot and SID of the session whose request is being served
  enrol : Option EnrolJob := none   -- the ENROLL in progress (R408)
  pk : List Nat := []               -- GTIME at which SEC is done with each public-key operation it has taken, oldest first (R412)
  nonces : List Nonce := []         -- oldest first
  lastSid : Nat := 0                -- last SID assigned since the cold load (R416)
  openFails : List (Nat × Nat) := []   -- path and GTIME of failed OPENs within the last second (R415)
  blocked : Tab Nat := []           -- path: GTIME until which NONCE is answered with E_BUSY (R415)
  hostKeys : List HostKey := []     -- HOST_KEY entries in effect
  idle : Nat := 300                 -- IDLE, s (R410)
  reqTag : Bool := false            -- REQ_TAG (R410)
  i3cSess : Bool := true            -- I3C_SESS (R410)
  lifecycle : Lifecycle := .vendor
  katOk : Bool := false             -- R406 passed
  uid : BitVec 512 := 0             -- UID (R405); zero until step 4 of R460 (R499)
  anchor : BitVec 512 := 0          -- SEC_ANCHOR: the owner anchor as read at load
  dbgEver : Bool := false           -- DBG_EVER: an unlock has occurred since manufacture (R427)
deriving DecidableEq, Repr

/-- A transit (R268): its new point, GTIME at which it was ordered and at which it ends, the calibration of its step 9, and the last
step it has done of 1 (ordered), 4 (every die in self-refresh) and 7 (running at the new point). -/
structure Transit where
  point : Nat
  start : Nat
  over_ : Nat
  cal : CalResult
  step : Nat
deriving DecidableEq, Repr

/-- A change of width that a transit puts off to its end (R274). -/
inductive Later where
  | narrow (c : Nat)
  | retire (c cause : Nat)
  | group (g : Nat)
deriving DecidableEq, Repr

/-- The memory controllers together (R258, R268 to R273). -/
structure DmcSt where
  chans : Tab Chan := []
  point : Nat := 0                   -- frequency point in effect
  holdPoint : Nat := 0               -- the point at HOLD entry (R272)
  due : Option Nat := none           -- a transit that waits for the spacing of R269
  tEnd : Option Nat := none          -- GTIME of the end of the last transit (R269)
  move : Option Transit := none      -- the transit that runs (R268)
  later : List Later := []           -- changes of width put off to its end, oldest first (R274)
  reqSeq : Nat := 0                  -- requests that had to wait so far
  tagsLost : List Nat := []          -- tags of requests that a FATAL fault discarded: not returned (R273)
  jobs : Tab BrdJob := []            -- BRD requests in progress (R234)
  nextJob : Nat := 0
  freqReq : Nat := 0                 -- DMC_FREQ_REQ: the last accepted request
deriving DecidableEq, Repr


/-- What a fuse operation programs for (R408, R432, R447, R451, R472). -/
inductive FuseKind where
  | repair | advance | reinforce | enrol | patch
deriving DecidableEq, Repr

/-- A step of a fuse operation: the program pulses of an array bit (R439); the sense of a region before its lock, with the words 0 to 62
it must read as, and the reinforcement of what that finds marginal (R440); the blowing of its four lock fuses (R435); one reinforcement
pulse on a bit (R451); the reinforcement of what a sense finds marginal among bits written (R447). -/
inductive FuseStep where
  | blow (bit : Nat)
  | settle (region : Nat) (image : List DWord)
  | lock (region : Nat)
  | boost (bit : Nat)
  | tidy (bits : List Nat)
deriving DecidableEq, Repr

/-- A fuse operation: what it programs for, and the steps still to come. -/
structure FuseOp where
  kind : FuseKind
  steps : List FuseStep
deriving DecidableEq, Repr

/-- The fuse array and its engine (R431 to R451). Words are numbered 64 × region + word. -/
structure FseSt where
  bits : Tab DWord := []             -- programmed bits
  weak : Tab DWord := []             -- bits that read 0 at the tight reference
  cold : Tab DWord := []             -- the words as the last cold-load sense read them at the normal reference (R437)
  sensed : Bool := false             -- the cold-load sense is complete (R23)
  reinforced : List Nat := []        -- array bits reinforced since
  margSeen : List Nat := []          -- marginal bits recorded in this power cycle (R438)
  inv : Tab Nat := []                -- regions last judged INVALID, with their reasons
  op : Option FuseOp := none         -- the operation in progress
  waiting : List FuseOp := []        -- operations ordered while another is in progress, oldest first
  senseDue : Bool := false           -- a band change has made a sense due (R437)
  last : Nat := 0                    -- FSE_STATUS.LAST
  vfuse : Bool := false              -- FSE_STATUS.SOURCE
  slockSet : List Nat := []          -- FSE_SLOCK registers written since reset (R4)
  floor : List Nat := [0, 0, 0, 0]   -- thermometer counts of the cold-load sense (R446)
deriving DecidableEq, Repr


/-- The states of staging (R469). -/
inductive Stage where
  | idle | receiving | staged | verifying | verified | failed | activating
deriving DecidableEq, Repr

/-- The state codes of R483. -/
def Stage.code : Stage → Nat
  | .idle => 0 | .receiving => 1 | .staged => 2 | .verifying => 3 | .verified => 4 | .failed => 5 | .activating => 6

/-- Boot and update (R452 to R482): the configuration flash, what the ledger holds of both, and the firmware set that
runs. -/
structure UpdSt where
  flash : Tab (List Byte) := []      -- pages of 16 KiB by number; unlisted: erased, every byte 0xFF (R452)
  spwA : DWord := 0                  -- SPW, ledger copy A (R459)
  spwB : DWord := 0                  -- SPW, ledger copy B
  spw : DWord := 0                   -- SPW in effect (UPD_SPW)
  cur : Nat := 0                     -- CUR (ledger); 0 when none
  kept : Nat := 0                    -- KEPT (ledger); 0 when none
  inEffect : Nat := 0                -- the settings generation in effect (R426); 0 while they are defaults
  curOld : Nat := 0                  -- the generation that CUR held before it (R465)
  stage : Stage := .idle             -- staging record (ledger): UPD_STATUS.STATE
  type : Nat := 0                    -- 1 FIRMWARE, 2 CONFIG (R467)
  digest : Nat := 0                  -- first 8 bytes of the chunk 0 digest
  next : Nat := 0                    -- UPD_STG_NEXT
  total : Nat := 0                   -- UPD_STG_TOTAL: n of the staged package
  target : Nat := 0                  -- the slot chosen (R470)
  floors : List Nat := [0, 0, 0, 0]  -- rollback floors of MGC, RAE, PHY, SEC (ledger, R457)
  floorPend : Bool := false          -- UPD_STATUS.FLOOR_PEND (R475)
  trialMs : Nat := 0                 -- UPD_TRIAL
  trialAt : Nat := 0                 -- GTIME at which it reached 86,400,000 (R479)
  last : Status := .ok               -- UPD_STATUS.LAST
  recovery : Bool := false           -- the recovery loader runs (R463)
  back : Option Nat := none          -- a rollback that a warm load is to carry out, with its cause (R476)
  unpatched : Bool := false          -- UNPATCHED_ROM (R30)
  setReset : Bool := false           -- SETTINGS_RESET (R30)
  hash : BitVec 512 := 0             -- manifest hash of the running firmware set (UPD_HASH)
  svns : List Nat := [0, 0, 0, 0]    -- its SVNs
  fwVersion : Nat := 0               -- version of its MGC component (R42)
  patchGen : Option Nat := none      -- generation of the patches the ROM runs with
  patches : List (Nat × Nat × BitVec 32) := []  -- the patch comparators: ROM, word index and the word fetched in its place (R444)
  cfgHash : BitVec 512 := 0          -- SHA-512 of the configuration image in effect (R426)
deriving DecidableEq, Repr



/-- The input pins and the clock that the always-on island watches (R16, R515, R520, R526). -/
structure AonSt where
  resetN : Bool := false             -- RESET_N is high
  pwrgood : Bool := false            -- PWRGOOD is high
  pll : Bool := false                -- the root PLL has locked since RESET_N was released: GTIME counts, the monitor is armed
deriving DecidableEq, Repr

/-- The I3C port (R488 to R491). -/
structure I3cSt where
  da : Option Nat := none            -- dynamic address (GLB_I3C_STAT.DA)
  badFrame : Nat := 0                -- GLB_I3C_STAT.BADFRAME
  dropped : Nat := 0                 -- GLB_I3C_STAT.DROPPED
  answer : Option (List Byte) := none  -- the unread answer
  answerSid : Nat := 0               -- the SID it is tagged under; 0 untagged
deriving DecidableEq, Repr

/-- The states of the TAP controller (R531, IEEE 1149.1). -/
inductive TapState where
  | reset | idle | selDr | capDr | shDr | ex1Dr | pauDr | ex2Dr | updDr
  | selIr | capIr | shIr | ex1Ir | pauIr | ex2Ir | updIr
deriving DecidableEq, Repr

/-- The test access port (R531, R532). -/
structure TapSt where
  state : TapState := .reset
  ir : Nat := 1                      -- instruction in effect: IDCODE after Test-Logic-Reset
  shift : List Bool := []            -- the register being shifted, the bit next to TDO first
  cells : List Bool := List.replicate 43 false  -- update latches of the boundary-scan register (R532)
deriving DecidableEq, Repr


/-- The stack. -/
structure State where
  /-- the commands waiting, first in first out -/
  pending : List Instr := []
  /-- the major mode (GLB_MODE.MODE, R22) -/
  mode : Mode := .cold
  /-- the mode being entered while a transition is under way (GLB_MODE.TRANS and TARGET, R23, R25) -/
  trans : Option Mode := none
  /-- the last LOAD was a warm load (GLB_MODE.WARM) -/
  warm : Bool := false
  /-- registers, by word address; an unlisted address reads its Reset column (`resetWord`, R3) -/
  regs : Tab Word := []
  /-- shadows of RWS registers written since their group's last commit or discard (R500, R501) -/
  shadow : Tab Word := []
  /-- read latches (R497): key 65,536 × path number + SID, the register's address and the latched high word -/
  latches : Tab (Nat × Word) := []
  /-- GTIME (R16) -/
  gtime : DWord := 0
  vxu : Tab VxuUnit := []
  cad : CadSt := {}
  rae : RaeSt := {}
  lanes : Tab Lane := []
  chains : Tab ChainLnk := []
  pkt : Tab ChainPkt := []
  flt : FltSt := {}
  pmc : PmcSt := {}
  sec : SecSt := {}
  avail : AvailSt := {}
  cfg : CfgSt := {}
  qos : QosSt := {}
  dmc : DmcSt := {}
  bst : BstSt := {}
  thm : ThmSt := {}
  pwr : PwrSt := {}
  fse : FseSt := {}
  upd : UpdSt := {}
  aon : AonSt := {}
  i3c : I3cSt := {}
  tap : TapSt := {}
  /-- stack memory: key channel × 2^32 + channel-local address; a byte nothing has written is not listed (R537) -/
  mem : List Host.Cell := []
  /-- stored codewords in error: key of the codeword, and the error in symbol order (position, mask); positions 36 and
  37 stand for the address symbols V0 and V1 (R279 to R281) -/
  errs : Tab (List (Nat × BitVec 16)) := []
  /-- the model's own: what the stack has put out, oldest first (notes/assumptions/5.md) -/
  out : List Emission := []
  /-- the model's own: the answer to the last command answered -/
  answer : Answer := ⟨.ok, []⟩
  /-- the model's own: how many free values have been drawn (notes/assumptions/3.md) -/
  fresh : Nat := 0
deriving DecidableEq, Repr

/-- Why the model stops at a command. -/
inductive Fault where
  /-- raised by a DRAM access whose address is not that of a codeword of a channel, or whose injected error names no symbol
  (R252, R280): the spec gives no such access an effect, and no command of the manual spells one; safe -/
  | illFormed
deriving DecidableEq, Repr

/-- Why the model refuses a command. -/
inductive Refusal where
  /-- raised by an arm of `exec` whose command has no meaning yet: safe -/
  | notModelled (mnemonic : String)
deriving DecidableEq, Repr

/-- The stack right after reset (R3, R22): mode COLD, every register at its Reset column, everything else as the
defaults of the structures above give it. -/
def State.reset : State := {}

end Sys2Proof.Machine
end

