-- ==== Sys2Proof/Machine/Tab.lean ====
section
/-! DEFINITION. Sys2Proof/Machine/Tab.lean: reading and writing the model's sparse tables. -/
namespace Sys2Proof

/-- The entry under key `k`, if the table lists one. -/
def Tab.look {α : Type} (t : Tab α) (k : Nat) : Option α :=
  match t with
  | [] => none
  | p :: r => if p.1 = k then some p.2 else Tab.look r k

/-- The entry under `k`, or `d` where none is listed. -/
def Tab.lookD {α : Type} (t : Tab α) (k : Nat) (d : α) : α := (Tab.look t k).getD d

/-- The table with `v` under key `k`, in its place in the order. -/
def Tab.put {α : Type} (t : Tab α) (k : Nat) (v : α) : Tab α :=
  match t with
  | [] => [(k, v)]
  | p :: r =>
    if k < p.1 then (k, v) :: p :: r
    else if p.1 = k then (k, v) :: r
    else p :: Tab.put r k v

/-- The table without key `k`. -/
def Tab.del {α : Type} (t : Tab α) (k : Nat) : Tab α :=
  match t with
  | [] => []
  | p :: r => if p.1 = k then Tab.del r k else p :: Tab.del r k

end Sys2Proof
end

