-- ==== Sys2Proof/Machine/Ops.lean ====
section
/-! DEFINITION. Sys2Proof/Machine/Ops.lean: the named operations over the state that every family of commands uses:
reading and writing registers and their fields, counters, what the stack puts out, alerts (R241 to R243, R381), faults
(R371 to R377, R382), performance counters (R388 to R391), sessions and roles (R423), and how a command is answered
(R493, R506, R511). -/
namespace Sys2Proof.Machine

/-- What a meaning answers. -/
abbrev Result := Host.Outcome State Fault Refusal

/-! ### Words and fields -/

/-- The mask of a bit range. -/
def fldMask (f : Fld) : Word := (BitVec.allOnes 32 >>> (31 - (f.hi - f.lo))) <<< f.lo

/-- The value of a field of a word. -/
def wget (w : Word) (f : Fld) : Nat := ((w &&& fldMask f) >>> f.lo).toNat

/-- The word with a field replaced; the value is taken modulo the field's width. -/
def wset (w : Word) (f : Fld) (n : Nat) : Word :=
  (w &&& ~~~ fldMask f) ||| ((BitVec.ofNat 32 n <<< f.lo) &&& fldMask f)

/-- Bit `i` of a number. -/
def bitOf (n i : Nat) : Bool := n.testBit i

/-- One bit as a number. -/
def b2n (b : Bool) : Nat := if b then 1 else 0

/-- Bits [hi:lo] of a number. -/
def bitsOf (n hi lo : Nat) : Nat := (n >>> lo) % 2 ^ (hi + 1 - lo)

/-- The number whose bit `i` is set for each `i` of the list. -/
def maskOf (l : List Nat) : Nat := l.foldl (fun a i => a ||| (1 <<< i)) 0

/-- The indices below `n` whose bit is set in `m`, ascending. -/
def bitList (n m : Nat) : List Nat := (List.range n).filter (fun i => m.testBit i)

/-- How many of the `n` low bits of `m` are set. -/
def popcount (n m : Nat) : Nat := (bitList n m).length

/-- Rounded-up division. -/
def ceilDiv (a b : Nat) : Nat := (a + b - 1) / b

/-- Little-endian bytes of a number. -/
def leBytes (count n : Nat) : List Byte := (List.range count).map (fun i => BitVec.ofNat 8 (n >>> (8 * i)))

/-- The number that bytes hold in little-endian order. -/
def leNat : List Byte → Nat
  | [] => 0
  | b :: r => b.toNat + 256 * leNat r

/-- `count` bytes from offset `off`, zeros where the list is short. -/
def slice (l : List Byte) (off count : Nat) : List Byte :=
  (List.range count).map (fun i => l.getD (off + i) 0)

/-- The little-endian number in `count` bytes from offset `off`. -/
def leAt (l : List Byte) (off count : Nat) : Nat := leNat (slice l off count)

/-- A list cut into pieces of `n`. -/
def chunks {α : Type} (n : Nat) : Nat → List α → List (List α)
  | 0, _ => []
  | k + 1, l => if l.isEmpty then [] else l.take n :: chunks n k (l.drop n)

/-! ### Registers -/

/-- The word a register word holds. -/
def State.rd (s : State) (a : Nat) : Word := (Tab.look s.regs a).getD (resetWord a)

/-- A register word written; a word equal to the reset word is not listed, so that equal register files are equal
data. -/
def State.wr (s : State) (a : Nat) (v : Word) : State :=
  { s with regs := if v = resetWord a then Tab.del s.regs a else Tab.put s.regs a v }

/-- A register word as a number. -/
def State.rdN (s : State) (a : Nat) : Nat := (s.rd a).toNat

/-- A register word set to a number, modulo 2^32. -/
def State.wrN (s : State) (a n : Nat) : State := s.wr a (BitVec.ofNat 32 n)

/-- A 64-bit register (R496). -/
def State.rd64 (s : State) (a : Nat) : Nat := s.rdN a + 4294967296 * s.rdN (a + 4)

/-- A 64-bit register set to a number, modulo 2^64. -/
def State.wr64 (s : State) (a n : Nat) : State := (s.wrN a n).wrN (a + 4) (n / 4294967296)

/-- A field of a register. -/
def State.fld (s : State) (a : Nat) (f : Fld) : Nat := wget (s.rd a) f

/-- A field of a register set. -/
def State.setFld (s : State) (a : Nat) (f : Fld) (n : Nat) : State := s.wr a (wset (s.rd a) f n)

/-- A one-bit field of a register, as a Bool. -/
def State.flag (s : State) (a : Nat) (f : Fld) : Bool := s.fld a f != 0

/-- Bits of a register set, the others kept: how the stack sets event and sticky bits. -/
def State.setBits (s : State) (a : Nat) (m : Word) : State := s.wr a (s.rd a ||| m)

/-- An event bit set, by its field. -/
def State.event (s : State) (a : Nat) (f : Fld) : State := s.setBits a (fldMask f)

/-- A 32-bit counter register raised, saturating. -/
def State.satInc (s : State) (a : Nat) (n : Nat := 1) : State := s.wrN a (min (s.rdN a + n) 0xFFFFFFFF)

/-- A 64-bit counter register raised. -/
def State.inc64 (s : State) (a : Nat) (n : Nat := 1) : State := s.wr64 a (s.rd64 a + n)

/-- A counter of a structure raised, saturating at 2^32 - 1. -/
def sat32 (n k : Nat) : Nat := min (n + k) 0xFFFFFFFF

/-! ### Members of the tables, and what the stack puts out -/

/-- A vector expansion unit. -/
def State.vxuU (s : State) (u : Nat) : VxuUnit := Tab.lookD s.vxu u {}

/-- A vector expansion unit replaced. -/
def State.setVxu (s : State) (u : Nat) (x : VxuUnit) : State := { s with vxu := Tab.put s.vxu u x }

/-- A lane. -/
def State.lane (s : State) (l : Nat) : Lane := Tab.lookD s.lanes l {}

/-- A lane replaced. -/
def State.setLane (s : State) (l : Nat) (x : Lane) : State := { s with lanes := Tab.put s.lanes l x }

/-- A chain. -/
def State.chainL (s : State) (k : Nat) : ChainLnk := Tab.lookD s.chains k {}

/-- A chain replaced. -/
def State.setChainL (s : State) (k : Nat) (x : ChainLnk) : State := { s with chains := Tab.put s.chains k x }

/-- The packet layer of a chain. -/
def State.chainP (s : State) (k : Nat) : ChainPkt := Tab.lookD s.pkt k {}

/-- The packet layer of a chain replaced. -/
def State.setChainP (s : State) (k : Nat) (x : ChainPkt) : State := { s with pkt := Tab.put s.pkt k x }

/-- Something put out. -/
def State.emit (s : State) (e : Emission) : State := { s with out := s.out ++ [e] }

/-- The answer given to the command. -/
def State.reply (s : State) (st : Status) (data : List Byte := []) : State := { s with answer := ⟨st, data⟩ }

/-- A free value drawn: the counter moves on, so that the next one is another. -/
def State.draw (s : State) : State := { s with fresh := s.fresh + 1 }

/-- `n` values drawn. -/
def State.drawn (s : State) (n : Nat) : State := { s with fresh := s.fresh + n }

/-- GTIME as a number. -/
def State.now (s : State) : Nat := s.gtime.toNat

/-! ### Alerts (R241 to R243, R381) -/

/-- The chain is UP; in SAFE none is (table of chapter 07, Modes). -/
def State.chainUp (s : State) (k : Nat) : Bool :=
  (s.chainL k).state == .up && s.mode != .safe

/-- The chains the GLOBAL entry names for alerts (R510). -/
def State.alertChains (s : State) : List Nat := bitList 16 (s.fld Reg.GLB_GCFG Fld.GLB_GCFG_ALERT_CHAINS)

/-- An alert placed in the queue of one chain; a full queue of 256 discards its oldest record (R243). -/
def State.queueAlert (s : State) (k : Nat) (al : Alert) : State :=
  let p := s.chainP k
  if p.alerts.length < 256 then s.setChainP k { p with alerts := p.alerts ++ [al] }
  else ((s.setChainP k { p with alerts := p.alerts.drop 1 ++ [al] }).satInc (Reg.LNK_P_ALERT_LOST k)).event
    (Reg.LNK_P_EVENTS k) Fld.LNK_P_EVENTS_ALERT_LOST

/-- ALERT_N driven low for an alert that no alert chain UP carries, with its code (R381). -/
def State.driveAlertN (s : State) (code : Nat) : State :=
  if s.alertChains.any (fun k => s.chainUp k) then s
  else { s with flt := { s.flt with alertN := true, acode := code } }

/-- An alert raised: it takes the next ASEQ and waits in the queue of every alert chain (R241, R243). -/
def State.alert (s : State) (code chain p0 p1 p2 p3 : Nat) : State :=
  let al : Alert := ⟨code, chain, s.flt.aseq, s.now, p0, p1, p2, p3⟩
  let s1 := s.alertChains.foldl (fun t k => t.queueAlert k al) s
  let s2 := { s1 with flt := { s1.flt with aseq := (s1.flt.aseq + 1) % 4294967296 } }
  s2.driveAlertN code

/-! ### Faults (R369 to R382) -/

/-- The severity of a fault source; none for an unassigned source (R370). -/
def faultSev (src : Nat) : Option Nat :=
  if src ≤ 7 then some 3
  else if 16 ≤ src ∧ src ≤ 20 then some 2
  else if 32 ≤ src ∧ src ≤ 48 then some 1
  else if 64 ≤ src ∧ src ≤ 70 then some 0
  else none

/-- The sticky bit of a source (R371). -/
def State.sticky (s : State) (src : Nat) : Bool := (s.rdN (Reg.FLT_STICKY (src / 32))).testBit (src % 32)

/-- The mask bit of a source (R371). -/
def State.masked (s : State) (src : Nat) : Bool := (s.rdN (Reg.FLT_MASK (src / 32))).testBit (src % 32)

/-- The sticky bit of a source set (R371). -/
def State.setSticky (s : State) (src : Nat) : State :=
  s.setBits (Reg.FLT_STICKY (src / 32)) (BitVec.ofNat 32 (1 <<< (src % 32)))

/-- GTIME of the last entry a source formed with a detail word A (R372). -/
def lastEntryOf (l : List (Nat × Nat × Nat)) (src a : Nat) : Option Nat :=
  (l.find? (fun e => e.1 == src && e.2.1 == a)).map (·.2.2)

/-- A history entry formed (R377, R378): the history keeps the 64 newest, HSEQ goes on, and an unmasked source at or
above FLT_CFG.ASEV raises a FAULT alert (R382). -/
def State.formEntry (s : State) (src sev a b gt : Nat) (forced cold : Bool) : State :=
  let e : HistEntry := ⟨none, src, sev, forced, cold, gt, s.avail.loads, s.flt.hseq, a, b⟩
  let full := 64 ≤ s.flt.hist.length
  let s1 := { s with flt := { s.flt with
    hist := (if full then s.flt.hist.drop 1 else s.flt.hist) ++ [e]
    histLost := if full then sat32 s.flt.histLost 1 else s.flt.histLost
    hseq := (s.flt.hseq + 1) % 4294967296
    toCopy := s.flt.toCopy ++ [e]
    lastSrc := src
    lastEntry := if sev = 0 then (src, a, gt) :: s.flt.lastEntry.filter (fun x => !(x.1 == src && x.2.1 == a))
                 else s.flt.lastEntry } }
  if !s1.masked src && s1.fld Reg.FLT_CFG Fld.FLT_CFG_ASEV ≤ sev then
    s1.alert 2 0xFF (src + 256 * sev + 1024 * b2n forced) e.hseq a b
  else s1

/-- The sources that the AON detects in COLD (R376). -/
def aonSource (src : Nat) : Bool := decide (src ≤ 3) || src == 7

/-- A source detects its condition (R371, R372, R376), or is forced (R375): the sticky bit is set; in COLD, where only the AON detects,
the AON latches the first details since the bit was last clear; otherwise an entry is formed, at most one a second for a
CORRECTED source and detail A. An unassigned source detects nothing. -/
def State.detect (s : State) (src a b : Nat) (forced : Bool := false) : State :=
  match faultSev src with
  | none => s
  | some sev =>
    let s1 := s.setSticky src
    if s.mode = .cold ∧ !aonSource src then s
    else if s.mode = .cold then
      if s.sticky src then { s1 with flt := { s1.flt with suppressed := sat32 s1.flt.suppressed 1 } }
      else { s1 with flt := { s1.flt with coldLatch := s1.flt.coldLatch.filter (·.1 != src) ++ [(src, a, b)] } }
    else if sev = 0 && (match lastEntryOf s.flt.lastEntry src a with
        | some t => decide (s.now < t + 312500000)
        | none => false) then
      { s1 with flt := { s1.flt with suppressed := sat32 s1.flt.suppressed 1 } }
    else s1.formEntry src sev a b s.now forced false

/-- Ledger words written; their read-back checks follow at the next tick (R370). -/
def State.ledgerWrote (s : State) (l : List LedgerWord) : State :=
  { s with flt := { s.flt with unchecked := s.flt.unchecked ++ l } }

/-- The read-back check of a ledger write (R370): whether it fails twice, and the word's index, are free. -/
def State.checkWord (s : State) (w : LedgerWord) : State :=
  let others := s.flt.badWords.filter (fun x => x != w)
  let t := s.draw.draw
  if Config.freeNat s.fresh % 2 = 1 then
    ({ t with flt := { t.flt with badWords := others ++ [w] } }).detect 20 (Config.freeNat (s.fresh + 1) % 2 ^ 32) 0
  else { t with flt := { t.flt with badWords := others } }

/-- The read-back checks of the ledger writes since the last tick. -/
def State.checkLedger (s : State) : State :=
  s.flt.unchecked.foldl State.checkWord { s with flt := { s.flt with unchecked := [] } }

/-! ### Performance counters (R388 to R391) -/

/-- The counters that count an event: enabled, of this event, with the filter and the partition admitting it (R389,
R390). Only listed PMC_SEL words can be enabled. -/
def State.pmcHits (s : State) (ev filter : Nat) (part : Option Nat) : List Nat :=
  (s.regs.filter (fun p => 0x21000 ≤ p.1 && p.1 < 0x21800 && p.1 % 16 == 0 &&
    wget p.2 Fld.PMC_SEL_EN == 1 && wget p.2 Fld.PMC_SEL_EVENT == ev &&
    (wget p.2 Fld.PMC_SEL_FEN == 0 || wget p.2 Fld.PMC_SEL_FILTER == filter) &&
    (wget p.2 Fld.PMC_SEL_SCOPE != 1 || part == some (wget p.2 Fld.PMC_SEL_PART)))).map
    (fun p => (p.1 - 0x21000) / 16)

/-- The sample count of a counter after an event (R396): with SAMPLE 1, the event that brings it to PMC_SPER makes a sample due and
starts the next count, and the 15 events after it may be latched in its place. -/
def State.sampleCount (s : State) (n inc : Nat) (x : SampleCtx) : State :=
  let c := Tab.lookD s.pmc.since n 0 + inc
  let p := s.rdN (Reg.PMC_SPER n)
  match Tab.look s.pmc.due n with
  | some l => { s with pmc := { s.pmc with
      since := Tab.put s.pmc.since n c, due := Tab.put s.pmc.due n (if l.length < 16 then l ++ [x] else l) } }
  | none =>
    if s.flag (Reg.PMC_SEL n) Fld.PMC_SEL_SAMPLE ∧ 0 < p ∧ p ≤ c then
      { s with pmc := { s.pmc with since := Tab.del s.pmc.since n, due := Tab.put s.pmc.due n [x] } }
    else { s with pmc := { s.pmc with since := Tab.put s.pmc.since n c } }

/-- A counter raised by an increment: 48 bits, wrapping, and a wrap sets its PMC_OVF bit and the OVF event (R388). `a` and `b`: the
context of the event. -/
def State.pmcAdd (s : State) (n inc a b : Nat) : State :=
  let v := s.rd64 (Reg.PMC_CNT n) + inc
  let s1 := s.wr64 (Reg.PMC_CNT n) (v % 2 ^ 48)
  let s2 := s1.sampleCount n inc ⟨s.now, a, b, v % 2 ^ 48⟩
  if v < 2 ^ 48 then s2
  else (s2.setBits (Reg.PMC_OVF (n / 32)) (BitVec.ofNat 32 (1 <<< (n % 32)))).event Reg.PMC_EVENTS Fld.PMC_EVENTS_OVF

/-- An event counted by every counter that selects it (R388 to R390), with its partition and its context (R389): sample words A and
B, and `off`, which stands for A in scope P. -/
def State.count (s : State) (ev inc filter : Nat) (part : Option Nat := none) (a : Nat := 0) (b : Nat := 0) (off : Nat := a) : State :=
  (s.pmcHits ev filter part).foldl (fun t n =>
    t.pmcAdd n inc (if s.fld (Reg.PMC_SEL n) Fld.PMC_SEL_SCOPE = 1 then off else a) b) s

/-! ### Sessions and roles (R416, R423, R424) -/

/-- The slot and session a requester stands behind: an open session of that SID bound to that path (R417, R418). -/
def State.sessionAt (s : State) (path sid : Nat) : Option (Nat × Session) :=
  s.sec.sessions.find? (fun p => p.2.sid == sid && p.2.path == path && sid != 0)

/-- The role of a requester; none without a session. -/
def State.role (s : State) (r : Req) : Option Role :=
  (s.sessionAt r.path.num r.sid).map (·.2.role)

/-- The first condition of a status table that holds, and its status; OK when none does. -/
def firstStatus : List (Bool × Status) → Status
  | [] => .ok
  | p :: r => if p.1 then p.2 else firstStatus r

/-- The role checks of a write that the Owner and the Operator may make (R423, R424): E_AUTH without a session, E_PRIV
for an Observer or an enrolment session. -/
def State.hostChecks (s : State) (r : Req) : List (Bool × Status) :=
  [((s.role r).isNone, .eAuth),
   (s.role r == some .observer || s.role r == some .enrolment, .ePriv)]

/-- The role checks of a write that only the Owner may make (R423, R424). -/
def State.ownerChecks (s : State) (r : Req) : List (Bool × Status) :=
  [((s.role r).isNone, .eAuth), (s.role r != some .owner, .ePriv)]

/-! ### How a register access is answered (R424, R493, R495, R511) -/

/-- An E_AUTH or E_PRIV answer is counted in SEC and by PMC event PRIV_REJECT (R424); `addr`: the register's address, or 0. -/
def State.countRefusal (s : State) (st : Status) (addr : Nat := 0) : State :=
  match st with
  | .eAuth => (s.satInc Reg.SEC_AUTH_REJ).count 0x22 1 0 none addr st.code
  | .ePriv => (s.satInc Reg.SEC_PRIV_REJ).count 0x22 1 0 none addr st.code
  | _ => s

/-- The detail word of a rejected access (R509). -/
def errInfo (r : Req) (write : Bool) (size : Nat) (st : Status) : Nat :=
  st.code * 2 ^ 24 + r.path.num * 2 ^ 19 + b2n write * 2 ^ 18 + size * 2 ^ 16 + r.sid % 2 ^ 16

/-- A rejected register access: nothing changes but its record in GLB_ERR_ADDR, GLB_ERR_INFO, GLB_ERR_CNT and
ACCESS_REJ (R511), the counts of R424, and for E_LOCKED and E_WRITE_ONCE the fault LOCKED_WRITE (R495). -/
def State.reject (s : State) (r : Req) (addr : Nat) (write : Bool) (size : Nat) (st : Status) : State :=
  let s1 := ((((s.wrN Reg.GLB_ERR_ADDR addr).wrN Reg.GLB_ERR_INFO (errInfo r write size st)).satInc
    Reg.GLB_ERR_CNT).event Reg.GLB_EVENTS Fld.GLB_EVENTS_ACCESS_REJ).countRefusal st addr
  let s2 := if st = .eLocked ∨ st = .eWriteOnce then s1.detect 68 addr st.code else s1
  s2.reply st

/-- Under the recovery loader every write outside the UPD block is E_STATE (R463), once the role checks have passed. -/
def State.recovering (s : State) (addr : Nat) (st : Status) : Status :=
  if s.upd.recovery ∧ addr / 65536 ≠ 5 ∧ st ≠ .eAuth ∧ st ≠ .ePriv then .eState else st

/-- A write of 4 bytes to a register that has a status table: the first status that applies decides; only OK has the
effect (R493 and the owning chapter's table). -/
def State.hostWrite (s : State) (r : Req) (addr : Nat) (st : Status) (effect : State → State) : State :=
  if s.recovering addr st = .ok then (effect s).reply .ok else s.reject r addr true 2 (s.recovering addr st)

end Sys2Proof.Machine
end

