-- ==== Sys2Proof/Machine/Crc.lean ====
section
/-! DEFINITION. Sys2Proof/Machine/Crc.lean: the check values of the manual: CRC-16 (R80), CRC-32 (R216) and CRC-64
(R434), computed bit by bit. -/
namespace Sys2Proof.Machine

/-- One bit, most significant first, enters a CRC register of width w. -/
def crcBit {w : Nat} (poly : BitVec w) (c : BitVec w) (b : Bool) : BitVec w :=
  if c.msb != b then (c <<< 1) ^^^ poly else c <<< 1

/-- A byte enters, most significant bit first. -/
def crcByte {w : Nat} (poly : BitVec w) (c : BitVec w) (b : Byte) : BitVec w :=
  (List.range 8).foldl (fun a i => crcBit poly a (b.getMsbD i)) c

/-- A byte enters a reflected CRC register, least significant bit first. -/
def crcByteRefl {w : Nat} (poly : BitVec w) (c : BitVec w) (b : Byte) : BitVec w :=
  (List.range 8).foldl (fun (a : BitVec w) i =>
    if a.getLsbD 0 != b.getLsbD i then (a >>> 1) ^^^ poly else a >>> 1) c

/-- CRC-16 of R80: polynomial 0x1021, initial value 0xFFFF, not reflected, no final XOR. -/
def crc16 (l : List Byte) : Nat := (l.foldl (crcByte 0x1021#16) 0xFFFF#16).toNat

/-- CRC-32 of R216: polynomial 0x04C11DB7, reflected, initial value and final XOR all ones. -/
def crc32 (l : List Byte) : Nat := (l.foldl (crcByteRefl 0xEDB88320#32) 0xFFFFFFFF#32 ^^^ 0xFFFFFFFF#32).toNat

/-- CRC-64 of R434: polynomial 0x42F0_E1EB_A9EA_3693, initial value 0, not reflected, no final XOR. -/
def crc64 (l : List Byte) : Nat := (l.foldl (crcByte 0x42F0E1EBA9EA3693#64) 0#64).toNat

end Sys2Proof.Machine
end

