-- ==== Sys2Proof/Machine/Fuse.lean ====
section
/-! DEFINITION. Sys2Proof/Machine/Fuse.lean: the fuse array: its words, its judgement and its programming (R431 to
R448). -/
namespace Sys2Proof.Machine

/-- Word `w` of region `n` at the normal reference. -/
def State.fuse (s : State) (n w : Nat) : DWord := Tab.lookD s.fse.bits (64 * n + w) 0

/-- The marginal bits of a word. -/
def State.fuseWeak (s : State) (n w : Nat) : DWord :=
  Tab.lookD s.fse.weak (64 * n + w) 0 &&& s.fuse n w

/-- A word at the tight reference (R437). -/
def State.fuseTight (s : State) (n w : Nat) : DWord := s.fuse n w &&& ~~~ s.fuseWeak n w

/-- A word is stable (R437). -/
def State.fuseStable (s : State) (n w : Nat) : Bool :=
  s.fuseWeak n w == 0 && s.fuse n w == Tab.lookD s.fse.cold (64 * n + w) 0

/-- A region reads locked (R435); ROLLBACK regions have no lock. -/
def State.fuseLocked (s : State) (n : Nat) : Bool := n != 3 && n != 4 && bitsOf (s.fuse n 63).toNat 3 0 != 0

/-- A region is blank. -/
def State.fuseBlank (s : State) (n : Nat) : Bool := (List.range 64).all (fun w => s.fuse n w == 0)

/-- The sticky lock of a region (R436). -/
def State.slocked (s : State) (n : Nat) : Bool := s.flag (Reg.FSE_SLOCK n) Fld.FSE_SLOCK_SLOCK

/-- The CRC-64 of words 0 to 61 of a list of words (R434). -/
def fuseCrc (l : List DWord) : Nat :=
  crc64 ((List.range 62).flatMap (fun i => leBytes 8 (l.getD i 0).toNat))

/-- The header class a region must hold (R432, R433). -/
def fuseClass (n : Nat) : Nat :=
  if n = 0 then 1 else if n ≤ 2 then 2 else if n ≤ 4 then 3 else if n ≤ 10 then 4 else if n ≤ 14 then 5 else 6

/-- The header index a region must hold: the set of a REPAIR region, the generation of a PATCH region. -/
def fuseIndex (n : Nat) : Nat := if 5 ≤ n ∧ n ≤ 10 then (n - 5) / 2 else if 11 ≤ n ∧ n ≤ 14 then n - 11 else 0

/-- A header of the right class and index (R433). -/
def headerRight (n : Nat) (h : DWord) : Bool :=
  bitsOf h.toNat 63 56 == fuseClass n && bitsOf h.toNat 55 48 == fuseIndex n

/-- A region's words at the normal reference. -/
def State.fuseWords (s : State) (n : Nat) : List DWord := (List.range 64).map (s.fuse n)

/-- whole(X) of R441. -/
def State.fuseWhole (s : State) (n : Nat) : Bool :=
  s.fuseLocked n && (List.range 64).all (s.fuseStable n) && headerRight n (s.fuse n 0) &&
    fuseCrc (s.fuseWords n) == (s.fuse n 62).toNat

/-- The judgement of a region: BLANK, OPEN, VALID with its words, INVALID with its reason, or THERMOMETER (R441,
R450). -/
inductive FuseJudge where
  | blank | open | valid (words : List DWord) | invalid (reason : Nat) | thermometer
deriving DecidableEq, Repr

/-- merge(p, q) of R441, given the two words and their stability. -/
def mergeFuse (a b : DWord × Bool) : Option DWord :=
  if a.2 && b.2 then (if a.1 = b.1 then some a.1 else none)
  else if a.2 then some a.1
  else if b.2 then some b.1
  else none

/-- All merges, or none when one fails. -/
def allSome {α : Type} : List (Option α) → Option (List α)
  | [] => some []
  | none :: _ => none
  | some a :: r => match allSome r with
    | some l => some (a :: l)
    | none => none

/-- The end of a merge (R441): the header, then the integrity word. -/
def mergedJudge (n : Nat) (l : Option (List DWord)) : FuseJudge :=
  match l with
  | none => .invalid 2
  | some ws =>
    if !headerRight n (ws.getD 0 0) then .invalid 3
    else if fuseCrc ws == (ws.getD 62 0).toNat then .valid ws else .invalid 1

/-- Two patch entries of one generation that name the same ROM word, or one that names no ROM, make it INVALID(5)
(R444). -/
def patchConflict (ws : List DWord) : Bool :=
  let n := bitsOf (ws.getD 0 0).toNat 47 32
  let es := (List.range n).map (fun i => (ws.getD (1 + i) 0).toNat)
  es.any (fun e => decide (1 < bitsOf e 63 60)) ||
    (List.range n).any (fun i => (List.range i).any (fun j =>
      bitsOf (es.getD i 0) 63 60 == bitsOf (es.getD j 0) 63 60 && bitsOf (es.getD i 0) 55 32 == bitsOf (es.getD j 0) 55 32))

/-- The reason of an identity region that is locked and not whole, told as a merge tells it (R441). -/
def State.identReason (s : State) : Nat :=
  if !(List.range 64).all (s.fuseStable 0) then 2 else if !headerRight 0 (s.fuse 0 0) then 3 else 1

/-- A region or pair judged (R441); a pair is judged as one, whichever of its regions is named. -/
def State.judge (s : State) (n : Nat) : FuseJudge :=
  if n = 3 ∨ n = 4 then .thermometer
  else if n = 0 then
    if s.fuseWhole 0 then .valid (s.fuseWords 0)
    else if s.fuseLocked 0 then .invalid s.identReason
    else if s.fuseBlank 0 then .blank else .open
  else if n ≤ 10 then
    let a := if n ≤ 2 then 1 else (n - 5) / 2 * 2 + 5
    let b := a + 1
    if s.fuseWhole a then .valid (s.fuseWords a)
    else if s.fuseWhole b then .valid (s.fuseWords b)
    else if s.fuseLocked a && s.fuseLocked b then
      mergedJudge n (allSome ((List.range 63).map (fun w =>
        mergeFuse (s.fuse a w, s.fuseStable a w) (s.fuse b w, s.fuseStable b w))))
    else if s.fuseLocked a || s.fuseLocked b then .invalid 4
    else if s.fuseBlank a && s.fuseBlank b then .blank else .open
  else if !s.fuseLocked n then (if s.fuseBlank n then .blank else .open)
  else if !s.fuseStable n 62 then .invalid 2
  else
    let pair (p q : Nat) := mergeFuse (s.fuse n p, s.fuseStable n p) (s.fuse n q, s.fuseStable n q)
    let head := pair 0 61
    let body := (List.range 30).map (fun i => pair (i + 1) (i + 31))
    match mergedJudge n (allSome (head :: body ++ body ++ [head, some (s.fuse n 62)])) with
    | .valid ws => if n ≤ 14 && patchConflict ws then .invalid 5 else .valid ws
    | j => j

/-- The reason of an INVALID judgement, 0 otherwise. -/
def FuseJudge.reason : FuseJudge → Nat
  | .invalid r => r
  | _ => 0

/-- The code of FSE_REG_STAT.STATE (R450). -/
def FuseJudge.code : FuseJudge → Nat
  | .blank => 0 | .open => 1 | .valid _ => 2 | .invalid _ => 3 | .thermometer => 4

/-- A region's own state (R440, R441): unlocked it is BLANK or OPEN, whatever its pair serves. -/
def State.judgeRegion (s : State) (n : Nat) : FuseJudge :=
  if n = 3 ∨ n = 4 ∨ s.fuseLocked n then s.judge n else if s.fuseBlank n then .blank else .open

/-- FSE_REG_STATn (R450). -/
def State.regStat (s : State) (n : Nat) : Nat :=
  let j := s.judgeRegion n
  let marg := ((List.range 64).map (fun w => popcount 64 (s.fuseWeak n w).toNat)).sum
  let unst := ((List.range 64).filter (fun w => !s.fuseStable n w)).length
  j.code * 2 ^ 29 + b2n (s.fuseLocked n) * 2 ^ 28 + b2n (s.slocked n) * 2 ^ 27 + j.reason * 2 ^ 24 +
    bitsOf (s.fuse n 0).toNat 55 48 * b2n (n != 3 && n != 4) * 2 ^ 16 + min 255 marg * 2 ^ 8 + unst

/-! ### Thermometers (R445, R446) -/

/-- Data bit `i` of a ROLLBACK region. -/
def State.thermBit (s : State) (region i : Nat) : Bool := (s.fuse region (1 + i / 64)).getLsbD (i % 64)

/-- The consecutive ones from position `p` on. -/
def State.onesFrom (s : State) (region t : Nat) : Nat → Nat → Nat
  | 0, _ => 0
  | fuel + 1, p => if s.thermBit region (976 * t + p) then 1 + s.onesFrom region t fuel (p + 1) else 0

/-- The count of thermometer `t` in one copy. -/
def State.thermCopy (s : State) (region t : Nat) : Nat := s.onesFrom region t 976 0

/-- The count in effect of a thermometer (R446). -/
def State.therm (s : State) (t : Nat) : Nat :=
  max (max (s.thermCopy 3 t) (s.thermCopy 4 t)) (s.fse.floor.getD t 0)

/-- The array bit of position `p` of thermometer `t` in a ROLLBACK region. -/
def thermPos (region t p : Nat) : Nat := 4096 * region + 64 + 976 * t + p

/-! ### What an operation programs (R433, R439, R440, R447, R451) -/

/-- An array bit at the normal reference. -/
def State.fuseBit (s : State) (b : Nat) : Bool := (Tab.lookD s.fse.bits (b / 64) 0).getLsbD (b % 64)

/-- The positions of a thermometer below its count that a copy lacks: the lagging copy is programmed up to the count (R447). -/
def State.evenSteps (s : State) (t region : Nat) : List FuseStep :=
  ((List.range (s.therm t)).filter (fun p => !s.thermBit region (976 * t + p))).map (fun p => .blow (thermPos region t p))

/-- The steps that advance thermometer `t` to `goal` (R447): the lagging copy evened, each position in copy A and in copy B, and what is
marginal of them reinforced. -/
def State.advanceSteps (s : State) (t goal : Nat) : List FuseStep :=
  let n := s.therm t
  let l := (List.range (min goal 976 - n)).flatMap (fun i => [thermPos 3 t (n + i), thermPos 4 t (n + i)])
  s.evenSteps t 3 ++ s.evenSteps t 4 ++ l.map .blow ++ (if l.isEmpty then [] else [.tidy l])

/-- The array bits of a word's ones, ascending (R439). -/
def wordBits (region w : Nat) (v : DWord) : List Nat :=
  (bitList 64 v.toNat).map (fun i => 4096 * region + 64 * w + i)

/-- The array bits that program words 0 to 62 of a region. -/
def regionBits (region : Nat) (ws : List DWord) : List Nat :=
  (List.range 63).flatMap (fun w => wordBits region w (ws.getD w 0))

/-- The array bits of a region's four lock fuses (R435). -/
def lockBits (region : Nat) : List Nat := wordBits region 63 15

/-- Words 0 to 62 of a lockable region with its header and its data words, 61 of them or 30; a copy within the region repeats the latter
and the header (R433). -/
def fuseImage (region count : Nat) (data : List DWord) : List DWord :=
  let h := BitVec.ofNat 64 (fuseClass region * 2 ^ 56 + fuseIndex region * 2 ^ 48 + count * 2 ^ 32)
  let body := if region ≤ 10 then (List.range 61).map (fun i => data.getD i 0)
    else (List.range 30).map (fun i => data.getD i 0) ++ (List.range 30).map (fun i => data.getD i 0) ++ [h]
  let ws := h :: body
  ws ++ [BitVec.ofNat 64 (fuseCrc ws)]

/-- The steps that program a region, without its lock. -/
def regionSteps (region : Nat) (ws : List DWord) : List FuseStep := (regionBits region ws).map .blow

/-- The steps that program and lock a pair of copies (R440): copy A, copy B, their senses, then the locks. -/
def pairSteps (a count : Nat) (data : List DWord) : List FuseStep :=
  let ws := fuseImage a count data
  regionSteps a ws ++ regionSteps (a + 1) ws ++ [.settle a ws, .settle (a + 1) ws, .lock a, .lock (a + 1)]

/-- The steps that program and lock one region. -/
def loneSteps (n count : Nat) (data : List DWord) : List FuseStep :=
  let ws := fuseImage n count data
  regionSteps n ws ++ [.settle n ws, .lock n]

/-! ### Marginal bits (R437, R438) -/

/-- Bits set in a table of words. -/
def setBitsIn (t : Tab DWord) (l : List Nat) : Tab DWord :=
  l.foldl (fun t b => Tab.put t (b / 64) (Tab.lookD t (b / 64) 0 ||| ((1#64) <<< (b % 64)))) t

/-- Bits cleared in a table of words; a word of zeros is not listed. -/
def clearBitsIn (t : Tab DWord) (l : List Nat) : Tab DWord :=
  l.foldl (fun t b =>
    let w := Tab.lookD t (b / 64) 0 &&& ~~~ ((1#64) <<< (b % 64))
    if w = 0 then Tab.del t (b / 64) else Tab.put t (b / 64) w) t

/-- Marginal bits that a sense finds: those not yet recorded in this power cycle are recorded (R438). -/
def State.recordBits (s : State) (found : List Nat) : State :=
  let new := found.filter (fun b => !s.fse.margSeen.contains b)
  let s1 := new.foldl (fun t b =>
    t.detect 70 (b / 4096) (b % 4096 + 65536 * b2n (t.fse.reinforced.contains b))) s
  let s2 := { s1 with fse := { s1.fse with margSeen := s1.fse.margSeen ++ new } }
  if found.isEmpty then s2 else s2.event Reg.FSE_EVENTS Fld.FSE_EVENTS_MARGINAL

/-- What a sense finds marginal of some bits. -/
def State.senseBits (s : State) (among : Nat → Bool) (found : List Nat) : State :=
  let weak := (s.fse.weak.flatMap (fun e => (bitList 64 e.2.toNat).map (fun i => 64 * e.1 + i))).filter among
  ({ s with fse := { s.fse with weak := setBitsIn (clearBitsIn s.fse.weak weak) found } }).recordBits found

/-- Bits reinforced (R438, R440): they are marginal no longer, as far as no sense finds them so. -/
def State.reinforced (s : State) (l : List Nat) : State :=
  if l.isEmpty then s
  else ({ s with fse := { s.fse with
      weak := clearBitsIn s.fse.weak l, reinforced := s.fse.reinforced ++ l } }).event Reg.FSE_EVENTS Fld.FSE_EVENTS_REINFORCED

/-- Array bits programmed and verified at the tight reference: they read 1 at both references from then on, and that is their reference
value for the rest of the power cycle (notes/assumptions/20.md). -/
def State.blow (s : State) (l : List Nat) : State :=
  { s with fse := { s.fse with
    bits := setBitsIn s.fse.bits l, cold := setBitsIn s.fse.cold l, weak := clearBitsIn s.fse.weak l } }

/-! ### The engine at work (R436, R439, R440, R448) -/

/-- An operation on its way through its steps: the state, what the engine is still to meet, the pulses given, and the status it has
ended with, if it has. -/
structure FuseRun where
  st : State
  res : FuseResult
  pulses : Nat := 0
  stop : Option Status := none

/-- The region that a step programs. -/
def FuseStep.region : FuseStep → Nat
  | .blow b => b / 4096
  | .settle n _ => n
  | .lock n => n
  | .boost b => b / 4096
  | .tidy l => l.headD 0 / 4096

/-- `n` pulses on one bit, from VFUSE or from the pump (R439). -/
def FuseRun.pulse (x : FuseRun) (n : Nat) : FuseRun :=
  { x with
    st := { x.st with fse := { x.st.fse with vfuse := x.res.vfuse.headD x.st.fse.vfuse } }
    res := { x.res with vfuse := x.res.vfuse.drop 1 }
    pulses := x.pulses + n }

/-- A bit programmed and verified after one to four pulses (R439). -/
def FuseRun.verified (x : FuseRun) (b : Nat) : FuseRun :=
  let y := x.pulse (1 + (x.res.pulses.headD 0).val)
  { y with st := y.st.blow [b], res := { y.res with pulses := y.res.pulses.drop 1 } }

/-- A bit of a word programmed (R439): after four pulses without success the operation ends. A bit that reads 1 takes no pulse. -/
def FuseRun.program (x : FuseRun) (b : Nat) : FuseRun :=
  if x.st.fuseBit b then x
  else match x.res.fails with
    | some 0 => { x.pulse 4 with stop := some .eIntegrity }
    | f =>
      let y := x.verified b
      { y with res := { y.res with fails := f.map (· - 1) } }

/-- Marginal bits reinforced, one pulse each (R440). -/
def FuseRun.boost (x : FuseRun) (l : List Nat) : FuseRun :=
  let y := l.foldl (fun (y : FuseRun) _ => y.pulse 1) x
  { y with st := y.st.reinforced l }

/-- A sense of some bits: the programmed ones of them that it finds marginal. -/
def FuseRun.sense (x : FuseRun) (among : Nat → Bool) : FuseRun × List Nat :=
  let found := ((x.res.weak.headD []).map (·.val)).filter (fun b => among b && x.st.fuseBit b)
  ({ x with st := x.st.senseBits among found, res := { x.res with weak := x.res.weak.drop 1 } }, found)

/-- A region reads as its image, and its integrity word is right (R434, R440). -/
def State.readsAs (s : State) (n : Nat) (ws : List DWord) : Bool :=
  (List.range 63).all (fun w => s.fuse n w == ws.getD w 0) && fuseCrc (s.fuseWords n) == (s.fuse n 62).toNat

/-- The senses of a region before its lock, with the rounds of reinforcement that are left (R440). -/
def FuseRun.settle (x : FuseRun) (n : Nat) (ws : List DWord) : Nat → FuseRun
  | 0 =>
    let r := x.sense (fun b => b / 4096 == n)
    if r.2.isEmpty && r.1.st.readsAs n ws then r.1 else { r.1 with stop := some .eIntegrity }
  | k + 1 =>
    let r := x.sense (fun b => b / 4096 == n)
    if r.2.isEmpty then (if r.1.st.readsAs n ws then r.1 else { r.1 with stop := some .eIntegrity })
    else (r.1.boost r.2).settle n ws k

/-- Programming into a locked region is rejected with E_LOCKED and recorded (R435, R436); the register address that LOCKED_WRITE carries
is free, since no register is written. -/
def State.lockedOut (s : State) : State := s.draw.detect 68 (Config.freeNat s.fresh % 2 ^ 32) Status.eLocked.code

/-- One step of an operation; one on a region with a lock, of either kind, ends it with E_LOCKED (R435, R436, R448). -/
def FuseRun.step (x : FuseRun) (e : FuseStep) : FuseRun :=
  if x.stop.isSome then x
  else if x.st.slocked e.region || x.st.fuseLocked e.region then { x with st := x.st.lockedOut, stop := some .eLocked }
  else match e with
    | .blow b => x.program b
    | .settle n ws => x.settle n ws 3
    | .lock n => (lockBits n).foldl FuseRun.verified x
    | .boost b => x.boost [b]
    | .tidy l =>
      let r := x.sense l.contains
      r.1.boost r.2

/-- Up to `n` steps, as long as none ends the operation, and the steps that are left. -/
def FuseRun.upTo (x : FuseRun) : Nat → List FuseStep → FuseRun × List FuseStep
  | 0, l => (x, l)
  | _, [] => (x, [])
  | n + 1, e :: r =>
    let y := x.step e
    if y.stop.isSome then (x, e :: r) else y.upTo n r

/-- What the engine meets, free, where no command says it. -/
def State.freeFuse (s : State) : FuseResult :=
  ⟨(Config.freeList s.fresh).map (Fin.ofNat 4), (Config.freeList (s.fresh + 1)).map (fun n => n % 2 == 1), none,
    (Config.freeList (s.fresh + 2)).map (fun n => (bitList 65536 n).map (Fin.ofNat 65536))⟩

/-- How far the operation in progress has come when an event meets it: free (R448). The bits programmed so far remain. -/
def State.fuseGoesOn (s : State) : State :=
  match s.fse.op with
  | none => s
  | some o =>
    let n := Config.freeNat (s.fresh + 3) % (o.steps.length + 1)
    let r := (FuseRun.mk (s.drawn 4) s.freeFuse 0 none).upTo n o.steps
    let s1 := { r.1.st with fse := { r.1.st.fse with op := some { o with steps := r.2 } } }
    s1.satInc Reg.FSE_PULSES r.1.pulses

/-- An operation cut off where it stands (R448), with those that wait. -/
def State.fuseCut (s : State) : State :=
  let s1 := s.fuseGoesOn
  { s1 with
    fse := { s1.fse with op := none, waiting := [] }
    sec := { s1.sec with enrol := none }
    pwr := if s.fse.op.isSome then { s1.pwr with dom := Tab.put s1.pwr.dom 13 .off } else s1.pwr }

/-- An operation started, with PD13 powered (R362), or waiting for the one in progress. -/
def State.fuseAsk (s : State) (o : FuseOp) : State :=
  if s.fse.op.isSome then { s with fse := { s.fse with waiting := s.fse.waiting ++ [o] } }
  else { s with
    fse := { s.fse with op := some o }
    pwr := { s.pwr with dom := Tab.put s.pwr.dom 13 .on } }

/-- The operation that waits longest started once the engine is free, in MAINTAIN (R29). -/
def State.fuseNext (s : State) : State :=
  match s.fse.op, s.fse.waiting with
  | none, o :: r => if s.mode = .maintain then ({ s with fse := { s.fse with waiting := r } }).fuseAsk o else s
  | _, _ => s

/-- An operation of a kind is in progress or waits. -/
def State.fuseHas (s : State) (k : FuseKind) : Bool := s.fse.op.any (fun o => o.kind == k) || s.fse.waiting.any (fun o => o.kind == k)

/-- An activation is under way: it programs a patch region (step 2 of R472), or its warm load has been ordered. -/
def State.activating (s : State) : Bool := s.upd.stage == .activating || s.fuseHas .patch

/-- An operation ends with a status (R449, R450): DONE, LAST and the pulse count. -/
def State.fuseEnds (s : State) (st : Status) (pulses : Nat) : State :=
  (({ s with
      fse := { s.fse with op := none, last := st.code }
      pwr := { s.pwr with dom := Tab.put s.pwr.dom 13 .off } }).satInc Reg.FSE_PULSES pulses).event Reg.FSE_EVENTS
    Fld.FSE_EVENTS_DONE

/-! ### Sensing the array (R437, R441, R443) -/

/-- The marginal bits of the whole array recorded and counted (R438). -/
def State.recordMarginal (s : State) : State :=
  let found := s.fse.weak.flatMap (fun e => (bitList 64 e.2.toNat).map (fun i => 64 * e.1 + i))
  (s.recordBits found).wrN Reg.FSE_MARG_CNT (min 0xFFFFFFFF found.length)

/-- Every region judged after a sense: one that became INVALID is recorded (R441, R443). -/
def State.judgeAll (s : State) : State :=
  (List.range 16).foldl (fun t n =>
    let j := t.judgeRegion n
    if j.reason = Tab.lookD t.fse.inv n 0 then t
    else
      let t2 := { t with fse := { t.fse with
        inv := if j.reason = 0 then Tab.del t.fse.inv n else Tab.put t.fse.inv n j.reason } }
      if j.reason = 0 then t2
      else (t2.event Reg.FSE_EVENTS Fld.FSE_EVENTS_INVALID).detect 46 n j.reason) s

/-- What a sense of the array found is recorded: marginal bits and judgements. -/
def State.senseReport (s : State) : State := s.recordMarginal.judgeAll

/-- The whole array sensed (R437): `weak` gives what reads 0 at the tight reference; a cold-load sense sets the reference
values of the power cycle, and what it found is recorded on entry into LOAD (R376). -/
def State.senseAll (s : State) (weak : List (Nat × DWord)) (cold : Bool) : State :=
  let found (t : Tab DWord) (e : Nat × DWord) : Tab DWord :=
    let w := e.2 &&& Tab.lookD s.fse.bits e.1 0
    if w = 0 then Tab.del t e.1 else Tab.put t e.1 w
  let s1 := ({ s with fse := { s.fse with
    weak := weak.foldl found []
    cold := if cold then s.fse.bits else s.fse.cold
    senseDue := false } }).wr64 Reg.FSE_T_SENSE s.now
  if cold then { s1 with fse := { s1.fse with
    sensed := true, floor := (List.range 4).map (fun t => max (s1.thermCopy 3 t) (s1.thermCopy 4 t)) } }
  else s1.senseReport

end Sys2Proof.Machine
end

