-- ==== Sys2Proof/Machine/Operands.lean ====
section
/-! DEFINITION. Sys2Proof/Machine/Operands.lean: what an operand names: channels, partition offsets and codewords of
stack memory (R250 to R254, R324), test blocks (R303, R335) and class labels (R154). -/
namespace Sys2Proof.Machine

/-! ### Channels -/

/-- A channel. -/
def State.chan (s : State) (c : Nat) : Chan := Tab.lookD s.dmc.chans c {}

/-- A channel replaced. -/
def State.setChan (s : State) (c : Nat) (x : Chan) : State :=
  { s with dmc := { s.dmc with chans := Tab.put s.dmc.chans c x } }

/-- A redundancy analysis engine. -/
def State.engine (s : State) (e : Nat) : Engine := Tab.lookD s.rae.engines e {}

/-- A redundancy analysis engine replaced. -/
def State.setEngine (s : State) (e : Nat) (x : Engine) : State :=
  { s with rae := { s.rae with engines := Tab.put s.rae.engines e x } }

/-- The channel is retired. -/
def State.retired (s : State) (c : Nat) : Bool := (s.chan c).width == .retired

/-- The die group of a channel: eight channels to a group (R9). -/
def dieGroup (c : Nat) : Nat := c / 8

/-- The core die of a channel: two channels to a die, dies 1 to 16 (R9). -/
def dieOf (c : Nat) : Nat := c / 2 + 1

/-! ### Partition offset to channel and address (R252) -/

/-- A mask's channels, ascending. -/
def channelsOf (mask : Nat) : List Nat := bitList 32 mask

/-- The size of a partition in bytes: 256 MiB for each parcel (R32). -/
def Partition.size (p : Partition) : Nat := p.parcels.length * 2 ^ 28

/-- The parcel, the channel and the offset within the slice of a partition offset (R252). -/
def Partition.split (p : Partition) (o : Nat) : Option (Nat × Nat × Nat) :=
  let chs := channelsOf p.chmask
  let q := o % 2 ^ 28
  let g := q / 2 ^ p.grain
  match p.parcels[o / 2 ^ 28]?, chs[g % chs.length]? with
  | some parcel, some ch => some (parcel, ch, g / chs.length * 2 ^ p.grain + q % 2 ^ p.grain)
  | _, _ => none

/-- The channel-local address of an offset within a slice, by the slice map (R252). -/
def State.sliceAddr (s : State) (parcel ch off : Nat) : Option Nat :=
  match (Tab.lookD s.cfg.frames (32 * parcel + ch) [])[off / 2 ^ 23]? with
  | some f => some (f * 2 ^ 23 + off % 2 ^ 23)
  | none => none

/-- The size of a reserve parcel's slice on a channel of the reserve channel set. -/
def State.resSlice (s : State) : Nat := 2 ^ 28 / (channelsOf s.cfg.resMask).length

/-- The channel-local address of an offset in a reserve channel's reserve space: reserve parcels follow each other in
list order (R252, R324). -/
def State.resAddr (s : State) (ch r : Nat) : Option Nat :=
  match s.cfg.resParcels[r / s.resSlice]? with
  | some parcel => s.sliceAddr parcel ch (r % s.resSlice)
  | none => none

/-- Where a byte lies: at a channel-local address of a channel, in a lost slice, or nowhere. -/
inductive Place where
  | at (ch addr : Nat)
  | lost
  | none
deriving DecidableEq, Repr

/-- Where an offset of a migrated slice lies: parts are interleaved at 4 KiB (R324), and a part that was itself salvaged
has a record of its own. -/
def State.followMoved (s : State) : Nat → Nat → Nat → Place
  | 0, _, _ => .none
  | fuel + 1, id, off =>
    match Tab.look s.cfg.moved id with
    | none => .none
    | some m =>
      if m.lost then .lost
      else
        let i := off / 4096
        let within := i / m.parts.length * 4096 + off % 4096
        match m.parts[i % m.parts.length]? with
        | none => .none
        | some p =>
          match p.sub with
          | some id' => s.followMoved fuel id' within
          | none =>
            match s.resAddr p.ch (p.base + within) with
            | some a => .at p.ch a
            | none => .none

/-- Where an offset of the slice of a parcel on a channel lies: on a retired channel, in reserve space once the slice has
been handled, and on the channel itself until then (R254, R325). -/
def State.slicePlace (s : State) (parcel ch off : Nat) : Place :=
  if s.retired ch && (Tab.look s.cfg.moved (32 * parcel + ch)).isSome then s.followMoved 33 (32 * parcel + ch) off
  else match s.sliceAddr parcel ch off with
    | some a => .at ch a
    | none => .none

/-- Where offset `o` of a partition lies (R252, R254). -/
def State.place (s : State) (p : Partition) (o : Nat) : Place :=
  match p.split o with
  | some x => s.slicePlace x.1 x.2.1 x.2.2
  | none => .none

/-! ### Channel-local address to bank and row (R253) -/

/-- The codeword within the row: a[10:6]. -/
def cwOfRow (a : Nat) : Nat := bitsOf a 10 6

/-- The bank group. -/
def bankGroup (a : Nat) : Nat := bitsOf a 13 11 ^^^ bitsOf a 18 16

/-- The bank within the group. -/
def bankIn (a : Nat) : Nat := bitsOf a 15 14 ^^^ bitsOf a 20 19

/-- The bank number of repair entries: bank group × 4 + bank (R317). -/
def bankOf (a : Nat) : Nat := bankGroup a * 4 + bankIn a

/-- The row. -/
def rowOf (a : Nat) : Nat := bitsOf a 31 16

/-- The first address of a row of a bank (R253): `bankOf` and `rowOf` read backwards. -/
def rowOfBank (bank row : Nat) : Nat :=
  row * 65536 + (bank % 4 ^^^ row / 8 % 4) * 16384 + (bank / 4 ^^^ row % 8) * 2048

/-- The first address of a[31:11] step `p` (R293, R305). -/
def rowAddr (p : Nat) : Nat := p * 2048

/-- Channel-local addresses end at 3 GiB (R252). -/
def chanBytes : Nat := 3 * 2 ^ 30

/-- The codeword address of a byte address. -/
def cwAddr (a : Nat) : Nat := a / 64 * 64

/-- The key of a channel-local address in `State.mem`. -/
def memKey (c a : Nat) : Nat := c * 2 ^ 32 + a

/-! ### Labels and classes (R154, R159) -/

/-- The class a label maps to; 0 is unmapped (R154). -/
def State.labelClass (s : State) (l : Nat) : Nat := s.rdN (Reg.QOS_LABEL (l / 4)) / 2 ^ (8 * (l % 4)) % 32

/-- The class that traffic of a label is served for: 32 stands for unmapped traffic, which belongs to no class (R157). -/
def State.labelUser (s : State) (l : Nat) : Nat := if s.labelClass l = 0 then 32 else s.labelClass l

/-- The label is unmapped. -/
def State.unmapped (s : State) (l : Nat) : Bool := s.labelClass l == 0

/-- Word `i` of a class's CLASS value (R159). -/
def State.classWord (s : State) (n i : Nat) : Nat := s.rdN (Reg.QOS_C_CFG n i)

/-- TYPE of a class (R158): 0 MAINT, 1 RT-STREAM, 2 RT-CAPTURE, 3 LAT, 4 BULK; unmapped traffic is served as BULK is. -/
def State.classType (s : State) (n : Nat) : Nat := if n = 0 then 0 else if n = 32 then 4 else bitsOf (s.classWord n 0) 15 8

/-- RANK of a class. -/
def State.classRank (s : State) (n : Nat) : Nat := bitsOf (s.classWord n 0) 23 16

/-- CHAINS of a class. -/
def State.classChains (s : State) (n : Nat) : Nat := bitsOf (s.classWord n 1) 15 0

/-- PART of a class: its partition when valid. -/
def State.classPart (s : State) (n : Nat) : Option Nat :=
  if bitOf (s.classWord n 1) 23 then some (bitsOf (s.classWord n 1) 19 16) else none

/-- P1: F in 1,000 frames/s or w in 10^6 B/s. -/
def State.classP1 (s : State) (n : Nat) : Nat := s.classWord n 2

/-- P2: B in bytes or TARGET in 10 ns. -/
def State.classP2 (s : State) (n : Nat) : Nat := s.classWord n 3

/-- P3: the start deadline in µs or H in µs. -/
def State.classP3 (s : State) (n : Nat) : Nat := s.classWord n 4

/-- The class is guaranteed (R158). -/
def State.guaranteed (s : State) (n : Nat) : Bool := s.classType n == 1 || s.classType n == 2 || s.classType n == 3

/-- The class is guaranteed and in force. -/
def State.inForce (s : State) (n : Nat) : Bool := bitOf s.qos.inforce n

/-- The class is shed. -/
def State.isShed (s : State) (n : Nat) : Bool := bitOf s.qos.shed n

end Sys2Proof.Machine
end

