-- ==== Sys2Proof/Machine/Flags.lean ====
section
/-! DEFINITION. Sys2Proof/Machine/Flags.lean: the flags the stack computes over its whole state: the capability flags
(R30, R31), the lane and spare counts they rest on (R319), and what a capacity change leaves behind (R176, R178). -/
namespace Sys2Proof.Machine

/-- The good physical data/check lanes of a channel, ascending (R319). -/
def Chan.goodData (x : Chan) : List Nat := (List.range 78).filter (fun l => !x.dataFail.contains l)

/-- The good data/check lanes not in use, ascending (R319). -/
def Chan.freeData (x : Chan) : List Nat := x.goodData.filter (fun l => !x.steer.contains l)

/-- The good command/address lanes not in use, ascending. -/
def Chan.freeCa (x : Chan) : List Nat :=
  (List.range 16).filter (fun l => !x.caFail.contains l && !x.caSteer.contains l)

/-- A channel that is not retired lacks a free spare of a kind (R30, R319). -/
def Chan.sparesOut (x : Chan) : Bool := x.width != .retired && (x.freeData.isEmpty || x.freeCa.isEmpty)

/-- The lanes configured into chains that are UP are all active (R30, R201). -/
def ChainLnk.narrow (x : ChainLnk) : Bool :=
  x.state == .up && popcount 16 x.txMask < popcount 64 x.lanes

/-- The first page of a configuration slot. -/
def cfgBase (slot : Nat) : Nat := 1536 + 64 * slot

/-- A slot holds an image: it opens with the magic (R41, R453). -/
def isImage (slot : List Byte) : Bool := slice slot 0 4 == [0x4D, 0x5A, 0x43, 0x46]

/-- The generation of the image that a configuration slot holds: none for a slot without one, or one that a package is still being
received into (R453, R469). -/
def State.storedGen (s : State) (i : Nat) : Option Nat :=
  if s.upd.stage = .receiving ∧ s.upd.type = 2 ∧ s.upd.target = i then none
  else match Tab.look s.upd.flash (cfgBase i) with
    | some p => if isImage p then some (leAt p 8 4) else none
    | none => none

/-- CONFIG_FALLBACK (R30): the generation in effect is older than the newest one stored. -/
def State.configFallback (s : State) : Bool :=
  !s.cfg.empty && (List.range 8).any (fun i => match s.storedGen i with
    | some g => decide (s.cfg.gen < g)
    | none => false)

/-- RESERVE_IN_USE (R30): some part of the reserve holds a migrated slice. -/
def State.reserveInUse (s : State) : Bool := s.cfg.moved.any (fun m => !m.2.lost && !m.2.parts.isEmpty)

/-- The capability flags (R30). -/
def State.capNow (s : State) : Nat :=
  let chs := (List.range 32).map s.chan
  let chains := (List.range 16).map s.chainL
  maskOf ((List.range 19).filter (fun i =>
    match i with
    | 0 => chs.any (fun x => x.width == .half)
    | 1 => chs.any (fun x => x.width == .retired)
    | 2 => !s.bst.dgRetired.isEmpty
    | 3 => chs.any Chan.sparesOut
    | 4 => chains.any ChainLnk.narrow
    | 5 => chains.any (fun x => x.en && x.state != .up && !x.holdOff)
    | 6 => s.qos.shed != 0
    | 7 => s.thm.level != 0
    | 8 => s.dmc.point != 0
    | 9 => !s.thm.excluded.isEmpty
    | 10 => (s.rae.engines.any (fun e => e.2.failed))
    | 11 => !s.cfg.parcelLost.isEmpty
    | 12 => s.reserveInUse
    | 13 => s.bst.softRepair
    | 14 => s.upd.unpatched
    | 15 => s.configFallback
    | 16 => s.upd.setReset
    | 17 => bitOf s.upd.spw.toNat 37
    | _ => s.cfg.empty))

/-- The capability register follows the flags, and a change raises CAPABILITY_CHANGE with both words (R31). The flags are
set from the start-up results when LOAD ends (R23), so that nothing is reported in COLD and LOAD. -/
def State.capUpdate (s : State) : State :=
  let old := s.rdN Reg.GLB_CAP
  let new := s.capNow
  if old = new ∨ s.mode = .cold ∨ s.mode = .load then s
  else (s.wrN Reg.GLB_CAP new).alert 1 0xFF old new 0 0

/-- A capacity change (R176): QOS_STABLE starts again (R178) and an evaluation is due. -/
def State.capacityChange (s : State) : State :=
  { s with qos := { s.qos with tChange := s.now, change := true } }

end Sys2Proof.Machine
end

