-- ==== Sys2Proof/Machine/Class.lean ====
section
/-! DEFINITION. Sys2Proof/Machine/Class.lean: what every family asks of the service classes: bound streams and users
(R165), token buckets (R162), priority (R163), levels (R161) and guarantee misses (R179). -/
namespace Sys2Proof.Machine

/-! ### Who uses a class (R155, R165) -/

/-- VXU_BIND.EN of a unit, as it reads: 0 while its leg has failed (R311). -/
def State.vxuEnabled (s : State) (u : Nat) : Bool :=
  s.flag (Reg.VXU_BIND u) Fld.VXU_BIND_EN && !s.bst.vxuOff.contains u

/-- The label of a unit's VEC packets (R76). -/
def State.vxuLabel (s : State) (u : Nat) : Nat := s.fld (Reg.VXU_BIND u) Fld.VXU_BIND_LABEL

/-- The class of a unit's stream (R155). -/
def State.vxuClass (s : State) (u : Nat) : Nat := s.labelClass (s.fld (Reg.VXU_BIND u) Fld.VXU_BIND_LABEL)

/-- The chain a unit is bound to. -/
def State.vxuChain (s : State) (u : Nat) : Nat := s.fld (Reg.VXU_BIND u) Fld.VXU_BIND_CHAIN

/-- The units whose stream is bound to a class (R165). -/
def State.boundUnits (s : State) (n : Nat) : List Nat :=
  (List.range 16).filter (fun u => s.vxuEnabled u && s.vxuClass u == n)

/-- A source is enabled. -/
def State.srcEnabled (s : State) (i : Nat) : Bool := s.flag (Reg.CAD_SRC_CFG i) Fld.CAD_SRC_CFG_EN

/-- MODE of a source: 0 FOLD, 1 LOG, 2 BOTH (R80). -/
def State.srcMode (s : State) (i : Nat) : Nat := s.fld (Reg.CAD_SRC_CFG i) Fld.CAD_SRC_CFG_MODE

/-- The enabled sources whose label maps to a class (R165). -/
def State.classSources (s : State) (n : Nat) : List Nat :=
  (List.range 256).filter (fun i => s.srcEnabled i &&
    s.labelClass (s.fld (Reg.CAD_SRC_CFG i) Fld.CAD_SRC_CFG_LABEL) == n)

/-- Records in the ingest queue (R84, R114): those not yet ordered, held or waiting for a fold pipe. -/
def State.qFill (s : State) : Nat :=
  s.cad.ingest.length + (s.cad.sources.map (fun e => e.2.held.length)).sum + s.cad.released.length

/-! ### Capture reservoirs (R155, R171) -/

/-- SOURCE of a record (R79). -/
def recSource (l : List Byte) : Nat := leAt l 4 1

/-- The CAP partition a source logs to (R80). -/
def State.srcLog (s : State) (i : Nat) : Nat := s.fld (Reg.CAD_SRC_CFG i) Fld.CAD_SRC_CFG_CAPPART

/-- The class of a source (R155). -/
def State.srcClass (s : State) (i : Nat) : Nat := s.labelClass (s.fld (Reg.CAD_SRC_CFG i) Fld.CAD_SRC_CFG_LABEL)

/-- The sources of the records in the ingest queue (R84). -/
def State.queuedRecords (s : State) : List Nat :=
  s.cad.ingest.map (fun r => recSource r.bytes) ++ s.cad.sources.flatMap (fun e => e.2.held.map (fun _ => e.1)) ++
    s.cad.released.map (fun r => recSource r.fail.bytes)

/-- The CAP partitions that a class's sources log to, each once. -/
def State.classLogs (s : State) (n : Nat) : List Nat :=
  (((s.classSources n).filter (fun i => s.srcMode i != 0)).map s.srcLog).dedup

/-- The partitions whose data pass through the capture reservoir of an RT-CAPTURE class: raw capture and BWR writes. -/
def State.capParts (s : State) (n : Nat) : List Nat :=
  if s.classType n = 2 then s.classLogs n ++ (s.classPart n).toList else []

/-- Bytes in the capture reservoir of a class: records of open capture blocks and writes that wait for their channel. -/
def State.capFill (s : State) (n : Nat) : Nat :=
  32 * (s.cad.caps.map (fun e => (e.2.recs.filter (fun r => s.srcClass (recSource r) == n)).length)).sum +
    64 * (s.dmc.chans.map (fun e => ((e.2.wq ++ e.2.arb).filter (fun q => q.op.waitsWrite && q.cls == n)).length)).sum

/-- Size of a capture reservoir in bytes. -/
def State.capSize (s : State) (n : Nat) : Nat := s.rdN (Reg.QOS_CRES_SIZE n) * 4096

/-! ### Token buckets (R162) -/

/-- The stack read rate of a stream of class n: F × max(B, 4,096) ÷ 4,096 B/s, rounded up (R61). -/
def State.readRate (s : State) (n : Nat) : Nat := ceilDiv (s.classP1 n * 1000 * max (s.classP2 n) 4096) 4096

/-- The rate at which a class's bucket fills, in B/s. -/
def State.bucketRate (s : State) (n : Nat) : Nat :=
  if s.classType n = 1 then (s.boundUnits n).length * s.readRate n else s.classP1 n * 1000000

/-- The depth of a class's bucket in bytes: its reservoir, or w × 10 µs with a floor of 4 KiB. -/
def State.bucketDepth (s : State) (n : Nat) : Nat :=
  let res := if s.classType n = 1 then
      ((s.boundUnits n).map (fun u => s.rdN (Reg.QOS_SRES_SIZE u))).sum * 4096
    else if s.classType n = 2 then s.rdN (Reg.QOS_CRES_SIZE n) * 4096 else 0
  if res = 0 then max 4096 (s.bucketRate n / 100000) else res

/-- SCLK ticks of a second (R16). -/
def ticksPerSec : Nat := 312500000

/-- The tokens of a class now, in bytes × 312,500,000. -/
def State.tokens (s : State) (n : Nat) : Nat :=
  let full := s.bucketDepth n * ticksPerSec
  match Tab.look s.qos.bucket n with
  | none => full
  | some b => min full (b.1 + (s.now - b.2) * s.bucketRate n)

/-- Whether the traffic that a guaranteed class last sent conformed (R175). -/
def State.stray (s : State) (n : Nat) (conforming : Bool) : State :=
  if !s.guaranteed n then s
  else { s with qos := { s.qos with stray := if conforming then s.qos.stray &&& (2 ^ 32 - 1 - 2 ^ n) else s.qos.stray ||| 2 ^ n } }

/-- Traffic of a class: that of a guaranteed class, in force or shed, conforms when it finds enough tokens, which it then takes
(R162). -/
def State.charge (s : State) (n bytes : Nat) : State × Bool :=
  if s.guaranteed n && decide (bytes * ticksPerSec ≤ s.tokens n) then
    (({ s with qos := { s.qos with bucket := Tab.put s.qos.bucket n (s.tokens n - bytes * ticksPerSec, s.now) } }).stray n true, true)
  else (s.stray n false, false)

/-- The priority of a LAT request of an age in 10 ns (R163). -/
def State.latPriority (s : State) (n age : Nat) : Nat :=
  min 255 (bitsOf (s.classWord n 1) 30 24 + 128 * age / s.classP2 n)

/-- WEIGHT of a class in level 5 (R157, R159, R161): 16 for SC0, 1 for unmapped traffic. -/
def State.classWeight (s : State) (n : Nat) : Nat := if n = 0 then 16 else if n = 32 then 1 else bitsOf (s.classWord n 0) 31 24

/-- The level of a request of a class (R161): 5 for BULK, for traffic that does not conform and for that of a shed class (R177); that
of unmapped traffic is 5 (R157), and so is that of SC0's counter dumps and update staging, which count as not conforming here. -/
def State.level (s : State) (n age : Nat) (conforming : Bool) : Nat :=
  if n = 0 then (if conforming then 4 else 5)
  else if !conforming || !s.inForce n then 5
  else if s.classType n = 3 then (if 192 ≤ s.latPriority n age then 2 else 3)
  else 2

/-- Traffic of a class counted: bytes and non-conforming bytes (R181, R389). Unmapped traffic belongs to no class. `label`: the
traffic's label, where it has one. -/
def State.served (s : State) (n bytes : Nat) (conforming : Bool) (label : Option Nat := none) : State :=
  if n = 32 then s
  else
  let l := label.getD (Config.freeLabel s.fresh).toNat
  let s1 := (s.inc64 (Reg.QOS_C_BYTES n) bytes).count 0x07 bytes n none l n
  if s1.guaranteed n && !conforming then s1.count 0x08 bytes n none l n else s1

/-- A request of a class served at an age in 10 ns: that of a LAT request is held against LATMAX and TARGET (R163, R181). -/
def State.latServed (s : State) (n age : Nat) : State :=
  if s.classType n = 3 then
    let s1 := s.wrN (Reg.QOS_C_LATMAX n) (min 0xFFFFFFFF (max (s.rdN (Reg.QOS_C_LATMAX n)) age))
    if s1.classP2 n < age then s1.satInc (Reg.QOS_C_LATOVER n) else s1
  else s

/-- The age in 10 ns of a request that came at a GTIME (R163). -/
def State.ageOf (s : State) (since : Nat) : Nat := (s.now - since) * 8 / 25

/-! ### The order of an arbiter (R161) -/

/-- What an arbiter sees of a waiting request: its level, its class and its age in 10 ns. -/
structure Bid where
  level : Nat
  cls : Nat
  age : Nat
deriving DecidableEq, Repr

/-- The bid of a request of a class since a GTIME. -/
def State.bid (s : State) (cls since : Nat) (conforming : Bool) : Bid :=
  ⟨s.level cls (s.ageOf since) conforming, cls, s.ageOf since⟩

/-- A class has requests left in the present round of level 5: the round serves each class as often as its WEIGHT. -/
def State.roundLeft (s : State) (round : Tab Nat) (n : Nat) : Bool := decide (Tab.lookD round n 0 < s.classWeight n)

/-- The priority of a bid (R163). -/
def State.bidPriority (s : State) (b : Bid) : Nat := s.latPriority b.cls b.age

/-- One bid goes before another that came later: by level; in level 3 by priority; in level 5 by the round, where two LAT requests
that tie go by priority (R177); otherwise by arrival. -/
def State.bidBefore (s : State) (round : Tab Nat) (a b : Bid) : Bool :=
  if a.level ≠ b.level then decide (a.level < b.level)
  else if a.level = 3 then decide (s.bidPriority b ≤ s.bidPriority a)
  else if a.level = 5 then
    if s.roundLeft round a.cls ≠ s.roundLeft round b.cls then s.roundLeft round a.cls
    else if s.classType a.cls = 3 ∧ s.classType b.cls = 3 then decide (s.bidPriority b ≤ s.bidPriority a)
    else true
  else true

/-- The round of level 5 after a bid has been served: with none of its class left, a new round begins. -/
def State.roundNext (s : State) (round : Tab Nat) (b : Bid) : Tab Nat :=
  if b.level ≠ 5 then round
  else if s.roundLeft round b.cls then Tab.put round b.cls (Tab.lookD round b.cls 0 + 1)
  else [(b.cls, 1)]

/-! ### Guarantee misses (R179) -/

/-- A guarantee miss counted. -/
def State.countMiss (s : State) (n : Nat) : State :=
  (s.satInc (Reg.QOS_C_MISS n)).event Reg.QOS_EVENTS Fld.QOS_EVENTS_MISS

/-- A guarantee miss of a class in force, with its reason: counted, and alerted at most once per class in 1 ms. -/
def State.miss (s : State) (n reason : Nat) : State :=
  let s1 := s.countMiss n
  if (match Tab.look s.qos.missAlert n with
      | some t => decide (s.now < t + 312500)
      | none => false) then s1
  else ({ s1 with qos := { s1.qos with missAlert := Tab.put s1.qos.missAlert n s.now } }).alert 0x12 0xFF n reason 0 0

/-- What a class whose guarantee may be in force misses: nothing when it is shed (R70, R177), but in the cycle of its shedding the
miss is counted without an alert (R180). -/
def State.guaranteeMiss (s : State) (n reason : Nat) : State :=
  if s.inForce n then s.miss n reason
  else if s.isShed n && Tab.look s.qos.shedAt n == some s.now then s.countMiss n
  else s

end Sys2Proof.Machine
end

