-- ==== Sys2Proof/Machine/Ecc.lean ====
section
/-! DEFINITION. Sys2Proof/Machine/Ecc.lean: the code over stored codewords (R279 to R283, R286). The code is linear, so
that the syndromes of a stored codeword are those of its error alone: an error is a list of (position, mask) in symbol
order, positions 36 and 37 standing for the address symbols V0 and V1. -/
namespace Sys2Proof.Machine

/-- A symbol of the code: an element of GF(2^16) with field polynomial x^16 + x^12 + x^3 + x + 1 (R279). -/
abbrev Sym := BitVec 16

/-- The product with α, a root of the field polynomial. -/
def gfDouble (x : Sym) : Sym := (x <<< 1) ^^^ (if x.msb then 0x100B#16 else 0#16)

/-- The product in GF(2^16). -/
def gfMul (a b : Sym) : Sym :=
  (List.range 16).foldl (fun acc i => gfDouble acc ^^^ (if b.getMsbD i then a else 0#16)) 0#16

/-- α to a power. -/
def alphaPow : Nat → Sym
  | 0 => 1#16
  | n + 1 => gfDouble (alphaPow n)

/-- The inverse of a non-zero element: its power 2^16 - 2. -/
def gfInv (a : Sym) : Sym :=
  ((List.range 15).foldl (fun p _ => (gfMul p.1 p.1, gfMul p.2 (gfMul p.1 p.1))) (a, (1#16 : Sym))).2

/-- An error in symbol order: (position, mask). -/
abbrev SymErr := List (Nat × Sym)

/-- The mask an error has at a position. -/
def errAt (e : SymErr) (p : Nat) : Sym := e.foldl (fun m x => if x.1 = p then m ^^^ x.2 else m) 0#16

/-- An error in its canonical form: positions 0 to 37 rising, no zero mask. -/
def errNorm (e : SymErr) : SymErr :=
  (List.range 38).filterMap (fun p => if errAt e p = 0#16 then none else some (p, errAt e p))

/-- The sum of two errors. -/
def errAdd (e f : SymErr) : SymErr := errNorm (e ++ f)

/-- The exponent of x that a position stands at in m(x) + r(x) (R279): data symbol i at 4 + i, check symbol 32 + j at j,
V0 at 36 and V1 at 37. -/
def posExp (p : Nat) : Nat := if p < 32 then 4 + p else if p < 36 then p - 32 else p

/-- Syndrome j of an error: its polynomial at α^j. -/
def syndrome (e : SymErr) (j : Nat) : Sym :=
  e.foldl (fun a x => a ^^^ gfMul x.2 (alphaPow (j * posExp x.1))) 0#16

/-- The four syndromes. -/
def syndromes (e : SymErr) : List Sym := (List.range 4).map (syndrome e)

/-- The error of the poison pattern against the codeword of its data: every check symbol XORed with 0xFFFF (R286). -/
def poisonErr : SymErr := [(32, 0xFFFF#16), (33, 0xFFFF#16), (34, 0xFFFF#16), (35, 0xFFFF#16)]

/-- The classes of R283. -/
inductive EccClass where
  | clean | corrected1 | corrected2 | uncorrectable | mismatch | poison
deriving DecidableEq, Repr

/-- The class codes of R283. -/
def EccClass.code : EccClass → Nat
  | .clean => 0 | .corrected1 => 1 | .corrected2 => 2 | .uncorrectable => 3 | .mismatch => 4 | .poison => 5

/-- The single error at position p that the syndromes locate, if they do. -/
def oneError (S : List Sym) (p : Nat) : Option SymErr :=
  let S0 := S.getD 0 0; let S1 := S.getD 1 0; let S2 := S.getD 2 0; let S3 := S.getD 3 0
  let x := alphaPow (posExp p)
  if S1 = gfMul S0 x ∧ S2 = gfMul S1 x ∧ S3 = gfMul S2 x then
    some [(p, S0)]
  else none

/-- The two errors at positions p and q that the syndromes locate, if they do. -/
def twoErrors (S : List Sym) (p q : Nat) : Option SymErr :=
  let S0 := S.getD 0 0; let S1 := S.getD 1 0; let S2 := S.getD 2 0; let S3 := S.getD 3 0
  let x := alphaPow (posExp p); let y := alphaPow (posExp q)
  let m := gfMul S0 y ^^^ S1
  let n := gfMul S0 x ^^^ S1
  let d := x ^^^ y
  if gfMul S2 d = gfMul m (gfMul x x) ^^^ gfMul n (gfMul y y) ∧
      gfMul S3 d = gfMul m (gfMul x (gfMul x x)) ^^^ gfMul n (gfMul y (gfMul y y)) then
    some [(p, gfMul m (gfInv d)), (q, gfMul n (gfInv d))]
  else none

/-- The errors the decoder locates, at most two (R283). -/
def locate (S : List Sym) : Option SymErr :=
  match (List.range 38).findSome? (oneError S) with
  | some e => some e
  | none => (List.range 38).findSome? (fun p =>
      (List.range 38).findSome? (fun q => if p < q then twoErrors S p q else none))

/-- What the decoder makes of a codeword read with an error: the class, in the order of R283, and the errors it
located. -/
def decodeErr (e : SymErr) : EccClass × SymErr :=
  let S := syndromes e
  if S = [0, 0, 0, 0] then (.clean, [])
  else if S = syndromes poisonErr then (.poison, [])
  else match locate S with
    | none => (.uncorrectable, [])
    | some l =>
      if l.any (fun x => decide (36 ≤ x.1)) then (.mismatch, l)
      else if l.length = 1 then (.corrected1, l) else (.corrected2, l)

/-- The data bits an error flips: data symbol i holds codeword bytes 2i and 2i + 1 (R279). -/
def dataBits (e : SymErr) : BitVec 512 :=
  e.foldl (fun (a : BitVec 512) (x : Nat × Sym) =>
    if x.1 < 32 then a ^^^ ((BitVec.zeroExtend 512 x.2 : BitVec 512) <<< (16 * x.1)) else a) 0#512

/-- The data the decoder delivers for a corrected codeword: what was read, with the located errors undone. -/
def delivered (data : BitVec 512) (e located : SymErr) : BitVec 512 := data ^^^ dataBits e ^^^ dataBits located

/-- Where bit j of symbol k travels (R280): its logical lane and beat, over 72 lanes and 8 beats or 36 lanes and 16 beats. -/
def symBit (half : Bool) (k j : Nat) : Nat × Nat := if half then (k, j) else (2 * k + j % 2, j / 2)

/-- What a logical lane that fails completely does to a codeword it carries, at most: every bit it carries of its symbol (R280). -/
def laneErr (half : Bool) (lane : Nat) : SymErr :=
  let k := if half then lane else lane / 2
  [(k, BitVec.ofNat 16 (maskOf ((List.range 16).filter (fun j => (symBit half k j).1 == lane))))]

/-- The first and the second position of a list of errors, 0xFF for none (R301). -/
def errPos (l : SymErr) (i : Nat) : Nat :=
  match l[i]? with
  | some x => x.1
  | none => 0xFF

/-! ### The encoder (R279, R281) -/

/-- The address symbols of a codeword: V0 = a[21:6], V1 = c[4:0] in [14:10] and a[31:22] in [9:0] (R281). -/
def addrSyms (c a : Nat) : Sym × Sym := (BitVec.ofNat 16 (a / 64), BitVec.ofNat 16 (c % 32 * 1024 + a / 2 ^ 22 % 1024))

/-- The coefficients of g(x) = (x + α^0)(x + α^1)(x + α^2)(x + α^3), from x^0 to x^3. -/
def genPoly : List Sym :=
  (List.range 4).foldl (fun g i =>
    (List.range (i + 2)).map (fun k => (if k = 0 then 0#16 else g.getD (k - 1) 0) ^^^ gfMul (g.getD k 0) (alphaPow i)))
    [1#16] |>.take 4

/-- One step of the division by g(x): the next coefficient, from the highest power of x down, enters the remainder. -/
def divStep (r : List Sym) (m : Sym) : List Sym :=
  let t := r.getD 3 0 ^^^ m
  (List.range 4).map (fun k => (if k = 0 then 0#16 else r.getD (k - 1) 0) ^^^ gfMul t (genPoly.getD k 0))

/-- The check symbols 32 to 35 of data symbols D and address symbols V0, V1 (R279). -/
def checkSyms (d : List Sym) (v : Sym × Sym) : List Sym :=
  (v.2 :: v.1 :: d.reverse).foldl divStep [0, 0, 0, 0]

end Sys2Proof.Machine
end

