-- ==== Sys2Proof/Machine/Mem.lean ====
section
/-! DEFINITION. Sys2Proof/Machine/Mem.lean: codewords of stack memory: reading, writing, merging, poisoning and reporting
them (R256, R257, R283 to R298), the requests that wait in a controller's queues (R12, R255, R257), and reading a run of bytes of
a partition (R234, R252, R254). -/
namespace Sys2Proof.Machine

/-! ### Bytes -/

/-- The bytes of a codeword's data, byte 0 first. -/
def dataBytes (d : BitVec 512) : List Byte := leBytes 64 d.toNat

/-- The data that 64 bytes hold. -/
def bytesData (l : List Byte) : BitVec 512 := BitVec.ofNat 512 (leNat l)

/-- Every byte of a codeword. -/
def allBytes : BitVec 64 := 0xFFFFFFFFFFFFFFFF#64

/-- The bits of the bytes of a mask. -/
def bytesMask (w : BitVec 64) : BitVec 512 :=
  BitVec.ofNat 512 (leNat ((List.range 64).map (fun i => if w.getLsbD i then 0xFF#8 else 0#8)))

/-- Data with the valid bytes of other data laid over it. -/
def mergeData (old new : BitVec 512) (w : BitVec 64) : BitVec 512 :=
  (old &&& ~~~ bytesMask w) ||| (new &&& bytesMask w)

/-- The number of valid bytes. -/
def byteCount (w : BitVec 64) : Nat := popcount 64 w.toNat

/-! ### The stored codeword -/

/-- No byte of the codeword at key `k` has been written (R537). -/
def State.unwritten (s : State) (k : Nat) : Bool := (List.range 64).all (fun i => (Tab.look s.mem (k + i)).isNone)

/-- The data stored at key `k`; a byte nothing has written is a free value of the present draw (R537). -/
def State.stored (s : State) (k : Nat) : BitVec 512 :=
  bytesData ((List.range 64).map (fun i => (Tab.look s.mem (k + i)).getD (Config.freeByte s.fresh (k + i))))

/-- The error of the stored codeword at key `k`. -/
def State.storedErr (s : State) (k : Nat) : SymErr := Tab.lookD s.errs k []

/-- Bytes put into memory from key `k` on. -/
def putBytes (m : List Host.Cell) (k : Nat) (l : List Byte) : List Host.Cell :=
  match l with
  | [] => m
  | b :: r => putBytes (Tab.put m k b) (k + 1) r

/-- The codeword at key `k` stored with its error. -/
def State.store (s : State) (k : Nat) (d : BitVec 512) (e : SymErr) : State :=
  { s with
    mem := putBytes s.mem k (dataBytes d)
    errs := if errNorm e = [] then Tab.del s.errs k else Tab.put s.errs k (errNorm e) }

/-! ### Commands of the scheduler (R256, R266) -/

/-- A transit runs (R268). -/
def State.inTransit (s : State) : Bool := s.dmc.move.isSome

/-- A refresh counts as issued (R262, R266). -/
def State.countRefresh (s : State) (c : Nat) (k : DramCmd) : State :=
  match k.owes with
  | none => s
  | some n => (s.inc64 (Reg.DMC_REF_CNT c)).count 6 1 c none n c

/-- A write that was issued before command `n`. -/
def ReqOp.sentBefore (n : Nat) : ReqOp → Bool
  | .sent m _ _ => decide (m < n)
  | _ => false

/-- A command issued on a channel: it enters the retry buffer of the last 32, and what it displaces there is never sent again. -/
def State.command (s : State) (c : Nat) (k : DramCmd) : State :=
  let x := s.chan c
  (x.retry.take (x.retry.length + 1 - 32)).foldl (fun (t : State) o => t.countRefresh c o) (s.setChan c { x with
    retry := (x.retry ++ [k]).drop (x.retry.length + 1 - 32), issued := x.issued + 1, work := x.work + b2n (k.kind != 4)
    wq := x.wq.filter (fun q => !q.op.sentBefore (x.issued + 1 - 32)) })

/-- A command without data, issued now. -/
def State.plainCmd (s : State) (kind a : Nat) : DramCmd := { kind := kind, addr := a, at_ := s.now }

/-- The row of a codeword opened: a precharge where another row of the bank is open, then an activate. -/
def State.openRow (s : State) (c a : Nat) : State :=
  let s1 := if (Tab.look (s.chan c).openRows (bankOf a)).isSome then s.command c (s.plainCmd 4 a) else s
  let s2 := s1.command c (s.plainCmd 3 a)
  ((s2.setChan c { s2.chan c with openRows := Tab.put (s2.chan c).openRows (bankOf a) (rowOf a) }).inc64
    (Reg.DMC_ACT_CNT c)).count 4 1 c none a c

/-- A column command to a codeword: a hit on the open row, or the row is opened first. -/
def State.column (s : State) (c : Nat) (k : DramCmd) : State :=
  if Tab.look (s.chan c).openRows (bankOf k.addr) = some (rowOf k.addr) then
    ((s.command c k).inc64 (Reg.DMC_HIT_CNT c)).count 5 1 c none k.addr c
  else (s.openRow c k.addr).command c k

/-- The slice that a channel-local address lies in, by the slice map, and the offset within it (R252). -/
def State.sliceOf (s : State) (c a : Nat) : Option (Nat × Nat) :=
  (s.cfg.frames.find? (fun e => e.1 % 32 == c && e.2.contains (a / 2 ^ 23))).map (fun e =>
    (e.1 / 32, e.2.idxOf (a / 2 ^ 23) * 2 ^ 23 + a % 2 ^ 23))

/-- The partition and the offset of a slice's byte (R252): `split` read backwards. -/
def State.partOfSlice (s : State) (parcel c off : Nat) : Option (Nat × Nat) :=
  (s.cfg.parts.find? (fun p => p.2.parcels.contains parcel)).map (fun p =>
    let chs := channelsOf p.2.chmask
    let grain := 2 ^ p.2.grain
    (p.1, p.2.parcels.idxOf parcel * 2 ^ 28 + (off / grain * chs.length + chs.idxOf c) * grain + off % grain))

/-- The slice, and the offset within it, of a byte of the part of a migrated slice that lies at an offset of a channel's reserve space
(R324): `followMoved` read backwards. -/
def State.movedOf (s : State) (c r : Nat) : Option (Nat × Nat) :=
  let at_ (m : Nat × MovedSlice) : Option (Nat × Nat) :=
    ((List.range m.2.parts.length).find? (fun i => m.2.parts[i]?.any (fun p => p.ch == c && p.sub.isNone && decide (p.base ≤ r) &&
      decide (r < p.base + ceilDiv (m.2.size / 4096) m.2.parts.length * 4096)))).map (fun i =>
        let w := r - (m.2.parts[i]?.map (·.base)).getD 0
        (m.1, (w / 4096 * m.2.parts.length + i) * 4096 + w % 4096))
  s.cfg.moved.findSome? at_

/-- The slice of a salvaged part's record: its own, or that of the slice whose part it is. -/
def State.ownerOf (s : State) : Nat → Nat × Nat → Option (Nat × Nat)
  | 0, _ => none
  | fuel + 1, (id, off) =>
    if id < 12288 then some (id, off)
    else
      let up (m : Nat × MovedSlice) : Option (Nat × Nat) :=
        ((List.range m.2.parts.length).find? (fun i => m.2.parts[i]?.any (fun p => p.sub == some id))).map (fun i =>
          (m.1, (off / 4096 * m.2.parts.length + i) * 4096 + off % 4096))
      (s.cfg.moved.findSome? up).bind (s.ownerOf fuel)

/-- The partition and the offset that a channel-local address belongs to (R252, R324, R390); none outside every partition. -/
def State.partOfAddr (s : State) (c a : Nat) : Option (Nat × Nat) :=
  match s.sliceOf c a with
  | none => none
  | some (parcel, off) =>
    if s.cfg.resParcels.contains parcel then
      (((s.movedOf c (s.cfg.resParcels.idxOf parcel * s.resSlice + off)).bind (s.ownerOf 33)).bind (fun x =>
        s.partOfSlice (x.1 / 32) (x.1 % 32) x.2))
    else s.partOfSlice parcel c off

/-- The index and description of the DMP partition (R33). -/
def State.dmpPart (s : State) : Option (Nat × Partition) := s.cfg.parts.find? (fun p => p.2.pers == 5)

/-- A dump is not yet written (R393, R402): codewords of the DMP partition, which only dumps write, wait at their channels or in their
parity windows. -/
def State.dumping (s : State) : Bool :=
  match s.dmpPart with
  | none => false
  | some p => (List.range 32).any (fun c => ((s.chan c).arb ++ (s.chan c).wq).any (fun r =>
      r.op.isWrite && (s.partOfAddr c r.addr).any (fun x => x.1 == p.1)))

/-- A codeword event counted (R389): A is the channel-local address in scope D, and in scope P what `off` says. -/
def State.countCw (s : State) (ev c a : Nat) (part : Option (Nat × Nat)) (inPart : Bool) : State :=
  s.count ev 1 c (part.map (·.1)) a c (if inPart then (part.map (·.2)).getD a else a)

/-! ### Out-of-turn legs (R305, R316) -/

/-- The block of a leg as BST_ARG lays it out. -/
def legBlock (kind unit index : Nat) : Nat := kind * 2 ^ 28 + unit * 2 ^ 22 + index

/-- The kind, unit and index of a block (R335). -/
def blockKind (b : Nat) : Nat := bitsOf b 31 28

/-- UNIT of a block. -/
def blockUnit (b : Nat) : Nat := bitsOf b 27 22

/-- INDEX of a block. -/
def blockIndex (b : Nat) : Nat := bitsOf b 21 0

/-- The ROW leg that holds a bank of a channel (R303). -/
def State.bankLeg (s : State) (c a : Nat) : Option Leg :=
  s.bst.running.find? (fun l => blockKind l.block == 1 && blockUnit l.block == c &&
    bankOf (rowAddr (blockIndex l.block)) == bankOf a)

/-- An out-of-turn leg queued on a channel: a queued block merges, and a 17th request is dropped. -/
def State.queueLeg (s : State) (c block : Nat) : State :=
  let x := s.chan c
  if x.oot.contains block ∨ 16 ≤ x.oot.length then s else s.setChan c { x with oot := x.oot ++ [block] }

/-! ### Reporting (R285, R296) -/

/-- Traffic of a channel is held until its command/address lanes have been tested (R267, R285). -/
def State.holdChannel (s : State) (c : Nat) : State := s.setChan c { s.chan c with held := true }

/-- Raises one half of ECC_C_ADDR, saturating (R300). -/
def State.countMismatch (s : State) (c : Nat) (persistent : Bool) : State :=
  let v := s.rdN (Reg.ECC_C_ADDR c)
  let hi := v / 65536; let lo := v % 65536
  s.wrN (Reg.ECC_C_ADDR c) (if persistent then min (hi + 1) 65535 * 65536 + lo else hi * 65536 + min (lo + 1) 65535)

/-- The last event of a channel latched (R296, R301). Sources: 0 demand read, 1 read-modify-write, 2 scrub, 3 reread. -/
def State.latchEcc (s : State) (c a : Nat) (cls : EccClass) (located : SymErr) (src : Nat) : State :=
  ((s.wrN (Reg.ECC_C_LAST_INFO c)
      (cls.code * 2 ^ 29 + src * 2 ^ 26 + errPos located 1 * 256 + errPos located 0)).wrN
    (Reg.ECC_C_LAST_ADDR c) a).wr64 (Reg.ECC_C_LAST_TIME c) s.now

/-- The location handed over as a repair candidate: its row gets an out-of-turn ROW leg (R296, R316). -/
def State.candidate (s : State) (c a : Nat) : State :=
  let x := s.chan c
  (s.setChan c (if x.cands.contains (a / 2048) then x else { x with cands := x.cands ++ [a / 2048] })).queueLeg c
    (legBlock 1 c (a / 2048))

/-- The logical lanes that carry the bits of a mask of symbol k, one entry a bit (R280). -/
def bitLanes (half : Bool) (k : Nat) (m : BitVec 16) : List Nat :=
  (bitList 16 m.toNat).map (fun j => (symBit half k j).1)

/-- The corrected positions and bits of a codeword counted in the present 1 ms window (R297, R320). -/
def State.countHot (s : State) (c : Nat) (located : SymErr) : State :=
  let x := s.chan c
  let w := s.now / 312500
  let cnt : Tab Nat := if x.hotWin = w then x.hotCnt else []
  let bits : Tab Nat := if x.hotWin = w then x.hotBits else []
  let up (t : Tab Nat) (i : Nat) : Tab Nat := Tab.put t i (Tab.lookD t i 0 + 1)
  let lanes := located.flatMap (fun e => bitLanes (x.width == .half) e.1 e.2)
  s.setChan c { x with hotWin := w, hotCnt := located.foldl (fun t e => up t e.1) cnt, hotBits := lanes.foldl up bits }

/-- What a classification other than a mismatch does to the counts, the latches and the faults (R296). -/
def State.reportEcc (s : State) (c a : Nat) (cls : EccClass) (located : SymErr) (src : Nat) (part : Option (Nat × Nat)) : State :=
  match cls with
  | .clean => s
  | .corrected1 =>
    ((((((s.inc64 (Reg.ECC_C_CORR1 c)).event (Reg.ECC_C_EVENTS c) Fld.ECC_C_EVENTS_CORR).countCw 0x17 c a part false).latchEcc c a
      cls located src).countHot c located).candidate c a).detect 64 c a
  | .corrected2 =>
    ((((((s.inc64 (Reg.ECC_C_CORR2 c)).event (Reg.ECC_C_EVENTS c) Fld.ECC_C_EVENTS_CORR).countCw 0x17 c a part false).latchEcc c a
      cls located src).countHot c located).candidate c a).detect 64 c a
  | .uncorrectable =>
    ((((s.satInc (Reg.ECC_C_UNC c)).event (Reg.ECC_C_EVENTS c) Fld.ECC_C_EVENTS_UNC).latchEcc c a
      cls located src).candidate c a).detect 16 c a
  | .poison =>
    ((((s.satInc (Reg.ECC_C_POISON_RD c)).event (Reg.ECC_C_EVENTS c) Fld.ECC_C_EVENTS_POISON_RD).latchEcc c a
      cls located src).candidate c a).detect 65 c a
  | .mismatch =>
    ((((s.countMismatch c true).event (Reg.ECC_C_EVENTS c) Fld.ECC_C_EVENTS_ADDR).latchEcc c a
      cls located src).candidate c a).detect 17 c a |>.holdChannel c

/-- A first ADDRESS_MISMATCH: a transient mismatch and a CORRECTED fault (R285, R296). -/
def State.transientMismatch (s : State) (c a : Nat) (located : SymErr) (src : Nat) : State :=
  (((s.countMismatch c false).latchEcc c a .mismatch located src).candidate c a).detect 64 c a

/-! ### Writes -/

/-- The bytes of the codeword at key `k` that memory lists. -/
def State.cellsAt (s : State) (k : Nat) : List Host.Cell :=
  (List.range 64).filterMap (fun i => (Tab.look s.mem (k + i)).map (fun b => (k + i, b)))

/-- A write just issued stands in the write queue until its parity window has passed (R255, R266); one of the controller's own that
finds the queue full stands in the retry buffer alone. -/
def State.keepSent (s : State) (c a : Nat) (d : BitVec 512) (e : SymErr) : State :=
  let x := s.chan c
  let q : DmcReq := ⟨s.dmc.reqSeq, a, 0, false, s.now, .sent (x.issued - 1) d e, none⟩
  let s1 := if x.wq.length < 64 then s.setChan c { x with wq := x.wq ++ [q] } else s
  { s1 with dmc := { s1.dmc with reqSeq := s1.dmc.reqSeq + 1 } }

/-- A codeword stored with an error by a write command (R266). -/
def State.storeCmd (s : State) (c a : Nat) (d : BitVec 512) (e : SymErr) : State :=
  let k : DramCmd := { kind := 2, addr := a, at_ := s.now, data := d, err := e
                       oldMem := s.cellsAt (memKey c a), oldErr := s.storedErr (memKey c a) }
  (((s.column c k).inc64 (Reg.DMC_WR_CNT c)).keepSent c a d e).store (memKey c a) d e

/-- A codeword written as poison (R286). -/
def State.poisonWrite (s : State) (c a : Nat) : State :=
  (s.storeCmd c a 0#512 poisonErr).satInc (Reg.ECC_C_POISON_WR c)

/-- An injection is armed for a codeword (R298). -/
def State.injArmed (s : State) (c a : Nat) : Bool :=
  s.flag Reg.ECC_INJ_CTL Fld.ECC_INJ_CTL_ARM && s.fld Reg.ECC_INJ_CTL Fld.ECC_INJ_CTL_CHANNEL == c &&
    s.rdN Reg.ECC_INJ_ADDR == a

/-- The error an armed injection stores (R298): SYMBOL flips two symbols, ADDRESS encodes for V0 XOR MASK_A. -/
def State.injError (s : State) : SymErr :=
  let ma := BitVec.ofNat 16 (s.rdN Reg.ECC_INJ_MASK)
  let mb := BitVec.ofNat 16 (s.rdN Reg.ECC_INJ_MASK / 65536)
  match s.fld Reg.ECC_INJ_CTL Fld.ECC_INJ_CTL_KIND with
  | 1 => [(s.fld Reg.ECC_INJ_CTL Fld.ECC_INJ_CTL_SYM_A, ma), (s.fld Reg.ECC_INJ_CTL Fld.ECC_INJ_CTL_SYM_B, mb)]
  | 2 => [(36, ma)]
  | _ => poisonErr

/-- A codeword encoded and written; an armed injection on it is applied and disarmed (R298). -/
def State.issueWrite (s : State) (c a : Nat) (d : BitVec 512) (part : Option (Nat × Nat)) : State :=
  let s1 := s.countCw 3 c a part true
  if s1.injArmed c a then
    ((s1.storeCmd c a (if s1.fld Reg.ECC_INJ_CTL Fld.ECC_INJ_CTL_KIND = 3 then 0#512 else d) s1.injError).setFld
      Reg.ECC_INJ_CTL Fld.ECC_INJ_CTL_ARM 0).event Reg.ECC_G_EVENTS Fld.ECC_G_EVENTS_INJ_APPLIED
  else s1.storeCmd c a d []

/-! ### Reads -/

/-- What a read of the array gives: the state, the data when some is delivered, and the class. -/
structure ReadOut where
  st : State
  data : Option (BitVec 512)
  cls : EccClass

/-- One read of the stored codeword under an error: the class, the located errors and the data it would deliver. An
unwritten codeword is readable or not as the free value says (R537). -/
def State.rawRead (s : State) (c a : Nat) (line : SymErr) : EccClass × SymErr × BitVec 512 :=
  let k := memKey c a
  if s.unwritten k && !Config.unwrittenReadable s.fresh k then (.uncorrectable, [], 0#512)
  else
    let e := errAdd (s.storedErr k) line
    let r := decodeErr e
    (r.1, r.2, delivered (s.stored k) e r.2)

/-- The merge entry of a codeword. -/
def Chan.mergeOf (x : Chan) (a : Nat) : Option MergeEntry := x.merge.find? (fun e => e.addr == a)

/-- A codeword is to be written back (R295). -/
def State.addWb (s : State) (c a : Nat) : State :=
  s.setChan c { s.chan c with wb := (s.chan c).wb.filter (fun x => x != a) ++ [a] }

/-- A codeword has a pending write in the write queue or the merge buffer (R293). -/
def Chan.pending (x : Chan) (a : Nat) : Bool := x.wq.any (fun q => q.addr == a && q.op.waitsWrite) || (x.mergeOf a).isSome

/-- A read of the array with its classification, the reread after an ADDRESS_MISMATCH, the reports and the poisoning of
an uncorrectable codeword (R283, R285, R286, R296); the poison of a scrub gives way to a pending write, and a scrub counts no POISON
(R293). A demand read that gives CORRECTED_2 is to be written back (R295). `src0` is the source of the report. -/
def State.arrayRead (s : State) (c a : Nat) (errs : ReadErrs) (src0 : Nat) (part : Option (Nat × Nat)) : ReadOut :=
  let k := memKey c a
  let cell := errNorm errs.cell
  let s0 := if cell = [] then s else
    let e := errAdd (s.storedErr k) cell
    { s with errs := if e = [] then Tab.del s.errs k else Tab.put s.errs k e }
  let s1 := ((s0.column c (s0.plainCmd 1 a)).inc64 (Reg.DMC_RD_CNT c)).countCw 2 c a part true
  let r1 := s1.rawRead c a errs.line
  let fin (t : State) (r : EccClass × SymErr × BitVec 512) (src : Nat) : ReadOut :=
    let t1 := if src0 = 2 ∧ r.1 = .poison then t else t.reportEcc c a r.1 r.2.1 src part
    match r.1 with
    | .clean | .corrected1 => ⟨t1.draw, some r.2.2, r.1⟩
    | .corrected2 => ⟨(if src0 = 0 then t1.addWb c a else t1).draw, some r.2.2, r.1⟩
    | .uncorrectable => ⟨(if src0 = 2 ∧ (s.chan c).pending a then t1 else t1.poisonWrite c a).draw, none, r.1⟩
    | _ => ⟨t1.draw, none, r.1⟩
  if r1.1 = .mismatch then
    let s2 := s1.transientMismatch c a r1.2.1 src0
    fin s2 (s2.rawRead c a errs.reread) 3
  else fin s1 r1 src0

/-! ### The merge buffer (R287 to R291) -/

/-- A merge entry freed. -/
def State.freeMerge (s : State) (c a : Nat) : State :=
  s.setChan c { s.chan c with merge := (s.chan c).merge.filter (fun e => e.addr != a) }

/-- The partition of a class's traffic: none for SC0 (R390). -/
def trafficPart (cls : Nat) (part : Option (Nat × Nat)) : Option (Nat × Nat) := if cls = 0 then none else part

/-- A read-modify-write of a merge entry (R289, R290): what it found, and the data it wrote. -/
def State.rmw (s : State) (c : Nat) (e : MergeEntry) (errs : ReadErrs) (part0 : Option (Nat × Nat)) : ReadOut :=
  let part := trafficPart e.cls part0
  let s0 := ((s.freeMerge c e.addr).inc64 (Reg.ECC_C_RMW c)).countCw 0x18 c e.addr part false
  let ch := s0.charge e.cls (128 - e.charged)
  let s1 := ch.1.served e.cls (128 - e.charged) ch.2
  let r := s1.arrayRead c e.addr errs 1 part
  match r.data with
  | some d =>
    let m := mergeData d e.data e.valid
    ⟨r.st.issueWrite c e.addr m part, some m, r.cls⟩
  | none =>
    if r.cls = .mismatch then r
    else
      let s2 := if r.cls = .poison then (r.st.poisonWrite c e.addr).detect 16 c e.addr else r.st
      ⟨(s2.satInc (Reg.ECC_C_RMW_FAIL c)).event (Reg.ECC_C_EVENTS c) Fld.ECC_C_EVENTS_RMW_FAIL, none, r.cls⟩

/-- No read error beyond what is stored. -/
def noErrs : ReadErrs := ⟨[], [], []⟩

/-- The oldest entries written by read-modify-write until at most 640 remain (R288); one whose bank a ROW leg holds waits (R312). -/
def State.drainMerge (s : State) (c : Nat) : Nat → State
  | 0 => s
  | n + 1 =>
    match (s.chan c).merge.find? (fun e => (s.bankLeg c e.addr).isNone) with
    | none => s
    | some e =>
      if (s.chan c).merge.length ≤ 640 then s else (s.rmw c e noErrs (s.partOfAddr c e.addr)).st.drainMerge c n

/-- Every entry of a channel written out, as when a warm load begins (R288). -/
def State.flushMerge (s : State) (c : Nat) : Nat → State
  | 0 => s
  | n + 1 =>
    match (s.chan c).merge with
    | [] => s
    | e :: _ => (s.rmw c e noErrs (s.partOfAddr c e.addr)).st.flushMerge c n

/-- A write reaches the merge buffer or the array (R287, R288): a full write replaces an entry, a narrow one merges into
its entry or allocates one; the entry that becomes complete is written in full, and 768 entries start the drain. The write supersedes a write back
that has not issued (R291). `paid`: the bytes its class's bucket has paid for (R290). -/
def State.applyWrite (s : State) (c a : Nat) (d : BitVec 512) (w : BitVec 64) (cls paid : Nat) (part0 : Option (Nat × Nat)) : State :=
  let part := trafficPart cls part0
  let s := s.setChan c { s.chan c with wb := (s.chan c).wb.filter (fun x => x != a) }
  if w = allBytes then (s.freeMerge c a).issueWrite c a d part
  else
    match (s.chan c).mergeOf a with
    | some e =>
      let e' : MergeEntry := { e with data := mergeData e.data d w, valid := e.valid ||| w, charged := e.charged + paid }
      if e'.valid = allBytes then (s.freeMerge c a).issueWrite c a e'.data part
      else s.setChan c { s.chan c with merge := (s.chan c).merge.map (fun m => if m.addr = a then e' else m) }
    | none =>
      let x := s.chan c
      let e : MergeEntry := { addr := a, data := mergeData 0#512 d w, valid := w, cls := cls, charged := paid, t := s.now }
      let s1 := s.setChan c { x with merge := x.merge ++ [e] }
      if 768 ≤ x.merge.length + 1 then s1.drainMerge c 896 else s1

/-! ### Requests that wait (R12, R255, R257, R267, R312) -/

/-- The requests of a channel that wait to be issued, in its queues and in the class arbiters. -/
def Chan.waiting (x : Chan) : List DmcReq := x.rq ++ x.wq.filter (fun q => !q.op.isSent) ++ x.arb

/-- Some request to a codeword waits. -/
def Chan.waitsFor (x : Chan) (a : Nat) : Bool := x.waiting.any (fun q => q.addr == a)

/-- The data of the whole codeword that the last write to it before request `n` holds in the write queue (R257): a write that waits,
or the last one issued. -/
def Chan.queued (x : Chan) (a n : Nat) : Option (BitVec 512) :=
  let l := x.wq.filter (fun q => q.addr == a && decide (q.seq < n))
  if x.arb.any (fun q => q.addr == a && decide (q.seq < n)) then none
  else match (((l.filter (fun q => q.op.waitsWrite)).getLast?).or l.getLast?).map DmcReq.op with
    | some (.write d w _) => if w = allBytes then some d else none
    | some (.again d e) => if e = [] then some d else none
    | some (.sent _ d e) => if e = [] then some d else none
    | _ => none

/-- The transaction tags in use (R12, R255, R273). -/
def State.tagsUsed (s : State) : List Nat :=
  s.dmc.tagsLost ++ s.dmc.chans.flatMap (fun e => (e.2.rq ++ e.2.wq).filterMap (·.tag))

/-- The lowest of the 131,072 tags that is free. -/
def State.freeTag (s : State) : Option Nat :=
  (List.range (s.tagsUsed.length + 1)).find? (fun t => !s.tagsUsed.contains t && decide (t < 131072))

/-- The bid of a waiting request (R161). -/
def State.reqBid (s : State) (r : DmcReq) : Bid := s.bid r.cls r.since r.conf

/-- The one of two waiting requests that goes first. -/
def State.sooner (s : State) (round : Tab Nat) (q r : DmcReq) : DmcReq :=
  if q.seq < r.seq then (if s.bidBefore round (s.reqBid q) (s.reqBid r) then q else r)
  else if s.bidBefore round (s.reqBid r) (s.reqBid q) then r
  else q

/-- The request of a list that goes first, as R161 orders them (R256). -/
def State.firstReq (s : State) (round : Tab Nat) (l : List DmcReq) : Option DmcReq :=
  l.foldl (fun (b : Option DmcReq) r => some ((b.map (fun q => s.sooner round q r)).getD r)) none

/-- The queue of a request has room, and no earlier request to its codeword stays in an arbiter. -/
def Chan.mayQueue (x : Chan) (r : DmcReq) : Bool :=
  (if r.op.isWrite then decide (x.wq.length < 64) else decide (x.rq.length < 128)) &&
    !x.arb.any (fun q => decide (q.seq < r.seq) && q.addr == r.addr)

/-- A request put into its queue with a tag, and the round of its class arbiter after it. -/
def Chan.enqueue (x : Chan) (r : DmcReq) (tag : Nat) (round : Tab Nat) : Chan :=
  let y := { x with arb := x.arb.erase r, roundArb := round }
  let q : DmcReq := { r with tag := some tag }
  if r.op.isWrite then { y with wq := y.wq ++ [q] } else { y with rq := y.rq ++ [q] }

/-- Requests leave the class arbiters of a channel for its queues while these have room and tags are free. -/
def State.promote (s : State) (c : Nat) : Nat → State
  | 0 => s
  | n + 1 =>
    let x := s.chan c
    match s.firstReq x.roundArb (x.arb.filter x.mayQueue), s.freeTag with
    | some r, some t => (s.setChan c (x.enqueue r t (s.roundNext x.roundArb (s.reqBid r)))).promote c n
    | _, _ => s

/-- A request arrives at the class arbiter of a channel that cannot serve it now. -/
def State.askChan (s : State) (c a cls : Nat) (conf : Bool) (since : Nat) (op : ReqOp) : State :=
  let r : DmcReq := ⟨s.dmc.reqSeq, a, cls, conf, since, op, none⟩
  let s1 := s.setChan c { s.chan c with arb := (s.chan c).arb ++ [r] }
  ({ s1 with dmc := { s1.dmc with reqSeq := s1.dmc.reqSeq + 1 } }).promote c (s1.chan c).arb.length

/-- A pending write that takes another write to its codeword in place: no later request to the codeword waits (R257). -/
def Chan.openWrite (x : Chan) (a : Nat) : Option DmcReq :=
  x.wq.find? (fun q => q.addr == a && q.op.waitsWrite && !x.waiting.any (fun r => r.addr == a && decide (q.seq < r.seq)))

/-- The bytes of a later write laid over a pending one, which adds what it has paid (R290). -/
def ReqOp.over (o : ReqOp) (d : BitVec 512) (w : BitVec 64) (paid : Nat) : ReqOp :=
  match o with
  | .write d0 w0 p => .write (mergeData d0 d w) (w0 ||| w) (p + paid)
  | .again d0 _ => .write (mergeData d0 d w) allBytes paid
  | r => r

/-- The bytes of a write that its class's bucket has paid for: traffic that conforms took its tokens (R162, R290). -/
def paidBytes (conf : Bool) (w : BitVec 64) : Nat := if conf then byteCount w else 0

/-- A write that waits: it replaces the data of a pending write to its codeword in place, or takes its own turn. -/
def State.askWrite (s : State) (c a cls : Nat) (conf : Bool) (since : Nat) (d : BitVec 512) (w : BitVec 64) : State :=
  match (s.chan c).openWrite a with
  | some q => s.setChan c { s.chan c with
      wq := (s.chan c).wq.map (fun e => if e.seq = q.seq then { e with op := e.op.over d w (paidBytes conf w) } else e) }
  | none => s.askChan c a cls conf since (.write d w (paidBytes conf w))

/-- A channel that serves no request to a codeword at present: its traffic is held (R267), a transit stalls it (R268), its dies are in self-refresh, a ROW leg holds the bank (R312), an
earlier request to the codeword waits (R257), or every tag is in use (R12). -/
def State.cwBusy (s : State) (c a : Nat) : Bool :=
  (s.chan c).held || s.inTransit || (s.chan c).sr || (s.bankLeg c a).isSome || (s.chan c).waitsFor a || s.freeTag.isNone

/-- A narrow write finds no entry and no free one in the merge buffer of 896 (R287). -/
def Chan.mergeFull (x : Chan) (a : Nat) (w : BitVec 64) : Bool :=
  w != allBytes && (x.mergeOf a).isNone && decide (896 ≤ x.merge.length)

/-- Read request `n` of a codeword: answered from the write before it that the write queue holds, from a complete merge entry, after
the read-modify-write of an incomplete one, or from the array (R257, R288). -/
def State.readCw (s : State) (c a n : Nat) (errs : ReadErrs) (part : Option (Nat × Nat)) : ReadOut :=
  match (s.chan c).queued a n with
  | some d => ⟨s, some d, .clean⟩
  | none =>
    match (s.chan c).mergeOf a with
    | some e => if e.valid = allBytes then ⟨s, some e.data, .clean⟩ else s.rmw c e errs part
    | none => s.arrayRead c a errs 0 part

/-- A new read of a codeword must wait: the channel does not serve it, and no pending write answers it. -/
def State.readWaits (s : State) (c a : Nat) : Bool := s.cwBusy c a && ((s.chan c).queued a s.dmc.reqSeq).isNone

/-- The write issued for a request, since request number `n`, stands in the write queue under that request's place, class and tag. -/
def State.sentFor (s : State) (c n : Nat) (r : DmcReq) : State :=
  s.setChan c { s.chan c with
    wq := (s.chan c).wq.map (fun q => if q.op.isSent && q.addr == r.addr && decide (n ≤ q.seq) then { r with op := q.op } else q) }

/-- A write taken by its channel since a GTIME, at once or when its turn comes. -/
def State.writeOrWait (s : State) (c a : Nat) (d : BitVec 512) (w : BitVec 64) (cls : Nat) (conf : Bool) (since : Nat)
    (part : Option (Nat × Nat)) : State :=
  if s.cwBusy c a || (s.chan c).mergeFull a w || decide (64 ≤ (s.chan c).wq.length) then s.askWrite c a cls conf since d w
  else
    ((s.applyWrite c a d w cls (paidBytes conf w) part).latServed cls (s.ageOf since)).sentFor c s.dmc.reqSeq
      ⟨s.dmc.reqSeq, a, cls, conf, since, .write d w 0, s.freeTag⟩

/-! ### Runs of bytes of a partition (R234, R235, R252, R254) -/

/-- What a run of bytes gives: the state, the bytes (zero where none is delivered), and whether all were delivered. -/
structure RunOut where
  st : State
  bytes : List Byte
  intact : Bool

/-- `n` codewords of a partition read from the codeword offset `o` on; a lost or unreadable one reads zero (R236, R284). -/
def State.readRun (s : State) (pi : Nat) (p : Partition) (o : Nat) : Nat → RunOut
  | 0 => ⟨s, [], true⟩
  | n + 1 =>
    let r : ReadOut := match s.place p o with
      | .at c a => s.readCw c (cwAddr a) s.dmc.reqSeq noErrs (some (pi, o))
      | _ => ⟨s, none, .uncorrectable⟩
    let rest := r.st.readRun pi p (o + 64) n
    match r.data with
    | some d => ⟨rest.st, dataBytes d ++ rest.bytes, rest.intact⟩
    | none => ⟨rest.st, List.replicate 64 0#8 ++ rest.bytes, false⟩

/-- `n` bytes of a partition from offset `o`. -/
def State.readBytes (s : State) (pi : Nat) (p : Partition) (o n : Nat) : RunOut :=
  let first := o / 64
  let cws := if n = 0 then 0 else (o + n - 1) / 64 + 1 - first
  let r := s.readRun pi p (64 * first) cws
  ⟨r.st, (r.bytes.drop (o % 64)).take n, r.intact⟩

/-- The bytes [lo, hi) of a codeword. -/
def coverBytes (lo hi : Nat) : BitVec 64 := BitVec.ofNat 64 (2 ^ hi - 2 ^ lo)

/-- Some codeword that `n` bytes of a partition from offset `o` touch cannot be read at present. -/
def State.rangeWaits (s : State) (p : Partition) (o n : Nat) : Bool :=
  n != 0 && (List.range ((o + n - 1) / 64 + 1 - o / 64)).any (fun i =>
    match s.place p (64 * (o / 64 + i)) with
    | .at c a => s.readWaits c (cwAddr a)
    | _ => false)

/-- Bytes written to a partition from offset `o`, codeword by codeword (R235, R287). A codeword that its channel cannot take now waits there. -/
def State.writeRun (s : State) (pi : Nat) (p : Partition) (o : Nat) (l : List Byte) (cls : Nat) (conf : Bool) : Nat → State
  | 0 => s
  | n + 1 =>
    if l = [] then s
    else
      let lo := o % 64
      let k := min l.length (64 - lo)
      let d := bytesData (List.replicate lo 0#8 ++ l.take k ++ List.replicate (64 - lo - k) 0#8)
      let w := coverBytes lo (lo + k)
      let s1 : State := match s.place p (o - lo) with
        | .at c a => s.writeOrWait c (cwAddr a) d w cls conf s.now (some (pi, o - lo))
        | _ => s
      s1.writeRun pi p (o + k) (l.drop k) cls conf n

/-- Bytes written to a partition for a class, with whether its traffic conforms. -/
def State.writeBytes (s : State) (pi : Nat) (p : Partition) (o : Nat) (l : List Byte) (cls : Nat) (conf : Bool := true) : State :=
  s.writeRun pi p o l cls conf (l.length / 64 + 2)

/-- Some codeword of a range lies in a lost slice (R236). -/
def State.anyLost (s : State) (p : Partition) (o n : Nat) : Bool :=
  n != 0 && (List.range ((o + n - 1) / 64 + 1 - o / 64)).any (fun i => s.place p (64 * (o / 64 + i)) == .lost)

end Sys2Proof.Machine
end

