-- ==== Sys2Proof/Machine/Health.lean ====
section
/-! DEFINITION. Sys2Proof/Machine/Health.lean: what the stack does to a channel: refresh (R262, R263), timing sets (R258 to
R261), steering, narrowing and retirement (R319 to R322), repair (R314 to R318), legs that end early (R309, R313) and
power of retired rails (R363). -/
namespace Sys2Proof.Machine

/-! ### Refresh (R262, R263) -/

/-- Every open row of a channel precharged. -/
def State.prechargeAll (s : State) (c : Nat) : State :=
  if (s.chan c).openRows = [] then s
  else
    let s1 := s.command c (s.plainCmd 4 0)
    s1.setChan c { s1.chan c with openRows := [] }

/-- All-bank refreshes issued on a channel with `owed` refreshes owed, its open rows precharged first; each counts as issued when its
parity window has passed (R266). -/
def State.refreshed (s : State) (c n owed : Nat) : State :=
  if n = 0 then s
  else (List.range n).foldl (fun (t : State) i =>
    let o : Option Nat := some (owed - i)
    t.command c { t.plainCmd 5 0 with owes := o }) (s.prechargeAll c)

/-- `n` of the owed refreshes issued; the one issued at OWED = 8 is forced (R262, R275). -/
def State.issueRefreshes (s : State) (c n : Nat) : State :=
  let owed := (s.chan c).owed
  let s1 := (s.setChan c { s.chan c with owed := owed - n }).refreshed c n owed
  if owed = 8 ∧ n ≠ 0 then (s1.satInc (Reg.DMC_REF_FORCED c)).event (Reg.DMC_EVENTS c) Fld.DMC_EVENTS_REF_FORCED else s1

/-- Every owed refresh issued. -/
def State.issueOwed (s : State) (c : Nat) : State := s.issueRefreshes c (s.chan c).owed

/-- The refreshes forced at level 1 (R262): every one owed while postponement is not in effect, one at OWED = 8 while it is; none on a
channel that takes no commands, in a transit or held. -/
def State.forceRefresh (s : State) (c : Nat) : State :=
  let x := s.chan c
  if s.inTransit || x.held || x.sr then s
  else if !x.postpone then s.issueOwed c
  else if x.owed = 8 then s.issueRefreshes c 1
  else s

/-- The fill of the ingest queue in percent of its size, 0 where it has none (R174). -/
def State.ingestFill (s : State) : Nat :=
  let size := s.rdN Reg.QOS_IQ_SIZE * 4096
  if size = 0 then 0 else s.qFill * 3200 / size

/-- The ingest queue holds a record of a class's folding sources, and what it folds into is bound for the channel (R174): the
channel belongs to the CAD partition. -/
def State.ingestBound (s : State) (c n : Nat) : Bool :=
  s.queuedRecords.any (fun i => s.srcMode i != 1 && s.srcClass i == n) && s.cfg.parts.any (fun p => p.2.pers == 3 && bitOf p.2.chmask c)

/-- A codeword of an open capture block that will hold a record of a class lies on a channel (R93, R174): record i fills the 32 bytes
behind those of the header and the i records before it. -/
def State.blockBound (s : State) (c n : Nat) (e : Nat × CapLog) : Bool :=
  match Tab.look s.cfg.parts e.1 with
  | none => false
  | some p => (e.2.recs.zip (List.range e.2.recs.length)).any (fun r => s.srcClass (recSource r.1) == n &&
      (match s.place p (e.2.wptr + (r.2 + 1) / 2 * 64) with
       | .at ch _ => ch == c
       | _ => false))

/-- The capture reservoir of a class holds data bound for a channel (R174): a write that waits for it, or a record of an open capture
block. -/
def State.captureBound (s : State) (c n : Nat) : Bool :=
  ((s.chan c).wq ++ (s.chan c).arb).any (fun q => q.op.waitsWrite && q.cls == n) || s.cad.caps.any (s.blockBound c n)

/-- The fill of a capture reservoir in percent of its size, 0 where it has none. -/
def State.capPercent (s : State) (n : Nat) : Nat := if s.capSize n = 0 then 0 else s.capFill n * 100 / s.capSize n

/-- The RT-CAPTURE classes. -/
def State.captureClasses (s : State) : List Nat := (List.range 32).filter (fun n => s.classType n == 2)

/-- The greatest fill, in percent, of the buffers that hold data of some classes bound for a channel (R174). -/
def State.boundFill (s : State) (c : Nat) (l : List Nat) : Nat :=
  l.foldl (fun m n =>
    max m (max (if s.ingestBound c n then s.ingestFill else 0) (if s.captureBound c n then s.capPercent n else 0))) 0

/-- Postponement on a channel follows the fill (R174, R262): it begins at 50 % for an in-force class, and when the fill falls below
25 % every owed refresh is issued. -/
def State.postponeUpdate (s : State) (c : Nat) : State :=
  let x := s.chan c
  if x.postpone && decide (s.boundFill c s.captureClasses < 25) then (s.setChan c { x with postpone := false }).forceRefresh c
  else if !x.postpone && decide (50 ≤ s.boundFill c (s.captureClasses.filter s.inForce)) then s.setChan c { x with postpone := true }
  else s

/-- Postponement follows the fills on every channel: it may begin where an RT-CAPTURE class stands, and end where it is in effect. -/
def State.postponeAll (s : State) : State :=
  if s.captureClasses.isEmpty && s.dmc.chans.all (fun e => !e.2.postpone) then s
  else (List.range 32).foldl (fun (t : State) c => t.postponeUpdate c) s

/-- Commands of a channel whose parity windows have passed, by a test: writes leave the write queue, and refreshes count as issued
(R255, R265, R266). -/
def State.settleBy (s : State) (c : Nat) (past : DramCmd → Bool) : State :=
  let x := s.chan c
  let gone (q : DmcReq) : Bool := match q.op with
    | .sent n _ _ => (x.retry.reverse[x.issued - 1 - n]?).all past
    | _ => false
  let clear (k : DramCmd) : DramCmd := if past k then { k with owes := none } else k
  (x.retry.filter past).foldl (fun (t : State) k => t.countRefresh c k)
    (s.setChan c { x with wq := x.wq.filter (fun q => !gone q), retry := x.retry.map clear })

/-- A channel enters self-refresh: open rows precharged, owed refreshes issued, PULLED 0 (R263, R268, R270, R273); the parity windows
pass before it does. -/
def State.enterSr (s : State) (c : Nat) : State :=
  let s1 := s.issueOwed c
  let s2 := (s1.prechargeAll c).settleBy c (fun _ => true)
  s2.setChan c { s2.chan c with pulled := 0, sr := true, srAt := if (s2.chan c).sr then (s2.chan c).srAt else s.now }

/-- A channel leaves self-refresh with OWED and PULLED 0 (R263); the ages of its merge entries stood still (R292). -/
def State.exitSr (s : State) (c : Nat) : State :=
  let x := s.chan c
  let m : List MergeEntry := if x.sr then x.merge.map (fun e => { e with t := e.t + (s.now - x.srAt) }) else x.merge
  s.setChan c { x with sr := false, owed := 0, pulled := 0, retry := [], merge := m }

/-- An operation done on every channel that is brought up and not retired. -/
def State.liveChans (s : State) : List Nat :=
  (List.range 32).filter (fun c => (s.chan c).on && !s.retired c)

/-- The refresh multiplier code of a band: 0 1×, 1 2×, 2 4× (R351). -/
def refMul (band : Nat) : Nat := if band ≤ 2 then 0 else if band ≤ 4 then 1 else 2

/-- A channel at a change of refresh multiplier (R263): its owed refreshes are issued, and a rise sets PULLED to 0. -/
def State.multiplierStep (s : State) (old new c : Nat) : State :=
  let s1 := if s.inTransit || (s.chan c).sr then s else s.issueOwed c
  if refMul old < refMul new then s1.setChan c { s1.chan c with pulled := 0 } else s1

/-! ### Timing sets (R258 to R261) -/

/-- DCK period of a point in ps (R258). -/
def dckPs (point : Nat) : Nat := [400, 500, 625, 1000].getD point 1000

/-- The point at which the clocks run: that of a transit from its step 7 on (R268). -/
def State.clockPoint (s : State) : Nat :=
  match s.dmc.move with
  | some m => if m.step = 7 then m.point else s.dmc.point
  | none => s.dmc.point

/-- The parity window of a command is open, to within the SCLK tick (R265): 12 DCK cycles. -/
def State.inWindow (s : State) (k : DramCmd) : Bool := decide ((s.now - k.at_) * 3200 ≤ 12 * dckPs s.clockPoint + 3200)

/-- The commands of every channel whose parity windows have passed. -/
def State.settleAll (s : State) : State :=
  (List.range 32).foldl (fun (t : State) c =>
    if (t.chan c).wq.any (fun q => q.op.isSent) || (t.chan c).retry.any (fun k => k.owes.isSome) then
      t.settleBy c (fun k => !t.inWindow k)
    else t) s

/-- A time in ps, scaled by a factor in hundredths, in DCK cycles rounded up (R258, R259). -/
def cycles (point ps factor : Nat) : Nat := ceilDiv (ps * factor) (100 * dckPs point)

/-- The factors of a band in hundredths: tRCD and tRP, tRAS, CL, tWR (R259). -/
def bandFactors (band : Nat) : Nat × Nat × Nat × Nat :=
  if band = 0 then (110, 110, 110, 100)
  else if band = 4 then (110, 100, 100, 110)
  else if band = 5 then (120, 120, 100, 120)
  else (100, 100, 100, 100)

/-- Word `i` of a timing set, DMC_TIM_ACTi or DMC_TIM_SHDi (R258, R260, R277). -/
def timWord (point band : Nat) (half : Bool) (i : Nat) : Nat :=
  let f := bandFactors band
  let rcd := cycles point 14000 f.1
  let ras := cycles point 28000 f.2.1
  match i with
  | 0 => rcd * 2 ^ 24 + rcd * 2 ^ 16 + ras * 2 ^ 8 + (ras + rcd)
  | 1 => cycles point 16000 f.2.2.1 * 2 ^ 24 + cycles point 12000 100 * 2 ^ 16 + cycles point 15000 f.2.2.2 * 2 ^ 8 +
      cycles point 5000 100
  | 2 => cycles point 2000 100 * 2 ^ 24 + cycles point 4000 100 * 2 ^ 16 + cycles point 12000 100 * 2 ^ 8 +
      (if half then 8 else max 4 (cycles point 1600 100))
  | 3 => cycles point 2500 100 * 2 ^ 24 + cycles point 7500 100 * 2 ^ 16 + (if half then 4 else 2) * 2 ^ 8
  | 4 => cycles point (4000000 / 2 ^ refMul band) 100 * 2 ^ 16 + cycles point 140000 100
  | _ => cycles point 150000 100 * 2 ^ 16

/-- The shadow set of a channel computed for a point and a band (R261). -/
def State.setShadowTim (s : State) (c point band : Nat) : State :=
  (List.range 6).foldl (fun t i => t.wrN (Reg.DMC_TIM_SHD c i) (timWord point band ((s.chan c).width == .half) i)) s

/-- The shadow set copied to the active set (R261, R268). -/
def State.copyTim (s : State) (c : Nat) : State :=
  (List.range 6).foldl (fun t i => t.wr (Reg.DMC_TIM_ACT c i) (t.rd (Reg.DMC_TIM_SHD c i))) s

/-- A channel runs with the timings of a point and a band. -/
def State.retime (s : State) (c point band : Nat) : State := (s.setShadowTim c point band).copyTim c

/-! ### Legs (R309, R312, R313) -/

/-- The running leg of a block. -/
def State.legOf (s : State) (b : Nat) : Option Leg := s.bst.running.find? (fun l => l.block == b)

/-- A leg stops running: its unit or engine comes back, its steered lane returns, and the last block and time are
recorded (R303, R334). A CHK leg's check-logic copies change roles. -/
def State.legStops (s : State) (l : Leg) : State :=
  let u := blockUnit l.block
  let s1 := { s with bst := { s.bst with running := s.bst.running.filter (fun x => x.block != l.block) } }
  let s2 := match blockKind l.block with
    | 3 => match l.back with
      | some i => s1.setChan u { s1.chan u with steer := (s1.chan u).steer.set i (blockIndex l.block) }
      | none => s1
    | 4 => match l.back with
      | some i => s1.setChan u { s1.chan u with caSteer := (s1.chan u).caSteer.set i (blockIndex l.block) }
      | none => s1
    | 5 => s1.setChan u { s1.chan u with chkCopy := 1 - (s1.chan u).chkCopy }
    | 7 => s1.setVxu u { s1.vxuU u with out := false }
    | 8 => s1.setEngine u { s1.engine u with leg := false }
    | _ => s1
  (s2.wrN Reg.BST_LAST_LEG l.block).wr64 Reg.BST_LAST_TIME s2.now

/-- The codeword operations of a leg's tally (R303). -/
def legOps (b : Nat) : Nat :=
  match blockKind b with
  | 1 => 352
  | 2 => 256
  | _ => 0

/-- The traffic of a leg's codeword operations, which SC0 carries (R153, R155). -/
def State.legTraffic (s : State) (b n : Nat) : State := if legOps b = 0 then s else s.served 0 (64 * n) true

/-- The traffic of a leg that ends early: how far it was is free. -/
def State.legPart (s : State) (b : Nat) : State := s.draw.legTraffic b (Config.freeNat s.fresh % (legOps b + 1))

/-- A block's run of outcomes: a channel's for kinds 1 to 5, otherwise the base die's. -/
def State.incRun (s : State) (b : Nat) : Nat :=
  if blockKind b ≤ 5 then Tab.lookD (s.chan (blockUnit b)).incRun b 0 else Tab.lookD s.bst.incRun b 0

/-- The run of INCOMPLETE outcomes set. -/
def State.setIncRun (s : State) (b n : Nat) : State :=
  let u := blockUnit b
  let put (t : Tab Nat) : Tab Nat := if n = 0 then Tab.del t b else Tab.put t b n
  if blockKind b ≤ 5 then s.setChan u { s.chan u with incRun := put (s.chan u).incRun }
  else { s with bst := { s.bst with incRun := put s.bst.incRun } }

/-- The run of preemptions of a block. -/
def State.preRun (s : State) (b : Nat) : Nat :=
  if blockKind b ≤ 5 then Tab.lookD (s.chan (blockUnit b)).preRun b 0 else Tab.lookD s.bst.preRun b 0

/-- The run of preemptions set. -/
def State.setPreRun (s : State) (b n : Nat) : State :=
  let u := blockUnit b
  let put (t : Tab Nat) : Tab Nat := if n = 0 then Tab.del t b else Tab.put t b n
  if blockKind b ≤ 5 then s.setChan u { s.chan u with preRun := put (s.chan u).preRun }
  else { s with bst := { s.bst with preRun := put s.bst.preRun } }

/-- A leg runs again as the next of its schedule (R309). -/
def State.rerunLeg (s : State) (b : Nat) : State :=
  let u := blockUnit b
  if s.bst.fulltest then { s with bst := { s.bst with ftRerun := s.bst.ftRerun ++ [b] } }
  else if blockKind b ≤ 4 then s.setChan u { s.chan u with rerun := (s.chan u).rerun ++ [b] }
  else { s with bst := { s.bst with baseQueue := s.bst.baseQueue ++ [b] } }

/-- A round of a channel's traverse ends with the leg of its last row (R305, R314). -/
def State.rowDone (s : State) (b : Nat) : State :=
  let u := blockUnit b
  if blockKind b = 1 ∧ blockIndex b = 1572863 ∧ (s.chan u).lastRow then
    (s.setChan u { s.chan u with colFails := [], passOver := [], lastRow := false }).satInc (Reg.BST_C_ROUNDS u)
  else s

/-- A block passed over until the next round (R310), and left INCOMPLETE by a full-stack self-test that runs. -/
def State.passBlock (s : State) (b : Nat) : State :=
  let u := blockUnit b
  let s1 := { s with bst := { s.bst with ftInc := s.bst.ftInc + b2n s.bst.fulltest } }
  if blockKind b ≤ 4 then (s1.setChan u { s1.chan u with passOver := (s1.chan u).passOver ++ [b] }).rowDone b
  else { s1 with bst := { s1.bst with passOver := s1.bst.passOver ++ [b] } }

/-- An INCOMPLETE outcome (R309, R310): counted, run again, and LEG_STUCK at the eighth in a row. It ends the block's run of
preemptions (R312). -/
def State.legCut (s : State) (l : Leg) : State :=
  let s1 := (((s.legStops l).legPart l.block).setPreRun l.block 0).satInc Reg.BST_INCOMPLETE
  let s2 := { s1 with bst := { s1.bst with lastOut := 3 } }
  let n := s2.incRun l.block + 1
  if n < 8 then (s2.setIncRun l.block n).rerunLeg l.block
  else (((s2.setIncRun l.block 0).event Reg.BST_EVENTS Fld.BST_EVENTS_LEG_STUCK).detect 35 l.block 0).passBlock l.block

/-- Running legs of a channel's data/check lanes, rows and spares end INCOMPLETE (R313): all its DRAM-side legs and CHK
when it is retired, ROW and SPARE legs alone when a lane is steered. -/
def State.endLegs (s : State) (c : Nat) (kinds : List Nat) : State :=
  (s.bst.running.filter (fun l => kinds.contains (blockKind l.block) && blockUnit l.block == c)).foldl
    (fun t l => t.legCut l) s

/-- The lane of a TSVL or TSVC leg that stopped is steered back, which ends its channel's ROW and SPARE legs (R313). -/
def State.steeredBack (s : State) (l : Leg) : State := if l.back.isSome then s.endLegs (blockUnit l.block) [1, 2] else s

/-- A leg ends INCOMPLETE (R309). -/
def State.legIncomplete (s : State) (l : Leg) : State := (s.legCut l).steeredBack l

/-- Every running DRAM-side leg aborted and its row restored, as before a transit, a HOLD entry or a warm load. -/
def State.abortDramLegs (s : State) : State :=
  (s.bst.running.filter (fun l => blockKind l.block ≤ 4)).foldl (fun t l => t.legCut l) s

/-- A preempted leg (R312): INCOMPLETE, counted as a preemption and rescheduled. -/
def State.preempt (s : State) (l : Leg) : State :=
  let n := s.preRun l.block + 1
  let s1 := ((((s.legStops l).legPart l.block).satInc Reg.BST_INCOMPLETE).satInc Reg.BST_PREEMPT).setPreRun l.block n
  ({ s1 with bst := { s1.bst with lastOut := 4 } }).rerunLeg l.block

/-- A request that aborts a ROW leg (R312): of an RT-STREAM or RT-CAPTURE class, or of a LAT class at level 2. -/
def State.realTime (s : State) (cls age : Nat) (conforming : Bool) : Bool :=
  s.classType cls == 1 || s.classType cls == 2 || (s.classType cls == 3 && s.level cls age conforming == 2)

/-- A real-time request to a codeword aborts the ROW leg on its bank, if that one is preemptible (R312). -/
def State.preemptBank (s : State) (c a : Nat) : State :=
  match s.bankLeg c a with
  | none => s
  | some l => if l.preemptible then s.preempt l else s

/-- Real-time requests for `n` codewords of a partition from the codeword offset `o` on. -/
def State.preemptCws (s : State) (p : Partition) (o : Nat) : Nat → State
  | 0 => s
  | n + 1 =>
    let s1 := match s.place p o with
      | .at c a => s.preemptBank c (cwAddr a)
      | _ => s
    s1.preemptCws p (o + 64) n

/-- Requests for `n` bytes of a partition from offset `o` reach the banks; a request that is not real-time finds its leg
ended. -/
def State.reachBanks (s : State) (rt : Bool) (p : Partition) (o n : Nat) : State :=
  if rt && n != 0 then s.preemptCws p (o / 64 * 64) ((o + n - 1) / 64 + 1 - o / 64) else s

/-! ### Rails of retired die groups (R363) -/

/-- A rail turned off for retirement. -/
def State.railOff (s : State) (r : Nat) : State :=
  if bitOf s.pwr.railOff r then s
  else (({ s with pwr := { s.pwr with
      railOff := s.pwr.railOff ||| 2 ^ r, dom := Tab.put s.pwr.dom (14 + r) .off } }).event
    Reg.PWR_EVENTS Fld.PWR_EVENTS_RAIL_OFF).alert 0x55 0xFF r 0 0 0

/-- All 8 channels of a die group are retired and none awaits salvage. -/
def State.groupGone (s : State) (g : Nat) : Bool :=
  (List.range 8).all (fun i => s.retired (8 * g + i) && !s.cfg.retQueue.contains (8 * g + i) &&
    (match s.cfg.salvage with
     | some v => v.ch != 8 * g + i
     | none => true))

/-- The rails that retirement leaves without a channel are turned off: a core rail with its group, a pump rail with both
of its groups. -/
def State.railsOff (s : State) (g : Nat) : State :=
  if s.groupGone g then
    let s1 := s.railOff g
    if s1.groupGone (g / 2 * 2) && s1.groupGone (g / 2 * 2 + 1) then s1.railOff (4 + g / 2) else s1
  else s

/-! ### Steering, narrowing, retirement (R319 to R322) -/

/-- A channel is retired (R322); one retired during a cold load keeps cause 5 (R326). -/
def State.retireNow (s : State) (c why : Nat) : State :=
  if s.retired c then s
  else
    let cause : Nat := if s.mode = .load then 5 else why
    let s1 := s.endLegs c [1, 2, 3, 4, 5]
    let x := s1.chan c
    let s2 := s1.setChan c { x with
      width := .retired, cause := cause, openRows := [], held := false, oot := [], rerun := [], colCopy := [] }
    let s3 := { s2 with cfg := { s2.cfg with retQueue := s2.cfg.retQueue ++ [c] } }
    (((((s3.event Reg.BST_EVENTS Fld.BST_EVENTS_RETIRED).detect 39 c cause).alert 0x63 0xFF c cause 0 0).capacityChange
      ).capUpdate).railsOff (dieGroup c)

/-- A change of width put off to the end of the transit that runs (R274). -/
def State.putOff (s : State) (x : Later) : State :=
  { s with dmc := { s.dmc with later := if s.dmc.later.contains x then s.dmc.later else s.dmc.later ++ [x] } }

/-- A channel is retired (R322), or will be when the transit that runs ends (R274). -/
def State.retire (s : State) (c why : Nat) : State := if s.inTransit then s.putOff (.retire c why) else s.retireNow c why

/-- A die group whose clock bundles are both lost is retired with cause 4, and its core dies fall back to their own self-refresh (R322),
at the end of a transit that runs (R274). -/
def State.retireGroup (s : State) (g : Nat) : State :=
  if s.bst.dgRetired.contains g then s
  else if s.inTransit then s.putOff (.group g)
  else
    let s0 := (List.range 8).foldl (fun t i => t.retireNow (8 * g + i) 4) s
    let s1 := (List.range 8).foldl (fun (t : State) i =>
      let x := t.chan (8 * g + i)
      t.setChan (8 * g + i) { x with sr := true, srAt := if x.sr then x.srAt else t.now }) s0
    (({ s1 with bst := { s1.bst with dgRetired := s1.bst.dgRetired ++ [g] } }).alert 0x64 0xFF g 0 0 0).capUpdate

/-- Write-clock alignment and read-eye centring of some lanes of a channel (R321): their read and write delays take the values found, which
are free. -/
def State.centreEyes (s : State) (c : Nat) (lanes : List Nat) : State :=
  let x := s.chan c
  let ids := lanes ++ lanes.map (fun l => 128 + l)
  let setting : Tab Nat := (ids.zip (List.range ids.length)).foldl (fun (t : Tab Nat) e =>
    Tab.put t e.1 ((Config.freeList s.fresh).getD e.2 0 % 256)) x.setting
  s.draw.setChan c { x with setting := setting, target := x.target.filter (fun e => !ids.contains e.1) }

/-- A channel is narrowed to the 36 lowest-numbered good lanes (R321): rows precharged, half-width timings, the lanes' eyes centred anew,
and a capacity change. -/
def State.narrowNow (s : State) (c : Nat) : State :=
  let s1 := s.endLegs c [1, 2, 3]
  let x := s1.chan c
  let s2 := (s1.setChan c { x with width := .half, steer := x.goodData.take 36, openRows := [] }).centreEyes c (x.goodData.take 36)
  ((((s2.retime c s2.clockPoint s2.thm.band).event Reg.BST_EVENTS Fld.BST_EVENTS_NARROWED).alert 0x62 0xFF c
    x.goodData.length 0 0).capacityChange).capUpdate

/-- A channel is narrowed, or will be when the transit that runs ends (R274). -/
def State.narrow (s : State) (c : Nat) : State := if s.inTransit then s.putOff (.narrow c) else s.narrowNow c

/-- The changes of width that a transit put off (R274): a channel that is retired meanwhile is not narrowed. -/
def State.doLater (s : State) : State :=
  s.dmc.later.foldl (fun (t : State) x =>
    match x with
    | .narrow c => if t.retired c then t else t.narrowNow c
    | .retire c why => t.retireNow c why
    | .group g => t.retireGroup g) { s with dmc := { s.dmc with later := [] } }

/-- A lane steered to a spare (R319): LANE_SPARED. -/
def State.laneSpared (s : State) (c kind lane spare free : Nat) : State :=
  (s.event Reg.BST_EVENTS Fld.BST_EVENTS_SPARED).alert 0x61 0xFF c (256 * kind + lane) spare free

/-- The lanes of a channel that a running leg of a kind tests: no traffic is steered onto them. -/
def State.legLanes (s : State) (c kind : Nat) : List Nat :=
  (s.bst.running.filter (fun l => blockKind l.block == kind && blockUnit l.block == c)).map (fun l => blockIndex l.block)

/-- The free data/check spares that no leg tests. -/
def State.spareData (s : State) (c : Nat) : List Nat := (s.chan c).freeData.filter (fun l => !(s.legLanes c 3).contains l)

/-- The free command/address spares that no leg tests. -/
def State.spareCa (s : State) (c : Nat) : List Nat := (s.chan c).freeCa.filter (fun l => !(s.legLanes c 4).contains l)

/-- A physical data/check lane fails (R319, R320). With every free spare under a leg, those legs end first. -/
def State.failData (s : State) (c lane : Nat) : State :=
  let x0 := s.chan c
  if x0.width = .retired ∨ x0.dataFail.contains lane ∨ 78 ≤ lane then s
  else
    let s0 := (s.setChan c { x0 with dataFail := x0.dataFail ++ [lane] }).endLegs c [1, 2]
    let s1 := if s0.spareData c = [] then s0.endLegs c [3] else s0
    let x := s1.chan c
    if x.goodData.length < 36 then s1.retire c 1
    else if !x.steer.contains lane then s1.capUpdate
    else match s1.spareData c with
      | f :: _ =>
        let s2 := s1.setChan c { x with steer := x.steer.map (fun l => if l = lane then f else l) }
        (s2.laneSpared c 0 lane f (s2.chan c).freeData.length).capUpdate
      | [] => s1.narrow c

/-- A physical command/address lane fails (R319), as a data/check lane does. -/
def State.failCa (s : State) (c lane : Nat) : State :=
  let x0 := s.chan c
  if x0.width = .retired ∨ x0.caFail.contains lane ∨ 16 ≤ lane then s
  else
    let s0 := (s.setChan c { x0 with caFail := x0.caFail ++ [lane] }).endLegs c [1, 2]
    let s1 := if s0.spareCa c = [] then s0.endLegs c [4] else s0
    let x := s1.chan c
    if !x.caSteer.contains lane then s1.capUpdate
    else match s1.spareCa c with
      | f :: _ =>
        let s2 := s1.setChan c { x with caSteer := x.caSteer.map (fun l => if l = lane then f else l) }
        (s2.laneSpared c 1 lane f (s2.chan c).freeCa.length).capUpdate
      | [] => s1.retire c 2

/-- A clock bundle is lost (R320, R322); in COLD the stack's bundles are not monitored (R376). -/
def State.clkLost (s : State) (g b : Nat) : State :=
  if s.mode = .cold ∨ s.bst.clkLost.contains (2 * g + b) then s
  else
    let s1 := ({ s with bst := { s.bst with clkLost := s.bst.clkLost ++ [2 * g + b] } }).detect 38 g b
    let s2 := s1.alert 0x68 0xFF g b 0 0
    if s2.bst.clkLost.contains (2 * g + (1 - b)) then s2.retireGroup g else s2

/-! ### Row and column repair (R314 to R318) -/

/-- The repair log is full or takes the entry (R317, R318). -/
def State.logRepair (s : State) (entry : Nat) : State :=
  let s1 := if s.bst.log.length < 8192 then
      ({ s with bst := { s.bst with log := s.bst.log ++ [entry] } }).ledgerWrote [.repair s.bst.log.length]
    else s.detect 37 entry 0
  let s2 := { s1 with bst := { s1.bst with ftRepairs := s1.bst.ftRepairs + b2n s1.bst.fulltest } }
  (s2.event Reg.BST_EVENTS Fld.BST_EVENTS_REPAIR).alert 0x66 0xFF entry 0 0 0

/-- A codeword copied into a spare (R315): read and reported as any read is (R285, R296), then written corrected, or as poison where
it is poisoned or uncorrectable; nothing is written after a mismatch of the reread. -/
def State.copyCw (s : State) (c a : Nat) : State :=
  let r := s.arrayRead c a noErrs 1 none
  match r.data with
  | some d => r.st.storeCmd c a d []
  | none => if r.cls = .poison then r.st.storeCmd c a 0#512 poisonErr else r.st

/-- The spare rows of a bank that a row may take: neither bad nor in use (R314). -/
def Chan.spareRows (x : Chan) (bank : Nat) : List Nat :=
  (List.range 8).filter (fun i => !x.badSpares.contains (32 * bank + i) &&
    !x.rowRepair.any (fun p => p.1 / 65536 == bank && p.2 == i))

/-- The spare columns of a segment that a column may take. -/
def Chan.spareCols (x : Chan) (bank seg : Nat) : List Nat :=
  (List.range 2).filter (fun i => !x.badSpares.contains (32 * bank + 8 + 2 * seg + i) &&
    !x.colRepair.any (fun p => p.1 / 32 == 32 * bank + seg && p.2 == i) &&
    !x.colCopy.any (fun p => bitsOf p.1 20 16 == bank && bitsOf p.1 15 12 == seg && bitsOf p.1 21 21 == i))

/-- No usable spare is left for a row or a column (R314): reported once. -/
def State.sparesOut (s : State) (c bank row : Nat) : State :=
  let x := s.chan c
  if x.unrepaired.contains (65536 * bank + row) then s
  else (s.setChan c { x with unrepaired := x.unrepaired ++ [65536 * bank + row] }).detect 36 c bank

/-- A row repair (R314, R315, R317); `p` is a[31:11] of the row. A spare row the row already uses is marked bad, and the row stays
on it where no other is left. -/
def State.repairRow (s : State) (c p : Nat) : State :=
  let bank := bankOf (rowAddr p); let row := rowOf (rowAddr p)
  let x0 := s.chan c
  let x := match Tab.look x0.rowRepair (65536 * bank + row) with
    | some i => { x0 with
        badSpares := x0.badSpares.filter (fun y => y != 32 * bank + i) ++ [32 * bank + i] }
    | none => x0
  match x.spareRows bank with
  | [] => (s.setChan c x).sparesOut c bank row
  | i :: _ =>
    let s1 := s.setChan c { x with rowRepair := Tab.put x.rowRepair (65536 * bank + row) i }
    ((List.range 32).foldl (fun t j => t.copyCw c (rowAddr p + 64 * j)) s1).logRepair
      (c * 2 ^ 24 + i * 2 ^ 21 + bank * 2 ^ 16 + row)

/-- A column repair begins (R314, R315), unless one of that column runs: its copy runs in chunks, and the remap follows the last. -/
def State.repairColumn (s : State) (c p col : Nat) : State :=
  let bank := bankOf (rowAddr p); let row := rowOf (rowAddr p); let seg := row / 4096
  let x := s.chan c
  if x.colCopy.any (fun e => bitsOf e.1 20 16 == bank && bitsOf e.1 15 12 == seg && bitsOf e.1 4 0 == col) then s
  else match x.spareCols bank seg with
  | [] => s.sparesOut c bank row
  | i :: _ => s.setChan c { x with
      colCopy := x.colCopy ++ [(2 ^ 29 + c * 2 ^ 24 + i * 2 ^ 21 + bank * 2 ^ 16 + seg * 2 ^ 12 + col, 0)] }

/-- A ROW leg failed (R314): a column repair when its one column already failed in this round, otherwise a row repair. A row that already
uses a spare row takes another in either case. -/
def State.rowFailed (s : State) (c p : Nat) (column : Option Nat) : State :=
  match column with
  | none => s.repairRow c p
  | some col =>
    let key := 1024 * bankOf (rowAddr p) + 32 * (rowOf (rowAddr p) / 4096) + col
    let x := s.chan c
    if x.colFails.contains key then
      (if (Tab.look x.rowRepair (65536 * bankOf (rowAddr p) + rowOf (rowAddr p))).isSome then s.repairRow c p else s).repairColumn c p col
    else (s.setChan c { x with colFails := x.colFails ++ [key] }).repairRow c p

end Sys2Proof.Machine
end

