-- ==== Sys2Proof/Machine/Block.lean ====
section
/-! DEFINITION. Sys2Proof/Machine/Block.lean: the 66-bit blocks of the lanes: control blocks and their CRC (R186, R187), the
lane blocks, the blocks of a packet (R214 to R216), and how stripe blocks spell a packet (R218). -/
namespace Sys2Proof.Machine

/-! ### Control blocks (R186, R187) -/

/-- The CRC of a control block (R186). -/
def blockCrc (type body : Nat) : Nat :=
  crc16 (BitVec.ofNat 8 type :: (List.range 5).map (fun i => BitVec.ofNat 8 (body >>> (48 - 8 * i))))

/-- A body with its CRC in bits [15:0]. -/
def sealed (type body : Nat) : Nat := body / 65536 * 65536 + blockCrc type body

/-- The CRC of a body holds. -/
def crcHolds (type body : Nat) : Bool := blockCrc type body == body % 65536

/-- A control block: sync header 0b10, its type in bits [63:56] and its body below. -/
def ctlBlock (type body : Nat) : RxBlock := ⟨2#2, BitVec.ofNat 64 (type * 2 ^ 56 + body)⟩

/-- The types of the framing blocks of R214. -/
def framingType (type : Nat) : Bool := (decide (0x80 ≤ type) && decide (type ≤ 0x86)) || (decide (0x90 ≤ type) && decide (type ≤ 0x92))

end Sys2Proof.Machine

namespace Sys2Proof
open Sys2Proof.Machine

/-! ### A block as a receiver takes it (R185, R186, R189, R214) -/

/-- The type of a control block. -/
def RxBlock.type (b : RxBlock) : Nat := bitsOf b.bits.toNat 63 56

/-- The body of a control block. -/
def RxBlock.body (b : RxBlock) : Nat := bitsOf b.bits.toNat 55 0

/-- A control block of a type whose CRC holds. -/
def RxBlock.isCtl (b : RxBlock) (type : Nat) : Bool := b.sync == 2#2 && b.type == type && crcHolds type b.body

/-- The control block is kept: its type is listed and its CRC, where it has one, holds. -/
def RxBlock.controlKept (b : RxBlock) : Bool :=
  b.type == 0x2D ||
    ((b.type == 0x4B || b.type == 0x55 || b.type == 0x66 || b.type == 0x78 || framingType b.type) && crcHolds b.type b.body)

/-- A block is discarded (R185, R186, R214). -/
def RxBlock.discarded (b : RxBlock) : Bool := b.sync == 0#2 || b.sync == 3#2 || (b.sync == 2#2 && !b.controlKept)

/-- A lane block (R187): the receiver deletes it before destriping. -/
def RxBlock.isLane (b : RxBlock) : Bool := b.sync == 2#2 && !framingType b.type

/-- The position of a block as the packet layer sees it: a discarded block is an error slot (R218). -/
def RxBlock.slot (b : RxBlock) : Option RxBlock := if b.discarded then none else some b

/-- A START block. -/
def RxBlock.isStart (b : RxBlock) : Bool := b.sync == 2#2 && decide (0x80 ≤ b.type) && decide (b.type ≤ 0x86)

/-- How many blocks stand between a START block and its END: LEN, and four more for the tag. -/
def RxBlock.inner (b : RxBlock) : Nat := bitsOf b.body 31 25 + (if bitOf b.body 24 then 4 else 0)

end Sys2Proof

namespace Sys2Proof.Machine

/-! ### Lane blocks (R187) -/

/-- A CAPX block as the stack sends it on a lane (R187, R196). -/
def capxBody (k l : Nat) : Nat := sealed 0x55 (0x1648 * 2 ^ 40 + k * 2 ^ 36 + l * 2 ^ 30 + 1 * 2 ^ 26)

/-- A LANE_MARKER (R187). -/
def markerBody (k l epoch stripe : Nat) : Nat :=
  sealed 0x4B (k * 2 ^ 52 + l * 2 ^ 46 + epoch % 64 * 2 ^ 40 + stripe % 65536 * 2 ^ 24)

/-- An EPOCH block (R187): kind 0 DROP, 1 ANNOUNCE, 2 ACK, 3 COMMIT. -/
def epochBody (kind mask epoch stripe : Nat) : Nat :=
  sealed 0x66 (mask % 65536 * 2 ^ 40 + epoch % 64 * 2 ^ 34 + stripe % 65536 * 2 ^ 18 + kind * 2 ^ 16)

/-- A SAFE block (R187): the fault source and GTIME[31:0] of its detection. -/
def safeBody (source gtime : Nat) : Nat := sealed 0x78 (source % 128 * 2 ^ 48 + gtime % 2 ^ 32 * 2 ^ 16)

/-- A valid CAPX block: its CRC holds and its reserved bits are zero. -/
def capxValid (b : Nat) : Bool := crcHolds 0x55 b && bitsOf b 25 16 == 0

/-- A valid EPOCH block of a kind. -/
def epochValid (kind b : Nat) : Bool := crcHolds 0x66 b && bitsOf b 17 16 == kind

/-- The first block of a codeword is a valid LANE_MARKER that names the lane (R188). -/
def markerFor (k l : Nat) : List RxBlock → Bool
  | [] => false
  | b :: _ => b.isCtl 0x4B && bitsOf b.body 23 16 == 0 && bitsOf b.body 55 52 == k && bitsOf b.body 51 46 == l

/-! ### The blocks of a packet (R214 to R216) -/

/-- Bits [55:16] of a packet's START body: LSEQ, LABEL, LEN, TAGGED and a zero byte. -/
def startBody (p : Packet) : Nat :=
  p.lseq * 2 ^ 24 + p.label * 2 ^ 16 + p.payload.length / 8 * 2 ^ 9 + b2n p.tagged * 2 ^ 8

/-- PCRC: over the five bytes of START body bits [55:16], most significant first, and every payload and tag byte. -/
def pcrcOf (start : Nat) (bytes : List Byte) : Nat := crc32 ((leBytes 5 start).reverse ++ bytes)

/-- PCRC of a packet. -/
def pcrc (p : Packet) : Nat := pcrcOf (startBody p) (p.payload ++ p.tag)

/-- What START, the data blocks and END can spell: a type of 0 to 6, fields of their widths, whole 8-byte blocks and a tag
of 32 bytes exactly when TAGGED is 1 (R214 to R216). -/
def packetFits (p : Packet) : Bool :=
  decide (p.type ≤ 6) && decide (p.lseq < 65536) && decide (p.label < 256) && p.payload.length % 8 == 0 &&
    decide (p.payload.length / 8 < 128) && p.tag.length == (if p.tagged then 32 else 0)

/-- A data block: byte k of its eight at bits [8k + 7 : 8k]. -/
def dataBlock (l : List Byte) : RxBlock := ⟨1#2, BitVec.ofNat 64 (leNat l)⟩

/-- The START block of a packet. -/
def startBlock (p : Packet) : RxBlock := ctlBlock (0x80 + p.type) (sealed (0x80 + p.type) (startBody p * 65536))

/-- The END block of a packet. -/
def endBlock (p : Packet) : RxBlock := ctlBlock 0x90 (sealed 0x90 (pcrc p * 2 ^ 24))

/-- The blocks of a packet in their order: START, payload and tag, END. -/
def packetBlocks (p : Packet) : List RxBlock :=
  startBlock p :: (chunks 8 160 (p.payload ++ p.tag)).map dataBlock ++ [endBlock p]

/-- How many stripe blocks a packet takes. -/
def packetLen (p : Packet) : Nat := 2 + ceilDiv (p.payload.length + p.tag.length) 8

/-- An ACK block: the last LSEQ accepted. -/
def ackBlock (x : Nat) : RxBlock := ctlBlock 0x91 (sealed 0x91 (x % 65536 * 2 ^ 40))

/-- A NAK block: the LSEQ expected next. -/
def nakBlock (x : Nat) : RxBlock := ctlBlock 0x92 (sealed 0x92 (x % 65536 * 2 ^ 40))

/-! ### Reading a packet (R216, R218) -/

/-- The bytes of data blocks; none when one of them is an error slot or a control block. -/
def blockBytes : List (Option RxBlock) → Option (List Byte)
  | [] => some []
  | some b :: r => if b.sync = 1#2 then (blockBytes r).map (fun l => leBytes 8 b.bits.toNat ++ l) else none
  | none :: _ => none

/-- What the blocks of a packet spell, with whether a reserved field of START or END is non-zero: a START, its data blocks, the
END in its place and the PCRC; none when one of them fails (R218). -/
def readPacket : List (Option RxBlock) → Option (Packet × Bool)
  | some h :: rest =>
    match blockBytes (rest.take h.inner), rest.drop h.inner with
    | some bytes, [some e] =>
      if h.isStart && e.isCtl 0x90 && pcrcOf (h.body / 65536) bytes == bitsOf e.body 55 24 then
        let n := 8 * bitsOf h.body 31 25
        some (⟨bitsOf h.body 55 40, h.type - 0x80, bitsOf h.body 39 32, bitOf h.body 24, bytes.take n, bytes.drop n⟩,
          bitsOf h.body 23 16 != 0 || bitsOf e.body 23 16 != 0)
      else none
    | _, _ => none
  | _ => none

/-! ### Training frames (R194) -/

/-- A field of a training frame: each bit in 4 symbols, most significant bit first. -/
def trainField (w : Nat) : List Nat :=
  ((List.range 16).reverse).flatMap (fun i => if bitOf w i then [3, 3, 0, 0] else [0, 0, 3, 3])

/-- The symbols of a training frame before its pattern: marker, control, status. -/
def trainHeader (control status : Nat) : List Nat :=
  List.replicate 16 3 ++ List.replicate 16 0 ++ trainField control ++ trainField status

end Sys2Proof.Machine
end

