-- ==== Sys2Proof/Machine/Send.lean ====
section
/-! DEFINITION. Sys2Proof/Machine/Send.lean: sending on a chain: the stripes its blocks take (R192), cost and pools (R217, R226,
R228), the replay buffer (R224), and the order in which waiting packets leave (R161, R219). -/
namespace Sys2Proof.Machine

/-- The credits a packet costs (R226). -/
def pktCost (p : Packet) : Nat := if p.type = 0 then 0 else max 1 (ceilDiv (p.payload.length / 8) 8)

/-- The room a packet takes in the replay buffer: its payload with its tag (R224). -/
def pktSize (p : Packet) : Nat := p.payload.length + p.tag.length

/-- Types whose packets go ahead of every arbitration level (R219): CREDIT, ALERT, CTL responses, BWR completions. -/
def pktAhead (p : Packet) : Bool := p.type == 0 || p.type == 4 || p.type == 5 || p.type == 6

/-- The pool a packet of the stack draws on (R217). -/
def State.txPool (s : State) (p : Packet) : Option Nat :=
  match p.type with
  | 0 => none
  | 1 => some (s.labelClass p.label)
  | 3 => some (s.labelClass p.label)
  | _ => some 32

/-- Credits the stack may still spend of a pool (R228). -/
def ChainPkt.held (x : ChainPkt) (pool : Nat) : Nat :=
  (Tab.lookD x.granted pool 0 + 2 ^ 24 - Tab.lookD x.consumed pool 0) % 2 ^ 24

/-- Credits of a pool consumed. -/
def ChainPkt.spend (x : ChainPkt) (pool : Option Nat) (n : Nat) : ChainPkt :=
  match pool with
  | none => x
  | some p => { x with consumed := Tab.put x.consumed p ((Tab.lookD x.consumed p 0 + n) % 2 ^ 24) }

/-- The pool, where there is one, holds the cost. -/
def ChainPkt.affords (x : ChainPkt) (pool : Option Nat) (n : Nat) : Bool :=
  match pool with
  | none => true
  | some p => decide (n ≤ x.held p)

/-- The replay buffer of a chain direction in bytes: 8 KiB for each configured lane (R224). -/
def State.rbufSize (s : State) (k : Nat) : Nat := 8192 * popcount 64 (s.chainL k).lanes

/-- The LSEQ of the oldest unacknowledged packet; with none, of the next packet. -/
def ChainPkt.oldest (x : ChainPkt) : Nat := (x.replay.head?.map (·.lseq)).getD x.txNext

/-- The replay buffer in use, in bytes. -/
def ChainPkt.rbufUsed (x : ChainPkt) : Nat := (x.replay.map pktSize).sum

/-- A packet of a size finds room (R224). -/
def State.rbufRoom (s : State) (k n : Nat) : Bool :=
  let x := s.chainP k
  decide (x.rbufUsed + n ≤ s.rbufSize k) && decide (x.replay.length < 4096)

/-- What the sending of a packet does to the credits granted: a CTL response returns its request's credits (R229). -/
def ChainPkt.returned (x : ChainPkt) (p : Packet) : ChainPkt :=
  if p.type = 5 then
    { x with given := Tab.put x.given 32 ((Tab.lookD x.given 32 0 + x.ctlOwed.headD 0) % 2 ^ 24), ctlOwed := x.ctlOwed.drop 1 }
  else x

/-- The waiting packets that satisfy a test are not sent; the credits that go with them count as returned. -/
def ChainPkt.unsend (x : ChainPkt) (f : Packet → Bool) : ChainPkt :=
  { (x.waiting.filter (fun w => f w.pkt)).foldl (fun y w => y.returned w.pkt) x with waiting := x.waiting.filter (fun w => !f w.pkt) }

/-! ### Stripes (R192) -/

/-- The stripe and the place in it that `n` stripe blocks lead to on a width: a stripe takes one block from each active lane in ascending
lane index. -/
def placeAfter (w stripe pos n : Nat) : Nat × Nat := ((stripe + (pos + n) / max 1 w) % 4294967296, (pos + n) % max 1 w)

/-- The stripe and the place after `n` more stripe blocks of a chain's transmit direction: from a pending switch stripe on they fill the
lanes of the new mask (R192, R199). -/
def ChainLnk.placed (x : ChainLnk) (n : Nat) : Nat × Nat :=
  let w := popcount 16 x.txMask
  match x.txSwitch with
  | none => placeAfter w x.txStripe x.txPos n
  | some sw =>
    let left := (sw.stripe + 4294967296 - x.txStripe) % 4294967296
    let room := if left < 2147483648 then left * w - x.txPos else 0
    if n < room then placeAfter w x.txStripe x.txPos n
    else if room = 0 then placeAfter (popcount 16 sw.mask) x.txStripe x.txPos n
    else placeAfter (popcount 16 sw.mask) sw.stripe 0 (n - room)

/-- Stripe blocks placed in the stripes of a chain's transmit direction. -/
def State.placeBlocks (s : State) (k n : Nat) : State :=
  let x := s.chainL k
  if x.txMask = 0 then s else s.setChainL k { x with txStripe := (x.placed n).1, txPos := (x.placed n).2 }

/-- A packet put on its chain. -/
def State.emitPacket (s : State) (k : Nat) (p : Packet) (resent : Bool) : State :=
  (s.emit (.packet k p resent (s.chainL k).txStripe (s.chainL k).txPos)).placeBlocks k (packetLen p)

/-- An ACK or NAK block put on its chain. -/
def State.emitBlock (s : State) (k : Nat) (b : RxBlock) : State :=
  (s.emit (.stripeBlock k b (s.chainL k).txStripe (s.chainL k).txPos)).placeBlocks k 1

/-- Stripe block positions of a chain's transmit direction since it formed: five block times a tick on every active lane
(R16, R184). -/
def State.positions (s : State) (k : Nat) : Nat := 5 * popcount 16 (s.chainL k).txMask * (s.now - (s.chainL k).tUp)

/-- A new packet sent: it takes the next LSEQ, its credits count as consumed, and it stays in the replay buffer (R220,
R223, R228). -/
def State.sendNew (s : State) (k : Nat) (p : Packet) : State :=
  let x := s.chainP k
  let q := { p with lseq := x.txNext }
  let y := { (x.spend (s.txPool p) (pktCost p)).returned p with
    replay := x.replay ++ [q], sentAt := x.sentAt ++ [s.now], txNext := (x.txNext + 1) % 65536 }
  (((s.setChainP k y).emitPacket k q false).inc64 (Reg.LNK_P_TX_PKTS k)).count 0x0A 1 k none x.txNext k

/-! ### Which waiting packet is next (R161, R163, R219) -/

/-- The packet may go ahead of every level: with it those packets stay within 1 in 128 stripe block positions (R219). -/
def State.mayAhead (s : State) (k : Nat) (p : Packet) : Bool :=
  pktAhead p && decide (128 * ((s.chainP k).aheadSent + packetLen p) ≤ s.positions k)

/-- The class a waiting packet is served for: that of its label, 32 for an unmapped one, SC0 for what R219 puts into level 5. -/
def State.waitClass (s : State) (w : Waiting) : Nat := if pktAhead w.pkt then 0 else s.labelUser w.pkt.label

/-- The bid of a waiting packet: level 0 ahead of every level, and 5 for what R219 puts there. -/
def State.waitBid (s : State) (k : Nat) (w : Waiting) : Bid :=
  let b := s.bid (s.waitClass w) w.since w.conf
  if s.mayAhead k w.pkt then { b with level := 0 }
  else if b.cls = 0 then { b with level := 5 }
  else b

/-- One waiting packet goes before another that waits behind it. -/
def State.goesBefore (s : State) (k : Nat) (a b : Waiting) : Bool :=
  s.bidBefore (s.chainP k).round (s.waitBid k a) (s.waitBid k b)

/-- The waiting packets that are the first of their pool and find their credit, with their places. -/
def State.ready (s : State) (k : Nat) : List (Waiting × Nat) :=
  let l := (s.chainP k).waiting
  (l.zip (List.range l.length)).filter (fun e =>
    (s.chainP k).affords (s.txPool e.1.pkt) (pktCost e.1.pkt) &&
      !(l.take e.2).any (fun w => s.txPool w.pkt == s.txPool e.1.pkt))

/-- The waiting packet that is sent next, if credit lets one go. -/
def State.nextWaiting (s : State) (k : Nat) : Option (Waiting × Nat) :=
  (s.ready k).foldl (fun (b : Option (Waiting × Nat)) e =>
    match b with
    | none => some e
    | some c => if s.goesBefore k c.1 e.1 then some c else some e) none

/-- A waiting packet taken out of its place, and counted in its share. -/
def State.takeWaiting (s : State) (k : Nat) (e : Waiting × Nat) : State :=
  let x := s.chainP k
  let ahead := if s.mayAhead k e.1.pkt then x.aheadSent + packetLen e.1.pkt else x.aheadSent
  s.setChainP k { x with waiting := x.waiting.eraseIdx e.2, aheadSent := ahead, round := s.roundNext x.round (s.waitBid k e.1) }

/-- The waiting packets sent as credit and room allow: a next packet without room holds back every later one (R224), a packet
without credit the later ones of its pool (R228). -/
def State.pumpRun (s : State) (k : Nat) : Nat → State
  | 0 => s
  | fuel + 1 =>
    match s.nextWaiting k with
    | none => s
    | some e =>
      if s.rbufRoom k (pktSize e.1.pkt) then ((s.takeWaiting k e).sendNew k e.1.pkt).pumpRun k fuel else s

/-! ### Waiting for credit (R231, R248) -/

/-- Some packet of a chain waits for partner credit. -/
def State.creditWait (s : State) (k : Nat) : Bool :=
  (s.chainP k).waiting.any (fun w => !(s.chainP k).affords (s.txPool w.pkt) (pktCost w.pkt))

/-- Cycles in which a packet waits for partner credit (R248, R389). -/
def State.crCount (s : State) (k n : Nat) : State :=
  if s.chainUp k && s.creditWait k then (s.inc64 (Reg.LNK_P_CRWAIT k) n).count 0x0C n k else s

/-- Waiting packets sent. -/
def State.pump (s : State) (k : Nat) : State :=
  if s.chainUp k then s.pumpRun k (s.chainP k).waiting.length else s

/-- The credits of a pool the stack has granted on a chain since formation (R229): pool 0 always 9 beyond those used, pool
32 the 36 of the start and those returned. -/
def ChainPkt.givenOf (x : ChainPkt) (pool : Nat) : Nat :=
  (if pool = 0 then Tab.lookD x.rxUsed 0 0 + 9
   else if pool = 32 then Tab.lookD x.given 32 0 + 36
   else Tab.lookD x.given pool 0) % 2 ^ 24

/-- The credits of a pool outstanding at the partner (R230). -/
def ChainPkt.outstanding (x : ChainPkt) (pool : Nat) : Nat :=
  (x.givenOf pool + 2 ^ 24 - Tab.lookD x.rxUsed pool 0) % 2 ^ 24

/-- A new packet for a chain, with whether its traffic conforms (R162). On a chain that is not UP it is not sent (R246). -/
def State.sendPacket (s : State) (k : Nat) (p : Packet) (conf : Bool := true) : State :=
  if s.chainUp k then
    let w : Waiting := ⟨p, conf, s.now⟩
    (s.setChainP k { s.chainP k with waiting := (s.chainP k).waiting ++ [w] }).pump k
  else s

/-- A packet of the stack before it is numbered. -/
def newPacket (type label : Nat) (payload : List Byte) : Packet := ⟨0, type, label, false, payload, []⟩

end Sys2Proof.Machine
end

