-- ==== Sys2Proof/Machine/Qos.lean ====
section
/-! DEFINITION. Sys2Proof/Machine/Qos.lean: admission (R164 to R172), shedding and reinstatement (R176 to R178) and the
commands of the service classes. Rates are in B/s. -/
namespace Sys2Proof.Machine

/-! ### Capacity (R164) -/

/-- User bandwidth of a channel at a point (R15). -/
def pointBw (p : Nat) : ℚ := ([80000000000, 64000000000, 51200000000, 32000000000] : List ℚ).getD p 32000000000

/-- θ of a throttle level (R347). -/
def theta (level : Nat) : ℚ := ([1, 3 / 4, 1 / 2, 3 / 8, 1 / 4] : List ℚ).getD level (1 / 4)

/-- s_ref of a refresh multiplier code. -/
def sRef (mul : Nat) : ℚ := ([35 / 1000, 70 / 1000, 140 / 1000] : List ℚ).getD mul (140 / 1000)

/-- The refresh multiplier code of the present band (R351). -/
def State.refCode (s : State) : Nat := if s.thm.band ≤ 2 then 0 else if s.thm.band ≤ 4 then 1 else 2

/-- s_scr (R294). -/
def State.sScr (s : State) : ℚ := 1 / 10 / (s.fld Reg.ECC_SCRUB_CFG Fld.ECC_SCRUB_CFG_PERIOD : ℚ)

/-- s_trv (R307). -/
def State.sTrv (s : State) : ℚ := (s.fld Reg.BST_TRV_CFG Fld.BST_TRV_CFG_RATE : ℚ) * 5 / 1000000

/-- s_cal (R307). -/
def State.sCal (s : State) : ℚ := (s.fld Reg.CAL_CFG Fld.CAL_CFG_RATE : ℚ) * 400 / 1000000000

/-- U(c), at the admission base or at present capacity. -/
def State.chanCap (s : State) (base : Bool) (c : Nat) : ℚ :=
  let bw := if base then pointBw (s.fld Reg.GLB_GCFG Fld.GLB_GCFG_DEFPOINT) else pointBw s.dmc.point
  let th := if base then 1 else theta s.thm.level
  let ref := if base then sRef 0 else sRef s.refCode
  let w : ℚ := match (Tab.lookD s.dmc.chans c {}).width with
    | .full => 1
    | .half => 1 / 2
    | .retired => 0
  bw * w * th * (850 / 1000 - ref - s.sScr - s.sTrv - s.sCal)

/-- The resources of R165. -/
inductive Res where
  | fold
  | tx (k : Nat)
  | rx (k : Nat)
  | ch (c : Nat)
deriving DecidableEq, Repr

/-- The resources in the order of R167. -/
def resOrder : List Res :=
  Res.fold :: (List.range 16).flatMap (fun k => [Res.tx k, Res.rx k]) ++ (List.range 32).map Res.ch

/-- KIND and INDEX of a resource (R182). -/
def Res.kindIndex : Res → Nat × Nat
  | .ch c => (1, c)
  | .tx k => (2, k)
  | .rx k => (3, k)
  | .fold => (4, 0)

/-- The capacity of a resource. -/
def State.resCap (s : State) (base : Bool) : Res → ℚ
  | .fold => 128000000000
  | .tx k =>
    let x := s.chainL k
    12000000000 * (if base then popcount 64 x.lanes else if s.chainUp k then popcount 16 x.txMask else 0 : Nat)
  | .rx k =>
    let x := s.chainL k
    12000000000 * (if base then popcount 64 x.lanes else if s.chainUp k then popcount 16 x.rxMask else 0 : Nat)
  | .ch c => s.chanCap base c

/-! ### Demand (R165, R166) -/

/-- The exact stack read rate of a stream of class n (R61). -/
def State.readRateQ (s : State) (n : Nat) : ℚ := (s.classP1 n * 1000 * max (s.classP2 n) 4096 : Nat) / 4096

/-- w of a class. -/
def State.classW (s : State) (n : Nat) : ℚ := (s.classP1 n * 1000000 : Nat)

/-- Some enabled source of a class folds. -/
def State.classFolds (s : State) (n : Nat) : Bool := (s.classSources n).any (fun i => s.srcMode i != 1)

/-- The partition demands of a class. -/
def State.partDemands (s : State) (n : Nat) : List (Nat × ℚ) :=
  let onPart : List (Nat × ℚ) := match s.classPart n with
    | some p => [(p, s.classW n)]
    | none => []
  match s.classType n with
  | 1 => (s.boundUnits n).map (fun u => (s.fld (Reg.VXU_BIND u) Fld.VXU_BIND_PART, s.readRateQ n))
  | 2 =>
    let cad := (s.cfg.parts.filter (fun p => p.2.pers == 3)).map (fun p => (p.1, 4 * s.classW n))
    (if s.classFolds n then cad else []) ++ (s.classLogs n).map (fun p => (p, s.classW n)) ++ onPart
  | 3 => onPart
  | _ => []

/-- The reserve channels that still carry reserve. -/
def State.liveReserve (s : State) : List Nat :=
  if s.cfg.resParcels.isEmpty then [] else (channelsOf s.cfg.resMask).filter (fun c => !s.retired c)

/-- The fraction of a partition's demand that falls on a channel (R166). -/
def State.chanShare (s : State) (p : Partition) (c : Nat) : ℚ :=
  let chs := channelsOf p.chmask
  let n : ℚ := (chs.length : ℚ)
  let own : ℚ := if chs.contains c && !s.retired c then 1 / n else 0
  let live := s.liveReserve
  let moved : ℚ := if live.contains c then ((chs.filter s.retired).length : ℚ) / n / (live.length : ℚ) else 0
  own + moved

/-- The demand of a class on a resource (R165). -/
def State.demandOn (s : State) (n : Nat) : Res → ℚ
  | .fold => if s.classType n = 2 ∧ s.classFolds n then s.classW n else 0
  | .tx k =>
    match s.classType n with
    | 1 => (((s.boundUnits n).filter (fun u => s.vxuChain u == k)).length * 72 * (s.classP1 n * 1000) : Nat)
    | 3 => if bitOf (s.classChains n) k ∧ !bitOf (s.classWord n 1) 31 then s.classW n else 0
    | _ => 0
  | .rx k =>
    match s.classType n with
    | 2 => if bitOf (s.classChains n) k then s.classW n else 0
    | 3 => if bitOf (s.classChains n) k ∧ bitOf (s.classWord n 1) 31 then s.classW n else 0
    | _ => 0
  | .ch c => ((s.partDemands n).map (fun d =>
      match Tab.look s.cfg.parts d.1 with
      | some p => d.2 * s.chanShare p c
      | none => 0)).sum

/-- The demand of some classes on a resource. -/
def State.demandAll (s : State) (l : List Nat) (r : Res) : ℚ := (l.map (fun n => s.demandOn n r)).sum

/-- The guaranteed classes. -/
def State.guarClasses (s : State) : List Nat := (List.range 32).filter s.guaranteed

/-- The classes in force. -/
def State.forceList (s : State) : List Nat := (List.range 32).filter s.inForce

/-- Tags a class reserves (R168). -/
def State.classTags (s : State) (n : Nat) : Nat :=
  ⌈((s.partDemands n).map (·.2)).sum * 2 / 1000000 / 64⌉.toNat

/-- Tags reserved by some classes. -/
def State.tagsOf (s : State) (l : List Nat) : Nat := (l.map s.classTags).sum

/-! ### Reservoirs and start deadlines (R170 to R172) -/

/-- T_cover, 26 µs, in s. -/
def tCover : ℚ := 26 / 1000000

/-- A size in bytes rounded up to a multiple of 4 KiB. -/
def up4K (x : ℚ) : ℚ := (⌈x / 4096⌉ : ℚ) * 4096

/-- The units whose stream is bound to an RT-STREAM class. -/
def State.rtUnits (s : State) : List Nat :=
  (List.range 16).filter (fun u => s.vxuEnabled u && s.classType (s.vxuClass u) == 1)

/-- Size of stream reservoir u in bytes. -/
def State.sresBytes (s : State) (u : Nat) : Nat := s.rdN (Reg.QOS_SRES_SIZE u) * 4096

/-- Start level of stream reservoir u in bytes. -/
def State.sresStart (s : State) (u : Nat) : Nat := s.rdN (Reg.QOS_SRES_START u) * 64

/-- The stream reservoir of a unit keeps its rule (R171). -/
def State.sresOk (s : State) (u : Nat) : Bool :=
  let r := s.readRateQ (s.vxuClass u)
  decide (up4K (r * tCover + 65536) ≤ (s.sresBytes u : ℚ)) &&
    decide ((⌈r * tCover / 64⌉ : ℚ) * 64 ≤ (s.sresStart u : ℚ)) &&
    decide (s.sresStart u + 65536 ≤ s.sresBytes u)

/-- What a capture class must ride out: w × max(0, T_cover − H). -/
def State.rideOut (s : State) (n : Nat) : ℚ := s.classW n * max 0 (tCover - (s.classP3 n : ℚ) / 1000000)

/-- The capture reservoir of an RT-CAPTURE class keeps its rule. -/
def State.cresOk (s : State) (n : Nat) : Bool :=
  !(s.classType n == 2 && (!(s.classLogs n).isEmpty || (s.classPart n).isSome)) ||
    decide (up4K (s.rideOut n + 65536) ≤ (s.capSize n : Nat))

/-- The least ingest queue of R114, 0 without a CAD partition. -/
def State.iqMin (s : State) : Nat :=
  if s.cfg.parts.any (fun p => p.2.pers == 3) then
    32768 * ((List.range 256).filter s.srcEnabled).length + 1048576
  else 0

/-- The ingest queue keeps the rule of R171. -/
def State.iqOk (s : State) : Bool :=
  let extra := (((List.range 32).filter (fun n => s.classType n == 2 && s.classFolds n)).map s.rideOut).sum
  decide (up4K ((s.iqMin : ℚ) + extra) ≤ (s.rdN Reg.QOS_IQ_SIZE * 4096 : Nat))

/-- Reservoirs and ingest queue together, in bytes (R171). -/
def State.resvTotal (s : State) : Nat :=
  4096 * (s.rdN Reg.QOS_IQ_SIZE + ((List.range 16).map (fun u => s.rdN (Reg.QOS_SRES_SIZE u))).sum +
    ((List.range 32).map (fun n => s.rdN (Reg.QOS_CRES_SIZE n))).sum)

/-- The start deadline of a unit's class keeps R172. -/
def State.deadlineOk (s : State) (u : Nat) : Bool :=
  let n := s.vxuClass u
  decide (((s.sresStart u : ℚ) + 65536) / s.readRateQ n + 10 / 1000000 ≤ (s.classP3 n : ℚ) / 1000000)

/-! ### Admission (R167 to R169) -/

/-- The reservoir that breaks its rule first, by the index of R182. -/
def State.badReservoir (s : State) : Option Nat :=
  match s.rtUnits.find? (fun u => !s.sresOk u) with
  | some u => some u
  | none =>
    match (List.range 32).find? (fun n => !s.cresOk n) with
    | some n => some (16 + n)
    | none => if s.iqOk then none else some 48

/-- The classes of a list overload a resource. -/
def State.overloaded (s : State) (base : Bool) (l : List Nat) (r : Res) : Bool :=
  decide (s.resCap base r < s.demandAll l r)

/-- The admission evaluation: its status, kind and index (R167, R168, R182). Capacities come before guarantees (R42). -/
def State.admission (s : State) : Status × Nat × Nat :=
  if 98304 < s.tagsOf s.guarClasses then (.eResource, 6, 0)
  else match s.badReservoir with
    | some i => (.eOvercommit, 5, i)
    | none =>
      match s.rtUnits.find? (fun u => !s.deadlineOk u) with
      | some u => (.eOvercommit, 7, s.vxuClass u)
      | none =>
        match resOrder.find? (s.overloaded true s.guarClasses) with
        | some r => (.eOvercommit, r.kindIndex.1, r.kindIndex.2)
        | none => (.ok, 0, 0)

/-- The evaluation recorded in QOS_ADM_LAST. -/
def State.noteAdmission (s : State) (a : Status × Nat × Nat) : State :=
  s.wrN Reg.QOS_ADM_LAST (a.1.code * 65536 + a.2.1 * 256 + a.2.2)

/-- The classes after a load or a commit: every guaranteed class is in force or shed (R158). -/
def State.classesNow (s : State) : State :=
  let shed := maskOf (s.guarClasses.filter s.isShed)
  { s with qos := { s.qos with inforce := maskOf (s.guarClasses.filter (fun n => !s.isShed n)), shed := shed } }

/-! ### Shedding and reinstatement (R176 to R178) -/

/-- The in-force guaranteed class of lowest RANK with demand on a resource of a list. -/
def State.lowestOn (s : State) (o : List Res) : Option Nat :=
  (s.forceList.filter (fun n => o.any (fun r => decide (0 < s.demandOn n r)))).foldl (fun (b : Option Nat) n =>
    match b with
    | none => some n
    | some m => if s.classRank n < s.classRank m then some n else some m) none

/-- A class shed, with the resource that decided (R176, R177, R179). -/
def State.shedClass (s : State) (n : Nat) (r : Res) : State :=
  let s1 := { s with qos := { s.qos with
    inforce := maskOf (s.forceList.filter (· != n)), shed := s.qos.shed ||| 2 ^ n
    shedAt := Tab.put s.qos.shedAt n s.now } }
  (((s1.satInc (Reg.QOS_C_SHEDS n)).event Reg.QOS_EVENTS Fld.QOS_EVENTS_SHED).alert 0x10 0xFF n
    (r.kindIndex.1 * 256 + r.kindIndex.2) 0 0).capUpdate

/-- The loop of R176; each pass sheds one of at most 31 classes. -/
def State.shedLoop (s : State) : Nat → State
  | 0 => s
  | fuel + 1 =>
    let o := resOrder.filter (s.overloaded false s.forceList)
    match o, s.lowestOn o with
    | r :: _, some k => (s.shedClass k r).shedLoop fuel
    | _, _ => s

/-- Present capacity evaluated (R176). -/
def State.evaluate (s : State) : State :=
  ({ s with qos := { s.qos with change := false } }).shedLoop 32

/-- SHED_EVALUATION (R176): in SERVICE alone anything is shed. -/
def execShedEvaluation (s : State) : Result :=
  if s.qos.change ∧ s.mode = .service then .next s.evaluate else .next s

/-- The shed classes in descending RANK. -/
def State.shedOrder (s : State) : List Nat :=
  ((List.range 32).filter s.isShed).insertionSort (fun a b => s.classRank b ≤ s.classRank a)

/-- A shed class reinstated when its demand, added to that of the in-force classes, fits present capacity. -/
def State.reinstate (s : State) (n : Nat) : State :=
  if resOrder.any (s.overloaded false (n :: s.forceList)) then s
  else
    let s1 := { s with qos := { s.qos with
      inforce := s.qos.inforce ||| 2 ^ n
      shed := maskOf (((List.range 32).filter s.isShed).filter (· != n)) } }
    ((s1.event Reg.QOS_EVENTS Fld.QOS_EVENTS_REINSTATE).alert 0x11 0xFF n 0 0 0).capUpdate

/-- The attempt to reinstate every shed class (R178). -/
def State.reinstateAll (s : State) : State := s.shedOrder.foldl (fun t n => t.reinstate n) s

/-- QOS_STABLE, in SCLK ticks (R178). -/
def State.stableTicks (s : State) : Nat := s.now - s.qos.tChange

/-- REINSTATEMENT (R178, R180): in SERVICE, at 100 ms without a capacity change. -/
def execReinstatement (s : State) : Result :=
  if s.mode = .service ∧ !s.qos.change ∧ 31250000 ≤ s.stableTicks then .next s.reinstateAll else .next s

/-! ### Room for credits, and withheld credit (R12, R175, R229) -/

/-- The chains that are UP. -/
def State.upChains (s : State) : List Nat := (List.range 16).filter s.chainUp

/-- Credits of a pool outstanding on all chains. -/
def State.outstandingAll (s : State) (pool : Nat) : Nat := (s.upChains.map (fun k => (s.chainP k).outstanding pool)).sum

/-- A class feeds the ingest queue: an enabled source of it folds (R80, R84). -/
def State.feedsIngest (s : State) (n : Nat) : Bool := (s.classSources n).any (fun i => s.srcMode i != 1)

/-- A class feeds its capture reservoir (R171): an RT-CAPTURE class with a logging source or a valid PART. -/
def State.feedsCapture (s : State) (n : Nat) : Bool := !(s.capParts n).isEmpty

/-- A class carries fail or capture traffic. -/
def State.feedsFail (s : State) (n : Nat) : Bool := !(s.classSources n).isEmpty || s.feedsCapture n

/-- Credits that find room in the ingest queue, on all chains: a record of 32 bytes is half a credit. -/
def State.ingestRoom (s : State) : Nat :=
  (s.rdN Reg.QOS_IQ_SIZE * 128 - s.qFill) / 2 -
    (((List.range 32).filter s.feedsIngest).map s.outstandingAll).sum

/-- Credits that find room in the capture reservoir of a class. -/
def State.captureRoom (s : State) (n : Nat) : Nat := (s.capSize n - s.capFill n) / 64 - s.outstandingAll n

/-- Credits that find tags, on all chains (R12). -/
def State.tagRoom (s : State) : Nat :=
  131072 - s.tagsUsed.length - ((List.range 32).map s.outstandingAll).sum

/-- The credits that the free room of the buffers and the tags leave for a pool, 1 to 31. -/
def State.bufferRoom (s : State) (n : Nat) : Nat :=
  let a := if s.feedsIngest n then min s.tagRoom s.ingestRoom else s.tagRoom
  if s.feedsCapture n then min a (s.captureRoom n) else a

/-- HOLD withholds the credits of fail and capture traffic from the acceptance of its request on (R26). -/
def State.holdWithholds (s : State) : Bool := s.mode == .hold || s.trans == some .hold

/-- The credits the stack may still grant of a pool: none for fail and capture traffic outside SERVICE (R26, R29). -/
def State.poolRoom (s : State) (n : Nat) : Nat :=
  if s.feedsFail n && (s.mode != .service || s.holdWithholds) then 0 else s.bufferRoom n

/-- The chains that carry a class: those of its CHAINS, where it has them (R159). -/
def State.carriers (s : State) (n : Nat) : List Nat :=
  if s.classChains n = 0 then s.upChains else s.upChains.filter (fun k => bitOf (s.classChains n) k)

/-- A class's credits are withheld (R26, R175, R229): by HOLD, or on a chain that carries it where fewer than 9 are outstanding and no
room or no tag lets the stack grant more. -/
def State.classHeld (s : State) (n : Nat) : Bool :=
  (s.holdWithholds && s.feedsFail n) ||
    (s.mode == .service && (s.carriers n).any (fun k => decide ((s.chainP k).outstanding n < 9)) && s.bufferRoom n == 0)

/-- Withholding followed: the time of an interval that ends, or that HOLD takes, is added to the class's (R26, R175). -/
def State.holdUpdate (s : State) : State :=
  let held := ((List.range 31).map (· + 1)).filter s.classHeld
  let over_ (e : Nat × Nat × Bool) : Bool := s.holdWithholds || !held.contains e.1
  let ticks : Tab Nat := (s.qos.withheld.filter over_).foldl (fun (t : Tab Nat) e =>
    Tab.put t e.1 (Tab.lookD t e.1 0 + (s.now - e.2.1))) s.qos.holdTicks
  let left := s.qos.withheld.filter (fun e => !over_ e)
  { s with qos := { s.qos with
      holdTicks := ticks
      withheld := held.foldl (fun (t : Tab (Nat × Bool)) n =>
        if (Tab.look t n).isSome then t else Tab.put t n (s.now, false)) left } }

/-- QOS_C_HOLD in µs (R175, R181): the intervals that have ended, and the one that runs. -/
def State.heldMicros (s : State) (n : Nat) : Nat :=
  let runs := match Tab.look s.qos.withheld n with
    | some e => s.now - e.1
    | none => 0
  min 0xFFFFFFFF ((Tab.lookD s.qos.holdTicks n 0 + runs) * 2 / 625)

/-- HOLD_EXCEEDED (R175): raised once for a withholding interval longer than H of an in-force RT-CAPTURE class whose arriving traffic
conforms, by the last of it that its bucket met; not for the time of HOLD (R26). -/
def execHoldExceeded (n : Fin 32) (s : State) : Result :=
  match Tab.look s.qos.withheld n with
  | some (t, false) =>
    if s.classType n = 2 ∧ s.inForce n ∧ !bitOf s.qos.stray n ∧ !s.holdWithholds ∧ s.classP3 n * 625 < 2 * (s.now - t) then
      .next (({ s with qos := { s.qos with withheld := Tab.put s.qos.withheld n (t, true) } }).miss n 3)
    else .next s
  | _ => .next s

end Sys2Proof.Machine
end

