-- ==== Sys2Proof/Machine/CadOps.lean ====
section
/-! DEFINITION. Sys2Proof/Machine/CadOps.lean: the operations of the fail cadastre engine: records (R79 to R81), exceptions
and gaps (R86, R89 to R92), raw capture (R93, R94, R538), ordering and release (R84, R87, R88), translation (R95 to R97),
the map with its heap and cache (R105 to R109), and the close record (R110, R120, R121). -/
namespace Sys2Proof.Machine

/-! ### Members of the tables -/

/-- A repair domain. -/
def State.domain (s : State) (d : Nat) : Domain := Tab.lookD s.cad.domains d {}

/-- A repair domain replaced. -/
def State.setDomain (s : State) (d : Nat) (x : Domain) : State :=
  { s with cad := { s.cad with domains := Tab.put s.cad.domains d x } }

/-- A record source. -/
def State.source (s : State) (i : Nat) : Source := Tab.lookD s.cad.sources i {}

/-- A record source replaced. -/
def State.setSource (s : State) (i : Nat) (x : Source) : State :=
  { s with cad := { s.cad with sources := Tab.put s.cad.sources i x } }

/-- The index and description of the CAD partition (R33). -/
def State.cadPart (s : State) : Option (Nat × Partition) := s.cfg.parts.find? (fun p => p.2.pers == 3)

/-- A domain that takes records. -/
def Domain.active (x : Domain) : Bool := x.state == .open || x.state == .closing

/-! ### Records (R79 to R81) -/

/-- SSEQ of a record. -/
def recSseq (l : List Byte) : Nat := leAt l 0 4
/-- LABEL of a record. -/
def recLabel (l : List Byte) : Nat := leAt l 5 1
/-- SITE of a record. -/
def recSite (l : List Byte) : Nat := bitsOf (leAt l 6 2) 9 0
/-- FLAGS of a record. -/
def recFlags (l : List Byte) : Nat := bitsOf (leAt l 6 2) 15 10
/-- ADDR of a record. -/
def recAddr (l : List Byte) : Nat := leAt l 8 6
/-- MASK of a record. -/
def recMask (l : List Byte) : Nat := leAt l 16 8
/-- VCYC of a record. -/
def recVcyc (l : List Byte) : Nat := leAt l 24 4
/-- The record is a MARKER (R81). -/
def recMarker (l : List Byte) : Bool := bitOf (recFlags l) 0
/-- The record carries SYNC. -/
def recSync (l : List Byte) : Bool := bitOf (recFlags l) 1
/-- The record carries PDROP. -/
def recPdrop (l : List Byte) : Bool := bitOf (recFlags l) 2

/-- The CRC check of R80 holds. -/
def recCrcOk (l : List Byte) : Bool := crc16 (slice l 0 30) == leAt l 30 2

/-- The FORMAT check of R89 holds. -/
def recFormatOk (l : List Byte) : Bool :=
  leAt l 14 2 == 0 && leAt l 28 2 == 0 && recFlags l / 8 == 0 &&
    (!recMarker l || (recSite l == 0 && recAddr l == 0 && recMask l == 0))

/-! ### Exceptions and gaps (R86, R89 to R92) -/

/-- The reason codes of R89. -/
inductive ExcReason where
  | crc | format | noSource | label | duplicate | far | late | noDomain | closed | range | heapFull | gap
deriving DecidableEq, Repr

/-- The code of a reason (R89). -/
def ExcReason.code : ExcReason → Nat
  | .crc => 1 | .format => 2 | .noSource => 3 | .label => 4 | .duplicate => 5 | .far => 6 | .late => 7
  | .noDomain => 8 | .closed => 9 | .range => 10 | .heapFull => 11 | .gap => 15

/-- Entries of the exception log (R90). -/
def excEntries : Nat := 4194304

/-- The exception log is full (R90). -/
def State.excFull (s : State) : Bool := (s.rdN Reg.CAD_EXC_WPTR + 1) % excEntries == s.rdN Reg.CAD_EXC_RPTR

/-- An entry written to the exception log while it has room; EXC_FULL is raised once when it becomes full (R90). Without
a CAD partition there is no log (R114). -/
def State.logException (s : State) (e : ExcEntry) : State :=
  if s.cadPart.isNone || s.excFull then s.satInc Reg.CAD_EXC_LOST
  else
    let w := s.rdN Reg.CAD_EXC_WPTR
    let s1 := { s with cad := { s.cad with exc := Tab.put s.cad.exc w e } }.wrN Reg.CAD_EXC_WPTR ((w + 1) % excEntries)
    if s1.excFull then
      (s1.event Reg.CAD_EVENTS Fld.CAD_EVENTS_EXC_FULL).alert 0x32 0xFF (s1.rdN Reg.CAD_EXC_WPTR) 0 0 0
    else s1

/-- An exception: counted by reason and in all, and logged (R89, R92). -/
def State.exception (s : State) (bytes : List Byte) (chain : Nat) (why : ExcReason) (domain : Option Nat) : State :=
  let s1 := (s.satInc (Reg.CAD_EXC_CNT why.code)).count 0x0F 1 why.code none (domain.getD 0xFFFFFFFF) why.code
  let s2 := { s1 with cad := { s1.cad with excTotal := (s1.cad.excTotal + 1) % 2 ^ 64 } }
  let s3 := if why = .heapFull then s2.event Reg.CAD_EVENTS Fld.CAD_EVENTS_HEAP_FULL else s2
  s3.logException ⟨bytes, s3.now, why.code, chain, domain⟩

/-- The bytes of a GAP entry (R92). -/
def gapBytes (src first count : Nat) : List Byte :=
  leBytes 4 first ++ leBytes 1 src ++ List.replicate 3 0#8 ++ leBytes 4 count ++ List.replicate 20 0#8

/-- A gap declared (R86). -/
def State.declareGap (s : State) (src first count : Nat) : State :=
  if count = 0 then s
  else
    let s1 := (s.exception (gapBytes src first count) (s.fld (Reg.CAD_SRC_CFG src) Fld.CAD_SRC_CFG_CHAIN) .gap none)
    let x := s1.source src
    let s2 := s1.setSource src { x with gaps := ((first, count) :: x.gaps).take 16 }
    ((s2.satInc (Reg.CAD_SRC_GAPS src)).event Reg.CAD_EVENTS Fld.CAD_EVENTS_GAP).alert 0x30 0xFF src first count 0

/-! ### Raw capture (R93, R94, R538) -/

/-- A capture log. -/
def State.capLog (s : State) (p : Nat) : CapLog := Tab.lookD s.cad.caps p {}

/-- A capture log replaced. -/
def State.setCapLog (s : State) (p : Nat) (x : CapLog) : State :=
  { s with cad := { s.cad with caps := Tab.put s.cad.caps p x } }

/-- The block of R93: header, records, unused slots zero. -/
def CapLog.block (x : CapLog) : List Byte :=
  slice (leBytes 8 x.start ++ leBytes 2 x.recs.length ++ leBytes 1 x.chain ++ [0#8] ++ leBytes 4 x.seq ++
    List.replicate 16 0#8 ++ x.recs.flatten) 0 4096

/-- The class of a codeword of a capture block (R155): that of the source of its first record; where it holds none, that of the block's
last record. -/
def State.blockClass (s : State) (x : CapLog) (i : Nat) : Nat :=
  s.srcClass (recSource ((x.recs[2 * i - 1]?).getD ((x.recs.getLast?).getD [])))

/-- The codewords of a capture block written from codeword `i` on, each charged to its class (R155, R162). -/
def State.writeBlockCws (s : State) (p : Nat) (part : Partition) (x : CapLog) (i : Nat) : Nat → State
  | 0 => s
  | n + 1 =>
    let cls := s.blockClass x i
    let ch := s.charge cls 64
    ((ch.1.served cls 64 ch.2).writeBytes p part (x.wptr + 64 * i) (slice x.block (64 * i) 64) cls ch.2).writeBlockCws p part x (i + 1) n

/-- The open block written out (R93); at the end of the partition a ring goes on at offset 0 and a linear log is full
(R94). -/
def State.writeBlock (s : State) (p : Nat) (ring : Bool) : State :=
  match Tab.look s.cfg.parts p with
  | none => s
  | some part =>
    let x := s.capLog p
    let s1 := s.writeBlockCws p part x 0 64
    let y : CapLog := { x with wptr := x.wptr + 4096, seq := (x.seq + 1) % 4294967296, recs := [] }
    if y.wptr < part.size then s1.setCapLog p y
    else if ring then s1.setCapLog p { y with wptr := 0, wraps := sat32 y.wraps 1 }
    else ((s1.setCapLog p { y with full := true }).event Reg.CAD_EVENTS Fld.CAD_EVENTS_CAP_FULL).alert 0x33 0xFF p 0 0 0

/-- A partition's LOG_RING, which every source that logs to it carries (R94). -/
def State.capRing (s : State) (p : Nat) : Bool :=
  (List.range 256).any (fun i => s.srcEnabled i && s.srcMode i != 0 && s.srcLog i == p &&
    s.flag (Reg.CAD_SRC_CFG i) Fld.CAD_SRC_CFG_LOG_RING)

/-- A record logged to a capture partition (R93, R94). A log that filled as LINEAR and has become a RING goes on at offset 0. -/
def State.capture (s : State) (src : Nat) (f : FailRec) : State :=
  let p := s.srcLog src
  let x0 := s.capLog p
  let x : CapLog := if x0.full && s.capRing p then { x0 with full := false, wptr := 0, wraps := sat32 x0.wraps 1 } else x0
  if x.full then s.satInc (Reg.CAD_CAP_DROP p)
  else
    let y : CapLog := if x.recs = [] then { x with start := s.now, chain := f.chain, recs := [f.bytes] }
      else { x with recs := x.recs ++ [f.bytes] }
    let s2 := s.setCapLog p y
    if y.recs.length < 127 then s2 else s2.writeBlock p (s2.capRing p)

/-! ### Translation (R95 to R97) -/

/-- The 256 bytes of a plat descriptor in effect. -/
def State.platBytes (s : State) (k : Nat) : List Byte := (List.range 64).flatMap (fun i => leBytes 4 (s.rdN (Reg.CAD_PLAT k i)))

/-- A plat is defined (R536). -/
def State.platDefined (s : State) (k : Nat) : Bool := (List.range 64).any (fun i => s.rdN (Reg.CAD_PLAT k i) != 0)

/-- NBLK of a plat (R95). -/
def State.platBlocks (s : State) (k : Nat) : Nat := bitsOf (s.rdN (Reg.CAD_PLAT k 1)) 23 16 + 1

/-- The plat a site holds, when it is still defined (R99, R536). -/
def State.sitePlatOf (s : State) (site : Nat) : Option Nat :=
  match Tab.look s.cad.sitePlat site with
  | none => none
  | some k => if s.platDefined k then some k else none

/-- bit(k) of R97. -/
def selBit (desc : List Byte) (addr k : Nat) : Nat :=
  let w := leAt desc (16 + 2 * k) 2
  let a := bitOf addr (bitsOf w 5 0)
  let b := bitOf w 14 && bitOf addr (bitsOf w 13 8)
  b2n ((a != b) != bitOf w 6)

/-- A sum of selected bits of R97. -/
def selSum (desc : List Byte) (addr base lo hi : Nat) : Nat :=
  ((List.range hi).map (fun i => if i < lo then 0 else selBit desc addr (base + i) * 2 ^ i)).sum

/-- Where a record falls: its block, row and columns in ascending bit order of the mask. -/
structure Located where
  block : Nat
  row : Nat
  cols : List Nat
deriving DecidableEq, Repr

/-- The translation of R97; none is the RANGE exception. -/
def translate (desc : List Byte) (addr mask : Nat) : Option Located :=
  let geom := leAt desc 0 4
  let width := leAt desc 4 4
  let nrb := bitsOf geom 4 0
  let ncb := bitsOf geom 12 8
  let nbb := bitsOf geom 19 16
  let dqb := bitsOf geom 26 24
  let d := bitsOf width 6 0
  let block := selSum desc addr 32 0 nbb
  if bitsOf width 23 16 < block || mask / 2 ^ d != 0 then none
  else
    let cbase := selSum desc addr 16 dqb ncb
    some ⟨block, selSum desc addr 0 0 nrb, ((List.range d).filter (fun j => bitOf mask j)).map (fun j =>
      cbase ||| leAt desc (96 + j) 1)⟩

/-! ### Release (R84, R87, R88, R89, R99) -/

/-- What a record resolves to: a domain with the place in it, or the exception it is (R87, R89, R97, R99). -/
def State.resolve (s : State) (l : List Byte) (late : Bool) : (Nat × Located) ⊕ (ExcReason × Option Nat) :=
  match s.sitePlatOf (recSite l) with
  | none => .inr (.noDomain, none)
  | some k =>
    match translate (s.platBytes k) (recAddr l) (recMask l) with
    | none => .inr (.range, none)
    | some x =>
      match Tab.look s.cad.siteMap (256 * recSite l + x.block) with
      | none => .inr (if late then .late else .noDomain, none)
      | some (d, true) => .inl (d, x)
      | some (d, false) => .inr (if late then .late else .closed, some d)

/-- A record of a source released (R84, R87): a MARKER sets the source's mark (R88), a late one too (notes/assumptions/175.md), and
any other record goes to a fold pipe or is an exception. -/
def State.release (s : State) (src : Nat) (f : FailRec) (late : Bool) : State :=
  let s0 := if late then s.event Reg.CAD_EVENTS Fld.CAD_EVENTS_LATE else s
  if recMarker f.bytes then
    s0.setSource src { s0.source src with mark := recVcyc f.bytes, marked := true, markSeq := s0.cad.relSeq }
  else
    match s0.resolve f.bytes late with
    | .inl _ => { s0 with cad := { s0.cad with
        released := s0.cad.released ++ [⟨f, late, s0.cad.relSeq⟩], relSeq := s0.cad.relSeq + 1 } }
    | .inr e => s0.exception f.bytes f.chain e.1 e.2

/-- Held records released while the record at NX is held, NX advancing past each (R84, row d = 0). -/
def State.releaseRun (s : State) (src : Nat) : List (Nat × FailRec) → State
  | [] => s
  | h :: t =>
    let x := s.source src
    if x.nx = some h.1 then
      ((s.setSource src { x with nx := some ((h.1 + 1) % 4294967296), held := t }).release src h.2 false).releaseRun src t
    else s

/-- Every held record released in order, with a gap for each run of missing numbers from `pos` on; without a `pos` the
first record opens no gap. -/
def State.releaseAll (s : State) (src : Nat) (pos : Option Nat) : List (Nat × FailRec) → State
  | [] => s
  | h :: t =>
    let s1 := match pos with
      | none => s
      | some p => s.declareGap src p ((h.1 + 4294967296 - p) % 4294967296)
    ((s1.setSource src { s1.source src with held := t }).release src h.2 false).releaseAll src
      (some ((h.1 + 1) % 4294967296)) t

/-- Distance from a to b in serial numbers (R244). -/
def serialDist (a b : Nat) : Nat := (b + 4294967296 - a) % 4294967296

/-- The window pushed to a new NX (R84): held records before it are released, and every missing number is declared. -/
def State.pushWindow (s : State) (src nx new : Nat) : State :=
  let x := s.source src
  let before := x.held.filter (fun h => decide (serialDist nx h.1 < serialDist nx new))
  let after := x.held.filter (fun h => !decide (serialDist nx h.1 < serialDist nx new))
  let s1 := s.releaseAll src (some nx) before
  let last := match before.getLast? with
    | some h => (h.1 + 1) % 4294967296
    | none => nx
  let s2 := s1.declareGap src last (serialDist last new)
  (s2.setSource src { s2.source src with nx := some new, held := after }).releaseRun src after

/-- A record held in its place in SSEQ order from NX. -/
def holdAt (nx : Nat) (q : Nat) (f : FailRec) : List (Nat × FailRec) → List (Nat × FailRec)
  | [] => [(q, f)]
  | h :: t => if serialDist nx q < serialDist nx h.1 then (q, f) :: h :: t else h :: holdAt nx q f t

/-- The record handled at d = 0 (R84). -/
def State.inOrder (s : State) (src q : Nat) (f : FailRec) : State :=
  let s1 := (s.setSource src { s.source src with nx := some ((q + 1) % 4294967296) }).release src f false
  s1.releaseRun src (s1.source src).held

/-- A number lies in a declared gap (R84). -/
def inGap (gaps : List (Nat × Nat)) (q : Nat) : Bool := gaps.any (fun g => decide (serialDist g.1 q < g.2))

/-- The gap timer runs while the source holds a record, and starts anew when NX has moved on from `nx` (R85). -/
def State.timerUpdate (s : State) (src : Nat) (nx : Option Nat) : State :=
  let x := s.source src
  s.setSource src { x with timer := !x.held.isEmpty, tGap := if x.timer && x.nx == nx then x.tGap else s.now }

/-- A record that passed the checks arrives in ordering (R84). After a window push it is handled again with the new
NX, from which it lies 1,023 numbers away or less. -/
def State.arrive (s : State) (src : Nat) (f : FailRec) : State :=
  let q := recSseq f.bytes
  let hold (t : State) (nx : Nat) : State :=
    let x := t.source src
    if x.held.any (fun h => h.1 == q) then t.exception f.bytes f.chain .duplicate none
    else t.setSource src { x with held := holdAt nx q f x.held }
  let s1 : State :=
    match (s.source src).nx, recSync f.bytes with
    | some nx, false =>
      let d := serialDist nx q
      if d = 0 then s.inOrder src q f
      else if d ≤ 1023 then hold s nx
      else if d < 2147483648 then
        let t := s.pushWindow src nx ((q + 4294967296 - 1023) % 4294967296)
        match (t.source src).nx with
        | some n => if n = q then t.inOrder src q f else hold t n
        | none => t
      else if d = 2147483648 then s.exception f.bytes f.chain .far none
      else if inGap (s.source src).gaps q then s.release src f true
      else s.exception f.bytes f.chain .duplicate none
    | _, _ => (s.releaseAll src none (s.source src).held).inOrder src q f
  s1.timerUpdate src (s.source src).nx

/-- A source keeps no NX (R84). -/
def State.loseNx (s : State) (src : Nat) : State := s.setSource src { s.source src with nx := none }

/-- The sources of a chain lose their NX, and SOURCE_LOST is raised for each (chapter 04 Modes). -/
def State.sourcesLost (s : State) (k : Nat) : State :=
  ((List.range 256).filter (fun i => s.srcEnabled i && s.fld (Reg.CAD_SRC_CFG i) Fld.CAD_SRC_CFG_CHAIN == k)).foldl
    (fun t i =>
      ((t.setSource i { t.source i with nx := none }).event Reg.CAD_EVENTS
        Fld.CAD_EVENTS_SOURCE_LOST).alert 0x31 k i k 0 0) s

/-- Credits and refreshes follow the ingest queue whenever its fill changes (R21, R174, R175). -/
def State.queueMoved (s : State) : State := s.holdUpdate.postponeAll

/-! ### Heap and cache (R108, R109) -/

/-- Offsets of the exception log, the pool table and the heap in the CAD partition (R102); the domain table begins at 0. -/
def excBase : Nat := 0x40000000
/-- See `excBase`. -/
def poolBase : Nat := 0x50000000
/-- See `excBase`. -/
def heapBase : Nat := 0x50400000

/-- The heap in units of 64 bytes (R102). -/
def State.heapUnits (s : State) : Nat :=
  match s.cadPart with
  | none => 0
  | some p => (p.2.size - heapBase) / 64

/-- The free heap in units of 64 bytes. -/
def State.heapFree (s : State) : Nat := s.heapUnits - s.cad.heapUsed

/-- HEAP_LOW is raised below 10 % and clears above 15 % (R109). -/
def State.heapCheck (s : State) : State :=
  if !s.cad.heapLow && decide (s.heapFree * 10 < s.heapUnits) then
    ({ s with cad := { s.cad with heapLow := true } }).alert 0x34 0xFF (s.heapFree * 64 / 2 ^ 20) 0 0 0
  else if s.cad.heapLow && decide (s.heapUnits * 15 < s.heapFree * 100) then { s with cad := { s.cad with heapLow := false } }
  else s

/-- The places in the heap that are taken. -/
def State.heapTaken (s : State) : List HeapSpace := s.cad.heapLost ++ s.cad.domains.flatMap (fun e => e.2.spaces)

/-- Where the FCE puts `n` units: free, but within the heap of R102 and apart from what is taken; none where no free run is that
long. -/
def State.heapPlace (s : State) (n : Nat) : Option Nat :=
  let base := heapBase / 64
  let taken := s.heapTaken
  let fits (a : Nat) : Bool := decide (base ≤ a) && decide (a + n ≤ base + s.heapUnits) &&
    taken.all (fun t => decide (a + n ≤ t.first) || decide (t.first + t.units ≤ a))
  ((base + Config.freeNat s.fresh % max 1 s.heapUnits) :: base :: taken.map (fun t => t.first + t.units)).find? fits

/-- Heap units allocated to a domain for a use (R109). -/
def State.takeHeap (s : State) (d : Nat) (use : HeapUse) (n : Nat) : Option State :=
  if n = 0 then some s
  else (s.heapPlace n).map (fun a =>
    let t := { s.draw with cad := { s.cad with heapUsed := s.cad.heapUsed + n } }
    t.setDomain d { t.domain d with spaces := (t.domain d).spaces ++ [⟨use, a, n⟩] })

/-- An allocation: the domain, the use and the units. -/
structure HeapNeed where
  domain : Nat
  use : HeapUse
  units : Nat
deriving DecidableEq, Repr

/-- Every allocation of a list made, or none of them (R109, R110). -/
def State.takeAll (s : State) (l : List HeapNeed) : Option State :=
  l.foldlM (fun (t : State) n => t.takeHeap n.domain n.use n.units) s

/-- Entries of the lot index and lines of the tally store (R108). -/
def cacheEntries : Nat := 1048576

/-- A part of the cadastre cache with an entry moved to the most recent place. -/
def touch (l : List (Nat × Nat)) (e : Nat × Nat) : List (Nat × Nat) := l.filter (fun x => x != e) ++ [e]

/-- The entry that leaves a full part: the least recently used one of an OPEN domain, or else the new one (R108). -/
def State.victim (s : State) (l : List (Nat × Nat)) (e : Nat × Nat) : Nat × Nat :=
  (l.find? (fun x => (s.domain x.1).state == .open)).getD e

/-- The domains that lose an entry as `new` is added to a part, and the part after it. -/
def State.addEntry (s : State) (l : List (Nat × Nat)) (e : Nat × Nat) : List (Nat × Nat) × List Nat :=
  if l.contains e then (touch l e, [])
  else if l.length < cacheEntries then (l ++ [e], [])
  else
    let v := s.victim l e
    if v = e then (l, [e.1]) else (l.filter (fun x => x != v) ++ [e], [v.1])

/-- The lot of a point (R105). -/
def lotKey (row col : Nat) : Nat := row / 256 * 256 + col / 256

/-- The tally lines a record's new points touch (R108): 2 × line group, and 1 more for columns. -/
def tallyKeys (row : Nat) (cols : List Nat) : List Nat :=
  if cols.isEmpty then [] else 2 * (row / 16) :: (cols.map (fun c => 2 * (c / 16) + 1)).dedup

/-- What a record does to the map: the lot, the new points, the parts of the cache after it, the domains that lose an
entry to their spill area, the heap it needs, and the spill-area reads. -/
structure FoldPlan where
  key : Nat
  lot : Lot
  fresh : List Nat
  index : List (Nat × Nat)
  lines : List (Nat × Nat)
  spilled : List Nat
  needs : List HeapNeed
  misses : Nat

/-- The plan of a record (R105 to R109). -/
def State.foldPlan (s : State) (d : Nat) (x : Located) : FoldPlan :=
  let dom := s.domain d
  let key := lotKey x.row (x.cols.headD 0)
  let old := Tab.look dom.lots key
  let lot := old.getD ⟨false, []⟩
  let fresh := (x.cols.filter (fun c => !lot.pts.contains (x.row % 256 * 256 + c % 256))).dedup
  let pts := lot.pts ++ fresh.map (fun c => x.row % 256 * 256 + c % 256)
  let convert := !lot.bitmap && decide (30 < pts.length)
  let keys := tallyKeys x.row fresh
  let missLot := !x.cols.isEmpty && !s.cad.lotIndex.contains (d, key)
  let missLines := keys.filter (fun k => !s.cad.tallyLines.contains (d, k))
  let misses := if dom.spilled then b2n missLot + missLines.length else 0
  let held (k : Nat) : Bool := if k % 2 = 0 then (dom.rowT.any (fun e => e.1 / 16 == k / 2))
    else dom.colT.any (fun e => e.1 / 16 == k / 2)
  let i := if x.cols.isEmpty || (missLot && (old.isSome || fresh.isEmpty)) then (s.cad.lotIndex, []) else s.addEntry s.cad.lotIndex (d, key)
  let t := keys.foldl (fun (a : List (Nat × Nat) × List Nat) k =>
    if !a.1.contains (d, k) && held k then a
    else
      let r := s.addEntry a.1 (d, k)
      (r.1, a.2 ++ r.2)) (s.cad.tallyLines, [])
  ⟨key, ⟨lot.bitmap || convert, pts⟩, fresh, i.1, t.1, i.2 ++ t.2,
    (if old.isNone && !fresh.isEmpty then [⟨d, .lot key, 1⟩] else []) ++ (if convert then [⟨d, .bitmap key, 128⟩] else []) ++
      (i.2 ++ t.2).map (fun v => ⟨v, .spill, 1⟩), misses⟩

/-- A tally table with one more point in a line, saturating at 255 (R107). -/
def tallyUp (t : Tab Nat) (line : Nat) : Tab Nat := Tab.put t line (min 255 (Tab.lookD t line 0 + 1))

/-- A domain whose entry moved to its spill area is SPILLED (R108). -/
def State.spill (s : State) (d : Nat) : State := s.setDomain d { s.domain d with spilled := true }

/-- A record entered into the map of its domain, or HEAP_FULL when the heap it needs is not there (R107, R109). -/
def State.applyRecord (s : State) (d : Nat) (x : Located) (f : FailRec) (late : Bool) : State :=
  let p := s.foldPlan d x
  let s0 := s.satInc Reg.CAD_PIN_MISS p.misses
  match s0.takeAll p.needs with
  | none => (s0.setDomain d { s0.domain d with mapIncomplete := true }).exception f.bytes f.chain .heapFull (some d)
  | some h =>
    let s1 := { h.heapCheck with cad := { h.heapCheck.cad with lotIndex := p.index, tallyLines := p.lines } }
    let s2 := p.spilled.foldl (fun t v => t.spill v) s1
    let y := s2.domain d
    let rowT := p.fresh.foldl (fun t _ => tallyUp t x.row) y.rowT
    let colT := p.fresh.foldl tallyUp y.colT
    let z : Domain := { y with
      lots := if p.fresh.isEmpty then y.lots else Tab.put y.lots p.key p.lot
      rowT := rowT
      colT := colT
      nRows := rowT.length
      nCols := colT.length
      fp := y.fp + p.fresh.length
      folded := y.folded + 1
      partnerLoss := y.partnerLoss || recPdrop f.bytes
      lateFolded := y.lateFolded || late }
    let s3 := s2.setDomain d z
    let s4 := { s3 with cad := { s3.cad with folded := (s3.cad.folded + 1) % 2 ^ 64 } }.count 0x0E 1 (recSource f.bytes) none d (recSseq f.bytes)
    if late then s4.satInc (Reg.CAD_SRC_LATE (recSource f.bytes)) else s4

/-! ### The close record (R110, R120 to R122) -/

/-- The limits of a domain's analysis: its local spares and its pool's (R100). -/
def State.poolOf (s : State) (x : Domain) : Option Pool := if x.pool = 0 then none else Tab.look s.cad.pools x.pool

/-- PR of a domain's pool; 0 without a pool. -/
def State.poolRows (s : State) (x : Domain) : Nat := ((s.poolOf x).map (·.pr)).getD 0

/-- PC of a domain's pool; 0 without a pool. -/
def State.poolCols (s : State) (x : Domain) : Nat := ((s.poolOf x).map (·.pc)).getD 0

/-- The points of a map in row-major order. -/
def Domain.points (x : Domain) : List (Nat × Nat) :=
  (x.rowT.map (·.1)).flatMap (fun r =>
    (x.lots.filter (fun e => e.1 / 256 == r / 256)).flatMap (fun e =>
      (((e.2.pts.filter (fun p => p / 256 == r % 256)).map (fun p => p % 256)).insertionSort (· ≤ ·)).map (fun c =>
        (r, e.1 % 256 * 256 + c))))

/-- The flags byte of a domain table entry (R103). -/
def Domain.flags (x : Domain) : Nat :=
  b2n x.partnerLoss + 2 * b2n x.lateFolded + 4 * b2n x.mapIncomplete + 8 * b2n x.fenceTimeout + 16 * b2n x.ovf +
    32 * b2n x.spilled

/-- The close record of a domain, as R110 builds it, at a time and with budgets resolved (R122). -/
def State.closeRecord (s : State) (d : Nat) : CloseRec :=
  let x := s.domain d
  let pr := s.poolRows x
  let pc := s.poolCols x
  let rmax := x.rs + pr
  let cmax := x.cs + pc
  let hrs := x.rowT.filter (fun e => decide (cmax < e.2))
  let hcs := x.colT.filter (fun e => decide (rmax < e.2))
  let tooHeavy := decide (rmax < hrs.length) || decide (cmax < hcs.length)
  let light := if tooHeavy then [] else
    x.points.filter (fun p => !hrs.any (fun e => e.1 == p.1) && !hcs.any (fun e => e.1 == p.2))
  let excess := !tooHeavy && decide ((rmax - hrs.length) * cmax + (cmax - hcs.length) * rmax < light.length)
  let ovf := tooHeavy || excess
  { domain := d, flags := ({ x with ovf := ovf } : Domain).flags, plat := x.plat, rs := x.rs, cs := x.cs, pr := pr, pc := pc
    pool := x.pool, hr := hrs.length, hc := hcs.length
    lp := if tooHeavy then 0xFFFFFFFF else light.length
    fp := x.fp, rows := x.nRows, cols := x.nCols, tClosed := s.now
    tbud := if x.tbud = 0 then s.fld Reg.CAD_DEFBUD Fld.CAD_DEFBUD_TBUD else x.tbud
    nbud := if x.nbud = 0 then s.fld Reg.CAD_DEFBUD Fld.CAD_DEFBUD_NBUD else x.nbud
    heavyRows := if ovf then [] else hrs
    heavyCols := if ovf then [] else hcs
    points := if ovf then [] else light
    ovf := ovf }

/-- The header of a close record (R120). -/
def CloseRec.header (c : CloseRec) : List Byte :=
  slice (leBytes 4 c.domain ++ leBytes 1 c.flags ++ leBytes 1 c.plat ++ leBytes 1 c.rs ++ leBytes 1 c.cs ++
    leBytes 1 c.pr ++ leBytes 1 c.pc ++ leBytes 2 c.pool ++ leBytes 2 c.hr ++ leBytes 2 c.hc ++ leBytes 4 c.lp ++
    leBytes 4 0 ++ leBytes 8 c.fp ++ leBytes 4 c.rows ++ leBytes 4 c.cols ++ leBytes 8 c.tClosed ++ leBytes 2 c.tbud ++
    leBytes 2 c.nbud) 0 64

/-- The 4-byte entries of a close record (R121). -/
def CloseRec.entries (c : CloseRec) : List (List Byte) :=
  (c.heavyRows ++ c.heavyCols).map (fun e => leBytes 4 (e.1 * 65536 + e.2)) ++
    c.points.map (fun p => leBytes 4 (p.1 * 65536 + p.2))

/-- The heap that closing needs: close record, lot list and the largest result record (R110). -/
def State.closeNeeds (s : State) (d : Nat) (c : CloseRec) : List HeapNeed :=
  [⟨d, .closeRec, ceilDiv (64 + 4 * (c.heavyRows.length + c.heavyCols.length + c.points.length)) 64⟩,
   ⟨d, .lotList, ceilDiv (16 * (s.domain d).lots.length) 64⟩, ⟨d, .result, 14⟩]

/-- The first unit of the last place a domain holds for a use; 0 without one (R103). -/
def Domain.placeOf (x : Domain) (use : HeapUse) : Nat :=
  ((x.spaces.filter (fun p => p.use == use)).getLast?.map (·.first)).getD 0

/-! ### Close conditions (R101) -/

/-- A fence waits for a source: its mark does not hold the id, or a record released before the MARKER is not folded. -/
def State.fenceWaits (s : State) (id i : Nat) : Bool :=
  let x := s.source i
  !x.marked || x.mark != id ||
    s.cad.released.any (fun r => recSource r.fail.bytes == i && decide (r.seq < x.markSeq))

/-- The close condition of a CLOSING domain (R101). -/
def State.closeReady (s : State) (d : Nat) : Bool :=
  let x := s.domain d
  x.state == .closing &&
    (match x.fence with
      | none => !s.cad.released.any (fun r => decide (r.seq < x.closeSeq))
      | some f => x.missing || !f.2.1.any (fun i => s.fenceWaits f.1 i))

end Sys2Proof.Machine
end

