-- ==== Sys2Proof/Machine/CadImage.lean ====
section
/-! DEFINITION. Sys2Proof/Machine/CadImage.lean: what the CAD partition holds at the places of R102: domain table entries (R103), the
exception log (R92), the pool table (R136), and lots in their two forms (R105); and the partition offset of a channel-local
address, the way back of R252. -/
namespace Sys2Proof.Machine

/-- The domain table entry (R103). -/
def Domain.entry (x : Domain) : List Byte :=
  leBytes 1 x.state.code ++ leBytes 1 x.flags ++ leBytes 2 x.site ++ leBytes 1 x.block ++ leBytes 1 x.plat ++
    leBytes 1 x.rs ++ leBytes 1 x.cs ++ leBytes 2 x.pool ++ leBytes 2 x.tbud ++ leBytes 2 x.nbud ++ leBytes 2 0 ++
    leBytes 8 x.fp ++ leBytes 4 x.nRows ++ leBytes 4 x.nCols ++ leBytes 2 x.hr ++ leBytes 2 x.hc ++ leBytes 4 x.lp ++
    leBytes 4 x.closeAddr ++ leBytes 4 x.resultAddr ++ leBytes 8 x.folded ++ leBytes 8 x.tClosed

/-- The members of a pool: the domains that name it and are not FREE (R133). -/
def State.members (s : State) (p : Nat) : List (Nat × Domain) :=
  s.cad.domains.filter (fun e => e.2.pool == p && e.2.state != .free)

/-- An exception log entry (R92). -/
def ExcEntry.entry (e : ExcEntry) : List Byte :=
  slice e.bytes 0 32 ++ leBytes 8 e.gtime ++ leBytes 1 e.reason ++ leBytes 1 e.chain ++ leBytes 2 0 ++
    leBytes 4 (e.domain.getD 0xFFFFFFFF) ++ List.replicate 16 0#8

/-- The pool table entry of a pool (R136): its members in ascending domain id, then free slots; an undefined pool is all zero but for
its slots. -/
def State.poolEntry (s : State) (p : Nat) : List Byte :=
  let ms := if p = 0 then [] else s.members p
  let head := match Tab.look s.cad.pools p with
    | none => List.replicate 16 0#8
    | some x =>
      [1#8] ++ leBytes 1 x.pr ++ leBytes 1 x.pc ++ leBytes 1 ms.length ++
        leBytes 1 (ms.filter (fun m => m.2.outcome.isSome)).length ++ leBytes 1 x.grantedRows ++ leBytes 1 x.grantedCols ++
        leBytes 1 x.rounds ++ leBytes 8 x.tRound
  head ++ (List.range 16).flatMap (fun i => leBytes 3 ((ms[i]?.map (·.1)).getD 0xFFFFFF))

/-- The 4-byte entry of R140. -/
def entryWord (e : Line × Bool × Nat) : Nat :=
  e.1.origin.code * 2 ^ 24 + b2n e.2.1 * 2 ^ 23 + e.2.2 * 2 ^ 17 + b2n e.1.col * 2 ^ 16 + e.1.idx

/-- The bytes of a result record (R139), before the padding to 64 bytes. -/
def ResultRec.bytes (r : ResultRec) : List Byte :=
  leBytes 4 r.domain ++ leBytes 1 r.kind ++ leBytes 1 r.proof ++ leBytes 1 r.flags ++ leBytes 1 r.engine ++
    leBytes 2 r.localRows ++ leBytes 2 r.localCols ++ leBytes 2 r.poolRows ++ leBytes 2 r.poolCols ++
    leBytes 4 r.entries.length ++ leBytes 4 r.nodes ++ leBytes 8 r.t0 ++ leBytes 8 r.tDone ++ leBytes 4 r.closeAddr ++
    leBytes 2 r.pool ++ leBytes 2 (r.residRows * 256 + r.residCols) ++ leBytes 4 r.a ++ leBytes 4 r.b ++ leBytes 8 r.fp ++
    r.entries.flatMap (fun e => leBytes 4 (entryWord e))

/-- A lot in the heap (R105): a sparse lot is one codeword, a bitmap 8 KiB. -/
def Lot.bytes (l : Lot) : List Byte :=
  if l.bitmap then
    (List.range 8192).map (fun i => BitVec.ofNat 8 (maskOf ((List.range 8).filter (fun b => l.pts.contains (8 * i + b)))))
  else slice ([0#8] ++ leBytes 1 l.pts.length ++ leBytes 2 0 ++ l.pts.flatMap (leBytes 2)) 0 64

/-- The offset of a partition that a channel-local address holds (R252). -/
def State.offsetOf (s : State) (p : Partition) (c a : Nat) : Option Nat :=
  let chs := channelsOf p.chmask
  (List.range p.parcels.length).findSome? (fun j =>
    let frames := Tab.lookD s.cfg.frames (32 * p.parcels.getD j 0 + c) []
    if frames.contains (a / 2 ^ 23) ∧ chs.contains c then
      let o := frames.idxOf (a / 2 ^ 23) * 2 ^ 23 + a % 2 ^ 23
      some (j * 2 ^ 28 + (o / 2 ^ p.grain * chs.length + chs.idxOf c) * 2 ^ p.grain + o % 2 ^ p.grain)
    else none)

/-- The bytes a place in the heap holds (R102): lots, close and result records; the manual gives spill areas and lot lists no layout,
and a result that another has replaced is free. -/
def Domain.spaceBytes (x : Domain) (p : HeapSpace) : Option (List Byte) :=
  match p.use with
  | .lot k => (Tab.look x.lots k).bind (fun l => if l.bitmap then none else some l.bytes)
  | .bitmap k => (Tab.look x.lots k).map Lot.bytes
  | .closeRec => x.closeRec.map (fun c => c.header ++ c.entries.flatten)
  | .result => if p.first = x.resultAddr then x.result.map ResultRec.bytes else none
  | .spill | .lotList => none

/-- The 64 bytes of a unit of the heap, where their content is stated. -/
def State.heapBytes (s : State) (u : Nat) : Option (List Byte) :=
  s.cad.domains.findSome? (fun e =>
    (e.2.spaces.find? (fun p => decide (p.first ≤ u) && decide (u < p.first + p.units))).bind (fun p =>
      (e.2.spaceBytes p).map (fun l => slice l (64 * (u - p.first)) 64)))

/-- The 64 bytes that the FCE's tables hold at an offset of the CAD partition, where they lie there and are written. -/
def State.cadBytes (s : State) (o : Nat) : Option (List Byte) :=
  if o < excBase then some (s.domain (o / 64)).entry
  else if o < poolBase then (Tab.look s.cad.exc ((o - excBase) / 64)).map ExcEntry.entry
  else if o < heapBase then some (s.poolEntry ((o - poolBase) / 64))
  else s.heapBytes (o / 64)

/-- What a codeword of the CAD partition holds for a reader that can read it (R102). -/
def State.cadImage (s : State) (c a : Nat) : Option (List Byte) :=
  match s.cadPart with
  | none => none
  | some p => (s.offsetOf p.2 c a).bind s.cadBytes

end Sys2Proof.Machine
end

