-- ==== Sys2Proof/Machine/RaeOps.lean ====
section
/-! DEFINITION. Sys2Proof/Machine/RaeOps.lean: redundancy analysis: the search of an engine (R130 to R132), the choice of a
pool round (R133, R134), result records (R137 to R141) and their completion (R143, R146). -/
namespace Sys2Proof.Machine

/-! ### The search (R130) -/

/-- How a stage or a node ends: a solution, a failure with its proof code and words A and B, or a spent budget. The lines
of a failure and of a spent search are those taken at its root before any branch. -/
inductive Found where
  | solution (lines : List Line)
  | fail (proof a b : Nat) (lines : List Line)
  | spent (lines : List Line)
deriving DecidableEq, Repr

/-- Where must-repair stands: the points left, the spares left and the lines taken. -/
structure Residue where
  pts : List (Nat × Nat)
  ar : Nat
  ac : Nat
  lines : List Line
deriving DecidableEq, Repr

/-- Points on a row. -/
def rowCount (p : List (Nat × Nat)) (y : Nat) : Nat := (p.filter (fun q => q.1 == y)).length

/-- Points on a column. -/
def colCount (p : List (Nat × Nat)) (x : Nat) : Nat := (p.filter (fun q => q.2 == x)).length

/-- The rows of some points, ascending. -/
def rowsOf (p : List (Nat × Nat)) : List Nat := ((p.map (·.1)).dedup).insertionSort (· ≤ ·)

/-- The columns of some points, ascending. -/
def colsOf (p : List (Nat × Nat)) : List Nat := ((p.map (·.2)).dedup).insertionSort (· ≤ ·)

/-- Points without a row. -/
def dropRow (p : List (Nat × Nat)) (y : Nat) : List (Nat × Nat) := p.filter (fun q => q.1 != y)

/-- Points without a column. -/
def dropCol (p : List (Nat × Nat)) (x : Nat) : List (Nat × Nat) := p.filter (fun q => q.2 != x)

/-- The rows of a must-repair pass (R130); the line that found no spare is left in the second component. -/
def mustRows (r : Residue) : List Nat → Residue × Option Line
  | [] => (r, none)
  | y :: t =>
    if rowCount r.pts y ≤ r.ac then mustRows r t
    else if r.ar = 0 then (r, some ⟨false, y, .short⟩)
    else mustRows ⟨dropRow r.pts y, r.ar - 1, r.ac, r.lines ++ [⟨false, y, .must⟩]⟩ t

/-- The columns of a must-repair pass (R130). -/
def mustCols (r : Residue) : List Nat → Residue × Option Line
  | [] => (r, none)
  | x :: t =>
    if colCount r.pts x ≤ r.ar then mustCols r t
    else if r.ac = 0 then (r, some ⟨true, x, .short⟩)
    else mustCols ⟨dropCol r.pts x, r.ar, r.ac - 1, r.lines ++ [⟨true, x, .must⟩]⟩ t

/-- Must-repair: passes until one takes no line (R130). -/
def mustRepair : Nat → Residue → Residue × Option Line
  | 0, r => (r, none)
  | n + 1, r =>
    match mustRows r (rowsOf r.pts) with
    | (r1, some l) => (r1, some l)
    | (r1, none) =>
      match mustCols r1 (colsOf r1.pts) with
      | (r2, some l) => (r2, some l)
      | (r2, none) => if r2.lines.length = r.lines.length then (r2, none) else mustRepair n r2

/-- Lines of an axis that heavy lines and must-repair took or needed. -/
def lineCount (l : List Line) (col : Bool) : Nat := (l.filter (fun x => x.col == col)).length

/-- node() of R130: how it ends and the calls made with it. `limit` calls are admitted; `calls` were made before. -/
def searchNode : Nat → Nat → Nat → Residue → Found × Nat
  | 0, _, calls, r => (.spent r.lines, calls)
  | fuel + 1, limit, calls, r =>
    if limit ≤ calls then (.spent r.lines, calls)
    else
      let calls1 := calls + 1
      match mustRepair (r.ar + r.ac + 1) r with
      | (q, some l) =>
        let all := q.lines ++ [l]
        (.fail 1 (lineCount all false) (lineCount all true) all, calls1)
      | (q, none) =>
        match q.pts with
        | [] => (.solution q.lines, calls1)
        | p :: _ =>
          if 2 * q.ar * q.ac < q.pts.length then (.fail 2 q.pts.length (q.ar * 256 + q.ac) q.lines, calls1)
          else
            let byRow : Option Residue := if q.ar = 0 then none else
              some ⟨dropRow q.pts p.1, q.ar - 1, q.ac, q.lines ++ [⟨false, p.1, .branch⟩]⟩
            let byCol : Option Residue := if q.ac = 0 then none else
              some ⟨dropCol q.pts p.2, q.ar, q.ac - 1, q.lines ++ [⟨true, p.2, .branch⟩]⟩
            let order : Option Residue × Option Residue :=
              if colCount q.pts p.2 ≤ rowCount q.pts p.1 then (byRow, byCol) else (byCol, byRow)
            let try1 : Found × Nat := match order.1 with
              | none => (.fail 3 0 0 q.lines, calls1)
              | some c => searchNode fuel limit calls1 c
            match try1 with
            | (.solution l, n) => (.solution l, n)
            | (.spent _, n) => (.spent q.lines, n)
            | (.fail _ _ _ _, n) =>
              match order.2 with
              | none => (.fail 3 0 0 q.lines, n)
              | some c =>
                match searchNode fuel limit n c with
                | (.solution l, m) => (.solution l, m)
                | (.spent _, m) => (.spent q.lines, m)
                | (.fail _ _ _ _, m) => (.fail 3 0 0 q.lines, m)

/-- stage(lr, lc) of R130, with word A of an EXHAUSTIVE failure (R138). -/
def searchStage (c : CloseRec) (lr lc limit calls : Nat) : Found × Nat :=
  let heavy : List Line := c.heavyRows.map (fun e => ⟨false, e.1, .heavy⟩) ++ c.heavyCols.map (fun e => ⟨true, e.1, .heavy⟩)
  if lr < c.hr ∨ lc < c.hc then (.fail 1 c.hr c.hc heavy, calls)
  else
    let ar := lr - c.hr
    let ac := lc - c.hc
    match searchNode (ar + ac + 1) limit calls ⟨c.points, ar, ac, heavy⟩ with
    | (.fail 3 _ _ l, n) => (.fail 3 (n - calls) 0 l, n)
    | r => r

/-! ### The first pass (R131, R132) -/

/-- The option a solution gives (R132). -/
def optionOf (c : CloseRec) (l : List Line) : PoolOption := ⟨lineCount l false - c.rs, lineCount l true - c.cs, l⟩

/-- The outcome of a spent search in a stage: word A is the budget (R138). -/
def spentOutcome (why stage : Nat) (l : List Line) (n : Nat) : PassOutcome := ⟨3, 0, [], false, why, stage, l, n⟩

/-- The outcome of a failed stage. -/
def failOutcome (proof a b : Nat) (l : List Line) (n : Nat) : PassOutcome := ⟨2, proof, [], false, a, b, l, n⟩

/-- The outcome with options found (R132). -/
def optionsOutcome (o : List PoolOption) (cut : Bool) (n : Nat) : PassOutcome := ⟨1, 0, o, cut, 0, 0, [], n⟩

/-- The first pass over a close record (R131, R132): a domain without a pool runs stage L alone. `why` is the budget a
spent search names. -/
def firstPass (c : CloseRec) (limit why : Nat) : PassOutcome :=
  let rmax := c.rs + c.pr
  let cmax := c.cs + c.pc
  match searchStage c c.rs c.cs limit 0 with
  | (.solution l, n) => optionsOutcome [⟨0, 0, l⟩] false n
  | (.spent l, n) => spentOutcome why 0 l n
  | (.fail p a b l, n) =>
    if c.pool = 0 ∨ (c.pr = 0 ∧ c.pc = 0) then failOutcome p a b l n
    else
      match searchStage c rmax c.cs limit n with
      | (.spent l1, n1) => spentOutcome why 1 l1 n1
      | (.solution l1, n1) =>
        match searchStage c c.rs cmax limit n1 with
        | (.solution l2, n2) => optionsOutcome [optionOf c l1, optionOf c l2] false n2
        | (.fail _ _ _ _, n2) => optionsOutcome [optionOf c l1] false n2
        | (.spent _, n2) => optionsOutcome [optionOf c l1] true n2
      | (.fail _ _ _ _, n1) =>
        match searchStage c c.rs cmax limit n1 with
        | (.solution l2, n2) => optionsOutcome [optionOf c l2] false n2
        | (.spent l2, n2) => spentOutcome why 2 l2 n2
        | (.fail _ _ _ _, n2) =>
          match searchStage c rmax cmax limit n2 with
          | (.solution l3, n3) => optionsOutcome [optionOf c l3] false n3
          | (.spent l3, n3) => spentOutcome why 3 l3 n3
          | (.fail p3 a3 b3 l3, n3) => failOutcome p3 a3 b3 l3 n3

/-- The outcome of an OVF domain (R124, R138). -/
def overflowOutcome (c : CloseRec) : PassOutcome := ⟨4, 0, [], false, c.hr * 65536 + c.hc, c.lp, [], 0⟩

/-! ### Result records (R137 to R141) -/

/-- The lines of an axis, ascending (R140). -/
def sortLines (l : List Line) (col : Bool) : List Line :=
  (l.filter (fun x => x.col == col)).insertionSort (fun x y => x.idx ≤ y.idx)

/-- Spares assigned to the lines of an axis (R141): the local ones first, then pool spares from `base` on. -/
def assign (l : List Line) (spares base : Nat) : List (Line × Bool × Nat) :=
  ((List.range l.length).zip l).map (fun e =>
    if e.1 < spares then (e.2, false, e.1) else (e.2, true, base + (e.1 - spares)))

/-- The entries of a SOLVED record (R140, R141). -/
def solvedEntries (c : CloseRec) (l : List Line) (baseRow baseCol : Nat) : List (Line × Bool × Nat) :=
  assign (sortLines l false) c.rs baseRow ++ assign (sortLines l true) c.cs baseCol

/-- The size of a result record (R139). -/
def ResultRec.size (r : ResultRec) : Nat := ceilDiv (64 + 4 * r.entries.length) 64 * 64

/-- The result of a domain with a repair assignment. -/
def solvedResult (x : Domain) (c : CloseRec) (o : PassOutcome) (l : List Line) (engine t0 now : Nat)
    (base resid : Nat × Nat) : ResultRec :=
  let rows := lineCount l false
  let cols := lineCount l true
  { domain := c.domain, kind := 1, proof := 0
    flags := c.flags % 16 + 16 * b2n o.partialSearch + 32 * b2n (c.pool != 0) + 64 * b2n x.reanalysed
    engine := engine, localRows := min rows c.rs, localCols := min cols c.cs
    poolRows := rows - c.rs, poolCols := cols - c.cs, nodes := o.nodes, t0 := t0, tDone := now
    closeAddr := x.closeAddr, pool := c.pool, residRows := resid.1, residCols := resid.2, a := 0, b := 0, fp := c.fp
    entries := solvedEntries c l base.1 base.2 }

/-- The result of a domain without one: kind, proof, words A and B, and the lines in the order taken. -/
def plainResult (x : Domain) (c : CloseRec) (o : PassOutcome) (kind proof a b : Nat) (l : List Line) (engine t0 now : Nat)
    (resid : Nat × Nat) : ResultRec :=
  { domain := c.domain, kind := kind, proof := proof
    flags := c.flags % 16 + 16 * b2n o.partialSearch + 32 * b2n (c.pool != 0) + 64 * b2n x.reanalysed
    engine := engine, localRows := 0, localCols := 0, poolRows := 0, poolCols := 0, nodes := o.nodes, t0 := t0
    tDone := now, closeAddr := x.closeAddr, pool := c.pool, residRows := resid.1, residCols := resid.2, a := a, b := b
    fp := c.fp, entries := l.map (fun y => (y, false, 0)) }

/-- The result of a domain without a pool. -/
def soloResult (x : Domain) (c : CloseRec) (o : PassOutcome) (engine now : Nat) : ResultRec :=
  match o.options with
  | p :: _ => solvedResult x c o p.lines engine x.tClosedT0 now (0, 0) (0, 0)
  | [] => plainResult x c o o.kind o.proof o.a o.b o.lines engine x.tClosedT0 now (0, 0)

/-! ### Completion (R135, R137, R146) -/

/-- Traffic of a class: charged and served (R155, R162), and whether it conforms. -/
def State.traffic (s : State) (n bytes label : Nat) : State × Bool :=
  let ch := s.charge n bytes
  (ch.1.served n bytes ch.2 (some label), ch.2)

/-- The label of analysis traffic (R155). -/
def State.raeLabel (s : State) : Nat := s.fld Reg.RAE_RING_CFG Fld.RAE_RING_CFG_LABEL

/-- The class of analysis traffic (R155, R157). -/
def State.raeClass (s : State) : Nat := s.labelUser s.raeLabel

/-- The counter of a result kind (R148). -/
def kindReg : Nat → Nat
  | 1 => Reg.RAE_CNT_SOLVED
  | 2 => Reg.RAE_CNT_UNREP
  | 3 => Reg.RAE_CNT_UNDEC
  | _ => Reg.RAE_CNT_OVF

/-- A result record written: the domain is DONE, the result is counted, and its copy waits (R135, R137, R146). CCLK runs
at four cycles to a step of GTIME. -/
def State.finish (s : State) (r : ResultRec) : State :=
  let x := s.domain r.domain
  let s1 := ((s.setDomain r.domain
    { x with state := .done, result := some r, outcome := none, resultAddr := x.placeOf .result }).traffic
      s.raeClass r.size s.raeLabel).1
  let s2 := ((s1.inc64 (kindReg r.kind)).count 0x11 1 r.kind none r.domain r.kind).wrN Reg.RAE_LAT_MAX
    (min 0xFFFFFFFF (max (s1.rdN Reg.RAE_LAT_MAX) (4 * (r.tDone - r.t0))))
  let s3 := if r.kind = 3 then s2.event Reg.RAE_EVENTS Fld.RAE_EVENTS_UNDECIDED else s2
  let s4 := if r.kind = 2 ∧ r.proof = 4 then s3.event Reg.RAE_EVENTS Fld.RAE_EVENTS_POOL_EXHAUSTED else s3
  { s4 with rae := { s4.rae with copyQ := s4.rae.copyQ ++ [r] } }

/-! ### Pool rounds (R133 to R136) -/

/-- The condition of a round of a pool (R133). -/
def State.roundReady (s : State) (p : Nat) : Bool :=
  p != 0 && (s.members p).all (fun e => e.2.state == .done || e.2.outcome.isSome) &&
    (s.members p).any (fun e => e.2.outcome.isSome)

/-- A round comes due in the cycle in which its condition holds, for the members that hold outcomes (R133): `runner` is the engine whose
first pass completed the condition. -/
def State.checkRound (s : State) (p : Nat) (runner : Option Nat) : State :=
  match Tab.look s.cad.pools p with
  | some x =>
    if s.roundReady p && x.round.isEmpty then
      let ids := ((s.members p).filter (fun e => e.2.outcome.isSome)).map (·.1)
      { s with cad := { s.cad with pools := Tab.put s.cad.pools p { x with round := ids, runner := runner } } }
    else s
  | none => s

/-- A round of a pool has come due. -/
def State.roundDue (s : State) (p : Nat) : Bool :=
  match Tab.look s.cad.pools p with
  | some x => !x.round.isEmpty
  | none => false

/-- A choice of a round: for each candidate in ascending domain id, the number of its option or none. -/
abbrev Choice := List (Option Nat)

/-- What a choice grants, over the candidates' options. -/
def choiceDemand : List (List PoolOption) → Choice → Nat × Nat
  | o :: os, some i :: c =>
    let d := choiceDemand os c
    match o[i]? with
    | some x => (x.rows + d.1, x.cols + d.2)
    | none => d
  | _ :: os, none :: c => choiceDemand os c
  | _, _ => (0, 0)

/-- Every choice whose demand fits the residual spares. -/
def choices : List (List PoolOption) → Nat → Nat → List Choice
  | [], _, _ => [[]]
  | o :: os, rows, cols =>
    ((List.range o.length).zip o).flatMap (fun e =>
      if e.2.rows ≤ rows ∧ e.2.cols ≤ cols then (choices os (rows - e.2.rows) (cols - e.2.cols)).map (fun c => some e.1 :: c)
      else []) ++ (choices os rows cols).map (fun c => none :: c)

/-- Criterion 3 of R134: the choice that serves the lower id is better. -/
def servesLower : Choice → Choice → Option Bool
  | x :: xs, y :: ys => if x.isSome = y.isSome then servesLower xs ys else some x.isSome
  | _, _ => none

/-- Criterion 4 of R134: the lower option number, in ascending domain id. -/
def lowerOption : Choice → Choice → Bool
  | some i :: xs, some j :: ys => if i = j then lowerOption xs ys else decide (i < j)
  | _ :: xs, _ :: ys => lowerOption xs ys
  | _, _ => false

/-- A choice is better than another by the criteria of R134. -/
def betterChoice (o : List (List PoolOption)) (x y : Choice) : Bool :=
  let n (c : Choice) := (c.filter Option.isSome).length
  let t (c : Choice) := (choiceDemand o c).1 + (choiceDemand o c).2
  if n x ≠ n y then decide (n y < n x)
  else if t x ≠ t y then decide (t x < t y)
  else match servesLower x y with
    | some b => b
    | none => lowerOption x y

/-- The best choice (R134). -/
def bestChoice (o : List (List PoolOption)) (rows cols : Nat) : Choice :=
  (choices o rows cols).foldl (fun b c => if betterChoice o c b then c else b) (o.map (fun _ => none))

/-- The smallest demand among a member's options (R138): the fewest spares, then the fewer rows, then the lower number. -/
def smallestOption : List PoolOption → PoolOption
  | [] => ⟨0, 0, []⟩
  | o :: os => os.foldl (fun b c =>
      if c.rows + c.cols < b.rows + b.cols ∨ (c.rows + c.cols = b.rows + b.cols ∧ c.rows < b.rows) then c else b) o

/-- The results of a round's candidates in ascending domain id, with the first free pool spares of either kind; `before`
is the residual at the round and `after` the residual it leaves. -/
def roundResults (engine t0 now : Nat) (before after : Nat × Nat) :
    List (Domain × CloseRec × PassOutcome) → Choice → Nat × Nat → List ResultRec
  | (x, c, o) :: r, ch, base =>
    match ch.headD none with
    | some i =>
      match o.options[i]? with
      | some p => solvedResult x c o p.lines engine t0 now base after ::
          roundResults engine t0 now before after r ch.tail (base.1 + p.rows, base.2 + p.cols)
      | none => roundResults engine t0 now before after r ch.tail base
    | none =>
      let q := smallestOption o.options
      (if o.kind = 1 then plainResult x c o 2 4 (q.rows * 256 + q.cols) (before.1 * 256 + before.2) q.lines engine t0 now after
        else plainResult x c o o.kind o.proof o.a o.b o.lines engine t0 now after) ::
        roundResults engine t0 now before after r ch.tail base
  | [], _, _ => []

/-- The candidates of a round: the members that held outcomes when it came due (R133). -/
def State.candidates (s : State) (p : Nat) : List (Domain × CloseRec × PassOutcome) :=
  let ids := ((Tab.look s.cad.pools p).map (·.round)).getD []
  ((s.members p).filter (fun e => ids.contains e.1)).filterMap (fun e =>
    match e.2.closeRec, e.2.outcome with
    | some c, some o => some (e.2, c, o)
    | _, _ => none)

/-- A round of a pool run by an engine (R133 to R136, R143). -/
def State.round (s : State) (p engine : Nat) : State :=
  match Tab.look s.cad.pools p with
  | none => s
  | some x =>
    let cs := s.candidates p
    let opts := cs.map (fun c => c.2.2.options)
    let before := (x.pr - x.grantedRows, x.pc - x.grantedCols)
    let best := bestChoice opts before.1 before.2
    let grant := choiceDemand opts best
    let t0 := (cs.map (fun c => c.1.tClosedT0)).foldl max 0
    let rs := roundResults engine t0 s.now before (before.1 - grant.1, before.2 - grant.2) cs best
      (x.grantedRows, x.grantedCols)
    let s1 := rs.foldl (fun t r => t.finish r) s
    let y : Pool := { x with
      grantedRows := x.grantedRows + grant.1
      grantedCols := x.grantedCols + grant.2
      rounds := (x.rounds + 1) % 256
      tRound := s.now
      round := []
      runner := none }
    { s1 with cad := { s1.cad with pools := Tab.put s1.cad.pools p y } }

/-! ### Engines (R123, R125, R347) -/

/-- An engine is in the pool (R125). -/
def Engine.inPool (e : Engine) : Bool := !e.leg && !e.failed

/-- An engine runs the round of some pool next (R133). -/
def State.runsRound (s : State) (e : Nat) : Bool := s.cad.pools.any (fun p => p.2.runner == some e)

/-- An engine in the pool and idle. -/
def State.idleEngine (s : State) (e : Nat) : Bool :=
  (s.engine e).inPool && (s.engine e).domain.isNone && !s.runsRound e

/-- Engines analysing. -/
def State.busyEngines (s : State) : Nat := (s.rae.engines.filter (fun e => e.2.domain.isSome)).length

/-- The lowest-numbered engine in the pool and idle, while the throttle action admits one more (R123, R347). -/
def State.freeEngine (s : State) : Option Nat :=
  if s.busyEngines < s.rae.limit then (List.range 64).find? s.idleEngine else none

/-- An engine whose analysis stops before its end (R126, R148). -/
def State.engineStops (s : State) (x : Engine) : Engine :=
  { x with domain := none, phase := 0, spent := none, elapsed := min 0xFFFFFFFF (4 * (s.now - x.tTake)) }

/-- The node() calls a domain's node budget admits (R127). -/
def Domain.nodeLimit (x : Domain) : Nat := x.nbud * 1024

/-- The outcome of an engine's first pass: the search within the calls it had; where both budgets are found spent at one
call, word A names the node budget (R138). -/
def State.passOutcome (s : State) (e d : Nat) (c : CloseRec) : PassOutcome :=
  let limit := (s.domain d).nodeLimit
  match (s.engine e).spent with
  | some (1, n) => if n < limit then firstPass c n 1 else firstPass c limit 2
  | _ => firstPass c limit 2

/-- The calls of node() that an engine's analysis makes before it ends. -/
def State.nodesToMake (s : State) (e : Nat) : Nat :=
  match (s.engine e).domain with
  | none => 0
  | some d => (((s.domain d).closeRec).map (fun c => (s.passOutcome e d c).nodes)).getD 0

/-- How far an analysis comes in a tick (R148, R149): the close record is loaded, then calls of node() are counted, and once all
have been made the outcome is written; how fast is free. -/
def State.engineTick (s : State) (e : Nat) : State :=
  let x := s.engine e
  let room := s.nodesToMake e - x.nodes
  if x.domain.isNone then s
  else if x.phase = 1 then s.draw.setEngine e { x with phase := 1 + Config.freeNat s.fresh % 2 }
  else if 0 < room then s.draw.setEngine e { x with nodes := x.nodes + Config.freeNat s.fresh % (room + 1) }
  else s.setEngine e { x with phase := 3 }

/-- A tick of all engines that analyse. -/
def State.enginesTick (s : State) : State :=
  (s.rae.engines.map (·.1)).foldl (fun (t : State) e => t.engineTick e) s

/-- An outcome of a domain taken (R131, R132, R144): a result without a pool, or held for the round, which the engine of the first pass
runs where it completes the condition; the dispatcher of an OVF domain is no engine (R124, R133). -/
def State.takeOutcome (s : State) (d engine : Nat) (o : PassOutcome) : State :=
  let x := s.domain d
  match x.closeRec with
  | none => s
  | some c =>
    if c.pool = 0 then s.finish (soloResult x c o engine s.now)
    else (s.setDomain d { x with state := .analysing, outcome := some o }).checkRound c.pool (if engine < 64 then some engine else none)

end Sys2Proof.Machine
end

