-- ==== Sys2Proof/Machine/Crypto.lean ====
section
/-! DEFINITION. Sys2Proof/Machine/Crypto.lean: the standard functions that Security and trust names and the standards in its scope
define: SHA-512 (FIPS 180-4), HMAC-SHA-512 (FIPS 198-1), and ECDSA, key pairs, public-key validation and ECDH on curve P-521
(FIPS 186-5, SP 800-186, SP 800-56A); notes/assumptions/30.md. Strings and numbers are big-endian, as R412 gives keys and signature
values. -/
namespace Sys2Proof.Machine

/-- A string as a big-endian number. -/
def beNat (l : List Byte) : Nat := leNat l.reverse

/-- A number as a big-endian string. -/
def beString (count n : Nat) : List Byte := (leBytes count n).reverse

/-! ### SHA-512 and HMAC -/

/-- A 64-bit rotation to the right. -/
def rotr64 (n x : Nat) : Nat := (x >>> n ||| x <<< (64 - n)) % 2 ^ 64

/-- The eight words of a hash value, and the working variables. -/
structure HashWords where
  a : Nat
  b : Nat
  c : Nat
  d : Nat
  e : Nat
  f : Nat
  g : Nat
  h : Nat
deriving DecidableEq, Repr

/-- The initial hash value. -/
def hashInit : HashWords :=
  ⟨0x6A09E667F3BCC908, 0xBB67AE8584CAA73B, 0x3C6EF372FE94F82B, 0xA54FF53A5F1D36F1,
   0x510E527FADE682D1, 0x9B05688C2B3E6C1F, 0x1F83D9ABFB41BD6B, 0x5BE0CD19137E2179⟩

/-- The 80 round constants. -/
def hashRounds : List Nat :=
  [0x428A2F98D728AE22, 0x7137449123EF65CD, 0xB5C0FBCFEC4D3B2F, 0xE9B5DBA58189DBBC,
   0x3956C25BF348B538, 0x59F111F1B605D019, 0x923F82A4AF194F9B, 0xAB1C5ED5DA6D8118] ++
  [0xD807AA98A3030242, 0x12835B0145706FBE, 0x243185BE4EE4B28C, 0x550C7DC3D5FFB4E2,
   0x72BE5D74F27B896F, 0x80DEB1FE3B1696B1, 0x9BDC06A725C71235, 0xC19BF174CF692694] ++
  [0xE49B69C19EF14AD2, 0xEFBE4786384F25E3, 0x0FC19DC68B8CD5B5, 0x240CA1CC77AC9C65,
   0x2DE92C6F592B0275, 0x4A7484AA6EA6E483, 0x5CB0A9DCBD41FBD4, 0x76F988DA831153B5] ++
  [0x983E5152EE66DFAB, 0xA831C66D2DB43210, 0xB00327C898FB213F, 0xBF597FC7BEEF0EE4,
   0xC6E00BF33DA88FC2, 0xD5A79147930AA725, 0x06CA6351E003826F, 0x142929670A0E6E70] ++
  [0x27B70A8546D22FFC, 0x2E1B21385C26C926, 0x4D2C6DFC5AC42AED, 0x53380D139D95B3DF,
   0x650A73548BAF63DE, 0x766A0ABB3C77B2A8, 0x81C2C92E47EDAEE6, 0x92722C851482353B] ++
  [0xA2BFE8A14CF10364, 0xA81A664BBC423001, 0xC24B8B70D0F89791, 0xC76C51A30654BE30,
   0xD192E819D6EF5218, 0xD69906245565A910, 0xF40E35855771202A, 0x106AA07032BBD1B8] ++
  [0x19A4C116B8D2D0C8, 0x1E376C085141AB53, 0x2748774CDF8EEB99, 0x34B0BCB5E19B48A8,
   0x391C0CB3C5C95A63, 0x4ED8AA4AE3418ACB, 0x5B9CCA4F7763E373, 0x682E6FF3D6B2B8A3] ++
  [0x748F82EE5DEFB2FC, 0x78A5636F43172F60, 0x84C87814A1F0AB72, 0x8CC702081A6439EC,
   0x90BEFFFA23631E28, 0xA4506CEBDE82BDE9, 0xBEF9A3F7B2C67915, 0xC67178F2E372532B] ++
  [0xCA273ECEEA26619C, 0xD186B8C721C0C207, 0xEADA7DD6CDE0EB1E, 0xF57D4F7FEE6ED178,
   0x06F067AA72176FBA, 0x0A637DC5A2C898A6, 0x113F9804BEF90DAE, 0x1B710B35131C471B] ++
  [0x28DB77F523047D84, 0x32CAAB7B40C72493, 0x3C9EBE0A15C9BEBC, 0x431D67C49C100D4C,
   0x4CC5D4BECB3E42B6, 0x597F299CFC657E2A, 0x5FCB6FAB3AD6FAEC, 0x6C44198C4A475817]

/-- One round under a constant and a word of the message schedule. -/
def HashWords.round (v : HashWords) (k w : Nat) : HashWords :=
  let s1 := rotr64 14 v.e ^^^ rotr64 18 v.e ^^^ rotr64 41 v.e
  let ch := (v.e &&& v.f) ^^^ ((2 ^ 64 - 1 - v.e) &&& v.g)
  let t1 := v.h + s1 + ch + k + w
  let s0 := rotr64 28 v.a ^^^ rotr64 34 v.a ^^^ rotr64 39 v.a
  let maj := (v.a &&& v.b) ^^^ (v.a &&& v.c) ^^^ (v.b &&& v.c)
  ⟨(t1 + s0 + maj) % 2 ^ 64, v.a, v.b, v.c, (v.d + t1) % 2 ^ 64, v.e, v.f, v.g⟩

/-- The next word of the message schedule from the ones before it, newest first. -/
def scheduleNext (w : List Nat) : Nat :=
  let x := w.getD 14 0
  let y := w.getD 1 0
  ((rotr64 19 y ^^^ rotr64 61 y ^^^ y >>> 6) + w.getD 6 0 + (rotr64 1 x ^^^ rotr64 8 x ^^^ x >>> 7) + w.getD 15 0) % 2 ^ 64

/-- The message schedule carried on by `n` words, newest first. -/
def scheduleMore : Nat → List Nat → List Nat
  | 0, w => w
  | n + 1, w => scheduleMore n (scheduleNext w :: w)

/-- The rounds over the words of a schedule. -/
def HashWords.rounds : HashWords → List Nat → List Nat → HashWords
  | v, k :: ks, w :: ws => (v.round k w).rounds ks ws
  | v, _, _ => v

/-- The hash value after a block of 128 bytes. -/
def HashWords.absorb (v : HashWords) (block : List Byte) : HashWords :=
  let w := (List.range 16).map (fun i => beNat (slice block (120 - 8 * i) 8))
  let t := v.rounds hashRounds (scheduleMore 64 w).reverse
  ⟨(v.a + t.a) % 2 ^ 64, (v.b + t.b) % 2 ^ 64, (v.c + t.c) % 2 ^ 64, (v.d + t.d) % 2 ^ 64,
   (v.e + t.e) % 2 ^ 64, (v.f + t.f) % 2 ^ 64, (v.g + t.g) % 2 ^ 64, (v.h + t.h) % 2 ^ 64⟩

/-- The hash value after whole blocks. -/
def hashBlocks : Nat → HashWords → List Byte → HashWords
  | 0, v, _ => v
  | n + 1, v, l => hashBlocks n (v.absorb (l.take 128)) (l.drop 128)

/-- A message padded: a 1 bit, zeros, and its length in bits over 16 bytes. -/
def hashPad (l : List Byte) : List Byte :=
  l ++ [0x80#8] ++ List.replicate ((239 - l.length % 128) % 128) 0 ++ beString 16 (8 * l.length)

/-- SHA-512, as 64 bytes. -/
def sha512Bytes (l : List Byte) : List Byte :=
  let m := hashPad l
  let v := hashBlocks (m.length / 128) hashInit m
  [v.a, v.b, v.c, v.d, v.e, v.f, v.g, v.h].flatMap (beString 8)

/-- SHA-512, byte i of the digest in bits 8i + 7 to 8i. -/
def sha512 (l : List Byte) : BitVec 512 := BitVec.ofNat 512 (leNat (sha512Bytes l))

/-- A key of HMAC-SHA-512 brought to a block's length and combined with a pad byte. -/
def hmacPad (key : List Byte) (pad : Byte) : List Byte :=
  let k := if 128 < key.length then sha512Bytes key else key
  (List.range 128).map (fun i => k.getD i 0 ^^^ pad)

/-- HMAC-SHA-512 of a message under a key, byte i in bits 8i + 7 to 8i. -/
def hmac512 (key msg : List Byte) : BitVec 512 :=
  sha512 (hmacPad key 0x5C ++ sha512Bytes (hmacPad key 0x36 ++ msg))

/-! ### Curve P-521 -/

/-- The prime of the field. -/
def p521 : Nat := 2 ^ 521 - 1

/-- The coefficient b; a is -3. -/
def p521B : Nat := 0x51953EB9618E1C9A1F929A21A0B68540EEA2DA725B99B315F3B8B489918EF109 * 2 ^ 264 +
  0xE156193951EC7E937B1652C0BD3BB1BF073573DF883D2C34F1EF451FD46B503F00

/-- The order of the base point. -/
def p521Order : Nat := 0x1FFFFFFFFFFFFFFFFFFFFFFFFFFFFFFFFFFFFFFFFFFFFFFFFFFFFFFFFFFFFFFFF * 2 ^ 264 +
  0xFA51868783BF2F966B7FCC0148F709A5D03BB5C9B8899C47AEBB6FB71E91386409

/-- The base point's x. -/
def p521Gx : Nat := 0xC6858E06B70404E9CD9E3ECB662395B4429C648139053FB521F828AF606B4D3D * 2 ^ 264 +
  0xBAA14B5E77EFE75928FE1DC127A2FFA8DE3348B3C1856A429BF97E7E31C2E5BD66

/-- The base point's y. -/
def p521Gy : Nat := 0x11839296A789A3BC0045C8A5FB42C7D1BD998F54449579B446817AFBD17273E66 * 2 ^ 264 +
  0x2C97EE72995EF42640C550B9013FAD0761353C7086A272C24088BE94769FD16650

/-- A power modulo a number, over the `fuel` low bits of the exponent. -/
def powMod (m base e : Nat) : Nat → Nat
  | 0 => 1 % m
  | fuel + 1 => (let h := powMod m base (e / 2) fuel
    if e % 2 = 1 then h * h % m * base % m else h * h % m)

/-- The inverse modulo a prime of 521 bits. -/
def invMod (m a : Nat) : Nat := powMod m (a % m) (m - 2) 521

/-- A point in Jacobian coordinates: (x / z², y / z³); z = 0 at infinity. -/
structure CurvePoint where
  x : Nat
  y : Nat
  z : Nat
deriving DecidableEq, Repr

/-- A difference in the field. -/
def subP (a b : Nat) : Nat := (a + (p521 - b % p521)) % p521

/-- A point doubled. -/
def CurvePoint.double (q : CurvePoint) : CurvePoint :=
  let zz := q.z * q.z % p521
  let yy := q.y * q.y % p521
  let s := 4 * q.x * yy % p521
  let m := 3 * subP q.x zz * (q.x + zz) % p521
  let x := subP (m * m) (2 * s)
  ⟨x, subP (m * subP s x) (8 * yy * yy), 2 * q.y * q.z % p521⟩

/-- The sum of two points. -/
def CurvePoint.add (q r : CurvePoint) : CurvePoint :=
  if q.z = 0 then r
  else if r.z = 0 then q
  else
    let z1 := q.z * q.z % p521
    let z2 := r.z * r.z % p521
    let u1 := q.x * z2 % p521
    let u2 := r.x * z1 % p521
    let s1 := q.y * z2 * r.z % p521
    let s2 := r.y * z1 * q.z % p521
    if u1 = u2 then (if s1 = s2 then q.double else ⟨1, 1, 0⟩)
    else
      let h := subP u2 u1
      let t := subP s2 s1
      let hh := h * h % p521
      let hhh := h * hh % p521
      let v := u1 * hh % p521
      let x := subP (t * t) (hhh + 2 * v)
      ⟨x, subP (t * subP v x) (s1 * hhh), h * q.z * r.z % p521⟩

/-- A multiple of a point, over the `fuel` low bits of the factor. -/
def CurvePoint.times (q : CurvePoint) (k : Nat) : Nat → CurvePoint
  | 0 => ⟨1, 1, 0⟩
  | fuel + 1 => (let h := (q.times (k / 2) fuel).double
    if k % 2 = 1 then h.add q else h)

/-- The base point. -/
def curveBase : CurvePoint := ⟨p521Gx, p521Gy, 1⟩

/-- A point's affine x; none at infinity. -/
def CurvePoint.affineX (q : CurvePoint) : Option Nat :=
  if q.z = 0 then none else some (q.x * powMod p521 q.z (p521 - 3) 521 % p521)

/-- A point's affine y, 0 at infinity. -/
def CurvePoint.affineY (q : CurvePoint) : Nat :=
  let i := invMod p521 q.z
  q.y * i % p521 * i % p521 * i % p521

/-- The point of a 133-byte uncompressed string. -/
def curvePoint (key : List Byte) : CurvePoint := ⟨beNat (slice key 1 66), beNat (slice key 67 66), 1⟩

/-- Public-key validation of a 133-byte uncompressed string (SP 800-56A): its form, the range of its coordinates, the curve. The
order of the curve is prime, so that every such point has the order of the base point. -/
def p521Valid (key : List Byte) : Bool :=
  let q := curvePoint key
  key.length == 133 && key.headD 0 == 0x04 && decide (q.x < p521) && decide (q.y < p521) &&
    q.y * q.y % p521 == subP (q.x * q.x * q.x + p521B) (3 * q.x)

/-- The public key of a private scalar, 133 bytes uncompressed. -/
def p521Public (scalar : List Byte) : List Byte :=
  let q := curveBase.times (beNat scalar) 528
  0x04#8 :: (beString 66 (q.affineX.getD 0) ++ beString 66 q.affineY)

/-- ECDH: the x-coordinate of the product of a private scalar and a public key, 66 bytes. -/
def ecdhX (scalar key : List Byte) : List Byte := beString 66 ((((curvePoint key).times (beNat scalar) 528).affineX).getD 0)

/-- The number a digest stands for: 512 bits are fewer than the order has. -/
def digestNat (msg : List Byte) : Nat := beNat (sha512Bytes msg)

/-- ECDSA with SHA-512: the 132-byte signature r, s verifies for a public key and a message. -/
def ecdsaVerify (key msg sig : List Byte) : Bool :=
  let r := beNat (slice sig 0 66)
  let s := beNat (slice sig 66 66)
  let w := invMod p521Order s
  let u1 := digestNat msg * w % p521Order
  let u2 := r * w % p521Order
  p521Valid key && decide (0 < r) && decide (r < p521Order) && decide (0 < s) && decide (s < p521Order) &&
    (match ((curveBase.times u1 521).add ((curvePoint key).times u2 521)).affineX with
    | some x => x % p521Order == r
    | none => false)

/-- A per-message secret, from 66 random bytes: 1 to the order less 1. -/
def ecdsaSecret (random : List Byte) : Nat := leNat random % (p521Order - 1) + 1

/-- ECDSA with SHA-512: the signature r, s of a message under a private scalar and a per-message secret, 132 bytes. -/
def ecdsaSign (secret : Nat) (scalar msg : List Byte) : List Byte :=
  let r := ((curveBase.times secret 521).affineX.getD 0) % p521Order
  let s := invMod p521Order secret * ((digestNat msg + r * beNat scalar) % p521Order) % p521Order
  beString 66 r ++ beString 66 s

end Sys2Proof.Machine
end

