-- ==== Sys2Proof/Machine/Safe.lean ====
section
/-! DEFINITION. Sys2Proof/Machine/Safe.lean: entering a mode (R22, R386), how sessions end (R421), and the safe-state
reaction that every FATAL fault shares (R273, R362, R383, R384). -/
namespace Sys2Proof.Machine

/-- Time in the present mode counts as unscheduled unavailability (R22). -/
def State.unscheduled (s : State) : Bool :=
  match s.mode with
  | .cold | .load | .safe => true
  | .service | .hold => false
  | .maintain => s.avail.maintLoad

/-- The CRC-16 of an availability slot (R386): over its fields in the order they stand in, little-endian. -/
def AvSlot.crcOf (x : AvSlot) : Nat :=
  crc16 (leBytes 8 x.unsched ++ leBytes 8 x.avail ++ leBytes 4 x.loads ++ leBytes 4 x.safes ++ leBytes 1 x.mode ++
    leBytes 1 (b2n x.counts) ++ leBytes 4 x.seq ++ leBytes 4 x.trial)

/-- The availability counts of now as a slot. -/
def State.slotNow (s : State) : AvSlot :=
  let x : AvSlot :=
    ⟨s.avail.unsched, s.avail.avail, s.avail.loads, s.avail.safes, s.mode.code, s.unscheduled, s.avail.slotSeq, s.upd.trialMs, 0⟩
  { x with crc := x.crcOf }

/-- The availability counts written to the next of the 32 ledger slots (R386). -/
def State.writeSlot (s : State) : State :=
  { s with avail := { s.avail with
      slots := Tab.put s.avail.slots (s.avail.slotSeq % 32) s.slotNow
      slotSeq := (s.avail.slotSeq + 1) % 4294967296 } }

/-- The gap and fence timers over a change of mode (chapter 04 Modes): outside SERVICE they stand still and keep their remaining
time. -/
def CadSt.timersOver (c : CadSt) (old new : Mode) (now : Nat) : CadSt :=
  if old = .service ∧ new ≠ .service then { c with tLeft := now }
  else if old ≠ .service ∧ new = .service then
    let away := now - c.tLeft
    { c with
      sources := c.sources.map (fun e => (e.1, if e.2.timer then { e.2 with tGap := e.2.tGap + away } else e.2))
      domains := c.domains.map (fun e => (e.1, if e.2.timer then { e.2 with fenceDue := e.2.fenceDue + 2 * away } else e.2)) }
  else c

/-- A mode entered: entries into SAFE are counted, and the counts go to the ledger (R385, R386). -/
def State.enterMode (s : State) (m : Mode) : State :=
  ({ s with
      mode := m, trans := none, cad := s.cad.timersOver s.mode m s.now
      avail := { s.avail with safes := s.avail.safes + b2n (decide (m = Mode.safe)) } }).writeSlot.ledgerWrote
    [.slot (s.avail.slotSeq % 32)]

/-- The read latches of sessions emptied (R497). -/
def State.dropLatches (s : State) (gone : List (Nat × Session)) : State :=
  { s with latches := s.latches.filter (fun l => !gone.any (fun e => l.1 == 65536 * e.2.path + e.2.sid)) }

/-- Requests that were accepted before the end of a session are still being answered, or its last tagged answer has not been sent
(R421). -/
def State.sessionOwed (s : State) (e : Nat × Session) : Bool :=
  s.sec.serving == some (e.1, e.2.sid) ||
    s.dmc.jobs.any (fun j => j.2.sess.any (fun x => x.1 == e.1 && x.2.sid == e.2.sid)) ||
    s.sec.enrol.any (fun j => j.via != .lost && j.sess.1 == e.1 && j.sess.2.sid == e.2.sid) ||
    (s.chainP e.2.path).waiting.any (fun w => w.pkt.tagged && leAt w.pkt.payload 0 2 == e.2.sid)

/-- The sessions that satisfy a test end (R421): their slots are freed and their read latches emptied; one with requests that
are still being answered keeps its slot and its keys for those answers. -/
def State.endSessions (s : State) (p : Session → Bool) : State :=
  let gone := s.sec.sessions.filter (fun e => p e.2)
  ({ s with sec := { s.sec with
      sessions := s.sec.sessions.filter (fun e => !p e.2), closing := s.sec.closing ++ gone.filter s.sessionOwed } }).dropLatches gone

/-- Sessions that have ended are forgotten with the last of their answers (R421). -/
def State.forgetSessions (s : State) : State :=
  { s with sec := { s.sec with closing := s.sec.closing.filter s.sessionOwed } }

/-- The sessions that satisfy a test end on a chain's end, a warm load or a FATAL fault (R422): their keys are erased at once, those of
sessions that had ended before with them, and no answer is sent under them any more. -/
def State.endAtOnce (s : State) (p : Session → Bool) : State :=
  let gone := (s.sec.sessions ++ s.sec.closing).filter (fun e => p e.2)
  let hit (path sid : Nat) : Bool := gone.any (fun e => e.2.path == path && e.2.sid == sid)
  ({ s with
    sec := { s.sec with
      sessions := s.sec.sessions.filter (fun e => !p e.2)
      closing := s.sec.closing.filter (fun e => !p e.2)
      enrol := s.sec.enrol.map (fun (j : EnrolJob) => if p j.sess.2 then { j with via := .lost, later := [] } else j) }
    dmc := { s.dmc with jobs := s.dmc.jobs.filter (fun (j : Nat × BrdJob) => !j.2.sess.any (fun (x : Nat × Session) => p x.2)) }
    pkt := s.pkt.map (fun (e : Nat × ChainPkt) => (e.1, e.2.unsend (fun q => q.tagged && hit e.1 (leAt q.payload 0 2))))
    i3c := if hit 16 s.i3c.answerSid then { s.i3c with answer := none, answerSid := 0 } else s.i3c }).dropLatches gone

/-- The contents of the core dies of some channels are lost. -/
def State.loseMem (s : State) (chans : List Nat) : State :=
  { s with
      mem := s.mem.filter (fun e => !chans.contains (e.1 / 2 ^ 32))
      errs := s.errs.filter (fun e => !chans.contains (e.1 / 2 ^ 32)) }

/-- The channels a stack rail feeds (R359, R307): a core rail its die group, a pump rail its eight dies. -/
def railChans (r : Nat) : List Nat :=
  if r < 4 then (List.range 8).map (fun i => 8 * r + i) else (List.range 16).map (fun i => 16 * (r - 4) + i)

/-- A lane in LOCK or later (R207, R212). -/
def Lane.locked (x : Lane) : Bool :=
  match x.state with
  | .lock | .capx | .standby | .active | .test => true
  | _ => false

/-- Some lane of a quadrant is in LOCK or later; quadrant q holds lanes 16q to 16q + 15. -/
def State.quadLocked (s : State) (q : Nat) : Bool := (List.range 16).any (fun i => (s.lane (16 * q + i)).locked)

/-- The domain states of SAFE (R362). -/
def State.safeDomains (s : State) : State :=
  let quads := (List.range 4).map (fun q => (8 + q, if s.quadLocked q then PwrState.on else PwrState.off))
  let fixed : List (Nat × PwrState) := [(3, .off), (4, .off), (5, .off), (6, .off), (7, .ret), (13, .off)]
  { s with pwr := { s.pwr with dom := (fixed ++ quads).foldl (fun d p => Tab.put d p.1 p.2) s.pwr.dom } }

/-- The memory controllers on a FATAL fault (R273, R292): queued requests and merge entries discarded, and the tags of the former not
returned; rows precharged, owed refreshes issued, and every core die in self-refresh. -/
def State.dmcSafe (s : State) : State :=
  let s1 := { s with dmc := { s.dmc with tagsLost := s.tagsUsed, jobs := [] } }
  (List.range 32).foldl (fun (t : State) c =>
    let x := t.chan c
    if x.on then (t.setChan c { x with rq := [], wq := [], arb := [], merge := [], held := false }).enterSr c else t) s1

/-- Every lane below LOCK falls electrically idle (R383). -/
def State.idleLanes (s : State) : State :=
  { s with lanes := s.lanes.map (fun e => if e.2.locked then e else (e.1, ({ failStreak := e.2.failStreak } : Lane))) }

/-- SAFE blocks on every lane in LOCK or later, in every block position (R207, chapter 07 Modes). -/
def State.sendSafe (s : State) (src : Nat) : State :=
  ((List.range 64).filter (fun l => (s.lane l).locked)).foldl (fun (t : State) l => t.emit (.block l 0x78 (safeBody src s.now))) s

/-! ### The safe-state reaction -/

/-- GLB_BOOT written with a RESULT. -/
def State.setBoot (s : State) (result : Nat) : State :=
  s.wrN Reg.GLB_BOOT (b2n s.warm * 2 ^ 31 + result * 2 ^ 28 + b2n s.configFallback * 2 ^ 27 +
    b2n (bitsOf (s.rdN Reg.UPD_BOOT) 31 30 != 0) * 2 ^ 26 + s.cfg.gen % 2 ^ 24)

/-- What stops at once on a FATAL fault (R383 steps 1 and 3, R448): the mode reads SAFE, the SAFE blocks name the source and
GTIME[31:0], streams and legs stop with the domains that carry them, a fuse pulse is cut off. -/
def State.safeStop (s : State) (src : Nat) : State :=
  let s1 := s.fuseCut.enterMode .safe
  { s1 with
    flt := { s1.flt with safeSrc := some (src, s.now % 4294967296) }
    vxu := []
    bst := { s1.bst with running := [], fulltest := false }
    dmc := { s1.dmc with point := s1.clockPoint, move := none, later := [] } }

/-- A load that a FATAL fault ends is recorded in GLB_BOOT. -/
def State.safeBoot (s : State) (t : State) : State := if s.mode = .load then t.setBoot 4 else t

/-- The safe-state reaction (R383): everything stops, SAFE blocks are sent, the dies enter self-refresh, sessions end, and the
domains take their states of SAFE. -/
def State.safeReaction (s : State) (src : Nat) : State :=
  ((((s.safeBoot (s.safeStop src)).sendSafe src).idleLanes.dmcSafe).endAtOnce
    (fun _ => true)).safeDomains

/-- A FATAL source detects its condition (R371, R376, R383, R384): outside COLD and SAFE the reaction begins, and the fault is recorded
with the mode SAFE already, in which every alert drives ALERT_N (R381). -/
def State.fatal (s : State) (src a b : Nat) (forced : Bool := false) : State :=
  (if s.mode = .cold ∨ s.mode = .safe then s else s.safeReaction src).detect src a b forced

end Sys2Proof.Machine
end

