-- ==== Sys2Proof/Machine/Sec.lean ====
section
/-! DEFINITION. Sys2Proof/Machine/Sec.lean: security and trust (R405 to R430): the session operations, the tags of
packets, the end of sessions, attestation and the debug unlock. -/
namespace Sys2Proof.Machine

/-! ### Keys in the fuses (R405, R407, R433, R442) -/

/-- `count` bytes of a fuse region's words from word `w` on, byte 0 of a word in its bits [7:0]. -/
def State.fuseBytes (s : State) (region w count : Nat) : List Byte :=
  ((List.range (ceilDiv count 8)).flatMap (fun i => leBytes 8 (s.fuse region (w + i)).toNat)).take count

/-- The Device Identity Key: 66 bytes. -/
def State.dik (s : State) : List Byte := s.fuseBytes 0 1 66

/-- The DIK public key: 133 bytes. -/
def State.dikPublic (s : State) : List Byte := s.fuseBytes 0 10 133

/-- The vendor's endorsement: 132 bytes. -/
def State.endorsement (s : State) : List Byte := s.fuseBytes 0 27 132

/-- The serial number (R425, R508). -/
def State.serial (s : State) : Nat := (s.fuse 0 44).toNat

/-- A 64-byte value as bytes. -/
def bytes64 (v : BitVec 512) : List Byte := leBytes 64 v.toNat

/-- The lifecycle that the fuses decide at a cold load (R407, R442). -/
def State.lifecycleNow (s : State) : Lifecycle :=
  if !s.fuseLocked 0 then .vendor
  else if s.fuseBlank 1 && s.fuseBlank 2 then .unowned
  else .owned

/-- The owner anchor that the fuses hold: zero when none is valid (R442). -/
def State.anchorNow (s : State) : BitVec 512 :=
  match s.judge 1 with
  | .valid ws => BitVec.ofNat 512 (leNat ((List.range 8).flatMap (fun i => leBytes 8 (ws.getD (1 + i) 0).toNat)))
  | _ => 0

/-! ### Paths and session ends (R421) -/

/-- The mode admits session opening (R29): in HOLD only while the chains stay trained. -/
def State.opensSessions (s : State) : Bool :=
  match s.mode with
  | .service | .maintain => true
  | .hold => s.flag Reg.GLB_GCFG Fld.GLB_GCFG_HOLD_LINKS
  | _ => false

/-- A session operation answered: E_AUTH and E_PRIV are counted (R424). -/
def State.sessionReply (s : State) (st : Status) (data : List Byte := []) : State := (s.countRefusal st).reply st data

/-- The modes in which session operations are served at all (R29): CTL access and I3C access under a session. -/
def State.sessionModes (s : State) : Bool := s.mode == .service || s.mode == .hold || s.mode == .maintain

/-- The session operations admitted untagged (R412). -/
def opUntagged (op : Nat) : Bool := op == 0x20 || op == 0x21 || op == 0x23 || op == 0x24

/-- The session operations that an enrolment session admits (R408). -/
def opEnrols (op : Nat) : Bool := op == 0x22 || op == 0x23 || op == 0x24 || op == 0x25

/-- The checks of a session operation that come before every other one (R408, R420, R423, R424): a named SID without a session on its
path is E_AUTH, an enrolment session admits only the operations of R408, EVICT is the Owner's; then the mode (R29). -/
def State.opChecks (s : State) (r : Req) (op : Nat) : List (Bool × Status) :=
  [((s.role r).isNone && (!opUntagged op || r.sid != 0), .eAuth),
   (s.role r == some .enrolment && !opEnrols op, .ePriv),
   (op == 0x26 && s.role r != some .owner, .ePriv),
   (!s.sessionModes, .eState)]

/-! ### The public-key operations of SEC (R412) -/

/-- The public-key operations that SEC has taken and not yet ended: one runs and the others wait; an ENROLL in progress is one. -/
def State.pkCount (s : State) : Nat := (s.sec.pk.filter (fun t => decide (s.now < t))).length + b2n s.sec.enrol.isSome

/-- One operation runs and 8 wait. -/
def State.pkFull (s : State) : Bool := decide (9 ≤ s.pkCount)

/-- A public-key operation taken: it ends within 8 ms of the end of the one ahead of it, or of now; the time it takes is free. -/
def State.pkTake (s : State) : State :=
  let live := s.sec.pk.filter (fun t => decide (s.now < t))
  { s.draw with sec := { s.sec with pk := live ++ [live.getLast?.getD s.now + 1 + Config.freeNat s.fresh % 2500000] } }

/-! ### Nonces (R413, R415) -/

/-- The path stands blocked for NONCE after 8 failed OPENs (R415). -/
def State.nonceBlocked (s : State) (path : Nat) : Bool := decide (s.now < Tab.lookD s.sec.blocked path 0)

/-- 32 bytes of the random bit generator, with the draw's number. -/
def randomBytes (draw count : Nat) : List Byte := (List.range count).map (fun i => Config.randomByte draw i)

/-- A nonce issued on a path: a fifth replaces the oldest (R413). -/
def addNonce (l : List Nonce) (n : Nonce) : List Nonce :=
  let mine := l.filter (fun x => x.path == n.path)
  (if 4 ≤ mine.length then l.erase (mine.headD n) else l) ++ [n]

/-- A nonce drawn, kept and returned. -/
def State.issueNonce (s : State) (path : Nat) : State :=
  let v := randomBytes s.fresh 32
  let t : Nat := s.now + 312500000
  let n : Nonce := ⟨path, BitVec.ofNat 256 (leNat v), t⟩
  ({ s.draw with sec := { s.sec with nonces := addNonce s.sec.nonces n } }).sessionReply .ok
    (v ++ leBytes 8 t ++ List.replicate 8 0#8)

/-- Session operation NONCE. -/
def State.opNonce (s : State) (r : Req) : State :=
  match firstStatus (s.opChecks r 0x20 ++
      [(!s.opensSessions, .eState), (s.nonceBlocked r.path.num, .eBusy)]) with
  | .ok => s.issueNonce r.path.num
  | st => s.sessionReply st

/-- NONCE (R413). -/
def execNonce (r : Req) (s : State) : Result := .next (s.opNonce r)

/-- NONCE_EXPIRE (R413): the oldest outstanding nonce of a path expires when its time has come. -/
def execNonceExpire (p : Path) (s : State) : Result :=
  match s.sec.nonces.find? (fun x => x.path == p.num) with
  | some n => if n.expires ≤ s.now then .next { s with sec := { s.sec with nonces := s.sec.nonces.erase n } } else .next s
  | none => .next s

/-! ### Opening a session (R414 to R417) -/

/-- The extension is as long as its KEYSEL asks (R412, R414). -/
def openLength (ext : List Byte) : Bool :=
  ext.length == (if (ext.headD 0) = 0xFE#8 then 464 else 320)

/-- Bytes of a string are zero. -/
def zeros (l : List Byte) (off count : Nat) : Bool := (slice l off count).all (fun b => b == 0)

/-- The extension's structure is right (R415 step 2). -/
def State.openForm (s : State) (r : Req) (ext : List Byte) : Bool :=
  r.sid == 0 && openLength ext && decide (leAt ext 1 1 ≤ 3) && zeros ext 2 2 && zeros ext 173 3 && zeros ext 308 12 &&
    (leAt ext 0 1 != 0xFE || zeros ext 453 11) && decide (leAt ext 4 4 ≤ s.sec.idle)

/-- The nonce an OPEN names, outstanding on its path and valid for 1 s (R413); an OPEN in the tick of its expiry is in time. -/
def State.openNonce (s : State) (r : Req) (ext : List Byte) : Option Nonce :=
  s.sec.nonces.find? (fun n => n.path == r.path.num && n.value == BitVec.ofNat 256 (leAt ext 8 32) && decide (s.now ≤ n.expires))

/-- The public key an OPEN's KEYSEL names, and its role (R414, R415 step 4). -/
def State.openKey (s : State) (ext : List Byte) : Option (List Byte × Role) :=
  if leAt ext 0 1 = 0xFE then
    let key := slice ext 320 133
    if s.sec.lifecycle = .unowned then some (key, .enrolment)
    else if sha512 key = s.sec.anchor then some (key, .owner) else none
  else if s.sec.lifecycle = .unowned ∨ s.cfg.empty then none
  else (s.sec.hostKeys.find? (fun h => h.index == leAt ext 0 1)).map (fun h => (h.key, h.role))

/-- T_H: bytes 0 to 175 of the extension, then the UID (R414). -/
def State.openTh (s : State) (ext : List Byte) : List Byte := slice ext 0 176 ++ bytes64 s.sec.uid

/-- The roles of the codes of R429. -/
def roleOf (n : Nat) : Role :=
  match n with
  | 0 => .enrolment
  | 1 => .owner
  | 2 => .operator
  | _ => .observer

/-- The role asked is of higher privilege than the key's, or is not of the lifecycle (R415 step 7). -/
def State.rolePriv (s : State) (asked : Nat) (key : Role) : Bool :=
  if s.sec.lifecycle = .unowned then asked != 0 else asked == 0 || decide (asked < key.code)

/-- The checks of R415 from step 3 on. -/
def State.openStatus (s : State) (r : Req) (ext : List Byte) : Status :=
  match s.openNonce r ext with
  | none => .eAuth
  | some _ =>
    match s.openKey ext with
    | none => .eAuth
    | some k => firstStatus
        [(!p521Valid (slice ext 40 133) || (leAt ext 0 1 == 0xFE && !p521Valid k.1), .eAuth),
         (!ecdsaVerify k.1 (s.openTh ext) (slice ext 176 132), .eAuth),
         (s.rolePriv (leAt ext 1 1) k.2, .ePriv),
         (s.pkFull || s.sec.lifecycle == .unowned && (s.sec.sessions.any (fun (e : Nat × Session) => e.2.role == Role.enrolment)), .eBusy),
         (decide (16 ≤ s.sec.sessions.length + s.sec.closing.length) ||
            decide (4 ≤ (s.sec.sessions.filter (fun (e : Nat × Session) => e.2.key == k.1)).length), .eResource)]

/-- The checks of R415 before the nonce is looked at. -/
def State.openEarly (s : State) (r : Req) (ext : List Byte) : Status :=
  firstStatus
    [(!s.opensSessions || s.sec.lifecycle == .vendor, .eState),
     (r.path == .i3c && !s.sec.i3cSess, .eAccess),
     (!s.openForm r ext, .eRange)]

/-- The nonce an OPEN names is consumed (R413, R415). -/
def State.consumeNonce (s : State) (r : Req) (ext : List Byte) : State :=
  match s.openNonce r ext with
  | some n => { s with sec := { s.sec with nonces := s.sec.nonces.erase n } }
  | none => s

/-- A failure at step 3 or later (R415): counted, and the eighth on a path within 1 s blocks NONCE there for 1 s. -/
def State.openFailed (s : State) (path : Nat) : State :=
  let recent : List (Nat × Nat) := s.sec.openFails.filter (fun e => decide (s.now < e.2 + 312500000)) ++ [(path, s.now)]
  let s1 := { s with sec := { s.sec with
    openFails := recent
    blocked := if 8 ≤ (recent.filter (fun (e : Nat × Nat) => e.1 == path)).length then
        Tab.put s.sec.blocked path (s.now + 312500000) else s.sec.blocked } }
  (s1.satInc Reg.SEC_OPEN_FAIL).event Reg.SEC_EVENTS Fld.SEC_EVENTS_OPEN_FAIL

/-- A SID from `n` on that is neither 0 nor in use (R416). -/
def nextSid (used : List Nat) : Nat → Nat → Nat
  | 0, n => n
  | fuel + 1, n => if n = 0 ∨ used.contains n then nextSid used fuel ((n + 1) % 65536) else n

/-- The lowest free slot of 16: one that no session uses, nor one whose last answers are still under way (R421). -/
def State.freeSlot (s : State) : Nat :=
  ((List.range 16).find? (fun i => (Tab.look s.sec.sessions i).isNone && !s.sec.closing.any (fun e => e.1 == i))).getD 0

/-- The session key of a label (R416): HMAC-SHA-512 under Z of the label, SID, SHA-512(T_H) and QD. -/
def sessionKey (label : List Byte) (z : List Byte) (sid : Nat) (th qd : List Byte) : BitVec 512 :=
  hmac512 z (label ++ leBytes 2 sid ++ bytes64 (sha512 th) ++ qd)

/-- The ASCII label "MZ1648-HS" of K_hs. -/
def labelHs : List Byte := [0x4D, 0x5A, 0x31, 0x36, 0x34, 0x38, 0x2D, 0x48, 0x53]

/-- The ASCII label "MZ1648-SH" of K_sh. -/
def labelSh : List Byte := [0x4D, 0x5A, 0x31, 0x36, 0x34, 0x38, 0x2D, 0x53, 0x48]

/-- The role an OPEN is granted: the Owner's under the empty configuration (R28), else the one it asks for (R415, R417). -/
def State.grantedRole (s : State) (ext : List Byte) : Role :=
  if s.cfg.empty && s.sec.lifecycle == .owned then .owner else roleOf (leAt ext 1 1)

/-- The session opened (R416, R417): the ephemeral key pair and the signature are drawn afresh. -/
def State.openSession (s : State) (r : Req) (ext key : List Byte) : State :=
  let d := randomBytes s.fresh 66
  let qd := p521Public d
  let z := ecdhX d (slice ext 40 133)
  let used := (s.sec.sessions ++ s.sec.closing).map (fun (e : Nat × Session) => e.2.sid)
  let sid : Nat := nextSid used 32 ((s.sec.lastSid + 1) % 65536)
  let th := s.openTh ext
  let idle : Nat := if leAt ext 4 4 = 0 then s.sec.idle else leAt ext 4 4
  let x : Session := {
    sid := sid, role := s.grantedRole ext, path := r.path.num, keysel := leAt ext 0 1, key := key, timeout := idle
    tLast := s.now, tOpen := s.now, khs := sessionKey labelHs z sid th qd, ksh := sessionKey labelSh z sid th qd }
  let head := leBytes 2 sid ++ leBytes 1 (s.grantedRole ext).code ++ [0#8] ++ leBytes 4 idle ++ leBytes 8 s.now ++ qd ++
    List.replicate 3 0#8
  let sig := ecdsaSign (ecdsaSecret (randomBytes (s.fresh + 1) 66)) s.dik (head ++ bytes64 (sha512 th))
  let s1 := { s.draw.draw with sec := { s.sec with
    sessions := Tab.put s.sec.sessions s.freeSlot x, lastSid := sid } }
  ((s1.inc64 Reg.SEC_OPEN_CNT).count 0x20 1 (s.grantedRole ext).code none sid (s.grantedRole ext).code).sessionReply .ok (head ++ sig ++ List.replicate 4 0#8)

/-- SEC works on an OPEN that names an outstanding nonce and a key, unless its queue is full (R412). -/
def State.openTakes (s : State) (r : Req) (ext : List Byte) : State :=
  if (s.openNonce r ext).isSome && (s.openKey ext).isSome && !s.pkFull then s.pkTake else s

/-- Session operation OPEN, in the order of R415: from step 3 on the nonce is consumed. -/
def State.opOpen (s : State) (r : Req) (ext : List Byte) : State :=
  match s.openEarly r ext with
  | .ok =>
    let s1 := (s.openTakes r ext).consumeNonce r ext
    match s.openStatus r ext with
    | .ok => s1.openSession r ext ((s.openKey ext).getD ([], .owner)).1
    | st => (s1.openFailed r.path.num).sessionReply st
  | st => s.sessionReply st

/-- SESSION_OPEN (R415). -/
def execSessionOpen (r : Req) (ext : List Byte) (s : State) : Result := .next (s.opOpen r ext)

/-! ### CLOSE, EVICT, the idle timer (R421) -/

/-- Session operation CLOSE: the session of the request ends after the answer. -/
def State.opClose (s : State) (r : Req) : State :=
  match firstStatus (s.opChecks r 0x22) with
  | .ok => (s.endSessions (fun x => x.sid == r.sid && x.path == r.path.num)).sessionReply .ok
  | st => s.sessionReply st

/-- SESSION_CLOSE (R421). -/
def execSessionClose (r : Req) (s : State) : Result := .next (s.opClose r)

/-- Session operation EVICT: bytes 0 and 1 of the extension name the SID, the others are zero (R412). -/
def State.opEvict (s : State) (r : Req) (ext : List Byte) : State :=
  let sid := leAt ext 0 2
  match firstStatus (s.opChecks r 0x26 ++
      [(!zeros ext 2 14 || !s.sec.sessions.any (fun e => e.2.sid == sid), .eRange)]) with
  | .ok => ((s.endSessions (fun x => x.sid == sid)).event Reg.SEC_EVENTS Fld.SEC_EVENTS_EVICT).sessionReply .ok
  | st => s.sessionReply st

/-- EVICT (R412, R421). -/
def execEvict (r : Req) (ext : List Byte) (s : State) : Result := .next (s.opEvict r ext)

/-- SESSION_IDLE_TIMEOUT (R421): the session of a slot ends when no packet has been accepted for its idle timeout. -/
def execSessionIdleTimeout (slot : Fin 16) (s : State) : Result :=
  match Tab.look s.sec.sessions slot with
  | none => .next s
  | some x =>
    if s.now < x.tLast + x.timeout * 312500000 then .next s
    else .next ((s.endSessions (fun y => y.sid == x.sid)).event Reg.SEC_EVENTS Fld.SEC_EVENTS_IDLE_CLOSE)

/-! ### Identity and attestation (R425, R426) -/

/-- The IDENTITY response extension (R425). -/
def State.identity (s : State) : List Byte :=
  leBytes 2 0x1648 ++ [0#8] ++ leBytes 1 s.sec.lifecycle.code ++ leBytes 8 s.serial ++ List.replicate 4 0#8 ++
    s.dikPublic ++ List.replicate 3 0#8 ++ s.endorsement ++ List.replicate 4 0#8

/-- Session operation IDENTITY. -/
def State.opIdentity (s : State) (r : Req) : State :=
  match firstStatus (s.opChecks r 0x23) with
  | .ok => s.sessionReply .ok s.identity
  | st => s.sessionReply st

/-- IDENTITY (R425). -/
def execIdentity (r : Req) (s : State) : Result := .next (s.opIdentity r)

/-- UNLOCK is 1 (R427). -/
def State.dbgOpen (s : State) : Bool := s.flag Reg.SEC_DBG_CTL Fld.SEC_DBG_CTL_UNLOCK

/-- The active set is on trial (R459, R474). -/
def State.onTrial (s : State) : Bool := bitOf s.upd.spw.toNat 37

/-- Bytes 0 to 351 of the attestation report (R426). -/
def State.reportBody (s : State) (r : Req) (hnonce : List Byte) : List Byte :=
  ([0x4D, 0x5A, 0x41, 0x54] : List Byte) ++ leBytes 2 1 ++ leBytes 2 0x1648 ++ [0#8] ++ leBytes 1 s.sec.lifecycle.code ++
    leBytes 1 s.mode.code ++ leBytes 1 (b2n s.dbgOpen + 2 * b2n s.sec.dbgEver) ++ leBytes 4 s.capNow ++
    leBytes 8 s.now ++ leBytes 4 s.avail.loads ++ leBytes 4 s.cfg.gen ++ slice hnonce 0 32 ++ bytes64 s.sec.uid ++
    bytes64 (if s.sec.lifecycle = .unowned then 0 else s.sec.anchor) ++ bytes64 s.upd.hash ++
    bytes64 (if s.cfg.empty then 0 else s.upd.cfgHash) ++
    (List.range 4).flatMap (fun (i : Nat) => leBytes 4 (s.therm i)) ++ leBytes 2 r.sid ++
    leBytes 1 (match s.role r with
      | some x => x.code
      | none => 0) ++ leBytes 1 (b2n s.onTrial) ++ leBytes 4 s.upd.inEffect ++ List.replicate 8 0#8

/-- Session operation ATTEST: the report, its signature drawn afresh, and 12 zero bytes. -/
def State.opAttest (s : State) (r : Req) (hnonce : List Byte) : State :=
  match firstStatus (s.opChecks r 0x24 ++ [(s.pkFull, .eBusy)]) with
  | .ok =>
    let b := s.reportBody r hnonce
    s.draw.pkTake.sessionReply .ok (b ++ ecdsaSign (ecdsaSecret (randomBytes s.fresh 66)) s.dik b ++ List.replicate 12 0#8)
  | st => s.sessionReply st

/-- ATTEST (R426). -/
def execAttest (r : Req) (hnonce : List Byte) (s : State) : Result := .next (s.opAttest r hnonce)

/-! ### Enrolment (R408, R436, R440) -/

/-- The SHA-512 of the session's inline key as the eight data words of the anchor regions (R433). -/
def anchorWords (key : List Byte) : List DWord :=
  (List.range 8).map (fun i => BitVec.ofNat 64 ((sha512 key).toNat >>> (64 * i)))

/-- Session operation ENROLL: the fuse engine programs both copies of the anchor, and the answer follows at its end (R408, R412). -/
def State.opEnroll (s : State) (r : Req) : State :=
  match firstStatus
      [((s.role r).isNone, .eAuth),
       (s.role r != some .enrolment || s.sec.lifecycle == .owned, .eWriteOnce),
       (s.mode != .maintain, .eState),
       (s.slocked 1 || s.slocked 2, .eLocked),
       (s.pkFull || s.sec.enrol.isSome, .eBusy),
       (!(s.fuseBlank 1 && s.fuseBlank 2), .eIntegrity)] with
  | .ok =>
    match s.sessionAt r.path.num r.sid with
    | some e => ({ s with sec := { s.sec with enrol := some ⟨r, e, .command, []⟩ } }).fuseAsk
        ⟨.enrol, pairSteps 1 8 (anchorWords e.2.key)⟩
    | none => s
  | st =>
    if st = .eWriteOnce ∨ st = .eLocked then
      (s.draw.detect 68 (Config.freeNat s.fresh % 2 ^ 32) st.code).sessionReply st
    else s.sessionReply st

/-- ENROLL (R408). -/
def execEnroll (r : Req) (s : State) : Result := .next (s.opEnroll r)

/-! ### Debug access (R427, R430) -/

/-- The status of a write of SEC_DBG_CTL (R430). -/
def State.dbgStatus (s : State) (r : Req) (v : Word) : Status :=
  firstStatus (s.ownerChecks r ++
    [(s.dbgOpen, .eLocked),
     (s.mode != .maintain, .eState),
     (wget v Fld.SEC_DBG_CTL_UNLOCK == 1 && wget v Fld.SEC_DBG_CTL_P1500 == 0 && wget v Fld.SEC_DBG_CTL_P1838 == 0,
       .eRange)])

/-- SEC_DBG_CTL written: an unlock ends every other session, is appended to the fault history as a forced entry of source
68, and is remembered for good (R427). -/
def State.dbgWrite (s : State) (r : Req) (v : Word) : State :=
  let s1 := s.wr Reg.SEC_DBG_CTL (v &&& 0x80000003#32)
  if wget v Fld.SEC_DBG_CTL_UNLOCK = 1 then
    let s2 := (s1.endSessions (fun x => x.sid != r.sid)).event Reg.SEC_EVENTS Fld.SEC_EVENTS_DBG_UNLOCK
    (({ s2 with sec := { s2.sec with dbgEver := true } }).setSticky 68).formEntry 68 0 0 0 s2.now true false
  else s1

/-- DEBUG_UNLOCK (R427, R430). -/
def execDebugUnlock (r : Req) (v : Word) (s : State) : Result :=
  .next (s.hostWrite r Reg.SEC_DBG_CTL (s.dbgStatus r v) (fun t => t.dbgWrite r v))

/-- SEC_FATAL (R406): cause 1 to 5, in any mode in which SEC runs; in COLD it does not (R376). -/
def execSecFatal (cause : Fin 5) (s : State) : Result :=
  if s.mode = .cold then .next s else .next (s.fatal 6 (cause + 1) 0)

/-! ### Tagged packets (R418 to R420) -/

/-- The session prefix of a tagged payload (R237): its SID and its SCNT. -/
def tagSid (payload : List Byte) : Nat := leAt payload 0 2

/-- SCNT of a tagged payload. -/
def tagScnt (payload : List Byte) : Nat := leAt payload 8 8

/-- The three bytes of START body bits [39:16] that a tag covers (R215, R237): LABEL, LEN and TAGGED, and a zero
byte. -/
def tagHead (p : Packet) : List Byte :=
  [BitVec.ofNat 8 p.label, BitVec.ofNat 8 (2 * (p.payload.length / 8) + b2n p.tagged), 0#8]

/-- The tag of a packet under a key: the leftmost 32 bytes of its HMAC (R237, R418). -/
def tagOf (key : BitVec 512) (p : Packet) : List Byte :=
  (bytes64 (hmac512 (bytes64 key) (tagHead p ++ p.payload))).take 32

/-- The slot of the session of a SID on a path. -/
def State.sessionSlot (s : State) (path sid : Nat) : Option (Nat × Session) := s.sessionAt path sid

/-- A session replaced in its slot. -/
def State.setSession (s : State) (slot : Nat) (x : Session) : State :=
  { s with sec := { s.sec with sessions := Tab.put s.sec.sessions slot x } }

/-- A tag failure of a session (R418, R420): the sixteenth within 1 s ends it. -/
def State.tagFailed (s : State) (slot : Nat) (x : Session) (chain : Nat) : State :=
  let recent := x.fails.filter (fun t => decide (s.now < t + 312500000)) ++ [s.now]
  let s1 := (((s.setSession slot { x with fails := recent }).satInc Reg.SEC_TAG_FAIL).count 0x21 1 chain none x.sid chain).event
    Reg.SEC_EVENTS Fld.SEC_EVENTS_TAG_FAIL
  if 16 ≤ recent.length then s1.endSessions (fun y => y.sid == x.sid) else s1

/-- The session check of a tagged packet (R418): whether it is accepted, and the state after. Every failure is answered
with E_AUTH, which SEC_AUTH_REJ counts (R424). -/
def State.tagCheck (s : State) (path : Nat) (p : Packet) : State × Bool :=
  match s.sessionAt path (tagSid p.payload) with
  | none => (s.countRefusal .eAuth, false)
  | some e =>
    if tagOf e.2.khs p != p.tag then ((s.tagFailed e.1 e.2 path).countRefusal .eAuth, false)
    else if tagScnt p.payload ≤ e.2.scntIn then ((s.satInc Reg.SEC_REPLAY).countRefusal .eAuth, false)
    else (s.setSession e.1 { e.2 with scntIn := tagScnt p.payload, tLast := s.now }, true)

/-- SEC still holds the keys of a session: it is open, or requests of it are being answered (R421, R422). -/
def State.keysHeld (s : State) (e : Nat × Session) : Bool :=
  (Tab.look s.sec.sessions e.1).any (fun y => y.sid == e.2.sid) || s.sec.closing.any (fun c => c.1 == e.1 && c.2.sid == e.2.sid)

/-- A packet of the stack tagged under a session (R237, R419): prefix, then tag; the send count rises. -/
def State.tagPacket (s : State) (slot : Nat) (x : Session) (p : Packet) : State × Packet :=
  let live := (Tab.look s.sec.sessions slot).filter (fun y => y.sid == x.sid)
  let ended := s.sec.closing.find? (fun e => e.1 == slot && e.2.sid == x.sid)
  let n := ((live.or (ended.map (·.2))).getD x).scntOut + 1
  let q := { p with
    tagged := true
    payload := leBytes 2 x.sid ++ List.replicate 6 0#8 ++ leBytes 8 n ++ p.payload }
  let s1 := match live with
    | some y => s.setSession slot { y with scntOut := n }
    | none => { s with sec := { s.sec with closing := s.sec.closing.map (fun e =>
        if e.1 = slot ∧ e.2.sid = x.sid then (e.1, { e.2 with scntOut := n }) else e) } }
  (s1, { q with tag := tagOf x.ksh q })

/-- A request of a session is being served; its answer is owed (R421). -/
def State.servingFor (s : State) (sess : Option (Nat × Session)) : State :=
  { s with sec := { s.sec with serving := sess.map (fun e => (e.1, e.2.sid)) } }

/-- The request has been answered. -/
def State.servingDone (s : State) : State := ({ s with sec := { s.sec with serving := none } }).forgetSessions

/-- The ENROLL that a request has begun, if it has, is answered as `via` says at its end (R408). -/
def State.enrolBegun (after before : State) (via : EnrolVia) : Option State :=
  match before.sec.enrol, after.sec.enrol with
  | none, some j => some { after with sec := { after.sec with enrol := some { j with via := via } } }
  | _, _ => none

end Sys2Proof.Machine
end

