-- ==== Sys2Proof/Machine/Queue.lean ====
section
/-! DEFINITION. Sys2Proof/Machine/Queue.lean: the requests that wait for a channel and how they are served (R254 to R257, R267, R284,
R288, R291), BRD requests that wait for some of their codewords (R234, R236), and the answers sent on chains (R419, R420). -/
namespace Sys2Proof.Machine

/-! ### Answers (R419, R420) -/

/-- The requester of a packet on a chain: the session it names when it is tagged. -/
def packetReq (k : Fin 16) (p : Packet) : Req := ⟨.chain k, if p.tagged then tagSid p.payload else 0⟩

/-- A tagged answer sent on a chain, while SEC holds the session's keys (R419, R422). -/
def State.sendTagged (s : State) (k : Nat) (e : Nat × Session) (p : Packet) (conf : Bool) : State :=
  if s.keysHeld e then
    let t := s.tagPacket e.1 e.2 p
    t.1.sendPacket k t.2 conf
  else s

/-- An answer sent on a chain, tagged under the session of its request when that was tagged; one that follows an ENROLL of its session
waits for the answer to that (R240). -/
def State.answerWith (s : State) (k : Nat) (sess : Option (Nat × Session)) (p : Packet) (conf : Bool := true) : State :=
  match sess with
  | none => s.sendPacket k p conf
  | some e =>
    match s.sec.enrol with
    | some j =>
      if j.via ≠ .lost ∧ j.sess.1 = e.1 ∧ j.sess.2.sid = e.2.sid then
        { s with sec := { s.sec with enrol := some { j with later := j.later ++ [(p, conf)] } } }
      else s.sendTagged k e p conf
    | none => s.sendTagged k e p conf

/-- A response fragment or completion: RID, status, LAST, the offset, and the data (R234, R235). -/
def fragment (rid : Nat) (st : Status) (last : Bool) (off : Nat) (data : List Byte) : List Byte :=
  leBytes 4 rid ++ leBytes 1 st.code ++ leBytes 1 (b2n last) ++ [0#8, 0#8] ++ leBytes 8 (off % 2 ^ 37) ++ data

/-- An answer without data sent: the offset of its first data byte, which it does not have, is free. -/
def State.sendEmpty (s : State) (k type label rid : Nat) (sess : Option (Nat × Session)) (st : Status) : State :=
  (s.draw).answerWith k sess (newPacket type label (fragment rid st true (Config.freeNat s.fresh) []))

/-- The fragments of a response sent in ascending offset; the last carries LAST. -/
def State.sendFragments (s : State) (k label rid : Nat) (sess : Option (Nat × Session)) (st : Status)
    (conf : Bool) : Nat → List (List Byte) → State
  | _, [] => s
  | off, d :: r =>
    (s.answerWith k sess (newPacket 3 label (fragment rid st r.isEmpty off d)) conf).sendFragments k label rid sess st conf
      (off + d.length) r

/-! ### BRD requests in progress (R234, R236, R284) -/

/-- The data of a BRD's codewords: zero where none is delivered. -/
def JobCw.bytes : JobCw → List Byte
  | .data d => dataBytes d
  | _ => List.replicate 64 0#8

/-- The offset and length a BRD names, in bytes. -/
def brdRange (b : List Byte) : Nat × Nat := (leAt b 8 8 % 2 ^ 37, 8 * (leAt b 8 8 / 2 ^ 37 % 8192 + 1))

/-- The payload behind the session prefix (R237). -/
def packetBody (p : Packet) : List Byte := if p.tagged then p.payload.drop 16 else p.payload

/-- A BRD whose codewords have all been read is answered (R234, R236): bytes that cannot be read are zero and the status is
E_INTEGRITY. -/
def State.answerBrd (s : State) (j : BrdJob) : State :=
  let b := packetBody j.pkt
  let off := (brdRange b).1
  let n := (brdRange b).2
  let bytes := ((j.cws.flatMap JobCw.bytes).drop (off % 64)).take n
  let st : Status := if j.cws.any (fun w => w == .bad) then .eIntegrity else .ok
  let parts := if j.sess.isSome then chunks 544 121 bytes else chunks 560 118 bytes
  (s.count 0x15 n j.pkt.label (some j.part) off (leAt b 0 4)).sendFragments j.chain j.pkt.label (leAt b 0 4) j.sess st j.conf off parts

/-- A codeword of a BRD in progress delivered; with the last one the BRD is answered. -/
def State.deliver (s : State) (id slot : Nat) (w : JobCw) : State :=
  match Tab.look s.dmc.jobs id with
  | none => s
  | some j =>
    let j1 : BrdJob := { j with cws := j.cws.set slot w }
    if j1.cws.any (fun x => x == .waits) then { s with dmc := { s.dmc with jobs := Tab.put s.dmc.jobs id j1 } }
    else (({ s with dmc := { s.dmc with jobs := Tab.del s.dmc.jobs id } }).answerBrd j1).forgetSessions

/-- The codewords of a BRD read, from codeword `i` at offset `o` on; one that its channel cannot serve now waits there. -/
def State.gather (s : State) (j : BrdJob) (p : Partition) (id cls i o : Nat) : Nat → State × List JobCw
  | 0 => (s, [])
  | n + 1 =>
    let r : State × JobCw := match s.place p o with
      | .at c a =>
        if s.readWaits c (cwAddr a) then (s.askChan c (cwAddr a) cls j.conf s.now (.job id i), .waits)
        else
          let x := s.readCw c (cwAddr a) s.dmc.reqSeq noErrs (some (j.part, o))
          (x.st, match x.data with
            | some d => .data d
            | none => .bad)
      | _ => (s, .bad)
    let rest := r.1.gather j p id cls (i + 1) (o + 64) n
    (rest.1, r.2 :: rest.2)

/-- An admitted BRD starts: what can be read is read at once, and it is answered when every codeword has been. -/
def State.startBrd (s : State) (j : BrdJob) (p : Partition) (cls : Nat) : State :=
  let r := brdRange (packetBody j.pkt)
  let id := s.dmc.nextJob
  let s1 := { s with dmc := { s.dmc with nextJob := id + 1 } }
  let g := s1.gather j p id cls 0 (r.1 / 64 * 64) ((r.1 + r.2 - 1) / 64 + 1 - r.1 / 64)
  let j1 : BrdJob := { j with cws := g.2 }
  if g.2.any (fun x => x == .waits) then { g.1 with dmc := { g.1.dmc with jobs := Tab.put g.1.dmc.jobs id j1 } }
  else g.1.answerBrd j1

/-! ### What a reader does when a codeword is not delivered (R284, chapter 04) -/

/-- The state of a domain's entry lost: the domain is FREE (chapter 04, Modes and degraded states). It waits for no engine and none
goes on with it (R144), its heap stays taken (R109), and a round of its pool may come due (R133). -/
def State.loseEntry (s : State) (d : Nat) : State :=
  let x := s.domain d
  let es : Tab Engine := s.rae.engines.map (fun (e : Nat × Engine) => (e.1, if e.2.domain = some d then s.engineStops e.2 else e.2))
  ({ s with
    cad := { s.cad with
      domains := Tab.del s.cad.domains d
      heapLost := s.cad.heapLost ++ x.spaces
      siteMap := s.cad.siteMap.filter (fun e => e.2.1 != d)
      lotIndex := s.cad.lotIndex.filter (fun e => e.1 != d)
      tallyLines := s.cad.tallyLines.filter (fun e => e.1 != d) }
    rae := { s.rae with queue := s.rae.queue.filter (fun e => e != d), engines := es } }).checkRound x.pool none

/-- A domain's map rebuilt empty, with MAP_INCOMPLETE set (R284). -/
def State.loseMap (s : State) (d : Nat) : State :=
  match Tab.look s.cad.domains d with
  | none => s
  | some x => { s with cad := { s.cad with
      domains := Tab.put s.cad.domains d { x with lots := [], rowT := [], colT := [], mapIncomplete := true } } }

/-- DOMAIN_DAMAGED raised for a domain (R242, R284). -/
def State.damaged (s : State) (d : Nat) : State :=
  (s.event Reg.CAD_EVENTS Fld.CAD_EVENTS_DOMAIN_DAMAGED).alert 0x36 0xFF d 0 0 0

/-- A pool table entry rebuilt empty (R284): the pool is undefined, its members' maps are incomplete, and DOMAIN_DAMAGED is raised for
each. -/
def State.losePool (s : State) (p : Nat) : State :=
  let ms := (s.members p).map (·.1)
  let s1 := { s with cad := { s.cad with pools := Tab.del s.cad.pools p } }
  ms.foldl (fun (t : State) d => (match Tab.look t.cad.domains d with
    | none => t
    | some x => { t with cad := { t.cad with domains := Tab.put t.cad.domains d { x with mapIncomplete := true } } }).damaged d) s1

/-- What a reader does when a codeword is not delivered (R284, chapter 04). -/
def State.readerFails (s : State) (reader : Reader) : State :=
  match reader with
  | .data => s
  | .domainEntry d => (s.loseEntry d.toNat).damaged d.toNat
  | .domainMap d => (s.loseMap d.toNat).damaged d.toNat
  | .exceptionLog n => s.satInc Reg.CAD_EXC_LOST n
  | .poolEntry p => s.losePool p.toNat

/-- Codeword read request `n` served for its reader, which is answered; what the tables of the cadastre hold there stands in the CAD
partition (R102). -/
def State.readFor (s : State) (c a n : Nat) (errs : ReadErrs) (reader : Reader) : State :=
  let r := s.readCw c a n errs (s.partOfAddr c a)
  match r.data with
  | some d => r.st.reply .ok ((s.cadImage c a).getD (dataBytes d))
  | none => (r.st.readerFails reader).reply .eIntegrity (List.replicate 64 0)

/-- DMC_LAT_MAX raised to a time in CCLK cycles (R275). -/
def State.latMax (s : State) (c n : Nat) : State :=
  s.wrN (Reg.DMC_LAT_MAX c) (min 0xFFFFFFFF (max (s.rdN (Reg.DMC_LAT_MAX c)) n))

/-! ### Waiting requests served (R254 to R257, R267, R288, R291, R312) -/

/-- A waiting request can be served now: its channel is not held or in a transit, no ROW leg holds its bank, no earlier request to its codeword waits,
and a narrow write finds its place in the merge buffer. -/
def State.canServe (s : State) (c : Nat) (r : DmcReq) : Bool :=
  let x := s.chan c
  !x.held && !s.inTransit && (s.bankLeg c r.addr).isNone && !x.waiting.any (fun q => q.addr == r.addr && decide (q.seq < r.seq)) &&
    (match r.op with
     | .write _ w _ => !x.mergeFull r.addr w
     | .sent _ _ _ => false
     | _ => true)

/-- A waiting request leaves its queue. -/
def Chan.dropReq (x : Chan) (r : DmcReq) : Chan :=
  { x with rq := x.rq.filter (fun q => q.seq != r.seq), wq := x.wq.filter (fun q => q.seq != r.seq) }

/-- A waiting request served: its age counts for its class (R163), and the scheduler's round goes on (R256). A write stays in the write
queue, as issued, until its parity window has passed (R255). -/
def State.serveReq (s0 : State) (c : Nat) (r : DmcReq) : State :=
  let x := (s0.chan c).dropReq r
  let s := (s0.setChan c { x with round := s0.roundNext x.round (s0.reqBid r) }).latServed r.cls (s0.ageOf r.since)
  match r.op with
  | .read errs reader => (s.readFor c r.addr r.seq errs reader).latMax c (4 * (s.now - r.since))
  | .job id slot =>
    let y := s.readCw c r.addr r.seq noErrs (s.partOfAddr c r.addr)
    (y.st.latMax c (4 * (s.now - r.since))).deliver id slot (match y.data with
      | some d => .data d
      | none => .bad)
  | .write d w paid => (s.applyWrite c r.addr d w r.cls paid (s.partOfAddr c r.addr)).sentFor c s.dmc.reqSeq r
  | .again d e => (s.storeCmd c r.addr d e).sentFor c s.dmc.reqSeq r
  | .sent _ _ _ => s

/-- The waiting request that goes next (R256): from the write queue while a burst runs, which starts at 48 entries or with an empty
read queue and ends at 16; otherwise from the read queue; and from the other queue where that one has none to serve. -/
def State.nextReq (s : State) (c : Nat) (burst : Bool) : Option DmcReq :=
  let x := s.chan c
  let rd := s.firstReq x.round (x.rq.filter (s.canServe c))
  let wr := s.firstReq x.round (x.wq.filter (s.canServe c))
  if burst then wr.or rd else rd.or wr

/-- A write burst goes on or starts. -/
def Chan.burstNow (x : Chan) (burst : Bool) : Bool :=
  x.rq.isEmpty || decide (48 ≤ x.wq.length) || (burst && decide (16 < x.wq.length))

/-- The waiting requests of a channel served as far as they can be. -/
def State.serveRun (s : State) (c : Nat) (burst : Bool) : Nat → State
  | 0 => s
  | n + 1 =>
    let s1 := s.promote c (s.chan c).arb.length
    let b := (s1.chan c).burstNow burst
    match s1.nextReq c b with
    | none => s1
    | some r => (s1.serveReq c r).serveRun c b n

/-- Merge entries whose 2 µs are over and whose bank is free again written by read-modify-write (R288, R312). -/
def State.writeDue (s : State) (c : Nat) : State :=
  if (s.chan c).held || s.inTransit then s
  else
    ((s.chan c).merge.filter (fun e => e.due && (s.bankLeg c e.addr).isNone)).foldl (fun (t : State) e =>
      (t.rmw c e noErrs (t.partOfAddr c e.addr)).st) s

/-- The waiting real-time requests of a channel abort the ROW legs on their banks, a LAT request once it has reached level 2 (R312). -/
def State.preemptWaiting (s : State) (c : Nat) : State :=
  (s.chan c).waiting.foldl (fun (t : State) r =>
    if t.realTime r.cls (t.ageOf r.since) r.conf then t.preemptBank c r.addr else t) s

/-- A channel's waiting requests and merge entries served. -/
def State.serveChan (s : State) (c : Nat) : State :=
  ((s.preemptWaiting c).writeDue c).serveRun c false (s.chan c).waiting.length

/-- A channel has something that waits. -/
def Chan.stirs (x : Chan) : Bool := !x.waiting.isEmpty || x.merge.any (fun e => e.due)

/-- The waiting requests of every channel that takes commands served. -/
def State.serveAll (s : State) : State :=
  (List.range 32).foldl (fun (t : State) c =>
    if (t.chan c).stirs && (t.chan c).on && !(t.chan c).sr then t.serveChan c else t) s

end Sys2Proof.Machine
end

