-- ==== Sys2Proof/Machine/Bst.lean ====
section
/-! DEFINITION. Sys2Proof/Machine/Bst.lean: the commands of self-test and repair (R303 to R328, R337). -/
namespace Sys2Proof.Machine

/-! ### Legs: their schedule (R303, R305 to R307) -/

/-- The leg at position `i` of a channel's side round (R305): TSVL 0 to 77, TSVC 0 to 15, then SPARE on each bank. -/
def sideBlock (c i : Nat) : Nat :=
  if i < 78 then legBlock 3 c i
  else if i < 94 then legBlock 4 c (i - 78)
  else legBlock 2 c ((i - 94) / 20 * 32 + (i - 94) % 20)

/-- The leg at position `i` of the base-die round (R306). -/
def baseBlock (i : Nat) : Nat :=
  if i < 32 then legBlock 5 i 0
  else if i < 40 then legBlock 6 (i - 32) 0
  else if i < 56 then legBlock 7 (i - 40) 0
  else if i < 120 then legBlock 8 (i - 56) 0
  else legBlock 9 0 (i - 120)

/-- The spares of a SPARE leg that are unused and not bad (R303). -/
def Chan.spareBlock (x : Chan) (index : Nat) : Bool :=
  let bank := bitsOf index 9 5
  let i := bitsOf index 4 0
  if i < 8 then (x.spareRows bank).contains i else !(x.spareCols bank (i - 8)).isEmpty

/-- No leg can run on a block as things stand (R303, R328): its channel is retired or off, its lane or unit has failed, no spare could
carry its lane, or its spares are in use. -/
def State.blockOut (s : State) (b : Nat) : Bool :=
  let u := blockUnit b
  let i := blockIndex b
  let x := s.chan u
  let gone := !x.on || x.width == .retired
  match blockKind b with
  | 1 => gone
  | 2 => gone || !x.spareBlock i
  | 3 => gone || x.dataFail.contains i || (x.steer.contains i && x.freeData.isEmpty)
  | 4 => gone || x.caFail.contains i || (x.caSteer.contains i && x.freeCa.isEmpty)
  | 5 => gone
  | 6 => s.bst.clkLost.contains u || s.bst.clkLost.contains (u / 2 * 2 + (1 - u % 2))
  | 7 => s.bst.vxuOff.contains u
  | 8 => (s.engine u).failed
  | 9 => false
  | _ => true

/-- A leg can run on a block now (R303, R306, R125): nothing else uses it, and a lane in use finds a spare that no leg tests. -/
def State.legReady (s : State) (b : Nat) : Bool :=
  let u := blockUnit b
  let i := blockIndex b
  let x := s.chan u
  !s.blockOut b && (match blockKind b with
    | 3 => !x.sr && !x.held && (!x.steer.contains i || !(s.spareData u).isEmpty)
    | 4 => !x.sr && !x.held && (!x.caSteer.contains i || !(s.spareCa u).isEmpty)
    | 6 => true
    | 7 => (s.vxuU u).state == .idle
    | 8 => (s.engine u).domain.isNone && !s.runsRound u && s.rae.queue.isEmpty && !s.rae.engines.any (fun e => e.2.leg)
    | 9 => true
    | _ => !x.sr && !x.held)

/-- The block is passed over until the next round (R310). -/
def State.passed (s : State) (b : Nat) : Bool :=
  if blockKind b ≤ 4 then (s.chan (blockUnit b)).passOver.contains b else s.bst.passOver.contains b

/-- A block is eligible for a leg of a round now (R303, R306). -/
def State.legEligible (s : State) (b : Nat) : Bool := s.legReady b && !s.passed b

/-- The pump rail a DRAM-side leg draws on (R307): PD18 for dies 1 to 8, PD19 for dies 9 to 16. -/
def legRail (b : Nat) : Option Nat := if blockKind b ≤ 4 then some (blockUnit b / 16) else none

/-- The limits of R307 admit another leg. -/
def State.legRoom (s : State) (b : Nat) : Bool :=
  decide (s.bst.running.length < s.fld Reg.BST_LEG_CFG Fld.BST_LEG_CFG_MAXCONC) &&
  (match legRail b with
   | none => true
   | some r => decide ((s.bst.running.filter (fun l => legRail l.block == some r)).length <
      s.fld Reg.BST_LEG_CFG Fld.BST_LEG_CFG_PERRAIL)) &&
  (match s.bst.lastStart with
   | none => true
   | some t => decide (s.fld Reg.BST_LEG_CFG Fld.BST_LEG_CFG_STAGGER * 100 ≤ (s.now - t) * 32))

/-- The lane of a block is in use, so that its leg steers it (R303). -/
def State.legSteers (s : State) (b : Nat) : Bool :=
  (blockKind b == 3 && (s.chan (blockUnit b)).steer.contains (blockIndex b)) ||
  (blockKind b == 4 && (s.chan (blockUnit b)).caSteer.contains (blockIndex b))

/-- A leg starts (R303, R307): its unit or engine is out, and a lane in use is steered to the lowest free spare that no leg tests,
which ends the ROW and SPARE legs of its channel (R313). -/
def State.startLeg (s0 : State) (b : Nat) : State :=
  let u := blockUnit b
  let s := if s0.legSteers b then s0.endLegs u [1, 2] else s0
  let x := s.chan u
  let i := blockIndex b
  let back := match blockKind b with
    | 3 => if x.steer.contains i then some (x.steer.idxOf i) else none
    | 4 => if x.caSteer.contains i then some (x.caSteer.idxOf i) else none
    | _ => none
  let s1 := match blockKind b, back with
    | 3, some p => s.setChan u { x with steer := x.steer.set p ((s.spareData u).headD i) }
    | 4, some p => s.setChan u { x with caSteer := x.caSteer.set p ((s.spareCa u).headD i) }
    | 7, _ => s.setVxu u { s.vxuU u with out := true }
    | 8, _ => s.setEngine u { s.engine u with leg := true }
    | _, _ => s
  let leg : Leg := ⟨b, !s.bst.fulltest && decide (s.preRun b < 16), back, s.now⟩
  ({ s1 with bst := { s1.bst with running := s1.bst.running ++ [leg], lastStart := some s1.now } }).inc64 Reg.BST_LEGS

/-- The next leg of a channel and the schedule after it (R305): out-of-turn legs, then legs that run again, then after
256 ROW legs one leg of the side round, and otherwise the next row. -/
def State.nextDram (s : State) (c : Nat) : Nat × State :=
  let x := s.chan c
  match x.oot, x.rerun with
  | b :: r, _ => (b, s.setChan c { x with oot := r })
  | [], b :: r => (b, s.setChan c { x with rerun := r })
  | [], [] =>
    if 256 ≤ x.rowLegs then
      (sideBlock c x.side, s.setChan c { x with rowLegs := 0, side := (x.side + 1) % 734 })
    else
      (legBlock 1 c x.trvPtr, s.setChan c { x with
        rowLegs := x.rowLegs + 1, trvPtr := (x.trvPtr + 1) % 1572864, lastRow := x.lastRow || x.trvPtr == 1572863 })

/-- The next leg of the base-die round (R306). -/
def State.nextBase (s : State) : Nat × State :=
  match s.bst.baseQueue with
  | b :: r => (b, { s with bst := { s.bst with baseQueue := r } })
  | [] =>
    let p := s.bst.basePos
    let s1 := { s with bst := { s.bst with basePos := (p + 1) % 3192 } }
    (baseBlock p, if p + 1 < 3192 then s1 else { s1 with bst := { s1.bst with passOver := [] } })

/-- A leg of a block finds it under a leg already: one runs on the block, or a ROW leg holds the bank of its row (R303). -/
def State.underLeg (s : State) (b : Nat) : Bool :=
  (s.legOf b).isSome || (blockKind b == 1 && (s.bankLeg (blockUnit b) (rowAddr (blockIndex b))).isSome)

/-- A leg is started, or its block passed over where it is not eligible (R306). It waits for the limits of R307, and for a leg that
runs on its block or holds its bank. -/
def State.tryLeg (s : State) (n : Nat × State) : State :=
  if !s.legRoom n.1 || s.underLeg n.1 then s else if n.2.legEligible n.1 then n.2.startLeg n.1 else n.2.rowDone n.1

/-- The block at position `i` of a full-stack self-test (R328): ROW, SPARE, TSVL and TSVC of every channel, then the base-die round. -/
def fullBlock (i : Nat) : Nat :=
  if i < 50331648 then legBlock 1 (i / 1572864) (i % 1572864)
  else if i < 50352128 then
    let j := i - 50331648
    legBlock 2 (j / 640) (j % 640 / 20 * 32 + j % 20)
  else if i < 50354624 then legBlock 3 ((i - 50352128) / 78) ((i - 50352128) % 78)
  else if i < 50355136 then legBlock 4 ((i - 50354624) / 16) ((i - 50354624) % 16)
  else baseBlock (i - 50355136)

/-- The blocks of a full-stack self-test. -/
def fullBlocks : Nat := 50358328

/-- Every leg of a full-stack self-test has been started, and none is to run again. -/
def State.fullOver (s : State) : Bool := decide (fullBlocks ≤ s.bst.ftPos) && s.bst.ftRerun.isEmpty

/-- The next leg of a full-stack self-test: one that runs again, or that of the next block. -/
def State.nextFull (s : State) : Nat × State :=
  match s.bst.ftRerun with
  | b :: r => (b, { s with bst := { s.bst with ftRerun := r } })
  | [] => (fullBlock s.bst.ftPos, { s with bst := { s.bst with ftPos := s.bst.ftPos + 1 } })

/-- A leg of a full-stack self-test is started (R328); a block that none can run on is left out, and one that is in use is waited for. -/
def State.tryFull (s : State) (n : Nat × State) : State :=
  if s.fullOver || !s.legRoom n.1 || s.underLeg n.1 then s
  else if s.blockOut n.1 then n.2
  else if n.2.legReady n.1 then n.2.startLeg n.1
  else s

/-- LEG_START (R305 to R307, R328): legs run in SERVICE and MAINTAIN, and in LOAD for the full-stack self-test; a channel whose traffic is
held waits with them. -/
def execLegStart (w : LegWho) (s : State) : Result :=
  if s.trans.isSome || s.inTransit then .next s
  else match w with
    | .dram c =>
      if (s.mode == .service || s.mode == .maintain) && !s.bst.fulltest && (s.chan c).on && !s.retired c &&
        !(s.chan c).sr && !(s.chan c).held then .next (s.tryLeg (s.nextDram c)) else .next s
    | .base =>
      if (s.mode == .service || s.mode == .maintain) && !s.bst.fulltest then .next (s.tryLeg s.nextBase) else .next s
    | .full =>
      if s.bst.fulltest && !s.bst.aborting && (s.mode == .maintain || (s.mode == .load && s.bst.ftLoad)) then .next (s.tryFull s.nextFull)
      else .next s

/-! ### Outcomes (R309 to R311) -/

/-- A failed SRAM bank (R311): replaced by the spare bank of its macro, or left in use. -/
def State.sramFailed (s : State) (b : Nat) : State :=
  if s.bst.sramSpared.any (fun x => Config.sramMacro x == Config.sramMacro b) then
    ({ s with bst := { s.bst with sramOut := s.bst.sramOut ++ [b] } }).detect 19 b 0
  else { s with bst := { s.bst with sramSpared := s.bst.sramSpared ++ [b] } }

/-- VXU_BIND.EN of a failed unit reads 0, and so does its shadow (R311, R501). -/
def State.vxuFailed (s : State) (u : Nat) : State :=
  let s1 := s.setFld (Reg.VXU_BIND u) Fld.VXU_BIND_EN 0
  { s1 with
    bst := { s1.bst with vxuOff := s1.bst.vxuOff ++ [u] }
    shadow := match Tab.look s1.shadow (Reg.VXU_BIND u) with
      | none => s1.shadow
      | some v => Tab.put s1.shadow (Reg.VXU_BIND u) (wset v Fld.VXU_BIND_EN 0) }

/-- An engine removed from the pool (R126): RAE_REDUCED, and a DEGRADED fault with the domain it was analysing. -/
def State.engineFails (s : State) (e d : Nat) : State :=
  let x := s.engine e
  let y := if x.domain.isSome then s.engineStops x else x
  (((s.setEngine e { y with failed := true }).event Reg.RAE_EVENTS Fld.RAE_EVENTS_ENGINE_FAIL).detect 41 e d).capUpdate

/-- The action of a failed leg's kind (R311). -/
def State.legAction (s : State) (b : Nat) (column : Option Nat) : State :=
  let u := blockUnit b
  let i := blockIndex b
  match blockKind b with
  | 1 => s.rowFailed u i column
  | 2 =>
    let bank := bitsOf i 9 5
    let k := bitsOf i 4 0
    let x := s.chan u
    let bad := if k < 8 then [32 * bank + k] else (x.spareCols bank (k - 8)).map (fun j => 32 * bank + 8 + 2 * (k - 8) + j)
    s.setChan u { x with badSpares := x.badSpares ++ bad }
  | 3 => s.failData u i
  | 4 => s.failCa u i
  | 5 => s.retire u 3
  | 6 => s.clkLost (u / 2) (u % 2)
  | 7 => s.vxuFailed u
  | 8 => s.draw.engineFails u (Config.freeNat s.fresh % 2 ^ 24)
  | _ => s.sramFailed i

/-- A row or column was left unrepaired for want of a spare, so that later legs on the block raise no further fault (R314). -/
def State.unrepaired (s : State) (b : Nat) : Bool :=
  let a := rowAddr (blockIndex b)
  blockKind b == 1 && (s.chan (blockUnit b)).unrepaired.contains (65536 * bankOf a + rowOf a)

/-- The tally a leg is to reach (R303). -/
def legTally (b : Nat) : Nat := [0, 352, 256, 4096, 4096, 256, 1024, 65536, 4096, 8192].getD (blockKind b) 0

/-- A leg ends with a full tally: PASS, or FAIL with the action of its kind (R309, R311). A ROW leg that passes drops the
repair candidate (R316). -/
def State.legJudged (s : State) (l : Leg) (good : Bool) (column : Option Nat) : State :=
  let s1 := ((((s.legStops l).legTraffic l.block (legOps l.block)).setIncRun l.block 0).setPreRun l.block 0).steeredBack l
  if good then
    let s2 := { s1.inc64 Reg.BST_PASS with bst := { s1.bst with lastOut := 1 } }
    if blockKind l.block = 1 then
      let u := blockUnit l.block
      s2.setChan u { s2.chan u with cands := (s2.chan u).cands.filter (fun p => p != blockIndex l.block) }
    else s2
  else
    let s2 := { s1.satInc Reg.BST_FAIL with
      bst := { s1.bst with lastOut := 2, ftFailed := s1.bst.ftFailed + b2n s1.bst.fulltest } }
    let s3 := s2.event Reg.BST_EVENTS Fld.BST_EVENTS_LEG_FAIL
    let s4 := if s.unrepaired l.block then s3 else s3.detect 34 l.block 0
    (s4.alert 0x67 0xFF l.block 0 0 0).legAction l.block column

/-- A leg has ended; that of a round's last row ends the round (R305). -/
def State.legEnds (s : State) (l : Leg) (good : Bool) (column : Option Nat) : State := (s.legJudged l good column).rowDone l.block

/-- LEG_END (R303, R309): the tally is full, and the signature the leg has accumulated is held against the expected one. `column`: the
one codeword column a ROW leg's failing bits lie in. -/
def execLegEnd (block signature : BitVec 32) (column : Option (Fin 32)) (s : State) : Result :=
  match s.legOf block.toNat with
  | none => .next s
  | some l => .next (s.legEnds l (signature == Config.legSignature block) (column.map (·.val)))

/-- The budget of a leg has run out (R307). -/
def State.budgetOver (s : State) (l : Leg) : Bool :=
  decide (s.fld Reg.BST_LEG_CFG Fld.BST_LEG_CFG_BUDGET * 625 ≤ 2 * (s.now - l.since))

/-- LEG_BUDGET_EXPIRE (R307, R309): with its tally short the leg is INCOMPLETE; with a full tally it has ended, and LEG_END judges
it. -/
def execLegBudgetExpire (block tally : BitVec 32) (s : State) : Result :=
  match s.legOf block.toNat with
  | none => .next s
  | some l => if s.budgetOver l ∧ tally.toNat < legTally l.block then .next (s.legIncomplete l) else .next s

/-- A chunk of 64 rows of a column repair copied; the 64th chunk of the segment enables the remap and logs the repair
(R315). -/
def State.columnChunk (s : State) (c : Nat) : State :=
  let x := s.chan c
  match x.colCopy with
  | [] => s
  | (entry, n) :: r =>
    let bank := bitsOf entry 20 16
    let seg := bitsOf entry 15 12
    let col := bitsOf entry 4 0
    let rows := (List.range 64).map (fun i => 4096 * seg + 64 * n + i)
    let addrs := (List.range 32).flatMap (fun k => rows.filterMap (fun row =>
      let a := row * 65536 + k * 2048 + col * 64
      if bankOf a = bank then some a else none))
    let s1 := addrs.foldl (fun t a => t.copyCw c a) s
    if n + 1 < 64 then s1.setChan c { s1.chan c with colCopy := (entry, n + 1) :: r }
    else
      (s1.setChan c { s1.chan c with
        colCopy := r
        colRepair := Tab.put (s1.chan c).colRepair (1024 * bank + 32 * seg + col) (bitsOf entry 21 21) }).logRepair entry

/-- A ROW leg holds the bank of the column that is being copied (R303). -/
def State.copyHeld (s : State) (c : Nat) : Bool :=
  match (s.chan c).colCopy with
  | [] => false
  | e :: _ => s.bst.running.any (fun l => blockKind l.block == 1 && blockUnit l.block == c &&
      bankOf (rowAddr (blockIndex l.block)) == bitsOf e.1 20 16)

/-- COLUMN_REPAIR_CHUNK (R315): it waits for a ROW leg that holds the bank. -/
def execColumnRepairChunk (c : Fin 32) (s : State) : Result :=
  if s.retired c || (s.chan c).sr || !(s.chan c).on || s.inTransit || s.copyHeld c then .next s else .next (s.columnChunk c)

/-- CLK_BUNDLE_LOST (R320): the group runs on the other bundle, or is retired when that one is lost too. -/
def execClkBundleLost (g : Fin 4) (b : Fin 2) (s : State) : Result := .next (s.clkLost g b)

/-! ### Salvage (R323 to R325) -/

/-- The order of personalities in salvage: CAD, VEC, BUF, CAP, DMP (R323). -/
def salvageOrder : List Nat := [3, 1, 4, 2, 5]

/-- The parts of migrated slices of a parcel that lie on a reserve channel: 2^20 + 64 × record + place. -/
def State.partsOn (s : State) (c parcel : Nat) : List Nat :=
  (s.cfg.moved.filter (fun m => m.2.parcel == parcel)).flatMap (fun m =>
    (List.range m.2.parts.length).filterMap (fun i =>
      match m.2.parts[i]? with
      | some p => if p.ch = c ∧ p.sub = none then some (2 ^ 20 + 64 * m.1 + i) else none
      | none => none))

/-- The slices of a retired channel in the order of salvage (R323): those in reserve space already are not moved again. -/
def State.slicesOf (s : State) (c : Nat) : List Nat :=
  salvageOrder.flatMap (fun pers =>
    (s.cfg.parts.filter (fun p => p.2.pers == pers)).flatMap (fun p =>
      p.2.parcels.flatMap (fun parcel =>
        (if bitOf p.2.chmask c && (Tab.look s.cfg.moved (32 * parcel + c)).isNone then [32 * parcel + c] else []) ++ s.partsOn c parcel)))

/-- The parcel of a slice. -/
def State.sliceParcel (s : State) (ref : Nat) : Nat :=
  if ref < 2 ^ 20 then ref / 32 else (Tab.lookD s.cfg.moved ((ref - 2 ^ 20) / 64) ⟨0, 0, [], true⟩).parcel

/-- The size of a slice. -/
def State.sliceSize (s : State) (ref : Nat) : Nat :=
  if ref < 2 ^ 20 then (Tab.lookD s.cfg.frames ref []).length * 2 ^ 23
  else
    let m := Tab.lookD s.cfg.moved ((ref - 2 ^ 20) / 64) ⟨0, 0, [], true⟩
    ceilDiv (m.size / 4096) m.parts.length * 4096

/-- The local address of an offset of a slice on the channel it is read from. -/
def State.sliceSrc (s : State) (c ref off : Nat) : Option Nat :=
  if ref < 2 ^ 20 then s.sliceAddr (ref / 32) c off
  else
    match (Tab.lookD s.cfg.moved ((ref - 2 ^ 20) / 64) ⟨0, 0, [], true⟩).parts[(ref - 2 ^ 20) % 64]? with
    | some p => s.resAddr c (p.base + off)
    | none => none

/-- The reserve channels that are not retired. -/
def State.resChans (s : State) : List Nat := (channelsOf s.cfg.resMask).filter (fun c => !s.retired c)

/-- Free reserve on a reserve channel, in bytes. -/
def State.resFree (s : State) (c : Nat) : Nat :=
  s.cfg.resParcels.length * s.resSlice - Tab.lookD s.cfg.resFill c 0

/-- PARCEL_LOST reported once for a parcel (R324). -/
def State.parcelLost (s : State) (parcel ch : Nat) : State :=
  if s.cfg.parcelLost.contains parcel then s
  else
    let pi := match s.cfg.parts.find? (fun p => p.2.parcels.contains parcel) with
      | some p => p.1
      | none => 0
    (((({ s with cfg := { s.cfg with parcelLost := s.cfg.parcelLost ++ [parcel] } }).event Reg.BST_EVENTS
      Fld.BST_EVENTS_PARCEL_LOST).detect 18 pi parcel).alert 0x60 0xFF pi parcel ch 0).capUpdate

/-- A slice's record: a base slice is its own, a part gets a new one that its part names. -/
def State.putMoved (s : State) (ref : Nat) (m : MovedSlice) : State :=
  if ref < 2 ^ 20 then { s with cfg := { s.cfg with moved := Tab.put s.cfg.moved ref m } }
  else
    let id := s.cfg.nextMoved
    let parent := Tab.lookD s.cfg.moved ((ref - 2 ^ 20) / 64) ⟨0, 0, [], true⟩
    let parent' := { parent with parts := (List.range parent.parts.length).filterMap (fun i =>
      (parent.parts[i]?).map (fun p => if i = (ref - 2 ^ 20) % 64 then { p with sub := some id } else p)) }
    { s with cfg := { s.cfg with
        moved := Tab.put (Tab.put s.cfg.moved ((ref - 2 ^ 20) / 64) parent') id m, nextMoved := id + 1 } }

/-- A slice is lost: its parcel is reported, and accesses are answered under R236. -/
def State.loseSlice (s : State) (c ref : Nat) : State :=
  ((s.putMoved ref ⟨s.sliceParcel ref, s.sliceSize ref, [], true⟩).satInc Reg.BST_MIG_LOST).parcelLost
    (s.sliceParcel ref) c

/-- The codewords of a slice that memory lists, copied to their new place: corrected, or as poison (R323). -/
def State.copySlice (s : State) (c ref : Nat) (parts : List ResPart) : State :=
  let cws := (s.mem.filter (fun e => e.1 / 2 ^ 32 == c && e.1 % 64 == 0)).map (fun e => e.1 % 2 ^ 32)
  let offs := (List.range (ceilDiv (s.sliceSize ref) 4096)).filterMap (fun j =>
    (s.sliceSrc c ref (j * 4096)).map (fun a => (j * 4096, a)))
  cws.foldl (fun t a =>
    match offs.find? (fun o => o.2 ≤ a && a < o.2 + 4096) with
    | none => t
    | some o =>
      let off := o.1 + (a - o.2)
      let i := off / 4096
      match parts[i % parts.length]? with
      | none => t
      | some p =>
        match t.resAddr p.ch (p.base + i / parts.length * 4096 + off % 4096) with
        | none => t
        | some a' =>
          let e := t.storedErr (memKey c a)
          let r := decodeErr e
          match r.1 with
          | .clean | .corrected1 | .corrected2 =>
            t.store (memKey p.ch a') (delivered (t.stored (memKey c a)) e r.2) []
          | _ => t.store (memKey p.ch a') 0#512 poisonErr) s

/-- A slice placed over the reserve channels that are not retired (R324); it is lost when one of them has too little
room. -/
def State.placeSlice (s : State) (c ref : Nat) (copy : Bool) : State × Bool :=
  let chs := s.resChans
  let z := s.sliceSize ref
  let each := ceilDiv (z / 4096) chs.length * 4096
  if chs.isEmpty || chs.any (fun x => decide (s.resFree x < each)) then (s.loseSlice c ref, false)
  else
    let parts : List ResPart := chs.map (fun x => ⟨x, Tab.lookD s.cfg.resFill x 0, none⟩)
    let s1 := if copy then s.copySlice c ref parts else s
    let s2 := s1.putMoved ref ⟨s.sliceParcel ref, z, parts, false⟩
    let s3 := { s2 with cfg := { s2.cfg with
      resFill := chs.foldl (fun t x => Tab.put t x (Tab.lookD t x 0 + each)) s2.cfg.resFill } }
    ((s3.satInc Reg.BST_MIG_SAVED).capUpdate, true)

/-- Salvage of a channel ends: MIGRATION_DONE (R325), and the rails of a group that is gone are turned off (R363). -/
def State.salvageEnds (s : State) (v : Salvage) : State :=
  (({ s with cfg := { s.cfg with salvage := none } }).alert 0x65 0xFF v.ch v.saved v.lost 0).railsOff (dieGroup v.ch)

/-- The next slice of the channel being salvaged, or of the next retired channel (R323 to R325). Requests that wait for the channel,
and its merge entries, are served first. -/
def State.salvageSlice (s : State) (mismatches : Nat) (dead : Bool) : State :=
  let start : Option (Salvage × State) := match s.cfg.salvage, s.cfg.retQueue with
    | some v, _ => some (v, s)
    | none, c :: r => some (⟨c, s.slicesOf c, 0, 0⟩, { s with cfg := { s.cfg with retQueue := r } })
    | none, [] => none
  match start with
  | none => s
  | some (v, s0) =>
    let s1 := (s0.serveChan v.ch).flushMerge v.ch (s0.chan v.ch).merge.length
    match v.left with
    | [] => s1.salvageEnds v
    | ref :: rest =>
      let r := if dead || decide (s1.sliceSize ref / 64 < 1024 * mismatches) then (s1.loseSlice v.ch ref, false)
        else s1.placeSlice v.ch ref true
      let v' : Salvage := ⟨v.ch, rest, v.saved + b2n r.2, v.lost + b2n (!r.2)⟩
      if rest.isEmpty then r.1.salvageEnds v'
      else { r.1 with cfg := { r.1.cfg with salvage := some v' } }

/-- SALVAGE_SLICE (R323): salvage runs in SERVICE and MAINTAIN. -/
def execSalvageSlice (mismatches : Nat) (dead : Bool) (s : State) : Result :=
  if s.mode == .service || s.mode == .maintain then .next (s.salvageSlice mismatches dead) else .next s

/-! ### BST commands (R318, R328, R337) -/

/-- A salvage runs or waits. -/
def State.salvaging (s : State) : Bool := s.cfg.salvage.isSome || !s.cfg.retQueue.isEmpty

/-- FUSE_COMMIT runs, or waits for the fuse engine. -/
def State.committing (s : State) : Bool := s.fuseHas .repair

/-- The full-stack self-test starts (R328). -/
def State.startFulltest (s : State) (inLoad : Bool) : State :=
  { s with bst := { s.bst with
      fulltest := true, aborting := false, ftLoad := inLoad, ftRepairs := 0, ftFailed := 0, ftInc := 0, ftPos := 0, ftRerun := [] } }

/-- FULLTEST (R328, R337). -/
def execFulltest (r : Req) (s : State) : Result :=
  .next (s.hostWrite r Reg.BST_CMD (firstStatus (s.ownerChecks r ++
      [(s.mode != .maintain, .eState), (s.bst.fulltest || s.committing || s.salvaging, .eBusy)]))
    (fun t => t.startFulltest false))

/-- FULLTEST_DONE (R328, R333): the test ends once every block has had its leg, or it is aborted, and the running legs have ended. -/
def execFulltestDone (s : State) : Result :=
  if !s.bst.fulltest || !s.bst.running.isEmpty || !(s.bst.aborting || s.fullOver) then .next s
  else .next (({ s with bst := { s.bst with fulltest := false, aborting := false, ftRerun := [] } }).event Reg.BST_EVENTS
    Fld.BST_EVENTS_FULLTEST_DONE |>.alert 0x69 0xFF s.bst.ftRepairs s.bst.ftFailed (s.bst.ftInc + s.bst.ftRerun.length) 0)

/-- ABORT_FULLTEST (R328, R337). -/
def execAbortFulltest (r : Req) (s : State) : Result :=
  .next (s.hostWrite r Reg.BST_CMD (firstStatus (s.ownerChecks r ++ [(!s.bst.fulltest, .eState)]))
    (fun t => { t with bst := { t.bst with aborting := true } }))

/-- The entries a valid repair set holds (R433). -/
def setEntries (ws : List DWord) : List Nat :=
  (List.range (bitsOf (ws.getD 0 0).toNat 47 32)).map (fun k =>
    (ws.getD (1 + k / 2) 0).toNat / 2 ^ (32 * (k % 2)) % 2 ^ 32)

/-- The entries of the valid repair sets, in set order (R442). -/
def State.fusedEntries (s : State) : List Nat :=
  [5, 7, 9].flatMap (fun n => match s.judge n with
    | .valid ws => setEntries ws
    | _ => [])

/-- The log entries that no valid set holds, in log order (R318). -/
def State.unfused (s : State) : List Nat := s.bst.log.filter (fun e => !s.fusedEntries.contains e)

/-- The blank repair sets a FUSE_COMMIT may use, by their first region: without a sticky lock on either region (R436). -/
def State.blankSets (s : State) : List Nat :=
  [5, 7, 9].filter (fun n => s.judge n == .blank && !s.slocked n && !s.slocked (n + 1))

/-- The data words of a repair set (R433). -/
def entryWords (l : List Nat) : List DWord :=
  (List.range 61).map (fun i => BitVec.ofNat 64 (l.getD (2 * i) 0 + 2 ^ 32 * l.getD (2 * i + 1) 0))

/-- The steps that program entries into sets, at most 122 to a set (R318). -/
def setSteps (sets : List Nat) (l : List Nat) : List FuseStep :=
  match sets with
  | [] => []
  | n :: r => if l = [] then [] else
      pairSteps n (min 122 l.length) (entryWords (l.take 122)) ++ setSteps r (l.drop 122)

/-- FUSE_COMMIT (R318, R337). -/
def execFuseCommit (r : Req) (s : State) : Result :=
  .next (s.hostWrite r Reg.BST_CMD (firstStatus (s.ownerChecks r ++
      [(s.mode != .maintain, .eState), (s.bst.fulltest || s.committing, .eBusy),
       (decide (122 * s.blankSets.length < s.unfused.length), .eResource)]))
    (fun t => t.fuseAsk ⟨.repair, setSteps t.blankSets t.unfused⟩))

/-- UNIT and INDEX lie in the range of a kind (R335). -/
def blockInRange (b : Nat) : Bool :=
  let u := blockUnit b
  let i := blockIndex b
  match blockKind b with
  | 1 => decide (u < 32) && decide (i < 1572864)
  | 2 => decide (u < 32) && decide (i < 1024) && decide (bitsOf i 4 0 < 20)
  | 3 => decide (u < 32) && decide (i < 78)
  | 4 => decide (u < 32) && decide (i < 16)
  | 5 => decide (u < 32) && i == 0
  | 6 => decide (u < 8) && i == 0
  | 7 => decide (u < 16) && i == 0
  | 8 => i == 0
  | 9 => u == 0 && decide (i < 3072)
  | _ => false

/-- A leg on the block conflicts (R337): a retired channel, a failed lane or unit, or a spare marked bad. -/
def State.blockConflict (s : State) (b : Nat) : Bool :=
  let u := blockUnit b
  let i := blockIndex b
  let x := s.chan u
  match blockKind b with
  | 1 => x.width == .retired
  | 2 => x.width == .retired || (if bitsOf i 4 0 < 8 then x.badSpares.contains (32 * bitsOf i 9 5 + bitsOf i 4 0)
      else (List.range 2).any (fun j => x.badSpares.contains (32 * bitsOf i 9 5 + 8 + 2 * (bitsOf i 4 0 - 8) + j)))
  | 3 => x.width == .retired || x.dataFail.contains i
  | 4 => x.width == .retired || x.caFail.contains i
  | 5 => x.width == .retired
  | 6 => s.bst.clkLost.contains u
  | 7 => s.bst.vxuOff.contains u
  | 8 => (s.engine u).failed
  | _ => false

/-- LEG (R337): an out-of-turn leg queued on the block of BST_ARG. -/
def execLegCmd (r : Req) (s : State) : Result :=
  let b := s.rdN Reg.BST_ARG
  let u := blockUnit b
  .next (s.hostWrite r Reg.BST_CMD (firstStatus (s.ownerChecks r ++
      [(!(s.mode == .service || s.mode == .maintain), .eState), (!blockInRange b, .eRange),
       (decide (blockKind b ≤ 5) && decide (16 ≤ (s.chan u).oot.length), .eBusy), (s.blockConflict b, .eConflict)]))
    (fun t => if blockKind b ≤ 5 then t.queueLeg u b
      else { t with bst := { t.bst with baseQueue := t.bst.baseQueue.filter (fun x => x != b) ++ [b] } }))

end Sys2Proof.Machine
end

