-- ==== Sys2Proof/Machine/Pmc.lean ====
section
/-! DEFINITION. Sys2Proof/Machine/Pmc.lean: the commands of the performance counters (R388 to R404). -/
namespace Sys2Proof.Machine

/-! ### Event selection (R389 to R391, R404) -/

/-- What FILTER of an event ranges over (R389): one more than its largest value; none where the event has no filter. -/
def filterRange (ev : Nat) : Option Nat :=
  if ev ∈ [0x02, 0x03, 0x04, 0x05, 0x06, 0x17, 0x18, 0x07, 0x08] then some 32
  else if ev ∈ [0x09, 0x0A, 0x0B, 0x0C, 0x13, 0x14, 0x21] then some 16
  else if ev ∈ [0x0D, 0x0E, 0x15, 0x16] then some 256
  else if ev = 0x0F then some 12
  else if ev = 0x11 then some 5
  else if ev = 0x20 then some 4
  else none

/-- The least FILTER value: exception reasons and result kinds begin at 1. -/
def filterLeast (ev : Nat) : Nat := if ev = 0x0F ∨ ev = 0x11 then 1 else 0

/-- The exception reason GAP, outside the run of the others (R89). -/
def filterExtra (ev v : Nat) : Bool := ev == 0x0F && v == 15

/-- FILTER names a value of the event's kind. -/
def filterOk (ev v : Nat) : Bool :=
  filterExtra ev v || (match filterRange ev with
    | some n => decide (filterLeast ev ≤ v) && decide (v < n)
    | none => false)

/-- The events of R389. -/
def pmcListed (ev : Nat) : Bool := (decide (1 ≤ ev) && decide (ev ≤ 0x19)) || (decide (0x20 ≤ ev) && decide (ev ≤ 0x22))

/-- Scope P admits an event. -/
def pmcPart (ev : Nat) : Bool := ev ∈ [0x02, 0x03, 0x15, 0x16, 0x17, 0x18]

/-- SCOPE is admitted for an event (R389, R390). -/
def scopeOk (ev scope : Nat) : Bool :=
  if 0x20 ≤ ev then scope == 2 else scope == 0 || (scope == 1 && pmcPart ev)

/-- The event has a sample context. -/
def pmcContext (ev : Nat) : Bool := pmcListed ev && !(ev ∈ [0x01, 0x0C, 0x12, 0x19])

/-- The bits of PMC_SEL that a write stores. -/
def selMask : Word := 0xFFFF80FF#32

/-- The status of a write of PMC_SEL (R404). -/
def pmcSelStatus (r : Req) (n : Nat) (v : Word) (s : State) : Status :=
  let ev := wget v Fld.PMC_SEL_EVENT
  let scope := wget v Fld.PMC_SEL_SCOPE
  let sampled := wget v Fld.PMC_SEL_SAMPLE == 1
  firstStatus (s.ownerChecks r ++
    [(!pmcListed ev || scope == 3 || (wget v Fld.PMC_SEL_FEN == 1 && !filterOk ev (wget v Fld.PMC_SEL_FILTER)) ||
        (sampled && s.rdN (Reg.PMC_SPER n) == 0), .eRange),
     (!scopeOk ev scope || (scope == 1 && (Tab.look s.cfg.parts (wget v Fld.PMC_SEL_PART)).isNone) ||
        (sampled && !pmcContext ev), .eConflict)])

/-- A counter, its PMC_OVF bit and its sample count cleared (R391). -/
def State.pmcClear (s : State) (n : Nat) : State :=
  let s1 := (s.wr64 (Reg.PMC_CNT n) 0).wr (Reg.PMC_OVF (n / 32))
    (s.rd (Reg.PMC_OVF (n / 32)) &&& ~~~ BitVec.ofNat 32 (1 <<< (n % 32)))
  { s1 with pmc := { s1.pmc with since := Tab.del s1.pmc.since n, due := Tab.del s1.pmc.due n } }

/-- PMC_SEL written (R391): a change of anything but EN or SAMPLE clears the counter. -/
def State.pmcSelect (s : State) (n : Nat) (v : Word) : State :=
  let w := v &&& selMask
  let same := 0x3FFFFFFF#32
  let s1 := if s.rd (Reg.PMC_SEL n) &&& same = w &&& same then s else s.pmcClear n
  s1.wr (Reg.PMC_SEL n) w

/-- PMC_SEL_WRITE (R391, R404). -/
def execPmcSelWrite (r : Req) (n : Fin 128) (v : Word) (s : State) : Result :=
  .next (s.hostWrite r (Reg.PMC_SEL n) (pmcSelStatus r n v s) (fun t => t.pmcSelect n v))

/-! ### Wraps and samples (R388, R396) -/

/-- COUNTER_WRAP (R388): an enabled counter adds the increment that wraps it. -/
def execCounterWrap (n : Fin 128) (inc : BitVec 48) (s : State) : Result :=
  if s.flag (Reg.PMC_SEL n) Fld.PMC_SEL_EN ∧ 2 ^ 48 ≤ s.rd64 (Reg.PMC_CNT n) + inc.toNat then
    .next (s.pmcAdd n inc.toNat (Config.freeNat s.fresh) (Config.freeNat (s.fresh + 1))).draw.draw
  else .next s

/-- A sample lost (R396). -/
def State.sampleLost (s : State) : State :=
  ({ s with pmc := { s.pmc with smpLost := sat32 s.pmc.smpLost 1 } }).event Reg.PMC_EVENTS Fld.PMC_EVENTS_SMP_LOST

/-- The scope of a counter, as dump records number it: DEVICE, PARTITION with the partition, SECURITY (R393, R394). -/
def State.counterScope (s : State) (n : Nat) : Nat × Nat :=
  let v := s.rd (Reg.PMC_SEL n)
  (wget v Fld.PMC_SEL_SCOPE, if wget v Fld.PMC_SEL_SCOPE = 1 then wget v Fld.PMC_SEL_PART else 0)

/-- The sample of a counter taken from an event's context, or lost where the buffer of 512 is full. -/
def State.takeSample (s : State) (n skid : Nat) (x : SampleCtx) : State :=
  if 512 ≤ s.pmc.samples.length then s.sampleLost
  else { s with pmc := { s.pmc with samples := s.pmc.samples ++ [⟨n, skid, x.b, x.gtime, x.a, x.value, s.counterScope n⟩] } }

/-- PMC_SAMPLE (R396): the sample that is due describes the event `skid` events after the one that completed the period, once that has
come; with none, it is dropped when all 16 have come and none was latched. -/
def execPmcSample (n : Fin 128) (skid : Option (Fin 16)) (s : State) : Result :=
  let l := Tab.lookD s.pmc.due n []
  let s1 := { s with pmc := { s.pmc with due := Tab.del s.pmc.due n } }
  match skid with
  | none => if l.length = 16 then .next s1.sampleLost else .next s
  | some k =>
    match l[k.val]? with
    | none => .next s
    | some x => .next (s1.takeSample n k x)

/-! ### Dumps (R393 to R395) -/

/-- The scopes of a dump in order (R393), as (record scope, partition): DEVICE, SECURITY, then each partition. -/
def State.dumpScopes (s : State) : List (Nat × Nat) := [(0, 0), (2, 0)] ++ s.cfg.parts.map (fun p => (1, p.1))

/-- A counter entry (R394). -/
def State.counterEntry (s : State) (n : Nat) : List Byte :=
  leBytes 8 (n * 2 ^ 57 + b2n (bitOf (s.rdN (Reg.PMC_OVF (n / 32))) (n % 32)) * 2 ^ 56 + s.rd64 (Reg.PMC_CNT n) % 2 ^ 48)

/-- A sample entry (R396). -/
def Sample.bytes (x : Sample) : List Byte :=
  leBytes 1 x.counter ++ leBytes 1 x.skid ++ [0, 0] ++ leBytes 4 x.b ++ leBytes 8 x.gtime ++ leBytes 8 x.a ++
    leBytes 8 x.value

/-- The records of a dump without their headers: kind, scope, partition, number of entries, and the entries' bytes. -/
def State.dumpBodies (s : State) : List (Nat × (Nat × Nat) × Nat × List Byte) :=
  let on := (List.range 128).filter (fun n => s.flag (Reg.PMC_SEL n) Fld.PMC_SEL_EN)
  let counters := s.dumpScopes.flatMap (fun sc =>
    (chunks 120 2 (on.filter (fun n => s.counterScope n == sc))).map (fun l => (1, sc, l.length, l.flatMap s.counterEntry)))
  let samples := s.dumpScopes.flatMap (fun sc =>
    (chunks 30 18 (s.pmc.samples.filter (fun x => x.scope == sc))).map (fun l =>
      (2, sc, l.length, l.flatMap Sample.bytes)))
  counters ++ samples

/-- A dump record (R394). -/
def State.dumpRecord (s : State) (count index : Nat) (b : Nat × (Nat × Nat) × Nat × List Byte) : List Byte :=
  slice ([0x4D, 0x5A, 0x44, 0x52] ++ leBytes 1 b.1 ++ leBytes 1 b.2.1.1 ++ leBytes 1 b.2.1.2 ++ leBytes 1 b.2.2.1 ++
    leBytes 8 s.pmc.dseq ++ leBytes 8 s.now ++ leBytes 4 index ++ leBytes 4 count ++ leBytes 4 s.pmc.smpLost ++
    leBytes 4 s.avail.loads ++ List.replicate 24 0#8 ++ b.2.2.2) 0 1024

/-- A record written at PMC_DMP_WPTR, which goes on to the next slot (R395); its slot takes the record's scope (R398). Dumps are
traffic of SC0 (R153, R155). -/
def State.putRecord (s : State) (pi : Nat) (p : Partition) (l : List Byte) : State :=
  let s0 := (s.served 0 l.length false).writeBytes pi p s.pmc.wptr l 0 false
  let sc : Nat × Nat := (leAt l 5 1, leAt l 6 1)
  let s1 := { s0 with pmc := { s0.pmc with scopes := Tab.put s0.pmc.scopes (s0.pmc.wptr / 1024) sc } }
  let next := s.pmc.wptr + 1024
  if next < p.size then { s1 with pmc := { s1.pmc with wptr := next } }
  else { s1 with pmc := { s1.pmc with wptr := 0, wraps := sat32 s1.pmc.wraps 1 } }

/-- Records written one after the other. -/
def State.putRecords (s : State) (pi : Nat) (p : Partition) (l : List (List Byte)) : State :=
  l.foldl (fun t r => t.putRecord pi p r) s

/-- The records of a dump in the order of R395. -/
def State.dumpRecords (s : State) : List (List Byte) :=
  let bodies := s.dumpBodies
  ((List.range bodies.length).zip bodies).map (fun e => s.dumpRecord bodies.length e.1 e.2)

/-- A dump taken: its records in order, then the sample buffer is empty and DSEQ goes on. -/
def State.dump (s : State) (pi : Nat) (p : Partition) : State :=
  let s1 := s.putRecords pi p s.dumpRecords
  { s1 with pmc := { s1.pmc with samples := [], dseq := s1.pmc.dseq + 1 } }

/-- COUNTER_DUMP (R393): in SERVICE, with a period and a DMP partition; a dump that falls due before the previous one is
written is skipped. -/
def execCounterDump (s : State) : Result :=
  match s.dmpPart with
  | none => .next s
  | some p =>
    if s.mode ≠ .service ∨ s.fld Reg.PMC_CFG Fld.PMC_CFG_PERIOD = 0 then .next s
    else if s.dumping then
      .next (({ s with pmc := { s.pmc with skipped := sat32 s.pmc.skipped 1 } }).event Reg.PMC_EVENTS
        Fld.PMC_EVENTS_DMP_SKIP)
    else .next (s.dump p.1 p.2)

end Sys2Proof.Machine
end

