-- ==== Sys2Proof/Machine/Cad.lean ====
section
/-! DEFINITION. Sys2Proof/Machine/Cad.lean: the commands of the fail cadastre (R79 to R122): records and their order,
folding, repair domains and pools, closing, and readout. -/
namespace Sys2Proof.Machine

/-! ### Ingest (R21, R84, R114, R233, R538) -/

/-- The reason a record gets where there is no CAD partition (R114). -/
def quickReason (l : List Byte) : ExcReason :=
  if !recCrcOk l then .crc else if !recFormatOk l then .format else .noSource

/-- A record of an accepted FAIL packet: it enters the ingest queue, or is classed at once without a CAD partition. -/
def State.acceptRecord (s : State) (k : Nat) (l : List Byte) : State :=
  let s1 := s.count 0x0D 1 (recSource l) none (recSseq l) (recSource l)
  if s1.cadPart.isNone then s1.exception l k (quickReason l) none
  else { s1 with cad := { s1.cad with ingest := s1.cad.ingest ++ [⟨l, k⟩] } }

/-- The records of an accepted FAIL packet (R233). -/
def State.failPacket (s : State) (k : Nat) (payload : List Byte) : State :=
  ((chunks 32 18 payload).foldl (fun t l => t.acceptRecord k l) s).queueMoved

/-- FAIL_PACKET (R233): an accepted packet; where lanes are off or the mode has no fail ingest, none arrives (R29). -/
def execFailPacket (k : Fin 16) (payload : List Byte) (s : State) : Result :=
  if s.chainUp k ∧ s.mode ≠ .cold ∧ s.mode ≠ .safe then .next (s.failPacket k payload) else .next s

/-- The source a record is logged for (R538). -/
def State.logSource (s : State) (f : FailRec) : Option Nat :=
  let i := recSource f.bytes
  if s.srcEnabled i && s.fld (Reg.CAD_SRC_CFG i) Fld.CAD_SRC_CFG_CHAIN == f.chain && s.srcMode i != 0 then some i else none

/-- The checks of R89 in their order, and then ordering (R84). -/
def State.orderRecord (s : State) (f : FailRec) : State :=
  let i := recSource f.bytes
  if !recCrcOk f.bytes then s.exception f.bytes f.chain .crc none
  else if !recFormatOk f.bytes then s.exception f.bytes f.chain .format none
  else if !s.srcEnabled i || s.fld (Reg.CAD_SRC_CFG i) Fld.CAD_SRC_CFG_CHAIN != f.chain then
    s.exception f.bytes f.chain .noSource none
  else if recLabel f.bytes ≠ s.fld (Reg.CAD_SRC_CFG i) Fld.CAD_SRC_CFG_LABEL then s.exception f.bytes f.chain .label none
  else s.arrive i f

/-- A record taken from the ingest queue (R84, R89, R538). -/
def State.failRecord (s : State) (f : FailRec) : State :=
  match s.logSource f with
  | some i => if s.srcMode i = 1 then s.capture i f else (s.capture i f).orderRecord f
  | none => s.orderRecord f

/-- FAIL_RECORD (R84, R89, R538): the head of the ingest queue, in SERVICE. -/
def execFailRecord (s : State) : Result :=
  match s.mode, s.cad.ingest with
  | .service, f :: r => .next (({ s with cad := { s.cad with ingest := r } }).failRecord f).queueMoved
  | _, _ => .next s

/-- CAP_BLOCK_TIMEOUT (R93): 10 µs after its first record a block is written out short, in whatever mode its log is kept. -/
def execCapBlockTimeout (p : Fin 16) (s : State) : Result :=
  if s.mode ≠ .cold ∧ s.mode ≠ .safe ∧ (s.capLog p).recs ≠ [] ∧ (s.capLog p).start + 3125 ≤ s.now then .next (s.writeBlock p (s.capRing p)) else .next s

/-- The gap timer of a source expires (R85): a gap up to the lowest held number, or, where no NX is valid, the held
records released in order (chapter 04 Modes). -/
def State.gapExpire (s : State) (src : Nat) : State :=
  let x := s.source src
  match x.held, x.nx with
  | [], _ => s
  | h :: _, some nx =>
    let s1 := s.declareGap src nx (serialDist nx h.1)
    let s2 := s1.setSource src { s1.source src with nx := some h.1 }
    ((s2.releaseRun src x.held).timerUpdate src (some nx)).queueMoved
  | h :: t, none => ((s.releaseAll src none (h :: t)).timerUpdate src none).queueMoved

/-- The time of a source's gap timer in µs: GAP_TMO, or 20 (R85). -/
def State.gapTime (s : State) (src : Nat) : Nat :=
  let n := s.fld (Reg.CAD_SRC_CFG src) Fld.CAD_SRC_CFG_GAP_TMO
  if n = 0 then 20 else n

/-- GAP_TIMER_EXPIRE (R85): in SERVICE, where the timer runs and its time is over. -/
def execGapTimerExpire (src : Fin 256) (s : State) : Result :=
  if s.mode = .service ∧ (s.source src).timer ∧ 2 * (s.source src).tGap + 625 * s.gapTime src ≤ 2 * s.now then .next (s.gapExpire src) else .next s

/-- A released record taken by a fold pipe (R87 to R89, R97): its slot is read anew, as its domain may have been closed or released
since. -/
def State.fold (s : State) (r : Released) : State :=
  let l := r.fail.bytes
  match s.resolve l r.late with
  | .inl (d, x) =>
    let label := s.fld (Reg.CAD_SRC_CFG (recSource l)) Fld.CAD_SRC_CFG_LABEL
    ((s.draw).traffic (s.labelClass label) (64 * (Config.freeNat s.fresh % 3)) label).1.applyRecord d x r.fail r.late
  | .inr e => s.exception l r.fail.chain e.1 e.2

/-- FOLD_RECORD (R97): the oldest released record, in SERVICE. -/
def execFoldRecord (s : State) : Result :=
  match s.mode, s.cad.released with
  | .service, r :: t => .next (({ s with cad := { s.cad with released := t } }).fold r).queueMoved
  | _, _ => .next s

/-- The status of RESYNC (R115, R493). -/
def resyncStatus (r : Req) (s : State) : Status := firstStatus (s.hostChecks r)

/-- RESYNC (R84, R115). -/
def execResync (r : Req) (src : Fin 256) (s : State) : Result :=
  .next (s.hostWrite r (Reg.CAD_SRC_CMD src) (resyncStatus r s) (fun t => t.loseNx src))

/-! ### Domain commands (R98 to R104, R117, R118) -/

/-- CAD_DFIRST. -/
def State.dFirst (s : State) : Nat := s.rdN Reg.CAD_DFIRST % 2 ^ 24

/-- CAD_DCOUNT. -/
def State.dCount (s : State) : Nat := s.rdN Reg.CAD_DCOUNT % 2 ^ 25

/-- The id lies in the command's range. -/
def State.inRange (s : State) (d : Nat) : Bool := decide (s.dFirst ≤ d) && decide (d < s.dFirst + s.dCount)

/-- Count 0, or a range beyond 2^24 - 1. -/
def State.badRange (s : State) : Bool := s.dCount == 0 || decide (2 ^ 24 < s.dFirst + s.dCount)

/-- The sources of the fence registers. -/
def State.fenceSrcs (s : State) : List Nat :=
  (List.range 256).filter (fun i => bitOf (s.rdN (Reg.CAD_FENCE_SRC (i / 32))) (i % 32))

/-- The fields of CAD_DSITE and CAD_DSPARE. -/
def State.dSite (s : State) : Nat := s.fld Reg.CAD_DSITE Fld.CAD_DSITE_SITE
/-- PLAT of CAD_DSITE. -/
def State.dPlat (s : State) : Nat := s.fld Reg.CAD_DSITE Fld.CAD_DSITE_PLAT
/-- POOL of CAD_DSPARE. -/
def State.dPool (s : State) : Nat := s.fld Reg.CAD_DSPARE Fld.CAD_DSPARE_POOL
/-- RS of CAD_DSPARE. -/
def State.dRs (s : State) : Nat := s.fld Reg.CAD_DSPARE Fld.CAD_DSPARE_RS
/-- CS of CAD_DSPARE. -/
def State.dCs (s : State) : Nat := s.fld Reg.CAD_DSPARE Fld.CAD_DSPARE_CS

/-- A domain command is BUSY (R117). -/
def State.domBusy (s : State) : Bool := s.cad.dcmd.isSome

/-- The last site of an OPEN. -/
def State.lastSite (s : State) : Nat := s.dSite + (s.dCount - 1) / s.platBlocks s.dPlat

/-- E_CONFLICT of OPEN (R99, R117): an OPEN or CLOSING domain holds a slot of the range, or another plat on a site of it. -/
def State.openConflict (s : State) : Bool :=
  s.cad.domains.any (fun e => e.2.active && decide (s.dSite ≤ e.2.site) && decide (e.2.site ≤ s.lastSite) &&
    (e.2.plat != s.dPlat || (decide (e.2.block < s.platBlocks s.dPlat) &&
      decide ((e.2.site - s.dSite) * s.platBlocks s.dPlat + e.2.block < s.dCount))))

/-- The status of OPEN (R117). -/
def openStatus (r : Req) (s : State) : Status :=
  firstStatus (s.hostChecks r ++
    [(s.mode != .service, .eState),
     (s.domBusy, .eBusy),
     (s.badRange || !s.platDefined s.dPlat || decide (1023 < s.lastSite) || decide (32 < s.dRs) || decide (32 < s.dCs) ||
        (s.dPool != 0 && (Tab.look s.cad.pools s.dPool).isNone), .eRange),
     (s.cad.domains.any (fun e => s.inRange e.1 && e.2.state != .free), .eState),
     (s.openConflict, .eConflict),
     (s.dPool != 0 && decide (16 < (s.members s.dPool).length + s.dCount), .eResource)])

/-- The i-th domain of an OPEN opened (R98, R99). -/
def State.openOne (s : State) (c : DomCmd) (i : Nat) : State :=
  let n := s.platBlocks c.new.plat
  let site := c.new.site + i / n
  { s with cad := { s.cad with
      domains := Tab.put s.cad.domains (c.first + i) { c.new with state := .open, site := site, block := i % n }
      siteMap := Tab.put s.cad.siteMap (256 * site + i % n) (c.first + i, true)
      sitePlat := Tab.put s.cad.sitePlat site c.new.plat } }

/-- The status of CLOSE (R117). -/
def closeStatus (r : Req) (fenced : Bool) (s : State) : Status :=
  let later := s.mode == .hold || s.mode == .maintain
  firstStatus (s.hostChecks r ++
    [(!later && s.mode != .service, .eState),
     (s.domBusy || (later && decide (16 ≤ s.cad.closeQ.length)), .eBusy),
     (s.badRange || (fenced && s.fenceSrcs.isEmpty), .eRange),
     (decide ((s.cad.domains.filter (fun e => s.inRange e.1 && e.2.state == .open)).length < s.dCount), .eState)])

/-- The time of the fence timer in µs: CAD_FENCE_TMO, or 100 (R101). -/
def State.fenceTime (s : State) : Nat :=
  let n := s.rdN Reg.CAD_FENCE_TMO % 65536
  if n = 0 then 100 else n

/-- One domain of a CLOSE becomes CLOSING; a domain an earlier queued CLOSE has taken is passed over (R101, R118). -/
def State.closeOne (s : State) (q : QueuedClose) (i : Nat) : State :=
  let x := s.domain (q.first + i)
  if x.state = .open then
    s.setDomain (q.first + i) { x with
      state := .closing, closeSeq := q.seq, timer := q.fenced, fenceDue := 2 * s.now + 625 * s.fenceTime, missing := false
      fence := if q.fenced then some (q.fenceId, q.srcs, q.first) else none }
  else s

/-- The fence and range of a CLOSE. -/
def DomCmd.close (c : DomCmd) : QueuedClose := ⟨c.first, c.count, c.fenced, c.fenceId, c.srcs, c.seq⟩

/-- The queued closes run after the return to SERVICE, in the order in which they were accepted (R118). -/
def State.runQueuedCloses (s : State) : State :=
  s.cad.closeQ.foldl (fun t q =>
    let t1 := (List.range q.count).foldl (fun u i => u.closeOne q i) t
    { t1 with cad := { t1.cad with done := q.count } }) { s with cad := { s.cad with closeQ := [] } }

/-- The status of RELEASE (R117). -/
def releaseStatus (r : Req) (s : State) : Status :=
  firstStatus (s.hostChecks r ++
    [(s.mode != .service, .eState), (s.domBusy, .eBusy), (s.badRange, .eRange),
     (decide ((s.cad.domains.filter (fun e => s.inRange e.1 && (e.2.state == .open || e.2.state == .done))).length <
        s.dCount), .eState)])

/-- One domain released (R104, R109, R133, R146): its entry, map, heap, cache entries and slot go, a result of it that has not been copied
is dropped, and a round of its pool may come due. -/
def State.releaseOne (s : State) (d : Nat) : State :=
  let x := s.domain d
  let slot := 256 * x.site + x.block
  let s1 := { s with
    cad := { s.cad with
      domains := Tab.del s.cad.domains d
      heapUsed := s.cad.heapUsed - (x.spaces.map HeapSpace.units).sum
      lotIndex := s.cad.lotIndex.filter (fun e => e.1 != d)
      tallyLines := s.cad.tallyLines.filter (fun e => e.1 != d)
      siteMap := match Tab.look s.cad.siteMap slot with
        | some (o, _) => if o = d then Tab.del s.cad.siteMap slot else s.cad.siteMap
        | none => s.cad.siteMap }
    rae := { s.rae with copyQ := s.rae.copyQ.filter (fun q => q.domain != d) } }
  let dropped := s.rae.copyQ.length - s1.rae.copyQ.length
  let s2 := if dropped = 0 then s1
    else (s1.satInc Reg.RAE_RING_DROP dropped).event Reg.RAE_EVENTS Fld.RAE_EVENTS_RING_DROP
  s2.heapCheck.checkRound x.pool none

/-- The status of POOL_DEF (R117). -/
def poolDefStatus (r : Req) (s : State) : Status :=
  firstStatus (s.hostChecks r ++
    [(s.mode != .service, .eState), (s.domBusy, .eBusy), (s.dPool == 0 || decide (64 < s.dRs + s.dCs), .eRange),
     ((Tab.look s.cad.pools s.dPool).isSome, .eConflict)])

/-- The status of POOL_DEL (R117). -/
def poolDelStatus (r : Req) (s : State) : Status :=
  firstStatus (s.hostChecks r ++
    [(s.mode != .service, .eState), (s.domBusy || (s.dPool != 0 && !(s.members s.dPool).isEmpty), .eBusy),
     (s.dPool == 0 || (Tab.look s.cad.pools s.dPool).isNone, .eRange)])

/-- The pool table replaced. -/
def State.withPools (s : State) (t : Tab Pool) : State := { s with cad := { s.cad with pools := t } }

/-! ### Domain commands in progress (R117, R118) -/

/-- The command that the command registers describe. -/
def State.domAsked (s : State) (op : Nat) (fenced : Bool) : DomCmd :=
  { op := op, first := s.dFirst, count := if op < 4 then s.dCount else 1
    new := { site := s.dSite, plat := s.dPlat, rs := s.dRs, cs := s.dCs, pool := s.dPool
             tbud := s.fld Reg.CAD_DBUDGET Fld.CAD_DBUDGET_TBUD, nbud := s.fld Reg.CAD_DBUDGET Fld.CAD_DBUDGET_NBUD }
    fenced := fenced, fenceId := s.rdN Reg.CAD_FENCE_ID, srcs := if fenced then s.fenceSrcs else [], seq := s.cad.relSeq }

/-- The i-th domain of a command, or the entry of its pool, processed. -/
def State.domOne (s : State) (c : DomCmd) (i : Nat) : State :=
  match c.op with
  | 1 => s.openOne c i
  | 2 => s.closeOne c.close i
  | 3 => s.releaseOne (c.first + i)
  | 4 => s.withPools (Tab.put s.cad.pools c.new.pool { pr := c.new.rs, pc := c.new.cs })
  | _ => s.withPools (Tab.del s.cad.pools c.new.pool)

/-- A command goes on in ascending domain id until `n` domains have been processed (R118); with the last one BUSY clears. -/
def State.domRun (s : State) (c : DomCmd) (n : Nat) : State :=
  let m := min n c.count
  let s1 := ((List.range m).drop s.cad.done).foldl (fun (t : State) i => t.domOne c i) s
  let left : Option DomCmd := if m < c.count then some c else none
  { s1 with cad := { s1.cad with done := m, dcmd := left } }

/-- A domain command accepted (R117, R118): when the step ends `upto` domains have been processed, and all where it is none. -/
def State.domStart (s : State) (c : DomCmd) (upto : Option (BitVec 25)) : State :=
  ({ s with cad := { s.cad with done := 0, stopped := false } }).domRun c (match upto with
    | none => c.count
    | some k => k.toNat)

/-- A command that is BUSY processes its next domain (R117). -/
def State.domStep (s : State) : State :=
  match s.mode, s.cad.dcmd with
  | .service, some c => s.domRun c (s.cad.done + 1)
  | _, _ => s

/-- A request for HOLD or MAINTAIN is accepted, or a warm load begins (R118): a command that is BUSY stops after the domain in
progress, and STOPPED is set. -/
def State.stopDomCmd (s : State) : State :=
  match s.cad.dcmd with
  | none => s
  | some c =>
    let s1 := s.domRun c (s.cad.done + 1)
    { s1 with cad := { s1.cad with dcmd := none, stopped := true } }

/-- OPEN (R98, R117, R118). -/
def execDomOpen (r : Req) (upto : Option (BitVec 25)) (s : State) : Result :=
  .next (s.hostWrite r Reg.CAD_DCMD (openStatus r s) (fun t => t.domStart (t.domAsked 1 false) upto))

/-- CLOSE accepted (R101, R118): run in SERVICE, queued in HOLD and MAINTAIN. -/
def State.acceptClose (s : State) (fenced : Bool) (upto : Option (BitVec 25)) : State :=
  let c := s.domAsked 2 fenced
  if s.mode = .service then s.domStart c upto
  else { s with cad := { s.cad with closeQ := s.cad.closeQ ++ [c.close], stopped := false, done := 0 } }

/-- CLOSE (R101, R117, R118). -/
def execDomClose (r : Req) (fenced : Bool) (upto : Option (BitVec 25)) (s : State) : Result :=
  .next (s.hostWrite r Reg.CAD_DCMD (closeStatus r fenced s) (fun t => t.acceptClose fenced upto))

/-- RELEASE (R104, R117, R118). -/
def execDomRelease (r : Req) (upto : Option (BitVec 25)) (s : State) : Result :=
  .next (s.hostWrite r Reg.CAD_DCMD (releaseStatus r s) (fun t => t.domStart (t.domAsked 3 false) upto))

/-- POOL_DEF (R100, R117). -/
def execPoolDef (r : Req) (upto : Option (BitVec 25)) (s : State) : Result :=
  .next (s.hostWrite r Reg.CAD_DCMD (poolDefStatus r s) (fun t => t.domStart (t.domAsked 4 false) upto))

/-- POOL_DEL (R100, R117). -/
def execPoolDel (r : Req) (upto : Option (BitVec 25)) (s : State) : Result :=
  .next (s.hostWrite r Reg.CAD_DCMD (poolDelStatus r s) (fun t => t.domStart (t.domAsked 5 false) upto))

/-! ### Closing (R101, R110) -/

/-- The fence timer of a CLOSE expires (R101): the CLOSE is named by its first domain, and all its CLOSING domains end
their wait. -/
def State.fenceExpire (s : State) (id : Nat) (srcs : List Nat) (first : Nat) : State :=
  let missing := srcs.filter (fun i => !(s.source i).marked || (s.source i).mark != id)
  let s1 := (List.range 8).foldl (fun t i =>
    t.wrN (Reg.CAD_FENCE_MISS i) (maskOf ((missing.filter (fun m => m / 32 == i)).map (fun m => m % 32)))) s
  let s2 := { s1 with cad := { s1.cad with domains := s1.cad.domains.map (fun (e : Nat × Domain) =>
    if e.2.state = DomState.closing ∧ e.2.timer = true ∧ e.2.fence = some (id, srcs, first) then
      (e.1, { e.2 with fenceTimeout := true, missing := true, timer := false })
    else e) } }
  (s2.event Reg.CAD_EVENTS Fld.CAD_EVENTS_FENCE_TIMEOUT).alert 0x35 0xFF id first 0 0

/-- FENCE_TIMER_EXPIRE (R101): in SERVICE, for the CLOSE whose first domain is `d`, once its time is over, while some selected source has not released its
MARKER or a record before it is not folded; a MARKER of the same cycle counts as in time. -/
def execFenceTimerExpire (d : BitVec 24) (s : State) : Result :=
  match s.cad.domains.find? (fun e => e.2.state == .closing && e.2.timer && decide (e.2.fenceDue ≤ 2 * s.now) &&
      (match e.2.fence with
        | some f => f.2.2 == d.toNat && f.2.1.any (fun i => s.fenceWaits f.1 i)
        | none => false)) with
  | some (_, x) =>
    match s.mode, x.fence with
    | .service, some (id, srcs, first) => .next (s.fenceExpire id srcs first)
    | _, _ => .next s
  | none => .next s

/-- A domain becomes CLOSED with its close record, for which the heap has been reserved (R99, R110, R122): its cache entries and slot are freed, and the
dispatcher queues it, or handles it at once when it is OVF (R123, R124). -/
def State.becomeClosed (s : State) (d : Nat) (c : CloseRec) : State :=
  let x := s.domain d
  let slot := 256 * x.site + x.block
  let y : Domain := { x with
    state := .closed, ovf := c.ovf, hr := c.hr, hc := c.hc, lp := c.lp, closeAddr := x.placeOf .closeRec
    tClosed := s.now, tClosedT0 := s.now, tbud := c.tbud, nbud := c.nbud, closeRec := some c, timer := false }
  let s1 := (s.setDomain d y).count 0x10 1 0 none d (65536 * c.hr + c.hc)
  let s2 := { s1 with cad := { s1.cad with
    lotIndex := s1.cad.lotIndex.filter (fun e => e.1 != d)
    tallyLines := s1.cad.tallyLines.filter (fun e => e.1 != d)
    siteMap := match Tab.look s1.cad.siteMap slot with
      | some (o, _) => if o = d then Tab.put s1.cad.siteMap slot (d, false) else s1.cad.siteMap
      | none => s1.cad.siteMap } }
  if c.ovf then s2.takeOutcome d 0xFF (overflowOutcome c)
  else { s2 with rae := { s2.rae with queue := s2.rae.queue ++ [d] } }

/-- CLOSE_RECORD_BUILD (R110): in SERVICE, once the close condition holds; without heap the domain stays CLOSING. -/
def execCloseRecordBuild (d : BitVec 24) (s : State) : Result :=
  if s.mode = .service ∧ s.closeReady d.toNat then
    let c := s.closeRecord d.toNat
    match s.takeAll (s.closeNeeds d.toNat c) with
    | none => .next (s.event Reg.CAD_EVENTS Fld.CAD_EVENTS_HEAP_FULL)
    | some t => .next (t.heapCheck.becomeClosed d.toNat c)
  else .next s

/-! ### Readout (R112, R113, R119) -/

/-- The forms of R112. -/
inductive Form where
  | summary | points | lines | closeRecord
deriving DecidableEq, Repr

/-- The codes of R112. -/
def Form.code : Form → Nat
  | .summary => 1 | .points => 2 | .lines => 3 | .closeRecord => 4

/-- The states R112 admits for a form. -/
def formAdmits (f : Form) (st : DomState) : Bool :=
  match f, st with
  | _, .free => false
  | .closeRecord, .open => false
  | .closeRecord, .closing => false
  | _, _ => true

/-- The domain a readout names. -/
def State.rDom (s : State) : Nat := s.rdN Reg.CAD_RDOM % 2 ^ 24
/-- The partition a readout goes to. -/
def State.rPart (s : State) : Nat := s.rd64 Reg.CAD_RDEST / 2 ^ 60
/-- The byte offset a readout goes to. -/
def State.rOff (s : State) : Nat := s.rd64 Reg.CAD_RDEST % 2 ^ 60

/-- The status of a readout command (R119). -/
def readoutStatus (r : Req) (f : Form) (s : State) : Status :=
  let size := ((Tab.look s.cfg.parts s.rPart).map Partition.size)
  firstStatus (s.hostChecks r ++
    [(s.mode != .service || !formAdmits f (s.domain s.rDom).state, .eState),
     (s.cad.readout.isSome, .eBusy),
     (s.rOff % 64 != 0 || decide (s.rdN Reg.CAD_RMAX < 64) ||
        (match size with
          | some n => decide (n < s.rOff + s.rdN Reg.CAD_RMAX)
          | none => false), .eRange),
     ((match Tab.look s.cfg.parts s.rPart with
        | some p => p.pers != 4
        | none => true), .eAccess)])

/-- The lines of a map with their exact counts: rows, then columns (R112). -/
def Domain.lineEntries (x : Domain) : List (List Byte) :=
  let p := x.points
  (rowsOf p).map (fun y => leBytes 2 y ++ leBytes 2 0 ++ leBytes 4 (rowCount p y)) ++
    (colsOf p).map (fun c => leBytes 2 c ++ leBytes 2 1 ++ leBytes 4 (colCount p c))

/-- The entries of a form (R112). -/
def Domain.formEntries (x : Domain) : Form → List (List Byte)
  | .summary => [x.entry]
  | .points => x.points.map (fun p => leBytes 4 (p.1 * 65536 + p.2))
  | .lines => x.lineEntries
  | .closeRecord => match x.closeRec with
    | some c => c.header :: c.entries
    | none => []

/-- The whole entries that fit in some bytes (R113). -/
def fitting : Nat → List (List Byte) → List (List Byte)
  | _, [] => []
  | room, e :: r => if e.length ≤ room then e :: fitting (room - e.length) r else []

/-- The label of readout traffic (R155). -/
def State.readoutLabel (s : State) : Nat := s.fld Reg.CAD_RLABEL Fld.CAD_RLABEL_LABEL

/-- The class of readout traffic (R155, R157). -/
def State.readoutClass (s : State) : Nat := s.labelUser s.readoutLabel

/-- A readout begins (R112, R113): the entries that fit are written behind the place of the header. -/
def State.startReadout (s : State) (f : Form) : State :=
  match Tab.look s.cfg.parts s.rPart with
  | none => s
  | some p =>
    let x := s.domain s.rDom
    let all := x.formEntries f
    let some_ := fitting (s.rdN Reg.CAD_RMAX - 64) all
    let l := some_.flatten
    let t := s.traffic s.readoutClass (64 + l.length) s.readoutLabel
    let s1 := t.1.writeBytes s.rPart p (s.rOff + 64) l s.readoutClass t.2
    let ro : Readout := ⟨s.rDom, f.code, s.rPart, s.rOff, some_.length, decide (some_.length < all.length), x.folded, s.now, t.2⟩
    { s1 with cad := { s1.cad with readout := some ro } }

/-- A readout command of a form. -/
def State.readoutCmd (s : State) (r : Req) (f : Form) : State :=
  s.hostWrite r Reg.CAD_RCMD (readoutStatus r f s) (fun t => t.startReadout f)

/-- READOUT_SUMMARY (R112, R119). -/
def execReadoutSummary (r : Req) (s : State) : Result := .next (s.readoutCmd r .summary)

/-- READOUT_POINTS (R112, R119). -/
def execReadoutPoints (r : Req) (s : State) : Result := .next (s.readoutCmd r .points)

/-- READOUT_LINES (R112, R119). -/
def execReadoutLines (r : Req) (s : State) : Result := .next (s.readoutCmd r .lines)

/-- READOUT_CLOSE_RECORD (R112, R119). -/
def execReadoutCloseRecord (r : Req) (s : State) : Result := .next (s.readoutCmd r .closeRecord)

/-- The readout header (R113). -/
def Readout.header (x : Readout) (foldedEnd now : Nat) : List Byte :=
  slice (leBytes 4 x.domain ++ leBytes 1 x.form ++ leBytes 1 (if x.cut then Status.eResource.code else Status.ok.code) ++
    leBytes 2 0 ++ leBytes 8 x.entries ++ leBytes 8 x.foldedStart ++ leBytes 8 foldedEnd ++ leBytes 8 x.tStart ++
    leBytes 8 now) 0 64

/-- READOUT_DONE (R113): the header is written and the readout is over. -/
def execReadoutDone (s : State) : Result :=
  match s.cad.readout with
  | none => .next s
  | some x =>
    let done : State := { s with cad := { s.cad with
      readout := none, rstat := if x.cut then Status.eResource.code else Status.ok.code } }
    match Tab.look s.cfg.parts x.part with
    | none => .next done
    | some p => .next (done.writeBytes x.part p x.off (x.header (s.domain x.domain).folded s.now) s.readoutClass x.conf)

/-! ### The exception log (R91) -/

/-- The status of a write of CAD_EXC_RPTR (R91). -/
def excRptrStatus (r : Req) (v : Word) (s : State) : Status :=
  let rp := s.rdN Reg.CAD_EXC_RPTR
  let u := (s.rdN Reg.CAD_EXC_WPTR + excEntries - rp) % excEntries
  firstStatus (s.hostChecks r ++ [(decide (u < (v.toNat % excEntries + excEntries - rp) % excEntries), .eRange)])

/-- CAD_EXC_RPTR_WRITE (R91). -/
def execCadExcRptrWrite (r : Req) (v : Word) (s : State) : Result :=
  .next (s.hostWrite r Reg.CAD_EXC_RPTR (excRptrStatus r v s) (fun t => t.wrN Reg.CAD_EXC_RPTR (v.toNat % excEntries)))

end Sys2Proof.Machine
end

