-- ==== Sys2Proof/Machine/Dmc.lean ====
section
/-! DEFINITION. Sys2Proof/Machine/Dmc.lean: the commands of the memory controllers and of data integrity (R250 to R302). -/
namespace Sys2Proof.Machine

/-- A channel takes commands: brought up, awake, and no transit runs. A retired channel takes them while its salvage is
not complete (R325). -/
def State.chanReady (s : State) (c : Nat) : Bool :=
  let x := s.chan c
  x.on && !x.sr && !s.inTransit &&
    (x.width != .retired || s.cfg.retQueue.contains c ||
      (match s.cfg.salvage with
       | some v => v.ch == c
       | none => false))

/-- A codeword address of a channel. -/
def cwValid (a : Nat) : Bool := a % 64 == 0 && decide (a < chanBytes)

/-- Positions of a read's errors lie in 0 to 37. -/
def errsValid (e : ReadErrs) : Bool := (e.cell ++ e.line ++ e.reread).all (fun x => decide (x.1 < 38))

/-- Raises LATE_HIT when a request reached the pass limit (R256). -/
def State.lateHit (s : State) (c : Nat) (late : Bool) : State :=
  if late then s.event (Reg.DMC_EVENTS c) Fld.DMC_EVENTS_LATE_HIT else s

/-! ### Refresh -/

/-- A refresh tick of a channel (R262): PULLED pays for it, or it is owed, up to 8; then what is forced is issued. A tick that meets
the start of a transit, or falls in it, is owed until the transit's step 3 or its end (R268, R274). -/
def State.refreshTick (s0 : State) (c : Nat) : State :=
  let s := s0.postponeUpdate c
  let x := s.chan c
  if !x.on || x.sr || x.width == .retired then s0
  else if 0 < x.pulled then s.setChan c { x with pulled := x.pulled - 1 }
  else
    let owed := min 8 (x.owed + 1)
    ((s.setChan c { x with owed := owed }).wrN (Reg.DMC_REF_OWEDMAX c) (max (s.rdN (Reg.DMC_REF_OWEDMAX c)) owed)).forceRefresh c

/-- REFRESH_TICK (R262). -/
def execRefreshTick (c : Fin 32) (s : State) : Result := .next (s.refreshTick c)

/-- An idle channel, on which no request of level 1 to 3 waits, issues a refresh at level 4: one that waits under postponement, or a
pull-in (R262). -/
def State.pullIn (s : State) (c : Nat) : State :=
  let x := s.chan c
  if !x.on || x.sr || x.width == .retired || s.inTransit || x.held || x.waiting.any (fun r => decide ((s.reqBid r).level ≤ 3)) then s
  else if 0 < x.owed then s.issueRefreshes c 1
  else if x.pulled < 8 then (s.setChan c { x with pulled := x.pulled + 1 }).refreshed c 1 0
  else s

/-- PULL_IN_REFRESH (R262). -/
def execPullInRefresh (c : Fin 32) (s : State) : Result := .next (s.pullIn c)

/-- A bank's open row closed by a precharge of its own (R256, R266). -/
def State.closeRow (s : State) (c bank : Nat) : State :=
  match Tab.look (s.chan c).openRows bank with
  | none => s
  | some row =>
    let s1 := s.command c (s.plainCmd 4 (rowOfBank bank row))
    s1.setChan c { s1.chan c with openRows := Tab.del (s1.chan c).openRows bank }

/-- ROW_IDLE_PRECHARGE (R256): the bank's open row is closed; a channel that takes no commands has none open. -/
def execRowIdlePrecharge (c : Fin 32) (bank : Fin 32) (s : State) : Result :=
  if s.inTransit || (s.chan c).held then .next s else .next (s.closeRow c bank)

/-! ### Reads and writes -/

/-- A codeword read is taken (R257, R283 to R286): the class is charged, and the codeword is read and the reader answered; or the read
waits for its channel. -/
def State.dmcRead (s : State) (c a cls age cycles : Nat) (late : Bool) (errs : ReadErrs) (reader : Reader) : State :=
  let ch := s.charge cls 64
  let s1 := (ch.1.served cls 64 ch.2).lateHit c late
  if s1.readWaits c a then s1.askChan c a cls ch.2 (s.now - age * 25 / 8) (.read errs reader)
  else ((s1.latServed cls age).readFor c a s1.dmc.reqSeq errs reader).latMax c cycles

/-- DMC_READ (R257). While its channel takes no commands a request stays where it is, and nothing changes; a real-time one that meets a
ROW leg on its bank aborts it (R312). -/
def execDmcRead (c : Fin 32) (a : BitVec 32) (cls : Fin 32) (age cycles : Nat) (late : Bool) (errs : ReadErrs)
    (reader : Reader) (s : State) : Result :=
  if !cwValid a.toNat || !errsValid errs then .fault .illFormed
  else if !s.chanReady c then .next s
  else if s.realTime cls age (s.charge cls 64).2 then
    .next ((s.preemptBank c a.toNat).dmcRead c a.toNat cls age cycles late errs reader)
  else .next (s.dmcRead c a.toNat cls age cycles late errs reader)

/-- A codeword write is taken (R287): charged by its bytes; merged or written, or it waits for its channel. -/
def State.dmcWrite (s : State) (c a cls age : Nat) (late : Bool) (d : BitVec 512) (w : BitVec 64) : State :=
  let ch := s.charge cls (byteCount w)
  let s1 := (ch.1.served cls (byteCount w) ch.2).lateHit c late
  s1.writeOrWait c a d w cls ch.2 (s.now - age * 25 / 8) (s1.partOfAddr c a)

/-- DMC_WRITE (R287). -/
def execDmcWrite (c : Fin 32) (a : BitVec 32) (cls : Fin 32) (age : Nat) (late : Bool) (data : BitVec 512)
    (bytes : BitVec 64) (s : State) : Result :=
  if !cwValid a.toNat || bytes == 0#64 then .fault .illFormed
  else if !s.chanReady c then .next s
  else if s.realTime cls age (s.charge cls (byteCount bytes)).2 then
    .next ((s.preemptBank c a.toNat).dmcWrite c a.toNat cls age late data bytes)
  else .next (s.dmcWrite c a.toNat cls age late data bytes)

/-- A merge entry whose 2 µs are over waits for its channel (R288, R312). -/
def State.dueMerge (s : State) (c a : Nat) : State :=
  s.setChan c { s.chan c with merge := (s.chan c).merge.map (fun m => if m.addr = a then { m with due := true } else m) }

/-- MERGE_ENTRY_TIMEOUT (R288, R289): an entry is written by read-modify-write 2 µs after its allocation, once its channel is not held
and no ROW leg holds its bank; ages do not advance while the channel is in self-refresh (R292). -/
def execMergeEntryTimeout (c : Fin 32) (a : BitVec 32) (errs : ReadErrs) (s : State) : Result :=
  if !errsValid errs then .fault .illFormed
  else if !s.chanReady c then .next s
  else match (s.chan c).mergeOf a.toNat with
    | none => .next s
    | some e =>
      if s.now < e.t + 625 then .next s
      else if (s.chan c).held || (s.bankLeg c e.addr).isSome then .next (s.dueMerge c e.addr)
      else .next (s.rmw c e errs (s.partOfAddr c e.addr)).st

/-! ### Command parity (R265 to R267) -/

/-- Commands from the retry buffer reissued in their order, after CLEAR (R266). -/
def State.reissue (s : State) (c back : Nat) : State :=
  let x := s.chan c
  let n := x.retry.length - 1 - back
  let again := (x.retry.drop n).map (fun (k : DramCmd) => { k with at_ := s.now })
  again.foldl (fun (t : State) k => t.emit (.dram c k.kind k.addr))
    (((s.setChan c { x with retry := x.retry.take n ++ again }).satInc (Reg.DMC_REPLAY_CNT c)).emit (.dram c 0 0))

/-- What a die holds where it ignored a write (R265): the codeword as it stood before. -/
def State.ignored (s : State) (c : Nat) (k : DramCmd) : State :=
  let m := (List.range 64).foldl (fun (l : List Host.Cell) i => Tab.del l (memKey c k.addr + i)) s.mem
  { s with
    mem := k.oldMem.foldl (fun (l : List Host.Cell) e => Tab.put l e.1 e.2) m
    errs := if k.oldErr = [] then Tab.del s.errs (memKey c k.addr) else Tab.put s.errs (memKey c k.addr) k.oldErr }

/-- A request of the write queue after the commands from number `n` on were refused to the last: an issued write among them waits
again in its place, with its data (R266, R267). -/
def DmcReq.again (n : Nat) (r : DmcReq) : DmcReq :=
  match r.op with
  | .sent m d e => if n ≤ m then { r with op := .again d e } else r
  | _ => r

/-- The issued writes among some commands, the first of them number `n`, that stand in the retry buffer alone, as requests that wait;
`i`: the number of the first request. -/
def aloneAgain (now : Nat) (wq : List DmcReq) : Nat → Nat → List DramCmd → List DmcReq
  | _, _, [] => []
  | n, i, k :: r =>
    if k.kind = 2 ∧ !wq.any (fun q => match q.op with
        | .sent m _ _ => m == n
        | _ => false) then
      ⟨i, k.addr, 0, false, now, .again k.data k.err, none⟩ :: aloneAgain now wq (n + 1) (i + 1) r
    else aloneAgain now wq (n + 1) i r

/-- The commands that were refused to the last (R265 to R267): what they wrote is not in the dies, writes wait again with their data,
refreshes are owed again or were not pulled in, nothing of them counts, and the rows that were to be opened are closed. -/
def State.takeBack (s : State) (c back : Nat) : State :=
  let x := s.chan c
  let kept := x.retry.length - 1 - back
  let n := x.issued - 1 - back
  let lost := x.retry.drop kept
  let writes := lost.filter (fun k => k.kind == 2)
  let alone := aloneAgain s.now x.wq n s.dmc.reqSeq lost
  let s1 := writes.reverse.foldl (fun (t : State) k => t.ignored c k) s
  let s2 := s1.setChan c { x with
    retry := x.retry.take kept
    issued := n
    openRows := []
    owed := min 8 (x.owed + (lost.filter (fun k => k.owes.any (fun o => decide (0 < o)))).length)
    pulled := x.pulled - (lost.filter (fun k => k.owes == some 0)).length
    wq := x.wq.map (DmcReq.again n)
    arb := alone ++ x.arb }
  ({ s2 with dmc := { s2.dmc with reqSeq := s2.dmc.reqSeq + alone.length } }).wr64 (Reg.DMC_WR_CNT c)
    (s2.rd64 (Reg.DMC_WR_CNT c) - writes.length)

/-- An error return names the command `back` commands before the last (R266): counted, CLEAR sent, and that command and
every later one reissued; the third refusal of one command exhausts replay and holds the channel (R267). -/
def State.errorReturn (s : State) (c back : Nat) : State :=
  let x := s.chan c
  match x.retry.reverse[back]? with
  | none => s
  | some k =>
    if x.sr || !s.inWindow k then s
    else
      let n := x.issued - 1 - back
      let runs := match x.refused with
        | some r => if r.1 = n then r.2 + 1 else 1
        | none => 1
      let s1 := (((s.setChan c { x with refused := some (n, runs) }).satInc (Reg.DMC_CAPAR_CNT c)).event (Reg.DMC_EVENTS c)
        Fld.DMC_EVENTS_CAPAR).detect 66 c 0
      if runs < 3 then s1.reissue c back
      else (((s1.takeBack c back).event (Reg.DMC_EVENTS c) Fld.DMC_EVENTS_REPLAY_EXH).detect 40 c 0).holdChannel c

/-- ERROR_RETURN (R266). -/
def execErrorReturn (c : Fin 32) (back : Fin 32) (s : State) : Result := .next (s.errorReturn c back)

/-- The command/address lane test of a held channel ends (R267, R285, R319): failed lanes are spared or retire the channel, and traffic
resumes, on a retired channel as salvage serves it (R325). -/
def State.caTestDone (s : State) (c : Nat) (bad : List Nat) : State :=
  if !(s.chan c).held then s
  else
    let s1 := bad.foldl (fun (t : State) l => t.failCa c l) s
    ((s1.setChan c { s1.chan c with held := false, refused := none }).forceRefresh c).serveChan c

/-- CA_LANE_TEST_DONE (R267). -/
def execCaLaneTestDone (c : Fin 32) (bad : BitVec 16) (s : State) : Result :=
  .next (s.caTestDone c (bitList 16 bad.toNat))

/-! ### Frequency points (R268, R269, R271, R278) -/

/-- A full calibration (R332): its values apply at once and become the benchmarks of the point; lanes without an eye
fail. -/
def State.fullCal (s : State) (r : CalResult) (point : Nat) : State :=
  let s1 := r.values.foldl (fun t v =>
    if t.retired v.1 || !(t.chan v.1).on then t
    else
      let x := t.chan v.1
      let b : Bench := ⟨v.2.2, t.now, t.thm.band⟩
      t.setChan v.1 { x with
        setting := Tab.put x.setting v.2.1 v.2.2
        target := Tab.del x.target v.2.1
        bench := Tab.put x.bench (512 * point + v.2.1) b }) s
  let s2 := s1.liveChans.foldl (fun t c => t.wr64 (Reg.CAL_C_FULL_TIME c) t.now) s1
  r.noEye.foldl (fun t l => if l.2 < 128 then t.failData l.1 l.2 else t.failCa l.1 (l.2 - 128)) s2

/-- A transit ordered (R268, step 1): commands stop on every channel, legs are aborted, and requests stay queued. It lasts `ticks` SCLK
ticks, at most 22 µs. -/
def State.orderTransit (s : State) (point ticks : Nat) (cal : CalResult) : State :=
  let s1 := s.abortDramLegs.wr64 Reg.DMC_T_TRANSIT s.now
  { s1 with dmc := { s1.dmc with due := none, move := some ⟨point, s.now, s.now + min ticks 6875, cal, 1⟩ } }

/-- A transit that has done a step. -/
def State.stepTransit (s : State) (m : Transit) (step : Nat) : State :=
  { s with dmc := { s.dmc with move := some { m with step := step } } }

/-- Steps 2 to 4 of a transit (R268): open rows precharged, owed refreshes issued, every core die in self-refresh. -/
def State.transitSleep (s : State) : State :=
  match s.dmc.move with
  | some m => if m.step = 1 then (s.liveChans.foldl (fun (t : State) c => t.enterSr c) s).stepTransit m 4 else s
  | none => s

/-- Steps 5 to 7 of a transit, no later than 4.5 µs of its 22 µs (R268): the timings of the new point in the active set, the clocks at
the new point, and self-refresh left. -/
def State.transitWake (s : State) : State :=
  match s.dmc.move with
  | some m =>
    if m.step = 4 ∧ m.start + 9 * (m.over_ - m.start) / 44 ≤ s.now then
      (s.liveChans.foldl (fun (t : State) c => (t.retime c m.point t.thm.band).exitSr c) s).stepTransit m 7
    else s
  | none => s

/-- Steps 9 and 10 of a transit (R268, R269, R274): the lanes aligned at the new rate, the new point in effect, the changes of width that
waited, and the refreshes that fell due. A capacity change only where the point changed. -/
def State.transitDone (s : State) : State :=
  match s.dmc.move with
  | some m =>
    if m.step = 7 ∧ m.over_ ≤ s.now then
      let changed := m.point != s.dmc.point
      let at_ : Option Nat := some s.now
      let s1 := ({ s with dmc := { s.dmc with point := m.point, move := none, tEnd := at_ } }).fullCal m.cal m.point
      let s2 := ((s1.doLater.satInc Reg.DMC_TRANSITS).event Reg.DMC_G_EVENTS Fld.DMC_G_EVENTS_TRANSIT).wrN Reg.DMC_TRANSIT_MAX
        (max (s1.rdN Reg.DMC_TRANSIT_MAX) (s.now - m.start))
      let s3 := if changed then s2.capacityChange else s2
      (s3.liveChans.foldl (fun (t : State) c => t.forceRefresh c) s3).capUpdate
    else s
  | none => s

/-- A transit goes on as its time runs (R268). -/
def State.transitStep (s : State) : State := s.transitSleep.transitWake.transitDone

/-- TRANSIT_START (R268): only in SERVICE and MAINTAIN, and no sooner than 1 ms after the last transit (R269). -/
def execTransitStart (ticks : Nat) (cal : CalResult) (s : State) : Result :=
  match s.dmc.due with
  | none => .next s
  | some p =>
    let early := match s.dmc.tEnd with
      | some t => decide (s.now < t + 312500)
      | none => false
    if early || s.inTransit || s.trans.isSome || !(s.mode == .service || s.mode == .maintain) then .next s
    else .next (s.orderTransit p ticks cal)

/-- The fastest point a band permits (R351). -/
def bandPoint (band : Nat) : Nat := if band ≤ 3 then 0 else if band = 4 then 1 else 2

/-- The point of every channel set in HOLD (R271): the new timings are in the active set, and HOLD_FREQ sets. -/
def State.holdPoint (s : State) (p : Nat) : State :=
  let s1 := s.liveChans.foldl (fun t c => t.retime c p t.thm.band) s
  (({ s1 with dmc := { s1.dmc with point := p } }).event Reg.DMC_G_EVENTS Fld.DMC_G_EVENTS_HOLD_FREQ).capUpdate

/-- The status of a write to DMC_FREQ_REQ (R278). -/
def freqReqStatus (r : Req) (v : Word) (s : State) : Status :=
  let p := wget v Fld.DMC_FREQ_REQ_POINT
  firstStatus (s.hostChecks r ++
    [(s.mode != .hold, .eState),
     (s.trans.isSome, .eBusy),
     (!bitOf s.thm.points p, .eRange),
     (decide (p < bandPoint s.thm.band), .eConflict)])

/-- DMC_FREQ_REQ (R271, R278). -/
def execDmcFreqReq (r : Req) (v : Word) (s : State) : Result :=
  .next (s.hostWrite r Reg.DMC_FREQ_REQ (freqReqStatus r v s) (fun t =>
    let p := wget v Fld.DMC_FREQ_REQ_POINT
    { t.holdPoint p with dmc := { (t.holdPoint p).dmc with freqReq := p } }))

/-! ### Scrub, write back, hot positions, injection -/

/-- One codeword of a scrubbed row (R293): corrected codewords are written back, uncorrectable ones poisoned, and a
codeword with a pending write is only checked. What is written back counts for SC0 (R155). -/
def State.scrubCw (s : State) (c a : Nat) (errs : ReadErrs) : State :=
  let r := s.arrayRead c a errs 2 none
  if (s.chan c).pending a then r.st
  else match r.cls, r.data with
    | .corrected1, some d => (r.st.issueWrite c a d none).served 0 64 true
    | .corrected2, some d => (r.st.issueWrite c a d none).served 0 64 true
    | _, _ => r.st

/-- The errors an operand gives a codeword of the row. -/
def rowErrs (l : List (Fin 32 × ReadErrs)) (i : Nat) : ReadErrs :=
  match l.find? (fun e => e.1.val == i) with
  | some e => e.2
  | none => noErrs

/-- Patrol scrub of the next row of a channel, and the pointer's advance (R293, R295). -/
def State.scrubRow (s : State) (c : Nat) (errs : List (Fin 32 × ReadErrs)) : State :=
  let p := s.rdN (Reg.ECC_C_SCRUB_PTR c)
  let s1 := (List.range 32).foldl (fun t i => t.scrubCw c (rowAddr p + 64 * i) (rowErrs errs i)) s
  let s2 := s1.served 0 2048 true
  if p + 1 < 1572864 then s2.wrN (Reg.ECC_C_SCRUB_PTR c) (p + 1)
  else
    let s3 := (((s2.wrN (Reg.ECC_C_SCRUB_PTR c) 0).satInc (Reg.ECC_C_SCRUB_PASSES c)).wrN (Reg.ECC_C_SCRUB_LAST c)
      (min 0xFFFFFFFF ((s.now - (s.chan c).scrubStart) / 312500)))
    s3.setChan c { s3.chan c with scrubStart := s.now }

/-- SCRUB_ROW (R293): only in SERVICE and MAINTAIN, on a channel that is not retired and not held, and on a bank that no ROW leg holds
(R312). -/
def execScrubRow (c : Fin 32) (errs : List (Fin 32 × ReadErrs)) (s : State) : Result :=
  if !errs.all (fun e => errsValid e.2) then .fault .illFormed
  else if !s.chanReady c || (s.chan c).held || s.retired c ||
      (s.bankLeg c (rowAddr (s.rdN (Reg.ECC_C_SCRUB_PTR c)))).isSome || !(s.mode == .service || s.mode == .maintain) then .next s
  else .next (s.scrubRow c errs)

/-- CORRECTED2_WRITEBACK (R295): the corrected codeword is written back under SC0, unless a later write superseded it (R291); while its
channel is held or a ROW leg holds its bank it waits (R312). -/
def execCorrected2Writeback (c : Fin 32) (a : BitVec 32) (s : State) : Result :=
  let x := s.chan c
  if !x.wb.contains a.toNat || !s.chanReady c || x.held || (s.bankLeg c a.toNat).isSome then .next s
  else
    let s1 := s.setChan c { x with wb := x.wb.filter (fun y => y != a.toNat) }
    let k := memKey c a.toNat
    let e := s.storedErr k
    if x.pending a.toNat then .next s1
    else match (decodeErr e).1 with
    | .clean | .corrected1 | .corrected2 =>
      .next (((s1.issueWrite c a.toNat (delivered (s.stored k) e (decodeErr e).2) none).served 0 64 true).draw)
    | _ => .next s1

/-- The logical lanes that carry a symbol (R280). -/
def symLanes (half : Bool) (k : Nat) : List Nat := ((List.range 16).map (fun j => (symBit half k j).1)).dedup

/-- The codewords corrected at a position in the present 1 ms window (R297). -/
def State.hotCount (s : State) (c k : Nat) : Nat :=
  if (s.chan c).hotWin = s.now / 312500 then Tab.lookD (s.chan c).hotCnt k 0 else 0

/-- A logical lane accounts for at least 90 % of the corrected bits of its symbol in the window (R320). -/
def Chan.guilty (x : Chan) (k lane : Nat) : Bool :=
  let all := ((symLanes (x.width == .half) k).map (fun l => Tab.lookD x.hotBits l 0)).sum
  decide (0 < all) && decide (9 * all ≤ 10 * Tab.lookD x.hotBits lane 0)

/-- A hot position reported (R297, R316, R320): its lanes get out-of-turn legs, or, with no free spare to carry their
traffic, the lane that accounts for 90 % of the corrected bits fails. -/
def State.hotpos (s : State) (c k : Nat) : State :=
  let x := s.chan c
  if (match Tab.look x.hotLast k with
      | some t => decide (s.now < t + 31250000)
      | none => false) || decide (s.hotCount c k < 64) || x.width == .retired then s
  else
    let s1 := ((s.setChan c { x with hotLast := Tab.put x.hotLast k s.now, hotSym := k }).event (Reg.ECC_C_EVENTS c)
      Fld.ECC_C_EVENTS_HOTPOS).detect 32 c k
    let lanes := symLanes (x.width == .half) k
    if x.freeData.isEmpty then
      match (lanes.find? (x.guilty k)).bind (fun l => x.steer[l]?) with
      | some l => s1.failData c l
      | none => s1
    else (lanes.filterMap (fun l => x.steer[l]?)).foldl (fun (t : State) l => t.queueLeg c (legBlock 3 c l)) s1

/-- HOTPOS (R297): one symbol position has been corrected in 64 codewords within one 1 ms window. -/
def execHotpos (c : Fin 32) (sym : Fin 36) (s : State) : Result := .next (s.hotpos c sym)

/-- The status of a write to ECC_INJ_CTL (R302); ARM = 0 disarms. -/
def injStatus (r : Req) (v : Word) (s : State) : Status :=
  let kind := wget v Fld.ECC_INJ_CTL_KIND
  let arm := wget v Fld.ECC_INJ_CTL_ARM == 1
  firstStatus (s.ownerChecks r ++
    [(arm && !(s.mode == .service || s.mode == .maintain), .eState),
     (arm && s.flag Reg.ECC_INJ_CTL Fld.ECC_INJ_CTL_ARM, .eBusy),
     (arm && (kind == 0 || decide (3 < kind) || decide (35 < wget v Fld.ECC_INJ_CTL_SYM_A) ||
       decide (35 < wget v Fld.ECC_INJ_CTL_SYM_B) || decide (0xBFFFFFC0 < s.rdN Reg.ECC_INJ_ADDR) ||
       s.rdN Reg.ECC_INJ_ADDR % 64 != 0), .eRange),
     (arm && s.retired (wget v Fld.ECC_INJ_CTL_CHANNEL), .eConflict)])

/-- ECC_INJ_ARM (R302): the writable fields are stored. -/
def execEccInjArm (r : Req) (v : Word) (s : State) : Result :=
  .next (s.hostWrite r Reg.ECC_INJ_CTL (injStatus r v s) (fun t => t.wr Reg.ECC_INJ_CTL (v &&& 0xFFFF001F#32)))

end Sys2Proof.Machine
end

