-- ==== Sys2Proof/Machine/Cal.lean ====
section
/-! DEFINITION. Sys2Proof/Machine/Cal.lean: the calibration steps (R329 to R331). -/
namespace Sys2Proof.Machine

/-- The kind of a step of the 23-step cycle: 0 RD, 1 WR, 2 CA, 3 IMP (R330). -/
def calKind (p : Nat) : Nat := if p < 10 then 0 else if p < 20 then 1 else if p < 22 then 2 else 3

/-- The lanes of a step (R330): groups of 8 data/check lanes, the last of 6; two groups of command/address lanes. -/
def calLanes (p : Nat) : List Nat :=
  if p < 20 then (List.range 8).map (fun i => 8 * (p % 10) + i) |>.filter (fun l => decide (l < 78))
  else if p < 22 then (List.range 8).map (fun i => 8 * (p - 20) + i)
  else [0]

/-- The difference of two values. -/
def absDiff (a b : Nat) : Nat := max a b - min a b

/-- What a kind's lane counts as where moves are spaced and rejections counted (R331): the read and the write delay of a data/check lane lie
on one lane. -/
def laneKey (kind lane : Nat) : Nat := if kind = 3 then 256 else if kind = 2 then 128 + lane else lane

/-- A measured value judged against its benchmark (R331): accepted, it becomes the benchmark and the target of the
setting; rejected, it changes nothing, and the third rejection in a row on a lane queues a leg on it; IMP lies on none. -/
def State.calValue (s : State) (c kind lane v : Nat) : State :=
  let x := s.chan c
  let id := 128 * kind + lane
  let key := 512 * s.dmc.point + id
  let b := Tab.look x.bench key
  let old := match b with
    | some e => e.value
    | none => v
  let lim := (if kind = 3 then 2 else s.fld Reg.CAL_CFG Fld.CAL_CFG_LIM) *
    (match b with
     | some e => if e.band = s.thm.band then 1 else 2
     | none => 1)
  let ok := decide (absDiff v old ≤ lim)
  let s0 := (s.wrN (Reg.CAL_C_LAST_INFO c)
      (kind * 2 ^ 30 + b2n ok * 2 ^ 29 + (if kind = 3 then 0 else lane) * 2 ^ 16 + old % 256 * 2 ^ 8 + v % 256)).wr64
    (Reg.CAL_C_LAST_TIME c) s.now
  if ok then
    let nb : Bench := ⟨v, s.now, s.thm.band⟩
    let s1 := s0.setChan c { x with
      bench := Tab.put x.bench key nb
      target := if Tab.lookD x.setting id 0 = v then Tab.del x.target id else Tab.put x.target id v
      rejRun := Tab.del x.rejRun (laneKey kind lane) }
    (s1.satInc (Reg.CAL_C_ACCEPT c)).wrN (Reg.CAL_C_DRIFT_MAX c)
      (max (s1.rdN (Reg.CAL_C_DRIFT_MAX c)) (if kind = 3 then 0 else min 255 (absDiff v old)))
  else
    let at_ := laneKey kind lane
    let n := Tab.lookD x.rejRun at_ 0 + 1
    let s1 := ((s0.setChan c { x with rejRun := if kind ≠ 3 ∧ n < 3 then Tab.put x.rejRun at_ n else Tab.del x.rejRun at_ }).satInc
      (Reg.CAL_C_REJECT c)).event Reg.CAL_EVENTS Fld.CAL_EVENTS_REJECT
    if kind = 3 ∨ n < 3 then s1
    else (s1.event Reg.CAL_EVENTS Fld.CAL_EVENTS_REJECT3).queueLeg c (legBlock (if kind = 2 then 4 else 3) c lane)

/-- A calibration step (R330): the lanes of the next group are measured, but for a lane under a leg (R313). -/
def State.calStep (s : State) (c : Nat) (values : List (Nat × Nat)) : State :=
  let x := s.chan c
  let p := x.calPos
  let kind := calKind p
  let lanes := (calLanes p).filter (fun l => !s.bst.running.any (fun g =>
    g.block == legBlock (if kind = 2 then 4 else 3) c l) || kind == 3)
  let s1 := lanes.foldl (fun t l => match values.find? (fun v => v.1 == l) with
    | some v => t.calValue c kind l v.2
    | none => t) s
  (s1.setChan c { s1.chan c with calPos := (p + 1) % 23 }).inc64 (Reg.CAL_C_STEPS c)

/-- Calibration runs on a channel: in SERVICE and MAINTAIN, and not while suspended (R332). -/
def State.calRuns (s : State) (c : Nat) : Bool :=
  (s.mode == .service || s.mode == .maintain) && s.trans.isNone && !s.inTransit && (s.chan c).on && !(s.chan c).sr &&
    !s.retired c && !(s.chan c).held

/-- CAL_STEP (R330). -/
def execCalStep (c : Fin 32) (values : List (Nat × Nat)) (s : State) : Result :=
  if s.calRuns c then .next (s.calStep c values) else .next s

/-- CAL_STEP_FORCED (R330): a step that has waited 10 ms, counted. -/
def execCalStepForced (c : Fin 32) (values : List (Nat × Nat)) (s : State) : Result :=
  if s.calRuns c then .next ((s.calStep c values).satInc (Reg.CAL_C_FORCED c)) else .next s

/-- A setting moves one tap toward its accepted value, at least 10 µs after the last move on its lane (R331). -/
def State.tapMove (s : State) (c kind lane : Nat) : State :=
  let x := s.chan c
  let id := 128 * kind + lane
  match Tab.look x.target id with
  | none => s
  | some t =>
    if (match Tab.look x.lastMove (laneKey kind lane) with
        | some g => decide (s.now < g + 3125)
        | none => false) then s
    else
      let v := Tab.lookD x.setting id 0
      let v' := if v < t then v + 1 else v - 1
      s.setChan c { x with
        setting := Tab.put x.setting id v'
        target := if v' = t then Tab.del x.target id else x.target
        lastMove := Tab.put x.lastMove (laneKey kind lane) s.now }

/-- CAL_TAP_MOVE (R331). -/
def execCalTapMove (c : Fin 32) (kind : Fin 4) (lane : Fin 78) (s : State) : Result :=
  if s.calRuns c then .next (s.tapMove c kind lane) else .next s

end Sys2Proof.Machine
end

