-- ==== Sys2Proof/Machine/Cfg.lean ====
section
/-! DEFINITION. Sys2Proof/Machine/Cfg.lean: the configuration image and its settings: how it is read (R38 to R41), the eight
checks of R42 with the combinations of R47, the settings it puts in effect, and the slice map (R250, R251). A generation or
a commit is judged on the state as it would stand with the settings in effect. -/
namespace Sys2Proof.Machine

/-! ### Reading an image (R38, R39, R41) -/

/-- An entry: its type and its value. -/
structure Entry where
  type : Nat
  value : List Byte
deriving DecidableEq, Repr

/-- The entries between header and trailer; none when a length is not a multiple of 4, an entry runs past the end, or the
types are not in non-decreasing order (R39). -/
def parseEntries : Nat → Nat → List Byte → Option (List Entry)
  | 0, _, l => if l.isEmpty then some [] else none
  | fuel + 1, last, l =>
    if l.isEmpty then some []
    else
      let type := leAt l 0 2
      let len := leAt l 2 2
      if l.length < 4 ∨ l.length < 4 + len ∨ len % 4 ≠ 0 ∨ type < last then none
      else match parseEntries fuel type (l.drop (4 + len)) with
        | some es => some (⟨type, (l.drop 4).take len⟩ :: es)
        | none => none

/-- The image's length by its header (R38). -/
def imageLen (slot : List Byte) : Nat := leAt slot 12 4

/-- The bytes that a signature covers, and the trailer's start. -/
def signedPart (img : List Byte) : List Byte := img.take (img.length - 268)

/-- The trailer of an image. -/
def trailer (img : List Byte) : List Byte := img.drop (img.length - 268)

/-- The entry types of R40. -/
def knownTypes : List Nat :=
  [0x01, 0x10, 0x20, 0x21, 0x30, 0x31, 0x32, 0x40, 0x50, 0x51, 0x52, 0x60, 0x61, 0x70, 0x80, 0x81, 0xF0]

/-- The types that occur once per index; the index is byte 0 of the value (R39). -/
def indexedType (t : Nat) : Bool := t ∈ [0x10, 0x20, 0x31, 0x40, 0x50, 0x51, 0x80]

/-! ### Ranges of the settings (step 5 of R42) -/

/-- A number lies between bounds. -/
def within (n lo hi : Nat) : Bool := decide (lo ≤ n) && decide (n ≤ hi)

/-- The size of a channel set is 1, 2, 4, 8, 16 or 32 (R32). -/
def setSizeOk (mask : Nat) : Bool := popcount 32 mask ∈ [1, 2, 4, 8, 16, 32]

/-- The words of a CLASS value are inside the column of their TYPE (R159, R160). -/
def classWordsOk (w : Nat → Nat) : Bool :=
  let type := bitsOf (w 0) 15 8
  let rank := bitsOf (w 0) 23 16
  let chains := bitsOf (w 1) 15 0
  let part := bitsOf (w 1) 23 16
  let lat := bitsOf (w 1) 31 24
  within (bitsOf (w 0) 7 0) 1 31 && decide (1 ≤ bitsOf (w 0) 31 24) && w 5 == 0 &&
    match type with
    | 1 => rank != 0 && chains == 0 && part == 0 && lat == 0 && within (w 2) 1 2500000 && within (w 3) 4096 1048576 &&
        within (w 4) 1 1000000
    | 2 => rank != 0 && chains != 0 && bitsOf part 6 4 == 0 && lat == 0 && w 2 != 0 &&
        w 3 == 0 && decide (w 4 ≤ 10000)
    | 3 => rank != 0 && chains != 0 && bitOf part 7 && bitsOf part 6 4 == 0 && w 2 != 0 && within (w 3) 1 65535 && w 4 == 0
    | 4 => rank == 0 && chains == 0 && part == 0 && lat == 0 && w 2 == 0 && w 3 == 0 && w 4 == 0
    | _ => false

/-- A VXU_BIND word has no reserved bit set (R76, R77). -/
def vxuBindOk (w : Nat) : Bool := bitsOf w 30 28 == 0 && bitsOf w 23 20 == 0 && bitsOf w 7 0 == 0

/-- A CAD_SRC_CFG word is in range (R116). -/
def srcCfgOk (w : Nat) : Bool := decide (bitsOf w 29 20 ≤ 1000) && bitsOf w 3 2 == 0 && bitsOf w 1 0 != 3

/-- A CAD_DEFBUD word is in range (R122). -/
def defbudOk (w : Nat) : Bool := bitsOf w 31 16 != 0 && bitsOf w 15 0 != 0

/-- ECC_SCRUB_CFG is in range (R294, R301). -/
def scrubOk (w : Nat) : Bool := bitsOf w 31 16 == 0 && decide (5 ≤ bitsOf w 15 0)

/-- BST_TRV_CFG is in range (R335). -/
def trvOk (w : Nat) : Bool := bitsOf w 31 28 == 0 && decide (1 ≤ bitsOf w 27 16) && within (bitsOf w 15 0) 200 4000

/-- BST_LEG_CFG is in range (R335). -/
def legOk (w : Nat) : Bool :=
  bitsOf w 31 24 == 0 && !bitOf w 15 && within (bitsOf w 14 12) 1 4 && within (bitsOf w 11 8) 1 8 && bitsOf w 7 5 == 0 &&
    within (bitsOf w 4 0) 2 20

/-- CAL_CFG is in range (R335). -/
def calOk (w : Nat) : Bool := bitsOf w 31 24 == 0 && within (bitsOf w 23 16) 1 31 && within (bitsOf w 15 0) 1250 25000

/-- Selector `k` of a plat descriptor is used (R96). -/
def selUsed (nrb ncb nbb dqb k : Nat) : Bool :=
  if k < 16 then decide (k < nrb) else if k < 32 then decide (dqb ≤ k - 16) && decide (k - 16 < ncb) else decide (k - 32 < nbb)

/-- A plat descriptor is in range (R95, R96). -/
def platOk (d : List Byte) : Bool :=
  let geom := leAt d 0 4
  let wid := leAt d 4 4
  let dqb := bitsOf geom 26 24
  let nbb := bitsOf geom 19 16
  let ncb := bitsOf geom 12 8
  let nrb := bitsOf geom 4 0
  let nblk := bitsOf wid 23 16 + 1
  let dd := bitsOf wid 6 0
  let dq (j : Nat) : Nat := leAt d (96 + j) 1
  bitsOf geom 31 27 == 0 && bitsOf geom 23 20 == 0 && bitsOf geom 15 13 == 0 && bitsOf geom 7 5 == 0 &&
    bitsOf wid 31 24 == 0 && bitsOf wid 15 7 == 0 && zeros d 8 8 && zeros d 160 96 &&
    decide (dqb ≤ 6) && decide (nbb ≤ 8) && within ncb 1 16 && within nrb 1 16 && within dd 1 64 &&
    decide (dqb ≤ ncb) && decide (dd ≤ 2 ^ dqb) && decide (nblk ≤ 2 ^ nbb) &&
    (List.range 40).all (fun k =>
      let sel := leAt d (16 + 2 * k) 2
      if selUsed nrb ncb nbb dqb k then
        !bitOf sel 15 && !bitOf sel 7 && decide (bitsOf sel 5 0 ≤ 47) && decide (bitsOf sel 13 8 ≤ 47)
      else sel == 0) &&
    (List.range 64).all (fun j =>
      if j < dd then decide (dq j < 2 ^ dqb) && (List.range j).all (fun i => dq i != dq j) else dq j == 0)

/-- A GLB_GCFG word is in range (R509, R510). -/
def gcfgOk (w : Nat) : Bool := bitsOf w 15 9 == 0 && bitsOf w 7 6 == 0 && bitsOf w 3 2 == 0 && bitsOf w 1 0 != 0

/-- A list of `n` parcel numbers from offset `off` is in range and fills the value (R36, R37). -/
def parcelsOk (v : List Byte) (off n : Nat) : Bool :=
  v.length == (off + 2 * n + 3) / 4 * 4 && (List.range n).all (fun i => decide (leAt v (off + 2 * i) 2 ≤ 383)) &&
    zeros v (off + 2 * n) (v.length - (off + 2 * n))

/-- The parcels of a list. -/
def parcelsAt (v : List Byte) (off n : Nat) : List Nat := (List.range n).map (fun i => leAt v (off + 2 * i) 2)

/-- The value of an entry of a known type is in range (step 5 of R42; R36, R37, R46, R77, R83, R95, R96, R116, R154, R159,
R173, R191, R301, R308, R335, R353, R392, R409, R410, R510). -/
def entryOk (e : Entry) : Bool :=
  let v := e.value
  let b (i : Nat) : Nat := leAt v i 1
  let w (i : Nat) : Nat := leAt v (4 * i) 4
  match e.type with
  | 0x01 => v.length == 8 && gcfgOk (w 0) && w 1 == 0
  | 0x10 => v.length == 16 && decide (b 0 ≤ 15) && within (popcount 64 (leAt v 4 8)) 1 16 &&
      within (b 1) 1 (popcount 64 (leAt v 4 8)) && zeros v 14 2
  | 0x20 => decide (12 ≤ v.length) && decide (b 0 ≤ 15) && within (b 1) 1 5 && within (b 2) 8 16 && b 3 == 0 &&
      setSizeOk (w 1) && within (leAt v 8 2) 1 384 && zeros v 10 2 && parcelsOk v 12 (leAt v 8 2) &&
      (b 1 != 5 || decide (leAt v 8 2 ≤ 4))
  | 0x21 => decide (8 ≤ v.length) && decide (leAt v 4 2 ≤ 48) && zeros v 6 2 && parcelsOk v 8 (leAt v 4 2) &&
      (if w 0 = 0 then leAt v 4 2 == 0 else setSizeOk (w 0))
  | 0x30 => v.length == 256 && (List.range 256).all (fun i => decide (b i < 32))
  | 0x31 => v.length == 24 && classWordsOk w
  | 0x32 => v.length == 260 && w 33 == 0
  | 0x40 => v.length == 8 && decide (b 0 ≤ 15) && zeros v 1 3 && vxuBindOk (w 1)
  | 0x50 => v.length == 8 && zeros v 1 3 && srcCfgOk (w 1)
  | 0x51 => v.length == 260 && decide (b 0 ≤ 63) && zeros v 1 3 && platOk (v.drop 4)
  | 0x52 => v.length == 4 && defbudOk (w 0)
  | 0x60 => v.length == 16 && scrubOk (w 0) && trvOk (w 1) && legOk (w 2) && calOk (w 3)
  | 0x61 => v.length == 8 && decide (b 0 < 16) && bitOf (b 0) 3 && within (b 1) 1 4 && zeros v 2 6
  | 0x70 => v.length == 4
  | 0x80 => v.length == 140 && decide (b 0 ≤ 31) && within (b 1) 1 3 && zeros v 2 2 && zeros v 137 3 &&
      p521Valid (slice v 4 133)
  | 0x81 => v.length == 8 && within (w 0) 10 3600 && decide (b 4 < 4) && zeros v 5 3
  | 0xF0 => v.length == 4 && decide (w 0 < 1024)
  | _ => true

/-- A header's fields are in range (step 5 of R42). -/
def headerOk (img : List Byte) : Bool :=
  leAt img 8 4 != 0 && decide (leAt img 22 2 ≤ 1) && (leAt img 22 2 == 1 || zeros img 24 64) && zeros img 100 28

/-- An indexed type occurs twice for one index, or another known type twice (R39). -/
def entriesRepeat : List Entry → Bool
  | [] => false
  | e :: r => (e.type ∈ knownTypes && r.any (fun x => x.type == e.type &&
      (!indexedType e.type || x.value.head? == e.value.head?))) || entriesRepeat r

/-! ### The settings an image puts in effect -/

/-- A register that a configuration entry loads: the RWS registers of every commit group but the faults, and GLB_GCFG
(R502). -/
def cfgReg (a : Nat) : Bool :=
  a == Reg.GLB_GCFG || (match regRow? a with
    | some r => decide (r.group < 6) && r.group != 4
    | none => false)

/-- The settings of no generation: every register loaded from an entry at its reset value, and no objects (R28). -/
def State.bareSettings (s : State) : State :=
  { s with
    regs := s.regs.filter (fun e => !cfgReg e.1)
    cfg := { s.cfg with gen := 0, empty := true, runtime := 0x300, parts := [], resMask := 0, resParcels := [] }
    chains := s.chains.map (fun e => (e.1, { e.2 with en := false, minw := 0, partner := 0, lanes := 0, margLim := 0 }))
    sec := { s.sec with hostKeys := [], idle := 300, reqTag := false, i3cSess := true }
    thm := { s.thm with points := 15, maxlvl := 4 } }

/-- Words of a value written to consecutive registers. -/
def State.loadWords (s : State) (a : Nat) (v : List Byte) (off n : Nat) : State :=
  (List.range n).foldl (fun t i => t.wrN (a + 4 * i) (leAt v (off + 4 * i) 4)) s

/-- An entry put in effect (R40). -/
def State.applyEntry (s : State) (e : Entry) : State :=
  let v := e.value
  let b (i : Nat) : Nat := leAt v i 1
  match e.type with
  | 0x01 => (s.wrN Reg.GLB_GCFG (leAt v 0 4)).setFld Reg.FLT_CFG Fld.FLT_CFG_NSEV (bitsOf (leAt v 0 4) 1 0)
  | 0x10 => s.setChainL (b 0) { s.chainL (b 0) with
      en := true, minw := b 1, partner := leAt v 2 2, lanes := leAt v 4 8, margLim := leAt v 12 2 }
  | 0x20 =>
    let p : Partition := ⟨b 1, b 2, leAt v 4 4, parcelsAt v 12 (leAt v 8 2)⟩
    { s with cfg := { s.cfg with parts := Tab.put s.cfg.parts (b 0) p } }
  | 0x21 => { s with cfg := { s.cfg with resMask := leAt v 0 4, resParcels := parcelsAt v 8 (leAt v 4 2) } }
  | 0x30 => s.loadWords (Reg.QOS_LABEL 0) v 0 64
  | 0x31 => s.loadWords (Reg.QOS_C_CFG (b 0) 0) v 0 6
  | 0x32 =>
    let s1 := (List.range 16).foldl (fun (t : State) n =>
      (t.wrN (Reg.QOS_SRES_SIZE n) (leAt v (4 + 8 * n) 4)).wrN (Reg.QOS_SRES_START n) (leAt v (8 + 8 * n) 4))
      (s.wrN Reg.QOS_IQ_SIZE (leAt v 0 4))
    s1.loadWords (Reg.QOS_CRES_SIZE 0) v 132 32
  | 0x40 => s.wrN (Reg.VXU_BIND (b 0)) (leAt v 4 4)
  | 0x50 => s.wrN (Reg.CAD_SRC_CFG (b 0)) (leAt v 4 4)
  | 0x51 => s.loadWords (Reg.CAD_PLAT (b 0) 0) v 4 64
  | 0x52 => s.wrN Reg.CAD_DEFBUD (leAt v 0 4)
  | 0x60 => (((s.wrN Reg.ECC_SCRUB_CFG (leAt v 0 4)).wrN Reg.BST_TRV_CFG (leAt v 4 4)).wrN Reg.BST_LEG_CFG
      (leAt v 8 4)).wrN Reg.CAL_CFG (leAt v 12 4)
  | 0x61 => { s with thm := { s.thm with points := b 0, maxlvl := b 1 } }
  | 0x70 => s.wrN Reg.PMC_CFG (leAt v 0 4)
  | 0x80 =>
    let h : HostKey := ⟨b 0, roleOf (b 1), slice v 4 133⟩
    { s with sec := { s.sec with hostKeys := s.sec.hostKeys ++ [h] } }
  | 0x81 => { s with sec := { s.sec with idle := leAt v 0 4, reqTag := bitOf (b 4) 0, i3cSess := bitOf (b 4) 1 } }
  | 0xF0 => { s with cfg := { s.cfg with runtime := leAt v 0 4 } }
  | _ => s

/-- The state with the settings of a generation in effect; a type the stack does not know changes nothing (R39). -/
def State.withEntries (s : State) (es : List Entry) (gen : Nat) : State :=
  let t := es.foldl State.applyEntry s.bareSettings
  { t with cfg := { t.cfg with gen := gen, empty := false } }

/-! ### Combinations (step 6 of R42, R47) -/

/-- No element of a list occurs twice. -/
def noRepeat : List Nat → Bool
  | [] => true
  | a :: r => !r.contains a && noRepeat r

/-- The personality of a partition, 0 when it is undefined. -/
def State.pers (s : State) (p : Nat) : Nat :=
  match Tab.look s.cfg.parts p with
  | some x => x.pers
  | none => 0

/-- The lanes of the configured chains do not overlap. -/
def lanesApart : List ChainLnk → Bool
  | [] => true
  | x :: r => r.all (fun y => !y.en || !x.en || x.lanes &&& y.lanes == 0) && lanesApart r

/-- One host key is not listed with two roles. -/
def keysApart : List HostKey → Bool
  | [] => true
  | x :: r => r.all (fun y => x.key != y.key || x.role == y.role) && keysApart r

/-- The bindings keep R47 and R156. -/
def State.bindingsOk (s : State) : Bool :=
  let on := (List.range 16).filter s.vxuEnabled
  noRepeat (on.map s.vxuChain) &&
    on.all (fun u => s.pers (s.fld (Reg.VXU_BIND u) Fld.VXU_BIND_PART) == 1 && s.vxuClass u != 0)

/-- An enabled source keeps R47, R94, R156 and R160. -/
def State.sourceOk (s : State) (i : Nat) : Bool :=
  let n := s.srcClass i
  let logs := s.srcMode i != 0
  s.cfg.parts.any (fun p => p.2.pers == 3) && n != 0 && (s.classType n == 2 || s.classType n == 4) &&
    (s.classType n != 2 || bitOf (s.classChains n) (s.fld (Reg.CAD_SRC_CFG i) Fld.CAD_SRC_CFG_CHAIN)) &&
    (!logs || (s.pers (s.srcLog i) == 2 && (List.range 256).all (fun j =>
      !(s.srcEnabled j && s.srcMode j != 0 && s.srcLog j == s.srcLog i) ||
        s.flag (Reg.CAD_SRC_CFG j) Fld.CAD_SRC_CFG_LOG_RING == s.flag (Reg.CAD_SRC_CFG i) Fld.CAD_SRC_CFG_LOG_RING)))

/-- The classes keep R160. -/
def State.classesOk (s : State) : Bool :=
  noRepeat (s.guarClasses.map s.classRank) && s.guarClasses.all (fun n =>
    match s.classPart n with
    | none => true
    | some p => (s.classType n != 2 || s.pers p == 4) && (s.classType n != 3 || (s.pers p != 3 && s.pers p != 0)))

/-- The partitions and the reserve keep R47. -/
def State.parcelsApart (s : State) : Bool :=
  noRepeat (s.cfg.parts.flatMap (fun p => p.2.parcels) ++ s.cfg.resParcels) &&
    decide ((s.cfg.parts.filter (fun p => p.2.pers == 3)).length ≤ 1) &&
    decide ((s.cfg.parts.filter (fun p => p.2.pers == 5)).length ≤ 1)

/-- The rest of the combinations: R336, R353, R374, R392, R510. -/
def State.scalarsOk (s : State) : Bool :=
  decide (s.fld Reg.BST_LEG_CFG Fld.BST_LEG_CFG_PERRAIL ≤ s.fld Reg.BST_LEG_CFG Fld.BST_LEG_CFG_MAXCONC) &&
    bitOf s.thm.points (s.fld Reg.GLB_GCFG Fld.GLB_GCFG_DEFPOINT) &&
    (List.range 8).all (fun n => !s.masked n) &&
    (s.fld Reg.PMC_CFG Fld.PMC_CFG_PERIOD == 0 || s.cfg.parts.any (fun p => p.2.pers == 5)) &&
    s.alertChains.all (fun k => (s.chainL k).en)

/-- The combination rules of R47 hold. -/
def State.combinationsOk (s : State) : Bool :=
  s.parcelsApart && lanesApart (s.chains.map (fun e => e.2)) && keysApart s.sec.hostKeys && s.bindingsOk &&
    (List.range 256).all (fun i => !s.srcEnabled i || s.sourceOk i) && s.classesOk && s.scalarsOk

/-! ### Capacities (step 7 of R42) -/

/-- S(c) of R34, in parcels × 32: the sum of the shares, which are whole numbers of 1/32. -/
def State.chanLoad (s : State) (c : Nat) : Nat :=
  let share (mask count : Nat) : Nat := if bitOf mask c then count * (32 / popcount 32 mask) else 0
  (s.cfg.parts.map (fun p => share p.2.chmask p.2.parcels.length)).sum + share s.cfg.resMask s.cfg.resParcels.length

/-- The capacities of parcels and reservoirs hold (R34, R47, R102, R114). -/
def State.capacitiesOk (s : State) : Bool :=
  (List.range 32).all (fun c => decide (s.chanLoad c ≤ 384)) &&
    s.cfg.parts.all (fun p => p.2.pers != 3 || decide (8 ≤ p.2.parcels.length)) &&
    decide (s.iqMin ≤ s.rdN Reg.QOS_IQ_SIZE * 4096) && decide (s.resvTotal ≤ 100663296)

/-- Steps 6 to 8 of R42 on the state as it would stand: the status, the number of the check, and the admission evaluation
where one was made. -/
def State.judgeSettings (s : State) : Status × Nat × Option (Status × Nat × Nat) :=
  if !s.combinationsOk then (.eConflict, 6, none)
  else if !s.capacitiesOk then (.eResource, 7, none)
  else
    let a := s.admission
    if a.1 = .ok then (.ok, 0, some a) else if a.1 = .eResource then (.eResource, 7, some a) else (a.1, 8, some a)

/-! ### The checks of an image (R42) -/

/-- What the checks of R42 find: the status, the number of the check that failed, the state with the settings in effect where
the checks got so far, and the admission evaluation where one was made. -/
structure Verdict where
  status : Status
  check : Nat
  next : Option State
  adm : Option (Status × Nat × Nat)
deriving DecidableEq, Repr

/-- A generation at a warm load may not change the channel set or grain of the CAD partition, nor remove one of its
parcels (R251). -/
def State.cadKept (s t : State) : Bool :=
  match s.cfg.parts.find? (fun p => p.2.pers == 3), t.cfg.parts.find? (fun p => p.2.pers == 3) with
  | none, _ => true
  | some _, none => false
  | some p, some q =>
    q.2.chmask == p.2.chmask && q.2.grain == p.2.grain && p.2.parcels.all (fun x => q.2.parcels.contains x)

/-- Steps 5 to 8 of R42. -/
def State.judgeEntries (s : State) (warm : Bool) (img : List Byte) (es : List Entry) : Verdict :=
  if !(headerOk img && es.all entryOk) then ⟨.eRange, 5, none, none⟩
  else
    let t := s.withEntries es (leAt img 8 4)
    if entriesRepeat es || (warm && !s.cadKept t) then ⟨.eConflict, 6, none, none⟩
    else
      let j := t.judgeSettings
      ⟨j.1, j.2.1, some t, j.2.2⟩

/-- The eight checks of R42 on the content of a configuration slot; without the magic of R38 it is no generation (R41). -/
def State.judgeImage (s : State) (warm : Bool) (slot : List Byte) : Verdict :=
  let n := imageLen slot
  let img := slot.take n
  let tr := trailer img
  if !isImage slot ∨ n < 396 ∨ slot.length < n ∨ leAt img 6 2 ≠ 128 ∨ !zeros tr 133 3 then ⟨.eIntegrity, 1, none, none⟩
  else match parseEntries n 0 ((signedPart img).drop 128) with
    | none => ⟨.eIntegrity, 1, none, none⟩
    | some es =>
      if es.length ≠ leAt img 20 2 then ⟨.eIntegrity, 1, none, none⟩
      else if sha512 (tr.take 133) ≠ s.sec.anchor ∨ s.sec.lifecycle ≠ .owned ∨
          !ecdsaVerify (tr.take 133) (signedPart img) (tr.drop 136) then ⟨.eAuth, 2, none, none⟩
      else if leAt img 4 2 ≠ 1 ∨ leAt img 16 2 ≠ 0x1648 ∨ !bitOf (leAt img 18 2) 0 ∨
          (bitOf (leAt img 22 2) 0 ∧ slice img 24 64 ≠ bytes64 s.sec.uid) then ⟨.eVersion, 3, none, none⟩
      else if s.upd.fwVersion < leAt img 88 4 ∨ es.any (fun e => decide (e.type < 0x8000) && !(e.type ∈ knownTypes)) then
        ⟨.eVersion, 4, none, none⟩
      else s.judgeEntries warm img es

/-! ### The slice map (R250, R251) -/

/-- The slices of the settings in the order of R250: key of the slice and its frames' number, partition by partition, the
reserve last. -/
def State.slices (s : State) : List (Nat × Nat) :=
  let of (parcels : List Nat) (mask : Nat) : List (Nat × Nat) :=
    parcels.flatMap (fun x => (channelsOf mask).map (fun c => (32 * x + c, 32 / popcount 32 mask)))
  s.cfg.parts.flatMap (fun p => of p.2.parcels p.2.chmask) ++ of s.cfg.resParcels s.cfg.resMask

/-- The frames of a channel that a slice map uses. -/
def framesUsed (m : Tab (List Nat)) (c : Nat) : List Nat := (m.filter (fun e => e.1 % 32 == c)).flatMap (fun e => e.2)

/-- A slice placed in the lowest-numbered free frames of its channel. -/
def takeFrames (m : Tab (List Nat)) (x : Nat × Nat) : Tab (List Nat) :=
  if (Tab.look m x.1).isSome then m
  else
    let used := framesUsed m (x.1 % 32)
    Tab.put m x.1 (((List.range 384).filter (fun f => !used.contains f)).take x.2)

/-- The partition that holds a parcel, with its index. -/
def State.partOfParcel (s : State) (x : Nat) : Option (Nat × Partition) := s.cfg.parts.find? (fun p => p.2.parcels.contains x)

/-- A slice keeps its frames at a warm load: its partition index, personality, channel set, grain and parcel are
unchanged (R251); a reserve slice keeps them while it is a reserve slice of an unchanged reserve channel set. -/
def State.sliceKept (s t : State) (key : Nat) : Bool :=
  match s.partOfParcel (key / 32), t.partOfParcel (key / 32) with
  | some p, some q => p.1 == q.1 && p.2.pers == q.2.pers && p.2.chmask == q.2.chmask && p.2.grain == q.2.grain
  | none, none => s.cfg.resParcels.contains (key / 32) && t.cfg.resParcels.contains (key / 32) && s.cfg.resMask == t.cfg.resMask
  | _, _ => false

/-- The slice map of new settings `t`: at a cold load from nothing, at a warm load with the slices of `s` that are kept. -/
def State.mapSlices (t s : State) (warm : Bool) : State :=
  let kept : Tab (List Nat) := if warm then s.cfg.frames.filter (fun e => s.sliceKept t e.1) else []
  { t with cfg := { t.cfg with frames := t.slices.foldl takeFrames kept } }

end Sys2Proof.Machine
end

