-- ==== Sys2Proof/Machine/Commit.lean ====
section
/-! DEFINITION. Sys2Proof/Machine/Commit.lean: commit groups, the commit and the discard of shadows (R44, R48, R500 to
R505, R511). -/
namespace Sys2Proof.Machine

/-- The commit group of a register word; 6 for none (R502). -/
def regGroup (a : Nat) : Nat :=
  match regRow? a with
  | some r => r.group
  | none => 6

/-- The state as it stands with the shadows of the groups of a mask in effect. -/
def State.withShadows (s : State) (mask : Nat) : State :=
  let t := s.shadow.foldl (fun (t : State) (e : Nat × Word) => if bitOf mask (regGroup e.1) then t.wr e.1 e.2 else t) s
  { t with shadow := s.shadow.filter (fun e => !bitOf mask (regGroup e.1)) }

/-- The settings of the groups of a mask are in range (step 5 of R42; R122, R160, R173, R336, R380, R536). -/
def State.groupRanges (t : State) (mask : Nat) : Bool :=
  (!bitOf mask 0 || ((List.range 31).all (fun i =>
      classWordsOk (t.classWord (i + 1)) && bitsOf (t.classWord (i + 1) 0) 7 0 == i + 1) &&
    t.rdN (Reg.QOS_CRES_SIZE 0) == 0)) &&
  (!bitOf mask 2 || ((List.range 256).all (fun i => srcCfgOk (t.rdN (Reg.CAD_SRC_CFG i))) &&
    (List.range 64).all (fun k => !t.platDefined k || platOk (t.platBytes k)) && defbudOk (t.rdN Reg.CAD_DEFBUD))) &&
  (!bitOf mask 3 || (scrubOk (t.rdN Reg.ECC_SCRUB_CFG) && trvOk (t.rdN Reg.BST_TRV_CFG) && legOk (t.rdN Reg.BST_LEG_CFG) &&
    calOk (t.rdN Reg.CAL_CFG))) &&
  (!bitOf mask 4 || t.fld Reg.FLT_CFG Fld.FLT_CFG_NSEV != 0)

/-! ### Conditions of a run-time change (R44, R157, R183) -/

/-- The stream of a unit is not IDLE. -/
def State.streaming (s : State) (u : Nat) : Bool := (s.vxuU u).state != .idle

/-- The labels in use by a running stream, an enabled source, CAD_RLABEL or RAE_RING_CFG.LABEL. -/
def State.labelsUsed (s : State) : List Nat :=
  ((List.range 16).filter (fun u => s.vxuEnabled u && s.streaming u)).map
      (fun u => s.fld (Reg.VXU_BIND u) Fld.VXU_BIND_LABEL) ++
    ((List.range 256).filter s.srcEnabled).map (fun i => s.fld (Reg.CAD_SRC_CFG i) Fld.CAD_SRC_CFG_LABEL) ++
    [s.fld Reg.CAD_RLABEL Fld.CAD_RLABEL_LABEL, s.fld Reg.RAE_RING_CFG Fld.RAE_RING_CFG_LABEL]

/-- A label that changes is in use. -/
def State.labelBusy (s t : State) : Bool := s.labelsUsed.any (fun l => s.labelClass l != t.labelClass l)

/-- A stream reservoir, or the binding, of a unit that is not IDLE changes. -/
def State.unitBusy (s t : State) : Bool :=
  (List.range 16).any (fun u => s.streaming u &&
    (s.rd (Reg.QOS_SRES_SIZE u) != t.rd (Reg.QOS_SRES_SIZE u) || s.rd (Reg.QOS_SRES_START u) != t.rd (Reg.QOS_SRES_START u) ||
      s.rd (Reg.VXU_BIND u) != t.rd (Reg.VXU_BIND u)))

/-- The sources whose configuration changes. -/
def State.sourcesChanged (s t : State) : List Nat :=
  (List.range 256).filter (fun i => s.rd (Reg.CAD_SRC_CFG i) != t.rd (Reg.CAD_SRC_CFG i))

/-- The plats whose descriptor changes. -/
def State.platsChanged (s t : State) : List Nat :=
  (List.range 64).filter (fun k => (List.range 64).any (fun i => s.rd (Reg.CAD_PLAT k i) != t.rd (Reg.CAD_PLAT k i)))

/-- A source that changes holds records, or a plat that changes is in use by an OPEN or CLOSING domain. -/
def State.cadBusy (s t : State) : Bool :=
  (s.sourcesChanged t).any (fun i => !(s.source i).held.isEmpty) ||
    (s.platsChanged t).any (fun k => s.cad.domains.any (fun d =>
      (d.2.state == DomState.open || d.2.state == DomState.closing) && d.2.plat == k))

/-- A class whose label is used by a unit that is not IDLE, or by an enabled source, changes TYPE (R183). -/
def State.typeBusy (s t : State) : Bool :=
  (((List.range 16).filter (fun u => s.vxuEnabled u && s.streaming u)).map s.vxuClass ++
    ((List.range 256).filter s.srcEnabled).map s.srcClass).any (fun n => s.classType n != t.classType n)

/-! ### The commit -/

/-- The roles that may write every register of the groups of a mask: the maintenance and counters groups are the Owner's
(R336, R423, R404). -/
def State.commitRole (s : State) (r : Req) (mask : Nat) : Bool :=
  s.role r == some .owner || (s.role r == some .operator && !bitOf mask 3 && !bitOf mask 5)

/-- Steps 1 and 2 of R503; the recovery loader admits no commit (R463). -/
def State.commitEntry (s : State) (r : Req) (mask : Nat) : Status :=
  firstStatus [(!s.commitRole r mask, .ePriv), (s.upd.recovery, .eState), (mask == 0 || decide (64 ≤ mask), .eRange)]

/-- The checks of R503 from step 3 on, and the admission evaluation where one was made. -/
def State.commitJudge (s t : State) (mask : Nat) : Status × Option (Status × Nat × Nat) :=
  if s.mode ≠ .service ∧ s.mode ≠ .hold ∧ s.mode ≠ .maintain then (.eState, none)
  else if s.trans.isSome ∨ s.activating then (.eBusy, none)
  else if !t.groupRanges mask then (.eRange, none)
  else
    let j := t.judgeSettings
    if j.1 ≠ .ok then (j.1, j.2.2)
    else if s.typeBusy t || s.labelBusy t || s.unitBusy t || s.cadBusy t then (.eBusy, j.2.2)
    else (.ok, j.2.2)

/-- GLB_COMMIT_STAT takes the outcome (R509, R511). -/
def State.commitStat (s : State) (r : Req) (v : Word) (st : Status) : State :=
  s.wrN Reg.GLB_COMMIT_STAT (st.code * 2 ^ 24 + wget v Fld.GLB_COMMIT_DISCARD * 2 ^ 23 + r.path.num * 2 ^ 16 +
    wget v Fld.GLB_COMMIT_MASK)

/-- A commit rejected: counted and shown (R48, R169, R511). -/
def State.commitRejected (s : State) (r : Req) (v : Word) (st : Status) (adm : Option (Status × Nat × Nat)) : State :=
  let s1 := match adm with
    | some a => s.noteAdmission a
    | none => s
  let s2 := if st = .eOvercommit then s1.event Reg.QOS_EVENTS Fld.QOS_EVENTS_OVERCOMMIT else s1
  (((((s2.countRefusal st Reg.GLB_COMMIT).commitStat r v st).satInc Reg.GLB_COMMIT_REJ).event Reg.GLB_EVENTS
    Fld.GLB_EVENTS_COMMIT_REJ)).reply st

/-- What a commit does beyond the registers: a source that changes loses its NX, sites lose a plat that becomes undefined
(R536), classes take their new types, the shedding rule and a due reinstatement are applied (R169, R178). -/
def State.commitEffects (s t : State) : State :=
  let t1 := (s.sourcesChanged t).foldl (fun (u : State) i => u.loseNx i) t
  let gone := (s.platsChanged t).filter (fun k => !t.platDefined k)
  let t2 := { t1 with cad := { t1.cad with sitePlat := t1.cad.sitePlat.filter (fun e => !gone.contains e.2) } }
  let t3 := t2.classesNow.capUpdate
  if t3.mode = .service then
    let t4 := t3.evaluate
    if 31250000 ≤ t4.stableTicks then t4.reinstateAll else t4
  else t3

/-- A commit that passes: the shadows of its groups take effect in one cycle. -/
def State.commitPassed (s t : State) (r : Req) (v : Word) (adm : Option (Status × Nat × Nat)) : State :=
  let t1 := match adm with
    | some a => t.noteAdmission a
    | none => t
  ((((((s.commitEffects t1).commitStat r v .ok).wr64 Reg.GLB_COMMIT_T s.now).satInc Reg.GLB_COMMITS).event Reg.GLB_EVENTS
    Fld.GLB_EVENTS_COMMIT)).reply .ok

/-- A write of GLB_COMMIT with DISCARD 0 (R503). -/
def State.commitWrite (s : State) (r : Req) (v : Word) : State :=
  if (s.role r).isNone then s.reject r Reg.GLB_COMMIT true 2 .eAuth
  else
    let mask := wget v Fld.GLB_COMMIT_MASK
    let t := s.withShadows mask
    match s.commitEntry r mask with
    | .ok =>
      let j := s.commitJudge t mask
      if j.1 = .ok then s.commitPassed t r v j.2 else s.commitRejected r v j.1 j.2
    | st => s.commitRejected r v st none

/-- A write of GLB_COMMIT with DISCARD 1 (R504). -/
def State.discardWrite (s : State) (r : Req) (v : Word) : State :=
  if (s.role r).isNone then s.reject r Reg.GLB_COMMIT true 2 .eAuth
  else
    let mask := wget v Fld.GLB_COMMIT_MASK
    match s.commitEntry r mask with
    | .ok => (({ s with shadow := s.shadow.filter (fun e => !bitOf mask (regGroup e.1)) }).commitStat r v .ok).reply .ok
    | st => ((s.countRefusal st Reg.GLB_COMMIT).commitStat r v st).reply st

/-- The word of a GLB_COMMIT write. -/
def commitWord (discard : Bool) (mask : BitVec 16) : Word :=
  BitVec.ofNat 32 (b2n discard * 2 ^ 31 + mask.toNat)

/-- COMMIT (R503). -/
def execCommit (r : Req) (mask : BitVec 16) (s : State) : Result := .next (s.commitWrite r (commitWord false mask))

/-- DISCARD (R504). -/
def execDiscard (r : Req) (mask : BitVec 16) (s : State) : Result := .next (s.discardWrite r (commitWord true mask))

end Sys2Proof.Machine
end

