-- ==== Sys2Proof/Machine/Flt.lean ====
section
/-! DEFINITION. Sys2Proof/Machine/Flt.lean: the commands of faults, the ledger and availability (R369 to R387). -/
namespace Sys2Proof.Machine

/-- MGC_WATCHDOG (R370): in COLD the MGC is off, and the AON detects no such fault (R376). -/
def execMgcWatchdog (core : Fin 4) (s : State) : Result :=
  if s.mode = .cold then .next s else .next (s.fatal 5 core 0)

/-! ### The ledger (R379) -/

/-- The entry copied next: a FATAL one first, otherwise the oldest. -/
def nextCopy (l : List HistEntry) : Option HistEntry :=
  match l.find? (fun e => e.sev == 3) with
  | some e => some e
  | none => l.head?

/-- The counts of the present second (R379). -/
def State.copyCounts (s : State) : Nat × Nat :=
  if s.flt.copySec = s.now / 312500000 then (s.flt.copied, s.flt.copiedCorr) else (0, 0)

/-- An entry written to the ring of 4,096 under the next PSEQ; the history shows it. -/
def State.copyEntry (s : State) (e : HistEntry) : State :=
  let n := s.flt.pseq
  let led := s.flt.ledger ++ [{ e with pseq := some n }]
  let c := s.copyCounts
  { s with flt := { s.flt with
    ledger := led.drop (led.length - 4096)
    pseq := n + 1
    copySec := s.now / 312500000
    copied := c.1 + b2n (e.sev != 3)
    copiedCorr := c.2 + b2n (e.sev == 0)
    hist := s.flt.hist.map (fun h => if h.hseq = e.hseq then { h with pseq := some n } else h) } }

/-- The rate limits admit a copy of an entry (R379): FATAL entries are never refused. -/
def State.copyAdmitted (s : State) (e : HistEntry) : Bool :=
  e.sev == 3 || (decide (s.copyCounts.1 < 256) && (e.sev != 0 || decide (s.copyCounts.2 < 64)))

/-- An entry offered to the ledger; `bad` is the ledger word whose write failed its check twice (source 20), and the entry
then stays without a copy (notes/assumptions/26.md). -/
def State.ledgerCopy (s : State) (e : HistEntry) (bad : Option Nat) : State :=
  let s1 := { s with flt := { s.flt with toCopy := s.flt.toCopy.filter (fun x => x.hseq != e.hseq) } }
  if s.copyAdmitted e then
    match bad with
    | some w => s1.detect 20 w 0
    | none => s1.copyEntry e
  else { s1 with flt := { s1.flt with ledLost := sat32 s1.flt.ledLost 1 } }

/-- LEDGER_COPY (R379). -/
def execLedgerCopy (bad : Option (BitVec 32)) (s : State) : Result :=
  match nextCopy s.flt.toCopy with
  | none => .next s
  | some e => .next (s.ledgerCopy e (bad.map (·.toNat)))

/-! ### Commands (R373, R375, R381, R401) -/

/-- ACK_ALERTN (R381): any session role; an enrolment session admits no write (R408). -/
def execAckAlertn (r : Req) (s : State) : Result :=
  .next (s.hostWrite r Reg.FLT_CMD (firstStatus [((s.role r).isNone, .eAuth), (s.role r == some .enrolment, .ePriv)])
    (fun t => { t with flt := { t.flt with alertN := false } }))

/-- CLEAR_ALL (R373). -/
def execClearAll (r : Req) (s : State) : Result :=
  .next (s.hostWrite r Reg.FLT_CMD (firstStatus (s.hostChecks r))
    (fun t => (List.range 4).foldl (fun t i => t.wrN (Reg.FLT_STICKY i) 0) t))

/-- The sources a write of FLT_FORCE names. -/
def forceList (i : Nat) (v : Word) : List Nat := (bitList 32 v.toNat).map (fun b => 32 * i + b)

/-- The status of a write of FLT_FORCE (R375, R401). -/
def forceStatus (r : Req) (i : Nat) (v : Word) (s : State) : Status :=
  firstStatus (s.ownerChecks r ++
    [((forceList i v).any (fun n => (faultSev n).isNone), .eRange),
     ((forceList i v).any (fun n => faultSev n == some 3) && s.mode != .maintain, .eState)])

/-- FLT_FORCE (R375): each source named is raised, lowest first, without its remedial action. -/
def execFltForce (r : Req) (i : Fin 4) (v : Word) (s : State) : Result :=
  .next (s.hostWrite r (Reg.FLT_FORCE i) (forceStatus r i v s)
    (fun t => (forceList i v).foldl (fun t n =>
      if faultSev n = some 3 then t.fatal n 0 0 true else t.detect n 0 0 true) t))

/-! ### Availability (R385 to R387) -/

/-- FLT_AV_52W: unscheduled milliseconds of the 52 buckets (R387). -/
def State.av52 (s : State) : Nat := ((s.avail.buckets.take 52).map (·.1)).sum

/-- FLT_AV_PPB (R387). -/
def State.avPpb (s : State) : Nat :=
  let counted := ((s.avail.buckets.take 52).map (·.2)).sum
  if counted = 0 then 0 else s.av52 * 1000000000 / counted

/-- A millisecond counted in the current bucket. -/
def countMs (l : List (Nat × Nat)) (u n : Nat) : List (Nat × Nat) :=
  match l with
  | [] => [(u, n)]
  | b :: r => (b.1 + u, b.2 + n) :: r

/-- AVAIL_BUDGET when FLT_AV_52W first exceeds 31,600 ms within a bucket (R387); in COLD the AON detects no such fault
(R376). -/
def State.budget (s : State) : State :=
  if 31600 < s.av52 ∧ !s.avail.budgetHit ∧ s.mode ≠ .cold then
    ({ s with avail := { s.avail with budgetHit := true } }).detect 48 s.av52 0
  else s

/-- A millisecond of SERVICE on trial counts in UPD_TRIAL, saturating (R474, R482). -/
def State.trialTick (s : State) : State :=
  if s.mode = .service ∧ bitOf s.upd.spw.toNat 37 then
    let n := sat32 s.upd.trialMs 1
    { s with upd := { s.upd with trialMs := n, trialAt := if n = 86400000 then s.now else s.upd.trialAt } }
  else s

/-- AVAIL_MS_TICK (R385): while PWRGOOD is high. -/
def execAvailMsTick (s0 : State) : Result :=
  let s := s0.trialTick
  let u := b2n s.unscheduled
  if !s0.aon.pwrgood then .next s0
  else .next ({ s with avail := { s.avail with
    unsched := s.avail.unsched + u
    avail := s.avail.avail + (1 - u)
    buckets := countMs s.avail.buckets u 1 } }).budget

/-- A slot whose write failed its read-back check twice at a ledger word (R370, R386): it holds no valid slot, and source 20 detects. -/
def State.slotLost (s : State) (w : Nat) : State :=
  ({ s with avail := { s.avail with
    slots := Tab.del s.avail.slots (s.avail.slotSeq % 32), slotSeq := (s.avail.slotSeq + 1) % 4294967296 } }).detect 20 w 0

/-- AVAIL_SLOT_WRITE (R386); `bad`: the ledger word whose write failed its check twice. -/
def execAvailSlotWrite (bad : Option (BitVec 32)) (s : State) : Result :=
  match bad with
  | none => .next s.writeSlot
  | some w => .next (s.slotLost w.toNat)

/-- AVAIL_BUCKET_ROLL (R387): the bucket's 604,800,000 ms are counted. -/
def execAvailBucketRoll (s : State) : Result :=
  if (s.avail.buckets.headD (0, 0)).2 < 604800000 then .next s
  else .next ({ s with avail := { s.avail with
    buckets := ((0, 0) :: s.avail.buckets).take 52, budgetHit := false } }).budget

end Sys2Proof.Machine
end

