-- ==== Sys2Proof/Machine/Fse.lean ====
section
/-! DEFINITION. Sys2Proof/Machine/Fse.lean: the commands of the fuse engine (R436, R437, R451). -/
namespace Sys2Proof.Machine

/-- The status of a write to FSE_CMD (R451). -/
def fseCmdStatus (r : Req) (modeOk : Bool) (s : State) : Status :=
  firstStatus (s.ownerChecks r ++ [(!modeOk, .eState), (s.fse.op.isSome, .eBusy)])

/-- The marginal bits an operand gives, by word number. -/
def weakOf (weak : List (Fin 1024 × BitVec 64)) : List (Nat × DWord) := weak.map (fun e => (e.1.val, e.2))

/-- PD13 in a state (R362). -/
def State.pd13 (s : State) (x : PwrState) : State := { s with pwr := { s.pwr with dom := Tab.put s.pwr.dom 13 x } }

/-- The bits of a word that manufacture can program (R432, R435): those of the IDENT and TRIM regions while they are not locked, and of
their word 63 the lock fuses. -/
def State.makeable (s : State) (w : Nat) (v : DWord) : DWord :=
  if (w / 64 ≠ 0 ∧ w / 64 ≠ 15) ∨ s.fuseLocked (w / 64) then 0 else if w % 64 = 63 then v &&& 15 else v

/-- Words that manufacture has programmed since the last cold load: only in lifecycle VENDOR, with the identity region not locked (R407,
R432). -/
def State.manufactured (s : State) (made : List (Nat × DWord)) : State :=
  if s.fuseLocked 0 then s
  else { s with fse := { s.fse with
    bits := made.foldl (fun (t : Tab DWord) (e : Nat × DWord) =>
      let v := s.makeable e.1 e.2
      if v = 0 then t else Tab.put t e.1 (Tab.lookD t e.1 0 ||| v)) s.fse.bits } }

/-- A sense by command, at a cold load or due since a band change (R437, R448): during programming it waits. -/
def execSense (why : SenseWhy) (weak : List (Fin 1024 × BitVec 64)) (s : State) : Result :=
  match why with
  | .command r =>
    .next (s.hostWrite r Reg.FSE_CMD (fseCmdStatus r (s.mode == .service || s.mode == .maintain) s)
      (fun t => t.senseAll (weakOf weak) false))
  | .coldLoad made =>
    if s.mode = .cold && !s.fse.sensed && s.aon.resetN && s.aon.pwrgood then
      .next (((s.manufactured (weakOf made)).senseAll (weakOf weak) true).pd13 .off)
    else .next s
  | .bandChange =>
    if s.mode = .cold ∨ s.mode = .safe ∨ s.fse.op.isSome ∨ !s.fse.senseDue then .next s
    else .next (s.senseAll (weakOf weak) false)

/-- The steps of REINFORCE: the copies of the thermometers are evened (R447), and every marginal bit of the ROLLBACK regions and of every
OPEN region is pulsed (R451); a region with a sticky lock is passed over, as one with a blown lock is (R436). -/
def State.reinforceSteps (s : State) : List FuseStep :=
  (([3, 4].filter (fun n => !s.slocked n)).flatMap (fun n => (List.range 4).flatMap (fun t => s.evenSteps t n))) ++
    (s.fse.weak.filter (fun e =>
      let n := e.1 / 64
      (n == 3 || n == 4 || (!s.fuseLocked n && !s.fuseBlank n)) && !s.slocked n)).flatMap (fun e =>
    (bitList 64 e.2.toNat).map (fun i => .boost (64 * e.1 + i)))

/-- REINFORCE (R451). -/
def execReinforce (r : Req) (s : State) : Result :=
  .next (s.hostWrite r Reg.FSE_CMD (fseCmdStatus r (s.mode == .maintain) s)
    (fun t => t.fuseAsk ⟨.reinforce, t.reinforceSteps⟩))

/-- The status of a write to FSE_SLOCKn (R4, R436, R493, R495): a second write of the write-once field is E_WRITE_ONCE, whatever the
first one wrote. -/
def slockStatus (r : Req) (n : Nat) (s : State) : Status :=
  firstStatus (s.ownerChecks r ++ [(s.slocked n || s.fse.slockSet.contains n, .eWriteOnce)])

/-- A sticky lock set (R436): the operation in progress has come some way, and ends at the first bit boundary at which it programs the
region (R448). -/
def State.setSlock (s : State) (n : Nat) : State := s.fuseGoesOn.event (Reg.FSE_SLOCK n) Fld.FSE_SLOCK_SLOCK

/-- FSE_SLOCK (R436). -/
def execFseSlock (r : Req) (n : Fin 16) (v : Word) (s : State) : Result :=
  .next (s.hostWrite r (Reg.FSE_SLOCK n) (slockStatus r n s)
    (fun t =>
      let t1 := { t with fse := { t.fse with slockSet := t.fse.slockSet ++ [n.val] } }
      if wget v Fld.FSE_SLOCK_SLOCK = 1 then t1.setSlock n else t1))

end Sys2Proof.Machine
end

