-- ==== Sys2Proof/Machine/Pcs.lean ====
section
/-! DEFINITION. Sys2Proof/Machine/Pcs.lean: the coding below the blocks of a lane (R184): RS(544,514) over GF(2^10), 256B/257B
transcoding and the self-synchronising scrambler, as a receiver undoes them, and the PRBS patterns (R194, R208). What the standards
that R184 names give and the spec does not is PRESUMED (notes/assumptions/97.md). -/
namespace Sys2Proof.Machine

/-! ### GF(2^10) -/

/-- Twice an element, by the field polynomial x^10 + x^3 + 1. -/
def rsDouble (a : Nat) : Nat := if 1024 ≤ 2 * a then (2 * a) ^^^ 0x409 else 2 * a

/-- The sum of a × 2^i over the bits i of b below `n`. -/
def rsMulBits : Nat → Nat → Nat → Nat
  | 0, _, _ => 0
  | n + 1, a, b => (if b % 2 = 1 then a else 0) ^^^ rsMulBits n (rsDouble a) (b / 2)

/-- The product of two elements. -/
def rsMul (a b : Nat) : Nat := if a = 0 then 0 else rsMulBits 10 a b

/-- α^k, where α is a root of the field polynomial. -/
def rsExp (k : Nat) : Nat := rsDouble^[k % 1023] 1

/-- The inverse a^1022 of an element: the product of a^2, a^4, to a^512. -/
def rsInv (a : Nat) : Nat :=
  ((List.range 9).foldl (fun (p : Nat × Nat) _ => (rsMul p.1 p.1, rsMul p.2 (rsMul p.1 p.1))) (a, 1)).2

/-- A polynomial, lowest coefficient first, at a point. -/
def rsEval (p : List Nat) (x : Nat) : Nat := p.foldr (fun c acc => rsMul acc x ^^^ c) 0

/-- A polynomial less a multiple of another: p + f × x^k × q. -/
def rsAdd (p q : List Nat) (f k : Nat) : List Nat :=
  (List.range (max p.length (q.length + k))).map (fun i => p.getD i 0 ^^^ (if i < k then 0 else rsMul f (q.getD (i - k) 0)))

/-! ### RS(544,514) -/

/-- The 30 syndromes of a received word, whose first symbol has the highest degree: its values at α^0 to α^29. -/
def rsSyndromes (w : List Nat) : List Nat :=
  (List.range 30).map (fun j => let x := rsExp j; w.foldl (fun acc r => rsMul acc x ^^^ r) 0)

/-- What the search for the error locator holds: the locator, the last one before its length changed, the length, the steps since, and
the discrepancy then. -/
structure RsSearch where
  c : List Nat
  b : List Nat
  len : Nat
  m : Nat
  d : Nat
deriving DecidableEq, Repr

/-- One step of the search with syndrome `n` (Berlekamp and Massey). -/
def rsStep (syn : List Nat) (x : RsSearch) (n : Nat) : RsSearch :=
  let d := (List.range (x.len + 1)).foldl (fun acc i => acc ^^^ rsMul (x.c.getD i 0) (if i ≤ n then syn.getD (n - i) 0 else 0)) 0
  if d = 0 then { x with m := x.m + 1 }
  else
    let c := rsAdd x.c x.b (rsMul d (rsInv x.d)) x.m
    if 2 * x.len ≤ n then ⟨c, x.c, n + 1 - x.len, 1, d⟩ else { x with c := c, m := x.m + 1 }

/-- The degrees below 544 at which the locator has a root: the places of the errors. -/
def rsPlaces (c : List Nat) : List Nat := (List.range 544).filter (fun i => rsEval c (rsExp (1023 - i)) == 0)

/-- The value of the error at a degree (Forney): X × Ω(1/X) over the derivative of the locator. -/
def rsValue (syn c : List Nat) (i : Nat) : Nat :=
  let x := rsExp (1023 - i)
  let omega := (List.range 30).map (fun n => (List.range (n + 1)).foldl (fun acc j =>
    acc ^^^ rsMul (c.getD j 0) (syn.getD (n - j) 0)) 0)
  let deriv := (List.range c.length).map (fun j => if j % 2 = 0 then c.getD (j + 1) 0 else 0)
  rsMul (rsExp i) (rsMul (rsEval omega x) (rsInv (rsEval deriv x)))

/-- A word corrected, with the number of symbols corrected, at most 15; none for one that is uncorrectable (R184, R185). -/
def rsDecode (w : List Nat) : Option (Nat × List Nat) :=
  let syn := rsSyndromes w
  if syn.all (fun x => x == 0) then some (0, w)
  else
    let x := (List.range 30).foldl (rsStep syn) ⟨[1], [1], 0, 1, 1⟩
    let places := rsPlaces x.c
    if 15 < x.len ∨ places.length ≠ x.len then none
    else some (x.len, places.foldl (fun (l : List Nat) i => l.set (543 - i) (l.getD (543 - i) 0 ^^^ rsValue syn x.c i)) w)

/-! ### 256B/257B transcoding and the scrambler -/

/-- 64 scrambled bits descrambled behind the 58 received before them, the first bit in the highest place: each bit with those 39 and 58
before it (x^58 + x^39 + 1). -/
def descramble (before v : Nat) : Nat :=
  let all := before * 2 ^ 64 + v
  (v ^^^ all / 2 ^ 39 ^^^ all / 2 ^ 58) % 2 ^ 64

/-- The 58 bits received last. -/
def lastBits (v : Nat) : Nat := v % 2 ^ 58

/-- A control block whose payload lacks the second nibble of its type, which the transcoding leaves out: the nibble is one with which
the block is one that R187 lists and its CRC holds. `f` undoes the scrambler. -/
def typeNibble (f : Nat → Nat) (v : Nat) : Nat :=
  let whole (n : Nat) : Nat := v / 2 ^ 56 * 2 ^ 60 + n * 2 ^ 56 + v % 2 ^ 56
  ((List.range 16).find? (fun n => (RxBlock.mk 2#2 (BitVec.ofNat 64 (f (whole n)))).controlKept)).getD 0

/-- A received block before its descrambling: its sync header, its 64 payload bits, or 60 where a nibble of its type is left out. -/
structure RawBlock where
  sync : BitVec 2
  bits : Nat
  short : Bool
deriving DecidableEq, Repr

/-- The four blocks of a transcoded one of 257 bits, the first bit in the highest place: a 1 and four data payloads; or a 0, a bit for
each block, 1 for data, and the payloads, where the first control block lacks a nibble. A 0 with four data blocks is no block. -/
def fourBlocks (v : Nat) : List RawBlock :=
  if 2 ^ 256 ≤ v then (List.range 4).map (fun j => ⟨1#2, v / 2 ^ (64 * (3 - j)) % 2 ^ 64, false⟩)
  else
    let data (j : Nat) : Bool := v.testBit (255 - j)
    match (List.range 4).find? (fun j => !data j) with
    | none => List.replicate 4 ⟨0#2, 0, false⟩
    | some c => (List.range 4).map (fun j =>
        if j < c then ⟨1#2, v / 2 ^ (252 - 64 * (j + 1)) % 2 ^ 64, false⟩
        else if j = c then ⟨2#2, v / 2 ^ (64 * (3 - c)) % 2 ^ 60, true⟩
        else ⟨if data j then 1#2 else 2#2, v / 2 ^ (64 * (3 - j)) % 2 ^ 64, false⟩)

/-- A block's 64 payload bits, still scrambled: the nibble left out put back. -/
def RawBlock.whole (b : RawBlock) (f : Nat → Nat) : Nat :=
  if b.short then b.bits / 2 ^ 56 * 2 ^ 60 + typeNibble f b.bits * 2 ^ 56 + b.bits % 2 ^ 56 else b.bits

/-- A block that bypasses the scrambler: a LANE_MARKER whose CRC holds as it is received (R188). -/
def RawBlock.marker (b : RawBlock) : Option RxBlock :=
  let m : RxBlock := ⟨b.sync, BitVec.ofNat 64 (b.whole id)⟩
  if m.isCtl 0x4B then some m else none

/-- The blocks of a codeword descrambled behind the bits received before them, and the bits received last; only its first block may be a
marker. -/
def unscramble (first : Bool) (before : Nat) : List RawBlock → Nat × List RxBlock
  | [] => (before, [])
  | b :: r =>
    match if first then b.marker else none with
    | some m => let t := unscramble false before r; (t.1, m :: t.2)
    | none =>
      let v := b.whole (descramble before)
      let t := unscramble false (lastBits v) r
      (t.1, ⟨b.sync, BitVec.ofNat 64 (descramble before v)⟩ :: t.2)

/-- The 20 transcoded blocks of a codeword's 514 message symbols, the highest bit of each symbol first. -/
def transcoded (w : List Nat) : List Nat :=
  let m := (w.take 514).foldl (fun acc x => acc * 1024 + x % 1024) 0
  (List.range 20).map (fun i => m / 2 ^ (257 * (19 - i)) % 2 ^ 257)

/-- A codeword of 544 symbols as a lane receives it, behind the bits received before (R184, R185): the bits received last, the number of
symbols corrected, none for an uncorrectable one, and its 80 blocks. -/
def fecReceive (before : Nat) (w : List (BitVec 10)) : Nat × Option Nat × List RxBlock :=
  let raw := w.map (·.toNat)
  match rsDecode raw with
  | some r =>
    let t := unscramble true before ((transcoded r.2).flatMap fourBlocks)
    (t.1, some r.1, t.2)
  | none => ((unscramble true before ((transcoded raw).flatMap fourBlocks)).1, none, [])

/-! ### PRBS patterns (R194, R208) -/

/-- One bit of a PRBS from the register of the bits before it, the last in bit 0: PRBS13 is x^13 + x^12 + x^2 + x + 1, PRBS31
x^31 + x^28 + 1. -/
def prbsBit (p31 : Bool) (r : Nat) : Nat :=
  if p31 then b2n (r.testBit 30 ^^ r.testBit 27) else b2n (r.testBit 12 ^^ r.testBit 11 ^^ r.testBit 1 ^^ r.testBit 0)

/-- A register after a bit. -/
def prbsPush (r bit : Nat) : Nat := (2 * r + bit) % 2 ^ 31

/-- The PAM4 level of two bits, Gray coded (R184). -/
def grayLevel (a b : Nat) : Nat := if a = 0 then b else 3 - b

/-- The two bits of a level. -/
def grayBits (level : Nat) : Nat × Nat := (b2n (decide (2 ≤ level)), b2n (level == 1 || level == 2))

/-- `n` symbols of a pattern, and the register after them. `flip` says which bits, counted from the first, are sent inverted. -/
def prbsRun (p31 : Bool) (flip : Nat → Bool) : Nat → Nat → Nat → List Nat × Nat
  | _, r, 0 => ([], r)
  | i, r, n + 1 =>
    let a := prbsBit p31 r
    let b := prbsBit p31 (prbsPush r a)
    let t := prbsRun p31 flip (i + 2) (prbsPush (prbsPush r a) b) n
    (grayLevel (a ^^^ b2n (flip i)) (b ^^^ b2n (flip (i + 1))) :: t.1, t.2)

/-- A PRBS checker after a received symbol, with the bits checked and the bit errors among them (R208). Before it locks the bits received
last spell the pattern that the next ones are held against; from the 64th error-free symbol on it runs the pattern on and counts. -/
def PrbsCheck.symbol (x : PrbsCheck) (p31 : Bool) (level : Nat) : PrbsCheck × Nat × Nat :=
  let got := grayBits level
  let a := prbsBit p31 x.reg
  let own := prbsPush x.reg (if x.lock then a else got.1)
  let b := prbsBit p31 own
  let errs := b2n (a != got.1) + b2n (b != got.2)
  let reg := prbsPush own (if x.lock then b else got.2)
  if x.lock then ({ x with reg := reg }, 2, errs)
  else
    let run := if errs = 0 ∧ x.reg % 2 ^ (if p31 then 31 else 13) ≠ 0 then x.run + 1 else 0
    (⟨reg, run, decide (64 ≤ run)⟩, 0, 0)

/-- A PRBS checker after some symbols, with the bits checked and the errors. -/
def PrbsCheck.symbols (x : PrbsCheck) (p31 : Bool) (l : List Nat) : PrbsCheck × Nat × Nat :=
  l.foldl (fun (t : PrbsCheck × Nat × Nat) level =>
    let u := t.1.symbol p31 level
    (u.1, t.2.1 + u.2.1, t.2.2 + u.2.2)) (x, 0, 0)

/-- `n` distinct places out of some, as free values choose them. -/
def freePlaces : Nat → List Nat → List Nat → List Nat
  | 0, _, _ => []
  | n + 1, free, l =>
    let i := free.headD 0 % max 1 l.length
    l.getD i 0 :: freePlaces n (free.drop 1) (l.eraseIdx i)

end Sys2Proof.Machine
end

