-- ==== Sys2Proof/Machine/Vxu.lean ====
section
/-! DEFINITION. Sys2Proof/Machine/Vxu.lean: vector streams: the frame (R56, R57), composing (R52, R58, R60), how a stream
ends (R63), the program store (R51) and the commands of the streams (R59 to R78). The program instructions are in
VxuProg.lean. -/
namespace Sys2Proof.Machine

/-! ### Frames (R56 to R58) -/

/-- Vector width W in bits of a width code. -/
def VxuUnit.bits (x : VxuUnit) : Nat := 64 * 2 ^ x.width

/-- Vectors of a full DATA frame, 512 ÷ W. -/
def VxuUnit.perFrame (x : VxuUnit) : Nat := 512 / x.bits

/-- The frame header word (R56). -/
def frameHeader (vcyc kind mark mpos vcnt unit start aux : Nat) : Nat :=
  vcyc % 2 ^ 32 * 2 ^ 32 + kind * 2 ^ 29 + mark * 2 ^ 28 + mpos * 2 ^ 25 + vcnt * 2 ^ 21 + unit * 2 ^ 17 + start * 2 ^ 16 +
    aux % 65536

/-- The 64 body bytes of some vectors of W bits (R57). -/
def frameBody (bits : Nat) (l : List (BitVec 512)) : List Byte :=
  slice (l.flatMap (fun v => leBytes (bits / 8) v.toNat)) 0 64

/-- A DATA frame of a unit. -/
def VxuUnit.dataFrame (x : VxuUnit) (u : Nat) (f : VecFrame) : List Byte :=
  let m := match f.mark with
    | some e => (1, e.1, e.2.toNat)
    | none => (0, 0, 0)
  leBytes 8 (frameHeader x.vcyc.toNat 0 m.1 m.2.1 f.vecs.length u (b2n x.first) m.2.2) ++ frameBody x.bits f.vecs

/-- A STALL, PAUSE or END frame of a unit. -/
def VxuUnit.ctlFrame (x : VxuUnit) (u kind aux : Nat) : List Byte :=
  leBytes 8 (frameHeader x.vcyc.toNat kind 0 0 0 u 0 aux) ++ List.replicate 64 0#8

/-! ### Composing (R52, R58, R60) -/

/-- Bits [pos + w − 1 : pos] of a vector replaced by the low bits of a value. -/
def overlay (v : BitVec 512) (pos w : Nat) (d : BitVec 48) : BitVec 512 :=
  let m : BitVec 512 := (BitVec.allOnes 512 >>> (512 - w)) <<< pos
  (v &&& ~~~ m) ||| (((d.setWidth 512) <<< pos) &&& m)

/-- A composed vector (R52). -/
def VxuUnit.compose (x : VxuUnit) (t : Nat) : BitVec 512 :=
  x.fs.foldl (fun v f =>
    if f.en then
      let d := x.x.getD f.reg 0
      overlay v f.pos f.width (if f.inv then ~~~ d else d)
    else v) (x.tmpl.getD t 0)

/-- A value reduced modulo 2^m (R53). -/
def reduce (m : Nat) (v : BitVec 48) : BitVec 48 := v &&& (BitVec.allOnes 48 >>> (48 - m))

/-- Xx set, reduced modulo its width (R53): SETX and CPYX write it too (notes/assumptions/172.md). -/
def VxuUnit.setX (x : VxuUnit) (i : Nat) (v : BitVec 48) : VxuUnit :=
  { x with x := x.x.set i (reduce (x.m.getD i 48) v) }

/-- A bound of the present window is exceeded (R62). -/
def VxuUnit.overBound (x : VxuUnit) : Bool := decide (x.readBound < x.winRead) || decide (x.decodeBound < x.winDec)

/-- The frame being composed closed (R58): a composed DATA frame more, and the window of R62 goes on; a violation that has not yet
stopped the stream is not forgotten. -/
def VxuUnit.closeFrame (x : VxuUnit) : VxuUnit :=
  if x.cur.vecs.isEmpty then x
  else
    let y := { x with frames := x.frames ++ [x.cur], cur := ⟨[], none⟩, composed := x.composed + 1 }
    if x.winFrames + 1 < 4096 || x.overBound then { y with winFrames := x.winFrames + 1 }
    else { y with winFrames := 0, winRead := 0, winDec := 0 }

/-- A vector emitted: it carries the pending mark, closes the frame before it when a second mark would fall into it, and
fills the frame (R54, R58). -/
def VxuUnit.emitVec (x : VxuUnit) (v : BitVec 512) : VxuUnit :=
  let y := if x.mark.isSome && x.cur.mark.isSome then x.closeFrame else x
  let z : VxuUnit := match y.mark with
    | some id => { y with
        cur := { y.cur with vecs := y.cur.vecs ++ [v], mark := some (y.cur.vecs.length, id) }, mark := none }
    | none => { y with cur := { y.cur with vecs := y.cur.vecs ++ [v] } }
  if z.cur.vecs.length < z.perFrame then z else z.closeFrame

/-! ### The program store (R51) -/

/-- Main-section bytes. -/
def VxuUnit.mainLen (x : VxuUnit) : Nat := x.progLen - 64 - x.subLen

/-- Index of the main-section word at the head of the reservoir. -/
def VxuUnit.mainNext (x : VxuUnit) : Nat := x.fetched / 8 - x.resv.length

/-- Words of the present section. -/
def VxuUnit.sectLen (x : VxuUnit) : Nat := if x.inSub then x.subLen / 8 else x.mainLen / 8

/-- What stands at a word of the present section: not there yet, past the section's end, or a word, unreadable when
none. -/
inductive WordAt where
  | wait
  | endOf
  | at (w : Option DWord)
deriving DecidableEq, Repr

/-- The word `i` of the present section: main-section words behind the reservoir's head stand in the loop window. -/
def VxuUnit.wordAt (x : VxuUnit) (i : Nat) : WordAt :=
  if x.sectLen ≤ i then .endOf
  else if x.inSub then .at (x.sub.getD i none)
  else if i < x.mainNext then .at (x.win.getD (x.win.length - (x.mainNext - i)) none)
  else match x.resv[i - x.mainNext]? with
    | some w => .at w
    | none => .wait

/-- `n` words of the present section taken: main-section words beyond the window leave the reservoir for it. -/
def VxuUnit.advance (x : VxuUnit) (n : Nat) : VxuUnit :=
  if x.inSub then { x with pos := x.pos + n }
  else
    let k := x.pos + n - x.mainNext
    let w := x.win ++ x.resv.take k
    { x with pos := x.pos + n, resv := x.resv.drop k, win := w.drop (w.length - 2048), winRead := x.winRead + 8 * k }

/-- The vector of W bits in words `i` on. -/
def VxuUnit.vecAt (x : VxuUnit) (i : Nat) : BitVec 512 :=
  (List.range (x.bits / 64)).foldl (fun (v : BitVec 512) j =>
    match x.wordAt (i + j) with
    | .at (some w) => v ||| ((w.setWidth 512) <<< (64 * j))
    | _ => v) 0

/-- The first of `n` words from `i` that is not a readable one. -/
def VxuUnit.badWord (x : VxuUnit) (i n : Nat) : Option WordAt :=
  ((List.range n).map (fun j => x.wordAt (i + j))).find? (fun w =>
    match w with
    | .at (some _) => false
    | _ => true)

/-! ### How composing ends (R58, R62, R63, R67) -/

/-- Composing ends with a stop reason: the frame being composed is closed, and the END frame follows the composed frames. -/
def VxuUnit.endWith (x : VxuUnit) (reason : Nat) : VxuUnit :=
  { x.closeFrame with ending := some reason, emis := none }

/-- A program error at a word of the present section (R55, R76). -/
def VxuUnit.progError (x : VxuUnit) (word : Nat) : VxuUnit :=
  { x.endWith 4 with endSect := if x.inSub then 2 else 1, endWord := word % 2 ^ 29 }

/-- The emission of a LIT taken back: the vectors it has emitted and not yet sent are discarded, and the program stands at the LIT
again, as an integrity stop falls at the boundary before the instruction (R67). -/
def VxuUnit.dropLit (x : VxuUnit) : VxuUnit :=
  match x.emis with
  | some (.lit _) =>
    let sent := x.composed - x.frames.length
    let y := { x with pos := x.litFrom.pos, mark := x.litFrom.mark }
    if sent ≤ x.litFrom.composed then { y with frames := x.frames.take (x.litFrom.composed - sent), cur := x.litFrom.cur }
    else { y with frames := [], cur := ⟨[], none⟩ }
  | _ => x

/-- A program error of a unit, with its event. -/
def State.vxuProgError (s : State) (u word : Nat) : State :=
  (s.setVxu u ((s.vxuU u).progError word)).event (Reg.VXU_EVENTS u) Fld.VXU_EVENTS_PROG_ERR

/-- An integrity stop of a unit (R67). -/
def State.vxuIntegrity (s : State) (u : Nat) : State :=
  (s.setVxu u ((s.vxuU u).dropLit.endWith 6)).event (Reg.VXU_EVENTS u) Fld.VXU_EVENTS_INTEGRITY

/-- What the words that a unit needs next answer when they are not all readable: nothing while one has not arrived; a
program error past the section's end (R55); an integrity stop at an unreadable word (R67). -/
def State.vxuBadWord (s : State) (u : Nat) (w : WordAt) : State :=
  match w with
  | .wait => s
  | .endOf => s.vxuProgError u (s.vxuU u).sectLen
  | .at _ => s.vxuIntegrity u

/-! ### Emission (R54, R60) -/

/-- The unit may compose: it is ARMED or RUNNING, composing has not stopped or ended, and no bound is exceeded (R62). -/
def VxuUnit.mayCompose (x : VxuUnit) : Bool :=
  (x.state == .armed || x.state == .running) && !x.stopped && x.ending.isNone && !x.overBound

/-- One more vector leaves at most 64 frames ahead of the pacer, the one being composed among them (R60). -/
def VxuUnit.frameRoom (x : VxuUnit) : Bool :=
  decide (x.frames.length + b2n (!x.cur.vecs.isEmpty) < 64) ||
    (decide (x.frames.length < 64) && !x.cur.vecs.isEmpty && !(x.mark.isSome && x.cur.mark.isSome))

/-- An emission may go on. -/
def VxuUnit.composing (x : VxuUnit) : Bool := x.mayCompose && x.frameRoom

/-- The literal words of a LIT that stand in the program store, from the next on. -/
def VxuUnit.litAhead (x : VxuUnit) (n : Nat) : List (Option DWord) :=
  if x.inSub then (x.sub.drop x.pos).take n
  else (x.resv.drop (x.pos - x.mainNext)).take (n - (x.mainNext - x.pos))

/-- A literal word ahead is known to be unreadable: the LIT is not executed (R67). -/
def VxuUnit.litBroken (x : VxuUnit) (left : Nat) : Bool := (x.litAhead (left * (x.bits / 64))).any Option.isNone

/-- The emission in progress goes on, as far as there is room for frames and literal words have arrived; a vector whose words
exceed a bound is not emitted (R62). -/
def State.composeRun (s : State) (u : Nat) : Nat → State
  | 0 => s
  | fuel + 1 =>
    let x := s.vxuU u
    if !x.composing then s
    else match x.emis with
      | none => s
      | some (.tpl t c xr step k left) =>
        let y := x.emitVec (x.compose (t + k))
        let z : VxuUnit :=
          if k + 1 < c then { y with emis := some (.tpl t c xr step (k + 1) left) }
          else
            let y1 := y.setX xr (y.x.getD xr 0 + step)
            if 1 < left then { y1 with emis := some (.tpl t c xr step 0 (left - 1)) } else { y1 with emis := none }
        (s.setVxu u z).composeRun u fuel
      | some (.rlit v left) =>
        let y := x.emitVec v
        (s.setVxu u { y with emis := if 1 < left then some (.rlit v (left - 1)) else none }).composeRun u fuel
      | some (.lit left) =>
        if x.litBroken left then s.vxuIntegrity u
        else match x.badWord x.pos (x.bits / 64) with
        | some w => s.vxuBadWord u w
        | none =>
          let y := x.advance (x.bits / 64)
          if y.overBound then s.setVxu u y
          else
            let z := y.emitVec (x.vecAt x.pos)
            (s.setVxu u { z with emis := if 1 < left then some (.lit (left - 1)) else none }).composeRun u fuel

/-! ### VEC packets (R232) -/

/-- Some frames leave on a chain under a label, as one VEC packet (R232). -/
def State.sendVec (s : State) (k label : Nat) (l : List (List Byte)) : State :=
  s.sendPacket k (newPacket 1 label l.flatten)

/-- The frames gathered leave as a VEC packet. -/
def State.closePacket (s : State) (u : Nat) : State :=
  let x := s.vxuU u
  if x.packet.isEmpty then s
  else (s.setVxu u { x with packet := [] }).sendVec (s.vxuChain u) (s.vxuLabel u) x.packet

/-- A frame sent: it joins the unit's packet, which closes at 8 frames. -/
def State.sendFrame (s : State) (u : Nat) (b : List Byte) : State :=
  let x := s.vxuU u
  let t := s.setVxu u { x with packet := x.packet ++ [b], tPacket := if x.packet.isEmpty then s.now else x.tPacket }
  if x.packet.length < 7 then t else t.closePacket u

/-- A chain can accept a VEC packet of `f` frames for a class, by credit and by room (R59). -/
def State.roomFor (s : State) (k pool f : Nat) : Bool :=
  let p := s.chainP k
  let owed := ((p.waiting.filter (fun q => s.txPool q.pkt == some pool)).map (fun q => pktCost q.pkt)).sum
  s.chainUp k && decide (owed + max 1 (ceilDiv (9 * f) 8) ≤ p.held pool) &&
    decide (p.rbufUsed + (p.waiting.map (fun q => pktSize q.pkt)).sum + 72 * f ≤ s.rbufSize k) &&
    decide (p.replay.length + p.waiting.length < 4096)

/-- The chain can accept the unit's next frame (R59): an END frame owed goes by itself, on the chain of the stream that owes it. -/
def State.canAccept (s : State) (u : Nat) : Bool :=
  match (s.vxuU u).owed with
  | o :: _ => s.roomFor o.chain (s.labelClass o.label) 1
  | [] => s.roomFor (s.vxuChain u) (s.vxuClass u) ((s.vxuU u).packet.length + 1)

/-! ### How a stream ends (R63, R67, R71) -/

/-- A unit whose stream has ended: IDLE with its reason, its composed frames discarded; its counters keep their values, and
VXU_ERR_INFO holds the detail of this stop (R71, R76). -/
def VxuUnit.ended (x : VxuUnit) (reason : Nat) (now : DWord) : VxuUnit :=
  { x with
    state := .idle, reason := reason, ppend := false, tEnd := now, frames := [], cur := ⟨[], none⟩, emis := none
    stopped := false, ending := none, resv := [], hdrOk := false
    errSect := if reason = 4 then x.endSect else 0, errWord := if reason = 4 then x.endWord else 0 }

/-- A unit whose stream has ended and owes its END frame (R63), on the chain and under the label it is bound to. -/
def State.endedOwing (s : State) (u reason : Nat) : VxuUnit :=
  let x := s.vxuU u
  { x.ended reason s.gtime with owed := x.owed ++ [⟨x.ctlFrame u 3 reason, s.vxuChain u, s.vxuLabel u, false⟩] }

/-- A stream ended at once; `withEnd`: an END frame follows in the next slot when a frame has been sent since START. The
packet being filled closes, as the stream leaves RUNNING (R232). -/
def State.stopStream (s : State) (u reason : Nat) (withEnd : Bool) : State :=
  let x := s.vxuU u
  (s.setVxu u (if withEnd && x.sent then s.endedOwing u reason else x.ended reason s.gtime)).closePacket u

/-- END decoded with its last frame sent, or another end with none of its frames left (R63, R66): the stream is over, and its END
frame follows in the next slot. -/
def State.streamOver (s : State) (u : Nat) : State :=
  let x := s.vxuU u
  match x.state, x.ending, x.frames with
  | .running, some e, [] =>
    (s.setVxu u (s.endedOwing u e)).closePacket u
  | _, _, _ => s

/-- Composing as far as it goes: at most 64 frames of 8 vectors; a stream without frames left is over. -/
def State.composeAll (s : State) (u : Nat) : State := (s.composeRun u 521).streamOver u

/-- A stream lost to its chain (R63). -/
def State.streamLost (s : State) (u k : Nat) : State :=
  let x := { s.vxuU u with packet := [] }
  if x.state = .idle then s.setVxu u x
  else ((s.setVxu u (x.ended 9 s.gtime)).event (Reg.VXU_EVENTS u) Fld.VXU_EVENTS_CHAIN_DOWN).alert 0x20 k u 9 0 0

/-- The END frames that a chain that goes down was to carry are not sent (R63). -/
def State.dropOwed (s : State) (k : Nat) : State :=
  (List.range 16).foldl (fun t u =>
    t.setVxu u { t.vxuU u with owed := (t.vxuU u).owed.filter (fun o => o.chain != k) }) s

/-- Every stream ended by a mode (R63): MAINTAIN or a warm load. -/
def State.endStreams (s : State) (reason : Nat) : State :=
  (List.range 16).foldl (fun t u => if (t.vxuU u).state = .idle then t else t.stopStream u reason true) s

/-! ### The pacer (R56, R59, R69, R70) -/

/-- VXU_RATE: INC of the unit's class (R59); at the highest rate it is 2^32 (notes/assumptions/170.md). -/
def State.vxuInc (s : State) (u : Nat) : Nat :=
  let n := s.vxuClass u
  if s.classType n = 1 then (s.classP1 n * 1000 * 2 ^ 32 + 1250000000) / 2500000000 else 0

/-- A DATA frame sent. -/
def State.sendData (s : State) (u : Nat) (f : VecFrame) (rest : List VecFrame) : State :=
  let x := s.vxuU u
  let y : VxuUnit := { x with
    frames := rest, sent := true, first := false, stallRun := 0
    vcyc := x.vcyc + BitVec.ofNat 32 f.vecs.length
    nFrames := x.nFrames + 1
    tStart := if x.nFrames = 0 then s.gtime else x.tStart }
  ((s.setVxu u y).sendFrame u (x.dataFrame u f)).count 0x13 1 u none x.vcyc.toNat u |>.composeAll u

/-- The policy in effect at a slot (R4, R69); the code 3, which R69 gives no effect, acts as one of the three. -/
def State.policyNow (s : State) (u : Nat) : Nat :=
  let p := s.fld (Reg.VXU_POLICY u) Fld.VXU_POLICY_POLICY
  if p = 3 then Config.freeNat s.fresh % 3 else p

/-- A STALL frame sent; under GAP it advances the vector cycle by its slot (R56, R69). -/
def State.sendStall (s : State) (u : Nat) (gap : Bool) : State :=
  let x := s.vxuU u
  let run := min (x.stallRun + 1) 0xFFFF
  let y : VxuUnit := { x with
    sent := true, stallRun := run, nStalls := x.nStalls + 1
    vcyc := if gap then x.vcyc + BitVec.ofNat 32 x.perFrame else x.vcyc }
  ((s.setVxu u y).sendFrame u (x.ctlFrame u 1 run)).count 0x14 1 u none x.vcyc.toNat u

/-- An underrun (R70): the event bit, and a guarantee miss while the guarantee is in force. -/
def State.underrun (s : State) (u : Nat) : State :=
  let t := s.event (Reg.VXU_EVENTS u) Fld.VXU_EVENTS_UNDERRUN
  t.guaranteeMiss (t.vxuClass u) 1

/-- An END frame sent at once: the stream is over. -/
def State.sendEnd (s : State) (u reason : Nat) : State :=
  let x := s.vxuU u
  ((s.setVxu u (x.ended reason s.gtime)).sendFrame u (x.ctlFrame u 3 reason)).closePacket u

/-- The PAUSE frame sent: the stream is PAUSED; the stall run goes on (notes/assumptions/171.md). -/
def State.sendPause (s : State) (u : Nat) : State :=
  let x := s.vxuU u
  ((s.setVxu u { x with state := .paused, ppend := false, sent := true }).sendFrame u (x.ctlFrame u 2 0)).closePacket u

/-- The oldest END frame owed goes in its slot; VXU_T_END is its GTIME, unless the unit has started another stream (R71, R72). -/
def State.sendOwed (s : State) (u : Nat) (o : OwedEnd) (rest : List OwedEnd) : State :=
  let x := s.vxuU u
  (s.setVxu u { x with owed := rest, tEnd := if o.old then x.tEnd else s.gtime }).sendVec o.chain o.label [o.frame]

/-- A bound violation ends the stream (R62, R63). -/
def State.boundStop (s : State) (u : Nat) : State :=
  let x := s.vxuU u
  if (x.state = .armed ∨ x.state = .running) ∧ x.ending.isNone ∧ x.overBound then
    ((s.setVxu u (x.endWith 5)).event (Reg.VXU_EVENTS u) Fld.VXU_EVENTS_BOUND).streamOver u
  else s

/-- An empty slot: an underrun under the policy in effect (R69, R70). -/
def State.slotEmpty (s : State) (u : Nat) : State :=
  let p := s.policyNow u
  let t := (s.draw).underrun u
  if p = 2 then t.sendEnd u 3 else t.sendStall u (p == 1)

/-- One due slot that the chain accepts (R59, R63); a bound violation comes before a pause and an underrun (R66). -/
def State.slotSend (s : State) (u : Nat) : State :=
  let x := s.vxuU u
  match x.owed, x.frames, x.ending with
  | o :: r, _, _ => s.sendOwed u o r
  | [], f :: r, _ => s.sendData u f r
  | [], [], some e => s.sendEnd u e
  | [], [], none =>
    if x.overBound then s.boundStop u
    else if x.stopped then s.sendPause u
    else s.slotEmpty u

/-- The due slots of a cycle: at most two. -/
def State.slotsSend (s : State) (u : Nat) : Nat → State
  | 0 => s
  | n + 1 =>
    let x := s.vxuU u
    if x.state = .running ∧ 0 < x.due ∧ s.canAccept u then
      (((s.setVxu u { x with due := x.due - 1 }).slotSend u)).slotsSend u n
    else s

/-- One CCLK cycle of the pacer (R59); a unit whose stream has ended only sends the END frame it owes. -/
def State.pacerCycle (s : State) (u : Nat) : State :=
  let x := s.vxuU u
  if x.state = .running then
    let a := x.acc + s.vxuInc u
    let t := (s.setVxu u { x with acc := a % 2 ^ 31, due := min (x.due + a / 2 ^ 31) 2 }).slotsSend u 2
    let y := t.vxuU u
    if y.state = .running ∧ 0 < y.due then t.setVxu u { y with txWait := y.txWait + 1 } else t
  else match x.owed with
    | o :: r => if s.canAccept u then s.sendOwed u o r else s
    | [] => s

/-- Some cycles of the pacer. -/
def State.pacerRun (s : State) (u : Nat) : Nat → State
  | 0 => s
  | n + 1 => (s.pacerCycle u).pacerRun u n

/-- VXU_FRAME_SLOT (R59): the CCLK cycles up to and including the slot. -/
def execVxuFrameSlot (u : Fin 16) (cycles : Nat) (s : State) : Result := .next (s.pacerRun u cycles)

/-- VEC_PACKET_CLOSE (R232): 64 CCLK cycles, 16 ticks of GTIME, have passed after the packet's first frame. -/
def execVecPacketClose (u : Fin 16) (s : State) : Result :=
  if s.now < (s.vxuU u).tPacket + 16 then .next s else .next (s.closePacket u)

/-! ### Commands (R73, R74, R78) -/

/-- The four stream commands. -/
inductive VxuOp where
  | start | pause | resume | stop
deriving DecidableEq, Repr

/-- The command codes of R73. -/
def vxuOpCode : VxuOp → Nat
  | .start => 1 | .pause => 2 | .resume => 3 | .stop => 4

/-- The bound VEC partition of a unit. -/
def State.vxuPart (s : State) (u : Nat) : Option (Nat × Partition) :=
  let i := s.fld (Reg.VXU_BIND u) Fld.VXU_BIND_PART
  (Tab.look s.cfg.parts i).map (fun p => (i, p))

/-- Bytes of the bound partition, 0 where it is undefined. -/
def State.vxuPartSize (s : State) (u : Nat) : Nat :=
  match s.vxuPart u with
  | some p => p.2.size
  | none => 0

/-- E_RANGE of START and RESUME (R74). -/
def State.vxuRange (s : State) (u : Nat) : Bool :=
  let o := s.rd64 (Reg.VXU_PROG_OFF u)
  let at_ := s.rd64 (Reg.VXU_START_AT u)
  o % 4096 != 0 || decide (s.vxuPartSize u ≤ o) || s.fld (Reg.VXU_POLICY u) Fld.VXU_POLICY_POLICY == 3 ||
    (at_ != 0 && decide (at_ ≤ s.now))

/-- The status of a stream command for one unit (R74), after the role checks; a bound violation that stands is acted on before
PAUSE (R66). -/
def State.vxuStatus (s : State) (op : VxuOp) (u : Nat) : Status :=
  let x := (if op == .pause then s.boundStop u else s).vxuU u
  let n := s.vxuClass u
  let go := op == .start || op == .resume
  firstStatus
    [(s.mode != .service || (op == .pause && (x.state != .running || x.ppend)) ||
        (op == .resume && x.state != .paused), .eState),
     (op == .start && x.state != .idle, .eBusy),
     (op == .start && !s.vxuEnabled u, .eAccess),
     (op == .start && s.classType n != 1, .eConflict),
     (go && s.vxuRange u, .eRange),
     (go && s.isShed n, .eOvercommit)]

/-- START accepted (R63, R71): a leg on the unit is aborted, or, where it may not be preempted, waited for (R312). -/
def State.vxuStart (s : State) (u : Nat) : State :=
  let t := match s.bst.running.find? (fun l => blockKind l.block == 7 && blockUnit l.block == u) with
    | some l => if l.preemptible then s.preempt l else s
    | none => s
  let x := t.vxuU u
  t.setVxu u { (({} : VxuUnit)) with
    state := .loading, reason := x.reason, lstat := x.lstat, errSect := x.errSect, errWord := x.errWord
    owed := x.owed.map (fun o => { o with old := true }), packet := x.packet, tPacket := x.tPacket, out := x.out
    progOff := t.rd64 (Reg.VXU_PROG_OFF u), tCmd := t.now }

/-- PAUSE accepted (R63), after a bound violation that stands (R66): without pause points composing stops now. -/
def State.vxuPause (s0 : State) (u : Nat) : State :=
  let s := s0.boundStop u
  let x := s.vxuU u
  s.setVxu u (if x.pp then { x with ppend := true } else { x.closeFrame with ppend := true, stopped := true })

/-- RESUME accepted (R63): subroutine store and state are kept. -/
def State.vxuResume (s : State) (u : Nat) : State :=
  let x := s.vxuU u
  s.setVxu u { x with state := .loading, stopped := false, tCmd := s.now }

/-- STOP accepted; on an IDLE unit it does nothing. -/
def State.vxuStop (s : State) (u : Nat) : State :=
  if (s.vxuU u).state = .idle then s else s.stopStream u 2 true

/-- The effect of a command on one unit. -/
def State.vxuDo (s : State) (op : VxuOp) (u : Nat) : State :=
  match op with
  | .start => s.vxuStart u
  | .pause => s.vxuPause u
  | .resume => s.vxuResume u
  | .stop => s.vxuStop u

/-- The units a command names (R78). -/
def selUnits : VxuSel → List Nat
  | .unit n => [n.val]
  | .group m => bitList 16 m.toNat

/-- The register a command is written to. -/
def selReg : VxuSel → Nat
  | .unit n => Reg.VXU_CMD n
  | .group _ => Reg.VXU_GCMD

/-- The status of a command (R74, R78): of the lowest-numbered unit that would not answer OK. -/
def vxuCmdStatus (r : Req) (sel : VxuSel) (op : VxuOp) (s : State) : Status :=
  firstStatus (s.hostChecks r ++ [((selUnits sel).isEmpty, .eRange)] ++
    (selUnits sel).map (fun u => (s.vxuStatus op u != .ok, s.vxuStatus op u)))

/-- What VXU_GCMD holds after a command given through it (R78, R494); VXU_CMD reads zero. -/
def State.noteGcmd (s : State) (sel : VxuSel) (op : VxuOp) : State :=
  match sel with
  | .unit _ => s
  | .group m => s.wrN Reg.VXU_GCMD (m.toNat * 65536 + vxuOpCode op)

/-- A stream command: every named unit acts, or none (R78). -/
def State.vxuCmd (s : State) (r : Req) (sel : VxuSel) (op : VxuOp) : State :=
  s.hostWrite r (selReg sel) (vxuCmdStatus r sel op s) (fun t => ((selUnits sel).foldl (fun t u => t.vxuDo op u) t).noteGcmd sel op)

/-- VXU_START (R63, R74). -/
def execVxuStart (r : Req) (sel : VxuSel) (s : State) : Result := .next (s.vxuCmd r sel .start)

/-- VXU_PAUSE (R63, R74). -/
def execVxuPause (r : Req) (sel : VxuSel) (s : State) : Result := .next (s.vxuCmd r sel .pause)

/-- VXU_RESUME (R63, R74). -/
def execVxuResume (r : Req) (sel : VxuSel) (s : State) : Result := .next (s.vxuCmd r sel .resume)

/-- VXU_STOP (R63, R74). -/
def execVxuStop (r : Req) (sel : VxuSel) (s : State) : Result := .next (s.vxuCmd r sel .stop)

/-! ### Loading (R50, R51, R63, R64, R68) -/

/-- The words that bytes of a program hold; unreadable ones are none. -/
def progWords (l : List Byte) (intact : Bool) : List (Option DWord) :=
  (List.range (l.length / 8)).map (fun i => if intact then some (BitVec.ofNat 64 (leAt l (8 * i) 8)) else none)

/-- A range of a partition reaches into a parcel reported PARCEL_LOST (R67). -/
def State.parcelGone (s : State) (p : Partition) (o n : Nat) : Bool :=
  (List.range ((o % 2 ^ 28 + n + 2 ^ 28 - 1) / 2 ^ 28)).any (fun i =>
    match p.parcels[o / 2 ^ 28 + i]? with
    | some parcel => s.cfg.parcelLost.contains parcel
    | none => false)

/-- Program words read, codeword by codeword (R51, R67). -/
def State.readWords (s : State) (rt : Bool) (pi : Nat) (p : Partition) (o n : Nat) : Nat → State × List (Option DWord)
  | 0 => (s, [])
  | fuel + 1 =>
    if n = 0 then (s, [])
    else
      let k := min n (64 - o % 64)
      let r := (s.reachBanks rt p o k).readBytes pi p o k
      let t := r.st.readWords rt pi p (o + k) (n - k) fuel
      (t.1, progWords r.bytes (r.intact && !s.parcelGone p o k) ++ t.2)

/-- Bytes of program read for a unit: charged to its class (R162). -/
def State.vxuCharge (s : State) (u bytes : Nat) : State :=
  let n := s.vxuClass u
  let c := s.charge n bytes
  c.1.served n bytes c.2 (some (s.fld (Reg.VXU_BIND u) Fld.VXU_BIND_LABEL))

/-- The status of the header check of a unit (R68). -/
def State.headerStatus (s : State) (u : Nat) (h : List Byte) (intact : Bool) : Status :=
  let n := s.vxuClass u
  let progLen := leAt h 8 8; let subLen := leAt h 16 4; let rb := leAt h 20 4; let db := leAt h 24 4
  firstStatus
    [(!intact || slice h 0 4 != [0x4D, 0x5A, 0x56, 0x50], .eIntegrity),
     (leAt h 4 2 != 1, .eVersion),
     (decide (2 ≤ leAt h 7 1) || leAt h 28 4 != 0 || leAt h 40 24 != 0 || decide (3 < leAt h 6 1) || progLen % 8 != 0 ||
        decide (s.vxuPartSize u < (s.vxuU u).progOff + progLen) || decide (progLen < 64 + subLen + 8) ||
        decide (65536 < subLen) || subLen % 8 != 0 || decide (rb < 4096) || db == 0, .eRange),
     (decide (s.classP2 n < rb), .eOvercommit),
     (decide (2500000000 * 4096 < s.classP1 n * 1000 * db), .eResource)]

/-- Some codeword of `n` bytes of a unit's program from offset `o` cannot be read at present: the unit's request waits in its class
arbiter (R255), once real-time requests have ended the ROW legs they may (R312). -/
def State.fetchWaits (s : State) (u : Nat) (p : Partition) (o n : Nat) : Bool :=
  (s.reachBanks (s.realTime (s.vxuClass u) 0 false) p o n).rangeWaits p o n

/-- The header of a unit's program, or the subroutine section it names, cannot be read at present. -/
def State.headerWaits (s : State) (u : Nat) : Bool :=
  match s.vxuPart u with
  | none => false
  | some p =>
    let o := (s.vxuU u).progOff
    s.fetchWaits u p.2 o 64 || s.fetchWaits u p.2 (o + 64) (min 65536 (leAt (s.readBytes p.1 p.2 o 64).bytes 16 4))

/-- The header check of a LOADING unit (R63, R68), which waits for a self-test leg on the unit (R312); the subroutine section is loaded with it (R51). -/
def State.headerCheck (s : State) (u : Nat) (intact : Bool) : State :=
  let x := s.vxuU u
  match s.vxuPart u with
  | none => s
  | some p =>
    if x.state ≠ .loading ∨ x.hdrOk ∨ x.out ∨ s.headerWaits u then s
    else
      let rt := s.realTime (s.vxuClass u) 0 false
      let r := (s.reachBanks rt p.2 x.progOff 64).readBytes p.1 p.2 x.progOff 64
      let h := r.bytes
      let st := s.headerStatus u h (intact && r.intact && !s.parcelGone p.2 x.progOff 64)
      let t := r.st.vxuCharge u 64
      if st = .ok then
        let subLen := leAt h 16 4
        let w := t.readWords rt p.1 p.2 (x.progOff + 64) subLen (subLen / 64 + 2)
        (w.1.vxuCharge u subLen).setVxu u { x with
          hdrOk := true, lstat := 0, width := leAt h 6 1, pp := leAt h 7 1 == 1, progLen := leAt h 8 8, subLen := subLen
          readBound := leAt h 20 4, decodeBound := leAt h 24 4, sub := w.2 }
      else t.setVxu u { x.ended 8 s.gtime with lstat := st.code }

/-- VXU_HEADER_CHECK (R68); `intact`: no new error makes the header unreadable. -/
def execVxuHeaderCheck (u : Fin 16) (intact : Bool) (s : State) : Result := .next (s.headerCheck u intact)

/-- The next main-section words, up to the end of their codeword, arrive in the reservoir while it has room (R51). -/
def State.programFetch (s : State) (u : Nat) (intact : Bool) : State :=
  let x := s.vxuU u
  let o := x.progOff + 64 + x.subLen + x.fetched
  let n := min (64 - o % 64) (x.mainLen - x.fetched)
  match s.vxuPart u with
  | none => s
  | some p =>
    if x.state = .idle ∨ !x.hdrOk ∨ n = 0 ∨ s.fetchWaits u p.2 o n ∨ s.rdN (Reg.QOS_SRES_SIZE u) * 4096 < 8 * x.resv.length + n then s
    else
      let r := (s.reachBanks (s.realTime (s.vxuClass u) 0 false) p.2 o n).readBytes p.1 p.2 o n
      ((r.st.vxuCharge u n).setVxu u { x with
        fetched := x.fetched + n, resv := x.resv ++ progWords r.bytes (intact && r.intact && !s.parcelGone p.2 o n) }).composeAll u

/-- VXU_PROGRAM_FETCH (R51). -/
def execVxuProgramFetch (u : Fin 16) (intact : Bool) (s : State) : Result := .next (s.programFetch u intact)

/-- The stream is ready (R64). -/
def State.vxuReady (s : State) (u : Nat) : Bool :=
  let x := s.vxuU u
  x.state == .loading && x.hdrOk &&
    (decide (s.rdN (Reg.QOS_SRES_START u) * 64 ≤ 8 * x.resv.length) || x.fetched == x.mainLen)

/-- VXU_START_AT of a unit (R72). -/
def State.startAt (s : State) (u : Nat) : Nat := s.rd64 (Reg.VXU_START_AT u)

/-- A stream that is ready leaves LOADING (R63, R64). -/
def State.becomeReady (s : State) (u : Nat) : State :=
  if s.vxuReady u then
    let x := s.vxuU u
    (s.setVxu u { x with
      state := if s.startAt u = 0 then .running else .armed, first := true, acc := 0, due := 0 }).composeAll u
  else s

/-- VXU_READY (R63, R64). -/
def execVxuReady (u : Fin 16) (s : State) : Result := .next (s.becomeReady u)

/-- A stream not ready in time ends (R63). -/
def State.startMiss (s : State) (u : Nat) : State :=
  (s.stopStream u 7 true).event (Reg.VXU_EVENTS u) Fld.VXU_EVENTS_START_MISS

/-- The start deadline of a unit has passed: P3 µs of its class since START or RESUME (R64, R158). -/
def State.deadlinePassed (s : State) (u : Nat) : Bool :=
  decide ((s.vxuU u).tCmd + s.classP3 (s.vxuClass u) * 625 / 2 ≤ s.now)

/-- START_DEADLINE_EXPIRE (R63, R64, R179): a stream that is ready by then is ready in time; a class already shed misses nothing
(R180). -/
def execStartDeadlineExpire (u : Fin 16) (s : State) : Result :=
  let t := s.becomeReady u
  if (t.vxuU u).state = .loading ∧ s.deadlinePassed u then
    .next ((t.startMiss u).guaranteeMiss (t.vxuClass u) 2)
  else .next t

/-- START_MARK (R63, R64): GTIME has reached VXU_START_AT; a stream that is ready by then is ready in time. The first DATA frame
goes in the first cycle, so that one slot is due at once (notes/assumptions/42.md). -/
def execStartMark (u : Fin 16) (s : State) : Result :=
  let t := s.becomeReady u
  let x := t.vxuU u
  if s.now < s.startAt u then .next s
  else match x.state with
    | .armed => .next ((t.setVxu u { x with state := .running, acc := 0, due := 1 }).streamOver u)
    | .loading => if s.startAt u = 0 then .next t else .next (t.startMiss u)
    | _ => .next t

/-- VXU_BOUND_STOP (R62, R63). -/
def execVxuBoundStop (u : Fin 16) (s : State) : Result := .next (s.boundStop u)

end Sys2Proof.Machine
end

