-- ==== Sys2Proof/Machine/Lnk.lean ====
section
/-! DEFINITION. Sys2Proof/Machine/Lnk.lean: lanes and chains (R183 to R213): bring-up, formation, loss, drop, rejoin and
chain down, and the lane commands of the host. -/
namespace Sys2Proof.Machine

/-! ### Lanes and chains -/

/-- The chain a lane is configured in. -/
def State.chainOf (s : State) (l : Nat) : Option Nat :=
  (List.range 16).find? (fun k => (s.chainL k).en && bitOf (s.chainL k).lanes l)

/-- The configured lanes of a chain, ascending: bit i of a MASK stands for the i-th (R187). -/
def ChainLnk.laneList (x : ChainLnk) : List Nat := bitList 64 x.lanes

/-- The MASK of the lanes of a chain that satisfy a test. -/
def ChainLnk.maskBy (x : ChainLnk) (p : Nat → Bool) : Nat :=
  maskOf (((List.range x.laneList.length).zip x.laneList).filterMap (fun e => if p e.2 then some e.1 else none))

/-- The lanes that a MASK names. -/
def ChainLnk.lanesIn (x : ChainLnk) (mask : Nat) : List Nat :=
  ((List.range x.laneList.length).zip x.laneList).filterMap (fun e => if bitOf mask e.1 then some e.2 else none)

/-- The MASK of every configured lane. -/
def ChainLnk.full (x : ChainLnk) : Nat := 2 ^ x.laneList.length - 1

/-- The lanes run (R29, chapter 07 Modes): received blocks are ignored in SAFE, and in COLD every lane is idle. -/
def State.lanesRun (s : State) : Bool := s.mode != .cold && s.mode != .safe

/-- A lane in a bring-up state, in a mode that runs lanes. -/
def State.laneIn (s : State) (l : Nat) (st : LaneState) : Bool := s.lanesRun && (s.lane l).state == st

/-- The MASK of a chain's ready lanes (R195, R197). -/
def State.readyMask (s : State) (k : Nat) : Nat :=
  (s.chainL k).maskBy (fun l => (s.lane l).ready && (s.lane l).state == .standby)

/-- A lane back in DETECT at a GTIME, its receiver's locks lost. -/
def Lane.detected (x : Lane) (backoff : Bool) (now : Nat) : Lane :=
  { x with state := .detect, ready := false, cwLock := false, blkLock := false, phase := none, markerBad := 0, hdrRun := 0,
           markAt := none, skewAt := none, rxq := [], uncRun := 0, margCnt := 0, rxReady := 0, txReady := 0, frames := none, request := none
           tapDue := [none, none], backoff := backoff, signalSent := false, tTimer := now }

/-- A failed bring-up (R195): counted, and a backoff before the retry. -/
def State.laneFails (s : State) (l : Nat) : State :=
  let x := s.lane l
  (s.setLane l { x.detected true s.now with failStreak := min (x.failStreak + 1) 255 }).satInc (Reg.LNK_L_FAILS l)

/-! ### What a chain carries (R189, R192, R193, R196) -/

/-- A received CAPX block matches (R196). -/
def capxMatches (x : ChainLnk) (k l b : Nat) : Bool :=
  (x.partner == 0xFFFF || bitsOf b 55 40 == x.partner) && bitsOf b 29 26 == 1 && bitsOf b 39 36 == k && bitsOf b 35 30 == l

/-- The lanes of a chain that transmit blocks. -/
def State.txLanes (s : State) (k : Nat) : List Nat := (s.chainL k).laneList.filter (fun l => (s.lane l).locked)

/-- An EPOCH column (R187, R189): kind 0 DROP, 1 ANNOUNCE, 2 ACK, 3 COMMIT. -/
def State.sendEpoch (s : State) (k kind mask epoch stripe : Nat) : State :=
  s.emit (.column k 0x66 (epochBody kind mask epoch stripe))

/-- One position of every transmitting lane of a chain filled with lane blocks (R189): a type and a body for each lane. -/
def State.sendColumn (s : State) (k : Nat) (f : Nat → Nat × Nat) : State :=
  (s.txLanes k).foldl (fun (t : State) l => t.emit (.block l (f l).1 (f l).2)) s

/-- Block times by which a lane's markers arrive behind those of the earliest lane of its chain (R193). -/
def State.skewOf (s : State) (k l : Nat) : Nat :=
  match (s.lane l).markAt with
  | none => 0
  | some t => ((s.chainL k).laneList.map (fun m =>
      match (s.lane m).markAt with
      | some u => if u ≤ t ∧ t - u < 10240 then t - u else 0
      | none => 0)).foldl max 0

/-- The skew of every lane of a chain held against 125 block times, after a marker (R193). -/
def State.skewCheck (s : State) (k : Nat) : State :=
  (s.chainL k).laneList.foldl (fun (t : State) l =>
    let x := t.lane l
    t.setLane l { x with skewAt := if 125 < s.skewOf k l then some (x.skewAt.getD s.now) else none }) s

/-- A lane whose skew has been too large for 100 µs (R193). -/
def State.skewLost (s : State) (l : Nat) : Bool :=
  match (s.lane l).skewAt with
  | some t => (s.lane l).locked && decide (t + 31250 ≤ s.now)
  | none => false

/-! ### Formation, rejoin and their stripes (R192, R197, R202, R204) -/

/-- The exchange on a chain lapses (R202). -/
def State.lapse (s : State) (k : Nat) : State :=
  let x := s.chainL k
  (s.setChainL k { x with
    rejoin := .none, lapsed := some s.now, state := if x.state = .forming then .off else x.state }).event
    (Reg.LNK_C_EVENTS k) Fld.LNK_C_EVENTS_REJOIN_LAPSED

/-- The capacity of a chain has changed (R176, R201). -/
def State.linkChanged (s : State) : State := s.capacityChange.capUpdate

/-! ### Chain down (R205, R225) -/

/-- A lane when its chain goes down: STANDBY from LOCK on, where FAILSTREAK clears (R195); one in STANDBY stays as it is. -/
def Lane.chainLost (x : Lane) (now : Nat) : Lane :=
  if x.locked && x.state != .test && x.state != .standby then { x with state := .standby, tTimer := now, failStreak := 0, rxq := [] }
  else x

/-- A chain without active lanes, stripes or exchanges. -/
def ChainLnk.idle (x : ChainLnk) : ChainLnk :=
  { x with
    state := .off, window := false, txMask := 0, rxMask := 0, txSwitch := none, rxSwitch := none, txEpoch := 0, rxEpoch := 0
    txStripe := 0, txPos := 0, rxStripe := 0, rejoin := .none, discard := false }

/-- A chain goes down, with the reason of the alert (R205, R223, R225, R246); its BRD requests in progress are abandoned. -/
def State.chainDown (s : State) (k reason : Nat) : State :=
  let x := s.chainL k
  let s1 := x.laneList.foldl (fun t l => t.setLane l ((t.lane l).chainLost s.now)) s
  let y : ChainLnk := { x.idle with windowOver := true }
  let p : ChainPkt := { alerts := (s1.chainP k).alerts }
  let s2 := (((s1.setChainL k y).setChainP k p).satInc (Reg.LNK_C_DOWNS k)).event (Reg.LNK_C_EVENTS k) Fld.LNK_C_EVENTS_DOWN
  let s3 := ((s2.alert 4 k k reason 0 0).detect 45 k reason).sourcesLost k
  let s4 := (List.range 16).foldl (fun t u => if t.vxuEnabled u && t.vxuChain u == k then t.streamLost u k else t) (s3.dropOwed k)
  let s5 := { s4 with dmc := { s4.dmc with jobs := s4.dmc.jobs.filter (fun j => j.2.chain != k) } }
  (s5.endAtOnce (fun e => e.path == k)).linkChanged

/-! ### Loss and drop (R198 to R201, R203) -/

/-- The code of a condition in LANE_DROPPED (R242). -/
def lossCode : LossCond → Nat
  | .los => 1 | .unc => 2 | .marker => 3 | .skew => 4 | .marginal => 5

/-- The event bit of a condition (R212). -/
def State.lossEvent (s : State) (l cond : Nat) : State :=
  match cond with
  | 1 => s.event (Reg.LNK_L_EVENTS l) Fld.LNK_L_EVENTS_LOS
  | 2 => s.event (Reg.LNK_L_EVENTS l) Fld.LNK_L_EVENTS_UNC_BURST
  | 5 => s.event (Reg.LNK_L_EVENTS l) Fld.LNK_L_EVENTS_MARGINAL
  | _ => s

/-- The mask a direction of a chain ends on once its pending switch has passed. -/
def ChainLnk.txTarget (x : ChainLnk) : Nat :=
  match x.txSwitch with
  | some w => w.mask
  | none => x.txMask

/-- The lanes of some active ones that leave, each with its condition, counted as drops (R195, R199). -/
def State.countDrops (s : State) (lanes : List (Nat × Nat)) : State :=
  lanes.foldl (fun t e => ((t.lossEvent e.1 e.2).satInc (Reg.LNK_L_DROPS e.1)).event (Reg.LNK_L_EVENTS e.1)
    Fld.LNK_L_EVENTS_DROPPED) s

/-- A formation given up after its COMMIT (R201, R202): the chain was not UP, so that nothing else goes down with it. -/
def State.formFails (s : State) (k : Nat) : State :=
  let s1 := (s.chainL k).laneList.foldl (fun (t : State) l =>
    if (t.lane l).state = .active then t.setLane l ((t.lane l).chainLost s.now) else t) s
  s1.setChainL k { (s1.chainL k).idle with windowOver := true }

/-- Lanes that leave at once: they return to DETECT, and LANE_LOST is detected for each (R199, R370). -/
def State.lanesLeave (s : State) (k : Nat) (lanes : List (Nat × Nat)) : State :=
  lanes.foldl (fun (t : State) e => (t.setLane e.1 ((t.lane e.1).detected false s.now)).detect 69 k e.1) s

/-- The chain falls below MINW (R201). -/
def State.belowMinw (s : State) (k : Nat) : State :=
  if (s.chainL k).state = .forming then s.formFails k else s.chainDown k 0

/-- What a loss leaves of an exchange (R203): one only announced lapses; a committed one goes on while a joining lane is left in
the mask. -/
def State.giveWay (s : State) (k mask : Nat) : State :=
  let x := s.chainL k
  match x.rejoin with
  | .announced _ _ => s.lapse k
  | .committed _ old false _ => if mask &&& old = mask then s.setChainL k { x with rejoin := .none } else s
  | _ => s

/-- The lanes that leave with the DROP that is pending. -/
def ChainLnk.leaving (x : ChainLnk) : List (Nat × Nat) :=
  match x.txSwitch with
  | some w => w.dropped
  | none => []

/-- The transmit direction of a chain narrowed to a mask (R199, R201, R203): an EPOCH DROP whose switch stripe lies 512
stripes on, in place of what was pending; below MINW the chain goes down. -/
def State.dropTo (s : State) (k mask : Nat) (lanes : List (Nat × Nat)) : State :=
  let s1 := (s.countDrops lanes).giveWay k mask
  let y := s1.chainL k
  let epoch := if y.state = .forming ∧ y.txMask = 0 then 0 else (y.txEpoch + 1) % 64
  let w : Switch := ⟨mask, epoch, (y.txStripe + 512) % 4294967296, true, y.leaving ++ lanes⟩
  let s2 := (s1.setChainL k { y with txSwitch := some w }).sendEpoch k 0 mask w.epoch w.stripe
  if popcount 16 mask < y.minw then (s2.lanesLeave k w.dropped).belowMinw k else s2

/-- The chain runs on a mask or is about to. -/
def ChainLnk.running (x : ChainLnk) : Bool :=
  x.state == .up || (match x.rejoin with
    | .committed _ _ true _ => true
    | _ => false)

/-- The lanes of a chain lost in one cycle (R195, R198, R199, R203): an active lane is dropped, a lane from LOCK to STANDBY
has failed its bring-up, and any other lane loses nothing. A lane of a committed mask leaves it by a DROP. -/
def State.loseLanes (s : State) (k : Nat) (lost : List Nat) (cond : Nat) : State :=
  let x := s.chainL k
  let inMask : Nat → Bool := fun l => bitOf x.txTarget (x.laneList.idxOf l)
  let active := lost.filter (fun l => (s.lane l).state == .active && inMask l)
  let early := lost.filter (fun l => (s.lane l).locked && (s.lane l).state != .active && (s.lane l).state != .test)
  let s1 := early.foldl (fun t l => (t.lossEvent l cond).laneFails l) s
  let s2 : State := match (s1.chainL k).rejoin with
    | .announced m _ => if early.any (fun l => bitOf m (x.laneList.idxOf l)) then s1.lapse k else s1
    | _ => s1
  if x.running && (!active.isEmpty || early.any inMask) then
    let y := s2.chainL k
    (s2.setChainL k { y with discard := y.discard || !active.isEmpty }).dropTo k
      (x.maskBy (fun l => inMask l && !lost.contains l)) (active.map (fun l => (l, cond)))
  else s2

/-- LANE_LOSS (R195, R198, R199): condition SKEW takes the lanes whose skew has lasted (R193). -/
def execLaneLoss (k : Fin 16) (lanes : BitVec 64) (cond : LossCond) (s : State) : Result :=
  if s.lanesRun then
    .next (s.loseLanes k ((s.chainL k).laneList.filter (fun l => bitOf lanes.toNat l && (cond != .skew || s.skewLost l))) (lossCode cond))
  else .next s

/-- The later of two stripes in serial order (R200, R244). -/
def laterStripe (a b : Nat) : Nat := if (b + 4294967296 - a) % 4294967296 < 2147483648 then b else a

/-- The stripe number whose low 16 bits a block carries, at or after the one the direction counts (R187, R192). -/
def stripeFrom (now low : Nat) : Nat := (now + (low + 65536 - now % 65536) % 65536) % 4294967296

/-- A DROP received (R198, R200): the receive direction takes the mask at the received stripe; a lane of the transmit mask
outside it is lost under PARTNER, and leaves in the stack's own DROP, or in the pending one, which then merges. The loss of an ACTIVE
lane makes the chain discard what it receives up to the partner's new epoch (R199). -/
def State.dropReceived (s : State) (k mask epoch stripe : Nat) : State :=
  let x := s.chainL k
  let both := x.maskBy (fun l => bitOf x.txTarget (x.laneList.idxOf l) && bitOf mask (x.laneList.idxOf l))
  let lost := (x.lanesIn x.txTarget).filter (fun l => !bitOf mask (x.laneList.idxOf l))
  let out := (lost.filter (fun l => (s.lane l).state == .active)).map (fun l => (l, 6))
  let s0 := (lost.filter (fun l => (s.lane l).state == .standby)).foldl (fun (t : State) l => t.laneFails l) s
  let rs := stripeFrom x.rxStripe stripe
  let gone := x.discard || !out.isEmpty
  let merge : Option Switch := match x.txSwitch with
    | some w => if w.drop then some w else none
    | none => none
  match merge with
  | some w =>
    let at_ := laterStripe w.stripe rs
    let tx : Switch := { w with mask := both, stripe := at_, dropped := w.dropped ++ out }
    let rx : Switch := { mask := both, epoch := epoch, stripe := at_, drop := true }
    let s1 := (((s0.countDrops out).setChainL k { x with txSwitch := some tx, rxSwitch := some rx, discard := gone }).event
      (Reg.LNK_C_EVENTS k) Fld.LNK_C_EVENTS_MERGED).giveWay k both
    if popcount 16 both < x.minw then (s1.lanesLeave k tx.dropped).belowMinw k else s1
  | none =>
    let rx : Switch := { mask := mask, epoch := epoch, stripe := rs, drop := true }
    let s1 := s0.setChainL k { x with rxSwitch := some rx, discard := gone }
    if both = x.txTarget then s1 else s1.dropTo k both out

/-- DROP_RECEIVED (R200): an EPOCH block of KIND DROP on a chain that runs. -/
def execDropReceived (k : Fin 16) (body : BitVec 56) (s : State) : Result :=
  let b := body.toNat
  if s.lanesRun ∧ (s.chainL k).running ∧ epochValid 0 b then
    .next (s.dropReceived k (bitsOf b 55 40) (bitsOf b 39 34) (bitsOf b 33 18))
  else .next s

/-! ### Bring-up (R194 to R196) -/

/-- LANE_SIGNAL_DETECT (R195). -/
def execLaneSignalDetect (l : Fin 64) (s : State) : Result :=
  if s.laneIn l .detect ∧ (s.lane l).backoff = false then .next (s.setLane l { (s.lane l).detected false s.now with state := .train })
  else .next s

/-- `n` SCLK ticks have passed since the timer of a lane's state started (R195). -/
def State.laneTimer (s : State) (l n : Nat) : Bool := decide ((s.lane l).tTimer + n ≤ s.now)

/-- The timer of a lane's state has expired, and the cycle in which a step would still have been in time is over (R195). -/
def State.laneTmo (s : State) (l n : Nat) : Bool := decide ((s.lane l).tTimer + n < s.now)

/-- NO_SIGNAL (R195): once in a stay in DETECT, after 1 s. -/
def execNoSignal (l : Fin 64) (s : State) : Result :=
  if s.laneIn l .detect ∧ (s.lane l).signalSent = false ∧ s.laneTimer l 312500000 then
    .next ((s.setLane l { s.lane l with signalSent := true }).event (Reg.LNK_L_EVENTS l) Fld.LNK_L_EVENTS_NO_SIGNAL)
  else .next s

/-- A tap after a request (R194): its step and its status, 0 not updated, 1 updated, 2 at limit. -/
def tapStep (v req : Nat) (limit : Bool) : Nat × Nat :=
  if req = 1 then (if limit then (v, 2) else ((v + 1) % 256, 1))
  else if req = 2 then (if limit then (v, 2) else ((v + 255) % 256, 1))
  else (v, 0)

/-- The transmitter taps after a training frame's request (R194): a preset sets all three; the manual gives neither
preset's steps, which are free values. -/
def State.tapRequest (s : State) (l control limit : Nat) : State × Nat :=
  let t := s.rdN (Reg.LNK_L_TXEQ l)
  if bitsOf control 9 8 = 1 ∨ bitsOf control 9 8 = 2 then
    ((s.wrN (Reg.LNK_L_TXEQ l) (Config.freeNat s.fresh % 2 ^ 24)).draw, 1 * 2 ^ 14 + 1 * 2 ^ 12 + 1 * 2 ^ 10)
  else
    let pre := tapStep (bitsOf t 23 16) (bitsOf control 15 14) (bitOf limit 2)
    let main := tapStep (bitsOf t 15 8) (bitsOf control 13 12) (bitOf limit 1)
    let post := tapStep (bitsOf t 7 0) (bitsOf control 11 10) (bitOf limit 0)
    (s.wrN (Reg.LNK_L_TXEQ l) (pre.1 * 65536 + main.1 * 256 + post.1),
      pre.2 * 2 ^ 14 + main.2 * 2 ^ 12 + post.2 * 2 ^ 10)

/-- The stack's own tap request after a frame (R194): answered by a status, abandoned after 4 frames, or newly made. -/
def Lane.nextRequest (x : Lane) (status own : Nat) : Option (Nat × Nat) :=
  match x.request with
  | some (q, n) => if bitsOf status 15 10 ≠ 0 ∨ 4 ≤ n + 1 then none else some (q, n + 1)
  | none => if bitsOf own 15 8 = 0 then none else some (bitsOf own 15 8, 0)

/-- The control field of the frame the stack sends: its request, when none stands unanswered, and RX_READY. -/
def Lane.ownControl (x : Lane) (own : Nat) : Nat :=
  (if x.request.isNone then bitsOf own 15 8 * 256 else 0) + own % 2

/-- The register of a lane's PRBS generator; before its first use the manual gives it no value, and it is a free one that no bit of which
is zero alone. -/
def State.genSeed (s : State) (l : Nat) : Nat :=
  if (s.lane l).gen = 0 then Config.freeNat s.fresh % (2 ^ 13 - 1) + 1 else (s.lane l).gen

/-- A training frame sent (R194): marker, control and status, and 3,936 symbols of PRBS13Q that continue from frame to frame. -/
def State.sendFrameOn (s : State) (l control status : Nat) : State :=
  let t := prbsRun false (fun _ => false) 0 (s.genSeed l) 3936
  (s.draw.setLane l { s.lane l with gen := t.2 }).emit (.training l (trainHeader control status ++ t.1))

/-- The frame boundaries that have followed the 8 frames with RX_READY on both sides (R194). -/
def Lane.nextFrames (x : Lane) (rx tx : Nat) : Option Nat :=
  match x.frames with
  | some n => some (n + 1)
  | none => if 8 ≤ rx ∧ 8 ≤ tx then some 0 else none

/-- A training frame received (R194): the answer due goes out in the next frame, and this request's answer in the one after
it; consecutive frames with RX_READY are counted on both sides. `own` is what the stack's receiver asks for. -/
def State.trainingFrame (s : State) (l control status limit own : Nat) : State :=
  let t := s.tapRequest l control limit
  let x := t.1.lane l
  let due := (x.tapDue.headD none).getD 0
  let rx := if bitOf control 0 then x.rxReady + 1 else 0
  let tx := if bitOf own 0 then x.txReady + 1 else 0
  (t.1.setLane l { x with
    tapDue := x.tapDue.drop 1 ++ [some t.2], rxReady := rx, txReady := tx, frames := x.nextFrames rx tx
    request := x.nextRequest status own }).sendFrameOn l (x.ownControl own) due

/-- TRAINING_FRAME (R194). -/
def execTrainingFrame (l : Fin 64) (control status : BitVec 16) (atLimit : BitVec 3) (own : BitVec 16) (s : State) : Result :=
  if s.laneIn l .train then .next (s.trainingFrame l control.toNat status.toNat atLimit.toNat own.toNat) else .next s

/-- The lane sends codewords, which an injection of kind SYMBOL or SYNC goes into (R209). -/
def State.injectable (s : State) (l : Nat) : Bool := (s.lane l).locked && (s.lane l).state != .test

/-- What an injection puts into the next codeword or block (R209): symbol errors at distinct symbols of a codeword, or a sync header of
0b00 or 0b11; which of them, and the errors' values, are free. -/
def State.injected (s : State) (l kind n : Nat) : Emission :=
  if kind = 2 then
    .symbolErrors l ((freePlaces n (Config.freeList s.fresh) (List.range 544)).zip
      ((List.range n).map (fun i => (Config.freeList (s.fresh + 1)).getD i 0 % 1023 + 1)))
  else .badHeader l (if Config.freeNat s.fresh % 2 = 0 then 0#2 else 3#2)

/-- An injection of kind SYMBOL or SYNC is applied once its lane sends codewords; one of kind BIT waits for the PRBS stream (R209). -/
def State.applyInjection (s : State) (l : Nat) : State :=
  match (s.lane l).inj with
  | some (kind, n) =>
    if kind ≠ 1 ∧ s.injectable l then (s.draw.draw.setLane l { s.lane l with inj := none }).emit (s.injected l kind n) else s
  | none => s

/-- TRAINING_END (R194): the 16th frame boundary after both sides have sent RX_READY in 8 consecutive frames. What the lane has received
before its first block is free. -/
def execTrainingEnd (l : Fin 64) (s : State) : Result :=
  if s.laneIn l .train ∧ 16 ≤ (s.lane l).frames.getD 0 then
    .next ((s.draw.setLane l { s.lane l with
      state := .lock, tTimer := s.now, rxReady := 0, txReady := 0, frames := none, request := none, tapDue := [none, none]
      scr := Config.freeNat s.fresh % 2 ^ 58 }).applyInjection l)
  else .next s

/-- TRAIN_TMO (R195): 300 ms in TRAIN. -/
def execTrainTmo (l : Fin 64) (s : State) : Result :=
  if s.laneIn l .train ∧ s.laneTmo l 93750000 then .next ((s.laneFails l).event (Reg.LNK_L_EVENTS l) Fld.LNK_L_EVENTS_TRAIN_TMO) else .next s

/-- CAPX blocks sent on some lanes of a chain, in a column that the other lanes fill with WADDING (R189, R195). -/
def State.sendCapx (s : State) (k : Nat) (on : Nat → Bool) : State :=
  s.sendColumn k (fun m => if on m then (0x55, capxBody k m) else (0x2D, 0))

/-- LOCK_ACHIEVED (R188, R195): the first CAPX block; the others follow every 80 block times. -/
def execLockAchieved (l : Fin 64) (s : State) : Result :=
  if s.laneIn l .lock ∧ (s.lane l).cwLock ∧ (s.lane l).blkLock then
    .next ((s.setLane l { s.lane l with state := .capx, tTimer := s.now }).sendCapx ((s.chainOf l).getD 0) (fun m => m == l.val))
  else .next s

/-- LOCK_TMO (R195): 2 ms in LOCK. -/
def execLockTmo (l : Fin 64) (s : State) : Result :=
  if s.laneIn l .lock ∧ s.laneTmo l 625000 then .next ((s.laneFails l).event (Reg.LNK_L_EVENTS l) Fld.LNK_L_EVENTS_LOCK_TMO) else .next s

/-- CAPX_MATCH (R195, R196): the third consecutive matching block; FAILSTREAK clears. -/
def execCapxMatch (l : Fin 64) (body : BitVec 56) (s : State) : Result :=
  match s.chainOf l with
  | none => .next s
  | some k =>
    let x := s.chainL k
    if s.laneIn l .capx ∧ capxValid body.toNat ∧ capxMatches x k l body.toNat then
      .next ((s.setLane l { s.lane l with state := .standby, tTimer := s.now, failStreak := 0 }).setChainL k
        { x with peer := bitsOf body.toNat 55 40 })
    else .next s

/-- A CAPX mismatch (R195): PARTNER_MISMATCH carries what was received; at the timer's end nothing was, and the words are
free values. -/
def State.capxMismatch (s : State) (k l : Nat) (got : Option Nat) : State :=
  let b := got.getD (Config.freeNat s.fresh)
  let s1 := ((s.draw.laneFails l).event (Reg.LNK_L_EVENTS l) Fld.LNK_L_EVENTS_CAPX_MISMATCH).event
    (Reg.LNK_C_EVENTS k) Fld.LNK_C_EVENTS_PARTNER_MISMATCH
  s1.alert 7 k l (bitsOf b 55 40) (bitsOf b 39 36) (bitsOf b 35 30)

/-- CAPX_MISMATCH (R195, R196): a valid block that does not match, or the end of the 1 ms timer. -/
def execCapxMismatch (l : Fin 64) (body : Option (BitVec 56)) (s : State) : Result :=
  match s.chainOf l with
  | none => .next s
  | some k =>
    let bad : Bool := match body with
      | none => s.laneTmo l 312500
      | some b => capxValid b.toNat && !capxMatches (s.chainL k) k l b.toNat
    if s.laneIn l .capx ∧ bad then .next (s.capxMismatch k l (body.map (·.toNat))) else .next s

/-- LANE_READY (R193, R195): clean and within 125 block times of skew for 1 ms; the first ready lane of a chain opens its
formation window (R197). -/
def State.laneReady (s : State) (l : Nat) : State :=
  let s1 := s.setLane l { s.lane l with ready := true }
  match s.chainOf l with
  | none => s1
  | some k =>
    let x := s1.chainL k
    if x.state != .up && !x.window && !x.windowOver then s1.setChainL k { x with window := true, windowAt := s.now } else s1

/-- LANE_READY. -/
def execLaneReady (l : Fin 64) (s : State) : Result :=
  if s.laneIn l .standby ∧ (s.lane l).ready = false ∧ s.laneTimer l 312500 ∧ s.skewOf ((s.chainOf l).getD 0) l ≤ 125 then
    .next (s.laneReady l)
  else .next s

/-- BACKOFF_EXPIRE (R195): after 10 ms, or 1 s once FAILSTREAK has reached 16. -/
def execBackoffExpire (l : Fin 64) (s : State) : Result :=
  if (s.lane l).backoff ∧ s.laneTimer l (if 16 ≤ (s.lane l).failStreak then 312500000 else 3125000) then .next (s.setLane l { s.lane l with backoff := false }) else .next s

/-! ### Formation and rejoin (R197, R202, R204) -/

/-- An ANNOUNCE sent (R202 step 1, R204). -/
def State.announce (s : State) (k mask : Nat) (form : Bool) : State :=
  let x := s.chainL k
  (s.setChainL k { x with
    rejoin := .announced mask form, tSent := s.now, window := false, windowOver := x.windowOver || form
    state := if form then .forming else x.state }).sendEpoch k 1 mask (if form then 0 else x.txEpoch) 0

/-- The formation set may form the chain (R197): every configured lane is ready, or the window is over and MINW are. -/
def State.mayForm (s : State) (k : Nat) : Bool :=
  let x := s.chainL k
  let set := s.readyMask k
  x.rejoin == .none && decide (x.minw ≤ popcount 16 set) && (set == x.full || x.windowOver)

/-- CHAIN_FORMATION (R197); `windowEnd` says that the formation window of 100 ms ends here. -/
def execChainFormation (k : Fin 16) (windowEnd : Bool) (s : State) : Result :=
  let x := s.chainL k
  if s.lanesRun ∧ x.en ∧ x.state = .off then
    let s1 := if windowEnd && x.window && decide (x.windowAt + 31250000 ≤ s.now) then s.setChainL k { x with window := false, windowOver := true } else s
    if s1.mayForm k then .next (s1.announce k (s1.readyMask k) true) else .next s1
  else .next s

/-- A rejoin may be announced (R202): a ready lane, no DROP pending, and no lapse in the last 1 ms. -/
def State.mayRejoin (s : State) (k : Nat) : Bool :=
  let x := s.chainL k
  s.chainUp k && x.rejoin == .none && x.txSwitch.isNone && x.rxSwitch.isNone && s.readyMask k != 0 &&
    (match x.lapsed with
      | some t => decide (t + 312500 ≤ s.now)
      | none => true)

/-- REJOIN_ANNOUNCE (R202 step 1). -/
def execRejoinAnnounce (k : Fin 16) (s : State) : Result :=
  if s.mayRejoin k then .next (s.announce k ((s.chainL k).txMask ||| s.readyMask k) false) else .next s

/-- The stack's COMMIT (R202 step 3, R204): a switch 4,096 stripes on. -/
def State.commit (s : State) (k mask : Nat) (form : Bool) : State :=
  let x := s.chainL k
  let epoch := if form then 0 else (x.txEpoch + 1) % 64
  let w : Switch := { mask := mask, epoch := epoch, stripe := (x.txStripe + 4096) % 4294967296, drop := false }
  (s.setChainL k { x with rejoin := .committed mask x.txMask form false, tSent := s.now, txSwitch := some w }).sendEpoch k 3 mask epoch w.stripe

/-- REJOIN_ACK_RECEIVED (R202 step 3): committed when the ACK mask is a subset of the announced one and strictly contains
the current mask; a formation also needs MINW lanes. -/
def execRejoinAckReceived (k : Fin 16) (body : BitVec 56) (s : State) : Result :=
  let x := s.chainL k
  let m := bitsOf body.toNat 55 40
  match x.rejoin with
  | .announced a form =>
    if s.lanesRun = false ∨ epochValid 2 body.toNat = false then .next s
    else if m &&& a = m ∧ m &&& x.txMask = x.txMask ∧ m ≠ x.txMask ∧ (form = false ∨ x.minw ≤ popcount 16 m) then
      .next (s.commit k m form)
    else .next (s.lapse k)
  | _ => .next s

/-- REJOIN_LAPSED (R202): no usable ACK within 10 µs. -/
def execRejoinLapsed (k : Fin 16) (s : State) : Result :=
  match (s.chainL k).rejoin with
  | .announced _ _ => if (s.chainL k).tSent + 3125 < s.now then .next (s.lapse k) else .next s
  | _ => .next s

/-- A COMMIT behind what is pending: a pending DROP's mask narrows it, and the later stripe holds (R200). -/
def Switch.after (w : Switch) (pending : Option Switch) : Switch :=
  match pending with
  | some p => if p.drop then { w with mask := w.mask &&& p.mask, stripe := laterStripe p.stripe w.stripe, drop := true } else w
  | none => w

/-- PARTNER_COMMIT_RECEIVED (R202 step 4): the same mask, with the partner's epoch and stripe. -/
def execPartnerCommitReceived (k : Fin 16) (body : BitVec 56) (s : State) : Result :=
  let x := s.chainL k
  let b := body.toNat
  match x.rejoin with
  | .committed m old form false =>
    if epochValid 3 b ∧ m = bitsOf b 55 40 ∧ s.lanesRun then
      let w : Switch := { mask := m, epoch := bitsOf b 39 34, stripe := stripeFrom x.rxStripe (bitsOf b 33 18), drop := false }
      .next (s.setChainL k { x with rejoin := .committed m old form true, rxSwitch := some (w.after x.rxSwitch) })
    else .next s
  | _ => .next s

/-- The partner's COMMIT does not come (R202): a DROP with the mask in effect before the stack's COMMIT, less what a pending DROP takes
out (R200, R203). The lanes it takes out were lost under no condition of R198. A formation had no mask before: it is given up. -/
def State.commitTimeout (s : State) (k old : Nat) (form : Bool) : State :=
  let x := s.chainL k
  if form then (s.sendEpoch k 0 0 x.txEpoch (x.txStripe + 512)).formFails k
  else
    let mask := old &&& x.txTarget
    let out := (x.lanesIn x.txMask).filter (fun l => !bitOf mask (x.laneList.idxOf l) && !x.leaving.any (fun e => e.1 == l))
    (s.setChainL k { x with rejoin := .none }).dropTo k mask (out.map (fun l => (l, 0)))

/-- PARTNER_COMMIT_TIMEOUT (R202): 10 µs after the stack's COMMIT. -/
def execPartnerCommitTimeout (k : Fin 16) (s : State) : Result :=
  match (s.chainL k).rejoin with
  | .committed _ old form false =>
    if s.lanesRun ∧ (s.chainL k).tSent + 3125 < s.now then .next (s.commitTimeout k old form) else .next s
  | _ => .next s

/-- The chain is UP (R197, R220, R225): its packet layer starts afresh. -/
def State.chainFormed (s : State) (k : Nat) : State :=
  let x := s.chainL k
  let p : ChainPkt := { alerts := (s.chainP k).alerts }
  let s1 := ((s.setChainL k { x with state := .up, rejoin := .none, tUp := s.now, discard := false, holdOff := false }).setChainP k p).event
    (Reg.LNK_C_EVENTS k) Fld.LNK_C_EVENTS_UP
  (s1.alert 3 k k (s1.chainL k).txMask 0 0).linkChanged

/-- Both directions have switched (R197, R202 step 5). -/
def State.exchangeDone (s : State) (k : Nat) : State :=
  let x := s.chainL k
  match x.rejoin with
  | .committed _ _ form true =>
    if x.txSwitch.isNone && x.rxSwitch.isNone then
      if form then s.chainFormed k
      else ((s.setChainL k { x with rejoin := .none }).alert 6 k k x.txMask 0 0).linkChanged
    else s
  | _ => s

/-- A lane of a new mask is ACTIVE: it was in STANDBY, or ACTIVE already (R195). -/
def Lane.joined (x : Lane) : Lane := if x.state = .standby then { x with state := .active } else x

/-- The transmit direction switches (R192, R195, R199, R201), at its switch stripe or after the stripes already placed behind it: lanes that
leave go to DETECT with LANE_DROPPED, lanes that join are ACTIVE. The condition word of a lane that left under none is free. -/
def State.switchTx (s : State) (k : Nat) (w : Switch) : State :=
  let x := s.chainL k
  let form : Bool := x.state == .forming && x.txMask == 0
  let past : Bool := decide ((x.txStripe + 4294967296 - w.stripe) % 4294967296 < 2147483648)
  let s1 := s.setChainL k { x with
    txMask := w.mask, txEpoch := w.epoch, txStripe := if form then 0 else if past then x.txStripe else w.stripe
    txPos := if past && !form then x.txPos else 0, txSwitch := none }
  let s2 := if form then s1 else s1.satInc (Reg.LNK_C_EPOCHS k)
  let s3 := (x.lanesIn w.mask).foldl (fun t l => t.setLane l (t.lane l).joined) s2
  let s4 := w.dropped.foldl (fun t e =>
    ((t.draw.setLane e.1 ((t.lane e.1).detected false s.now)).alert 5 k k e.1
      (if e.2 = 0 then Config.freeNat t.fresh else e.2) w.mask).detect 69 k e.1) s3
  (if w.dropped.isEmpty then s4 else s4.linkChanged).exchangeDone k

/-- The receive direction switches (R192); a DROP's new epoch ends the discarding that a loss began (R199), and is a capacity change
(R176). -/
def State.switchRx (s : State) (k : Nat) (w : Switch) : State :=
  let x := s.chainL k
  let form : Bool := x.state == .forming && x.rxMask == 0
  let s1 := s.setChainL k { x with
    rxMask := w.mask, rxEpoch := w.epoch, rxStripe := if form then 0 else laterStripe w.stripe x.rxStripe, rxSwitch := none
    discard := x.discard && !w.drop }
  let s2 := if w.drop then s1.capacityChange else s1
  (if form then s2 else s2.satInc (Reg.LNK_C_EPOCHS k)).exchangeDone k

/-- EPOCH_SWITCH (R192): a direction reaches its switch stripe. -/
def execEpochSwitch (k : Fin 16) (transmit : Bool) (s : State) : Result :=
  if s.lanesRun = false then .next s
  else match transmit, (s.chainL k).txSwitch, (s.chainL k).rxSwitch with
    | true, some w, _ => .next (s.switchTx k w)
    | false, _, some w => .next (s.switchRx k w)
    | _, _, _ => .next s

/-! ### Blocks sent and received (R185, R188, R189) -/

/-- LANE_MARKER_SEND (R188, R189), from LOCK on: the lane's marker and those of the other transmitting lanes of its chain, in one
column. -/
def execLaneMarkerSend (l : Fin 64) (s : State) : Result :=
  match s.chainOf l with
  | some k =>
    if s.mode ≠ .cold ∧ (s.lane l).locked then
      .next (s.sendColumn k (fun m => (0x4B, markerBody k m (s.chainL k).txEpoch (s.chainL k).txStripe)))
    else .next s
  | none => .next s

/-- WADDING_INSERT (R189): on every transmitting lane of the chain. -/
def execWaddingInsert (k : Fin 16) (s : State) : Result :=
  if s.lanesRun ∧ (s.chainL k).laneList.any (fun l => (s.lane l).locked) then .next (s.emit (.column k 0x2D 0)) else .next s

/-- Codeword lock follows the markers (R188). -/
def Lane.marked (x : Lane) (good : Bool) : Lane :=
  let phase := (x.phase.getD 0) + 1
  if x.cwLock then
    if phase < 256 then { x with phase := some phase }
    else if good then { x with phase := some 0, markerBad := 0 }
    else if x.markerBad < 2 then { x with phase := some 0, markerBad := x.markerBad + 1 }
    else { x with phase := none, markerBad := 0, cwLock := false, blkLock := false }
  else if good then
    if x.phase.isSome && phase = 256 then { x with phase := some 0, cwLock := true, markerBad := 0 }
    else { x with phase := some 0 }
  else { x with phase := x.phase.map (· + 1) }

/-- The run of valid sync headers at the end of some blocks, and the longest run among them (R188). -/
def headerRuns (n : Nat) (l : List RxBlock) : Nat × Nat :=
  l.foldl (fun (m : Nat × Nat) b =>
    if b.sync = 1#2 ∨ b.sync = 2#2 then (m.1 + 1, max m.2 (m.1 + 1)) else (0, m.2)) (n, n)

/-- The positions of a codeword as the packet layer sees them; those of one that cannot be corrected are error slots (R185,
R218). -/
def codewordSlots (corrected : Option Nat) (blocks : List RxBlock) : List (Option RxBlock) :=
  match corrected with
  | none => List.replicate 80 none
  | some _ => blocks.map RxBlock.slot

/-- A codeword received on a lane (R185, R188, R193, R198, R211): counted, its blocks kept or discarded, its marker checked. -/
def State.codeword (s : State) (k l scr : Nat) (corrected : Option Nat) (blocks : List RxBlock) (offs : Nat) : State :=
  let x := { s.lane l with scr := scr }
  let s1 := s.inc64 (Reg.LNK_L_CW l)
  let win := s.now / 312500
  match corrected with
  | none =>
    let y : Lane := { x.marked false with
      uncRun := x.uncRun + 1, hdrRun := 0, tTimer := if x.state = .standby then s.now else x.tTimer }
    ((s1.setLane l y).inc64 (Reg.LNK_L_CW_UNC l)).satInc (Reg.LNK_L_DISCARD l) 80
  | some n =>
    let cnt := (if x.margWin = win then x.margCnt else 0) + b2n (decide (9 ≤ n))
    let run := headerRuns x.hdrRun blocks
    let good := markerFor k l blocks
    let m := x.marked good
    let y : Lane := { m with
      uncRun := 0, hdrRun := run.1, margWin := win, margCnt := cnt, markAt := if good then some (5 * s.now + offs) else m.markAt
      blkLock := m.cwLock && (m.blkLock || decide (64 ≤ run.2)) }
    let s2 := if n = 0 then s1 else (s1.inc64 (Reg.LNK_L_CW_CORR l)).inc64 (Reg.LNK_L_SYM_CORR l) n
    let s3 := s2.setLane l y
    let s4 := if good ∧ y.state = .standby ∧ 125 < s3.skewOf k l then s3.setLane l { y with tTimer := s.now } else s3
    let s5 := if good then s4.skewCheck k else s4
    s5.satInc (Reg.LNK_L_DISCARD l) (blocks.filter RxBlock.discarded).length

/-- The lanes lost by a codeword, with the condition (R193, R198): 4 uncorrectable codewords, a lost marker, a marginal lane, or lanes of
the chain whose skew has lasted. -/
def State.codewordLoss (s : State) (k l : Nat) (hadLock : Bool) : List Nat × Nat :=
  let x := s.lane l
  if 4 ≤ x.uncRun then ([l], 2)
  else if hadLock && !x.cwLock then ([l], 3)
  else if (s.chainL k).margLim ≠ 0 ∧ (s.chainL k).margLim < x.margCnt then ([l], 5)
  else ((s.chainL k).laneList.filter (fun m => s.skewLost m && !(s.chainL k).leaving.any (fun e => e.1 == m)), 4)

/-- RECEIVE_EMPTY_SLOT (R189). -/
def execReceiveEmptySlot (l : Fin 64) (s : State) : Result :=
  if s.lanesRun ∧ (s.lane l).locked then .next (s.satInc (Reg.LNK_L_WAD_INS l)) else .next s

/-! ### Commands of the host (R208, R209, R213) -/

/-- The mode check of R213. -/
def lnkMode (s : State) : List (Bool × Status) := [(s.mode != .service && s.mode != .maintain, .eState)]

/-- The status of RETRAIN (R213). -/
def retrainStatus (r : Req) (l : Nat) (s : State) : Status :=
  firstStatus (s.ownerChecks r ++ lnkMode s ++ [((s.lane l).state == .active, .eBusy)])

/-- A lane returned to DETECT without backoff (R213); a lane that is off or in TEST has no bring-up to return to. An
announced exchange that holds the lane is discarded, and a lane of a committed mask leaves it by a DROP (R203). -/
def State.retrain (s : State) (l : Nat) : State :=
  if (s.lane l).state = .off ∨ (s.lane l).state = .test then s
  else
    let s1 := s.setLane l ((s.lane l).detected false s.now)
    match s.chainOf l with
    | none => s1
    | some k =>
      match (s1.chainL k).rejoin with
      | .announced m _ => if bitOf m ((s1.chainL k).laneList.idxOf l) then s1.lapse k else s1
      | .committed _ _ _ _ =>
        let x := s1.chainL k
        if bitOf x.txTarget (x.laneList.idxOf l) then
          s1.dropTo k (x.maskBy (fun m => bitOf x.txTarget (x.laneList.idxOf m) && m != l)) []
        else s1
      | _ => s1

/-- RETRAIN (R213). -/
def execRetrain (r : Req) (l : Fin 64) (s : State) : Result :=
  .next (s.hostWrite r (Reg.LNK_L_CMD l) (retrainStatus r l s) (fun t => t.retrain l))

/-- The bits of LNK_L_PRBS_CFG a write stores. -/
def prbsMask : Word := 0xC000000F#32

/-- The status of a write of LNK_L_PRBS_CFG (R208, R213). -/
def prbsStatus (r : Req) (l : Nat) (v : Word) (s : State) : Status :=
  firstStatus (s.ownerChecks r ++ lnkMode s ++
    [(decide (1 < wget v Fld.LNK_L_PRBS_CFG_PATTERN), .eRange),
     ((s.chainOf l).isSome && (wget v Fld.LNK_L_PRBS_CFG_TX_EN == 1 || wget v Fld.LNK_L_PRBS_CFG_RX_EN == 1), .eBusy)])

/-- The PRBS checker of a lane is on. -/
def State.prbsOn (s : State) (l : Nat) : Bool := s.flag (Reg.LNK_L_PRBS_CFG l) Fld.LNK_L_PRBS_CFG_RX_EN

/-- The PRBS generator of a lane is on. -/
def State.prbsSends (s : State) (l : Nat) : Bool := s.flag (Reg.LNK_L_PRBS_CFG l) Fld.LNK_L_PRBS_CFG_TX_EN

/-- The pattern of a lane's PRBS is PRBS31Q. -/
def State.prbs31 (s : State) (l : Nat) : Bool := s.fld (Reg.LNK_L_PRBS_CFG l) Fld.LNK_L_PRBS_CFG_PATTERN == 1

/-- Symbols of a lane in a tick: 53.125 GBd over 3.2 ns (R16, R184). -/
def tickSymbols : Nat := 170

/-- The bit errors left of an injection of kind BIT, and the bits up to the next, after a tick of the stream (R209): an error every 1,024
bits. -/
def Lane.flipped (x : Lane) : Lane :=
  match x.inj with
  | some (1, n) =>
    if x.flipIn < 2 * tickSymbols then
      { x with inj := if n ≤ 1 then none else some (1, n - 1), flipIn := x.flipIn + 1024 - 2 * tickSymbols }
    else { x with flipIn := x.flipIn - 2 * tickSymbols }
  | _ => x

/-- A tick of a lane's PRBS generator (R208, R209): its symbols sent, with the bit that an injection inverts. -/
def State.prbsGenerate (s : State) (l : Nat) : State :=
  let x := s.lane l
  let hit : Bool := match x.inj with
    | some (1, _) => true
    | _ => false
  let t := prbsRun (s.prbs31 l) (fun i => hit && i == x.flipIn) 0 (s.genSeed l) tickSymbols
  (s.draw.setLane l { x.flipped with gen := t.2 }).emit (.prbs l t.1)

/-- A tick of a lane's PRBS checker (R208): what its receiver takes in comes from outside and is free; bits checked and bit errors are
counted. -/
def State.prbsCheck (s : State) (l : Nat) : State :=
  let got := (List.range tickSymbols).map (fun i => (Config.freeList s.fresh).getD i 0 % 4)
  let t := (s.lane l).check.symbols (s.prbs31 l) got
  ((s.draw.setLane l { s.lane l with check := t.1 }).inc64 (Reg.LNK_L_PRBS_BITS l) t.2.1).inc64 (Reg.LNK_L_PRBS_ERR l) t.2.2

/-- LNK_L_PRBS_CFG written (R208): a lane with PRBS enabled is in TEST; its generator and its checker start anew. -/
def State.prbsConfig (s : State) (l : Nat) (v : Word) : State :=
  let on := wget v Fld.LNK_L_PRBS_CFG_TX_EN == 1 || wget v Fld.LNK_L_PRBS_CFG_RX_EN == 1
  let s1 := s.wr (Reg.LNK_L_PRBS_CFG l) (v &&& prbsMask)
  if on then s1.setLane l { s1.lane l with state := .test, gen := 0, check := {} }
  else if (s1.lane l).state = .test then s1.setLane l { s1.lane l with state := .off }
  else s1

/-- PRBS_CFG_WRITE (R208, R213). -/
def execPrbsCfgWrite (r : Req) (l : Fin 64) (v : Word) (s : State) : Result :=
  .next (s.hostWrite r (Reg.LNK_L_PRBS_CFG l) (prbsStatus r l v s) (fun t => t.prbsConfig l v))

/-- An injection taken (R209): applied at once on a lane that sends codewords, and otherwise as soon as it carries what it goes into. -/
def State.inject (s : State) (l kind n : Nat) : State :=
  (s.setLane l { s.lane l with inj := some (kind, n), flipIn := 0 }).applyInjection l

/-- The status of an injection of kind BIT (R209, R213). -/
def injectBitStatus (r : Req) (l n : Nat) (s : State) : Status :=
  firstStatus (s.ownerChecks r ++ lnkMode s ++
    [(n == 0 || (s.lane l).state != .test, .eRange), ((s.lane l).inj.isSome, .eBusy)])

/-- INJECT_BIT (R209). -/
def execInjectBit (r : Req) (l : Fin 64) (count : BitVec 8) (s : State) : Result :=
  .next (s.hostWrite r (Reg.LNK_L_INJ l) (injectBitStatus r l count.toNat s) (fun t => t.inject l 1 count.toNat))

/-- The status of an injection of kind SYMBOL (R209, R213). -/
def injectSymbolStatus (r : Req) (l n : Nat) (s : State) : Status :=
  firstStatus (s.ownerChecks r ++ lnkMode s ++
    [(decide (15 < n) && (s.lane l).state == .active && s.mode != .maintain, .eState), (n == 0 || decide (30 < n), .eRange),
     ((s.lane l).inj.isSome, .eBusy)])

/-- INJECT_SYMBOL (R209). -/
def execInjectSymbol (r : Req) (l : Fin 64) (count : BitVec 8) (s : State) : Result :=
  .next (s.hostWrite r (Reg.LNK_L_INJ l) (injectSymbolStatus r l count.toNat s) (fun t => t.inject l 2 count.toNat))

/-- The status of an injection of kind SYNC (R209, R213). -/
def injectSyncStatus (r : Req) (l : Nat) (s : State) : Status :=
  firstStatus (s.ownerChecks r ++ lnkMode s ++ [((s.lane l).inj.isSome, .eBusy)])

/-- INJECT_SYNC (R209). -/
def execInjectSync (r : Req) (l : Fin 64) (s : State) : Result :=
  .next (s.hostWrite r (Reg.LNK_L_INJ l) (injectSyncStatus r l s) (fun t => t.inject l 3 0))

/-- A drop of the lane would leave its chain below MINW (R209). -/
def State.lolConflict (s : State) (l : Nat) : Bool :=
  match s.chainOf l with
  | none => false
  | some k =>
    let x := s.chainL k
    (s.lane l).state == .active && decide (popcount 16 (x.maskBy (fun m =>
      bitOf x.txTarget (x.laneList.idxOf m) && m != l)) < x.minw)

/-- The status of an injection of kind LOL (R209, R213). -/
def injectLolStatus (r : Req) (l : Nat) (s : State) : Status :=
  firstStatus (s.ownerChecks r ++ lnkMode s ++ [((s.lane l).inj.isSome, .eBusy), (s.lolConflict l, .eConflict)])

/-- INJECT_LOL (R209): the lane is treated as lost under condition UNC. -/
def execInjectLol (r : Req) (l : Fin 64) (s : State) : Result :=
  .next (s.hostWrite r (Reg.LNK_L_INJ l) (injectLolStatus r l s) (fun t =>
    match t.chainOf l with
    | some k => t.loseLanes k [l.val] 2
    | none => t))

/-! ### What the lanes send at a tick (R194, R195, R208) -/

/-- A training frame ends at this tick of a lane in DETECT outside its backoff: 4,096 symbols a frame (R194, R195). -/
def State.frameEnds (s : State) (l : Nat) : Bool :=
  let d := s.now - (s.lane l).tTimer
  s.laneIn l .detect && !(s.lane l).backoff && decide (tickSymbols * (d - 1) / 4096 < tickSymbols * d / 4096)

/-- A CAPX block falls due at this tick of a lane: every 80 block times, 16 ticks, in CAPX (R16, R195). -/
def State.capxDue (s : State) (l : Nat) : Bool := s.laneIn l .capx && (s.now - (s.lane l).tTimer) % 16 == 0

/-- A tick of a lane: its training frame, its PRBS. -/
def State.laneTick (s : State) (l : Nat) : State :=
  let s1 := if s.frameEnds l then s.sendFrameOn l 0 0 else s
  if (s.lane l).state = .test then
    let s2 := if s1.prbsSends l then s1.prbsGenerate l else s1
    if s2.prbsOn l then s2.prbsCheck l else s2
  else s1

/-- A tick of every lane, with the CAPX blocks of the chains (R189, R195). -/
def State.lanesTick (s : State) : State :=
  let s1 := (List.range 64).foldl State.laneTick s
  (List.range 16).foldl (fun (t : State) k =>
    if (t.chainL k).laneList.any t.capxDue then t.sendCapx k t.capxDue else t) s1

/-! ### Links on and off (R195, R527, chapter 07 Modes) -/

/-- The power of the quadrants follows their lanes (R195). -/
def State.quadPower (s : State) : State :=
  { s with pwr := { s.pwr with dom := (List.range 4).foldl (fun (d : Tab PwrState) q =>
    Tab.put d (8 + q) (if (List.range 16).any (fun i => (s.lane (16 * q + i)).state != .off) then .on else .off)) s.pwr.dom } }

/-- Bring-up from OFF: every configured lane enters DETECT, every other lane is off. -/
def State.linksStart (s : State) : State :=
  let s1 := (List.range 64).foldl (fun t l =>
    if (t.chainOf l).isSome then
      (if (t.lane l).state = .off then t.setLane l ((t.lane l).detected false s.now) else t)
    else if (t.lane l).state = .test then t else t.setLane l { failStreak := (t.lane l).failStreak }) s
  s1.quadPower

/-- Lanes go OFF in HOLD with HOLD-links 0 (chapter 07 Modes, R84): no chain is reported down. -/
def State.linksOff (s : State) : State :=
  let s1 := (List.range 16).foldl (fun t k =>
    let x := t.chainL k
    if x.en then
      let y : ChainLnk := { x.idle with windowOver := false, holdOff := true }
      let p : ChainPkt := { alerts := (t.chainP k).alerts }
      (t.setChainL k y).setChainP k p
    else t) s
  let s2 := { s1 with lanes := s1.lanes.map (fun (e : Nat × Lane) => (e.1, ({ failStreak := e.2.failStreak } : Lane))) }
  let s3 := ((List.range 256).filter s2.srcEnabled).foldl (fun t i => t.loseNx i) s2
  let s4 := { s3 with dmc := { s3.dmc with jobs := [] } }
  s4.quadPower.capUpdate

end Sys2Proof.Machine
end

