-- ==== Sys2Proof/Machine/Pkt.lean ====
section
/-! DEFINITION. Sys2Proof/Machine/Pkt.lean: the packet layer of a chain (R214 to R231): what a packet is on the lanes, the
receiver with its link and content errors, acknowledgement and replay, and the credits the stack grants. -/
namespace Sys2Proof.Machine

/-! ### Content errors (R217, R218, R227, R234, R235, R239) -/

/-- A length lies between two bounds. -/
def lenBetween (lo hi n : Nat) : Bool := decide (lo ≤ n) && decide (n ≤ hi)

/-- The grants of a CREDIT packet: pool and total (R227). -/
def grants (payload : List Byte) : List (Nat × Nat) :=
  (chunks 4 144 payload).map (fun (g : List Byte) => (leAt g 3 1, leAt g 0 3))

/-- The session prefix's reserved bytes are zero (R237). -/
def prefixOk (p : Packet) : Bool := !p.tagged || zeros p.payload 2 6

/-- The slots of a CTL payload behind its header. -/
def ctlSlots (body : List Byte) : List (List Byte) := chunks 16 64 (body.drop 16)

/-- The XLEN of an operation slot: session operations only (R411). -/
def slotXlen (slot : List Byte) : Nat := if leAt slot 0 1 / 16 = 2 then leAt slot 4 1 else 0

/-- The operations of a request, each with the bytes of its extension slots; none when the slots do not match. -/
def ctlItems : Nat → List (List Byte) → Option (List (List Byte × List Byte))
  | _, [] => some []
  | 0, _ :: _ => none
  | fuel + 1, slot :: rest =>
    if rest.length < slotXlen slot then none
    else (ctlItems fuel (rest.drop (slotXlen slot))).map (fun l =>
      (slot, (rest.take (slotXlen slot)).flatten) :: l)

/-- The structure of a CTL request (R238, R239): NOPS 1 to 32 and matching the slots, the reserved bytes zero. -/
def ctlForm (body : List Byte) : Bool :=
  decide (16 ≤ body.length) && body.length % 16 == 0 && lenBetween 1 32 (leAt body 4 1) &&
    (ctlSlots body).length == leAt body 4 1 && decide (leAt body 5 1 < 2) && zeros body 6 10 &&
    (match ctlItems 64 (ctlSlots body) with
      | none => false
      | some l => l.all (fun (e : List Byte × List Byte) => zeros e.1 2 2))

/-- A packet the partner sends has no content error. -/
def contentOk (p : Packet) : Bool :=
  let n := p.payload.length
  let b := packetBody p
  match p.type with
  | 0 => p.label == 0 && !p.tagged && lenBetween 8 576 n && (grants p.payload).all (fun g => decide (g.1 ≤ 32) || g.1 == 255)
  | 2 => !p.tagged && lenBetween 32 576 n && n % 32 == 0
  | 3 => b.length == 16 && n == (if p.tagged then 32 else 16) && prefixOk p && decide (leAt b 4 1 < 16) && zeros b 5 3 &&
      decide (leAt b 8 8 < 2 ^ 50)
  | 4 => lenBetween (if p.tagged then 40 else 24) 576 n && prefixOk p && decide (leAt b 4 1 < 16) &&
      decide (leAt b 5 1 < 2) && zeros b 6 2 && decide (leAt b 8 8 < 2 ^ 37)
  | 5 => p.label == 0 && (!p.tagged || decide (16 ≤ n)) && prefixOk p && ctlForm b
  | _ => false

/-! ### The receiver (R218, R221, R222, R230) -/

/-- The pool a partner's packet draws on (R217). -/
def State.rxPool (s : State) (p : Packet) : Option Nat :=
  match p.type with
  | 0 => none
  | 5 => some 32
  | 6 => some 32
  | _ => some (s.labelClass p.label)

/-- One more ACK or NAK keeps those blocks within 1 in 256 stripe block positions (R219). -/
def State.ackRoom (s : State) (k : Nat) : Bool := decide (256 * ((s.chainP k).ackSent + 1) ≤ s.positions k)

/-- NAK(E) put on the chain, at most once for a given E in 1 µs (R221). -/
def State.putNak (s : State) (k : Nat) : State :=
  let x := s.chainP k
  let again : Bool := match x.nakE with
    | some (e, t) => e == x.e && decide (2 * (s.now - t) < 625)
    | none => false
  if again then s.setChainP k { x with nakOwed := false }
  else
    let at_ : Option (Nat × Nat) := some (x.e, s.now)
    let y : ChainPkt := { x with nakE := at_, ackSent := x.ackSent + 1, nakOwed := false }
    (((s.setChainP k y).emitBlock k (nakBlock x.e)).satInc (Reg.LNK_P_NAK_TX k)).event (Reg.LNK_P_EVENTS k)
      Fld.LNK_P_EVENTS_NAK_TX

/-- NAK(E), at once or, where it would take more than its share of the positions, owed (R219, R221). -/
def State.sendNak (s : State) (k : Nat) : State :=
  if s.ackRoom k then s.putNak k else s.setChainP k { s.chainP k with nakOwed := true }

/-- ACK(E − 1) put on the chain (R221, R222). -/
def State.putAck (s : State) (k : Nat) : State :=
  let x := s.chainP k
  (s.setChainP k { x with ackSent := x.ackSent + 1, ackOwed := false }).emitBlock k (ackBlock (x.e + 65535))

/-- ACK(E − 1), at once or, where it would take more than its share of the positions, owed: a later one covers it (R219, R222). -/
def State.sendAck (s : State) (k : Nat) : State :=
  if s.ackRoom k then s.putAck k else s.setChainP k { s.chainP k with ackOwed := true }

/-- The owed ACK and the owed NAK of a chain, each sent once its share of the positions has come. -/
def State.flushAck (s : State) (k : Nat) : State :=
  let s1 := if s.chainUp k && (s.chainP k).ackOwed && s.ackRoom k then s.putAck k else s
  if s1.chainUp k && (s1.chainP k).nakOwed && s1.ackRoom k then s1.putNak k else s1

/-- The owed ACKs and NAKs of every chain. -/
def State.flushAcks (s : State) : State := (List.range 16).foldl (fun (t : State) k => t.flushAck k) s

/-- A packet discarded for a link error: counted, and answered with NAK(E). -/
def State.linkError (s : State) (k : Nat) : State := (s.satInc (Reg.LNK_P_RX_DISCARD k)).sendNak k

/-- A packet that costs more than the credit outstanding (R230). -/
def State.overrun (s : State) (k : Nat) : State :=
  ((s.satInc (Reg.LNK_P_CREDIT_OVR k)).event (Reg.LNK_P_EVENTS k) Fld.LNK_P_EVENTS_CREDIT_OVERRUN).linkError k

/-- The partner's packet finds its cost in the credit outstanding (R230). -/
def State.creditHeld (s : State) (k : Nat) (p : Packet) : Bool :=
  match s.rxPool p with
  | none => true
  | some pool => decide (pktCost p ≤ (s.chainP k).outstanding pool)

/-- A packet accepted: E moves on, its credits count as used, and it is acknowledged (R221, R222, R228). -/
def State.acceptPacket (s : State) (k : Nat) (p : Packet) : State :=
  let x := s.chainP k
  let used : Tab Nat := match s.rxPool p with
    | none => x.rxUsed
    | some pool => Tab.put x.rxUsed pool ((Tab.lookD x.rxUsed pool 0 + pktCost p) % 2 ^ 24)
  (((s.setChainP k { x with e := (x.e + 1) % 65536, rxUsed := used, nakOwed := false }).inc64 (Reg.LNK_P_RX_PKTS k)).count 0x09 1 k none p.lseq k).sendAck k

/-- A packet with a content error is discarded after its acknowledgement and counted; a CTL request's credits return
(R218, R229). -/
def State.contentError (s : State) (k : Nat) (p : Packet) : State :=
  let s1 := (s.satInc (Reg.LNK_P_FORMAT k)).event (Reg.LNK_P_EVENTS k) Fld.LNK_P_EVENTS_FORMAT
  let x := s1.chainP k
  if s.rxPool p = some 32 then
    s1.setChainP k { x with given := Tab.put x.given 32 ((Tab.lookD x.given 32 0 + pktCost p) % 2 ^ 24) }
  else s1

/-- What the receiver does with a packet (R218, R221). -/
inductive RxVerdict where
  /-- not seen: the chain takes no packets -/
  | unseen
  | linkError | overrun | duplicate | contentError | accepted
deriving DecidableEq, Repr

/-- The chain takes stripe blocks: it is UP, and no loss makes it discard them (R199). -/
def State.takesBlocks (s : State) (k : Nat) : Bool := s.chainUp k && !(s.chainL k).discard

/-- The verdict on a packet without a link error of its blocks that arrives on a chain; `reserved`: a reserved field of its START
or END is not zero. -/
def State.judgePacket (s : State) (k : Nat) (p : Packet) (reserved : Bool) : RxVerdict :=
  let d := (p.lseq + 65536 - (s.chainP k).e) % 65536
  if !s.takesBlocks k || !packetFits p then .unseen
  else if 32768 ≤ d then .duplicate
  else if d ≠ 0 then .linkError
  else if !s.creditHeld k p then .overrun
  else if contentOk p && !reserved then .accepted
  else .contentError

/-! ### Credits from the partner (R227) -/

/-- The grants of a CREDIT packet taken: a later grant replaces an earlier one, and packets that waited go out. -/
def State.takeGrants (s : State) (k : Nat) (payload : List Byte) : State :=
  let x := s.chainP k
  let t : Tab Nat := (grants payload).foldl (fun (t : Tab Nat) (g : Nat × Nat) => if g.1 ≤ 32 then Tab.put t g.1 g.2 else t)
    x.granted
  (s.setChainP k { x with granted := t }).pump k

/-! ### Acknowledgement and replay (R223, R246) -/

/-- The `n` oldest unacknowledged packets released: the oldest has changed, and packets that waited go out. -/
def State.releasePackets (s : State) (k n : Nat) : State :=
  if n = 0 then s
  else
    let x := s.chainP k
    let y : ChainPkt := { x with replay := x.replay.drop n, sentAt := x.sentAt.drop n, streak := 0 }
    s.setChainP k y

/-- SCLK ticks in which a number of stripe blocks goes out (R16, R184). -/
def State.sendTicks (s : State) (k n : Nat) : Nat := ceilDiv n (5 * max 1 (popcount 16 (s.chainL k).txMask))

/-- A replay from the oldest unacknowledged packet falls due. The seventeenth in a row takes the chain down instead. -/
def State.replay (s : State) (k : Nat) : State :=
  let x := s.chainP k
  match x.replay with
  | [] => s
  | first :: _ =>
    if 16 ≤ x.streak then
      (s.chainDown k 1).event (Reg.LNK_P_EVENTS k) Fld.LNK_P_EVENTS_RETRY_EXHAUSTED
    else
      let y : ChainPkt := { x with
        streak := x.streak + 1, sentAt := x.replay.map (fun _ => s.now)
        replayEnd := s.now + s.sendTicks k ((x.replay.map packetLen).sum) }
      let s1 := ((s.setChainP k y).satInc (Reg.LNK_P_REPLAYS k)).count 0x0B 1 k none first.lseq k
      x.replay.foldl (fun (t : State) p => t.emitPacket k p true) s1

/-- How far an LSEQ lies behind the oldest unacknowledged packet. -/
def ChainPkt.index (x : ChainPkt) (l : Nat) : Nat := (l + 65536 - x.oldest) % 65536

/-- LNK_P_EVENTS.ACK_INVALID set. -/
def State.ackInvalid (s : State) (k : Nat) : State := s.event (Reg.LNK_P_EVENTS k) Fld.LNK_P_EVENTS_ACK_INVALID

/-- ACK(x) taken (R223). -/
def State.ackTaken (s : State) (k x : Nat) : State :=
  let y := s.chainP k
  if !s.chainUp k then s
  else if y.index x < y.replay.length then (s.releasePackets k (y.index x + 1)).pump k
  else if y.index x = 65535 then s
  else s.ackInvalid k

/-- NAK(x) taken (R223). -/
def State.nakTaken (s : State) (k x : Nat) : State :=
  let y := s.chainP k
  if !s.chainUp k then s
  else
    let s1 := (s.satInc (Reg.LNK_P_NAK_RX k)).event (Reg.LNK_P_EVENTS k) Fld.LNK_P_EVENTS_NAK_RX
    if y.index x < y.replay.length then ((s1.releasePackets k (y.index x)).replay k).pump k
    else if x = y.txNext then (s1.releasePackets k y.replay.length).pump k
    else s1.ackInvalid k

/-- ACK_RECEIVED (R214, R223): the block's CRC holds. -/
def execAckReceived (k : Fin 16) (body : BitVec 56) (s : State) : Result :=
  if crcHolds 0x91 body.toNat then .next (s.ackTaken k (bitsOf body.toNat 55 40)) else .next s

/-- NAK_RECEIVED (R214, R223): the block's CRC holds. -/
def execNakReceived (k : Fin 16) (body : BitVec 56) (s : State) : Result :=
  if crcHolds 0x92 body.toNat then .next (s.nakTaken k (bitsOf body.toNat 55 40)) else .next s

/-- 2 µs have passed since the oldest unacknowledged packet was last sent, and the cycle in which its ACK would still have counted is over
(R223, R246). -/
def State.replayDue (s : State) (k : Nat) : Bool := decide ((s.chainP k).sentAt.headD 0 + 625 < s.now)

/-- REPLAY_TIMEOUT (R223): the oldest unacknowledged packet was last sent 2 µs ago. -/
def execReplayTimeout (k : Fin 16) (s : State) : Result :=
  if s.chainUp k && s.replayDue k then .next ((s.replay k).pump k) else .next s

/-! ### Credits the stack grants (R175, R229) -/

/-- What an in-force RT-CAPTURE class lacks of w × 2 µs outstanding on a chain of its CHAINS, in credits. -/
def State.poolNeed (s : State) (k n : Nat) : Nat :=
  if s.classType n = 2 ∧ s.inForce n ∧ bitOf (s.classChains n) k then
    ceilDiv (2 * s.classP1 n) 64 - (s.chainP k).outstanding n
  else 0

/-- What every such class lacks on every chain. -/
def State.allNeeds (s : State) : Nat :=
  (s.upChains.map (fun k => ((List.range 32).map (s.poolNeed k)).sum)).sum

/-- One pool granted more on a chain: first what it needs, then a free amount that leaves room for what the others need; a
grantor never allows more than 2^23 credits outstanding (R228, R229). -/
def State.grantPool (s : State) (k n more : Nat) : State :=
  let x := s.chainP k
  let need := min (s.poolNeed k n) (s.poolRoom n)
  let add := min (need + min more (s.poolRoom n - s.allNeeds)) (2 ^ 23 - x.outstanding n)
  s.setChainP k { x with given := Tab.put x.given n ((Tab.lookD x.given n 0 + add) % 2 ^ 24) }

/-- Every pool from 1 to 31 granted as room allows; the amounts beyond the needs are free. -/
def State.grantPools (s : State) (k : Nat) : State :=
  let more := Config.freeList s.fresh
  ((List.range 31).map (· + 1)).foldl (fun (t : State) n => t.grantPool k n (more.getD n 0)) s.draw

/-- The pools whose total has moved since the grant last sent on a chain. -/
def ChainPkt.unsent (x : ChainPkt) : List Nat :=
  (List.range 33).filter (fun n => Tab.look x.givenSent n != some (x.givenOf n))

/-- The payload of grants, padded to a whole block with a grant of pool 0xFF (R227). -/
def ChainPkt.grantBytes (x : ChainPkt) (pools : List Nat) : List Byte :=
  pools.flatMap (fun n => leBytes 3 (x.givenOf n) ++ leBytes 1 n) ++
    (if pools.length % 2 = 0 then [] else leBytes 4 0xFF000000)

/-- The pools of a chain whose total has moved are noted with the time (R229). -/
def State.markMoved (s : State) (k : Nat) : State :=
  let x := s.chainP k
  let moved : Tab Nat := x.unsent.foldl (fun (t : Tab Nat) n => if (Tab.look t n).isSome then t else Tab.put t n s.now) x.movedAt
  if s.chainUp k then s.setChainP k { x with movedAt := moved } else s

/-- The pools of every chain. -/
def State.markAllMoved (s : State) : State := (List.range 16).foldl State.markMoved s

/-- A pool's total is due in a CREDIT packet (R229): it was never sent, it has moved on by 64 credits, or it has moved on at all 1 µs
ago. -/
def ChainPkt.grantDue (x : ChainPkt) (now n : Nat) : Bool :=
  match Tab.look x.givenSent n with
  | none => true
  | some sent => decide (64 ≤ (x.givenOf n + 2 ^ 24 - sent) % 2 ^ 24) || decide (625 ≤ 2 * (now - Tab.lookD x.movedAt n now))

/-- The totals that are due, sent in a CREDIT packet. -/
def State.sendGrants (s : State) (k : Nat) : State :=
  let x := s.chainP k
  let pools := x.unsent.filter (x.grantDue s.now)
  if pools = [] then s
  else
    let sent : Tab Nat := pools.foldl (fun (t : Tab Nat) n => Tab.put t n (x.givenOf n)) x.givenSent
    let moved : Tab Nat := x.movedAt.filter (fun e => !pools.contains e.1)
    (s.setChainP k { x with givenSent := sent, movedAt := moved }).sendPacket k (newPacket 0 0 (x.grantBytes pools))

/-- CREDIT_GRANT_SEND (R229): the totals move on as room allows, and those that are due are sent. -/
def execCreditGrantSend (k : Fin 16) (s : State) : Result :=
  if s.chainUp k then .next ((((s.grantPools k).holdUpdate).markMoved k).sendGrants k) else .next s

/-! ### Alerts (R241, R243) -/

/-- The 32 bytes of an alert record (R241). -/
def Alert.bytes (x : Alert) : List Byte :=
  leBytes 2 x.code ++ leBytes 1 x.chain ++ [0#8] ++ leBytes 4 x.aseq ++ leBytes 8 x.gtime ++ leBytes 4 x.p0 ++
    leBytes 4 x.p1 ++ leBytes 4 x.p2 ++ leBytes 4 x.p3

/-- The chain sends ALERT packets: it is an alert chain UP in a mode that admits them (R29, R241). -/
def State.alertsGo (s : State) (k : Nat) : Bool :=
  s.alertChains.contains k && s.chainUp k && (s.mode == .service || s.mode == .hold || s.mode == .maintain)

/-- An ALERT packet of the queue would leave at once: it finds its credit and its room, and no packet of pool 32 waits before it
(R224, R228). -/
def State.alertRoom (s : State) (k : Nat) : Bool :=
  let x := s.chainP k
  let n := min 18 x.alerts.length
  x.affords (some 32) (ceilDiv (4 * n) 8) && s.rbufRoom k (32 * n) && !x.waiting.any (fun w => s.txPool w.pkt == some 32)

/-- ALERT_SEND (R241): up to 18 records of the queue, in ASEQ order, in one ALERT packet; until that can leave they stay queued, so
that a chain that goes down loses none. -/
def execAlertSend (k : Fin 16) (s : State) : Result :=
  let x := s.chainP k
  if s.alertsGo k && s.alertRoom k && !x.alerts.isEmpty then
    .next ((s.setChainP k { x with alerts := x.alerts.drop 18 }).sendPacket k
      (newPacket 6 0 ((x.alerts.take 18).flatMap Alert.bytes)))
  else .next s

end Sys2Proof.Machine
end

