-- ==== Sys2Proof/Machine/Rae.lean ====
section
/-! DEFINITION. Sys2Proof/Machine/Rae.lean: the commands of redundancy analysis (R123 to R152): take-up, budgets, first
passes and pool rounds, engine errors, the result ring, and reanalysis. -/
namespace Sys2Proof.Machine

/-! ### Take-up (R123, R127, chapter 05 Modes) -/

/-- DOMAIN_DAMAGED on a close record (chapter 05 Modes): the outcome is UNDECIDED with words A and B zero, and
MAP_INCOMPLETE is set. -/
def State.closeRecordLost (s : State) (d e : Nat) : State :=
  let x := s.domain d
  match x.closeRec with
  | none => s
  | some c =>
    let flags := if bitOf c.flags 2 then c.flags else c.flags + 4
    let c1 : CloseRec := { c with flags := flags }
    ((s.setDomain d { x with mapIncomplete := true, closeRec := some c1 }).damaged d).takeOutcome d e
      ⟨3, 0, [], false, 0, 0, [], 0⟩

/-- An engine ends an analysis after `nodes` calls of node() (R148). -/
def State.engineEnds (s : State) (e nodes : Nat) : State :=
  let x := s.engine e
  s.setEngine e { x with
    domain := none, phase := 0, spent := none, nodes := nodes, done := x.done + 1, elapsed := 4 * (s.now - x.tTake) }

/-- The bytes of a close record's load. -/
def CloseRec.size (c : CloseRec) : Nat :=
  ceilDiv (64 + 4 * (c.heavyRows.length + c.heavyCols.length + c.points.length)) 64 * 64

/-- An engine takes up a domain (R123, R127). -/
def State.takeUp (s : State) (e d : Nat) (intact : Bool) : State :=
  let x := s.domain d
  let y : Engine := { s.engine e with domain := some d, last := d, phase := 1, spent := none, tTake := s.now, nodes := 0, elapsed := 0 }
  let s1 := (s.setEngine e y).setDomain d { x with state := .analysing }
  let s2 := (s1.traffic s1.raeClass ((x.closeRec.map CloseRec.size).getD 0) s1.raeLabel).1
  if intact then s2 else (s2.engineEnds e 0).closeRecordLost d e

/-- Rounds that are due without an engine handed to the lowest-numbered engines that are in the pool and idle (R133). -/
def State.handRounds (s : State) : State :=
  ((s.cad.pools.filter (fun p => !p.2.round.isEmpty && p.2.runner.isNone)).map (·.1)).foldl (fun (t : State) p =>
    match t.freeEngine, Tab.look t.cad.pools p with
    | some e, some x =>
      let y : Pool := { x with runner := some e }
      { t with cad := { t.cad with pools := Tab.put t.cad.pools p y } }
    | _, _ => t) s

/-- The head of the queue, a CLOSED domain (R144), handed to the lowest idle engine in the pool (R123). -/
def State.takeHead (s : State) (intact : Bool) : State :=
  match s.rae.queue, s.freeEngine with
  | d :: r, some e =>
    let t : State := { s with rae := { s.rae with queue := r } }
    if (s.domain d).state = .closed then t.takeUp e d intact else t
  | _, _ => s

/-- RAE_TAKE_UP (R123, R133): in SERVICE, rounds that are due go ahead of the head of the queue; `intact` says whether the close
record's codewords were delivered. -/
def execRaeTakeUp (intact : Bool) (s : State) : Result :=
  if s.mode = .service ∧ s.rae.dispatch then .next (s.handRounds.takeHead intact) else .next s

/-! ### Budgets (R127, R128) -/

/-- TIME_BUDGET_EXPIRE (R127): the time budget, TBUD × 1,250 CCLK cycles from take-up, expires after `nodes` calls of node(); the next call finds it spent. -/
def execTimeBudgetExpire (e : Fin 64) (nodes : Nat) (s : State) : Result :=
  let x := s.engine e
  match x.domain, x.spent with
  | some d, none =>
    if x.nodes ≤ nodes ∧ nodes ≤ s.nodesToMake e ∧ 4 * x.tTake + 1250 * (s.domain d).tbud ≤ 4 * s.now then .next (s.setEngine e { x with phase := 2, spent := some (1, nodes), nodes := nodes }) else .next s
  | _, _ => .next s

/-- NODE_BUDGET_SPENT (R127): a call beyond the budget; nothing changes where the search ends within it. -/
def execNodeBudgetSpent (e : Fin 64) (s : State) : Result :=
  let x := s.engine e
  match x.domain, x.spent with
  | some d, none =>
    match (s.domain d).closeRec with
    | some c =>
      let o := firstPass c (s.domain d).nodeLimit 2
      if o.kind = 3 ∨ o.partialSearch then
        .next (s.setEngine e { x with phase := 2, spent := some (2, (s.domain d).nodeLimit), nodes := (s.domain d).nodeLimit })
      else .next s
    | none => .next s
  | _, _ => .next s

/-! ### The first pass ends (R131, R132, R144) -/

/-- A first pass ends: a result, or an outcome held for the round. -/
def State.passEnds (s : State) (e d : Nat) (c : CloseRec) : State :=
  let o := s.passOutcome e d c
  (s.engineEnds e o.nodes).takeOutcome d e o

/-- FIRST_PASS_END (R132): outside SERVICE a running first pass still completes (R26). -/
def execFirstPassEnd (e : Fin 64) (s : State) : Result :=
  match (s.engine e).domain with
  | none => .next s
  | some d =>
    match (s.domain d).closeRec with
    | none => .next s
    | some c => .next (s.passEnds e d c)

/-- The engine that runs a round (R133): the one whose first pass completed the condition, or the lowest idle one, which
the dispatcher chooses in SERVICE. -/
def State.roundEngine (s : State) (p : Nat) : Option Nat :=
  match (Tab.look s.cad.pools p).map (·.runner) with
  | some (some e) => some e
  | _ => if s.mode = .service ∧ s.rae.dispatch then s.freeEngine else none

/-- POOL_ROUND (R133 to R136). -/
def execPoolRound (pool : BitVec 16) (s : State) : Result :=
  if s.roundDue pool.toNat then
    match s.roundEngine pool.toNat with
    | some e => .next (s.round pool.toNat e)
    | none => .next s
  else .next s

/-! ### Engine errors (R126) -/

/-- An engine's internal error during an analysis: its domain goes back to the head of the queue as CLOSED. -/
def State.engineError (s : State) (e d : Nat) : State :=
  let s1 := s.setDomain d { s.domain d with state := .closed }
  (({ s1 with rae := { s1.rae with queue := d :: s1.rae.queue } }.satInc Reg.RAE_REDISPATCH).event Reg.RAE_EVENTS
    Fld.RAE_EVENTS_REDISPATCH).engineFails e d

/-- RAE_ENGINE_ERROR (R126). -/
def execRaeEngineError (e : Fin 64) (s : State) : Result :=
  match (s.engine e).domain with
  | some d => .next (s.engineError e d)
  | none => .next s

/-! ### The result ring (R145 to R147, R150) -/

/-- RAE_RING_SLOTS. -/
def State.ringSlots (s : State) : Nat := s.rdN Reg.RAE_RING_SLOTS % 2 ^ 25

/-- The ring is full (R145). -/
def State.ringFull (s : State) : Bool :=
  (s.rdN Reg.RAE_RING_WPTR + 1) % s.ringSlots == s.rdN Reg.RAE_RING_RPTR

/-- RESULT_READY raised for the slots written since the last one (R147); a holdoff begins. -/
def State.resultReady (s : State) : State :=
  let s1 := s.alert 0x40 0xFF (s.rdN Reg.RAE_RING_WPTR) s.rae.ringNew 0 0
  let h := s1.fld Reg.RAE_RING_CFG Fld.RAE_RING_CFG_HOLDOFF
  { s1 with rae := { s1.rae with ringNew := 0, holdoff := h != 0, holdoffDue := 2 * s1.now + 625 * h } }

/-- A result copied to the next slot (R145, R147). -/
def State.ringCopy (s : State) (p : Partition) (pi : Nat) (r : ResultRec) (rest : List ResultRec) : State :=
  let w := s.rdN Reg.RAE_RING_WPTR
  let t := s.traffic s.raeClass 1024 s.raeLabel
  let s1 := (t.1.writeBytes pi p (s.rd64 Reg.RAE_RING_BASE + 1024 * w) (slice r.bytes 0 1024) s.raeClass t.2).wrN Reg.RAE_RING_WPTR ((w + 1) % s.ringSlots)
  let s2 := { s1 with rae := { s1.rae with copyQ := rest, ringNew := s1.rae.ringNew + 1 } }
  let s3 := if s2.ringFull then s2.event Reg.RAE_EVENTS Fld.RAE_EVENTS_RING_FULL else s2
  if s3.flag Reg.RAE_RING_CFG Fld.RAE_RING_CFG_ALERT_EN && !s3.rae.holdoff then s3.resultReady else s3

/-- RESULT_RING_COPY (R145, R146): the oldest waiting result, while the ring is enabled and has room, in every mode that analyses run
in or come to their end in. -/
def execResultRingCopy (s : State) : Result :=
  let pi := s.fld Reg.RAE_RING_CFG Fld.RAE_RING_CFG_PART
  match s.rae.copyQ, Tab.look s.cfg.parts pi with
  | r :: rest, some p =>
    if s.mode ≠ .cold ∧ s.mode ≠ .load ∧ s.mode ≠ .safe ∧ s.flag Reg.RAE_RING_CFG Fld.RAE_RING_CFG_EN ∧ !s.ringFull then
      .next (s.ringCopy p pi r rest)
    else .next s
  | _, _ => .next s

/-- HOLDOFF_EXPIRE (R147). -/
def execHoldoffExpire (s : State) : Result :=
  if s.rae.holdoff ∧ s.rae.holdoffDue ≤ 2 * s.now then
    let s1 : State := { s with rae := { s.rae with holdoff := false } }
    if s.rae.ringNew ≠ 0 ∧ s.flag Reg.RAE_RING_CFG Fld.RAE_RING_CFG_ALERT_EN then .next s1.resultReady else .next s1
  else .next s

/-- The bits of RAE_RING_CFG a write stores. -/
def ringCfgMask : Word := 0xCFFFFFFF#32

/-- The status of a write of RAE_RING_CFG (R150, R156). -/
def ringCfgStatus (r : Req) (v : Word) (s : State) : Status :=
  let old := s.rd Reg.RAE_RING_CFG
  let on := wget old Fld.RAE_RING_CFG_EN == 1
  let sets := wget v Fld.RAE_RING_CFG_EN == 1 && !on
  let part := Tab.look s.cfg.parts (wget v Fld.RAE_RING_CFG_PART)
  let base := s.rd64 Reg.RAE_RING_BASE
  firstStatus (s.hostChecks r ++
    [(on && (wget v Fld.RAE_RING_CFG_PART != wget old Fld.RAE_RING_CFG_PART ||
        wget v Fld.RAE_RING_CFG_LABEL != wget old Fld.RAE_RING_CFG_LABEL), .eBusy),
     (sets && (match part with
        | some p => p.pers != 4
        | none => true), .eAccess),
     (sets && (base % 1024 != 0 || decide (s.ringSlots < 2) || decide (2 ^ 24 < s.ringSlots) ||
        (match part with
          | some p => decide (p.size < base + 1024 * s.ringSlots)
          | none => false)), .eRange),
     (s.unmapped (wget v Fld.RAE_RING_CFG_LABEL), .eConflict)])

/-- RAE_RING_CFG written: a write that sets EN resets both pointers (R150). -/
def State.ringCfg (s : State) (v : Word) : State :=
  let sets := wget v Fld.RAE_RING_CFG_EN == 1 && !s.flag Reg.RAE_RING_CFG Fld.RAE_RING_CFG_EN
  let s1 := s.wr Reg.RAE_RING_CFG (v &&& ringCfgMask)
  if sets then (s1.wrN Reg.RAE_RING_WPTR 0).wrN Reg.RAE_RING_RPTR 0 else s1

/-- RAE_RING_CFG_WRITE (R150). -/
def execRaeRingCfgWrite (r : Req) (v : Word) (s : State) : Result :=
  .next (s.hostWrite r Reg.RAE_RING_CFG (ringCfgStatus r v s) (fun t => t.ringCfg v))

/-- The status of a write of RAE_RING_RPTR (R150): not beyond the slots written. -/
def ringRptrStatus (r : Req) (v : Word) (s : State) : Status :=
  let n := max s.ringSlots 1
  let rp := s.rdN Reg.RAE_RING_RPTR
  firstStatus (s.hostChecks r ++
    [(decide (n ≤ v.toNat) ||
        decide ((s.rdN Reg.RAE_RING_WPTR + n - rp % n) % n < (v.toNat + n - rp % n) % n), .eRange)])

/-- RAE_RING_RPTR_WRITE (R150). -/
def execRaeRingRptrWrite (r : Req) (v : Word) (s : State) : Result :=
  .next (s.hostWrite r Reg.RAE_RING_RPTR (ringRptrStatus r v s) (fun t => t.wr Reg.RAE_RING_RPTR v))

/-! ### RAE_CMD (R151, R152) -/

/-- The domain RAE_ARG names. -/
def State.raeArg (s : State) : Nat := s.rdN Reg.RAE_ARG

/-- The status of REANALYSE (R151). -/
def reanalyseStatus (r : Req) (s : State) : Status :=
  let x := s.domain s.raeArg
  firstStatus (s.hostChecks r ++
    [(s.mode != .service, .eState), (decide (2 ^ 24 ≤ s.raeArg), .eRange),
     (x.state != .done || (match x.result with
        | some q => q.kind != 3
        | none => true), .eState),
     (x.pool != 0, .eConflict), ((s.takeHeap s.raeArg .result 14).isNone, .eResource)])

/-- A budget of RAE_ABUD, or the default (R122, R152). -/
def budgetOr (n default : Nat) : Nat := if n = 0 then default else n

/-- A domain reanalysed (R152): CLOSED again with new budgets, at the tail of the queue; the time at which it first became CLOSED
stands (notes/assumptions/181.md). -/
def State.reanalyse (s : State) : State :=
  let d := s.raeArg
  let s1 := ((s.takeHeap d .result 14).getD s).heapCheck
  let s2 := s1.setDomain d { s1.domain d with
    state := .closed, reanalysed := true, tClosedT0 := s1.now
    tbud := budgetOr (s1.fld Reg.RAE_ABUD Fld.RAE_ABUD_TBUD) (s1.fld Reg.CAD_DEFBUD Fld.CAD_DEFBUD_TBUD)
    nbud := budgetOr (s1.fld Reg.RAE_ABUD Fld.RAE_ABUD_NBUD) (s1.fld Reg.CAD_DEFBUD Fld.CAD_DEFBUD_NBUD) }
  { s2 with rae := { s2.rae with queue := s2.rae.queue ++ [d] } }

/-- REANALYSE (R151, R152). -/
def execReanalyse (r : Req) (s : State) : Result :=
  .next (s.hostWrite r Reg.RAE_CMD (reanalyseStatus r s) State.reanalyse)

/-- The status of CLEAR_LAT (R151). -/
def clearLatStatus (r : Req) (s : State) : Status := firstStatus (s.hostChecks r ++ [(s.mode != .service, .eState)])

/-- CLEAR_LAT (R148, R151). -/
def execClearLat (r : Req) (s : State) : Result :=
  .next (s.hostWrite r Reg.RAE_CMD (clearLatStatus r s) (fun t => t.wr Reg.RAE_LAT_MAX 0))

/-- A warm load abandons running analyses (chapter 05 Modes): their domains go back to the head of the queue as CLOSED,
in queue order (R123), and start afresh when it ends. -/
def State.abandonAnalyses (s : State) : State :=
  let ds := (s.rae.engines.filterMap (fun e => e.2.domain)).insertionSort
    (fun a b => (s.domain a).tClosedT0 * 2 ^ 24 + a ≤ (s.domain b).tClosedT0 * 2 ^ 24 + b)
  let s1 := ds.foldl (fun t d => t.setDomain d { t.domain d with state := .closed }) s
  let es : Tab Engine := s1.rae.engines.map (fun (e : Nat × Engine) =>
    (e.1, if e.2.domain.isSome then s.engineStops e.2 else e.2))
  { s1 with rae := { s1.rae with queue := ds ++ s1.rae.queue, engines := es } }

/-- Dispatch resumes; waiting domains have a fresh t0 after a load (chapter 05 Modes). -/
def State.freshQueue (s : State) : State :=
  s.rae.queue.foldl (fun t d => t.setDomain d { t.domain d with tClosedT0 := t.now }) s

end Sys2Proof.Machine
end

