-- ==== Sys2Proof/Machine/Thm.lean ====
section
/-! DEFINITION. Sys2Proof/Machine/Thm.lean: the commands of temperature and power (R338 to R368). A unit is a core die, 1 to
16, or 32 + zone; temperatures are in 1/16 °C. -/
namespace Sys2Proof.Machine

/-! ### Units, medians and estimates (R338, R339) -/

/-- The unit a sensor stands on (R338). -/
def sensorUnit (n : Nat) : Nat := if n < 64 then n / 4 + 1 else 32 + (n - 64) / 3

/-- The sensors of a unit. -/
def unitSensors (u : Nat) : List Nat :=
  if u < 32 then (List.range 4).map (fun i => 4 * (u - 1) + i) else (List.range 3).map (fun i => 64 + 3 * (u - 32) + i)

/-- Every unit: the core dies, then the zones. -/
def thmUnits : List Nat := (List.range 16).map (· + 1) ++ (List.range 4).map (· + 32)

/-- The die number of alerts and records: 0 for a zone (R364). -/
def unitDie (u : Nat) : Nat := if u < 32 then u else 0

/-- The code of a unit in DIE_MODEL_ONLY (R364). -/
def unitCode (u : Nat) : Nat := if u < 32 then u else 0x100 + (u - 32)

/-- A temperature as the 16-bit value of registers and alerts. -/
def t16 (v : Int) : Nat := (v % 65536).toNat

/-- The median of some readings: the mean of the two middle ones for an even count, rounded down to 1/16 °C
(notes/assumptions/24.md). -/
def medianOf (l : List Int) : Option Int :=
  let v := l.insertionSort (· ≤ ·)
  let h := v.length / 2
  if v.isEmpty then none
  else if v.length % 2 = 1 then some (v.getD h 0)
  else some ((v.getD (h - 1) 0 + v.getD h 0) / 2)

/-- The sensors of a unit that are not excluded. -/
def State.unitUsed (s : State) (u : Nat) : List Nat := (unitSensors u).filter (fun n => !s.thm.excluded.contains n)

/-- The last reading of a sensor. -/
def State.reading (s : State) (n : Nat) : Int := Tab.lookD s.thm.reading n 0

/-- The median of a unit (R339). -/
def State.unitMedian (s : State) (u : Nat) : Option Int := medianOf ((s.unitUsed u).map s.reading)

/-- The model value of a unit. -/
def State.unitModel (s : State) (u : Nat) : Int := Tab.lookD s.thm.model u 0

/-- The estimate of a unit (R339). -/
def State.estimate (s : State) (u : Nat) : Int :=
  match s.unitMedian u with
  | some m => max m (s.unitModel u)
  | none => s.unitModel u

/-- The unit of a list with the greatest value of a measure; of several, the first. -/
def hottest (f : Nat → Int) (l : List Nat) : Nat := l.foldl (fun b u => if f b < f u then u else b) (l.headD 0)

/-- The core die giving H (R350). -/
def State.hotDie (s : State) : Nat := hottest s.estimate ((List.range 16).map (· + 1))

/-- H: the highest core-die estimate. -/
def State.hotEst (s : State) : Int := s.estimate s.hotDie

/-- The hottest zone. -/
def State.hotZone (s : State) : Nat := hottest s.estimate ((List.range 4).map (· + 32))

/-- The estimate of the base die (R339). -/
def State.baseEst (s : State) : Int := s.estimate s.hotZone

/-! ### Thresholds (R345) -/

/-- A limit in °C: core dies, base die. -/
structure Limit where
  core : Int
  base : Int

/-- The limit a unit meets, in 1/16 °C. -/
def Limit.of (l : Limit) (u : Nat) : Int := 16 * (if u < 32 then l.core else l.base)

/-- R345: warning and its clearing value, throttle and its clearing value, shutdown, re-arming. -/
def limWarn : Limit := ⟨108, 110⟩
/-- The clearing value of the warning. -/
def limWarnClear : Limit := ⟨104, 106⟩
/-- The throttle threshold. -/
def limThr : Limit := ⟨112, 115⟩
/-- The clearing value of throttle. -/
def limThrClear : Limit := ⟨108, 111⟩
/-- The shutdown threshold. -/
def limShut : Limit := ⟨118, 125⟩
/-- The re-arming value. -/
def limArm : Limit := ⟨103, 110⟩

/-- Some estimate is at or above a limit. -/
def State.anyAt (s : State) (l : Limit) : Bool := thmUnits.any (fun u => decide (l.of u ≤ s.estimate u))

/-- Every estimate is below a limit. -/
def State.allBelow (s : State) (l : Limit) : Bool := thmUnits.all (fun u => decide (s.estimate u < l.of u))

/-- The units of a kind: the zones of the base die, or the core dies (R345). -/
def kindUnits (base : Bool) : List Nat := if base then (List.range 4).map (· + 32) else (List.range 16).map (· + 1)

/-- Some estimate of a kind is at or above a limit. -/
def State.kindAt (s : State) (base : Bool) (l : Limit) : Bool := (kindUnits base).any (fun u => decide (l.of u ≤ s.estimate u))

/-- Every estimate of a kind is below a limit. -/
def State.kindBelow (s : State) (base : Bool) (l : Limit) : Bool := (kindUnits base).all (fun u => decide (s.estimate u < l.of u))

/-- A condition of a kind after a reading (R345): it sets at its threshold, and clears when every estimate of the kind is below the clearing
value. -/
def State.condition (s : State) (base held : Bool) (set clear : Limit) : Bool :=
  s.kindAt base set || (held && !s.kindBelow base clear)

/-- The unit that stands highest against a limit. -/
def State.worst (s : State) (l : Limit) : Nat := hottest (fun u => s.estimate u - l.of u) thmUnits

/-! ### Shutdown (R354 to R357) -/

/-- What R355 leaves once a running stack has shut down: the stack rails off and the core dies' contents lost, every
domain but PD0 and PD12 off, every lane idle, the state of SEC lost. -/
def State.allOff (s : State) : State :=
  let s1 := s.loseMem (List.range 32)
  { s1 with
    thm := { s1.thm with cool := true }
    pwr := { s1.pwr with dom := (List.range 20).foldl (fun (d : Tab PwrState) n =>
      if n = 0 ∨ n = 12 then d else Tab.put d n .off) s1.pwr.dom }
    lanes := []
    dmc := { s1.dmc with chans := s1.dmc.chans.map (fun e => (e.1, { e.2 with on := false, sr := false })) }
    sec := { dbgEver := s1.sec.dbgEver } }

/-- A shutdown detected by either path (R354): its record, the FATAL fault, and outside COLD the steps of R355. The record
of a trip in COLD is notes/assumptions/25.md. -/
def State.shutdown (s : State) (die path : Nat) (value : Int) : State :=
  if s.thm.hot then s
  else
    let rec_ : ShutRec := ⟨s.now, die, path, s.thm.band, false, true, t16 value, s.avail.loads % 65536⟩
    let s1 : State := ({ s with thm := { s.thm with
      hot := true, trip := true, records := (rec_ :: s.thm.records).take 16, announce := min 16 (s.thm.announce + 1) } }).ledgerWrote
        [.trip, .shutdown]
    let s2 := s1.fatal 0 die (t16 value)
    if s.mode = .cold then s2 else s2.allOff

/-- The non-excluded sensors at or above their shutdown threshold, by readings. -/
def State.hotSensors (s : State) (l : List Int) : List Nat :=
  (List.range 76).filter (fun n => !s.thm.excluded.contains n && decide (limShut.of (sensorUnit n) ≤ l.getD n 0))

/-- A comparator scan (R354): the sensor that stands highest against its threshold is recorded. -/
def State.scan (s : State) (l : List Int) : State :=
  let hot := s.hotSensors l
  if hot.isEmpty then
    if !s.anyAt limShut || s.mode == .cold then { s with thm := { s.thm with hot := false } } else s
  else
    let n := hottest (fun i => l.getD i 0 - limShut.of (sensorUnit i)) hot
    s.shutdown (unitDie (sensorUnit n)) 1 (l.getD n 0)

/-- COMPARATOR_SCAN (R354). -/
def execComparatorScan (sensors : List (BitVec 16)) (s : State) : Result :=
  .next (s.scan (sensors.map (fun w => w.toInt)))

/-! ### Exclusion and the model (R341 to R343) -/

/-- A reading departs by more than 6 °C from a value; not from one that is undefined. -/
def departs (v : Int) (x : Option Int) : Bool :=
  match x with
  | some y => decide (96 < v - y) || decide (96 < y - v)
  | none => false

/-- The values a sensor is held against besides its model value (R342). -/
def State.neighbours (s : State) (n : Nat) : List (Option Int) :=
  let u := sensorUnit n
  if u = 1 then [s.unitMedian 2, some s.baseEst]
  else if u = 16 then [s.unitMedian 15]
  else if u < 32 then [s.unitMedian (u - 1), s.unitMedian (u + 1)]
  else ((unitSensors u).filter (· != n)).map (fun i => some (s.reading i))

/-- A sensor departs from its model value and both neighbours. -/
def State.sensorDeparts (s : State) (n : Nat) : Bool :=
  departs (s.reading n) (Tab.look s.thm.model (sensorUnit n)) &&
    (s.neighbours n).all (fun x => departs (s.reading n) x)

/-- A suspect sensor excluded (R342). -/
def State.exclude (s : State) (n : Nat) : State :=
  let v := t16 (s.reading n)
  let s1 := { s with thm := { s.thm with excluded := s.thm.excluded ++ [n], departs := Tab.del s.thm.departs n } }
  (((s1.event Reg.THM_EVENTS Fld.THM_EVENTS_SUSPECT).alert 0x53 0xFF n v (t16 (s1.unitModel (sensorUnit n))) 0
    ).detect 43 n v).capUpdate

/-- A unit without a sensor in use (R343). -/
def State.modelOnly (s : State) (u : Nat) : State :=
  if s.thm.modelOnly.contains u || !(s.unitUsed u).isEmpty then s
  else
    let s1 := { s with thm := { s.thm with modelOnly := s.thm.modelOnly ++ [u] } }
    ((s1.event Reg.THM_EVENTS Fld.THM_EVENTS_MODEL_ONLY).alert 0x54 0xFF (unitCode u) (t16 (s1.unitModel u)) 0 0).detect
      44 (unitCode u) (t16 (s1.unitModel u))

/-- Exclusion (R342, R343): each sensor's run of departing readings, with the model values of the last update. -/
def State.exclusion (s : State) : State :=
  let used := (List.range 76).filter (fun n => !s.thm.excluded.contains n)
  let run (n : Nat) : Nat := if s.sensorDeparts n then Tab.lookD s.thm.departs n 0 + 1 else 0
  let runs : Tab Nat := (used.filter (fun n => decide (0 < run n))).map (fun n => (n, run n))
  let s1 := { s with thm := { s.thm with departs := runs } }
  let s2 := (used.filter (fun n => decide (10 ≤ run n))).foldl (fun t n => t.exclude n) s1
  thmUnits.foldl (fun t u => t.modelOnly u) s2

/-- The place of a unit in `thmUnits`. -/
def unitPlace (u : Nat) : Nat := if u < 32 then u - 1 else u - 16

/-- The lid temperature that minimises the sum of squared differences between the model values and some medians (R341), to the nearest
1/16 °C: each value is v + r × lid, so that the sum is a parabola of it. None where no value rises with the lid. -/
def fitLid (nodes : List (BitVec 16 × BitVec 16)) (meds : List (Nat × Int)) : Option Int :=
  let at_ (e : Nat × Int) : BitVec 16 × BitVec 16 := nodes.getD (unitPlace e.1) (0, 0)
  let num : Int := (meds.map (fun e => (at_ e).2.toNat * (e.2 - (at_ e).1.toInt))).sum
  let den : Int := (meds.map (fun e => ((at_ e).2.toNat * (at_ e).2.toNat : Int))).sum
  if den = 0 then none else some ((512 * num + den) / (2 * den))

/-- The model updated (R340, R341): the lid fitted, or held with fewer than 8 core-die medians, and the values it gives. A lid that no value
rises with is free. -/
def State.updateModel (s : State) (m : Thermals) : State :=
  let meds := (thmUnits.filterMap (fun u => (s.unitMedian u).map (fun v => (u, v))) : List (Nat × Int))
  let cores := (meds.filter (fun e => decide (e.1 < 32))).length
  let held := decide (cores < 8)
  let lid : Int := if held then s.thm.lid else (fitLid m.nodes meds).getD (Config.freeNat s.fresh % 65536)
  let s1 := { s.draw with thm := { s.thm with
    model := (thmUnits.zip m.nodes).map (fun e => (e.1, e.2.1.toInt + e.2.2.toNat * lid / 256))
    median := meds
    lid := lid
    fitHeld := held } }
  if held && !s.thm.fitHeld then (s1.event Reg.THM_EVENTS Fld.THM_EVENTS_FIT_HELD).detect 42 cores 0 else s1

/-! ### Throttle (R347, R348) -/

/-- The largest RAE pool of a level (R347). -/
def levelPool (l : Nat) : Nat := [64, 48, 32, 24, 16].getD l 16

/-- The throttle level set (R347, R348), with the unit that decided. -/
def State.setLevel (s : State) (new u : Nat) : State :=
  let old := s.thm.level
  if old = new then s
  else
    let s1 : State := { s with
      thm := { s.thm with
        level := new
        thrSince := if new = 0 then none else if old = 0 then some s.now else s.thm.thrSince
        thrMs := match s.thm.thrSince with
          | some t => if new = 0 then s.thm.thrMs + (s.now - t) else s.thm.thrMs
          | none => s.thm.thrMs }
      rae := { s.rae with limit := levelPool new } }
    (((s1.event Reg.THM_EVENTS Fld.THM_EVENTS_THROTTLE).alert 0x52 0xFF old new (unitDie u) (t16 (s1.estimate u))
      ).capacityChange).capUpdate

/-- Throttle at a reading (R348): the condition sets level 1, and the timers run while their condition holds. -/
def State.throttle (s : State) : State :=
  let hot := s.anyAt limThr
  let cool := s.allBelow limThrClear
  let s1 := if hot && s.thm.level == 0 then s.setLevel 1 (s.worst limThr) else s
  { s1 with thm := { s1.thm with
    thrCore := s.condition false s.thm.thrCore limThr limThrClear
    thrBase := s.condition true s.thm.thrBase limThr limThrClear
    rising := hot
    falling := cool && s1.thm.level != 0
    tStep := if (hot && !s.thm.rising) || (cool && !s.thm.falling) then s.now else s.thm.tStep } }

/-- A step of a throttle timer (R348), 2 ms or 20 ms after its start, decided by the reading of its cycle; the timer starts again. -/
def State.throttleStep (s : State) : State :=
  if s.thm.rising && s.anyAt limThr && decide (s.thm.tStep + 625000 ≤ s.now) then
    let s1 := if s.thm.level < s.thm.maxlvl then s.setLevel (s.thm.level + 1) (s.worst limThr) else s
    { s1 with thm := { s1.thm with tStep := s.now } }
  else if s.thm.falling && s.allBelow limThrClear && decide (s.thm.tStep + 6250000 ≤ s.now) then
    let s1 := s.setLevel (s.thm.level - 1) (s.worst limThrClear)
    { s1 with thm := { s1.thm with falling := s1.thm.level != 0, tStep := s.now } }
  else s

/-- THROTTLE_STEP (R348). -/
def execThrottleStep (s : State) : Result :=
  if s.mode = .cold ∨ s.thm.cool then .next s else .next s.throttleStep

/-! ### Warning, band, target point, interval (R344, R346, R350 to R352) -/

/-- The warning of a kind moves (R345, R346): THERM_WARN when it sets, with its fault, and when it clears. -/
def State.warnMoves (s : State) (base old new : Bool) : State :=
  let u := hottest s.estimate (kindUnits base)
  let s1 := (s.event Reg.THM_EVENTS Fld.THM_EVENTS_WARN).alert 0x51 0xFF (unitDie u) (t16 (s.estimate u)) (b2n new) 0
  if old = new then s else if new then s1.detect 67 (unitDie u) (t16 (s.estimate u)) else s1

/-- The warning (R345, R346): a condition of the core dies and one of the base die. -/
def State.warning (s : State) : State :=
  let core := s.condition false s.thm.warnCore limWarn limWarnClear
  let base := s.condition true s.thm.warnBase limWarn limWarnClear
  (({ s with thm := { s.thm with warnCore := core, warnBase := base } }).warnMoves false s.thm.warnCore core).warnMoves true
    s.thm.warnBase base

/-- The lower bound of a band (R351). -/
def bandFrom (b : Nat) : Int := 16 * [0, 0, 45, 85, 95, 105].getD b 0

/-- The band that H gives from the band held (R350). -/
def nextBand (b : Nat) (h : Int) : Nat :=
  let top := ([1, 2, 3, 4, 5].filter (fun i => decide (bandFrom i ≤ h))).foldl max 0
  if b < top then top
  else if 0 < b && decide (h < bandFrom b - 32) then b - 1
  else b

/-- The target point: the fastest that a band and POINTS permit (R352). -/
def State.targetPoint (s : State) : Nat :=
  (([0, 1, 2, 3].filter (fun p => decide (bandPoint s.thm.band ≤ p) && bitOf s.thm.points p)).head?).getD 3

/-- What follows from the target point (R271, R352): a slower point at once, in HOLD without a transit; a faster one after
1 s. -/
def State.followTarget (s : State) : State :=
  let p := s.targetPoint
  let cur := (s.dmc.move.map Transit.point).getD s.dmc.point
  if s.mode = .safe then s
  else if s.mode = .hold then
    let s1 := { s with thm := { s.thm with permit := none } }
    if cur < p then s1.holdPoint p else s1
  else if p = cur then
    { s with thm := { s.thm with permit := none }, dmc := { s.dmc with due := none } }
  else if cur < p then
    { s with thm := { s.thm with permit := none }, dmc := { s.dmc with due := some p } }
  else
    match s.thm.permit with
    | some q => if q < p then { s with thm := { s.thm with permit := some p } } else s
    | none => { s with thm := { s.thm with permit := some p, tPermit := s.now } }

/-- The band at a reading (R261, R263, R350, R351): a change is recorded, takes the new refresh multiplier and timings on
every channel, makes a sense of the fuses due, and is a capacity change when the multiplier changes. -/
def State.bandStep (s : State) : State :=
  let old := s.thm.band
  let new := nextBand old s.hotEst
  if old = new then s
  else
    let s1 := { s with thm := { s.thm with band := new }, fse := { s.fse with senseDue := true } }
    let s2 := (((s1.event Reg.THM_EVENTS Fld.THM_EVENTS_BAND).satInc Reg.THM_BAND_CNT).wr64 Reg.THM_T_BAND s.now).alert
      0x50 0xFF old new (t16 s.hotEst) s.hotDie
    let m := if refMul old = refMul new then s2 else s2.liveChans.foldl (fun t c => t.multiplierStep old new c) s2
    let s3 := m.liveChans.foldl (fun t c => t.retime c t.clockPoint new) m
    if refMul old = refMul new then s3 else s3.capacityChange

/-- The interval that the estimates ask for (R344): 2 20 µs, 1 100 µs, 0 1 ms. -/
def State.wantInterval (s : State) : Nat :=
  let near (d : Int) : Bool := thmUnits.any (fun u => [limWarn, limWarnClear, limThr, limThrClear, limShut].any (fun l =>
    decide (s.estimate u - l.of u ≤ 16 * d) && decide (l.of u - s.estimate u ≤ 16 * d)))
  if near 3 then 2 else if near 10 then 1 else 0

/-- The interval after a reading (R344). -/
def State.intervalStep (s : State) : State :=
  let want := s.wantInterval
  if s.thm.interval < want then { s with thm := { s.thm with interval := want, longRun := 0 } }
  else if want < s.thm.interval then
    if 9 ≤ s.thm.longRun then { s with thm := { s.thm with interval := want, longRun := 0 } }
    else { s with thm := { s.thm with longRun := s.thm.longRun + 1 } }
  else { s with thm := { s.thm with longRun := 0 } }

/-! ### The measurement (R358) -/

/-- Readings, rail currents and powers taken in (R360, R365, R367). -/
def State.takeReadings (s : State) (m : Thermals) : State :=
  { s with thm := { s.thm with
    reading := ((List.range 76).zip m.sensors).map (fun e => (e.1, e.2.toInt)) } }

/-- The activates, column commands and refreshes of a core die since the last update (R340): die d carries channels 2d − 2 and
2d − 1. -/
def State.dieWork (s : State) (d : Nat) : Nat := (s.chan (2 * d - 2)).work + (s.chan (2 * d - 1)).work

/-- The share of a rail's power, in µW, that one of its dies takes (R340): 30 % divided equally, the rest by activity. Without any
activity the manual divides nothing, and the share is free. -/
def State.railShare (s : State) (r : Nat) (dies : List Nat) (d : Nat) : Nat :=
  let p := s.rdN (Reg.PWR_R_I r) * s.rdN (Reg.PWR_R_V r)
  let all := (dies.map s.dieWork).sum
  3 * p / (10 * dies.length) +
    (if all = 0 then Config.freeNat (s.fresh + d) % (p + 1) else 7 * p * s.dieWork d / (10 * all))

/-- The input power of a core die in mW: its share of its core rail and of its pump rail (R340). -/
def State.diePower (s : State) (d : Nat) : Nat :=
  let g := (d - 1) / 4
  let h := (d - 1) / 8
  (s.railShare g ((List.range 4).map (fun i => 4 * g + i + 1)) d +
    s.railShare (4 + h) ((List.range 8).map (fun i => 8 * h + i + 1)) d) / 1000

/-- The rails' means, their peaks and the powers (R340, R360, R365, R367). -/
def State.takeRails (s : State) (m : Thermals) : State :=
  let s1 := ((List.range 6).zip m.rails).foldl (fun (t : State) (e : Nat × BitVec 16 × BitVec 16 × BitVec 16) =>
    ((t.wrN (Reg.PWR_R_I e.1) e.2.1.toNat).wrN (Reg.PWR_R_V e.1) e.2.2.1.toNat).wrN (Reg.PWR_R_IPEAK e.1)
      (max (t.rdN (Reg.PWR_R_IPEAK e.1)) (max e.2.1.toNat e.2.2.2.toNat))) s
  let s2 := ((List.range 16).map (· + 1)).foldl (fun (t : State) d => t.wrN (Reg.THM_D_POWER d) (s1.diePower d)) s1
  let s3 := (List.range 32).foldl (fun (t : State) c => t.setChan c { t.chan c with work := 0 }) s2.draw
  ((s3.wr (Reg.THM_D_POWER 0) m.base).wr Reg.PWR_EST_BASE m.base).wrN Reg.PWR_EST_STACK
    ((m.rails.map (fun e => e.1.toNat * e.2.1.toNat / 1000)).sum)

/-- The order of one measurement (R358); shutdown ends it. -/
def State.measure (s : State) (m : Thermals) : State :=
  let s1 := (((s.takeReadings m).takeRails m).exclusion).updateModel m
  if s1.anyAt limShut then
    let u := s1.worst limShut
    s1.shutdown (unitDie u) 0 (s1.estimate u)
  else
    let s2 := if (s1.hotSensors ((List.range 76).map s1.reading)).isEmpty then
      { s1 with thm := { s1.thm with hot := false } } else s1
    ((((s2.throttle).warning).bandStep).followTarget).intervalStep

/-- THERMAL_MEASUREMENT (R358): in COLD and after a shutdown neither the MGC nor the model runs, and only the sensors are
read (R338, R357). -/
def execThermalMeasurement (m : Thermals) (s : State) : Result :=
  if s.mode = .cold ∨ s.thm.cool then .next (s.takeReadings m) else .next (s.measure m)

/-- FASTER_POINT_TIMER (R352): the point permitted for 1 s becomes due as a transit. -/
def execFasterPointTimer (s : State) : Result :=
  match s.thm.permit with
  | none => .next s
  | some p =>
    let q := s.targetPoint
    if s.now < s.thm.tPermit + 312500000 then .next s
    else .next { s with
      dmc := { s.dmc with due := some p }
      thm := { s.thm with permit := if q < p then some q else none, tPermit := s.now } }

/-! ### Rails (R361, R363, R367, R368) -/

/-- A rail turned off for its fault (R383): its dies lose their contents. -/
def State.railFailed (s : State) (r : Nat) : State :=
  let s1 := s.loseMem (railChans r)
  { s1 with pwr := { s1.pwr with dom := Tab.put s1.pwr.dom (14 + r) .off } }

/-- A FATAL rail fault (R361, R376, R383): in COLD it is detected alone. -/
def State.railFault (s : State) (src r v : Nat) : State :=
  if s.mode = .cold then s.fatal src r v else (s.fatal src r v).railFailed r

/-- The nominal voltage of a rail in mV (R359). -/
def railMv (r : Nat) : Nat := if r < 4 then 1100 else 1800

/-- The rated current of a rail in mA (R359). -/
def railRated (r : Nat) : Nat := if r < 4 then 11000 else 2500

/-- The trip current of a rail in mA (R359). -/
def railTrip (r : Nat) : Nat := if r < 4 then 14000 else 3500

/-- RAIL_OC (R361): a current above the trip value for 1 µs. -/
def execRailOc (r : Fin 6) (mA : BitVec 16) (s : State) : Result :=
  if railTrip r < mA.toNat then .next (s.railFault 1 r mA.toNat) else .next s

/-- RAIL_UV (R361): a voltage below 95 % of nominal for 1 µs. -/
def execRailUv (r : Fin 6) (mV : BitVec 16) (s : State) : Result :=
  if 100 * mV.toNat < 95 * railMv r then .next (s.railFault 2 r mV.toNat) else .next s

/-- RAIL_PEAK (R361): a current above 90 % of rated for 1 ms. -/
def execRailPeak (r : Fin 6) (mA : BitVec 16) (s : State) : Result :=
  if 90 * railRated r < 100 * mA.toNat then
    .next ((s.event Reg.PWR_EVENTS Fld.PWR_EVENTS_PEAK).event (Reg.PWR_R_STAT r) Fld.PWR_R_STAT_WARN90)
  else .next s

/-- Every current peak and WARN90 cleared (R368). -/
def State.clearPeaks (s : State) : State :=
  (List.range 6).foldl (fun t r => (t.wrN (Reg.PWR_R_IPEAK r) 0).setFld (Reg.PWR_R_STAT r) Fld.PWR_R_STAT_WARN90 0) s

/-- CLEAR_PEAK (R368). -/
def execClearPeak (r : Req) (s : State) : Result :=
  .next (s.hostWrite r Reg.PWR_CMD (firstStatus (s.ownerChecks r)) State.clearPeaks)

end Sys2Proof.Machine
end

