-- ==== Sys2Proof/Machine/Upd.lean ====
section
/-! DEFINITION. Sys2Proof/Machine/Upd.lean: boot and update (R452 to R484): the configuration flash, the checks of a firmware
set, the set pointer word, settings generations, and the commands of the UPD block. What a load does with them stands in
Glb.lean. -/
namespace Sys2Proof.Machine

/-! ### The configuration flash (R452, R453), in pages of 16 KiB -/

/-- An erased page. -/
def erasedPage : List Byte := List.replicate 16384 0xFF#8

/-- A page of the flash. -/
def State.page (s : State) (p : Nat) : List Byte := Tab.lookD s.upd.flash p erasedPage

/-- The bytes of `n` pages from page `p` on. -/
def State.pages (s : State) (p n : Nat) : List Byte := (List.range n).flatMap (fun i => s.page (p + i))

/-- A page written; an erased page is not listed. -/
def State.setPage (s : State) (p : Nat) (l : List Byte) : State :=
  { s with upd := { s.upd with
    flash := if l = erasedPage then Tab.del s.upd.flash p else Tab.put s.upd.flash p l } }

/-- Pages erased. -/
def State.erase (s : State) (p n : Nat) : State := (List.range n).foldl (fun t i => t.setPage (p + i) erasedPage) s

/-- Bytes written to erased pages from page `p` on. -/
def State.program (s : State) (p : Nat) (l : List Byte) : State :=
  (List.range (ceilDiv l.length 16384)).foldl (fun t i =>
    let b := (l.drop (16384 * i)).take 16384
    t.setPage (p + i) (b ++ List.replicate (16384 - b.length) 0xFF#8)) s

/-- The first page of a firmware slot's image region. -/
def imgBase (slot : Nat) : Nat := 768 * slot

/-- The first page of a firmware slot's delta region. -/
def deltaBase (slot : Nat) : Nat := 256 + 768 * slot

/-- The content of a configuration slot. -/
def State.cfgSlot (s : State) (i : Nat) : List Byte := s.pages (cfgBase i) 64

/-- The content of an image region. -/
def State.imgSlot (s : State) (i : Nat) : List Byte := s.pages (imgBase i) 256

/-! ### Firmware sets (R454 to R457, R461) -/

/-- A component as its descriptor gives it (R455). -/
structure Comp where
  type : Nat
  svn : Nat
  version : Nat
  off : Nat
  len : Nat
  hash : List Byte
deriving DecidableEq, Repr

/-- The component descriptor `i` of a manifest. -/
def compAt (img : List Byte) (i : Nat) : Comp :=
  let b := 160 + 96 * i
  ⟨leAt img b 1, leAt img (b + 2) 2, leAt img (b + 4) 4, leAt img (b + 8) 4, leAt img (b + 12) 4, slice img (b + 32) 64⟩

/-- The bytes of a component. -/
def compBytes (img : List Byte) (i : Nat) : List Byte := (img.drop (compAt img i).off).take (compAt img i).len

/-- The longest component of a type. -/
def compLimit (type : Nat) : Nat := [0, 1048576, 262144, 262144, 524288, 240].getD type 0

/-- The manifest names a PATCH component. -/
def hasPatch (img : List Byte) : Bool := leAt img 22 2 == 5

/-- image_len. -/
def setLength (img : List Byte) : Nat := leAt img 16 4

/-- A descriptor is in range. -/
def compOk (img : List Byte) (i : Nat) : Bool :=
  let c := compAt img i
  c.type == i + 1 && decide (c.svn ≤ if i = 4 then 3 else 976) && c.off % 4096 == 0 && decide (4096 ≤ c.off) &&
    decide (c.len ≤ compLimit c.type) && decide (c.off + c.len ≤ setLength img)

/-- No two components overlap. -/
def compsApart (img : List Byte) (n : Nat) : Bool :=
  (List.range n).all (fun j => (List.range j).all (fun i =>
    decide ((compAt img i).off + (compAt img i).len ≤ (compAt img j).off) ||
      decide ((compAt img j).off + (compAt img j).len ≤ (compAt img i).off)))

/-- Check 1 of R461. -/
def manifestOk (img : List Byte) : Bool :=
  let n := leAt img 22 2
  slice img 0 4 == [0x4D, 0x5A, 0x46, 0x57] && leAt img 4 2 == 1 && within (setLength img) 4096 2101488 &&
    (n == 4 || n == 5) && bitOf (leAt img 10 2) 1 == (n == 5) && (List.range n).all (compOk img) &&
    (n == 5 || zeros img 544 96) && compsApart img n

/-- The manifest hash of a set: the SHA-512 of its 4,096 manifest bytes. -/
def manifestHash (img : List Byte) : BitVec 512 := sha512 (img.take 4096)

/-- The patch generation a set carries. -/
def setPatch (img : List Byte) : Option Nat := if hasPatch img then some (compAt img 4).svn else none

/-- The rollback floor in effect of a component type (R457). -/
def State.floorNow (s : State) (t : Nat) : Nat := max (s.upd.floors.getD t 0) (s.therm t)

/-- The entry of the compatibility list that a set needs (R456): stepping A0. -/
def compatEntry (img : List Byte) : BitVec 512 :=
  sha512 ((List.range 4).flatMap (fun i => bytes64 (sha512 (compBytes img i))) ++ [0#8])

/-- The checks of R461 in order, against the patch generation the ROM runs with: the number of the check that fails and its
status, 0 and OK when none does. -/
def State.setCheck (s : State) (img : List Byte) (patch : Option Nat) : Nat × Status :=
  let n := leAt img 22 2
  if !manifestOk img then (1, .eIntegrity)
  else if sha512 (slice img 640 133) ≠ Config.vendorKeyHash ∨
      !ecdsaVerify (slice img 640 133) (img.take 640) (slice img 776 132) then (2, .eAuth)
  else if leAt img 6 2 ≠ 0x1648 ∨ !bitOf (leAt img 8 2) 0 ∨
      (bitOf (leAt img 10 2) 0 ∧ slice img 24 64 ≠ bytes64 s.sec.uid) then (3, .eVersion)
  else if (List.range 4).any (fun i => decide ((compAt img i).svn < s.floorNow i)) then (4, .eVersion)
  else if bytes64 (sha512 ((img.take (setLength img)).drop 4096)) ≠ slice img 88 64 ∨
      !(List.range n).all (fun i => bytes64 (sha512 (compBytes img i)) == (compAt img i).hash) then (5, .eIntegrity)
  else if !(Config.compatList (compBytes img 0)).contains (compatEntry img) then (6, .eVersion)
  else if (match patch with
      | some g => g + 1
      | none => 0) < leAt img 20 2 then (7, .eVersion)
  else (0, .ok)

/-! ### The set pointer word (R458, R459) -/

/-- The CRC of a set pointer word: over its bits [63:16] as six bytes from the most significant down. -/
def spwCrc (w : Nat) : Nat := crc16 ((List.range 6).map (fun i => BitVec.ofNat 8 (w / 2 ^ (56 - 8 * i))))

/-- A set pointer word with its CRC. -/
def spwWord (jseq act conf : Nat) (trial rbk : Bool) (tboots : Nat) : DWord :=
  let w := jseq % 2 ^ 24 * 2 ^ 40 + act * 2 ^ 39 + conf * 2 ^ 38 + b2n trial * 2 ^ 37 + b2n rbk * 2 ^ 36 + tboots * 2 ^ 34
  BitVec.ofNat 64 (w + spwCrc w)

/-- The CRC of a set pointer word passes. -/
def spwValid (w : DWord) : Bool := spwCrc w.toNat == bitsOf w.toNat 15 0

/-- JSEQ of a set pointer word. -/
def spwJseq (w : DWord) : Nat := bitsOf w.toNat 63 40

/-- The word a cold load uses (R459): the copy whose CRC passes and whose JSEQ is later; slot 0 when neither passes. -/
def spwPick (a b : DWord) : DWord :=
  match spwValid a, spwValid b with
  | true, true => if 0 < (spwJseq b + 2 ^ 24 - spwJseq a) % 2 ^ 24 ∧ (spwJseq b + 2 ^ 24 - spwJseq a) % 2 ^ 24 < 2 ^ 23 then b else a
  | true, false => a
  | false, true => b
  | false, false => 0

/-- ACT. -/
def State.actSlot (s : State) : Nat := b2n (bitOf s.upd.spw.toNat 39)

/-- CONF. -/
def State.confSlot (s : State) : Nat := b2n (bitOf s.upd.spw.toNat 38)

/-- RBK. -/
def State.rbk (s : State) : Bool := bitOf s.upd.spw.toNat 36

/-- TBOOTS. -/
def State.tboots (s : State) : Nat := bitsOf s.upd.spw.toNat 35 34

/-- JSEQ. -/
def State.jseq (s : State) : Nat := spwJseq s.upd.spw

/-- The pair written: copy A, then copy B, with the next JSEQ. -/
def State.writeSpw (s : State) (act conf : Nat) (trial rbk : Bool) (tboots : Nat) : State :=
  let w := spwWord (s.jseq + 1) act conf trial rbk tboots
  ({ s with upd := { s.upd with spwA := w, spwB := w, spw := w } }).ledgerWrote [.pointer false, .pointer true]

/-! ### Settings generations (R464 to R466) -/

/-- The first page of a settings slot (R452). -/
def setBase (i : Nat) : Nat := 2048 + 16 * i

/-- The content of a settings slot. -/
def State.setSlot (s : State) (i : Nat) : List Byte := s.pages (setBase i) 16

/-- The generation number in a settings slot; 0 where it holds none. -/
def settingsGen (b : List Byte) : Nat := if slice b 0 4 = [0x4D, 0x5A, 0x53, 0x54] then leAt b 8 4 else 0

/-- The body of a settings generation. -/
def settingsBody (b : List Byte) : List Byte := (b.drop 128).take (leAt b 12 4)

/-- A settings generation passes its CRC. -/
def settingsIntact (b : List Byte) : Bool := decide (leAt b 12 4 ≤ 262016) && crc32 (settingsBody b) == leAt b 80 4

/-- A settings generation's bytes: the header of R464, then the body. -/
def settingsBytes (gen format : Nat) (writer : BitVec 512) (body : List Byte) : List Byte :=
  [0x4D, 0x5A, 0x53, 0x54] ++ leBytes 2 format ++ leBytes 2 0 ++ leBytes 4 gen ++ leBytes 4 body.length ++ bytes64 writer ++
    leBytes 4 (crc32 body) ++ List.replicate 44 0 ++ body

/-- The slot of the next settings generation: the lowest that holds neither CUR nor KEPT. -/
def State.settingsSlot (s : State) : Nat :=
  ((List.range 4).find? (fun i =>
    let g := settingsGen (s.setSlot i)
    g == 0 || (g != s.upd.cur && g != s.upd.kept))).getD 0

/-- The traverse pointers as the body of a settings generation opens with them: 4 bytes a channel. -/
def State.traverseBytes (s : State) : List Byte := (List.range 32).flatMap (fun c => leBytes 4 (s.chan c).trvPtr)

/-- The settings of now as a generation numbered one above CUR. -/
def State.settingsNow (s : State) : List Byte :=
  settingsBytes (s.upd.cur + 1) (Config.settingsFormat s.upd.hash) s.upd.hash
    (s.traverseBytes ++ (Config.settingsRest s.fresh).take 261888)

/-- Settings saved (R465): the slot is erased, the new generation written and read back, and then CUR names it. What a slot holds whose
write did not read back is free. -/
def State.saveSettings (s : State) (ok : Bool) : State :=
  let p := setBase s.settingsSlot
  let found := (Config.freeList s.fresh).map (BitVec.ofNat 8)
  let t := ((s.draw).erase p 16).program p (if ok then s.settingsNow else found.take 262144)
  { t with upd := { t.upd with
    cur := if ok then s.upd.cur + 1 else s.upd.cur
    inEffect := if ok then s.upd.cur + 1 else s.upd.inEffect
    curOld := if ok then s.upd.cur else s.upd.curOld } }.ledgerWrote (if ok then [.current] else [])

/-- The settings generation of a number whose CRC passes. -/
def State.settingsOf (s : State) (gen : Nat) : Option (List Byte) :=
  (((List.range 4).map s.setSlot).filter (fun b => gen != 0 && settingsGen b == gen && settingsIntact b)).head?

/-- The running set reads a generation's format: its own, or one that the firmware says it reads. -/
def State.readsSettings (s : State) (b : List Byte) : Bool :=
  slice b 16 64 == bytes64 s.upd.hash || Config.readsFormat s.upd.hash (leAt b 4 2)

/-- The traverse pointers that settings give. -/
def State.setTraverse (s : State) (body : List Byte) : State :=
  (List.range 32).foldl (fun t c => t.setChan c { t.chan c with trvPtr := leAt body (4 * c) 4 }) s

/-- SETTINGS_RESET (R466): defaults, and the alert; the new generation follows by SETTINGS_SAVE. -/
def State.resetSettings (s : State) (format : Nat) : State :=
  ({ s.setTraverse [] with upd := { s.upd with setReset := true, inEffect := 0 } }).alert 0x70 0xFF (s.upd.cur + 1) s.upd.cur format 0

/-- The settings a load reads: generation CUR, or the one CUR held before it, or defaults (R465, R466). The flag of a reset stays until
a load reads CUR. -/
def State.loadSettings (s : State) : State :=
  let g : Option (List Byte × Bool) := match s.settingsOf s.upd.cur with
    | some g => some (g, false)
    | none => (s.settingsOf s.upd.curOld).map (fun g => (g, s.upd.setReset))
  match g with
  | none => s.resetSettings 0
  | some (g, flag) =>
    if s.readsSettings g then { s.setTraverse (settingsBody g) with upd := { s.upd with setReset := flag, inEffect := settingsGen g } }
    else s.resetSettings (leAt g 4 2)

/-- The settings generations above a number discarded (R477). -/
def State.dropSettings (s : State) (kept : Nat) : State :=
  (List.range 4).foldl (fun t i => if kept < settingsGen (s.setSlot i) then t.erase (setBase i) 16 else t) s

/-- SETTINGS_SAVE (R465, R466): every 15 minutes of SERVICE; after a reset of settings also on entry into MAINTAIN. -/
def execSettingsSave (ok : Bool) (s : State) : Result :=
  if s.mode = .service ∨ (s.mode = .maintain ∧ s.upd.setReset) then .next (s.saveSettings ok) else .next s

/-! ### Staging (R467 to R470) -/

/-- The chunk window UPD_WIN: 16 KiB (R482). -/
def State.window (s : State) : List Byte := (List.range 4096).flatMap (fun i => leBytes 4 (s.rdN (Reg.UPD_WIN i)))

/-- Chunk 0 opens right (step 1 of R470). -/
def chunk0Ok (w : List Byte) : Bool :=
  slice w 0 4 == [0x4D, 0x5A, 0x44, 0x50] && leAt w 4 2 == 1 && within (leAt w 10 2) 2 512 &&
    decide (leAt w 12 4 ≤ (leAt w 10 2 - 1) * 16384) && bytes64 (sha512 (w.take 192 ++ w.drop 256)) == slice w 192 64

/-- The type of a package: 1 FIRMWARE, 2 CONFIG. -/
def pkgType (w : List Byte) : Nat := leAt w 6 1

/-- The base of a package is zero. -/
def baseZero (w : List Byte) : Bool := zeros w 16 64

/-- The base of a FIRMWARE package is neither zero nor the manifest hash of slot ACT (step 3 of R470); the recovery loader
takes a zero base alone (R463). -/
def State.badBase (s : State) (w : List Byte) : Bool :=
  pkgType w == 1 && !baseZero w && (s.upd.recovery || slice w 16 64 != bytes64 s.upd.hash)

/-- A command of UPD is running. -/
def State.updBusy (s : State) : Bool := s.upd.stage == .verifying || s.activating

/-- The checks that every UPD command shares (R484): the Owner, in SERVICE or MAINTAIN. -/
def State.updChecks (s : State) (r : Req) : List (Bool × Status) :=
  s.ownerChecks r ++ [(s.mode != .service && s.mode != .maintain, .eState)]

/-- The page of chunk 0: the delta region of the slot that is not ACT, for both types. -/
def State.chunk0Page (s : State) : Nat := deltaBase (1 - s.actSlot)

/-- The chunk 0 in the window is the one already held. -/
def State.sameChunk0 (s : State) (w : List Byte) : Bool :=
  s.upd.stage == .receiving && s.page s.chunk0Page == w && leAt w 192 8 == s.upd.digest

/-- The status of BEGIN (R470, R484); the flash fails a program or an erase when `flashOk` is false (R529). -/
def beginStatus (r : Req) (flashOk : Bool) (s : State) : Status :=
  let w := s.window
  firstStatus (s.updChecks r ++
    [(s.updBusy || (pkgType w == 1 && s.onTrial), .eState),
     (!chunk0Ok w, .eIntegrity),
     (leAt w 8 2 != 0x1648 || (pkgType w != 1 && pkgType w != 2), .eVersion),
     (s.badBase w, .eVersion),
     (pkgType w == 2 && decide (leAt w 80 4 ≤ s.cfg.gen), .eVersion),
     (pkgType w == 2 && decide (1048576 < leAt w 12 4), .eResource),
     (!flashOk && !s.sameChunk0 w, .eIntegrity)])

/-- A configuration slot holds a valid image: one that passes R42. -/
def State.slotValid (s : State) (i : Nat) : Bool :=
  isImage (s.cfgSlot i) && (s.judgeImage false (s.cfgSlot i)).status == .ok

/-- The generation of a configuration slot's image. -/
def State.slotGen (s : State) (i : Nat) : Nat := leAt (s.cfgSlot i) 8 4

/-- A slot holds the generation in effect. -/
def State.slotInEffect (s : State) (i : Nat) : Bool :=
  !s.cfg.empty && isImage (s.cfgSlot i) && s.slotGen i == s.cfg.gen

/-- The configuration slot of a new generation (R470): without a valid image, or with the lowest generation other than the
one in effect. -/
def State.cfgTarget (s : State) : Nat :=
  let others := (List.range 8).filter (fun i => !s.slotInEffect i)
  match others.find? (fun i => !s.slotValid i) with
  | some i => i
  | none => others.foldl (fun b i => if s.slotGen i < s.slotGen b then i else b) (others.headD 0)

/-- A command of UPD has completed. -/
def State.updDone (s : State) (st : Status) : State :=
  ({ s with upd := { s.upd with last := st } }).event Reg.UPD_EVENTS Fld.UPD_EVENTS_DONE

/-- Staging of a new package begins; the 16 KiB staged are traffic of SC0 (R153). -/
def State.stageNew (s : State) (w : List Byte) : State :=
  let t : Nat := if pkgType w = 1 then 1 - s.actSlot else s.cfgTarget
  let s1 := ((s.served 0 16384 false).erase s.chunk0Page 4).setPage s.chunk0Page w
  { s1 with upd := { s1.upd with
    stage := .receiving, type := pkgType w, digest := leAt w 192 8, next := 1, total := leAt w 10 2, target := t } }.ledgerWrote
      [.staging]

/-- BEGIN (R470). -/
def execUpdBegin (r : Req) (flashOk : Bool) (s : State) : Result :=
  .next (s.hostWrite r Reg.UPD_CMD (beginStatus r flashOk s) (fun t =>
    (if t.sameChunk0 t.window then t else (t.stageNew t.window).capUpdate).updDone .ok))

/-- The chunk index that CHUNK names. -/
def State.chunkArg (s : State) : Nat := s.fld Reg.UPD_ARG Fld.UPD_ARG_INDEX

/-- The digest of the chunk in the window is the table's (R467). -/
def State.chunkRight (s : State) : Bool :=
  slice (s.page s.chunk0Page) (4352 + 16 * s.upd.next) 16 == (bytes64 (sha512 s.window)).take 16

/-- The status of CHUNK (R469, R484). -/
def chunkStatus (r : Req) (flashOk : Bool) (s : State) : Status :=
  firstStatus (s.updChecks r ++
    [(s.upd.stage != .receiving, .eState), (s.chunkArg != s.upd.next, .eRange), (!s.chunkRight || !flashOk, .eIntegrity)])

/-- The place of the next chunk, counted in pages from the start of its target. -/
def State.chunkPlace (s : State) : Nat := if s.upd.type = 1 then s.upd.next else s.upd.next - 1

/-- The first page of the target. -/
def State.targetBase (s : State) : Nat := if s.upd.type = 1 then deltaBase s.upd.target else cfgBase s.upd.target

/-- The chunk in the window stored and read back (R469, R470): each 64 KiB block is erased before its first chunk. It is
traffic of SC0 (R153). -/
def State.storeChunk (s : State) : State :=
  let p := s.targetBase + s.chunkPlace
  let s1 := if s.chunkPlace % 4 = 0 then s.erase p 4 else s
  let s2 := (s1.setPage p s.window).served 0 16384 false
  { s2 with upd := { s2.upd with
    next := s.upd.next + 1, stage := if s.upd.next + 1 = s.upd.total then .staged else .receiving } }.ledgerWrote [.staging]

/-- CHUNK (R469). -/
def execUpdChunk (r : Req) (flashOk : Bool) (s : State) : Result :=
  .next (s.hostWrite r Reg.UPD_CMD (chunkStatus r flashOk s) (fun t => t.storeChunk.capUpdate.updDone .ok))

/-- VERIFY (R469, R471): verification begins; it ends with VERIFY_DONE. -/
def execUpdVerify (r : Req) (s : State) : Result :=
  .next (s.hostWrite r Reg.UPD_CMD (firstStatus (s.updChecks r ++ [(s.upd.stage != .staged, .eState)]))
    (fun t => ({ t with upd := { t.upd with stage := .verifying } }).ledgerWrote [.staging]))

/-! ### Verification (R468, R471) -/

/-- The records of a delta stream run (R468): the image built so far, and whether END was reached. -/
def runDelta (base : List Byte) (full : Bool) : Nat → List Byte → List Byte → List Byte × Bool
  | 0, _, out => (out, false)
  | fuel + 1, l, out =>
    let w := leAt l 0 8
    let len := bitsOf w 59 32
    let arg := bitsOf w 31 0
    let rest := l.drop 8
    if l.length < 8 then (out, false)
    else if bitsOf w 63 60 = 3 then (out, true)
    else if 2101488 < out.length + len then (out, false)
    else if bitsOf w 63 60 = 1 then
      if full ∨ base.length < arg + len then (out, false)
      else runDelta base full fuel rest (out ++ (base.drop arg).take len)
    else if bitsOf w 63 60 = 2 then
      let pad := ceilDiv len 8 * 8
      if rest.length < pad then (out, false) else runDelta base full fuel (rest.drop pad) (out ++ rest.take len)
    else (out, false)

/-- The payload of the staged package. -/
def State.payload (s : State) : List Byte :=
  let c := s.page s.chunk0Page
  (s.pages (s.targetBase + (if s.upd.type = 1 then 1 else 0)) (s.upd.total - 1)).take (leAt c 12 4)

/-- Bytes written to an erased image region. -/
def State.writeImage (s : State) (slot : Nat) (l : List Byte) : State :=
  (s.erase (imgBase slot) 256).program (imgBase slot) l

/-- Verification of a FIRMWARE package: the image is rebuilt in the target slot and checked (R471). -/
def State.verifyFirmware (s : State) : State × Status :=
  let c := s.page s.chunk0Page
  let manifest := slice c 256 4096
  let b := s.imgSlot s.actSlot
  let pl := s.payload
  let r := runDelta (b.take (setLength b)) (baseZero c) (pl.length + 1) pl []
  let s1 := s.writeImage s.upd.target r.1
  if !r.2 ∨ r.1.length ≠ setLength manifest ∨ r.1.take 4096 ≠ manifest then (s1, .eIntegrity)
  else
    let patch := match setPatch r.1 with
      | some g => some g
      | none => s.upd.patchGen
    (s1, (s1.setCheck r.1 patch).2)

/-- The first 4 KiB of a configuration slot erased (R469). -/
def State.voidSlot (s : State) (i : Nat) : State :=
  s.setPage (cfgBase i) (List.replicate 4096 0xFF#8 ++ (s.page (cfgBase i)).drop 4096)

/-- Verification of the staged package: the state it leaves and its status. -/
def State.verify (s : State) : State × Status :=
  if s.upd.type = 1 then s.verifyFirmware
  else
    let j := s.judgeImage false (s.cfgSlot s.upd.target)
    (s, j.status)

/-- VERIFY_DONE (R469, R471): VERIFIED or FAILED, and UPDATE_VERIFIED. -/
def execVerifyDone (flashOk : Bool) (s : State) : Result :=
  if s.upd.stage ≠ .verifying ∨ (s.mode ≠ .service ∧ s.mode ≠ .maintain) then .next s
  else
    let v := s.verify
    let st : Status := if flashOk then v.2 else .eIntegrity
    let s1 := if st ≠ .ok ∧ s.upd.type = 2 then v.1.voidSlot s.upd.target else v.1
    let g : Stage := if st = Status.ok then .verified else .failed
    let s2 := ({ s1 with upd := { s1.upd with stage := g } }).ledgerWrote [.staging]
    .next (((s2.alert 0x72 0xFF s.upd.type st.code 0 0).capUpdate).updDone st)

/-! ### Activation, confirmation, rollback (R472 to R477) -/

/-- The generations of the valid PATCH regions. -/
def State.validPatches (s : State) : List Nat :=
  (List.range 4).filter (fun g => match s.judge (11 + g) with
    | .valid _ => true
    | _ => false)

/-- The patch generation that ACTIVATE has to program (step 2 of R472). -/
def State.patchDue (s : State) : Option Nat :=
  if s.upd.type = 1 then
    match setPatch (s.imgSlot s.upd.target) with
    | some g => if s.validPatches.all (fun v => decide (v < g)) then some g else none
    | none => none
  else none

/-- The region that a patch generation is programmed into: the lowest blank one at or above it (R440, R472). -/
def State.patchRegion (s : State) (g : Nat) : Option Nat :=
  (List.range 4).findSome? (fun i => if g ≤ i ∧ s.judge (11 + i) = .blank then some (11 + i) else none)

/-- Why the patch region that ACTIVATE needs is refused. -/
def State.patchStatus (s : State) : Status :=
  match s.patchDue with
  | none => .ok
  | some g => match s.patchRegion g with
    | none => .eResource
    | some n => if s.slocked n then .eLocked else .ok

/-- The status of ACTIVATE before anything is programmed (R472, R484, R529). -/
def activateStatus (r : Req) (ok : Bool) (s : State) : Status :=
  firstStatus (s.updChecks r ++
    [(s.upd.stage != .verified || (s.patchDue.isSome && s.mode != .maintain), .eState),
     (s.trans.isSome || s.inTransit || s.updBusy, .eBusy),
     (!ok, .eIntegrity),
     (s.patchStatus == .eLocked, .eLocked),
     (s.patchStatus == .eResource, .eResource)])

/-- The steps that program and lock a patch region with the PATCH component of the staged set (R440, R444). -/
def State.patchSteps (s : State) (n : Nat) : List FuseStep :=
  let c := compBytes (s.imgSlot s.upd.target) 4
  loneSteps n (c.length / 8) ((List.range 30).map (fun i => BitVec.ofNat 64 (leAt c (8 * i) 8)))

/-- The warm load of an activation is ordered (step 3 of R472). -/
def State.beginWarm (s : State) : State :=
  ({ s with trans := some .load, upd := { s.upd with stage := .activating } }).ledgerWrote [.staging]

/-- ACTIVATE (R472): settings saved; then the warm load is ordered, or a patch region is programmed first where one is due. -/
def execActivate (r : Req) (ok : Bool) (s : State) : Result :=
  .next (s.hostWrite r Reg.UPD_CMD (activateStatus r ok s) (fun t =>
    let t1 := t.saveSettings true
    match t.patchDue.bind t.patchRegion with
    | none => t1.beginWarm
    | some n => t1.fuseAsk ⟨.patch, t.patchSteps n⟩))

/-- The thermometers that stand below their floors. -/
def State.floorsAbove (s : State) : List Nat := (List.range 4).filter (fun t => decide (s.therm t < s.upd.floors.getD t 0))

/-- The thermometers advanced to their floors (R447, R475): in MAINTAIN, once the fuse engine is free, else FLOOR_PEND stands. An advance
at a count of 976 ends at once with E_RESOURCE. -/
def State.advanceFloors (s : State) : State :=
  if s.floorsAbove.isEmpty then { s with upd := { s.upd with floorPend := false } }
  else if s.mode = .maintain then
    let t := { s with upd := { s.upd with floorPend := false } }
    let l := s.floorsAbove.filter (fun i => decide (s.therm i < 976))
    if l.isEmpty then { t with fse := { t.fse with last := Status.eResource.code } }
    else t.fuseAsk ⟨.advance, l.flatMap (fun i => s.advanceSteps i (s.upd.floors.getD i 0))⟩
  else { s with upd := { s.upd with floorPend := true } }

/-- Each floor raised to the SVN of the running set's component (R457, R475). -/
def State.raiseFloors (s : State) : State :=
  ({ s with upd := { s.upd with
    floors := (List.range 4).map (fun i => max (s.upd.floors.getD i 0) (s.upd.svns.getD i 0)) } }).ledgerWrote
      ((List.range 4).filterMap (fun i => if s.upd.floors.getD i 0 < s.upd.svns.getD i 0 then some (.floor i) else none))

/-- The trial set confirmed (R475). -/
def State.confirm (s : State) : State :=
  let s1 := (s.writeSpw s.actSlot s.actSlot false s.rbk 0).raiseFloors
  let s2 := ({ s1 with upd := { s1.upd with kept := 0 } }).ledgerWrote [.kept]
  (((s2.alert 0x74 0xFF s2.actSlot s2.jseq 0 0).event Reg.UPD_EVENTS Fld.UPD_EVENTS_CONFIRMED).capUpdate).advanceFloors

/-- CONFIRM (R475, R484). -/
def execConfirm (r : Req) (s : State) : Result :=
  .next (s.hostWrite r Reg.UPD_CMD (firstStatus (s.updChecks r ++ [(!s.onTrial, .eState), (s.updBusy, .eBusy)]))
    (fun t => t.confirm.updDone .ok))

/-- Staging is IDLE: staged data are abandoned. -/
def State.unstage (s : State) : State :=
  ({ s with upd := { s.upd with stage := .idle, next := 0, total := 0 } }).ledgerWrote [.staging]

/-- A rollback with its cause (R476, R477): the pointers, the settings and the staging state. -/
def State.rollBack (s : State) (cause : Nat) : State :=
  let s1 := (s.writeSpw s.confSlot s.confSlot false true 0).unstage
  let s1 := s1.dropSettings s1.upd.kept
  let s2 := ({ s1 with upd := { s1.upd with cur := s1.upd.kept } }).ledgerWrote [.current]
  ((s2.alert 0x75 0xFF s2.actSlot cause s2.jseq 0).event Reg.UPD_EVENTS Fld.UPD_EVENTS_ROLLED_BACK).capUpdate

/-- A rollback in service is carried out by a warm load. -/
def State.rollWarm (s : State) (cause : Nat) : State :=
  let t := s.rollBack cause
  { t with trans := some .load, upd := { t.upd with back := some cause } }

/-- ROLLBACK (R476, R484). -/
def execRollback (r : Req) (s : State) : Result :=
  .next (s.hostWrite r Reg.UPD_CMD (firstStatus (s.updChecks r ++
      [(!s.onTrial, .eState), (s.updBusy || s.trans.isSome || s.inTransit, .eBusy)]))
    (fun t => (t.rollWarm 0).updDone .ok))

/-- ABORT (R469). -/
def execUpdAbort (r : Req) (s : State) : Result :=
  .next (s.hostWrite r Reg.UPD_CMD (firstStatus (s.updChecks r ++ [(s.updBusy, .eState)])) (fun t => t.unstage.capUpdate.updDone .ok))

/-- TRIAL_EXPIRE (R474, R476): UPD_TRIAL has reached 86,400,000 ms of SERVICE on trial; a CONFIRM in that very cycle is in time
(R479). -/
def execTrialExpire (s : State) : Result :=
  if s.onTrial ∧ 86400000 ≤ s.upd.trialMs ∧ s.upd.trialAt < s.now ∧ s.trans.isNone ∧ (s.mode = .service ∨ s.mode = .maintain) then
    .next ((s.detect 47 4 0).rollWarm 4)
  else .next s

end Sys2Proof.Machine
end

