-- ==== Sys2Proof/Machine/Glb.lean ====
section
/-! DEFINITION. Sys2Proof/Machine/Glb.lean: the pins and events that move the stack between its modes, and what each
transition does (R22 to R31, R268 to R272, R362, R460 to R463, R473, R520 to R526). -/
namespace Sys2Proof.Machine

/-! ### RESET_N, PWRGOOD, clocks (R16, R23, R460, R520 to R526) -/

/-- A shutdown record is not armed (R357). -/
def State.unarmed (s : State) : Bool := s.thm.records.any (fun r => !r.armed)

/-- The staging state that the ledger gives after a loss of power or a reset (R478). -/
def Stage.afterReset : Stage → Stage
  | .verifying => .staged
  | .activating => .verified
  | x => x

/-- What the ledger and the flash keep of boot and update (R452, R459, R465, R469); UPD_TRIAL is in the availability slots (R474). -/
def UpdSt.retained (u : UpdSt) : UpdSt :=
  { flash := u.flash, spwA := u.spwA, spwB := u.spwB, cur := u.cur, kept := u.kept, curOld := u.curOld
    stage := u.stage.afterReset, type := u.type, digest := u.digest, next := u.next, total := u.total, target := u.target
    floors := u.floors }

/-- What a ledger word is found to hold after RESET_N when its last write had failed its check twice (R370, R386): an availability slot
is not valid, and any other word holds a free value. -/
def State.foundBad (s : State) (w : LedgerWord) : State :=
  let n := Config.freeNat s.fresh
  let t := s.draw
  match w with
  | .slot i => { t with avail := { t.avail with slots := Tab.del t.avail.slots i } }
  | .pointer false => { t with upd := { t.upd with spwA := BitVec.ofNat 64 n } }
  | .pointer true => { t with upd := { t.upd with spwB := BitVec.ofNat 64 n } }
  | .current => { t with upd := { t.upd with cur := n % 2 ^ 32 } }
  | .kept => { t with upd := { t.upd with kept := n % 2 ^ 32 } }
  | .staging => { t with upd := { t.upd with
      stage := [Stage.idle, .receiving, .staged, .verified, .failed].getD (n % 5) .idle, digest := n / 5 % 2 ^ 64, next := n / 5 / 2 ^ 64 % 2 ^ 16 } }
  | .floor i => { t with upd := { t.upd with floors := t.upd.floors.set i (n % 2 ^ 16) } }
  | .repair i => { t with bst := { t.bst with log := t.bst.log.set i (n % 2 ^ 64) } }
  | .trip => { t with thm := { t.thm with records := t.thm.records.modifyHead (fun r => { r with armed := n % 2 == 1 }) } }
  | .shutdown => { t with thm := { t.thm with records := t.thm.records.modifyHead (fun r => { r with gtime := n % 2 ^ 64 }) } }

/-- What stays across RESET_N: the fuses, the ledger, the flash and the pins (R23, R379, R385, R524); everything else is as
right after reset. -/
def State.afterReset (s : State) : State :=
  let c0 := s.fuseCut.enterMode .cold
  let c := c0.flt.badWords.foldl State.foundBad c0
  { State.reset with
    pending := c.pending
    out := c.out
    answer := c.answer
    fresh := c.fresh
    fse := { bits := c.fse.bits, reinforced := c.fse.reinforced }
    flt := { ledger := c.flt.ledger, pseq := c.flt.pseq }
    avail := { c.avail with maintLoad := false }
    bst := { log := c.bst.log }
    thm := { records := c.thm.records, announce := c.thm.announce, trip := c.unarmed }
    sec := { dbgEver := c.sec.dbgEver }
    upd := c.upd.retained
    aon := { pwrgood := c.aon.pwrgood }
    tap := c.tap }

/-- RESET_N_LOW (R23, R524): every mode gives way to COLD. -/
def execResetNLow (s : State) : Result := .next s.afterReset

/-- Both pins are high in COLD: fuse sense begins, with PD13 powered (R460 step 1). -/
def State.coldStart (s : State) : State :=
  if s.mode = .cold ∧ s.aon.resetN ∧ s.aon.pwrgood ∧ !s.fse.sensed then
    { s with pwr := { s.pwr with dom := Tab.put s.pwr.dom 13 .on } }
  else s

/-- RESET_N_RELEASE (R460). -/
def execResetNRelease (s : State) : Result :=
  .next (({ s with aon := { s.aon with resetN := true } }).coldStart)

/-- PWRGOOD_RISE (R460, R520). -/
def execPwrgoodRise (s : State) : Result :=
  .next (({ s with aon := { s.aon with pwrgood := true } }).coldStart)

/-- ROOT_PLL_LOCK (R16, R526): the first lock after RESET_N is released starts GTIME from zero and arms the monitor. -/
def execRootPllLock (s : State) : Result :=
  if s.aon.resetN ∧ s.aon.pwrgood ∧ !s.aon.pll then .next { s with gtime := 0, aon := { s.aon with pll := true } }
  else .next s

/-- PWRGOOD falls (R521, R522): with RESET_N low it records nothing. -/
def State.pwrgoodLost (s : State) : State :=
  if !s.aon.pwrgood then s
  else
    let t := { s with aon := { s.aon with pwrgood := false } }
    if s.aon.resetN then t.fatal 7 0 0 else t

/-- PWRGOOD_LOST (R522). -/
def execPwrgoodLost (s : State) : Result := .next s.pwrgoodLost

/-- REFCLK or the root PLL is lost: only once the monitor is armed (R370, R526). -/
def State.clockLost (s : State) (pll : Nat) : State := if s.aon.pll then s.fatal 3 pll 0 else s

/-- CLOCK_LOST (R370): `pll` tells loss of lock from loss of REFCLK. -/
def execClockLost (pll : Bool) (s : State) : Result := .next (s.clockLost (b2n pll))

/-- Every sensor reads below its re-arm temperature (R357). -/
def State.coolEnough (s : State) : Bool :=
  (List.range 76).all (fun n => decide (s.reading n < limArm.of (sensorUnit n)))

/-- How many records from the newest on reach the oldest that is not armed. -/
def unarmedSpan (l : List ShutRec) : Nat :=
  ((List.range l.length).filter (fun i => match l[i]? with
    | some r => !r.armed
    | none => false)).foldl (fun b i => max b (i + 1)) 0

/-- SHUTDOWN_REARM (R357): in COLD, once every sensor has read cool for 100 ms. -/
def execShutdownRearm (s : State) : Result :=
  if s.mode = .cold ∧ s.coolEnough then
    let l : List ShutRec := s.thm.records.map (fun r => { r with armed := true })
    .next (({ s with thm := { s.thm with
      records := l, trip := false, announce := max s.thm.announce (unarmedSpan s.thm.records) } }).ledgerWrote [.shutdown])
  else .next s

/-- A FATAL source detects its condition, with what its own rule adds to the reaction (R355, R361, R383). -/
def State.fatalSource (s : State) (src a b : Nat) : State :=
  match src with
  | 0 => s.shutdown (min a 16) (b2n (s.mode == .cold)) (BitVec.ofNat 16 b).toInt
  | 1 | 2 => s.railFault src (a % 6) b
  | 3 => s.clockLost (a % 2)
  | 7 => s.pwrgoodLost
  | _ => if s.mode = .cold then s else s.fatal src a b

/-- FATAL_FAULT (R370, R383): in COLD only the sources of the AON detect (R376). -/
def execFatalFault (src : Fin 8) (a b : BitVec 32) (s : State) : Result := .next (s.fatalSource src a.toNat b.toNat)

/-! ### Power domains (R362) -/

/-- Domains set to a state. -/
def State.setDomains (s : State) (l : List (Nat × PwrState)) : State :=
  { s with pwr := { s.pwr with dom := l.foldl (fun (d : Tab PwrState) (p : Nat × PwrState) => Tab.put d p.1 p.2) s.pwr.dom } }

/-- PD1 to PD7 and the stack rails on, as LOAD, SERVICE and MAINTAIN have them; a rail of retired groups stays off. -/
def State.domainsOn (s : State) : State :=
  s.setDomains ((List.range 7).map (fun i => (i + 1, PwrState.on)) ++
    ((List.range 6).filter (fun r => !bitOf s.pwr.railOff r)).map (fun r => (14 + r, PwrState.on)))

/-- The domains of HOLD (R362). -/
def State.domainsHold (s : State) : State :=
  s.setDomains [(3, if s.flag Reg.GLB_GCFG Fld.GLB_GCFG_HOLD_LINKS then .on else .ret), (5, .ret), (6, .off), (7, .ret)]

/-! ### GLB_BOOT (R509) -/

/-! ### Entering SERVICE and MAINTAIN (R23, R118, R176, R357, R475) -/

/-- The 16 bytes of a shutdown record (R356). -/
def ShutRec.bytes (r : ShutRec) : List Byte :=
  leBytes 8 r.gtime ++ leBytes 1 r.die ++ leBytes 1 r.path ++ leBytes 1 r.band ++
    leBytes 1 (b2n r.armed + 2 * b2n r.complete) ++ leBytes 2 r.value ++ leBytes 2 r.loads

/-- The SHUTDOWN_RECORD alerts due (R357), oldest record first. -/
def State.announceRecords (s : State) : State :=
  let due := (s.thm.records.take s.thm.announce).reverse
  let s1 := due.foldl (fun (t : State) r =>
    let w (i : Nat) : Nat := leAt r.bytes (4 * i) 4
    (t.event Reg.THM_EVENTS Fld.THM_EVENTS_SHUT_RECORD).alert 0x56 0xFF (w 0) (w 1) (w 2) (w 3)) s
  { s1 with thm := { s1.thm with announce := 0 } }

/-- SERVICE entered: the classes stand as shed before or afresh, present capacity is evaluated, QOS_STABLE starts again,
queued closes run and dispatch resumes. -/
def State.enterService (s : State) : State :=
  let s1 := (s.enterMode .service).holdUpdate.announceRecords
  let s2 := { s1 with
    rae := { s1.rae with dispatch := true }
    qos := { s1.qos with tChange := s1.now }
    avail := { s1.avail with maintLoad := false } }
  (s2.classesNow.evaluate.runQueuedCloses).capUpdate

/-- MAINTAIN entered: dispatch is stopped, thermometers that wait are advanced, and every guaranteed class is in force or shed
(R158). -/
def State.enterMaintain (s : State) (fromLoad : Bool) : State :=
  let s1 := ({ s with avail := { s.avail with maintLoad := fromLoad } }).enterMode .maintain
  let s2 := { s1 with rae := { s1.rae with dispatch := false } }
  (if s2.upd.floorPend then s2.advanceFloors else s2).fuseNext.classesNow.capUpdate

/-! ### Mode requests (R25, R26, R270, R272) -/

/-- The checks of a mode request after those of the role (R25): the table of R23, then whatever is under way. -/
def State.modeChecks (s : State) (admitted busy : Bool) : List (Bool × Status) :=
  [(!admitted, .eState), (s.trans.isSome || s.inTransit || s.activating || busy, .eBusy)]

/-- The status of a request for SERVICE: the Owner or the Operator from HOLD, the Owner from MAINTAIN. -/
def serviceStatus (r : Req) (s : State) : Status :=
  firstStatus ((if s.mode = .maintain then s.ownerChecks r else s.hostChecks r) ++
    s.modeChecks ((s.mode == .hold || (s.mode == .maintain && !s.cfg.empty)) && !s.dbgOpen) false)

/-- HOLD left for SERVICE (R272): clocks and domains, the cadastre cache empty (R363), self-refresh exit, alignment, and a full one when the
point changed. -/
def State.leaveHold (s : State) (cal : CalResult) : State :=
  let s1 := ({ s with cad := { s.cad with lotIndex := [], tallyLines := [] } }).domainsOn
  let s2 := if s.flag Reg.GLB_GCFG Fld.GLB_GCFG_HOLD_LINKS then s1 else s1.linksStart
  let s3 := s2.liveChans.foldl (fun (t : State) c => t.exitSr c) s2
  let s4 := if s.dmc.point = s.dmc.holdPoint then s3 else s3.fullCal cal s.dmc.point
  s4.enterService

/-- MODE_REQ_SERVICE (R25): `cal` is what the full calibration of R272 finds. -/
def execModeReqService (r : Req) (cal : CalResult) (s : State) : Result :=
  .next (s.hostWrite r Reg.GLB_MODE_REQ (serviceStatus r s) (fun t =>
    if t.mode = .hold then t.leaveHold cal else t.enterService))

/-- The status of a request for HOLD (R25, R26, R325). -/
def holdStatus (r : Req) (s : State) : Status :=
  firstStatus (s.hostChecks r ++ s.modeChecks (s.mode == .service)
    ((List.range 16).any (fun u => (s.vxuU u).state != .idle) || s.salvaging))

/-- A request for HOLD accepted: a domain command that is BUSY stops (R118), dispatch stops, and the credits of fail and capture traffic are withheld. -/
def State.askHold (s : State) : State :=
  ({ s.stopDomCmd with trans := some .hold, rae := { s.rae with dispatch := false } }).holdUpdate

/-- MODE_REQ_HOLD (R26). -/
def execModeReqHold (r : Req) (s : State) : Result :=
  .next (s.hostWrite r Reg.GLB_MODE_REQ (holdStatus r s) State.askHold)

/-- No channel is held for a command/address lane test. -/
def State.noneHeld (s : State) : Bool := s.liveChans.all (fun c => !(s.chan c).held)

/-- HOLD entered (R270, R271, R292, R469): running legs aborted, queues empty, every die in self-refresh; merge entries are
kept. -/
def State.enterHold (s : State) : State :=
  let s1 := s.abortDramLegs
  let s2 := s1.liveChans.foldl (fun (t : State) c => (t.serveChan c).enterSr c) s1
  let s3 := { s2 with
    dmc := { s2.dmc with holdPoint := s2.dmc.point, due := none }
    upd := { s2.upd with stage := if s2.upd.stage = Stage.verifying then .staged else s2.upd.stage } }
  let s4 := ((s3.enterMode .hold).ledgerWrote (if s2.upd.stage = Stage.verifying then [.staging] else [])).domainsHold
  if s.flag Reg.GLB_GCFG Fld.GLB_GCFG_HOLD_LINKS then s4 else s4.linksOff

/-- HOLD_ENTRY_COMPLETE (R26, R270): once running analyses have ended, and no channel's queues are held. -/
def execHoldEntryComplete (s : State) : Result :=
  if s.trans = some .hold ∧ s.busyEngines = 0 ∧ s.noneHeld then .next s.enterHold else .next s

/-- The status of a request for MAINTAIN (R25). -/
def maintainStatus (r : Req) (s : State) : Status :=
  firstStatus (s.ownerChecks r ++ s.modeChecks (s.mode == .service) false)

/-- MODE_REQ_MAINTAIN (R25, R63): streams end with reason MODE. -/
def execModeReqMaintain (r : Req) (s : State) : Result :=
  .next (s.hostWrite r Reg.GLB_MODE_REQ (maintainStatus r s) (fun t => (t.stopDomCmd.enterMaintain false).endStreams 10))

/-! ### What a load puts in effect (R28, R42, R43, R444, R461, R462) -/

/-- A firmware set runs: its hash, SVNs and MGC version. -/
def State.runSet (s : State) (img : List Byte) : State :=
  { s with upd := { s.upd with
    hash := manifestHash img, svns := (List.range 4).map (fun i => (compAt img i).svn), fwVersion := (compAt img 0).version
    recovery := false } }

/-- UPD_BOOT: the source, and the status and check of the last refusal. -/
def State.setUpdBoot (s : State) (source : Nat) (refusal : Nat × Status) : State :=
  s.wrN Reg.UPD_BOOT (source * 2 ^ 30 + s.actSlot * 2 ^ 29 + s.tboots * 2 ^ 27 + refusal.2.code * 2 ^ 16 + refusal.1 * 2 ^ 8)

/-- The recovery loader (R463): no set runs; UPD_HASH shows the manifest of slot ACT all the same. -/
def State.runRecovery (s : State) : State :=
  { s with upd := { s.upd with
    hash := manifestHash (s.imgSlot s.actSlot), svns := [0, 0, 0, 0], fwVersion := 0, recovery := true } }

/-- Slot ACT accepted: TBOOTS counts the loads of a trial set. -/
def State.bootAct (s : State) : State :=
  let s1 := if s.onTrial then s.writeSpw s.actSlot s.confSlot true s.rbk (s.tboots + 1) else s
  (s1.runSet (s.imgSlot s.actSlot)).setUpdBoot 0 (0, .ok)

/-- The choice of the firmware set at a cold load (R462): a trial ended by load count, slot ACT, slot CONF, or recovery. -/
def State.chooseSet (s : State) : State :=
  let s0 := if s.onTrial && s.tboots == 3 then (s.detect 47 3 0).rollBack 3 else s
  let a := s0.setCheck (s0.imgSlot s0.actSlot) s0.upd.patchGen
  if a.2 = .ok then s0.bootAct
  else
    let c := s0.setCheck (s0.imgSlot s0.confSlot) s0.upd.patchGen
    if s0.actSlot ≠ s0.confSlot ∧ c.2 = .ok then
      let s1 := (s0.detect 47 1 a.2.code).rollBack 1
      (s1.runSet (s1.imgSlot s1.actSlot)).setUpdBoot 1 a
    else ((s0.detect 47 2 c.2.code).runRecovery).setUpdBoot 2 c

/-- The empty service configuration with its recovery chain (R28). -/
def State.emptyConfig (s : State) : State :=
  let t := s.bareSettings
  (t.setChainL 0 { t.chainL 0 with en := true, minw := 1, partner := 0xFFFF, lanes := 0xF, margLim := 0 }).wr
    Reg.GLB_GCFG (resetWord Reg.GLB_GCFG)

/-- The configuration slots that hold an image, newest generation first. -/
def State.storedImages (s : State) : List Nat :=
  ((List.range 8).filter (fun i => isImage (s.cfgSlot i))).insertionSort (fun a b => s.slotGen b ≤ s.slotGen a)

/-- The newest generation that passes, with the verdicts of those refused before it (R43). -/
def State.firstGood (s : State) : List Nat → List (Nat × Verdict) × Option (Nat × Verdict)
  | [] => ([], none)
  | i :: r =>
    let v := s.judgeImage false (s.cfgSlot i)
    if v.status = .ok then ([], some (i, v))
    else
      let x := s.firstGood r
      ((i, v) :: x.1, x.2)

/-- UPD_CFG_LOG: each slot's generation, with the status of those examined (R482). -/
def State.setCfgLog (s : State) (seen : List (Nat × Verdict)) : State :=
  (List.range 8).foldl (fun (t : State) i =>
    let st : Status := match seen.find? (fun v => v.1 == i) with
      | some v => v.2.status
      | none => .ok
    t.wrN (Reg.UPD_CFG_LOG i) (st.code * 2 ^ 24 + if isImage (s.cfgSlot i) then s.slotGen i % 2 ^ 24 else 0)) s

/-- A refused generation is alerted (R481), and the admission evaluation that it came to stands in QOS_ADM_LAST (R167). -/
def State.configRefused (s : State) (v : Nat × Verdict) : State :=
  let s1 := match v.2.adm with
    | some a => s.noteAdmission a
    | none => s
  s1.alert 0x71 0xFF (s1.slotGen v.1) v.2.status.code v.2.check 0

/-- A generation in effect, from its verdict (R42, R169). -/
def State.takeConfig (s : State) (i : Nat) (v : Verdict) : State :=
  let img := (s.cfgSlot i).take (imageLen (s.cfgSlot i))
  let t := match v.next with
    | some t => t
    | none => s
  let t1 := match v.adm with
    | some a => t.noteAdmission a
    | none => t
  { t1 with upd := { t1.upd with cfgHash := sha512 img } }

/-- The choice of the configuration generation at a cold load (R43, R480, R481); the recovery loader serves the empty
configuration (R463). -/
def State.chooseConfig (s : State) : State :=
  if s.upd.recovery then s.emptyConfig.setCfgLog []
  else
    let c := s.firstGood s.storedImages
    let s1 := c.1.foldl State.configRefused s
    match c.2 with
    | some (i, v) =>
      let s2 := c.1.foldl (fun (t : State) x => t.detect 47 5 (s.slotGen x.1)) s1
      let w : Verdict := s2.judgeImage false (s.cfgSlot i)
      (s2.takeConfig i w).setCfgLog (c.1 ++ [(i, v)])
    | none =>
      let s2 := match c.1 with
        | (_, v) :: _ => s1.detect 47 6 v.status.code
        | [] => s1.draw.detect 47 6 (Config.freeNat s1.fresh % 2 ^ 32)
      s2.emptyConfig.setCfgLog c.1

/-! ### Entry into LOAD from COLD (R23, R376, R386, R406, R460) -/

/-- The release conditions of R23. -/
def State.released (s : State) : Bool :=
  s.mode == .cold && s.aon.pwrgood && s.aon.resetN && s.aon.pll && s.fse.sensed && !s.unarmed

/-- The availability counts and UPD_TRIAL at a cold load (R386, R474): the newest slot whose CRC passes, and 1,000 ms more when its mode
counts. -/
def State.restoreAvail (s : State) : State :=
  let newest := (s.avail.slots.filter (fun e => e.2.crc == e.2.crcOf)).foldl (fun (b : Option AvSlot) (e : Nat × AvSlot) =>
    match b with
    | none => some e.2
    | some x => if x.seq < e.2.seq then some e.2 else some x) none
  match newest with
  | none => s
  | some x =>
    let lost := if x.counts then 1000 else 0
    { s with upd := { s.upd with trialMs := x.trial }, avail := { s.avail with
      unsched := x.unsched + lost, avail := x.avail, loads := x.loads, safes := x.safes
      buckets := countMs s.avail.buckets lost lost } }

/-- The history entries of the faults that the AON latched in COLD (R376), in ascending source order. -/
def State.coldEntries (s : State) : State :=
  let l := (bitList 128 (maskOf (s.flt.coldLatch.map (fun e => e.1)))).flatMap (fun src =>
    s.flt.coldLatch.filter (fun e => e.1 == src))
  let s1 := l.foldl (fun (t : State) e => t.formEntry e.1 ((faultSev e.1).getD 0) e.2.1 e.2.2 0 false true) s
  { s1 with flt := { s1.flt with coldLatch := [] } }

/-- The start-up check of SEC that fails, if any (R406, R442): a known-answer test, the DIK against its stored public key
where the identity region is locked, then the entropy source. -/
def State.secStart (s : State) (found : Option (BitVec 2)) : Option Nat :=
  let badKey := s.fuseLocked 0 && (s.judge 0 != .valid (s.fuseWords 0) ||
    p521Public s.dik != s.dikPublic)
  match found with
  | some 1 => some 1
  | some _ => if badKey then some 2 else some 3
  | none => if badKey then some 2 else none

/-- The entries of the patch generation applied, as the comparators hold them: ROM, word index and the word fetched in its place (R442,
R444). -/
def State.patchEntries (s : State) : List (Nat × Nat × BitVec 32) :=
  match s.validPatches.getLast?.map (fun g => s.judge (11 + g)) with
  | some (.valid ws) => (List.range (bitsOf (ws.getD 0 0).toNat 47 32)).map (fun i =>
      let e := (ws.getD (1 + i) 0).toNat
      (bitsOf e 63 60, bitsOf e 55 32, BitVec.ofNat 32 e))
  | _ => []

/-- The word that a fetch from a ROM finds, given the word the ROM holds there (R444). -/
def State.romFetch (s : State) (rom addr : Nat) (w : BitVec 32) : BitVec 32 :=
  ((s.upd.patches.find? (fun e => e.1 == rom && e.2.1 == addr)).map (fun e => e.2.2)).getD w

/-- What SEC decides from the fuses (R405, R407, R442), and the patch comparators loaded (R444). -/
def State.readFuses (s : State) : State :=
  let bad := (List.range 4).any (fun g => (s.judge (11 + g)).reason != 0)
  { s with
    sec := { s.sec with
      katOk := true, lifecycle := s.lifecycleNow, anchor := s.anchorNow
      uid := if s.fuseLocked 0 then sha512 s.dikPublic else 0 }
    upd := { s.upd with
      patchGen := s.validPatches.getLast?, patches := s.patchEntries, unpatched := s.validPatches.isEmpty && bad }
    bst := { s.bst with softRepair := [5, 7, 9].any (fun n => (s.judge n).reason != 0) } }

/-- A repair entry applied at a cold load (R317, R318): a line repaired anew leaves its former spare bad; to apply an entry again changes
nothing. -/
def State.applyRepair (s : State) (e : Nat) : State :=
  let c := bitsOf e 28 24
  let x := s.chan c
  let bank := bitsOf e 20 16
  if bitsOf e 31 29 = 0 then
    let key := 65536 * bank + bitsOf e 15 0
    let bad := match Tab.look x.rowRepair key with
      | some i => if i = bitsOf e 23 21 then [] else [32 * bank + i]
      | none => []
    s.setChan c { x with rowRepair := Tab.put x.rowRepair key (bitsOf e 23 21), badSpares := x.badSpares ++ bad }
  else if bitsOf e 31 29 = 1 then
    s.setChan c { x with
      colRepair := Tab.put x.colRepair (1024 * bank + 32 * bitsOf e 15 12 + bitsOf e 4 0) (bitsOf e 21 21) }
  else s

/-- The stack brought up (R460 step 11): every channel on at the default point that the band permits, the repairs of the
valid sets and of the log applied, lanes started. -/
def State.bringUp (s : State) : State :=
  let s1 := (List.range 32).foldl (fun (t : State) c => t.setChan c { t.chan c with on := true }) s
  let s2 := (s.fusedEntries ++ s.bst.log).foldl State.applyRepair s1
  let p : Nat := max (s.fld Reg.GLB_GCFG Fld.GLB_GCFG_DEFPOINT) s.targetPoint
  let s3 := (List.range 32).foldl (fun (t : State) c => t.retime c p t.thm.band) s2
  let s4 := { s3 with dmc := { s3.dmc with point := p } }
  let s5 := if s4.bst.softRepair then s4.startFulltest true else s4
  s5.domainsOn.linksStart

/-- Flash pages as a cold load finds them (R452). -/
def State.foundPages (s : State) (l : List (Fin 2112 × List Byte)) : State :=
  l.foldl (fun (t : State) (e : Fin 2112 × List Byte) =>
    t.setPage e.1.val (e.2.take 16384 ++ List.replicate (16384 - e.2.length) 0xFF#8)) s

/-- The set pointer word of the ledger in effect (R459). -/
def State.takeSpw (s : State) : State := { s with upd := { s.upd with spw := spwPick s.upd.spwA s.upd.spwB } }

/-- The floors at a cold load (R460 step 8, R475): raised first when a confirmed set's SVNs exceed them. -/
def State.loadFloors (s : State) : State :=
  let s1 := if s.onTrial || s.upd.recovery then s else s.raiseFloors
  s1.advanceFloors

/-- Steps 5 to 11 of R460. -/
def State.loadSteps (s : State) : State :=
  let s1 := (s.takeSpw.chooseSet.loadFloors).chooseConfig
  let s2 := (if s1.upd.recovery then s1 else s1.loadSettings).mapSlices s false
  s2.bringUp

/-- LOAD entered from COLD (R23, R460 step 3 on); a failure of SEC's start-up checks is the FATAL fault SEC_FATAL (R406). -/
def State.loadEntry (s : State) (found : LoadFind) : State :=
  let s1 := s.restoreAvail
  let s2 := ({ s1 with warm := false, avail := { s1.avail with loads := s1.avail.loads + 1 } }).enterMode .load
  let s3 := (s2.setDomains [(1, .on), (2, .on)]).coldEntries.senseReport
  match s3.secStart found.sec with
  | some cause => (s3.fatal 6 cause 0).setBoot 4
  | none => ((s3.readFuses).foundPages found.pages).loadSteps

/-- LOAD_ENTRY (R23). -/
def execLoadEntry (found : LoadFind) (s : State) : Result :=
  if s.released then .next (s.loadEntry found) else .next s

/-! ### The end of a cold load (R23, R299, R326 to R328, R460 steps 12 and 13) -/

/-- What the runs of a channel's check-logic test come to (R299): the first run with a full tally of 256 decides by its signature; none
of 8 is INCOMPLETE. A run that is not given is full and good. -/
inductive StVerdict where
  | pass | fail | incomplete
deriving DecidableEq, Repr

/-- See `StVerdict`. -/
def judgeRuns : Nat → List (Nat × Bool) → StVerdict
  | 0, _ => .incomplete
  | _ + 1, [] => .pass
  | n + 1, r :: l => if r.1 = 256 then (if r.2 then .pass else .fail) else judgeRuns n l

/-- The verdicts of the channels whose runs are given. -/
def stVerdicts (l : List (Fin 32 × List (Nat × Bool))) : List (Nat × StVerdict) := l.map (fun e => (e.1.val, judgeRuns 8 e.2))

/-- A channel whose check logic fails its start-up test, or stays INCOMPLETE (R299, R301). -/
def State.eccFailed (s : State) (c : Nat) (incomplete : Bool) : State :=
  ((s.event Reg.ECC_G_EVENTS Fld.ECC_G_EVENTS_ST_FAIL).detect 33 c (b2n incomplete)).retire c 5

/-- The block has a test at start-up (R327). -/
def startTested (b : Nat) : Bool := blockInRange b && (blockKind b == 3 || blockKind b == 4 || decide (6 ≤ blockKind b))

/-- A start-up test that fails acts as the leg of its kind (R311, R327). -/
def State.startFail (s : State) (b : Nat) : State :=
  let s1 := ((s.wrN Reg.BST_LAST_LEG b).satInc Reg.BST_FAIL).event Reg.BST_EVENTS Fld.BST_EVENTS_LEG_FAIL
  ((s1.detect 34 b 0).alert 0x67 0xFF b 0 0 0).legAction b none

/-- The legs of a start-up (R327): CLK on 8 bundles, TSVC and TSVL on 94 lanes of 32 channels, 16 VXU, 64 RAE and 3,072 SRAM legs. -/
def startLegs : Nat := 8 + 32 * 94 + 16 + 64 + 3072

/-- The start-up legs counted (R327, R334); the SRAM banks come last, and the last leg is that of their last one. -/
def State.startCount (s : State) (fails : List Nat) : State :=
  let last := legBlock 9 0 3071
  let s1 := (s.inc64 Reg.BST_LEGS startLegs).inc64 Reg.BST_PASS (startLegs - fails.length)
  let s2 := (s1.wrN Reg.BST_LAST_LEG last).wr64 Reg.BST_LAST_TIME s1.now
  { s2 with bst := { s2.bst with lastOut := if fails.contains last then 2 else 1 } }

/-- The slices of channels retired in a load get reserve space in the order of R323, and nothing is read (R326); the rails of die groups
that are gone are turned off (R363). -/
def State.assignReserve (s : State) : State :=
  let s1 := { s with cfg := { s.cfg with retQueue := [] } }
  let s2 := s.cfg.retQueue.foldl (fun (t : State) c => (t.slicesOf c).foldl (fun (u : State) ref => (u.placeSlice c ref false).1) t) s1
  (List.range 4).foldl State.railsOff s2

/-- ECC_ST_PASS, ECC_ST_FAIL and ECC_ST_INCOMPLETE (R299, R300): what the check logic's test found on each channel. -/
def State.eccMaps (s : State) (l : List (Nat × StVerdict)) : State :=
  let bad : Nat := maskOf ((l.filter (fun e => e.2 == .fail)).map (·.1))
  let inc : Nat := maskOf ((l.filter (fun e => e.2 == .incomplete)).map (·.1))
  ((s.wrN Reg.ECC_ST_PASS (2 ^ 32 - 1 - (bad ||| inc))).wrN Reg.ECC_ST_FAIL bad).wrN Reg.ECC_ST_INCOMPLETE inc

/-- The start-up tests and the initial calibration (R299, R327, R332). -/
def State.startTests (s : State) (r : StartTests) : State :=
  let v := stVerdicts r.ecc
  let s1 := (v.filter (fun e => e.2 != .pass)).foldl (fun (t : State) e => t.eccFailed e.1 (e.2 == .incomplete)) (s.eccMaps v)
  let fails := ((r.fails.map (·.toNat)).filter startTested).eraseDups
  (((fails.foldl State.startFail s1).startCount fails).fullCal r.cal s1.dmc.point).assignReserve

/-- The mode a cold load ends in (R23, R28, R463). -/
def State.loadEnds (s : State) : State :=
  if s.upd.recovery then (s.setBoot 2).enterMaintain true
  else if s.cfg.empty then (s.setBoot 1).enterMaintain true
  else (s.setBoot 0).enterService

/-- LOAD_COMPLETE (R23): once a full-stack self-test of LOAD has ended (R328). -/
def execLoadComplete (r : StartTests) (s : State) : Result :=
  if s.mode = .load ∧ !s.warm ∧ !s.bst.fulltest then .next (s.startTests r).loadEnds else .next s

/-! ### The warm load (R27, R251, R326, R473) -/

/-- Queued requests of a channel complete, and its merge entries are written (R288). -/
def State.drainChannel (s : State) (c : Nat) : State :=
  let t := s.serveChan c
  t.flushMerge c (t.chan c).merge.length

/-- Steps 1 and 2 of R473; ASEQ counts from 0 at each load (R241). -/
def State.warmStops (s : State) : State :=
  let s1 := (s.stopDomCmd.enterMode .load).endStreams 11
  let s2 := s1.bst.running.foldl (fun (t : State) l => t.legIncomplete l) s1
  let s3 := s2.liveChans.foldl (fun (t : State) c => (t.drainChannel c).enterSr c) s2
  let s4 := (s3.endAtOnce (fun _ => true)).abandonAnalyses
  { s4 with warm := true, rae := { s4.rae with dispatch := false }, qos := { s4.qos with shed := 0 }, flt := { s4.flt with aseq := 0 } }

/-- Steps 3 to 6 of R473: a set that passes is committed on trial and runs; a refused one leaves the running components. The
status is that of the activation. -/
def State.warmSet (s : State) : State × Status :=
  if s.upd.back.isSome then
    let img := s.imgSlot s.actSlot
    let c := s.setCheck img s.upd.patchGen
    let t := { s with upd := { s.upd with back := none } }
    (if c.2 = .ok then (t.runSet img).setUpdBoot 0 (0, .ok) else t.setUpdBoot 0 c, .ok)
  else if s.upd.type = 1 then
    let img := s.imgSlot s.upd.target
    let c := s.setCheck img s.upd.patchGen
    if c.2 = .ok then
      let t := s.writeSpw s.upd.target s.confSlot true false 1
      let t1 := ({ t with upd := { t.upd with kept := s.upd.cur, trialMs := 0 } }).ledgerWrote [.kept]
      ((t1.runSet img).setUpdBoot 0 (0, .ok), .ok)
    else (s.setUpdBoot (bitsOf (s.rdN Reg.UPD_BOOT) 31 30) c, c.2)
  else (s, .ok)

/-- The chains whose configuration a generation changes or ends are down, with their lanes (R44, R205). -/
def State.chainsChanged (t s : State) : State :=
  (List.range 16).foldl (fun (u : State) k =>
    let a := s.chainL k
    let b := u.chainL k
    if a.en ∧ (!b.en ∨ a.lanes ≠ b.lanes ∨ a.partner ≠ b.partner) ∧ a.state ≠ .off then u.chainDown k 0 else u) t

/-- The frames that pass to a new owner hold unspecified bytes (R251, R537). -/
def State.freshFrames (t0 s : State) : State :=
  let t : State := if t0.dmpPart = s.dmpPart then t0 else
    { t0 with pmc := { t0.pmc with wptr := 0, scopes := [] } }
  let keys := (t.cfg.frames.filter (fun e => !s.sliceKept t e.1 || Tab.look s.cfg.frames e.1 != some e.2)).flatMap (fun e =>
    e.2.map (fun f => 512 * (e.1 % 32) + f))
  let hit (k : Nat) : Bool := keys.contains (512 * (k / 2 ^ 32) + k % 2 ^ 32 / 2 ^ 23)
  { t with mem := t.mem.filter (fun e => !hit e.1), errs := t.errs.filter (fun e => !hit e.1) }

/-- The migrated slices that a warm load keeps: those of the slices kept, and the parts of theirs that were salvaged again,
whose records have the higher numbers. -/
def keptMoved (kept : Nat → Bool) (moved : Tab MovedSlice) : Tab MovedSlice :=
  moved.foldl (fun t m =>
    if if m.1 < 12288 then kept m.1 else t.any (fun e => e.2.parts.any (fun p => p.sub == some m.1)) then t ++ [m] else t) []

/-- The slice map of a warm load: kept slices in place, new slices of retired channels in reserve space in the order of R323
(R251, R326); salvage goes on with the slices kept (R325). -/
def State.warmMap (t s : State) : State :=
  let t1 := (t.mapSlices s true).freshFrames s
  let new := (t1.slices.map (fun e => e.1)).filter (fun k => !s.sliceKept t1 k)
  let t2 := { t1 with cfg := { t1.cfg with
    moved := keptMoved (s.sliceKept t1) t1.cfg.moved, salvage := t1.cfg.salvage.map (fun v =>
      { v with left := v.left.filter (fun k => if k < 2 ^ 20 then s.sliceKept t1 k else
        (keptMoved (s.sliceKept t1) t1.cfg.moved).any (fun m => m.1 == (k - 2 ^ 20) / 64)) }) } }
  (((List.range 32).filter t2.retired).flatMap t2.slicesOf).foldl (fun (u : State) k =>
    if new.contains k then (u.placeSlice (k % 32) k false).1 else u) t2

/-- Sites lose a plat that a new generation leaves undefined (R99, R536). -/
def State.platsLost (s : State) : State :=
  { s with cad := { s.cad with sitePlat := s.cad.sitePlat.filter (fun e => s.platDefined e.2) } }

/-- Step 7 of R473: the newest generation is checked, and takes effect or leaves the one in effect (R43). The status is that
of its checks. -/
def State.warmConfig (s : State) : State × Status :=
  match s.storedImages with
  | [] => (s, .ok)
  | i :: _ =>
    let v := s.judgeImage true (s.cfgSlot i)
    let log (t : State) : State := t.setCfgLog [(i, v)]
    if v.status = .ok then
      let t := (((s.takeConfig i v).warmMap s).chainsChanged s).linksStart
      (log t.platsLost, .ok)
    else
      (log ((s.configRefused (i, v)).detect 47 5 (s.slotGen i)), v.status)

/-- What the activation ends with (R469, R481). -/
def State.activationEnds (s : State) (fw cfg : Status) : State :=
  if s.upd.stage ≠ .activating then s
  else
    let st : Status := if s.upd.type = 1 then fw else cfg
    if st = .ok then
      let t := s.unstage
      ((t.alert 0x73 0xFF s.upd.type (if s.upd.type = 1 then s.actSlot else s.cfg.gen) s.jseq 0).event Reg.UPD_EVENTS
        Fld.UPD_EVENTS_ACTIVATED).updDone .ok
    else (({ s with upd := { s.upd with stage := .failed } }).ledgerWrote [.staging]).updDone st

/-- The mode the warm load came from (R27, R473 step 10). -/
def State.warmReturn (s : State) (back : Mode) : State :=
  if back = .service then (s.setBoot 0).enterService else (s.setBoot 3).enterMaintain s.avail.maintLoad

/-- The warm load (R473). -/
def State.warmLoad (s : State) : State :=
  let s1 := s.warmStops
  let f := s1.warmSet
  let c := f.1.warmConfig
  let s2 := (if c.1.upd.recovery then c.1 else c.1.loadSettings).activationEnds f.2 c.2
  let s3 := s2.liveChans.foldl (fun (t : State) ch => (t.retime ch t.dmc.point t.thm.band).exitSr ch) s2
  (({ s3.freshQueue with shadow := [] }).heapCheck).warmReturn s.mode

/-- WARM_LOAD (R473): the warm load that an activation or a rollback has ordered, once no channel's queues are held. -/
def execWarmLoad (s : State) : Result :=
  if s.trans = some .load ∧ s.noneHeld ∧ (s.mode = .service ∨ s.mode = .maintain) then .next s.warmLoad else .next s

end Sys2Proof.Machine
end

