-- ==== Sys2Proof/Machine/Pins.lean ====
section
/-! DEFINITION. Sys2Proof/Machine/Pins.lean: the static levels of the output pins (R380, R381, R355, R357, R516), as the state
gives them. -/
namespace Sys2Proof.Machine

/-- The set sticky bits. -/
def State.stickySet (s : State) : List Nat := (List.range 128).filter s.sticky

/-- FAULT_N is low (R380): an unmasked sticky bit of severity NSEV or more, or SAFE. -/
def State.faultNLow (s : State) : Bool :=
  s.mode == .safe || s.stickySet.any (fun src => !s.masked src &&
    decide (s.fld Reg.FLT_CFG Fld.FLT_CFG_NSEV ≤ (faultSev src).getD 0))

/-- ALERT_N is low (R381). -/
def State.alertNLow (s : State) : Bool := s.flt.alertN

/-- THERMTRIP_N is low (R355, R357). -/
def State.thermtripNLow (s : State) : Bool := s.thm.trip

end Sys2Proof.Machine
end

