-- ==== Sys2Proof/Machine/ViewA.lean ====
section
/-! DEFINITION. Sys2Proof/Machine/ViewA.lean: what the registers of the blocks GLB, FLT, PMC, SEC, FSE and UPD read, where a
register shows something a structure of the state holds (R377 to R381, R399, R402, R428, R449, R482, R508). -/
namespace Sys2Proof.Machine

/-- What a read of a register finds: the register's own word or words; a value the state gives; or a value the manual does not
state, drawn afresh (notes/assumptions/3.md). -/
inductive View where
  | plain
  | val (n : Nat)
  | free
deriving DecidableEq, Repr

/-- A word built from its fields. -/
def fields (l : List (Fld × Nat)) : Nat := (l.map (fun e => e.2 % 2 ^ (e.1.hi + 1 - e.1.lo) * 2 ^ e.1.lo)).sum

/-- What the AON's copy of a register shows while its owner, in power domain `pd`, is off: zero (R499). -/
def State.aonCopy (s : State) (pd : Nat) (v : View) : View := if Tab.lookD s.pwr.dom pd .off = .on then v else .val 0

/-- The view of a value that may be missing. -/
def View.opt : Option Nat → View
  | some n => .val n
  | none => .free

/-- GLB_MODE (R22, R509). -/
def State.viewMode (s : State) : Nat :=
  fields [(Fld.GLB_MODE_TRANS, b2n s.trans.isSome), (Fld.GLB_MODE_WARM, b2n s.warm),
    (Fld.GLB_MODE_TARGET, (s.trans.getD s.mode).code), (Fld.GLB_MODE_MODE, s.mode.code)]

/-- GLB_COMMIT_PEND (R501). -/
def State.viewPend (s : State) : Nat := maskOf ((s.shadow.map (fun e => regGroup e.1)).filter (fun g => g < 6))

/-- GLB_I3C_STAT (R509). -/
def State.viewI3c (s : State) : Nat :=
  fields [(Fld.GLB_I3C_STAT_DA_VALID, b2n s.i3c.da.isSome), (Fld.GLB_I3C_STAT_DA, s.i3c.da.getD 0),
    (Fld.GLB_I3C_STAT_BADFRAME, s.i3c.badFrame), (Fld.GLB_I3C_STAT_DROPPED, s.i3c.dropped)]

/-- The registers of the block GLB; GLB_SERIAL is valid from step 3 of R460 (R499). -/
def State.viewGlb (s : State) (o : Nat) : View :=
  if o = 0x8 then .val (if s.fse.sensed then s.serial else 0)
  else if o = 0x10 then .val s.viewMode
  else if o = 0x1C then s.aonCopy 2 .plain
  else if o = 0x20 then .val s.now
  else if o = 0x40 then .val s.viewPend
  else if o = 0x70 then .val s.viewI3c
  else .plain

/-- The highest severity among set sticky bits (R400). -/
def State.maxSev (s : State) : Nat := s.stickySet.foldl (fun m src => max m ((faultSev src).getD 0)) 0

/-- FLT_STATUS (R400). -/
def State.viewFltStatus (s : State) : Nat :=
  fields [(Fld.FLT_STATUS_FAULT_N, b2n s.faultNLow), (Fld.FLT_STATUS_ALERT_N, b2n s.alertNLow),
    (Fld.FLT_STATUS_MAXSEV, s.maxSev), (Fld.FLT_STATUS_NSET, s.stickySet.length)]

/-- FLT_SUMMARY (R400). -/
def State.viewSummary (s : State) : Nat :=
  fields [(Fld.FLT_SUMMARY_MAXSEV, s.maxSev), (Fld.FLT_SUMMARY_ANY, b2n (!s.stickySet.isEmpty)),
    (Fld.FLT_SUMMARY_FAULT_N, b2n s.faultNLow), (Fld.FLT_SUMMARY_ALERT_N, b2n s.alertNLow),
    (Fld.FLT_SUMMARY_LASTSRC, s.flt.lastSrc), (Fld.FLT_SUMMARY_ACODE, s.flt.acode)]

/-- A history entry as its 32 bytes (R377). -/
def HistEntry.bytes (e : HistEntry) : List Byte :=
  leBytes 6 (e.pseq.getD 0xFFFFFFFFFFFF) ++ leBytes 1 e.src ++
  leBytes 1 (e.sev % 4 + 4 * b2n e.forced + 8 * b2n e.cold) ++ leBytes 8 e.gtime ++ leBytes 4 e.loads ++ leBytes 4 e.hseq ++
  leBytes 4 e.a ++ leBytes 4 e.b

/-- Word `i` of the history entry that FLT_HIST_IDX selects (R378). -/
def State.viewHist (s : State) (i : Nat) : View :=
  View.opt ((s.flt.hist.find? (fun e => e.hseq == s.rdN Reg.FLT_HIST_IDX)).map (fun e => leAt e.bytes (4 * i) 4))

/-- Word `i` of the ledger entry that FLT_LED_IDX selects (R379, R399). -/
def State.viewLedger (s : State) (i : Nat) : View :=
  View.opt ((s.flt.ledger.find? (fun e => e.pseq == some (s.rd64 Reg.FLT_LED_IDX))).map (fun e => leAt e.bytes (4 * i) 4))

/-- FLT_LAST_FATAL (R399): the PSEQ of the newest FATAL ledger entry, all ones when there is none. -/
def State.viewLastFatal (s : State) : Nat :=
  ((s.flt.ledger.filter (fun e => e.sev == 3)).getLast?.bind (·.pseq)).getD 0xFFFFFFFFFFFFFFFF

/-- FLT_SEVi (R399): two bits of severity for each of sixteen sources; an unassigned source shows 0. -/
def viewSev (i : Nat) : Nat := ((List.range 16).map (fun n => (faultSev (16 * i + n)).getD 0 * 4 ^ n)).sum

/-- The registers of the block FLT. -/
def State.viewFlt (s : State) (o : Nat) : View :=
  if o = 0x0 then .val s.viewFltStatus
  else if o = 0x4 then .val s.viewSummary
  else if 0x40 ≤ o ∧ o < 0x60 then .val (viewSev ((o - 0x40) / 4))
  else if o = 0x60 then .val s.flt.hseq
  else if o = 0x68 then .val s.flt.histLost
  else if o = 0x6C then .val s.flt.suppressed
  else if 0x80 ≤ o ∧ o < 0xA0 then s.viewHist ((o - 0x80) / 4)
  else if o = 0xA0 then .val s.flt.pseq
  else if o = 0xB0 then .val s.flt.ledLost
  else if 0xC0 ≤ o ∧ o < 0xE0 then s.viewLedger ((o - 0xC0) / 4)
  else if o = 0xE0 then .val s.viewLastFatal
  else if o = 0x100 then .val s.avail.unsched
  else if o = 0x108 then .val s.avail.avail
  else if o = 0x110 then .val s.av52
  else if o = 0x114 then .val s.avPpb
  else if o = 0x118 then .val s.avail.loads
  else if o = 0x11C then .val s.avail.safes
  else .plain

/-- The registers of the block PMC (R402). -/
def State.viewPmc (s : State) (o : Nat) : View :=
  if o = 0x0 then .val (fields [(Fld.PMC_STATUS_DUMPING, b2n s.dumping), (Fld.PMC_STATUS_SAMPLES, s.pmc.samples.length)])
  else if o = 0x10 then .val s.pmc.dseq
  else if o = 0x18 then .val s.pmc.wptr
  else if o = 0x20 then .val s.pmc.wraps
  else if o = 0x24 then .val s.pmc.skipped
  else if o = 0x28 then .val s.pmc.smpLost
  else .plain

/-- SEC_STATUS (R429). -/
def State.viewSecStatus (s : State) : Nat :=
  fields [(Fld.SEC_STATUS_LIFECYCLE, s.sec.lifecycle.code), (Fld.SEC_STATUS_DBG_OPEN, b2n s.dbgOpen),
    (Fld.SEC_STATUS_DBG_EVER, b2n s.sec.dbgEver), (Fld.SEC_STATUS_KAT_OK, b2n s.sec.katOk),
    (Fld.SEC_STATUS_OPEN_N, s.sec.sessions.length), (Fld.SEC_STATUS_HOST_KEYS, s.sec.hostKeys.length)]

/-- SEC_SELF: the requester's own session (R429). -/
def State.viewSelf (s : State) (r : Req) : Nat :=
  match s.sessionAt r.path.num r.sid with
  | some x => fields [(Fld.SEC_SELF_SID, x.2.sid), (Fld.SEC_SELF_ROLE, x.2.role.code), (Fld.SEC_SELF_PATH, r.path.num)]
  | none => fields [(Fld.SEC_SELF_ROLE, 0xFF), (Fld.SEC_SELF_PATH, r.path.num)]

/-- Whole seconds left before the idle timeout of a session (R418, R428). -/
def State.idleLeft (s : State) (x : Session) : Nat := (x.timeout * 312500000 - (s.now - x.tLast)) / 312500000

/-- The registers of a session slot (R428, R429); a slot is in use until its keys are
erased (R421), and an empty one reads zero. -/
def State.viewSlot (s : State) (i o : Nat) : View :=
  match (Tab.look s.sec.sessions i).or ((s.sec.closing.find? (fun e => e.1 == i)).map (·.2)) with
  | none => .val 0
  | some x =>
    if o = 0x0 then .val (fields [(Fld.SEC_S_STAT_OPEN, 1), (Fld.SEC_S_STAT_ROLE, x.role.code),
      (Fld.SEC_S_STAT_PATH, x.path), (Fld.SEC_S_STAT_SID, x.sid)])
    else if o = 0x4 then .val (x.keysel % 256)
    else if o = 0x8 then .val x.tOpen
    else if o = 0x10 then .val x.scntIn
    else .val (s.idleLeft x)

/-- The registers of the block SEC. -/
def State.viewSec (s : State) (r : Req) (o : Nat) : View :=
  if o = 0x0 then s.aonCopy 1 (.val s.viewSecStatus)
  else if o = 0x8 then .val (s.viewSelf r)
  else if 0x10 ≤ o ∧ o < 0x50 then
    s.aonCopy 1 (.val (bitsOf s.sec.uid.toNat (8 * (o - 0x10) + 31) (8 * (o - 0x10))))
  else if 0x50 ≤ o ∧ o < 0x90 then .val (bitsOf s.sec.anchor.toNat (8 * (o - 0x50) + 31) (8 * (o - 0x50)))
  else if 0x100 ≤ o ∧ o < 0x300 then s.viewSlot ((o - 0x100) / 0x20) (o % 0x20)
  else .plain

/-- FSE_STATUS (R450). -/
def State.viewFseStatus (s : State) : Nat :=
  fields [(Fld.FSE_STATUS_BUSY, b2n s.fse.op.isSome), (Fld.FSE_STATUS_SOURCE, b2n s.fse.vfuse),
    (Fld.FSE_STATUS_LAST, s.fse.last)]

/-- FSE_RDATA (R450): the word that FSE_RSEL selects at its reference; words 1 to 9 of region 0 read zero outside SEC
(chapter 15, Registers). -/
def State.viewRdata (s : State) : Nat :=
  let n := s.fld Reg.FSE_RSEL Fld.FSE_RSEL_REGION
  let w := s.fld Reg.FSE_RSEL Fld.FSE_RSEL_WORD
  if n = 0 ∧ 1 ≤ w ∧ w ≤ 9 then 0
  else if s.flag Reg.FSE_RSEL Fld.FSE_RSEL_REF then (s.fuseTight n w).toNat
  else (s.fuse n w).toNat

/-- The registers of the block FSE. -/
def State.viewFse (s : State) (o : Nat) : View :=
  if o = 0x0 then .val s.viewFseStatus
  else if o = 0x10 then .val s.viewRdata
  else if 0x20 ≤ o ∧ o < 0x30 then .val (s.therm ((o - 0x20) / 4))
  else if 0x40 ≤ o ∧ o < 0x80 then .val (s.regStat ((o - 0x40) / 4))
  else .plain

/-- UPD_STATUS (R483). -/
def State.viewUpdStatus (s : State) : Nat :=
  fields [(Fld.UPD_STATUS_BUSY, b2n s.updBusy), (Fld.UPD_STATUS_STATE, s.upd.stage.code),
    (Fld.UPD_STATUS_TYPE, s.upd.type - 1), (Fld.UPD_STATUS_RECOVERY, b2n s.upd.recovery),
    (Fld.UPD_STATUS_TRIAL, b2n s.onTrial), (Fld.UPD_STATUS_FLOOR_PEND, b2n s.upd.floorPend),
    (Fld.UPD_STATUS_LAST, s.upd.last.code)]

/-- The registers of the block UPD. -/
def State.viewUpd (s : State) (o : Nat) : View :=
  if o = 0x0 then s.aonCopy 2 (.val s.viewUpdStatus)
  else if o = 0x10 then s.aonCopy 2 .plain
  else if o = 0x14 then .val s.upd.next
  else if o = 0x18 then .val s.upd.total
  else if o = 0x1C then .val (min s.upd.trialMs 0xFFFFFFFF)
  else if o = 0x20 then .val s.upd.spw.toNat
  else if o = 0x28 then .val s.cfg.gen
  else if o = 0x2C then .val s.upd.cur
  else if o = 0x30 then .val s.upd.kept
  else if 0x60 ≤ o ∧ o < 0xA0 then .val (bitsOf s.upd.hash.toNat (8 * (o - 0x60) + 31) (8 * (o - 0x60)))
  else if 0xA0 ≤ o ∧ o < 0xB0 then .val (s.upd.floors.getD ((o - 0xA0) / 4) 0)
  else .plain

end Sys2Proof.Machine
end

