-- ==== Sys2Proof/Machine/ViewB.lean ====
section
/-! DEFINITION. Sys2Proof/Machine/ViewB.lean: what the registers of the blocks THM, PWR, CAL, BST and QOS read, where a register
shows something a structure of the state holds (R181, R182, R334, R335, R365 to R368). -/
namespace Sys2Proof.Machine

/-! ### THM and PWR -/

/-- THM_STATUS (R366); in COLD the blocks outside the always-on island are off, and their fields read the Reset column (R3). -/
def State.viewThmStatus (s : State) : Nat :=
  fields [(Fld.THM_STATUS_BAND, s.thm.band), (Fld.THM_STATUS_LEVEL, s.thm.level), (Fld.THM_STATUS_INTERVAL, s.thm.interval),
    (Fld.THM_STATUS_WARN, b2n (s.thm.warnCore || s.thm.warnBase)), (Fld.THM_STATUS_HOTDIE, if s.mode = .cold then 0 else s.hotDie),
    (Fld.THM_STATUS_EXCLUDED, s.thm.excluded.length)]

/-- Milliseconds spent at a throttle level above 0 (R365). -/
def State.throttledMs (s : State) : Nat :=
  min 0xFFFFFFFF ((s.thm.thrMs + (match s.thm.thrSince with
    | some t => s.now - t
    | none => 0)) / 312500)

/-- Word `i` of the shutdown record that THM_SHUT_IDX selects (R356, R365). -/
def State.viewShutdown (s : State) (i : Nat) : View :=
  View.opt ((s.thm.records[s.rdN Reg.THM_SHUT_IDX]?).map (fun r => leAt r.bytes (4 * i) 4))

/-- The median half of THM_D_EST and THM_Z_EST: 0x8000 when it is undefined (R365). -/
def State.medianWord (s : State) (u : Nat) : Nat :=
  match s.unitMedian u with
  | some v => t16 v
  | none => 0x8000

/-- THM_D_EST and THM_Z_EST of a core die or a zone (R365). -/
def State.viewEst (s : State) (u : Nat) : Nat := 65536 * t16 (s.estimate u) + s.medianWord u

/-- THM_D_STAT (R366) of the sensors of a die. -/
def sensorStat (used : Nat) : Nat :=
  fields [(Fld.THM_D_STAT_MODEL_ONLY, b2n (used == 0)), (Fld.THM_D_STAT_SENSORS, used)]

/-- The sensors in use of a die; die 0 is the base die. -/
def State.sensorsUsed (s : State) (d : Nat) : Nat :=
  if d = 0 then ((List.range 4).map (fun z => (s.unitUsed (32 + z)).length)).sum else (s.unitUsed d).length

/-- The registers of a die (R365); the median of the base die is that of its hottest zone, whose estimate is its own (R339). -/
def State.viewDie (s : State) (d o : Nat) : View :=
  if o = 0x0 then
    .val (s.viewEst (if d = 0 then s.hotZone else d))
  else if o = 0x4 then .val (t16 (s.unitModel (if d = 0 then s.hotZone else d)))
  else if o = 0xC then .val (if s.mode = .cold then 0 else sensorStat (s.sensorsUsed d))
  else .plain

/-- THM_SENSn (R366). -/
def State.viewSensor (s : State) (n : Nat) : Nat :=
  fields [(Fld.THM_SENS_EXCL, b2n (s.thm.excluded.contains n)), (Fld.THM_SENS_READING, t16 (s.reading n))]

/-- The registers of the block THM. -/
def State.viewThm (s : State) (o : Nat) : View :=
  if o = 0x0 then .val s.viewThmStatus
  else if o = 0x8 then .val (65536 * t16 s.hotEst + t16 s.baseEst)
  else if o = 0xC then .val (fields [(Fld.THM_CFG_MAXLVL, s.thm.maxlvl), (Fld.THM_CFG_POINTS, s.thm.points)])
  else if 0x10 ≤ o ∧ o < 0x1C then .val (maskOf s.thm.excluded / 2 ^ (8 * (o - 0x10)) % 2 ^ 32)
  else if o = 0x1C then .val (t16 s.thm.lid)
  else if o = 0x24 then .val s.throttledMs
  else if o = 0x34 then .val s.thm.records.length
  else if 0x38 ≤ o ∧ o < 0x48 then s.viewShutdown ((o - 0x38) / 4)
  else if 0x100 ≤ o ∧ o < 0x210 then s.viewDie ((o - 0x100) / 16) (o % 16)
  else if 0x220 ≤ o ∧ o < 0x240 then
    if o % 8 = 0 then .val (s.viewEst (32 + (o - 0x220) / 8)) else .val (t16 (s.unitModel (32 + (o - 0x220) / 8)))
  else if 0x400 ≤ o ∧ o < 0x530 then .val (s.viewSensor ((o - 0x400) / 4))
  else .plain

/-- The state of a power domain (R368). -/
def State.domainState (s : State) (n : Nat) : PwrState := Tab.lookD s.pwr.dom n .off

/-- The states of `count` domains from domain `n` on, two bits each (R367). -/
def State.domainWord (s : State) (n count : Nat) : Nat :=
  ((List.range count).map (fun i => (s.domainState (n + i)).code * 4 ^ i)).sum

/-- PWR_R_STAT (R368) of a rail: the one of a domain that is on is in regulation. -/
def State.viewRail (s : State) (r : Nat) : Nat :=
  let d := s.domainState (14 + r)
  fields [(Fld.PWR_R_STAT_IN_REG, b2n (d == .on)), (Fld.PWR_R_STAT_OFF, b2n (d == .off)),
    (Fld.PWR_R_STAT_WARN90, s.fld (Reg.PWR_R_STAT r) Fld.PWR_R_STAT_WARN90)]

/-- The registers of the block PWR. -/
def State.viewPwr (s : State) (o : Nat) : View :=
  if o = 0x0 then .val (fields [(Fld.PWR_STATUS_CHANGING, b2n ((List.range 20).any (fun n => s.domainState n == .changing))),
    (Fld.PWR_STATUS_IN_REG, maskOf ((List.range 6).filter (fun r => s.domainState (14 + r) == .on)))])
  else if o = 0x8 then .val (s.domainWord 0 16)
  else if o = 0xC then .val (s.domainWord 16 4)
  else if o = 0x10 then .val s.pwr.railOff
  else if 0x20 ≤ o ∧ o < 0x80 ∧ o % 16 = 0xC then .val (s.viewRail ((o - 0x20) / 16))
  else .plain

/-! ### CAL and BST -/

/-- Calibration is suspended (R332): during transits, LOAD and HOLD. -/
def State.calSuspended (s : State) : Bool := s.inTransit || s.mode == .load || s.mode == .hold

/-- The registers of the block CAL. -/
def State.viewCal (s : State) (o : Nat) : View := if o = 0x0 then .val (2 ^ 31 * b2n s.calSuspended) else .plain

/-- BST_STATUS (R335). -/
def State.viewBstStatus (s : State) : Nat :=
  fields [(Fld.BST_STATUS_FULLTEST, b2n s.bst.fulltest), (Fld.BST_STATUS_MIGRATING, b2n s.cfg.salvage.isSome),
    (Fld.BST_STATUS_LAST_OUT, s.bst.lastOut), (Fld.BST_STATUS_RUNNING, s.bst.running.length)]

/-- BST_MIG_STATUS (R335). -/
def State.viewMigration (s : State) : Nat :=
  fields [(Fld.BST_MIG_STATUS_ACTIVE, b2n s.cfg.salvage.isSome),
    (Fld.BST_MIG_STATUS_CHANNEL, (s.cfg.salvage.map (·.ch)).getD 0),
    (Fld.BST_MIG_STATUS_QUEUED, s.cfg.retQueue.length),
    (Fld.BST_MIG_STATUS_LEFT, (s.cfg.salvage.map (·.left.length)).getD 0)]

/-- BST_RES_FREE (R334): the least free reserve of a reserve channel that is not retired, in MiB. -/
def State.viewResFree (s : State) : Nat :=
  match s.resChans with
  | [] => 0
  | c :: l => l.foldl (fun m x => min m (s.resFree x)) (s.resFree c) / 2 ^ 20

/-- The data/check lanes a channel uses: 72, or 36 at half width, or none once it is retired (R319). -/
def Width.lanes : Width → Nat
  | .full => 72 | .half => 36 | .retired => 0

/-- BST_C_STATE (R335). A retired channel uses no lane; a count of good lanes that FREE_DATA cannot hold is free. -/
def State.viewChanState (s : State) (c : Nat) : Nat :=
  let x := s.chan c
  let good := 78 - x.dataFail.length
  fields [(Fld.BST_C_STATE_WIDTH, x.width.code), (Fld.BST_C_STATE_CAUSE, x.cause), (Fld.BST_C_STATE_GOOD, good),
    (Fld.BST_C_STATE_FREE_DATA, if 64 ≤ good - x.width.lanes then Config.freeNat s.fresh else good - x.width.lanes),
    (Fld.BST_C_STATE_FREE_CA, 2 - x.caFail.length)]

/-- The registers of a channel in the block BST (R334). -/
def State.viewBstChan (s : State) (c o : Nat) : View :=
  let x := s.chan c
  if o = 0x0 then .val (s.viewChanState c)
  else if o = 0x4 then .val x.trvPtr
  else if o = 0xC then .val (65536 * x.colRepair.length + x.rowRepair.length)
  else if 0x10 ≤ o ∧ o < 0x1C then .val (maskOf x.dataFail / 2 ^ (8 * (o - 0x10)) % 2 ^ 32)
  else if o = 0x1C then .val (maskOf x.caFail)
  else .plain

/-- The registers of the block BST. -/
def State.viewBst (s : State) (o : Nat) : View :=
  if o = 0x0 then .val s.viewBstStatus
  else if o = 0x40 then .val s.viewMigration
  else if o = 0x4C then .val s.viewResFree
  else if o = 0x50 then .val s.bst.log.length
  else if o = 0x58 then .val (s.bst.log.getD (s.rdN Reg.BST_LOG_IDX) 0)
  else if o = 0x5C then .val (maskOf s.bst.clkLost)
  else if 0x1000 ≤ o then s.viewBstChan ((o - 0x1000) / 0x40) (o % 0x40)
  else .plain

/-! ### QOS -/

/-- A rate in 10^6 B/s, rounded down. -/
def scaled (x unit : ℚ) : Nat := ⌊x / unit⌋.toNat

/-- What a resource has beyond the demand in force, in 10^6 B/s (R181). -/
def State.resourceFree (s : State) (r : Res) : Nat := scaled (s.resCap false r - s.demandAll s.forceList r) 1000000

/-- QOS_STATUS (R182). -/
def State.viewQosStatus (s : State) : Nat :=
  fields [(Fld.QOS_STATUS_WAIT, b2n (s.qos.shed != 0 && decide (s.stableTicks < 31250000))),
    (Fld.QOS_STATUS_INFORCE_N, popcount 32 s.qos.inforce), (Fld.QOS_STATUS_SHED_N, popcount 32 s.qos.shed)]

/-- A share in 0.1 %, rounded up (R308). -/
def permille (x : ℚ) : Nat := ⌈x * 1000⌉.toNat

/-- QOS_MAINT_SHARE (R182, R308). -/
def State.viewMaintShare (s : State) : Nat :=
  fields [(Fld.QOS_MAINT_SHARE_REF, permille (sRef s.refCode)), (Fld.QOS_MAINT_SHARE_SCR, permille s.sScr),
    (Fld.QOS_MAINT_SHARE_TRV, permille s.sTrv), (Fld.QOS_MAINT_SHARE_CAL, permille s.sCal)]

/-- The users of a class (R182): the bound streams of an RT-STREAM class, the enabled sources of an RT-CAPTURE class, the chains of a
RESERVED class, the streams and sources of a BULK class, and none of MAINT. -/
def State.classUsers (s : State) (n : Nat) : Nat :=
  match s.classType n with
  | 0 => 0
  | 1 => (s.boundUnits n).length
  | 2 => (s.classSources n).length
  | 3 => popcount 16 (s.classChains n)
  | _ => (s.boundUnits n).length + (s.classSources n).length

/-- QOS_C_STAT (R182). -/
def State.viewClassStat (s : State) (n : Nat) : Nat :=
  fields [(Fld.QOS_C_STAT_TYPE, s.classType n), (Fld.QOS_C_STAT_SHED, b2n (s.isShed n)),
    (Fld.QOS_C_STAT_INFORCE, b2n (s.inForce n)), (Fld.QOS_C_STAT_RANK, s.classRank n),
    (Fld.QOS_C_STAT_USERS, s.classUsers n)]

/-- The registers of the block QOS. -/
def State.viewQos (s : State) (o : Nat) : View :=
  if o = 0x0 then .val s.viewQosStatus
  else if o = 0x8 then .val s.qos.inforce
  else if o = 0xC then .val s.qos.shed
  else if o = 0x10 then .val (min 0xFFFFFFFF (s.stableTicks * 2 / 625))
  else if o = 0x14 then .val s.viewMaintShare
  else if o = 0x18 then .val (s.resourceFree .fold)
  else if o = 0x1C then .val (s.tagsOf s.forceList)
  else if 0x300 ≤ o ∧ o < 0x380 then .val (s.resourceFree (.ch ((o - 0x300) / 4)))
  else if 0x380 ≤ o ∧ o < 0x3C0 then .val (s.resourceFree (.tx ((o - 0x380) / 4)))
  else if 0x3C0 ≤ o ∧ o < 0x400 then .val (s.resourceFree (.rx ((o - 0x3C0) / 4)))
  else if 0x1000 ≤ o ∧ o % 0x40 = 0x18 then .val (s.viewClassStat ((o - 0x1000) / 0x40))
  else if 0x1000 ≤ o ∧ o % 0x40 = 0x24 then .val (s.heldMicros ((o - 0x1000) / 0x40))
  else .plain

end Sys2Proof.Machine
end

