-- ==== Sys2Proof/Machine/ViewC.lean ====
section
/-! DEFINITION. Sys2Proof/Machine/ViewC.lean: what the registers of the blocks LNK, DMC, ECC, VXU, CAD and RAE read, where a
register shows something a structure of the state holds (R72, R115, R148, R211, R212, R248, R275 to R277, R300). -/
namespace Sys2Proof.Machine

/-! ### LNK -/

/-- LNK_L_STATUS (R212); in TEST the lock is that of the PRBS checker. -/
def State.viewLane (s : State) (l : Nat) : Nat :=
  let x := s.lane l
  fields [(Fld.LNK_L_STATUS_STATE, x.state.code), (Fld.LNK_L_STATUS_CHAIN, (s.chainOf l).getD 0),
    (Fld.LNK_L_STATUS_INCHAIN, b2n (s.chainOf l).isSome), (Fld.LNK_L_STATUS_READY, b2n (x.ready && x.state == .standby)),
    (Fld.LNK_L_STATUS_CW_LOCK, b2n x.cwLock),
    (Fld.LNK_L_STATUS_BLK_LOCK, b2n (if x.state = .test then x.check.lock else x.blkLock)),
    (Fld.LNK_L_STATUS_SKEW, min 127 (s.skewOf ((s.chainOf l).getD 0) l)), (Fld.LNK_L_STATUS_FAILSTREAK, min x.failStreak 255)]

/-- LNK_C_CFG (R212). -/
def State.viewChainCfg (s : State) (k : Nat) : Nat :=
  let x := s.chainL k
  fields [(Fld.LNK_C_CFG_EN, b2n x.en), (Fld.LNK_C_CFG_MINW, x.minw), (Fld.LNK_C_CFG_PARTNER, x.partner)]

/-- LNK_C_STATUS (R212); in SAFE every chain reads OFF (chapter 07, Modes). -/
def State.viewChainStatus (s : State) (k : Nat) : Nat :=
  let x := s.chainL k
  fields [(Fld.LNK_C_STATUS_STATE, if s.mode = .safe then 0 else x.state.code), (Fld.LNK_C_STATUS_EPOCH, x.rxEpoch),
    (Fld.LNK_C_STATUS_NACT, popcount 16 x.rxMask), (Fld.LNK_C_STATUS_PEER, x.peer)]

/-- The registers of a chain (R211). -/
def State.viewChain (s : State) (k o : Nat) : View :=
  if o = 0x0 then .val (s.viewChainCfg k)
  else if o = 0x8 then .val (s.chainL k).lanes
  else if o = 0x10 then .val (maskOf ((s.chainL k).lanesIn (s.chainL k).rxMask))
  else if o = 0x18 then .val (s.viewChainStatus k)
  else if o = 0x28 then .val (s.chainL k).tUp
  else .plain

/-- A new packet waits under R224: the next one does not fit in the replay buffer, or 4,096 packets are unacknowledged. -/
def State.txFull (s : State) (k : Nat) : Bool :=
  match s.nextWaiting k with
  | none => !(s.chainP k).waiting.isEmpty && decide (4096 ≤ (s.chainP k).replay.length)
  | some e => !s.rbufRoom k (pktSize e.1.pkt)

/-- LNK_P_STATUS (R249): a replay is being sent for the time its blocks take. -/
def State.viewPktStatus (s : State) (k : Nat) : Nat :=
  let x := s.chainP k
  fields [(Fld.LNK_P_STATUS_REPLAYING, b2n (decide (s.now < x.replayEnd))), (Fld.LNK_P_STATUS_TXFULL, b2n (s.txFull k)),
    (Fld.LNK_P_STATUS_UNACKED, x.replay.length), (Fld.LNK_P_STATUS_RBUF_USED, ceilDiv x.rbufUsed 64)]

/-- The registers of a chain's packet layer (R248). -/
def State.viewPkt (s : State) (k o : Nat) : View :=
  let x := s.chainP k
  if o = 0x0 then .val (s.viewPktStatus k)
  else if o = 0x30 then .val (65536 * x.oldest + x.txNext)
  else if o = 0x34 then .val x.e
  else if 0x100 ≤ o ∧ o < 0x184 then .val (if s.chainUp k then x.givenOf ((o - 0x100) / 4) else 0)
  else if 0x200 ≤ o ∧ o < 0x284 then .val (x.held ((o - 0x200) / 4))
  else .plain

/-- The registers of the block LNK. -/
def State.viewLnk (s : State) (o : Nat) : View :=
  if o < 0x10000 then
    if o % 0x400 = 0 then .val (s.viewLane (o / 0x400))
    else .plain
  else if o < 0x20000 then s.viewChain ((o - 0x10000) / 0x100) (o % 0x100)
  else s.viewPkt ((o - 0x20000) / 0x400) (o % 0x400)

/-! ### DMC and ECC -/

/-- DMC_STATUS.STATE (R277). -/
def State.dmcStateCode (s : State) (c : Nat) : Nat :=
  if s.retired c then 3
  else if !(s.chan c).on then 4
  else if s.inTransit then 2
  else if (s.chan c).sr then 1
  else 0

/-- DMC_STATUS (R277). -/
def State.viewDmcStatus (s : State) (c : Nat) : Nat :=
  let x := s.chan c
  fields [(Fld.DMC_STATUS_STATE, s.dmcStateCode c), (Fld.DMC_STATUS_HALF, b2n (x.width == .half)),
    (Fld.DMC_STATUS_POINT, s.dmc.point), (Fld.DMC_STATUS_REFMUL, refMul s.thm.band),
    (Fld.DMC_STATUS_POSTPONE, b2n x.postpone), (Fld.DMC_STATUS_OWED, x.owed), (Fld.DMC_STATUS_PULLED, x.pulled)]

/-- DMC_G_STATUS (R277). -/
def State.viewDmcGlobal (s : State) : Nat :=
  fields [(Fld.DMC_G_STATUS_TRANSIT, b2n s.inTransit), (Fld.DMC_G_STATUS_DUE, b2n s.dmc.due.isSome),
    (Fld.DMC_G_STATUS_DUE_POINT, s.dmc.due.getD 0), (Fld.DMC_G_STATUS_POINT, s.dmc.point)]

/-- The map of the channels that satisfy a test. -/
def State.chanMap (s : State) (p : Chan → Bool) : Nat := maskOf ((List.range 32).filter (fun c => p (s.chan c)))

/-- The registers of the block DMC. -/
def State.viewDmc (s : State) (o : Nat) : View :=
  if o = 0x20000 then .val s.viewDmcGlobal
  else if o = 0x20008 then .val s.dmc.freqReq
  else if o = 0x2001C then .val (s.chanMap (fun x => x.width == .half))
  else if o = 0x20020 then .val (s.chanMap (fun x => x.width == .retired))
  else if o = 0x20024 then .val (s.chanMap (·.sr))
  else if 0x20000 ≤ o then .plain
  else if o % 0x1000 = 0x0 then .val (s.viewDmcStatus (o / 0x1000))
  else if o % 0x1000 = 0x8 then .val (fields [(Fld.DMC_QDEPTH_WQ, (s.chan (o / 0x1000)).wq.length),
    (Fld.DMC_QDEPTH_RQ, (s.chan (o / 0x1000)).rq.length)])
  else .plain

/-- ECC_C_STATUS (R301): patrol scrub runs in SERVICE and MAINTAIN (R29). -/
def State.viewEccStatus (s : State) (c : Nat) : Nat :=
  let x := s.chan c
  fields [(Fld.ECC_C_STATUS_SCRUB, if s.retired c then 2
      else b2n (s.chanReady c && !x.held && (s.mode == .service || s.mode == .maintain))),
    (Fld.ECC_C_STATUS_HOTPOS, b2n (x.hotLast.any (fun e => decide (s.now < e.2 + 31250000)))),
    (Fld.ECC_C_STATUS_HOTSYM, x.hotSym)]

/-- The registers of the block ECC. -/
def State.viewEcc (s : State) (o : Nat) : View :=
  if 0x10000 ≤ o then .plain
  else if o % 0x100 = 0x0 then .val (s.viewEccStatus (o / 0x100))
  else if o % 0x100 = 0x34 then .val (s.chan (o / 0x100)).merge.length
  else .plain

/-! ### VXU, CAD and RAE -/

/-- VXU_STATUS (R75). -/
def VxuUnit.status (x : VxuUnit) : Nat :=
  fields [(Fld.VXU_STATUS_LSTAT, x.lstat), (Fld.VXU_STATUS_REASON, x.reason), (Fld.VXU_STATUS_PPEND, b2n x.ppend),
    (Fld.VXU_STATUS_STATE, x.state.code)]

/-- The word index of the next main-section word to decode: in a subroutine, the point the outermost call returns to. -/
def VxuUnit.mainPos (x : VxuUnit) : Nat :=
  if x.inSub then ((x.calls.find? (fun c => !c.inSub)).map (·.ret)).getD 0 else x.pos

/-- VXU_PROG_POS (R71, R72): zero until the header has been read. -/
def VxuUnit.progPos (x : VxuUnit) : Nat := if x.progLen = 0 then 0 else 64 + x.subLen + 8 * x.mainPos

/-- The registers of a VXU (R72). -/
def State.viewVxu (s : State) (o' : Nat) : View :=
  let u := o' / 0x1000
  let o := o' % 0x1000
  let x := s.vxuU u
  if 0x10000 ≤ o' then .plain
  else if o = 0x4 then .val x.status
  else if o = 0x20 ∧ s.bst.vxuOff.contains u then .val (wset (s.rd (Reg.VXU_BIND u)) Fld.VXU_BIND_EN 0).toNat
  else if o = 0x24 then .val (s.vxuInc u)
  else if o = 0x28 then .val (s.sresBytes u / 64)
  else if o = 0x2C then .val (s.sresStart u / 64)
  else if o = 0x30 then .val (x.resv.length / 8)
  else if o = 0x34 then .val x.vcyc.toNat
  else if o = 0x38 then .val x.nFrames.toNat
  else if o = 0x40 then .val x.nStalls.toNat
  else if o = 0x48 then .val x.txWait.toNat
  else if o = 0x50 then .val x.progPos
  else if o = 0x58 then .val x.tStart.toNat
  else if o = 0x60 then .val x.tEnd.toNat
  else if o = 0x6C then .val (fields [(Fld.VXU_ERR_INFO_SECT, x.errSect), (Fld.VXU_ERR_INFO_WORD, x.errWord)])
  else .plain

/-- CAD_STATUS (R116): credits are withheld for the mode outside SERVICE (R29), and from the acceptance of a request for HOLD (R26); COLD
has no lanes. -/
def State.viewCadStatus (s : State) : Nat :=
  fields [(Fld.CAD_STATUS_PIN_SPILL, b2n (s.cad.domains.any (fun e => e.2.spilled))),
    (Fld.CAD_STATUS_HEAP_LOW, b2n s.cad.heapLow), (Fld.CAD_STATUS_EXC_FULL, b2n s.excFull),
    (Fld.CAD_STATUS_PAUSED, b2n (s.mode != .cold && (s.mode != .service || s.holdWithholds)))]

/-- The registers of a source (R115). NX that is not valid is free. -/
def State.viewSource (s : State) (i o : Nat) : View :=
  let x := s.source i
  if o = 0x4 then View.opt x.nx
  else if o = 0x8 then .val x.held.length
  else if o = 0xC then .val x.mark
  else if o = 0x1C then .val (fields [(Fld.CAD_SRC_STAT_NXVALID, b2n x.nx.isSome), (Fld.CAD_SRC_STAT_GAPTIMER, b2n x.timer),
    (Fld.CAD_SRC_STAT_DOWN, b2n (s.srcEnabled i && !s.chainUp (s.fld (Reg.CAD_SRC_CFG i) Fld.CAD_SRC_CFG_CHAIN)))])
  else .plain

/-- The registers of the block CAD. -/
def State.viewCad (s : State) (o : Nat) : View :=
  if o = 0x0 then .val s.viewCadStatus
  else if o = 0x8 then .val s.cad.folded
  else if o = 0x10 then .val s.cad.excTotal
  else if o = 0x18 then .val (s.cad.domains.filter (fun e => e.2.active)).length
  else if o = 0x1C then .val (s.cad.domains.filter (fun e => e.2.state != .free)).length
  else if o = 0x20 then .val (64 * s.heapFree)
  else if o = 0x28 then .val s.qFill
  else if o = 0x44 then .val (fields [(Fld.CAD_DSTAT_BUSY, b2n s.domBusy), (Fld.CAD_DSTAT_STOPPED, b2n s.cad.stopped), (Fld.CAD_DSTAT_DONE, s.cad.done)])
  else if o = 0xC4 then .val (fields [(Fld.CAD_RSTAT_BUSY, b2n s.cad.readout.isSome), (Fld.CAD_RSTAT_STATUS, s.cad.rstat)])
  else if 0x1000 ≤ o ∧ o < 0x3000 then s.viewSource ((o - 0x1000) / 0x20) (o % 0x20)
  else if 0x3000 ≤ o ∧ o < 0x3100 ∧ o % 16 = 0 then .val (s.capLog ((o - 0x3000) / 16)).wptr
  else if 0x3000 ≤ o ∧ o < 0x3100 ∧ o % 16 = 8 then .val (s.capLog ((o - 0x3000) / 16)).wraps
  else .plain

/-- The map of the engines that satisfy a test. -/
def State.engineMap (s : State) (p : Engine → Bool) : Nat := maskOf ((List.range 64).filter (fun e => p (s.engine e)))

/-- The engines in the pool. -/
def State.poolCount (s : State) : Nat := ((List.range 64).filter (fun e => (s.engine e).inPool)).length

/-- RAE_STATUS (R149); in COLD the engines are off, and its fields read the Reset column (R3). -/
def State.viewRaeStatus (s : State) : Nat :=
  if s.mode = .cold then 0 else
  fields [(Fld.RAE_STATUS_STALLED, b2n (!s.rae.queue.isEmpty && s.poolCount == 0)), (Fld.RAE_STATUS_IN_POOL, s.poolCount),
    (Fld.RAE_STATUS_BUSY, ((List.range 64).filter (fun e => (s.engine e).domain.isSome)).length)]

/-- RAE_E_STAT.STATE (R149); an engine that runs a round searches. -/
def State.engineCode (s : State) (e : Nat) (x : Engine) : Nat :=
  if x.failed then 5 else if x.leg then 4
  else if x.domain.isSome then x.phase else if s.runsRound e then 2 else 0

/-- The registers of an engine (R148). -/
def State.viewEngine (s : State) (e o : Nat) : View :=
  let x := s.engine e
  if o = 0x0 then .val (fields [(Fld.RAE_E_STAT_STATE, s.engineCode e x), (Fld.RAE_E_STAT_DOMAIN, x.last)])
  else if o = 0x4 then .val x.nodes
  else if o = 0x8 then .val x.done
  else if o = 0x10 then .val (if x.domain.isSome then min 0xFFFFFFFF (4 * (s.now - x.tTake)) else x.elapsed)
  else .plain

/-- The registers of the block RAE. -/
def State.viewRae (s : State) (o : Nat) : View :=
  if o = 0x0 then .val s.viewRaeStatus
  else if o = 0x8 then .val s.rae.queue.length
  else if o = 0x10 then .val (s.engineMap (·.inPool))
  else if o = 0x18 then .val (s.engineMap (fun x => x.domain.isSome))
  else if o = 0x20 then .val (s.engineMap (·.leg))
  else if o = 0x28 then .val (s.engineMap (·.failed))
  else if o = 0x8C then .val s.rae.copyQ.length
  else if 0x1000 ≤ o then s.viewEngine ((o - 0x1000) / 0x20) (o % 0x20)
  else .plain

end Sys2Proof.Machine
end

