-- ==== Sys2Proof/Machine/RegRead.lean ====
section
/-! DEFINITION. Sys2Proof/Machine/RegRead.lean: reading the register map: what a register word reads, the read latch (R497),
the checks of a read (R493, R397, R408, R423) and the public read-only subset (R499). -/
namespace Sys2Proof.Machine

/-- The first address of the register of a row that covers `a`. -/
def RegRow.elem (r : RegRow) (a : Nat) : Nat :=
  let d := a - (r.base + r.off)
  a - (if r.stride = 0 then d else d % r.stride) % r.width

/-- The 64-bit register that starts at `a`. -/
def row64 (a : Nat) : Option RegRow :=
  match regRow? a with
  | some row => if row.width = 8 ∧ row.elem a = a then some row else none
  | none => none

/-- Command registers, which read zero (the "reads zero" of the register tables). -/
def readsZero (a : Nat) : Bool :=
  a == Reg.GLB_MODE_REQ || a == Reg.GLB_COMMIT || a == Reg.FLT_CMD || (0x10030 ≤ a && a < 0x10040) || a == Reg.FSE_CMD ||
  a == Reg.UPD_CMD || a == Reg.PWR_CMD || a == Reg.BST_CMD || (0x400000 ≤ a && a < 0x410000 && a % 0x1000 == 0) ||
  a == Reg.CAD_DCMD || a == Reg.CAD_RCMD || (0x501000 ≤ a && a < 0x503000 && a % 0x20 == 0x18) ||
  a == Reg.RAE_CMD || (0x100000 ≤ a && a < 0x110000 && (a % 0x400 == 0x8 || a % 0x400 == 0x58))

/-- What the register starting at `a` shows. -/
def State.view (s : State) (r : Req) (a : Nat) : View :=
  if readsZero a then .val 0
  else
    match a / 0x10000 with
    | 0 => s.viewGlb (a % 0x10000)
    | 1 => s.viewFlt (a % 0x10000)
    | 2 => s.viewPmc (a % 0x10000)
    | 3 => s.viewSec r (a % 0x10000)
    | 4 => s.viewFse (a % 0x10000)
    | 5 => s.viewUpd (a % 0x10000)
    | 6 => s.viewThm (a % 0x10000)
    | 7 => s.viewPwr (a % 0x10000)
    | 8 => s.viewCal (a % 0x10000)
    | 9 => s.viewBst (a % 0x10000)
    | 10 => s.viewQos (a % 0x10000)
    | h =>
      match h / 16 with
      | 1 => s.viewLnk (a % 0x100000)
      | 2 => s.viewDmc (a % 0x100000)
      | 3 => s.viewEcc (a % 0x100000)
      | 4 => s.viewVxu (a % 0x100000)
      | 5 => s.viewCad (a % 0x100000)
      | 6 => s.viewRae (a % 0x100000)
      | _ => .plain

/-- The performance counters a role may read (R397). -/
def State.pmcMay (s : State) (role : Role) (n : Nat) : Bool :=
  let w := s.rd (Reg.PMC_SEL n)
  let part := wget w Fld.PMC_SEL_SCOPE == 1
  match role with
  | .owner => true
  | .operator => part
  | .observer => part && bitOf (s.fld Reg.PMC_CFG Fld.PMC_CFG_OBS_PART) (wget w Fld.PMC_SEL_PART)
  | .enrolment => false

/-- The bits of PMC_OVFi that a role may read (R397). -/
def State.ovfMay (s : State) (role : Role) (i : Nat) : Nat :=
  maskOf ((List.range 32).filter (fun b => s.pmcMay role (32 * i + b)))

/-- The value in effect of the register starting at `a`, as a number of its width (R3, R4): its view, or its own word or words;
PMC_OVF shows the bits that the requester's role admits (R397). -/
def State.regValue (s : State) (r : Req) (a width : Nat) : Nat :=
  (match s.view r a with
    | .val n => n
    | .free => Config.freeNat s.fresh
    | .plain =>
      let v := if width = 8 then s.rd64 a else s.rdN a
      if 0x20040 ≤ a ∧ a < 0x20050 then
        match s.role r with
        | some role => v &&& s.ovfMay role ((a - 0x20040) / 4)
        | none => v
      else v) % 2 ^ (8 * width)

/-- The key of a requester context's read latch (R486): a session, or the I3C port without one; a chain without a session has
none. -/
def State.latchKey (s : State) (r : Req) : Option Nat :=
  if (s.role r).isSome then some (65536 * r.path.num + r.sid % 65536)
  else if r.path = .i3c then some (65536 * 16)
  else none

/-- The latched high half of the register starting at `e`, if the context's latch holds it. -/
def State.latched (s : State) (r : Req) (e : Nat) : Option (Nat × Nat) :=
  match s.latchKey r with
  | none => none
  | some k =>
    match Tab.look s.latches k with
    | some h => if h.1 = e then some (k, h.2.toNat) else none
    | none => none

/-- The high half of a 64-bit register latched for a context (R497). -/
def State.latch (s : State) (r : Req) (e v : Nat) : State :=
  match s.latchKey r with
  | none => s
  | some k => { s with latches := Tab.put s.latches k (e, BitVec.ofNat 32 (v / 2 ^ 32)) }

/-- A 4-byte read cycle at a word address (R485, R497): a low word latches its high word; a high word is taken from the latch
when it holds that register, which empties it. A reserved location reads zero. -/
def State.busRead (s : State) (r : Req) (a : Nat) : State × Nat :=
  match regRow? a with
  | none => (s, 0)
  | some row =>
    let e := row.elem a
    let v := s.regValue r e row.width
    if row.width ≠ 8 then (s.draw, v)
    else if a = e then (s.draw.latch r e v, v % 2 ^ 32)
    else
      match s.latched r e with
      | some h => ({ s with latches := Tab.del s.latches h.1 }, h.2)
      | none => (s.draw, v / 2 ^ 32)

/-- A word address of the public read-only subset (R499). -/
def publicWord (a : Nat) : Bool :=
  a == 0x0 || a == 0x8 || a == 0xC || a == 0x10 || a == 0x1C || a == 0x10004 || a == 0x30000 ||
  (0x30010 ≤ a && a < 0x30050) || a == 0x50000 || a == 0x50010

/-- An access of a size in bytes reaches only the public read-only subset. -/
def publicAccess (a size : Nat) : Bool := publicWord (a / 4 * 4) && (decide (size ≤ 4) || publicWord (a / 4 * 4 + 4))

/-- The slot registers of another session's slot (R423). -/
def State.otherSlot (s : State) (r : Req) (a : Nat) : Bool :=
  0x30100 ≤ a && a < 0x30300 && (match Tab.look s.sec.sessions ((a - 0x30100) / 0x20) with
    | some x => !(x.sid == r.sid && x.path == r.path.num)
    | none => false)

/-- The role of a session may not read the word at an address (R397, R408, R423). -/
def State.readDenied (s : State) (r : Req) (role : Role) (a : Nat) : Bool :=
  (role == .enrolment && !publicWord a && !(0x30000 ≤ a && a < 0x40000)) ||
  (role != .owner && s.otherSlot r a) ||
  (0x21000 ≤ a && a < 0x21800 && !s.pmcMay role ((a - 0x21000) / 16)) ||
  (0x20040 ≤ a && a < 0x20050 && s.ovfMay role ((a - 0x20040) / 4) == 0)

/-- The checks of a read of `size` bytes at an address (R493, R499). -/
def State.readStatus (s : State) (r : Req) (a size : Nat) : Status :=
  match s.role r with
  | none => if publicAccess a size then (if a % size = 0 then .ok else .eAlign) else .eAuth
  | some role =>
    if s.readDenied r role (a / 4 * 4) then .ePriv
    else if a % size ≠ 0 then .eAlign
    else if size = 8 ∧ s.readDenied r role (a / 4 * 4 + 4) then .ePriv
    else .ok

/-- The log 2 of an access size in bytes, as GLB_ERR_INFO.SIZE has it (R509). -/
def sizeCode (size : Nat) : Nat := if size = 1 then 0 else if size = 2 then 1 else if size = 4 then 2 else 3

/-- An access whose register has not answered when its 10 µs wait expires (R240, R487): E_BUSY where it is not rejected before. -/
def lateStatus (late : Bool) (st : Status) : Status := if late && st == .ok then .eBusy else st

/-- A read of up to 4 bytes, or of 8 bytes of one 64-bit register (R487, R492, R493): the state after, its status and the data,
low-aligned. A rejected read is recorded (R511). `late`: its register does not answer in time. -/
def State.readOne (s : State) (r : Req) (a size : Nat) (late : Bool) : State × Status × List Byte :=
  let st := lateStatus late (s.readStatus r a size)
  if st ≠ .ok then (s.reject r a false (sizeCode size) st, st, List.replicate size 0)
  else
    let lo := s.busRead r (a / 4 * 4)
    if size = 8 then
      let hi := lo.1.busRead r (a + 4)
      (hi.1, .ok, leBytes 8 (lo.2 + 2 ^ 32 * hi.2))
    else (lo.1, .ok, leBytes size (lo.2 / 2 ^ (8 * (a % 4))))

/-- A read of 1, 2, 4 or 8 bytes; 8 bytes that are not one 64-bit register are two reads of 4, the high one made only where the low
one is not rejected (R496). -/
def State.regRead (s : State) (r : Req) (a size : Nat) (late : Bool) : State × Status × List Byte :=
  if size = 8 ∧ a % 8 = 0 ∧ row64 a = none then
    let lo := s.readOne r a 4 late
    if lo.2.1 ≠ .ok then (lo.1, lo.2.1, List.replicate 8 0)
    else
      let hi := lo.1.readOne r (a + 4) 4 late
      (hi.1, hi.2.1, if hi.2.1 = .ok then lo.2.2 ++ hi.2.2 else List.replicate 8 0)
  else s.readOne r a size late

end Sys2Proof.Machine
end

