-- ==== Sys2Proof/Machine/RegWrite.lean ====
section
/-! DEFINITION. Sys2Proof/Machine/RegWrite.lean: writing the register map: the checks of R493 in their order, the shadows of
RWS fields (R44 to R46, R500), W1C and RW fields (R4, R494), 64-bit registers (R496), and the writes that a command register
turns into commands. -/
namespace Sys2Proof.Machine

/-! ### Values a register write leaves to the stack's surroundings, drawn afresh -/

/-- What a full calibration finds, free. -/
def State.freeCal (s : State) : CalResult :=
  ⟨(Config.freeList s.fresh).map (fun n => (n % 32, n / 32 % 256)),
    (Config.freeList (s.fresh + 1)).map (fun n => (n % 32, n / 32 % 640, n / 20480))⟩

/-- The bits a sense finds weak, free. -/
def State.freeWeak (s : State) : List (Fin 1024 × BitVec 64) :=
  (List.finRange 1024).map (fun i => (i, BitVec.ofNat 64 (Config.freeNat (s.fresh + i))))

/-- Whether flash reads and programs without error, free (R529). -/
def State.freeOk (s : State) : Bool := Config.freeNat s.fresh % 2 == 1

/-- The next state of a command that a register write stands for. -/
def stateOf (x : Result) (s : State) : State :=
  match x with
  | .next t => t
  | _ => s

/-! ### Roles and locks -/

/-- The writes that only the Owner may make (R423). -/
def ownerOnly (a : Nat) : Bool :=
  (0x20000 ≤ a && a < 0x60000) || (0x70000 ≤ a && a < 0xA0000) || (0x100000 ≤ a && a < 0x200000) ||
  (0x310008 ≤ a && a < 0x310014) || (0x10030 ≤ a && a < 0x10040)

/-- The role checks of a write at an address (R408, R423). -/
def State.writeChecks (s : State) (r : Req) (a : Nat) : List (Bool × Status) :=
  if ownerOnly a then s.ownerChecks r else s.hostChecks r

/-- The RUNTIME bit that grants a run-time change of an RWS register (R46). -/
def runtimeBit (a : Nat) : Nat :=
  if 0xA0200 ≤ a ∧ a < 0xA0300 then 0
  else if 0xA1000 ≤ a ∧ a < 0xA2000 then 1
  else if 0xA0000 ≤ a ∧ a < 0xB0000 then 2
  else if 0x400000 ≤ a ∧ a < 0x500000 then 3
  else if 0x501000 ≤ a ∧ a < 0x503000 then 4
  else if 0x504000 ≤ a then 5
  else if 0x500000 ≤ a then 6
  else if 0x20000 ≤ a ∧ a < 0x30000 then 8
  else if 0x10000 ≤ a ∧ a < 0x20000 then 9
  else 7

/-- A run-time change of an RWS register is not granted (R45). -/
def State.notGranted (s : State) (a : Nat) : Bool := !bitOf s.cfg.runtime (runtimeBit a)

/-! ### Storing -/

/-- The bits of word `a` among the bits of its register. -/
def RegRow.wordBits (row : RegRow) (a bits : Nat) : Word :=
  BitVec.ofNat 32 (if a = row.elem a then bits else bits / 2 ^ 32)

/-- A word stored in its RW fields and cleared in its W1C fields (R4, R494). -/
def State.storeWord (s : State) (row : RegRow) (a : Nat) (v : Word) : State :=
  let rw := row.wordBits a row.rw
  let old := s.rd a
  s.wr a (((old &&& ~~~ rw) ||| (v &&& rw)) &&& ~~~ (v &&& row.wordBits a row.w1c))

/-- A word stored in the shadow of an RWS register (R500). -/
def State.storeShadow (s : State) (row : RegRow) (a : Nat) (v : Word) : State :=
  let m := row.wordBits a row.rws
  { s with shadow := Tab.put s.shadow a ((s.rd a &&& ~~~ m) ||| (v &&& m)) }

/-- The status of a write of a plain register, beyond the checks of its access: the owning chapters' conditions (R91, R150,
R157, R366, R378, R399, R404). -/
def State.plainStatus (s : State) (a : Nat) (v : Nat) : Status :=
  if a = Reg.FLT_HIST_IDX then (if s.flt.hist.any (fun e => e.hseq == v) then .ok else .eRange)
  else if a = Reg.FLT_LED_IDX then (if s.flt.ledger.any (fun e => e.pseq == some v) then .ok else .eRange)
  else if a = Reg.THM_SHUT_IDX then (if v % 16 < s.thm.records.length then .ok else .eRange)
  else if 0x21000 ≤ a ∧ a < 0x21800 ∧ a % 16 = 4 then
    (if v = 0 ∧ s.flag (a - 4) Fld.PMC_SEL_SAMPLE then .eRange else .ok)
  else if a = Reg.CAD_RLABEL then (if s.unmapped (v % 256) then .eConflict else .ok)
  else if a = Reg.RAE_RING_BASE ∨ a = Reg.RAE_RING_SLOTS then
    (if s.flag Reg.RAE_RING_CFG Fld.RAE_RING_CFG_EN ∧
        v % (if a = Reg.RAE_RING_SLOTS then 2 ^ 25 else 2 ^ 64) ≠
        (if a = Reg.RAE_RING_SLOTS then s.rdN a else s.rd64 a) then .eBusy else .ok)
  else .ok

/-- A register without a command of its own written with a whole value of its width (R493 steps 6 to 8, R494, R496, R500);
`size` is the size code of the access. -/
def State.writePlain (s : State) (r : Req) (row : RegRow) (a size v : Nat) : State :=
  if row.writable = 0 ∨ (0xA1000 ≤ a ∧ a < 0xA1018) then s.reject r a true size .eAccess
  else
    let st := if row.rws ≠ 0 ∧ s.notGranted a then Status.eLocked else s.plainStatus a v
    if s.recovering a st ≠ .ok then s.reject r a true size (s.recovering a st)
    else if row.rws ≠ 0 then (s.storeShadow row a (BitVec.ofNat 32 v)).reply .ok
    else if row.width = 8 then
      ((s.storeWord row a (BitVec.ofNat 32 v)).storeWord row (a + 4) (BitVec.ofNat 32 (v / 2 ^ 32))).reply .ok
    else (s.storeWord row a (BitVec.ofNat 32 v)).reply .ok

/-! ### Command registers -/

/-- A write that names no command of its register: the conditions that stand before it, then E_RANGE. -/
def State.unlisted (s : State) (r : Req) (a : Nat) (before : List (Bool × Status)) : State :=
  s.hostWrite r a (firstStatus (s.writeChecks r a ++ before ++ [(true, .eRange)])) id

/-- GLB_MODE_REQ written (R25). -/
def State.writeModeReq (s : State) (r : Req) (v : Word) : State :=
  match wget v Fld.GLB_MODE_REQ_TARGET with
  | 2 => stateOf (execModeReqService r s.freeCal (s.drawn 2)) s
  | 3 => stateOf (execModeReqHold r s) s
  | 4 => stateOf (execModeReqMaintain r s) s
  | _ => s.hostWrite r Reg.GLB_MODE_REQ (firstStatus (s.hostChecks r ++ [(true, .eState)])) id

/-- VXU_CMD and VXU_GCMD written (R73, R74, R78): a GCMD whose MASK is 0 is out of range, whatever its CMD (notes/assumptions/41.md). -/
def State.writeVxu (s : State) (r : Req) (sel : VxuSel) (code : Nat) : State :=
  match code with
  | 1 => s.vxuCmd r sel .start
  | 2 => s.vxuCmd r sel .pause
  | 3 => s.vxuCmd r sel .resume
  | 4 => s.vxuCmd r sel .stop
  | _ => s.unlisted r (selReg sel) [((selUnits sel).isEmpty, .eRange), (s.mode != .service, .eState)]

/-- CAD_DCMD written (R116, R117); how far the command comes within the step is free. -/
def State.writeDcmd (s : State) (r : Req) (v : Word) : State :=
  let cmd := wget v Fld.CAD_DCMD_CMD
  let mode := wget v Fld.CAD_DCMD_MODE
  let later := s.mode == .hold || s.mode == .maintain
  let notService : List (Bool × Status) := [(s.mode != .service, .eState), (s.domBusy, .eBusy)]
  let upto : Option (BitVec 25) := some (BitVec.ofNat 25 (Config.freeNat s.fresh))
  match cmd, mode with
  | 1, 0 => stateOf (execDomOpen r upto s.draw) s
  | 2, 0 => stateOf (execDomClose r false upto s.draw) s
  | 2, 1 => stateOf (execDomClose r true upto s.draw) s
  | 3, 0 => stateOf (execDomRelease r upto s.draw) s
  | 4, 0 => stateOf (execPoolDef r upto s.draw) s
  | 5, 0 => stateOf (execPoolDel r upto s.draw) s
  | 2, _ => s.unlisted r Reg.CAD_DCMD [(!later && s.mode != .service, .eState), (s.domBusy || (later && decide (16 ≤ s.cad.closeQ.length)), .eBusy)]
  | 1, _ | 3, _ | 4, _ => s.unlisted r Reg.CAD_DCMD notService
  | 5, _ => s.unlisted r Reg.CAD_DCMD ([(s.mode != .service, .eState), (s.domBusy || (s.dPool != 0 && !(s.members s.dPool).isEmpty), .eBusy)])
  | _, _ => s.unlisted r Reg.CAD_DCMD [(s.domBusy, .eBusy)]

/-- CAD_RCMD written (R112, R119). -/
def State.writeRcmd (s : State) (r : Req) (v : Word) : State :=
  match v.toNat % 16 with
  | 1 => stateOf (execReadoutSummary r s) s
  | 2 => stateOf (execReadoutPoints r s) s
  | 3 => stateOf (execReadoutLines r s) s
  | 4 => stateOf (execReadoutCloseRecord r s) s
  | _ => s.unlisted r Reg.CAD_RCMD [(s.mode != .service, .eState), (s.cad.readout.isSome, .eBusy)]

/-- LNK_L_CMD written (R213). -/
def State.writeLaneCmd (s : State) (r : Req) (l : Fin 64) (v : Word) : State :=
  match v.toNat % 16 with
  | 1 => stateOf (execRetrain r l s) s
  | _ => s.unlisted r (Reg.LNK_L_CMD l) (lnkMode s)

/-- LNK_L_INJ written (R209, R213): a COUNT of 0 is out of range for every kind. -/
def State.writeInject (s : State) (r : Req) (l : Fin 64) (v : Word) : State :=
  let n := wget v Fld.LNK_L_INJ_COUNT
  match wget v Fld.LNK_L_INJ_KIND with
  | 1 => stateOf (execInjectBit r l (BitVec.ofNat 8 n) s) s
  | 2 => stateOf (execInjectSymbol r l (BitVec.ofNat 8 n) s) s
  | 3 => if n = 0 then s.unlisted r (Reg.LNK_L_INJ l) (lnkMode s) else stateOf (execInjectSync r l s) s
  | 4 => if n = 0 then s.unlisted r (Reg.LNK_L_INJ l) (lnkMode s) else stateOf (execInjectLol r l s) s
  | _ => s.unlisted r (Reg.LNK_L_INJ l) (lnkMode s)

/-- BST_CMD written (R337). -/
def State.writeBst (s : State) (r : Req) (v : Word) : State :=
  match v.toNat % 16 with
  | 1 => stateOf (execFulltest r s) s
  | 2 => stateOf (execFuseCommit r s) s
  | 3 => stateOf (execLegCmd r s) s
  | 4 => stateOf (execAbortFulltest r s) s
  | _ => s.unlisted r Reg.BST_CMD []

/-- FSE_CMD written (R451). -/
def State.writeFse (s : State) (r : Req) (v : Word) : State :=
  match v.toNat % 16 with
  | 1 => stateOf (execSense (.command r) s.freeWeak (s.drawn 1024)) s
  | 2 => stateOf (execReinforce r s) s
  | _ => s.unlisted r Reg.FSE_CMD []

/-- UPD_CMD written (R482, R484). -/
def State.writeUpd (s : State) (r : Req) (v : Word) : State :=
  match v.toNat % 16 with
  | 1 => stateOf (execUpdBegin r s.freeOk s.draw) s
  | 2 => stateOf (execUpdChunk r s.freeOk s.draw) s
  | 3 => stateOf (execUpdVerify r s) s
  | 4 => stateOf (execActivate r s.freeOk s.draw) s
  | 5 => stateOf (execConfirm r s) s
  | 6 => stateOf (execRollback r s) s
  | 7 => stateOf (execUpdAbort r s) s
  | _ => s.unlisted r Reg.UPD_CMD [(s.mode != .service && s.mode != .maintain, .eState), (s.updBusy, .eBusy)]

/-- RAE_CMD written (R149). -/
def State.writeRae (s : State) (r : Req) (v : Word) : State :=
  match v.toNat % 16 with
  | 1 => stateOf (execReanalyse r s) s
  | 2 => stateOf (execClearLat r s) s
  | _ => s.unlisted r Reg.RAE_CMD [(s.mode != .service, .eState)]

/-- FLT_CMD written (R401). -/
def State.writeFlt (s : State) (r : Req) (v : Word) : State :=
  match v.toNat % 16 with
  | 1 => stateOf (execAckAlertn r s) s
  | 2 => stateOf (execClearAll r s) s
  | _ => s.unlisted r Reg.FLT_CMD []

/-- CAD_SRC_CMD written (R115): a write without RESYNC does nothing. -/
def State.writeSrcCmd (s : State) (r : Req) (i : Fin 256) (v : Word) : State :=
  if v.getLsbD 0 then stateOf (execResync r i s) s
  else s.hostWrite r (Reg.CAD_SRC_CMD i) (firstStatus (s.hostChecks r)) id

/-- A 4-byte write to a word that stands for a command, if the word is one. -/
def State.writeCommand (s : State) (r : Req) (a : Nat) (v : Word) : Option State :=
  if a = Reg.GLB_MODE_REQ then some (s.writeModeReq r v)
  else if a = Reg.GLB_COMMIT then some (if wget v Fld.GLB_COMMIT_DISCARD = 1 then s.discardWrite r v else s.commitWrite r v)
  else if a = Reg.FLT_CMD then some (s.writeFlt r v)
  else if 0x10030 ≤ a ∧ a < 0x10040 then some (stateOf (execFltForce r (Fin.ofNat 4 ((a - 0x10030) / 4)) v s) s)
  else if 0x21000 ≤ a ∧ a < 0x21800 ∧ a % 16 = 0 then
    some (stateOf (execPmcSelWrite r (Fin.ofNat 128 ((a - 0x21000) / 16)) v s) s)
  else if a = Reg.SEC_DBG_CTL then some (stateOf (execDebugUnlock r v s) s)
  else if a = Reg.FSE_CMD then some (s.writeFse r v)
  else if 0x40080 ≤ a ∧ a < 0x400C0 then some (stateOf (execFseSlock r (Fin.ofNat 16 ((a - 0x40080) / 4)) v s) s)
  else if a = Reg.UPD_CMD then some (s.writeUpd r v)
  else if a = Reg.PWR_CMD then some (if v.toNat % 16 = 1 then stateOf (execClearPeak r s) s else s.unlisted r a [])
  else if a = Reg.BST_CMD then some (s.writeBst r v)
  else if 0x100000 ≤ a ∧ a < 0x110000 ∧ a % 0x400 = 0x8 then
    some (s.writeLaneCmd r (Fin.ofNat 64 ((a - 0x100000) / 0x400)) v)
  else if 0x100000 ≤ a ∧ a < 0x110000 ∧ a % 0x400 = 0x40 then
    some (stateOf (execPrbsCfgWrite r (Fin.ofNat 64 ((a - 0x100000) / 0x400)) v s) s)
  else if 0x100000 ≤ a ∧ a < 0x110000 ∧ a % 0x400 = 0x58 then
    some (s.writeInject r (Fin.ofNat 64 ((a - 0x100000) / 0x400)) v)
  else if a = Reg.DMC_FREQ_REQ then some (stateOf (execDmcFreqReq r v s) s)
  else if a = Reg.ECC_INJ_CTL then some (stateOf (execEccInjArm r v s) s)
  else if 0x400000 ≤ a ∧ a < 0x410000 ∧ a % 0x1000 = 0 then
    some (s.writeVxu r (.unit (Fin.ofNat 16 ((a - 0x400000) / 0x1000))) (v.toNat % 16))
  else if a = Reg.VXU_GCMD then some (s.writeVxu r (.group (v.extractLsb' 16 16)) (v.toNat % 16))
  else if a = Reg.CAD_DCMD then some (s.writeDcmd r v)
  else if a = Reg.CAD_RCMD then some (s.writeRcmd r v)
  else if a = Reg.CAD_EXC_RPTR then some (stateOf (execCadExcRptrWrite r v s) s)
  else if 0x501000 ≤ a ∧ a < 0x503000 ∧ a % 0x20 = 0x18 then
    some (s.writeSrcCmd r (Fin.ofNat 256 ((a - 0x501000) / 0x20)) v)
  else if a = Reg.RAE_CMD then some (s.writeRae r v)
  else if a = Reg.RAE_RING_CFG then some (stateOf (execRaeRingCfgWrite r v s) s)
  else if a = Reg.RAE_RING_RPTR then some (stateOf (execRaeRingRptrWrite r v s) s)
  else none

/-! ### The write -/

/-- A 4-byte write at an aligned word address, its role checks passed or its command's own (R493, R496). -/
def State.write4 (s : State) (r : Req) (a : Nat) (v : Word) : State :=
  match s.writeCommand r a v with
  | some t => t
  | none =>
    let st := firstStatus (s.writeChecks r a)
    if st ≠ .ok then s.reject r a true 2 st
    else
      match regRow? a with
      | none => s.reply .ok
      | some row =>
        if row.width ≠ 8 then s.writePlain r row a 2 v.toNat
        else if a = row.elem a then s.writePlain r row a 2 (v.toNat + 2 ^ 32 * s.rdN (a + 4))
        else s.writePlain r row (row.elem a) 2 (s.rdN (row.elem a) + 2 ^ 32 * v.toNat)

/-- An 8-byte write at an aligned address (R496): of one 64-bit register, or of two words, the high one only when the low one is
not rejected. -/
def State.write8 (s : State) (r : Req) (a : Nat) (v : BitVec 64) : State :=
  match row64 a with
  | some row =>
    let st := firstStatus (s.writeChecks r a)
    if st ≠ .ok then s.reject r a true 3 st else s.writePlain r row a 3 v.toNat
  | none =>
    let t := s.write4 r a (v.truncate 32)
    if t.answer.status = .ok then t.write4 r (a + 4) (v.extractLsb' 32 32) else t

/-- The role checks of an access that is rejected before its register is known to be a command: those of its word; an alert
acknowledgement is open to every role but an enrolment session's (R381, R408, R423), and the role of a commit is the commit's own check (R503, R511). -/
def State.earlyChecks (s : State) (r : Req) (a : Nat) (v : BitVec 64) : List (Bool × Status) :=
  if a = Reg.GLB_COMMIT ∨ (a = Reg.FLT_CMD ∧ v.toNat % 16 = 1) then 
      [((s.role r).isNone, .eAuth), (s.role r == some .enrolment, .ePriv)] else s.writeChecks r a

/-- A write of 1, 2, 4 or 8 bytes (R487, R492, R493); the answer is the write's status. `late`: its register does not answer in time. -/
def State.regWrite (s : State) (r : Req) (a size : Nat) (v : BitVec 64) (late : Bool) : State :=
  let st := lateStatus late
    (firstStatus (s.earlyChecks r (a / 4 * 4) v ++ [(a % size != 0, .eAlign), (decide (size < 4), .eWidth)]))
  if st ≠ .ok then s.reject r a true (sizeCode size) st
  else if size = 8 then s.write8 r a v
  else s.write4 r a (v.truncate 32)

/-- REGISTER_WRITE (R487, R493). -/
def execRegisterWrite (r : Req) (a : BitVec 32) (size : Fin 4) (v : BitVec 64) (late : Bool) (s : State) : Result :=
  .next (s.regWrite r a.toNat (2 ^ size.val) v late)

end Sys2Proof.Machine
end

