-- ==== Sys2Proof/Machine/Serve.lean ====
section
/-! DEFINITION. Sys2Proof/Machine/Serve.lean: serving what a partner asks in packets: BRD reads and BWR writes of partitions
(R234 to R236, R398), CTL requests (R238, R239, R411), the answers and their tags (R419, R420), and the received packet's way
to the unit that serves it. -/
namespace Sys2Proof.Machine

/-- The session check of a request: an untagged one has none to fail (R418). -/
def State.requestCheck (s : State) (k : Nat) (p : Packet) : State × Bool :=
  if p.tagged then s.tagCheck k p else (s, true)

/-- The session an accepted request is answered under, as it stands before the request is served. -/
def State.requestSession (s : State) (k : Nat) (p : Packet) : Option (Nat × Session) :=
  if p.tagged then s.sessionAt k (tagSid p.payload) else none

/-! ### BRD and BWR (R234 to R236) -/

/-- A partition's personality admits the access (R33): BRD of every kind but CAD, BWR of VEC and BUF. -/
def persAdmits (write : Bool) (pers : Nat) : Bool := if write then pers == 1 || pers == 4 else pers != 3

/-- A role may read the records of a scope (R397). -/
def State.scopeMay (s : State) (role : Role) (sc : Nat × Nat) : Bool :=
  match role with
  | .owner => true
  | .operator => sc.1 == 1
  | .observer => sc.1 == 1 && bitOf (s.fld Reg.PMC_CFG Fld.PMC_CFG_OBS_PART) sc.2
  | .enrolment => false

/-- Every 1 KiB slot of the DMP partition that a range touches is admitted for a role; one not yet written counts as scope
DEVICE (R398). -/
def State.dmpMay (s : State) (role : Option Role) (off n : Nat) : Bool :=
  match role with
  | none => false
  | some x => ((List.range ((off + n - 1) / 1024 + 1 - off / 1024)).map (· + off / 1024)).all (fun i =>
      s.scopeMay x (Tab.lookD s.pmc.scopes i (0, 0)))

/-- The role check of a BRD or BWR (R236, R408, R423). -/
def State.accessPriv (s : State) (r : Req) (write : Bool) (part off n : Nat) : Bool :=
  s.role r == some .enrolment || (write && s.role r == some .observer) ||
    (!write && (Tab.look s.cfg.parts part).any (fun p => p.pers == 5) && !s.dmpMay (s.role r) off n)

/-- The status of a BRD or BWR but for what its codewords hold (R236, R420). -/
def State.accessStatus (s : State) (r : Req) (write : Bool) (label part off n : Nat) : Status :=
  let p := Tab.look s.cfg.parts part
  firstStatus
    [(r.sid == 0 && s.sec.reqTag, .eAuth),
     (s.accessPriv r write part off n, .ePriv),
     (s.mode != .service, .eState),
     (s.unmapped label || !p.any (fun p => persAdmits write p.pers), .eAccess),
     (off % 8 != 0, .eAlign),
     (!p.any (fun p => decide (off + n ≤ p.size)), .eRange)]

/-- Traffic of a class on a chain that reaches `n` bytes of a partition from offset `o`: off the class's CHAINS it does not
conform (R162). Real-time requests abort ROW legs on their banks (R312). The state, and whether it conforms. -/
def State.chainTraffic (s : State) (k cls label : Nat) (p : Partition) (o n : Nat) : State × Bool :=
  let ch : State × Bool := if cls = 0 ∨ bitOf (s.classChains cls) k then s.charge cls n else (s.stray cls false, false)
  ((ch.1.reachBanks (s.realTime cls 0 ch.2) p o n).served cls n ch.2 (some label), ch.2)

/-- An admitted BRD read and answered (R234, R236, R284). -/
def State.serveRead (s : State) (k : Nat) (p : Packet) (sess : Option (Nat × Session)) (pi : Nat) (part : Partition) : State :=
  let r := brdRange (packetBody p)
  let cls := s.labelClass p.label
  let t := s.chainTraffic k cls p.label part r.1 r.2
  t.1.startBrd ⟨k, p, sess, pi, t.2, []⟩ part cls

/-- A BRD whose tag holds, or untagged (R236). -/
def State.serveBrd (s : State) (k : Fin 16) (p : Packet) : State :=
  let b := packetBody p
  let pi := leAt b 4 1
  let sess := s.requestSession k p
  match s.accessStatus (packetReq k p) false p.label pi (brdRange b).1 (brdRange b).2, Tab.look s.cfg.parts pi with
  | .ok, some part => s.serveRead k p sess pi part
  | st, _ => (s.countRefusal st).sendEmpty k 3 p.label (leAt b 0 4) sess st

/-- A BRD request accepted: its tag checked, then served (R234, R418, R420). -/
def State.brdRequest (s : State) (k : Fin 16) (p : Packet) : State :=
  let t := s.requestCheck k p
  if t.2 then t.1.serveBrd k p else t.1.sendEmpty k 3 p.label (leAt (packetBody p) 0 4) none .eAuth

/-- An admitted BWR written, unless one of its bytes lies in a lost slice (R236). -/
def State.serveWrite (s : State) (k : Nat) (p : Packet) (pi : Nat) (part : Partition) : State × Status :=
  let b := packetBody p
  let off := leAt b 8 8
  let data := b.drop 16
  let cls := s.labelClass p.label
  if s.anyLost part off data.length then (s, .eIntegrity)
  else
    let t := s.chainTraffic k cls p.label part off data.length
    ((t.1.writeBytes pi part off data cls t.2).count 0x16 data.length p.label (some pi) off (leAt b 0 4), .ok)

/-- A BWR whose tag holds, or untagged: a completion is sent when RESP is 1 or the status is not OK (R235, R236). -/
def State.serveBwr (s : State) (k : Fin 16) (p : Packet) : State :=
  let b := packetBody p
  let pi := leAt b 4 1
  let sess := s.requestSession k p
  let out : State × Status :=
    match s.accessStatus (packetReq k p) true p.label pi (leAt b 8 8) (b.length - 16), Tab.look s.cfg.parts pi with
    | .ok, some part => s.serveWrite k p pi part
    | st, _ => (s.countRefusal st, st)
  if leAt b 5 1 = 1 ∨ out.2 ≠ .ok then out.1.sendEmpty k 4 p.label (leAt b 0 4) sess out.2 else out.1

/-- A BWR request accepted. -/
def State.bwrRequest (s : State) (k : Fin 16) (p : Packet) : State :=
  let t := s.requestCheck k p
  if t.2 then t.1.serveBwr k p else t.1.sendEmpty k 4 p.label (leAt (packetBody p) 0 4) none .eAuth

/-! ### CTL operations (R239, R411, R412) -/

/-- What an operation gives: the state, its status, and its response slots. -/
structure OpOut where
  st : State
  status : Status
  slots : List Byte

/-- A response slot: OP, status, ADDR and data (R238). -/
def respSlot (op : Nat) (st : Status) (addr : Nat) (data : List Byte) : List Byte :=
  leBytes 1 op ++ leBytes 1 st.code ++ [0#8, 0#8] ++ leBytes 4 addr ++ slice (data ++ List.replicate 8 0#8) 0 8

/-- A session operation's form (R411, R412): SIZE zero, ADDR[31:8] zero and the XLEN of its row; OPEN's XLEN is checked with its
structure (R415). -/
def sessionForm (slot ext : List Byte) : Bool :=
  leAt slot 1 1 == 0 && leAt slot 4 4 < 256 &&
    (match leAt slot 0 1 with
      | 0x21 => true
      | 0x24 => ext.length == 32
      | 0x26 => ext.length == 16
      | _ => ext.length == 0)

/-- A session operation run (R412). -/
def State.sessionOp (s : State) (r : Req) (op : Nat) (ext : List Byte) : State :=
  match op with
  | 0x20 => s.opNonce r
  | 0x21 => s.opOpen r ext
  | 0x22 => s.opClose r
  | 0x23 => s.opIdentity r
  | 0x24 => s.opAttest r ext
  | 0x25 => s.opEnroll r
  | 0x26 => s.opEvict r ext
  | _ => s.sessionReply .eRange

/-- A session operation checked and run: an OP that R412 does not list is E_RANGE; the role checks of the others come before the check of
their form (R424). `late`: one that is no public-key operation is not served within its wait, and is answered without effect (R240). -/
def State.sessionChecked (s : State) (r : Req) (op : Nat) (slot ext : List Byte) (late : Bool) : State :=
  if !lenBetween 0x20 0x26 op then s.sessionReply .eRange
  else if !sessionForm slot ext then s.sessionReply (firstStatus (s.opChecks r op ++ [(true, .eRange)]))
  else if late && !lenBetween 0x24 0x25 op && op != 0x21 then s.sessionReply (firstStatus (s.opChecks r op ++ [(true, .eBusy)]))
  else s.sessionOp r op ext

/-- A session operation and its response slots: RLEN stands in ADDR[15:8], and the response extension follows (R411). -/
def State.runSessionOp (s : State) (r : Req) (slot ext : List Byte) (late : Bool) : OpOut :=
  let op := leAt slot 0 1
  let t := s.sessionChecked r op slot ext late
  let data := t.answer.data
  let rlen := ceilDiv data.length 16
  let addr := leAt slot 4 4
  ⟨t, t.answer.status,
    respSlot op t.answer.status (addr / 65536 * 65536 + rlen * 256 + addr % 256) [] ++ data ++
      List.replicate (16 * rlen - data.length) 0#8⟩

/-- One operation of a CTL request (R239); `late`: its register does not answer in time (R240). -/
def State.runOp (s : State) (r : Req) (slot ext : List Byte) (late : Bool) : OpOut :=
  let op := leAt slot 0 1
  let addr := leAt slot 4 4
  let size := 2 ^ leAt slot 1 1
  if op / 16 = 2 then s.runSessionOp r slot ext late
  else if (op ≠ 1 ∧ op ≠ 2) ∨ 3 < leAt slot 1 1 then
    ⟨s.reply .eRange, .eRange, respSlot op .eRange addr []⟩
  else if op = 1 then
    let t := s.regRead r addr size late
    ⟨t.1, t.2.1, respSlot op t.2.1 addr t.2.2⟩
  else
    let t := s.regWrite r addr size (BitVec.ofNat 64 (leAt slot 8 8)) late
    ⟨t, t.answer.status, respSlot op t.answer.status addr []⟩

/-- The operations in order, until one fails when STOP is 1: the state, the response slots and how many were executed. Bit i of
`late` belongs to operation i. -/
def State.runOps (s : State) (r : Req) (stop : Bool) (late : BitVec 32) : List (List Byte × List Byte) → State × List Byte × Nat
  | [] => (s, [], 0)
  | e :: rest =>
    let o := s.runOp r e.1 e.2 (late.getLsbD 0)
    if stop && o.status != .ok then (o.st, o.slots, 1)
    else
      let t := o.st.runOps r stop (late >>> 1) rest
      (t.1, o.slots ++ t.2.1, t.2.2 + 1)

/-- An operation that an untagged request may hold (R239, R499). -/
def untaggedOp (slot : List Byte) : Bool :=
  leAt slot 0 1 / 16 == 2 ||
    (leAt slot 0 1 == 1 && decide (leAt slot 1 1 ≤ 3) && publicAccess (leAt slot 4 4) (2 ^ leAt slot 1 1))

/-- A session operation of R412. -/
def sessionSlotOp (slot : List Byte) : Bool := lenBetween 0x20 0x26 (leAt slot 0 1)

/-- The checks of a request as a whole after its tag (R239, R411). -/
def ctlStatus (tagged modeOk : Bool) (items : List (List Byte × List Byte)) : Status :=
  firstStatus
    [(!modeOk, .eState),
     (decide (1 < items.length) && items.any (fun (e : List Byte × List Byte) => sessionSlotOp e.1), .eRange),
     (!tagged && !items.all (fun (e : List Byte × List Byte) => untaggedOp e.1), .eAuth)]

/-- A response: CID, NOPS, STOP, status, NDONE, and the slots (R238). -/
def ctlResponse (body : List Byte) (st : Status) (slots : List Byte) (done : Nat) : List Byte :=
  slice body 0 4 ++ leBytes 1 (slots.length / 16) ++ leBytes 1 (leAt body 5 1) ++ leBytes 1 st.code ++ leBytes 1 done ++
    List.replicate 8 0#8 ++ slots

/-- A CTL request, over a chain or I3C, once its tag has been checked: the state and the response's payload. -/
def State.ctlServe (s : State) (r : Req) (tagged modeOk : Bool) (body : List Byte) (late : BitVec 32) : State × List Byte :=
  let items := (ctlItems 64 (ctlSlots body)).getD []
  match ctlStatus tagged modeOk items with
  | .ok =>
    let t := s.runOps r (leAt body 5 1 == 1) late items
    (t.1, ctlResponse body .ok t.2.1 t.2.2)
  | st => (s.countRefusal st, ctlResponse body st [] 0)

/-- A CTL request accepted on a chain: its credits stand owed until the response is sent (R229, R239). -/
def State.ctlRequest (s : State) (k : Fin 16) (p : Packet) (late : BitVec 32) : State :=
  let x := s.chainP k
  let s0 := s.setChainP k { x with ctlOwed := x.ctlOwed ++ [pktCost p] }
  let t := s0.requestCheck k p
  if t.2 then
    let sess := t.1.requestSession k p
    let u := (t.1.servingFor sess).ctlServe (packetReq k p) p.tagged t.1.sessionModes (packetBody p) late
    match u.1.enrolBegun t.1 (.chain k (packetBody p)) with
    | some v => v.servingDone
    | none => (u.1.answerWith k sess (newPacket 5 0 u.2)).servingDone
  else t.1.answerWith k none (newPacket 5 0 (ctlResponse (packetBody p) .eAuth [] 0))

/-! ### A received packet (R221) -/

/-- An accepted packet handed to what serves its type. -/
def State.dispatchPacket (s : State) (k : Fin 16) (p : Packet) (late : BitVec 32) : State :=
  match p.type with
  | 0 => s.takeGrants k p.payload
  | 2 => s.failPacket k p.payload
  | 3 => s.brdRequest k p
  | 4 => s.bwrRequest k p
  | 5 => s.ctlRequest k p late
  | _ => s

/-- A packet received without a link error of its blocks (R218, R221); `late` names the operations of a CTL request that do not find
their register in time (R240). -/
def State.receive (s : State) (k : Fin 16) (p : Packet) (reserved : Bool) (late : BitVec 32 := 0) : State :=
  match s.judgePacket k p reserved with
  | .unseen => s
  | .linkError => s.linkError k
  | .overrun => s.overrun k
  | .duplicate => (s.satInc (Reg.LNK_P_RX_DISCARD k)).sendAck k
  | .contentError => (s.acceptPacket k p).contentError k p
  | .accepted => (s.acceptPacket k p).dispatchPacket k p late

/-- What stands between a START and its END, or where a START is missing, taken as a packet: a link error, unless its blocks spell
one (R216, R218). Error slots alone are no packet. -/
def State.closeBlocks (s : State) (k : Fin 16) (late : BitVec 32) (l : List (Option RxBlock)) : State :=
  if l.all Option.isNone then s
  else match readPacket l with
    | some (p, reserved) => s.receive k p reserved late
    | none => s.linkError k

/-- The stripe blocks gathered are whole but for an END. -/
def blocksFull : List (Option RxBlock) → Bool
  | some h :: r => h.isStart && decide (h.inner ≤ r.length)
  | _ => false

/-- One stripe block position taken, none for an error slot (R216, R218): ACK and NAK are removed and take effect; START and END
bound a packet; a packet whose END does not stand in its place has a link error. -/
def State.takeSlot (s : State) (k : Fin 16) (late : BitVec 32) (b : Option RxBlock) : State :=
  let x := s.chainP k
  let keep : List (Option RxBlock) → State := fun l => s.setChainP k { x with rxAsm := l }
  if !s.takesBlocks k then s
  else match b.bind RxBlock.slot with
    | none => if blocksFull x.rxAsm then (keep []).closeBlocks k late (x.rxAsm ++ [none]) else keep (x.rxAsm ++ [none])
    | some c =>
      if c.isCtl 0x91 then s.ackTaken k (bitsOf c.body 55 40)
      else if c.isCtl 0x92 then s.nakTaken k (bitsOf c.body 55 40)
      else if c.isStart then (keep [some c]).closeBlocks k late x.rxAsm
      else if c.isCtl 0x90 || blocksFull x.rxAsm then (keep []).closeBlocks k late (x.rxAsm ++ [some c])
      else keep (x.rxAsm ++ [some c])

/-- An ACK block whose CRC holds. -/
def isAck (b : Option RxBlock) : Bool := b.any (fun c => c.isCtl 0x91)

/-- The blocks of one stripe taken in ascending lane index, but that an ACK takes effect before a NAK that arrives with it (R192, R246). -/
def State.takeStripe (s : State) (k : Fin 16) (late : BitVec 32) (l : List (Option RxBlock)) : State :=
  (l.filter isAck ++ l.filter (fun b => !isAck b)).foldl (fun (t : State) b => t.takeSlot k late b) s

/-- PACKET_RECEIVE (R216, R218, R221): the stripe blocks that the lanes deliver, none for an error slot, a stripe after the other. -/
def execPacketReceive (k : Fin 16) (slots : List (Option RxBlock)) (late : BitVec 32) (s : State) : Result :=
  .next ((chunks (max 1 (popcount 16 (s.chainL k).rxMask)) slots.length slots).foldl (fun (t : State) l => t.takeStripe k late l) s)

/-- CREDIT (R227): a CREDIT packet without link error. -/
def execCreditPacket (k : Fin 16) (p : Packet) (s : State) : Result := .next (s.receive k { p with type := 0 } false)

/-- BRD (R234): a BRD request without link error. -/
def execBrd (k : Fin 16) (p : Packet) (s : State) : Result := .next (s.receive k { p with type := 3 } false)

/-- BWR (R235): a BWR request without link error. -/
def execBwr (k : Fin 16) (p : Packet) (s : State) : Result := .next (s.receive k { p with type := 4 } false)

/-- CTL_REQUEST (R239): a CTL request without link error. -/
def execCtlRequest (k : Fin 16) (p : Packet) (late : BitVec 32) (s : State) : Result :=
  .next (s.receive k { p with type := 5 } false late)

/-! ### Codewords and destriping (R185, R189, R192, R193) -/

/-- The lanes of a chain whose codewords its received stripes wait for: those of the receive mask and of a switch to come that are in
STANDBY or ACTIVE and hold codeword lock, but for the ones that a pending DROP takes out. -/
def State.rxLanes (s : State) (k : Nat) : List Nat :=
  let x := s.chainL k
  (x.lanesIn (x.rxMask ||| (match x.rxSwitch with
    | some w => w.mask
    | none => 0))).filter (fun l => ((s.lane l).state == .active || (s.lane l).state == .standby) && (s.lane l).cwLock &&
      !x.leaving.any (fun e => e.1 == l))

/-- A codeword that waits for those of the other lanes: only lanes in step with their markers are deskewed (R188, R193). -/
def State.queueCodeword (s : State) (k l : Nat) (slots : List (Option RxBlock)) : State :=
  let x := s.lane l
  match x.phase with
  | some n =>
    if (s.rxLanes k).contains l then s.setLane l { x with rxq := x.rxq ++ [(n, slots)] } else s
  | none => s

/-- The switch of the receive direction that the next stripe brings: its stripe is reached, or the chain receives its first one. -/
def ChainLnk.rxDue (x : ChainLnk) : Option Switch :=
  match x.rxSwitch with
  | some w => if x.rxMask = 0 ∨ (x.rxStripe + 4294967296 - w.stripe) % 4294967296 < 2147483648 then some w else none
  | none => none

/-- The lanes that the next received stripe stands on. -/
def ChainLnk.rxNext (x : ChainLnk) : List Nat :=
  match x.rxDue with
  | some w => x.lanesIn w.mask
  | none => x.lanesIn x.rxMask

/-- The number of the next stripe as a marker of the receive epoch gives it (R187): the one nearest to the count whose low 16 bits it
carries. -/
def ChainLnk.markedStripe (x : ChainLnk) (b : RxBlock) : Nat :=
  if b.isCtl 0x4B ∧ bitsOf b.body 45 40 = x.rxEpoch then
    let ahead := (bitsOf b.body 39 24 + 65536 - x.rxStripe % 65536) % 65536
    if ahead < 32768 then (x.rxStripe + ahead) % 4294967296 else (x.rxStripe + 4294967296 + ahead - 65536) % 4294967296
  else x.rxStripe

/-- One block position of the lanes of a chain, in ascending lane index (R189, R192): a column with a lane block is deleted, and a marker
in it puts the stripe count right; otherwise it is the next stripe, whose blocks go to the packet layer. A switch of the receive direction
comes before its stripe. -/
def State.rxColumn (s : State) (k : Fin 16) (late : BitVec 32) (f : Nat → Option RxBlock) : State :=
  let x := s.chainL k
  match (x.rxNext.filterMap f).find? RxBlock.isLane with
  | some b => if x.rxMask = 0 then s else s.setChainL k { x with rxStripe := x.markedStripe b }
  | none =>
    let s1 : State := match x.rxDue with
      | some w => s.switchRx k w
      | none => s
    let y := s1.chainL k
    if y.rxMask = 0 then s1
    else (s1.setChainL k { y with rxStripe := (y.rxStripe + 1) % 4294967296 }).takeStripe k late ((y.lanesIn y.rxMask).map f)

/-- The codeword at the head of a lane's queue: its place behind the marker and its slots. -/
def State.rxHead (s : State) (l : Nat) : Nat × List (Option RxBlock) := (s.lane l).rxq.headD (0, [])

/-- The codewords at the head of some lanes' queues taken out. -/
def State.popCodewords (s : State) (ls : List Nat) : State :=
  ls.foldl (fun (t : State) l => t.setLane l { t.lane l with rxq := (t.lane l).rxq.drop 1 }) s

/-- The codewords of the earliest place behind the markers destriped once every lane has one; a lane whose next codeword stands at a later
place fills its part of the stripes with error slots (R193, R218). -/
def State.destripe (s : State) (k : Fin 16) (late : BitVec 32) : Nat → State
  | 0 => s
  | fuel + 1 =>
    let ls := s.rxLanes k
    if ls.isEmpty || ls.any (fun l => (s.lane l).rxq.isEmpty) then s
    else
      let place : Nat → Nat := fun l => (s.rxHead l).1
      let first := ls.foldl (fun m l => if (m + 256 - place l) % 256 < 128 then place l else m) (place (ls.headD 0))
      let on := ls.filter (fun l => place l == first)
      ((List.range 80).foldl (fun (t : State) i =>
        t.rxColumn k late (fun l => if on.contains l then (s.rxHead l).2.getD i none else none)) (s.popCodewords on)).destripe k late fuel

/-- A codeword of a lane taken (R185, R188, R189, R192, R193, R198): counted and checked; then the stripes it completes go to the packet
layer. `c` is what the decoding leaves (R184). -/
def State.takeCodeword (s : State) (k l : Nat) (c : Nat × Option Nat × List RxBlock) (offs : Nat) (late : BitVec 32) : State :=
  let s1 := s.codeword k l c.1 c.2.1 c.2.2 offs
  let lost := s1.codewordLoss k l (s.lane l).cwLock
  if lost.1.isEmpty then (s1.queueCodeword k l (codewordSlots c.2.1 c.2.2)).destripe (Fin.ofNat 16 k) late 64
  else s1.loseLanes k lost.1 lost.2

/-- FEC_CODEWORD_RECEIVED (R184, R185), on a lane that receives blocks: the 544 symbols of a codeword, decoded. -/
def execFecCodewordReceived (l : Fin 64) (symbols : List (BitVec 10)) (offs : Fin 5) (late : BitVec 32) (s : State) : Result :=
  if symbols.length ≠ 544 then .fault .illFormed
  else
    match s.chainOf l with
    | some k =>
      if s.lanesRun ∧ (s.lane l).locked then .next (s.takeCodeword k l (fecReceive (s.lane l).scr symbols) offs late) else .next s
    | none => .next s

end Sys2Proof.Machine
end

