-- ==== Sys2Proof/Machine/I3c.lean ====
section
/-! DEFINITION. Sys2Proof/Machine/I3c.lean: the I3C target port (R488 to R491): its addresses and common command codes, direct
reads, CTL frames and the answer that waits. -/
namespace Sys2Proof.Machine

/-! ### Answers of the port -/

/-- The dynamic address that the port answers to: none while RESET_N is low, when I3C_SDA is high-impedance (R516). -/
def State.i3cAddress (s : State) : Option Nat := if s.aon.resetN then s.i3c.da else none

/-- Bytes returned on the bus. -/
def State.i3cReturn (s : State) (l : List Byte) : State := s.emit (.i3c l)

/-- A NACK of the port. -/
def State.i3cNack (s : State) : State := s.emit .i3cNack

/-- The context of the port without a session, or with that of a tagged frame (R486). -/
def i3cReq (sid : Nat) : Req := ⟨.i3c, sid⟩

/-- A private write arrives: an unread answer is discarded and counted (R491). -/
def State.i3cArrive (s : State) : State :=
  if s.i3c.answer.isSome then
    { s with i3c := { s.i3c with answer := none, answerSid := 0, dropped := min 65535 (s.i3c.dropped + 1) } }
  else s

/-- A frame discarded and counted (R490). -/
def State.badFrame (s : State) : State :=
  { s with i3c := { s.i3c with badFrame := min 255 (s.i3c.badFrame + 1) } }

/-- The answer of the port stands ready, tagged under a SID or untagged. -/
def State.i3cAnswer (s : State) (l : List Byte) (sid : Nat := 0) : State :=
  let a : Option (List Byte) := some l
  { s with i3c := { s.i3c with answer := a, answerSid := sid } }

/-! ### Private transfers (R489 to R491) -/

/-- Kind 0x01: a direct READ of the public read-only subset, under no session: status and data of the size asked. -/
def State.i3cRead (s : State) (l : List Byte) (late : Bool) : State :=
  if l.length = 5 ∧ leAt l 4 1 ≤ 3 then
    let t := s.regRead (i3cReq 0) (leAt l 0 4) (2 ^ leAt l 4 1) late
    t.1.i3cAnswer (leBytes 1 t.2.1.code ++ t.2.2)
  else s.badFrame

/-- A CTL frame as a packet: label 0, TAGGED, the payload and the tag. -/
def framePacket (l : List Byte) : Packet :=
  let n := leAt l 1 2
  let tagged := leAt l 0 1 == 1
  { lseq := 0, type := 5, label := 0, tagged := tagged, payload := slice l 3 n, tag := if tagged then l.drop (3 + n) else [] }

/-- A frame's form (R489, R490): the reserved bits zero, L a multiple of 8 from 16 to 544, as many bytes as it says, and the
structure of a CTL request (R239). -/
def frameOk (l : List Byte) : Bool :=
  let n := leAt l 1 2
  decide (leAt l 0 1 < 2) && lenBetween 16 544 n && n % 8 == 0 &&
    l.length == 3 + n + (if leAt l 0 1 = 1 then 32 else 0) && contentOk (framePacket l)

/-- The answer to a frame: the length of the response payload, the payload, and its tag when the request was tagged. -/
def frameAnswer (p : Packet) : List Byte := leBytes 2 p.payload.length ++ p.payload ++ p.tag

/-- The response to a frame prepared: tagged under the session of the request, while SEC holds its keys (R419, R422). -/
def State.i3cRespond (s : State) (sess : Option (Nat × Session)) (l : List Byte) : State :=
  match sess with
  | none => s.i3cAnswer (frameAnswer (newPacket 5 0 l))
  | some e =>
    if s.keysHeld e then
      let t := s.tagPacket e.1 e.2 (newPacket 5 0 l)
      t.1.i3cAnswer (frameAnswer t.2) e.2.sid
    else s

/-- A frame whose session check has been made: served, and its answer prepared, but for an ENROLL, which is answered at its end. -/
def State.i3cServe (s : State) (p : Packet) (late : BitVec 32) : State :=
  let sess := if p.tagged then s.sessionAt 16 (tagSid p.payload) else none
  let u := (s.servingFor sess).ctlServe (i3cReq (if p.tagged then tagSid p.payload else 0)) p.tagged s.sessionModes (packetBody p) late
  match u.1.enrolBegun s (.frame (packetBody p)) with
  | some v => v.servingDone
  | none => (u.1.i3cRespond sess u.2).servingDone

/-- Kind 0x05: a CTL frame, checked and served as a CTL packet is (R490). -/
def State.i3cFrame (s : State) (l : List Byte) (late : BitVec 32) : State :=
  if frameOk l then
    let p := framePacket l
    let t := if p.tagged then s.tagCheck 16 p else (s, true)
    if t.2 then t.1.i3cServe p late
    else t.1.i3cAnswer (frameAnswer (newPacket 5 0 (ctlResponse (packetBody p) .eAuth [] 0)))
  else s.badFrame

/-- A private write to the port's dynamic address: without one, no target answers. Bit i of `late`: operation i does not find its
register in time (R240, R487). -/
def State.i3cWrite (s : State) (l : List Byte) (late : BitVec 32) : State :=
  if s.i3cAddress.isNone then s.i3cNack
  else
    match l with
    | 1#8 :: r => s.i3cArrive.i3cRead r (late.getLsbD 0)
    | 5#8 :: r => s.i3cArrive.i3cFrame r late
    | _ => s.i3cArrive.badFrame

/-- I3C_DIRECT_READ (R489): the private write of kind 0x01, with the bytes after the kind. -/
def execI3cDirectRead (bytes : List Byte) (late : Bool) (s : State) : Result :=
  .next (s.i3cWrite (1#8 :: bytes) (if late then 1#32 else 0#32))

/-- I3C_CTL_FRAME (R490): a private write of another kind byte, 0x05 for a CTL frame. -/
def execI3cCtlFrame (bytes : List Byte) (late : BitVec 32) (s : State) : Result := .next (s.i3cWrite bytes late)

/-- I3C_PRIVATE_READ (R489): the answer is fetched; without one the address is NACKed. -/
def execI3cPrivateRead (s : State) : Result :=
  match s.i3cAddress, s.i3c.answer with
  | some _, some l => .next (({ s with i3c := { s.i3c with answer := none, answerSid := 0 } }).i3cReturn l)
  | _, _ => .next s.i3cNack

/-! ### Common command codes (R488) -/

/-- The bytes of a number, most significant first, as I3C sends them. -/
def beBytes (count n : Nat) : List Byte := (leBytes count n).reverse

/-- The 48-bit provisional ID. -/
def State.pid (s : State) : Nat :=
  Config.manufacturerId.toNat * 2 ^ 33 + 0x1648 * 2 ^ 16 + 0 * 2 ^ 12 + (if s.fse.sensed then s.serial else 0) % 4096

/-- A dynamic address taken. -/
def State.takeAddress (s : State) (a : Nat) : State :=
  let da : Option Nat := some a
  { s with i3c := { s.i3c with da := da } }

/-- ENTDAA: a target without a dynamic address shows its ID, BCR and DCR and takes the address. -/
def execEntdaa (addr : BitVec 7) (s : State) : Result :=
  if s.i3c.da.isSome ∨ s.aon.resetN = false then .next s
  else .next ((s.i3cReturn (beBytes 6 s.pid ++ [0#8, 0#8])).takeAddress addr.toNat)

/-- SETDASA: from the static address 0x3A. -/
def execSetdasa (static : BitVec 7) (addr : BitVec 7) (s : State) : Result :=
  if static = 0x3A#7 ∧ s.i3c.da.isNone ∧ s.aon.resetN then .next (s.takeAddress addr.toNat) else .next s

/-- SETNEWDA: directed at the dynamic address held. -/
def execSetnewda (addr : BitVec 7) (s : State) : Result :=
  if s.i3cAddress.isSome then .next (s.takeAddress addr.toNat) else .next s

/-- RSTDAA: the dynamic address is given up. -/
def execRstdaa (s : State) : Result := .next { s with i3c := { s.i3c with da := none } }

/-- ENEC: acknowledged, and nothing changes. -/
def execEnec (s : State) : Result := .next s

/-- DISEC: acknowledged, and nothing changes. -/
def execDisec (s : State) : Result := .next s

/-- A code that asks for a reply, directed at the dynamic address held. -/
def State.i3cGet (s : State) (l : List Byte) : State := if s.i3cAddress.isSome then s.i3cReturn l else s.i3cNack

/-- GETPID. -/
def execGetpid (s : State) : Result := .next (s.i3cGet (beBytes 6 s.pid))

/-- GETBCR: 0x00. -/
def execGetbcr (s : State) : Result := .next (s.i3cGet [0#8])

/-- GETDCR: 0x00. -/
def execGetdcr (s : State) : Result := .next (s.i3cGet [0#8])

/-- GETSTATUS: two bytes whose value the manual does not give. -/
def execGetstatus (s : State) : Result := .next ((s.draw).i3cGet (beBytes 2 (Config.freeNat s.fresh)))

/-- GETMWL: 580 bytes. -/
def execGetmwl (s : State) : Result := .next (s.i3cGet (beBytes 2 580))

/-- GETMRL: 578 bytes. -/
def execGetmrl (s : State) : Result := .next (s.i3cGet (beBytes 2 578))

/-- I3C_UNSUPPORTED_CCC: ignored, and NACKed where a reply is requested. -/
def execI3cUnsupportedCcc (reply : Bool) (s : State) : Result := if reply then .next s.i3cNack else .next s

end Sys2Proof.Machine
end

