-- ==== Sys2Proof/Machine/FuseEnd.lean ====
section
/-! DEFINITION. Sys2Proof/Machine/FuseEnd.lean: the end of a fuse operation (R439, R440, R448), with what follows for the command that
ordered it (R318, R408, R472). -/
namespace Sys2Proof.Machine

/-- The CTL response to the ENROLL of a request body (R238, R411). -/
def enrolResponse (body : List Byte) (st : Status) : List Byte :=
  ctlResponse body .ok (respSlot 0x25 st 0 []) 1

/-- The answer of an ENROLL sent, and after it those of its session that have waited for it (R240, R408). -/
def State.enrolAnswer (s : State) (j : EnrolJob) (st : Status) : State :=
  let s1 := { s with sec := { s.sec with enrol := none } }
  match j.via with
  | .command => s1.sessionReply st
  | .chain k body =>
    ((newPacket 5 0 (enrolResponse body st), true) :: j.later).foldl (fun (t : State) e => t.sendTagged k j.sess e.1 e.2) s1
  | .frame body => s1.i3cRespond (some j.sess) (enrolResponse body st)
  | .lost => s1

/-- The end of an ENROLL (R408): the answer; on success the session ends, and the stack is OWNED. -/
def State.enrolOver (s : State) (j : EnrolJob) (st : Status) : State :=
  let s1 := s.enrolAnswer j st
  if st = .ok then
    let s2 := s1.endSessions (fun x => x.sid == j.req.sid && x.path == j.req.path.num)
    ({ s2 with sec := { s2.sec with lifecycle := .owned, anchor := s2.anchorNow } }).event Reg.SEC_EVENTS Fld.SEC_EVENTS_ENROLLED
  else s1.forgetSessions

/-- What follows the end of an operation: a repair commit clears the log (R318), the ENROLL in progress is answered (R408), and an
activation goes on to its warm load or ends with the status (R472). -/
def State.fuseDone (s : State) (k : FuseKind) (st : Status) : State :=
  match k with
  | .repair => if st = .ok then ({ s with bst := { s.bst with log := [] } }).ledgerWrote [.repair 0] else s
  | .advance => s
  | .reinforce => s
  | .enrol => match s.sec.enrol with
    | some j => s.enrolOver j st
    | none => s
  | .patch => if st = .ok then s.beginWarm else s.updDone st

/-- FUSE_OPERATION_END (R439, R440, R448): the steps that were still to come, up to one that ends the operation. -/
def execFuseOperationEnd (res : FuseResult) (s : State) : Result :=
  match s.fse.op with
  | none => .next s
  | some o =>
    let x := o.steps.foldl FuseRun.step ⟨s, res, 0, none⟩
    let st := x.stop.getD .ok
    .next ((x.st.fuseEnds st x.pulses).fuseDone o.kind st).fuseNext

end Sys2Proof.Machine
end

