-- ==== Sys2Proof/Machine/TestPort.lean ====
section
/-! DEFINITION. Sys2Proof/Machine/TestPort.lean: the IEEE 1149.1 test access port (R427, R531, R532) and the levels of the
output pins under it (R515, R516). -/
namespace Sys2Proof.Machine

/-! ### The controller (R531, IEEE 1149.1) -/

/-- The next state of the TAP controller at a rising edge of TCK with a level of TMS. -/
def tapNext (t : TapState) (tms : Bool) : TapState :=
  match t, tms with
  | .reset, true => .reset
  | .reset, false => .idle
  | .idle, true => .selDr
  | .idle, false => .idle
  | .selDr, true => .selIr
  | .selDr, false => .capDr
  | .capDr, true => .ex1Dr
  | .capDr, false => .shDr
  | .shDr, true => .ex1Dr
  | .shDr, false => .shDr
  | .ex1Dr, true => .updDr
  | .ex1Dr, false => .pauDr
  | .pauDr, true => .ex2Dr
  | .pauDr, false => .pauDr
  | .ex2Dr, true => .updDr
  | .ex2Dr, false => .shDr
  | .updDr, true => .selDr
  | .updDr, false => .idle
  | .selIr, true => .reset
  | .selIr, false => .capIr
  | .capIr, true => .ex1Ir
  | .capIr, false => .shIr
  | .shIr, true => .ex1Ir
  | .shIr, false => .shIr
  | .ex1Ir, true => .updIr
  | .ex1Ir, false => .pauIr
  | .pauIr, true => .ex2Ir
  | .pauIr, false => .pauIr
  | .ex2Ir, true => .updIr
  | .ex2Ir, false => .shIr
  | .updIr, true => .selDr
  | .updIr, false => .idle

/-! ### Instructions (R427, R531, R532) -/

/-- The data register an instruction selects; that of the wrapper, die-to-die and manufacturing codes the manual does not
give. -/
inductive DataReg where
  | idcode | boundary | bypass | unstated
deriving DecidableEq, Repr

/-- A gated code is open in a lifecycle (R427): every code in VENDOR, else by UNLOCK and the selection in effect. -/
def State.tapOpen (s : State) (code : Nat) : Bool :=
  s.lifecycleNow == .vendor ||
    (s.dbgOpen && ((decide (0x40 ≤ code) && decide (code ≤ 0x5F) && s.flag Reg.SEC_DBG_CTL Fld.SEC_DBG_CTL_P1500) ||
      (decide (0x60 ≤ code) && decide (code ≤ 0x7F) && s.flag Reg.SEC_DBG_CTL Fld.SEC_DBG_CTL_P1838)))

/-- The data register of an instruction in effect (R531, R532). A code that is closed or not listed selects the bypass
register; EXTEST acts as BYPASS while RESET_N is high. -/
def State.tapSelects (s : State) (code : Nat) : DataReg :=
  if code = 0x01 then .idcode
  else if code = 0x02 then .boundary
  else if code = 0x03 then (if s.aon.resetN then .bypass else .boundary)
  else if 0x40 ≤ code ∧ code ≤ 0xFE ∧ s.tapOpen code then .unstated
  else .bypass

/-- IDCODE (R531). -/
def tapIdcode : Nat := 0x016489CB

/-- The lowest bits of a number, bit 0 first. -/
def bitsUp (count n : Nat) : List Bool := (List.range count).map (bitOf n)

/-- The number of a list of bits, bit 0 first. -/
def bitsNat : List Bool → Nat
  | [] => 0
  | b :: r => b2n b + 2 * bitsNat r

/-! ### The pins as the stack drives them (R380, R381, R516) -/

/-- What the stack's own logic drives on FAULT_N: low, or nothing (open drain, and hi-Z while RESET_N is low). -/
def State.systemFaultN (s : State) : Option Bool := if s.aon.resetN && s.faultNLow then some false else none

/-- What it drives on ALERT_N. -/
def State.systemAlertN (s : State) : Option Bool := if s.aon.resetN && s.alertNLow then some false else none

/-- What it drives on THERMTRIP_N. -/
def State.systemThermtripN (s : State) : Option Bool := if s.thermtripNLow then some false else none

/-- What it drives on FL_RESET_N: low with RESET_N, and on until 50 µs after both pins are high (R516, R529). Where GTIME, which starts
with the root PLL, does not tell that time, the level is free. -/
def State.systemFlResetN (s : State) : Option Bool :=
  some (s.aon.resetN && s.aon.pwrgood && (s.mode != .cold || decide (15625 ≤ s.now) || Config.freeNat s.fresh % 2 == 1))

/-- The flash bus stands still: RESET_N low, or SAFE (R516). -/
def State.flashStill (s : State) : Bool := !s.aon.resetN || s.mode == .safe

/-- EXTEST, HIGHZ or CLAMP controls the pins: only while RESET_N is low (R532). -/
def State.tapControls (s : State) : Bool := !s.aon.resetN && (s.tap.ir == 3 || s.tap.ir == 4 || s.tap.ir == 5)

/-- What stands on an output pin whose output and control cells have these numbers: the boundary cells decide under EXTEST and
CLAMP, nothing is driven under HIGHZ. Which level of a control cell enables its output the manual does not say. -/
def State.pinDrive (s : State) (out ctl : Nat) (system : Option Bool) : Option Bool :=
  if s.tapControls then
    if s.tap.ir == 4 then none
    else if s.tap.cells.getD ctl false == Config.controlEnables then some (s.tap.cells.getD out false)
    else none
  else system

/-- FAULT_N, ALERT_N and THERMTRIP_N: the level driven, or none. -/
def State.faultN (s : State) : Option Bool := s.pinDrive 2 3 s.systemFaultN

/-- ALERT_N. -/
def State.alertN (s : State) : Option Bool := s.pinDrive 4 5 s.systemAlertN

/-- THERMTRIP_N. -/
def State.thermtripN (s : State) : Option Bool := s.pinDrive 6 7 s.systemThermtripN

/-- FL_RESET_N. -/
def State.flResetN (s : State) : Option Bool := s.pinDrive 41 42 s.systemFlResetN

/-! ### Capture (R532) -/

/-- What the output cells of an open-drain pin capture: the level wanted, and whether it is driven, as a control cell shows
it. -/
def outCells (v : Option Bool) : List Bool :=
  [v != some false, if v.isSome then Config.controlEnables else !Config.controlEnables]

/-- The cells of a bidirectional pin: free ones, but for the control cell of a pin that is not driven (R516). -/
def bidirCells (free : List Bool) (hiZ : Bool) : List Bool :=
  [free.getD 0 false, free.getD 1 false, if hiZ then !Config.controlEnables else free.getD 2 false]

/-- The 43 cells as captured, in the order of R515: the levels that the manual gives, and free ones for the other pins. -/
def State.captureCells (s : State) : List Bool :=
  let free : List Bool := bitsUp 43 (Config.freeNat s.fresh)
  let flash : List Bool :=
    if s.flashStill then [false, Config.controlEnables, true, Config.controlEnables] else (free.drop 12).take 4
  [s.aon.resetN, s.aon.pwrgood] ++ outCells s.systemFaultN ++ outCells s.systemAlertN ++ outCells s.systemThermtripN ++
    [free.getD 8 false] ++ bidirCells (free.drop 9) (!s.aon.resetN) ++ flash ++
    (List.range 8).flatMap (fun i => bidirCells (free.drop (16 + 3 * i)) s.flashStill) ++ [free.getD 40 false] ++
    [s.systemFlResetN == some true, Config.controlEnables]

/-- The data register captured. -/
def State.captureDr (s : State) : List Bool :=
  match s.tapSelects s.tap.ir with
  | .idcode => bitsUp 32 tapIdcode
  | .boundary => s.captureCells
  | .bypass => [false]
  | .unstated => []

/-! ### Steps -/

/-- The port in Test-Logic-Reset, with IDCODE in effect. -/
def State.tapReset (s : State) : State := { s with tap := { s.tap with state := .reset, ir := 1, shift := [] } }

/-- The register being shifted replaced. -/
def State.setShift (s : State) (l : List Bool) : State := { s with tap := { s.tap with shift := l } }

/-- A shift: the bit next to TDO goes out, TDI comes in. Of a register the manual does not give, the bit is free. -/
def State.tapShift (s : State) (tdi : Bool) : State :=
  match s.tap.shift with
  | [] => (s.emit (.tdo (Config.freeNat s.fresh % 2 == 1))).draw
  | b :: r => (s.emit (.tdo b)).setShift (r ++ [tdi])

/-- What a rising edge of TCK does in a state. The two lowest bits captured into the instruction register are 01; the others
are free. -/
def State.tapAct (s : State) (tdi : Bool) : State :=
  match s.tap.state with
  | .capDr => (s.setShift s.captureDr).draw
  | .capIr => (s.setShift ([true, false] ++ bitsUp 6 (Config.freeNat s.fresh))).draw
  | .shDr => s.tapShift tdi
  | .shIr => s.tapShift tdi
  | _ => s

/-- What entering a state does: an update register takes what was shifted in. Where another register was captured, before
RESET_N moved under EXTEST, the boundary cells take free levels. -/
def State.tapEnter (s : State) (t : TapState) : State :=
  let s1 : State := { s with tap := { s.tap with state := t } }
  match t with
  | .updIr => { s1 with tap := { s1.tap with ir := bitsNat s.tap.shift % 256 } }
  | .updDr =>
    if s.tapSelects s.tap.ir == .boundary then
      let l : List Bool := if s.tap.shift.length = 43 then s.tap.shift else bitsUp 43 (Config.freeNat s.fresh)
      ({ s1 with tap := { s1.tap with cells := l } }).draw
    else s1
  | .reset => s1.tapReset
  | _ => s1

/-- One rising edge of TCK with levels of TMS and TDI. -/
def State.tapStep (s : State) (e : Bool × Bool) : State := (s.tapAct e.2).tapEnter (tapNext s.tap.state e.1)

/-- TEST_ACCESS_PORT_OPERATION (R531): TRST_N low holds the port in Test-Logic-Reset; else each rising edge of TCK is a step
with its levels of TMS and TDI. -/
def execTestAccessPortOperation (trstN : Bool) (steps : List (Bool × Bool)) (s : State) : Result :=
  if trstN then .next (steps.foldl State.tapStep s) else .next s.tapReset

end Sys2Proof.Machine
end

