-- ==== Sys2Proof/Machine/VxuProg.lean ====
section
/-! DEFINITION. Sys2Proof/Machine/VxuProg.lean: the program instructions of the vector expansion units (R52 to R55). A
program is part of a unit's state, so that an instruction command takes only the unit: it runs the unit's next
instruction when that is the command's. -/
namespace Sys2Proof.Machine

/-! ### Fields of an instruction word (R54) -/

/-- The opcode of an instruction word. -/
def wOp (w : DWord) : Nat := (w >>> 56).toNat

/-- Bits [hi:lo] of an instruction word. -/
def wBits (w : DWord) (hi lo : Nat) : Nat := bitsOf w.toNat hi lo

/-- The named bits of an instruction, its opcode among them; none for an opcode that is not listed. -/
def namedBits (op : Nat) : Option DWord :=
  match op with
  | 0x00 => some 0xFF00000000000000#64
  | 0x01 => some 0xFF0000000000FFFF#64
  | 0x02 => some 0xFF000000FFFFFFFF#64
  | 0x03 => some 0xFF0000000000000F#64
  | 0x04 => some 0xFFF00000FFFFFFFF#64
  | 0x05 => some 0xFFFFFFFFFFFFFFFF#64
  | 0x10 => some 0xFFE0FFFFFFFFFFFF#64
  | 0x11 => some 0xFFE0FFFFFFFFFFFF#64
  | 0x12 => some 0xFFE0FFFFFFFFFFFF#64
  | 0x13 => some 0xFFE0FFFFFFFFFFFF#64
  | 0x14 => some 0xFFE0FFFFFFFFFFFF#64
  | 0x15 => some 0xFFE7000000000000#64
  | 0x16 => some 0xFFE7000000000000#64
  | 0x17 => some 0xFFE000000000003F#64
  | 0x18 => some 0xFFFFFFFE00000000#64
  | 0x20 => some 0xFF000000FFFFFFFF#64
  | 0x21 => some 0xFF00000000000000#64
  | 0x22 => some 0xFF00000000001FFF#64
  | 0x23 => some 0xFF00000000000000#64
  | 0x30 => some 0xFF0000000000FFFF#64
  | 0x31 => some 0xFF00000000000000#64
  | 0x3F => some 0xFF00000000000000#64
  | _ => none

/-- The word is an instruction whose bits outside its named fields are zero (R55). -/
def wellFormedWord (w : DWord) : Bool :=
  match namedBits (wOp w) with
  | some m => w &&& ~~~ m == 0
  | none => false

/-- Literal words that follow an instruction before its effect: those of TPL and RLIT; the vectors of LIT are taken as they
are emitted (notes/assumptions/27.md). -/
def VxuUnit.litWords (x : VxuUnit) (op : Nat) : Nat := if op = 0x02 ∨ op = 0x03 then x.bits / 64 else 0

/-! ### Decode errors of single instructions (R55) -/

/-- The innermost loop was opened in the current main section or subroutine. -/
def VxuUnit.loopHere (x : VxuUnit) : Bool :=
  match x.loops with
  | l :: _ => l.depth == x.calls.length
  | [] => false

/-- An instruction that R55 ends the stream at. -/
def VxuUnit.badInstr (x : VxuUnit) (w : DWord) : Bool :=
  match wOp w with
  | 0x05 => decide (15 < wBits w 55 52 + wBits w 51 48)
  | 0x17 => wBits w 5 0 == 0 || decide (48 < wBits w 5 0)
  | 0x18 => decide (48 < wBits w 40 35 + 1) || decide (x.bits < wBits w 49 41 + (wBits w 40 35 + 1))
  | 0x20 => decide (8 ≤ x.loops.length)
  | 0x21 =>
    !x.loopHere || (!x.inSub && (match x.loops with
      | l :: _ => decide (16376 < 8 * (x.pos - l.body))
      | [] => false))
  | 0x22 => decide (8 ≤ x.calls.length) || decide (x.subLen / 8 ≤ wBits w 12 0)
  | 0x23 => x.calls.isEmpty || x.loopHere
  | _ => false

/-! ### Decoding (R54, R55, R60, R62, R67) -/

/-- The unit may decode: it composes, and no emission is in progress. -/
def VxuUnit.decoding (x : VxuUnit) : Bool := x.mayCompose && x.emis.isNone

/-- The unit's next instruction, when it is of an opcode: decoded, counted, and its effect taken on the unit with its words
behind it; then composing goes on. A word that no instruction can be decoded from ends the stream (R55, R67); an instruction
that exceeds a bound has no effect (R62). -/
def State.vxuInstr (s : State) (u op : Nat) (effect : DWord → VxuUnit → VxuUnit) : State :=
  let x := s.vxuU u
  if !x.decoding then s
  else match x.wordAt x.pos with
    | .at (some w) =>
      if !wellFormedWord w then s.vxuProgError u x.pos
      else if wOp w ≠ op then s
      else if x.badInstr w then s.vxuProgError u x.pos
      else match x.badWord (x.pos + 1) (x.litWords op) with
        | some b => s.vxuBadWord u b
        | none =>
          let y := ({ x with winDec := x.winDec + 1 }).advance (1 + x.litWords op)
          if y.overBound then s.setVxu u y else (s.setVxu u (effect w y)).composeAll u
    | b => s.vxuBadWord u b

/-- The vector that the literal words just taken hold: it ends at the unit's position. -/
def VxuUnit.lastVec (x : VxuUnit) : BitVec 512 := x.vecAt (x.pos - x.bits / 64)

/-! ### The effects (R54) -/

/-- Continue at a word of a section. -/
def VxuUnit.goto (x : VxuUnit) (inSub : Bool) (pos : Nat) : VxuUnit := { x with inSub := inSub, pos := pos }

/-- ENDL: the innermost loop goes on or is popped. -/
def VxuUnit.endl (x : VxuUnit) : VxuUnit :=
  match x.loops with
  | l :: r => if 1 < l.left then { x with loops := { l with left := l.left - 1 } :: r, pos := l.body }
      else { x with loops := r }
  | [] => x

/-- RET: the call stack is popped. -/
def VxuUnit.ret (x : VxuUnit) : VxuUnit :=
  match x.calls with
  | c :: r => { x with calls := r, inSub := c.inSub, pos := c.ret }
  | [] => x

/-- The immediate of SETX to XORX. -/
def wImm (w : DWord) : BitVec 48 := BitVec.ofNat 48 (wBits w 47 0)

/-- The register x of SETX to FIELD's predecessors. -/
def wX (w : DWord) : Nat := wBits w 55 53

/-- The register y of CPYX and XADD. -/
def wY (w : DWord) : Nat := wBits w 50 48

/-- A field register. -/
def VxuUnit.xr (x : VxuUnit) (i : Nat) : BitVec 48 := x.x.getD i 0

/-- NOP. -/
def execNop (u : Fin 16) (s : State) : Result := .next (s.vxuInstr u 0x00 (fun _ x => x))

/-- LIT: the n following vectors in order. -/
def execLit (u : Fin 16) (s : State) : Result :=
  .next (s.vxuInstr u 0x01 (fun w x => { x with
    emis := some (.lit (wBits w 15 0 + 1)), litFrom := ⟨x.composed, x.cur, x.mark, x.pos - 1⟩ }))

/-- RLIT: the following vector n times. -/
def execRlit (u : Fin 16) (s : State) : Result :=
  .next (s.vxuInstr u 0x02 (fun w x => { x with emis := some (.rlit x.lastVec (wBits w 31 0 + 1)) }))

/-- TPL: T[t] is the following vector. -/
def execTpl (u : Fin 16) (s : State) : Result :=
  .next (s.vxuInstr u 0x03 (fun w x => { x with tmpl := x.tmpl.set (wBits w 3 0) x.lastVec }))

/-- EMIT: compose(T[t]) n times. -/
def execEmit (u : Fin 16) (s : State) : Result :=
  .next (s.vxuInstr u 0x04 (fun w x => { x with emis := some (.rlit (x.compose (wBits w 55 52)) (wBits w 31 0 + 1)) }))

/-- EMITS: n passes over c templates, Xx stepped after each. -/
def execEmits (u : Fin 16) (s : State) : Result :=
  .next (s.vxuInstr u 0x05 (fun w x => { x with emis := some (.tpl (wBits w 55 52) (wBits w 51 48 + 1) (wBits w 47 45)
    ((BitVec.ofNat 13 (wBits w 44 32)).signExtend 48) 0 (wBits w 31 0 + 1)) }))

/-- SETX. -/
def execSetx (u : Fin 16) (s : State) : Result := .next (s.vxuInstr u 0x10 (fun w x => x.setX (wX w) (wImm w)))

/-- ADDX. -/
def execAddx (u : Fin 16) (s : State) : Result :=
  .next (s.vxuInstr u 0x11 (fun w x => x.setX (wX w) (x.xr (wX w) + wImm w)))

/-- ANDX. -/
def execAndx (u : Fin 16) (s : State) : Result :=
  .next (s.vxuInstr u 0x12 (fun w x => x.setX (wX w) (x.xr (wX w) &&& wImm w)))

/-- ORX. -/
def execOrx (u : Fin 16) (s : State) : Result :=
  .next (s.vxuInstr u 0x13 (fun w x => x.setX (wX w) (x.xr (wX w) ||| wImm w)))

/-- XORX. -/
def execXorx (u : Fin 16) (s : State) : Result :=
  .next (s.vxuInstr u 0x14 (fun w x => x.setX (wX w) (x.xr (wX w) ^^^ wImm w)))

/-- CPYX. -/
def execCpyx (u : Fin 16) (s : State) : Result := .next (s.vxuInstr u 0x15 (fun w x => x.setX (wX w) (x.xr (wY w))))

/-- XADD. -/
def execXadd (u : Fin 16) (s : State) : Result :=
  .next (s.vxuInstr u 0x16 (fun w x => x.setX (wX w) (x.xr (wX w) + x.xr (wY w))))

/-- SETM: the modulus width of Xx, and Xx reduced. -/
def execSetm (u : Fin 16) (s : State) : Result :=
  .next (s.vxuInstr u 0x17 (fun w x =>
    let y := { x with m := x.m.set (wX w) (wBits w 5 0) }
    y.setX (wX w) (y.xr (wX w))))

/-- FIELD: field slot FSs. -/
def execField (u : Fin 16) (s : State) : Result :=
  .next (s.vxuInstr u 0x18 (fun w x =>
    let f : FieldSlot := ⟨wBits w 52 50, wBits w 49 41, wBits w 40 35 + 1, wBits w 34 34 == 1, wBits w 33 33 == 1⟩
    { x with fs := x.fs.set (wX w) f }))

/-- LOOP: a loop of n passes whose body starts at the next word. -/
def execLoop (u : Fin 16) (s : State) : Result :=
  .next (s.vxuInstr u 0x20 (fun w x =>
    let l : LoopLevel := ⟨wBits w 31 0 + 1, x.inSub, x.pos, x.calls.length⟩
    { x with loops := l :: x.loops }))

/-- ENDL. -/
def execEndl (u : Fin 16) (s : State) : Result := .next (s.vxuInstr u 0x21 (fun _ x => x.endl))

/-- CALL: the return point pushed; continue in the subroutine section. -/
def execCall (u : Fin 16) (s : State) : Result :=
  .next (s.vxuInstr u 0x22 (fun w x =>
    let c : CallLevel := ⟨x.inSub, x.pos⟩
    ({ x with calls := c :: x.calls }).goto true (wBits w 12 0)))

/-- RET. -/
def execRet (u : Fin 16) (s : State) : Result := .next (s.vxuInstr u 0x23 (fun _ x => x.ret))

/-- MARK: the id is pending for the next emitted vector. -/
def execMark (u : Fin 16) (s : State) : Result :=
  .next (s.vxuInstr u 0x30 (fun w x => { x with mark := some (BitVec.ofNat 16 (wBits w 15 0)) }))

/-- PAUSEPT: with a pause pending, composing stops and the frame being composed is closed (R63). -/
def execPausept (u : Fin 16) (s : State) : Result :=
  .next (s.vxuInstr u 0x31 (fun _ x => if x.ppend then { x.closeFrame with stopped := true } else x))

/-- END: the program ends after the last emitted vector (R54, R63). -/
def execEndProg (u : Fin 16) (s : State) : Result := .next (s.vxuInstr u 0x3F (fun _ x => x.endWith 1))

end Sys2Proof.Machine
end

