-- ==== Sys2Proof/Machine/Dispatch.lean ====
section
/-! DEFINITION. Sys2Proof/Machine/Dispatch.lean: the meaning of each command, one arm per constructor. -/
namespace Sys2Proof.Machine

def exec (i : Instr) (s : State) : Host.Outcome State Fault Refusal :=
  match i with
  | .resetNLow => Sys2Proof.Machine.execResetNLow s
  | .resetNRelease => Sys2Proof.Machine.execResetNRelease s
  | .rootPllLock => Sys2Proof.Machine.execRootPllLock s
  | .pwrgoodRise => Sys2Proof.Machine.execPwrgoodRise s
  | .pwrgoodLost => Sys2Proof.Machine.execPwrgoodLost s
  | .clockLost pll => Sys2Proof.Machine.execClockLost pll s
  | .shutdownRearm => Sys2Proof.Machine.execShutdownRearm s
  | .loadEntry found => Sys2Proof.Machine.execLoadEntry found s
  | .loadComplete r => Sys2Proof.Machine.execLoadComplete r s
  | .modeReqService r cal => Sys2Proof.Machine.execModeReqService r cal s
  | .modeReqHold r => Sys2Proof.Machine.execModeReqHold r s
  | .holdEntryComplete => Sys2Proof.Machine.execHoldEntryComplete s
  | .modeReqMaintain r => Sys2Proof.Machine.execModeReqMaintain r s
  | .warmLoad => Sys2Proof.Machine.execWarmLoad s
  | .fatalFault src a b => Sys2Proof.Machine.execFatalFault src a b s
  | .vxuStart r u => Sys2Proof.Machine.execVxuStart r u s
  | .vxuPause r u => Sys2Proof.Machine.execVxuPause r u s
  | .vxuResume r u => Sys2Proof.Machine.execVxuResume r u s
  | .vxuStop r u => Sys2Proof.Machine.execVxuStop r u s
  | .vxuHeaderCheck u intact => Sys2Proof.Machine.execVxuHeaderCheck u intact s
  | .vxuReady u => Sys2Proof.Machine.execVxuReady u s
  | .startDeadlineExpire u => Sys2Proof.Machine.execStartDeadlineExpire u s
  | .startMark u => Sys2Proof.Machine.execStartMark u s
  | .vxuFrameSlot u cycles => Sys2Proof.Machine.execVxuFrameSlot u cycles s
  | .vxuProgramFetch u intact => Sys2Proof.Machine.execVxuProgramFetch u intact s
  | .vxuBoundStop u => Sys2Proof.Machine.execVxuBoundStop u s
  | .vecPacketClose u => Sys2Proof.Machine.execVecPacketClose u s
  | .nop u => Sys2Proof.Machine.execNop u s
  | .lit u => Sys2Proof.Machine.execLit u s
  | .rlit u => Sys2Proof.Machine.execRlit u s
  | .tpl u => Sys2Proof.Machine.execTpl u s
  | .emit u => Sys2Proof.Machine.execEmit u s
  | .emits u => Sys2Proof.Machine.execEmits u s
  | .setx u => Sys2Proof.Machine.execSetx u s
  | .addx u => Sys2Proof.Machine.execAddx u s
  | .andx u => Sys2Proof.Machine.execAndx u s
  | .orx u => Sys2Proof.Machine.execOrx u s
  | .xorx u => Sys2Proof.Machine.execXorx u s
  | .cpyx u => Sys2Proof.Machine.execCpyx u s
  | .xadd u => Sys2Proof.Machine.execXadd u s
  | .setm u => Sys2Proof.Machine.execSetm u s
  | .field u => Sys2Proof.Machine.execField u s
  | .loop u => Sys2Proof.Machine.execLoop u s
  | .endl u => Sys2Proof.Machine.execEndl u s
  | .call u => Sys2Proof.Machine.execCall u s
  | .ret u => Sys2Proof.Machine.execRet u s
  | .mark u => Sys2Proof.Machine.execMark u s
  | .pausept u => Sys2Proof.Machine.execPausept u s
  | .endProg u => Sys2Proof.Machine.execEndProg u s
  | .failPacket k payload => Sys2Proof.Machine.execFailPacket k payload s
  | .failRecord => Sys2Proof.Machine.execFailRecord s
  | .capBlockTimeout p => Sys2Proof.Machine.execCapBlockTimeout p s
  | .gapTimerExpire src => Sys2Proof.Machine.execGapTimerExpire src s
  | .foldRecord => Sys2Proof.Machine.execFoldRecord s
  | .resync r src => Sys2Proof.Machine.execResync r src s
  | .domOpen r upto => Sys2Proof.Machine.execDomOpen r upto s
  | .domClose r fenced upto => Sys2Proof.Machine.execDomClose r fenced upto s
  | .domRelease r upto => Sys2Proof.Machine.execDomRelease r upto s
  | .poolDef r upto => Sys2Proof.Machine.execPoolDef r upto s
  | .poolDel r upto => Sys2Proof.Machine.execPoolDel r upto s
  | .fenceTimerExpire d => Sys2Proof.Machine.execFenceTimerExpire d s
  | .closeRecordBuild d => Sys2Proof.Machine.execCloseRecordBuild d s
  | .readoutSummary r => Sys2Proof.Machine.execReadoutSummary r s
  | .readoutPoints r => Sys2Proof.Machine.execReadoutPoints r s
  | .readoutLines r => Sys2Proof.Machine.execReadoutLines r s
  | .readoutCloseRecord r => Sys2Proof.Machine.execReadoutCloseRecord r s
  | .readoutDone => Sys2Proof.Machine.execReadoutDone s
  | .cadExcRptrWrite r v => Sys2Proof.Machine.execCadExcRptrWrite r v s
  | .raeTakeUp intact => Sys2Proof.Machine.execRaeTakeUp intact s
  | .timeBudgetExpire e nodes => Sys2Proof.Machine.execTimeBudgetExpire e nodes s
  | .nodeBudgetSpent e => Sys2Proof.Machine.execNodeBudgetSpent e s
  | .firstPassEnd e => Sys2Proof.Machine.execFirstPassEnd e s
  | .poolRound pool => Sys2Proof.Machine.execPoolRound pool s
  | .raeEngineError e => Sys2Proof.Machine.execRaeEngineError e s
  | .resultRingCopy => Sys2Proof.Machine.execResultRingCopy s
  | .holdoffExpire => Sys2Proof.Machine.execHoldoffExpire s
  | .reanalyse r => Sys2Proof.Machine.execReanalyse r s
  | .clearLat r => Sys2Proof.Machine.execClearLat r s
  | .raeRingCfgWrite r v => Sys2Proof.Machine.execRaeRingCfgWrite r v s
  | .raeRingRptrWrite r v => Sys2Proof.Machine.execRaeRingRptrWrite r v s
  | .shedEvaluation => Sys2Proof.Machine.execShedEvaluation s
  | .reinstatement => Sys2Proof.Machine.execReinstatement s
  | .holdExceeded n => Sys2Proof.Machine.execHoldExceeded n s
  | .laneSignalDetect l => Sys2Proof.Machine.execLaneSignalDetect l s
  | .noSignal l => Sys2Proof.Machine.execNoSignal l s
  | .trainingFrame l control status atLimit own => Sys2Proof.Machine.execTrainingFrame l control status atLimit own s
  | .trainingEnd l => Sys2Proof.Machine.execTrainingEnd l s
  | .trainTmo l => Sys2Proof.Machine.execTrainTmo l s
  | .lockAchieved l => Sys2Proof.Machine.execLockAchieved l s
  | .lockTmo l => Sys2Proof.Machine.execLockTmo l s
  | .capxMatch l body => Sys2Proof.Machine.execCapxMatch l body s
  | .capxMismatch l body => Sys2Proof.Machine.execCapxMismatch l body s
  | .laneReady l => Sys2Proof.Machine.execLaneReady l s
  | .backoffExpire l => Sys2Proof.Machine.execBackoffExpire l s
  | .chainFormation k windowEnd => Sys2Proof.Machine.execChainFormation k windowEnd s
  | .laneLoss k lanes cond => Sys2Proof.Machine.execLaneLoss k lanes cond s
  | .dropReceived k body => Sys2Proof.Machine.execDropReceived k body s
  | .rejoinAnnounce k => Sys2Proof.Machine.execRejoinAnnounce k s
  | .rejoinAckReceived k body => Sys2Proof.Machine.execRejoinAckReceived k body s
  | .rejoinLapsed k => Sys2Proof.Machine.execRejoinLapsed k s
  | .partnerCommitReceived k body => Sys2Proof.Machine.execPartnerCommitReceived k body s
  | .partnerCommitTimeout k => Sys2Proof.Machine.execPartnerCommitTimeout k s
  | .epochSwitch k transmit => Sys2Proof.Machine.execEpochSwitch k transmit s
  | .laneMarkerSend l => Sys2Proof.Machine.execLaneMarkerSend l s
  | .waddingInsert k => Sys2Proof.Machine.execWaddingInsert k s
  | .retrain r l => Sys2Proof.Machine.execRetrain r l s
  | .prbsCfgWrite r l v => Sys2Proof.Machine.execPrbsCfgWrite r l v s
  | .injectBit r l count => Sys2Proof.Machine.execInjectBit r l count s
  | .injectSymbol r l count => Sys2Proof.Machine.execInjectSymbol r l count s
  | .injectSync r l => Sys2Proof.Machine.execInjectSync r l s
  | .injectLol r l => Sys2Proof.Machine.execInjectLol r l s
  | .packetReceive k slots late => Sys2Proof.Machine.execPacketReceive k slots late s
  | .creditPacket k p => Sys2Proof.Machine.execCreditPacket k p s
  | .brd k p => Sys2Proof.Machine.execBrd k p s
  | .bwr k p => Sys2Proof.Machine.execBwr k p s
  | .ctlRequest k p late => Sys2Proof.Machine.execCtlRequest k p late s
  | .ackReceived k body => Sys2Proof.Machine.execAckReceived k body s
  | .nakReceived k body => Sys2Proof.Machine.execNakReceived k body s
  | .replayTimeout k => Sys2Proof.Machine.execReplayTimeout k s
  | .creditGrantSend k => Sys2Proof.Machine.execCreditGrantSend k s
  | .alertSend k => Sys2Proof.Machine.execAlertSend k s
  | .nonce r => Sys2Proof.Machine.execNonce r s
  | .nonceExpire p => Sys2Proof.Machine.execNonceExpire p s
  | .sessionOpen r ext => Sys2Proof.Machine.execSessionOpen r ext s
  | .sessionClose r => Sys2Proof.Machine.execSessionClose r s
  | .identity r => Sys2Proof.Machine.execIdentity r s
  | .attest r hnonce => Sys2Proof.Machine.execAttest r hnonce s
  | .enroll r => Sys2Proof.Machine.execEnroll r s
  | .evict r ext => Sys2Proof.Machine.execEvict r ext s
  | .sessionIdleTimeout slot => Sys2Proof.Machine.execSessionIdleTimeout slot s
  | .debugUnlock r v => Sys2Proof.Machine.execDebugUnlock r v s
  | .secFatal cause => Sys2Proof.Machine.execSecFatal cause s
  | .i3cDirectRead bytes late => Sys2Proof.Machine.execI3cDirectRead bytes late s
  | .i3cCtlFrame bytes late => Sys2Proof.Machine.execI3cCtlFrame bytes late s
  | .i3cPrivateRead => Sys2Proof.Machine.execI3cPrivateRead s
  | .entdaa addr => Sys2Proof.Machine.execEntdaa addr s
  | .setdasa static addr => Sys2Proof.Machine.execSetdasa static addr s
  | .setnewda addr => Sys2Proof.Machine.execSetnewda addr s
  | .rstdaa => Sys2Proof.Machine.execRstdaa s
  | .enec => Sys2Proof.Machine.execEnec s
  | .disec => Sys2Proof.Machine.execDisec s
  | .getpid => Sys2Proof.Machine.execGetpid s
  | .getbcr => Sys2Proof.Machine.execGetbcr s
  | .getdcr => Sys2Proof.Machine.execGetdcr s
  | .getstatus => Sys2Proof.Machine.execGetstatus s
  | .getmwl => Sys2Proof.Machine.execGetmwl s
  | .getmrl => Sys2Proof.Machine.execGetmrl s
  | .i3cUnsupportedCcc reply => Sys2Proof.Machine.execI3cUnsupportedCcc reply s
  | .refreshTick c => Sys2Proof.Machine.execRefreshTick c s
  | .pullInRefresh c => Sys2Proof.Machine.execPullInRefresh c s
  | .rowIdlePrecharge c bank => Sys2Proof.Machine.execRowIdlePrecharge c bank s
  | .dmcRead c a cls age cycles late errs reader => Sys2Proof.Machine.execDmcRead c a cls age cycles late errs reader s
  | .dmcWrite c a cls age late data bytes => Sys2Proof.Machine.execDmcWrite c a cls age late data bytes s
  | .mergeEntryTimeout c a errs => Sys2Proof.Machine.execMergeEntryTimeout c a errs s
  | .errorReturn c back => Sys2Proof.Machine.execErrorReturn c back s
  | .caLaneTestDone c bad => Sys2Proof.Machine.execCaLaneTestDone c bad s
  | .transitStart ticks cal => Sys2Proof.Machine.execTransitStart ticks cal s
  | .dmcFreqReq r v => Sys2Proof.Machine.execDmcFreqReq r v s
  | .scrubRow c errs => Sys2Proof.Machine.execScrubRow c errs s
  | .corrected2Writeback c a => Sys2Proof.Machine.execCorrected2Writeback c a s
  | .hotpos c sym => Sys2Proof.Machine.execHotpos c sym s
  | .eccInjArm r v => Sys2Proof.Machine.execEccInjArm r v s
  | .legStart w => Sys2Proof.Machine.execLegStart w s
  | .legEnd block signature column => Sys2Proof.Machine.execLegEnd block signature column s
  | .legBudgetExpire block tally => Sys2Proof.Machine.execLegBudgetExpire block tally s
  | .columnRepairChunk c => Sys2Proof.Machine.execColumnRepairChunk c s
  | .clkBundleLost g b => Sys2Proof.Machine.execClkBundleLost g b s
  | .salvageSlice mismatches dead => Sys2Proof.Machine.execSalvageSlice mismatches dead s
  | .fulltest r => Sys2Proof.Machine.execFulltest r s
  | .fulltestDone => Sys2Proof.Machine.execFulltestDone s
  | .abortFulltest r => Sys2Proof.Machine.execAbortFulltest r s
  | .fuseCommit r => Sys2Proof.Machine.execFuseCommit r s
  | .legCmd r => Sys2Proof.Machine.execLegCmd r s
  | .calStep c values => Sys2Proof.Machine.execCalStep c values s
  | .calStepForced c values => Sys2Proof.Machine.execCalStepForced c values s
  | .calTapMove c kind lane => Sys2Proof.Machine.execCalTapMove c kind lane s
  | .thermalMeasurement m => Sys2Proof.Machine.execThermalMeasurement m s
  | .throttleStep => Sys2Proof.Machine.execThrottleStep s
  | .fasterPointTimer => Sys2Proof.Machine.execFasterPointTimer s
  | .comparatorScan sensors => Sys2Proof.Machine.execComparatorScan sensors s
  | .railOc r mA => Sys2Proof.Machine.execRailOc r mA s
  | .railUv r mV => Sys2Proof.Machine.execRailUv r mV s
  | .railPeak r mA => Sys2Proof.Machine.execRailPeak r mA s
  | .clearPeak r => Sys2Proof.Machine.execClearPeak r s
  | .mgcWatchdog core => Sys2Proof.Machine.execMgcWatchdog core s
  | .ledgerCopy bad => Sys2Proof.Machine.execLedgerCopy bad s
  | .ackAlertn r => Sys2Proof.Machine.execAckAlertn r s
  | .clearAll r => Sys2Proof.Machine.execClearAll r s
  | .fltForce r n v => Sys2Proof.Machine.execFltForce r n v s
  | .availMsTick => Sys2Proof.Machine.execAvailMsTick s
  | .availSlotWrite bad => Sys2Proof.Machine.execAvailSlotWrite bad s
  | .availBucketRoll => Sys2Proof.Machine.execAvailBucketRoll s
  | .pmcSelWrite r n v => Sys2Proof.Machine.execPmcSelWrite r n v s
  | .counterWrap n inc => Sys2Proof.Machine.execCounterWrap n inc s
  | .pmcSample n skid => Sys2Proof.Machine.execPmcSample n skid s
  | .counterDump => Sys2Proof.Machine.execCounterDump s
  | .sense why weak => Sys2Proof.Machine.execSense why weak s
  | .reinforce r => Sys2Proof.Machine.execReinforce r s
  | .fseSlock r n v => Sys2Proof.Machine.execFseSlock r n v s
  | .fuseOperationEnd res => Sys2Proof.Machine.execFuseOperationEnd res s
  | .updBegin r flashOk => Sys2Proof.Machine.execUpdBegin r flashOk s
  | .updChunk r flashOk => Sys2Proof.Machine.execUpdChunk r flashOk s
  | .updVerify r => Sys2Proof.Machine.execUpdVerify r s
  | .verifyDone flashOk => Sys2Proof.Machine.execVerifyDone flashOk s
  | .activate r ok => Sys2Proof.Machine.execActivate r ok s
  | .confirm r => Sys2Proof.Machine.execConfirm r s
  | .rollback r => Sys2Proof.Machine.execRollback r s
  | .updAbort r => Sys2Proof.Machine.execUpdAbort r s
  | .trialExpire => Sys2Proof.Machine.execTrialExpire s
  | .settingsSave ok => Sys2Proof.Machine.execSettingsSave ok s
  | .commit r mask => Sys2Proof.Machine.execCommit r mask s
  | .discard r mask => Sys2Proof.Machine.execDiscard r mask s
  | .registerWrite r a size v late => Sys2Proof.Machine.execRegisterWrite r a size v late s
  | .fecCodewordReceived l symbols offs late => Sys2Proof.Machine.execFecCodewordReceived l symbols offs late s
  | .receiveEmptySlot l => Sys2Proof.Machine.execReceiveEmptySlot l s
  | .testAccessPortOperation trstN steps => Sys2Proof.Machine.execTestAccessPortOperation trstN steps s

end Sys2Proof.Machine
end

