-- ==== Sys2Proof/Machine/Tick.lean ====
section
/-! DEFINITION. Sys2Proof/Machine/Tick.lean: what one tick of SCLK does when no command waits (R16, R388, R389;
notes/assumptions/1.md): GTIME moves on, the counters of time count four CCLK cycles, and the work that waits goes on. -/
namespace Sys2Proof.Machine

/-- CCLK cycles in a tick of SCLK (R15, R16). -/
def tickCycles : Nat := 4

/-- The counters of time: CYCLES, RAE_BUSY, TAGS with the tags in use (R12), and on each chain the cycles that a packet waits for partner
credit (R248). -/
def State.tickCounters (s : State) : State :=
  let s1 := ((s.count 0x01 tickCycles 0).count 0x12 (tickCycles * s.busyEngines) 0).count 0x19 (tickCycles * s.tagsUsed.length) 0
  (List.range 16).foldl (fun t k => t.crCount k tickCycles) s1

/-- What waits goes on: a transit (R268), commands whose parity windows have passed (R265), requests of the memory controller (R256) and
the postponement of refresh that follows them (R174), the domain command in progress (R118), analyses (R148), ACKs that wait for their
share of positions (R219), the read-back checks of the ledger (R370), the keys of sessions that have ended (R421), the time of withheld credits (R175), and what the lanes send by themselves (R194, R195, R208). -/
def State.tickWork (s : State) : State :=
  s.transitStep.settleAll.serveAll.postponeAll.domStep.enginesTick.flushAcks.checkLedger.forgetSessions.holdUpdate.lanesTick

/-- One tick: nothing until the root PLL has locked after RESET_N; from then on GTIME advances by one (R16). What the commands before it
have granted counts from the time before it (R229). -/
def State.tick (s : State) : State :=
  if s.aon.pll then (({ s.markAllMoved with gtime := s.gtime + 1 }).tickCounters).tickWork else s

end Sys2Proof.Machine
end

