-- ==== Sys2Proof/Safety.lean ====
section
/-! DEFINITION. Sys2Proof/Safety.lean: what counts as a sound state of the stack, and the terms the statements use. -/
namespace Sys2Proof.Machine

/-- The canonical form of the stack memory: addresses strictly rising. No listed byte can equal what an unlisted one reads as, since
that is a free value (R537, notes/assumptions/6.md). -/
@[simp] abbrev Memory.wf (m : List Host.Cell) : Prop := Tab.sorted m = true

/-! ### What a command may leave alone -/

/-- The state has kept what only pins, ticks, the I3C bus and the test port move: the queue, GTIME, the watched pins, the test
port, and of the I3C port its address and its counts (R16, R488, R515, R531). -/
@[simp] abbrev KeptEdge (s t : State) : Prop :=
  t.pending = s.pending ∧ t.gtime = s.gtime ∧ t.aon = s.aon ∧ t.tap = s.tap ∧
    t.i3c.da = s.i3c.da ∧ t.i3c.badFrame = s.i3c.badFrame ∧ t.i3c.dropped = s.i3c.dropped

/-- The state has kept the stack memory and the errors stored in it (R281, R537). -/
@[simp] abbrev KeptMemory (s t : State) : Prop := t.mem = s.mem ∧ t.errs = s.errs

/-- The state has kept the fuses: the programmed words, those of the last sense, and the regions' states (R431 to R446). -/
@[simp] abbrev KeptFuses (s t : State) : Prop := t.fse = s.fse

/-- The state has kept the major mode (R22). -/
@[simp] abbrev KeptMode (s t : State) : Prop := t.mode = s.mode

/-- The stack memory and the errors stored in it are in canonical form (R281, R537). -/
@[simp] abbrev State.memoryWf (s : State) : Prop := Memory.wf s.mem ∧ Tab.sorted s.errs = true

/-- The commands that may move the pins the always-on island watches, GTIME, the I3C port or the test port: RESET_N, PWRGOOD
and the root PLL, the I3C bus and the TAP (R16, R488, R520, R531). -/
def outerCmd (c : Instr) : Bool :=
  match c with
  | .resetNLow | .resetNRelease | .rootPllLock | .pwrgoodRise | .pwrgoodLost | .fatalFault .. | .i3cDirectRead ..
  | .i3cCtlFrame .. | .i3cPrivateRead | .entdaa .. | .setdasa .. | .setnewda .. | .rstdaa | .testAccessPortOperation .. => true
  | _ => false

/-- The commands that may change stack memory or the errors stored in it: accesses and what they lead to, codewords and
packets that bring them, the error return of a write that a die ignored, row and column repair, salvage, what loses a rail, and
loads (R251, R265, R281, R359). -/
def memoryCmd (c : Instr) : Bool :=
  match c with
  | .resetNLow | .loadComplete .. | .holdEntryComplete | .warmLoad | .fatalFault .. | .vxuHeaderCheck .. | .vxuProgramFetch ..
  | .failRecord | .capBlockTimeout .. | .readoutSummary .. | .readoutPoints .. | .readoutLines .. | .readoutCloseRecord ..
  | .readoutDone | .resultRingCopy .. | .packetReceive .. | .creditPacket .. | .brd .. | .bwr .. | .ctlRequest ..
  | .i3cDirectRead .. | .i3cCtlFrame .. | .dmcRead .. | .dmcWrite .. | .mergeEntryTimeout .. | .caLaneTestDone .. | .scrubRow ..
  | .corrected2Writeback .. | .errorReturn .. | .legEnd .. | .columnRepairChunk .. | .salvageSlice .. | .thermalMeasurement ..
  | .comparatorScan .. | .railOc .. | .railUv .. | .counterDump .. | .registerWrite .. | .fecCodewordReceived .. => true
  | _ => false

/-- The commands that may change the fuses or what a sense found of them: programming and what cuts it off, senses, and what
reaches them through a register or a CTL operation (R431, R436, R447, R448). -/
def fuseCmd (c : Instr) : Bool :=
  match c with
  | .resetNLow | .pwrgoodLost | .clockLost .. | .loadEntry .. | .loadComplete .. | .modeReqMaintain .. | .warmLoad
  | .fatalFault .. | .packetReceive .. | .creditPacket .. | .brd .. | .bwr .. | .ctlRequest .. | .enroll .. | .secFatal ..
  | .i3cDirectRead .. | .i3cCtlFrame .. | .fuseCommit .. | .thermalMeasurement .. | .comparatorScan .. | .railOc ..
  | .railUv .. | .mgcWatchdog .. | .fltForce .. | .sense .. | .reinforce .. | .fseSlock .. | .fuseOperationEnd ..
  | .activate .. | .confirm .. | .registerWrite .. | .fecCodewordReceived .. => true
  | _ => false

/-- What the clock, the I3C port and the test port hold stays within what the manual gives them: GTIME is 0 until the root PLL
has locked, which RESET_N high precedes (R16, R526); the counts of the I3C port saturate and its address has 7 bits (R488,
R490, R491); the TAP has an 8-bit instruction and 43 boundary cells (R531, R532). -/
def State.edgeSound (s : State) : Bool :=
  (s.aon.pll || s.gtime == 0) && (!s.aon.pll || s.aon.resetN) && decide (s.i3c.badFrame ≤ 255) &&
    decide (s.i3c.dropped ≤ 65535) && s.i3c.da.all (fun a => decide (a < 128)) && decide (s.tap.ir < 256) &&
    s.tap.cells.length == 43

/-- Nothing goes on in the memory controllers, the cadastre, the engines and the security controller: no transit, no request, command or
refresh that a tick takes further, no capture class, no domain command, no analysis, no ledger word to check, no session that has ended
(R118, R148, R174, R256, R265, R268, R370, R421). -/
def State.coreQuiet (s : State) : Prop :=
  s.inTransit = false ∧ (∀ c, (s.chan c).stirs = false ∧ (s.chan c).wq.any (fun q => q.op.isSent) = false ∧
    (s.chan c).retry.any (fun k => k.owes.isSome) = false) ∧ s.captureClasses = [] ∧ s.dmc.chans.all (fun e => !e.2.postpone) = true ∧
    s.cad.dcmd = none ∧ (∀ e, (s.engine e).domain = none) ∧ s.flt.unchecked = [] ∧ s.sec.closing = []

/-- Every lane is off and no chain is UP. -/
def State.linkQuiet (s : State) : Prop := (∀ l, (s.lane l).state = .off) ∧ ∀ k, s.chainUp k = false

/-- The moves between modes that the table of R23 gives to commands other than RESET_N_LOW, LOAD_ENTRY, LOAD_COMPLETE and
HOLD_ENTRY_COMPLETE, several in a row included: what leaves SAFE and COLD, what ends LOAD and what enters HOLD are those four. -/
def modeMoves (a b : Mode) : Bool :=
  match a with
  | .cold => b == .cold
  | .safe => b == .safe
  | .load => b == .load || b == .safe
  | .service => b == .service || b == .maintain || b == .safe
  | .maintain => b == .maintain || b == .service || b == .safe
  | .hold => b == .hold || b == .service || b == .maintain || b == .safe

/-! ### Vector programs -/

/-- A unit behind an instruction of an opcode: the instruction is counted, and its words are taken. -/
def VxuUnit.taken (x : VxuUnit) (op : Nat) : VxuUnit :=
  ({ x with winDec := x.winDec + 1 }).advance (1 + x.litWords op)

/-- The next word of a decoding unit is `w`, an instruction of opcode `op` that R55 admits, with its literal words at hand, and
taking it exceeds no bound of R62. -/
def State.decodesNext (s : State) (u op : Nat) (w : DWord) : Prop :=
  (s.vxuU u).decoding = true ∧ (s.vxuU u).wordAt (s.vxuU u).pos = .at (some w) ∧ wellFormedWord w = true ∧ wOp w = op ∧
    (s.vxuU u).badInstr w = false ∧ (s.vxuU u).badWord ((s.vxuU u).pos + 1) ((s.vxuU u).litWords op) = none ∧
    ((s.vxuU u).taken op).overBound = false

/-- A RUNNING unit that owes no END frame of another stream, with exactly one slot due in the next cycle (R59). -/
def State.slotDue (s : State) (u : Nat) : Prop :=
  (s.vxuU u).state = .running ∧ (s.vxuU u).owed = [] ∧ min ((s.vxuU u).due + ((s.vxuU u).acc + s.vxuInc u) / 2 ^ 31) 2 = 1


/-! ### The fail cadastre -/

/-- A record that passes the checks of R89 before ordering: its CRC and format are good, and its source is enabled on the record's
chain and label. -/
def State.passesChecks (s : State) (f : FailRec) : Prop :=
  let i := recSource f.bytes
  recCrcOk f.bytes = true ∧ recFormatOk f.bytes = true ∧ s.srcEnabled i = true ∧
    s.fld (Reg.CAD_SRC_CFG i) Fld.CAD_SRC_CFG_CHAIN = f.chain ∧ recLabel f.bytes = s.fld (Reg.CAD_SRC_CFG i) Fld.CAD_SRC_CFG_LABEL

/-- The capture log of a source takes one more record without writing its block out, or takes none as it is full (R93, R94). -/
def State.blockOpen (s : State) (src : Nat) : Prop :=
  let c := s.capLog (s.srcLog src)
  c.recs.length < 126 ∨ (c.full = true ∧ s.capRing (s.srcLog src) = false)

/-- A record that folds: its source has MODE FOLD, or MODE BOTH with a block that stays open (R80, R93). -/
def State.foldsRecord (s : State) (f : FailRec) : Prop :=
  s.passesChecks f ∧ (s.srcMode (recSource f.bytes) = 0 ∨ (s.srcMode (recSource f.bytes) = 2 ∧ s.blockOpen (recSource f.bytes)))

/-- The state in which a fold pipe enters a released record that lies at `x`: the record is off its queue and its traffic and its
spill-area reads are counted (R97, R108, R155). -/
def State.foldState (s : State) (r : Released) (rest : List Released) (d : Nat) (x : Located) : State :=
  let label := s.fld (Reg.CAD_SRC_CFG (recSource r.fail.bytes)) Fld.CAD_SRC_CFG_LABEL
  let t := ((({ s with cad := { s.cad with released := rest } }).draw).traffic (s.labelClass label)
    (64 * (Config.freeNat s.fresh % 3)) label).1
  t.satInc Reg.CAD_PIN_MISS (t.foldPlan d x).misses

/-- What a domain is by OPEN: the `i`-th of the command's range (R98). -/
def State.openedDomain (s : State) (i : Nat) : Domain :=
  { state := .open, site := s.dSite + i / s.platBlocks s.dPlat, block := i % s.platBlocks s.dPlat, plat := s.dPlat, rs := s.dRs
    cs := s.dCs, pool := s.dPool, tbud := s.fld Reg.CAD_DBUDGET Fld.CAD_DBUDGET_TBUD
    nbud := s.fld Reg.CAD_DBUDGET Fld.CAD_DBUDGET_NBUD }

/-! ### Repair -/

/-- Some rows and columns cover every point. -/
def Covers (rows cols : List Nat) (pts : List (Nat × Nat)) : Prop := ∀ p ∈ pts, p.1 ∈ rows ∨ p.2 ∈ cols

/-- The lines of an axis among those a search has taken. -/
def linesOf (l : List Line) (col : Bool) : List Nat := (l.filter (fun x => x.col == col)).map (·.idx)

/-- A choice of a round names only options that the candidates have. -/
def validChoice : List (List PoolOption) → Choice → Bool
  | o :: os, c :: cs => (match c with
      | some i => decide (i < o.length)
      | none => true) && validChoice os cs
  | [], [] => true
  | _, _ => false

/-! ### Links -/

/-- The mask of a chain's transmit direction without some of its lanes. -/
def State.maskWithout (s : State) (k : Nat) (lost : List Nat) : Nat :=
  let x := s.chainL k
  x.maskBy (fun l => bitOf x.txTarget (x.laneList.idxOf l) && !lost.contains l)

/-! ### Packets -/

/-- A chain holds a packet of a type, label and payload, sent and unacknowledged or waiting to be sent. -/
def State.holdsPacket (s : State) (k type label : Nat) (payload : List Byte) : Prop :=
  ∃ q ∈ (s.chainP k).replay ++ (s.chainP k).waiting.map (·.pkt), q.type = type ∧ q.label = label ∧ q.payload = payload

/-- A packet without the number that sending gives it. -/
def unnumbered (p : Packet) : Packet := { p with lseq := 0 }

/-- What a chain has been given to send and the partner has not acknowledged, without the numbers. -/
def State.inHand (s : State) (k : Nat) : List Packet :=
  ((s.chainP k).replay ++ (s.chainP k).waiting.map (·.pkt)).map unnumbered

/-- The packet that something put out sends again on a chain. -/
def resentOn (k : Nat) (e : Emission) : Option Packet :=
  match e with
  | .packet c p true _ _ => if c = k then some p else none
  | _ => none

/-! ### Security -/

/-- No session of a SID is open. -/
def State.sidFree (s : State) (sid : Nat) : Prop := ∀ e ∈ s.sec.sessions, e.2.sid ≠ sid

/-- A bit of the fuse array is programmed: bit `i` of word `w` (R431). -/
def State.fuseSet (s : State) (w i : Nat) : Bool := (Tab.lookD s.fse.bits w 0#64).getLsbD i

/-- The roles a command of the host asks for (R408, R423): the requester, and whether only the Owner may give it. A command that
any session may give, a session operation, and a plain register write are not among them. -/
def hostRow (c : Instr) : Option (Req × Bool) :=
  match c with
  | .modeReqService r _ | .modeReqHold r | .vxuStart r _ | .vxuPause r _ | .vxuResume r _ | .vxuStop r _ | .resync r _
  | .domOpen r _ | .domClose r _ _ | .domRelease r _ | .poolDef r _ | .poolDel r _ | .readoutSummary r | .readoutPoints r
  | .readoutLines r | .readoutCloseRecord r | .cadExcRptrWrite r _ | .reanalyse r | .clearLat r | .raeRingCfgWrite r _
  | .raeRingRptrWrite r _ | .clearAll r | .dmcFreqReq r _ | .commit r _ | .discard r _ => some (r, false)
  | .modeReqMaintain r | .retrain r _ | .prbsCfgWrite r _ _ | .injectBit r _ _ | .injectSymbol r _ _ | .injectSync r _
  | .injectLol r _ | .eccInjArm r _ | .fulltest r | .abortFulltest r | .fuseCommit r | .legCmd r
  | .clearPeak r | .pmcSelWrite r _ _ | .fltForce r _ _ | .reinforce r | .fseSlock r _ _ | .debugUnlock r _ | .updBegin r _ | .updChunk r _
  | .updVerify r | .activate r _ | .confirm r | .rollback r | .updAbort r => some (r, true)
  | _ => none

/-- The role of the requester does not admit a command of the host: no session, an Observer or an enrolment session, or an
Operator where only the Owner is admitted. -/
def State.roleLacks (s : State) (r : Req) (owner : Bool) : Prop :=
  s.role r = none ∨ s.role r = some .observer ∨ s.role r = some .enrolment ∨ (owner = true ∧ s.role r = some .operator)

end Sys2Proof.Machine
end

