-- ==== Sys2Proof/Certificates/Slice0/Obligations.lean ====
section
/-! DEFINITION. Sys2Proof/Certificates/Slice0/Obligations.lean: the statements about the block, family by family. -/
open Sys2Proof Sys2Proof.Machine

/-- A step takes the command that has waited longest; with none waiting, a tick passes (notes/assumptions/1.md). -/
def Obligations.StepRunsFront : Prop :=
  ∀ (s : State), (∀ c rest, s.pending = c :: rest → step s = exec c { s with pending := rest }) ∧
    (s.pending = [] → step s = .next s.tick)

/-- R3, R16, R22: the state after reset, and the invariants at it. -/
def Obligations.ResetState : Prop :=
  State.reset.mode = .cold ∧ (∀ a, State.reset.rd a = resetWord a) ∧ State.reset.gtime = 0 ∧ State.reset.pending = [] ∧
    State.reset.sec.sessions = [] ∧ State.reset.shadow = [] ∧ State.reset.memoryWf ∧ State.reset.mem = [] ∧
    State.reset.edgeSound = true

/-- R16: GTIME advances by one on every tick. -/
def Obligations.TickAdvancesGtime : Prop :=
  ∀ (s : State), s.pending = [] →
    (s.aon.pll = true → ∃ t, step s = .next t ∧ t.gtime = s.gtime + 1 ∧ t.mode = s.mode ∧ KeptFuses s t ∧ t.aon = s.aon ∧
      t.i3c = s.i3c ∧ t.tap = s.tap ∧ t.pending = [] ∧
      (s.coreQuiet → t = { s with
        gtime := s.gtime + 1, regs := t.regs, pmc := t.pmc, qos := t.qos, lanes := t.lanes
        chains := t.chains, pkt := t.pkt, out := t.out, fresh := t.fresh }) ∧
      (s.coreQuiet → s.linkQuiet → t = { s with gtime := s.gtime + 1, regs := t.regs, pmc := t.pmc, qos := t.qos })) ∧
    (s.aon.pll = false → step s = .next s)

/-- R16, R491, R531: the invariant of the clock and of the two slow ports. -/
def Obligations.EdgeSoundKept : Prop :=
  ∀ (s t : State), s.edgeSound = true → step s = .next t → t.edgeSound = true

/-- R281, R537: the memory and the errors stored in it keep their canonical form. -/
def Obligations.MemoryCanonicalKept : Prop :=
  ∀ (s t : State), s.memoryWf → step s = .next t → t.memoryWf

/-- R16: no write from the host changes GTIME. -/
def Obligations.GtimeIsNotWritten : Prop :=
  ∀ (c : Instr) (s t : State), exec c s = .next t →
    t.pending = s.pending ∧ (outerCmd c = false → KeptEdge s t) ∧
    (t.gtime = s.gtime ∨ (t.gtime = 0 ∧ (c = .resetNLow ∨ c = .rootPllLock)))

/-- R281: what does not access, repair, move or lose memory leaves all of it. -/
def Obligations.MemoryLeftAlone : Prop :=
  ∀ (c : Instr) (s t : State), memoryCmd c = false → exec c s = .next t → KeptMemory s t

/-- R431, R448: what neither programs nor senses nor cuts off leaves the fuses. -/
def Obligations.FusesLeftAlone : Prop :=
  ∀ (c : Instr) (s t : State), fuseCmd c = false → exec c s = .next t → KeptFuses s t

/-- R22, R23: the table of modes, over every command. -/
def Obligations.ModeTable : Prop :=
  ∀ (c : Instr) (s t : State), exec c s = .next t →
    modeMoves s.mode t.mode = true ∨ (c = .resetNLow ∧ t.mode = .cold) ∨
    ((∃ f, c = .loadEntry f) ∧ s.mode = .cold ∧ (t.mode = .load ∨ t.mode = .safe)) ∨
    ((∃ r, c = .loadComplete r) ∧ s.mode = .load ∧ (t.mode = .service ∨ t.mode = .maintain)) ∨
    (c = .holdEntryComplete ∧ s.trans = some .hold ∧ t.mode = .hold)

/-- R16, R357, R460, R520, R524: what the pins and the lock do. -/
def Obligations.ResetAndPowerPins : Prop :=
  ∀ (s : State),
    let pd13 : PwrSt := { s.pwr with dom := Tab.put s.pwr.dom 13 .on }
    (∃ t, exec .resetNLow s = .next t ∧ t.mode = .cold ∧ t.gtime = 0 ∧ (∀ a, t.rd a = resetWord a) ∧ t.sec.sessions = [] ∧
      t.aon = ⟨false, s.aon.pwrgood, false⟩ ∧ t.flt.ledger = s.flt.ledger ∧ t.upd.flash = s.upd.flash ∧ t.tap = s.tap ∧
      t.pending = s.pending ∧ (s.fse.op = none → t.fse.bits = s.fse.bits)) ∧
    exec .resetNRelease s = .next { s with
      aon := { s.aon with resetN := true }
      pwr := if s.mode = .cold ∧ s.aon.pwrgood = true ∧ s.fse.sensed = false then pd13 else s.pwr } ∧
    exec .pwrgoodRise s = .next { s with
      aon := { s.aon with pwrgood := true }
      pwr := if s.mode = .cold ∧ s.aon.resetN = true ∧ s.fse.sensed = false then pd13 else s.pwr } ∧
    (s.aon.resetN = true → s.aon.pwrgood = true → s.aon.pll = false →
      exec .rootPllLock s = .next { s with gtime := 0, aon := { s.aon with pll := true } }) ∧
    (s.aon.pll = true → exec .rootPllLock s = .next s) ∧
    (s.mode = .cold → s.coolEnough = true → ∃ t, exec .shutdownRearm s = .next t ∧
      t = { s with thm := t.thm, flt := { s.flt with unchecked := t.flt.unchecked } } ∧
      t.thm.trip = false ∧ (∀ r ∈ t.thm.records, r.armed = true) ∧ t.thm.records.length = s.thm.records.length) ∧
    (∀ steps, ∃ t, exec (.testAccessPortOperation false steps) s = .next t ∧ t = { s with tap := t.tap } ∧
      t.tap.state = .reset ∧ t.tap.ir = 1) ∧
    (∀ steps, ∃ t, exec (.testAccessPortOperation true steps) s = .next t ∧
      t = { s with tap := t.tap, out := t.out, fresh := t.fresh }) ∧
    (∀ d1 d2 d3 d4 d5 : Bool, ∃ t, exec (.testAccessPortOperation true [(true, d1), (true, d2), (true, d3), (true, d4), (true, d5)]) s =
      .next t ∧ t.tap.state = .reset ∧ t.tap.ir = 1) ∧
    (∀ d : Bool, s.tap.state = .idle → s.tap.ir = 1 → ∃ t,
      exec (.testAccessPortOperation true ([(true, d), (false, d), (false, d)] ++ List.replicate 32 (false, d))) s = .next t ∧
      t.out = s.out ++ (bitsUp 32 0x016489CB).map .tdo)

/-- R376, R383, R384: the safe-state reaction. -/
def Obligations.FatalReaction : Prop :=
  ∀ (s : State), s.aon = ⟨true, true, true⟩ →
    let safe (src : Nat) (t : State) : Prop :=
      t.mode = .safe ∧ t.sticky src = true ∧ t.flt.safeSrc = some (src, s.now % 4294967296) ∧ t.sec.sessions = [] ∧
        (∀ u, (t.vxuU u).state = .idle)
    (s.mode ≠ .cold → s.mode ≠ .safe →
      (∀ src a b, (src = 0 → s.thm.hot = false) → ∃ t, exec (.fatalFault src a b) s = .next t ∧ safe src.val t) ∧
      (∃ t, exec .pwrgoodLost s = .next t ∧ safe 7 t ∧ t.aon = ⟨true, false, true⟩) ∧
      (∀ pll, ∃ t, exec (.clockLost pll) s = .next t ∧ safe 3 t) ∧
      (∀ cause, ∃ t, exec (.secFatal cause) s = .next t ∧ safe 6 t) ∧
      (∀ core, ∃ t, exec (.mgcWatchdog core) s = .next t ∧ safe 5 t)) ∧
    (s.mode = .safe → ∀ (src : Fin 8) a b, 4 ≤ src.val → src.val ≤ 6 → ∃ t, exec (.fatalFault src a b) s = .next t ∧
      t.mode = .safe ∧ t.sticky src.val = true ∧ t.flt.safeSrc = s.flt.safeSrc) ∧
    (s.mode = .cold → (∃ t, exec (.clockLost false) s = .next t ∧ t.mode = .cold ∧ t.sticky 3 = true) ∧
      (∃ t, exec .pwrgoodLost s = .next t ∧ t.mode = .cold ∧ t.sticky 7 = true))

/-- R23, R27, R406, R473: entering and ending LOAD. -/
def Obligations.Loads : Prop :=
  ∀ (s : State) (found : LoadFind) (r : StartTests),
    (s.released = true → found.sec = none → s.fuseLocked 0 = false → ∃ t, exec (.loadEntry found) s = .next t ∧
      t.mode = .load ∧ t.warm = false ∧ t.avail.loads = s.restoreAvail.avail.loads + 1) ∧
    (s.released = true → found.sec = some 1#2 → ∃ t, exec (.loadEntry found) s = .next t ∧ t.mode = .safe ∧ t.sticky 6 = true) ∧
    (s.released = false → exec (.loadEntry found) s = .next s) ∧
    (s.mode = .load → s.warm = false → s.bst.fulltest = false → s.upd.recovery = false → s.cfg.empty = false →
      ∃ t, exec (.loadComplete r) s = .next t ∧ t.mode = .service) ∧
    (s.mode = .load → s.warm = false → s.bst.fulltest = false → (s.upd.recovery = true ∨ s.cfg.empty = true) →
      ∃ t, exec (.loadComplete r) s = .next t ∧ t.mode = .maintain) ∧
    (s.mode ≠ .load → exec (.loadComplete r) s = .next s) ∧
    (s.trans = some .load → s.noneHeld = true → (s.mode = .service ∨ s.mode = .maintain) → ∃ t, exec .warmLoad s = .next t ∧ t.mode = s.mode ∧
      t.warm = true ∧ t.sec.sessions = [] ∧ t.shadow = []) ∧
    ((s.trans ≠ some .load ∨ s.noneHeld = false) → exec .warmLoad s = .next s)

/-- R25, R26, R270: mode requests, accepted and refused. -/
def Obligations.ModeRequests : Prop :=
  ∀ (s : State) (r : Req) (cal : CalResult), s.upd.recovery = false →
    (serviceStatus r s = .ok → ∃ t, exec (.modeReqService r cal) s = .next t ∧ t.mode = .service ∧ t.answer = ⟨.ok, []⟩) ∧
    (holdStatus r s = .ok → ∃ t, exec (.modeReqHold r) s = .next t ∧ t.trans = some .hold ∧ t.mode = s.mode ∧
      t.rae.dispatch = false ∧ t.answer = ⟨.ok, []⟩) ∧
    (maintainStatus r s = .ok → ∃ t, exec (.modeReqMaintain r) s = .next t ∧ t.mode = .maintain ∧
      (∀ u < 16, (t.vxuU u).state = .idle) ∧ t.answer = ⟨.ok, []⟩) ∧
    (∀ st, st ≠ .ok → serviceStatus r s = st → ∃ t, exec (.modeReqService r cal) s = .next t ∧ t.mode = s.mode ∧ t.answer = ⟨st, []⟩) ∧
    (∀ st, st ≠ .ok → holdStatus r s = st → ∃ t, exec (.modeReqHold r) s = .next t ∧ t.mode = s.mode ∧ t.trans = s.trans ∧
      t.answer = ⟨st, []⟩) ∧
    (∀ st, st ≠ .ok → maintainStatus r s = st → ∃ t, exec (.modeReqMaintain r) s = .next t ∧ t.mode = s.mode ∧
      t.vxu = s.vxu ∧ t.answer = ⟨st, []⟩) ∧
    (s.role r = some .observer → holdStatus r s = .ePriv ∧ maintainStatus r s = .ePriv ∧ serviceStatus r s = .ePriv) ∧
    (s.role r = some .operator → maintainStatus r s = .ePriv) ∧
    (s.role r = some .owner → s.mode ≠ .service → holdStatus r s = .eState ∧ maintainStatus r s = .eState) ∧
    (s.role r = some .operator → s.mode = .service → (∃ u < 16, (s.vxuU u).state ≠ .idle) → holdStatus r s = .eBusy) ∧
    (s.trans = some .hold → s.busyEngines = 0 → s.noneHeld = true → ∃ t, exec .holdEntryComplete s = .next t ∧ t.mode = .hold)

/-- R53: results are reduced modulo 2^m, addition wraps, and immediates and steps are sign-extended. -/
def Obligations.FieldRegisterReduced : Prop :=
  (∀ (x : VxuUnit) (i j : Nat) (v : BitVec 48), i < x.x.length → 1 ≤ x.m.getD i 48 → x.m.getD i 48 ≤ 48 →
    ((x.setX i v).xr i).toNat = v.toNat % 2 ^ (x.m.getD i 48) ∧
    (j ≠ i → (x.setX i v).xr j = x.xr j) ∧ x.setX i v = { x with x := (x.setX i v).x }) ∧
  (∀ (s : State) (u : Fin 16) (w : DWord),
    let x := s.vxuU u
    let k := bitsOf w.toNat 55 53
    let z := bitsOf w.toNat 47 45
    x.x.length = 8 → (∀ i < 8, 1 ≤ x.m.getD i 48 ∧ x.m.getD i 48 ≤ 48) →
    (s.decodesNext u 0x11 w → ∃ t, exec (.addx u) s = .next t ∧ ((t.vxuU u).xr k).toNat =
      (((x.xr k).toNat : Int) + (BitVec.ofNat 48 (bitsOf w.toNat 47 0)).toInt) % 2 ^ (x.m.getD k 48)) ∧
    (s.decodesNext u 0x16 w → ∃ t, exec (.xadd u) s = .next t ∧ ((t.vxuU u).xr k).toNat =
      ((x.xr k).toNat + (x.xr (bitsOf w.toNat 50 48)).toNat) % 2 ^ (x.m.getD k 48)) ∧
    (s.decodesNext u 0x05 w → bitsOf w.toNat 31 0 = 0 → bitsOf w.toNat 51 48 = 0 → x.width = 3 → x.mark = none →
      x.cur = ⟨[], none⟩ → x.frames.length < 64 → ∃ t, exec (.emits u) s = .next t ∧ ((t.vxuU u).xr z).toNat =
        (((x.xr z).toNat : Int) + (BitVec.ofNat 13 (bitsOf w.toNat 44 32)).toInt) % 2 ^ (x.m.getD z 48)))

/-- R54: NOP, TPL, SETX to FIELD, and MARK run to the next state of their effect; nothing outside the unit changes. -/
def Obligations.VxuRegisterInstructions : Prop :=
  ∀ (s : State) (u : Fin 16) (w : DWord),
    (s.decodesNext u 0x00 w → exec (.nop u) s = .next (s.setVxu u ((s.vxuU u).taken 0x00))) ∧
    (s.decodesNext u 0x03 w → exec (.tpl u) s =
      let y := (s.vxuU u).taken 0x03
      .next (s.setVxu u { y with tmpl := y.tmpl.set (bitsOf w.toNat 3 0) (y.vecAt (y.pos - y.bits / 64)) })) ∧
    (s.decodesNext u 0x10 w → exec (.setx u) s =
      .next (s.setVxu u (((s.vxuU u).taken 0x10).setX (bitsOf w.toNat 55 53) (BitVec.ofNat 48 (bitsOf w.toNat 47 0))))) ∧
    (s.decodesNext u 0x11 w → exec (.addx u) s =
      .next (s.setVxu u (((s.vxuU u).taken 0x11).setX (bitsOf w.toNat 55 53)
        ((s.vxuU u).xr (bitsOf w.toNat 55 53) + BitVec.ofNat 48 (bitsOf w.toNat 47 0))))) ∧
    (s.decodesNext u 0x12 w → exec (.andx u) s =
      .next (s.setVxu u (((s.vxuU u).taken 0x12).setX (bitsOf w.toNat 55 53)
        ((s.vxuU u).xr (bitsOf w.toNat 55 53) &&& BitVec.ofNat 48 (bitsOf w.toNat 47 0))))) ∧
    (s.decodesNext u 0x13 w → exec (.orx u) s =
      .next (s.setVxu u (((s.vxuU u).taken 0x13).setX (bitsOf w.toNat 55 53)
        ((s.vxuU u).xr (bitsOf w.toNat 55 53) ||| BitVec.ofNat 48 (bitsOf w.toNat 47 0))))) ∧
    (s.decodesNext u 0x14 w → exec (.xorx u) s =
      .next (s.setVxu u (((s.vxuU u).taken 0x14).setX (bitsOf w.toNat 55 53)
        ((s.vxuU u).xr (bitsOf w.toNat 55 53) ^^^ BitVec.ofNat 48 (bitsOf w.toNat 47 0))))) ∧
    (s.decodesNext u 0x15 w → exec (.cpyx u) s =
      .next (s.setVxu u (((s.vxuU u).taken 0x15).setX (bitsOf w.toNat 55 53) ((s.vxuU u).xr (bitsOf w.toNat 50 48))))) ∧
    (s.decodesNext u 0x16 w → exec (.xadd u) s =
      .next (s.setVxu u (((s.vxuU u).taken 0x16).setX (bitsOf w.toNat 55 53)
        ((s.vxuU u).xr (bitsOf w.toNat 55 53) + (s.vxuU u).xr (bitsOf w.toNat 50 48))))) ∧
    (s.decodesNext u 0x17 w → exec (.setm u) s =
      let y := (s.vxuU u).taken 0x17
      .next (s.setVxu u (({ y with m := y.m.set (bitsOf w.toNat 55 53) (bitsOf w.toNat 5 0) } : VxuUnit).setX
        (bitsOf w.toNat 55 53) (y.xr (bitsOf w.toNat 55 53))))) ∧
    (s.decodesNext u 0x18 w → exec (.field u) s =
      let y := (s.vxuU u).taken 0x18
      let f : FieldSlot :=
        ⟨bitsOf w.toNat 52 50, bitsOf w.toNat 49 41, bitsOf w.toNat 40 35 + 1, bitsOf w.toNat 34 34 == 1, bitsOf w.toNat 33 33 == 1⟩
      .next (s.setVxu u { y with fs := y.fs.set (bitsOf w.toNat 55 53) f })) ∧
    (s.decodesNext u 0x30 w → exec (.mark u) s =
      .next (s.setVxu u { (s.vxuU u).taken 0x30 with mark := some (BitVec.ofNat 16 (bitsOf w.toNat 15 0)) }))

/-- R54: LOOP, ENDL, CALL, RET, PAUSEPT and END run to the next state of their effect. -/
def Obligations.VxuControlInstructions : Prop :=
  ∀ (s : State) (u : Fin 16) (w : DWord),
    (s.decodesNext u 0x20 w → exec (.loop u) s =
      let y := (s.vxuU u).taken 0x20
      let l : LoopLevel := ⟨bitsOf w.toNat 31 0 + 1, y.inSub, y.pos, y.calls.length⟩
      .next (s.setVxu u { y with loops := l :: y.loops })) ∧
    (∀ l r, s.decodesNext u 0x21 w → (s.vxuU u).loops = l :: r → 1 < l.left → exec (.endl u) s =
      .next (s.setVxu u { (s.vxuU u).taken 0x21 with loops := { l with left := l.left - 1 } :: r, pos := l.body })) ∧
    (∀ l r, s.decodesNext u 0x21 w → (s.vxuU u).loops = l :: r → l.left ≤ 1 → exec (.endl u) s =
      .next (s.setVxu u { (s.vxuU u).taken 0x21 with loops := r })) ∧
    (s.decodesNext u 0x22 w → exec (.call u) s =
      let y := (s.vxuU u).taken 0x22
      let c : CallLevel := ⟨y.inSub, y.pos⟩
      .next (s.setVxu u { y with calls := c :: y.calls, inSub := true, pos := bitsOf w.toNat 12 0 })) ∧
    (∀ c r, s.decodesNext u 0x23 w → (s.vxuU u).calls = c :: r → exec (.ret u) s =
      .next (s.setVxu u { (s.vxuU u).taken 0x23 with calls := r, inSub := c.inSub, pos := c.ret })) ∧
    (s.decodesNext u 0x31 w → (s.vxuU u).ppend = true → exec (.pausept u) s =
      .next (s.setVxu u { ((s.vxuU u).taken 0x31).closeFrame with stopped := true })) ∧
    (s.decodesNext u 0x31 w → (s.vxuU u).ppend = false → exec (.pausept u) s =
      .next (s.setVxu u ((s.vxuU u).taken 0x31))) ∧
    (s.decodesNext u 0x3F w → ((s.vxuU u).state ≠ .running ∨ ((s.vxuU u).taken 0x3F).closeFrame.frames ≠ []) → exec (.endProg u) s =
      .next (s.setVxu u { ((s.vxuU u).taken 0x3F).closeFrame with ending := some 1, emis := none })) ∧
    (s.decodesNext u 0x3F w → (s.vxuU u).state = .running → ((s.vxuU u).taken 0x3F).closeFrame.frames = [] → ∃ t,
      exec (.endProg u) s = .next t ∧ (t.vxuU u).state = .idle ∧ (t.vxuU u).reason = 1 ∧ (t.vxuU u).tEnd = s.gtime ∧
      (t.vxuU u).owed = (s.vxuU u).owed ++ [⟨(s.vxuU u).ctlFrame u 3 1, s.vxuChain u, s.vxuLabel u, false⟩])

/-- R54, R60: LIT, RLIT, EMIT and EMITS start an emission and compose it as far as there is room. -/
def Obligations.VxuEmittingInstructions : Prop :=
  ∀ (s : State) (u : Fin 16) (w : DWord),
    let x := s.vxuU u
    let n := bitsOf w.toNat 31 0 + 1
    let step := (BitVec.ofNat 13 (bitsOf w.toNat 44 32)).signExtend 48
    let made := x.compose (bitsOf w.toNat 55 52)
    let literal := (x.taken 0x02).vecAt ((x.taken 0x02).pos - x.bits / 64)
    let lit := { x.taken 0x01 with
      emis := some (.lit (bitsOf w.toNat 15 0 + 1)), litFrom := ⟨x.composed, x.cur, x.mark, (x.taken 0x01).pos - 1⟩ }
    (s.decodesNext u 0x01 w → exec (.lit u) s = .next ((s.setVxu u lit).composeAll u)) ∧
    (s.decodesNext u 0x02 w → exec (.rlit u) s =
      .next ((s.setVxu u { x.taken 0x02 with emis := some (.rlit literal n) }).composeAll u)) ∧
    (s.decodesNext u 0x04 w → exec (.emit u) s =
      .next ((s.setVxu u { x.taken 0x04 with emis := some (.rlit made n) }).composeAll u)) ∧
    (s.decodesNext u 0x05 w → exec (.emits u) s =
      .next ((s.setVxu u { x.taken 0x05 with
        emis := some (.tpl (bitsOf w.toNat 55 52) (bitsOf w.toNat 51 48 + 1) (bitsOf w.toNat 47 45) step 0 n) }).composeAll u)) ∧
    (x.width = 3 → x.mark = none → x.cur = ⟨[], none⟩ →
      (s.decodesNext u 0x04 w → x.frames.length + n ≤ 64 → ∃ t, exec (.emit u) s = .next t ∧ t = s.setVxu u (t.vxuU u) ∧
        (t.vxuU u).frames = x.frames ++ List.replicate n ⟨[made], none⟩ ∧ (t.vxuU u).emis = none) ∧
      (s.decodesNext u 0x02 w → x.frames.length + n ≤ 64 → ∃ t, exec (.rlit u) s = .next t ∧ t = s.setVxu u (t.vxuU u) ∧
        (t.vxuU u).frames = x.frames ++ List.replicate n ⟨[literal], none⟩ ∧ (t.vxuU u).emis = none) ∧
      (s.decodesNext u 0x01 w → bitsOf w.toNat 15 0 = 0 → x.frames.length < 64 → lit.litBroken 1 = false →
        lit.badWord lit.pos 8 = none → (lit.advance 8).overBound = false → ∃ t, exec (.lit u) s = .next t ∧
        t = s.setVxu u (t.vxuU u) ∧ (t.vxuU u).frames = x.frames ++ [⟨[lit.vecAt lit.pos], none⟩] ∧
        (t.vxuU u).pos = lit.pos + 8 ∧ (t.vxuU u).emis = none) ∧
      (s.decodesNext u 0x05 w → bitsOf w.toNat 51 48 = 0 → n = 1 → x.frames.length < 64 → ∃ t, exec (.emits u) s = .next t ∧
        t = s.setVxu u (t.vxuU u) ∧ (t.vxuU u).frames = x.frames ++ [⟨[made], none⟩] ∧ (t.vxuU u).emis = none ∧
        (t.vxuU u).x = (x.setX (bitsOf w.toNat 47 45) (x.xr (bitsOf w.toNat 47 45) + step)).x))

/-- R63, R71, R74, R78: the stream commands accepted, to one unit and to a group, and refused. -/
def Obligations.VxuCommands : Prop :=
  ∀ (s : State) (r : Req) (sel : VxuSel), s.upd.recovery = false →
    let done (op : VxuOp) (t : State) : Prop := t.answer = ⟨.ok, []⟩ ∧ (∀ v, v ∉ selUnits sel → t.vxuU v = s.vxuU v) ∧
      (∀ m, sel = .group m → t.rdN Reg.VXU_GCMD = m.toNat * 65536 + vxuOpCode op)
    let refused (st : Status) (t : State) : Prop := t.answer = ⟨st, []⟩ ∧ t.vxu = s.vxu
    (vxuCmdStatus r sel .start s = .ok → ∃ t, exec (.vxuStart r sel) s = .next t ∧ done .start t ∧ ∀ u ∈ selUnits sel,
      (t.vxuU u).state = .loading ∧ (t.vxuU u).progOff = s.rd64 (Reg.VXU_PROG_OFF u) ∧ (t.vxuU u).tCmd = s.now ∧
      (t.vxuU u).vcyc = 0 ∧ (t.vxuU u).nFrames = 0 ∧ (t.vxuU u).nStalls = 0 ∧ (t.vxuU u).txWait = 0 ∧ (t.vxuU u).pos = 0 ∧
      (t.vxuU u).tStart = 0 ∧ (t.vxuU u).tEnd = 0 ∧ (t.vxuU u).reason = (s.vxuU u).reason) ∧
    (vxuCmdStatus r sel .pause s = .ok → ∃ t, exec (.vxuPause r sel) s = .next t ∧ done .pause t ∧ ∀ u ∈ selUnits sel,
      (t.vxuU u).state = .running ∧ (t.vxuU u).ppend = true ∧ ((s.vxuU u).overBound = false →
        t.vxuU u = if (s.vxuU u).pp then { s.vxuU u with ppend := true }
          else { (s.vxuU u).closeFrame with ppend := true, stopped := true })) ∧
    (vxuCmdStatus r sel .resume s = .ok → ∃ t, exec (.vxuResume r sel) s = .next t ∧ done .resume t ∧ ∀ u ∈ selUnits sel,
      t.vxuU u = { s.vxuU u with state := .loading, stopped := false, tCmd := s.now }) ∧
    (vxuCmdStatus r sel .stop s = .ok → ∃ t, exec (.vxuStop r sel) s = .next t ∧ done .stop t ∧ ∀ u ∈ selUnits sel,
      ((s.vxuU u).state = .idle → t.vxuU u = s.vxuU u) ∧
      ((s.vxuU u).state ≠ .idle → (t.vxuU u).state = .idle ∧ (t.vxuU u).reason = 2 ∧ (t.vxuU u).frames = [] ∧
        (t.vxuU u).packet = [] ∧ (t.vxuU u).owed = if (s.vxuU u).sent
          then (s.vxuU u).owed ++ [⟨(s.vxuU u).ctlFrame u 3 2, s.vxuChain u, s.vxuLabel u, false⟩] else (s.vxuU u).owed)) ∧
    (∀ st, st ≠ .ok →
      (vxuCmdStatus r sel .start s = st → ∃ t, exec (.vxuStart r sel) s = .next t ∧ refused st t) ∧
      (vxuCmdStatus r sel .pause s = st → ∃ t, exec (.vxuPause r sel) s = .next t ∧ refused st t) ∧
      (vxuCmdStatus r sel .resume s = st → ∃ t, exec (.vxuResume r sel) s = .next t ∧ refused st t) ∧
      (vxuCmdStatus r sel .stop s = st → ∃ t, exec (.vxuStop r sel) s = .next t ∧ refused st t)) ∧
    (∀ (op : VxuOp) (u : Fin 16),
      (s.role r = some .observer → vxuCmdStatus r sel op s = .ePriv) ∧
      ((s.role r = some .owner ∨ s.role r = some .operator) →
        (s.mode ≠ .service → vxuCmdStatus r (.unit u) op s = .eState) ∧
        (s.mode = .service → (s.vxuU u).state ≠ .running → vxuCmdStatus r (.unit u) .pause s = .eState) ∧
        (s.mode = .service → (s.vxuU u).state ≠ .paused → vxuCmdStatus r (.unit u) .resume s = .eState) ∧
        (s.mode = .service → (s.vxuU u).state ≠ .idle → vxuCmdStatus r (.unit u) .start s = .eBusy)))

/-- R59, R63, R64, R68, R69: the events of a stream. -/
def Obligations.VxuStreamEvents : Prop :=
  ∀ (s : State) (u : Fin 16),
    let x := s.vxuU u
    let go (st : VxuState) : VxuUnit := { x with state := st, first := true, acc := 0, due := 0 }
    let owes (n : Nat) : List OwedEnd := x.owed ++ [⟨x.ctlFrame u 3 n, s.vxuChain u, s.vxuLabel u, false⟩]
    let missed (t : State) : Prop := (t.vxuU u).state = .idle ∧ (t.vxuU u).reason = 7 ∧
      (t.vxuU u).owed = (if x.sent then owes 7 else x.owed) ∧ t.flag (Reg.VXU_EVENTS u) Fld.VXU_EVENTS_START_MISS = true
    let quiet := x.emis = none ∧ x.ending = none
    (∀ p intact, s.vxuPart u = some p → x.state = .loading → x.hdrOk = false → x.out = false → s.headerWaits u = false →
      let h := (s.reachBanks (s.realTime (s.vxuClass u) 0 false) p.2 x.progOff 64).readBytes p.1 p.2 x.progOff 64
      let st := s.headerStatus u h.bytes (intact && h.intact && !s.parcelGone p.2 x.progOff 64)
      ∃ t, exec (.vxuHeaderCheck u intact) s = .next t ∧
        (st = .ok → t.vxuU u = { x with
          hdrOk := true, lstat := 0, width := leAt h.bytes 6 1, pp := leAt h.bytes 7 1 == 1, progLen := leAt h.bytes 8 8
          subLen := leAt h.bytes 16 4, readBound := leAt h.bytes 20 4, decodeBound := leAt h.bytes 24 4, sub := (t.vxuU u).sub }) ∧
        (st ≠ .ok → (t.vxuU u).state = .idle ∧ (t.vxuU u).reason = 8 ∧ (t.vxuU u).lstat = st.code)) ∧
    ((x.state ≠ .loading ∨ x.hdrOk = true ∨ x.out = true ∨ s.headerWaits u = true ∨ s.vxuPart u = none) → ∀ intact, exec (.vxuHeaderCheck u intact) s = .next s) ∧
    (s.vxuReady u = true → quiet →
      (s.startAt u = 0 → exec (.vxuReady u) s = .next (s.setVxu u (go .running)) ∧
        exec (.startDeadlineExpire u) s = .next (s.setVxu u (go .running))) ∧
      (s.startAt u ≠ 0 → exec (.vxuReady u) s = .next (s.setVxu u (go .armed)) ∧
        exec (.startDeadlineExpire u) s = .next (s.setVxu u (go .armed))) ∧
      (s.startAt u ≠ 0 → s.startAt u ≤ s.now → ∃ t, exec (.startMark u) s = .next t ∧ t.vxuU u = { go .running with due := 1 })) ∧
    (s.vxuReady u = false → exec (.vxuReady u) s = .next s ∧
      (x.state = .loading → s.deadlinePassed u = true → ∃ t, exec (.startDeadlineExpire u) s = .next t ∧ missed t) ∧
      ((x.state ≠ .loading ∨ s.deadlinePassed u = false) → exec (.startDeadlineExpire u) s = .next s) ∧
      (x.state = .loading → s.startAt u ≠ 0 → s.startAt u ≤ s.now → ∃ t, exec (.startMark u) s = .next t ∧ missed t)) ∧
    (s.now < s.startAt u → exec (.startMark u) s = .next s) ∧
    (s.startAt u ≤ s.now → x.state = .armed → (x.ending = none ∨ x.frames ≠ []) → exec (.startMark u) s =
      .next (s.setVxu u { x with state := .running, acc := 0, due := 1 })) ∧
    exec (.vxuFrameSlot u 0) s = .next s ∧
    (∀ n t, exec (.vxuFrameSlot u 1) s = .next t → exec (.vxuFrameSlot u (n + 1)) s = exec (.vxuFrameSlot u n) t) ∧
    (s.slotDue u → s.canAccept u = true → x.packet.length < 7 → ∃ t, exec (.vxuFrameSlot u 1) s = .next t ∧
      (∀ f rest, x.frames = f :: rest → quiet → (t.vxuU u).frames = rest ∧ (t.vxuU u).state = .running ∧
        (t.vxuU u).packet = x.packet ++ [x.dataFrame u f] ∧ (t.vxuU u).nFrames = x.nFrames + 1 ∧
        (t.vxuU u).vcyc = x.vcyc + BitVec.ofNat 32 f.vecs.length ∧ (t.vxuU u).first = false) ∧
      (x.frames = [] →
        (∀ e, x.ending = some e → (t.vxuU u).state = .idle ∧ (t.vxuU u).reason = e ∧ (t.vxuU u).packet = [] ∧
          (t.vxuU u).owed = []) ∧
        (x.ending = none → x.overBound = false →
          (x.stopped = true → (t.vxuU u).state = .paused ∧ (t.vxuU u).ppend = false ∧ (t.vxuU u).packet = []) ∧
          (x.stopped = false → t.flag (Reg.VXU_EVENTS u) Fld.VXU_EVENTS_UNDERRUN = true ∧
            (∀ gap, s.fld (Reg.VXU_POLICY u) Fld.VXU_POLICY_POLICY = b2n gap → (t.vxuU u).state = .running ∧
              (t.vxuU u).nStalls = x.nStalls + 1 ∧ (t.vxuU u).stallRun = min (x.stallRun + 1) 65535 ∧
              (t.vxuU u).packet = x.packet ++ [x.ctlFrame u 1 (min (x.stallRun + 1) 65535)] ∧
              (t.vxuU u).vcyc = (if gap then x.vcyc + BitVec.ofNat 32 x.perFrame else x.vcyc)) ∧
            (s.fld (Reg.VXU_POLICY u) Fld.VXU_POLICY_POLICY = 2 → (t.vxuU u).state = .idle ∧ (t.vxuU u).reason = 3 ∧
              (t.vxuU u).packet = []))))) ∧
    (s.slotDue u → s.canAccept u = false → exec (.vxuFrameSlot u 1) s = .next (s.setVxu u { x with
      acc := (x.acc + s.vxuInc u) % 2 ^ 31, due := 1, txWait := x.txWait + 1 })) ∧
    (∀ o rest, x.state ≠ .running → x.owed = o :: rest →
      (s.canAccept u = true → ∃ t, exec (.vxuFrameSlot u 1) s = .next t ∧ (t.vxuU u).owed = rest ∧
        t.holdsPacket o.chain 1 o.label o.frame ∧ (o.old = false → (t.vxuU u).tEnd = s.gtime)) ∧
      (s.canAccept u = false → exec (.vxuFrameSlot u 1) s = .next s)) ∧
    (x.ending = none → x.overBound = true →
      ((x.state = .armed ∨ (x.state = .running ∧ x.closeFrame.frames ≠ [])) → exec (.vxuBoundStop u) s =
        .next ((s.setVxu u { x.closeFrame with ending := some 5, emis := none }).event (Reg.VXU_EVENTS u)
          Fld.VXU_EVENTS_BOUND)) ∧
      (x.state = .running → x.closeFrame.frames = [] → ∃ t, exec (.vxuBoundStop u) s = .next t ∧ (t.vxuU u).state = .idle ∧
        (t.vxuU u).reason = 5 ∧ (t.vxuU u).owed = owes 5)) ∧
    (x.overBound = false → exec (.vxuBoundStop u) s = .next s) ∧
    (x.packet ≠ [] → x.tPacket + 16 ≤ s.now → ∃ t, exec (.vecPacketClose u) s = .next t ∧ (t.vxuU u).packet = [] ∧
      (s.chainUp (s.vxuChain u) = true → t.holdsPacket (s.vxuChain u) 1 (s.vxuLabel u) x.packet.flatten)) ∧
    ((x.packet = [] ∨ s.now < x.tPacket + 16) → exec (.vecPacketClose u) s = .next s) ∧
    (∀ p intact, s.vxuPart u = some p → x.hdrOk = true → x.state ≠ .idle →
      let o := x.progOff + 64 + x.subLen + x.fetched
      let n := min (64 - o % 64) (x.mainLen - x.fetched)
      let room := 8 * x.resv.length + n ≤ s.rdN (Reg.QOS_SRES_SIZE u) * 4096
      let r := (s.reachBanks (s.realTime (s.vxuClass u) 0 false) p.2 o n).readBytes p.1 p.2 o n
      (n ≠ 0 → s.fetchWaits u p.2 o n = false → room → ∃ t, exec (.vxuProgramFetch u intact) s = .next t ∧
        (t.vxuU u).fetched = x.fetched + n ∧ (x.state = .loading →
          (t.vxuU u).resv = x.resv ++ progWords r.bytes (intact && r.intact && !s.parcelGone p.2 o n))) ∧
      ((n = 0 ∨ s.fetchWaits u p.2 o n = true ∨ ¬ room) → exec (.vxuProgramFetch u intact) s = .next s)) ∧
    ((x.hdrOk = false ∨ x.state = .idle ∨ s.vxuPart u = none) → ∀ intact, exec (.vxuProgramFetch u intact) s = .next s)

/-- R84, R89, R233, R538: what a FAIL packet and the next record of the ingest queue leave. -/
def Obligations.FailRecords : Prop :=
  ∀ (s : State) (k : Fin 16) (payload : List Byte) (f : FailRec) (rest : List FailRec),
    let i := recSource f.bytes
    let x := s.source i
    let q := recSseq f.bytes
    (s.chainUp k = true → s.mode ≠ .cold → s.mode ≠ .safe → ∃ t,
      exec (.failPacket k payload) s = .next t ∧ t.cad.sources = s.cad.sources ∧
      (s.cadPart.isSome = true → t.cad.ingest = s.cad.ingest ++ (chunks 32 18 payload).map (fun l => ⟨l, k.val⟩)) ∧
      (s.cadPart = none → t.cad.ingest = s.cad.ingest)) ∧
    ((s.chainUp k = false ∨ s.mode = .cold ∨ s.mode = .safe) → exec (.failPacket k payload) s = .next s) ∧
    ((s.mode ≠ .service ∨ s.cad.ingest = []) → exec .failRecord s = .next s) ∧
    (s.mode = .service → s.cad.ingest = f :: rest → ∃ t, exec .failRecord s = .next t ∧ t.cad.ingest = rest ∧
      (∀ j, j ≠ i → t.source j = s.source j) ∧
      (s.foldsRecord f →
        (x.held = [] → (x.nx = none ∨ x.nx = some q ∨ recSync f.bytes = true) →
          (t.source i).nx = some ((q + 1) % 4294967296) ∧ (t.source i).held = [] ∧
          (recMarker f.bytes = true → (t.source i).marked = true ∧ (t.source i).mark = recVcyc f.bytes ∧
            t.cad.released = s.cad.released) ∧
          (∀ d, recMarker f.bytes = false → s.resolve f.bytes false = .inl d →
            t.cad.released = s.cad.released ++ [⟨f, false, s.cad.relSeq⟩] ∧ t.cad.relSeq = s.cad.relSeq + 1)) ∧
        (∀ nx, x.nx = some nx → recSync f.bytes = false → 1 ≤ serialDist nx q → serialDist nx q ≤ 1023 →
          x.held.any (fun h => h.1 == q) = false → (t.source i).nx = some nx ∧ (t.source i).held = holdAt nx q f x.held ∧
            (t.source i).timer = true ∧ (t.source i).tGap = (if x.timer then x.tGap else s.now) ∧
            t.cad.released = s.cad.released) ∧
        (∀ nx, x.nx = some nx → recSync f.bytes = false → (serialDist nx q = 2147483648 ∨
            (2147483648 < serialDist nx q ∧ inGap x.gaps q = false) ∨
            (1 ≤ serialDist nx q ∧ serialDist nx q ≤ 1023 ∧ x.held.any (fun h => h.1 == q) = true)) →
          t.source i = { x with timer := !x.held.isEmpty, tGap := if x.timer then x.tGap else s.now } ∧
            t.cad.released = s.cad.released)) ∧
      (s.logSource f = none → ¬ s.passesChecks f → t.cad.sources = s.cad.sources ∧ t.cad.released = s.cad.released ∧
        t.cad.excTotal = (s.cad.excTotal + 1) % 2 ^ 64) ∧
      (s.logSource f = some i → s.srcMode i = 1 → t.cad.sources = s.cad.sources ∧ t.cad.released = s.cad.released ∧
        (((s.capLog (s.srcLog i)).full = false ∨ s.capRing (s.srcLog i) = true) → (s.capLog (s.srcLog i)).recs.length < 126 →
          (t.capLog (s.srcLog i)).recs = (s.capLog (s.srcLog i)).recs ++ [f.bytes])))

/-- R85, R86, R93, R94, R97, R107, R109: the timers of ordering and capture, and a fold. -/
def Obligations.GapsCaptureFold : Prop :=
  ∀ (s : State) (src : Fin 256) (p : Fin 16) (r : Released) (rest : List Released) (nx : Nat) (h : Nat × FailRec)
      (later : List (Nat × FailRec)),
    let x := s.source src
    let c := s.capLog p
    let expired := 2 * x.tGap + 625 * s.gapTime src ≤ 2 * s.now
    let written := s.mode ≠ .cold ∧ s.mode ≠ .safe ∧ c.recs ≠ [] ∧ c.start + 3125 ≤ s.now
    ((s.mode ≠ .service ∨ x.timer = false ∨ ¬ expired) → exec (.gapTimerExpire src) s = .next s) ∧
    (s.mode = .service → x.timer = true → expired → ∃ t, exec (.gapTimerExpire src) s = .next t ∧
      t.cad.ingest = s.cad.ingest ∧ (∀ j, j ≠ src.val → t.source j = s.source j) ∧
      (x.nx = some nx → x.held = h :: later → 1 ≤ serialDist nx h.1 → serialDist nx h.1 ≤ 1023 →
        (∀ g ∈ later.head?, g.1 ≠ (h.1 + 1) % 4294967296) →
        (t.source src).nx = some ((h.1 + 1) % 4294967296) ∧ (t.source src).held = later ∧
        (t.source src).timer = !later.isEmpty ∧ (t.source src).tGap = s.now ∧
        (t.source src).gaps = ((nx, serialDist nx h.1) :: x.gaps).take 16) ∧
      (x.nx = none → x.held ≠ [] → (t.source src).held = [] ∧ (t.source src).timer = false)) ∧
    (¬ written → exec (.capBlockTimeout p) s = .next s) ∧
    (written → ∀ part, Tab.look s.cfg.parts p = some part → ∃ t,
      exec (.capBlockTimeout p) s = .next t ∧ (t.capLog p).recs = [] ∧ (t.capLog p).seq = (c.seq + 1) % 4294967296 ∧
      t.cad.sources = s.cad.sources ∧ (c.wptr + 4096 < part.size → (t.capLog p).wptr = c.wptr + 4096) ∧
      (part.size ≤ c.wptr + 4096 → s.capRing p = true → (t.capLog p).wptr = 0 ∧ (t.capLog p).full = c.full) ∧
      (part.size ≤ c.wptr + 4096 → s.capRing p = false → (t.capLog p).full = true)) ∧
    ((s.mode ≠ .service ∨ s.cad.released = []) → exec .foldRecord s = .next s) ∧
    (s.mode = .service → s.cad.released = r :: rest → ∃ t, exec .foldRecord s = .next t ∧ t.cad.released = rest ∧
      t.cad.sources = s.cad.sources ∧ t.cad.ingest = s.cad.ingest ∧
      (∀ d y, s.resolve r.fail.bytes r.late = .inl (d, y) →
        let u := s.foldState r rest d y
        ((u.takeAll (u.foldPlan d y).needs).isSome = true → (t.domain d).folded = (s.domain d).folded + 1 ∧
          (t.domain d).fp = (s.domain d).fp + (s.foldPlan d y).fresh.length ∧ t.cad.folded = (s.cad.folded + 1) % 2 ^ 64) ∧
        (u.takeAll (u.foldPlan d y).needs = none → t.domain d = { s.domain d with mapIncomplete := true } ∧
          t.cad.folded = s.cad.folded ∧ t.cad.excTotal = (s.cad.excTotal + 1) % 2 ^ 64)) ∧
      (∀ e, s.resolve r.fail.bytes r.late = .inr e → t.cad.domains = s.cad.domains ∧ t.cad.folded = s.cad.folded ∧
        t.cad.excTotal = (s.cad.excTotal + 1) % 2 ^ 64))

/-- R98 to R104, R115 to R118: what the commands of domains, pools and sources leave. -/
def Obligations.DomainCommands : Prop :=
  ∀ (s : State) (r : Req) (src : Fin 256) (upto : Option (BitVec 25)) (fenced : Bool), s.upd.recovery = false →
    let n := match upto with
      | none => s.dCount
      | some k => min k.toNat s.dCount
    let busy (t : State) : Prop := t.cad.done = n ∧ t.cad.stopped = false ∧ t.cad.dcmd.isSome = decide (n < s.dCount)
    (openStatus r s = .ok → ∃ t, exec (.domOpen r upto) s = .next t ∧ t.answer = ⟨.ok, []⟩ ∧ busy t ∧
      (∀ i < n, t.domain (s.dFirst + i) = s.openedDomain i) ∧
      (∀ d, (d < s.dFirst ∨ s.dFirst + n ≤ d) → t.domain d = s.domain d)) ∧
    (closeStatus r fenced s = .ok → s.mode = .service → ∃ t, exec (.domClose r fenced upto) s = .next t ∧
      t.answer = ⟨.ok, []⟩ ∧ busy t ∧
      (∀ d, s.dFirst ≤ d → d < s.dFirst + n → (s.domain d).state = .open → (t.domain d).state = .closing ∧
        (t.domain d).fence = (if fenced then some (s.rdN Reg.CAD_FENCE_ID, s.fenceSrcs, s.dFirst) else none) ∧
        (t.domain d).timer = fenced ∧ (t.domain d).fenceDue = 2 * s.now + 625 * s.fenceTime) ∧
      (∀ d, (d < s.dFirst ∨ s.dFirst + n ≤ d ∨ (s.domain d).state ≠ .open) → t.domain d = s.domain d)) ∧
    (closeStatus r fenced s = .ok → s.mode ≠ .service → exec (.domClose r fenced upto) s =
      .next (({ s with cad := { s.cad with
        closeQ := s.cad.closeQ ++ [⟨s.dFirst, s.dCount, fenced, s.rdN Reg.CAD_FENCE_ID, if fenced then s.fenceSrcs else [], s.cad.relSeq⟩]
        stopped := false, done := 0 } } : State).reply .ok)) ∧
    (releaseStatus r s = .ok → ∃ t, exec (.domRelease r upto) s = .next t ∧ t.answer = ⟨.ok, []⟩ ∧ busy t ∧
      (∀ d, s.dFirst ≤ d → d < s.dFirst + n → (t.domain d).state = .free) ∧
      (∀ d, (d < s.dFirst ∨ s.dFirst + n ≤ d) → t.domain d = s.domain d)) ∧
    (poolDefStatus r s = .ok → upto ≠ some 0 → exec (.poolDef r upto) s = .next (({ s with cad := { s.cad with
      pools := Tab.put s.cad.pools s.dPool { pr := s.dRs, pc := s.dCs }, done := 1, stopped := false, dcmd := none } } : State).reply .ok)) ∧
    (poolDelStatus r s = .ok → upto ≠ some 0 → exec (.poolDel r upto) s = .next (({ s with cad := { s.cad with
      pools := Tab.del s.cad.pools s.dPool, done := 1, stopped := false, dcmd := none } } : State).reply .ok)) ∧
    (poolDefStatus r s = .ok → exec (.poolDef r (some 0)) s = .next (({ s with cad := { s.cad with
      done := 0, stopped := false, dcmd := some (s.domAsked 4 false) } } : State).reply .ok)) ∧
    (poolDelStatus r s = .ok → exec (.poolDel r (some 0)) s = .next (({ s with cad := { s.cad with
      done := 0, stopped := false, dcmd := some (s.domAsked 5 false) } } : State).reply .ok)) ∧
    (resyncStatus r s = .ok →
      exec (.resync r src) s = .next ((s.setSource src { s.source src with nx := none }).reply .ok)) ∧
    (∀ c st, (c, st) ∈ [(Instr.domOpen r upto, openStatus r s), (.domClose r fenced upto, closeStatus r fenced s),
        (.domRelease r upto, releaseStatus r s), (.poolDef r upto, poolDefStatus r s), (.poolDel r upto, poolDelStatus r s),
        (.resync r src, resyncStatus r s)] → st ≠ .ok → ∃ t, exec c s = .next t ∧ t.answer = ⟨st, []⟩ ∧ t.cad = s.cad)

/-- R99, R101, R110, R124: how a CLOSE ends. -/
def Obligations.Closing : Prop :=
  ∀ (s : State) (d : BitVec 24),
    let c := s.closeRecord d.toNat
    (s.mode = .service → ∀ x id srcs, (d.toNat, x) ∈ s.cad.domains → x.state = .closing → x.timer = true →
      x.fenceDue ≤ 2 * s.now → x.fence = some (id, srcs, d.toNat) →
      (∀ e ∈ s.cad.domains, ∀ a b, e.2.fence = some (a, b, d.toNat) → a = id ∧ b = srcs) →
      (∃ i ∈ srcs, s.fenceWaits id i = true) → ∃ t, exec (.fenceTimerExpire d) s = .next t ∧
        t.cad.domains = s.cad.domains.map (fun e =>
          if e.2.state = .closing ∧ e.2.timer = true ∧ e.2.fence = some (id, srcs, d.toNat) then
            (e.1, { e.2 with fenceTimeout := true, missing := true, timer := false }) else e) ∧
        t.cad.sources = s.cad.sources) ∧
    ((s.mode ≠ .service ∨ ∀ e ∈ s.cad.domains, ∀ a b, e.2.fence = some (a, b, d.toNat) →
        (2 * s.now < e.2.fenceDue ∨ ∀ i ∈ b, s.fenceWaits a i = false)) → exec (.fenceTimerExpire d) s = .next s) ∧
    ((s.mode ≠ .service ∨ s.closeReady d.toNat = false) → exec (.closeRecordBuild d) s = .next s) ∧
    (s.mode = .service → s.closeReady d.toNat = true → (s.takeAll (s.closeNeeds d.toNat c)).isSome = true → ∃ t,
      exec (.closeRecordBuild d) s = .next t ∧ t.cad.sources = s.cad.sources ∧
      (t.domain d.toNat).closeRec = some c ∧ (t.domain d.toNat).tClosed = s.now ∧
      (c.ovf = false → (t.domain d.toNat).state = .closed ∧ t.rae.queue = s.rae.queue ++ [d.toNat]) ∧
      (c.ovf = true → (s.domain d.toNat).pool = 0 → (t.domain d.toNat).state = .done) ∧
      (c.ovf = true → (s.domain d.toNat).pool ≠ 0 → (t.domain d.toNat).state = .analysing ∧
        (t.domain d.toNat).outcome = some (overflowOutcome c))) ∧
    (s.mode = .service → s.closeReady d.toNat = true → s.takeAll (s.closeNeeds d.toNat c) = none →
      exec (.closeRecordBuild d) s = .next (s.event Reg.CAD_EVENTS Fld.CAD_EVENTS_HEAP_FULL))

/-- R112, R113, R119: a readout and its end. -/
def Obligations.Readouts : Prop :=
  ∀ (s : State) (r : Req) (f : Form),
    let c : Instr := match f with
      | .summary => .readoutSummary r
      | .points => .readoutPoints r
      | .lines => .readoutLines r
      | .closeRecord => .readoutCloseRecord r
    let es := (s.domain s.rDom).formEntries f
    let ok := fitting (s.rdN Reg.CAD_RMAX - 64) es
    let host := s.role r = some .owner ∨ s.role r = some .operator
    (s.upd.recovery = false → readoutStatus r f s = .ok → ∃ t conf, exec c s = .next t ∧ t.answer = ⟨.ok, []⟩ ∧
      t.cad.domains = s.cad.domains ∧ t.cad.readout = some ⟨s.rDom, f.code, s.rPart, s.rOff, ok.length,
        decide (ok.length < es.length), (s.domain s.rDom).folded, s.now, conf⟩) ∧
    (s.upd.recovery = false → ∀ st, st ≠ .ok → readoutStatus r f s = st → ∃ t, exec c s = .next t ∧ t.answer = ⟨st, []⟩ ∧
      t.cad = s.cad ∧ t.mem = s.mem) ∧
    (s.role r = some .observer → readoutStatus r f s = .ePriv) ∧
    (host → (s.mode ≠ .service ∨ formAdmits f (s.domain s.rDom).state = false) → readoutStatus r f s = .eState) ∧
    (host → s.mode = .service → formAdmits f (s.domain s.rDom).state = true → s.cad.readout.isSome = true →
      readoutStatus r f s = .eBusy) ∧
    (∀ x, s.cad.readout = some x → ∃ t, exec .readoutDone s = .next t ∧ t.cad = { s.cad with
      readout := none, rstat := if x.cut then Status.eResource.code else Status.ok.code }) ∧
    (s.cad.readout = none → exec .readoutDone s = .next s)

/-- R91: the read pointer of the exception log. -/
def Obligations.ExceptionPointer : Prop :=
  ∀ (s : State) (r : Req) (v : Word), s.upd.recovery = false →
    let u := (s.rdN Reg.CAD_EXC_WPTR + 4194304 - s.rdN Reg.CAD_EXC_RPTR) % 4194304
    let d := (v.toNat % 4194304 + 4194304 - s.rdN Reg.CAD_EXC_RPTR) % 4194304
    ((s.role r = some .owner ∨ s.role r = some .operator) → d ≤ u → ∃ t, exec (.cadExcRptrWrite r v) s = .next t ∧
      t.answer = ⟨.ok, []⟩ ∧ t.rdN Reg.CAD_EXC_RPTR = v.toNat % 4194304 ∧
      (∀ a, a ≠ Reg.CAD_EXC_RPTR → t.rd a = s.rd a) ∧ t.cad = s.cad) ∧
    ((s.role r = some .owner ∨ s.role r = some .operator) → u < d → ∃ t, exec (.cadExcRptrWrite r v) s = .next t ∧
      t.answer = ⟨.eRange, []⟩ ∧ t.rd Reg.CAD_EXC_RPTR = s.rd Reg.CAD_EXC_RPTR ∧
      t.rd Reg.CAD_EXC_WPTR = s.rd Reg.CAD_EXC_WPTR ∧ t.cad = s.cad) ∧
    (s.role r = some .observer → ∃ t, exec (.cadExcRptrWrite r v) s = .next t ∧
      t.answer = ⟨.ePriv, []⟩ ∧ t.rd Reg.CAD_EXC_RPTR = s.rd Reg.CAD_EXC_RPTR ∧
      t.rd Reg.CAD_EXC_WPTR = s.rd Reg.CAD_EXC_WPTR ∧ t.cad = s.cad)

/-- R130: what stage(lr, lc) answers as a SOLUTION is a repair within its limits. -/
def Obligations.SolutionsRepair : Prop :=
  ∀ (c : CloseRec) (lr lc limit calls n : Nat) (l : List Line), c.heavyRows.length = c.hr → c.heavyCols.length = c.hc →
    searchStage c lr lc limit calls = (.solution l, n) →
    lineCount l false ≤ lr ∧ lineCount l true ≤ lc ∧ Covers (linesOf l false) (linesOf l true) c.points ∧
      (∀ e ∈ c.heavyRows, e.1 ∈ linesOf l false) ∧ (∀ e ∈ c.heavyCols, e.1 ∈ linesOf l true)

/-- R130: MUST_EXCEED, COUNT_BOUND and EXHAUSTIVE are proofs. -/
def Obligations.FailuresAreProofs : Prop :=
  ∀ (c : CloseRec) (lr lc limit calls n p a b : Nat) (l : List Line), c.points.Nodup →
    searchStage c lr lc limit calls = (.fail p a b l, n) →
    lr < c.hr ∨ lc < c.hc ∨ ∀ rows cols : List Nat, rows.length ≤ lr - c.hr → cols.length ≤ lc - c.hc → ¬ Covers rows cols c.points

/-- R134: no choice that fits is better than the one taken. -/
def Obligations.RoundIsExact : Prop :=
  ∀ (o : List (List PoolOption)) (rows cols : Nat),
    let best := bestChoice o rows cols
    validChoice o best = true ∧ (choiceDemand o best).1 ≤ rows ∧ (choiceDemand o best).2 ≤ cols ∧
      ∀ ch : Choice, validChoice o ch = true → (choiceDemand o ch).1 ≤ rows → (choiceDemand o ch).2 ≤ cols →
        betterChoice o ch best = false

/-- R123 to R138: take-up, budgets, first passes, rounds and engine errors. -/
def Obligations.AnalysisEvents : Prop :=
  ∀ (s : State) (e : Fin 64) (d : Nat) (c : CloseRec) (nodes : Nat) (intact : Bool) (pool : BitVec 16),
    let x := s.engine e
    let y := s.domain d
    ((s.mode ≠ .service ∨ s.rae.dispatch = false) → exec (.raeTakeUp intact) s = .next s) ∧
    (s.mode = .service → s.rae.dispatch = true → (s.rae.queue = [] ∨ s.handRounds.freeEngine = none) →
      exec (.raeTakeUp intact) s = .next s.handRounds) ∧
    (∀ rest, s.mode = .service → s.rae.dispatch = true → s.rae.queue = d :: rest → s.handRounds.freeEngine = some e.val →
      (y.state ≠ .closed → ∃ t, exec (.raeTakeUp intact) s = .next t ∧ t.rae = { s.rae with queue := rest } ∧
        t.cad.domains = s.cad.domains) ∧
      (y.state = .closed → ∃ t, exec (.raeTakeUp true) s = .next t ∧ t.rae.queue = rest ∧ (t.engine e).domain = some d ∧
        (t.engine e).tTake = s.now ∧ t.domain d = { y with state := .analysing }) ∧
      (y.state = .closed → y.closeRec = some c → c.domain = d → ∃ t, exec (.raeTakeUp false) s = .next t ∧
        t.rae.queue = rest ∧ (t.engine e).domain = none ∧
        (c.pool = 0 → (t.domain d).state = .done ∧ (t.domain d).result.map (·.kind) = some 3) ∧
        (c.pool ≠ 0 → (t.domain d).state = .analysing ∧ (t.domain d).outcome.map (·.kind) = some 3))) ∧
    (x.domain = some d → x.spent = none → x.nodes ≤ nodes → nodes ≤ s.nodesToMake e →
      4 * x.tTake + 1250 * y.tbud ≤ 4 * s.now → exec (.timeBudgetExpire e nodes) s =
        .next (s.setEngine e { x with phase := 2, spent := some (1, nodes), nodes := nodes })) ∧
    (x.domain = some d → 4 * s.now < 4 * x.tTake + 1250 * y.tbud → exec (.timeBudgetExpire e nodes) s = .next s) ∧
    (x.domain = some d → x.spent = none → y.closeRec = some c →
      (((firstPass c y.nodeLimit 2).kind = 3 ∨ (firstPass c y.nodeLimit 2).partialSearch = true) →
        exec (.nodeBudgetSpent e) s =
          .next (s.setEngine e { x with phase := 2, spent := some (2, y.nodeLimit), nodes := y.nodeLimit })) ∧
      ((firstPass c y.nodeLimit 2).kind ≠ 3 → (firstPass c y.nodeLimit 2).partialSearch = false →
        exec (.nodeBudgetSpent e) s = .next s)) ∧
    ((x.domain = none ∨ x.spent ≠ none) → exec (.timeBudgetExpire e nodes) s = .next s ∧
      exec (.nodeBudgetSpent e) s = .next s) ∧
    (x.domain = none → exec (.firstPassEnd e) s = .next s ∧ exec (.raeEngineError e) s = .next s) ∧
    (x.domain = some d → y.closeRec = some c → c.domain = d → ∃ t, exec (.firstPassEnd e) s = .next t ∧
      (t.engine e).domain = none ∧ (t.engine e).done = x.done + 1 ∧
      (c.pool = 0 → (t.domain d).state = .done ∧
        (t.domain d).result = some (soloResult y c (s.passOutcome e d c) e s.now) ∧
        t.rae.copyQ = s.rae.copyQ ++ [soloResult y c (s.passOutcome e d c) e s.now]) ∧
      (c.pool ≠ 0 → t.domain d = { y with state := .analysing, outcome := some (s.passOutcome e d c) })) ∧
    ((s.roundDue pool.toNat = false ∨ s.roundEngine pool.toNat = none) → exec (.poolRound pool) s = .next s) ∧
    (∀ (n : Nat) (q : Pool), s.roundDue pool.toNat = true → s.roundEngine pool.toNat = some n →
      Tab.look s.cad.pools pool.toNat = some q → ∃ t, exec (.poolRound pool) s = .next t ∧
        (∀ m ∈ s.candidates pool.toNat, (t.domain m.2.1.domain).state = .done) ∧
        (let opts := (s.candidates pool.toNat).map (fun c => c.2.2.options)
        let g := choiceDemand opts (bestChoice opts (q.pr - q.grantedRows) (q.pc - q.grantedCols))
        Tab.look t.cad.pools pool.toNat = some { q with
          grantedRows := q.grantedRows + g.1, grantedCols := q.grantedCols + g.2, rounds := (q.rounds + 1) % 256
          tRound := s.now, round := [], runner := none })) ∧
    (x.domain = some d → ∃ t, exec (.raeEngineError e) s = .next t ∧ (t.engine e).failed = true ∧
      (t.engine e).domain = none ∧ t.rae.queue = d :: s.rae.queue ∧ t.domain d = { y with state := .closed } ∧
      t.rdN Reg.RAE_REDISPATCH = sat32 (s.rdN Reg.RAE_REDISPATCH) 1)

/-- R145 to R152: the result ring, REANALYSE and CLEAR_LAT. -/
def Obligations.ResultRing : Prop :=
  ∀ (s : State) (r : Req) (v : Word),
    let ringOn := s.flag Reg.RAE_RING_CFG Fld.RAE_RING_CFG_EN = true
    let alerts := s.flag Reg.RAE_RING_CFG Fld.RAE_RING_CFG_ALERT_EN
    (∀ q rest p, (s.mode = .service ∨ s.mode = .hold ∨ s.mode = .maintain) → s.rae.copyQ = q :: rest →
      Tab.look s.cfg.parts (s.fld Reg.RAE_RING_CFG Fld.RAE_RING_CFG_PART) = some p →
      ringOn → s.ringFull = false → 2 ≤ s.ringSlots → ∃ t,
      exec .resultRingCopy s = .next t ∧ t.rae.copyQ = rest ∧
        t.rdN Reg.RAE_RING_WPTR = (s.rdN Reg.RAE_RING_WPTR + 1) % s.ringSlots ∧
        t.rd Reg.RAE_RING_RPTR = s.rd Reg.RAE_RING_RPTR ∧ t.cad.domains = s.cad.domains) ∧
    ((s.mode = .cold ∨ s.mode = .load ∨ s.mode = .safe ∨ s.rae.copyQ = [] ∨ ¬ ringOn ∨ s.ringFull = true) →
      exec .resultRingCopy s = .next s) ∧
    ((s.rae.holdoff = false ∨ 2 * s.now < s.rae.holdoffDue) → exec .holdoffExpire s = .next s) ∧
    (s.rae.holdoff = true → s.rae.holdoffDue ≤ 2 * s.now → (s.rae.ringNew = 0 ∨ alerts = false) →
      exec .holdoffExpire s = .next { s with rae := { s.rae with holdoff := false } }) ∧
    (s.rae.holdoff = true → s.rae.holdoffDue ≤ 2 * s.now → s.rae.ringNew ≠ 0 → alerts = true → ∃ t,
      exec .holdoffExpire s = .next t ∧ t.rae.ringNew = 0 ∧ t.rae.copyQ = s.rae.copyQ) ∧
    (s.upd.recovery = false →
      (ringCfgStatus r v s = .ok → ∃ t, exec (.raeRingCfgWrite r v) s = .next t ∧ t.answer = ⟨.ok, []⟩ ∧
        t.rd Reg.RAE_RING_CFG = v &&& 0xCFFFFFFF#32 ∧
        (wget v Fld.RAE_RING_CFG_EN = 1 → ¬ ringOn → t.rdN Reg.RAE_RING_WPTR = 0 ∧ t.rdN Reg.RAE_RING_RPTR = 0) ∧
        (∀ a, a ≠ Reg.RAE_RING_CFG → a ≠ Reg.RAE_RING_WPTR → a ≠ Reg.RAE_RING_RPTR → t.rd a = s.rd a)) ∧
      (ringRptrStatus r v s = .ok → exec (.raeRingRptrWrite r v) s = .next ((s.wr Reg.RAE_RING_RPTR v).reply .ok)) ∧
      (reanalyseStatus r s = .ok → ∃ t, exec (.reanalyse r) s = .next t ∧ t.answer = ⟨.ok, []⟩ ∧
        (t.domain s.raeArg).state = .closed ∧ (t.domain s.raeArg).reanalysed = true ∧
        t.rae.queue = s.rae.queue ++ [s.raeArg] ∧
        (t.domain s.raeArg).tbud = budgetOr (s.fld Reg.RAE_ABUD Fld.RAE_ABUD_TBUD) (s.fld Reg.CAD_DEFBUD Fld.CAD_DEFBUD_TBUD) ∧
        (t.domain s.raeArg).nbud = budgetOr (s.fld Reg.RAE_ABUD Fld.RAE_ABUD_NBUD) (s.fld Reg.CAD_DEFBUD Fld.CAD_DEFBUD_NBUD)) ∧
      (clearLatStatus r s = .ok → exec (.clearLat r) s = .next ((s.wr Reg.RAE_LAT_MAX 0).reply .ok)) ∧
      (∀ cmd st, (cmd, st) ∈ [(Instr.raeRingCfgWrite r v, ringCfgStatus r v s), (.raeRingRptrWrite r v, ringRptrStatus r v s),
          (.reanalyse r, reanalyseStatus r s), (.clearLat r, clearLatStatus r s)] → st ≠ .ok → ∃ t, exec cmd s = .next t ∧
        t.answer = ⟨st, []⟩ ∧ t.cad = s.cad ∧ t.rae = s.rae ∧ t.rd Reg.RAE_RING_CFG = s.rd Reg.RAE_RING_CFG ∧
        t.rd Reg.RAE_RING_WPTR = s.rd Reg.RAE_RING_WPTR ∧ t.rd Reg.RAE_RING_RPTR = s.rd Reg.RAE_RING_RPTR))

/-- R176: what an evaluation leaves. -/
def Obligations.ShedRule : Prop :=
  ∀ (s : State),
    (s.qos.change = true → s.mode = .service → ∃ t, exec .shedEvaluation s = .next t ∧
      (∀ r ∈ resOrder, t.overloaded false t.forceList r = true → ∀ n ∈ t.forceList, t.demandOn n r ≤ 0) ∧
      (∀ n < 32, t.inForce n = true → s.inForce n = true) ∧
      (∀ n < 32, s.inForce n = true → t.inForce n = true ∨ t.isShed n = true) ∧
      (∀ n, s.isShed n = true → t.isShed n = true)) ∧
    ((s.qos.change = false ∨ s.mode ≠ .service) → exec .shedEvaluation s = .next s)

/-- R175, R178: reinstatement, and the miss of withheld credit. -/
def Obligations.QosEvents : Prop :=
  ∀ (s : State) (n : Fin 32) (rest : List Nat) (since : Nat),
    let fits := ∀ r ∈ resOrder, s.overloaded false (n.val :: s.forceList) r = false
    let misses := s.classType n = 2 ∧ s.inForce n = true ∧ bitOf s.qos.stray n = false ∧ s.holdWithholds = false ∧
      s.classP3 n * 625 < 2 * (s.now - since)
    (s.mode = .service → s.qos.change = false → 31250000 ≤ s.stableTicks →
      (s.shedOrder = n.val :: rest → ∃ t, exec .reinstatement s = .next t ∧
        (∀ m < 32, s.inForce m = true → t.inForce m = true) ∧
        (∀ m < 32, s.isShed m = true → t.inForce m = true ∨ t.isShed m = true) ∧ (fits → t.inForce n = true) ∧
        (¬ fits → rest = [] → t = s)) ∧
      (s.shedOrder = [] → exec .reinstatement s = .next s)) ∧
    ((s.mode ≠ .service ∨ s.qos.change = true ∨ s.stableTicks < 31250000) → exec .reinstatement s = .next s) ∧
    (Tab.look s.qos.withheld n = some (since, false) →
      (misses → ∃ t, exec (.holdExceeded n) s = .next t ∧ Tab.look t.qos.withheld n = some (since, true) ∧
        t.rdN (Reg.QOS_C_MISS n) = sat32 (s.rdN (Reg.QOS_C_MISS n)) 1 ∧ t.qos.inforce = s.qos.inforce) ∧
      (¬ misses → exec (.holdExceeded n) s = .next s)) ∧
    ((Tab.look s.qos.withheld n = none ∨ Tab.look s.qos.withheld n = some (since, true)) → exec (.holdExceeded n) s = .next s)

/-- R503, R504: a commit that passes, one that fails, and a discard. -/
def Obligations.CommitAndDiscard : Prop :=
  ∀ (s : State) (r : Req) (mask : BitVec 16), s.upd.recovery = false →
    let j := s.commitJudge (s.withShadows mask.toNat) mask.toNat
    let legal := mask ≠ 0 ∧ mask.toNat < 64
    let refused (st : Status) (t : State) : Prop := t.answer = ⟨st, []⟩ ∧ t.shadow = s.shadow ∧
      (∀ a, regGroup a < 6 → t.rd a = s.rd a) ∧ t.qos.inforce = s.qos.inforce
    let both (st : Status) : Prop := (∃ t, exec (.commit r mask) s = .next t ∧ refused st t) ∧
      ∃ t, exec (.discard r mask) s = .next t ∧ refused st t
    ((s.role r).isSome = true → s.commitRole r mask.toNat = true → legal →
      (j.1 = .ok → Tab.sorted s.shadow = true → ∃ t, exec (.commit r mask) s = .next t ∧ t.answer = ⟨.ok, []⟩ ∧
        t.shadow = s.shadow.filter (fun e => !bitOf mask.toNat (regGroup e.1)) ∧
        (∀ a v, Tab.look s.shadow a = some v → bitOf mask.toNat (regGroup a) = true → t.rd a = v)) ∧
      (j.1 ≠ .ok → ∃ t, exec (.commit r mask) s = .next t ∧ refused j.1 t ∧
        t.rdN Reg.GLB_COMMIT_REJ = sat32 (s.rdN Reg.GLB_COMMIT_REJ) 1) ∧
      (∃ t, exec (.discard r mask) s = .next t ∧ t.answer = ⟨.ok, []⟩ ∧
        t = { s with shadow := s.shadow.filter (fun e => !bitOf mask.toNat (regGroup e.1)), regs := t.regs, answer := ⟨.ok, []⟩ } ∧
        (∀ a, a ≠ Reg.GLB_COMMIT_STAT → t.rd a = s.rd a))) ∧
    (s.role r = none → both .eAuth) ∧
    ((s.role r).isSome = true → s.commitRole r mask.toNat = false → both .ePriv) ∧
    ((s.role r).isSome = true → s.commitRole r mask.toNat = true → ¬ legal → both .eRange)

/-- R493, R494, R496, R500: registers written. -/
def Obligations.RegisterWrites : Prop :=
  ∀ (s : State) (r : Req) (a : BitVec 32) (v : BitVec 64) (row : RegRow) (late : Bool), s.upd.recovery = false →
    let errorOnly (t : State) : Prop := t.shadow = s.shadow ∧ ∀ b, b ≠ Reg.GLB_ERR_ADDR → b ≠ Reg.GLB_ERR_INFO →
      b ≠ Reg.GLB_ERR_CNT → b ≠ Reg.GLB_EVENTS → t.rd b = s.rd b
    (s.role r = some .owner → a.toNat % 4 = 0 → ∀ t, s.writeCommand r a.toNat (v.truncate 32) = some t →
      exec (.registerWrite r a 2 v false) s = .next t) ∧
    (s.role r = some .owner → a.toNat % 4 = 0 → s.writeCommand r a.toNat (v.truncate 32) = none → regRow? a.toNat = none →
      exec (.registerWrite r a 2 v false) s = .next (s.reply .ok)) ∧
    (s.role r = some .owner → regRow? a.toNat = some row → row.width = 4 → row.elem a.toNat = a.toNat → a.toNat % 4 = 0 →
      s.writeCommand r a.toNat (v.truncate 32) = none → ¬ (0xA1000 ≤ a.toNat ∧ a.toNat < 0xA1018) →
      (row.writable = 0 → ∃ t, exec (.registerWrite r a 2 v false) s = .next t ∧ t.answer = ⟨.eAccess, []⟩ ∧ errorOnly t) ∧
      (row.writable ≠ 0 → row.rws ≠ 0 → bitOf s.cfg.runtime (runtimeBit a.toNat) = false → ∃ t,
        exec (.registerWrite r a 2 v false) s = .next t ∧ t.answer = ⟨.eLocked, []⟩ ∧ t.shadow = s.shadow) ∧
      (row.writable ≠ 0 → row.rws ≠ 0 → bitOf s.cfg.runtime (runtimeBit a.toNat) = true → s.plainStatus a.toNat (v.toNat % 2 ^ 32) = .ok →
        (let w : Word := (s.rd a.toNat &&& ~~~ BitVec.ofNat 32 row.rws) ||| (v.truncate 32 &&& BitVec.ofNat 32 row.rws)
        exec (.registerWrite r a 2 v false) s = .next (({ s with shadow := Tab.put s.shadow a.toNat w } : State).reply .ok))) ∧
      (row.writable ≠ 0 → row.rws = 0 → s.plainStatus a.toNat (v.toNat % 2 ^ 32) = .ok → ∃ t,
        exec (.registerWrite r a 2 v false) s = .next t ∧ t.answer = ⟨.ok, []⟩ ∧ t.shadow = s.shadow ∧
        (∀ b, b ≠ a.toNat → t.rd b = s.rd b) ∧
        t.rd a.toNat = ((s.rd a.toNat &&& ~~~ BitVec.ofNat 32 row.rw) ||| (v.truncate 32 &&& BitVec.ofNat 32 row.rw)) &&&
          ~~~ (v.truncate 32 &&& BitVec.ofNat 32 row.w1c))) ∧
    (s.role r = some .owner → row64 a.toNat = some row → a.toNat % 8 = 0 → ¬ (0xA1000 ≤ a.toNat ∧ a.toNat < 0xA1018) →
      row.writable ≠ 0 → row.rws = 0 → s.plainStatus a.toNat v.toNat = .ok → ∃ t,
        exec (.registerWrite r a 3 v false) s = .next t ∧ t.answer = ⟨.ok, []⟩ ∧ t.shadow = s.shadow ∧
        (∀ b, b ≠ a.toNat → b ≠ a.toNat + 4 → t.rd b = s.rd b) ∧
        (∀ h : Fin 2, let old := s.rd (a.toNat + 4 * h)
          let w : Word := v.extractLsb' (32 * h) 32
          t.rd (a.toNat + 4 * h) = ((old &&& ~~~ BitVec.ofNat 32 (row.rw / 2 ^ (32 * h.val))) |||
            (w &&& BitVec.ofNat 32 (row.rw / 2 ^ (32 * h.val)))) &&& ~~~ (w &&& BitVec.ofNat 32 (row.w1c / 2 ^ (32 * h.val))))) ∧
    (s.role r = none → ∀ size, ∃ t, exec (.registerWrite r a size v late) s = .next t ∧ t.answer = ⟨.eAuth, []⟩ ∧ t.shadow = s.shadow) ∧
    (s.role r = some .observer → a.toNat / 4 * 4 ≠ Reg.GLB_COMMIT → a.toNat / 4 * 4 ≠ Reg.FLT_CMD → ∀ size, ∃ t,
      exec (.registerWrite r a size v late) s = .next t ∧ t.answer = ⟨.ePriv, []⟩ ∧ t.shadow = s.shadow) ∧
    (s.role r = some .owner → ∀ size : Fin 4, a.toNat % 2 ^ size.val ≠ 0 → ∃ t, exec (.registerWrite r a size v late) s = .next t ∧
      t.answer = ⟨.eAlign, []⟩ ∧ t.shadow = s.shadow) ∧
    (s.role r = some .owner → ∀ size : Fin 4, size.val < 2 → a.toNat % 2 ^ size.val = 0 → ∃ t,
      exec (.registerWrite r a size v late) s = .next t ∧ t.answer = ⟨.eWidth, []⟩ ∧ t.shadow = s.shadow) ∧
    (s.role r = some .owner → ∀ size : Fin 4, 2 ≤ size.val → a.toNat % 2 ^ size.val = 0 → ∃ t,
      exec (.registerWrite r a size v true) s = .next t ∧ t.answer = ⟨.eBusy, []⟩ ∧ errorOnly t)

/-- R194 to R197: the events of a lane's bring-up. -/
def Obligations.LaneBringUp : Prop :=
  ∀ (s : State) (l : Fin 64) (control status own : BitVec 16) (limit : BitVec 3) (body : BitVec 56),
    let x := s.lane l
    let others (t : State) : Prop := ∀ m, m ≠ l.val → t.lane m = s.lane m
    let fails (t : State) : Prop := (t.lane l).state = .detect ∧ (t.lane l).backoff = true ∧
      (t.lane l).failStreak = min (x.failStreak + 1) 255 ∧ (t.lane l).tTimer = s.now ∧
      t.rdN (Reg.LNK_L_FAILS l) = sat32 (s.rdN (Reg.LNK_L_FAILS l)) 1 ∧ others t
    let tap (t : State) (i : Nat) : Nat := bitsOf (t.rdN (Reg.LNK_L_TXEQ l)) (8 * i + 7) (8 * i)
    (s.laneIn l .detect = true → x.backoff = false →
      exec (.laneSignalDetect l) s = .next (s.setLane l { x.detected false s.now with state := .train })) ∧
    (s.laneIn l .detect = true → x.signalSent = false → x.tTimer + 312500000 ≤ s.now → ∃ t, exec (.noSignal l) s = .next t ∧
      t.lanes = (s.setLane l { x with signalSent := true }).lanes ∧
      t.flag (Reg.LNK_L_EVENTS l) Fld.LNK_L_EVENTS_NO_SIGNAL = true ∧
      (∀ a, a ≠ Reg.LNK_L_EVENTS l → t.rd a = s.rd a)) ∧
    (s.laneIn l .detect = true → x.signalSent = true → exec (.noSignal l) s = .next s) ∧
    (s.laneIn l .train = true → ∃ t ans symbols, exec (.trainingFrame l control status limit own) s = .next t ∧ others t ∧
      symbols.length = 3936 ∧
      t.out = s.out ++ [.training l (trainHeader (x.ownControl own.toNat) ((x.tapDue.headD none).getD 0) ++ symbols)] ∧
      (t.lane l).tapDue = x.tapDue.drop 1 ++ [some ans] ∧
      (t.lane l).rxReady = (if bitOf control.toNat 0 = true then x.rxReady + 1 else 0) ∧
      (t.lane l).txReady = (if bitOf own.toNat 0 = true then x.txReady + 1 else 0) ∧
      (t.lane l).frames = x.nextFrames (t.lane l).rxReady (t.lane l).txReady ∧
      (t.lane l).request = x.nextRequest status.toNat own.toNat ∧ (t.lane l).state = .train ∧
      (bitsOf control.toNat 9 8 ≠ 1 → bitsOf control.toNat 9 8 ≠ 2 → ∀ i < 3,
        (tap t i, bitsOf ans (11 + 2 * i) (10 + 2 * i)) =
          tapStep (tap s i) (bitsOf control.toNat (11 + 2 * i) (10 + 2 * i)) (bitOf limit.toNat i)) ∧
      ((bitsOf control.toNat 9 8 = 1 ∨ bitsOf control.toNat 9 8 = 2) → ∀ i < 3, bitsOf ans (11 + 2 * i) (10 + 2 * i) = 1)) ∧
    (s.laneIn l .train = true → 16 ≤ x.frames.getD 0 → ∃ t, exec (.trainingEnd l) s = .next t ∧
      (t.lane l).state = .lock ∧ (t.lane l).tTimer = s.now ∧ others t ∧
      ((∀ n, x.inj ≠ some (1, n)) → (t.lane l).inj = none) ∧ t.regs = s.regs) ∧
    (x.frames.getD 0 < 16 → exec (.trainingEnd l) s = .next s) ∧
    (s.laneIn l .train = true → x.tTimer + 93750000 < s.now → ∃ t, exec (.trainTmo l) s = .next t ∧ fails t) ∧
    (∀ k, s.chainOf l = some k → s.laneIn l .lock = true → x.cwLock = true → x.blkLock = true → ∃ t,
      exec (.lockAchieved l) s = .next t ∧ t.lanes = (s.setLane l { x with state := .capx, tTimer := s.now }).lanes ∧
      .block l 0x55 (capxBody k l) ∈ t.out ∧ t.regs = s.regs) ∧
    ((x.cwLock = false ∨ x.blkLock = false) → exec (.lockAchieved l) s = .next s) ∧
    (s.laneIn l .lock = true → x.tTimer + 625000 < s.now → ∃ t, exec (.lockTmo l) s = .next t ∧ fails t) ∧
    (∀ k, s.chainOf l = some k → s.laneIn l .capx = true → capxValid body.toNat = true →
      (capxMatches (s.chainL k) k l body.toNat = true → exec (.capxMismatch l (some body)) s = .next s ∧ ∃ t,
        exec (.capxMatch l body) s = .next t ∧ others t ∧
        t.lane l = { x with state := .standby, tTimer := s.now, failStreak := 0 } ∧
        t.chainL k = { s.chainL k with peer := bitsOf body.toNat 55 40 }) ∧
      (capxMatches (s.chainL k) k l body.toNat = false → exec (.capxMatch l body) s = .next s ∧ ∃ t,
        exec (.capxMismatch l (some body)) s = .next t ∧ fails t)) ∧
    (∀ k, s.chainOf l = some k → s.laneIn l .capx = true → x.tTimer + 312500 < s.now → ∃ t,
      exec (.capxMismatch l none) s = .next t ∧ fails t) ∧
    (s.laneIn l .standby = true → x.ready = false → x.tTimer + 312500 ≤ s.now → s.skewOf ((s.chainOf l).getD 0) l ≤ 125 → ∃ t,
      exec (.laneReady l) s = .next t ∧ t.lane l = { x with ready := true } ∧ others t ∧
      (∀ k, s.chainOf l = some k → (s.chainL k).state = .off → (s.chainL k).windowOver = false →
        (t.chainL k).window = true)) ∧
    ((x.ready = true ∨ 125 < s.skewOf ((s.chainOf l).getD 0) l) → exec (.laneReady l) s = .next s) ∧
    (x.backoff = true → x.tTimer + (if 16 ≤ x.failStreak then 312500000 else 3125000) ≤ s.now →
      exec (.backoffExpire l) s = .next (s.setLane l { x with backoff := false })) ∧
    (x.backoff = false → exec (.backoffExpire l) s = .next s) ∧
    (s.now < x.tTimer + 312500 → exec (.noSignal l) s = .next s ∧ exec (.trainTmo l) s = .next s ∧
      exec (.lockTmo l) s = .next s ∧ exec (.capxMismatch l none) s = .next s ∧ exec (.laneReady l) s = .next s ∧
      exec (.backoffExpire l) s = .next s) ∧
    (∀ c st, (c, st) ∈ [(Instr.laneSignalDetect l, LaneState.detect), (.noSignal l, .detect),
        (.trainingFrame l control status limit own, .train), (.trainingEnd l, .train), (.trainTmo l, .train),
        (.lockAchieved l, .lock), (.lockTmo l, .lock), (.capxMatch l body, .capx), (.capxMismatch l (some body), .capx),
        (.capxMismatch l none, .capx), (.laneReady l, .standby)] → s.laneIn l st = false → exec c s = .next s)

/-- R197, R202, R204: the exchange of masks on a chain. -/
def Obligations.ChainExchange : Prop :=
  ∀ (s : State) (k : Fin 16) (w tx : Bool) (body : BitVec 56), s.lanesRun = true →
    let x := s.chainL k
    let b := body.toNat
    let mask := bitsOf b 55 40
    let forms (have_ : Nat) : Bool := x.state == .forming && have_ == 0
    (x.en = true → x.state = .off → s.mayForm k = true → ∃ t, exec (.chainFormation k w) s = .next t ∧
      (t.chainL k).rejoin = .announced (s.readyMask k) true ∧ (t.chainL k).state = .forming) ∧
    (x.en = true → x.state = .off → x.window = true → x.windowAt + 31250000 ≤ s.now → popcount 16 (s.readyMask k) < x.minw →
      exec (.chainFormation k true) s = .next (s.setChainL k { x with window := false, windowOver := true })) ∧
    ((x.en = false ∨ x.state ≠ .off) → exec (.chainFormation k w) s = .next s) ∧
    (s.mayRejoin k = true → ∃ t, exec (.rejoinAnnounce k) s = .next t ∧
      (t.chainL k).rejoin = .announced (x.txMask ||| s.readyMask k) false ∧ (t.chainL k).state = x.state ∧
      (t.chainL k).txMask = x.txMask ∧ (t.chainL k).tSent = s.now) ∧
    (s.mayRejoin k = false → exec (.rejoinAnnounce k) s = .next s) ∧
    (∀ a form, x.rejoin = .announced a form →
      (epochValid 2 b = true → mask &&& a = mask → mask &&& x.txMask = x.txMask → mask ≠ x.txMask →
        (form = false ∨ x.minw ≤ popcount 16 mask) → ∃ t sw, exec (.rejoinAckReceived k body) s = .next t ∧
        (t.chainL k).rejoin = .committed mask x.txMask form false ∧ (t.chainL k).txSwitch = some sw ∧
        sw.mask = mask ∧ sw.drop = false ∧ sw.epoch = (if form then 0 else (x.txEpoch + 1) % 64) ∧
        (t.chainL k).txMask = x.txMask) ∧
      (epochValid 2 b = true → (mask &&& a ≠ mask ∨ mask &&& x.txMask ≠ x.txMask ∨ mask = x.txMask ∨
          (form = true ∧ popcount 16 mask < x.minw)) → ∃ t, exec (.rejoinAckReceived k body) s = .next t ∧
        (t.chainL k).rejoin = .none ∧ (t.chainL k).lapsed = some s.now) ∧
      (epochValid 2 b = false → exec (.rejoinAckReceived k body) s = .next s) ∧
      (x.tSent + 3125 < s.now → ∃ t, exec (.rejoinLapsed k) s = .next t ∧ (t.chainL k).rejoin = .none ∧
        (t.chainL k).lapsed = some s.now ∧ (t.chainL k).txMask = x.txMask) ∧
      (s.now ≤ x.tSent + 3125 → exec (.rejoinLapsed k) s = .next s)) ∧
    (∀ m old form, x.rejoin = .committed m old form false →
      (epochValid 3 b = true → m = mask → ∃ t sw, exec (.partnerCommitReceived k body) s = .next t ∧
        t = s.setChainL k { x with rejoin := .committed m old form true, rxSwitch := some sw } ∧
        sw.epoch = bitsOf b 39 34 ∧
        ((∀ p ∈ x.rxSwitch, p.drop = false) → sw.mask = m ∧ sw.drop = false ∧ sw.stripe % 65536 = bitsOf b 33 18) ∧
        (∀ p ∈ x.rxSwitch, p.drop = true → sw.mask = m &&& p.mask ∧ sw.drop = true)) ∧
      ((epochValid 3 b = false ∨ m ≠ mask) → exec (.partnerCommitReceived k body) s = .next s) ∧
      (form = true → x.tSent + 3125 < s.now → ∃ t, exec (.partnerCommitTimeout k) s = .next t ∧
        (t.chainL k).rejoin = .none ∧ (t.chainL k).txMask = 0 ∧ (t.chainL k).txSwitch = none) ∧
      (form = false → x.tSent + 3125 < s.now → x.minw ≤ popcount 16 (old &&& x.txTarget) → ∃ t sw,
        exec (.partnerCommitTimeout k) s = .next t ∧
        (t.chainL k).rejoin = .none ∧ (t.chainL k).txSwitch = some sw ∧ sw.mask = old &&& x.txTarget ∧ sw.drop = true) ∧
      (form = false → x.tSent + 3125 < s.now → popcount 16 (old &&& x.txTarget) < x.minw → ∃ t,
        exec (.partnerCommitTimeout k) s = .next t ∧ (t.chainL k).state = .off ∧ (t.chainL k).rejoin = .none) ∧
      (s.now ≤ x.tSent + 3125 → exec (.partnerCommitTimeout k) s = .next s)) ∧
    (∀ sw, (if tx then x.txSwitch else x.rxSwitch) = some sw → ∃ t, exec (.epochSwitch k tx) s = .next t ∧
      (if tx then (t.chainL k).txMask = sw.mask ∧ (t.chainL k).txEpoch = sw.epoch ∧ (t.chainL k).txSwitch = none ∧
          (t.chainL k).txStripe = (if forms x.txMask then 0 else laterStripe sw.stripe x.txStripe)
        else (t.chainL k).rxMask = sw.mask ∧ (t.chainL k).rxEpoch = sw.epoch ∧ (t.chainL k).rxSwitch = none ∧
          (t.chainL k).rxStripe = (if forms x.rxMask then 0 else laterStripe sw.stripe x.rxStripe) ∧
          (sw.drop = true → (t.chainL k).discard = false)) ∧
      (∀ m old, x.rejoin = .committed m old true true → (if tx then x.rxSwitch else x.txSwitch) = none →
        (t.chainL k).state = .up)) ∧
    ((if tx then x.txSwitch else x.rxSwitch) = none → exec (.epochSwitch k tx) s = .next s)

/-- R198 to R203, R184, R185, R189: loss, a received DROP, codewords and blocks. -/
def Obligations.LossAndCodewords : Prop :=
  ∀ (s : State) (k : Fin 16) (l : Fin 64) (lanes : BitVec 64) (cond : LossCond) (body : BitVec 56)
    (symbols : List (BitVec 10)) (offs : Fin 5) (late : BitVec 32), s.lanesRun = true →
    let x := s.chainL k
    let b := body.toNat
    let lost := x.laneList.filter (fun m => bitOf lanes.toNat m && (cond != .skew || s.skewLost m))
    let both := x.maskBy (fun m => bitOf x.txTarget (x.laneList.idxOf m) && bitOf (bitsOf b 55 40) (x.laneList.idxOf m))
    let y := s.lane l
    let d := fecReceive y.scr symbols
    (x.state = .up → x.rejoin = .none → lost ≠ [] →
      (∀ m ∈ lost, (s.lane m).state = .active ∧ bitOf x.txTarget (x.laneList.idxOf m) = true) →
      (x.minw ≤ popcount 16 (s.maskWithout k lost) → ∃ t sw, exec (.laneLoss k lanes cond) s = .next t ∧
        (t.chainL k).txSwitch = some sw ∧ sw.mask = s.maskWithout k lost ∧ sw.epoch = (x.txEpoch + 1) % 64 ∧
        sw.drop = true ∧ (t.chainL k).discard = true ∧ (t.chainL k).state = .up ∧ (t.chainL k).txMask = x.txMask) ∧
      (popcount 16 (s.maskWithout k lost) < x.minw → ∃ t, exec (.laneLoss k lanes cond) s = .next t ∧
        (t.chainL k).state = .off ∧ (t.chainL k).txMask = 0)) ∧
    (x.running = true → epochValid 0 b = true → x.txSwitch = none → both = x.txMask →
      ∃ t sw, exec (.dropReceived k body) s = .next t ∧ t = s.setChainL k { x with rxSwitch := some sw } ∧
        sw.mask = bitsOf b 55 40 ∧ sw.epoch = bitsOf b 39 34 ∧ sw.drop = true ∧ sw.stripe % 65536 = bitsOf b 33 18) ∧
    (x.state = .up → x.rejoin = .none → epochValid 0 b = true → x.minw ≤ popcount 16 both →
      (x.txSwitch = none → both ≠ x.txMask → ∃ t sw rx, exec (.dropReceived k body) s = .next t ∧
        (t.chainL k).txSwitch = some sw ∧ sw.mask = both ∧ sw.drop = true ∧ (t.chainL k).rxSwitch = some rx ∧
        rx.mask = bitsOf b 55 40 ∧ rx.drop = true ∧ (t.chainL k).state = .up) ∧
      (∀ own, x.txSwitch = some own → own.drop = true → ∃ t sw rx, exec (.dropReceived k body) s = .next t ∧
        (t.chainL k).txSwitch = some sw ∧ sw.mask = both ∧ (t.chainL k).rxSwitch = some rx ∧ rx.mask = both ∧
        rx.stripe = sw.stripe ∧ sw.drop = true ∧ rx.drop = true)) ∧
    ((epochValid 0 b = false ∨ x.running = false) → exec (.dropReceived k body) s = .next s) ∧
    (symbols.length ≠ 544 → exec (.fecCodewordReceived l symbols offs late) s = .fault .illFormed) ∧
    (symbols.length = 544 → (s.chainOf l = none ∨ y.locked = false) → exec (.fecCodewordReceived l symbols offs late) s = .next s) ∧
    (∀ c, s.chainOf l = some c → y.locked = true → symbols.length = 544 →
      let u := s.codeword c l d.1 d.2.1 d.2.2 offs
      let loss := u.codewordLoss c l y.cwLock
      (loss.1 ≠ [] → exec (.fecCodewordReceived l symbols offs late) s = .next (u.loseLanes c loss.1 loss.2)) ∧
      (loss.1 = [] → (((s.chainL c).rxMask = 0 ∧ (s.chainL c).rxSwitch = none) ∨
          ∃ m ∈ s.rxLanes c, m ≠ l.val ∧ (s.lane m).rxq = []) → ∃ t,
        exec (.fecCodewordReceived l symbols offs late) s = .next t ∧
        (∀ m, m ≠ l.val → t.lane m = { s.lane m with skewAt := (t.lane m).skewAt }) ∧
        t.rd64 (Reg.LNK_L_CW l) = (s.rd64 (Reg.LNK_L_CW l) + 1) % 2 ^ 64 ∧
        (d.2.1 = none → (t.lane l).uncRun = y.uncRun + 1 ∧
          t.rd64 (Reg.LNK_L_CW_UNC l) = (s.rd64 (Reg.LNK_L_CW_UNC l) + 1) % 2 ^ 64 ∧
          t.rdN (Reg.LNK_L_DISCARD l) = sat32 (s.rdN (Reg.LNK_L_DISCARD l)) 80) ∧
        (∀ n, d.2.1 = some n → (t.lane l).uncRun = 0 ∧
          t.rd64 (Reg.LNK_L_CW_CORR l) = (s.rd64 (Reg.LNK_L_CW_CORR l) + (if n = 0 then 0 else 1)) % 2 ^ 64 ∧
          t.rd64 (Reg.LNK_L_SYM_CORR l) = (s.rd64 (Reg.LNK_L_SYM_CORR l) + n) % 2 ^ 64))) ∧
    (y.locked = true → exec (.receiveEmptySlot l) s = .next (s.satInc (Reg.LNK_L_WAD_INS l))) ∧
    (y.locked = false → exec (.receiveEmptySlot l) s = .next s ∧ exec (.laneMarkerSend l) s = .next s) ∧
    ((∃ m ∈ x.laneList, (s.lane m).locked = true) →
      exec (.waddingInsert k) s = .next { s with out := s.out ++ [.column k 0x2D 0] }) ∧
    ((∀ m ∈ x.laneList, (s.lane m).locked = false) → exec (.waddingInsert k) s = .next s) ∧
    (∀ c, s.chainOf l = some c → y.locked = true → exec (.laneMarkerSend l) s = .next { s with
      out := s.out ++ (s.txLanes c).map (fun m => .block m 0x4B (markerBody c m (s.chainL c).txEpoch (s.chainL c).txStripe)) } ∧
      l.val ∈ s.txLanes c)

/-- R208, R209, R213: RETRAIN, PRBS and injections. -/
def Obligations.LaneCommands : Prop :=
  ∀ (s : State) (r : Req) (l : Fin 64) (v : Word) (count : BitVec 8),
    let x := s.lane l
    let n := count.toNat
    let waits (t : State) (kind m : Nat) : Prop := t.lane l = { x with inj := some (kind, m), flipIn := 0 } ∧ t.out = s.out
    let applied (t : State) (e : Emission) : Prop := t.lane l = { x with inj := none, flipIn := 0 } ∧ t.out = s.out ++ [e]
    let commands : List (Instr × Status) := [(.retrain r l, retrainStatus r l s), (.prbsCfgWrite r l v, prbsStatus r l v s),
      (.injectBit r l count, injectBitStatus r l n s), (.injectSymbol r l count, injectSymbolStatus r l n s),
      (.injectSync r l, injectSyncStatus r l s), (.injectLol r l, injectLolStatus r l s)]
    (s.upd.recovery = false →
      (retrainStatus r l s = .ok →
        (x.state ≠ .off → x.state ≠ .test →
          ((∀ k, s.chainOf l = some k → (s.chainL k).rejoin = .none) →
            exec (.retrain r l) s = .next ((s.setLane l (x.detected false s.now)).reply .ok)) ∧
          (∀ k m form, s.chainOf l = some k → (s.chainL k).rejoin = .announced m form →
            bitOf m ((s.chainL k).laneList.idxOf l.val) = true → ∃ t, exec (.retrain r l) s = .next t ∧ t.answer = ⟨.ok, []⟩ ∧
            t.lane l = x.detected false s.now ∧ (t.chainL k).rejoin = .none) ∧
          (∀ k m old form got, s.chainOf l = some k → (s.chainL k).rejoin = .committed m old form got →
            bitOf (s.chainL k).txTarget ((s.chainL k).laneList.idxOf l.val) = true →
            (s.chainL k).minw ≤ popcount 16 (s.maskWithout k [l.val]) → ∃ t sw, exec (.retrain r l) s = .next t ∧
            t.answer = ⟨.ok, []⟩ ∧ t.lane l = x.detected false s.now ∧ (t.chainL k).txSwitch = some sw ∧ sw.drop = true ∧
            sw.mask = s.maskWithout k [l.val])) ∧
        ((x.state = .off ∨ x.state = .test) → exec (.retrain r l) s = .next (s.reply .ok))) ∧
      (prbsStatus r l v s = .ok → ∃ t, exec (.prbsCfgWrite r l v) s = .next t ∧ t.answer = ⟨.ok, []⟩ ∧
        t.rd (Reg.LNK_L_PRBS_CFG l) = v &&& 0xC000000F#32 ∧ (∀ a, a ≠ Reg.LNK_L_PRBS_CFG l → t.rd a = s.rd a) ∧
        ((wget v Fld.LNK_L_PRBS_CFG_TX_EN = 1 ∨ wget v Fld.LNK_L_PRBS_CFG_RX_EN = 1) →
          t.lane l = { x with state := .test, gen := 0, check := {} }) ∧
        (wget v Fld.LNK_L_PRBS_CFG_TX_EN = 0 → wget v Fld.LNK_L_PRBS_CFG_RX_EN = 0 →
          t.lane l = if x.state = .test then { x with state := .off } else x)) ∧
      (injectBitStatus r l n s = .ok → ∃ t, exec (.injectBit r l count) s = .next t ∧ t.answer = ⟨.ok, []⟩ ∧ waits t 1 n) ∧
      (injectSymbolStatus r l n s = .ok → ∃ t, exec (.injectSymbol r l count) s = .next t ∧ t.answer = ⟨.ok, []⟩ ∧
        (s.injectable l = true → ∃ errs, applied t (.symbolErrors l errs) ∧ errs.length = n ∧ (errs.map (·.1)).Nodup ∧
          ∀ e ∈ errs, e.1 < 544 ∧ 1 ≤ e.2 ∧ e.2 < 1024) ∧
        (s.injectable l = false → waits t 2 n)) ∧
      (injectSyncStatus r l s = .ok → ∃ t, exec (.injectSync r l) s = .next t ∧ t.answer = ⟨.ok, []⟩ ∧
        (s.injectable l = true → applied t (.badHeader l 0) ∨ applied t (.badHeader l 3)) ∧
        (s.injectable l = false → waits t 3 0)) ∧
      (injectLolStatus r l s = .ok → (s.chainOf l = none ∨ x.locked = false ∨ x.state = .test) →
        exec (.injectLol r l) s = .next (s.reply .ok)) ∧
      (∀ k, injectLolStatus r l s = .ok → s.chainOf l = some k → (s.chainL k).rejoin = .none →
        bitOf (s.chainL k).txTarget ((s.chainL k).laneList.idxOf l.val) = false →
        (x.state = .lock ∨ x.state = .capx ∨ x.state = .standby) → ∃ t, exec (.injectLol r l) s = .next t ∧
        t.answer = ⟨.ok, []⟩ ∧ t.lane l = { x.detected true s.now with failStreak := min (x.failStreak + 1) 255 }) ∧
      (∀ k, injectLolStatus r l s = .ok → s.chainOf l = some k → (s.chainL k).state = .up → (s.chainL k).rejoin = .none →
        x.state = .active → bitOf (s.chainL k).txTarget ((s.chainL k).laneList.idxOf l.val) = true → ∃ t sw,
          exec (.injectLol r l) s = .next t ∧ t.answer = ⟨.ok, []⟩ ∧ (t.chainL k).txSwitch = some sw ∧ sw.drop = true ∧
          sw.mask = s.maskWithout k [l.val]) ∧
      (∀ c st, (c, st) ∈ commands → st ≠ .ok → ∃ t, exec c s = .next t ∧ t.answer = ⟨st, []⟩ ∧ t.lanes = s.lanes ∧
        t.chains = s.chains)) ∧
    (s.role r = some .operator → ∀ c ∈ commands, c.2 = .ePriv) ∧
    (s.role r = some .owner → s.mode ≠ .service → s.mode ≠ .maintain → ∀ c ∈ commands, c.2 = .eState) ∧
    (s.role r = some .owner → (s.mode = .service ∨ s.mode = .maintain) →
      (x.state = .active → retrainStatus r l s = .eBusy) ∧
      (x.inj.isSome = true → injectSyncStatus r l s = .eBusy ∧ injectLolStatus r l s = .eBusy ∧
        (1 ≤ n → x.state = .test → injectBitStatus r l n s = .eBusy) ∧
        (1 ≤ n → n ≤ 15 → injectSymbolStatus r l n s = .eBusy)))

/-- R220, R223, R224: what sending a packet leaves on its chain. -/
def Obligations.PacketsAreKept : Prop :=
  ∀ (s : State) (k : Nat) (p : Packet) (conf : Bool),
    let x := s.chainP k
    let y := (s.sendPacket k p conf).chainP k
    (s.chainUp k = true →
      ((s.sendPacket k p conf).inHand k).Perm (s.inHand k ++ [unnumbered p]) ∧ x.replay <+: y.replay ∧
      (x.txNext < 65536 → ∀ i, x.replay.length ≤ i → (h : i < y.replay.length) →
        (y.replay[i]).lseq = (x.txNext + (i - x.replay.length)) % 65536) ∧
      (x.replay.length ≤ 4096 → y.replay.length ≤ 4096) ∧ (x.rbufUsed ≤ s.rbufSize k → y.rbufUsed ≤ s.rbufSize k)) ∧
    (s.chainUp k = false → s.sendPacket k p conf = s)

/-- R216, R218, R221: what the blocks of a packet leave. -/
def Obligations.PacketReceiver : Prop :=
  ∀ (s : State) (k : Fin 16) (p : Packet) (slots : List (Option RxBlock)) (late : BitVec 32),
    let x := s.chainP k
    let e1 := (x.e + 1) % 65536
    let blocks := (packetBlocks p).map some
    let put (b : RxBlock) : List Emission := s.out ++ [.stripeBlock k b (s.chainL k).txStripe (s.chainL k).txPos]
    let acked (t : State) (e : Nat) : Prop :=
      (s.ackRoom k = true → t.out = put (ackBlock (e + 65535))) ∧
      (s.ackRoom k = false → t.out = s.out ∧ (t.chainP k).ackOwed = true)
    let nakked (t : State) : Prop := (t.chainP k).e = x.e ∧
      t.rdN (Reg.LNK_P_RX_DISCARD k) = sat32 (s.rdN (Reg.LNK_P_RX_DISCARD k)) 1 ∧
      (s.ackRoom k = true → x.nakE = none → t.out = put (nakBlock x.e)) ∧
      (s.ackRoom k = false → t.out = s.out ∧ (t.chainP k).nakOwed = true) ∧
      (∀ since, x.nakE = some (x.e, since) → 2 * (s.now - since) < 625 → t.out = s.out)
    (s.takesBlocks k = false → exec (.packetReceive k slots late) s = .next s) ∧
    (s.takesBlocks k = true → x.rxAsm = [] → packetFits p = true →
      (exec (.packetReceive k blocks late) s = .next ((s.setChainP k x).receive k p false late)) ∧
      (∀ pre b post, packetBlocks p = pre ++ b :: post → pre ≠ [] → post ≠ [] → ∃ t,
        exec (.packetReceive k (pre.map some ++ none :: post.map some) late) s = .next t ∧ nakked t) ∧
      (let v := s.judgePacket k p false
      ((v = .linkError ∨ v = .overrun) → ∃ t, exec (.packetReceive k blocks late) s = .next t ∧ nakked t) ∧
      (v = .duplicate → ∃ t, exec (.packetReceive k blocks late) s = .next t ∧ (t.chainP k).e = x.e ∧ acked t x.e ∧
        t.rdN (Reg.LNK_P_RX_DISCARD k) = sat32 (s.rdN (Reg.LNK_P_RX_DISCARD k)) 1) ∧
      (v = .contentError → ∃ t, exec (.packetReceive k blocks late) s = .next t ∧ (t.chainP k).e = e1 ∧ acked t e1 ∧
        t.rdN (Reg.LNK_P_FORMAT k) = sat32 (s.rdN (Reg.LNK_P_FORMAT k)) 1 ∧ t.cad = s.cad ∧ t.mem = s.mem) ∧
      (v = .accepted → p.type = 2 → s.cadPart.isSome = true → ∃ t, exec (.packetReceive k blocks late) s = .next t ∧
        (t.chainP k).e = e1 ∧ acked t e1 ∧
        Tab.lookD (t.chainP k).rxUsed (s.labelClass p.label) 0 =
          (Tab.lookD x.rxUsed (s.labelClass p.label) 0 + pktCost p) % 2 ^ 24 ∧
        t.cad.ingest = s.cad.ingest ++ (chunks 32 18 p.payload).map (fun l => ⟨l, k.val⟩))))

/-- R227, R234 to R239, R241: CREDIT, BRD, BWR, CTL and ALERT packets. -/
def Obligations.PartnerRequests : Prop :=
  ∀ (s : State) (k : Fin 16) (p : Packet) (late : BitVec 32),
    let x := s.chainP k
    let b := p.payload
    let n := (brdRange b).2
    let good (type : Nat) : Prop := s.judgePacket k { p with type := type } false = .accepted
    let ok (type : Nat) : Prop := good type ∧ p.tagged = false
    let rid := leAt (packetBody p) 0 4
    let sess := s.sessionAt k (tagSid b)
    let taken (type : Nat) : State := s.acceptPacket k { p with type := type }
    let owing : State := (taken 5).setChainP k { (taken 5).chainP k with
      ctlOwed := ((taken 5).chainP k).ctlOwed ++ [pktCost { p with type := 5 }] }
    let under (u : State) (e : Nat × Session) : State := u.setSession e.1 { e.2 with scntIn := tagScnt b, tLast := s.now }
    (p.tagged = true →
      ((sess = none ∨ ∃ e, sess = some e ∧ (tagOf e.2.khs p ≠ p.tag ∨ tagScnt b ≤ e.2.scntIn)) →
        (good 3 → ∃ t, exec (.brd k p) s = .next t ∧ t.mem = s.mem ∧
          t.holdsPacket k 3 p.label (fragment rid .eAuth true (Config.freeNat s.fresh) [])) ∧
        (good 4 → ∃ t, exec (.bwr k p) s = .next t ∧ t.mem = s.mem ∧
          t.holdsPacket k 4 p.label (fragment rid .eAuth true (Config.freeNat s.fresh) [])) ∧
        (good 5 → ∃ t, exec (.ctlRequest k p late) s = .next t ∧ t.mem = s.mem ∧
          t.holdsPacket k 5 0 (ctlResponse (packetBody p) .eAuth [] 0))) ∧
      (∀ e, sess = some e → tagOf e.2.khs p = p.tag → e.2.scntIn < tagScnt b →
        (good 3 → exec (.brd k p) s = .next ((under (taken 3) e).serveBrd k { p with type := 3 })) ∧
        (good 4 → exec (.bwr k p) s = .next ((under (taken 4) e).serveBwr k { p with type := 4 })) ∧
        (good 5 → let v := under owing e
          let own := v.requestSession k { p with type := 5 }
          let u := (v.servingFor own).ctlServe (packetReq k p) true s.sessionModes (packetBody p) late
          u.1.sec.enrol = none →
          exec (.ctlRequest k p late) s = .next ((u.1.answerWith k own (newPacket 5 0 u.2)).servingDone)))) ∧
    (ok 0 → ∃ t, exec (.creditPacket k p) s = .next t ∧ (t.chainP k).e = (x.e + 1) % 65536 ∧
      (t.chainP k).granted = (grants b).foldl (fun t g => if g.1 ≤ 32 then Tab.put t g.1 g.2 else t) x.granted) ∧
    (∀ part, ok 3 → Tab.look s.cfg.parts (leAt b 4 1) = some part →
      s.accessStatus ⟨.chain k, 0⟩ false p.label (leAt b 4 1) (brdRange b).1 n = .ok →
      let off := (brdRange b).1
      let u := (taken 3).chainTraffic k (s.labelClass p.label) p.label part off n
      let j : BrdJob := ⟨k, { p with type := 3 }, none, leAt b 4 1, u.2, []⟩
      let id := u.1.dmc.nextJob
      let g := ({ u.1 with dmc := { u.1.dmc with nextJob := id + 1 } } : State).gather j part id (s.labelClass p.label) 0
        (off / 64 * 64) ((off + n - 1) / 64 + 1 - off / 64)
      (g.2.any (fun w => w == .waits) = false → ∃ t, exec (.brd k p) s = .next t ∧ ∀ i < (n + 559) / 560,
        t.holdsPacket k 3 p.label (fragment (leAt b 0 4) (if g.2.any (fun w => w == .bad) then .eIntegrity else .ok)
          (decide (n ≤ 560 * (i + 1))) (off + 560 * i)
          (((((g.2.flatMap JobCw.bytes).drop (off % 64)).take n).drop (560 * i)).take 560))) ∧
      (g.2.any (fun w => w == .waits) = true → ∃ t, exec (.brd k p) s = .next t ∧ t.out = g.1.out ∧
        Tab.look t.dmc.jobs id = some { j with cws := g.2 })) ∧
    (∀ part, ok 4 → Tab.look s.cfg.parts (leAt b 4 1) = some part →
      s.accessStatus ⟨.chain k, 0⟩ true p.label (leAt b 4 1) (leAt b 8 8) (b.length - 16) = .ok →
      let lost := s.anyLost part (leAt b 8 8) (b.length - 16)
      ∃ t, exec (.bwr k p) s = .next t ∧ (lost = true → t.mem = s.mem) ∧ (lost = true ∨ leAt b 5 1 = 1 → ∃ o,
        t.holdsPacket k 4 p.label (fragment (leAt b 0 4) (if lost then .eIntegrity else .ok) true o []))) ∧
    (∀ part c a, ok 4 → Tab.look s.cfg.parts (leAt b 4 1) = some part →
      s.accessStatus ⟨.chain k, 0⟩ true p.label (leAt b 4 1) (leAt b 8 8) (b.length - 16) = .ok → b.length = 80 →
      leAt b 8 8 % 64 = 0 → s.place part (leAt b 8 8) = .at c a → s.cwBusy c (cwAddr a) = false → (s.chan c).wq.length < 64 →
      s.injArmed c (cwAddr a) = false → ∃ t,
      exec (.bwr k p) s = .next t ∧ (∀ i < 64, Tab.look t.mem (memKey c (cwAddr a) + i) = some (b.getD (16 + i) 0)) ∧
        t.storedErr (memKey c (cwAddr a)) = [] ∧ (∀ m, m ≠ memKey c (cwAddr a) → t.storedErr m = s.storedErr m) ∧
        (∀ m, (m < memKey c (cwAddr a) ∨ memKey c (cwAddr a) + 64 ≤ m) → Tab.look t.mem m = Tab.look s.mem m)) ∧
    (∀ st, st ≠ .ok →
      (ok 3 → s.accessStatus ⟨.chain k, 0⟩ false p.label (leAt b 4 1) (brdRange b).1 n = st → ∃ t, exec (.brd k p) s = .next t ∧
        t.mem = s.mem ∧ t.holdsPacket k 3 p.label (fragment (leAt b 0 4) st true (Config.freeNat s.fresh) [])) ∧
      (ok 4 → s.accessStatus ⟨.chain k, 0⟩ true p.label (leAt b 4 1) (leAt b 8 8) (b.length - 16) = st → ∃ t,
        exec (.bwr k p) s = .next t ∧ t.mem = s.mem ∧
        t.holdsPacket k 4 p.label (fragment (leAt b 0 4) st true (Config.freeNat s.fresh) []))) ∧
    (ok 5 → let u := (owing.servingFor none).ctlServe ⟨.chain k, 0⟩ false s.sessionModes b late
      ∃ t, exec (.ctlRequest k p late) s = .next t ∧ (u.1.chainUp k = true → t.holdsPacket k 5 0 u.2)) ∧
    (s.alertsGo k = true → s.alertRoom k = true → x.alerts ≠ [] → ∃ t, exec (.alertSend k) s = .next t ∧
      (t.chainP k).alerts = x.alerts.drop 18 ∧ t.holdsPacket k 6 0 ((x.alerts.take 18).flatMap Alert.bytes)) ∧
    ((s.alertsGo k = false ∨ s.alertRoom k = false ∨ x.alerts = []) → exec (.alertSend k) s = .next s)

/-- R223, R229, R246: acknowledgement, replay and grants. -/
def Obligations.AckAndReplay : Prop :=
  ∀ (s : State) (k : Fin 16) (body : BitVec 56),
    let x := s.chainP k
    let got := bitsOf body.toNat 55 40
    let i := x.index got
    let resent (t : State) (l : List Packet) : Prop := s.out <+: t.out ∧
      (t.out.drop s.out.length).filterMap (resentOn k) = l
    let down (t : State) : Prop := (t.chainL k).state = .off ∧ (t.chainP k).replay = [] ∧
      t.flag (Reg.LNK_P_EVENTS k) Fld.LNK_P_EVENTS_RETRY_EXHAUSTED = true
    (s.chainUp k = true → crcHolds 0x91 body.toNat = true →
      (i < x.replay.length → ∃ t, exec (.ackReceived k body) s = .next t ∧ x.replay.drop (i + 1) <+: (t.chainP k).replay ∧
        (x.waiting = [] → (t.chainP k).replay = x.replay.drop (i + 1)) ∧ (t.chainP k).streak = 0) ∧
      (i = 65535 → x.replay.length ≤ 4096 → exec (.ackReceived k body) s = .next s) ∧
      (x.replay.length ≤ i → i ≠ 65535 → exec (.ackReceived k body) s =
        .next (s.event (Reg.LNK_P_EVENTS k) Fld.LNK_P_EVENTS_ACK_INVALID))) ∧
    (s.chainUp k = true → crcHolds 0x92 body.toNat = true →
      (i < x.replay.length → (i = 0 → x.streak < 16) → ∃ t, exec (.nakReceived k body) s = .next t ∧
        x.replay.drop i <+: (t.chainP k).replay ∧ resent t (x.replay.drop i) ∧
        t.rdN (Reg.LNK_P_NAK_RX k) = sat32 (s.rdN (Reg.LNK_P_NAK_RX k)) 1 ∧
        t.rdN (Reg.LNK_P_REPLAYS k) = sat32 (s.rdN (Reg.LNK_P_REPLAYS k)) 1) ∧
      (i = 0 → x.replay ≠ [] → 16 ≤ x.streak → ∃ t, exec (.nakReceived k body) s = .next t ∧ down t) ∧
      (x.replay.length ≤ i → got = x.txNext → x.waiting = [] → ∃ t,
        exec (.nakReceived k body) s = .next t ∧ (t.chainP k).replay = [] ∧ t.out = s.out) ∧
      (x.replay.length ≤ i → got ≠ x.txNext → ∃ t, exec (.nakReceived k body) s = .next t ∧ t.chainP k = x ∧ t.out = s.out ∧
        t.rdN (Reg.LNK_P_NAK_RX k) = sat32 (s.rdN (Reg.LNK_P_NAK_RX k)) 1 ∧
        t.flag (Reg.LNK_P_EVENTS k) Fld.LNK_P_EVENTS_ACK_INVALID = true)) ∧
    (crcHolds 0x91 body.toNat = false → exec (.ackReceived k body) s = .next s) ∧
    (crcHolds 0x92 body.toNat = false → exec (.nakReceived k body) s = .next s) ∧
    (s.now ≤ x.sentAt.headD 0 + 625 → exec (.replayTimeout k) s = .next s) ∧
    (x.replay = [] → x.waiting = [] → exec (.replayTimeout k) s = .next s) ∧
    (s.chainUp k = true → x.replay ≠ [] → x.sentAt.headD 0 + 625 < s.now → ∃ t, exec (.replayTimeout k) s = .next t ∧
      (x.streak < 16 → (t.chainP k).streak = x.streak + 1 ∧ x.replay <+: (t.chainP k).replay ∧ resent t x.replay) ∧
      (16 ≤ x.streak → down t)) ∧
    (s.chainUp k = true → x.waiting = [] → ∃ t, exec (.creditGrantSend k) s = .next t ∧
      (∀ n < 33, Tab.look (t.chainP k).givenSent n = some ((t.chainP k).givenOf n) ∨
        ∃ sent, Tab.look x.givenSent n = some sent ∧ Tab.look (t.chainP k).givenSent n = some sent ∧
          ((t.chainP k).givenOf n + 2 ^ 24 - sent) % 2 ^ 24 < 64 ∧
          2 * (s.now - Tab.lookD (t.chainP k).movedAt n s.now) < 625)) ∧
    (s.chainUp k = false → exec (.ackReceived k body) s = .next s ∧ exec (.nakReceived k body) s = .next s ∧
      exec (.replayTimeout k) s = .next s ∧ exec (.creditGrantSend k) s = .next s)

/-- R423, R424: no command of the host takes effect without its role. -/
def Obligations.RolesAreRequired : Prop :=
  ∀ (c : Instr) (s : State) (r : Req) (owner : Bool), hostRow c = some (r, owner) → s.roleLacks r owner →
    ∃ t, exec c s = .next t ∧ t.answer = ⟨if s.role r = none then .eAuth else .ePriv, []⟩ ∧
      t.mode = s.mode ∧ t.trans = s.trans ∧ t.vxu = s.vxu ∧ t.cad = s.cad ∧ t.rae = s.rae ∧ t.lanes = s.lanes ∧ t.chains = s.chains ∧
      t.pkt = s.pkt ∧ t.dmc = s.dmc ∧ t.mem = s.mem ∧ t.errs = s.errs ∧ t.sec = s.sec ∧ t.fse = s.fse ∧ t.cfg = s.cfg ∧
      t.shadow = s.shadow ∧ t.qos = s.qos ∧ t.bst = s.bst ∧ t.thm = s.thm ∧ t.pwr = s.pwr ∧ t.upd = s.upd ∧ t.flt = s.flt

/-- R431: programming is one way, over every command. -/
def Obligations.FusesOnlyGrow : Prop :=
  ∀ (c : Instr) (s t : State) (w i : Nat), exec c s = .next t → s.fuseSet w i = true → t.fuseSet w i = true

/-- R413 to R417: NONCE, its expiry and OPEN. -/
def Obligations.OpeningSessions : Prop :=
  ∀ (s : State) (r : Req) (p : Path) (ext : List Byte),
    (let st := firstStatus (s.opChecks r 0x20 ++ [(!s.opensSessions, .eState), (s.nonceBlocked r.path.num, .eBusy)]);
      (st = .ok →
        ∃ t n, exec (.nonce r) s = .next t ∧ t.answer.status = .ok ∧ t.answer.data.length = 48 ∧ n ∈ t.sec.nonces ∧
          n.path = r.path.num ∧ n.expires = s.now + 312500000 ∧
          ((s.sec.nonces.filter (fun x => x.path == r.path.num)).length ≤ 4 →
            (t.sec.nonces.filter (fun x => x.path == r.path.num)).length ≤ 4) ∧ t.sec.sessions = s.sec.sessions) ∧
      (st ≠ .ok → ∃ t, exec (.nonce r) s = .next t ∧ t.answer = ⟨st, []⟩ ∧ t.sec = s.sec)) ∧
    (∀ n, s.sec.nonces.find? (fun x => x.path == p.num) = some n →
      (n.expires ≤ s.now → exec (.nonceExpire p) s = .next { s with sec := { s.sec with nonces := s.sec.nonces.erase n } }) ∧
      (s.now < n.expires → exec (.nonceExpire p) s = .next s)) ∧
    ((∀ x ∈ s.sec.nonces, x.path ≠ p.num) → exec (.nonceExpire p) s = .next s) ∧
    (∀ st, st ≠ .ok → s.openEarly r ext = st → ∃ t, exec (.sessionOpen r ext) s = .next t ∧ t.answer = ⟨st, []⟩ ∧ t.sec = s.sec) ∧
    (∀ st, st ≠ .ok → s.openEarly r ext = .ok → s.openStatus r ext = st → ∃ t, exec (.sessionOpen r ext) s = .next t ∧
      t.answer = ⟨st, []⟩ ∧ t.sec.sessions = s.sec.sessions ∧ t.sec.nonces = (s.consumeNonce r ext).sec.nonces ∧
      t.rdN Reg.SEC_OPEN_FAIL = sat32 (s.rdN Reg.SEC_OPEN_FAIL) 1) ∧
    (s.openEarly r ext = .ok → s.openStatus r ext = .ok → ∃ t x slot, exec (.sessionOpen r ext) s = .next t ∧
      t.answer.status = .ok ∧ t.sec.nonces = (s.consumeNonce r ext).sec.nonces ∧ slot < 16 ∧
      Tab.look s.sec.sessions slot = none ∧ (∀ e ∈ s.sec.closing, e.1 ≠ slot) ∧
      t.sec.sessions = Tab.put s.sec.sessions slot x ∧ x.path = r.path.num ∧
      x.role = (if s.cfg.empty = true ∧ s.sec.lifecycle = .owned then .owner else roleOf (leAt ext 1 1)) ∧
      x.timeout = (if leAt ext 4 4 = 0 then s.sec.idle else leAt ext 4 4) ∧ x.tOpen = s.now ∧ x.sid ≠ 0 ∧ s.sidFree x.sid)

/-- R421, R425 to R430: what the session operations and the debug unlock leave. -/
def Obligations.SessionOperations : Prop :=
  ∀ (s : State) (r : Req) (ext : List Byte) (slot : Fin 16) (v : Word),
    let refused (c : Instr) (st : Status) : Prop := ∃ t, exec c s = .next t ∧ t.answer = ⟨st, []⟩ ∧ t.sec = s.sec
    let admitted : Prop := s.role r ≠ none ∨ r.sid = 0
    (s.sessionModes = true →
      (s.role r ≠ none → ∃ t, exec (.sessionClose r) s = .next t ∧ t.answer = ⟨.ok, []⟩ ∧
        (∀ e, e ∈ t.sec.sessions ↔ e ∈ s.sec.sessions ∧ ¬ (e.2.sid = r.sid ∧ e.2.path = r.path.num))) ∧
      (s.role r = some .owner → ¬ s.sidFree (leAt ext 0 2) → zeros ext 2 14 = true → ∃ t, exec (.evict r ext) s = .next t ∧
        t.answer = ⟨.ok, []⟩ ∧ (∀ e, e ∈ t.sec.sessions ↔ e ∈ s.sec.sessions ∧ e.2.sid ≠ leAt ext 0 2)) ∧
      (s.role r = some .owner → (s.sidFree (leAt ext 0 2) ∨ zeros ext 2 14 = false) → refused (.evict r ext) .eRange) ∧
      (admitted → exec (.identity r) s = .next (s.reply .ok s.identity) ∧
        (s.pkFull = true → exec (.attest r ext) s = .next (s.reply .eBusy)) ∧
        (s.pkFull = false → ∃ t sig, exec (.attest r ext) s = .next t ∧
          t.answer = ⟨.ok, s.reportBody r ext ++ sig ++ List.replicate 12 0#8⟩ ∧ (s.reportBody r ext).length = 352 ∧
          t.sec.sessions = s.sec.sessions ∧ t.sec.nonces = s.sec.nonces ∧ t.regs = s.regs))) ∧
    (s.role r ≠ none → s.role r ≠ some .owner → refused (.evict r ext) .ePriv) ∧
    (s.sessionModes = false → (s.role r ≠ none → refused (.sessionClose r) .eState) ∧
      (s.role r = some .owner → refused (.evict r ext) .eState) ∧
      (admitted → refused (.identity r) .eState ∧ refused (.attest r ext) .eState)) ∧
    (s.role r = none → refused (.sessionClose r) .eAuth ∧ refused (.evict r ext) .eAuth ∧
      (r.sid ≠ 0 → refused (.identity r) .eAuth ∧ refused (.attest r ext) .eAuth)) ∧
    (∀ x, Tab.look s.sec.sessions slot = some x →
      (x.tLast + x.timeout * 312500000 ≤ s.now → ∃ t, exec (.sessionIdleTimeout slot) s = .next t ∧ t.sidFree x.sid ∧
        (∀ e, e.2.sid ≠ x.sid → (e ∈ t.sec.sessions ↔ e ∈ s.sec.sessions))) ∧
      (s.now < x.tLast + x.timeout * 312500000 → exec (.sessionIdleTimeout slot) s = .next s)) ∧
    (Tab.look s.sec.sessions slot = none → exec (.sessionIdleTimeout slot) s = .next s) ∧
    (let st := s.recovering Reg.SEC_DBG_CTL (s.dbgStatus r v);
      (st = .ok → wget v Fld.SEC_DBG_CTL_UNLOCK = 1 → ∃ t, exec (.debugUnlock r v) s = .next t ∧ t.answer = ⟨.ok, []⟩ ∧
        t.sec.dbgEver = true ∧ (∀ e ∈ t.sec.sessions, e.2.sid = r.sid) ∧ t.rd Reg.SEC_DBG_CTL = v &&& 0x80000003#32) ∧
      (st = .ok → wget v Fld.SEC_DBG_CTL_UNLOCK = 0 →
        exec (.debugUnlock r v) s = .next ((s.wr Reg.SEC_DBG_CTL (v &&& 0x80000003#32)).reply .ok)) ∧
      (st ≠ .ok → refused (.debugUnlock r v) st))

/-- R408, R436 to R451: ENROLL, senses, REINFORCE, the end of an operation and the sticky locks. -/
def Obligations.FuseOperations : Prop :=
  ∀ (s : State) (r : Req) (res : FuseResult) (n : Fin 16) (v : Word) (weak made : List (Fin 1024 × BitVec 64)),
    let refused (c : Instr) (st : Status) : Prop := ∃ t, exec c s = .next t ∧ t.answer = ⟨st, []⟩ ∧ t.fse = s.fse ∧ t.sec = s.sec
    (let st := firstStatus
        [((s.role r).isNone, .eAuth), (s.role r != some .enrolment || s.sec.lifecycle == .owned, .eWriteOnce),
          (s.mode != .maintain, .eState), (s.slocked 1 || s.slocked 2, .eLocked), (s.pkFull || s.sec.enrol.isSome, .eBusy),
          (!(s.fuseBlank 1 && s.fuseBlank 2), .eIntegrity)];
      (st = .ok → ∃ e t, s.sessionAt r.path.num r.sid = some e ∧ exec (.enroll r) s = .next t ∧ t.answer = s.answer ∧
        t.sec = { s.sec with enrol := some ⟨r, e, .command, []⟩ } ∧
        (let o : FuseOp := ⟨.enrol, pairSteps 1 8 (anchorWords e.2.key)⟩;
          (s.fse.op = none → t.fse = { s.fse with op := some o }) ∧
          (s.fse.op ≠ none → t.fse = { s.fse with waiting := s.fse.waiting ++ [o] }))) ∧
      (st ≠ .ok → refused (.enroll r) st)) ∧
    (let st := s.recovering Reg.FSE_CMD (fseCmdStatus r (s.mode == .service || s.mode == .maintain) s);
      (st = .ok → ∃ t, exec (.sense (.command r) weak) s = .next t ∧ t.answer = ⟨.ok, []⟩ ∧ t.fse.bits = s.fse.bits ∧
        t.fse.senseDue = false ∧ t.fse.op = none) ∧
      (st ≠ .ok → refused (.sense (.command r) weak) st)) ∧
    (let st := s.recovering Reg.FSE_CMD (fseCmdStatus r (s.mode == .maintain) s);
      (st = .ok → ∃ t, exec (.reinforce r) s = .next t ∧ t.answer = ⟨.ok, []⟩ ∧
        t.fse = { s.fse with op := some ⟨.reinforce, s.reinforceSteps⟩ } ∧ t.regs = s.regs) ∧
      (st ≠ .ok → refused (.reinforce r) st)) ∧
    (let st := s.recovering (Reg.FSE_SLOCK n) (slockStatus r n s);
      (st = .ok → ∃ t, exec (.fseSlock r n v) s = .next t ∧ t.answer = ⟨.ok, []⟩ ∧
        t.slocked n = (s.slocked n || wget v Fld.FSE_SLOCK_SLOCK == 1) ∧ t.fse.slockSet = s.fse.slockSet ++ [n.val] ∧
        (s.fse.op = none → t.fse = { s.fse with slockSet := s.fse.slockSet ++ [n.val] } ∧
          ∀ a, a ≠ Reg.FSE_SLOCK n → t.rd a = s.rd a)) ∧
      (st ≠ .ok → refused (.fseSlock r n v) st) ∧
      (s.upd.recovery = false → s.role r = some .owner → (s.slocked n = true ∨ n.val ∈ s.fse.slockSet) → st = .eWriteOnce)) ∧
    (s.mode = .cold → s.fse.sensed = false → s.aon.resetN = true → s.aon.pwrgood = true → ∃ t,
      exec (.sense (.coldLoad made) weak) s = .next t ∧ t.fse.sensed = true ∧ t.fse.cold = t.fse.bits ∧ t.mode = .cold ∧
      (s.fuseLocked 0 = true → t.fse.bits = s.fse.bits)) ∧
    ((s.mode ≠ .cold ∨ s.fse.sensed = true ∨ s.aon.resetN = false ∨ s.aon.pwrgood = false) →
      exec (.sense (.coldLoad made) weak) s = .next s) ∧
    (s.mode ≠ .cold → s.mode ≠ .safe → s.fse.op = none → s.fse.senseDue = true → ∃ t,
      exec (.sense .bandChange weak) s = .next t ∧ t.fse.bits = s.fse.bits ∧ t.fse.senseDue = false) ∧
    ((s.mode = .cold ∨ s.mode = .safe ∨ s.fse.op ≠ none ∨ s.fse.senseDue = false) →
      exec (.sense .bandChange weak) s = .next s) ∧
    (s.fse.op = none → exec (.fuseOperationEnd res) s = .next s) ∧
    (∀ o, s.fse.op = some o →
      let x := o.steps.foldl FuseRun.step ⟨s, res, 0, none⟩
      let st := x.stop.getD .ok
      (∃ t, exec (.fuseOperationEnd res) s = .next t ∧ t.fse.last = st.code ∧ (s.fse.waiting = [] → t.fse.op = none) ∧
        (∀ o' l, s.fse.waiting = o' :: l → s.mode = .maintain → t.fse.op = some o' ∧ t.fse.waiting = l) ∧
        (st = .ok → (∀ b, .blow b ∈ o.steps → t.fuseSet (b / 64) (b % 64) = true) ∧
          (∀ m, .lock m ∈ o.steps → ∀ b ∈ lockBits m, t.fuseSet (b / 64) (b % 64) = true)) ∧
        (o.kind = .repair → st = .ok → t.bst.log = []) ∧
        (o.kind = .patch → (st = .ok → t.trans = some .load) ∧ (st ≠ .ok → t.upd.last = st)) ∧
        (∀ j, o.kind = .enrol → s.sec.enrol = some j → j.via = .command → t.answer = ⟨st, []⟩ ∧
          (st = .ok → t.sec.lifecycle = .owned ∧ ∀ e ∈ t.sec.sessions, ¬ (e.2.sid = j.req.sid ∧ e.2.path = j.req.path.num)))) ∧
      (res.fails = none → (∀ e ∈ o.steps, ∃ b, e = .blow b ∧ b % 4096 < 4032 ∧ s.slocked (b / 4096) = false ∧
        s.fuseLocked (b / 4096) = false) → st = .ok) ∧
      (∀ b l, o.steps = .blow b :: l → s.slocked (b / 4096) = false → s.fuseLocked (b / 4096) = false → s.fuseBit b = false →
        res.fails = some 0 → st = .eIntegrity) ∧
      (∀ e l, o.steps = e :: l → (s.slocked e.region = true ∨ s.fuseLocked e.region = true) → st = .eLocked))

/-- R488: the common command codes. -/
def Obligations.I3cCodes : Prop :=
  ∀ (s : State) (addr static : BitVec 7),
    let out (l : List Byte) : State := { s with out := s.out ++ [.i3c l] }
    let nack : State := { s with out := s.out ++ [.i3cNack] }
    let at_ (t : State) (da : Option Nat) : State := { t with i3c := { s.i3c with da := da } }
    (s.i3c.da = none → s.aon.resetN = true → exec (.entdaa addr) s = .next (at_ (out (beBytes 6 s.pid ++ [0#8, 0#8])) (some addr.toNat))) ∧
    ((s.i3c.da ≠ none ∨ s.aon.resetN = false) → exec (.entdaa addr) s = .next s) ∧ bitsOf s.pid 31 16 = 0x1648 ∧
    bitsOf s.pid 32 32 = 0 ∧
    (s.i3c.da = none → s.aon.resetN = true → exec (.setdasa 0x3A addr) s = .next (at_ s (some addr.toNat))) ∧
    ((static ≠ 0x3A ∨ s.i3c.da ≠ none ∨ s.aon.resetN = false) → exec (.setdasa static addr) s = .next s) ∧
    (s.i3c.da ≠ none → s.aon.resetN = true → exec (.setnewda addr) s = .next (at_ s (some addr.toNat))) ∧
    ((s.i3c.da = none ∨ s.aon.resetN = false) → exec (.setnewda addr) s = .next s) ∧
    exec .rstdaa s = .next (at_ s none) ∧ exec .enec s = .next s ∧ exec .disec s = .next s ∧
    (s.i3c.da ≠ none → s.aon.resetN = true →
      exec .getpid s = .next (out (beBytes 6 s.pid)) ∧ exec .getbcr s = .next (out [0#8]) ∧ exec .getdcr s = .next (out [0#8]) ∧
      (∃ a b, exec .getstatus s = .next { out [a, b] with fresh := s.fresh + 1 }) ∧
      exec .getmwl s = .next (out [0x02#8, 0x44#8]) ∧ exec .getmrl s = .next (out [0x02#8, 0x42#8])) ∧
    ((s.i3c.da = none ∨ s.aon.resetN = false) →
      exec .getpid s = .next nack ∧ exec .getbcr s = .next nack ∧ exec .getdcr s = .next nack ∧
      exec .getstatus s = .next { nack with fresh := s.fresh + 1 } ∧ exec .getmwl s = .next nack ∧ exec .getmrl s = .next nack) ∧
    exec (.i3cUnsupportedCcc true) s = .next nack ∧ exec (.i3cUnsupportedCcc false) s = .next s

/-- R489 to R491: what private writes and reads leave. -/
def Obligations.I3cTransfers : Prop :=
  ∀ (s : State) (a : BitVec 32) (size : Fin 4) (l : List Byte) (late : Bool) (lates : BitVec 32),
    let bytes := 2 ^ size.val
    let read : List Byte := leBytes 4 a.toNat ++ [BitVec.ofNat 8 size.val]
    let word := publicWord (a.toNat / 4 * 4)
    let next := publicWord (a.toNat / 4 * 4 + 4)
    let nack : State := { s with out := s.out ++ [.i3cNack] }
    let free : State := s.i3cArrive
    let drops : Nat := if s.i3c.answer = none then s.i3c.dropped else min 65535 (s.i3c.dropped + 1)
    let answered (st : Status) : Prop := ∃ t d, exec (.i3cDirectRead read late) s = .next t ∧ d.length = bytes ∧
      t.i3c.answer = some (BitVec.ofNat 8 st.code :: d) ∧ t.i3c.dropped = drops ∧ t.i3c.badFrame = s.i3c.badFrame ∧ t.mem = s.mem
    let discarded (c : Instr) : Prop := ∃ t, exec c s = .next t ∧ t = { s with i3c := t.i3c } ∧ t.i3c.answer = none ∧
      t.i3c.badFrame = min 255 (s.i3c.badFrame + 1) ∧ t.i3c.dropped = drops ∧ t.i3c.da = s.i3c.da
    (s.i3cAddress = none → exec (.i3cDirectRead l late) s = .next nack ∧ exec (.i3cCtlFrame l lates) s = .next nack ∧
      exec .i3cPrivateRead s = .next nack) ∧
    (s.i3cAddress ≠ none →
      (word = true → (size = 3 → next = true) → a.toNat % bytes = 0 → answered (if late then .eBusy else .ok)) ∧
      (word = true → (size = 3 → next = true) → a.toNat % bytes ≠ 0 → answered .eAlign) ∧
      ((word = false ∨ (size = 3 ∧ next = false ∧ late = false)) → answered .eAuth) ∧
      ((l.length ≠ 5 ∨ 3 < leAt l 4 1) → discarded (.i3cDirectRead l late)) ∧
      (frameOk l = false → discarded (.i3cCtlFrame (5#8 :: l) lates)) ∧
      (∀ k, k ≠ 1#8 → k ≠ 5#8 → discarded (.i3cCtlFrame (k :: l) lates)) ∧ discarded (.i3cCtlFrame [] lates) ∧
      exec (.i3cCtlFrame (1#8 :: l) lates) s = exec (.i3cDirectRead l (lates.getLsbD 0)) s ∧
      (frameOk l = true → leAt l 0 1 = 0 →
        let u := (free.servingFor none).ctlServe ⟨.i3c, 0⟩ false s.sessionModes (slice l 3 (leAt l 1 2)) lates
        exec (.i3cCtlFrame (5#8 :: l) lates) s = .next (u.1.i3cAnswer (leBytes 2 u.2.length ++ u.2)).servingDone) ∧
      (frameOk l = true → leAt l 0 1 = 1 →
        let p := framePacket l
        let sess := s.sessionAt 16 (tagSid p.payload)
        ((sess = none ∨ ∃ e, sess = some e ∧ (tagOf e.2.khs p ≠ p.tag ∨ tagScnt p.payload ≤ e.2.scntIn)) → ∃ t,
          exec (.i3cCtlFrame (5#8 :: l) lates) s = .next t ∧ t.mem = s.mem ∧
          (let x := ctlResponse (packetBody p) .eAuth [] 0;
            t.i3c.answer = some (leBytes 2 x.length ++ x))) ∧
        (∀ e, sess = some e → tagOf e.2.khs p = p.tag → e.2.scntIn < tagScnt p.payload →
          let v := free.setSession e.1 { e.2 with scntIn := tagScnt p.payload, tLast := s.now }
          let own := v.sessionAt 16 (tagSid p.payload)
          let u := (v.servingFor own).ctlServe ⟨.i3c, tagSid p.payload⟩ true s.sessionModes (packetBody p) lates
          (s.sec.enrol ≠ none ∨ u.1.sec.enrol = none) → exec (.i3cCtlFrame (5#8 :: l) lates) s = .next (u.1.i3cRespond own u.2).servingDone)) ∧
      (∀ x, s.i3c.answer = some x → exec .i3cPrivateRead s = .next { s with
        i3c := { s.i3c with answer := none, answerSid := 0 }, out := s.out ++ [.i3c x] }) ∧
      (s.i3c.answer = none → exec .i3cPrivateRead s = .next nack))

/-- R256, R262: OWED, PULLED and the rows. -/
def Obligations.RefreshRules : Prop :=
  ∀ (s : State) (c bank : Fin 32),
    let x := s.chan c
    let u := s.postponeUpdate c
    let y := u.chan c
    let live : Prop := x.on = true ∧ x.sr = false ∧ x.width ≠ .retired
    let free : Prop := s.inTransit = false ∧ x.held = false
    let owed := min 8 (y.owed + 1)
    let ticked : State := (u.setChan c { y with owed := owed }).wrN (Reg.DMC_REF_OWEDMAX c)
      (max (u.rdN (Reg.DMC_REF_OWEDMAX c)) owed)
    let issued (z : Chan) (t : State) (n : Nat) : Prop :=
      (t.chan c).issued = z.issued + n + (if z.openRows = [] then 0 else 1) ∧ (t.chan c).openRows = [] ∧
      (((t.chan c).retry.reverse.take n).all (fun k => k.kind == 5) = true) ∧ n ≤ (t.chan c).retry.length
    let idle : Prop := live ∧ free ∧ x.waiting.any (fun r => decide ((s.reqBid r).level ≤ 3)) = false
    (x.postpone = false → 50 ≤ s.boundFill c (s.captureClasses.filter s.inForce) → u = s.setChan c { x with postpone := true }) ∧
    (x.postpone = true → s.boundFill c s.captureClasses < 25 → y.postpone = false ∧ (free → x.sr = false → y.owed = 0)) ∧
    (live → 0 < y.pulled → exec (.refreshTick c) s = .next (u.setChan c { y with pulled := y.pulled - 1 })) ∧
    (live → y.pulled = 0 → ¬ free → exec (.refreshTick c) s = .next ticked) ∧
    (live → y.pulled = 0 → free →
      (y.postpone = false → ∃ t, exec (.refreshTick c) s = .next t ∧ issued y t owed ∧ (t.chan c).owed = 0 ∧
        (t.chan c).pulled = 0) ∧
      (y.postpone = true → owed < 8 → exec (.refreshTick c) s = .next ticked) ∧
      (y.postpone = true → owed = 8 → ∃ t, exec (.refreshTick c) s = .next t ∧ issued y t 1 ∧ (t.chan c).owed = 7) ∧
      (owed = 8 → ∃ t, exec (.refreshTick c) s = .next t ∧
        t.rdN (Reg.DMC_REF_FORCED c) = sat32 (u.rdN (Reg.DMC_REF_FORCED c)) 1 ∧
        t.flag (Reg.DMC_EVENTS c) Fld.DMC_EVENTS_REF_FORCED = true)) ∧
    (idle →
      (0 < x.owed → ∃ t, exec (.pullInRefresh c) s = .next t ∧ issued x t 1 ∧ (t.chan c).owed = x.owed - 1 ∧
        (t.chan c).pulled = x.pulled) ∧
      (x.owed = 0 → x.pulled < 8 → ∃ t, exec (.pullInRefresh c) s = .next t ∧ issued x t 1 ∧ (t.chan c).owed = 0 ∧
        (t.chan c).pulled = x.pulled + 1) ∧
      (x.owed = 0 → 8 ≤ x.pulled → exec (.pullInRefresh c) s = .next s)) ∧
    (¬ live → exec (.refreshTick c) s = .next s) ∧ (¬ idle → exec (.pullInRefresh c) s = .next s) ∧
    (∀ row, free → Tab.look x.openRows bank = some row → ∃ t, exec (.rowIdlePrecharge c bank) s = .next t ∧
      (t.chan c).openRows = Tab.del x.openRows bank ∧ (t.chan c).issued = x.issued + 1 ∧ t.mem = s.mem ∧
      (t.chan c).retry.getLast? = some { kind := 4, addr := rowOfBank bank row, at_ := s.now }) ∧
    ((¬ free ∨ Tab.look x.openRows bank = none) → exec (.rowIdlePrecharge c bank) s = .next s)

/-- R255, R257, R284 to R291: what accesses leave of codewords. -/
def Obligations.CodewordAccess : Prop :=
  ∀ (s : State) (c cls : Fin 32) (a : BitVec 32) (age cycles : Nat) (late : Bool) (d : BitVec 512) (w : BitVec 64) (errs : ReadErrs)
    (reader : Reader),
    let x := s.chan c
    let k := memKey c a.toNat
    let read (e : ReadErrs) : Instr := .dmcRead c a cls age cycles late e reader
    let write (w : BitVec 64) : Instr := .dmcWrite c a cls age late d w
    let paid := if (s.charge cls (byteCount w)).2 then byteCount w else 0
    let elsewhere (t : State) : Prop := (∀ m, (m < k ∨ k + 64 ≤ m) → Tab.look t.mem m = Tab.look s.mem m) ∧
      (∀ m, m ≠ k → t.storedErr m = s.storedErr m)
    let same (t : State) : Prop := t.mem = s.mem ∧ t.errs = s.errs
    let whole : Prop := ∀ i < 64, Tab.look s.mem (k + i) ≠ none
    ((cwValid a.toNat = false ∨ errsValid errs = false) → exec (read errs) s = .fault .illFormed) ∧
    ((cwValid a.toNat = false ∨ w = 0) → exec (write w) s = .fault .illFormed) ∧
    (errsValid errs = false → exec (.mergeEntryTimeout c a errs) s = .fault .illFormed) ∧
    (cwValid a.toNat = true → s.chanReady c = false → exec (read noErrs) s = .next s ∧ (w ≠ 0 → exec (write w) s = .next s) ∧
      exec (.mergeEntryTimeout c a noErrs) s = .next s) ∧
    (cwValid a.toNat = true → s.chanReady c = true →
    (s.cwBusy c a.toNat = false →
      (s.injArmed c a.toNat = false → x.wq.length < 64 → ∃ t, exec (write allBytes) s = .next t ∧ t.stored k = d ∧
        t.storedErr k = [] ∧ elsewhere t ∧ (t.chan c).mergeOf a.toNat = none ∧ (t.chan c).wb.contains a.toNat = false) ∧
      (w ≠ 0 → w ≠ allBytes → x.mergeOf a.toNat = none → x.merge.length < 767 → x.wq.length < 64 → ∃ t,
        exec (write w) s = .next t ∧ same t ∧ (t.chan c).merge = x.merge ++
          [{ addr := a.toNat, data := mergeData 0 d w, valid := w, cls := cls.val, charged := paid, t := s.now }]) ∧
      (x.queued a.toNat s.dmc.reqSeq = none → x.mergeOf a.toNat = none → whole →
        (s.storedErr k = [] → ∃ t, exec (read noErrs) s = .next t ∧
          t.answer = ⟨.ok, (s.cadImage c a.toNat).getD (dataBytes (s.stored k))⟩ ∧ same t) ∧
        (s.storedErr k = poisonErr → ∃ t, exec (read noErrs) s = .next t ∧
          t.answer = ⟨.eIntegrity, List.replicate 64 0⟩ ∧ same t))) ∧
    (∀ b, s.preemptBank c a.toNat = s → x.queued a.toNat s.dmc.reqSeq = some b → ∃ t, exec (read noErrs) s = .next t ∧
      t.answer = ⟨.ok, (s.cadImage c a.toNat).getD (dataBytes b)⟩ ∧ same t) ∧
    (∀ l, s.bankLeg c a.toNat = some l → l.preemptible = true → s.realTime cls age (s.charge cls 64).2 = true →
      exec (read noErrs) s = .next ((s.preempt l).dmcRead c a.toNat cls age cycles late noErrs reader)) ∧
    (s.preemptBank c a.toNat = s →
      (s.cwBusy c a.toNat = true → x.queued a.toNat s.dmc.reqSeq = none → ∃ t, exec (read noErrs) s = .next t ∧ same t ∧
        t.answer = s.answer ∧ ∃ q ∈ (t.chan c).waiting, q.addr = a.toNat ∧ q.cls = cls.val ∧ q.op = .read noErrs reader) ∧
      (w ≠ 0 → (s.cwBusy c a.toNat = true ∨ x.mergeFull a.toNat w = true ∨ 64 ≤ x.wq.length) → ∃ t,
        exec (write w) s = .next t ∧ same t ∧
        (x.openWrite a.toNat = none → ∃ q ∈ (t.chan c).waiting, q.addr = a.toNat ∧ q.cls = cls.val ∧ q.op = .write d w paid) ∧
        (∀ q, x.openWrite a.toNat = some q → ∃ e ∈ (t.chan c).wq, e.addr = a.toNat ∧ e.seq = q.seq ∧ e.op = q.op.over d w paid))) ∧
    (∀ e, x.mergeOf a.toNat = some e →
      (e.t + 625 ≤ s.now → x.held = false → s.bankLeg c a.toNat = none → whole → s.storedErr k = [] →
        s.injArmed c a.toNat = false → ∃ t, exec (.mergeEntryTimeout c a noErrs) s = .next t ∧
          t.stored k = mergeData (s.stored k) e.data e.valid ∧ t.storedErr k = [] ∧ elsewhere t ∧ (t.chan c).mergeOf a.toNat = none) ∧
      (e.t + 625 ≤ s.now → (x.held = true ∨ s.bankLeg c a.toNat ≠ none) → ∃ t, exec (.mergeEntryTimeout c a noErrs) s = .next t ∧
        same t ∧ ∃ m ∈ (t.chan c).merge, m = { e with due := true }) ∧
      (s.now < e.t + 625 → exec (.mergeEntryTimeout c a noErrs) s = .next s)) ∧
    (x.mergeOf a.toNat = none → exec (.mergeEntryTimeout c a noErrs) s = .next s))

/-- R266 to R271: replay, the lane test, transits and the point in HOLD. -/
def Obligations.ReplayAndPoints : Prop :=
  ∀ (s : State) (c back : Fin 32) (bad : BitVec 16) (ticks p : Nat) (cal : CalResult) (r : Req) (v : Word),
    let x := s.chan c
    let n := x.issued - 1 - back.val
    let again := x.retry.drop (x.retry.length - 1 - back.val)
    let early := ∃ t, s.dmc.tEnd = some t ∧ s.now < t + 312500
    let runs := s.trans = none ∧ (s.mode = .service ∨ s.mode = .maintain)
    let counted (t : State) : Prop := t.rdN (Reg.DMC_CAPAR_CNT c) = sat32 (s.rdN (Reg.DMC_CAPAR_CNT c)) 1 ∧
      t.flag (Reg.DMC_EVENTS c) Fld.DMC_EVENTS_CAPAR = true
    let refusals := match x.refused with
      | some q => if q.1 = n then q.2 + 1 else 1
      | none => 1
    (∀ k, x.retry.reverse[back.val]? = some k → x.sr = false → s.inWindow k = true →
      (refusals < 3 → ∃ t, exec (.errorReturn c back) s = .next t ∧ counted t ∧
        t.out = s.out ++ .dram c 0 0 :: again.map (fun k => .dram c k.kind k.addr) ∧
        t.rdN (Reg.DMC_REPLAY_CNT c) = sat32 (s.rdN (Reg.DMC_REPLAY_CNT c)) 1 ∧ (t.chan c).held = x.held ∧
        (t.chan c).refused = some (n, refusals)) ∧
      (3 ≤ refusals → ∃ t, exec (.errorReturn c back) s = .next t ∧ counted t ∧ t.out = s.out ∧
        (t.chan c).held = true ∧ (t.chan c).openRows = [] ∧ t.flag (Reg.DMC_EVENTS c) Fld.DMC_EVENTS_REPLAY_EXH = true ∧
        (∀ j e, again[j]? = some e → e.kind = 2 →
          (∃ q ∈ (t.chan c).waiting, q.addr = e.addr ∧ q.op = .again e.data e.err) ∨
          (∃ q ∈ x.wq, ∃ d u, q.op = .sent (n + j) d u ∧ { q with op := .again d u } ∈ (t.chan c).waiting)))) ∧
    ((x.retry.length ≤ back.val ∨ x.sr = true ∨ ∃ k, x.retry.reverse[back.val]? = some k ∧ s.inWindow k = false) →
      exec (.errorReturn c back) s = .next s) ∧
    (x.held = true →
      (x.waiting = [] → x.owed = 0 → x.merge.any (fun e => e.due) = false →
        exec (.caLaneTestDone c 0) s = .next (s.setChan c { x with held := false, refused := none })) ∧
      (∃ u : State, exec (.caLaneTestDone c bad) s = .next (u.serveChan c) ∧ (u.chan c).held = false ∧
        (∀ l, bad.getLsbD l = true → (u.chan c).caFail.contains l = true ∨ (u.chan c).width = .retired))) ∧
    (x.held = false → exec (.caLaneTestDone c bad) s = .next s) ∧
    (s.dmc.due = some p → ¬ early → s.inTransit = false → runs → ∃ t, exec (.transitStart ticks cal) s = .next t ∧
      t.dmc.due = none ∧ t.dmc.move = some ⟨p, s.now, s.now + min ticks 6875, cal, 1⟩ ∧ t.rd64 Reg.DMC_T_TRANSIT = s.now) ∧
    ((s.dmc.due = none ∨ early ∨ s.inTransit = true ∨ ¬ runs) → exec (.transitStart ticks cal) s = .next s) ∧
    (∀ m, s.dmc.move = some m →
      (m.step = 1 → ∀ k ∈ s.liveChans, (s.transitSleep.chan k).sr = true) ∧
      (m.step = 7 → m.over_ ≤ s.now →
        let t := s.transitStep
        t.dmc.point = m.point ∧ t.dmc.move = none ∧ t.dmc.tEnd = some s.now ∧
          t.rdN Reg.DMC_TRANSITS = sat32 (s.rdN Reg.DMC_TRANSITS) 1 ∧ (m.point ≠ s.dmc.point → t.qos.change = true))) ∧
    (let st := s.recovering Reg.DMC_FREQ_REQ (freqReqStatus r v s);
      (st = .ok → ∃ t, exec (.dmcFreqReq r v) s = .next t ∧ t.answer = ⟨.ok, []⟩ ∧
        t.dmc.point = wget v Fld.DMC_FREQ_REQ_POINT ∧ t.dmc.freqReq = wget v Fld.DMC_FREQ_REQ_POINT ∧
        t.flag Reg.DMC_G_EVENTS Fld.DMC_G_EVENTS_HOLD_FREQ = true ∧
        (∀ k ∈ s.liveChans, ∀ i < 6, t.rdN (Reg.DMC_TIM_ACT k i) =
          timWord (wget v Fld.DMC_FREQ_REQ_POINT) s.thm.band ((s.chan k).width == .half) i % 2 ^ 32)) ∧
      (st ≠ .ok → ∃ t, exec (.dmcFreqReq r v) s = .next t ∧ t.answer = ⟨st, []⟩ ∧ t.dmc = s.dmc))

/-- R283: single errors, for every position and every mask. -/
def Obligations.SingleErrorsAreLocated : Prop :=
  decodeErr [] = (.clean, []) ∧ decodeErr poisonErr = (.poison, []) ∧
    ∀ (p : Nat) (m : Sym) (d : BitVec 512), p < 38 → m ≠ 0 →
      decodeErr [(p, m)] = (if p < 36 then .corrected1 else .mismatch, [(p, m)]) ∧ delivered d [(p, m)] [(p, m)] = d

/-- R293 to R298: what scrub, write backs, hot positions and injections leave. -/
def Obligations.IntegrityEvents : Prop :=
  ∀ (s : State) (c : Fin 32) (a : BitVec 32) (sym : Fin 36) (r : Req) (v : Word) (d : BitVec 512)
    (errs : List (Fin 32 × ReadErrs)),
    let x := s.chan c
    let k := memKey c a.toNat
    let ptr := s.rdN (Reg.ECC_C_SCRUB_PTR c)
    let good := s.chanReady c = true ∧ x.held = false ∧ x.width ≠ .retired ∧
      s.bankLeg c (rowAddr ptr) = none ∧ (s.mode = .service ∨ s.mode = .maintain)
    let waits := x.wb.contains a.toNat = true ∧ s.chanReady c = true ∧ x.held = false ∧ s.bankLeg c a.toNat = none
    let read := decodeErr (s.storedErr k)
    let mends := read.1 = .clean ∨ read.1 = .corrected1 ∨ read.1 = .corrected2
    let hot := 64 ≤ s.hotCount c sym ∧ x.width ≠ .retired ∧ ∀ t, Tab.look x.hotLast sym = some t → t + 31250000 ≤ s.now
    let reported (t : State) : Prop := (t.chan c).hotSym = sym.val ∧
      t.flag (Reg.ECC_C_EVENTS c) Fld.ECC_C_EVENTS_HOTPOS = true ∧ Tab.look (t.chan c).hotLast sym = some s.now
    (errs.all (fun e => errsValid e.2) = true → good → ∃ t, exec (.scrubRow c errs) s = .next t ∧
      (ptr + 1 < 1572864 → t.rdN (Reg.ECC_C_SCRUB_PTR c) = ptr + 1) ∧
      (1572864 ≤ ptr + 1 → t.rdN (Reg.ECC_C_SCRUB_PTR c) = 0 ∧
        t.rdN (Reg.ECC_C_SCRUB_PASSES c) = sat32 (s.rdN (Reg.ECC_C_SCRUB_PASSES c)) 1)) ∧
    (good → ∃ t, exec (.scrubRow c []) s = .next t ∧
      ((∀ i < 32, s.unwritten (memKey c (rowAddr ptr + 64 * i)) = false ∧ s.storedErr (memKey c (rowAddr ptr + 64 * i)) = []) →
        t.mem = s.mem ∧ t.errs = s.errs) ∧
      (∀ i < 32, let o := rowAddr ptr + 64 * i
        let w := memKey c o
        let e := errAdd (s.storedErr w) []
        (∀ j < 64, Tab.look s.mem (w + j) ≠ none) → x.pending o = false → s.injArmed c o = false →
        ((decodeErr e).1 = .corrected1 ∨ (decodeErr e).1 = .corrected2) →
        t.stored w = delivered (s.stored w) e (decodeErr e).2 ∧ t.storedErr w = [])) ∧
    (errs.all (fun e => errsValid e.2) = true → ¬ good → exec (.scrubRow c errs) s = .next s) ∧
    (errs.all (fun e => errsValid e.2) = false → exec (.scrubRow c errs) s = .fault .illFormed) ∧
    (waits → x.pending a.toNat = false → mends → s.injArmed c a.toNat = false → ∃ t, exec (.corrected2Writeback c a) s = .next t ∧
      t.stored k = delivered (s.stored k) (s.storedErr k) read.2 ∧ t.storedErr k = [] ∧
      (t.chan c).wb.contains a.toNat = false ∧ (∀ m, (m < k ∨ k + 64 ≤ m) → Tab.look t.mem m = Tab.look s.mem m)) ∧
    (waits → (x.pending a.toNat = true ∨ ¬ mends) → exec (.corrected2Writeback c a) s =
      .next (s.setChan c { x with wb := x.wb.filter (fun y => y != a.toNat) })) ∧
    (¬ waits → exec (.corrected2Writeback c a) s = .next s) ∧
    (hot → x.freeData ≠ [] → ∃ t, exec (.hotpos c sym) s = .next t ∧ reported t ∧
      (x.oot.length ≤ 14 → ∀ l ∈ symLanes (x.width == .half) sym, ∀ p, x.steer[l]? = some p →
        (t.chan c).oot.contains (legBlock 3 c p) = true)) ∧
    (hot → x.freeData = [] → ∃ t, exec (.hotpos c sym) s = .next t ∧ reported t ∧
      (∀ l p, (symLanes (x.width == .half) sym).find? (x.guilty sym) = some l → x.steer[l]? = some p → p < 78 →
        (t.chan c).dataFail.contains p = true)) ∧
    (¬ hot → exec (.hotpos c sym) s = .next s) ∧
    (let st := s.recovering Reg.ECC_INJ_CTL (injStatus r v s);
      (st = .ok → exec (.eccInjArm r v) s = .next ((s.wr Reg.ECC_INJ_CTL (v &&& 0xFFFF001F#32)).reply .ok)) ∧
      (st ≠ .ok → ∃ t, exec (.eccInjArm r v) s = .next t ∧ t.answer = ⟨st, []⟩ ∧ t.rd Reg.ECC_INJ_CTL = s.rd Reg.ECC_INJ_CTL ∧
        t.mem = s.mem)) ∧
    (s.injArmed c a.toNat = true → s.cwBusy c a.toNat = false → x.wq.length < 64 → s.chanReady c = true →
      cwValid a.toNat = true → ∃ t, exec (.dmcWrite c a 0 0 false d allBytes) s = .next t ∧
        t.stored k = (if s.fld Reg.ECC_INJ_CTL Fld.ECC_INJ_CTL_KIND = 3 then 0 else d) ∧ t.storedErr k = errNorm s.injError ∧
        t.flag Reg.ECC_INJ_CTL Fld.ECC_INJ_CTL_ARM = false ∧ t.flag Reg.ECC_G_EVENTS Fld.ECC_G_EVENTS_INJ_APPLIED = true)

/-- R303 to R322: what legs and their ends leave. -/
def Obligations.LegEvents : Prop :=
  ∀ (s : State) (c : Fin 32) (b sig tally : BitVec 32) (col : Option (Fin 32)) (g : Fin 4) (h : Fin 2),
    let x := s.chan c
    let k := blockKind b.toNat
    let u := blockUnit b.toNat
    let i := blockIndex b.toNat
    let serving := s.mode = .service ∨ s.mode = .maintain
    let can := s.trans = none ∧ s.inTransit = false
    let dram := can ∧ serving ∧ s.bst.fulltest = false ∧ x.on = true ∧ x.width ≠ .retired ∧ x.sr = false ∧ x.held = false
    let base := can ∧ serving ∧ s.bst.fulltest = false
    let full := can ∧ s.bst.fulltest = true ∧ s.bst.aborting = false ∧ (s.mode = .maintain ∨ (s.mode = .load ∧ s.bst.ftLoad = true))
    let fits (n : Nat) : Prop := s.legRoom n = true ∧ s.underLeg n = false
    let starts (w : LegWho) (n : Nat) : Prop := ∃ t, exec (.legStart w) s = .next t ∧
      (∃ l ∈ t.bst.running, l.block = n ∧ l.since = s.now) ∧ t.bst.lastStart = some s.now ∧
      t.rd64 Reg.BST_LEGS = (s.rd64 Reg.BST_LEGS + 1) % 2 ^ 64 ∧
      (s.legSteers n = false → t.bst.running = s.bst.running ++
        [⟨n, !s.bst.fulltest && decide (s.preRun n < 16), none, s.now⟩])
    let gone (l : Leg) (t : State) : Prop := (∀ m ∈ t.bst.running, m.block ≠ b.toNat ∧ m ∈ s.bst.running) ∧
      (l.back = none → t.bst.running = s.bst.running.filter (fun m => m.block != b.toNat) ∧ t.rdN Reg.BST_LAST_LEG = b.toNat)
    let bank := bankOf (rowAddr i)
    let row := rowOf (rowAddr i)
    (∀ n r, x.oot = n :: r → (s.nextDram c).1 = n) ∧ (∀ n r, x.oot = [] → x.rerun = n :: r → (s.nextDram c).1 = n) ∧
    (x.oot = [] → x.rerun = [] →
      (256 ≤ x.rowLegs → (s.nextDram c).1 = sideBlock c x.side) ∧ (x.rowLegs < 256 → (s.nextDram c).1 = legBlock 1 c x.trvPtr)) ∧
    (let n := s.nextDram c;
      (dram → fits n.1 → n.2.legEligible n.1 = true → starts (.dram c) n.1) ∧
      (dram → fits n.1 → n.2.legEligible n.1 = false → exec (.legStart (.dram c)) s = .next (n.2.rowDone n.1)) ∧
      ((¬ dram ∨ ¬ fits n.1) → exec (.legStart (.dram c)) s = .next s)) ∧
    (let n := s.nextBase;
      (base → fits n.1 → n.2.legEligible n.1 = true → starts .base n.1) ∧
      (base → fits n.1 → n.2.legEligible n.1 = false → exec (.legStart .base) s = .next (n.2.rowDone n.1)) ∧
      ((¬ base ∨ ¬ fits n.1) → exec (.legStart .base) s = .next s)) ∧
    (let n := s.nextFull;
      (full → s.fullOver = false → fits n.1 → s.blockOut n.1 = true → exec (.legStart .full) s = .next n.2) ∧
      (full → s.fullOver = false → fits n.1 → s.blockOut n.1 = false → n.2.legReady n.1 = true → starts .full n.1) ∧
      ((¬ full ∨ s.fullOver = true ∨ ¬ fits n.1 ∨ (s.blockOut n.1 = false ∧ n.2.legReady n.1 = false)) →
        exec (.legStart .full) s = .next s)) ∧
    (∀ l, s.legOf b.toNat = some l →
      (∃ t, exec (.legEnd b (Config.legSignature b) col) s = .next t ∧ gone l t ∧ t.rd64 Reg.BST_PASS = (s.rd64 Reg.BST_PASS + 1) % 2 ^ 64 ∧
        t.bst.lastOut = 1 ∧ t.incRun b.toNat = 0 ∧ t.preRun b.toNat = 0 ∧ (k = 1 → (t.chan u).cands.contains i = false)) ∧
      (sig ≠ Config.legSignature b → ∃ t, exec (.legEnd b sig col) s = .next t ∧
        t.rdN Reg.BST_FAIL = sat32 (s.rdN Reg.BST_FAIL) 1 ∧ t.flag Reg.BST_EVENTS Fld.BST_EVENTS_LEG_FAIL = true ∧
        (k = 1 → (∀ j, col = some j → (s.chan u).colFails.contains (1024 * bank + 32 * (row / 4096) + j) = false) →
          Tab.look (s.chan u).rowRepair (65536 * bank + row) = none → ∀ n r, (s.chan u).spareRows bank = n :: r →
          Tab.look (t.chan u).rowRepair (65536 * bank + row) = some n) ∧
        (k = 2 → bitsOf i 4 0 < 8 → (t.chan u).badSpares.contains (32 * bitsOf i 9 5 + bitsOf i 4 0) = true) ∧
        (k = 3 → i < 78 → (t.chan u).dataFail.contains i = true ∨ (t.chan u).width = .retired) ∧
        (k = 4 → i < 16 → (t.chan u).caFail.contains i = true ∨ (t.chan u).width = .retired) ∧
        (k = 5 → s.inTransit = false → (t.chan u).width = .retired) ∧
        (k = 6 → s.mode ≠ .cold → t.bst.clkLost.contains u = true) ∧
        (k = 7 → t.bst.vxuOff.contains u = true ∧ t.fld (Reg.VXU_BIND u) Fld.VXU_BIND_EN = 0) ∧
        (k = 8 → (t.engine u).failed = true) ∧
        (k = 9 → t.bst.sramSpared.contains i = true ∨ t.bst.sramOut.contains i = true)) ∧
      (s.budgetOver l = true → tally.toNat < legTally b.toNat → s.incRun b.toNat < 7 → ∃ t,
        exec (.legBudgetExpire b tally) s = .next t ∧ gone l t ∧ t.incRun b.toNat = s.incRun b.toNat + 1 ∧ t.bst.lastOut = 3 ∧
        (l.back = none → t.rdN Reg.BST_INCOMPLETE = sat32 (s.rdN Reg.BST_INCOMPLETE) 1) ∧
        (s.bst.fulltest = true → t.bst.ftRerun.contains b.toNat = true) ∧
        (s.bst.fulltest = false → (k ≤ 4 → (t.chan u).rerun.contains b.toNat = true) ∧
          (4 < k → t.bst.baseQueue = s.bst.baseQueue ++ [b.toNat]))) ∧
      (s.budgetOver l = true → tally.toNat < legTally b.toNat → 7 ≤ s.incRun b.toNat → ∃ t,
        exec (.legBudgetExpire b tally) s = .next t ∧ gone l t ∧ t.incRun b.toNat = 0 ∧
        t.flag Reg.BST_EVENTS Fld.BST_EVENTS_LEG_STUCK = true ∧
        (l.back = none → (k ≤ 4 → ¬ (k = 1 ∧ i = 1572863) → (t.chan u).passOver.contains b.toNat = true) ∧
          (4 < k → t.bst.passOver.contains b.toNat = true))) ∧
      ((s.budgetOver l = false ∨ legTally b.toNat ≤ tally.toNat) → exec (.legBudgetExpire b tally) s = .next s)) ∧
    (s.legOf b.toNat = none → exec (.legEnd b sig col) s = .next s ∧ exec (.legBudgetExpire b tally) s = .next s) ∧
    (let copies := x.width ≠ .retired ∧ x.sr = false ∧ x.on = true ∧ s.inTransit = false ∧ s.copyHeld c = false;
      (∀ entry n r, x.colCopy = (entry, n) :: r → copies → ∃ t, exec (.columnRepairChunk c) s = .next t ∧
        (n < 63 → (t.chan c).colCopy = (entry, n + 1) :: r ∧ t.bst.log = s.bst.log) ∧
        (63 ≤ n → (t.chan c).colCopy = r ∧ (s.bst.log.length < 8192 → t.bst.log = s.bst.log ++ [entry]) ∧
          Tab.look (t.chan c).colRepair (1024 * bitsOf entry 20 16 + 32 * bitsOf entry 15 12 + bitsOf entry 4 0) =
            some (bitsOf entry 21 21))) ∧
      ((x.colCopy = [] ∨ ¬ copies) → exec (.columnRepairChunk c) s = .next s)) ∧
    (s.mode ≠ .cold → s.bst.clkLost.contains (2 * g.val + h.val) = false → ∃ t, exec (.clkBundleLost g h) s = .next t ∧
      t.bst.clkLost = s.bst.clkLost ++ [2 * g.val + h.val] ∧
      (s.bst.clkLost.contains (2 * g.val + (1 - h.val)) = true → s.bst.dgRetired.contains g.val = false →
        (s.inTransit = false → ∀ j < 8, (t.chan (8 * g.val + j)).width = .retired ∧ (t.chan (8 * g.val + j)).sr = true) ∧
        (s.inTransit = true → .group g.val ∈ t.dmc.later))) ∧
    ((s.mode = .cold ∨ s.bst.clkLost.contains (2 * g.val + h.val) = true) → exec (.clkBundleLost g h) s = .next s)

/-- R318 to R337: salvage, the commands of BST, and calibration. -/
def Obligations.SelfTestAndCalibration : Prop :=
  ∀ (s : State) (r : Req) (c : Fin 32) (values : List (Nat × Nat)) (kind : Fin 4) (lane : Fin 78) (v tgt mism : Nat) (dead : Bool),
    let x := s.chan c
    let serving := s.mode = .service ∨ s.mode = .maintain
    let id := 128 * kind.val + lane.val
    let key := 512 * s.dmc.point + id
    let at_ := laneKey kind lane
    let b := s.rdN Reg.BST_ARG
    let checks (l : List (Bool × Status)) : Status := s.recovering Reg.BST_CMD (firstStatus (s.ownerChecks r ++ l))
    let refused (i : Instr) (st : Status) : Prop := ∃ t, exec i s = .next t ∧ t.answer = ⟨st, []⟩ ∧ t.bst = s.bst ∧ t.fse = s.fse ∧
      t.dmc = s.dmc
    (∀ y, s.cfg.salvage = some y → serving →
      let q := (s.serveChan y.ch).flushMerge y.ch (s.chan y.ch).merge.length
      (∀ ref more, y.left = ref :: more → more ≠ [] → ref < 2 ^ 20 →
        let z := ceilDiv (q.sliceSize ref / 4096) q.resChans.length * 4096
        (1024 * mism ≤ q.sliceSize ref / 64 → q.resChans ≠ [] → (∀ n ∈ q.resChans, z ≤ q.resFree n) → ∃ t,
          exec (.salvageSlice mism false) s = .next t ∧ t.cfg.salvage = some ⟨y.ch, more, y.saved + 1, y.lost⟩ ∧
          t.reserveInUse = true ∧ t.rdN Reg.BST_MIG_SAVED = sat32 (q.rdN Reg.BST_MIG_SAVED) 1 ∧
          Tab.look t.cfg.moved ref = some ⟨ref / 32, q.sliceSize ref,
            q.resChans.map (fun n => ⟨n, Tab.lookD q.cfg.resFill n 0, none⟩), false⟩) ∧
        ((dead = true ∨ q.sliceSize ref / 64 < 1024 * mism) → ∃ t, exec (.salvageSlice mism dead) s = .next t ∧
          t.cfg.salvage = some ⟨y.ch, more, y.saved, y.lost + 1⟩ ∧
          t.rdN Reg.BST_MIG_LOST = sat32 (q.rdN Reg.BST_MIG_LOST) 1 ∧ t.cfg.parcelLost.contains (ref / 32) = true)) ∧
      (y.left.length ≤ 1 → ∃ t, exec (.salvageSlice mism dead) s = .next t ∧ t.cfg.salvage = none)) ∧
    (∀ k l, s.cfg.salvage = none → s.cfg.retQueue = k :: l → serving → ∃ t, exec (.salvageSlice mism dead) s = .next t ∧
      (∀ ref more, s.slicesOf k = ref :: more → more ≠ [] → ∃ y, t.cfg.salvage = some y ∧ y.ch = k ∧ y.left = more ∧
        y.saved + y.lost = 1) ∧
      ((s.slicesOf k).length ≤ 1 → t.cfg.salvage = none)) ∧
    ((¬ serving ∨ (s.cfg.salvage = none ∧ s.cfg.retQueue = [])) → exec (.salvageSlice mism dead) s = .next s) ∧
    (let st := checks [(s.mode != .maintain, .eState), (s.bst.fulltest || s.committing || s.salvaging, .eBusy)];
      (st = .ok → exec (.fulltest r) s = .next ((s.startFulltest false).reply .ok)) ∧ (st ≠ .ok → refused (.fulltest r) st)) ∧
    (let st := checks [(!s.bst.fulltest, .eState)];
      (st = .ok → exec (.abortFulltest r) s = .next ({ s with bst := { s.bst with aborting := true } }.reply .ok)) ∧
      (st ≠ .ok → refused (.abortFulltest r) st)) ∧
    (let st := checks [(s.mode != .maintain, .eState), (s.bst.fulltest || s.committing, .eBusy),
        (decide (122 * s.blankSets.length < s.unfused.length), .eResource)];
      (st = .ok → ∃ t, exec (.fuseCommit r) s = .next t ∧ t.answer = ⟨.ok, []⟩ ∧
        (s.fse.op = none → t.fse = { s.fse with op := some ⟨.repair, setSteps s.blankSets s.unfused⟩ }) ∧
        (s.fse.op ≠ none → t.fse = { s.fse with waiting := s.fse.waiting ++ [⟨.repair, setSteps s.blankSets s.unfused⟩] })) ∧
      (st ≠ .ok → refused (.fuseCommit r) st)) ∧
    (let st := checks [(!(s.mode == .service || s.mode == .maintain), .eState), (!blockInRange b, .eRange),
        (decide (blockKind b ≤ 5) && decide (16 ≤ (s.chan (blockUnit b)).oot.length), .eBusy), (s.blockConflict b, .eConflict)];
      (st = .ok → ∃ t, exec (.legCmd r) s = .next t ∧ t.answer = ⟨.ok, []⟩ ∧ t.bst.running = s.bst.running ∧
        (blockKind b ≤ 5 → (t.chan (blockUnit b)).oot.contains b = true) ∧ (5 < blockKind b → t.bst.baseQueue.contains b = true)) ∧
      (st ≠ .ok → refused (.legCmd r) st)) ∧
    (s.bst.fulltest = true → s.bst.running = [] → (s.bst.aborting = true ∨ s.fullOver = true) → ∃ t,
      exec .fulltestDone s = .next t ∧ t.bst.fulltest = false ∧ t.bst.aborting = false ∧
      t.flag Reg.BST_EVENTS Fld.BST_EVENTS_FULLTEST_DONE = true) ∧
    ((s.bst.fulltest = false ∨ s.bst.running ≠ [] ∨ (s.bst.aborting = false ∧ s.fullOver = false)) →
      exec .fulltestDone s = .next s) ∧
    (s.calRuns c = true →
      (∃ t, exec (.calStep c values) s = .next t ∧ (t.chan c).calPos = (x.calPos + 1) % 23 ∧ (t.chan c).setting = x.setting ∧
        t.rd64 (Reg.CAL_C_STEPS c) = (s.rd64 (Reg.CAL_C_STEPS c) + 1) % 2 ^ 64) ∧
      (∃ t, exec (.calStepForced c values) s = .next t ∧ (t.chan c).calPos = (x.calPos + 1) % 23 ∧
        (t.chan c).setting = x.setting ∧ t.rdN (Reg.CAL_C_FORCED c) = sat32 (s.rdN (Reg.CAL_C_FORCED c)) 1) ∧
      (s.bst.running = [] → calKind x.calPos = kind.val → lane.val ∈ calLanes x.calPos → ∃ t,
        exec (.calStep c [(lane.val, v)]) s = .next t ∧
        (let became : Prop := (t.chan c).bench = Tab.put x.bench key ⟨v, s.now, s.thm.band⟩ ∧
            (Tab.lookD x.setting id 0 ≠ v → Tab.look (t.chan c).target id = some v);
          (Tab.look x.bench key = none → became) ∧
          (∀ old, Tab.look x.bench key = some old →
            let lim := (if kind = 3 then 2 else s.fld Reg.CAL_CFG Fld.CAL_CFG_LIM) * (if old.band = s.thm.band then 1 else 2)
            (absDiff v old.value ≤ lim → became) ∧
            (lim < absDiff v old.value → (t.chan c).bench = x.bench ∧ (t.chan c).target = x.target ∧
              t.rdN (Reg.CAL_C_REJECT c) = sat32 (s.rdN (Reg.CAL_C_REJECT c)) 1 ∧
              (kind ≠ 3 → 2 ≤ Tab.lookD x.rejRun at_ 0 → t.flag Reg.CAL_EVENTS Fld.CAL_EVENTS_REJECT3 = true))))) ∧
      (Tab.look x.target id = some tgt → (∀ q, Tab.look x.lastMove at_ = some q → q + 3125 ≤ s.now) → ∃ t,
        exec (.calTapMove c kind lane) s = .next t ∧ Tab.look (t.chan c).lastMove at_ = some s.now ∧
        Tab.look (t.chan c).setting id = some (let w := Tab.lookD x.setting id 0; if w < tgt then w + 1 else w - 1)) ∧
      ((Tab.look x.target id = none ∨ ∃ q, Tab.look x.lastMove at_ = some q ∧ s.now < q + 3125) →
        exec (.calTapMove c kind lane) s = .next s)) ∧
    (s.calRuns c = false → exec (.calStep c values) s = .next s ∧ exec (.calStepForced c values) s = .next s ∧
      exec (.calTapMove c kind lane) s = .next s)

/-- R345 to R368: what the thermal and power events leave. -/
def Obligations.ThermalEvents : Prop :=
  ∀ (s : State) (m : Thermals) (sensors : List (BitVec 16)) (n : Fin 6) (v : BitVec 16) (r : Req),
    let e := ((s.takeReadings m).takeRails m).exclusion.updateModel m
    let l := sensors.map (fun w => w.toInt)
    let shut (t : State) : Prop := t.mode = .safe ∧ t.sticky 0 = true ∧ t.thm.cool = true ∧ t.thm.trip = true ∧
      t.thm.records.length ≤ 16 ∧ t.thm.records ≠ [] ∧ t.sec.sessions = []
    let stepped (t : State) (l : Nat) : Prop := t.thm.level = l ∧ t.rae.limit = levelPool l ∧ t.qos.change = true ∧
      t.flag Reg.THM_EVENTS Fld.THM_EVENTS_THROTTLE = true ∧ t.mode = s.mode
    let holds (base held : Bool) (at_ clear : Limit) : Bool := e.kindAt base at_ || (held && !e.kindBelow base clear)
    let up := s.thm.rising = true ∧ s.anyAt limThr = true ∧ s.thm.tStep + 625000 ≤ s.now
    let down := s.thm.falling = true ∧ s.allBelow limThrClear = true ∧ s.thm.tStep + 6250000 ≤ s.now
    let tripped (t : State) (src : Nat) : Prop := t.sticky src = true ∧
      (s.mode ≠ .cold → t.mode = .safe ∧ Tab.look t.pwr.dom (14 + n) = some .off) ∧
      (s.mode = .cold → t.mode = .cold ∧ t.pwr = s.pwr)
    (s.mode ≠ .cold → s.thm.cool = false →
      (e.anyAt limShut = false → ∃ t, exec (.thermalMeasurement m) s = .next t ∧ t.mode = s.mode ∧
        t.thm.band = nextBand s.thm.band e.hotEst ∧
        t.thm.warnCore = holds false s.thm.warnCore limWarn limWarnClear ∧
        t.thm.warnBase = holds true s.thm.warnBase limWarn limWarnClear ∧
        t.thm.thrCore = holds false s.thm.thrCore limThr limThrClear ∧
        t.thm.thrBase = holds true s.thm.thrBase limThr limThrClear ∧
        t.thm.level = (if e.anyAt limThr && s.thm.level == 0 then 1 else s.thm.level)) ∧
      (e.anyAt limShut = true → s.thm.hot = false → ∃ t, exec (.thermalMeasurement m) s = .next t ∧ shut t) ∧
      (e.anyAt limShut = true → s.thm.hot = true → exec (.thermalMeasurement m) s = .next e) ∧
      (up → s.thm.level < s.thm.maxlvl → ∃ t, exec .throttleStep s = .next t ∧ stepped t (s.thm.level + 1)) ∧
      (up → s.thm.maxlvl ≤ s.thm.level → exec .throttleStep s = .next { s with thm := { s.thm with tStep := s.now } }) ∧
      (¬ up → down → 0 < s.thm.level → ∃ t, exec .throttleStep s = .next t ∧ stepped t (s.thm.level - 1)) ∧
      (¬ up → down → s.thm.level = 0 → exec .throttleStep s =
        .next { s with thm := { s.thm with falling := false, tStep := s.now } }) ∧
      (¬ up → ¬ down → exec .throttleStep s = .next s)) ∧
    ((s.mode = .cold ∨ s.thm.cool = true) → exec (.thermalMeasurement m) s = .next (s.takeReadings m) ∧
      exec .throttleStep s = .next s) ∧
    (∀ p, s.thm.permit = some p → s.thm.tPermit + 312500000 ≤ s.now → exec .fasterPointTimer s = .next { s with
      dmc := { s.dmc with due := some p }
      thm := { s.thm with permit := if s.targetPoint < p then some s.targetPoint else none, tPermit := s.now } }) ∧
    ((s.thm.permit = none ∨ s.now < s.thm.tPermit + 312500000) → exec .fasterPointTimer s = .next s) ∧
    (s.hotSensors l ≠ [] → s.thm.hot = false → ∃ t, exec (.comparatorScan sensors) s = .next t ∧
      (s.mode ≠ .cold → shut t) ∧
      (s.mode = .cold → t.mode = .cold ∧ t.sticky 0 = true ∧ t.thm.trip = true ∧ t.thm.records.length ≤ 16 ∧ t.thm.records ≠ [])) ∧
    (s.hotSensors l ≠ [] → s.thm.hot = true → exec (.comparatorScan sensors) s = .next s) ∧
    (s.hotSensors l = [] → (s.anyAt limShut = false ∨ s.mode = .cold) →
      exec (.comparatorScan sensors) s = .next { s with thm := { s.thm with hot := false } }) ∧
    (s.hotSensors l = [] → s.anyAt limShut = true → s.mode ≠ .cold → exec (.comparatorScan sensors) s = .next s) ∧
    (railTrip n < v.toNat → ∃ t, exec (.railOc n v) s = .next t ∧ tripped t 1) ∧
    (v.toNat ≤ railTrip n → exec (.railOc n v) s = .next s) ∧
    (100 * v.toNat < 95 * railMv n → ∃ t, exec (.railUv n v) s = .next t ∧ tripped t 2) ∧
    (95 * railMv n ≤ 100 * v.toNat → exec (.railUv n v) s = .next s) ∧
    (90 * railRated n < 100 * v.toNat → ∃ t, exec (.railPeak n v) s = .next t ∧
      t.flag Reg.PWR_EVENTS Fld.PWR_EVENTS_PEAK = true ∧ t.flag (Reg.PWR_R_STAT n) Fld.PWR_R_STAT_WARN90 = true ∧
      t = { s with regs := t.regs }) ∧
    (100 * v.toNat ≤ 90 * railRated n → exec (.railPeak n v) s = .next s) ∧
    (let st := s.recovering Reg.PWR_CMD (firstStatus (s.ownerChecks r));
      (st = .ok → ∃ t, exec (.clearPeak r) s = .next t ∧ t.answer = ⟨.ok, []⟩ ∧
        (∀ k < 6, t.rdN (Reg.PWR_R_IPEAK k) = 0 ∧ t.flag (Reg.PWR_R_STAT k) Fld.PWR_R_STAT_WARN90 = false)) ∧
      (st ≠ .ok → ∃ t, exec (.clearPeak r) s = .next t ∧ t.answer = ⟨st, []⟩ ∧
        (∀ k < 6, t.rdN (Reg.PWR_R_IPEAK k) = s.rdN (Reg.PWR_R_IPEAK k) ∧ t.rdN (Reg.PWR_R_STAT k) = s.rdN (Reg.PWR_R_STAT k))))

/-- R371 to R387: the ledger, the fault commands and the availability counts. -/
def Obligations.FaultsAndAvailability : Prop :=
  ∀ (s : State) (bad : BitVec 32) (any : Option (BitVec 32)) (r : Req) (i : Fin 4) (v : Word),
    let refused (c : Instr) (st : Status) : Prop := ∃ t, exec c s = .next t ∧ t.answer = ⟨st, []⟩ ∧ t.flt = s.flt ∧
      t.mode = s.mode ∧ ∀ k < 4, t.rd (Reg.FLT_STICKY k) = s.rd (Reg.FLT_STICKY k)
    (∀ e, nextCopy s.flt.toCopy = some e →
      e ∈ s.flt.toCopy ∧ (e.sev = 3 ∨ ((∀ x ∈ s.flt.toCopy, x.sev ≠ 3) ∧ s.flt.toCopy.head? = some e)) ∧
      (s.copyAdmitted e = true → ∃ t, exec (.ledgerCopy none) s = .next t ∧ t.flt.pseq = s.flt.pseq + 1 ∧
        t.flt.ledger.getLast? = some { e with pseq := some s.flt.pseq } ∧ t.flt.ledger.length ≤ max 4096 s.flt.ledger.length ∧
        (∀ x ∈ t.flt.toCopy, x.hseq ≠ e.hseq)) ∧
      (s.copyAdmitted e = true → ∃ t, exec (.ledgerCopy (some bad)) s = .next t ∧ t.flt.ledger = s.flt.ledger ∧
        (s.mode ≠ .cold → t.sticky 20 = true)) ∧
      (s.copyAdmitted e = false → ∃ t, exec (.ledgerCopy any) s = .next t ∧ t.flt.ledger = s.flt.ledger ∧
        t.flt.ledLost = sat32 s.flt.ledLost 1)) ∧
    (s.flt.toCopy = [] → exec (.ledgerCopy any) s = .next s) ∧
    (let st := s.recovering Reg.FLT_CMD (firstStatus [((s.role r).isNone, .eAuth), (s.role r == some .enrolment, .ePriv)]);
      (st = .ok → exec (.ackAlertn r) s = .next ({ s with flt := { s.flt with alertN := false } }.reply .ok)) ∧
      (st ≠ .ok → refused (.ackAlertn r) st)) ∧
    (let st := s.recovering Reg.FLT_CMD (firstStatus (s.hostChecks r));
      (st = .ok → ∃ t, exec (.clearAll r) s = .next t ∧ t.answer = ⟨.ok, []⟩ ∧
        (∀ n < 128, t.sticky n = false) ∧ (∀ a, (∀ k < 4, a ≠ Reg.FLT_STICKY k) → t.rd a = s.rd a)) ∧
      (st ≠ .ok → refused (.clearAll r) st)) ∧
    (let st := s.recovering (Reg.FLT_FORCE i) (forceStatus r i v s);
      (st = .ok → ∃ t, exec (.fltForce r i v) s = .next t ∧ t.answer = ⟨.ok, []⟩ ∧
        (s.mode ≠ .cold → ∀ n ∈ forceList i v, t.sticky n = true) ∧
        ((∀ n ∈ forceList i v, faultSev n ≠ some 3) → t.mode = s.mode) ∧
        ((∃ n ∈ forceList i v, faultSev n = some 3) → t.mode = .safe)) ∧
      (st ≠ .ok → refused (.fltForce r i v) st)) ∧
    (s.aon.pwrgood = true → ∃ t, exec .availMsTick s = .next t ∧
      t.avail.unsched = s.avail.unsched + b2n s.unscheduled ∧ t.avail.avail = s.avail.avail + (1 - b2n s.unscheduled) ∧
      t.avail.buckets = countMs s.avail.buckets (b2n s.unscheduled) 1 ∧ t.mode = s.mode) ∧
    (s.aon.pwrgood = false → exec .availMsTick s = .next s) ∧
    (∃ t, exec (.availSlotWrite none) s = .next t ∧ t = { s with avail := t.avail } ∧
      ∃ x, Tab.look t.avail.slots (s.avail.slotSeq % 32) = some x ∧ x.unsched = s.avail.unsched ∧ x.avail = s.avail.avail ∧
        x.loads = s.avail.loads ∧ x.safes = s.avail.safes ∧ x.mode = s.mode.code ∧ x.counts = s.unscheduled ∧
        x.seq = s.avail.slotSeq ∧ x.trial = s.upd.trialMs ∧ x.crc = x.crcOf) ∧
    (∃ t, exec (.availSlotWrite (some bad)) s = .next t ∧ Tab.look t.avail.slots (s.avail.slotSeq % 32) = none ∧
      (s.mode ≠ .cold → t.sticky 20 = true)) ∧
    (604800000 ≤ (s.avail.buckets.headD (0, 0)).2 → ∃ t, exec .availBucketRoll s = .next t ∧
      t.avail.buckets = (0, 0) :: s.avail.buckets.take 51 ∧ t.avail.unsched = s.avail.unsched) ∧
    ((s.avail.buckets.headD (0, 0)).2 < 604800000 → exec .availBucketRoll s = .next s)

/-- R388 to R396: selections, wraps, samples and dumps. -/
def Obligations.CounterEvents : Prop :=
  ∀ (s : State) (r : Req) (n : Fin 128) (v : Word) (inc : BitVec 48) (k : Fin 16),
    let sel := s.rd (Reg.PMC_SEL n)
    let due := Tab.lookD s.pmc.due n []
    let sum := s.rd64 (Reg.PMC_CNT n) + inc.toNat
    let wraps := s.flag (Reg.PMC_SEL n) Fld.PMC_SEL_EN = true ∧ 2 ^ 48 ≤ sum
    let lost (t : State) : Prop := t.pmc.samples = s.pmc.samples ∧ t.pmc.smpLost = sat32 s.pmc.smpLost 1 ∧
      t.flag Reg.PMC_EVENTS Fld.PMC_EVENTS_SMP_LOST = true ∧ Tab.look t.pmc.due n = none
    let dumps := s.mode = .service ∧ s.fld Reg.PMC_CFG Fld.PMC_CFG_PERIOD ≠ 0 ∧ s.dmpPart.isSome = true
    (let st := s.recovering (Reg.PMC_SEL n) (pmcSelStatus r n v s);
      (st = .ok → ∃ t, exec (.pmcSelWrite r n v) s = .next t ∧ t.answer = ⟨.ok, []⟩ ∧ t.rd (Reg.PMC_SEL n) = v &&& selMask ∧
        (sel &&& 0x3FFFFFFF = v &&& selMask &&& 0x3FFFFFFF → t.rd64 (Reg.PMC_CNT n) = s.rd64 (Reg.PMC_CNT n)) ∧
        (sel &&& 0x3FFFFFFF ≠ v &&& selMask &&& 0x3FFFFFFF → t.rd64 (Reg.PMC_CNT n) = 0 ∧
          bitOf (t.rdN (Reg.PMC_OVF (n / 32))) (n % 32) = false)) ∧
      (st ≠ .ok → ∃ t, exec (.pmcSelWrite r n v) s = .next t ∧ t.answer = ⟨st, []⟩ ∧ t.rd (Reg.PMC_SEL n) = sel)) ∧
    (wraps → ∃ t, exec (.counterWrap n inc) s = .next t ∧ t.rd64 (Reg.PMC_CNT n) = sum % 2 ^ 48 ∧
      bitOf (t.rdN (Reg.PMC_OVF (n / 32))) (n % 32) = true ∧ t.flag Reg.PMC_EVENTS Fld.PMC_EVENTS_OVF = true) ∧
    (¬ wraps → exec (.counterWrap n inc) s = .next s) ∧
    (∀ x, due[k.val]? = some x →
      (s.pmc.samples.length < 512 → ∃ t, exec (.pmcSample n (some k)) s = .next t ∧ t.pmc.samples = s.pmc.samples ++
        [⟨n, k, x.b, x.gtime, x.a, x.value, s.counterScope n⟩] ∧ Tab.look t.pmc.due n = none) ∧
      (512 ≤ s.pmc.samples.length → ∃ t, exec (.pmcSample n (some k)) s = .next t ∧ lost t)) ∧
    (due.length ≤ k.val → exec (.pmcSample n (some k)) s = .next s) ∧
    (due.length = 16 → ∃ t, exec (.pmcSample n none) s = .next t ∧ lost t) ∧
    (due.length ≠ 16 → exec (.pmcSample n none) s = .next s) ∧
    (∀ p, dumps → s.dmpPart = some p → s.dumping = false → ∃ t, exec .counterDump s = .next t ∧
      t.pmc.dseq = s.pmc.dseq + 1 ∧ t.pmc.samples = [] ∧
      (s.pmc.wptr + 1024 * s.dumpRecords.length < p.2.size → t.pmc.wptr = s.pmc.wptr + 1024 * s.dumpRecords.length)) ∧
    (dumps → s.dumping = true → ∃ t, exec .counterDump s = .next t ∧ t.pmc.skipped = sat32 s.pmc.skipped 1 ∧
      t.pmc.dseq = s.pmc.dseq ∧ t.flag Reg.PMC_EVENTS Fld.PMC_EVENTS_DMP_SKIP = true) ∧
    (¬ dumps → exec .counterDump s = .next s)

/-- R457 to R484: what the commands of UPD leave. -/
def Obligations.UpdateCommands : Prop :=
  ∀ (s : State) (r : Req) (ok : Bool),
    let open_ := s.mode = .service ∨ s.mode = .maintain
    let saves := s.mode = .service ∨ (s.mode = .maintain ∧ s.upd.setReset = true)
    let w := s.window
    let checks (l : List (Bool × Status)) : Status := firstStatus (s.updChecks r ++ l)
    let refused (c : Instr) (st : Status) : Prop := ∃ t, exec c s = .next t ∧ t.answer = ⟨st, []⟩ ∧ t.upd = s.upd ∧ t.trans = s.trans
    let done (t : State) : Prop := t.answer = ⟨.ok, []⟩ ∧ t.upd.last = .ok ∧ t.flag Reg.UPD_EVENTS Fld.UPD_EVENTS_DONE = true
    (beginStatus r ok s = .ok → s.sameChunk0 w = false → ∃ t, exec (.updBegin r ok) s = .next t ∧ done t ∧
      t.upd.stage = .receiving ∧ t.upd.type = pkgType w ∧ t.upd.next = 1 ∧ t.upd.total = leAt w 10 2 ∧ t.page s.chunk0Page = w) ∧
    (beginStatus r ok s = .ok → s.sameChunk0 w = true → ∃ t, exec (.updBegin r ok) s = .next t ∧ done t ∧
      t.upd = { s.upd with last := .ok }) ∧
    (chunkStatus r ok s = .ok → ∃ t, exec (.updChunk r ok) s = .next t ∧ done t ∧ t.upd.next = s.upd.next + 1 ∧
      t.page (s.targetBase + s.chunkPlace) = w ∧ t.upd.stage = (if s.upd.next + 1 = s.upd.total then .staged else .receiving)) ∧
    (checks [(s.upd.stage != .staged, .eState)] = .ok → ∃ t, exec (.updVerify r) s = .next t ∧ t.answer = ⟨.ok, []⟩ ∧
      t.upd = { s.upd with stage := .verifying }) ∧
    (s.upd.stage = .verifying → open_ → ∃ t, exec (.verifyDone ok) s = .next t ∧
      t.upd.last = (if ok then s.verify.2 else .eIntegrity) ∧
      t.upd.stage = (if ok = true ∧ s.verify.2 = .ok then .verified else .failed) ∧
      t.flag Reg.UPD_EVENTS Fld.UPD_EVENTS_DONE = true) ∧
    ((s.upd.stage ≠ .verifying ∨ ¬ open_) → exec (.verifyDone ok) s = .next s) ∧
    (activateStatus r ok s = .ok → ∃ t, exec (.activate r ok) s = .next t ∧ t.answer = ⟨.ok, []⟩ ∧ t.mode = s.mode ∧
      t.upd.cur = s.upd.cur + 1 ∧
      (s.patchDue = none → t.upd.stage = .activating ∧ t.trans = some .load) ∧
      (∀ n, s.patchDue.bind s.patchRegion = some n → t.upd.stage = s.upd.stage ∧ t.trans = s.trans ∧
        (s.fse.op = none → t.fse.op = some ⟨.patch, s.patchSteps n⟩) ∧
        (s.fse.op ≠ none → t.fse.waiting = s.fse.waiting ++ [⟨.patch, s.patchSteps n⟩]))) ∧
    (checks [(!s.onTrial, .eState), (s.updBusy, .eBusy)] = .ok → ∃ t, exec (.confirm r) s = .next t ∧ done t ∧ t.onTrial = false ∧
      t.actSlot = s.actSlot ∧ t.confSlot = s.actSlot ∧ t.upd.kept = 0 ∧
      (∀ i < 4, s.upd.floors.getD i 0 ≤ t.upd.floors.getD i 0 ∧ s.upd.svns.getD i 0 ≤ t.upd.floors.getD i 0)) ∧
    (checks [(!s.onTrial, .eState), (s.updBusy || s.trans.isSome || s.inTransit, .eBusy)] = .ok → ∃ t,
      exec (.rollback r) s = .next t ∧ done t ∧ t.onTrial = false ∧ t.actSlot = s.confSlot ∧ t.upd.stage = .idle ∧
      t.trans = some .load ∧ t.upd.back = some 0) ∧
    (checks [(s.updBusy, .eState)] = .ok → ∃ t, exec (.updAbort r) s = .next t ∧ done t ∧ t.upd.stage = .idle ∧ t.upd.next = 0 ∧
      t.trans = s.trans) ∧
    (∀ st, st ≠ .ok →
      (beginStatus r ok s = st → refused (.updBegin r ok) st) ∧ (chunkStatus r ok s = st → refused (.updChunk r ok) st) ∧
      (checks [(s.upd.stage != .staged, .eState)] = st → refused (.updVerify r) st) ∧
      (activateStatus r ok s = st → refused (.activate r ok) st) ∧
      (checks [(!s.onTrial, .eState), (s.updBusy, .eBusy)] = st → refused (.confirm r) st) ∧
      (checks [(!s.onTrial, .eState), (s.updBusy || s.trans.isSome || s.inTransit, .eBusy)] = st → refused (.rollback r) st) ∧
      (checks [(s.updBusy, .eState)] = st → refused (.updAbort r) st)) ∧
    (s.onTrial = true → 86400000 ≤ s.upd.trialMs → s.upd.trialAt < s.now → s.trans = none → open_ → ∃ t, exec .trialExpire s = .next t ∧
      t.onTrial = false ∧ t.actSlot = s.confSlot ∧ t.upd.stage = .idle ∧ t.trans = some .load ∧ t.upd.back = some 4 ∧ t.sticky 47 = true) ∧
    ((s.onTrial = false ∨ s.upd.trialMs < 86400000 ∨ s.now ≤ s.upd.trialAt ∨ s.trans ≠ none ∨ ¬ open_) → exec .trialExpire s = .next s) ∧
    (saves → ∃ t, exec (.settingsSave ok) s = .next t ∧ t = { s with upd := t.upd, fresh := t.fresh, flt := t.flt } ∧
      t.upd.cur = (if ok then s.upd.cur + 1 else s.upd.cur) ∧
      (ok = true → settingsGen (t.setSlot s.settingsSlot) = (s.upd.cur + 1) % 2 ^ 32) ∧
      (∀ p, (p < setBase s.settingsSlot ∨ setBase s.settingsSlot + 16 ≤ p) → t.page p = s.page p)) ∧
    (¬ saves → exec (.settingsSave ok) s = .next s)
end

