-- ==== Sys2Proof/Laws/KeptEdge.lean ====
section
/-! SUPPORT. Sys2Proof/Laws/KeptEdge.lean: the operations that keep the queue, GTIME, the watched pins, the test port and the I3C port. -/
namespace Sys2Proof.Machine

@[simp] theorem foldl_pending {α : Type} (f : State → α → State) (l : List α) (s : State) (h : ∀ t x, (f t x).pending = t.pending) :
    (l.foldl f s).pending = s.pending := by
  induction l generalizing s with
  | nil => rfl
  | cons x r ih => simp [List.foldl, ih, h]

@[simp] theorem ite_pending (p : Prop) [Decidable p] (s t : State) : (if p then s else t).pending = if p then s.pending else t.pending := by
  split <;> rfl

@[simp] theorem foldl_gtime {α : Type} (f : State → α → State) (l : List α) (s : State) (h : ∀ t x, (f t x).gtime = t.gtime) :
    (l.foldl f s).gtime = s.gtime := by
  induction l generalizing s with
  | nil => rfl
  | cons x r ih => simp [List.foldl, ih, h]

@[simp] theorem ite_gtime (p : Prop) [Decidable p] (s t : State) : (if p then s else t).gtime = if p then s.gtime else t.gtime := by
  split <;> rfl

@[simp] theorem foldl_aon {α : Type} (f : State → α → State) (l : List α) (s : State) (h : ∀ t x, (f t x).aon = t.aon) :
    (l.foldl f s).aon = s.aon := by
  induction l generalizing s with
  | nil => rfl
  | cons x r ih => simp [List.foldl, ih, h]

@[simp] theorem ite_aon (p : Prop) [Decidable p] (s t : State) : (if p then s else t).aon = if p then s.aon else t.aon := by
  split <;> rfl

@[simp] theorem foldl_tap {α : Type} (f : State → α → State) (l : List α) (s : State) (h : ∀ t x, (f t x).tap = t.tap) :
    (l.foldl f s).tap = s.tap := by
  induction l generalizing s with
  | nil => rfl
  | cons x r ih => simp [List.foldl, ih, h]

@[simp] theorem ite_tap (p : Prop) [Decidable p] (s t : State) : (if p then s else t).tap = if p then s.tap else t.tap := by
  split <;> rfl

@[simp] theorem foldl_i3c_da {α : Type} (f : State → α → State) (l : List α) (s : State) (h : ∀ t x, (f t x).i3c.da = t.i3c.da) :
    (l.foldl f s).i3c.da = s.i3c.da := by
  induction l generalizing s with
  | nil => rfl
  | cons x r ih => simp [List.foldl, ih, h]

@[simp] theorem ite_i3c_da (p : Prop) [Decidable p] (s t : State) : (if p then s else t).i3c.da = if p then s.i3c.da else t.i3c.da := by
  split <;> rfl

@[simp] theorem foldl_i3c_badFrame {α : Type} (f : State → α → State) (l : List α) (s : State) (h : ∀ t x, (f t x).i3c.badFrame = t.i3c.badFrame) :
    (l.foldl f s).i3c.badFrame = s.i3c.badFrame := by
  induction l generalizing s with
  | nil => rfl
  | cons x r ih => simp [List.foldl, ih, h]

@[simp] theorem ite_i3c_badFrame (p : Prop) [Decidable p] (s t : State) : (if p then s else t).i3c.badFrame = if p then s.i3c.badFrame else t.i3c.badFrame := by
  split <;> rfl

@[simp] theorem foldl_i3c_dropped {α : Type} (f : State → α → State) (l : List α) (s : State) (h : ∀ t x, (f t x).i3c.dropped = t.i3c.dropped) :
    (l.foldl f s).i3c.dropped = s.i3c.dropped := by
  induction l generalizing s with
  | nil => rfl
  | cons x r ih => simp [List.foldl, ih, h]

@[simp] theorem ite_i3c_dropped (p : Prop) [Decidable p] (s t : State) : (if p then s else t).i3c.dropped = if p then s.i3c.dropped else t.i3c.dropped := by
  split <;> rfl

/-- A fold of steps that keep them keeps them. -/
theorem foldl_edge {α : Type} (f : State → α → State) (l : List α) (s : State) (h : ∀ t x, KeptEdge t (f t x)) :
    KeptEdge s (l.foldl f s) := by
  induction l generalizing s with
  | nil => simp
  | cons x r ih =>
    have h1 := h s x
    have h2 := ih (f s x)
    simp only [List.foldl]
    simp_all

/-- What two operations keep, the one after the other keeps. -/
theorem KeptEdge_trans {s t u : State} (h : KeptEdge s t) (k : KeptEdge t u) : KeptEdge s u := by
  simp_all

@[simp] theorem State.wr_edge (s : State) (a : Nat) (v : Word) : KeptEdge s (State.wr s a v) := by
  simp [State.wr]

@[simp] theorem State.wrN_edge (s : State) (a : Nat) (n : Nat) : KeptEdge s (State.wrN s a n) := by
  simp [State.wrN]

@[simp] theorem State.wr64_edge (s : State) (a : Nat) (n : Nat) : KeptEdge s (State.wr64 s a n) := by
  simp [State.wr64]

@[simp] theorem State.setFld_edge (s : State) (a : Nat) (f : Fld) (n : Nat) : KeptEdge s (State.setFld s a f n) := by
  simp [State.setFld]

@[simp] theorem State.setBits_edge (s : State) (a : Nat) (m : Word) : KeptEdge s (State.setBits s a m) := by
  simp [State.setBits]

@[simp] theorem State.event_edge (s : State) (a : Nat) (f : Fld) : KeptEdge s (State.event s a f) := by
  simp [State.event]

@[simp] theorem State.satInc_edge (s : State) (a : Nat) (n : optParam Nat 1) : KeptEdge s (State.satInc s a n) := by
  simp [State.satInc]

@[simp] theorem State.inc64_edge (s : State) (a : Nat) (n : optParam Nat 1) : KeptEdge s (State.inc64 s a n) := by
  simp [State.inc64]

@[simp] theorem State.setVxu_edge (s : State) (u : Nat) (x : VxuUnit) : KeptEdge s (State.setVxu s u x) := by
  simp [State.setVxu]

@[simp] theorem State.setLane_edge (s : State) (l : Nat) (x : Lane) : KeptEdge s (State.setLane s l x) := by
  simp [State.setLane]

@[simp] theorem State.setChainL_edge (s : State) (k : Nat) (x : ChainLnk) : KeptEdge s (State.setChainL s k x) := by
  simp [State.setChainL]

@[simp] theorem State.setChainP_edge (s : State) (k : Nat) (x : ChainPkt) : KeptEdge s (State.setChainP s k x) := by
  simp [State.setChainP]

@[simp] theorem State.emit_edge (s : State) (e : Emission) : KeptEdge s (State.emit s e) := by
  simp [State.emit]

@[simp] theorem State.reply_edge (s : State) (st : Status) (data : optParam (List Byte) []) : KeptEdge s (State.reply s st data) := by
  simp [State.reply]

@[simp] theorem State.draw_edge (s : State) : KeptEdge s (State.draw s) := by
  simp [State.draw]

@[simp] theorem State.drawn_edge (s : State) (n : Nat) : KeptEdge s (State.drawn s n) := by
  simp [State.drawn]

@[simp] theorem State.queueAlert_edge (s : State) (k : Nat) (al : Alert) : KeptEdge s (State.queueAlert s k al) := by
  simp [State.queueAlert]

@[simp] theorem State.driveAlertN_edge (s : State) (code : Nat) : KeptEdge s (State.driveAlertN s code) := by
  simp [State.driveAlertN]

@[simp] theorem State.alert_edge (s : State) (code : Nat) (chain : Nat) (p0 : Nat) (p1 : Nat) (p2 : Nat) (p3 : Nat) : KeptEdge s (State.alert s code chain p0 p1 p2 p3) := by
  simp [State.alert]

@[simp] theorem State.setSticky_edge (s : State) (src : Nat) : KeptEdge s (State.setSticky s src) := by
  simp [State.setSticky]

@[simp] theorem State.formEntry_edge (s : State) (src : Nat) (sev : Nat) (a : Nat) (b : Nat) (gt : Nat) (forced : Bool) (cold : Bool) : KeptEdge s (State.formEntry s src sev a b gt forced cold) := by
  simp [State.formEntry]

@[simp] theorem State.detect_edge (s : State) (src : Nat) (a : Nat) (b : Nat) (forced : optParam Bool false) : KeptEdge s (State.detect s src a b forced) := by
  unfold State.detect; (try dsimp only); (repeat' split) <;> (try simp)

@[simp] theorem State.ledgerWrote_edge (s : State) (l : List LedgerWord) : KeptEdge s (State.ledgerWrote s l) := by
  first
  | (simp [State.ledgerWrote]; done)
  | (unfold State.ledgerWrote; (try dsimp only); (repeat' split) <;> (try simp); done)
  | (unfold State.ledgerWrote; (try dsimp only); (repeat' split) <;> (try simp [*]); done)

@[simp] theorem State.checkWord_edge (s : State) (w : LedgerWord) : KeptEdge s (State.checkWord s w) := by
  first
  | (simp [State.checkWord]; done)
  | (unfold State.checkWord; (try dsimp only); (repeat' split) <;> (try simp); done)
  | (unfold State.checkWord; (try dsimp only); (repeat' split) <;> (try simp [*]); done)

@[simp] theorem State.checkLedger_edge (s : State) : KeptEdge s (State.checkLedger s) := by
  first
  | (simp [State.checkLedger]; done)
  | (unfold State.checkLedger; (try dsimp only); (repeat' split) <;> (try simp); done)
  | (unfold State.checkLedger; (try dsimp only); (repeat' split) <;> (try simp [*]); done)

@[simp] theorem State.sampleCount_edge (s : State) (n : Nat) (inc : Nat) (x : SampleCtx) : KeptEdge s (State.sampleCount s n inc x) := by
  first
  | (simp [State.sampleCount]; done)
  | (unfold State.sampleCount; (try dsimp only); (repeat' split) <;> (try simp); done)
  | (unfold State.sampleCount; (try dsimp only); (repeat' split) <;> (try simp [*]); done)

@[simp] theorem State.pmcAdd_edge (s : State) (n : Nat) (inc : Nat) (a : Nat) (b : Nat) : KeptEdge s (State.pmcAdd s n inc a b) := by
  simp [State.pmcAdd]

@[simp] theorem State.count_edge (s : State) (ev : Nat) (inc : Nat) (filter : Nat) (part : optParam (Option Nat) none) (a : optParam Nat 0) (b : optParam Nat 0) (off : optParam Nat a) : KeptEdge s (State.count s ev inc filter part a b off) := by
  simp [State.count]

@[simp] theorem State.countRefusal_edge (s : State) (st : Status) (addr : optParam Nat 0) : KeptEdge s (State.countRefusal s st addr) := by
  unfold State.countRefusal; (try dsimp only); (repeat' split) <;> (try simp)

@[simp] theorem State.reject_edge (s : State) (r : Req) (addr : Nat) (write : Bool) (size : Nat) (st : Status) : KeptEdge s (State.reject s r addr write size st) := by
  simp [State.reject]

@[simp] theorem State.hostWrite_edge (s : State) (r : Req) (addr : Nat) (st : Status) (effect : State → State) (heffect : ∀ (t0 : State), KeptEdge t0 (effect t0)) : KeptEdge s (State.hostWrite s r addr st effect) := by
  simp [State.hostWrite, heffect]

@[simp] theorem State.setChan_edge (s : State) (c : Nat) (x : Chan) : KeptEdge s (State.setChan s c x) := by
  simp [State.setChan]

@[simp] theorem State.setEngine_edge (s : State) (e : Nat) (x : Engine) : KeptEdge s (State.setEngine s e x) := by
  simp [State.setEngine]

@[simp] theorem State.capUpdate_edge (s : State) : KeptEdge s (State.capUpdate s) := by
  simp [State.capUpdate]

@[simp] theorem State.capacityChange_edge (s : State) : KeptEdge s (State.capacityChange s) := by
  simp [State.capacityChange]

@[simp] theorem State.stray_edge (s : State) (n : Nat) (conforming : Bool) : KeptEdge s (State.stray s n conforming) := by
  first
  | (simp [State.stray]; done)
  | (unfold State.stray; (try dsimp only); (repeat' split) <;> (try simp); done)
  | (unfold State.stray; (try dsimp only); (repeat' split) <;> (try simp [*]); done)

@[simp] theorem State.charge_edge (s : State) (n : Nat) (bytes : Nat) : KeptEdge s (State.charge s n bytes).1 := by
  unfold State.charge; (try dsimp only); (repeat' split) <;> (try simp)

@[simp] theorem State.served_edge (s : State) (n : Nat) (bytes : Nat) (conforming : Bool) (label : optParam (Option Nat) none) : KeptEdge s (State.served s n bytes conforming label) := by
  simp [State.served]

@[simp] theorem State.latServed_edge (s : State) (n : Nat) (age : Nat) : KeptEdge s (State.latServed s n age) := by
  first
  | (simp [State.latServed]; done)
  | (unfold State.latServed; (try dsimp only); (repeat' split) <;> (try simp); done)
  | (unfold State.latServed; (try dsimp only); (repeat' split) <;> (try simp [*]); done)

@[simp] theorem State.countMiss_edge (s : State) (n : Nat) : KeptEdge s (State.countMiss s n) := by
  first
  | (simp [State.countMiss]; done)
  | (unfold State.countMiss; (try dsimp only); (repeat' split) <;> (try simp); done)
  | (unfold State.countMiss; (try dsimp only); (repeat' split) <;> (try simp [*]); done)

@[simp] theorem State.miss_edge (s : State) (n : Nat) (reason : Nat) : KeptEdge s (State.miss s n reason) := by
  simp [State.miss]

@[simp] theorem State.guaranteeMiss_edge (s : State) (n : Nat) (reason : Nat) : KeptEdge s (State.guaranteeMiss s n reason) := by
  first
  | (simp [State.guaranteeMiss]; done)
  | (unfold State.guaranteeMiss; (try dsimp only); (repeat' split) <;> (try simp); done)
  | (unfold State.guaranteeMiss; (try dsimp only); (repeat' split) <;> (try simp [*]); done)

@[simp] theorem State.store_edge (s : State) (k : Nat) (d : BitVec 512) (e : SymErr) : KeptEdge s (State.store s k d e) := by
  simp [State.store]

@[simp] theorem State.countRefresh_edge (s : State) (c : Nat) (k : DramCmd) : KeptEdge s (State.countRefresh s c k) := by
  first
  | (simp [State.countRefresh]; done)
  | (unfold State.countRefresh; (try dsimp only); (repeat' split) <;> (try simp); done)
  | (unfold State.countRefresh; (try dsimp only); (repeat' split) <;> (try simp [*]); done)

@[simp] theorem State.command_edge (s : State) (c : Nat) (k : DramCmd) : KeptEdge s (State.command s c k) := by
  first
  | (simp [State.command]; done)
  | (unfold State.command; (try dsimp only); (repeat' split) <;> (try simp); done)
  | (unfold State.command; (try dsimp only); (repeat' split) <;> (try simp [*]); done)

@[simp] theorem State.openRow_edge (s : State) (c : Nat) (a : Nat) : KeptEdge s (State.openRow s c a) := by
  first
  | (simp [State.openRow]; done)
  | (unfold State.openRow; (try dsimp only); (repeat' split) <;> (try simp); done)
  | (unfold State.openRow; (try dsimp only); (repeat' split) <;> (try simp [*]); done)

@[simp] theorem State.column_edge (s : State) (c : Nat) (k : DramCmd) : KeptEdge s (State.column s c k) := by
  simp [State.column]

@[simp] theorem State.countCw_edge (s : State) (ev : Nat) (c : Nat) (a : Nat) (part : Option (Nat × Nat)) (inPart : Bool) : KeptEdge s (State.countCw s ev c a part inPart) := by
  first
  | (simp [State.countCw]; done)
  | (unfold State.countCw; (try dsimp only); (repeat' split) <;> (try simp); done)
  | (unfold State.countCw; (try dsimp only); (repeat' split) <;> (try simp [*]); done)

@[simp] theorem State.queueLeg_edge (s : State) (c : Nat) (block : Nat) : KeptEdge s (State.queueLeg s c block) := by
  simp [State.queueLeg]

@[simp] theorem State.holdChannel_edge (s : State) (c : Nat) : KeptEdge s (State.holdChannel s c) := by
  simp [State.holdChannel]

@[simp] theorem State.countMismatch_edge (s : State) (c : Nat) (persistent : Bool) : KeptEdge s (State.countMismatch s c persistent) := by
  simp [State.countMismatch]

@[simp] theorem State.latchEcc_edge (s : State) (c : Nat) (a : Nat) (cls : EccClass) (located : SymErr) (src : Nat) : KeptEdge s (State.latchEcc s c a cls located src) := by
  simp [State.latchEcc]

@[simp] theorem State.candidate_edge (s : State) (c : Nat) (a : Nat) : KeptEdge s (State.candidate s c a) := by
  simp [State.candidate]

@[simp] theorem State.countHot_edge (s : State) (c : Nat) (located : SymErr) : KeptEdge s (State.countHot s c located) := by
  first
  | (simp [State.countHot]; done)
  | (unfold State.countHot; (try dsimp only); (repeat' split) <;> (try simp); done)
  | (unfold State.countHot; (try dsimp only); (repeat' split) <;> (try simp [*]); done)

@[simp] theorem State.reportEcc_edge (s : State) (c : Nat) (a : Nat) (cls : EccClass) (located : SymErr) (src : Nat) (part : Option (Nat × Nat)) : KeptEdge s (State.reportEcc s c a cls located src part) := by
  unfold State.reportEcc; (try dsimp only); (repeat' split) <;> (try simp)

@[simp] theorem State.transientMismatch_edge (s : State) (c : Nat) (a : Nat) (located : SymErr) (src : Nat) : KeptEdge s (State.transientMismatch s c a located src) := by
  simp [State.transientMismatch]

@[simp] theorem State.keepSent_edge (s : State) (c : Nat) (a : Nat) (d : BitVec 512) (e : SymErr) : KeptEdge s (State.keepSent s c a d e) := by
  first
  | (simp [State.keepSent]; done)
  | (unfold State.keepSent; (try dsimp only); (repeat' split) <;> (try simp); done)
  | (unfold State.keepSent; (try dsimp only); (repeat' split) <;> (try simp [*]); done)

@[simp] theorem State.storeCmd_edge (s : State) (c : Nat) (a : Nat) (d : BitVec 512) (e : SymErr) : KeptEdge s (State.storeCmd s c a d e) := by
  first
  | (simp [State.storeCmd]; done)
  | (unfold State.storeCmd; (try dsimp only); (repeat' split) <;> (try simp); done)
  | (unfold State.storeCmd; (try dsimp only); (repeat' split) <;> (try simp [*]); done)

@[simp] theorem State.poisonWrite_edge (s : State) (c : Nat) (a : Nat) : KeptEdge s (State.poisonWrite s c a) := by
  simp [State.poisonWrite]

@[simp] theorem State.issueWrite_edge (s : State) (c : Nat) (a : Nat) (d : BitVec 512) (part : Option (Nat × Nat)) : KeptEdge s (State.issueWrite s c a d part) := by
  simp [State.issueWrite]

@[simp] theorem State.addWb_edge (s : State) (c : Nat) (a : Nat) : KeptEdge s (State.addWb s c a) := by
  first
  | (simp [State.addWb]; done)
  | (unfold State.addWb; (try dsimp only); (repeat' split) <;> (try simp); done)
  | (unfold State.addWb; (try dsimp only); (repeat' split) <;> (try simp [*]); done)

@[simp] theorem State.arrayRead_edge (s : State) (c : Nat) (a : Nat) (errs : ReadErrs) (src0 : Nat) (part : Option (Nat × Nat)) : KeptEdge s (State.arrayRead s c a errs src0 part).st := by
  unfold State.arrayRead; (try dsimp only); (repeat' split) <;> (try simp)

@[simp] theorem State.freeMerge_edge (s : State) (c : Nat) (a : Nat) : KeptEdge s (State.freeMerge s c a) := by
  simp [State.freeMerge]

@[simp] theorem State.rmw_edge (s : State) (c : Nat) (e : MergeEntry) (errs : ReadErrs) (part0 : Option (Nat × Nat)) : KeptEdge s (State.rmw s c e errs part0).st := by
  unfold State.rmw; (try dsimp only); (repeat' split) <;> (try simp)

@[simp] theorem State.drainMerge_edge (s : State) (c : Nat) (y2 : Nat) : KeptEdge s (State.drainMerge s c y2) := by
  induction y2 generalizing s c <;> unfold State.drainMerge <;> (try dsimp only) <;> (repeat' split) <;> (try simp [*])

@[simp] theorem State.flushMerge_edge (s : State) (c : Nat) (y2 : Nat) : KeptEdge s (State.flushMerge s c y2) := by
  induction y2 generalizing s c <;> unfold State.flushMerge <;> (try dsimp only) <;> (repeat' split) <;> (try simp [*])

@[simp] theorem State.applyWrite_edge (s : State) (c : Nat) (a : Nat) (d : BitVec 512) (w : BitVec 64) (cls : Nat) (paid : Nat) (part0 : Option (Nat × Nat)) : KeptEdge s (State.applyWrite s c a d w cls paid part0) := by
  unfold State.applyWrite; (try dsimp only); (repeat' split) <;> (try simp)

@[simp] theorem State.promote_edge (s : State) (c : Nat) (y2 : Nat) : KeptEdge s (State.promote s c y2) := by
  induction y2 generalizing s c <;> unfold State.promote <;> (try dsimp only) <;> (repeat' split) <;> (try simp [*])

@[simp] theorem State.askChan_edge (s : State) (c : Nat) (a : Nat) (cls : Nat) (conf : Bool) (since : Nat) (op : ReqOp) : KeptEdge s (State.askChan s c a cls conf since op) := by
  first
  | (simp [State.askChan]; done)
  | (unfold State.askChan; (try dsimp only); (repeat' split) <;> (try simp); done)
  | (unfold State.askChan; (try dsimp only); (repeat' split) <;> (try simp [*]); done)

@[simp] theorem State.askWrite_edge (s : State) (c : Nat) (a : Nat) (cls : Nat) (conf : Bool) (since : Nat) (d : BitVec 512) (w : BitVec 64) : KeptEdge s (State.askWrite s c a cls conf since d w) := by
  first
  | (simp [State.askWrite]; done)
  | (unfold State.askWrite; (try dsimp only); (repeat' split) <;> (try simp); done)
  | (unfold State.askWrite; (try dsimp only); (repeat' split) <;> (try simp [*]); done)

@[simp] theorem State.readCw_edge (s : State) (c : Nat) (a : Nat) (n : Nat) (errs : ReadErrs) (part : Option (Nat × Nat)) : KeptEdge s (State.readCw s c a n errs part).st := by
  unfold State.readCw; (try dsimp only); (repeat' split) <;> (try simp)

@[simp] theorem State.sentFor_edge (s : State) (c : Nat) (n : Nat) (r : DmcReq) : KeptEdge s (State.sentFor s c n r) := by
  first
  | (simp [State.sentFor]; done)
  | (unfold State.sentFor; (try dsimp only); (repeat' split) <;> (try simp); done)
  | (unfold State.sentFor; (try dsimp only); (repeat' split) <;> (try simp [*]); done)

@[simp] theorem State.writeOrWait_edge (s : State) (c : Nat) (a : Nat) (d : BitVec 512) (w : BitVec 64) (cls : Nat) (conf : Bool) (since : Nat) (part : Option (Nat × Nat)) : KeptEdge s (State.writeOrWait s c a d w cls conf since part) := by
  first
  | (simp [State.writeOrWait]; done)
  | (unfold State.writeOrWait; (try dsimp only); (repeat' split) <;> (try simp); done)
  | (unfold State.writeOrWait; (try dsimp only); (repeat' split) <;> (try simp [*]); done)

@[simp] theorem State.readRun_edge (s : State) (pi : Nat) (p : Partition) (o : Nat) (y4 : Nat) : KeptEdge s (State.readRun s pi p o y4).st := by
  induction y4 generalizing s pi p o <;> unfold State.readRun <;> (try dsimp only) <;> (repeat' split) <;> (try simp [*])

@[simp] theorem State.readBytes_edge (s : State) (pi : Nat) (p : Partition) (o : Nat) (n : Nat) : KeptEdge s (State.readBytes s pi p o n).st := by
  simp [State.readBytes]

@[simp] theorem State.writeRun_edge (s : State) (pi : Nat) (p : Partition) (o : Nat) (l : List Byte) (cls : Nat) (conf : Bool) (y7 : Nat) : KeptEdge s (State.writeRun s pi p o l cls conf y7) := by
  induction y7 generalizing s pi p o l cls conf <;> unfold State.writeRun <;> (try dsimp only) <;> (repeat' split) <;> (try simp [*])

@[simp] theorem State.writeBytes_edge (s : State) (pi : Nat) (p : Partition) (o : Nat) (l : List Byte) (cls : Nat) (conf : optParam Bool true) : KeptEdge s (State.writeBytes s pi p o l cls conf) := by
  simp [State.writeBytes]

@[simp] theorem State.prechargeAll_edge (s : State) (c : Nat) : KeptEdge s (State.prechargeAll s c) := by
  first
  | (simp [State.prechargeAll]; done)
  | (unfold State.prechargeAll; (try dsimp only); (repeat' split) <;> (try simp); done)
  | (unfold State.prechargeAll; (try dsimp only); (repeat' split) <;> (try simp [*]); done)

@[simp] theorem State.refreshed_edge (s : State) (c : Nat) (n : Nat) (owed : Nat) : KeptEdge s (State.refreshed s c n owed) := by
  simp [State.refreshed]

@[simp] theorem State.issueRefreshes_edge (s : State) (c : Nat) (n : Nat) : KeptEdge s (State.issueRefreshes s c n) := by
  first
  | (simp [State.issueRefreshes]; done)
  | (unfold State.issueRefreshes; (try dsimp only); (repeat' split) <;> (try simp); done)
  | (unfold State.issueRefreshes; (try dsimp only); (repeat' split) <;> (try simp [*]); done)

@[simp] theorem State.issueOwed_edge (s : State) (c : Nat) : KeptEdge s (State.issueOwed s c) := by
  simp [State.issueOwed]

@[simp] theorem State.forceRefresh_edge (s : State) (c : Nat) : KeptEdge s (State.forceRefresh s c) := by
  first
  | (simp [State.forceRefresh]; done)
  | (unfold State.forceRefresh; (try dsimp only); (repeat' split) <;> (try simp); done)
  | (unfold State.forceRefresh; (try dsimp only); (repeat' split) <;> (try simp [*]); done)

@[simp] theorem State.postponeUpdate_edge (s : State) (c : Nat) : KeptEdge s (State.postponeUpdate s c) := by
  simp [State.postponeUpdate]

@[simp] theorem State.postponeAll_edge (s : State) : KeptEdge s (State.postponeAll s) := by
  first
  | (simp [State.postponeAll]; done)
  | (unfold State.postponeAll; (try dsimp only); (repeat' split) <;> (try simp); done)
  | (unfold State.postponeAll; (try dsimp only); (repeat' split) <;> (try simp [*]); done)

@[simp] theorem State.settleBy_edge (s : State) (c : Nat) (past : DramCmd → Bool) : KeptEdge s (State.settleBy s c past) := by
  first
  | (simp [State.settleBy]; done)
  | (unfold State.settleBy; (try dsimp only); (repeat' split) <;> (try simp); done)
  | (unfold State.settleBy; (try dsimp only); (repeat' split) <;> (try simp [*]); done)

@[simp] theorem State.enterSr_edge (s : State) (c : Nat) : KeptEdge s (State.enterSr s c) := by
  simp [State.enterSr]

@[simp] theorem State.exitSr_edge (s : State) (c : Nat) : KeptEdge s (State.exitSr s c) := by
  simp [State.exitSr]

@[simp] theorem State.multiplierStep_edge (s : State) (old : Nat) (new : Nat) (c : Nat) : KeptEdge s (State.multiplierStep s old new c) := by
  first
  | (simp [State.multiplierStep]; done)
  | (unfold State.multiplierStep; (try dsimp only); (repeat' split) <;> (try simp); done)
  | (unfold State.multiplierStep; (try dsimp only); (repeat' split) <;> (try simp [*]); done)

@[simp] theorem State.settleAll_edge (s : State) : KeptEdge s (State.settleAll s) := by
  first
  | (simp [State.settleAll]; done)
  | (unfold State.settleAll; (try dsimp only); (repeat' split) <;> (try simp); done)
  | (unfold State.settleAll; (try dsimp only); (repeat' split) <;> (try simp [*]); done)

@[simp] theorem State.setShadowTim_edge (s : State) (c : Nat) (point : Nat) (band : Nat) : KeptEdge s (State.setShadowTim s c point band) := by
  simp [State.setShadowTim]

@[simp] theorem State.copyTim_edge (s : State) (c : Nat) : KeptEdge s (State.copyTim s c) := by
  simp [State.copyTim]

@[simp] theorem State.retime_edge (s : State) (c : Nat) (point : Nat) (band : Nat) : KeptEdge s (State.retime s c point band) := by
  simp [State.retime]

@[simp] theorem State.legStops_edge (s : State) (l : Leg) : KeptEdge s (State.legStops s l) := by
  unfold State.legStops; (try dsimp only); (repeat' split) <;> (try simp)

@[simp] theorem State.legTraffic_edge (s : State) (b : Nat) (n : Nat) : KeptEdge s (State.legTraffic s b n) := by
  first
  | (simp [State.legTraffic]; done)
  | (unfold State.legTraffic; (try dsimp only); (repeat' split) <;> (try simp); done)
  | (unfold State.legTraffic; (try dsimp only); (repeat' split) <;> (try simp [*]); done)

@[simp] theorem State.legPart_edge (s : State) (b : Nat) : KeptEdge s (State.legPart s b) := by
  first
  | (simp [State.legPart]; done)
  | (unfold State.legPart; (try dsimp only); (repeat' split) <;> (try simp); done)
  | (unfold State.legPart; (try dsimp only); (repeat' split) <;> (try simp [*]); done)

@[simp] theorem State.setIncRun_edge (s : State) (b : Nat) (n : Nat) : KeptEdge s (State.setIncRun s b n) := by
  simp [State.setIncRun]

@[simp] theorem State.setPreRun_edge (s : State) (b : Nat) (n : Nat) : KeptEdge s (State.setPreRun s b n) := by
  simp [State.setPreRun]

@[simp] theorem State.rerunLeg_edge (s : State) (b : Nat) : KeptEdge s (State.rerunLeg s b) := by
  simp [State.rerunLeg]

@[simp] theorem State.rowDone_edge (s : State) (b : Nat) : KeptEdge s (State.rowDone s b) := by
  first
  | (simp [State.rowDone]; done)
  | (unfold State.rowDone; (try dsimp only); (repeat' split) <;> (try simp); done)
  | (unfold State.rowDone; (try dsimp only); (repeat' split) <;> (try simp [*]); done)

@[simp] theorem State.passBlock_edge (s : State) (b : Nat) : KeptEdge s (State.passBlock s b) := by
  simp [State.passBlock]

@[simp] theorem State.legCut_edge (s : State) (l : Leg) : KeptEdge s (State.legCut s l) := by
  first
  | (simp [State.legCut]; done)
  | (unfold State.legCut; (try dsimp only); (repeat' split) <;> (try simp); done)
  | (unfold State.legCut; (try dsimp only); (repeat' split) <;> (try simp [*]); done)

@[simp] theorem State.endLegs_edge (s : State) (c : Nat) (kinds : List Nat) : KeptEdge s (State.endLegs s c kinds) := by
  simp [State.endLegs]

@[simp] theorem State.steeredBack_edge (s : State) (l : Leg) : KeptEdge s (State.steeredBack s l) := by
  first
  | (simp [State.steeredBack]; done)
  | (unfold State.steeredBack; (try dsimp only); (repeat' split) <;> (try simp); done)
  | (unfold State.steeredBack; (try dsimp only); (repeat' split) <;> (try simp [*]); done)

@[simp] theorem State.legIncomplete_edge (s : State) (l : Leg) : KeptEdge s (State.legIncomplete s l) := by
  simp [State.legIncomplete]

@[simp] theorem State.abortDramLegs_edge (s : State) : KeptEdge s (State.abortDramLegs s) := by
  simp [State.abortDramLegs]

@[simp] theorem State.preempt_edge (s : State) (l : Leg) : KeptEdge s (State.preempt s l) := by
  simp [State.preempt]

@[simp] theorem State.preemptBank_edge (s : State) (c : Nat) (a : Nat) : KeptEdge s (State.preemptBank s c a) := by
  first
  | (simp [State.preemptBank]; done)
  | (unfold State.preemptBank; (try dsimp only); (repeat' split) <;> (try simp); done)
  | (unfold State.preemptBank; (try dsimp only); (repeat' split) <;> (try simp [*]); done)

@[simp] theorem State.preemptCws_edge (s : State) (p : Partition) (o : Nat) (y3 : Nat) : KeptEdge s (State.preemptCws s p o y3) := by
  induction y3 generalizing s p o <;> unfold State.preemptCws <;> (try dsimp only) <;> (repeat' split) <;> (try simp [*])

@[simp] theorem State.reachBanks_edge (s : State) (rt : Bool) (p : Partition) (o : Nat) (n : Nat) : KeptEdge s (State.reachBanks s rt p o n) := by
  first
  | (simp [State.reachBanks]; done)
  | (unfold State.reachBanks; (try dsimp only); (repeat' split) <;> (try simp); done)
  | (unfold State.reachBanks; (try dsimp only); (repeat' split) <;> (try simp [*]); done)

@[simp] theorem State.railOff_edge (s : State) (r : Nat) : KeptEdge s (State.railOff s r) := by
  simp [State.railOff]

@[simp] theorem State.railsOff_edge (s : State) (g : Nat) : KeptEdge s (State.railsOff s g) := by
  simp [State.railsOff]

@[simp] theorem State.retireNow_edge (s : State) (c : Nat) (why : Nat) : KeptEdge s (State.retireNow s c why) := by
  first
  | (simp [State.retireNow]; done)
  | (unfold State.retireNow; (try dsimp only); (repeat' split) <;> (try simp); done)
  | (unfold State.retireNow; (try dsimp only); (repeat' split) <;> (try simp [*]); done)

@[simp] theorem State.putOff_edge (s : State) (x : Later) : KeptEdge s (State.putOff s x) := by
  first
  | (simp [State.putOff]; done)
  | (unfold State.putOff; (try dsimp only); (repeat' split) <;> (try simp); done)
  | (unfold State.putOff; (try dsimp only); (repeat' split) <;> (try simp [*]); done)

@[simp] theorem State.retire_edge (s : State) (c : Nat) (why : Nat) : KeptEdge s (State.retire s c why) := by
  simp [State.retire]

@[simp] theorem State.retireGroup_edge (s : State) (g : Nat) : KeptEdge s (State.retireGroup s g) := by
  simp [State.retireGroup]

@[simp] theorem State.centreEyes_edge (s : State) (c : Nat) (lanes : List Nat) : KeptEdge s (State.centreEyes s c lanes) := by
  first
  | (simp [State.centreEyes]; done)
  | (unfold State.centreEyes; (try dsimp only); (repeat' split) <;> (try simp); done)
  | (unfold State.centreEyes; (try dsimp only); (repeat' split) <;> (try simp [*]); done)

@[simp] theorem State.narrowNow_edge (s : State) (c : Nat) : KeptEdge s (State.narrowNow s c) := by
  first
  | (simp [State.narrowNow]; done)
  | (unfold State.narrowNow; (try dsimp only); (repeat' split) <;> (try simp); done)
  | (unfold State.narrowNow; (try dsimp only); (repeat' split) <;> (try simp [*]); done)

@[simp] theorem State.narrow_edge (s : State) (c : Nat) : KeptEdge s (State.narrow s c) := by
  simp [State.narrow]

@[simp] theorem State.doLater_edge (s : State) : KeptEdge s (State.doLater s) := by
  unfold State.doLater
  refine KeptEdge_trans (t := { s with dmc := { s.dmc with later := [] } }) (by simp) (foldl_edge _ _ _ (fun t x => ?_))
  repeat' split
  all_goals simp

@[simp] theorem State.laneSpared_edge (s : State) (c : Nat) (kind : Nat) (lane : Nat) (spare : Nat) (free : Nat) : KeptEdge s (State.laneSpared s c kind lane spare free) := by
  simp [State.laneSpared]

@[simp] theorem State.failData_edge (s : State) (c : Nat) (lane : Nat) : KeptEdge s (State.failData s c lane) := by
  unfold State.failData; (try dsimp only); (repeat' split) <;> (try simp)

@[simp] theorem State.failCa_edge (s : State) (c : Nat) (lane : Nat) : KeptEdge s (State.failCa s c lane) := by
  unfold State.failCa; (try dsimp only); (repeat' split) <;> (try simp)

@[simp] theorem State.clkLost_edge (s : State) (g : Nat) (b : Nat) : KeptEdge s (State.clkLost s g b) := by
  simp [State.clkLost]

@[simp] theorem State.logRepair_edge (s : State) (entry : Nat) : KeptEdge s (State.logRepair s entry) := by
  simp [State.logRepair]

@[simp] theorem State.copyCw_edge (s : State) (c : Nat) (a : Nat) : KeptEdge s (State.copyCw s c a) := by
  unfold State.copyCw; (try dsimp only); (repeat' split) <;> (try simp)

@[simp] theorem State.sparesOut_edge (s : State) (c : Nat) (bank : Nat) (row : Nat) : KeptEdge s (State.sparesOut s c bank row) := by
  simp [State.sparesOut]

@[simp] theorem State.repairRow_edge (s : State) (c : Nat) (p : Nat) : KeptEdge s (State.repairRow s c p) := by
  unfold State.repairRow; (try dsimp only); (repeat' split) <;> (try simp)

@[simp] theorem State.repairColumn_edge (s : State) (c : Nat) (p : Nat) (col : Nat) : KeptEdge s (State.repairColumn s c p col) := by
  unfold State.repairColumn; (try dsimp only); (repeat' split) <;> (try simp)

@[simp] theorem State.rowFailed_edge (s : State) (c : Nat) (p : Nat) (column : Option Nat) : KeptEdge s (State.rowFailed s c p column) := by
  unfold State.rowFailed; (try dsimp only); (repeat' split) <;> (try simp)

@[simp] theorem State.placeBlocks_edge (s : State) (k : Nat) (n : Nat) : KeptEdge s (State.placeBlocks s k n) := by
  first
  | (simp [State.placeBlocks]; done)
  | (unfold State.placeBlocks; (try dsimp only); (repeat' split) <;> (try simp); done)
  | (unfold State.placeBlocks; (try dsimp only); (repeat' split) <;> (try simp [*]); done)

@[simp] theorem State.emitPacket_edge (s : State) (k : Nat) (p : Packet) (resent : Bool) : KeptEdge s (State.emitPacket s k p resent) := by
  first
  | (simp [State.emitPacket]; done)
  | (unfold State.emitPacket; (try dsimp only); (repeat' split) <;> (try simp); done)
  | (unfold State.emitPacket; (try dsimp only); (repeat' split) <;> (try simp [*]); done)

@[simp] theorem State.emitBlock_edge (s : State) (k : Nat) (b : RxBlock) : KeptEdge s (State.emitBlock s k b) := by
  first
  | (simp [State.emitBlock]; done)
  | (unfold State.emitBlock; (try dsimp only); (repeat' split) <;> (try simp); done)
  | (unfold State.emitBlock; (try dsimp only); (repeat' split) <;> (try simp [*]); done)

@[simp] theorem State.sendNew_edge (s : State) (k : Nat) (p : Packet) : KeptEdge s (State.sendNew s k p) := by
  simp [State.sendNew]

@[simp] theorem State.takeWaiting_edge (s : State) (k : Nat) (e : Waiting × Nat) : KeptEdge s (State.takeWaiting s k e) := by
  first
  | (simp [State.takeWaiting]; done)
  | (unfold State.takeWaiting; (try dsimp only); (repeat' split) <;> (try simp); done)
  | (unfold State.takeWaiting; (try dsimp only); (repeat' split) <;> (try simp [*]); done)

@[simp] theorem State.pumpRun_edge (s : State) (k : Nat) (y2 : Nat) : KeptEdge s (State.pumpRun s k y2) := by
  induction y2 generalizing s k <;> unfold State.pumpRun <;> (try dsimp only) <;> (repeat' split) <;> (try simp [*])

@[simp] theorem State.crCount_edge (s : State) (k : Nat) (n : Nat) : KeptEdge s (State.crCount s k n) := by
  first
  | (simp [State.crCount]; done)
  | (unfold State.crCount; (try dsimp only); (repeat' split) <;> (try simp); done)
  | (unfold State.crCount; (try dsimp only); (repeat' split) <;> (try simp [*]); done)

@[simp] theorem State.pump_edge (s : State) (k : Nat) : KeptEdge s (State.pump s k) := by
  simp [State.pump]

@[simp] theorem State.sendPacket_edge (s : State) (k : Nat) (p : Packet) (conf : optParam Bool true) : KeptEdge s (State.sendPacket s k p conf) := by
  simp [State.sendPacket]

@[simp] theorem State.noteAdmission_edge (s : State) (a : Status × Nat × Nat) : KeptEdge s (State.noteAdmission s a) := by
  simp [State.noteAdmission]

@[simp] theorem State.classesNow_edge (s : State) : KeptEdge s (State.classesNow s) := by
  simp [State.classesNow]

@[simp] theorem State.shedClass_edge (s : State) (n : Nat) (r : Res) : KeptEdge s (State.shedClass s n r) := by
  simp [State.shedClass]

@[simp] theorem State.shedLoop_edge (s : State) (y1 : Nat) : KeptEdge s (State.shedLoop s y1) := by
  induction y1 generalizing s <;> unfold State.shedLoop <;> (try dsimp only) <;> (repeat' split) <;> (try simp [*])

@[simp] theorem State.evaluate_edge (s : State) : KeptEdge s (State.evaluate s) := by
  simp [State.evaluate]

theorem execShedEvaluation_edge (s : State) (t : State) (h : (execShedEvaluation s) = .next t) : KeptEdge s t := by
  unfold execShedEvaluation at h; (try dsimp only at h); (repeat' split at h) <;> (try simp only [Host.Outcome.next.injEq, reduceCtorEq] at h) <;> (try subst h) <;> (try simp)

@[simp] theorem State.reinstate_edge (s : State) (n : Nat) : KeptEdge s (State.reinstate s n) := by
  simp [State.reinstate]

@[simp] theorem State.reinstateAll_edge (s : State) : KeptEdge s (State.reinstateAll s) := by
  simp [State.reinstateAll]

theorem execReinstatement_edge (s : State) (t : State) (h : (execReinstatement s) = .next t) : KeptEdge s t := by
  unfold execReinstatement at h; (try dsimp only at h); (repeat' split at h) <;> (try simp only [Host.Outcome.next.injEq, reduceCtorEq] at h) <;> (try subst h) <;> (try simp)

@[simp] theorem State.holdUpdate_edge (s : State) : KeptEdge s (State.holdUpdate s) := by
  simp [State.holdUpdate]

theorem execHoldExceeded_edge (n : Fin 32) (s : State) (t : State) (h : (execHoldExceeded n s) = .next t) : KeptEdge s t := by
  unfold execHoldExceeded at h; (try dsimp only at h); (repeat' split at h) <;> (try simp only [Host.Outcome.next.injEq, reduceCtorEq] at h) <;> (try subst h) <;> (try simp)

@[simp] theorem State.setDomain_edge (s : State) (d : Nat) (x : Domain) : KeptEdge s (State.setDomain s d x) := by
  simp [State.setDomain]

@[simp] theorem State.setSource_edge (s : State) (i : Nat) (x : Source) : KeptEdge s (State.setSource s i x) := by
  simp [State.setSource]

@[simp] theorem State.logException_edge (s : State) (e : ExcEntry) : KeptEdge s (State.logException s e) := by
  simp [State.logException]

@[simp] theorem State.exception_edge (s : State) (bytes : List Byte) (chain : Nat) (why : ExcReason) (domain : Option Nat) : KeptEdge s (State.exception s bytes chain why domain) := by
  simp [State.exception]

@[simp] theorem State.declareGap_edge (s : State) (src : Nat) (first : Nat) (count : Nat) : KeptEdge s (State.declareGap s src first count) := by
  simp [State.declareGap]

@[simp] theorem State.setCapLog_edge (s : State) (p : Nat) (x : CapLog) : KeptEdge s (State.setCapLog s p x) := by
  simp [State.setCapLog]

@[simp] theorem State.writeBlockCws_edge (s : State) (p : Nat) (part : Partition) (x : CapLog) (i : Nat) (y5 : Nat) : KeptEdge s (State.writeBlockCws s p part x i y5) := by
  induction y5 generalizing s p part x i <;> unfold State.writeBlockCws <;> (try dsimp only) <;> (repeat' split) <;> (try simp [*])

@[simp] theorem State.writeBlock_edge (s : State) (p : Nat) (ring : Bool) : KeptEdge s (State.writeBlock s p ring) := by
  unfold State.writeBlock; (try dsimp only); (repeat' split) <;> (try simp)

@[simp] theorem State.capture_edge (s : State) (src : Nat) (f : FailRec) : KeptEdge s (State.capture s src f) := by
  simp [State.capture]

@[simp] theorem State.release_edge (s : State) (src : Nat) (f : FailRec) (late : Bool) : KeptEdge s (State.release s src f late) := by
  unfold State.release; (try dsimp only); (repeat' split) <;> (try simp)

@[simp] theorem State.releaseRun_edge (s : State) (src : Nat) (y2 : List (Nat × FailRec)) : KeptEdge s (State.releaseRun s src y2) := by
  induction y2 generalizing s src <;> unfold State.releaseRun <;> (try dsimp only) <;> (repeat' split) <;> (try simp [*])

@[simp] theorem State.releaseAll_edge (s : State) (src : Nat) (pos : Option Nat) (y3 : List (Nat × FailRec)) : KeptEdge s (State.releaseAll s src pos y3) := by
  induction y3 generalizing s src pos <;> unfold State.releaseAll <;> (try dsimp only) <;> (repeat' split) <;> (try simp [*])

@[simp] theorem State.pushWindow_edge (s : State) (src : Nat) (nx : Nat) (new : Nat) : KeptEdge s (State.pushWindow s src nx new) := by
  simp [State.pushWindow]

@[simp] theorem State.inOrder_edge (s : State) (src : Nat) (q : Nat) (f : FailRec) : KeptEdge s (State.inOrder s src q f) := by
  simp [State.inOrder]

@[simp] theorem State.timerUpdate_edge (s : State) (src : Nat) (nx : Option Nat) : KeptEdge s (State.timerUpdate s src nx) := by
  simp [State.timerUpdate]

@[simp] theorem State.arrive_edge (s : State) (src : Nat) (f : FailRec) : KeptEdge s (State.arrive s src f) := by
  unfold State.arrive; (try dsimp only); (repeat' split) <;> (try simp)

@[simp] theorem State.loseNx_edge (s : State) (src : Nat) : KeptEdge s (State.loseNx s src) := by
  simp [State.loseNx]

@[simp] theorem State.sourcesLost_edge (s : State) (k : Nat) : KeptEdge s (State.sourcesLost s k) := by
  simp [State.sourcesLost]

@[simp] theorem State.queueMoved_edge (s : State) : KeptEdge s (State.queueMoved s) := by
  unfold State.queueMoved; (try dsimp only); (repeat' split) <;> (try simp)

@[simp] theorem State.heapCheck_edge (s : State) : KeptEdge s (State.heapCheck s) := by
  simp [State.heapCheck]

theorem State.takeHeap_edge (s : State) (d : Nat) (use : HeapUse) (n : Nat) (t : State) (h : s.takeHeap d use n = some t) : KeptEdge s t := by
  unfold State.takeHeap at h
  split at h
  · simp_all
  · simp only [Option.map_eq_some_iff] at h
    obtain ⟨a, _, rfl⟩ := h
    simp

/-- A heap place taken or refused. -/
@[simp] theorem State.takeHeapD_edge (s : State) (d : Nat) (use : HeapUse) (n : Nat) : KeptEdge s ((s.takeHeap d use n).getD s) := by
  cases h : s.takeHeap d use n with
  | none => simp
  | some t => simpa using State.takeHeap_edge s d use n t h

theorem State.takeAll_edge (s : State) (l : List HeapNeed) (t : State) (h : s.takeAll l = some t) : KeptEdge s t := by
  unfold State.takeAll at h
  induction l generalizing s with
  | nil => simp_all
  | cons x r ih =>
    rw [List.foldlM_cons] at h
    obtain ⟨u, hu, hr⟩ := Option.bind_eq_some_iff.mp h
    exact KeptEdge_trans (State.takeHeap_edge _ _ _ _ _ hu) (ih _ hr)

@[simp] theorem State.spill_edge (s : State) (d : Nat) : KeptEdge s (State.spill s d) := by
  simp [State.spill]

@[simp] theorem State.applyRecord_edge (s : State) (d : Nat) (x : Located) (f : FailRec) (late : Bool) :
    KeptEdge s (State.applyRecord s d x f late) := by
  unfold State.applyRecord
  dsimp only
  split
  · simp
  · rename_i h hh
    have h1 := State.takeAll_edge _ _ _ hh
    split <;> simp_all

@[simp] theorem State.traffic_edge (s : State) (n : Nat) (bytes : Nat) (label : Nat) : KeptEdge s (State.traffic s n bytes label).1 := by
  simp [State.traffic]

@[simp] theorem State.finish_edge (s : State) (r : ResultRec) : KeptEdge s (State.finish s r) := by
  simp [State.finish]

@[simp] theorem State.checkRound_edge (s : State) (p : Nat) (runner : Option Nat) : KeptEdge s (State.checkRound s p runner) := by
  first
  | (simp [State.checkRound]; done)
  | (unfold State.checkRound; (try dsimp only); (repeat' split) <;> (try simp); done)
  | (unfold State.checkRound; (try dsimp only); (repeat' split) <;> (try simp [*]); done)

@[simp] theorem State.round_edge (s : State) (p : Nat) (engine : Nat) : KeptEdge s (State.round s p engine) := by
  unfold State.round; (try dsimp only); (repeat' split) <;> (try simp)

@[simp] theorem State.engineTick_edge (s : State) (e : Nat) : KeptEdge s (State.engineTick s e) := by
  first
  | (simp [State.engineTick]; done)
  | (unfold State.engineTick; (try dsimp only); (repeat' split) <;> (try simp); done)
  | (unfold State.engineTick; (try dsimp only); (repeat' split) <;> (try simp [*]); done)

@[simp] theorem State.enginesTick_edge (s : State) : KeptEdge s (State.enginesTick s) := by
  first
  | (simp [State.enginesTick]; done)
  | (unfold State.enginesTick; (try dsimp only); (repeat' split) <;> (try simp); done)
  | (unfold State.enginesTick; (try dsimp only); (repeat' split) <;> (try simp [*]); done)

@[simp] theorem State.takeOutcome_edge (s : State) (d : Nat) (engine : Nat) (o : PassOutcome) : KeptEdge s (State.takeOutcome s d engine o) := by
  unfold State.takeOutcome; (try dsimp only); (repeat' split) <;> (try simp)

@[simp] theorem State.recordBits_edge (s : State) (found : List Nat) : KeptEdge s (State.recordBits s found) := by
  first
  | (simp [State.recordBits]; done)
  | (unfold State.recordBits; (try dsimp only); (repeat' split) <;> (try simp); done)
  | (unfold State.recordBits; (try dsimp only); (repeat' split) <;> (try simp [*]); done)

@[simp] theorem State.senseBits_edge (s : State) (among : Nat → Bool) (found : List Nat) : KeptEdge s (State.senseBits s among found) := by
  first
  | (simp [State.senseBits]; done)
  | (unfold State.senseBits; (try dsimp only); (repeat' split) <;> (try simp); done)
  | (unfold State.senseBits; (try dsimp only); (repeat' split) <;> (try simp [*]); done)

@[simp] theorem State.reinforced_edge (s : State) (l : List Nat) : KeptEdge s (State.reinforced s l) := by
  simp [State.reinforced]

@[simp] theorem State.blow_edge (s : State) (l : List Nat) : KeptEdge s (State.blow s l) := by
  simp [State.blow]

@[simp] theorem State.lockedOut_edge (s : State) : KeptEdge s (State.lockedOut s) := by
  first
  | (simp [State.lockedOut]; done)
  | (unfold State.lockedOut; (try dsimp only); (repeat' split) <;> (try simp); done)
  | (unfold State.lockedOut; (try dsimp only); (repeat' split) <;> (try simp [*]); done)

@[simp] theorem FuseRun.pulse_edge (x : FuseRun) (n : Nat) : KeptEdge x.st (x.pulse n).st := by simp [FuseRun.pulse]

@[simp] theorem FuseRun.verified_edge (x : FuseRun) (b : Nat) : KeptEdge x.st (x.verified b).st := by simp [FuseRun.verified]

@[simp] theorem FuseRun.program_edge (x : FuseRun) (b : Nat) : KeptEdge x.st (x.program b).st := by
  unfold FuseRun.program
  repeat' split
  all_goals simp

@[simp] theorem FuseRun.pulses_edge (x : FuseRun) (l : List Nat) : KeptEdge x.st (l.foldl (fun (y : FuseRun) _ => y.pulse 1) x).st := by
  induction l generalizing x with
  | nil => simp
  | cons b r ih => exact KeptEdge_trans (FuseRun.pulse_edge x 1) (ih _)

@[simp] theorem FuseRun.boost_edge (x : FuseRun) (l : List Nat) : KeptEdge x.st (x.boost l).st := by simp [FuseRun.boost]

@[simp] theorem FuseRun.sense_edge (x : FuseRun) (f : Nat → Bool) : KeptEdge x.st (x.sense f).1.st := by simp [FuseRun.sense]

@[simp] theorem FuseRun.settle_edge (x : FuseRun) (n : Nat) (ws : List DWord) (k : Nat) : KeptEdge x.st (x.settle n ws k).st := by
  induction k generalizing x with
  | zero => unfold FuseRun.settle; dsimp only; split <;> simp
  | succ k ih =>
    unfold FuseRun.settle
    dsimp only
    repeat' split
    all_goals simp [ih]

@[simp] theorem FuseRun.locks_edge (x : FuseRun) (l : List Nat) : KeptEdge x.st (l.foldl FuseRun.verified x).st := by
  induction l generalizing x with
  | nil => simp
  | cons b r ih => exact KeptEdge_trans (FuseRun.verified_edge x b) (ih _)

@[simp] theorem FuseRun.step_edge (x : FuseRun) (e : FuseStep) : KeptEdge x.st (x.step e).st := by
  unfold FuseRun.step
  repeat' split
  all_goals simp

@[simp] theorem FuseRun.upTo_edge (x : FuseRun) (n : Nat) (l : List FuseStep) : KeptEdge x.st (x.upTo n l).1.st := by
  induction n generalizing x l with
  | zero => simp [FuseRun.upTo]
  | succ n ih =>
    cases l with
    | nil => simp [FuseRun.upTo]
    | cons e r => unfold FuseRun.upTo; dsimp only; split <;> simp [ih]

@[simp] theorem FuseRun.steps_edge (x : FuseRun) (l : List FuseStep) : KeptEdge x.st (l.foldl FuseRun.step x).st := by
  induction l generalizing x with
  | nil => simp
  | cons e r ih => exact KeptEdge_trans (FuseRun.step_edge x e) (ih _)

@[simp] theorem State.fuseGoesOn_edge (s : State) : KeptEdge s (State.fuseGoesOn s) := by
  unfold State.fuseGoesOn
  split
  · simp
  · simp [State.drawn]

@[simp] theorem State.fuseCut_edge (s : State) : KeptEdge s (State.fuseCut s) := by
  unfold State.fuseCut; (try dsimp only); (repeat' split) <;> (try simp)

@[simp] theorem State.fuseAsk_edge (s : State) (o : FuseOp) : KeptEdge s (State.fuseAsk s o) := by
  first
  | (simp [State.fuseAsk]; done)
  | (unfold State.fuseAsk; (try dsimp only); (repeat' split) <;> (try simp); done)
  | (unfold State.fuseAsk; (try dsimp only); (repeat' split) <;> (try simp [*]); done)

@[simp] theorem State.fuseNext_edge (s : State) : KeptEdge s (State.fuseNext s) := by
  first
  | (simp [State.fuseNext]; done)
  | (unfold State.fuseNext; (try dsimp only); (repeat' split) <;> (try simp); done)
  | (unfold State.fuseNext; (try dsimp only); (repeat' split) <;> (try simp [*]); done)

@[simp] theorem State.fuseEnds_edge (s : State) (st : Status) (pulses : Nat) : KeptEdge s (State.fuseEnds s st pulses) := by
  simp [State.fuseEnds]

@[simp] theorem State.recordMarginal_edge (s : State) : KeptEdge s (State.recordMarginal s) := by
  simp [State.recordMarginal]

@[simp] theorem State.judgeAll_edge (s : State) : KeptEdge s (State.judgeAll s) := by
  simp [State.judgeAll]

@[simp] theorem State.senseReport_edge (s : State) : KeptEdge s (State.senseReport s) := by
  simp [State.senseReport]

@[simp] theorem State.senseAll_edge (s : State) (weak : List (Nat × DWord)) (cold : Bool) : KeptEdge s (State.senseAll s weak cold) := by
  simp [State.senseAll]

@[simp] theorem State.writeSlot_edge (s : State) : KeptEdge s (State.writeSlot s) := by
  simp [State.writeSlot]

@[simp] theorem State.enterMode_edge (s : State) (m : Mode) : KeptEdge s (State.enterMode s m) := by
  simp [State.enterMode]

@[simp] theorem State.dropLatches_edge (s : State) (gone : List (Nat × Session)) : KeptEdge s (State.dropLatches s gone) := by
  first
  | (simp [State.dropLatches]; done)
  | (unfold State.dropLatches; (try dsimp only); (repeat' split) <;> (try simp); done)
  | (unfold State.dropLatches; (try dsimp only); (repeat' split) <;> (try simp [*]); done)

@[simp] theorem State.endSessions_edge (s : State) (p : Session → Bool) : KeptEdge s (State.endSessions s p) := by
  simp [State.endSessions]

@[simp] theorem State.forgetSessions_edge (s : State) : KeptEdge s (State.forgetSessions s) := by
  first
  | (simp [State.forgetSessions]; done)
  | (unfold State.forgetSessions; (try dsimp only); (repeat' split) <;> (try simp); done)
  | (unfold State.forgetSessions; (try dsimp only); (repeat' split) <;> (try simp [*]); done)

@[simp] theorem State.endAtOnce_edge (s : State) (p : Session → Bool) : KeptEdge s (State.endAtOnce s p) := by
  first
  | (simp [State.endAtOnce]; done)
  | (unfold State.endAtOnce; (try dsimp only); (repeat' split) <;> (try simp); done)
  | (unfold State.endAtOnce; (try dsimp only); (repeat' split) <;> (try simp [*]); done)

@[simp] theorem State.loseMem_edge (s : State) (chans : List Nat) : KeptEdge s (State.loseMem s chans) := by
  simp [State.loseMem]

@[simp] theorem State.safeDomains_edge (s : State) : KeptEdge s (State.safeDomains s) := by
  simp [State.safeDomains]

@[simp] theorem State.dmcSafe_edge (s : State) : KeptEdge s (State.dmcSafe s) := by
  simp [State.dmcSafe]

@[simp] theorem State.idleLanes_edge (s : State) : KeptEdge s (State.idleLanes s) := by
  simp [State.idleLanes]

@[simp] theorem State.sendSafe_edge (s : State) (src : Nat) : KeptEdge s (State.sendSafe s src) := by
  first
  | (simp [State.sendSafe]; done)
  | (unfold State.sendSafe; (try dsimp only); (repeat' split) <;> (try simp); done)
  | (unfold State.sendSafe; (try dsimp only); (repeat' split) <;> (try simp [*]); done)

@[simp] theorem State.setBoot_edge (s : State) (result : Nat) : KeptEdge s (State.setBoot s result) := by
  simp [State.setBoot]

@[simp] theorem State.safeStop_edge (s : State) (src : Nat) : KeptEdge s (State.safeStop s src) := by
  first
  | (simp [State.safeStop]; done)
  | (unfold State.safeStop; (try dsimp only); (repeat' split) <;> (try simp); done)
  | (unfold State.safeStop; (try dsimp only); (repeat' split) <;> (try simp [*]); done)

@[simp] theorem State.safeBoot_edge (s t : State) : KeptEdge t (State.safeBoot s t) := by
  unfold State.safeBoot
  split <;> simp

@[simp] theorem State.safeReaction_edge (s : State) (src : Nat) : KeptEdge s (State.safeReaction s src) := by
  simp [State.safeReaction]

@[simp] theorem State.fatal_edge (s : State) (src : Nat) (a : Nat) (b : Nat) (forced : optParam Bool false) : KeptEdge s (State.fatal s src a b forced) := by
  simp [State.fatal]

@[simp] theorem State.sessionReply_edge (s : State) (st : Status) (data : optParam (List Byte) []) : KeptEdge s (State.sessionReply s st data) := by
  simp [State.sessionReply]

@[simp] theorem State.pkTake_edge (s : State) : KeptEdge s (State.pkTake s) := by
  first
  | (simp [State.pkTake]; done)
  | (unfold State.pkTake; (try dsimp only); (repeat' split) <;> (try simp); done)
  | (unfold State.pkTake; (try dsimp only); (repeat' split) <;> (try simp [*]); done)

@[simp] theorem State.issueNonce_edge (s : State) (path : Nat) : KeptEdge s (State.issueNonce s path) := by
  simp [State.issueNonce]

@[simp] theorem State.opNonce_edge (s : State) (r : Req) : KeptEdge s (State.opNonce s r) := by
  unfold State.opNonce; (try dsimp only); (repeat' split) <;> (try simp)

theorem execNonce_edge (r : Req) (s : State) (t : State) (h : (execNonce r s) = .next t) : KeptEdge s t := by
  simp only [execNonce, Host.Outcome.next.injEq] at h; subst h; simp

theorem execNonceExpire_edge (p : Path) (s : State) (t : State) (h : (execNonceExpire p s) = .next t) : KeptEdge s t := by
  unfold execNonceExpire at h; (try dsimp only at h); (repeat' split at h) <;> (try simp only [Host.Outcome.next.injEq, reduceCtorEq] at h) <;> (try subst h) <;> (try simp)

@[simp] theorem State.consumeNonce_edge (s : State) (r : Req) (ext : List Byte) : KeptEdge s (State.consumeNonce s r ext) := by
  unfold State.consumeNonce; (try dsimp only); (repeat' split) <;> (try simp)

@[simp] theorem State.openFailed_edge (s : State) (path : Nat) : KeptEdge s (State.openFailed s path) := by
  simp [State.openFailed]

@[simp] theorem State.openSession_edge (s : State) (r : Req) (ext : List Byte) (key : List Byte) : KeptEdge s (State.openSession s r ext key) := by
  simp [State.openSession]

@[simp] theorem State.openTakes_edge (s : State) (r : Req) (ext : List Byte) : KeptEdge s (State.openTakes s r ext) := by
  first
  | (simp [State.openTakes]; done)
  | (unfold State.openTakes; (try dsimp only); (repeat' split) <;> (try simp); done)
  | (unfold State.openTakes; (try dsimp only); (repeat' split) <;> (try simp [*]); done)

@[simp] theorem State.opOpen_edge (s : State) (r : Req) (ext : List Byte) : KeptEdge s (State.opOpen s r ext) := by
  unfold State.opOpen; (try dsimp only); (repeat' split) <;> (try simp)

theorem execSessionOpen_edge (r : Req) (ext : List Byte) (s : State) (t : State) (h : (execSessionOpen r ext s) = .next t) : KeptEdge s t := by
  simp only [execSessionOpen, Host.Outcome.next.injEq] at h; subst h; simp

@[simp] theorem State.opClose_edge (s : State) (r : Req) : KeptEdge s (State.opClose s r) := by
  unfold State.opClose; (try dsimp only); (repeat' split) <;> (try simp)

theorem execSessionClose_edge (r : Req) (s : State) (t : State) (h : (execSessionClose r s) = .next t) : KeptEdge s t := by
  simp only [execSessionClose, Host.Outcome.next.injEq] at h; subst h; simp

@[simp] theorem State.opEvict_edge (s : State) (r : Req) (ext : List Byte) : KeptEdge s (State.opEvict s r ext) := by
  unfold State.opEvict; (try dsimp only); (repeat' split) <;> (try simp)

theorem execEvict_edge (r : Req) (ext : List Byte) (s : State) (t : State) (h : (execEvict r ext s) = .next t) : KeptEdge s t := by
  simp only [execEvict, Host.Outcome.next.injEq] at h; subst h; simp

theorem execSessionIdleTimeout_edge (slot : Fin 16) (s : State) (t : State) (h : (execSessionIdleTimeout slot s) = .next t) : KeptEdge s t := by
  unfold execSessionIdleTimeout at h; (try dsimp only at h); (repeat' split at h) <;> (try simp only [Host.Outcome.next.injEq, reduceCtorEq] at h) <;> (try subst h) <;> (try simp)

@[simp] theorem State.opIdentity_edge (s : State) (r : Req) : KeptEdge s (State.opIdentity s r) := by
  unfold State.opIdentity; (try dsimp only); (repeat' split) <;> (try simp)

theorem execIdentity_edge (r : Req) (s : State) (t : State) (h : (execIdentity r s) = .next t) : KeptEdge s t := by
  simp only [execIdentity, Host.Outcome.next.injEq] at h; subst h; simp

@[simp] theorem State.opAttest_edge (s : State) (r : Req) (hnonce : List Byte) : KeptEdge s (State.opAttest s r hnonce) := by
  unfold State.opAttest; (try dsimp only); (repeat' split) <;> (try simp)

theorem execAttest_edge (r : Req) (hnonce : List Byte) (s : State) (t : State) (h : (execAttest r hnonce s) = .next t) : KeptEdge s t := by
  simp only [execAttest, Host.Outcome.next.injEq] at h; subst h; simp

@[simp] theorem State.opEnroll_edge (s : State) (r : Req) : KeptEdge s (State.opEnroll s r) := by
  unfold State.opEnroll; (try dsimp only); (repeat' split) <;> (try simp)

theorem execEnroll_edge (r : Req) (s : State) (t : State) (h : (execEnroll r s) = .next t) : KeptEdge s t := by
  simp only [execEnroll, Host.Outcome.next.injEq] at h; subst h; simp

@[simp] theorem State.dbgWrite_edge (s : State) (r : Req) (v : Word) : KeptEdge s (State.dbgWrite s r v) := by
  simp [State.dbgWrite]

theorem execDebugUnlock_edge (r : Req) (v : Word) (s : State) (t : State) (h : (execDebugUnlock r v s) = .next t) : KeptEdge s t := by
  simp only [execDebugUnlock, Host.Outcome.next.injEq] at h; subst h; simp

theorem execSecFatal_edge (cause : Fin 5) (s : State) (t : State) (h : (execSecFatal cause s) = .next t) : KeptEdge s t := by
  unfold execSecFatal at h; (try dsimp only at h); (repeat' split at h) <;> (try simp only [Host.Outcome.next.injEq, reduceCtorEq] at h) <;> (try subst h) <;> (try simp)

@[simp] theorem State.setSession_edge (s : State) (slot : Nat) (x : Session) : KeptEdge s (State.setSession s slot x) := by
  simp [State.setSession]

@[simp] theorem State.tagFailed_edge (s : State) (slot : Nat) (x : Session) (chain : Nat) : KeptEdge s (State.tagFailed s slot x chain) := by
  simp [State.tagFailed]

@[simp] theorem State.tagCheck_edge (s : State) (path : Nat) (p : Packet) : KeptEdge s (State.tagCheck s path p).1 := by
  unfold State.tagCheck; (try dsimp only); (repeat' split) <;> (try simp)

@[simp] theorem State.tagPacket_edge (s : State) (slot : Nat) (x : Session) (p : Packet) : KeptEdge s (State.tagPacket s slot x p).1 := by
  unfold State.tagPacket; (try dsimp only); (repeat' split) <;> (try simp)

@[simp] theorem State.servingFor_edge (s : State) (sess : Option (Nat × Session)) : KeptEdge s (State.servingFor s sess) := by
  first
  | (simp [State.servingFor]; done)
  | (unfold State.servingFor; (try dsimp only); (repeat' split) <;> (try simp); done)
  | (unfold State.servingFor; (try dsimp only); (repeat' split) <;> (try simp [*]); done)

@[simp] theorem State.servingDone_edge (s : State) : KeptEdge s (State.servingDone s) := by
  first
  | (simp [State.servingDone]; done)
  | (unfold State.servingDone; (try dsimp only); (repeat' split) <;> (try simp); done)
  | (unfold State.servingDone; (try dsimp only); (repeat' split) <;> (try simp [*]); done)

theorem State.enrolBegun_edge (after before : State) (via : EnrolVia) (v : State) (h : after.enrolBegun before via = some v) : KeptEdge after v := by
  unfold State.enrolBegun at h
  split at h
  · simp only [Option.some.injEq] at h; subst h; simp
  · simp at h

@[simp] theorem State.sendTagged_edge (s : State) (k : Nat) (e : Nat × Session) (p : Packet) (conf : Bool) : KeptEdge s (State.sendTagged s k e p conf) := by
  first
  | (simp [State.sendTagged]; done)
  | (unfold State.sendTagged; (try dsimp only); (repeat' split) <;> (try simp); done)
  | (unfold State.sendTagged; (try dsimp only); (repeat' split) <;> (try simp [*]); done)

@[simp] theorem State.answerWith_edge (s : State) (k : Nat) (sess : Option (Nat × Session)) (p : Packet) (conf : optParam Bool true) : KeptEdge s (State.answerWith s k sess p conf) := by
  unfold State.answerWith; (try dsimp only); (repeat' split) <;> (try simp)

@[simp] theorem State.sendEmpty_edge (s : State) (k : Nat) (type : Nat) (label : Nat) (rid : Nat) (sess : Option (Nat × Session)) (st : Status) : KeptEdge s (State.sendEmpty s k type label rid sess st) := by
  simp [State.sendEmpty]

@[simp] theorem State.sendFragments_edge (s : State) (k : Nat) (label : Nat) (rid : Nat) (sess : Option (Nat × Session)) (st : Status) (conf : Bool) (y7 : Nat) (y8 : List (List Byte)) : KeptEdge s (State.sendFragments s k label rid sess st conf y7 y8) := by
  induction y8 generalizing s k label rid sess st conf y7 <;> unfold State.sendFragments <;> (try dsimp only) <;> (repeat' split) <;> (try simp [*])

@[simp] theorem State.answerBrd_edge (s : State) (j : BrdJob) : KeptEdge s (State.answerBrd s j) := by
  first
  | (simp [State.answerBrd]; done)
  | (unfold State.answerBrd; (try dsimp only); (repeat' split) <;> (try simp); done)
  | (unfold State.answerBrd; (try dsimp only); (repeat' split) <;> (try simp [*]); done)

@[simp] theorem State.deliver_edge (s : State) (id : Nat) (slot : Nat) (w : JobCw) : KeptEdge s (State.deliver s id slot w) := by
  first
  | (simp [State.deliver]; done)
  | (unfold State.deliver; (try dsimp only); (repeat' split) <;> (try simp); done)
  | (unfold State.deliver; (try dsimp only); (repeat' split) <;> (try simp [*]); done)

@[simp] theorem State.gather_edge (s : State) (j : BrdJob) (p : Partition) (id : Nat) (cls : Nat) (i : Nat) (o : Nat) (y7 : Nat) : KeptEdge s (State.gather s j p id cls i o y7).1 := by
  induction y7 generalizing s j p id cls i o <;> unfold State.gather <;> (try dsimp only) <;> (repeat' split) <;> (try simp [*])

@[simp] theorem State.startBrd_edge (s : State) (j : BrdJob) (p : Partition) (cls : Nat) : KeptEdge s (State.startBrd s j p cls) := by
  first
  | (simp [State.startBrd]; done)
  | (unfold State.startBrd; (try dsimp only); (repeat' split) <;> (try simp); done)
  | (unfold State.startBrd; (try dsimp only); (repeat' split) <;> (try simp [*]); done)

@[simp] theorem State.loseEntry_edge (s : State) (d : Nat) : KeptEdge s (State.loseEntry s d) := by
  simp [State.loseEntry]

@[simp] theorem State.loseMap_edge (s : State) (d : Nat) : KeptEdge s (State.loseMap s d) := by
  unfold State.loseMap; (try dsimp only); (repeat' split) <;> (try simp)

@[simp] theorem State.damaged_edge (s : State) (d : Nat) : KeptEdge s (State.damaged s d) := by
  simp [State.damaged]

@[simp] theorem State.losePool_edge (s : State) (p : Nat) : KeptEdge s (State.losePool s p) := by
  unfold State.losePool
  dsimp only
  refine KeptEdge_trans ?_ (foldl_edge _ _ _ (fun t x => ?_))
  · simp
  · cases Tab.look t.cad.domains x <;> simp

@[simp] theorem State.readerFails_edge (s : State) (reader : Reader) : KeptEdge s (State.readerFails s reader) := by
  unfold State.readerFails; (try dsimp only); (repeat' split) <;> (try simp)

@[simp] theorem State.readFor_edge (s : State) (c : Nat) (a : Nat) (n : Nat) (errs : ReadErrs) (reader : Reader) : KeptEdge s (State.readFor s c a n errs reader) := by
  first
  | (simp [State.readFor]; done)
  | (unfold State.readFor; (try dsimp only); (repeat' split) <;> (try simp); done)
  | (unfold State.readFor; (try dsimp only); (repeat' split) <;> (try simp [*]); done)

@[simp] theorem State.latMax_edge (s : State) (c : Nat) (n : Nat) : KeptEdge s (State.latMax s c n) := by
  first
  | (simp [State.latMax]; done)
  | (unfold State.latMax; (try dsimp only); (repeat' split) <;> (try simp); done)
  | (unfold State.latMax; (try dsimp only); (repeat' split) <;> (try simp [*]); done)

@[simp] theorem State.serveReq_edge (s0 : State) (c : Nat) (r : DmcReq) : KeptEdge s0 (State.serveReq s0 c r) := by
  first
  | (simp [State.serveReq]; done)
  | (unfold State.serveReq; (try dsimp only); (repeat' split) <;> (try simp); done)
  | (unfold State.serveReq; (try dsimp only); (repeat' split) <;> (try simp [*]); done)

@[simp] theorem State.serveRun_edge (s : State) (c : Nat) (burst : Bool) (y3 : Nat) : KeptEdge s (State.serveRun s c burst y3) := by
  induction y3 generalizing s c burst <;> unfold State.serveRun <;> (try dsimp only) <;> (repeat' split) <;> (try simp [*])

@[simp] theorem State.writeDue_edge (s : State) (c : Nat) : KeptEdge s (State.writeDue s c) := by
  first
  | (simp [State.writeDue]; done)
  | (unfold State.writeDue; (try dsimp only); (repeat' split) <;> (try simp); done)
  | (unfold State.writeDue; (try dsimp only); (repeat' split) <;> (try simp [*]); done)

@[simp] theorem State.preemptWaiting_edge (s : State) (c : Nat) : KeptEdge s (State.preemptWaiting s c) := by
  first
  | (simp [State.preemptWaiting]; done)
  | (unfold State.preemptWaiting; (try dsimp only); (repeat' split) <;> (try simp); done)
  | (unfold State.preemptWaiting; (try dsimp only); (repeat' split) <;> (try simp [*]); done)

@[simp] theorem State.serveChan_edge (s : State) (c : Nat) : KeptEdge s (State.serveChan s c) := by
  first
  | (simp [State.serveChan]; done)
  | (unfold State.serveChan; (try dsimp only); (repeat' split) <;> (try simp); done)
  | (unfold State.serveChan; (try dsimp only); (repeat' split) <;> (try simp [*]); done)

@[simp] theorem State.serveAll_edge (s : State) : KeptEdge s (State.serveAll s) := by
  first
  | (simp [State.serveAll]; done)
  | (unfold State.serveAll; (try dsimp only); (repeat' split) <;> (try simp); done)
  | (unfold State.serveAll; (try dsimp only); (repeat' split) <;> (try simp [*]); done)

@[simp] theorem State.lateHit_edge (s : State) (c : Nat) (late : Bool) : KeptEdge s (State.lateHit s c late) := by
  simp [State.lateHit]

@[simp] theorem State.refreshTick_edge (s0 : State) (c : Nat) : KeptEdge s0 (State.refreshTick s0 c) := by
  simp [State.refreshTick]

theorem execRefreshTick_edge (c : Fin 32) (s : State) (t : State) (h : (execRefreshTick c s) = .next t) : KeptEdge s t := by
  simp only [execRefreshTick, Host.Outcome.next.injEq] at h; subst h; simp

@[simp] theorem State.pullIn_edge (s : State) (c : Nat) : KeptEdge s (State.pullIn s c) := by
  simp [State.pullIn]

theorem execPullInRefresh_edge (c : Fin 32) (s : State) (t : State) (h : (execPullInRefresh c s) = .next t) : KeptEdge s t := by
  simp only [execPullInRefresh, Host.Outcome.next.injEq] at h; subst h; simp

@[simp] theorem State.closeRow_edge (s : State) (c : Nat) (bank : Nat) : KeptEdge s (State.closeRow s c bank) := by
  first
  | (simp [State.closeRow]; done)
  | (unfold State.closeRow; (try dsimp only); (repeat' split) <;> (try simp); done)
  | (unfold State.closeRow; (try dsimp only); (repeat' split) <;> (try simp [*]); done)

theorem execRowIdlePrecharge_edge (c : Fin 32) (b : Fin 32) (s : State) (t : State) (h : execRowIdlePrecharge c b s = .next t) : KeptEdge s t := by
  unfold execRowIdlePrecharge at h
  split at h <;> (simp only [Host.Outcome.next.injEq] at h; subst h; simp)

@[simp] theorem State.dmcRead_edge (s : State) (c : Nat) (a : Nat) (cls : Nat) (age : Nat) (cycles : Nat) (late : Bool) (errs : ReadErrs) (reader : Reader) : KeptEdge s (State.dmcRead s c a cls age cycles late errs reader) := by
  unfold State.dmcRead; (try dsimp only); (repeat' split) <;> (try simp)

theorem execDmcRead_edge (c : Fin 32) (a : BitVec 32) (cls : Fin 32) (age : Nat) (cycles : Nat) (late : Bool) (errs : ReadErrs) (reader : Reader) (s : State) (t : State) (h : (execDmcRead c a cls age cycles late errs reader s) = .next t) : KeptEdge s t := by
  unfold execDmcRead at h; (try dsimp only at h); (repeat' split at h) <;> (try simp only [Host.Outcome.next.injEq, reduceCtorEq] at h) <;> (try subst h) <;> (try simp)

@[simp] theorem State.dmcWrite_edge (s : State) (c : Nat) (a : Nat) (cls : Nat) (age : Nat) (late : Bool) (d : BitVec 512) (w : BitVec 64) : KeptEdge s (State.dmcWrite s c a cls age late d w) := by
  simp [State.dmcWrite]

theorem execDmcWrite_edge (c : Fin 32) (a : BitVec 32) (cls : Fin 32) (age : Nat) (late : Bool) (data : BitVec 512) (bytes : BitVec 64) (s : State) (t : State) (h : (execDmcWrite c a cls age late data bytes s) = .next t) : KeptEdge s t := by
  unfold execDmcWrite at h; (try dsimp only at h); (repeat' split at h) <;> (try simp only [Host.Outcome.next.injEq, reduceCtorEq] at h) <;> (try subst h) <;> (try simp)

@[simp] theorem State.dueMerge_edge (s : State) (c : Nat) (a : Nat) : KeptEdge s (State.dueMerge s c a) := by
  first
  | (simp [State.dueMerge]; done)
  | (unfold State.dueMerge; (try dsimp only); (repeat' split) <;> (try simp); done)
  | (unfold State.dueMerge; (try dsimp only); (repeat' split) <;> (try simp [*]); done)

theorem execMergeEntryTimeout_edge (c : Fin 32) (a : BitVec 32) (errs : ReadErrs) (s : State) (t : State) (h : (execMergeEntryTimeout c a errs s) = .next t) : KeptEdge s t := by
  unfold execMergeEntryTimeout at h; (try dsimp only at h); (repeat' split at h) <;> (try simp only [Host.Outcome.next.injEq, reduceCtorEq] at h) <;> (try subst h) <;> (try simp)

@[simp] theorem State.reissue_edge (s : State) (c : Nat) (back : Nat) : KeptEdge s (State.reissue s c back) := by
  first
  | (simp [State.reissue]; done)
  | (unfold State.reissue; (try dsimp only); (repeat' split) <;> (try simp); done)
  | (unfold State.reissue; (try dsimp only); (repeat' split) <;> (try simp [*]); done)

@[simp] theorem State.ignored_edge (s : State) (c : Nat) (k : DramCmd) : KeptEdge s (State.ignored s c k) := by
  first
  | (simp [State.ignored]; done)
  | (unfold State.ignored; (try dsimp only); (repeat' split) <;> (try simp); done)
  | (unfold State.ignored; (try dsimp only); (repeat' split) <;> (try simp [*]); done)

@[simp] theorem State.takeBack_edge (s : State) (c : Nat) (back : Nat) : KeptEdge s (State.takeBack s c back) := by
  unfold State.takeBack
  dsimp only
  simp [-List.foldl_reverse]

@[simp] theorem State.errorReturn_edge (s : State) (c : Nat) (back : Nat) : KeptEdge s (State.errorReturn s c back) := by
  unfold State.errorReturn
  dsimp only
  cases (s.chan c).retry.reverse[back]? with
  | none => simp
  | some k => dsimp only; (repeat' split) <;> simp

theorem execErrorReturn_edge (c : Fin 32) (back : Fin 32) (s : State) (t : State) (h : (execErrorReturn c back s) = .next t) : KeptEdge s t := by
  simp only [execErrorReturn, Host.Outcome.next.injEq] at h; subst h; simp

@[simp] theorem State.caTestDone_edge (s : State) (c : Nat) (bad : List Nat) : KeptEdge s (State.caTestDone s c bad) := by
  simp [State.caTestDone]

theorem execCaLaneTestDone_edge (c : Fin 32) (bad : BitVec 16) (s : State) (t : State) (h : (execCaLaneTestDone c bad s) = .next t) : KeptEdge s t := by
  simp only [execCaLaneTestDone, Host.Outcome.next.injEq] at h; subst h; simp

@[simp] theorem State.fullCal_edge (s : State) (r : CalResult) (point : Nat) : KeptEdge s (State.fullCal s r point) := by
  simp [State.fullCal]

@[simp] theorem State.orderTransit_edge (s : State) (point : Nat) (ticks : Nat) (cal : CalResult) : KeptEdge s (State.orderTransit s point ticks cal) := by
  first
  | (simp [State.orderTransit]; done)
  | (unfold State.orderTransit; (try dsimp only); (repeat' split) <;> (try simp); done)
  | (unfold State.orderTransit; (try dsimp only); (repeat' split) <;> (try simp [*]); done)

@[simp] theorem State.stepTransit_edge (s : State) (m : Transit) (step : Nat) : KeptEdge s (State.stepTransit s m step) := by
  first
  | (simp [State.stepTransit]; done)
  | (unfold State.stepTransit; (try dsimp only); (repeat' split) <;> (try simp); done)
  | (unfold State.stepTransit; (try dsimp only); (repeat' split) <;> (try simp [*]); done)

@[simp] theorem State.transitSleep_edge (s : State) : KeptEdge s (State.transitSleep s) := by
  first
  | (simp [State.transitSleep]; done)
  | (unfold State.transitSleep; (try dsimp only); (repeat' split) <;> (try simp); done)
  | (unfold State.transitSleep; (try dsimp only); (repeat' split) <;> (try simp [*]); done)

@[simp] theorem State.transitWake_edge (s : State) : KeptEdge s (State.transitWake s) := by
  first
  | (simp [State.transitWake]; done)
  | (unfold State.transitWake; (try dsimp only); (repeat' split) <;> (try simp); done)
  | (unfold State.transitWake; (try dsimp only); (repeat' split) <;> (try simp [*]); done)

@[simp] theorem State.transitDone_edge (s : State) : KeptEdge s (State.transitDone s) := by
  first
  | (simp [State.transitDone]; done)
  | (unfold State.transitDone; (try dsimp only); (repeat' split) <;> (try simp); done)
  | (unfold State.transitDone; (try dsimp only); (repeat' split) <;> (try simp [*]); done)

@[simp] theorem State.transitStep_edge (s : State) : KeptEdge s (State.transitStep s) := by
  first
  | (simp [State.transitStep]; done)
  | (unfold State.transitStep; (try dsimp only); (repeat' split) <;> (try simp); done)
  | (unfold State.transitStep; (try dsimp only); (repeat' split) <;> (try simp [*]); done)

theorem execTransitStart_edge (ticks : Nat) (cal : CalResult) (s : State) (t : State) (h : (execTransitStart ticks cal s) = .next t) : KeptEdge s t := by
  unfold execTransitStart at h; (try dsimp only at h); (repeat' split at h) <;> (try simp only [Host.Outcome.next.injEq, reduceCtorEq] at h) <;> (try subst h) <;> (try simp)

@[simp] theorem State.holdPoint_edge (s : State) (p : Nat) : KeptEdge s (State.holdPoint s p) := by
  simp [State.holdPoint]

theorem execDmcFreqReq_edge (r : Req) (v : Word) (s : State) (t : State) (h : (execDmcFreqReq r v s) = .next t) : KeptEdge s t := by
  simp only [execDmcFreqReq, Host.Outcome.next.injEq] at h; subst h; simp

@[simp] theorem State.scrubCw_edge (s : State) (c : Nat) (a : Nat) (errs : ReadErrs) : KeptEdge s (State.scrubCw s c a errs) := by
  unfold State.scrubCw; (try dsimp only); (repeat' split) <;> (try simp)

@[simp] theorem State.scrubRow_edge (s : State) (c : Nat) (errs : List (Fin 32 × ReadErrs)) : KeptEdge s (State.scrubRow s c errs) := by
  simp [State.scrubRow]

theorem execScrubRow_edge (c : Fin 32) (errs : List (Fin 32 × ReadErrs)) (s : State) (t : State) (h : (execScrubRow c errs s) = .next t) : KeptEdge s t := by
  unfold execScrubRow at h; (try dsimp only at h); (repeat' split at h) <;> (try simp only [Host.Outcome.next.injEq, reduceCtorEq] at h) <;> (try subst h) <;> (try simp)

theorem execCorrected2Writeback_edge (c : Fin 32) (a : BitVec 32) (s : State) (t : State) (h : (execCorrected2Writeback c a s) = .next t) : KeptEdge s t := by
  unfold execCorrected2Writeback at h; (try dsimp only at h); (repeat' split at h) <;> (try simp only [Host.Outcome.next.injEq, reduceCtorEq] at h) <;> (try subst h) <;> (try simp)

@[simp] theorem State.hotpos_edge (s : State) (c : Nat) (k : Nat) : KeptEdge s (State.hotpos s c k) := by
  unfold State.hotpos; (try dsimp only); (repeat' split) <;> (try simp)

theorem execHotpos_edge (c : Fin 32) (sym : Fin 36) (s : State) (t : State) (h : (execHotpos c sym s) = .next t) : KeptEdge s t := by
  simp only [execHotpos, Host.Outcome.next.injEq] at h; subst h; simp

theorem execEccInjArm_edge (r : Req) (v : Word) (s : State) (t : State) (h : (execEccInjArm r v s) = .next t) : KeptEdge s t := by
  simp only [execEccInjArm, Host.Outcome.next.injEq] at h; subst h; simp

@[simp] theorem State.startLeg_edge (s0 : State) (b : Nat) : KeptEdge s0 (State.startLeg s0 b) := by
  unfold State.startLeg; (try dsimp only); (repeat' split) <;> (try simp)

@[simp] theorem State.nextDram_edge (s : State) (c : Nat) : KeptEdge s (State.nextDram s c).2 := by
  unfold State.nextDram; (try dsimp only); (repeat' split) <;> (try simp)

@[simp] theorem State.nextBase_edge (s : State) : KeptEdge s (State.nextBase s).2 := by
  unfold State.nextBase; (try dsimp only); (repeat' split) <;> (try simp)

/-- A leg's start keeps them where the schedule before it did. -/
theorem State.tryLeg_edge (s : State) (n : Nat × State) (h : KeptEdge s n.2) : KeptEdge s (State.tryLeg s n) := by
  unfold State.tryLeg
  split
  · simp
  · split
    · simp_all
    · simp_all

@[simp] theorem State.nextFull_edge (s : State) : KeptEdge s (State.nextFull s).2 := by
  first
  | (simp [State.nextFull]; done)
  | (unfold State.nextFull; (try dsimp only); (repeat' split) <;> (try simp); done)
  | (unfold State.nextFull; (try dsimp only); (repeat' split) <;> (try simp [*]); done)

/-- A leg of a full-stack self-test keeps them where the choice before it did. -/
theorem State.tryFull_edge (s : State) (n : Nat × State) (h : KeptEdge s n.2) : KeptEdge s (State.tryFull s n) := by
  unfold State.tryFull
  repeat' split
  all_goals simp_all

theorem execLegStart_edge (w : LegWho) (s : State) (t : State) (h : (execLegStart w s) = .next t) : KeptEdge s t := by
  unfold execLegStart at h
  repeat' split at h
  all_goals first
    | (simp only [Host.Outcome.next.injEq] at h; subst h; simp; done)
    | (simp only [Host.Outcome.next.injEq] at h; subst h; exact State.tryLeg_edge _ _ (by simp))
    | (simp only [Host.Outcome.next.injEq] at h; subst h; exact State.tryFull_edge _ _ (by simp))

@[simp] theorem State.sramFailed_edge (s : State) (b : Nat) : KeptEdge s (State.sramFailed s b) := by
  simp [State.sramFailed]

@[simp] theorem State.vxuFailed_edge (s : State) (u : Nat) : KeptEdge s (State.vxuFailed s u) := by
  simp [State.vxuFailed]

@[simp] theorem State.engineFails_edge (s : State) (e : Nat) (d : Nat) : KeptEdge s (State.engineFails s e d) := by
  simp [State.engineFails]

@[simp] theorem State.legAction_edge (s : State) (b : Nat) (column : Option Nat) : KeptEdge s (State.legAction s b column) := by
  unfold State.legAction; (try dsimp only); (repeat' split) <;> (try simp)

@[simp] theorem State.legJudged_edge (s : State) (l : Leg) (good : Bool) (column : Option Nat) : KeptEdge s (State.legJudged s l good column) := by
  first
  | (simp [State.legJudged]; done)
  | (unfold State.legJudged; (try dsimp only); (repeat' split) <;> (try simp); done)
  | (unfold State.legJudged; (try dsimp only); (repeat' split) <;> (try simp [*]); done)

@[simp] theorem State.legEnds_edge (s : State) (l : Leg) (good : Bool) (column : Option Nat) : KeptEdge s (State.legEnds s l good column) := by
  simp [State.legEnds]

theorem execLegEnd_edge (block : BitVec 32) (signature : BitVec 32) (column : Option (Fin 32)) (s : State) (t : State) (h : (execLegEnd block signature column s) = .next t) : KeptEdge s t := by
  unfold execLegEnd at h; (try dsimp only at h); (repeat' split at h) <;> (try simp only [Host.Outcome.next.injEq, reduceCtorEq] at h) <;> (try subst h) <;> (try simp)

theorem execLegBudgetExpire_edge (block : BitVec 32) (tally : BitVec 32) (s : State) (t : State) (h : (execLegBudgetExpire block tally s) = .next t) : KeptEdge s t := by
  unfold execLegBudgetExpire at h; (try dsimp only at h); (repeat' split at h) <;> (try simp only [Host.Outcome.next.injEq, reduceCtorEq] at h) <;> (try subst h) <;> (try simp)

@[simp] theorem State.columnChunk_edge (s : State) (c : Nat) : KeptEdge s (State.columnChunk s c) := by
  unfold State.columnChunk; (try dsimp only); (repeat' split) <;> (try simp)

theorem execColumnRepairChunk_edge (c : Fin 32) (s : State) (t : State) (h : (execColumnRepairChunk c s) = .next t) : KeptEdge s t := by
  unfold execColumnRepairChunk at h; (try dsimp only at h); (repeat' split at h) <;> (try simp only [Host.Outcome.next.injEq, reduceCtorEq] at h) <;> (try subst h) <;> (try simp)

theorem execClkBundleLost_edge (g : Fin 4) (b : Fin 2) (s : State) (t : State) (h : (execClkBundleLost g b s) = .next t) : KeptEdge s t := by
  simp only [execClkBundleLost, Host.Outcome.next.injEq] at h; subst h; simp

@[simp] theorem State.parcelLost_edge (s : State) (parcel : Nat) (ch : Nat) : KeptEdge s (State.parcelLost s parcel ch) := by
  simp [State.parcelLost]

@[simp] theorem State.putMoved_edge (s : State) (ref : Nat) (m : MovedSlice) : KeptEdge s (State.putMoved s ref m) := by
  simp [State.putMoved]

@[simp] theorem State.loseSlice_edge (s : State) (c : Nat) (ref : Nat) : KeptEdge s (State.loseSlice s c ref) := by
  simp [State.loseSlice]

@[simp] theorem State.copySlice_edge (s : State) (c : Nat) (ref : Nat) (parts : List ResPart) : KeptEdge s (State.copySlice s c ref parts) := by
  unfold State.copySlice
  dsimp only
  apply foldl_edge
  intro t x
  repeat' split
  all_goals simp

@[simp] theorem State.placeSlice_edge (s : State) (c : Nat) (ref : Nat) (copy : Bool) : KeptEdge s (State.placeSlice s c ref copy).1 := by
  unfold State.placeSlice; (try dsimp only); (repeat' split) <;> (try simp)

@[simp] theorem State.salvageEnds_edge (s : State) (v : Salvage) : KeptEdge s (State.salvageEnds s v) := by
  simp [State.salvageEnds]

@[simp] theorem State.salvageSlice_edge (s : State) (mismatches : Nat) (dead : Bool) : KeptEdge s (State.salvageSlice s mismatches dead) := by
  unfold State.salvageSlice
  dsimp only
  split
  · simp
  · rename_i v s1 h
    have hk : KeptEdge s s1 := by
      repeat' split at h
      all_goals simp_all
      all_goals rw [← h.2]
      all_goals simp
    repeat' split
    all_goals simp_all

theorem execSalvageSlice_edge (mismatches : Nat) (dead : Bool) (s : State) (t : State) (h : (execSalvageSlice mismatches dead s) = .next t) : KeptEdge s t := by
  unfold execSalvageSlice at h; (try dsimp only at h); (repeat' split at h) <;> (try simp only [Host.Outcome.next.injEq, reduceCtorEq] at h) <;> (try subst h) <;> (try simp)

@[simp] theorem State.startFulltest_edge (s : State) (inLoad : Bool) : KeptEdge s (State.startFulltest s inLoad) := by
  simp [State.startFulltest]

theorem execFulltest_edge (r : Req) (s : State) (t : State) (h : (execFulltest r s) = .next t) : KeptEdge s t := by
  simp only [execFulltest, Host.Outcome.next.injEq] at h; subst h; simp

theorem execFulltestDone_edge (s : State) (t : State) (h : (execFulltestDone s) = .next t) : KeptEdge s t := by
  unfold execFulltestDone at h; (try dsimp only at h); (repeat' split at h) <;> (try simp only [Host.Outcome.next.injEq, reduceCtorEq] at h) <;> (try subst h) <;> (try simp)

theorem execAbortFulltest_edge (r : Req) (s : State) (t : State) (h : (execAbortFulltest r s) = .next t) : KeptEdge s t := by
  simp only [execAbortFulltest, Host.Outcome.next.injEq] at h; subst h; simp

theorem execFuseCommit_edge (r : Req) (s : State) (t : State) (h : (execFuseCommit r s) = .next t) : KeptEdge s t := by
  simp only [execFuseCommit, Host.Outcome.next.injEq] at h; subst h; simp

theorem execLegCmd_edge (r : Req) (s : State) (t : State) (h : (execLegCmd r s) = .next t) : KeptEdge s t := by
  simp only [execLegCmd, Host.Outcome.next.injEq] at h; subst h; simp

@[simp] theorem State.calValue_edge (s : State) (c : Nat) (kind : Nat) (lane : Nat) (v : Nat) : KeptEdge s (State.calValue s c kind lane v) := by
  simp [State.calValue]

@[simp] theorem State.calStep_edge (s : State) (c : Nat) (values : List (Nat × Nat)) : KeptEdge s (State.calStep s c values) := by
  unfold State.calStep
  dsimp only
  refine KeptEdge_trans (t := List.foldl _ s _) (foldl_edge _ _ s ?_)
    (KeptEdge_trans (t := State.setChan _ c _) (State.setChan_edge _ _ _) (State.inc64_edge _ _ _))
  intro t x
  split <;> simp

theorem execCalStep_edge (c : Fin 32) (values : List (Nat × Nat)) (s : State) (t : State) (h : (execCalStep c values s) = .next t) : KeptEdge s t := by
  unfold execCalStep at h; (try dsimp only at h); (repeat' split at h) <;> (try simp only [Host.Outcome.next.injEq, reduceCtorEq] at h) <;> (try subst h) <;> (try simp)

theorem execCalStepForced_edge (c : Fin 32) (values : List (Nat × Nat)) (s : State) (t : State) (h : (execCalStepForced c values s) = .next t) : KeptEdge s t := by
  unfold execCalStepForced at h; (try dsimp only at h); (repeat' split at h) <;> (try simp only [Host.Outcome.next.injEq, reduceCtorEq] at h) <;> (try subst h) <;> (try simp)

@[simp] theorem State.tapMove_edge (s : State) (c : Nat) (kind : Nat) (lane : Nat) : KeptEdge s (State.tapMove s c kind lane) := by
  unfold State.tapMove; (try dsimp only); (repeat' split) <;> (try simp)

theorem execCalTapMove_edge (c : Fin 32) (kind : Fin 4) (lane : Fin 78) (s : State) (t : State) (h : (execCalTapMove c kind lane s) = .next t) : KeptEdge s t := by
  unfold execCalTapMove at h; (try dsimp only at h); (repeat' split at h) <;> (try simp only [Host.Outcome.next.injEq, reduceCtorEq] at h) <;> (try subst h) <;> (try simp)

@[simp] theorem State.pd13_edge (s : State) (x : PwrState) : KeptEdge s (State.pd13 s x) := by
  simp [State.pd13]

@[simp] theorem State.manufactured_edge (s : State) (made : List (Nat × DWord)) : KeptEdge s (State.manufactured s made) := by
  simp [State.manufactured]

theorem execSense_edge (why : SenseWhy) (weak : List (Fin 1024 × BitVec 64)) (s : State) (t : State) (h : (execSense why weak s) = .next t) : KeptEdge s t := by
  unfold execSense at h; (try dsimp only at h); (repeat' split at h) <;> (try simp only [Host.Outcome.next.injEq, reduceCtorEq] at h) <;> (try subst h) <;> (try simp)

theorem execReinforce_edge (r : Req) (s : State) (t : State) (h : (execReinforce r s) = .next t) : KeptEdge s t := by
  simp only [execReinforce, Host.Outcome.next.injEq] at h; subst h; simp

@[simp] theorem State.setSlock_edge (s : State) (n : Nat) : KeptEdge s (State.setSlock s n) := by
  unfold State.setSlock; (try dsimp only); (repeat' split) <;> (try simp)

theorem execFseSlock_edge (r : Req) (n : Fin 16) (v : Word) (s : State) (t : State) (h : (execFseSlock r n v s) = .next t) : KeptEdge s t := by
  simp only [execFseSlock, Host.Outcome.next.injEq] at h; subst h; simp

@[simp] theorem State.allOff_edge (s : State) : KeptEdge s (State.allOff s) := by
  simp [State.allOff]

@[simp] theorem State.shutdown_edge (s : State) (die : Nat) (path : Nat) (value : Int) : KeptEdge s (State.shutdown s die path value) := by
  simp [State.shutdown]

@[simp] theorem State.scan_edge (s : State) (l : List Int) : KeptEdge s (State.scan s l) := by
  simp [State.scan]

theorem execComparatorScan_edge (sensors : List (BitVec 16)) (s : State) (t : State) (h : (execComparatorScan sensors s) = .next t) : KeptEdge s t := by
  simp only [execComparatorScan, Host.Outcome.next.injEq] at h; subst h; simp

@[simp] theorem State.exclude_edge (s : State) (n : Nat) : KeptEdge s (State.exclude s n) := by
  simp [State.exclude]

@[simp] theorem State.modelOnly_edge (s : State) (u : Nat) : KeptEdge s (State.modelOnly s u) := by
  simp [State.modelOnly]

@[simp] theorem State.exclusion_edge (s : State) : KeptEdge s (State.exclusion s) := by
  simp [State.exclusion]

@[simp] theorem State.updateModel_edge (s : State) (m : Thermals) : KeptEdge s (State.updateModel s m) := by
  simp [State.updateModel]

@[simp] theorem State.setLevel_edge (s : State) (new : Nat) (u : Nat) : KeptEdge s (State.setLevel s new u) := by
  simp [State.setLevel]

@[simp] theorem State.throttle_edge (s : State) : KeptEdge s (State.throttle s) := by
  simp [State.throttle]

@[simp] theorem State.throttleStep_edge (s : State) : KeptEdge s (State.throttleStep s) := by
  simp [State.throttleStep]

theorem execThrottleStep_edge (s : State) (t : State) (h : (execThrottleStep s) = .next t) : KeptEdge s t := by
  unfold execThrottleStep at h; (try dsimp only at h); (repeat' split at h) <;> (try simp only [Host.Outcome.next.injEq, reduceCtorEq] at h) <;> (try subst h) <;> (try simp)

@[simp] theorem State.warnMoves_edge (s : State) (base : Bool) (old : Bool) (new : Bool) : KeptEdge s (State.warnMoves s base old new) := by
  first
  | (simp [State.warnMoves]; done)
  | (unfold State.warnMoves; (try dsimp only); (repeat' split) <;> (try simp); done)
  | (unfold State.warnMoves; (try dsimp only); (repeat' split) <;> (try simp [*]); done)

@[simp] theorem State.warning_edge (s : State) : KeptEdge s (State.warning s) := by
  simp [State.warning]

@[simp] theorem State.followTarget_edge (s : State) : KeptEdge s (State.followTarget s) := by
  unfold State.followTarget; (try dsimp only); (repeat' split) <;> (try simp)

@[simp] theorem State.bandStep_edge (s : State) : KeptEdge s (State.bandStep s) := by
  simp [State.bandStep]

@[simp] theorem State.intervalStep_edge (s : State) : KeptEdge s (State.intervalStep s) := by
  simp [State.intervalStep]

@[simp] theorem State.takeReadings_edge (s : State) (m : Thermals) : KeptEdge s (State.takeReadings s m) := by
  simp [State.takeReadings]

@[simp] theorem State.takeRails_edge (s : State) (m : Thermals) : KeptEdge s (State.takeRails s m) := by
  simp [State.takeRails]

@[simp] theorem State.measure_edge (s : State) (m : Thermals) : KeptEdge s (State.measure s m) := by
  simp [State.measure]

theorem execThermalMeasurement_edge (m : Thermals) (s : State) (t : State) (h : (execThermalMeasurement m s) = .next t) : KeptEdge s t := by
  unfold execThermalMeasurement at h; (try dsimp only at h); (repeat' split at h) <;> (try simp only [Host.Outcome.next.injEq, reduceCtorEq] at h) <;> (try subst h) <;> (try simp)

theorem execFasterPointTimer_edge (s : State) (t : State) (h : (execFasterPointTimer s) = .next t) : KeptEdge s t := by
  unfold execFasterPointTimer at h; (try dsimp only at h); (repeat' split at h) <;> (try simp only [Host.Outcome.next.injEq, reduceCtorEq] at h) <;> (try subst h) <;> (try simp)

@[simp] theorem State.railFailed_edge (s : State) (r : Nat) : KeptEdge s (State.railFailed s r) := by
  simp [State.railFailed]

@[simp] theorem State.railFault_edge (s : State) (src : Nat) (r : Nat) (v : Nat) : KeptEdge s (State.railFault s src r v) := by
  simp [State.railFault]

theorem execRailOc_edge (r : Fin 6) (mA : BitVec 16) (s : State) (t : State) (h : execRailOc r mA s = .next t) : KeptEdge s t := by
  unfold execRailOc at h
  split at h <;> (simp only [Host.Outcome.next.injEq] at h; subst h; simp)

theorem execRailUv_edge (r : Fin 6) (mV : BitVec 16) (s : State) (t : State) (h : execRailUv r mV s = .next t) : KeptEdge s t := by
  unfold execRailUv at h
  split at h <;> (simp only [Host.Outcome.next.injEq] at h; subst h; simp)

theorem execRailPeak_edge (r : Fin 6) (mA : BitVec 16) (s : State) (t : State) (h : execRailPeak r mA s = .next t) : KeptEdge s t := by
  unfold execRailPeak at h
  split at h <;> (simp only [Host.Outcome.next.injEq] at h; subst h; simp)

@[simp] theorem State.clearPeaks_edge (s : State) : KeptEdge s (State.clearPeaks s) := by
  simp [State.clearPeaks]

theorem execClearPeak_edge (r : Req) (s : State) (t : State) (h : (execClearPeak r s) = .next t) : KeptEdge s t := by
  simp only [execClearPeak, Host.Outcome.next.injEq] at h; subst h; simp

theorem execMgcWatchdog_edge (core : Fin 4) (s : State) (t : State) (h : (execMgcWatchdog core s) = .next t) : KeptEdge s t := by
  unfold execMgcWatchdog at h; (try dsimp only at h); (repeat' split at h) <;> (try simp only [Host.Outcome.next.injEq, reduceCtorEq] at h) <;> (try subst h) <;> (try simp)

@[simp] theorem State.copyEntry_edge (s : State) (e : HistEntry) : KeptEdge s (State.copyEntry s e) := by
  simp [State.copyEntry]

@[simp] theorem State.ledgerCopy_edge (s : State) (e : HistEntry) (bad : Option Nat) : KeptEdge s (State.ledgerCopy s e bad) := by
  unfold State.ledgerCopy; (try dsimp only); (repeat' split) <;> (try simp)

theorem execLedgerCopy_edge (bad : Option (BitVec 32)) (s : State) (t : State) (h : (execLedgerCopy bad s) = .next t) : KeptEdge s t := by
  unfold execLedgerCopy at h; (try dsimp only at h); (repeat' split at h) <;> (try simp only [Host.Outcome.next.injEq, reduceCtorEq] at h) <;> (try subst h) <;> (try simp)

theorem execAckAlertn_edge (r : Req) (s : State) (t : State) (h : (execAckAlertn r s) = .next t) : KeptEdge s t := by
  simp only [execAckAlertn, Host.Outcome.next.injEq] at h; subst h; simp

theorem execClearAll_edge (r : Req) (s : State) (t : State) (h : (execClearAll r s) = .next t) : KeptEdge s t := by
  simp only [execClearAll, Host.Outcome.next.injEq] at h; subst h; simp

theorem execFltForce_edge (r : Req) (i : Fin 4) (v : Word) (s : State) (t : State) (h : (execFltForce r i v s) = .next t) : KeptEdge s t := by
  simp only [execFltForce, Host.Outcome.next.injEq] at h; subst h; simp

@[simp] theorem State.budget_edge (s : State) : KeptEdge s (State.budget s) := by
  simp [State.budget]

@[simp] theorem State.trialTick_edge (s : State) : KeptEdge s (State.trialTick s) := by
  simp [State.trialTick]

theorem execAvailMsTick_edge (s0 : State) (t : State) (h : (execAvailMsTick s0) = .next t) : KeptEdge s0 t := by
  unfold execAvailMsTick at h; (try dsimp only at h); (repeat' split at h) <;> (try simp only [Host.Outcome.next.injEq, reduceCtorEq] at h) <;> (try subst h) <;> (try simp)

@[simp] theorem State.slotLost_edge (s : State) (w : Nat) : KeptEdge s (State.slotLost s w) := by
  first
  | (simp [State.slotLost]; done)
  | (unfold State.slotLost; (try dsimp only); (repeat' split) <;> (try simp); done)
  | (unfold State.slotLost; (try dsimp only); (repeat' split) <;> (try simp [*]); done)

theorem execAvailSlotWrite_edge (bad : Option (BitVec 32)) (s : State) (t : State) (h : execAvailSlotWrite bad s = .next t) : KeptEdge s t := by
  cases bad <;> (simp only [execAvailSlotWrite, Host.Outcome.next.injEq] at h; subst h; simp)

theorem execAvailBucketRoll_edge (s : State) (t : State) (h : (execAvailBucketRoll s) = .next t) : KeptEdge s t := by
  unfold execAvailBucketRoll at h; (try dsimp only at h); (repeat' split at h) <;> (try simp only [Host.Outcome.next.injEq, reduceCtorEq] at h) <;> (try subst h) <;> (try simp)

@[simp] theorem State.pmcClear_edge (s : State) (n : Nat) : KeptEdge s (State.pmcClear s n) := by
  simp [State.pmcClear]

@[simp] theorem State.pmcSelect_edge (s : State) (n : Nat) (v : Word) : KeptEdge s (State.pmcSelect s n v) := by
  simp [State.pmcSelect]

theorem execPmcSelWrite_edge (r : Req) (n : Fin 128) (v : Word) (s : State) (t : State) (h : (execPmcSelWrite r n v s) = .next t) : KeptEdge s t := by
  simp only [execPmcSelWrite, Host.Outcome.next.injEq] at h; subst h; simp

theorem execCounterWrap_edge (n : Fin 128) (inc : BitVec 48) (s : State) (t : State) (h : (execCounterWrap n inc s) = .next t) : KeptEdge s t := by
  unfold execCounterWrap at h; (try dsimp only at h); (repeat' split at h) <;> (try simp only [Host.Outcome.next.injEq, reduceCtorEq] at h) <;> (try subst h) <;> (try simp)

@[simp] theorem State.sampleLost_edge (s : State) : KeptEdge s (State.sampleLost s) := by
  simp [State.sampleLost]

@[simp] theorem State.takeSample_edge (s : State) (n : Nat) (skid : Nat) (x : SampleCtx) : KeptEdge s (State.takeSample s n skid x) := by
  first
  | (simp [State.takeSample]; done)
  | (unfold State.takeSample; (try dsimp only); (repeat' split) <;> (try simp); done)
  | (unfold State.takeSample; (try dsimp only); (repeat' split) <;> (try simp [*]); done)

theorem execPmcSample_edge (n : Fin 128) (skid : Option (Fin 16)) (s : State) (t : State) (h : (execPmcSample n skid s) = .next t) : KeptEdge s t := by
  unfold execPmcSample at h; (try dsimp only at h); (repeat' split at h) <;> (try simp only [Host.Outcome.next.injEq, reduceCtorEq] at h) <;> (try subst h) <;> (try simp)

@[simp] theorem State.putRecord_edge (s : State) (pi : Nat) (p : Partition) (l : List Byte) : KeptEdge s (State.putRecord s pi p l) := by
  simp [State.putRecord]

@[simp] theorem State.putRecords_edge (s : State) (pi : Nat) (p : Partition) (l : List (List Byte)) : KeptEdge s (State.putRecords s pi p l) := by
  unfold State.putRecords
  induction l generalizing s with
  | nil => simp
  | cons x r ih =>
    simp only [List.foldl_cons]
    exact KeptEdge_trans (State.putRecord_edge s pi p x) (ih _)

@[simp] theorem State.dump_edge (s : State) (pi : Nat) (p : Partition) : KeptEdge s (State.dump s pi p) := by
  simp [State.dump]

theorem execCounterDump_edge (s : State) (t : State) (h : (execCounterDump s) = .next t) : KeptEdge s t := by
  unfold execCounterDump at h; (try dsimp only at h); (repeat' split at h) <;> (try simp only [Host.Outcome.next.injEq, reduceCtorEq] at h) <;> (try subst h) <;> (try simp)

@[simp] theorem State.vxuProgError_edge (s : State) (u : Nat) (word : Nat) : KeptEdge s (State.vxuProgError s u word) := by
  simp [State.vxuProgError]

@[simp] theorem State.vxuIntegrity_edge (s : State) (u : Nat) : KeptEdge s (State.vxuIntegrity s u) := by
  simp [State.vxuIntegrity]

@[simp] theorem State.vxuBadWord_edge (s : State) (u : Nat) (w : WordAt) : KeptEdge s (State.vxuBadWord s u w) := by
  unfold State.vxuBadWord; (try dsimp only); (repeat' split) <;> (try simp)

@[simp] theorem State.composeRun_edge (s : State) (u : Nat) (y2 : Nat) : KeptEdge s (State.composeRun s u y2) := by
  induction y2 generalizing s u <;> unfold State.composeRun <;> (try dsimp only) <;> (repeat' split) <;> (try simp [*])

@[simp] theorem State.sendVec_edge (s : State) (k : Nat) (label : Nat) (l : List (List Byte)) : KeptEdge s (State.sendVec s k label l) := by
  first
  | (simp [State.sendVec]; done)
  | (unfold State.sendVec; (try dsimp only); (repeat' split) <;> (try simp); done)
  | (unfold State.sendVec; (try dsimp only); (repeat' split) <;> (try simp [*]); done)

@[simp] theorem State.closePacket_edge (s : State) (u : Nat) : KeptEdge s (State.closePacket s u) := by
  simp [State.closePacket]

@[simp] theorem State.sendFrame_edge (s : State) (u : Nat) (b : List Byte) : KeptEdge s (State.sendFrame s u b) := by
  simp [State.sendFrame]

@[simp] theorem State.stopStream_edge (s : State) (u : Nat) (reason : Nat) (withEnd : Bool) : KeptEdge s (State.stopStream s u reason withEnd) := by
  simp [State.stopStream]

@[simp] theorem State.streamOver_edge (s : State) (u : Nat) : KeptEdge s (State.streamOver s u) := by
  first
  | (simp [State.streamOver]; done)
  | (unfold State.streamOver; (try dsimp only); (repeat' split) <;> (try simp); done)
  | (unfold State.streamOver; (try dsimp only); (repeat' split) <;> (try simp [*]); done)

@[simp] theorem State.composeAll_edge (s : State) (u : Nat) : KeptEdge s (State.composeAll s u) := by
  simp [State.composeAll]

@[simp] theorem State.streamLost_edge (s : State) (u : Nat) (k : Nat) : KeptEdge s (State.streamLost s u k) := by
  simp [State.streamLost]

@[simp] theorem State.dropOwed_edge (s : State) (k : Nat) : KeptEdge s (State.dropOwed s k) := by
  first
  | (simp [State.dropOwed]; done)
  | (unfold State.dropOwed; (try dsimp only); (repeat' split) <;> (try simp); done)
  | (unfold State.dropOwed; (try dsimp only); (repeat' split) <;> (try simp [*]); done)

@[simp] theorem State.endStreams_edge (s : State) (reason : Nat) : KeptEdge s (State.endStreams s reason) := by
  simp [State.endStreams]

@[simp] theorem State.sendData_edge (s : State) (u : Nat) (f : VecFrame) (rest : List VecFrame) : KeptEdge s (State.sendData s u f rest) := by
  simp [State.sendData]

@[simp] theorem State.sendStall_edge (s : State) (u : Nat) (gap : Bool) : KeptEdge s (State.sendStall s u gap) := by
  simp [State.sendStall]

@[simp] theorem State.underrun_edge (s : State) (u : Nat) : KeptEdge s (State.underrun s u) := by
  simp [State.underrun]

@[simp] theorem State.sendEnd_edge (s : State) (u : Nat) (reason : Nat) : KeptEdge s (State.sendEnd s u reason) := by
  simp [State.sendEnd]

@[simp] theorem State.sendPause_edge (s : State) (u : Nat) : KeptEdge s (State.sendPause s u) := by
  simp [State.sendPause]

@[simp] theorem State.sendOwed_edge (s : State) (u : Nat) (o : OwedEnd) (rest : List OwedEnd) : KeptEdge s (State.sendOwed s u o rest) := by
  simp [State.sendOwed]

@[simp] theorem State.boundStop_edge (s : State) (u : Nat) : KeptEdge s (State.boundStop s u) := by
  first
  | (simp [State.boundStop]; done)
  | (unfold State.boundStop; (try dsimp only); (repeat' split) <;> (try simp); done)
  | (unfold State.boundStop; (try dsimp only); (repeat' split) <;> (try simp [*]); done)

@[simp] theorem State.slotEmpty_edge (s : State) (u : Nat) : KeptEdge s (State.slotEmpty s u) := by
  first
  | (simp [State.slotEmpty]; done)
  | (unfold State.slotEmpty; (try dsimp only); (repeat' split) <;> (try simp); done)
  | (unfold State.slotEmpty; (try dsimp only); (repeat' split) <;> (try simp [*]); done)

@[simp] theorem State.slotSend_edge (s : State) (u : Nat) : KeptEdge s (State.slotSend s u) := by
  unfold State.slotSend; (try dsimp only); (repeat' split) <;> (try simp)

@[simp] theorem State.slotsSend_edge (s : State) (u : Nat) (y2 : Nat) : KeptEdge s (State.slotsSend s u y2) := by
  induction y2 generalizing s u <;> unfold State.slotsSend <;> (try dsimp only) <;> (repeat' split) <;> (try simp [*])

@[simp] theorem State.pacerCycle_edge (s : State) (u : Nat) : KeptEdge s (State.pacerCycle s u) := by
  unfold State.pacerCycle; (try dsimp only); (repeat' split) <;> (try simp)

@[simp] theorem State.pacerRun_edge (s : State) (u : Nat) (y2 : Nat) : KeptEdge s (State.pacerRun s u y2) := by
  induction y2 generalizing s u <;> unfold State.pacerRun <;> (try dsimp only) <;> (repeat' split) <;> (try simp [*])

theorem execVxuFrameSlot_edge (u : Fin 16) (cycles : Nat) (s : State) (t : State) (h : (execVxuFrameSlot u cycles s) = .next t) : KeptEdge s t := by
  simp only [execVxuFrameSlot, Host.Outcome.next.injEq] at h; subst h; simp

theorem execVecPacketClose_edge (u : Fin 16) (s : State) (t : State) (h : execVecPacketClose u s = .next t) : KeptEdge s t := by
  unfold execVecPacketClose at h
  split at h <;> (simp only [Host.Outcome.next.injEq] at h; subst h; simp)

@[simp] theorem State.vxuStart_edge (s : State) (u : Nat) : KeptEdge s (State.vxuStart s u) := by
  unfold State.vxuStart; (try dsimp only); (repeat' split) <;> (try simp)

@[simp] theorem State.vxuPause_edge (s0 : State) (u : Nat) : KeptEdge s0 (State.vxuPause s0 u) := by
  simp [State.vxuPause]

@[simp] theorem State.vxuResume_edge (s : State) (u : Nat) : KeptEdge s (State.vxuResume s u) := by
  simp [State.vxuResume]

@[simp] theorem State.vxuStop_edge (s : State) (u : Nat) : KeptEdge s (State.vxuStop s u) := by
  simp [State.vxuStop]

@[simp] theorem State.vxuDo_edge (s : State) (op : VxuOp) (u : Nat) : KeptEdge s (State.vxuDo s op u) := by
  unfold State.vxuDo; (try dsimp only); (repeat' split) <;> (try simp)

@[simp] theorem State.noteGcmd_edge (s : State) (sel : VxuSel) (op : VxuOp) : KeptEdge s (State.noteGcmd s sel op) := by
  unfold State.noteGcmd; (try dsimp only); (repeat' split) <;> (try simp)

@[simp] theorem State.vxuCmd_edge (s : State) (r : Req) (sel : VxuSel) (op : VxuOp) : KeptEdge s (State.vxuCmd s r sel op) := by
  simp [State.vxuCmd]

theorem execVxuStart_edge (r : Req) (sel : VxuSel) (s : State) (t : State) (h : (execVxuStart r sel s) = .next t) : KeptEdge s t := by
  simp only [execVxuStart, Host.Outcome.next.injEq] at h; subst h; simp

theorem execVxuPause_edge (r : Req) (sel : VxuSel) (s : State) (t : State) (h : (execVxuPause r sel s) = .next t) : KeptEdge s t := by
  simp only [execVxuPause, Host.Outcome.next.injEq] at h; subst h; simp

theorem execVxuResume_edge (r : Req) (sel : VxuSel) (s : State) (t : State) (h : (execVxuResume r sel s) = .next t) : KeptEdge s t := by
  simp only [execVxuResume, Host.Outcome.next.injEq] at h; subst h; simp

theorem execVxuStop_edge (r : Req) (sel : VxuSel) (s : State) (t : State) (h : (execVxuStop r sel s) = .next t) : KeptEdge s t := by
  simp only [execVxuStop, Host.Outcome.next.injEq] at h; subst h; simp

@[simp] theorem State.readWords_edge (s : State) (rt : Bool) (pi : Nat) (p : Partition) (o : Nat) (n : Nat) (y6 : Nat) : KeptEdge s (State.readWords s rt pi p o n y6).1 := by
  induction y6 generalizing s rt pi p o n <;> unfold State.readWords <;> (try dsimp only) <;> (repeat' split) <;> (try simp [*])

@[simp] theorem State.vxuCharge_edge (s : State) (u : Nat) (bytes : Nat) : KeptEdge s (State.vxuCharge s u bytes) := by
  simp [State.vxuCharge]

@[simp] theorem State.headerCheck_edge (s : State) (u : Nat) (intact : Bool) : KeptEdge s (State.headerCheck s u intact) := by
  unfold State.headerCheck; (try dsimp only); (repeat' split) <;> (try simp)

theorem execVxuHeaderCheck_edge (u : Fin 16) (intact : Bool) (s : State) (t : State) (h : (execVxuHeaderCheck u intact s) = .next t) : KeptEdge s t := by
  simp only [execVxuHeaderCheck, Host.Outcome.next.injEq] at h; subst h; simp

@[simp] theorem State.programFetch_edge (s : State) (u : Nat) (intact : Bool) : KeptEdge s (State.programFetch s u intact) := by
  unfold State.programFetch; (try dsimp only); (repeat' split) <;> (try simp)

theorem execVxuProgramFetch_edge (u : Fin 16) (intact : Bool) (s : State) (t : State) (h : (execVxuProgramFetch u intact s) = .next t) : KeptEdge s t := by
  simp only [execVxuProgramFetch, Host.Outcome.next.injEq] at h; subst h; simp

@[simp] theorem State.becomeReady_edge (s : State) (u : Nat) : KeptEdge s (State.becomeReady s u) := by
  first
  | (simp [State.becomeReady]; done)
  | (unfold State.becomeReady; (try dsimp only); (repeat' split) <;> (try simp); done)
  | (unfold State.becomeReady; (try dsimp only); (repeat' split) <;> (try simp [*]); done)

theorem execVxuReady_edge (u : Fin 16) (s : State) (t : State) (h : (execVxuReady u s) = .next t) : KeptEdge s t := by
  unfold execVxuReady at h; (try dsimp only at h); (repeat' split at h) <;> (try simp only [Host.Outcome.next.injEq, reduceCtorEq] at h) <;> (try subst h) <;> (try simp)

@[simp] theorem State.startMiss_edge (s : State) (u : Nat) : KeptEdge s (State.startMiss s u) := by
  simp [State.startMiss]

theorem execStartDeadlineExpire_edge (u : Fin 16) (s : State) (t : State) (h : (execStartDeadlineExpire u s) = .next t) : KeptEdge s t := by
  unfold execStartDeadlineExpire at h; (try dsimp only at h); (repeat' split at h) <;> (try simp only [Host.Outcome.next.injEq, reduceCtorEq] at h) <;> (try subst h) <;> (try simp)

theorem execStartMark_edge (u : Fin 16) (s : State) (t : State) (h : (execStartMark u s) = .next t) : KeptEdge s t := by
  unfold execStartMark at h; (try dsimp only at h); (repeat' split at h) <;> (try simp only [Host.Outcome.next.injEq, reduceCtorEq] at h) <;> (try subst h) <;> (try simp)

theorem execVxuBoundStop_edge (u : Fin 16) (s : State) (t : State) (h : (execVxuBoundStop u s) = .next t) : KeptEdge s t := by
  unfold execVxuBoundStop at h; (try dsimp only at h); (repeat' split at h) <;> (try simp only [Host.Outcome.next.injEq, reduceCtorEq] at h) <;> (try subst h) <;> (try simp)

@[simp] theorem State.vxuInstr_edge (s : State) (u : Nat) (op : Nat) (effect : DWord → VxuUnit → VxuUnit) : KeptEdge s (State.vxuInstr s u op effect) := by
  unfold State.vxuInstr; (try dsimp only); (repeat' split) <;> (try simp)

theorem execNop_edge (u : Fin 16) (s : State) (t : State) (h : (execNop u s) = .next t) : KeptEdge s t := by
  simp only [execNop, Host.Outcome.next.injEq] at h; subst h; simp

theorem execLit_edge (u : Fin 16) (s : State) (t : State) (h : (execLit u s) = .next t) : KeptEdge s t := by
  simp only [execLit, Host.Outcome.next.injEq] at h; subst h; simp

theorem execRlit_edge (u : Fin 16) (s : State) (t : State) (h : (execRlit u s) = .next t) : KeptEdge s t := by
  simp only [execRlit, Host.Outcome.next.injEq] at h; subst h; simp

theorem execTpl_edge (u : Fin 16) (s : State) (t : State) (h : (execTpl u s) = .next t) : KeptEdge s t := by
  simp only [execTpl, Host.Outcome.next.injEq] at h; subst h; simp

theorem execEmit_edge (u : Fin 16) (s : State) (t : State) (h : (execEmit u s) = .next t) : KeptEdge s t := by
  simp only [execEmit, Host.Outcome.next.injEq] at h; subst h; simp

theorem execEmits_edge (u : Fin 16) (s : State) (t : State) (h : (execEmits u s) = .next t) : KeptEdge s t := by
  simp only [execEmits, Host.Outcome.next.injEq] at h; subst h; simp

theorem execSetx_edge (u : Fin 16) (s : State) (t : State) (h : (execSetx u s) = .next t) : KeptEdge s t := by
  simp only [execSetx, Host.Outcome.next.injEq] at h; subst h; simp

theorem execAddx_edge (u : Fin 16) (s : State) (t : State) (h : (execAddx u s) = .next t) : KeptEdge s t := by
  simp only [execAddx, Host.Outcome.next.injEq] at h; subst h; simp

theorem execAndx_edge (u : Fin 16) (s : State) (t : State) (h : (execAndx u s) = .next t) : KeptEdge s t := by
  simp only [execAndx, Host.Outcome.next.injEq] at h; subst h; simp

theorem execOrx_edge (u : Fin 16) (s : State) (t : State) (h : (execOrx u s) = .next t) : KeptEdge s t := by
  simp only [execOrx, Host.Outcome.next.injEq] at h; subst h; simp

theorem execXorx_edge (u : Fin 16) (s : State) (t : State) (h : (execXorx u s) = .next t) : KeptEdge s t := by
  simp only [execXorx, Host.Outcome.next.injEq] at h; subst h; simp

theorem execCpyx_edge (u : Fin 16) (s : State) (t : State) (h : (execCpyx u s) = .next t) : KeptEdge s t := by
  simp only [execCpyx, Host.Outcome.next.injEq] at h; subst h; simp

theorem execXadd_edge (u : Fin 16) (s : State) (t : State) (h : (execXadd u s) = .next t) : KeptEdge s t := by
  simp only [execXadd, Host.Outcome.next.injEq] at h; subst h; simp

theorem execSetm_edge (u : Fin 16) (s : State) (t : State) (h : (execSetm u s) = .next t) : KeptEdge s t := by
  simp only [execSetm, Host.Outcome.next.injEq] at h; subst h; simp

theorem execField_edge (u : Fin 16) (s : State) (t : State) (h : (execField u s) = .next t) : KeptEdge s t := by
  simp only [execField, Host.Outcome.next.injEq] at h; subst h; simp

theorem execLoop_edge (u : Fin 16) (s : State) (t : State) (h : (execLoop u s) = .next t) : KeptEdge s t := by
  simp only [execLoop, Host.Outcome.next.injEq] at h; subst h; simp

theorem execEndl_edge (u : Fin 16) (s : State) (t : State) (h : (execEndl u s) = .next t) : KeptEdge s t := by
  simp only [execEndl, Host.Outcome.next.injEq] at h; subst h; simp

theorem execCall_edge (u : Fin 16) (s : State) (t : State) (h : (execCall u s) = .next t) : KeptEdge s t := by
  simp only [execCall, Host.Outcome.next.injEq] at h; subst h; simp

theorem execRet_edge (u : Fin 16) (s : State) (t : State) (h : (execRet u s) = .next t) : KeptEdge s t := by
  simp only [execRet, Host.Outcome.next.injEq] at h; subst h; simp

theorem execMark_edge (u : Fin 16) (s : State) (t : State) (h : (execMark u s) = .next t) : KeptEdge s t := by
  simp only [execMark, Host.Outcome.next.injEq] at h; subst h; simp

theorem execPausept_edge (u : Fin 16) (s : State) (t : State) (h : (execPausept u s) = .next t) : KeptEdge s t := by
  simp only [execPausept, Host.Outcome.next.injEq] at h; subst h; simp

theorem execEndProg_edge (u : Fin 16) (s : State) (t : State) (h : (execEndProg u s) = .next t) : KeptEdge s t := by
  simp only [execEndProg, Host.Outcome.next.injEq] at h; subst h; simp

@[simp] theorem State.acceptRecord_edge (s : State) (k : Nat) (l : List Byte) : KeptEdge s (State.acceptRecord s k l) := by
  simp [State.acceptRecord]

@[simp] theorem State.failPacket_edge (s : State) (k : Nat) (payload : List Byte) : KeptEdge s (State.failPacket s k payload) := by
  simp [State.failPacket]

theorem execFailPacket_edge (k : Fin 16) (payload : List Byte) (s : State) (t : State) (h : execFailPacket k payload s = .next t) : KeptEdge s t := by
  unfold execFailPacket at h
  split at h <;> (simp only [Host.Outcome.next.injEq] at h; subst h; simp)

@[simp] theorem State.orderRecord_edge (s : State) (f : FailRec) : KeptEdge s (State.orderRecord s f) := by
  simp [State.orderRecord]

@[simp] theorem State.failRecord_edge (s : State) (f : FailRec) : KeptEdge s (State.failRecord s f) := by
  unfold State.failRecord; (try dsimp only); (repeat' split) <;> (try simp)

theorem execFailRecord_edge (s : State) (t : State) (h : (execFailRecord s) = .next t) : KeptEdge s t := by
  unfold execFailRecord at h; (try dsimp only at h); (repeat' split at h) <;> (try simp only [Host.Outcome.next.injEq, reduceCtorEq] at h) <;> (try subst h) <;> (try simp)

theorem execCapBlockTimeout_edge (p : Fin 16) (s : State) (t : State) (h : (execCapBlockTimeout p s) = .next t) : KeptEdge s t := by
  unfold execCapBlockTimeout at h; (try dsimp only at h); (repeat' split at h) <;> (try simp only [Host.Outcome.next.injEq, reduceCtorEq] at h) <;> (try subst h) <;> (try simp)

@[simp] theorem State.gapExpire_edge (s : State) (src : Nat) : KeptEdge s (State.gapExpire s src) := by
  unfold State.gapExpire; (try dsimp only); (repeat' split) <;> (try simp)

theorem execGapTimerExpire_edge (src : Fin 256) (s : State) (t : State) (h : (execGapTimerExpire src s) = .next t) : KeptEdge s t := by
  unfold execGapTimerExpire at h; (try dsimp only at h); (repeat' split at h) <;> (try simp only [Host.Outcome.next.injEq, reduceCtorEq] at h) <;> (try subst h) <;> (try simp)

@[simp] theorem State.fold_edge (s : State) (r : Released) : KeptEdge s (State.fold s r) := by
  unfold State.fold; (try dsimp only); (repeat' split) <;> (try simp)

theorem execFoldRecord_edge (s : State) (t : State) (h : (execFoldRecord s) = .next t) : KeptEdge s t := by
  unfold execFoldRecord at h; (try dsimp only at h); (repeat' split at h) <;> (try simp only [Host.Outcome.next.injEq, reduceCtorEq] at h) <;> (try subst h) <;> (try simp)

theorem execResync_edge (r : Req) (src : Fin 256) (s : State) (t : State) (h : (execResync r src s) = .next t) : KeptEdge s t := by
  simp only [execResync, Host.Outcome.next.injEq] at h; subst h; simp

@[simp] theorem State.openOne_edge (s : State) (c : DomCmd) (i : Nat) : KeptEdge s (State.openOne s c i) := by
  simp [State.openOne]

@[simp] theorem State.closeOne_edge (s : State) (q : QueuedClose) (i : Nat) : KeptEdge s (State.closeOne s q i) := by
  simp [State.closeOne]

@[simp] theorem State.runQueuedCloses_edge (s : State) : KeptEdge s (State.runQueuedCloses s) := by
  simp [State.runQueuedCloses]

@[simp] theorem State.releaseOne_edge (s : State) (d : Nat) : KeptEdge s (State.releaseOne s d) := by
  simp [State.releaseOne]

@[simp] theorem State.withPools_edge (s : State) (t : Tab Pool) : KeptEdge s (State.withPools s t) := by
  first
  | (simp [State.withPools]; done)
  | (unfold State.withPools; (try dsimp only); (repeat' split) <;> (try simp); done)
  | (unfold State.withPools; (try dsimp only); (repeat' split) <;> (try simp [*]); done)

@[simp] theorem State.domOne_edge (s : State) (c : DomCmd) (i : Nat) : KeptEdge s (State.domOne s c i) := by
  first
  | (simp [State.domOne]; done)
  | (unfold State.domOne; (try dsimp only); (repeat' split) <;> (try simp); done)
  | (unfold State.domOne; (try dsimp only); (repeat' split) <;> (try simp [*]); done)

@[simp] theorem State.domRun_edge (s : State) (c : DomCmd) (n : Nat) : KeptEdge s (State.domRun s c n) := by
  first
  | (simp [State.domRun]; done)
  | (unfold State.domRun; (try dsimp only); (repeat' split) <;> (try simp); done)
  | (unfold State.domRun; (try dsimp only); (repeat' split) <;> (try simp [*]); done)

@[simp] theorem State.domStart_edge (s : State) (c : DomCmd) (upto : Option (BitVec 25)) : KeptEdge s (State.domStart s c upto) := by
  first
  | (simp [State.domStart]; done)
  | (unfold State.domStart; (try dsimp only); (repeat' split) <;> (try simp); done)
  | (unfold State.domStart; (try dsimp only); (repeat' split) <;> (try simp [*]); done)

@[simp] theorem State.domStep_edge (s : State) : KeptEdge s (State.domStep s) := by
  first
  | (simp [State.domStep]; done)
  | (unfold State.domStep; (try dsimp only); (repeat' split) <;> (try simp); done)
  | (unfold State.domStep; (try dsimp only); (repeat' split) <;> (try simp [*]); done)

@[simp] theorem State.stopDomCmd_edge (s : State) : KeptEdge s (State.stopDomCmd s) := by
  first
  | (simp [State.stopDomCmd]; done)
  | (unfold State.stopDomCmd; (try dsimp only); (repeat' split) <;> (try simp); done)
  | (unfold State.stopDomCmd; (try dsimp only); (repeat' split) <;> (try simp [*]); done)

theorem execDomOpen_edge (r : Req) (upto : Option (BitVec 25)) (s : State) (t : State) (h : (execDomOpen r upto s) = .next t) : KeptEdge s t := by
  simp only [execDomOpen, Host.Outcome.next.injEq] at h; subst h; simp

@[simp] theorem State.acceptClose_edge (s : State) (fenced : Bool) (upto : Option (BitVec 25)) : KeptEdge s (State.acceptClose s fenced upto) := by
  simp [State.acceptClose]

theorem execDomClose_edge (r : Req) (fenced : Bool) (upto : Option (BitVec 25)) (s : State) (t : State) (h : (execDomClose r fenced upto s) = .next t) : KeptEdge s t := by
  simp only [execDomClose, Host.Outcome.next.injEq] at h; subst h; simp

theorem execDomRelease_edge (r : Req) (upto : Option (BitVec 25)) (s : State) (t : State) (h : (execDomRelease r upto s) = .next t) : KeptEdge s t := by
  simp only [execDomRelease, Host.Outcome.next.injEq] at h; subst h; simp

theorem execPoolDef_edge (r : Req) (upto : Option (BitVec 25)) (s : State) (t : State) (h : (execPoolDef r upto s) = .next t) : KeptEdge s t := by
  simp only [execPoolDef, Host.Outcome.next.injEq] at h; subst h; simp

theorem execPoolDel_edge (r : Req) (upto : Option (BitVec 25)) (s : State) (t : State) (h : (execPoolDel r upto s) = .next t) : KeptEdge s t := by
  simp only [execPoolDel, Host.Outcome.next.injEq] at h; subst h; simp

@[simp] theorem State.fenceExpire_edge (s : State) (id : Nat) (srcs : List Nat) (first : Nat) : KeptEdge s (State.fenceExpire s id srcs first) := by
  simp [State.fenceExpire]

theorem execFenceTimerExpire_edge (d : BitVec 24) (s : State) (t : State) (h : (execFenceTimerExpire d s) = .next t) : KeptEdge s t := by
  unfold execFenceTimerExpire at h; (try dsimp only at h); (repeat' split at h) <;> (try simp only [Host.Outcome.next.injEq, reduceCtorEq] at h) <;> (try subst h) <;> (try simp)

@[simp] theorem State.becomeClosed_edge (s : State) (d : Nat) (c : CloseRec) : KeptEdge s (State.becomeClosed s d c) := by
  simp [State.becomeClosed]

theorem execCloseRecordBuild_edge (d : BitVec 24) (s : State) (t : State) (h : execCloseRecordBuild d s = .next t) : KeptEdge s t := by
  unfold execCloseRecordBuild at h
  dsimp only at h
  split at h
  · split at h
    · simp only [Host.Outcome.next.injEq] at h; subst h; simp
    · rename_i hh
      have h1 := State.takeAll_edge _ _ _ hh
      simp only [Host.Outcome.next.injEq] at h
      subst h
      simp_all
  · simp only [Host.Outcome.next.injEq] at h; subst h; simp

@[simp] theorem State.startReadout_edge (s : State) (f : Form) : KeptEdge s (State.startReadout s f) := by
  unfold State.startReadout; (try dsimp only); (repeat' split) <;> (try simp)

@[simp] theorem State.readoutCmd_edge (s : State) (r : Req) (f : Form) : KeptEdge s (State.readoutCmd s r f) := by
  simp [State.readoutCmd]

theorem execReadoutSummary_edge (r : Req) (s : State) (t : State) (h : (execReadoutSummary r s) = .next t) : KeptEdge s t := by
  simp only [execReadoutSummary, Host.Outcome.next.injEq] at h; subst h; simp

theorem execReadoutPoints_edge (r : Req) (s : State) (t : State) (h : (execReadoutPoints r s) = .next t) : KeptEdge s t := by
  simp only [execReadoutPoints, Host.Outcome.next.injEq] at h; subst h; simp

theorem execReadoutLines_edge (r : Req) (s : State) (t : State) (h : (execReadoutLines r s) = .next t) : KeptEdge s t := by
  simp only [execReadoutLines, Host.Outcome.next.injEq] at h; subst h; simp

theorem execReadoutCloseRecord_edge (r : Req) (s : State) (t : State) (h : (execReadoutCloseRecord r s) = .next t) : KeptEdge s t := by
  simp only [execReadoutCloseRecord, Host.Outcome.next.injEq] at h; subst h; simp

theorem execReadoutDone_edge (s : State) (t : State) (h : (execReadoutDone s) = .next t) : KeptEdge s t := by
  unfold execReadoutDone at h; (try dsimp only at h); (repeat' split at h) <;> (try simp only [Host.Outcome.next.injEq, reduceCtorEq] at h) <;> (try subst h) <;> (try simp)

theorem execCadExcRptrWrite_edge (r : Req) (v : Word) (s : State) (t : State) (h : (execCadExcRptrWrite r v s) = .next t) : KeptEdge s t := by
  simp only [execCadExcRptrWrite, Host.Outcome.next.injEq] at h; subst h; simp

@[simp] theorem State.closeRecordLost_edge (s : State) (d : Nat) (e : Nat) : KeptEdge s (State.closeRecordLost s d e) := by
  unfold State.closeRecordLost; (try dsimp only); (repeat' split) <;> (try simp)

@[simp] theorem State.engineEnds_edge (s : State) (e : Nat) (nodes : Nat) : KeptEdge s (State.engineEnds s e nodes) := by
  simp [State.engineEnds]

@[simp] theorem State.takeUp_edge (s : State) (e : Nat) (d : Nat) (intact : Bool) : KeptEdge s (State.takeUp s e d intact) := by
  simp [State.takeUp]

@[simp] theorem State.handRounds_edge (s : State) : KeptEdge s (State.handRounds s) := by
  unfold State.handRounds
  exact foldl_edge _ _ _ (fun t p => by cases t.freeEngine <;> cases Tab.look t.cad.pools p <;> simp)

@[simp] theorem State.takeHead_edge (s : State) (intact : Bool) : KeptEdge s (State.takeHead s intact) := by
  first
  | (simp [State.takeHead]; done)
  | (unfold State.takeHead; (try dsimp only); (repeat' split) <;> (try simp); done)
  | (unfold State.takeHead; (try dsimp only); (repeat' split) <;> (try simp [*]); done)

theorem execRaeTakeUp_edge (intact : Bool) (s : State) (t : State) (h : (execRaeTakeUp intact s) = .next t) : KeptEdge s t := by
  unfold execRaeTakeUp at h; (try dsimp only at h); (repeat' split at h) <;> (try simp only [Host.Outcome.next.injEq, reduceCtorEq] at h) <;> (try subst h) <;> (try simp)

theorem execTimeBudgetExpire_edge (e : Fin 64) (nodes : Nat) (s : State) (t : State) (h : (execTimeBudgetExpire e nodes s) = .next t) : KeptEdge s t := by
  unfold execTimeBudgetExpire at h; (try dsimp only at h); (repeat' split at h) <;> (try simp only [Host.Outcome.next.injEq, reduceCtorEq] at h) <;> (try subst h) <;> (try simp)

theorem execNodeBudgetSpent_edge (e : Fin 64) (s : State) (t : State) (h : (execNodeBudgetSpent e s) = .next t) : KeptEdge s t := by
  unfold execNodeBudgetSpent at h; (try dsimp only at h); (repeat' split at h) <;> (try simp only [Host.Outcome.next.injEq, reduceCtorEq] at h) <;> (try subst h) <;> (try simp)

@[simp] theorem State.passEnds_edge (s : State) (e : Nat) (d : Nat) (c : CloseRec) : KeptEdge s (State.passEnds s e d c) := by
  simp [State.passEnds]

theorem execFirstPassEnd_edge (e : Fin 64) (s : State) (t : State) (h : (execFirstPassEnd e s) = .next t) : KeptEdge s t := by
  unfold execFirstPassEnd at h; (try dsimp only at h); (repeat' split at h) <;> (try simp only [Host.Outcome.next.injEq, reduceCtorEq] at h) <;> (try subst h) <;> (try simp)

theorem execPoolRound_edge (pool : BitVec 16) (s : State) (t : State) (h : (execPoolRound pool s) = .next t) : KeptEdge s t := by
  unfold execPoolRound at h; (try dsimp only at h); (repeat' split at h) <;> (try simp only [Host.Outcome.next.injEq, reduceCtorEq] at h) <;> (try subst h) <;> (try simp)

@[simp] theorem State.engineError_edge (s : State) (e : Nat) (d : Nat) : KeptEdge s (State.engineError s e d) := by
  simp [State.engineError]

theorem execRaeEngineError_edge (e : Fin 64) (s : State) (t : State) (h : (execRaeEngineError e s) = .next t) : KeptEdge s t := by
  unfold execRaeEngineError at h; (try dsimp only at h); (repeat' split at h) <;> (try simp only [Host.Outcome.next.injEq, reduceCtorEq] at h) <;> (try subst h) <;> (try simp)

@[simp] theorem State.resultReady_edge (s : State) : KeptEdge s (State.resultReady s) := by
  simp [State.resultReady]

@[simp] theorem State.ringCopy_edge (s : State) (p : Partition) (pi : Nat) (r : ResultRec) (rest : List ResultRec) : KeptEdge s (State.ringCopy s p pi r rest) := by
  simp [State.ringCopy]

theorem execResultRingCopy_edge (s : State) (t : State) (h : (execResultRingCopy s) = .next t) : KeptEdge s t := by
  unfold execResultRingCopy at h; (try dsimp only at h); (repeat' split at h) <;> (try simp only [Host.Outcome.next.injEq, reduceCtorEq] at h) <;> (try subst h) <;> (try simp)

theorem execHoldoffExpire_edge (s : State) (t : State) (h : (execHoldoffExpire s) = .next t) : KeptEdge s t := by
  unfold execHoldoffExpire at h; (try dsimp only at h); (repeat' split at h) <;> (try simp only [Host.Outcome.next.injEq, reduceCtorEq] at h) <;> (try subst h) <;> (try simp)

@[simp] theorem State.ringCfg_edge (s : State) (v : Word) : KeptEdge s (State.ringCfg s v) := by
  simp [State.ringCfg]

theorem execRaeRingCfgWrite_edge (r : Req) (v : Word) (s : State) (t : State) (h : (execRaeRingCfgWrite r v s) = .next t) : KeptEdge s t := by
  simp only [execRaeRingCfgWrite, Host.Outcome.next.injEq] at h; subst h; simp

theorem execRaeRingRptrWrite_edge (r : Req) (v : Word) (s : State) (t : State) (h : (execRaeRingRptrWrite r v s) = .next t) : KeptEdge s t := by
  simp only [execRaeRingRptrWrite, Host.Outcome.next.injEq] at h; subst h; simp

@[simp] theorem State.reanalyse_edge (s : State) : KeptEdge s (State.reanalyse s) := by
  unfold State.reanalyse
  dsimp only
  simp [State.takeHeapD_edge]

theorem execReanalyse_edge (r : Req) (s : State) (t : State) (h : (execReanalyse r s) = .next t) : KeptEdge s t := by
  simp only [execReanalyse, Host.Outcome.next.injEq] at h; subst h; simp

theorem execClearLat_edge (r : Req) (s : State) (t : State) (h : (execClearLat r s) = .next t) : KeptEdge s t := by
  simp only [execClearLat, Host.Outcome.next.injEq] at h; subst h; simp

@[simp] theorem State.abandonAnalyses_edge (s : State) : KeptEdge s (State.abandonAnalyses s) := by
  simp [State.abandonAnalyses]

@[simp] theorem State.freshQueue_edge (s : State) : KeptEdge s (State.freshQueue s) := by
  simp [State.freshQueue]

@[simp] theorem State.laneFails_edge (s : State) (l : Nat) : KeptEdge s (State.laneFails s l) := by
  simp [State.laneFails]

@[simp] theorem State.sendEpoch_edge (s : State) (k : Nat) (kind : Nat) (mask : Nat) (epoch : Nat) (stripe : Nat) : KeptEdge s (State.sendEpoch s k kind mask epoch stripe) := by
  simp [State.sendEpoch]

@[simp] theorem State.sendColumn_edge (s : State) (k : Nat) (f : Nat → Nat × Nat) : KeptEdge s (State.sendColumn s k f) := by
  first
  | (simp [State.sendColumn]; done)
  | (unfold State.sendColumn; (try dsimp only); (repeat' split) <;> (try simp); done)
  | (unfold State.sendColumn; (try dsimp only); (repeat' split) <;> (try simp [*]); done)

@[simp] theorem State.skewCheck_edge (s : State) (k : Nat) : KeptEdge s (State.skewCheck s k) := by
  first
  | (simp [State.skewCheck]; done)
  | (unfold State.skewCheck; (try dsimp only); (repeat' split) <;> (try simp); done)
  | (unfold State.skewCheck; (try dsimp only); (repeat' split) <;> (try simp [*]); done)

@[simp] theorem State.lapse_edge (s : State) (k : Nat) : KeptEdge s (State.lapse s k) := by
  simp [State.lapse]

@[simp] theorem State.linkChanged_edge (s : State) : KeptEdge s (State.linkChanged s) := by
  simp [State.linkChanged]

@[simp] theorem State.chainDown_edge (s : State) (k : Nat) (reason : Nat) : KeptEdge s (State.chainDown s k reason) := by
  simp [State.chainDown]

@[simp] theorem State.lossEvent_edge (s : State) (l : Nat) (cond : Nat) : KeptEdge s (State.lossEvent s l cond) := by
  unfold State.lossEvent; (try dsimp only); (repeat' split) <;> (try simp)

@[simp] theorem State.countDrops_edge (s : State) (lanes : List (Nat × Nat)) : KeptEdge s (State.countDrops s lanes) := by
  simp [State.countDrops]

@[simp] theorem State.formFails_edge (s : State) (k : Nat) : KeptEdge s (State.formFails s k) := by
  first
  | (simp [State.formFails]; done)
  | (unfold State.formFails; (try dsimp only); (repeat' split) <;> (try simp); done)
  | (unfold State.formFails; (try dsimp only); (repeat' split) <;> (try simp [*]); done)

@[simp] theorem State.lanesLeave_edge (s : State) (k : Nat) (lanes : List (Nat × Nat)) : KeptEdge s (State.lanesLeave s k lanes) := by
  first
  | (simp [State.lanesLeave]; done)
  | (unfold State.lanesLeave; (try dsimp only); (repeat' split) <;> (try simp); done)
  | (unfold State.lanesLeave; (try dsimp only); (repeat' split) <;> (try simp [*]); done)

@[simp] theorem State.belowMinw_edge (s : State) (k : Nat) : KeptEdge s (State.belowMinw s k) := by
  first
  | (simp [State.belowMinw]; done)
  | (unfold State.belowMinw; (try dsimp only); (repeat' split) <;> (try simp); done)
  | (unfold State.belowMinw; (try dsimp only); (repeat' split) <;> (try simp [*]); done)

@[simp] theorem State.giveWay_edge (s : State) (k : Nat) (mask : Nat) : KeptEdge s (State.giveWay s k mask) := by
  first
  | (simp [State.giveWay]; done)
  | (unfold State.giveWay; (try dsimp only); (repeat' split) <;> (try simp); done)
  | (unfold State.giveWay; (try dsimp only); (repeat' split) <;> (try simp [*]); done)

@[simp] theorem State.dropTo_edge (s : State) (k : Nat) (mask : Nat) (lanes : List (Nat × Nat)) : KeptEdge s (State.dropTo s k mask lanes) := by
  simp [State.dropTo]

@[simp] theorem State.loseLanes_edge (s : State) (k : Nat) (lost : List Nat) (cond : Nat) : KeptEdge s (State.loseLanes s k lost cond) := by
  unfold State.loseLanes; (try dsimp only); (repeat' split) <;> (try simp)

theorem execLaneLoss_edge (k : Fin 16) (lanes : BitVec 64) (cond : LossCond) (s : State) (t : State) (h : (execLaneLoss k lanes cond s) = .next t) : KeptEdge s t := by
  unfold execLaneLoss at h; (try dsimp only at h); (repeat' split at h) <;> (try simp only [Host.Outcome.next.injEq, reduceCtorEq] at h) <;> (try subst h) <;> (try simp)

@[simp] theorem State.dropReceived_edge (s : State) (k : Nat) (mask : Nat) (epoch : Nat) (stripe : Nat) : KeptEdge s (State.dropReceived s k mask epoch stripe) := by
  unfold State.dropReceived; (try dsimp only); (repeat' split) <;> (try simp)

theorem execDropReceived_edge (k : Fin 16) (body : BitVec 56) (s : State) (t : State) (h : (execDropReceived k body s) = .next t) : KeptEdge s t := by
  unfold execDropReceived at h; (try dsimp only at h); (repeat' split at h) <;> (try simp only [Host.Outcome.next.injEq, reduceCtorEq] at h) <;> (try subst h) <;> (try simp)

theorem execLaneSignalDetect_edge (l : Fin 64) (s : State) (t : State) (h : (execLaneSignalDetect l s) = .next t) : KeptEdge s t := by
  unfold execLaneSignalDetect at h; (try dsimp only at h); (repeat' split at h) <;> (try simp only [Host.Outcome.next.injEq, reduceCtorEq] at h) <;> (try subst h) <;> (try simp)

theorem execNoSignal_edge (l : Fin 64) (s : State) (t : State) (h : (execNoSignal l s) = .next t) : KeptEdge s t := by
  unfold execNoSignal at h; (try dsimp only at h); (repeat' split at h) <;> (try simp only [Host.Outcome.next.injEq, reduceCtorEq] at h) <;> (try subst h) <;> (try simp)

@[simp] theorem State.tapRequest_edge (s : State) (l : Nat) (control : Nat) (limit : Nat) : KeptEdge s (State.tapRequest s l control limit).1 := by
  unfold State.tapRequest; (try dsimp only); (repeat' split) <;> (try simp)

@[simp] theorem State.sendFrameOn_edge (s : State) (l : Nat) (control : Nat) (status : Nat) : KeptEdge s (State.sendFrameOn s l control status) := by
  first
  | (simp [State.sendFrameOn]; done)
  | (unfold State.sendFrameOn; (try dsimp only); (repeat' split) <;> (try simp); done)
  | (unfold State.sendFrameOn; (try dsimp only); (repeat' split) <;> (try simp [*]); done)

@[simp] theorem State.trainingFrame_edge (s : State) (l : Nat) (control : Nat) (status : Nat) (limit : Nat) (own : Nat) : KeptEdge s (State.trainingFrame s l control status limit own) := by
  simp [State.trainingFrame]

theorem execTrainingFrame_edge (l : Fin 64) (control : BitVec 16) (status : BitVec 16) (atLimit : BitVec 3) (own : BitVec 16) (s : State) (t : State) (h : (execTrainingFrame l control status atLimit own s) = .next t) : KeptEdge s t := by
  unfold execTrainingFrame at h; (try dsimp only at h); (repeat' split at h) <;> (try simp only [Host.Outcome.next.injEq, reduceCtorEq] at h) <;> (try subst h) <;> (try simp)

@[simp] theorem State.applyInjection_edge (s : State) (l : Nat) : KeptEdge s (State.applyInjection s l) := by
  unfold State.applyInjection; (try dsimp only); (repeat' split) <;> (try simp)

theorem execTrainingEnd_edge (l : Fin 64) (s : State) (t : State) (h : (execTrainingEnd l s) = .next t) : KeptEdge s t := by
  unfold execTrainingEnd at h; (try dsimp only at h); (repeat' split at h) <;> (try simp only [Host.Outcome.next.injEq, reduceCtorEq] at h) <;> (try subst h) <;> (try simp)

theorem execTrainTmo_edge (l : Fin 64) (s : State) (t : State) (h : (execTrainTmo l s) = .next t) : KeptEdge s t := by
  unfold execTrainTmo at h; (try dsimp only at h); (repeat' split at h) <;> (try simp only [Host.Outcome.next.injEq, reduceCtorEq] at h) <;> (try subst h) <;> (try simp)

@[simp] theorem State.sendCapx_edge (s : State) (k : Nat) (on : Nat → Bool) : KeptEdge s (State.sendCapx s k on) := by
  first
  | (simp [State.sendCapx]; done)
  | (unfold State.sendCapx; (try dsimp only); (repeat' split) <;> (try simp); done)
  | (unfold State.sendCapx; (try dsimp only); (repeat' split) <;> (try simp [*]); done)

theorem execLockAchieved_edge (l : Fin 64) (s : State) (t : State) (h : (execLockAchieved l s) = .next t) : KeptEdge s t := by
  unfold execLockAchieved at h; (try dsimp only at h); (repeat' split at h) <;> (try simp only [Host.Outcome.next.injEq, reduceCtorEq] at h) <;> (try subst h) <;> (try simp)

theorem execLockTmo_edge (l : Fin 64) (s : State) (t : State) (h : (execLockTmo l s) = .next t) : KeptEdge s t := by
  unfold execLockTmo at h; (try dsimp only at h); (repeat' split at h) <;> (try simp only [Host.Outcome.next.injEq, reduceCtorEq] at h) <;> (try subst h) <;> (try simp)

theorem execCapxMatch_edge (l : Fin 64) (body : BitVec 56) (s : State) (t : State) (h : (execCapxMatch l body s) = .next t) : KeptEdge s t := by
  unfold execCapxMatch at h; (try dsimp only at h); (repeat' split at h) <;> (try simp only [Host.Outcome.next.injEq, reduceCtorEq] at h) <;> (try subst h) <;> (try simp)

@[simp] theorem State.capxMismatch_edge (s : State) (k : Nat) (l : Nat) (got : Option Nat) : KeptEdge s (State.capxMismatch s k l got) := by
  simp [State.capxMismatch]

theorem execCapxMismatch_edge (l : Fin 64) (body : Option (BitVec 56)) (s : State) (t : State) (h : (execCapxMismatch l body s) = .next t) : KeptEdge s t := by
  unfold execCapxMismatch at h; (try dsimp only at h); (repeat' split at h) <;> (try simp only [Host.Outcome.next.injEq, reduceCtorEq] at h) <;> (try subst h) <;> (try simp)

@[simp] theorem State.laneReady_edge (s : State) (l : Nat) : KeptEdge s (State.laneReady s l) := by
  unfold State.laneReady; (try dsimp only); (repeat' split) <;> (try simp)

theorem execLaneReady_edge (l : Fin 64) (s : State) (t : State) (h : (execLaneReady l s) = .next t) : KeptEdge s t := by
  unfold execLaneReady at h; (try dsimp only at h); (repeat' split at h) <;> (try simp only [Host.Outcome.next.injEq, reduceCtorEq] at h) <;> (try subst h) <;> (try simp)

theorem execBackoffExpire_edge (l : Fin 64) (s : State) (t : State) (h : (execBackoffExpire l s) = .next t) : KeptEdge s t := by
  unfold execBackoffExpire at h; (try dsimp only at h); (repeat' split at h) <;> (try simp only [Host.Outcome.next.injEq, reduceCtorEq] at h) <;> (try subst h) <;> (try simp)

@[simp] theorem State.announce_edge (s : State) (k : Nat) (mask : Nat) (form : Bool) : KeptEdge s (State.announce s k mask form) := by
  simp [State.announce]

theorem execChainFormation_edge (k : Fin 16) (windowEnd : Bool) (s : State) (t : State) (h : (execChainFormation k windowEnd s) = .next t) : KeptEdge s t := by
  unfold execChainFormation at h; (try dsimp only at h); (repeat' split at h) <;> (try simp only [Host.Outcome.next.injEq, reduceCtorEq] at h) <;> (try subst h) <;> (try simp)

theorem execRejoinAnnounce_edge (k : Fin 16) (s : State) (t : State) (h : (execRejoinAnnounce k s) = .next t) : KeptEdge s t := by
  unfold execRejoinAnnounce at h; (try dsimp only at h); (repeat' split at h) <;> (try simp only [Host.Outcome.next.injEq, reduceCtorEq] at h) <;> (try subst h) <;> (try simp)

@[simp] theorem State.commit_edge (s : State) (k : Nat) (mask : Nat) (form : Bool) : KeptEdge s (State.commit s k mask form) := by
  simp [State.commit]

theorem execRejoinAckReceived_edge (k : Fin 16) (body : BitVec 56) (s : State) (t : State) (h : (execRejoinAckReceived k body s) = .next t) : KeptEdge s t := by
  unfold execRejoinAckReceived at h; (try dsimp only at h); (repeat' split at h) <;> (try simp only [Host.Outcome.next.injEq, reduceCtorEq] at h) <;> (try subst h) <;> (try simp)

theorem execRejoinLapsed_edge (k : Fin 16) (s : State) (t : State) (h : (execRejoinLapsed k s) = .next t) : KeptEdge s t := by
  unfold execRejoinLapsed at h; (try dsimp only at h); (repeat' split at h) <;> (try simp only [Host.Outcome.next.injEq, reduceCtorEq] at h) <;> (try subst h) <;> (try simp)

theorem execPartnerCommitReceived_edge (k : Fin 16) (body : BitVec 56) (s : State) (t : State) (h : (execPartnerCommitReceived k body s) = .next t) : KeptEdge s t := by
  unfold execPartnerCommitReceived at h; (try dsimp only at h); (repeat' split at h) <;> (try simp only [Host.Outcome.next.injEq, reduceCtorEq] at h) <;> (try subst h) <;> (try simp)

@[simp] theorem State.commitTimeout_edge (s : State) (k : Nat) (old : Nat) (form : Bool) : KeptEdge s (State.commitTimeout s k old form) := by
  simp [State.commitTimeout]

theorem execPartnerCommitTimeout_edge (k : Fin 16) (s : State) (t : State) (h : (execPartnerCommitTimeout k s) = .next t) : KeptEdge s t := by
  unfold execPartnerCommitTimeout at h; (try dsimp only at h); (repeat' split at h) <;> (try simp only [Host.Outcome.next.injEq, reduceCtorEq] at h) <;> (try subst h) <;> (try simp)

@[simp] theorem State.chainFormed_edge (s : State) (k : Nat) : KeptEdge s (State.chainFormed s k) := by
  simp [State.chainFormed]

@[simp] theorem State.exchangeDone_edge (s : State) (k : Nat) : KeptEdge s (State.exchangeDone s k) := by
  unfold State.exchangeDone; (try dsimp only); (repeat' split) <;> (try simp)

@[simp] theorem State.switchTx_edge (s : State) (k : Nat) (w : Switch) : KeptEdge s (State.switchTx s k w) := by
  simp [State.switchTx]

@[simp] theorem State.switchRx_edge (s : State) (k : Nat) (w : Switch) : KeptEdge s (State.switchRx s k w) := by
  simp [State.switchRx]

theorem execEpochSwitch_edge (k : Fin 16) (transmit : Bool) (s : State) (t : State) (h : (execEpochSwitch k transmit s) = .next t) : KeptEdge s t := by
  unfold execEpochSwitch at h; (try dsimp only at h); (repeat' split at h) <;> (try simp only [Host.Outcome.next.injEq, reduceCtorEq] at h) <;> (try subst h) <;> (try simp)

theorem execLaneMarkerSend_edge (l : Fin 64) (s : State) (t : State) (h : (execLaneMarkerSend l s) = .next t) : KeptEdge s t := by
  unfold execLaneMarkerSend at h; (try dsimp only at h); (repeat' split at h) <;> (try simp only [Host.Outcome.next.injEq, reduceCtorEq] at h) <;> (try subst h) <;> (try simp)

theorem execWaddingInsert_edge (k : Fin 16) (s : State) (t : State) (h : (execWaddingInsert k s) = .next t) : KeptEdge s t := by
  unfold execWaddingInsert at h; (try dsimp only at h); (repeat' split at h) <;> (try simp only [Host.Outcome.next.injEq, reduceCtorEq] at h) <;> (try subst h) <;> (try simp)

@[simp] theorem State.codeword_edge (s : State) (k : Nat) (l : Nat) (scr : Nat) (corrected : Option Nat) (blocks : List RxBlock) (offs : Nat) : KeptEdge s (State.codeword s k l scr corrected blocks offs) := by
  unfold State.codeword; (try dsimp only); (repeat' split) <;> (try simp)

theorem execReceiveEmptySlot_edge (l : Fin 64) (s : State) (t : State) (h : (execReceiveEmptySlot l s) = .next t) : KeptEdge s t := by
  unfold execReceiveEmptySlot at h; (try dsimp only at h); (repeat' split at h) <;> (try simp only [Host.Outcome.next.injEq, reduceCtorEq] at h) <;> (try subst h) <;> (try simp)

@[simp] theorem State.retrain_edge (s : State) (l : Nat) : KeptEdge s (State.retrain s l) := by
  unfold State.retrain; (try dsimp only); (repeat' split) <;> (try simp)

theorem execRetrain_edge (r : Req) (l : Fin 64) (s : State) (t : State) (h : (execRetrain r l s) = .next t) : KeptEdge s t := by
  simp only [execRetrain, Host.Outcome.next.injEq] at h; subst h; simp

@[simp] theorem State.prbsGenerate_edge (s : State) (l : Nat) : KeptEdge s (State.prbsGenerate s l) := by
  first
  | (simp [State.prbsGenerate]; done)
  | (unfold State.prbsGenerate; (try dsimp only); (repeat' split) <;> (try simp); done)
  | (unfold State.prbsGenerate; (try dsimp only); (repeat' split) <;> (try simp [*]); done)

@[simp] theorem State.prbsCheck_edge (s : State) (l : Nat) : KeptEdge s (State.prbsCheck s l) := by
  first
  | (simp [State.prbsCheck]; done)
  | (unfold State.prbsCheck; (try dsimp only); (repeat' split) <;> (try simp); done)
  | (unfold State.prbsCheck; (try dsimp only); (repeat' split) <;> (try simp [*]); done)

@[simp] theorem State.prbsConfig_edge (s : State) (l : Nat) (v : Word) : KeptEdge s (State.prbsConfig s l v) := by
  simp [State.prbsConfig]

theorem execPrbsCfgWrite_edge (r : Req) (l : Fin 64) (v : Word) (s : State) (t : State) (h : (execPrbsCfgWrite r l v s) = .next t) : KeptEdge s t := by
  simp only [execPrbsCfgWrite, Host.Outcome.next.injEq] at h; subst h; simp

@[simp] theorem State.inject_edge (s : State) (l : Nat) (kind : Nat) (n : Nat) : KeptEdge s (State.inject s l kind n) := by
  simp [State.inject]

theorem execInjectBit_edge (r : Req) (l : Fin 64) (count : BitVec 8) (s : State) (t : State) (h : (execInjectBit r l count s) = .next t) : KeptEdge s t := by
  simp only [execInjectBit, Host.Outcome.next.injEq] at h; subst h; simp

theorem execInjectSymbol_edge (r : Req) (l : Fin 64) (count : BitVec 8) (s : State) (t : State) (h : (execInjectSymbol r l count s) = .next t) : KeptEdge s t := by
  simp only [execInjectSymbol, Host.Outcome.next.injEq] at h; subst h; simp

theorem execInjectSync_edge (r : Req) (l : Fin 64) (s : State) (t : State) (h : (execInjectSync r l s) = .next t) : KeptEdge s t := by
  simp only [execInjectSync, Host.Outcome.next.injEq] at h; subst h; simp

theorem execInjectLol_edge (r : Req) (l : Fin 64) (s : State) (t : State) (h : (execInjectLol r l s) = .next t) : KeptEdge s t := by
  simp only [execInjectLol, Host.Outcome.next.injEq] at h
  subst h
  refine State.hostWrite_edge s r _ _ _ (fun u => ?_)
  split <;> simp

@[simp] theorem State.laneTick_edge (s : State) (l : Nat) : KeptEdge s (State.laneTick s l) := by
  first
  | (simp [State.laneTick]; done)
  | (unfold State.laneTick; (try dsimp only); (repeat' split) <;> (try simp); done)
  | (unfold State.laneTick; (try dsimp only); (repeat' split) <;> (try simp [*]); done)

@[simp] theorem State.lanesTick_edge (s : State) : KeptEdge s (State.lanesTick s) := by
  first
  | (simp [State.lanesTick]; done)
  | (unfold State.lanesTick; (try dsimp only); (repeat' split) <;> (try simp); done)
  | (unfold State.lanesTick; (try dsimp only); (repeat' split) <;> (try simp [*]); done)

@[simp] theorem State.quadPower_edge (s : State) : KeptEdge s (State.quadPower s) := by
  simp [State.quadPower]

@[simp] theorem State.linksStart_edge (s : State) : KeptEdge s (State.linksStart s) := by
  simp [State.linksStart]

@[simp] theorem State.linksOff_edge (s : State) : KeptEdge s (State.linksOff s) := by
  simp [State.linksOff]

@[simp] theorem State.bareSettings_edge (s : State) : KeptEdge s (State.bareSettings s) := by
  simp [State.bareSettings]

@[simp] theorem State.loadWords_edge (s : State) (a : Nat) (v : List Byte) (off : Nat) (n : Nat) : KeptEdge s (State.loadWords s a v off n) := by
  simp [State.loadWords]

@[simp] theorem State.applyEntry_edge (s : State) (e : Entry) : KeptEdge s (State.applyEntry s e) := by
  unfold State.applyEntry; (try dsimp only); (repeat' split) <;> (try simp)

@[simp] theorem State.withEntries_edge (s : State) (es : List Entry) (gen : Nat) : KeptEdge s (State.withEntries s es gen) := by
  simp [State.withEntries]

theorem State.judgeEntries_edge (s : State) (warm : Bool) (img : List Byte) (es : List Entry) (t : State)
    (h : (s.judgeEntries warm img es).next = some t) : KeptEdge s t := by
  unfold State.judgeEntries at h
  dsimp only at h
  repeat' split at h
  all_goals simp only [reduceCtorEq, Option.some.injEq] at h
  subst h
  simp

theorem State.judgeImage_edge (s : State) (warm : Bool) (slot : List Byte) (t : State)
    (h : (s.judgeImage warm slot).next = some t) : KeptEdge s t := by
  unfold State.judgeImage at h
  dsimp only at h
  repeat' split at h
  all_goals first
    | (simp only [reduceCtorEq] at h; done)
    | exact State.judgeEntries_edge _ _ _ _ _ h

@[simp] theorem State.mapSlices_edge (t : State) (s : State) (warm : Bool) : KeptEdge t (State.mapSlices t s warm) := by
  simp [State.mapSlices]

@[simp] theorem State.withShadows_edge (s : State) (mask : Nat) : KeptEdge s (State.withShadows s mask) := by
  simp [State.withShadows]

@[simp] theorem State.commitStat_edge (s : State) (r : Req) (v : Word) (st : Status) : KeptEdge s (State.commitStat s r v st) := by
  simp [State.commitStat]

@[simp] theorem State.commitRejected_edge (s : State) (r : Req) (v : Word) (st : Status) (adm : Option (Status × Nat × Nat)) : KeptEdge s (State.commitRejected s r v st adm) := by
  unfold State.commitRejected; (try dsimp only); (repeat' split) <;> (try simp)

@[simp] theorem State.commitEffects_edge (s : State) (t : State) : KeptEdge t (State.commitEffects s t) := by
  unfold State.commitEffects
  dsimp only
  repeat' split
  all_goals simp

@[simp] theorem State.commitPassed_edge (s t : State) (r : Req) (v : Word) (a : Option (Status × Nat × Nat)) :
    KeptEdge t (State.commitPassed s t r v a) := by
  cases a <;> simp [State.commitPassed]

@[simp] theorem State.commitWrite_edge (s : State) (r : Req) (v : Word) : KeptEdge s (State.commitWrite s r v) := by
  unfold State.commitWrite; (try dsimp only); (repeat' split) <;> (try simp)

@[simp] theorem State.discardWrite_edge (s : State) (r : Req) (v : Word) : KeptEdge s (State.discardWrite s r v) := by
  unfold State.discardWrite; (try dsimp only); (repeat' split) <;> (try simp)

theorem execCommit_edge (r : Req) (mask : BitVec 16) (s : State) (t : State) (h : (execCommit r mask s) = .next t) : KeptEdge s t := by
  simp only [execCommit, Host.Outcome.next.injEq] at h; subst h; simp

theorem execDiscard_edge (r : Req) (mask : BitVec 16) (s : State) (t : State) (h : (execDiscard r mask s) = .next t) : KeptEdge s t := by
  simp only [execDiscard, Host.Outcome.next.injEq] at h; subst h; simp

@[simp] theorem State.setPage_edge (s : State) (p : Nat) (l : List Byte) : KeptEdge s (State.setPage s p l) := by
  simp [State.setPage]

@[simp] theorem State.erase_edge (s : State) (p : Nat) (n : Nat) : KeptEdge s (State.erase s p n) := by
  simp [State.erase]

@[simp] theorem State.program_edge (s : State) (p : Nat) (l : List Byte) : KeptEdge s (State.program s p l) := by
  first
  | (simp [State.program]; done)
  | (unfold State.program; (try dsimp only); (repeat' split) <;> (try simp); done)
  | (unfold State.program; (try dsimp only); (repeat' split) <;> (try simp [*]); done)

@[simp] theorem State.writeSpw_edge (s : State) (act : Nat) (conf : Nat) (trial : Bool) (rbk : Bool) (tboots : Nat) : KeptEdge s (State.writeSpw s act conf trial rbk tboots) := by
  unfold State.writeSpw
  exact ⟨rfl, rfl, rfl, rfl, rfl, rfl, rfl⟩

@[simp] theorem State.saveSettings_edge (s : State) (ok : Bool) : KeptEdge s (State.saveSettings s ok) := by
  simp [State.saveSettings]

@[simp] theorem State.setTraverse_edge (s : State) (body : List Byte) : KeptEdge s (State.setTraverse s body) := by
  simp [State.setTraverse]

@[simp] theorem State.resetSettings_edge (s : State) (format : Nat) : KeptEdge s (State.resetSettings s format) := by
  simp [State.resetSettings]

@[simp] theorem State.loadSettings_edge (s : State) : KeptEdge s (State.loadSettings s) := by
  unfold State.loadSettings; (try dsimp only); (repeat' split) <;> (try simp)

@[simp] theorem State.dropSettings_edge (s : State) (kept : Nat) : KeptEdge s (State.dropSettings s kept) := by
  first
  | (simp [State.dropSettings]; done)
  | (unfold State.dropSettings; (try dsimp only); (repeat' split) <;> (try simp); done)
  | (unfold State.dropSettings; (try dsimp only); (repeat' split) <;> (try simp [*]); done)

theorem execSettingsSave_edge (ok : Bool) (s : State) (t : State) (h : (execSettingsSave ok s) = .next t) : KeptEdge s t := by
  unfold execSettingsSave at h; (try dsimp only at h); (repeat' split at h) <;> (try simp only [Host.Outcome.next.injEq, reduceCtorEq] at h) <;> (try subst h) <;> (try simp)

@[simp] theorem State.updDone_edge (s : State) (st : Status) : KeptEdge s (State.updDone s st) := by
  simp [State.updDone]

@[simp] theorem State.stageNew_edge (s : State) (w : List Byte) : KeptEdge s (State.stageNew s w) := by
  simp [State.stageNew]

theorem execUpdBegin_edge (r : Req) (flashOk : Bool) (s : State) (t : State) (h : (execUpdBegin r flashOk s) = .next t) : KeptEdge s t := by
  simp only [execUpdBegin, Host.Outcome.next.injEq] at h; subst h; simp

@[simp] theorem State.storeChunk_edge (s : State) : KeptEdge s (State.storeChunk s) := by
  simp [State.storeChunk]

theorem execUpdChunk_edge (r : Req) (flashOk : Bool) (s : State) (t : State) (h : (execUpdChunk r flashOk s) = .next t) : KeptEdge s t := by
  simp only [execUpdChunk, Host.Outcome.next.injEq] at h; subst h; simp

theorem execUpdVerify_edge (r : Req) (s : State) (t : State) (h : (execUpdVerify r s) = .next t) : KeptEdge s t := by
  simp only [execUpdVerify, Host.Outcome.next.injEq] at h; subst h; simp

@[simp] theorem State.writeImage_edge (s : State) (slot : Nat) (l : List Byte) : KeptEdge s (State.writeImage s slot l) := by
  simp [State.writeImage]

@[simp] theorem State.verifyFirmware_edge (s : State) : KeptEdge s (State.verifyFirmware s).1 := by
  unfold State.verifyFirmware; (try dsimp only); (repeat' split) <;> (try simp)

@[simp] theorem State.voidSlot_edge (s : State) (i : Nat) : KeptEdge s (State.voidSlot s i) := by
  unfold State.voidSlot
  exact State.setPage_edge _ _ _

@[simp] theorem State.verify_edge (s : State) : KeptEdge s (State.verify s).1 := by
  unfold State.verify; (try dsimp only); (repeat' split) <;> (try simp)

theorem execVerifyDone_edge (flashOk : Bool) (s : State) (t : State) (h : (execVerifyDone flashOk s) = .next t) : KeptEdge s t := by
  unfold execVerifyDone at h; (try dsimp only at h); (repeat' split at h) <;> (try simp only [Host.Outcome.next.injEq, reduceCtorEq] at h) <;> (try subst h) <;> (try simp)

@[simp] theorem State.beginWarm_edge (s : State) : KeptEdge s (State.beginWarm s) := by
  simp [State.beginWarm]

theorem execActivate_edge (r : Req) (ok : Bool) (s : State) (t : State) (h : execActivate r ok s = .next t) : KeptEdge s t := by
  simp only [execActivate, Host.Outcome.next.injEq] at h
  subst h
  refine State.hostWrite_edge s r _ _ _ (fun u => ?_)
  split <;> simp

@[simp] theorem State.advanceFloors_edge (s : State) : KeptEdge s (State.advanceFloors s) := by
  simp [State.advanceFloors]

@[simp] theorem State.raiseFloors_edge (s : State) : KeptEdge s (State.raiseFloors s) := by
  simp [State.raiseFloors]

@[simp] theorem State.confirm_edge (s : State) : KeptEdge s (State.confirm s) := by
  simp [State.confirm]

theorem execConfirm_edge (r : Req) (s : State) (t : State) (h : (execConfirm r s) = .next t) : KeptEdge s t := by
  simp only [execConfirm, Host.Outcome.next.injEq] at h; subst h; simp

@[simp] theorem State.unstage_edge (s : State) : KeptEdge s (State.unstage s) := by
  simp [State.unstage]

@[simp] theorem State.rollBack_edge (s : State) (cause : Nat) : KeptEdge s (State.rollBack s cause) := by
  simp [State.rollBack]

@[simp] theorem State.rollWarm_edge (s : State) (cause : Nat) : KeptEdge s (State.rollWarm s cause) := by
  simp [State.rollWarm]

theorem execRollback_edge (r : Req) (s : State) (t : State) (h : (execRollback r s) = .next t) : KeptEdge s t := by
  simp only [execRollback, Host.Outcome.next.injEq] at h; subst h; simp

theorem execUpdAbort_edge (r : Req) (s : State) (t : State) (h : (execUpdAbort r s) = .next t) : KeptEdge s t := by
  simp only [execUpdAbort, Host.Outcome.next.injEq] at h; subst h; simp

theorem execTrialExpire_edge (s : State) (t : State) (h : (execTrialExpire s) = .next t) : KeptEdge s t := by
  unfold execTrialExpire at h; (try dsimp only at h); (repeat' split at h) <;> (try simp only [Host.Outcome.next.injEq, reduceCtorEq] at h) <;> (try subst h) <;> (try simp)

@[simp] theorem State.foundBad_edge (s : State) (w : LedgerWord) : KeptEdge s (State.foundBad s w) := by
  first
  | (simp [State.foundBad]; done)
  | (unfold State.foundBad; (try dsimp only); (repeat' split) <;> (try simp); done)
  | (unfold State.foundBad; (try dsimp only); (repeat' split) <;> (try simp [*]); done)

@[simp] theorem State.coldStart_edge (s : State) : KeptEdge s (State.coldStart s) := by
  simp [State.coldStart]

@[simp] theorem State.clockLost_edge (s : State) (pll : Nat) : KeptEdge s (State.clockLost s pll) := by
  simp [State.clockLost]

theorem execClockLost_edge (pll : Bool) (s : State) (t : State) (h : (execClockLost pll s) = .next t) : KeptEdge s t := by
  simp only [execClockLost, Host.Outcome.next.injEq] at h; subst h; simp

theorem execShutdownRearm_edge (s : State) (t : State) (h : (execShutdownRearm s) = .next t) : KeptEdge s t := by
  unfold execShutdownRearm at h; (try dsimp only at h); (repeat' split at h) <;> (try simp only [Host.Outcome.next.injEq, reduceCtorEq] at h) <;> (try subst h) <;> (try simp)

theorem State.fatalSource_edge (s : State) (src : Nat) (a : Nat) (b : Nat) (h : src ≠ 7) : KeptEdge s (State.fatalSource s src a b) := by
  unfold State.fatalSource
  repeat' split
  all_goals first
    | (simp; done)
    | exact absurd rfl h

theorem execFatalFault_edge (src : Fin 8) (a b : BitVec 32) (s t : State) (h : (execFatalFault src a b s) = .next t) (hs : src.val ≠ 7) : KeptEdge s t := by
  simp only [execFatalFault, Host.Outcome.next.injEq] at h
  subst h
  exact State.fatalSource_edge _ _ _ _ hs

@[simp] theorem State.setDomains_edge (s : State) (l : List (Nat × PwrState)) : KeptEdge s (State.setDomains s l) := by
  simp [State.setDomains]

@[simp] theorem State.domainsOn_edge (s : State) : KeptEdge s (State.domainsOn s) := by
  simp [State.domainsOn]

@[simp] theorem State.domainsHold_edge (s : State) : KeptEdge s (State.domainsHold s) := by
  simp [State.domainsHold]

@[simp] theorem State.announceRecords_edge (s : State) : KeptEdge s (State.announceRecords s) := by
  unfold State.announceRecords
  dsimp only
  have h : ∀ l : List ShutRec, KeptEdge s (l.foldl (fun (t : State) r =>
    (t.event Reg.THM_EVENTS Fld.THM_EVENTS_SHUT_RECORD).alert 0x56 0xFF (leAt r.bytes (4 * 0) 4) (leAt r.bytes (4 * 1) 4)
      (leAt r.bytes (4 * 2) 4) (leAt r.bytes (4 * 3) 4)) s) := by
    intro l
    apply foldl_edge
    intro t x
    simp only [KeptEdge, State.event_edge, State.alert_edge, and_self]
  exact h _

@[simp] theorem State.enterService_edge (s : State) : KeptEdge s (State.enterService s) := by
  simp [State.enterService]

@[simp] theorem State.enterMaintain_edge (s : State) (fromLoad : Bool) : KeptEdge s (State.enterMaintain s fromLoad) := by
  simp [State.enterMaintain]

@[simp] theorem State.leaveHold_edge (s : State) (cal : CalResult) : KeptEdge s (State.leaveHold s cal) := by
  simp [State.leaveHold]

theorem execModeReqService_edge (r : Req) (cal : CalResult) (s : State) (t : State) (h : (execModeReqService r cal s) = .next t) : KeptEdge s t := by
  simp only [execModeReqService, Host.Outcome.next.injEq] at h; subst h; simp

@[simp] theorem State.askHold_edge (s : State) : KeptEdge s (State.askHold s) := by
  simp [State.askHold]

theorem execModeReqHold_edge (r : Req) (s : State) (t : State) (h : (execModeReqHold r s) = .next t) : KeptEdge s t := by
  simp only [execModeReqHold, Host.Outcome.next.injEq] at h; subst h; simp

@[simp] theorem State.enterHold_edge (s : State) : KeptEdge s (State.enterHold s) := by
  simp [State.enterHold]

theorem execHoldEntryComplete_edge (s : State) (t : State) (h : (execHoldEntryComplete s) = .next t) : KeptEdge s t := by
  unfold execHoldEntryComplete at h; (try dsimp only at h); (repeat' split at h) <;> (try simp only [Host.Outcome.next.injEq, reduceCtorEq] at h) <;> (try subst h) <;> (try simp)

theorem execModeReqMaintain_edge (r : Req) (s : State) (t : State) (h : (execModeReqMaintain r s) = .next t) : KeptEdge s t := by
  simp only [execModeReqMaintain, Host.Outcome.next.injEq] at h; subst h; simp

@[simp] theorem State.runSet_edge (s : State) (img : List Byte) : KeptEdge s (State.runSet s img) := by
  simp [State.runSet]

@[simp] theorem State.setUpdBoot_edge (s : State) (source : Nat) (refusal : Nat × Status) : KeptEdge s (State.setUpdBoot s source refusal) := by
  simp [State.setUpdBoot]

@[simp] theorem State.runRecovery_edge (s : State) : KeptEdge s (State.runRecovery s) := by
  simp [State.runRecovery]

@[simp] theorem State.bootAct_edge (s : State) : KeptEdge s (State.bootAct s) := by
  simp [State.bootAct]

@[simp] theorem State.chooseSet_edge (s : State) : KeptEdge s (State.chooseSet s) := by
  simp [State.chooseSet]

@[simp] theorem State.emptyConfig_edge (s : State) : KeptEdge s (State.emptyConfig s) := by
  simp [State.emptyConfig]

@[simp] theorem State.setCfgLog_edge (s : State) (seen : List (Nat × Verdict)) : KeptEdge s (State.setCfgLog s seen) := by
  simp [State.setCfgLog]

@[simp] theorem State.configRefused_edge (s : State) (v : Nat × Verdict) : KeptEdge s (State.configRefused s v) := by
  unfold State.configRefused
  cases v.2.adm <;> simp

theorem State.takeConfig_edge (s : State) (i : Nat) (v : Verdict) (h : ∀ t, v.next = some t → KeptEdge s t) : KeptEdge s (State.takeConfig s i v) := by
  unfold State.takeConfig
  cases hn : v.next with
  | none => cases v.adm <;> simp
  | some t =>
    have h1 := h t hn
    cases v.adm <;> simp_all

/-- The image of a slot taken into use (R42). -/
@[simp] theorem State.takeJudged_edge (s : State) (i : Nat) (w : Bool) (b : List Byte) :
    KeptEdge s (s.takeConfig i (s.judgeImage w b)) :=
  State.takeConfig_edge _ _ _ (fun _ h => State.judgeImage_edge _ _ _ _ h)

@[simp] theorem State.chooseConfig_edge (s : State) : KeptEdge s (State.chooseConfig s) := by
  unfold State.chooseConfig
  dsimp only
  repeat' split
  all_goals simp

@[simp] theorem State.restoreAvail_edge (s : State) : KeptEdge s (State.restoreAvail s) := by
  unfold State.restoreAvail; (try dsimp only); (repeat' split) <;> (try simp)

@[simp] theorem State.coldEntries_edge (s : State) : KeptEdge s (State.coldEntries s) := by
  simp [State.coldEntries]

@[simp] theorem State.readFuses_edge (s : State) : KeptEdge s (State.readFuses s) := by
  simp [State.readFuses]

@[simp] theorem State.applyRepair_edge (s : State) (e : Nat) : KeptEdge s (State.applyRepair s e) := by
  simp [State.applyRepair]

@[simp] theorem State.bringUp_edge (s : State) : KeptEdge s (State.bringUp s) := by
  simp [State.bringUp]

@[simp] theorem State.foundPages_edge (s : State) (l : List (Fin 2112 × List Byte)) : KeptEdge s (State.foundPages s l) := by
  simp [State.foundPages]

@[simp] theorem State.takeSpw_edge (s : State) : KeptEdge s (State.takeSpw s) := by
  simp [State.takeSpw]

@[simp] theorem State.loadFloors_edge (s : State) : KeptEdge s (State.loadFloors s) := by
  simp [State.loadFloors]

@[simp] theorem State.loadSteps_edge (s : State) : KeptEdge s (State.loadSteps s) := by
  simp [State.loadSteps]

@[simp] theorem State.loadEntry_edge (s : State) (found : LoadFind) : KeptEdge s (State.loadEntry s found) := by
  unfold State.loadEntry; (try dsimp only); (repeat' split) <;> (try simp)

theorem execLoadEntry_edge (found : LoadFind) (s : State) (t : State) (h : (execLoadEntry found s) = .next t) : KeptEdge s t := by
  unfold execLoadEntry at h; (try dsimp only at h); (repeat' split at h) <;> (try simp only [Host.Outcome.next.injEq, reduceCtorEq] at h) <;> (try subst h) <;> (try simp)

@[simp] theorem State.eccFailed_edge (s : State) (c : Nat) (incomplete : Bool) : KeptEdge s (State.eccFailed s c incomplete) := by
  simp [State.eccFailed]

@[simp] theorem State.startFail_edge (s : State) (b : Nat) : KeptEdge s (State.startFail s b) := by
  simp [State.startFail]

@[simp] theorem State.startCount_edge (s : State) (fails : List Nat) : KeptEdge s (State.startCount s fails) := by
  first
  | (simp [State.startCount]; done)
  | (unfold State.startCount; (try dsimp only); (repeat' split) <;> (try simp); done)
  | (unfold State.startCount; (try dsimp only); (repeat' split) <;> (try simp [*]); done)

@[simp] theorem State.assignReserve_edge (s : State) : KeptEdge s (State.assignReserve s) := by
  simp [State.assignReserve]

@[simp] theorem State.eccMaps_edge (s : State) (l : List (Nat × StVerdict)) : KeptEdge s (State.eccMaps s l) := by
  simp [State.eccMaps]

@[simp] theorem State.startTests_edge (s : State) (r : StartTests) : KeptEdge s (State.startTests s r) := by
  simp [State.startTests]

@[simp] theorem State.loadEnds_edge (s : State) : KeptEdge s (State.loadEnds s) := by
  simp [State.loadEnds]

theorem execLoadComplete_edge (r : StartTests) (s : State) (t : State) (h : (execLoadComplete r s) = .next t) : KeptEdge s t := by
  unfold execLoadComplete at h; (try dsimp only at h); (repeat' split at h) <;> (try simp only [Host.Outcome.next.injEq, reduceCtorEq] at h) <;> (try subst h) <;> (try simp)

@[simp] theorem State.drainChannel_edge (s : State) (c : Nat) : KeptEdge s (State.drainChannel s c) := by
  simp [State.drainChannel]

@[simp] theorem State.warmStops_edge (s : State) : KeptEdge s (State.warmStops s) := by
  simp [State.warmStops]

@[simp] theorem State.warmSet_edge (s : State) : KeptEdge s (State.warmSet s).1 := by
  unfold State.warmSet; (try dsimp only); (repeat' split) <;> (try simp)

@[simp] theorem State.chainsChanged_edge (t : State) (s : State) : KeptEdge t (State.chainsChanged t s) := by
  simp [State.chainsChanged]

@[simp] theorem State.freshFrames_edge (t0 : State) (s : State) : KeptEdge t0 (State.freshFrames t0 s) := by
  simp [State.freshFrames]

@[simp] theorem State.warmMap_edge (t : State) (s : State) : KeptEdge t (State.warmMap t s) := by
  simp [State.warmMap]

@[simp] theorem State.platsLost_edge (s : State) : KeptEdge s (State.platsLost s) := by
  first
  | (simp [State.platsLost]; done)
  | (unfold State.platsLost; (try dsimp only); (repeat' split) <;> (try simp); done)
  | (unfold State.platsLost; (try dsimp only); (repeat' split) <;> (try simp [*]); done)

@[simp] theorem State.warmConfig_edge (s : State) : KeptEdge s (State.warmConfig s).1 := by
  unfold State.warmConfig; (try dsimp only); (repeat' split) <;> (try simp)

@[simp] theorem State.activationEnds_edge (s : State) (fw : Status) (cfg : Status) : KeptEdge s (State.activationEnds s fw cfg) := by
  simp [State.activationEnds]

@[simp] theorem State.warmReturn_edge (s : State) (back : Mode) : KeptEdge s (State.warmReturn s back) := by
  simp [State.warmReturn]

@[simp] theorem State.warmLoad_edge (s : State) : KeptEdge s (State.warmLoad s) := by
  unfold State.warmLoad; (try dsimp only); (repeat' split) <;> (try simp)

theorem execWarmLoad_edge (s : State) (t : State) (h : (execWarmLoad s) = .next t) : KeptEdge s t := by
  unfold execWarmLoad at h; (try dsimp only at h); (repeat' split at h) <;> (try simp only [Host.Outcome.next.injEq, reduceCtorEq] at h) <;> (try subst h) <;> (try simp)

@[simp] theorem State.putNak_edge (s : State) (k : Nat) : KeptEdge s (State.putNak s k) := by
  first
  | (simp [State.putNak]; done)
  | (unfold State.putNak; (try dsimp only); (repeat' split) <;> (try simp); done)
  | (unfold State.putNak; (try dsimp only); (repeat' split) <;> (try simp [*]); done)

@[simp] theorem State.sendNak_edge (s : State) (k : Nat) : KeptEdge s (State.sendNak s k) := by
  simp [State.sendNak]

@[simp] theorem State.putAck_edge (s : State) (k : Nat) : KeptEdge s (State.putAck s k) := by
  first
  | (simp [State.putAck]; done)
  | (unfold State.putAck; (try dsimp only); (repeat' split) <;> (try simp); done)
  | (unfold State.putAck; (try dsimp only); (repeat' split) <;> (try simp [*]); done)

@[simp] theorem State.sendAck_edge (s : State) (k : Nat) : KeptEdge s (State.sendAck s k) := by
  simp [State.sendAck]

@[simp] theorem State.flushAck_edge (s : State) (k : Nat) : KeptEdge s (State.flushAck s k) := by
  first
  | (simp [State.flushAck]; done)
  | (unfold State.flushAck; (try dsimp only); (repeat' split) <;> (try simp); done)
  | (unfold State.flushAck; (try dsimp only); (repeat' split) <;> (try simp [*]); done)

@[simp] theorem State.flushAcks_edge (s : State) : KeptEdge s (State.flushAcks s) := by
  first
  | (simp [State.flushAcks]; done)
  | (unfold State.flushAcks; (try dsimp only); (repeat' split) <;> (try simp); done)
  | (unfold State.flushAcks; (try dsimp only); (repeat' split) <;> (try simp [*]); done)

@[simp] theorem State.linkError_edge (s : State) (k : Nat) : KeptEdge s (State.linkError s k) := by
  simp [State.linkError]

@[simp] theorem State.overrun_edge (s : State) (k : Nat) : KeptEdge s (State.overrun s k) := by
  simp [State.overrun]

@[simp] theorem State.acceptPacket_edge (s : State) (k : Nat) (p : Packet) : KeptEdge s (State.acceptPacket s k p) := by
  simp [State.acceptPacket]

@[simp] theorem State.contentError_edge (s : State) (k : Nat) (p : Packet) : KeptEdge s (State.contentError s k p) := by
  simp [State.contentError]

@[simp] theorem State.takeGrants_edge (s : State) (k : Nat) (payload : List Byte) : KeptEdge s (State.takeGrants s k payload) := by
  simp [State.takeGrants]

@[simp] theorem State.releasePackets_edge (s : State) (k : Nat) (n : Nat) : KeptEdge s (State.releasePackets s k n) := by
  simp [State.releasePackets]

@[simp] theorem State.replay_edge (s : State) (k : Nat) : KeptEdge s (State.replay s k) := by
  unfold State.replay; (try dsimp only); (repeat' split) <;> (try simp)

@[simp] theorem State.ackInvalid_edge (s : State) (k : Nat) : KeptEdge s (State.ackInvalid s k) := by
  simp [State.ackInvalid]

@[simp] theorem State.ackTaken_edge (s : State) (k : Nat) (x : Nat) : KeptEdge s (State.ackTaken s k x) := by
  first
  | (simp [State.ackTaken]; done)
  | (unfold State.ackTaken; (try dsimp only); (repeat' split) <;> (try simp); done)
  | (unfold State.ackTaken; (try dsimp only); (repeat' split) <;> (try simp [*]); done)

@[simp] theorem State.nakTaken_edge (s : State) (k : Nat) (x : Nat) : KeptEdge s (State.nakTaken s k x) := by
  first
  | (simp [State.nakTaken]; done)
  | (unfold State.nakTaken; (try dsimp only); (repeat' split) <;> (try simp); done)
  | (unfold State.nakTaken; (try dsimp only); (repeat' split) <;> (try simp [*]); done)

theorem execAckReceived_edge (k : Fin 16) (body : BitVec 56) (s : State) (t : State) (h : (execAckReceived k body s) = .next t) : KeptEdge s t := by
  unfold execAckReceived at h; (try dsimp only at h); (repeat' split at h) <;> (try simp only [Host.Outcome.next.injEq, reduceCtorEq] at h) <;> (try subst h) <;> (try simp)

theorem execNakReceived_edge (k : Fin 16) (body : BitVec 56) (s : State) (t : State) (h : (execNakReceived k body s) = .next t) : KeptEdge s t := by
  unfold execNakReceived at h; (try dsimp only at h); (repeat' split at h) <;> (try simp only [Host.Outcome.next.injEq, reduceCtorEq] at h) <;> (try subst h) <;> (try simp)

theorem execReplayTimeout_edge (k : Fin 16) (s : State) (t : State) (h : (execReplayTimeout k s) = .next t) : KeptEdge s t := by
  unfold execReplayTimeout at h; (try dsimp only at h); (repeat' split at h) <;> (try simp only [Host.Outcome.next.injEq, reduceCtorEq] at h) <;> (try subst h) <;> (try simp)

@[simp] theorem State.grantPool_edge (s : State) (k : Nat) (n : Nat) (more : Nat) : KeptEdge s (State.grantPool s k n more) := by
  simp [State.grantPool]

@[simp] theorem State.grantPools_edge (s : State) (k : Nat) : KeptEdge s (State.grantPools s k) := by
  simp [State.grantPools]

@[simp] theorem State.markMoved_edge (s : State) (k : Nat) : KeptEdge s (State.markMoved s k) := by
  first
  | (simp [State.markMoved]; done)
  | (unfold State.markMoved; (try dsimp only); (repeat' split) <;> (try simp); done)
  | (unfold State.markMoved; (try dsimp only); (repeat' split) <;> (try simp [*]); done)

@[simp] theorem State.markAllMoved_edge (s : State) : KeptEdge s (State.markAllMoved s) := by
  first
  | (simp [State.markAllMoved]; done)
  | (unfold State.markAllMoved; (try dsimp only); (repeat' split) <;> (try simp); done)
  | (unfold State.markAllMoved; (try dsimp only); (repeat' split) <;> (try simp [*]); done)

@[simp] theorem State.sendGrants_edge (s : State) (k : Nat) : KeptEdge s (State.sendGrants s k) := by
  simp [State.sendGrants]

theorem execCreditGrantSend_edge (k : Fin 16) (s : State) (t : State) (h : (execCreditGrantSend k s) = .next t) : KeptEdge s t := by
  unfold execCreditGrantSend at h; (try dsimp only at h); (repeat' split at h) <;> (try simp only [Host.Outcome.next.injEq, reduceCtorEq] at h) <;> (try subst h) <;> (try simp)

theorem execAlertSend_edge (k : Fin 16) (s : State) (t : State) (h : (execAlertSend k s) = .next t) : KeptEdge s t := by
  unfold execAlertSend at h; (try dsimp only at h); (repeat' split at h) <;> (try simp only [Host.Outcome.next.injEq, reduceCtorEq] at h) <;> (try subst h) <;> (try simp)

@[simp] theorem State.latch_edge (s : State) (r : Req) (e : Nat) (v : Nat) : KeptEdge s (State.latch s r e v) := by
  unfold State.latch; (try dsimp only); (repeat' split) <;> (try simp)

@[simp] theorem State.busRead_edge (s : State) (r : Req) (a : Nat) : KeptEdge s (State.busRead s r a).1 := by
  unfold State.busRead; (try dsimp only); (repeat' split) <;> (try simp)

@[simp] theorem State.readOne_edge (s : State) (r : Req) (a : Nat) (size : Nat) (late : Bool) : KeptEdge s (State.readOne s r a size late).1 := by
  first
  | (simp [State.readOne]; done)
  | (unfold State.readOne; (try dsimp only); (repeat' split) <;> (try simp); done)
  | (unfold State.readOne; (try dsimp only); (repeat' split) <;> (try simp [*]); done)

@[simp] theorem State.regRead_edge (s : State) (r : Req) (a : Nat) (size : Nat) (late : Bool) : KeptEdge s (State.regRead s r a size late).1 := by
  unfold State.regRead; (try dsimp only); (repeat' split) <;> (try simp)

theorem stateOf_edge {x : Result} {s : State} (h : ∀ t, x = .next t → KeptEdge s t) : KeptEdge s (stateOf x s) := by
  unfold stateOf
  split
  · exact h _ rfl
  · simp

@[simp] theorem stateOf_execModeReqService_edge (r : Req) (cal : CalResult) (s : State) (u : State) (hu : KeptEdge u s) :
    KeptEdge u (stateOf (execModeReqService r cal s) u) :=
  stateOf_edge (fun _ h => KeptEdge_trans hu (execModeReqService_edge _ _ _ _ h))

@[simp] theorem stateOf_execModeReqHold_edge (r : Req) (s : State) (u : State) (hu : KeptEdge u s) :
    KeptEdge u (stateOf (execModeReqHold r s) u) :=
  stateOf_edge (fun _ h => KeptEdge_trans hu (execModeReqHold_edge _ _ _ h))

@[simp] theorem stateOf_execModeReqMaintain_edge (r : Req) (s : State) (u : State) (hu : KeptEdge u s) :
    KeptEdge u (stateOf (execModeReqMaintain r s) u) :=
  stateOf_edge (fun _ h => KeptEdge_trans hu (execModeReqMaintain_edge _ _ _ h))

@[simp] theorem stateOf_execDomOpen_edge (r : Req) (stop : Option (BitVec 25)) (s : State) (u : State) (hu : KeptEdge u s) :
    KeptEdge u (stateOf (execDomOpen r stop s) u) :=
  stateOf_edge (fun _ h => KeptEdge_trans hu (execDomOpen_edge _ _ _ _ h))

@[simp] theorem stateOf_execDomClose_edge (r : Req) (fenced : Bool) (stop : Option (BitVec 25)) (s : State) (u : State) (hu : KeptEdge u s) :
    KeptEdge u (stateOf (execDomClose r fenced stop s) u) :=
  stateOf_edge (fun _ h => KeptEdge_trans hu (execDomClose_edge _ _ _ _ _ h))

@[simp] theorem stateOf_execDomRelease_edge (r : Req) (stop : Option (BitVec 25)) (s : State) (u : State) (hu : KeptEdge u s) :
    KeptEdge u (stateOf (execDomRelease r stop s) u) :=
  stateOf_edge (fun _ h => KeptEdge_trans hu (execDomRelease_edge _ _ _ _ h))

@[simp] theorem stateOf_execPoolDef_edge (r : Req) (upto : Option (BitVec 25)) (s : State) (u : State) (hu : KeptEdge u s) :
    KeptEdge u (stateOf (execPoolDef r upto s) u) :=
  stateOf_edge (fun _ h => KeptEdge_trans hu (execPoolDef_edge _ _ _ _ h))

@[simp] theorem stateOf_execPoolDel_edge (r : Req) (upto : Option (BitVec 25)) (s : State) (u : State) (hu : KeptEdge u s) :
    KeptEdge u (stateOf (execPoolDel r upto s) u) :=
  stateOf_edge (fun _ h => KeptEdge_trans hu (execPoolDel_edge _ _ _ _ h))

@[simp] theorem stateOf_execReadoutSummary_edge (r : Req) (s : State) (u : State) (hu : KeptEdge u s) :
    KeptEdge u (stateOf (execReadoutSummary r s) u) :=
  stateOf_edge (fun _ h => KeptEdge_trans hu (execReadoutSummary_edge _ _ _ h))

@[simp] theorem stateOf_execReadoutPoints_edge (r : Req) (s : State) (u : State) (hu : KeptEdge u s) :
    KeptEdge u (stateOf (execReadoutPoints r s) u) :=
  stateOf_edge (fun _ h => KeptEdge_trans hu (execReadoutPoints_edge _ _ _ h))

@[simp] theorem stateOf_execReadoutLines_edge (r : Req) (s : State) (u : State) (hu : KeptEdge u s) :
    KeptEdge u (stateOf (execReadoutLines r s) u) :=
  stateOf_edge (fun _ h => KeptEdge_trans hu (execReadoutLines_edge _ _ _ h))

@[simp] theorem stateOf_execReadoutCloseRecord_edge (r : Req) (s : State) (u : State) (hu : KeptEdge u s) :
    KeptEdge u (stateOf (execReadoutCloseRecord r s) u) :=
  stateOf_edge (fun _ h => KeptEdge_trans hu (execReadoutCloseRecord_edge _ _ _ h))

@[simp] theorem stateOf_execRetrain_edge (r : Req) (l : Fin 64) (s : State) (u : State) (hu : KeptEdge u s) :
    KeptEdge u (stateOf (execRetrain r l s) u) :=
  stateOf_edge (fun _ h => KeptEdge_trans hu (execRetrain_edge _ _ _ _ h))

@[simp] theorem stateOf_execInjectBit_edge (r : Req) (l : Fin 64) (count : BitVec 8) (s : State) (u : State) (hu : KeptEdge u s) :
    KeptEdge u (stateOf (execInjectBit r l count s) u) :=
  stateOf_edge (fun _ h => KeptEdge_trans hu (execInjectBit_edge _ _ _ _ _ h))

@[simp] theorem stateOf_execInjectSymbol_edge (r : Req) (l : Fin 64) (count : BitVec 8) (s : State) (u : State) (hu : KeptEdge u s) :
    KeptEdge u (stateOf (execInjectSymbol r l count s) u) :=
  stateOf_edge (fun _ h => KeptEdge_trans hu (execInjectSymbol_edge _ _ _ _ _ h))

@[simp] theorem stateOf_execInjectSync_edge (r : Req) (l : Fin 64) (s : State) (u : State) (hu : KeptEdge u s) :
    KeptEdge u (stateOf (execInjectSync r l s) u) :=
  stateOf_edge (fun _ h => KeptEdge_trans hu (execInjectSync_edge _ _ _ _ h))

@[simp] theorem stateOf_execInjectLol_edge (r : Req) (l : Fin 64) (s : State) (u : State) (hu : KeptEdge u s) :
    KeptEdge u (stateOf (execInjectLol r l s) u) :=
  stateOf_edge (fun _ h => KeptEdge_trans hu (execInjectLol_edge _ _ _ _ h))

@[simp] theorem stateOf_execFulltest_edge (r : Req) (s : State) (u : State) (hu : KeptEdge u s) :
    KeptEdge u (stateOf (execFulltest r s) u) :=
  stateOf_edge (fun _ h => KeptEdge_trans hu (execFulltest_edge _ _ _ h))

@[simp] theorem stateOf_execFuseCommit_edge (r : Req) (s : State) (u : State) (hu : KeptEdge u s) :
    KeptEdge u (stateOf (execFuseCommit r s) u) :=
  stateOf_edge (fun _ h => KeptEdge_trans hu (execFuseCommit_edge _ _ _ h))

@[simp] theorem stateOf_execLegCmd_edge (r : Req) (s : State) (u : State) (hu : KeptEdge u s) :
    KeptEdge u (stateOf (execLegCmd r s) u) :=
  stateOf_edge (fun _ h => KeptEdge_trans hu (execLegCmd_edge _ _ _ h))

@[simp] theorem stateOf_execAbortFulltest_edge (r : Req) (s : State) (u : State) (hu : KeptEdge u s) :
    KeptEdge u (stateOf (execAbortFulltest r s) u) :=
  stateOf_edge (fun _ h => KeptEdge_trans hu (execAbortFulltest_edge _ _ _ h))

@[simp] theorem stateOf_execSense_edge (why : SenseWhy) (weak : List (Fin 1024 × BitVec 64)) (s : State) (u : State) (hu : KeptEdge u s) :
    KeptEdge u (stateOf (execSense why weak s) u) :=
  stateOf_edge (fun _ h => KeptEdge_trans hu (execSense_edge _ _ _ _ h))

@[simp] theorem stateOf_execReinforce_edge (r : Req) (s : State) (u : State) (hu : KeptEdge u s) :
    KeptEdge u (stateOf (execReinforce r s) u) :=
  stateOf_edge (fun _ h => KeptEdge_trans hu (execReinforce_edge _ _ _ h))

@[simp] theorem stateOf_execUpdBegin_edge (r : Req) (flashOk : Bool) (s : State) (u : State) (hu : KeptEdge u s) :
    KeptEdge u (stateOf (execUpdBegin r flashOk s) u) :=
  stateOf_edge (fun _ h => KeptEdge_trans hu (execUpdBegin_edge _ _ _ _ h))

@[simp] theorem stateOf_execUpdChunk_edge (r : Req) (flashOk : Bool) (s : State) (u : State) (hu : KeptEdge u s) :
    KeptEdge u (stateOf (execUpdChunk r flashOk s) u) :=
  stateOf_edge (fun _ h => KeptEdge_trans hu (execUpdChunk_edge _ _ _ _ h))

@[simp] theorem stateOf_execUpdVerify_edge (r : Req) (s : State) (u : State) (hu : KeptEdge u s) :
    KeptEdge u (stateOf (execUpdVerify r s) u) :=
  stateOf_edge (fun _ h => KeptEdge_trans hu (execUpdVerify_edge _ _ _ h))

@[simp] theorem stateOf_execActivate_edge (r : Req) (ok : Bool) (s : State) (u : State) (hu : KeptEdge u s) :
    KeptEdge u (stateOf (execActivate r ok s) u) :=
  stateOf_edge (fun _ h => KeptEdge_trans hu (execActivate_edge _ _ _ _ h))

@[simp] theorem stateOf_execConfirm_edge (r : Req) (s : State) (u : State) (hu : KeptEdge u s) :
    KeptEdge u (stateOf (execConfirm r s) u) :=
  stateOf_edge (fun _ h => KeptEdge_trans hu (execConfirm_edge _ _ _ h))

@[simp] theorem stateOf_execRollback_edge (r : Req) (s : State) (u : State) (hu : KeptEdge u s) :
    KeptEdge u (stateOf (execRollback r s) u) :=
  stateOf_edge (fun _ h => KeptEdge_trans hu (execRollback_edge _ _ _ h))

@[simp] theorem stateOf_execUpdAbort_edge (r : Req) (s : State) (u : State) (hu : KeptEdge u s) :
    KeptEdge u (stateOf (execUpdAbort r s) u) :=
  stateOf_edge (fun _ h => KeptEdge_trans hu (execUpdAbort_edge _ _ _ h))

@[simp] theorem stateOf_execReanalyse_edge (r : Req) (s : State) (u : State) (hu : KeptEdge u s) :
    KeptEdge u (stateOf (execReanalyse r s) u) :=
  stateOf_edge (fun _ h => KeptEdge_trans hu (execReanalyse_edge _ _ _ h))

@[simp] theorem stateOf_execClearLat_edge (r : Req) (s : State) (u : State) (hu : KeptEdge u s) :
    KeptEdge u (stateOf (execClearLat r s) u) :=
  stateOf_edge (fun _ h => KeptEdge_trans hu (execClearLat_edge _ _ _ h))

@[simp] theorem stateOf_execAckAlertn_edge (r : Req) (s : State) (u : State) (hu : KeptEdge u s) :
    KeptEdge u (stateOf (execAckAlertn r s) u) :=
  stateOf_edge (fun _ h => KeptEdge_trans hu (execAckAlertn_edge _ _ _ h))

@[simp] theorem stateOf_execClearAll_edge (r : Req) (s : State) (u : State) (hu : KeptEdge u s) :
    KeptEdge u (stateOf (execClearAll r s) u) :=
  stateOf_edge (fun _ h => KeptEdge_trans hu (execClearAll_edge _ _ _ h))

@[simp] theorem stateOf_execResync_edge (r : Req) (src : Fin 256) (s : State) (u : State) (hu : KeptEdge u s) :
    KeptEdge u (stateOf (execResync r src s) u) :=
  stateOf_edge (fun _ h => KeptEdge_trans hu (execResync_edge _ _ _ _ h))

@[simp] theorem stateOf_execFltForce_edge (r : Req) (i : Fin 4) (v : Word) (s : State) (u : State) (hu : KeptEdge u s) :
    KeptEdge u (stateOf (execFltForce r i v s) u) :=
  stateOf_edge (fun _ h => KeptEdge_trans hu (execFltForce_edge _ _ _ _ _ h))

@[simp] theorem stateOf_execPmcSelWrite_edge (r : Req) (n : Fin 128) (v : Word) (s : State) (u : State) (hu : KeptEdge u s) :
    KeptEdge u (stateOf (execPmcSelWrite r n v s) u) :=
  stateOf_edge (fun _ h => KeptEdge_trans hu (execPmcSelWrite_edge _ _ _ _ _ h))

@[simp] theorem stateOf_execDebugUnlock_edge (r : Req) (v : Word) (s : State) (u : State) (hu : KeptEdge u s) :
    KeptEdge u (stateOf (execDebugUnlock r v s) u) :=
  stateOf_edge (fun _ h => KeptEdge_trans hu (execDebugUnlock_edge _ _ _ _ h))

@[simp] theorem stateOf_execFseSlock_edge (r : Req) (n : Fin 16) (v : Word) (s : State) (u : State) (hu : KeptEdge u s) :
    KeptEdge u (stateOf (execFseSlock r n v s) u) :=
  stateOf_edge (fun _ h => KeptEdge_trans hu (execFseSlock_edge _ _ _ _ _ h))

@[simp] theorem stateOf_execClearPeak_edge (r : Req) (s : State) (u : State) (hu : KeptEdge u s) :
    KeptEdge u (stateOf (execClearPeak r s) u) :=
  stateOf_edge (fun _ h => KeptEdge_trans hu (execClearPeak_edge _ _ _ h))

@[simp] theorem stateOf_execPrbsCfgWrite_edge (r : Req) (l : Fin 64) (v : Word) (s : State) (u : State) (hu : KeptEdge u s) :
    KeptEdge u (stateOf (execPrbsCfgWrite r l v s) u) :=
  stateOf_edge (fun _ h => KeptEdge_trans hu (execPrbsCfgWrite_edge _ _ _ _ _ h))

@[simp] theorem stateOf_execDmcFreqReq_edge (r : Req) (v : Word) (s : State) (u : State) (hu : KeptEdge u s) :
    KeptEdge u (stateOf (execDmcFreqReq r v s) u) :=
  stateOf_edge (fun _ h => KeptEdge_trans hu (execDmcFreqReq_edge _ _ _ _ h))

@[simp] theorem stateOf_execEccInjArm_edge (r : Req) (v : Word) (s : State) (u : State) (hu : KeptEdge u s) :
    KeptEdge u (stateOf (execEccInjArm r v s) u) :=
  stateOf_edge (fun _ h => KeptEdge_trans hu (execEccInjArm_edge _ _ _ _ h))

@[simp] theorem stateOf_execCadExcRptrWrite_edge (r : Req) (v : Word) (s : State) (u : State) (hu : KeptEdge u s) :
    KeptEdge u (stateOf (execCadExcRptrWrite r v s) u) :=
  stateOf_edge (fun _ h => KeptEdge_trans hu (execCadExcRptrWrite_edge _ _ _ _ h))

@[simp] theorem stateOf_execRaeRingCfgWrite_edge (r : Req) (v : Word) (s : State) (u : State) (hu : KeptEdge u s) :
    KeptEdge u (stateOf (execRaeRingCfgWrite r v s) u) :=
  stateOf_edge (fun _ h => KeptEdge_trans hu (execRaeRingCfgWrite_edge _ _ _ _ h))

@[simp] theorem stateOf_execRaeRingRptrWrite_edge (r : Req) (v : Word) (s : State) (u : State) (hu : KeptEdge u s) :
    KeptEdge u (stateOf (execRaeRingRptrWrite r v s) u) :=
  stateOf_edge (fun _ h => KeptEdge_trans hu (execRaeRingRptrWrite_edge _ _ _ _ h))

/-- A branch of a chain of commands. -/
theorem ite_some_edge {c : Prop} [Decidable c] {x : State} {y : Option State} {s t : State} (h : (if c then some x else y) = some t)
    (hx : KeptEdge s x) (hy : y = some t → KeptEdge s t) : KeptEdge s t := by
  split at h
  · simp only [Option.some.injEq] at h
    exact h ▸ hx
  · exact hy h

@[simp] theorem State.storeWord_edge (s : State) (row : RegRow) (a : Nat) (v : Word) : KeptEdge s (State.storeWord s row a v) := by
  simp [State.storeWord]

@[simp] theorem State.storeShadow_edge (s : State) (row : RegRow) (a : Nat) (v : Word) : KeptEdge s (State.storeShadow s row a v) := by
  simp [State.storeShadow]

@[simp] theorem State.writePlain_edge (s : State) (r : Req) (row : RegRow) (a : Nat) (size : Nat) (v : Nat) : KeptEdge s (State.writePlain s r row a size v) := by
  simp [State.writePlain]

@[simp] theorem State.unlisted_edge (s : State) (r : Req) (a : Nat) (before : List (Bool × Status)) : KeptEdge s (State.unlisted s r a before) := by
  simp [State.unlisted]

@[simp] theorem State.writeModeReq_edge (s : State) (r : Req) (v : Word) : KeptEdge s (State.writeModeReq s r v) := by
  unfold State.writeModeReq
  (try dsimp only)
  repeat' split
  all_goals simp

@[simp] theorem State.writeVxu_edge (s : State) (r : Req) (sel : VxuSel) (code : Nat) : KeptEdge s (State.writeVxu s r sel code) := by
  unfold State.writeVxu; (try dsimp only); (repeat' split) <;> (try simp)

@[simp] theorem State.writeDcmd_edge (s : State) (r : Req) (v : Word) : KeptEdge s (State.writeDcmd s r v) := by
  unfold State.writeDcmd
  (try dsimp only)
  repeat' split
  all_goals simp

@[simp] theorem State.writeRcmd_edge (s : State) (r : Req) (v : Word) : KeptEdge s (State.writeRcmd s r v) := by
  unfold State.writeRcmd
  (try dsimp only)
  repeat' split
  all_goals simp

@[simp] theorem State.writeLaneCmd_edge (s : State) (r : Req) (l : Fin 64) (v : Word) : KeptEdge s (State.writeLaneCmd s r l v) := by
  unfold State.writeLaneCmd
  (try dsimp only)
  repeat' split
  all_goals simp

@[simp] theorem State.writeInject_edge (s : State) (r : Req) (l : Fin 64) (v : Word) : KeptEdge s (State.writeInject s r l v) := by
  unfold State.writeInject
  (try dsimp only)
  repeat' split
  all_goals simp

@[simp] theorem State.writeBst_edge (s : State) (r : Req) (v : Word) : KeptEdge s (State.writeBst s r v) := by
  unfold State.writeBst
  (try dsimp only)
  repeat' split
  all_goals simp

@[simp] theorem State.writeFse_edge (s : State) (r : Req) (v : Word) : KeptEdge s (State.writeFse s r v) := by
  unfold State.writeFse
  (try dsimp only)
  repeat' split
  all_goals simp

@[simp] theorem State.writeUpd_edge (s : State) (r : Req) (v : Word) : KeptEdge s (State.writeUpd s r v) := by
  unfold State.writeUpd
  (try dsimp only)
  repeat' split
  all_goals simp

@[simp] theorem State.writeRae_edge (s : State) (r : Req) (v : Word) : KeptEdge s (State.writeRae s r v) := by
  unfold State.writeRae
  (try dsimp only)
  repeat' split
  all_goals simp

@[simp] theorem State.writeFlt_edge (s : State) (r : Req) (v : Word) : KeptEdge s (State.writeFlt s r v) := by
  unfold State.writeFlt
  (try dsimp only)
  repeat' split
  all_goals simp

@[simp] theorem State.writeSrcCmd_edge (s : State) (r : Req) (i : Fin 256) (v : Word) : KeptEdge s (State.writeSrcCmd s r i v) := by
  unfold State.writeSrcCmd
  (try dsimp only)
  repeat' split
  all_goals simp

theorem State.writeCommand_edge (s : State) (r : Req) (a : Nat) (v : Word) (t : State) (h : s.writeCommand r a v = some t) :
    KeptEdge s t := by
  unfold State.writeCommand at h
  repeat' refine ite_some_edge h ?_ (fun h => ?_)
  all_goals first
    | (simp only [reduceCtorEq] at h; done)
    | (simp; done)
    | (split <;> simp)

@[simp] theorem State.write4_edge (s : State) (r : Req) (a : Nat) (v : Word) : KeptEdge s (State.write4 s r a v) := by
  unfold State.write4
  dsimp only
  split
  · exact State.writeCommand_edge _ _ _ _ _ ‹_›
  · repeat' split
    all_goals simp

@[simp] theorem State.write8_edge (s : State) (r : Req) (a : Nat) (v : BitVec 64) : KeptEdge s (State.write8 s r a v) := by
  unfold State.write8; (try dsimp only); (repeat' split) <;> (try simp)

@[simp] theorem State.regWrite_edge (s : State) (r : Req) (a : Nat) (size : Nat) (v : BitVec 64) (late : Bool) : KeptEdge s (State.regWrite s r a size v late) := by
  simp [State.regWrite]

theorem execRegisterWrite_edge (r : Req) (a : BitVec 32) (size : Fin 4) (v : BitVec 64) (late : Bool) (s : State) (t : State) (h : (execRegisterWrite r a size v late s) = .next t) : KeptEdge s t := by
  simp only [execRegisterWrite, Host.Outcome.next.injEq] at h; subst h; simp

@[simp] theorem State.requestCheck_edge (s : State) (k : Nat) (p : Packet) : KeptEdge s (State.requestCheck s k p).1 := by
  unfold State.requestCheck; (try dsimp only); (repeat' split) <;> (try simp)

@[simp] theorem State.chainTraffic_edge (s : State) (k cls label : Nat) (p : Partition) (o n : Nat) :
    KeptEdge s (State.chainTraffic s k cls label p o n).1 := by
  unfold State.chainTraffic
  dsimp only
  by_cases h : cls = 0 ∨ bitOf (s.classChains cls) k = true <;> simp [h]

@[simp] theorem State.serveRead_edge (s : State) (k : Nat) (p : Packet) (sess : Option (Nat × Session)) (pi : Nat) (part : Partition) : KeptEdge s (State.serveRead s k p sess pi part) := by
  simp [State.serveRead]

@[simp] theorem State.serveBrd_edge (s : State) (k : Fin 16) (p : Packet) : KeptEdge s (State.serveBrd s k p) := by
  unfold State.serveBrd; (try dsimp only); (repeat' split) <;> (try simp)

@[simp] theorem State.brdRequest_edge (s : State) (k : Fin 16) (p : Packet) : KeptEdge s (State.brdRequest s k p) := by
  simp [State.brdRequest]

@[simp] theorem State.serveWrite_edge (s : State) (k : Nat) (p : Packet) (pi : Nat) (part : Partition) : KeptEdge s (State.serveWrite s k p pi part).1 := by
  unfold State.serveWrite; (try dsimp only); (repeat' split) <;> (try simp)

@[simp] theorem State.serveBwr_edge (s : State) (k : Fin 16) (p : Packet) : KeptEdge s (State.serveBwr s k p) := by
  unfold State.serveBwr; (try dsimp only); (repeat' split) <;> (try simp)

@[simp] theorem State.bwrRequest_edge (s : State) (k : Fin 16) (p : Packet) : KeptEdge s (State.bwrRequest s k p) := by
  simp [State.bwrRequest]

@[simp] theorem State.sessionOp_edge (s : State) (r : Req) (op : Nat) (ext : List Byte) : KeptEdge s (State.sessionOp s r op ext) := by
  unfold State.sessionOp; (try dsimp only); (repeat' split) <;> (try simp)

@[simp] theorem State.sessionChecked_edge (s : State) (r : Req) (op : Nat) (slot : List Byte) (ext : List Byte) (late : Bool) : KeptEdge s (State.sessionChecked s r op slot ext late) := by
  simp [State.sessionChecked]

@[simp] theorem State.runSessionOp_edge (s : State) (r : Req) (slot : List Byte) (ext : List Byte) (late : Bool) : KeptEdge s (State.runSessionOp s r slot ext late).st := by
  simp [State.runSessionOp]

@[simp] theorem State.runOp_edge (s : State) (r : Req) (slot : List Byte) (ext : List Byte) (late : Bool) : KeptEdge s (State.runOp s r slot ext late).st := by
  unfold State.runOp; (try dsimp only); (repeat' split) <;> (try simp)

@[simp] theorem State.runOps_edge (s : State) (r : Req) (stop : Bool) (late : BitVec 32) (y4 : List (List Byte × List Byte)) : KeptEdge s (State.runOps s r stop late y4).1 := by
  induction y4 generalizing s r stop late <;> unfold State.runOps <;> (try dsimp only) <;> (repeat' split) <;> (try simp [*])

@[simp] theorem State.ctlServe_edge (s : State) (r : Req) (tagged : Bool) (modeOk : Bool) (body : List Byte) (late : BitVec 32) : KeptEdge s (State.ctlServe s r tagged modeOk body late).1 := by
  unfold State.ctlServe; (try dsimp only); (repeat' split) <;> (try simp)

@[simp] theorem State.ctlRequest_edge (s : State) (k : Fin 16) (p : Packet) (late : BitVec 32) : KeptEdge s (State.ctlRequest s k p late) := by
  unfold State.ctlRequest
  dsimp only
  split
  · split
    · rename_i v h
      have h1 := State.enrolBegun_edge _ _ _ _ h
      exact KeptEdge_trans (t := v) (KeptEdge_trans (by simp) h1) (by simp)
    · simp
  · simp

@[simp] theorem State.dispatchPacket_edge (s : State) (k : Fin 16) (p : Packet) (late : BitVec 32) : KeptEdge s (State.dispatchPacket s k p late) := by
  unfold State.dispatchPacket; (try dsimp only); (repeat' split) <;> (try simp)

@[simp] theorem State.receive_edge (s : State) (k : Fin 16) (p : Packet) (reserved : Bool) (late : optParam (BitVec 32) 0) : KeptEdge s (State.receive s k p reserved late) := by
  unfold State.receive; (try dsimp only); (repeat' split) <;> (try simp)

@[simp] theorem State.closeBlocks_edge (s : State) (k : Fin 16) (late : BitVec 32) (l : List (Option RxBlock)) : KeptEdge s (State.closeBlocks s k late l) := by
  first
  | (simp [State.closeBlocks]; done)
  | (unfold State.closeBlocks; (try dsimp only); (repeat' split) <;> (try simp); done)
  | (unfold State.closeBlocks; (try dsimp only); (repeat' split) <;> (try simp [*]); done)

@[simp] theorem State.takeSlot_edge (s : State) (k : Fin 16) (late : BitVec 32) (b : Option RxBlock) : KeptEdge s (State.takeSlot s k late b) := by
  first
  | (simp [State.takeSlot]; done)
  | (unfold State.takeSlot; (try dsimp only); (repeat' split) <;> (try simp); done)
  | (unfold State.takeSlot; (try dsimp only); (repeat' split) <;> (try simp [*]); done)

@[simp] theorem State.takeStripe_edge (s : State) (k : Fin 16) (late : BitVec 32) (l : List (Option RxBlock)) : KeptEdge s (State.takeStripe s k late l) := by
  first
  | (simp [State.takeStripe]; done)
  | (unfold State.takeStripe; (try dsimp only); (repeat' split) <;> (try simp); done)
  | (unfold State.takeStripe; (try dsimp only); (repeat' split) <;> (try simp [*]); done)

theorem execPacketReceive_edge (k : Fin 16) (slots : List (Option RxBlock)) (late : BitVec 32) (s : State) (t : State) (h : (execPacketReceive k slots late s) = .next t) : KeptEdge s t := by
  simp only [execPacketReceive, Host.Outcome.next.injEq] at h; subst h; simp

theorem execCreditPacket_edge (k : Fin 16) (p : Packet) (s : State) (t : State) (h : (execCreditPacket k p s) = .next t) : KeptEdge s t := by
  simp only [execCreditPacket, Host.Outcome.next.injEq] at h; subst h; simp

theorem execBrd_edge (k : Fin 16) (p : Packet) (s : State) (t : State) (h : (execBrd k p s) = .next t) : KeptEdge s t := by
  simp only [execBrd, Host.Outcome.next.injEq] at h; subst h; simp

theorem execBwr_edge (k : Fin 16) (p : Packet) (s : State) (t : State) (h : (execBwr k p s) = .next t) : KeptEdge s t := by
  simp only [execBwr, Host.Outcome.next.injEq] at h; subst h; simp

theorem execCtlRequest_edge (k : Fin 16) (p : Packet) (late : BitVec 32) (s : State) (t : State) (h : (execCtlRequest k p late s) = .next t) : KeptEdge s t := by
  simp only [execCtlRequest, Host.Outcome.next.injEq] at h; subst h; simp

@[simp] theorem State.queueCodeword_edge (s : State) (k : Nat) (l : Nat) (slots : List (Option RxBlock)) : KeptEdge s (State.queueCodeword s k l slots) := by
  first
  | (simp [State.queueCodeword]; done)
  | (unfold State.queueCodeword; (try dsimp only); (repeat' split) <;> (try simp); done)
  | (unfold State.queueCodeword; (try dsimp only); (repeat' split) <;> (try simp [*]); done)

@[simp] theorem State.rxColumn_edge (s : State) (k : Fin 16) (late : BitVec 32) (f : Nat → Option RxBlock) : KeptEdge s (State.rxColumn s k late f) := by
  first
  | (simp [State.rxColumn]; done)
  | (unfold State.rxColumn; (try dsimp only); (repeat' split) <;> (try simp); done)
  | (unfold State.rxColumn; (try dsimp only); (repeat' split) <;> (try simp [*]); done)

@[simp] theorem State.popCodewords_edge (s : State) (ls : List Nat) : KeptEdge s (State.popCodewords s ls) := by
  first
  | (simp [State.popCodewords]; done)
  | (unfold State.popCodewords; (try dsimp only); (repeat' split) <;> (try simp); done)
  | (unfold State.popCodewords; (try dsimp only); (repeat' split) <;> (try simp [*]); done)

@[simp] theorem State.destripe_edge (s : State) (k : Fin 16) (late : BitVec 32) (y3 : Nat) : KeptEdge s (State.destripe s k late y3) := by
  induction y3 generalizing s k late <;> unfold State.destripe <;> (try dsimp only) <;> (repeat' split) <;> (try simp [*])

@[simp] theorem State.takeCodeword_edge (s : State) (k : Nat) (l : Nat) (c : Nat × Option Nat × List RxBlock) (offs : Nat) (late : BitVec 32) : KeptEdge s (State.takeCodeword s k l c offs late) := by
  first
  | (simp [State.takeCodeword]; done)
  | (unfold State.takeCodeword; (try dsimp only); (repeat' split) <;> (try simp); done)
  | (unfold State.takeCodeword; (try dsimp only); (repeat' split) <;> (try simp [*]); done)

theorem execFecCodewordReceived_edge (l : Fin 64) (symbols : List (BitVec 10)) (offs : Fin 5) (late : BitVec 32) (s : State) (t : State) (h : (execFecCodewordReceived l symbols offs late s) = .next t) : KeptEdge s t := by
  unfold execFecCodewordReceived at h; (try dsimp only at h); (repeat' split at h) <;> (try simp only [Host.Outcome.next.injEq, reduceCtorEq] at h) <;> (try subst h) <;> (try simp)

@[simp] theorem State.i3cReturn_edge (s : State) (l : List Byte) : KeptEdge s (State.i3cReturn s l) := by
  simp [State.i3cReturn]

@[simp] theorem State.i3cNack_edge (s : State) : KeptEdge s (State.i3cNack s) := by
  simp [State.i3cNack]

@[simp] theorem State.i3cAnswer_edge (s : State) (l : List Byte) (sid : optParam Nat 0) : KeptEdge s (State.i3cAnswer s l sid) := by
  first
  | (simp [State.i3cAnswer]; done)
  | (unfold State.i3cAnswer; (try dsimp only); (repeat' split) <;> (try simp); done)
  | (unfold State.i3cAnswer; (try dsimp only); (repeat' split) <;> (try simp [*]); done)

@[simp] theorem State.i3cRespond_edge (s : State) (sess : Option (Nat × Session)) (l : List Byte) : KeptEdge s (State.i3cRespond s sess l) := by
  first
  | (simp [State.i3cRespond]; done)
  | (unfold State.i3cRespond; (try dsimp only); (repeat' split) <;> (try simp); done)
  | (unfold State.i3cRespond; (try dsimp only); (repeat' split) <;> (try simp [*]); done)

theorem execEnec_edge (s : State) (t : State) (h : (execEnec s) = .next t) : KeptEdge s t := by
  simp only [execEnec, Host.Outcome.next.injEq] at h; subst h; simp

theorem execDisec_edge (s : State) (t : State) (h : (execDisec s) = .next t) : KeptEdge s t := by
  simp only [execDisec, Host.Outcome.next.injEq] at h; subst h; simp

@[simp] theorem State.i3cGet_edge (s : State) (l : List Byte) : KeptEdge s (State.i3cGet s l) := by
  simp [State.i3cGet]

theorem execGetpid_edge (s : State) (t : State) (h : (execGetpid s) = .next t) : KeptEdge s t := by
  simp only [execGetpid, Host.Outcome.next.injEq] at h; subst h; simp

theorem execGetbcr_edge (s : State) (t : State) (h : (execGetbcr s) = .next t) : KeptEdge s t := by
  simp only [execGetbcr, Host.Outcome.next.injEq] at h; subst h; simp

theorem execGetdcr_edge (s : State) (t : State) (h : (execGetdcr s) = .next t) : KeptEdge s t := by
  simp only [execGetdcr, Host.Outcome.next.injEq] at h; subst h; simp

theorem execGetstatus_edge (s : State) (t : State) (h : (execGetstatus s) = .next t) : KeptEdge s t := by
  simp only [execGetstatus, Host.Outcome.next.injEq] at h; subst h; simp

theorem execGetmwl_edge (s : State) (t : State) (h : (execGetmwl s) = .next t) : KeptEdge s t := by
  simp only [execGetmwl, Host.Outcome.next.injEq] at h; subst h; simp

theorem execGetmrl_edge (s : State) (t : State) (h : (execGetmrl s) = .next t) : KeptEdge s t := by
  simp only [execGetmrl, Host.Outcome.next.injEq] at h; subst h; simp

theorem execI3cUnsupportedCcc_edge (reply : Bool) (s : State) (t : State) (h : (execI3cUnsupportedCcc reply s) = .next t) : KeptEdge s t := by
  unfold execI3cUnsupportedCcc at h; (try dsimp only at h); (repeat' split at h) <;> (try simp only [Host.Outcome.next.injEq, reduceCtorEq] at h) <;> (try subst h) <;> (try simp)

@[simp] theorem State.enrolAnswer_edge (s : State) (j : EnrolJob) (st : Status) : KeptEdge s (State.enrolAnswer s j st) := by
  first
  | (simp [State.enrolAnswer]; done)
  | (unfold State.enrolAnswer; (try dsimp only); (repeat' split) <;> (try simp); done)
  | (unfold State.enrolAnswer; (try dsimp only); (repeat' split) <;> (try simp [*]); done)

@[simp] theorem State.enrolOver_edge (s : State) (j : EnrolJob) (st : Status) : KeptEdge s (State.enrolOver s j st) := by
  first
  | (simp [State.enrolOver]; done)
  | (unfold State.enrolOver; (try dsimp only); (repeat' split) <;> (try simp); done)
  | (unfold State.enrolOver; (try dsimp only); (repeat' split) <;> (try simp [*]); done)

@[simp] theorem State.fuseDone_edge (s : State) (k : FuseKind) (st : Status) : KeptEdge s (State.fuseDone s k st) := by
  first
  | (simp [State.fuseDone]; done)
  | (unfold State.fuseDone; (try dsimp only); (repeat' split) <;> (try simp); done)
  | (unfold State.fuseDone; (try dsimp only); (repeat' split) <;> (try simp [*]); done)

theorem execFuseOperationEnd_edge (res : FuseResult) (s : State) (t : State) (h : execFuseOperationEnd res s = .next t) : KeptEdge s t := by
  unfold execFuseOperationEnd at h
  split at h <;> (simp only [Host.Outcome.next.injEq] at h; subst h; simp [FuseRun.steps_edge])

@[simp] theorem State.tickCounters_edge (s : State) : KeptEdge s (State.tickCounters s) := by
  simp [State.tickCounters]

@[simp] theorem State.tickWork_edge (s : State) : KeptEdge s (State.tickWork s) := by
  first
  | (simp [State.tickWork]; done)
  | (unfold State.tickWork; (try dsimp only); (repeat' split) <;> (try simp); done)
  | (unfold State.tickWork; (try dsimp only); (repeat' split) <;> (try simp [*]); done)

end Sys2Proof.Machine
end

