-- ==== Sys2Proof/Laws/KeptFuses.lean ====
section
/-! SUPPORT. Sys2Proof/Laws/KeptFuses.lean: the operations that keep the fuses. -/
namespace Sys2Proof.Machine

@[simp] theorem foldl_fse {α : Type} (f : State → α → State) (l : List α) (s : State) (h : ∀ t x, (f t x).fse = t.fse) :
    (l.foldl f s).fse = s.fse := by
  induction l generalizing s with
  | nil => rfl
  | cons x r ih => simp [List.foldl, ih, h]

@[simp] theorem ite_fse (p : Prop) [Decidable p] (s t : State) : (if p then s else t).fse = if p then s.fse else t.fse := by
  split <;> rfl

/-- A fold of steps that keep them keeps them. -/
theorem foldl_fuses {α : Type} (f : State → α → State) (l : List α) (s : State) (h : ∀ t x, KeptFuses t (f t x)) :
    KeptFuses s (l.foldl f s) := by
  induction l generalizing s with
  | nil => simp
  | cons x r ih =>
    have h1 := h s x
    have h2 := ih (f s x)
    simp only [List.foldl]
    simp_all

/-- What two operations keep, the one after the other keeps. -/
theorem KeptFuses_trans {s t u : State} (h : KeptFuses s t) (k : KeptFuses t u) : KeptFuses s u := by
  simp_all

@[simp] theorem State.wr_fuses (s : State) (a : Nat) (v : Word) : KeptFuses s (State.wr s a v) := by
  simp [State.wr]

@[simp] theorem State.wrN_fuses (s : State) (a : Nat) (n : Nat) : KeptFuses s (State.wrN s a n) := by
  simp [State.wrN]

@[simp] theorem State.wr64_fuses (s : State) (a : Nat) (n : Nat) : KeptFuses s (State.wr64 s a n) := by
  simp [State.wr64]

@[simp] theorem State.setFld_fuses (s : State) (a : Nat) (f : Fld) (n : Nat) : KeptFuses s (State.setFld s a f n) := by
  simp [State.setFld]

@[simp] theorem State.setBits_fuses (s : State) (a : Nat) (m : Word) : KeptFuses s (State.setBits s a m) := by
  simp [State.setBits]

@[simp] theorem State.event_fuses (s : State) (a : Nat) (f : Fld) : KeptFuses s (State.event s a f) := by
  simp [State.event]

@[simp] theorem State.satInc_fuses (s : State) (a : Nat) (n : optParam Nat 1) : KeptFuses s (State.satInc s a n) := by
  simp [State.satInc]

@[simp] theorem State.inc64_fuses (s : State) (a : Nat) (n : optParam Nat 1) : KeptFuses s (State.inc64 s a n) := by
  simp [State.inc64]

@[simp] theorem State.setVxu_fuses (s : State) (u : Nat) (x : VxuUnit) : KeptFuses s (State.setVxu s u x) := by
  simp [State.setVxu]

@[simp] theorem State.setLane_fuses (s : State) (l : Nat) (x : Lane) : KeptFuses s (State.setLane s l x) := by
  simp [State.setLane]

@[simp] theorem State.setChainL_fuses (s : State) (k : Nat) (x : ChainLnk) : KeptFuses s (State.setChainL s k x) := by
  simp [State.setChainL]

@[simp] theorem State.setChainP_fuses (s : State) (k : Nat) (x : ChainPkt) : KeptFuses s (State.setChainP s k x) := by
  simp [State.setChainP]

@[simp] theorem State.emit_fuses (s : State) (e : Emission) : KeptFuses s (State.emit s e) := by
  simp [State.emit]

@[simp] theorem State.reply_fuses (s : State) (st : Status) (data : optParam (List Byte) []) : KeptFuses s (State.reply s st data) := by
  simp [State.reply]

@[simp] theorem State.draw_fuses (s : State) : KeptFuses s (State.draw s) := by
  simp [State.draw]

@[simp] theorem State.drawn_fuses (s : State) (n : Nat) : KeptFuses s (State.drawn s n) := by
  simp [State.drawn]

@[simp] theorem State.queueAlert_fuses (s : State) (k : Nat) (al : Alert) : KeptFuses s (State.queueAlert s k al) := by
  simp [State.queueAlert]

@[simp] theorem State.driveAlertN_fuses (s : State) (code : Nat) : KeptFuses s (State.driveAlertN s code) := by
  simp [State.driveAlertN]

@[simp] theorem State.alert_fuses (s : State) (code : Nat) (chain : Nat) (p0 : Nat) (p1 : Nat) (p2 : Nat) (p3 : Nat) : KeptFuses s (State.alert s code chain p0 p1 p2 p3) := by
  simp [State.alert]

@[simp] theorem State.setSticky_fuses (s : State) (src : Nat) : KeptFuses s (State.setSticky s src) := by
  simp [State.setSticky]

@[simp] theorem State.formEntry_fuses (s : State) (src : Nat) (sev : Nat) (a : Nat) (b : Nat) (gt : Nat) (forced : Bool) (cold : Bool) : KeptFuses s (State.formEntry s src sev a b gt forced cold) := by
  simp [State.formEntry]

@[simp] theorem State.detect_fuses (s : State) (src : Nat) (a : Nat) (b : Nat) (forced : optParam Bool false) : KeptFuses s (State.detect s src a b forced) := by
  unfold State.detect; (try dsimp only); (repeat' split) <;> (try simp)

@[simp] theorem State.ledgerWrote_fuses (s : State) (l : List LedgerWord) : KeptFuses s (State.ledgerWrote s l) := by
  first
  | (simp [State.ledgerWrote]; done)
  | (unfold State.ledgerWrote; (try dsimp only); (repeat' split) <;> (try simp); done)
  | (unfold State.ledgerWrote; (try dsimp only); (repeat' split) <;> (try simp [*]); done)

@[simp] theorem State.checkWord_fuses (s : State) (w : LedgerWord) : KeptFuses s (State.checkWord s w) := by
  first
  | (simp [State.checkWord]; done)
  | (unfold State.checkWord; (try dsimp only); (repeat' split) <;> (try simp); done)
  | (unfold State.checkWord; (try dsimp only); (repeat' split) <;> (try simp [*]); done)

@[simp] theorem State.checkLedger_fuses (s : State) : KeptFuses s (State.checkLedger s) := by
  first
  | (simp [State.checkLedger]; done)
  | (unfold State.checkLedger; (try dsimp only); (repeat' split) <;> (try simp); done)
  | (unfold State.checkLedger; (try dsimp only); (repeat' split) <;> (try simp [*]); done)

@[simp] theorem State.sampleCount_fuses (s : State) (n : Nat) (inc : Nat) (x : SampleCtx) : KeptFuses s (State.sampleCount s n inc x) := by
  first
  | (simp [State.sampleCount]; done)
  | (unfold State.sampleCount; (try dsimp only); (repeat' split) <;> (try simp); done)
  | (unfold State.sampleCount; (try dsimp only); (repeat' split) <;> (try simp [*]); done)

@[simp] theorem State.pmcAdd_fuses (s : State) (n : Nat) (inc : Nat) (a : Nat) (b : Nat) : KeptFuses s (State.pmcAdd s n inc a b) := by
  simp [State.pmcAdd]

@[simp] theorem State.count_fuses (s : State) (ev : Nat) (inc : Nat) (filter : Nat) (part : optParam (Option Nat) none) (a : optParam Nat 0) (b : optParam Nat 0) (off : optParam Nat a) : KeptFuses s (State.count s ev inc filter part a b off) := by
  simp [State.count]

@[simp] theorem State.countRefusal_fuses (s : State) (st : Status) (addr : optParam Nat 0) : KeptFuses s (State.countRefusal s st addr) := by
  unfold State.countRefusal; (try dsimp only); (repeat' split) <;> (try simp)

@[simp] theorem State.reject_fuses (s : State) (r : Req) (addr : Nat) (write : Bool) (size : Nat) (st : Status) : KeptFuses s (State.reject s r addr write size st) := by
  simp [State.reject]

@[simp] theorem State.hostWrite_fuses (s : State) (r : Req) (addr : Nat) (st : Status) (effect : State → State) (heffect : ∀ (t0 : State), KeptFuses t0 (effect t0)) : KeptFuses s (State.hostWrite s r addr st effect) := by
  simp [State.hostWrite, heffect]

@[simp] theorem State.setChan_fuses (s : State) (c : Nat) (x : Chan) : KeptFuses s (State.setChan s c x) := by
  simp [State.setChan]

@[simp] theorem State.setEngine_fuses (s : State) (e : Nat) (x : Engine) : KeptFuses s (State.setEngine s e x) := by
  simp [State.setEngine]

@[simp] theorem State.capUpdate_fuses (s : State) : KeptFuses s (State.capUpdate s) := by
  simp [State.capUpdate]

@[simp] theorem State.capacityChange_fuses (s : State) : KeptFuses s (State.capacityChange s) := by
  simp [State.capacityChange]

@[simp] theorem State.stray_fuses (s : State) (n : Nat) (conforming : Bool) : KeptFuses s (State.stray s n conforming) := by
  first
  | (simp [State.stray]; done)
  | (unfold State.stray; (try dsimp only); (repeat' split) <;> (try simp); done)
  | (unfold State.stray; (try dsimp only); (repeat' split) <;> (try simp [*]); done)

@[simp] theorem State.charge_fuses (s : State) (n : Nat) (bytes : Nat) : KeptFuses s (State.charge s n bytes).1 := by
  unfold State.charge; (try dsimp only); (repeat' split) <;> (try simp)

@[simp] theorem State.served_fuses (s : State) (n : Nat) (bytes : Nat) (conforming : Bool) (label : optParam (Option Nat) none) : KeptFuses s (State.served s n bytes conforming label) := by
  simp [State.served]

@[simp] theorem State.latServed_fuses (s : State) (n : Nat) (age : Nat) : KeptFuses s (State.latServed s n age) := by
  first
  | (simp [State.latServed]; done)
  | (unfold State.latServed; (try dsimp only); (repeat' split) <;> (try simp); done)
  | (unfold State.latServed; (try dsimp only); (repeat' split) <;> (try simp [*]); done)

@[simp] theorem State.countMiss_fuses (s : State) (n : Nat) : KeptFuses s (State.countMiss s n) := by
  first
  | (simp [State.countMiss]; done)
  | (unfold State.countMiss; (try dsimp only); (repeat' split) <;> (try simp); done)
  | (unfold State.countMiss; (try dsimp only); (repeat' split) <;> (try simp [*]); done)

@[simp] theorem State.miss_fuses (s : State) (n : Nat) (reason : Nat) : KeptFuses s (State.miss s n reason) := by
  simp [State.miss]

@[simp] theorem State.guaranteeMiss_fuses (s : State) (n : Nat) (reason : Nat) : KeptFuses s (State.guaranteeMiss s n reason) := by
  first
  | (simp [State.guaranteeMiss]; done)
  | (unfold State.guaranteeMiss; (try dsimp only); (repeat' split) <;> (try simp); done)
  | (unfold State.guaranteeMiss; (try dsimp only); (repeat' split) <;> (try simp [*]); done)

@[simp] theorem State.store_fuses (s : State) (k : Nat) (d : BitVec 512) (e : SymErr) : KeptFuses s (State.store s k d e) := by
  simp [State.store]

@[simp] theorem State.countRefresh_fuses (s : State) (c : Nat) (k : DramCmd) : KeptFuses s (State.countRefresh s c k) := by
  first
  | (simp [State.countRefresh]; done)
  | (unfold State.countRefresh; (try dsimp only); (repeat' split) <;> (try simp); done)
  | (unfold State.countRefresh; (try dsimp only); (repeat' split) <;> (try simp [*]); done)

@[simp] theorem State.command_fuses (s : State) (c : Nat) (k : DramCmd) : KeptFuses s (State.command s c k) := by
  first
  | (simp [State.command]; done)
  | (unfold State.command; (try dsimp only); (repeat' split) <;> (try simp); done)
  | (unfold State.command; (try dsimp only); (repeat' split) <;> (try simp [*]); done)

@[simp] theorem State.openRow_fuses (s : State) (c : Nat) (a : Nat) : KeptFuses s (State.openRow s c a) := by
  first
  | (simp [State.openRow]; done)
  | (unfold State.openRow; (try dsimp only); (repeat' split) <;> (try simp); done)
  | (unfold State.openRow; (try dsimp only); (repeat' split) <;> (try simp [*]); done)

@[simp] theorem State.column_fuses (s : State) (c : Nat) (k : DramCmd) : KeptFuses s (State.column s c k) := by
  simp [State.column]

@[simp] theorem State.countCw_fuses (s : State) (ev : Nat) (c : Nat) (a : Nat) (part : Option (Nat × Nat)) (inPart : Bool) : KeptFuses s (State.countCw s ev c a part inPart) := by
  first
  | (simp [State.countCw]; done)
  | (unfold State.countCw; (try dsimp only); (repeat' split) <;> (try simp); done)
  | (unfold State.countCw; (try dsimp only); (repeat' split) <;> (try simp [*]); done)

@[simp] theorem State.queueLeg_fuses (s : State) (c : Nat) (block : Nat) : KeptFuses s (State.queueLeg s c block) := by
  simp [State.queueLeg]

@[simp] theorem State.holdChannel_fuses (s : State) (c : Nat) : KeptFuses s (State.holdChannel s c) := by
  simp [State.holdChannel]

@[simp] theorem State.countMismatch_fuses (s : State) (c : Nat) (persistent : Bool) : KeptFuses s (State.countMismatch s c persistent) := by
  simp [State.countMismatch]

@[simp] theorem State.latchEcc_fuses (s : State) (c : Nat) (a : Nat) (cls : EccClass) (located : SymErr) (src : Nat) : KeptFuses s (State.latchEcc s c a cls located src) := by
  simp [State.latchEcc]

@[simp] theorem State.candidate_fuses (s : State) (c : Nat) (a : Nat) : KeptFuses s (State.candidate s c a) := by
  simp [State.candidate]

@[simp] theorem State.countHot_fuses (s : State) (c : Nat) (located : SymErr) : KeptFuses s (State.countHot s c located) := by
  first
  | (simp [State.countHot]; done)
  | (unfold State.countHot; (try dsimp only); (repeat' split) <;> (try simp); done)
  | (unfold State.countHot; (try dsimp only); (repeat' split) <;> (try simp [*]); done)

@[simp] theorem State.reportEcc_fuses (s : State) (c : Nat) (a : Nat) (cls : EccClass) (located : SymErr) (src : Nat) (part : Option (Nat × Nat)) : KeptFuses s (State.reportEcc s c a cls located src part) := by
  unfold State.reportEcc; (try dsimp only); (repeat' split) <;> (try simp)

@[simp] theorem State.transientMismatch_fuses (s : State) (c : Nat) (a : Nat) (located : SymErr) (src : Nat) : KeptFuses s (State.transientMismatch s c a located src) := by
  simp [State.transientMismatch]

@[simp] theorem State.keepSent_fuses (s : State) (c : Nat) (a : Nat) (d : BitVec 512) (e : SymErr) : KeptFuses s (State.keepSent s c a d e) := by
  first
  | (simp [State.keepSent]; done)
  | (unfold State.keepSent; (try dsimp only); (repeat' split) <;> (try simp); done)
  | (unfold State.keepSent; (try dsimp only); (repeat' split) <;> (try simp [*]); done)

@[simp] theorem State.storeCmd_fuses (s : State) (c : Nat) (a : Nat) (d : BitVec 512) (e : SymErr) : KeptFuses s (State.storeCmd s c a d e) := by
  first
  | (simp [State.storeCmd]; done)
  | (unfold State.storeCmd; (try dsimp only); (repeat' split) <;> (try simp); done)
  | (unfold State.storeCmd; (try dsimp only); (repeat' split) <;> (try simp [*]); done)

@[simp] theorem State.poisonWrite_fuses (s : State) (c : Nat) (a : Nat) : KeptFuses s (State.poisonWrite s c a) := by
  simp [State.poisonWrite]

@[simp] theorem State.issueWrite_fuses (s : State) (c : Nat) (a : Nat) (d : BitVec 512) (part : Option (Nat × Nat)) : KeptFuses s (State.issueWrite s c a d part) := by
  simp [State.issueWrite]

@[simp] theorem State.addWb_fuses (s : State) (c : Nat) (a : Nat) : KeptFuses s (State.addWb s c a) := by
  first
  | (simp [State.addWb]; done)
  | (unfold State.addWb; (try dsimp only); (repeat' split) <;> (try simp); done)
  | (unfold State.addWb; (try dsimp only); (repeat' split) <;> (try simp [*]); done)

@[simp] theorem State.arrayRead_fuses (s : State) (c : Nat) (a : Nat) (errs : ReadErrs) (src0 : Nat) (part : Option (Nat × Nat)) : KeptFuses s (State.arrayRead s c a errs src0 part).st := by
  unfold State.arrayRead; (try dsimp only); (repeat' split) <;> (try simp)

@[simp] theorem State.freeMerge_fuses (s : State) (c : Nat) (a : Nat) : KeptFuses s (State.freeMerge s c a) := by
  simp [State.freeMerge]

@[simp] theorem State.rmw_fuses (s : State) (c : Nat) (e : MergeEntry) (errs : ReadErrs) (part0 : Option (Nat × Nat)) : KeptFuses s (State.rmw s c e errs part0).st := by
  unfold State.rmw; (try dsimp only); (repeat' split) <;> (try simp)

@[simp] theorem State.drainMerge_fuses (s : State) (c : Nat) (y2 : Nat) : KeptFuses s (State.drainMerge s c y2) := by
  induction y2 generalizing s c <;> unfold State.drainMerge <;> (try dsimp only) <;> (repeat' split) <;> (try simp [*])

@[simp] theorem State.flushMerge_fuses (s : State) (c : Nat) (y2 : Nat) : KeptFuses s (State.flushMerge s c y2) := by
  induction y2 generalizing s c <;> unfold State.flushMerge <;> (try dsimp only) <;> (repeat' split) <;> (try simp [*])

@[simp] theorem State.applyWrite_fuses (s : State) (c : Nat) (a : Nat) (d : BitVec 512) (w : BitVec 64) (cls : Nat) (paid : Nat) (part0 : Option (Nat × Nat)) : KeptFuses s (State.applyWrite s c a d w cls paid part0) := by
  unfold State.applyWrite; (try dsimp only); (repeat' split) <;> (try simp)

@[simp] theorem State.promote_fuses (s : State) (c : Nat) (y2 : Nat) : KeptFuses s (State.promote s c y2) := by
  induction y2 generalizing s c <;> unfold State.promote <;> (try dsimp only) <;> (repeat' split) <;> (try simp [*])

@[simp] theorem State.askChan_fuses (s : State) (c : Nat) (a : Nat) (cls : Nat) (conf : Bool) (since : Nat) (op : ReqOp) : KeptFuses s (State.askChan s c a cls conf since op) := by
  first
  | (simp [State.askChan]; done)
  | (unfold State.askChan; (try dsimp only); (repeat' split) <;> (try simp); done)
  | (unfold State.askChan; (try dsimp only); (repeat' split) <;> (try simp [*]); done)

@[simp] theorem State.askWrite_fuses (s : State) (c : Nat) (a : Nat) (cls : Nat) (conf : Bool) (since : Nat) (d : BitVec 512) (w : BitVec 64) : KeptFuses s (State.askWrite s c a cls conf since d w) := by
  first
  | (simp [State.askWrite]; done)
  | (unfold State.askWrite; (try dsimp only); (repeat' split) <;> (try simp); done)
  | (unfold State.askWrite; (try dsimp only); (repeat' split) <;> (try simp [*]); done)

@[simp] theorem State.readCw_fuses (s : State) (c : Nat) (a : Nat) (n : Nat) (errs : ReadErrs) (part : Option (Nat × Nat)) : KeptFuses s (State.readCw s c a n errs part).st := by
  unfold State.readCw; (try dsimp only); (repeat' split) <;> (try simp)

@[simp] theorem State.sentFor_fuses (s : State) (c : Nat) (n : Nat) (r : DmcReq) : KeptFuses s (State.sentFor s c n r) := by
  first
  | (simp [State.sentFor]; done)
  | (unfold State.sentFor; (try dsimp only); (repeat' split) <;> (try simp); done)
  | (unfold State.sentFor; (try dsimp only); (repeat' split) <;> (try simp [*]); done)

@[simp] theorem State.writeOrWait_fuses (s : State) (c : Nat) (a : Nat) (d : BitVec 512) (w : BitVec 64) (cls : Nat) (conf : Bool) (since : Nat) (part : Option (Nat × Nat)) : KeptFuses s (State.writeOrWait s c a d w cls conf since part) := by
  first
  | (simp [State.writeOrWait]; done)
  | (unfold State.writeOrWait; (try dsimp only); (repeat' split) <;> (try simp); done)
  | (unfold State.writeOrWait; (try dsimp only); (repeat' split) <;> (try simp [*]); done)

@[simp] theorem State.readRun_fuses (s : State) (pi : Nat) (p : Partition) (o : Nat) (y4 : Nat) : KeptFuses s (State.readRun s pi p o y4).st := by
  induction y4 generalizing s pi p o <;> unfold State.readRun <;> (try dsimp only) <;> (repeat' split) <;> (try simp [*])

@[simp] theorem State.readBytes_fuses (s : State) (pi : Nat) (p : Partition) (o : Nat) (n : Nat) : KeptFuses s (State.readBytes s pi p o n).st := by
  simp [State.readBytes]

@[simp] theorem State.writeRun_fuses (s : State) (pi : Nat) (p : Partition) (o : Nat) (l : List Byte) (cls : Nat) (conf : Bool) (y7 : Nat) : KeptFuses s (State.writeRun s pi p o l cls conf y7) := by
  induction y7 generalizing s pi p o l cls conf <;> unfold State.writeRun <;> (try dsimp only) <;> (repeat' split) <;> (try simp [*])

@[simp] theorem State.writeBytes_fuses (s : State) (pi : Nat) (p : Partition) (o : Nat) (l : List Byte) (cls : Nat) (conf : optParam Bool true) : KeptFuses s (State.writeBytes s pi p o l cls conf) := by
  simp [State.writeBytes]

@[simp] theorem State.prechargeAll_fuses (s : State) (c : Nat) : KeptFuses s (State.prechargeAll s c) := by
  first
  | (simp [State.prechargeAll]; done)
  | (unfold State.prechargeAll; (try dsimp only); (repeat' split) <;> (try simp); done)
  | (unfold State.prechargeAll; (try dsimp only); (repeat' split) <;> (try simp [*]); done)

@[simp] theorem State.refreshed_fuses (s : State) (c : Nat) (n : Nat) (owed : Nat) : KeptFuses s (State.refreshed s c n owed) := by
  simp [State.refreshed]

@[simp] theorem State.issueRefreshes_fuses (s : State) (c : Nat) (n : Nat) : KeptFuses s (State.issueRefreshes s c n) := by
  first
  | (simp [State.issueRefreshes]; done)
  | (unfold State.issueRefreshes; (try dsimp only); (repeat' split) <;> (try simp); done)
  | (unfold State.issueRefreshes; (try dsimp only); (repeat' split) <;> (try simp [*]); done)

@[simp] theorem State.issueOwed_fuses (s : State) (c : Nat) : KeptFuses s (State.issueOwed s c) := by
  simp [State.issueOwed]

@[simp] theorem State.forceRefresh_fuses (s : State) (c : Nat) : KeptFuses s (State.forceRefresh s c) := by
  first
  | (simp [State.forceRefresh]; done)
  | (unfold State.forceRefresh; (try dsimp only); (repeat' split) <;> (try simp); done)
  | (unfold State.forceRefresh; (try dsimp only); (repeat' split) <;> (try simp [*]); done)

@[simp] theorem State.postponeUpdate_fuses (s : State) (c : Nat) : KeptFuses s (State.postponeUpdate s c) := by
  simp [State.postponeUpdate]

@[simp] theorem State.postponeAll_fuses (s : State) : KeptFuses s (State.postponeAll s) := by
  first
  | (simp [State.postponeAll]; done)
  | (unfold State.postponeAll; (try dsimp only); (repeat' split) <;> (try simp); done)
  | (unfold State.postponeAll; (try dsimp only); (repeat' split) <;> (try simp [*]); done)

@[simp] theorem State.settleBy_fuses (s : State) (c : Nat) (past : DramCmd → Bool) : KeptFuses s (State.settleBy s c past) := by
  first
  | (simp [State.settleBy]; done)
  | (unfold State.settleBy; (try dsimp only); (repeat' split) <;> (try simp); done)
  | (unfold State.settleBy; (try dsimp only); (repeat' split) <;> (try simp [*]); done)

@[simp] theorem State.enterSr_fuses (s : State) (c : Nat) : KeptFuses s (State.enterSr s c) := by
  simp [State.enterSr]

@[simp] theorem State.exitSr_fuses (s : State) (c : Nat) : KeptFuses s (State.exitSr s c) := by
  simp [State.exitSr]

@[simp] theorem State.multiplierStep_fuses (s : State) (old : Nat) (new : Nat) (c : Nat) : KeptFuses s (State.multiplierStep s old new c) := by
  first
  | (simp [State.multiplierStep]; done)
  | (unfold State.multiplierStep; (try dsimp only); (repeat' split) <;> (try simp); done)
  | (unfold State.multiplierStep; (try dsimp only); (repeat' split) <;> (try simp [*]); done)

@[simp] theorem State.settleAll_fuses (s : State) : KeptFuses s (State.settleAll s) := by
  first
  | (simp [State.settleAll]; done)
  | (unfold State.settleAll; (try dsimp only); (repeat' split) <;> (try simp); done)
  | (unfold State.settleAll; (try dsimp only); (repeat' split) <;> (try simp [*]); done)

@[simp] theorem State.setShadowTim_fuses (s : State) (c : Nat) (point : Nat) (band : Nat) : KeptFuses s (State.setShadowTim s c point band) := by
  simp [State.setShadowTim]

@[simp] theorem State.copyTim_fuses (s : State) (c : Nat) : KeptFuses s (State.copyTim s c) := by
  simp [State.copyTim]

@[simp] theorem State.retime_fuses (s : State) (c : Nat) (point : Nat) (band : Nat) : KeptFuses s (State.retime s c point band) := by
  simp [State.retime]

@[simp] theorem State.legStops_fuses (s : State) (l : Leg) : KeptFuses s (State.legStops s l) := by
  unfold State.legStops; (try dsimp only); (repeat' split) <;> (try simp)

@[simp] theorem State.legTraffic_fuses (s : State) (b : Nat) (n : Nat) : KeptFuses s (State.legTraffic s b n) := by
  first
  | (simp [State.legTraffic]; done)
  | (unfold State.legTraffic; (try dsimp only); (repeat' split) <;> (try simp); done)
  | (unfold State.legTraffic; (try dsimp only); (repeat' split) <;> (try simp [*]); done)

@[simp] theorem State.legPart_fuses (s : State) (b : Nat) : KeptFuses s (State.legPart s b) := by
  first
  | (simp [State.legPart]; done)
  | (unfold State.legPart; (try dsimp only); (repeat' split) <;> (try simp); done)
  | (unfold State.legPart; (try dsimp only); (repeat' split) <;> (try simp [*]); done)

@[simp] theorem State.setIncRun_fuses (s : State) (b : Nat) (n : Nat) : KeptFuses s (State.setIncRun s b n) := by
  simp [State.setIncRun]

@[simp] theorem State.setPreRun_fuses (s : State) (b : Nat) (n : Nat) : KeptFuses s (State.setPreRun s b n) := by
  simp [State.setPreRun]

@[simp] theorem State.rerunLeg_fuses (s : State) (b : Nat) : KeptFuses s (State.rerunLeg s b) := by
  simp [State.rerunLeg]

@[simp] theorem State.rowDone_fuses (s : State) (b : Nat) : KeptFuses s (State.rowDone s b) := by
  first
  | (simp [State.rowDone]; done)
  | (unfold State.rowDone; (try dsimp only); (repeat' split) <;> (try simp); done)
  | (unfold State.rowDone; (try dsimp only); (repeat' split) <;> (try simp [*]); done)

@[simp] theorem State.passBlock_fuses (s : State) (b : Nat) : KeptFuses s (State.passBlock s b) := by
  simp [State.passBlock]

@[simp] theorem State.legCut_fuses (s : State) (l : Leg) : KeptFuses s (State.legCut s l) := by
  first
  | (simp [State.legCut]; done)
  | (unfold State.legCut; (try dsimp only); (repeat' split) <;> (try simp); done)
  | (unfold State.legCut; (try dsimp only); (repeat' split) <;> (try simp [*]); done)

@[simp] theorem State.endLegs_fuses (s : State) (c : Nat) (kinds : List Nat) : KeptFuses s (State.endLegs s c kinds) := by
  simp [State.endLegs]

@[simp] theorem State.steeredBack_fuses (s : State) (l : Leg) : KeptFuses s (State.steeredBack s l) := by
  first
  | (simp [State.steeredBack]; done)
  | (unfold State.steeredBack; (try dsimp only); (repeat' split) <;> (try simp); done)
  | (unfold State.steeredBack; (try dsimp only); (repeat' split) <;> (try simp [*]); done)

@[simp] theorem State.legIncomplete_fuses (s : State) (l : Leg) : KeptFuses s (State.legIncomplete s l) := by
  simp [State.legIncomplete]

@[simp] theorem State.abortDramLegs_fuses (s : State) : KeptFuses s (State.abortDramLegs s) := by
  simp [State.abortDramLegs]

@[simp] theorem State.preempt_fuses (s : State) (l : Leg) : KeptFuses s (State.preempt s l) := by
  simp [State.preempt]

@[simp] theorem State.preemptBank_fuses (s : State) (c : Nat) (a : Nat) : KeptFuses s (State.preemptBank s c a) := by
  first
  | (simp [State.preemptBank]; done)
  | (unfold State.preemptBank; (try dsimp only); (repeat' split) <;> (try simp); done)
  | (unfold State.preemptBank; (try dsimp only); (repeat' split) <;> (try simp [*]); done)

@[simp] theorem State.preemptCws_fuses (s : State) (p : Partition) (o : Nat) (y3 : Nat) : KeptFuses s (State.preemptCws s p o y3) := by
  induction y3 generalizing s p o <;> unfold State.preemptCws <;> (try dsimp only) <;> (repeat' split) <;> (try simp [*])

@[simp] theorem State.reachBanks_fuses (s : State) (rt : Bool) (p : Partition) (o : Nat) (n : Nat) : KeptFuses s (State.reachBanks s rt p o n) := by
  first
  | (simp [State.reachBanks]; done)
  | (unfold State.reachBanks; (try dsimp only); (repeat' split) <;> (try simp); done)
  | (unfold State.reachBanks; (try dsimp only); (repeat' split) <;> (try simp [*]); done)

@[simp] theorem State.railOff_fuses (s : State) (r : Nat) : KeptFuses s (State.railOff s r) := by
  simp [State.railOff]

@[simp] theorem State.railsOff_fuses (s : State) (g : Nat) : KeptFuses s (State.railsOff s g) := by
  simp [State.railsOff]

@[simp] theorem State.retireNow_fuses (s : State) (c : Nat) (why : Nat) : KeptFuses s (State.retireNow s c why) := by
  first
  | (simp [State.retireNow]; done)
  | (unfold State.retireNow; (try dsimp only); (repeat' split) <;> (try simp); done)
  | (unfold State.retireNow; (try dsimp only); (repeat' split) <;> (try simp [*]); done)

@[simp] theorem State.putOff_fuses (s : State) (x : Later) : KeptFuses s (State.putOff s x) := by
  first
  | (simp [State.putOff]; done)
  | (unfold State.putOff; (try dsimp only); (repeat' split) <;> (try simp); done)
  | (unfold State.putOff; (try dsimp only); (repeat' split) <;> (try simp [*]); done)

@[simp] theorem State.retire_fuses (s : State) (c : Nat) (why : Nat) : KeptFuses s (State.retire s c why) := by
  simp [State.retire]

@[simp] theorem State.retireGroup_fuses (s : State) (g : Nat) : KeptFuses s (State.retireGroup s g) := by
  simp [State.retireGroup]

@[simp] theorem State.centreEyes_fuses (s : State) (c : Nat) (lanes : List Nat) : KeptFuses s (State.centreEyes s c lanes) := by
  first
  | (simp [State.centreEyes]; done)
  | (unfold State.centreEyes; (try dsimp only); (repeat' split) <;> (try simp); done)
  | (unfold State.centreEyes; (try dsimp only); (repeat' split) <;> (try simp [*]); done)

@[simp] theorem State.narrowNow_fuses (s : State) (c : Nat) : KeptFuses s (State.narrowNow s c) := by
  first
  | (simp [State.narrowNow]; done)
  | (unfold State.narrowNow; (try dsimp only); (repeat' split) <;> (try simp); done)
  | (unfold State.narrowNow; (try dsimp only); (repeat' split) <;> (try simp [*]); done)

@[simp] theorem State.narrow_fuses (s : State) (c : Nat) : KeptFuses s (State.narrow s c) := by
  simp [State.narrow]

@[simp] theorem State.doLater_fuses (s : State) : KeptFuses s (State.doLater s) := by
  unfold State.doLater
  refine KeptFuses_trans (t := { s with dmc := { s.dmc with later := [] } }) (by simp) (foldl_fuses _ _ _ (fun t x => ?_))
  repeat' split
  all_goals simp

@[simp] theorem State.laneSpared_fuses (s : State) (c : Nat) (kind : Nat) (lane : Nat) (spare : Nat) (free : Nat) : KeptFuses s (State.laneSpared s c kind lane spare free) := by
  simp [State.laneSpared]

@[simp] theorem State.failData_fuses (s : State) (c : Nat) (lane : Nat) : KeptFuses s (State.failData s c lane) := by
  unfold State.failData; (try dsimp only); (repeat' split) <;> (try simp)

@[simp] theorem State.failCa_fuses (s : State) (c : Nat) (lane : Nat) : KeptFuses s (State.failCa s c lane) := by
  unfold State.failCa; (try dsimp only); (repeat' split) <;> (try simp)

@[simp] theorem State.clkLost_fuses (s : State) (g : Nat) (b : Nat) : KeptFuses s (State.clkLost s g b) := by
  simp [State.clkLost]

@[simp] theorem State.logRepair_fuses (s : State) (entry : Nat) : KeptFuses s (State.logRepair s entry) := by
  simp [State.logRepair]

@[simp] theorem State.copyCw_fuses (s : State) (c : Nat) (a : Nat) : KeptFuses s (State.copyCw s c a) := by
  unfold State.copyCw; (try dsimp only); (repeat' split) <;> (try simp)

@[simp] theorem State.sparesOut_fuses (s : State) (c : Nat) (bank : Nat) (row : Nat) : KeptFuses s (State.sparesOut s c bank row) := by
  simp [State.sparesOut]

@[simp] theorem State.repairRow_fuses (s : State) (c : Nat) (p : Nat) : KeptFuses s (State.repairRow s c p) := by
  unfold State.repairRow; (try dsimp only); (repeat' split) <;> (try simp)

@[simp] theorem State.repairColumn_fuses (s : State) (c : Nat) (p : Nat) (col : Nat) : KeptFuses s (State.repairColumn s c p col) := by
  unfold State.repairColumn; (try dsimp only); (repeat' split) <;> (try simp)

@[simp] theorem State.rowFailed_fuses (s : State) (c : Nat) (p : Nat) (column : Option Nat) : KeptFuses s (State.rowFailed s c p column) := by
  unfold State.rowFailed; (try dsimp only); (repeat' split) <;> (try simp)

@[simp] theorem State.placeBlocks_fuses (s : State) (k : Nat) (n : Nat) : KeptFuses s (State.placeBlocks s k n) := by
  first
  | (simp [State.placeBlocks]; done)
  | (unfold State.placeBlocks; (try dsimp only); (repeat' split) <;> (try simp); done)
  | (unfold State.placeBlocks; (try dsimp only); (repeat' split) <;> (try simp [*]); done)

@[simp] theorem State.emitPacket_fuses (s : State) (k : Nat) (p : Packet) (resent : Bool) : KeptFuses s (State.emitPacket s k p resent) := by
  first
  | (simp [State.emitPacket]; done)
  | (unfold State.emitPacket; (try dsimp only); (repeat' split) <;> (try simp); done)
  | (unfold State.emitPacket; (try dsimp only); (repeat' split) <;> (try simp [*]); done)

@[simp] theorem State.emitBlock_fuses (s : State) (k : Nat) (b : RxBlock) : KeptFuses s (State.emitBlock s k b) := by
  first
  | (simp [State.emitBlock]; done)
  | (unfold State.emitBlock; (try dsimp only); (repeat' split) <;> (try simp); done)
  | (unfold State.emitBlock; (try dsimp only); (repeat' split) <;> (try simp [*]); done)

@[simp] theorem State.sendNew_fuses (s : State) (k : Nat) (p : Packet) : KeptFuses s (State.sendNew s k p) := by
  simp [State.sendNew]

@[simp] theorem State.takeWaiting_fuses (s : State) (k : Nat) (e : Waiting × Nat) : KeptFuses s (State.takeWaiting s k e) := by
  first
  | (simp [State.takeWaiting]; done)
  | (unfold State.takeWaiting; (try dsimp only); (repeat' split) <;> (try simp); done)
  | (unfold State.takeWaiting; (try dsimp only); (repeat' split) <;> (try simp [*]); done)

@[simp] theorem State.pumpRun_fuses (s : State) (k : Nat) (y2 : Nat) : KeptFuses s (State.pumpRun s k y2) := by
  induction y2 generalizing s k <;> unfold State.pumpRun <;> (try dsimp only) <;> (repeat' split) <;> (try simp [*])

@[simp] theorem State.crCount_fuses (s : State) (k : Nat) (n : Nat) : KeptFuses s (State.crCount s k n) := by
  first
  | (simp [State.crCount]; done)
  | (unfold State.crCount; (try dsimp only); (repeat' split) <;> (try simp); done)
  | (unfold State.crCount; (try dsimp only); (repeat' split) <;> (try simp [*]); done)

@[simp] theorem State.pump_fuses (s : State) (k : Nat) : KeptFuses s (State.pump s k) := by
  simp [State.pump]

@[simp] theorem State.sendPacket_fuses (s : State) (k : Nat) (p : Packet) (conf : optParam Bool true) : KeptFuses s (State.sendPacket s k p conf) := by
  simp [State.sendPacket]

@[simp] theorem State.noteAdmission_fuses (s : State) (a : Status × Nat × Nat) : KeptFuses s (State.noteAdmission s a) := by
  simp [State.noteAdmission]

@[simp] theorem State.classesNow_fuses (s : State) : KeptFuses s (State.classesNow s) := by
  simp [State.classesNow]

@[simp] theorem State.shedClass_fuses (s : State) (n : Nat) (r : Res) : KeptFuses s (State.shedClass s n r) := by
  simp [State.shedClass]

@[simp] theorem State.shedLoop_fuses (s : State) (y1 : Nat) : KeptFuses s (State.shedLoop s y1) := by
  induction y1 generalizing s <;> unfold State.shedLoop <;> (try dsimp only) <;> (repeat' split) <;> (try simp [*])

@[simp] theorem State.evaluate_fuses (s : State) : KeptFuses s (State.evaluate s) := by
  simp [State.evaluate]

theorem execShedEvaluation_fuses (s : State) (t : State) (h : (execShedEvaluation s) = .next t) : KeptFuses s t := by
  unfold execShedEvaluation at h; (try dsimp only at h); (repeat' split at h) <;> (try simp only [Host.Outcome.next.injEq, reduceCtorEq] at h) <;> (try subst h) <;> (try simp)

@[simp] theorem State.reinstate_fuses (s : State) (n : Nat) : KeptFuses s (State.reinstate s n) := by
  simp [State.reinstate]

@[simp] theorem State.reinstateAll_fuses (s : State) : KeptFuses s (State.reinstateAll s) := by
  simp [State.reinstateAll]

theorem execReinstatement_fuses (s : State) (t : State) (h : (execReinstatement s) = .next t) : KeptFuses s t := by
  unfold execReinstatement at h; (try dsimp only at h); (repeat' split at h) <;> (try simp only [Host.Outcome.next.injEq, reduceCtorEq] at h) <;> (try subst h) <;> (try simp)

@[simp] theorem State.holdUpdate_fuses (s : State) : KeptFuses s (State.holdUpdate s) := by
  simp [State.holdUpdate]

theorem execHoldExceeded_fuses (n : Fin 32) (s : State) (t : State) (h : (execHoldExceeded n s) = .next t) : KeptFuses s t := by
  unfold execHoldExceeded at h; (try dsimp only at h); (repeat' split at h) <;> (try simp only [Host.Outcome.next.injEq, reduceCtorEq] at h) <;> (try subst h) <;> (try simp)

@[simp] theorem State.setDomain_fuses (s : State) (d : Nat) (x : Domain) : KeptFuses s (State.setDomain s d x) := by
  simp [State.setDomain]

@[simp] theorem State.setSource_fuses (s : State) (i : Nat) (x : Source) : KeptFuses s (State.setSource s i x) := by
  simp [State.setSource]

@[simp] theorem State.logException_fuses (s : State) (e : ExcEntry) : KeptFuses s (State.logException s e) := by
  simp [State.logException]

@[simp] theorem State.exception_fuses (s : State) (bytes : List Byte) (chain : Nat) (why : ExcReason) (domain : Option Nat) : KeptFuses s (State.exception s bytes chain why domain) := by
  simp [State.exception]

@[simp] theorem State.declareGap_fuses (s : State) (src : Nat) (first : Nat) (count : Nat) : KeptFuses s (State.declareGap s src first count) := by
  simp [State.declareGap]

@[simp] theorem State.setCapLog_fuses (s : State) (p : Nat) (x : CapLog) : KeptFuses s (State.setCapLog s p x) := by
  simp [State.setCapLog]

@[simp] theorem State.writeBlockCws_fuses (s : State) (p : Nat) (part : Partition) (x : CapLog) (i : Nat) (y5 : Nat) : KeptFuses s (State.writeBlockCws s p part x i y5) := by
  induction y5 generalizing s p part x i <;> unfold State.writeBlockCws <;> (try dsimp only) <;> (repeat' split) <;> (try simp [*])

@[simp] theorem State.writeBlock_fuses (s : State) (p : Nat) (ring : Bool) : KeptFuses s (State.writeBlock s p ring) := by
  unfold State.writeBlock; (try dsimp only); (repeat' split) <;> (try simp)

@[simp] theorem State.capture_fuses (s : State) (src : Nat) (f : FailRec) : KeptFuses s (State.capture s src f) := by
  simp [State.capture]

@[simp] theorem State.release_fuses (s : State) (src : Nat) (f : FailRec) (late : Bool) : KeptFuses s (State.release s src f late) := by
  unfold State.release; (try dsimp only); (repeat' split) <;> (try simp)

@[simp] theorem State.releaseRun_fuses (s : State) (src : Nat) (y2 : List (Nat × FailRec)) : KeptFuses s (State.releaseRun s src y2) := by
  induction y2 generalizing s src <;> unfold State.releaseRun <;> (try dsimp only) <;> (repeat' split) <;> (try simp [*])

@[simp] theorem State.releaseAll_fuses (s : State) (src : Nat) (pos : Option Nat) (y3 : List (Nat × FailRec)) : KeptFuses s (State.releaseAll s src pos y3) := by
  induction y3 generalizing s src pos <;> unfold State.releaseAll <;> (try dsimp only) <;> (repeat' split) <;> (try simp [*])

@[simp] theorem State.pushWindow_fuses (s : State) (src : Nat) (nx : Nat) (new : Nat) : KeptFuses s (State.pushWindow s src nx new) := by
  simp [State.pushWindow]

@[simp] theorem State.inOrder_fuses (s : State) (src : Nat) (q : Nat) (f : FailRec) : KeptFuses s (State.inOrder s src q f) := by
  simp [State.inOrder]

@[simp] theorem State.timerUpdate_fuses (s : State) (src : Nat) (nx : Option Nat) : KeptFuses s (State.timerUpdate s src nx) := by
  simp [State.timerUpdate]

@[simp] theorem State.arrive_fuses (s : State) (src : Nat) (f : FailRec) : KeptFuses s (State.arrive s src f) := by
  unfold State.arrive; (try dsimp only); (repeat' split) <;> (try simp)

@[simp] theorem State.loseNx_fuses (s : State) (src : Nat) : KeptFuses s (State.loseNx s src) := by
  simp [State.loseNx]

@[simp] theorem State.sourcesLost_fuses (s : State) (k : Nat) : KeptFuses s (State.sourcesLost s k) := by
  simp [State.sourcesLost]

@[simp] theorem State.queueMoved_fuses (s : State) : KeptFuses s (State.queueMoved s) := by
  unfold State.queueMoved; (try dsimp only); (repeat' split) <;> (try simp)

@[simp] theorem State.heapCheck_fuses (s : State) : KeptFuses s (State.heapCheck s) := by
  simp [State.heapCheck]

theorem State.takeHeap_fuses (s : State) (d : Nat) (use : HeapUse) (n : Nat) (t : State) (h : s.takeHeap d use n = some t) : KeptFuses s t := by
  unfold State.takeHeap at h
  split at h
  · simp_all
  · simp only [Option.map_eq_some_iff] at h
    obtain ⟨a, _, rfl⟩ := h
    simp

/-- A heap place taken or refused. -/
@[simp] theorem State.takeHeapD_fuses (s : State) (d : Nat) (use : HeapUse) (n : Nat) : KeptFuses s ((s.takeHeap d use n).getD s) := by
  cases h : s.takeHeap d use n with
  | none => simp
  | some t => simpa using State.takeHeap_fuses s d use n t h

theorem State.takeAll_fuses (s : State) (l : List HeapNeed) (t : State) (h : s.takeAll l = some t) : KeptFuses s t := by
  unfold State.takeAll at h
  induction l generalizing s with
  | nil => simp_all
  | cons x r ih =>
    rw [List.foldlM_cons] at h
    obtain ⟨u, hu, hr⟩ := Option.bind_eq_some_iff.mp h
    exact KeptFuses_trans (State.takeHeap_fuses _ _ _ _ _ hu) (ih _ hr)

@[simp] theorem State.spill_fuses (s : State) (d : Nat) : KeptFuses s (State.spill s d) := by
  simp [State.spill]

@[simp] theorem State.applyRecord_fuses (s : State) (d : Nat) (x : Located) (f : FailRec) (late : Bool) :
    KeptFuses s (State.applyRecord s d x f late) := by
  unfold State.applyRecord
  dsimp only
  split
  · simp
  · rename_i h hh
    have h1 := State.takeAll_fuses _ _ _ hh
    split <;> simp_all

@[simp] theorem State.traffic_fuses (s : State) (n : Nat) (bytes : Nat) (label : Nat) : KeptFuses s (State.traffic s n bytes label).1 := by
  simp [State.traffic]

@[simp] theorem State.finish_fuses (s : State) (r : ResultRec) : KeptFuses s (State.finish s r) := by
  simp [State.finish]

@[simp] theorem State.checkRound_fuses (s : State) (p : Nat) (runner : Option Nat) : KeptFuses s (State.checkRound s p runner) := by
  first
  | (simp [State.checkRound]; done)
  | (unfold State.checkRound; (try dsimp only); (repeat' split) <;> (try simp); done)
  | (unfold State.checkRound; (try dsimp only); (repeat' split) <;> (try simp [*]); done)

@[simp] theorem State.round_fuses (s : State) (p : Nat) (engine : Nat) : KeptFuses s (State.round s p engine) := by
  unfold State.round; (try dsimp only); (repeat' split) <;> (try simp)

@[simp] theorem State.engineTick_fuses (s : State) (e : Nat) : KeptFuses s (State.engineTick s e) := by
  first
  | (simp [State.engineTick]; done)
  | (unfold State.engineTick; (try dsimp only); (repeat' split) <;> (try simp); done)
  | (unfold State.engineTick; (try dsimp only); (repeat' split) <;> (try simp [*]); done)

@[simp] theorem State.enginesTick_fuses (s : State) : KeptFuses s (State.enginesTick s) := by
  first
  | (simp [State.enginesTick]; done)
  | (unfold State.enginesTick; (try dsimp only); (repeat' split) <;> (try simp); done)
  | (unfold State.enginesTick; (try dsimp only); (repeat' split) <;> (try simp [*]); done)

@[simp] theorem State.takeOutcome_fuses (s : State) (d : Nat) (engine : Nat) (o : PassOutcome) : KeptFuses s (State.takeOutcome s d engine o) := by
  unfold State.takeOutcome; (try dsimp only); (repeat' split) <;> (try simp)

@[simp] theorem State.lockedOut_fuses (s : State) : KeptFuses s (State.lockedOut s) := by
  first
  | (simp [State.lockedOut]; done)
  | (unfold State.lockedOut; (try dsimp only); (repeat' split) <;> (try simp); done)
  | (unfold State.lockedOut; (try dsimp only); (repeat' split) <;> (try simp [*]); done)

@[simp] theorem State.writeSlot_fuses (s : State) : KeptFuses s (State.writeSlot s) := by
  simp [State.writeSlot]

@[simp] theorem State.enterMode_fuses (s : State) (m : Mode) : KeptFuses s (State.enterMode s m) := by
  simp [State.enterMode]

@[simp] theorem State.dropLatches_fuses (s : State) (gone : List (Nat × Session)) : KeptFuses s (State.dropLatches s gone) := by
  first
  | (simp [State.dropLatches]; done)
  | (unfold State.dropLatches; (try dsimp only); (repeat' split) <;> (try simp); done)
  | (unfold State.dropLatches; (try dsimp only); (repeat' split) <;> (try simp [*]); done)

@[simp] theorem State.endSessions_fuses (s : State) (p : Session → Bool) : KeptFuses s (State.endSessions s p) := by
  simp [State.endSessions]

@[simp] theorem State.forgetSessions_fuses (s : State) : KeptFuses s (State.forgetSessions s) := by
  first
  | (simp [State.forgetSessions]; done)
  | (unfold State.forgetSessions; (try dsimp only); (repeat' split) <;> (try simp); done)
  | (unfold State.forgetSessions; (try dsimp only); (repeat' split) <;> (try simp [*]); done)

@[simp] theorem State.endAtOnce_fuses (s : State) (p : Session → Bool) : KeptFuses s (State.endAtOnce s p) := by
  first
  | (simp [State.endAtOnce]; done)
  | (unfold State.endAtOnce; (try dsimp only); (repeat' split) <;> (try simp); done)
  | (unfold State.endAtOnce; (try dsimp only); (repeat' split) <;> (try simp [*]); done)

@[simp] theorem State.loseMem_fuses (s : State) (chans : List Nat) : KeptFuses s (State.loseMem s chans) := by
  simp [State.loseMem]

@[simp] theorem State.safeDomains_fuses (s : State) : KeptFuses s (State.safeDomains s) := by
  simp [State.safeDomains]

@[simp] theorem State.dmcSafe_fuses (s : State) : KeptFuses s (State.dmcSafe s) := by
  simp [State.dmcSafe]

@[simp] theorem State.idleLanes_fuses (s : State) : KeptFuses s (State.idleLanes s) := by
  simp [State.idleLanes]

@[simp] theorem State.sendSafe_fuses (s : State) (src : Nat) : KeptFuses s (State.sendSafe s src) := by
  first
  | (simp [State.sendSafe]; done)
  | (unfold State.sendSafe; (try dsimp only); (repeat' split) <;> (try simp); done)
  | (unfold State.sendSafe; (try dsimp only); (repeat' split) <;> (try simp [*]); done)

@[simp] theorem State.setBoot_fuses (s : State) (result : Nat) : KeptFuses s (State.setBoot s result) := by
  simp [State.setBoot]

@[simp] theorem State.safeBoot_fuses (s t : State) : KeptFuses t (State.safeBoot s t) := by
  unfold State.safeBoot
  split <;> simp

@[simp] theorem State.sessionReply_fuses (s : State) (st : Status) (data : optParam (List Byte) []) : KeptFuses s (State.sessionReply s st data) := by
  simp [State.sessionReply]

@[simp] theorem State.pkTake_fuses (s : State) : KeptFuses s (State.pkTake s) := by
  first
  | (simp [State.pkTake]; done)
  | (unfold State.pkTake; (try dsimp only); (repeat' split) <;> (try simp); done)
  | (unfold State.pkTake; (try dsimp only); (repeat' split) <;> (try simp [*]); done)

@[simp] theorem State.issueNonce_fuses (s : State) (path : Nat) : KeptFuses s (State.issueNonce s path) := by
  simp [State.issueNonce]

@[simp] theorem State.opNonce_fuses (s : State) (r : Req) : KeptFuses s (State.opNonce s r) := by
  unfold State.opNonce; (try dsimp only); (repeat' split) <;> (try simp)

theorem execNonce_fuses (r : Req) (s : State) (t : State) (h : (execNonce r s) = .next t) : KeptFuses s t := by
  simp only [execNonce, Host.Outcome.next.injEq] at h; subst h; simp

theorem execNonceExpire_fuses (p : Path) (s : State) (t : State) (h : (execNonceExpire p s) = .next t) : KeptFuses s t := by
  unfold execNonceExpire at h; (try dsimp only at h); (repeat' split at h) <;> (try simp only [Host.Outcome.next.injEq, reduceCtorEq] at h) <;> (try subst h) <;> (try simp)

@[simp] theorem State.consumeNonce_fuses (s : State) (r : Req) (ext : List Byte) : KeptFuses s (State.consumeNonce s r ext) := by
  unfold State.consumeNonce; (try dsimp only); (repeat' split) <;> (try simp)

@[simp] theorem State.openFailed_fuses (s : State) (path : Nat) : KeptFuses s (State.openFailed s path) := by
  simp [State.openFailed]

@[simp] theorem State.openSession_fuses (s : State) (r : Req) (ext : List Byte) (key : List Byte) : KeptFuses s (State.openSession s r ext key) := by
  simp [State.openSession]

@[simp] theorem State.openTakes_fuses (s : State) (r : Req) (ext : List Byte) : KeptFuses s (State.openTakes s r ext) := by
  first
  | (simp [State.openTakes]; done)
  | (unfold State.openTakes; (try dsimp only); (repeat' split) <;> (try simp); done)
  | (unfold State.openTakes; (try dsimp only); (repeat' split) <;> (try simp [*]); done)

@[simp] theorem State.opOpen_fuses (s : State) (r : Req) (ext : List Byte) : KeptFuses s (State.opOpen s r ext) := by
  unfold State.opOpen; (try dsimp only); (repeat' split) <;> (try simp)

theorem execSessionOpen_fuses (r : Req) (ext : List Byte) (s : State) (t : State) (h : (execSessionOpen r ext s) = .next t) : KeptFuses s t := by
  simp only [execSessionOpen, Host.Outcome.next.injEq] at h; subst h; simp

@[simp] theorem State.opClose_fuses (s : State) (r : Req) : KeptFuses s (State.opClose s r) := by
  unfold State.opClose; (try dsimp only); (repeat' split) <;> (try simp)

theorem execSessionClose_fuses (r : Req) (s : State) (t : State) (h : (execSessionClose r s) = .next t) : KeptFuses s t := by
  simp only [execSessionClose, Host.Outcome.next.injEq] at h; subst h; simp

@[simp] theorem State.opEvict_fuses (s : State) (r : Req) (ext : List Byte) : KeptFuses s (State.opEvict s r ext) := by
  unfold State.opEvict; (try dsimp only); (repeat' split) <;> (try simp)

theorem execEvict_fuses (r : Req) (ext : List Byte) (s : State) (t : State) (h : (execEvict r ext s) = .next t) : KeptFuses s t := by
  simp only [execEvict, Host.Outcome.next.injEq] at h; subst h; simp

theorem execSessionIdleTimeout_fuses (slot : Fin 16) (s : State) (t : State) (h : (execSessionIdleTimeout slot s) = .next t) : KeptFuses s t := by
  unfold execSessionIdleTimeout at h; (try dsimp only at h); (repeat' split at h) <;> (try simp only [Host.Outcome.next.injEq, reduceCtorEq] at h) <;> (try subst h) <;> (try simp)

@[simp] theorem State.opIdentity_fuses (s : State) (r : Req) : KeptFuses s (State.opIdentity s r) := by
  unfold State.opIdentity; (try dsimp only); (repeat' split) <;> (try simp)

theorem execIdentity_fuses (r : Req) (s : State) (t : State) (h : (execIdentity r s) = .next t) : KeptFuses s t := by
  simp only [execIdentity, Host.Outcome.next.injEq] at h; subst h; simp

@[simp] theorem State.opAttest_fuses (s : State) (r : Req) (hnonce : List Byte) : KeptFuses s (State.opAttest s r hnonce) := by
  unfold State.opAttest; (try dsimp only); (repeat' split) <;> (try simp)

theorem execAttest_fuses (r : Req) (hnonce : List Byte) (s : State) (t : State) (h : (execAttest r hnonce s) = .next t) : KeptFuses s t := by
  simp only [execAttest, Host.Outcome.next.injEq] at h; subst h; simp

@[simp] theorem State.dbgWrite_fuses (s : State) (r : Req) (v : Word) : KeptFuses s (State.dbgWrite s r v) := by
  simp [State.dbgWrite]

theorem execDebugUnlock_fuses (r : Req) (v : Word) (s : State) (t : State) (h : (execDebugUnlock r v s) = .next t) : KeptFuses s t := by
  simp only [execDebugUnlock, Host.Outcome.next.injEq] at h; subst h; simp

@[simp] theorem State.setSession_fuses (s : State) (slot : Nat) (x : Session) : KeptFuses s (State.setSession s slot x) := by
  simp [State.setSession]

@[simp] theorem State.tagFailed_fuses (s : State) (slot : Nat) (x : Session) (chain : Nat) : KeptFuses s (State.tagFailed s slot x chain) := by
  simp [State.tagFailed]

@[simp] theorem State.tagCheck_fuses (s : State) (path : Nat) (p : Packet) : KeptFuses s (State.tagCheck s path p).1 := by
  unfold State.tagCheck; (try dsimp only); (repeat' split) <;> (try simp)

@[simp] theorem State.tagPacket_fuses (s : State) (slot : Nat) (x : Session) (p : Packet) : KeptFuses s (State.tagPacket s slot x p).1 := by
  unfold State.tagPacket; (try dsimp only); (repeat' split) <;> (try simp)

@[simp] theorem State.servingFor_fuses (s : State) (sess : Option (Nat × Session)) : KeptFuses s (State.servingFor s sess) := by
  first
  | (simp [State.servingFor]; done)
  | (unfold State.servingFor; (try dsimp only); (repeat' split) <;> (try simp); done)
  | (unfold State.servingFor; (try dsimp only); (repeat' split) <;> (try simp [*]); done)

@[simp] theorem State.servingDone_fuses (s : State) : KeptFuses s (State.servingDone s) := by
  first
  | (simp [State.servingDone]; done)
  | (unfold State.servingDone; (try dsimp only); (repeat' split) <;> (try simp); done)
  | (unfold State.servingDone; (try dsimp only); (repeat' split) <;> (try simp [*]); done)

@[simp] theorem State.sendTagged_fuses (s : State) (k : Nat) (e : Nat × Session) (p : Packet) (conf : Bool) : KeptFuses s (State.sendTagged s k e p conf) := by
  first
  | (simp [State.sendTagged]; done)
  | (unfold State.sendTagged; (try dsimp only); (repeat' split) <;> (try simp); done)
  | (unfold State.sendTagged; (try dsimp only); (repeat' split) <;> (try simp [*]); done)

@[simp] theorem State.answerWith_fuses (s : State) (k : Nat) (sess : Option (Nat × Session)) (p : Packet) (conf : optParam Bool true) : KeptFuses s (State.answerWith s k sess p conf) := by
  unfold State.answerWith; (try dsimp only); (repeat' split) <;> (try simp)

@[simp] theorem State.sendEmpty_fuses (s : State) (k : Nat) (type : Nat) (label : Nat) (rid : Nat) (sess : Option (Nat × Session)) (st : Status) : KeptFuses s (State.sendEmpty s k type label rid sess st) := by
  simp [State.sendEmpty]

@[simp] theorem State.sendFragments_fuses (s : State) (k : Nat) (label : Nat) (rid : Nat) (sess : Option (Nat × Session)) (st : Status) (conf : Bool) (y7 : Nat) (y8 : List (List Byte)) : KeptFuses s (State.sendFragments s k label rid sess st conf y7 y8) := by
  induction y8 generalizing s k label rid sess st conf y7 <;> unfold State.sendFragments <;> (try dsimp only) <;> (repeat' split) <;> (try simp [*])

@[simp] theorem State.answerBrd_fuses (s : State) (j : BrdJob) : KeptFuses s (State.answerBrd s j) := by
  first
  | (simp [State.answerBrd]; done)
  | (unfold State.answerBrd; (try dsimp only); (repeat' split) <;> (try simp); done)
  | (unfold State.answerBrd; (try dsimp only); (repeat' split) <;> (try simp [*]); done)

@[simp] theorem State.deliver_fuses (s : State) (id : Nat) (slot : Nat) (w : JobCw) : KeptFuses s (State.deliver s id slot w) := by
  first
  | (simp [State.deliver]; done)
  | (unfold State.deliver; (try dsimp only); (repeat' split) <;> (try simp); done)
  | (unfold State.deliver; (try dsimp only); (repeat' split) <;> (try simp [*]); done)

@[simp] theorem State.gather_fuses (s : State) (j : BrdJob) (p : Partition) (id : Nat) (cls : Nat) (i : Nat) (o : Nat) (y7 : Nat) : KeptFuses s (State.gather s j p id cls i o y7).1 := by
  induction y7 generalizing s j p id cls i o <;> unfold State.gather <;> (try dsimp only) <;> (repeat' split) <;> (try simp [*])

@[simp] theorem State.startBrd_fuses (s : State) (j : BrdJob) (p : Partition) (cls : Nat) : KeptFuses s (State.startBrd s j p cls) := by
  first
  | (simp [State.startBrd]; done)
  | (unfold State.startBrd; (try dsimp only); (repeat' split) <;> (try simp); done)
  | (unfold State.startBrd; (try dsimp only); (repeat' split) <;> (try simp [*]); done)

@[simp] theorem State.loseEntry_fuses (s : State) (d : Nat) : KeptFuses s (State.loseEntry s d) := by
  simp [State.loseEntry]

@[simp] theorem State.loseMap_fuses (s : State) (d : Nat) : KeptFuses s (State.loseMap s d) := by
  unfold State.loseMap; (try dsimp only); (repeat' split) <;> (try simp)

@[simp] theorem State.damaged_fuses (s : State) (d : Nat) : KeptFuses s (State.damaged s d) := by
  simp [State.damaged]

@[simp] theorem State.losePool_fuses (s : State) (p : Nat) : KeptFuses s (State.losePool s p) := by
  unfold State.losePool
  dsimp only
  refine KeptFuses_trans ?_ (foldl_fuses _ _ _ (fun t x => ?_))
  · simp
  · cases Tab.look t.cad.domains x <;> simp

@[simp] theorem State.readerFails_fuses (s : State) (reader : Reader) : KeptFuses s (State.readerFails s reader) := by
  unfold State.readerFails; (try dsimp only); (repeat' split) <;> (try simp)

@[simp] theorem State.readFor_fuses (s : State) (c : Nat) (a : Nat) (n : Nat) (errs : ReadErrs) (reader : Reader) : KeptFuses s (State.readFor s c a n errs reader) := by
  first
  | (simp [State.readFor]; done)
  | (unfold State.readFor; (try dsimp only); (repeat' split) <;> (try simp); done)
  | (unfold State.readFor; (try dsimp only); (repeat' split) <;> (try simp [*]); done)

@[simp] theorem State.latMax_fuses (s : State) (c : Nat) (n : Nat) : KeptFuses s (State.latMax s c n) := by
  first
  | (simp [State.latMax]; done)
  | (unfold State.latMax; (try dsimp only); (repeat' split) <;> (try simp); done)
  | (unfold State.latMax; (try dsimp only); (repeat' split) <;> (try simp [*]); done)

@[simp] theorem State.serveReq_fuses (s0 : State) (c : Nat) (r : DmcReq) : KeptFuses s0 (State.serveReq s0 c r) := by
  first
  | (simp [State.serveReq]; done)
  | (unfold State.serveReq; (try dsimp only); (repeat' split) <;> (try simp); done)
  | (unfold State.serveReq; (try dsimp only); (repeat' split) <;> (try simp [*]); done)

@[simp] theorem State.serveRun_fuses (s : State) (c : Nat) (burst : Bool) (y3 : Nat) : KeptFuses s (State.serveRun s c burst y3) := by
  induction y3 generalizing s c burst <;> unfold State.serveRun <;> (try dsimp only) <;> (repeat' split) <;> (try simp [*])

@[simp] theorem State.writeDue_fuses (s : State) (c : Nat) : KeptFuses s (State.writeDue s c) := by
  first
  | (simp [State.writeDue]; done)
  | (unfold State.writeDue; (try dsimp only); (repeat' split) <;> (try simp); done)
  | (unfold State.writeDue; (try dsimp only); (repeat' split) <;> (try simp [*]); done)

@[simp] theorem State.preemptWaiting_fuses (s : State) (c : Nat) : KeptFuses s (State.preemptWaiting s c) := by
  first
  | (simp [State.preemptWaiting]; done)
  | (unfold State.preemptWaiting; (try dsimp only); (repeat' split) <;> (try simp); done)
  | (unfold State.preemptWaiting; (try dsimp only); (repeat' split) <;> (try simp [*]); done)

@[simp] theorem State.serveChan_fuses (s : State) (c : Nat) : KeptFuses s (State.serveChan s c) := by
  first
  | (simp [State.serveChan]; done)
  | (unfold State.serveChan; (try dsimp only); (repeat' split) <;> (try simp); done)
  | (unfold State.serveChan; (try dsimp only); (repeat' split) <;> (try simp [*]); done)

@[simp] theorem State.serveAll_fuses (s : State) : KeptFuses s (State.serveAll s) := by
  first
  | (simp [State.serveAll]; done)
  | (unfold State.serveAll; (try dsimp only); (repeat' split) <;> (try simp); done)
  | (unfold State.serveAll; (try dsimp only); (repeat' split) <;> (try simp [*]); done)

@[simp] theorem State.lateHit_fuses (s : State) (c : Nat) (late : Bool) : KeptFuses s (State.lateHit s c late) := by
  simp [State.lateHit]

@[simp] theorem State.refreshTick_fuses (s0 : State) (c : Nat) : KeptFuses s0 (State.refreshTick s0 c) := by
  simp [State.refreshTick]

theorem execRefreshTick_fuses (c : Fin 32) (s : State) (t : State) (h : (execRefreshTick c s) = .next t) : KeptFuses s t := by
  simp only [execRefreshTick, Host.Outcome.next.injEq] at h; subst h; simp

@[simp] theorem State.pullIn_fuses (s : State) (c : Nat) : KeptFuses s (State.pullIn s c) := by
  simp [State.pullIn]

theorem execPullInRefresh_fuses (c : Fin 32) (s : State) (t : State) (h : (execPullInRefresh c s) = .next t) : KeptFuses s t := by
  simp only [execPullInRefresh, Host.Outcome.next.injEq] at h; subst h; simp

@[simp] theorem State.closeRow_fuses (s : State) (c : Nat) (bank : Nat) : KeptFuses s (State.closeRow s c bank) := by
  first
  | (simp [State.closeRow]; done)
  | (unfold State.closeRow; (try dsimp only); (repeat' split) <;> (try simp); done)
  | (unfold State.closeRow; (try dsimp only); (repeat' split) <;> (try simp [*]); done)

theorem execRowIdlePrecharge_fuses (c : Fin 32) (b : Fin 32) (s : State) (t : State) (h : execRowIdlePrecharge c b s = .next t) : KeptFuses s t := by
  unfold execRowIdlePrecharge at h
  split at h <;> (simp only [Host.Outcome.next.injEq] at h; subst h; simp)

@[simp] theorem State.dmcRead_fuses (s : State) (c : Nat) (a : Nat) (cls : Nat) (age : Nat) (cycles : Nat) (late : Bool) (errs : ReadErrs) (reader : Reader) : KeptFuses s (State.dmcRead s c a cls age cycles late errs reader) := by
  unfold State.dmcRead; (try dsimp only); (repeat' split) <;> (try simp)

theorem execDmcRead_fuses (c : Fin 32) (a : BitVec 32) (cls : Fin 32) (age : Nat) (cycles : Nat) (late : Bool) (errs : ReadErrs) (reader : Reader) (s : State) (t : State) (h : (execDmcRead c a cls age cycles late errs reader s) = .next t) : KeptFuses s t := by
  unfold execDmcRead at h; (try dsimp only at h); (repeat' split at h) <;> (try simp only [Host.Outcome.next.injEq, reduceCtorEq] at h) <;> (try subst h) <;> (try simp)

@[simp] theorem State.dmcWrite_fuses (s : State) (c : Nat) (a : Nat) (cls : Nat) (age : Nat) (late : Bool) (d : BitVec 512) (w : BitVec 64) : KeptFuses s (State.dmcWrite s c a cls age late d w) := by
  simp [State.dmcWrite]

theorem execDmcWrite_fuses (c : Fin 32) (a : BitVec 32) (cls : Fin 32) (age : Nat) (late : Bool) (data : BitVec 512) (bytes : BitVec 64) (s : State) (t : State) (h : (execDmcWrite c a cls age late data bytes s) = .next t) : KeptFuses s t := by
  unfold execDmcWrite at h; (try dsimp only at h); (repeat' split at h) <;> (try simp only [Host.Outcome.next.injEq, reduceCtorEq] at h) <;> (try subst h) <;> (try simp)

@[simp] theorem State.dueMerge_fuses (s : State) (c : Nat) (a : Nat) : KeptFuses s (State.dueMerge s c a) := by
  first
  | (simp [State.dueMerge]; done)
  | (unfold State.dueMerge; (try dsimp only); (repeat' split) <;> (try simp); done)
  | (unfold State.dueMerge; (try dsimp only); (repeat' split) <;> (try simp [*]); done)

theorem execMergeEntryTimeout_fuses (c : Fin 32) (a : BitVec 32) (errs : ReadErrs) (s : State) (t : State) (h : (execMergeEntryTimeout c a errs s) = .next t) : KeptFuses s t := by
  unfold execMergeEntryTimeout at h; (try dsimp only at h); (repeat' split at h) <;> (try simp only [Host.Outcome.next.injEq, reduceCtorEq] at h) <;> (try subst h) <;> (try simp)

@[simp] theorem State.reissue_fuses (s : State) (c : Nat) (back : Nat) : KeptFuses s (State.reissue s c back) := by
  first
  | (simp [State.reissue]; done)
  | (unfold State.reissue; (try dsimp only); (repeat' split) <;> (try simp); done)
  | (unfold State.reissue; (try dsimp only); (repeat' split) <;> (try simp [*]); done)

@[simp] theorem State.ignored_fuses (s : State) (c : Nat) (k : DramCmd) : KeptFuses s (State.ignored s c k) := by
  first
  | (simp [State.ignored]; done)
  | (unfold State.ignored; (try dsimp only); (repeat' split) <;> (try simp); done)
  | (unfold State.ignored; (try dsimp only); (repeat' split) <;> (try simp [*]); done)

@[simp] theorem State.takeBack_fuses (s : State) (c : Nat) (back : Nat) : KeptFuses s (State.takeBack s c back) := by
  unfold State.takeBack
  dsimp only
  simp [-List.foldl_reverse]

@[simp] theorem State.errorReturn_fuses (s : State) (c : Nat) (back : Nat) : KeptFuses s (State.errorReturn s c back) := by
  unfold State.errorReturn
  dsimp only
  cases (s.chan c).retry.reverse[back]? with
  | none => simp
  | some k => dsimp only; (repeat' split) <;> simp

theorem execErrorReturn_fuses (c : Fin 32) (back : Fin 32) (s : State) (t : State) (h : (execErrorReturn c back s) = .next t) : KeptFuses s t := by
  simp only [execErrorReturn, Host.Outcome.next.injEq] at h; subst h; simp

@[simp] theorem State.caTestDone_fuses (s : State) (c : Nat) (bad : List Nat) : KeptFuses s (State.caTestDone s c bad) := by
  simp [State.caTestDone]

theorem execCaLaneTestDone_fuses (c : Fin 32) (bad : BitVec 16) (s : State) (t : State) (h : (execCaLaneTestDone c bad s) = .next t) : KeptFuses s t := by
  simp only [execCaLaneTestDone, Host.Outcome.next.injEq] at h; subst h; simp

@[simp] theorem State.fullCal_fuses (s : State) (r : CalResult) (point : Nat) : KeptFuses s (State.fullCal s r point) := by
  simp [State.fullCal]

@[simp] theorem State.orderTransit_fuses (s : State) (point : Nat) (ticks : Nat) (cal : CalResult) : KeptFuses s (State.orderTransit s point ticks cal) := by
  first
  | (simp [State.orderTransit]; done)
  | (unfold State.orderTransit; (try dsimp only); (repeat' split) <;> (try simp); done)
  | (unfold State.orderTransit; (try dsimp only); (repeat' split) <;> (try simp [*]); done)

@[simp] theorem State.stepTransit_fuses (s : State) (m : Transit) (step : Nat) : KeptFuses s (State.stepTransit s m step) := by
  first
  | (simp [State.stepTransit]; done)
  | (unfold State.stepTransit; (try dsimp only); (repeat' split) <;> (try simp); done)
  | (unfold State.stepTransit; (try dsimp only); (repeat' split) <;> (try simp [*]); done)

@[simp] theorem State.transitSleep_fuses (s : State) : KeptFuses s (State.transitSleep s) := by
  first
  | (simp [State.transitSleep]; done)
  | (unfold State.transitSleep; (try dsimp only); (repeat' split) <;> (try simp); done)
  | (unfold State.transitSleep; (try dsimp only); (repeat' split) <;> (try simp [*]); done)

@[simp] theorem State.transitWake_fuses (s : State) : KeptFuses s (State.transitWake s) := by
  first
  | (simp [State.transitWake]; done)
  | (unfold State.transitWake; (try dsimp only); (repeat' split) <;> (try simp); done)
  | (unfold State.transitWake; (try dsimp only); (repeat' split) <;> (try simp [*]); done)

@[simp] theorem State.transitDone_fuses (s : State) : KeptFuses s (State.transitDone s) := by
  first
  | (simp [State.transitDone]; done)
  | (unfold State.transitDone; (try dsimp only); (repeat' split) <;> (try simp); done)
  | (unfold State.transitDone; (try dsimp only); (repeat' split) <;> (try simp [*]); done)

@[simp] theorem State.transitStep_fuses (s : State) : KeptFuses s (State.transitStep s) := by
  first
  | (simp [State.transitStep]; done)
  | (unfold State.transitStep; (try dsimp only); (repeat' split) <;> (try simp); done)
  | (unfold State.transitStep; (try dsimp only); (repeat' split) <;> (try simp [*]); done)

theorem execTransitStart_fuses (ticks : Nat) (cal : CalResult) (s : State) (t : State) (h : (execTransitStart ticks cal s) = .next t) : KeptFuses s t := by
  unfold execTransitStart at h; (try dsimp only at h); (repeat' split at h) <;> (try simp only [Host.Outcome.next.injEq, reduceCtorEq] at h) <;> (try subst h) <;> (try simp)

@[simp] theorem State.holdPoint_fuses (s : State) (p : Nat) : KeptFuses s (State.holdPoint s p) := by
  simp [State.holdPoint]

theorem execDmcFreqReq_fuses (r : Req) (v : Word) (s : State) (t : State) (h : (execDmcFreqReq r v s) = .next t) : KeptFuses s t := by
  simp only [execDmcFreqReq, Host.Outcome.next.injEq] at h; subst h; simp

@[simp] theorem State.scrubCw_fuses (s : State) (c : Nat) (a : Nat) (errs : ReadErrs) : KeptFuses s (State.scrubCw s c a errs) := by
  unfold State.scrubCw; (try dsimp only); (repeat' split) <;> (try simp)

@[simp] theorem State.scrubRow_fuses (s : State) (c : Nat) (errs : List (Fin 32 × ReadErrs)) : KeptFuses s (State.scrubRow s c errs) := by
  simp [State.scrubRow]

theorem execScrubRow_fuses (c : Fin 32) (errs : List (Fin 32 × ReadErrs)) (s : State) (t : State) (h : (execScrubRow c errs s) = .next t) : KeptFuses s t := by
  unfold execScrubRow at h; (try dsimp only at h); (repeat' split at h) <;> (try simp only [Host.Outcome.next.injEq, reduceCtorEq] at h) <;> (try subst h) <;> (try simp)

theorem execCorrected2Writeback_fuses (c : Fin 32) (a : BitVec 32) (s : State) (t : State) (h : (execCorrected2Writeback c a s) = .next t) : KeptFuses s t := by
  unfold execCorrected2Writeback at h; (try dsimp only at h); (repeat' split at h) <;> (try simp only [Host.Outcome.next.injEq, reduceCtorEq] at h) <;> (try subst h) <;> (try simp)

@[simp] theorem State.hotpos_fuses (s : State) (c : Nat) (k : Nat) : KeptFuses s (State.hotpos s c k) := by
  unfold State.hotpos; (try dsimp only); (repeat' split) <;> (try simp)

theorem execHotpos_fuses (c : Fin 32) (sym : Fin 36) (s : State) (t : State) (h : (execHotpos c sym s) = .next t) : KeptFuses s t := by
  simp only [execHotpos, Host.Outcome.next.injEq] at h; subst h; simp

theorem execEccInjArm_fuses (r : Req) (v : Word) (s : State) (t : State) (h : (execEccInjArm r v s) = .next t) : KeptFuses s t := by
  simp only [execEccInjArm, Host.Outcome.next.injEq] at h; subst h; simp

@[simp] theorem State.startLeg_fuses (s0 : State) (b : Nat) : KeptFuses s0 (State.startLeg s0 b) := by
  unfold State.startLeg; (try dsimp only); (repeat' split) <;> (try simp)

@[simp] theorem State.nextDram_fuses (s : State) (c : Nat) : KeptFuses s (State.nextDram s c).2 := by
  unfold State.nextDram; (try dsimp only); (repeat' split) <;> (try simp)

@[simp] theorem State.nextBase_fuses (s : State) : KeptFuses s (State.nextBase s).2 := by
  unfold State.nextBase; (try dsimp only); (repeat' split) <;> (try simp)

/-- A leg's start keeps them where the schedule before it did. -/
theorem State.tryLeg_fuses (s : State) (n : Nat × State) (h : KeptFuses s n.2) : KeptFuses s (State.tryLeg s n) := by
  unfold State.tryLeg
  split
  · simp
  · split
    · simp_all
    · simp_all

@[simp] theorem State.nextFull_fuses (s : State) : KeptFuses s (State.nextFull s).2 := by
  first
  | (simp [State.nextFull]; done)
  | (unfold State.nextFull; (try dsimp only); (repeat' split) <;> (try simp); done)
  | (unfold State.nextFull; (try dsimp only); (repeat' split) <;> (try simp [*]); done)

/-- A leg of a full-stack self-test keeps them where the choice before it did. -/
theorem State.tryFull_fuses (s : State) (n : Nat × State) (h : KeptFuses s n.2) : KeptFuses s (State.tryFull s n) := by
  unfold State.tryFull
  repeat' split
  all_goals simp_all

theorem execLegStart_fuses (w : LegWho) (s : State) (t : State) (h : (execLegStart w s) = .next t) : KeptFuses s t := by
  unfold execLegStart at h
  repeat' split at h
  all_goals first
    | (simp only [Host.Outcome.next.injEq] at h; subst h; simp; done)
    | (simp only [Host.Outcome.next.injEq] at h; subst h; exact State.tryLeg_fuses _ _ (by simp))
    | (simp only [Host.Outcome.next.injEq] at h; subst h; exact State.tryFull_fuses _ _ (by simp))

@[simp] theorem State.sramFailed_fuses (s : State) (b : Nat) : KeptFuses s (State.sramFailed s b) := by
  simp [State.sramFailed]

@[simp] theorem State.vxuFailed_fuses (s : State) (u : Nat) : KeptFuses s (State.vxuFailed s u) := by
  simp [State.vxuFailed]

@[simp] theorem State.engineFails_fuses (s : State) (e : Nat) (d : Nat) : KeptFuses s (State.engineFails s e d) := by
  simp [State.engineFails]

@[simp] theorem State.legAction_fuses (s : State) (b : Nat) (column : Option Nat) : KeptFuses s (State.legAction s b column) := by
  unfold State.legAction; (try dsimp only); (repeat' split) <;> (try simp)

@[simp] theorem State.legJudged_fuses (s : State) (l : Leg) (good : Bool) (column : Option Nat) : KeptFuses s (State.legJudged s l good column) := by
  first
  | (simp [State.legJudged]; done)
  | (unfold State.legJudged; (try dsimp only); (repeat' split) <;> (try simp); done)
  | (unfold State.legJudged; (try dsimp only); (repeat' split) <;> (try simp [*]); done)

@[simp] theorem State.legEnds_fuses (s : State) (l : Leg) (good : Bool) (column : Option Nat) : KeptFuses s (State.legEnds s l good column) := by
  simp [State.legEnds]

theorem execLegEnd_fuses (block : BitVec 32) (signature : BitVec 32) (column : Option (Fin 32)) (s : State) (t : State) (h : (execLegEnd block signature column s) = .next t) : KeptFuses s t := by
  unfold execLegEnd at h; (try dsimp only at h); (repeat' split at h) <;> (try simp only [Host.Outcome.next.injEq, reduceCtorEq] at h) <;> (try subst h) <;> (try simp)

theorem execLegBudgetExpire_fuses (block : BitVec 32) (tally : BitVec 32) (s : State) (t : State) (h : (execLegBudgetExpire block tally s) = .next t) : KeptFuses s t := by
  unfold execLegBudgetExpire at h; (try dsimp only at h); (repeat' split at h) <;> (try simp only [Host.Outcome.next.injEq, reduceCtorEq] at h) <;> (try subst h) <;> (try simp)

@[simp] theorem State.columnChunk_fuses (s : State) (c : Nat) : KeptFuses s (State.columnChunk s c) := by
  unfold State.columnChunk; (try dsimp only); (repeat' split) <;> (try simp)

theorem execColumnRepairChunk_fuses (c : Fin 32) (s : State) (t : State) (h : (execColumnRepairChunk c s) = .next t) : KeptFuses s t := by
  unfold execColumnRepairChunk at h; (try dsimp only at h); (repeat' split at h) <;> (try simp only [Host.Outcome.next.injEq, reduceCtorEq] at h) <;> (try subst h) <;> (try simp)

theorem execClkBundleLost_fuses (g : Fin 4) (b : Fin 2) (s : State) (t : State) (h : (execClkBundleLost g b s) = .next t) : KeptFuses s t := by
  simp only [execClkBundleLost, Host.Outcome.next.injEq] at h; subst h; simp

@[simp] theorem State.parcelLost_fuses (s : State) (parcel : Nat) (ch : Nat) : KeptFuses s (State.parcelLost s parcel ch) := by
  simp [State.parcelLost]

@[simp] theorem State.putMoved_fuses (s : State) (ref : Nat) (m : MovedSlice) : KeptFuses s (State.putMoved s ref m) := by
  simp [State.putMoved]

@[simp] theorem State.loseSlice_fuses (s : State) (c : Nat) (ref : Nat) : KeptFuses s (State.loseSlice s c ref) := by
  simp [State.loseSlice]

@[simp] theorem State.copySlice_fuses (s : State) (c : Nat) (ref : Nat) (parts : List ResPart) : KeptFuses s (State.copySlice s c ref parts) := by
  unfold State.copySlice
  dsimp only
  apply foldl_fuses
  intro t x
  repeat' split
  all_goals simp

@[simp] theorem State.placeSlice_fuses (s : State) (c : Nat) (ref : Nat) (copy : Bool) : KeptFuses s (State.placeSlice s c ref copy).1 := by
  unfold State.placeSlice; (try dsimp only); (repeat' split) <;> (try simp)

@[simp] theorem State.salvageEnds_fuses (s : State) (v : Salvage) : KeptFuses s (State.salvageEnds s v) := by
  simp [State.salvageEnds]

@[simp] theorem State.salvageSlice_fuses (s : State) (mismatches : Nat) (dead : Bool) : KeptFuses s (State.salvageSlice s mismatches dead) := by
  unfold State.salvageSlice
  dsimp only
  split
  · simp
  · rename_i v s1 h
    have hk : KeptFuses s s1 := by
      repeat' split at h
      all_goals simp_all
      all_goals rw [← h.2]
      all_goals simp
    repeat' split
    all_goals simp_all

theorem execSalvageSlice_fuses (mismatches : Nat) (dead : Bool) (s : State) (t : State) (h : (execSalvageSlice mismatches dead s) = .next t) : KeptFuses s t := by
  unfold execSalvageSlice at h; (try dsimp only at h); (repeat' split at h) <;> (try simp only [Host.Outcome.next.injEq, reduceCtorEq] at h) <;> (try subst h) <;> (try simp)

@[simp] theorem State.startFulltest_fuses (s : State) (inLoad : Bool) : KeptFuses s (State.startFulltest s inLoad) := by
  simp [State.startFulltest]

theorem execFulltest_fuses (r : Req) (s : State) (t : State) (h : (execFulltest r s) = .next t) : KeptFuses s t := by
  simp only [execFulltest, Host.Outcome.next.injEq] at h; subst h; simp

theorem execFulltestDone_fuses (s : State) (t : State) (h : (execFulltestDone s) = .next t) : KeptFuses s t := by
  unfold execFulltestDone at h; (try dsimp only at h); (repeat' split at h) <;> (try simp only [Host.Outcome.next.injEq, reduceCtorEq] at h) <;> (try subst h) <;> (try simp)

theorem execAbortFulltest_fuses (r : Req) (s : State) (t : State) (h : (execAbortFulltest r s) = .next t) : KeptFuses s t := by
  simp only [execAbortFulltest, Host.Outcome.next.injEq] at h; subst h; simp

theorem execLegCmd_fuses (r : Req) (s : State) (t : State) (h : (execLegCmd r s) = .next t) : KeptFuses s t := by
  simp only [execLegCmd, Host.Outcome.next.injEq] at h; subst h; simp

@[simp] theorem State.calValue_fuses (s : State) (c : Nat) (kind : Nat) (lane : Nat) (v : Nat) : KeptFuses s (State.calValue s c kind lane v) := by
  simp [State.calValue]

@[simp] theorem State.calStep_fuses (s : State) (c : Nat) (values : List (Nat × Nat)) : KeptFuses s (State.calStep s c values) := by
  unfold State.calStep
  dsimp only
  refine KeptFuses_trans (t := List.foldl _ s _) (foldl_fuses _ _ s ?_)
    (KeptFuses_trans (t := State.setChan _ c _) (State.setChan_fuses _ _ _) (State.inc64_fuses _ _ _))
  intro t x
  split <;> simp

theorem execCalStep_fuses (c : Fin 32) (values : List (Nat × Nat)) (s : State) (t : State) (h : (execCalStep c values s) = .next t) : KeptFuses s t := by
  unfold execCalStep at h; (try dsimp only at h); (repeat' split at h) <;> (try simp only [Host.Outcome.next.injEq, reduceCtorEq] at h) <;> (try subst h) <;> (try simp)

theorem execCalStepForced_fuses (c : Fin 32) (values : List (Nat × Nat)) (s : State) (t : State) (h : (execCalStepForced c values s) = .next t) : KeptFuses s t := by
  unfold execCalStepForced at h; (try dsimp only at h); (repeat' split at h) <;> (try simp only [Host.Outcome.next.injEq, reduceCtorEq] at h) <;> (try subst h) <;> (try simp)

@[simp] theorem State.tapMove_fuses (s : State) (c : Nat) (kind : Nat) (lane : Nat) : KeptFuses s (State.tapMove s c kind lane) := by
  unfold State.tapMove; (try dsimp only); (repeat' split) <;> (try simp)

theorem execCalTapMove_fuses (c : Fin 32) (kind : Fin 4) (lane : Fin 78) (s : State) (t : State) (h : (execCalTapMove c kind lane s) = .next t) : KeptFuses s t := by
  unfold execCalTapMove at h; (try dsimp only at h); (repeat' split at h) <;> (try simp only [Host.Outcome.next.injEq, reduceCtorEq] at h) <;> (try subst h) <;> (try simp)

@[simp] theorem State.pd13_fuses (s : State) (x : PwrState) : KeptFuses s (State.pd13 s x) := by
  simp [State.pd13]

@[simp] theorem State.allOff_fuses (s : State) : KeptFuses s (State.allOff s) := by
  simp [State.allOff]

@[simp] theorem State.exclude_fuses (s : State) (n : Nat) : KeptFuses s (State.exclude s n) := by
  simp [State.exclude]

@[simp] theorem State.modelOnly_fuses (s : State) (u : Nat) : KeptFuses s (State.modelOnly s u) := by
  simp [State.modelOnly]

@[simp] theorem State.exclusion_fuses (s : State) : KeptFuses s (State.exclusion s) := by
  simp [State.exclusion]

@[simp] theorem State.updateModel_fuses (s : State) (m : Thermals) : KeptFuses s (State.updateModel s m) := by
  simp [State.updateModel]

@[simp] theorem State.setLevel_fuses (s : State) (new : Nat) (u : Nat) : KeptFuses s (State.setLevel s new u) := by
  simp [State.setLevel]

@[simp] theorem State.throttle_fuses (s : State) : KeptFuses s (State.throttle s) := by
  simp [State.throttle]

@[simp] theorem State.throttleStep_fuses (s : State) : KeptFuses s (State.throttleStep s) := by
  simp [State.throttleStep]

theorem execThrottleStep_fuses (s : State) (t : State) (h : (execThrottleStep s) = .next t) : KeptFuses s t := by
  unfold execThrottleStep at h; (try dsimp only at h); (repeat' split at h) <;> (try simp only [Host.Outcome.next.injEq, reduceCtorEq] at h) <;> (try subst h) <;> (try simp)

@[simp] theorem State.warnMoves_fuses (s : State) (base : Bool) (old : Bool) (new : Bool) : KeptFuses s (State.warnMoves s base old new) := by
  first
  | (simp [State.warnMoves]; done)
  | (unfold State.warnMoves; (try dsimp only); (repeat' split) <;> (try simp); done)
  | (unfold State.warnMoves; (try dsimp only); (repeat' split) <;> (try simp [*]); done)

@[simp] theorem State.warning_fuses (s : State) : KeptFuses s (State.warning s) := by
  simp [State.warning]

@[simp] theorem State.followTarget_fuses (s : State) : KeptFuses s (State.followTarget s) := by
  unfold State.followTarget; (try dsimp only); (repeat' split) <;> (try simp)

@[simp] theorem State.intervalStep_fuses (s : State) : KeptFuses s (State.intervalStep s) := by
  simp [State.intervalStep]

@[simp] theorem State.takeReadings_fuses (s : State) (m : Thermals) : KeptFuses s (State.takeReadings s m) := by
  simp [State.takeReadings]

@[simp] theorem State.takeRails_fuses (s : State) (m : Thermals) : KeptFuses s (State.takeRails s m) := by
  simp [State.takeRails]

theorem execFasterPointTimer_fuses (s : State) (t : State) (h : (execFasterPointTimer s) = .next t) : KeptFuses s t := by
  unfold execFasterPointTimer at h; (try dsimp only at h); (repeat' split at h) <;> (try simp only [Host.Outcome.next.injEq, reduceCtorEq] at h) <;> (try subst h) <;> (try simp)

@[simp] theorem State.railFailed_fuses (s : State) (r : Nat) : KeptFuses s (State.railFailed s r) := by
  simp [State.railFailed]

theorem execRailPeak_fuses (r : Fin 6) (mA : BitVec 16) (s : State) (t : State) (h : execRailPeak r mA s = .next t) : KeptFuses s t := by
  unfold execRailPeak at h
  split at h <;> (simp only [Host.Outcome.next.injEq] at h; subst h; simp)

@[simp] theorem State.clearPeaks_fuses (s : State) : KeptFuses s (State.clearPeaks s) := by
  simp [State.clearPeaks]

theorem execClearPeak_fuses (r : Req) (s : State) (t : State) (h : (execClearPeak r s) = .next t) : KeptFuses s t := by
  simp only [execClearPeak, Host.Outcome.next.injEq] at h; subst h; simp

@[simp] theorem State.copyEntry_fuses (s : State) (e : HistEntry) : KeptFuses s (State.copyEntry s e) := by
  simp [State.copyEntry]

@[simp] theorem State.ledgerCopy_fuses (s : State) (e : HistEntry) (bad : Option Nat) : KeptFuses s (State.ledgerCopy s e bad) := by
  unfold State.ledgerCopy; (try dsimp only); (repeat' split) <;> (try simp)

theorem execLedgerCopy_fuses (bad : Option (BitVec 32)) (s : State) (t : State) (h : (execLedgerCopy bad s) = .next t) : KeptFuses s t := by
  unfold execLedgerCopy at h; (try dsimp only at h); (repeat' split at h) <;> (try simp only [Host.Outcome.next.injEq, reduceCtorEq] at h) <;> (try subst h) <;> (try simp)

theorem execAckAlertn_fuses (r : Req) (s : State) (t : State) (h : (execAckAlertn r s) = .next t) : KeptFuses s t := by
  simp only [execAckAlertn, Host.Outcome.next.injEq] at h; subst h; simp

theorem execClearAll_fuses (r : Req) (s : State) (t : State) (h : (execClearAll r s) = .next t) : KeptFuses s t := by
  simp only [execClearAll, Host.Outcome.next.injEq] at h; subst h; simp

@[simp] theorem State.budget_fuses (s : State) : KeptFuses s (State.budget s) := by
  simp [State.budget]

@[simp] theorem State.trialTick_fuses (s : State) : KeptFuses s (State.trialTick s) := by
  simp [State.trialTick]

theorem execAvailMsTick_fuses (s0 : State) (t : State) (h : (execAvailMsTick s0) = .next t) : KeptFuses s0 t := by
  unfold execAvailMsTick at h; (try dsimp only at h); (repeat' split at h) <;> (try simp only [Host.Outcome.next.injEq, reduceCtorEq] at h) <;> (try subst h) <;> (try simp)

@[simp] theorem State.slotLost_fuses (s : State) (w : Nat) : KeptFuses s (State.slotLost s w) := by
  first
  | (simp [State.slotLost]; done)
  | (unfold State.slotLost; (try dsimp only); (repeat' split) <;> (try simp); done)
  | (unfold State.slotLost; (try dsimp only); (repeat' split) <;> (try simp [*]); done)

theorem execAvailSlotWrite_fuses (bad : Option (BitVec 32)) (s : State) (t : State) (h : execAvailSlotWrite bad s = .next t) : KeptFuses s t := by
  cases bad <;> (simp only [execAvailSlotWrite, Host.Outcome.next.injEq] at h; subst h; simp)

theorem execAvailBucketRoll_fuses (s : State) (t : State) (h : (execAvailBucketRoll s) = .next t) : KeptFuses s t := by
  unfold execAvailBucketRoll at h; (try dsimp only at h); (repeat' split at h) <;> (try simp only [Host.Outcome.next.injEq, reduceCtorEq] at h) <;> (try subst h) <;> (try simp)

@[simp] theorem State.pmcClear_fuses (s : State) (n : Nat) : KeptFuses s (State.pmcClear s n) := by
  simp [State.pmcClear]

@[simp] theorem State.pmcSelect_fuses (s : State) (n : Nat) (v : Word) : KeptFuses s (State.pmcSelect s n v) := by
  simp [State.pmcSelect]

theorem execPmcSelWrite_fuses (r : Req) (n : Fin 128) (v : Word) (s : State) (t : State) (h : (execPmcSelWrite r n v s) = .next t) : KeptFuses s t := by
  simp only [execPmcSelWrite, Host.Outcome.next.injEq] at h; subst h; simp

theorem execCounterWrap_fuses (n : Fin 128) (inc : BitVec 48) (s : State) (t : State) (h : (execCounterWrap n inc s) = .next t) : KeptFuses s t := by
  unfold execCounterWrap at h; (try dsimp only at h); (repeat' split at h) <;> (try simp only [Host.Outcome.next.injEq, reduceCtorEq] at h) <;> (try subst h) <;> (try simp)

@[simp] theorem State.sampleLost_fuses (s : State) : KeptFuses s (State.sampleLost s) := by
  simp [State.sampleLost]

@[simp] theorem State.takeSample_fuses (s : State) (n : Nat) (skid : Nat) (x : SampleCtx) : KeptFuses s (State.takeSample s n skid x) := by
  first
  | (simp [State.takeSample]; done)
  | (unfold State.takeSample; (try dsimp only); (repeat' split) <;> (try simp); done)
  | (unfold State.takeSample; (try dsimp only); (repeat' split) <;> (try simp [*]); done)

theorem execPmcSample_fuses (n : Fin 128) (skid : Option (Fin 16)) (s : State) (t : State) (h : (execPmcSample n skid s) = .next t) : KeptFuses s t := by
  unfold execPmcSample at h; (try dsimp only at h); (repeat' split at h) <;> (try simp only [Host.Outcome.next.injEq, reduceCtorEq] at h) <;> (try subst h) <;> (try simp)

@[simp] theorem State.putRecord_fuses (s : State) (pi : Nat) (p : Partition) (l : List Byte) : KeptFuses s (State.putRecord s pi p l) := by
  simp [State.putRecord]

@[simp] theorem State.putRecords_fuses (s : State) (pi : Nat) (p : Partition) (l : List (List Byte)) : KeptFuses s (State.putRecords s pi p l) := by
  unfold State.putRecords
  induction l generalizing s with
  | nil => simp
  | cons x r ih =>
    simp only [List.foldl_cons]
    exact KeptFuses_trans (State.putRecord_fuses s pi p x) (ih _)

@[simp] theorem State.dump_fuses (s : State) (pi : Nat) (p : Partition) : KeptFuses s (State.dump s pi p) := by
  simp [State.dump]

theorem execCounterDump_fuses (s : State) (t : State) (h : (execCounterDump s) = .next t) : KeptFuses s t := by
  unfold execCounterDump at h; (try dsimp only at h); (repeat' split at h) <;> (try simp only [Host.Outcome.next.injEq, reduceCtorEq] at h) <;> (try subst h) <;> (try simp)

@[simp] theorem State.vxuProgError_fuses (s : State) (u : Nat) (word : Nat) : KeptFuses s (State.vxuProgError s u word) := by
  simp [State.vxuProgError]

@[simp] theorem State.vxuIntegrity_fuses (s : State) (u : Nat) : KeptFuses s (State.vxuIntegrity s u) := by
  simp [State.vxuIntegrity]

@[simp] theorem State.vxuBadWord_fuses (s : State) (u : Nat) (w : WordAt) : KeptFuses s (State.vxuBadWord s u w) := by
  unfold State.vxuBadWord; (try dsimp only); (repeat' split) <;> (try simp)

@[simp] theorem State.composeRun_fuses (s : State) (u : Nat) (y2 : Nat) : KeptFuses s (State.composeRun s u y2) := by
  induction y2 generalizing s u <;> unfold State.composeRun <;> (try dsimp only) <;> (repeat' split) <;> (try simp [*])

@[simp] theorem State.sendVec_fuses (s : State) (k : Nat) (label : Nat) (l : List (List Byte)) : KeptFuses s (State.sendVec s k label l) := by
  first
  | (simp [State.sendVec]; done)
  | (unfold State.sendVec; (try dsimp only); (repeat' split) <;> (try simp); done)
  | (unfold State.sendVec; (try dsimp only); (repeat' split) <;> (try simp [*]); done)

@[simp] theorem State.closePacket_fuses (s : State) (u : Nat) : KeptFuses s (State.closePacket s u) := by
  simp [State.closePacket]

@[simp] theorem State.sendFrame_fuses (s : State) (u : Nat) (b : List Byte) : KeptFuses s (State.sendFrame s u b) := by
  simp [State.sendFrame]

@[simp] theorem State.stopStream_fuses (s : State) (u : Nat) (reason : Nat) (withEnd : Bool) : KeptFuses s (State.stopStream s u reason withEnd) := by
  simp [State.stopStream]

@[simp] theorem State.streamOver_fuses (s : State) (u : Nat) : KeptFuses s (State.streamOver s u) := by
  first
  | (simp [State.streamOver]; done)
  | (unfold State.streamOver; (try dsimp only); (repeat' split) <;> (try simp); done)
  | (unfold State.streamOver; (try dsimp only); (repeat' split) <;> (try simp [*]); done)

@[simp] theorem State.composeAll_fuses (s : State) (u : Nat) : KeptFuses s (State.composeAll s u) := by
  simp [State.composeAll]

@[simp] theorem State.streamLost_fuses (s : State) (u : Nat) (k : Nat) : KeptFuses s (State.streamLost s u k) := by
  simp [State.streamLost]

@[simp] theorem State.dropOwed_fuses (s : State) (k : Nat) : KeptFuses s (State.dropOwed s k) := by
  first
  | (simp [State.dropOwed]; done)
  | (unfold State.dropOwed; (try dsimp only); (repeat' split) <;> (try simp); done)
  | (unfold State.dropOwed; (try dsimp only); (repeat' split) <;> (try simp [*]); done)

@[simp] theorem State.endStreams_fuses (s : State) (reason : Nat) : KeptFuses s (State.endStreams s reason) := by
  simp [State.endStreams]

@[simp] theorem State.sendData_fuses (s : State) (u : Nat) (f : VecFrame) (rest : List VecFrame) : KeptFuses s (State.sendData s u f rest) := by
  simp [State.sendData]

@[simp] theorem State.sendStall_fuses (s : State) (u : Nat) (gap : Bool) : KeptFuses s (State.sendStall s u gap) := by
  simp [State.sendStall]

@[simp] theorem State.underrun_fuses (s : State) (u : Nat) : KeptFuses s (State.underrun s u) := by
  simp [State.underrun]

@[simp] theorem State.sendEnd_fuses (s : State) (u : Nat) (reason : Nat) : KeptFuses s (State.sendEnd s u reason) := by
  simp [State.sendEnd]

@[simp] theorem State.sendPause_fuses (s : State) (u : Nat) : KeptFuses s (State.sendPause s u) := by
  simp [State.sendPause]

@[simp] theorem State.sendOwed_fuses (s : State) (u : Nat) (o : OwedEnd) (rest : List OwedEnd) : KeptFuses s (State.sendOwed s u o rest) := by
  simp [State.sendOwed]

@[simp] theorem State.boundStop_fuses (s : State) (u : Nat) : KeptFuses s (State.boundStop s u) := by
  first
  | (simp [State.boundStop]; done)
  | (unfold State.boundStop; (try dsimp only); (repeat' split) <;> (try simp); done)
  | (unfold State.boundStop; (try dsimp only); (repeat' split) <;> (try simp [*]); done)

@[simp] theorem State.slotEmpty_fuses (s : State) (u : Nat) : KeptFuses s (State.slotEmpty s u) := by
  first
  | (simp [State.slotEmpty]; done)
  | (unfold State.slotEmpty; (try dsimp only); (repeat' split) <;> (try simp); done)
  | (unfold State.slotEmpty; (try dsimp only); (repeat' split) <;> (try simp [*]); done)

@[simp] theorem State.slotSend_fuses (s : State) (u : Nat) : KeptFuses s (State.slotSend s u) := by
  unfold State.slotSend; (try dsimp only); (repeat' split) <;> (try simp)

@[simp] theorem State.slotsSend_fuses (s : State) (u : Nat) (y2 : Nat) : KeptFuses s (State.slotsSend s u y2) := by
  induction y2 generalizing s u <;> unfold State.slotsSend <;> (try dsimp only) <;> (repeat' split) <;> (try simp [*])

@[simp] theorem State.pacerCycle_fuses (s : State) (u : Nat) : KeptFuses s (State.pacerCycle s u) := by
  unfold State.pacerCycle; (try dsimp only); (repeat' split) <;> (try simp)

@[simp] theorem State.pacerRun_fuses (s : State) (u : Nat) (y2 : Nat) : KeptFuses s (State.pacerRun s u y2) := by
  induction y2 generalizing s u <;> unfold State.pacerRun <;> (try dsimp only) <;> (repeat' split) <;> (try simp [*])

theorem execVxuFrameSlot_fuses (u : Fin 16) (cycles : Nat) (s : State) (t : State) (h : (execVxuFrameSlot u cycles s) = .next t) : KeptFuses s t := by
  simp only [execVxuFrameSlot, Host.Outcome.next.injEq] at h; subst h; simp

theorem execVecPacketClose_fuses (u : Fin 16) (s : State) (t : State) (h : execVecPacketClose u s = .next t) : KeptFuses s t := by
  unfold execVecPacketClose at h
  split at h <;> (simp only [Host.Outcome.next.injEq] at h; subst h; simp)

@[simp] theorem State.vxuStart_fuses (s : State) (u : Nat) : KeptFuses s (State.vxuStart s u) := by
  unfold State.vxuStart; (try dsimp only); (repeat' split) <;> (try simp)

@[simp] theorem State.vxuPause_fuses (s0 : State) (u : Nat) : KeptFuses s0 (State.vxuPause s0 u) := by
  simp [State.vxuPause]

@[simp] theorem State.vxuResume_fuses (s : State) (u : Nat) : KeptFuses s (State.vxuResume s u) := by
  simp [State.vxuResume]

@[simp] theorem State.vxuStop_fuses (s : State) (u : Nat) : KeptFuses s (State.vxuStop s u) := by
  simp [State.vxuStop]

@[simp] theorem State.vxuDo_fuses (s : State) (op : VxuOp) (u : Nat) : KeptFuses s (State.vxuDo s op u) := by
  unfold State.vxuDo; (try dsimp only); (repeat' split) <;> (try simp)

@[simp] theorem State.noteGcmd_fuses (s : State) (sel : VxuSel) (op : VxuOp) : KeptFuses s (State.noteGcmd s sel op) := by
  unfold State.noteGcmd; (try dsimp only); (repeat' split) <;> (try simp)

@[simp] theorem State.vxuCmd_fuses (s : State) (r : Req) (sel : VxuSel) (op : VxuOp) : KeptFuses s (State.vxuCmd s r sel op) := by
  simp [State.vxuCmd]

theorem execVxuStart_fuses (r : Req) (sel : VxuSel) (s : State) (t : State) (h : (execVxuStart r sel s) = .next t) : KeptFuses s t := by
  simp only [execVxuStart, Host.Outcome.next.injEq] at h; subst h; simp

theorem execVxuPause_fuses (r : Req) (sel : VxuSel) (s : State) (t : State) (h : (execVxuPause r sel s) = .next t) : KeptFuses s t := by
  simp only [execVxuPause, Host.Outcome.next.injEq] at h; subst h; simp

theorem execVxuResume_fuses (r : Req) (sel : VxuSel) (s : State) (t : State) (h : (execVxuResume r sel s) = .next t) : KeptFuses s t := by
  simp only [execVxuResume, Host.Outcome.next.injEq] at h; subst h; simp

theorem execVxuStop_fuses (r : Req) (sel : VxuSel) (s : State) (t : State) (h : (execVxuStop r sel s) = .next t) : KeptFuses s t := by
  simp only [execVxuStop, Host.Outcome.next.injEq] at h; subst h; simp

@[simp] theorem State.readWords_fuses (s : State) (rt : Bool) (pi : Nat) (p : Partition) (o : Nat) (n : Nat) (y6 : Nat) : KeptFuses s (State.readWords s rt pi p o n y6).1 := by
  induction y6 generalizing s rt pi p o n <;> unfold State.readWords <;> (try dsimp only) <;> (repeat' split) <;> (try simp [*])

@[simp] theorem State.vxuCharge_fuses (s : State) (u : Nat) (bytes : Nat) : KeptFuses s (State.vxuCharge s u bytes) := by
  simp [State.vxuCharge]

@[simp] theorem State.headerCheck_fuses (s : State) (u : Nat) (intact : Bool) : KeptFuses s (State.headerCheck s u intact) := by
  unfold State.headerCheck; (try dsimp only); (repeat' split) <;> (try simp)

theorem execVxuHeaderCheck_fuses (u : Fin 16) (intact : Bool) (s : State) (t : State) (h : (execVxuHeaderCheck u intact s) = .next t) : KeptFuses s t := by
  simp only [execVxuHeaderCheck, Host.Outcome.next.injEq] at h; subst h; simp

@[simp] theorem State.programFetch_fuses (s : State) (u : Nat) (intact : Bool) : KeptFuses s (State.programFetch s u intact) := by
  unfold State.programFetch; (try dsimp only); (repeat' split) <;> (try simp)

theorem execVxuProgramFetch_fuses (u : Fin 16) (intact : Bool) (s : State) (t : State) (h : (execVxuProgramFetch u intact s) = .next t) : KeptFuses s t := by
  simp only [execVxuProgramFetch, Host.Outcome.next.injEq] at h; subst h; simp

@[simp] theorem State.becomeReady_fuses (s : State) (u : Nat) : KeptFuses s (State.becomeReady s u) := by
  first
  | (simp [State.becomeReady]; done)
  | (unfold State.becomeReady; (try dsimp only); (repeat' split) <;> (try simp); done)
  | (unfold State.becomeReady; (try dsimp only); (repeat' split) <;> (try simp [*]); done)

theorem execVxuReady_fuses (u : Fin 16) (s : State) (t : State) (h : (execVxuReady u s) = .next t) : KeptFuses s t := by
  unfold execVxuReady at h; (try dsimp only at h); (repeat' split at h) <;> (try simp only [Host.Outcome.next.injEq, reduceCtorEq] at h) <;> (try subst h) <;> (try simp)

@[simp] theorem State.startMiss_fuses (s : State) (u : Nat) : KeptFuses s (State.startMiss s u) := by
  simp [State.startMiss]

theorem execStartDeadlineExpire_fuses (u : Fin 16) (s : State) (t : State) (h : (execStartDeadlineExpire u s) = .next t) : KeptFuses s t := by
  unfold execStartDeadlineExpire at h; (try dsimp only at h); (repeat' split at h) <;> (try simp only [Host.Outcome.next.injEq, reduceCtorEq] at h) <;> (try subst h) <;> (try simp)

theorem execStartMark_fuses (u : Fin 16) (s : State) (t : State) (h : (execStartMark u s) = .next t) : KeptFuses s t := by
  unfold execStartMark at h; (try dsimp only at h); (repeat' split at h) <;> (try simp only [Host.Outcome.next.injEq, reduceCtorEq] at h) <;> (try subst h) <;> (try simp)

theorem execVxuBoundStop_fuses (u : Fin 16) (s : State) (t : State) (h : (execVxuBoundStop u s) = .next t) : KeptFuses s t := by
  unfold execVxuBoundStop at h; (try dsimp only at h); (repeat' split at h) <;> (try simp only [Host.Outcome.next.injEq, reduceCtorEq] at h) <;> (try subst h) <;> (try simp)

@[simp] theorem State.vxuInstr_fuses (s : State) (u : Nat) (op : Nat) (effect : DWord → VxuUnit → VxuUnit) : KeptFuses s (State.vxuInstr s u op effect) := by
  unfold State.vxuInstr; (try dsimp only); (repeat' split) <;> (try simp)

theorem execNop_fuses (u : Fin 16) (s : State) (t : State) (h : (execNop u s) = .next t) : KeptFuses s t := by
  simp only [execNop, Host.Outcome.next.injEq] at h; subst h; simp

theorem execLit_fuses (u : Fin 16) (s : State) (t : State) (h : (execLit u s) = .next t) : KeptFuses s t := by
  simp only [execLit, Host.Outcome.next.injEq] at h; subst h; simp

theorem execRlit_fuses (u : Fin 16) (s : State) (t : State) (h : (execRlit u s) = .next t) : KeptFuses s t := by
  simp only [execRlit, Host.Outcome.next.injEq] at h; subst h; simp

theorem execTpl_fuses (u : Fin 16) (s : State) (t : State) (h : (execTpl u s) = .next t) : KeptFuses s t := by
  simp only [execTpl, Host.Outcome.next.injEq] at h; subst h; simp

theorem execEmit_fuses (u : Fin 16) (s : State) (t : State) (h : (execEmit u s) = .next t) : KeptFuses s t := by
  simp only [execEmit, Host.Outcome.next.injEq] at h; subst h; simp

theorem execEmits_fuses (u : Fin 16) (s : State) (t : State) (h : (execEmits u s) = .next t) : KeptFuses s t := by
  simp only [execEmits, Host.Outcome.next.injEq] at h; subst h; simp

theorem execSetx_fuses (u : Fin 16) (s : State) (t : State) (h : (execSetx u s) = .next t) : KeptFuses s t := by
  simp only [execSetx, Host.Outcome.next.injEq] at h; subst h; simp

theorem execAddx_fuses (u : Fin 16) (s : State) (t : State) (h : (execAddx u s) = .next t) : KeptFuses s t := by
  simp only [execAddx, Host.Outcome.next.injEq] at h; subst h; simp

theorem execAndx_fuses (u : Fin 16) (s : State) (t : State) (h : (execAndx u s) = .next t) : KeptFuses s t := by
  simp only [execAndx, Host.Outcome.next.injEq] at h; subst h; simp

theorem execOrx_fuses (u : Fin 16) (s : State) (t : State) (h : (execOrx u s) = .next t) : KeptFuses s t := by
  simp only [execOrx, Host.Outcome.next.injEq] at h; subst h; simp

theorem execXorx_fuses (u : Fin 16) (s : State) (t : State) (h : (execXorx u s) = .next t) : KeptFuses s t := by
  simp only [execXorx, Host.Outcome.next.injEq] at h; subst h; simp

theorem execCpyx_fuses (u : Fin 16) (s : State) (t : State) (h : (execCpyx u s) = .next t) : KeptFuses s t := by
  simp only [execCpyx, Host.Outcome.next.injEq] at h; subst h; simp

theorem execXadd_fuses (u : Fin 16) (s : State) (t : State) (h : (execXadd u s) = .next t) : KeptFuses s t := by
  simp only [execXadd, Host.Outcome.next.injEq] at h; subst h; simp

theorem execSetm_fuses (u : Fin 16) (s : State) (t : State) (h : (execSetm u s) = .next t) : KeptFuses s t := by
  simp only [execSetm, Host.Outcome.next.injEq] at h; subst h; simp

theorem execField_fuses (u : Fin 16) (s : State) (t : State) (h : (execField u s) = .next t) : KeptFuses s t := by
  simp only [execField, Host.Outcome.next.injEq] at h; subst h; simp

theorem execLoop_fuses (u : Fin 16) (s : State) (t : State) (h : (execLoop u s) = .next t) : KeptFuses s t := by
  simp only [execLoop, Host.Outcome.next.injEq] at h; subst h; simp

theorem execEndl_fuses (u : Fin 16) (s : State) (t : State) (h : (execEndl u s) = .next t) : KeptFuses s t := by
  simp only [execEndl, Host.Outcome.next.injEq] at h; subst h; simp

theorem execCall_fuses (u : Fin 16) (s : State) (t : State) (h : (execCall u s) = .next t) : KeptFuses s t := by
  simp only [execCall, Host.Outcome.next.injEq] at h; subst h; simp

theorem execRet_fuses (u : Fin 16) (s : State) (t : State) (h : (execRet u s) = .next t) : KeptFuses s t := by
  simp only [execRet, Host.Outcome.next.injEq] at h; subst h; simp

theorem execMark_fuses (u : Fin 16) (s : State) (t : State) (h : (execMark u s) = .next t) : KeptFuses s t := by
  simp only [execMark, Host.Outcome.next.injEq] at h; subst h; simp

theorem execPausept_fuses (u : Fin 16) (s : State) (t : State) (h : (execPausept u s) = .next t) : KeptFuses s t := by
  simp only [execPausept, Host.Outcome.next.injEq] at h; subst h; simp

theorem execEndProg_fuses (u : Fin 16) (s : State) (t : State) (h : (execEndProg u s) = .next t) : KeptFuses s t := by
  simp only [execEndProg, Host.Outcome.next.injEq] at h; subst h; simp

@[simp] theorem State.acceptRecord_fuses (s : State) (k : Nat) (l : List Byte) : KeptFuses s (State.acceptRecord s k l) := by
  simp [State.acceptRecord]

@[simp] theorem State.failPacket_fuses (s : State) (k : Nat) (payload : List Byte) : KeptFuses s (State.failPacket s k payload) := by
  simp [State.failPacket]

theorem execFailPacket_fuses (k : Fin 16) (payload : List Byte) (s : State) (t : State) (h : execFailPacket k payload s = .next t) : KeptFuses s t := by
  unfold execFailPacket at h
  split at h <;> (simp only [Host.Outcome.next.injEq] at h; subst h; simp)

@[simp] theorem State.orderRecord_fuses (s : State) (f : FailRec) : KeptFuses s (State.orderRecord s f) := by
  simp [State.orderRecord]

@[simp] theorem State.failRecord_fuses (s : State) (f : FailRec) : KeptFuses s (State.failRecord s f) := by
  unfold State.failRecord; (try dsimp only); (repeat' split) <;> (try simp)

theorem execFailRecord_fuses (s : State) (t : State) (h : (execFailRecord s) = .next t) : KeptFuses s t := by
  unfold execFailRecord at h; (try dsimp only at h); (repeat' split at h) <;> (try simp only [Host.Outcome.next.injEq, reduceCtorEq] at h) <;> (try subst h) <;> (try simp)

theorem execCapBlockTimeout_fuses (p : Fin 16) (s : State) (t : State) (h : (execCapBlockTimeout p s) = .next t) : KeptFuses s t := by
  unfold execCapBlockTimeout at h; (try dsimp only at h); (repeat' split at h) <;> (try simp only [Host.Outcome.next.injEq, reduceCtorEq] at h) <;> (try subst h) <;> (try simp)

@[simp] theorem State.gapExpire_fuses (s : State) (src : Nat) : KeptFuses s (State.gapExpire s src) := by
  unfold State.gapExpire; (try dsimp only); (repeat' split) <;> (try simp)

theorem execGapTimerExpire_fuses (src : Fin 256) (s : State) (t : State) (h : (execGapTimerExpire src s) = .next t) : KeptFuses s t := by
  unfold execGapTimerExpire at h; (try dsimp only at h); (repeat' split at h) <;> (try simp only [Host.Outcome.next.injEq, reduceCtorEq] at h) <;> (try subst h) <;> (try simp)

@[simp] theorem State.fold_fuses (s : State) (r : Released) : KeptFuses s (State.fold s r) := by
  unfold State.fold; (try dsimp only); (repeat' split) <;> (try simp)

theorem execFoldRecord_fuses (s : State) (t : State) (h : (execFoldRecord s) = .next t) : KeptFuses s t := by
  unfold execFoldRecord at h; (try dsimp only at h); (repeat' split at h) <;> (try simp only [Host.Outcome.next.injEq, reduceCtorEq] at h) <;> (try subst h) <;> (try simp)

theorem execResync_fuses (r : Req) (src : Fin 256) (s : State) (t : State) (h : (execResync r src s) = .next t) : KeptFuses s t := by
  simp only [execResync, Host.Outcome.next.injEq] at h; subst h; simp

@[simp] theorem State.openOne_fuses (s : State) (c : DomCmd) (i : Nat) : KeptFuses s (State.openOne s c i) := by
  simp [State.openOne]

@[simp] theorem State.closeOne_fuses (s : State) (q : QueuedClose) (i : Nat) : KeptFuses s (State.closeOne s q i) := by
  simp [State.closeOne]

@[simp] theorem State.runQueuedCloses_fuses (s : State) : KeptFuses s (State.runQueuedCloses s) := by
  simp [State.runQueuedCloses]

@[simp] theorem State.releaseOne_fuses (s : State) (d : Nat) : KeptFuses s (State.releaseOne s d) := by
  simp [State.releaseOne]

@[simp] theorem State.withPools_fuses (s : State) (t : Tab Pool) : KeptFuses s (State.withPools s t) := by
  first
  | (simp [State.withPools]; done)
  | (unfold State.withPools; (try dsimp only); (repeat' split) <;> (try simp); done)
  | (unfold State.withPools; (try dsimp only); (repeat' split) <;> (try simp [*]); done)

@[simp] theorem State.domOne_fuses (s : State) (c : DomCmd) (i : Nat) : KeptFuses s (State.domOne s c i) := by
  first
  | (simp [State.domOne]; done)
  | (unfold State.domOne; (try dsimp only); (repeat' split) <;> (try simp); done)
  | (unfold State.domOne; (try dsimp only); (repeat' split) <;> (try simp [*]); done)

@[simp] theorem State.domRun_fuses (s : State) (c : DomCmd) (n : Nat) : KeptFuses s (State.domRun s c n) := by
  first
  | (simp [State.domRun]; done)
  | (unfold State.domRun; (try dsimp only); (repeat' split) <;> (try simp); done)
  | (unfold State.domRun; (try dsimp only); (repeat' split) <;> (try simp [*]); done)

@[simp] theorem State.domStart_fuses (s : State) (c : DomCmd) (upto : Option (BitVec 25)) : KeptFuses s (State.domStart s c upto) := by
  first
  | (simp [State.domStart]; done)
  | (unfold State.domStart; (try dsimp only); (repeat' split) <;> (try simp); done)
  | (unfold State.domStart; (try dsimp only); (repeat' split) <;> (try simp [*]); done)

@[simp] theorem State.domStep_fuses (s : State) : KeptFuses s (State.domStep s) := by
  first
  | (simp [State.domStep]; done)
  | (unfold State.domStep; (try dsimp only); (repeat' split) <;> (try simp); done)
  | (unfold State.domStep; (try dsimp only); (repeat' split) <;> (try simp [*]); done)

@[simp] theorem State.stopDomCmd_fuses (s : State) : KeptFuses s (State.stopDomCmd s) := by
  first
  | (simp [State.stopDomCmd]; done)
  | (unfold State.stopDomCmd; (try dsimp only); (repeat' split) <;> (try simp); done)
  | (unfold State.stopDomCmd; (try dsimp only); (repeat' split) <;> (try simp [*]); done)

theorem execDomOpen_fuses (r : Req) (upto : Option (BitVec 25)) (s : State) (t : State) (h : (execDomOpen r upto s) = .next t) : KeptFuses s t := by
  simp only [execDomOpen, Host.Outcome.next.injEq] at h; subst h; simp

@[simp] theorem State.acceptClose_fuses (s : State) (fenced : Bool) (upto : Option (BitVec 25)) : KeptFuses s (State.acceptClose s fenced upto) := by
  simp [State.acceptClose]

theorem execDomClose_fuses (r : Req) (fenced : Bool) (upto : Option (BitVec 25)) (s : State) (t : State) (h : (execDomClose r fenced upto s) = .next t) : KeptFuses s t := by
  simp only [execDomClose, Host.Outcome.next.injEq] at h; subst h; simp

theorem execDomRelease_fuses (r : Req) (upto : Option (BitVec 25)) (s : State) (t : State) (h : (execDomRelease r upto s) = .next t) : KeptFuses s t := by
  simp only [execDomRelease, Host.Outcome.next.injEq] at h; subst h; simp

theorem execPoolDef_fuses (r : Req) (upto : Option (BitVec 25)) (s : State) (t : State) (h : (execPoolDef r upto s) = .next t) : KeptFuses s t := by
  simp only [execPoolDef, Host.Outcome.next.injEq] at h; subst h; simp

theorem execPoolDel_fuses (r : Req) (upto : Option (BitVec 25)) (s : State) (t : State) (h : (execPoolDel r upto s) = .next t) : KeptFuses s t := by
  simp only [execPoolDel, Host.Outcome.next.injEq] at h; subst h; simp

@[simp] theorem State.fenceExpire_fuses (s : State) (id : Nat) (srcs : List Nat) (first : Nat) : KeptFuses s (State.fenceExpire s id srcs first) := by
  simp [State.fenceExpire]

theorem execFenceTimerExpire_fuses (d : BitVec 24) (s : State) (t : State) (h : (execFenceTimerExpire d s) = .next t) : KeptFuses s t := by
  unfold execFenceTimerExpire at h; (try dsimp only at h); (repeat' split at h) <;> (try simp only [Host.Outcome.next.injEq, reduceCtorEq] at h) <;> (try subst h) <;> (try simp)

@[simp] theorem State.becomeClosed_fuses (s : State) (d : Nat) (c : CloseRec) : KeptFuses s (State.becomeClosed s d c) := by
  simp [State.becomeClosed]

theorem execCloseRecordBuild_fuses (d : BitVec 24) (s : State) (t : State) (h : execCloseRecordBuild d s = .next t) : KeptFuses s t := by
  unfold execCloseRecordBuild at h
  dsimp only at h
  split at h
  · split at h
    · simp only [Host.Outcome.next.injEq] at h; subst h; simp
    · rename_i hh
      have h1 := State.takeAll_fuses _ _ _ hh
      simp only [Host.Outcome.next.injEq] at h
      subst h
      simp_all
  · simp only [Host.Outcome.next.injEq] at h; subst h; simp

@[simp] theorem State.startReadout_fuses (s : State) (f : Form) : KeptFuses s (State.startReadout s f) := by
  unfold State.startReadout; (try dsimp only); (repeat' split) <;> (try simp)

@[simp] theorem State.readoutCmd_fuses (s : State) (r : Req) (f : Form) : KeptFuses s (State.readoutCmd s r f) := by
  simp [State.readoutCmd]

theorem execReadoutSummary_fuses (r : Req) (s : State) (t : State) (h : (execReadoutSummary r s) = .next t) : KeptFuses s t := by
  simp only [execReadoutSummary, Host.Outcome.next.injEq] at h; subst h; simp

theorem execReadoutPoints_fuses (r : Req) (s : State) (t : State) (h : (execReadoutPoints r s) = .next t) : KeptFuses s t := by
  simp only [execReadoutPoints, Host.Outcome.next.injEq] at h; subst h; simp

theorem execReadoutLines_fuses (r : Req) (s : State) (t : State) (h : (execReadoutLines r s) = .next t) : KeptFuses s t := by
  simp only [execReadoutLines, Host.Outcome.next.injEq] at h; subst h; simp

theorem execReadoutCloseRecord_fuses (r : Req) (s : State) (t : State) (h : (execReadoutCloseRecord r s) = .next t) : KeptFuses s t := by
  simp only [execReadoutCloseRecord, Host.Outcome.next.injEq] at h; subst h; simp

theorem execReadoutDone_fuses (s : State) (t : State) (h : (execReadoutDone s) = .next t) : KeptFuses s t := by
  unfold execReadoutDone at h; (try dsimp only at h); (repeat' split at h) <;> (try simp only [Host.Outcome.next.injEq, reduceCtorEq] at h) <;> (try subst h) <;> (try simp)

theorem execCadExcRptrWrite_fuses (r : Req) (v : Word) (s : State) (t : State) (h : (execCadExcRptrWrite r v s) = .next t) : KeptFuses s t := by
  simp only [execCadExcRptrWrite, Host.Outcome.next.injEq] at h; subst h; simp

@[simp] theorem State.closeRecordLost_fuses (s : State) (d : Nat) (e : Nat) : KeptFuses s (State.closeRecordLost s d e) := by
  unfold State.closeRecordLost; (try dsimp only); (repeat' split) <;> (try simp)

@[simp] theorem State.engineEnds_fuses (s : State) (e : Nat) (nodes : Nat) : KeptFuses s (State.engineEnds s e nodes) := by
  simp [State.engineEnds]

@[simp] theorem State.takeUp_fuses (s : State) (e : Nat) (d : Nat) (intact : Bool) : KeptFuses s (State.takeUp s e d intact) := by
  simp [State.takeUp]

@[simp] theorem State.handRounds_fuses (s : State) : KeptFuses s (State.handRounds s) := by
  unfold State.handRounds
  exact foldl_fuses _ _ _ (fun t p => by cases t.freeEngine <;> cases Tab.look t.cad.pools p <;> simp)

@[simp] theorem State.takeHead_fuses (s : State) (intact : Bool) : KeptFuses s (State.takeHead s intact) := by
  first
  | (simp [State.takeHead]; done)
  | (unfold State.takeHead; (try dsimp only); (repeat' split) <;> (try simp); done)
  | (unfold State.takeHead; (try dsimp only); (repeat' split) <;> (try simp [*]); done)

theorem execRaeTakeUp_fuses (intact : Bool) (s : State) (t : State) (h : (execRaeTakeUp intact s) = .next t) : KeptFuses s t := by
  unfold execRaeTakeUp at h; (try dsimp only at h); (repeat' split at h) <;> (try simp only [Host.Outcome.next.injEq, reduceCtorEq] at h) <;> (try subst h) <;> (try simp)

theorem execTimeBudgetExpire_fuses (e : Fin 64) (nodes : Nat) (s : State) (t : State) (h : (execTimeBudgetExpire e nodes s) = .next t) : KeptFuses s t := by
  unfold execTimeBudgetExpire at h; (try dsimp only at h); (repeat' split at h) <;> (try simp only [Host.Outcome.next.injEq, reduceCtorEq] at h) <;> (try subst h) <;> (try simp)

theorem execNodeBudgetSpent_fuses (e : Fin 64) (s : State) (t : State) (h : (execNodeBudgetSpent e s) = .next t) : KeptFuses s t := by
  unfold execNodeBudgetSpent at h; (try dsimp only at h); (repeat' split at h) <;> (try simp only [Host.Outcome.next.injEq, reduceCtorEq] at h) <;> (try subst h) <;> (try simp)

@[simp] theorem State.passEnds_fuses (s : State) (e : Nat) (d : Nat) (c : CloseRec) : KeptFuses s (State.passEnds s e d c) := by
  simp [State.passEnds]

theorem execFirstPassEnd_fuses (e : Fin 64) (s : State) (t : State) (h : (execFirstPassEnd e s) = .next t) : KeptFuses s t := by
  unfold execFirstPassEnd at h; (try dsimp only at h); (repeat' split at h) <;> (try simp only [Host.Outcome.next.injEq, reduceCtorEq] at h) <;> (try subst h) <;> (try simp)

theorem execPoolRound_fuses (pool : BitVec 16) (s : State) (t : State) (h : (execPoolRound pool s) = .next t) : KeptFuses s t := by
  unfold execPoolRound at h; (try dsimp only at h); (repeat' split at h) <;> (try simp only [Host.Outcome.next.injEq, reduceCtorEq] at h) <;> (try subst h) <;> (try simp)

@[simp] theorem State.engineError_fuses (s : State) (e : Nat) (d : Nat) : KeptFuses s (State.engineError s e d) := by
  simp [State.engineError]

theorem execRaeEngineError_fuses (e : Fin 64) (s : State) (t : State) (h : (execRaeEngineError e s) = .next t) : KeptFuses s t := by
  unfold execRaeEngineError at h; (try dsimp only at h); (repeat' split at h) <;> (try simp only [Host.Outcome.next.injEq, reduceCtorEq] at h) <;> (try subst h) <;> (try simp)

@[simp] theorem State.resultReady_fuses (s : State) : KeptFuses s (State.resultReady s) := by
  simp [State.resultReady]

@[simp] theorem State.ringCopy_fuses (s : State) (p : Partition) (pi : Nat) (r : ResultRec) (rest : List ResultRec) : KeptFuses s (State.ringCopy s p pi r rest) := by
  simp [State.ringCopy]

theorem execResultRingCopy_fuses (s : State) (t : State) (h : (execResultRingCopy s) = .next t) : KeptFuses s t := by
  unfold execResultRingCopy at h; (try dsimp only at h); (repeat' split at h) <;> (try simp only [Host.Outcome.next.injEq, reduceCtorEq] at h) <;> (try subst h) <;> (try simp)

theorem execHoldoffExpire_fuses (s : State) (t : State) (h : (execHoldoffExpire s) = .next t) : KeptFuses s t := by
  unfold execHoldoffExpire at h; (try dsimp only at h); (repeat' split at h) <;> (try simp only [Host.Outcome.next.injEq, reduceCtorEq] at h) <;> (try subst h) <;> (try simp)

@[simp] theorem State.ringCfg_fuses (s : State) (v : Word) : KeptFuses s (State.ringCfg s v) := by
  simp [State.ringCfg]

theorem execRaeRingCfgWrite_fuses (r : Req) (v : Word) (s : State) (t : State) (h : (execRaeRingCfgWrite r v s) = .next t) : KeptFuses s t := by
  simp only [execRaeRingCfgWrite, Host.Outcome.next.injEq] at h; subst h; simp

theorem execRaeRingRptrWrite_fuses (r : Req) (v : Word) (s : State) (t : State) (h : (execRaeRingRptrWrite r v s) = .next t) : KeptFuses s t := by
  simp only [execRaeRingRptrWrite, Host.Outcome.next.injEq] at h; subst h; simp

@[simp] theorem State.reanalyse_fuses (s : State) : KeptFuses s (State.reanalyse s) := by
  unfold State.reanalyse
  dsimp only
  simp [State.takeHeapD_fuses]

theorem execReanalyse_fuses (r : Req) (s : State) (t : State) (h : (execReanalyse r s) = .next t) : KeptFuses s t := by
  simp only [execReanalyse, Host.Outcome.next.injEq] at h; subst h; simp

theorem execClearLat_fuses (r : Req) (s : State) (t : State) (h : (execClearLat r s) = .next t) : KeptFuses s t := by
  simp only [execClearLat, Host.Outcome.next.injEq] at h; subst h; simp

@[simp] theorem State.abandonAnalyses_fuses (s : State) : KeptFuses s (State.abandonAnalyses s) := by
  simp [State.abandonAnalyses]

@[simp] theorem State.freshQueue_fuses (s : State) : KeptFuses s (State.freshQueue s) := by
  simp [State.freshQueue]

@[simp] theorem State.laneFails_fuses (s : State) (l : Nat) : KeptFuses s (State.laneFails s l) := by
  simp [State.laneFails]

@[simp] theorem State.sendEpoch_fuses (s : State) (k : Nat) (kind : Nat) (mask : Nat) (epoch : Nat) (stripe : Nat) : KeptFuses s (State.sendEpoch s k kind mask epoch stripe) := by
  simp [State.sendEpoch]

@[simp] theorem State.sendColumn_fuses (s : State) (k : Nat) (f : Nat → Nat × Nat) : KeptFuses s (State.sendColumn s k f) := by
  first
  | (simp [State.sendColumn]; done)
  | (unfold State.sendColumn; (try dsimp only); (repeat' split) <;> (try simp); done)
  | (unfold State.sendColumn; (try dsimp only); (repeat' split) <;> (try simp [*]); done)

@[simp] theorem State.skewCheck_fuses (s : State) (k : Nat) : KeptFuses s (State.skewCheck s k) := by
  first
  | (simp [State.skewCheck]; done)
  | (unfold State.skewCheck; (try dsimp only); (repeat' split) <;> (try simp); done)
  | (unfold State.skewCheck; (try dsimp only); (repeat' split) <;> (try simp [*]); done)

@[simp] theorem State.lapse_fuses (s : State) (k : Nat) : KeptFuses s (State.lapse s k) := by
  simp [State.lapse]

@[simp] theorem State.linkChanged_fuses (s : State) : KeptFuses s (State.linkChanged s) := by
  simp [State.linkChanged]

@[simp] theorem State.chainDown_fuses (s : State) (k : Nat) (reason : Nat) : KeptFuses s (State.chainDown s k reason) := by
  simp [State.chainDown]

@[simp] theorem State.lossEvent_fuses (s : State) (l : Nat) (cond : Nat) : KeptFuses s (State.lossEvent s l cond) := by
  unfold State.lossEvent; (try dsimp only); (repeat' split) <;> (try simp)

@[simp] theorem State.countDrops_fuses (s : State) (lanes : List (Nat × Nat)) : KeptFuses s (State.countDrops s lanes) := by
  simp [State.countDrops]

@[simp] theorem State.formFails_fuses (s : State) (k : Nat) : KeptFuses s (State.formFails s k) := by
  first
  | (simp [State.formFails]; done)
  | (unfold State.formFails; (try dsimp only); (repeat' split) <;> (try simp); done)
  | (unfold State.formFails; (try dsimp only); (repeat' split) <;> (try simp [*]); done)

@[simp] theorem State.lanesLeave_fuses (s : State) (k : Nat) (lanes : List (Nat × Nat)) : KeptFuses s (State.lanesLeave s k lanes) := by
  first
  | (simp [State.lanesLeave]; done)
  | (unfold State.lanesLeave; (try dsimp only); (repeat' split) <;> (try simp); done)
  | (unfold State.lanesLeave; (try dsimp only); (repeat' split) <;> (try simp [*]); done)

@[simp] theorem State.belowMinw_fuses (s : State) (k : Nat) : KeptFuses s (State.belowMinw s k) := by
  first
  | (simp [State.belowMinw]; done)
  | (unfold State.belowMinw; (try dsimp only); (repeat' split) <;> (try simp); done)
  | (unfold State.belowMinw; (try dsimp only); (repeat' split) <;> (try simp [*]); done)

@[simp] theorem State.giveWay_fuses (s : State) (k : Nat) (mask : Nat) : KeptFuses s (State.giveWay s k mask) := by
  first
  | (simp [State.giveWay]; done)
  | (unfold State.giveWay; (try dsimp only); (repeat' split) <;> (try simp); done)
  | (unfold State.giveWay; (try dsimp only); (repeat' split) <;> (try simp [*]); done)

@[simp] theorem State.dropTo_fuses (s : State) (k : Nat) (mask : Nat) (lanes : List (Nat × Nat)) : KeptFuses s (State.dropTo s k mask lanes) := by
  simp [State.dropTo]

@[simp] theorem State.loseLanes_fuses (s : State) (k : Nat) (lost : List Nat) (cond : Nat) : KeptFuses s (State.loseLanes s k lost cond) := by
  unfold State.loseLanes; (try dsimp only); (repeat' split) <;> (try simp)

theorem execLaneLoss_fuses (k : Fin 16) (lanes : BitVec 64) (cond : LossCond) (s : State) (t : State) (h : (execLaneLoss k lanes cond s) = .next t) : KeptFuses s t := by
  unfold execLaneLoss at h; (try dsimp only at h); (repeat' split at h) <;> (try simp only [Host.Outcome.next.injEq, reduceCtorEq] at h) <;> (try subst h) <;> (try simp)

@[simp] theorem State.dropReceived_fuses (s : State) (k : Nat) (mask : Nat) (epoch : Nat) (stripe : Nat) : KeptFuses s (State.dropReceived s k mask epoch stripe) := by
  unfold State.dropReceived; (try dsimp only); (repeat' split) <;> (try simp)

theorem execDropReceived_fuses (k : Fin 16) (body : BitVec 56) (s : State) (t : State) (h : (execDropReceived k body s) = .next t) : KeptFuses s t := by
  unfold execDropReceived at h; (try dsimp only at h); (repeat' split at h) <;> (try simp only [Host.Outcome.next.injEq, reduceCtorEq] at h) <;> (try subst h) <;> (try simp)

theorem execLaneSignalDetect_fuses (l : Fin 64) (s : State) (t : State) (h : (execLaneSignalDetect l s) = .next t) : KeptFuses s t := by
  unfold execLaneSignalDetect at h; (try dsimp only at h); (repeat' split at h) <;> (try simp only [Host.Outcome.next.injEq, reduceCtorEq] at h) <;> (try subst h) <;> (try simp)

theorem execNoSignal_fuses (l : Fin 64) (s : State) (t : State) (h : (execNoSignal l s) = .next t) : KeptFuses s t := by
  unfold execNoSignal at h; (try dsimp only at h); (repeat' split at h) <;> (try simp only [Host.Outcome.next.injEq, reduceCtorEq] at h) <;> (try subst h) <;> (try simp)

@[simp] theorem State.tapRequest_fuses (s : State) (l : Nat) (control : Nat) (limit : Nat) : KeptFuses s (State.tapRequest s l control limit).1 := by
  unfold State.tapRequest; (try dsimp only); (repeat' split) <;> (try simp)

@[simp] theorem State.sendFrameOn_fuses (s : State) (l : Nat) (control : Nat) (status : Nat) : KeptFuses s (State.sendFrameOn s l control status) := by
  first
  | (simp [State.sendFrameOn]; done)
  | (unfold State.sendFrameOn; (try dsimp only); (repeat' split) <;> (try simp); done)
  | (unfold State.sendFrameOn; (try dsimp only); (repeat' split) <;> (try simp [*]); done)

@[simp] theorem State.trainingFrame_fuses (s : State) (l : Nat) (control : Nat) (status : Nat) (limit : Nat) (own : Nat) : KeptFuses s (State.trainingFrame s l control status limit own) := by
  simp [State.trainingFrame]

theorem execTrainingFrame_fuses (l : Fin 64) (control : BitVec 16) (status : BitVec 16) (atLimit : BitVec 3) (own : BitVec 16) (s : State) (t : State) (h : (execTrainingFrame l control status atLimit own s) = .next t) : KeptFuses s t := by
  unfold execTrainingFrame at h; (try dsimp only at h); (repeat' split at h) <;> (try simp only [Host.Outcome.next.injEq, reduceCtorEq] at h) <;> (try subst h) <;> (try simp)

@[simp] theorem State.applyInjection_fuses (s : State) (l : Nat) : KeptFuses s (State.applyInjection s l) := by
  unfold State.applyInjection; (try dsimp only); (repeat' split) <;> (try simp)

theorem execTrainingEnd_fuses (l : Fin 64) (s : State) (t : State) (h : (execTrainingEnd l s) = .next t) : KeptFuses s t := by
  unfold execTrainingEnd at h; (try dsimp only at h); (repeat' split at h) <;> (try simp only [Host.Outcome.next.injEq, reduceCtorEq] at h) <;> (try subst h) <;> (try simp)

theorem execTrainTmo_fuses (l : Fin 64) (s : State) (t : State) (h : (execTrainTmo l s) = .next t) : KeptFuses s t := by
  unfold execTrainTmo at h; (try dsimp only at h); (repeat' split at h) <;> (try simp only [Host.Outcome.next.injEq, reduceCtorEq] at h) <;> (try subst h) <;> (try simp)

@[simp] theorem State.sendCapx_fuses (s : State) (k : Nat) (on : Nat → Bool) : KeptFuses s (State.sendCapx s k on) := by
  first
  | (simp [State.sendCapx]; done)
  | (unfold State.sendCapx; (try dsimp only); (repeat' split) <;> (try simp); done)
  | (unfold State.sendCapx; (try dsimp only); (repeat' split) <;> (try simp [*]); done)

theorem execLockAchieved_fuses (l : Fin 64) (s : State) (t : State) (h : (execLockAchieved l s) = .next t) : KeptFuses s t := by
  unfold execLockAchieved at h; (try dsimp only at h); (repeat' split at h) <;> (try simp only [Host.Outcome.next.injEq, reduceCtorEq] at h) <;> (try subst h) <;> (try simp)

theorem execLockTmo_fuses (l : Fin 64) (s : State) (t : State) (h : (execLockTmo l s) = .next t) : KeptFuses s t := by
  unfold execLockTmo at h; (try dsimp only at h); (repeat' split at h) <;> (try simp only [Host.Outcome.next.injEq, reduceCtorEq] at h) <;> (try subst h) <;> (try simp)

theorem execCapxMatch_fuses (l : Fin 64) (body : BitVec 56) (s : State) (t : State) (h : (execCapxMatch l body s) = .next t) : KeptFuses s t := by
  unfold execCapxMatch at h; (try dsimp only at h); (repeat' split at h) <;> (try simp only [Host.Outcome.next.injEq, reduceCtorEq] at h) <;> (try subst h) <;> (try simp)

@[simp] theorem State.capxMismatch_fuses (s : State) (k : Nat) (l : Nat) (got : Option Nat) : KeptFuses s (State.capxMismatch s k l got) := by
  simp [State.capxMismatch]

theorem execCapxMismatch_fuses (l : Fin 64) (body : Option (BitVec 56)) (s : State) (t : State) (h : (execCapxMismatch l body s) = .next t) : KeptFuses s t := by
  unfold execCapxMismatch at h; (try dsimp only at h); (repeat' split at h) <;> (try simp only [Host.Outcome.next.injEq, reduceCtorEq] at h) <;> (try subst h) <;> (try simp)

@[simp] theorem State.laneReady_fuses (s : State) (l : Nat) : KeptFuses s (State.laneReady s l) := by
  unfold State.laneReady; (try dsimp only); (repeat' split) <;> (try simp)

theorem execLaneReady_fuses (l : Fin 64) (s : State) (t : State) (h : (execLaneReady l s) = .next t) : KeptFuses s t := by
  unfold execLaneReady at h; (try dsimp only at h); (repeat' split at h) <;> (try simp only [Host.Outcome.next.injEq, reduceCtorEq] at h) <;> (try subst h) <;> (try simp)

theorem execBackoffExpire_fuses (l : Fin 64) (s : State) (t : State) (h : (execBackoffExpire l s) = .next t) : KeptFuses s t := by
  unfold execBackoffExpire at h; (try dsimp only at h); (repeat' split at h) <;> (try simp only [Host.Outcome.next.injEq, reduceCtorEq] at h) <;> (try subst h) <;> (try simp)

@[simp] theorem State.announce_fuses (s : State) (k : Nat) (mask : Nat) (form : Bool) : KeptFuses s (State.announce s k mask form) := by
  simp [State.announce]

theorem execChainFormation_fuses (k : Fin 16) (windowEnd : Bool) (s : State) (t : State) (h : (execChainFormation k windowEnd s) = .next t) : KeptFuses s t := by
  unfold execChainFormation at h; (try dsimp only at h); (repeat' split at h) <;> (try simp only [Host.Outcome.next.injEq, reduceCtorEq] at h) <;> (try subst h) <;> (try simp)

theorem execRejoinAnnounce_fuses (k : Fin 16) (s : State) (t : State) (h : (execRejoinAnnounce k s) = .next t) : KeptFuses s t := by
  unfold execRejoinAnnounce at h; (try dsimp only at h); (repeat' split at h) <;> (try simp only [Host.Outcome.next.injEq, reduceCtorEq] at h) <;> (try subst h) <;> (try simp)

@[simp] theorem State.commit_fuses (s : State) (k : Nat) (mask : Nat) (form : Bool) : KeptFuses s (State.commit s k mask form) := by
  simp [State.commit]

theorem execRejoinAckReceived_fuses (k : Fin 16) (body : BitVec 56) (s : State) (t : State) (h : (execRejoinAckReceived k body s) = .next t) : KeptFuses s t := by
  unfold execRejoinAckReceived at h; (try dsimp only at h); (repeat' split at h) <;> (try simp only [Host.Outcome.next.injEq, reduceCtorEq] at h) <;> (try subst h) <;> (try simp)

theorem execRejoinLapsed_fuses (k : Fin 16) (s : State) (t : State) (h : (execRejoinLapsed k s) = .next t) : KeptFuses s t := by
  unfold execRejoinLapsed at h; (try dsimp only at h); (repeat' split at h) <;> (try simp only [Host.Outcome.next.injEq, reduceCtorEq] at h) <;> (try subst h) <;> (try simp)

theorem execPartnerCommitReceived_fuses (k : Fin 16) (body : BitVec 56) (s : State) (t : State) (h : (execPartnerCommitReceived k body s) = .next t) : KeptFuses s t := by
  unfold execPartnerCommitReceived at h; (try dsimp only at h); (repeat' split at h) <;> (try simp only [Host.Outcome.next.injEq, reduceCtorEq] at h) <;> (try subst h) <;> (try simp)

@[simp] theorem State.commitTimeout_fuses (s : State) (k : Nat) (old : Nat) (form : Bool) : KeptFuses s (State.commitTimeout s k old form) := by
  simp [State.commitTimeout]

theorem execPartnerCommitTimeout_fuses (k : Fin 16) (s : State) (t : State) (h : (execPartnerCommitTimeout k s) = .next t) : KeptFuses s t := by
  unfold execPartnerCommitTimeout at h; (try dsimp only at h); (repeat' split at h) <;> (try simp only [Host.Outcome.next.injEq, reduceCtorEq] at h) <;> (try subst h) <;> (try simp)

@[simp] theorem State.chainFormed_fuses (s : State) (k : Nat) : KeptFuses s (State.chainFormed s k) := by
  simp [State.chainFormed]

@[simp] theorem State.exchangeDone_fuses (s : State) (k : Nat) : KeptFuses s (State.exchangeDone s k) := by
  unfold State.exchangeDone; (try dsimp only); (repeat' split) <;> (try simp)

@[simp] theorem State.switchTx_fuses (s : State) (k : Nat) (w : Switch) : KeptFuses s (State.switchTx s k w) := by
  simp [State.switchTx]

@[simp] theorem State.switchRx_fuses (s : State) (k : Nat) (w : Switch) : KeptFuses s (State.switchRx s k w) := by
  simp [State.switchRx]

theorem execEpochSwitch_fuses (k : Fin 16) (transmit : Bool) (s : State) (t : State) (h : (execEpochSwitch k transmit s) = .next t) : KeptFuses s t := by
  unfold execEpochSwitch at h; (try dsimp only at h); (repeat' split at h) <;> (try simp only [Host.Outcome.next.injEq, reduceCtorEq] at h) <;> (try subst h) <;> (try simp)

theorem execLaneMarkerSend_fuses (l : Fin 64) (s : State) (t : State) (h : (execLaneMarkerSend l s) = .next t) : KeptFuses s t := by
  unfold execLaneMarkerSend at h; (try dsimp only at h); (repeat' split at h) <;> (try simp only [Host.Outcome.next.injEq, reduceCtorEq] at h) <;> (try subst h) <;> (try simp)

theorem execWaddingInsert_fuses (k : Fin 16) (s : State) (t : State) (h : (execWaddingInsert k s) = .next t) : KeptFuses s t := by
  unfold execWaddingInsert at h; (try dsimp only at h); (repeat' split at h) <;> (try simp only [Host.Outcome.next.injEq, reduceCtorEq] at h) <;> (try subst h) <;> (try simp)

@[simp] theorem State.codeword_fuses (s : State) (k : Nat) (l : Nat) (scr : Nat) (corrected : Option Nat) (blocks : List RxBlock) (offs : Nat) : KeptFuses s (State.codeword s k l scr corrected blocks offs) := by
  unfold State.codeword; (try dsimp only); (repeat' split) <;> (try simp)

theorem execReceiveEmptySlot_fuses (l : Fin 64) (s : State) (t : State) (h : (execReceiveEmptySlot l s) = .next t) : KeptFuses s t := by
  unfold execReceiveEmptySlot at h; (try dsimp only at h); (repeat' split at h) <;> (try simp only [Host.Outcome.next.injEq, reduceCtorEq] at h) <;> (try subst h) <;> (try simp)

@[simp] theorem State.retrain_fuses (s : State) (l : Nat) : KeptFuses s (State.retrain s l) := by
  unfold State.retrain; (try dsimp only); (repeat' split) <;> (try simp)

theorem execRetrain_fuses (r : Req) (l : Fin 64) (s : State) (t : State) (h : (execRetrain r l s) = .next t) : KeptFuses s t := by
  simp only [execRetrain, Host.Outcome.next.injEq] at h; subst h; simp

@[simp] theorem State.prbsGenerate_fuses (s : State) (l : Nat) : KeptFuses s (State.prbsGenerate s l) := by
  first
  | (simp [State.prbsGenerate]; done)
  | (unfold State.prbsGenerate; (try dsimp only); (repeat' split) <;> (try simp); done)
  | (unfold State.prbsGenerate; (try dsimp only); (repeat' split) <;> (try simp [*]); done)

@[simp] theorem State.prbsCheck_fuses (s : State) (l : Nat) : KeptFuses s (State.prbsCheck s l) := by
  first
  | (simp [State.prbsCheck]; done)
  | (unfold State.prbsCheck; (try dsimp only); (repeat' split) <;> (try simp); done)
  | (unfold State.prbsCheck; (try dsimp only); (repeat' split) <;> (try simp [*]); done)

@[simp] theorem State.prbsConfig_fuses (s : State) (l : Nat) (v : Word) : KeptFuses s (State.prbsConfig s l v) := by
  simp [State.prbsConfig]

theorem execPrbsCfgWrite_fuses (r : Req) (l : Fin 64) (v : Word) (s : State) (t : State) (h : (execPrbsCfgWrite r l v s) = .next t) : KeptFuses s t := by
  simp only [execPrbsCfgWrite, Host.Outcome.next.injEq] at h; subst h; simp

@[simp] theorem State.inject_fuses (s : State) (l : Nat) (kind : Nat) (n : Nat) : KeptFuses s (State.inject s l kind n) := by
  simp [State.inject]

theorem execInjectBit_fuses (r : Req) (l : Fin 64) (count : BitVec 8) (s : State) (t : State) (h : (execInjectBit r l count s) = .next t) : KeptFuses s t := by
  simp only [execInjectBit, Host.Outcome.next.injEq] at h; subst h; simp

theorem execInjectSymbol_fuses (r : Req) (l : Fin 64) (count : BitVec 8) (s : State) (t : State) (h : (execInjectSymbol r l count s) = .next t) : KeptFuses s t := by
  simp only [execInjectSymbol, Host.Outcome.next.injEq] at h; subst h; simp

theorem execInjectSync_fuses (r : Req) (l : Fin 64) (s : State) (t : State) (h : (execInjectSync r l s) = .next t) : KeptFuses s t := by
  simp only [execInjectSync, Host.Outcome.next.injEq] at h; subst h; simp

theorem execInjectLol_fuses (r : Req) (l : Fin 64) (s : State) (t : State) (h : (execInjectLol r l s) = .next t) : KeptFuses s t := by
  simp only [execInjectLol, Host.Outcome.next.injEq] at h
  subst h
  refine State.hostWrite_fuses s r _ _ _ (fun u => ?_)
  split <;> simp

@[simp] theorem State.laneTick_fuses (s : State) (l : Nat) : KeptFuses s (State.laneTick s l) := by
  first
  | (simp [State.laneTick]; done)
  | (unfold State.laneTick; (try dsimp only); (repeat' split) <;> (try simp); done)
  | (unfold State.laneTick; (try dsimp only); (repeat' split) <;> (try simp [*]); done)

@[simp] theorem State.lanesTick_fuses (s : State) : KeptFuses s (State.lanesTick s) := by
  first
  | (simp [State.lanesTick]; done)
  | (unfold State.lanesTick; (try dsimp only); (repeat' split) <;> (try simp); done)
  | (unfold State.lanesTick; (try dsimp only); (repeat' split) <;> (try simp [*]); done)

@[simp] theorem State.quadPower_fuses (s : State) : KeptFuses s (State.quadPower s) := by
  simp [State.quadPower]

@[simp] theorem State.linksStart_fuses (s : State) : KeptFuses s (State.linksStart s) := by
  simp [State.linksStart]

@[simp] theorem State.linksOff_fuses (s : State) : KeptFuses s (State.linksOff s) := by
  simp [State.linksOff]

@[simp] theorem State.bareSettings_fuses (s : State) : KeptFuses s (State.bareSettings s) := by
  simp [State.bareSettings]

@[simp] theorem State.loadWords_fuses (s : State) (a : Nat) (v : List Byte) (off : Nat) (n : Nat) : KeptFuses s (State.loadWords s a v off n) := by
  simp [State.loadWords]

@[simp] theorem State.applyEntry_fuses (s : State) (e : Entry) : KeptFuses s (State.applyEntry s e) := by
  unfold State.applyEntry; (try dsimp only); (repeat' split) <;> (try simp)

@[simp] theorem State.withEntries_fuses (s : State) (es : List Entry) (gen : Nat) : KeptFuses s (State.withEntries s es gen) := by
  simp [State.withEntries]

theorem State.judgeEntries_fuses (s : State) (warm : Bool) (img : List Byte) (es : List Entry) (t : State)
    (h : (s.judgeEntries warm img es).next = some t) : KeptFuses s t := by
  unfold State.judgeEntries at h
  dsimp only at h
  repeat' split at h
  all_goals simp only [reduceCtorEq, Option.some.injEq] at h
  subst h
  simp

theorem State.judgeImage_fuses (s : State) (warm : Bool) (slot : List Byte) (t : State)
    (h : (s.judgeImage warm slot).next = some t) : KeptFuses s t := by
  unfold State.judgeImage at h
  dsimp only at h
  repeat' split at h
  all_goals first
    | (simp only [reduceCtorEq] at h; done)
    | exact State.judgeEntries_fuses _ _ _ _ _ h

@[simp] theorem State.mapSlices_fuses (t : State) (s : State) (warm : Bool) : KeptFuses t (State.mapSlices t s warm) := by
  simp [State.mapSlices]

@[simp] theorem State.withShadows_fuses (s : State) (mask : Nat) : KeptFuses s (State.withShadows s mask) := by
  simp [State.withShadows]

@[simp] theorem State.commitStat_fuses (s : State) (r : Req) (v : Word) (st : Status) : KeptFuses s (State.commitStat s r v st) := by
  simp [State.commitStat]

@[simp] theorem State.commitRejected_fuses (s : State) (r : Req) (v : Word) (st : Status) (adm : Option (Status × Nat × Nat)) : KeptFuses s (State.commitRejected s r v st adm) := by
  unfold State.commitRejected; (try dsimp only); (repeat' split) <;> (try simp)

@[simp] theorem State.commitEffects_fuses (s : State) (t : State) : KeptFuses t (State.commitEffects s t) := by
  unfold State.commitEffects
  dsimp only
  repeat' split
  all_goals simp

@[simp] theorem State.commitPassed_fuses (s t : State) (r : Req) (v : Word) (a : Option (Status × Nat × Nat)) :
    KeptFuses t (State.commitPassed s t r v a) := by
  cases a <;> simp [State.commitPassed]

@[simp] theorem State.commitWrite_fuses (s : State) (r : Req) (v : Word) : KeptFuses s (State.commitWrite s r v) := by
  unfold State.commitWrite; (try dsimp only); (repeat' split) <;> (try simp)

@[simp] theorem State.discardWrite_fuses (s : State) (r : Req) (v : Word) : KeptFuses s (State.discardWrite s r v) := by
  unfold State.discardWrite; (try dsimp only); (repeat' split) <;> (try simp)

theorem execCommit_fuses (r : Req) (mask : BitVec 16) (s : State) (t : State) (h : (execCommit r mask s) = .next t) : KeptFuses s t := by
  simp only [execCommit, Host.Outcome.next.injEq] at h; subst h; simp

theorem execDiscard_fuses (r : Req) (mask : BitVec 16) (s : State) (t : State) (h : (execDiscard r mask s) = .next t) : KeptFuses s t := by
  simp only [execDiscard, Host.Outcome.next.injEq] at h; subst h; simp

@[simp] theorem State.setPage_fuses (s : State) (p : Nat) (l : List Byte) : KeptFuses s (State.setPage s p l) := by
  simp [State.setPage]

@[simp] theorem State.erase_fuses (s : State) (p : Nat) (n : Nat) : KeptFuses s (State.erase s p n) := by
  simp [State.erase]

@[simp] theorem State.program_fuses (s : State) (p : Nat) (l : List Byte) : KeptFuses s (State.program s p l) := by
  first
  | (simp [State.program]; done)
  | (unfold State.program; (try dsimp only); (repeat' split) <;> (try simp); done)
  | (unfold State.program; (try dsimp only); (repeat' split) <;> (try simp [*]); done)

@[simp] theorem State.writeSpw_fuses (s : State) (act : Nat) (conf : Nat) (trial : Bool) (rbk : Bool) (tboots : Nat) : KeptFuses s (State.writeSpw s act conf trial rbk tboots) := by
  unfold State.writeSpw
  rfl

@[simp] theorem State.saveSettings_fuses (s : State) (ok : Bool) : KeptFuses s (State.saveSettings s ok) := by
  simp [State.saveSettings]

@[simp] theorem State.setTraverse_fuses (s : State) (body : List Byte) : KeptFuses s (State.setTraverse s body) := by
  simp [State.setTraverse]

@[simp] theorem State.resetSettings_fuses (s : State) (format : Nat) : KeptFuses s (State.resetSettings s format) := by
  simp [State.resetSettings]

@[simp] theorem State.loadSettings_fuses (s : State) : KeptFuses s (State.loadSettings s) := by
  unfold State.loadSettings; (try dsimp only); (repeat' split) <;> (try simp)

@[simp] theorem State.dropSettings_fuses (s : State) (kept : Nat) : KeptFuses s (State.dropSettings s kept) := by
  first
  | (simp [State.dropSettings]; done)
  | (unfold State.dropSettings; (try dsimp only); (repeat' split) <;> (try simp); done)
  | (unfold State.dropSettings; (try dsimp only); (repeat' split) <;> (try simp [*]); done)

theorem execSettingsSave_fuses (ok : Bool) (s : State) (t : State) (h : (execSettingsSave ok s) = .next t) : KeptFuses s t := by
  unfold execSettingsSave at h; (try dsimp only at h); (repeat' split at h) <;> (try simp only [Host.Outcome.next.injEq, reduceCtorEq] at h) <;> (try subst h) <;> (try simp)

@[simp] theorem State.updDone_fuses (s : State) (st : Status) : KeptFuses s (State.updDone s st) := by
  simp [State.updDone]

@[simp] theorem State.stageNew_fuses (s : State) (w : List Byte) : KeptFuses s (State.stageNew s w) := by
  simp [State.stageNew]

theorem execUpdBegin_fuses (r : Req) (flashOk : Bool) (s : State) (t : State) (h : (execUpdBegin r flashOk s) = .next t) : KeptFuses s t := by
  simp only [execUpdBegin, Host.Outcome.next.injEq] at h; subst h; simp

@[simp] theorem State.storeChunk_fuses (s : State) : KeptFuses s (State.storeChunk s) := by
  simp [State.storeChunk]

theorem execUpdChunk_fuses (r : Req) (flashOk : Bool) (s : State) (t : State) (h : (execUpdChunk r flashOk s) = .next t) : KeptFuses s t := by
  simp only [execUpdChunk, Host.Outcome.next.injEq] at h; subst h; simp

theorem execUpdVerify_fuses (r : Req) (s : State) (t : State) (h : (execUpdVerify r s) = .next t) : KeptFuses s t := by
  simp only [execUpdVerify, Host.Outcome.next.injEq] at h; subst h; simp

@[simp] theorem State.writeImage_fuses (s : State) (slot : Nat) (l : List Byte) : KeptFuses s (State.writeImage s slot l) := by
  simp [State.writeImage]

@[simp] theorem State.verifyFirmware_fuses (s : State) : KeptFuses s (State.verifyFirmware s).1 := by
  unfold State.verifyFirmware; (try dsimp only); (repeat' split) <;> (try simp)

@[simp] theorem State.voidSlot_fuses (s : State) (i : Nat) : KeptFuses s (State.voidSlot s i) := by
  unfold State.voidSlot
  exact State.setPage_fuses _ _ _

@[simp] theorem State.verify_fuses (s : State) : KeptFuses s (State.verify s).1 := by
  unfold State.verify; (try dsimp only); (repeat' split) <;> (try simp)

theorem execVerifyDone_fuses (flashOk : Bool) (s : State) (t : State) (h : (execVerifyDone flashOk s) = .next t) : KeptFuses s t := by
  unfold execVerifyDone at h; (try dsimp only at h); (repeat' split at h) <;> (try simp only [Host.Outcome.next.injEq, reduceCtorEq] at h) <;> (try subst h) <;> (try simp)

@[simp] theorem State.beginWarm_fuses (s : State) : KeptFuses s (State.beginWarm s) := by
  simp [State.beginWarm]

@[simp] theorem State.raiseFloors_fuses (s : State) : KeptFuses s (State.raiseFloors s) := by
  simp [State.raiseFloors]

@[simp] theorem State.unstage_fuses (s : State) : KeptFuses s (State.unstage s) := by
  simp [State.unstage]

@[simp] theorem State.rollBack_fuses (s : State) (cause : Nat) : KeptFuses s (State.rollBack s cause) := by
  simp [State.rollBack]

@[simp] theorem State.rollWarm_fuses (s : State) (cause : Nat) : KeptFuses s (State.rollWarm s cause) := by
  simp [State.rollWarm]

theorem execRollback_fuses (r : Req) (s : State) (t : State) (h : (execRollback r s) = .next t) : KeptFuses s t := by
  simp only [execRollback, Host.Outcome.next.injEq] at h; subst h; simp

theorem execUpdAbort_fuses (r : Req) (s : State) (t : State) (h : (execUpdAbort r s) = .next t) : KeptFuses s t := by
  simp only [execUpdAbort, Host.Outcome.next.injEq] at h; subst h; simp

theorem execTrialExpire_fuses (s : State) (t : State) (h : (execTrialExpire s) = .next t) : KeptFuses s t := by
  unfold execTrialExpire at h; (try dsimp only at h); (repeat' split at h) <;> (try simp only [Host.Outcome.next.injEq, reduceCtorEq] at h) <;> (try subst h) <;> (try simp)

@[simp] theorem State.foundBad_fuses (s : State) (w : LedgerWord) : KeptFuses s (State.foundBad s w) := by
  first
  | (simp [State.foundBad]; done)
  | (unfold State.foundBad; (try dsimp only); (repeat' split) <;> (try simp); done)
  | (unfold State.foundBad; (try dsimp only); (repeat' split) <;> (try simp [*]); done)

@[simp] theorem State.coldStart_fuses (s : State) : KeptFuses s (State.coldStart s) := by
  simp [State.coldStart]

theorem execResetNRelease_fuses (s : State) (t : State) (h : (execResetNRelease s) = .next t) : KeptFuses s t := by
  simp only [execResetNRelease, Host.Outcome.next.injEq] at h; subst h; simp

theorem execPwrgoodRise_fuses (s : State) (t : State) (h : (execPwrgoodRise s) = .next t) : KeptFuses s t := by
  simp only [execPwrgoodRise, Host.Outcome.next.injEq] at h; subst h; simp

theorem execRootPllLock_fuses (s : State) (t : State) (h : (execRootPllLock s) = .next t) : KeptFuses s t := by
  unfold execRootPllLock at h; (try dsimp only at h); (repeat' split at h) <;> (try simp only [Host.Outcome.next.injEq, reduceCtorEq] at h) <;> (try subst h) <;> (try simp)

theorem execShutdownRearm_fuses (s : State) (t : State) (h : (execShutdownRearm s) = .next t) : KeptFuses s t := by
  unfold execShutdownRearm at h; (try dsimp only at h); (repeat' split at h) <;> (try simp only [Host.Outcome.next.injEq, reduceCtorEq] at h) <;> (try subst h) <;> (try simp)

@[simp] theorem State.setDomains_fuses (s : State) (l : List (Nat × PwrState)) : KeptFuses s (State.setDomains s l) := by
  simp [State.setDomains]

@[simp] theorem State.domainsOn_fuses (s : State) : KeptFuses s (State.domainsOn s) := by
  simp [State.domainsOn]

@[simp] theorem State.domainsHold_fuses (s : State) : KeptFuses s (State.domainsHold s) := by
  simp [State.domainsHold]

@[simp] theorem State.announceRecords_fuses (s : State) : KeptFuses s (State.announceRecords s) := by
  unfold State.announceRecords
  dsimp only
  have h : ∀ l : List ShutRec, KeptFuses s (l.foldl (fun (t : State) r =>
    (t.event Reg.THM_EVENTS Fld.THM_EVENTS_SHUT_RECORD).alert 0x56 0xFF (leAt r.bytes (4 * 0) 4) (leAt r.bytes (4 * 1) 4)
      (leAt r.bytes (4 * 2) 4) (leAt r.bytes (4 * 3) 4)) s) := by
    intro l
    apply foldl_fuses
    intro t x
    simp only [KeptFuses, State.event_fuses, State.alert_fuses, and_self]
  exact h _

@[simp] theorem State.enterService_fuses (s : State) : KeptFuses s (State.enterService s) := by
  simp [State.enterService]

@[simp] theorem State.leaveHold_fuses (s : State) (cal : CalResult) : KeptFuses s (State.leaveHold s cal) := by
  simp [State.leaveHold]

theorem execModeReqService_fuses (r : Req) (cal : CalResult) (s : State) (t : State) (h : (execModeReqService r cal s) = .next t) : KeptFuses s t := by
  simp only [execModeReqService, Host.Outcome.next.injEq] at h; subst h; simp

@[simp] theorem State.askHold_fuses (s : State) : KeptFuses s (State.askHold s) := by
  simp [State.askHold]

theorem execModeReqHold_fuses (r : Req) (s : State) (t : State) (h : (execModeReqHold r s) = .next t) : KeptFuses s t := by
  simp only [execModeReqHold, Host.Outcome.next.injEq] at h; subst h; simp

@[simp] theorem State.enterHold_fuses (s : State) : KeptFuses s (State.enterHold s) := by
  simp [State.enterHold]

theorem execHoldEntryComplete_fuses (s : State) (t : State) (h : (execHoldEntryComplete s) = .next t) : KeptFuses s t := by
  unfold execHoldEntryComplete at h; (try dsimp only at h); (repeat' split at h) <;> (try simp only [Host.Outcome.next.injEq, reduceCtorEq] at h) <;> (try subst h) <;> (try simp)

@[simp] theorem State.runSet_fuses (s : State) (img : List Byte) : KeptFuses s (State.runSet s img) := by
  simp [State.runSet]

@[simp] theorem State.setUpdBoot_fuses (s : State) (source : Nat) (refusal : Nat × Status) : KeptFuses s (State.setUpdBoot s source refusal) := by
  simp [State.setUpdBoot]

@[simp] theorem State.runRecovery_fuses (s : State) : KeptFuses s (State.runRecovery s) := by
  simp [State.runRecovery]

@[simp] theorem State.bootAct_fuses (s : State) : KeptFuses s (State.bootAct s) := by
  simp [State.bootAct]

@[simp] theorem State.chooseSet_fuses (s : State) : KeptFuses s (State.chooseSet s) := by
  simp [State.chooseSet]

@[simp] theorem State.emptyConfig_fuses (s : State) : KeptFuses s (State.emptyConfig s) := by
  simp [State.emptyConfig]

@[simp] theorem State.setCfgLog_fuses (s : State) (seen : List (Nat × Verdict)) : KeptFuses s (State.setCfgLog s seen) := by
  simp [State.setCfgLog]

@[simp] theorem State.configRefused_fuses (s : State) (v : Nat × Verdict) : KeptFuses s (State.configRefused s v) := by
  unfold State.configRefused
  cases v.2.adm <;> simp

theorem State.takeConfig_fuses (s : State) (i : Nat) (v : Verdict) (h : ∀ t, v.next = some t → KeptFuses s t) : KeptFuses s (State.takeConfig s i v) := by
  unfold State.takeConfig
  cases hn : v.next with
  | none => cases v.adm <;> simp
  | some t =>
    have h1 := h t hn
    cases v.adm <;> simp_all

/-- The image of a slot taken into use (R42). -/
@[simp] theorem State.takeJudged_fuses (s : State) (i : Nat) (w : Bool) (b : List Byte) :
    KeptFuses s (s.takeConfig i (s.judgeImage w b)) :=
  State.takeConfig_fuses _ _ _ (fun _ h => State.judgeImage_fuses _ _ _ _ h)

@[simp] theorem State.chooseConfig_fuses (s : State) : KeptFuses s (State.chooseConfig s) := by
  unfold State.chooseConfig
  dsimp only
  repeat' split
  all_goals simp

@[simp] theorem State.restoreAvail_fuses (s : State) : KeptFuses s (State.restoreAvail s) := by
  unfold State.restoreAvail; (try dsimp only); (repeat' split) <;> (try simp)

@[simp] theorem State.coldEntries_fuses (s : State) : KeptFuses s (State.coldEntries s) := by
  simp [State.coldEntries]

@[simp] theorem State.readFuses_fuses (s : State) : KeptFuses s (State.readFuses s) := by
  simp [State.readFuses]

@[simp] theorem State.applyRepair_fuses (s : State) (e : Nat) : KeptFuses s (State.applyRepair s e) := by
  simp [State.applyRepair]

@[simp] theorem State.bringUp_fuses (s : State) : KeptFuses s (State.bringUp s) := by
  simp [State.bringUp]

@[simp] theorem State.foundPages_fuses (s : State) (l : List (Fin 2112 × List Byte)) : KeptFuses s (State.foundPages s l) := by
  simp [State.foundPages]

@[simp] theorem State.takeSpw_fuses (s : State) : KeptFuses s (State.takeSpw s) := by
  simp [State.takeSpw]

@[simp] theorem State.eccFailed_fuses (s : State) (c : Nat) (incomplete : Bool) : KeptFuses s (State.eccFailed s c incomplete) := by
  simp [State.eccFailed]

@[simp] theorem State.startFail_fuses (s : State) (b : Nat) : KeptFuses s (State.startFail s b) := by
  simp [State.startFail]

@[simp] theorem State.startCount_fuses (s : State) (fails : List Nat) : KeptFuses s (State.startCount s fails) := by
  first
  | (simp [State.startCount]; done)
  | (unfold State.startCount; (try dsimp only); (repeat' split) <;> (try simp); done)
  | (unfold State.startCount; (try dsimp only); (repeat' split) <;> (try simp [*]); done)

@[simp] theorem State.assignReserve_fuses (s : State) : KeptFuses s (State.assignReserve s) := by
  simp [State.assignReserve]

@[simp] theorem State.eccMaps_fuses (s : State) (l : List (Nat × StVerdict)) : KeptFuses s (State.eccMaps s l) := by
  simp [State.eccMaps]

@[simp] theorem State.startTests_fuses (s : State) (r : StartTests) : KeptFuses s (State.startTests s r) := by
  simp [State.startTests]

@[simp] theorem State.drainChannel_fuses (s : State) (c : Nat) : KeptFuses s (State.drainChannel s c) := by
  simp [State.drainChannel]

@[simp] theorem State.warmStops_fuses (s : State) : KeptFuses s (State.warmStops s) := by
  simp [State.warmStops]

@[simp] theorem State.warmSet_fuses (s : State) : KeptFuses s (State.warmSet s).1 := by
  unfold State.warmSet; (try dsimp only); (repeat' split) <;> (try simp)

@[simp] theorem State.chainsChanged_fuses (t : State) (s : State) : KeptFuses t (State.chainsChanged t s) := by
  simp [State.chainsChanged]

@[simp] theorem State.freshFrames_fuses (t0 : State) (s : State) : KeptFuses t0 (State.freshFrames t0 s) := by
  simp [State.freshFrames]

@[simp] theorem State.warmMap_fuses (t : State) (s : State) : KeptFuses t (State.warmMap t s) := by
  simp [State.warmMap]

@[simp] theorem State.platsLost_fuses (s : State) : KeptFuses s (State.platsLost s) := by
  first
  | (simp [State.platsLost]; done)
  | (unfold State.platsLost; (try dsimp only); (repeat' split) <;> (try simp); done)
  | (unfold State.platsLost; (try dsimp only); (repeat' split) <;> (try simp [*]); done)

@[simp] theorem State.warmConfig_fuses (s : State) : KeptFuses s (State.warmConfig s).1 := by
  unfold State.warmConfig; (try dsimp only); (repeat' split) <;> (try simp)

@[simp] theorem State.activationEnds_fuses (s : State) (fw : Status) (cfg : Status) : KeptFuses s (State.activationEnds s fw cfg) := by
  simp [State.activationEnds]

@[simp] theorem State.putNak_fuses (s : State) (k : Nat) : KeptFuses s (State.putNak s k) := by
  first
  | (simp [State.putNak]; done)
  | (unfold State.putNak; (try dsimp only); (repeat' split) <;> (try simp); done)
  | (unfold State.putNak; (try dsimp only); (repeat' split) <;> (try simp [*]); done)

@[simp] theorem State.sendNak_fuses (s : State) (k : Nat) : KeptFuses s (State.sendNak s k) := by
  simp [State.sendNak]

@[simp] theorem State.putAck_fuses (s : State) (k : Nat) : KeptFuses s (State.putAck s k) := by
  first
  | (simp [State.putAck]; done)
  | (unfold State.putAck; (try dsimp only); (repeat' split) <;> (try simp); done)
  | (unfold State.putAck; (try dsimp only); (repeat' split) <;> (try simp [*]); done)

@[simp] theorem State.sendAck_fuses (s : State) (k : Nat) : KeptFuses s (State.sendAck s k) := by
  simp [State.sendAck]

@[simp] theorem State.flushAck_fuses (s : State) (k : Nat) : KeptFuses s (State.flushAck s k) := by
  first
  | (simp [State.flushAck]; done)
  | (unfold State.flushAck; (try dsimp only); (repeat' split) <;> (try simp); done)
  | (unfold State.flushAck; (try dsimp only); (repeat' split) <;> (try simp [*]); done)

@[simp] theorem State.flushAcks_fuses (s : State) : KeptFuses s (State.flushAcks s) := by
  first
  | (simp [State.flushAcks]; done)
  | (unfold State.flushAcks; (try dsimp only); (repeat' split) <;> (try simp); done)
  | (unfold State.flushAcks; (try dsimp only); (repeat' split) <;> (try simp [*]); done)

@[simp] theorem State.linkError_fuses (s : State) (k : Nat) : KeptFuses s (State.linkError s k) := by
  simp [State.linkError]

@[simp] theorem State.overrun_fuses (s : State) (k : Nat) : KeptFuses s (State.overrun s k) := by
  simp [State.overrun]

@[simp] theorem State.acceptPacket_fuses (s : State) (k : Nat) (p : Packet) : KeptFuses s (State.acceptPacket s k p) := by
  simp [State.acceptPacket]

@[simp] theorem State.contentError_fuses (s : State) (k : Nat) (p : Packet) : KeptFuses s (State.contentError s k p) := by
  simp [State.contentError]

@[simp] theorem State.takeGrants_fuses (s : State) (k : Nat) (payload : List Byte) : KeptFuses s (State.takeGrants s k payload) := by
  simp [State.takeGrants]

@[simp] theorem State.releasePackets_fuses (s : State) (k : Nat) (n : Nat) : KeptFuses s (State.releasePackets s k n) := by
  simp [State.releasePackets]

@[simp] theorem State.replay_fuses (s : State) (k : Nat) : KeptFuses s (State.replay s k) := by
  unfold State.replay; (try dsimp only); (repeat' split) <;> (try simp)

@[simp] theorem State.ackInvalid_fuses (s : State) (k : Nat) : KeptFuses s (State.ackInvalid s k) := by
  simp [State.ackInvalid]

@[simp] theorem State.ackTaken_fuses (s : State) (k : Nat) (x : Nat) : KeptFuses s (State.ackTaken s k x) := by
  first
  | (simp [State.ackTaken]; done)
  | (unfold State.ackTaken; (try dsimp only); (repeat' split) <;> (try simp); done)
  | (unfold State.ackTaken; (try dsimp only); (repeat' split) <;> (try simp [*]); done)

@[simp] theorem State.nakTaken_fuses (s : State) (k : Nat) (x : Nat) : KeptFuses s (State.nakTaken s k x) := by
  first
  | (simp [State.nakTaken]; done)
  | (unfold State.nakTaken; (try dsimp only); (repeat' split) <;> (try simp); done)
  | (unfold State.nakTaken; (try dsimp only); (repeat' split) <;> (try simp [*]); done)

theorem execAckReceived_fuses (k : Fin 16) (body : BitVec 56) (s : State) (t : State) (h : (execAckReceived k body s) = .next t) : KeptFuses s t := by
  unfold execAckReceived at h; (try dsimp only at h); (repeat' split at h) <;> (try simp only [Host.Outcome.next.injEq, reduceCtorEq] at h) <;> (try subst h) <;> (try simp)

theorem execNakReceived_fuses (k : Fin 16) (body : BitVec 56) (s : State) (t : State) (h : (execNakReceived k body s) = .next t) : KeptFuses s t := by
  unfold execNakReceived at h; (try dsimp only at h); (repeat' split at h) <;> (try simp only [Host.Outcome.next.injEq, reduceCtorEq] at h) <;> (try subst h) <;> (try simp)

theorem execReplayTimeout_fuses (k : Fin 16) (s : State) (t : State) (h : (execReplayTimeout k s) = .next t) : KeptFuses s t := by
  unfold execReplayTimeout at h; (try dsimp only at h); (repeat' split at h) <;> (try simp only [Host.Outcome.next.injEq, reduceCtorEq] at h) <;> (try subst h) <;> (try simp)

@[simp] theorem State.grantPool_fuses (s : State) (k : Nat) (n : Nat) (more : Nat) : KeptFuses s (State.grantPool s k n more) := by
  simp [State.grantPool]

@[simp] theorem State.grantPools_fuses (s : State) (k : Nat) : KeptFuses s (State.grantPools s k) := by
  simp [State.grantPools]

@[simp] theorem State.markMoved_fuses (s : State) (k : Nat) : KeptFuses s (State.markMoved s k) := by
  first
  | (simp [State.markMoved]; done)
  | (unfold State.markMoved; (try dsimp only); (repeat' split) <;> (try simp); done)
  | (unfold State.markMoved; (try dsimp only); (repeat' split) <;> (try simp [*]); done)

@[simp] theorem State.markAllMoved_fuses (s : State) : KeptFuses s (State.markAllMoved s) := by
  first
  | (simp [State.markAllMoved]; done)
  | (unfold State.markAllMoved; (try dsimp only); (repeat' split) <;> (try simp); done)
  | (unfold State.markAllMoved; (try dsimp only); (repeat' split) <;> (try simp [*]); done)

@[simp] theorem State.sendGrants_fuses (s : State) (k : Nat) : KeptFuses s (State.sendGrants s k) := by
  simp [State.sendGrants]

theorem execCreditGrantSend_fuses (k : Fin 16) (s : State) (t : State) (h : (execCreditGrantSend k s) = .next t) : KeptFuses s t := by
  unfold execCreditGrantSend at h; (try dsimp only at h); (repeat' split at h) <;> (try simp only [Host.Outcome.next.injEq, reduceCtorEq] at h) <;> (try subst h) <;> (try simp)

theorem execAlertSend_fuses (k : Fin 16) (s : State) (t : State) (h : (execAlertSend k s) = .next t) : KeptFuses s t := by
  unfold execAlertSend at h; (try dsimp only at h); (repeat' split at h) <;> (try simp only [Host.Outcome.next.injEq, reduceCtorEq] at h) <;> (try subst h) <;> (try simp)

@[simp] theorem State.latch_fuses (s : State) (r : Req) (e : Nat) (v : Nat) : KeptFuses s (State.latch s r e v) := by
  unfold State.latch; (try dsimp only); (repeat' split) <;> (try simp)

@[simp] theorem State.busRead_fuses (s : State) (r : Req) (a : Nat) : KeptFuses s (State.busRead s r a).1 := by
  unfold State.busRead; (try dsimp only); (repeat' split) <;> (try simp)

@[simp] theorem State.readOne_fuses (s : State) (r : Req) (a : Nat) (size : Nat) (late : Bool) : KeptFuses s (State.readOne s r a size late).1 := by
  first
  | (simp [State.readOne]; done)
  | (unfold State.readOne; (try dsimp only); (repeat' split) <;> (try simp); done)
  | (unfold State.readOne; (try dsimp only); (repeat' split) <;> (try simp [*]); done)

@[simp] theorem State.regRead_fuses (s : State) (r : Req) (a : Nat) (size : Nat) (late : Bool) : KeptFuses s (State.regRead s r a size late).1 := by
  unfold State.regRead; (try dsimp only); (repeat' split) <;> (try simp)

@[simp] theorem State.storeWord_fuses (s : State) (row : RegRow) (a : Nat) (v : Word) : KeptFuses s (State.storeWord s row a v) := by
  simp [State.storeWord]

@[simp] theorem State.storeShadow_fuses (s : State) (row : RegRow) (a : Nat) (v : Word) : KeptFuses s (State.storeShadow s row a v) := by
  simp [State.storeShadow]

@[simp] theorem State.writePlain_fuses (s : State) (r : Req) (row : RegRow) (a : Nat) (size : Nat) (v : Nat) : KeptFuses s (State.writePlain s r row a size v) := by
  simp [State.writePlain]

@[simp] theorem State.unlisted_fuses (s : State) (r : Req) (a : Nat) (before : List (Bool × Status)) : KeptFuses s (State.unlisted s r a before) := by
  simp [State.unlisted]

@[simp] theorem State.writeVxu_fuses (s : State) (r : Req) (sel : VxuSel) (code : Nat) : KeptFuses s (State.writeVxu s r sel code) := by
  unfold State.writeVxu; (try dsimp only); (repeat' split) <;> (try simp)

@[simp] theorem State.requestCheck_fuses (s : State) (k : Nat) (p : Packet) : KeptFuses s (State.requestCheck s k p).1 := by
  unfold State.requestCheck; (try dsimp only); (repeat' split) <;> (try simp)

@[simp] theorem State.chainTraffic_fuses (s : State) (k cls label : Nat) (p : Partition) (o n : Nat) :
    KeptFuses s (State.chainTraffic s k cls label p o n).1 := by
  unfold State.chainTraffic
  dsimp only
  by_cases h : cls = 0 ∨ bitOf (s.classChains cls) k = true <;> simp [h]

@[simp] theorem State.serveRead_fuses (s : State) (k : Nat) (p : Packet) (sess : Option (Nat × Session)) (pi : Nat) (part : Partition) : KeptFuses s (State.serveRead s k p sess pi part) := by
  simp [State.serveRead]

@[simp] theorem State.serveBrd_fuses (s : State) (k : Fin 16) (p : Packet) : KeptFuses s (State.serveBrd s k p) := by
  unfold State.serveBrd; (try dsimp only); (repeat' split) <;> (try simp)

@[simp] theorem State.brdRequest_fuses (s : State) (k : Fin 16) (p : Packet) : KeptFuses s (State.brdRequest s k p) := by
  simp [State.brdRequest]

@[simp] theorem State.serveWrite_fuses (s : State) (k : Nat) (p : Packet) (pi : Nat) (part : Partition) : KeptFuses s (State.serveWrite s k p pi part).1 := by
  unfold State.serveWrite; (try dsimp only); (repeat' split) <;> (try simp)

@[simp] theorem State.serveBwr_fuses (s : State) (k : Fin 16) (p : Packet) : KeptFuses s (State.serveBwr s k p) := by
  unfold State.serveBwr; (try dsimp only); (repeat' split) <;> (try simp)

@[simp] theorem State.bwrRequest_fuses (s : State) (k : Fin 16) (p : Packet) : KeptFuses s (State.bwrRequest s k p) := by
  simp [State.bwrRequest]

@[simp] theorem State.queueCodeword_fuses (s : State) (k : Nat) (l : Nat) (slots : List (Option RxBlock)) : KeptFuses s (State.queueCodeword s k l slots) := by
  first
  | (simp [State.queueCodeword]; done)
  | (unfold State.queueCodeword; (try dsimp only); (repeat' split) <;> (try simp); done)
  | (unfold State.queueCodeword; (try dsimp only); (repeat' split) <;> (try simp [*]); done)

@[simp] theorem State.popCodewords_fuses (s : State) (ls : List Nat) : KeptFuses s (State.popCodewords s ls) := by
  first
  | (simp [State.popCodewords]; done)
  | (unfold State.popCodewords; (try dsimp only); (repeat' split) <;> (try simp); done)
  | (unfold State.popCodewords; (try dsimp only); (repeat' split) <;> (try simp [*]); done)

@[simp] theorem State.i3cReturn_fuses (s : State) (l : List Byte) : KeptFuses s (State.i3cReturn s l) := by
  simp [State.i3cReturn]

@[simp] theorem State.i3cNack_fuses (s : State) : KeptFuses s (State.i3cNack s) := by
  simp [State.i3cNack]

@[simp] theorem State.i3cArrive_fuses (s : State) : KeptFuses s (State.i3cArrive s) := by
  simp [State.i3cArrive]

@[simp] theorem State.badFrame_fuses (s : State) : KeptFuses s (State.badFrame s) := by
  simp [State.badFrame]

@[simp] theorem State.i3cAnswer_fuses (s : State) (l : List Byte) (sid : optParam Nat 0) : KeptFuses s (State.i3cAnswer s l sid) := by
  simp [State.i3cAnswer]

@[simp] theorem State.i3cRead_fuses (s : State) (l : List Byte) (late : Bool) : KeptFuses s (State.i3cRead s l late) := by
  simp [State.i3cRead]

@[simp] theorem State.i3cRespond_fuses (s : State) (sess : Option (Nat × Session)) (l : List Byte) : KeptFuses s (State.i3cRespond s sess l) := by
  first
  | (simp [State.i3cRespond]; done)
  | (unfold State.i3cRespond; (try dsimp only); (repeat' split) <;> (try simp); done)
  | (unfold State.i3cRespond; (try dsimp only); (repeat' split) <;> (try simp [*]); done)

theorem execI3cPrivateRead_fuses (s : State) (t : State) (h : (execI3cPrivateRead s) = .next t) : KeptFuses s t := by
  unfold execI3cPrivateRead at h; (try dsimp only at h); (repeat' split at h) <;> (try simp only [Host.Outcome.next.injEq, reduceCtorEq] at h) <;> (try subst h) <;> (try simp)

@[simp] theorem State.takeAddress_fuses (s : State) (a : Nat) : KeptFuses s (State.takeAddress s a) := by
  simp [State.takeAddress]

theorem execEntdaa_fuses (addr : BitVec 7) (s : State) (t : State) (h : (execEntdaa addr s) = .next t) : KeptFuses s t := by
  unfold execEntdaa at h; (try dsimp only at h); (repeat' split at h) <;> (try simp only [Host.Outcome.next.injEq, reduceCtorEq] at h) <;> (try subst h) <;> (try simp)

theorem execSetdasa_fuses (static : BitVec 7) (addr : BitVec 7) (s : State) (t : State) (h : (execSetdasa static addr s) = .next t) : KeptFuses s t := by
  unfold execSetdasa at h; (try dsimp only at h); (repeat' split at h) <;> (try simp only [Host.Outcome.next.injEq, reduceCtorEq] at h) <;> (try subst h) <;> (try simp)

theorem execSetnewda_fuses (addr : BitVec 7) (s : State) (t : State) (h : (execSetnewda addr s) = .next t) : KeptFuses s t := by
  unfold execSetnewda at h; (try dsimp only at h); (repeat' split at h) <;> (try simp only [Host.Outcome.next.injEq, reduceCtorEq] at h) <;> (try subst h) <;> (try simp)

theorem execRstdaa_fuses (s : State) (t : State) (h : (execRstdaa s) = .next t) : KeptFuses s t := by
  simp only [execRstdaa, Host.Outcome.next.injEq] at h; subst h; simp

theorem execEnec_fuses (s : State) (t : State) (h : (execEnec s) = .next t) : KeptFuses s t := by
  simp only [execEnec, Host.Outcome.next.injEq] at h; subst h; simp

theorem execDisec_fuses (s : State) (t : State) (h : (execDisec s) = .next t) : KeptFuses s t := by
  simp only [execDisec, Host.Outcome.next.injEq] at h; subst h; simp

@[simp] theorem State.i3cGet_fuses (s : State) (l : List Byte) : KeptFuses s (State.i3cGet s l) := by
  simp [State.i3cGet]

theorem execGetpid_fuses (s : State) (t : State) (h : (execGetpid s) = .next t) : KeptFuses s t := by
  simp only [execGetpid, Host.Outcome.next.injEq] at h; subst h; simp

theorem execGetbcr_fuses (s : State) (t : State) (h : (execGetbcr s) = .next t) : KeptFuses s t := by
  simp only [execGetbcr, Host.Outcome.next.injEq] at h; subst h; simp

theorem execGetdcr_fuses (s : State) (t : State) (h : (execGetdcr s) = .next t) : KeptFuses s t := by
  simp only [execGetdcr, Host.Outcome.next.injEq] at h; subst h; simp

theorem execGetstatus_fuses (s : State) (t : State) (h : (execGetstatus s) = .next t) : KeptFuses s t := by
  simp only [execGetstatus, Host.Outcome.next.injEq] at h; subst h; simp

theorem execGetmwl_fuses (s : State) (t : State) (h : (execGetmwl s) = .next t) : KeptFuses s t := by
  simp only [execGetmwl, Host.Outcome.next.injEq] at h; subst h; simp

theorem execGetmrl_fuses (s : State) (t : State) (h : (execGetmrl s) = .next t) : KeptFuses s t := by
  simp only [execGetmrl, Host.Outcome.next.injEq] at h; subst h; simp

theorem execI3cUnsupportedCcc_fuses (reply : Bool) (s : State) (t : State) (h : (execI3cUnsupportedCcc reply s) = .next t) : KeptFuses s t := by
  unfold execI3cUnsupportedCcc at h; (try dsimp only at h); (repeat' split at h) <;> (try simp only [Host.Outcome.next.injEq, reduceCtorEq] at h) <;> (try subst h) <;> (try simp)

@[simp] theorem State.enrolAnswer_fuses (s : State) (j : EnrolJob) (st : Status) : KeptFuses s (State.enrolAnswer s j st) := by
  first
  | (simp [State.enrolAnswer]; done)
  | (unfold State.enrolAnswer; (try dsimp only); (repeat' split) <;> (try simp); done)
  | (unfold State.enrolAnswer; (try dsimp only); (repeat' split) <;> (try simp [*]); done)

@[simp] theorem State.enrolOver_fuses (s : State) (j : EnrolJob) (st : Status) : KeptFuses s (State.enrolOver s j st) := by
  first
  | (simp [State.enrolOver]; done)
  | (unfold State.enrolOver; (try dsimp only); (repeat' split) <;> (try simp); done)
  | (unfold State.enrolOver; (try dsimp only); (repeat' split) <;> (try simp [*]); done)

@[simp] theorem State.fuseDone_fuses (s : State) (k : FuseKind) (st : Status) : KeptFuses s (State.fuseDone s k st) := by
  first
  | (simp [State.fuseDone]; done)
  | (unfold State.fuseDone; (try dsimp only); (repeat' split) <;> (try simp); done)
  | (unfold State.fuseDone; (try dsimp only); (repeat' split) <;> (try simp [*]); done)

@[simp] theorem State.tapReset_fuses (s : State) : KeptFuses s (State.tapReset s) := by
  simp [State.tapReset]

@[simp] theorem State.setShift_fuses (s : State) (l : List Bool) : KeptFuses s (State.setShift s l) := by
  simp [State.setShift]

@[simp] theorem State.tapShift_fuses (s : State) (tdi : Bool) : KeptFuses s (State.tapShift s tdi) := by
  unfold State.tapShift; (try dsimp only); (repeat' split) <;> (try simp)

@[simp] theorem State.tapAct_fuses (s : State) (tdi : Bool) : KeptFuses s (State.tapAct s tdi) := by
  unfold State.tapAct; (try dsimp only); (repeat' split) <;> (try simp)

@[simp] theorem State.tapEnter_fuses (s : State) (t : TapState) : KeptFuses s (State.tapEnter s t) := by
  unfold State.tapEnter; (try dsimp only); (repeat' split) <;> (try simp)

@[simp] theorem State.tapStep_fuses (s : State) (e : Bool × Bool) : KeptFuses s (State.tapStep s e) := by
  simp [State.tapStep]

theorem execTestAccessPortOperation_fuses (trstN : Bool) (steps : List (Bool × Bool)) (s : State) (t : State) (h : (execTestAccessPortOperation trstN steps s) = .next t) : KeptFuses s t := by
  unfold execTestAccessPortOperation at h; (try dsimp only at h); (repeat' split at h) <;> (try simp only [Host.Outcome.next.injEq, reduceCtorEq] at h) <;> (try subst h) <;> (try simp)

@[simp] theorem State.tickCounters_fuses (s : State) : KeptFuses s (State.tickCounters s) := by
  simp [State.tickCounters]

@[simp] theorem State.tickWork_fuses (s : State) : KeptFuses s (State.tickWork s) := by
  first
  | (simp [State.tickWork]; done)
  | (unfold State.tickWork; (try dsimp only); (repeat' split) <;> (try simp); done)
  | (unfold State.tickWork; (try dsimp only); (repeat' split) <;> (try simp [*]); done)

@[simp] theorem State.tick_fuses (s : State) : KeptFuses s (State.tick s) := by
  simp [State.tick]

@[simp] theorem State.withFetchWord_fuses (s : State) (nbits : Nat) (w : Nat) : KeptFuses s (State.withFetchWord s nbits w) := by
  unfold State.withFetchWord; (try dsimp only); (repeat' split) <;> (try simp)

end Sys2Proof.Machine
end

