-- ==== Sys2Proof/Laws/KeptMemory.lean ====
section
/-! SUPPORT. Sys2Proof/Laws/KeptMemory.lean: the operations that keep the stack memory and its stored errors. -/
namespace Sys2Proof.Machine

@[simp] theorem foldl_mem {α : Type} (f : State → α → State) (l : List α) (s : State) (h : ∀ t x, (f t x).mem = t.mem) :
    (l.foldl f s).mem = s.mem := by
  induction l generalizing s with
  | nil => rfl
  | cons x r ih => simp [List.foldl, ih, h]

@[simp] theorem ite_mem (p : Prop) [Decidable p] (s t : State) : (if p then s else t).mem = if p then s.mem else t.mem := by
  split <;> rfl

@[simp] theorem foldl_errs {α : Type} (f : State → α → State) (l : List α) (s : State) (h : ∀ t x, (f t x).errs = t.errs) :
    (l.foldl f s).errs = s.errs := by
  induction l generalizing s with
  | nil => rfl
  | cons x r ih => simp [List.foldl, ih, h]

@[simp] theorem ite_errs (p : Prop) [Decidable p] (s t : State) : (if p then s else t).errs = if p then s.errs else t.errs := by
  split <;> rfl

/-- A fold of steps that keep them keeps them. -/
theorem foldl_memory {α : Type} (f : State → α → State) (l : List α) (s : State) (h : ∀ t x, KeptMemory t (f t x)) :
    KeptMemory s (l.foldl f s) := by
  induction l generalizing s with
  | nil => simp
  | cons x r ih =>
    have h1 := h s x
    have h2 := ih (f s x)
    simp only [List.foldl]
    simp_all

/-- What two operations keep, the one after the other keeps. -/
theorem KeptMemory_trans {s t u : State} (h : KeptMemory s t) (k : KeptMemory t u) : KeptMemory s u := by
  simp_all

@[simp] theorem State.wr_memory (s : State) (a : Nat) (v : Word) : KeptMemory s (State.wr s a v) := by
  simp [State.wr]

@[simp] theorem State.wrN_memory (s : State) (a : Nat) (n : Nat) : KeptMemory s (State.wrN s a n) := by
  simp [State.wrN]

@[simp] theorem State.wr64_memory (s : State) (a : Nat) (n : Nat) : KeptMemory s (State.wr64 s a n) := by
  simp [State.wr64]

@[simp] theorem State.setFld_memory (s : State) (a : Nat) (f : Fld) (n : Nat) : KeptMemory s (State.setFld s a f n) := by
  simp [State.setFld]

@[simp] theorem State.setBits_memory (s : State) (a : Nat) (m : Word) : KeptMemory s (State.setBits s a m) := by
  simp [State.setBits]

@[simp] theorem State.event_memory (s : State) (a : Nat) (f : Fld) : KeptMemory s (State.event s a f) := by
  simp [State.event]

@[simp] theorem State.satInc_memory (s : State) (a : Nat) (n : optParam Nat 1) : KeptMemory s (State.satInc s a n) := by
  simp [State.satInc]

@[simp] theorem State.inc64_memory (s : State) (a : Nat) (n : optParam Nat 1) : KeptMemory s (State.inc64 s a n) := by
  simp [State.inc64]

@[simp] theorem State.setVxu_memory (s : State) (u : Nat) (x : VxuUnit) : KeptMemory s (State.setVxu s u x) := by
  simp [State.setVxu]

@[simp] theorem State.setLane_memory (s : State) (l : Nat) (x : Lane) : KeptMemory s (State.setLane s l x) := by
  simp [State.setLane]

@[simp] theorem State.setChainL_memory (s : State) (k : Nat) (x : ChainLnk) : KeptMemory s (State.setChainL s k x) := by
  simp [State.setChainL]

@[simp] theorem State.setChainP_memory (s : State) (k : Nat) (x : ChainPkt) : KeptMemory s (State.setChainP s k x) := by
  simp [State.setChainP]

@[simp] theorem State.emit_memory (s : State) (e : Emission) : KeptMemory s (State.emit s e) := by
  simp [State.emit]

@[simp] theorem State.reply_memory (s : State) (st : Status) (data : optParam (List Byte) []) : KeptMemory s (State.reply s st data) := by
  simp [State.reply]

@[simp] theorem State.draw_memory (s : State) : KeptMemory s (State.draw s) := by
  simp [State.draw]

@[simp] theorem State.drawn_memory (s : State) (n : Nat) : KeptMemory s (State.drawn s n) := by
  simp [State.drawn]

@[simp] theorem State.queueAlert_memory (s : State) (k : Nat) (al : Alert) : KeptMemory s (State.queueAlert s k al) := by
  simp [State.queueAlert]

@[simp] theorem State.driveAlertN_memory (s : State) (code : Nat) : KeptMemory s (State.driveAlertN s code) := by
  simp [State.driveAlertN]

@[simp] theorem State.alert_memory (s : State) (code : Nat) (chain : Nat) (p0 : Nat) (p1 : Nat) (p2 : Nat) (p3 : Nat) : KeptMemory s (State.alert s code chain p0 p1 p2 p3) := by
  simp [State.alert]

@[simp] theorem State.setSticky_memory (s : State) (src : Nat) : KeptMemory s (State.setSticky s src) := by
  simp [State.setSticky]

@[simp] theorem State.formEntry_memory (s : State) (src : Nat) (sev : Nat) (a : Nat) (b : Nat) (gt : Nat) (forced : Bool) (cold : Bool) : KeptMemory s (State.formEntry s src sev a b gt forced cold) := by
  simp [State.formEntry]

@[simp] theorem State.detect_memory (s : State) (src : Nat) (a : Nat) (b : Nat) (forced : optParam Bool false) : KeptMemory s (State.detect s src a b forced) := by
  unfold State.detect; (try dsimp only); (repeat' split) <;> (try simp)

@[simp] theorem State.ledgerWrote_memory (s : State) (l : List LedgerWord) : KeptMemory s (State.ledgerWrote s l) := by
  first
  | (simp [State.ledgerWrote]; done)
  | (unfold State.ledgerWrote; (try dsimp only); (repeat' split) <;> (try simp); done)
  | (unfold State.ledgerWrote; (try dsimp only); (repeat' split) <;> (try simp [*]); done)

@[simp] theorem State.checkWord_memory (s : State) (w : LedgerWord) : KeptMemory s (State.checkWord s w) := by
  first
  | (simp [State.checkWord]; done)
  | (unfold State.checkWord; (try dsimp only); (repeat' split) <;> (try simp); done)
  | (unfold State.checkWord; (try dsimp only); (repeat' split) <;> (try simp [*]); done)

@[simp] theorem State.checkLedger_memory (s : State) : KeptMemory s (State.checkLedger s) := by
  first
  | (simp [State.checkLedger]; done)
  | (unfold State.checkLedger; (try dsimp only); (repeat' split) <;> (try simp); done)
  | (unfold State.checkLedger; (try dsimp only); (repeat' split) <;> (try simp [*]); done)

@[simp] theorem State.sampleCount_memory (s : State) (n : Nat) (inc : Nat) (x : SampleCtx) : KeptMemory s (State.sampleCount s n inc x) := by
  first
  | (simp [State.sampleCount]; done)
  | (unfold State.sampleCount; (try dsimp only); (repeat' split) <;> (try simp); done)
  | (unfold State.sampleCount; (try dsimp only); (repeat' split) <;> (try simp [*]); done)

@[simp] theorem State.pmcAdd_memory (s : State) (n : Nat) (inc : Nat) (a : Nat) (b : Nat) : KeptMemory s (State.pmcAdd s n inc a b) := by
  simp [State.pmcAdd]

@[simp] theorem State.count_memory (s : State) (ev : Nat) (inc : Nat) (filter : Nat) (part : optParam (Option Nat) none) (a : optParam Nat 0) (b : optParam Nat 0) (off : optParam Nat a) : KeptMemory s (State.count s ev inc filter part a b off) := by
  simp [State.count]

@[simp] theorem State.countRefusal_memory (s : State) (st : Status) (addr : optParam Nat 0) : KeptMemory s (State.countRefusal s st addr) := by
  unfold State.countRefusal; (try dsimp only); (repeat' split) <;> (try simp)

@[simp] theorem State.reject_memory (s : State) (r : Req) (addr : Nat) (write : Bool) (size : Nat) (st : Status) : KeptMemory s (State.reject s r addr write size st) := by
  simp [State.reject]

@[simp] theorem State.hostWrite_memory (s : State) (r : Req) (addr : Nat) (st : Status) (effect : State → State) (heffect : ∀ (t0 : State), KeptMemory t0 (effect t0)) : KeptMemory s (State.hostWrite s r addr st effect) := by
  simp [State.hostWrite, heffect]

@[simp] theorem State.setChan_memory (s : State) (c : Nat) (x : Chan) : KeptMemory s (State.setChan s c x) := by
  simp [State.setChan]

@[simp] theorem State.setEngine_memory (s : State) (e : Nat) (x : Engine) : KeptMemory s (State.setEngine s e x) := by
  simp [State.setEngine]

@[simp] theorem State.capUpdate_memory (s : State) : KeptMemory s (State.capUpdate s) := by
  simp [State.capUpdate]

@[simp] theorem State.capacityChange_memory (s : State) : KeptMemory s (State.capacityChange s) := by
  simp [State.capacityChange]

@[simp] theorem State.stray_memory (s : State) (n : Nat) (conforming : Bool) : KeptMemory s (State.stray s n conforming) := by
  first
  | (simp [State.stray]; done)
  | (unfold State.stray; (try dsimp only); (repeat' split) <;> (try simp); done)
  | (unfold State.stray; (try dsimp only); (repeat' split) <;> (try simp [*]); done)

@[simp] theorem State.charge_memory (s : State) (n : Nat) (bytes : Nat) : KeptMemory s (State.charge s n bytes).1 := by
  unfold State.charge; (try dsimp only); (repeat' split) <;> (try simp)

@[simp] theorem State.served_memory (s : State) (n : Nat) (bytes : Nat) (conforming : Bool) (label : optParam (Option Nat) none) : KeptMemory s (State.served s n bytes conforming label) := by
  simp [State.served]

@[simp] theorem State.latServed_memory (s : State) (n : Nat) (age : Nat) : KeptMemory s (State.latServed s n age) := by
  first
  | (simp [State.latServed]; done)
  | (unfold State.latServed; (try dsimp only); (repeat' split) <;> (try simp); done)
  | (unfold State.latServed; (try dsimp only); (repeat' split) <;> (try simp [*]); done)

@[simp] theorem State.countMiss_memory (s : State) (n : Nat) : KeptMemory s (State.countMiss s n) := by
  first
  | (simp [State.countMiss]; done)
  | (unfold State.countMiss; (try dsimp only); (repeat' split) <;> (try simp); done)
  | (unfold State.countMiss; (try dsimp only); (repeat' split) <;> (try simp [*]); done)

@[simp] theorem State.miss_memory (s : State) (n : Nat) (reason : Nat) : KeptMemory s (State.miss s n reason) := by
  simp [State.miss]

@[simp] theorem State.guaranteeMiss_memory (s : State) (n : Nat) (reason : Nat) : KeptMemory s (State.guaranteeMiss s n reason) := by
  first
  | (simp [State.guaranteeMiss]; done)
  | (unfold State.guaranteeMiss; (try dsimp only); (repeat' split) <;> (try simp); done)
  | (unfold State.guaranteeMiss; (try dsimp only); (repeat' split) <;> (try simp [*]); done)

@[simp] theorem State.countRefresh_memory (s : State) (c : Nat) (k : DramCmd) : KeptMemory s (State.countRefresh s c k) := by
  first
  | (simp [State.countRefresh]; done)
  | (unfold State.countRefresh; (try dsimp only); (repeat' split) <;> (try simp); done)
  | (unfold State.countRefresh; (try dsimp only); (repeat' split) <;> (try simp [*]); done)

@[simp] theorem State.command_memory (s : State) (c : Nat) (k : DramCmd) : KeptMemory s (State.command s c k) := by
  first
  | (simp [State.command]; done)
  | (unfold State.command; (try dsimp only); (repeat' split) <;> (try simp); done)
  | (unfold State.command; (try dsimp only); (repeat' split) <;> (try simp [*]); done)

@[simp] theorem State.openRow_memory (s : State) (c : Nat) (a : Nat) : KeptMemory s (State.openRow s c a) := by
  first
  | (simp [State.openRow]; done)
  | (unfold State.openRow; (try dsimp only); (repeat' split) <;> (try simp); done)
  | (unfold State.openRow; (try dsimp only); (repeat' split) <;> (try simp [*]); done)

@[simp] theorem State.column_memory (s : State) (c : Nat) (k : DramCmd) : KeptMemory s (State.column s c k) := by
  simp [State.column]

@[simp] theorem State.countCw_memory (s : State) (ev : Nat) (c : Nat) (a : Nat) (part : Option (Nat × Nat)) (inPart : Bool) : KeptMemory s (State.countCw s ev c a part inPart) := by
  first
  | (simp [State.countCw]; done)
  | (unfold State.countCw; (try dsimp only); (repeat' split) <;> (try simp); done)
  | (unfold State.countCw; (try dsimp only); (repeat' split) <;> (try simp [*]); done)

@[simp] theorem State.queueLeg_memory (s : State) (c : Nat) (block : Nat) : KeptMemory s (State.queueLeg s c block) := by
  simp [State.queueLeg]

@[simp] theorem State.holdChannel_memory (s : State) (c : Nat) : KeptMemory s (State.holdChannel s c) := by
  simp [State.holdChannel]

@[simp] theorem State.countMismatch_memory (s : State) (c : Nat) (persistent : Bool) : KeptMemory s (State.countMismatch s c persistent) := by
  simp [State.countMismatch]

@[simp] theorem State.latchEcc_memory (s : State) (c : Nat) (a : Nat) (cls : EccClass) (located : SymErr) (src : Nat) : KeptMemory s (State.latchEcc s c a cls located src) := by
  simp [State.latchEcc]

@[simp] theorem State.candidate_memory (s : State) (c : Nat) (a : Nat) : KeptMemory s (State.candidate s c a) := by
  simp [State.candidate]

@[simp] theorem State.countHot_memory (s : State) (c : Nat) (located : SymErr) : KeptMemory s (State.countHot s c located) := by
  first
  | (simp [State.countHot]; done)
  | (unfold State.countHot; (try dsimp only); (repeat' split) <;> (try simp); done)
  | (unfold State.countHot; (try dsimp only); (repeat' split) <;> (try simp [*]); done)

@[simp] theorem State.reportEcc_memory (s : State) (c : Nat) (a : Nat) (cls : EccClass) (located : SymErr) (src : Nat) (part : Option (Nat × Nat)) : KeptMemory s (State.reportEcc s c a cls located src part) := by
  unfold State.reportEcc; (try dsimp only); (repeat' split) <;> (try simp)

@[simp] theorem State.transientMismatch_memory (s : State) (c : Nat) (a : Nat) (located : SymErr) (src : Nat) : KeptMemory s (State.transientMismatch s c a located src) := by
  simp [State.transientMismatch]

@[simp] theorem State.keepSent_memory (s : State) (c : Nat) (a : Nat) (d : BitVec 512) (e : SymErr) : KeptMemory s (State.keepSent s c a d e) := by
  first
  | (simp [State.keepSent]; done)
  | (unfold State.keepSent; (try dsimp only); (repeat' split) <;> (try simp); done)
  | (unfold State.keepSent; (try dsimp only); (repeat' split) <;> (try simp [*]); done)

@[simp] theorem State.addWb_memory (s : State) (c : Nat) (a : Nat) : KeptMemory s (State.addWb s c a) := by
  first
  | (simp [State.addWb]; done)
  | (unfold State.addWb; (try dsimp only); (repeat' split) <;> (try simp); done)
  | (unfold State.addWb; (try dsimp only); (repeat' split) <;> (try simp [*]); done)

@[simp] theorem State.freeMerge_memory (s : State) (c : Nat) (a : Nat) : KeptMemory s (State.freeMerge s c a) := by
  simp [State.freeMerge]

@[simp] theorem State.promote_memory (s : State) (c : Nat) (y2 : Nat) : KeptMemory s (State.promote s c y2) := by
  induction y2 generalizing s c <;> unfold State.promote <;> (try dsimp only) <;> (repeat' split) <;> (try simp [*])

@[simp] theorem State.askChan_memory (s : State) (c : Nat) (a : Nat) (cls : Nat) (conf : Bool) (since : Nat) (op : ReqOp) : KeptMemory s (State.askChan s c a cls conf since op) := by
  first
  | (simp [State.askChan]; done)
  | (unfold State.askChan; (try dsimp only); (repeat' split) <;> (try simp); done)
  | (unfold State.askChan; (try dsimp only); (repeat' split) <;> (try simp [*]); done)

@[simp] theorem State.askWrite_memory (s : State) (c : Nat) (a : Nat) (cls : Nat) (conf : Bool) (since : Nat) (d : BitVec 512) (w : BitVec 64) : KeptMemory s (State.askWrite s c a cls conf since d w) := by
  first
  | (simp [State.askWrite]; done)
  | (unfold State.askWrite; (try dsimp only); (repeat' split) <;> (try simp); done)
  | (unfold State.askWrite; (try dsimp only); (repeat' split) <;> (try simp [*]); done)

@[simp] theorem State.sentFor_memory (s : State) (c : Nat) (n : Nat) (r : DmcReq) : KeptMemory s (State.sentFor s c n r) := by
  first
  | (simp [State.sentFor]; done)
  | (unfold State.sentFor; (try dsimp only); (repeat' split) <;> (try simp); done)
  | (unfold State.sentFor; (try dsimp only); (repeat' split) <;> (try simp [*]); done)

@[simp] theorem State.prechargeAll_memory (s : State) (c : Nat) : KeptMemory s (State.prechargeAll s c) := by
  first
  | (simp [State.prechargeAll]; done)
  | (unfold State.prechargeAll; (try dsimp only); (repeat' split) <;> (try simp); done)
  | (unfold State.prechargeAll; (try dsimp only); (repeat' split) <;> (try simp [*]); done)

@[simp] theorem State.refreshed_memory (s : State) (c : Nat) (n : Nat) (owed : Nat) : KeptMemory s (State.refreshed s c n owed) := by
  simp [State.refreshed]

@[simp] theorem State.issueRefreshes_memory (s : State) (c : Nat) (n : Nat) : KeptMemory s (State.issueRefreshes s c n) := by
  first
  | (simp [State.issueRefreshes]; done)
  | (unfold State.issueRefreshes; (try dsimp only); (repeat' split) <;> (try simp); done)
  | (unfold State.issueRefreshes; (try dsimp only); (repeat' split) <;> (try simp [*]); done)

@[simp] theorem State.issueOwed_memory (s : State) (c : Nat) : KeptMemory s (State.issueOwed s c) := by
  simp [State.issueOwed]

@[simp] theorem State.forceRefresh_memory (s : State) (c : Nat) : KeptMemory s (State.forceRefresh s c) := by
  first
  | (simp [State.forceRefresh]; done)
  | (unfold State.forceRefresh; (try dsimp only); (repeat' split) <;> (try simp); done)
  | (unfold State.forceRefresh; (try dsimp only); (repeat' split) <;> (try simp [*]); done)

@[simp] theorem State.postponeUpdate_memory (s : State) (c : Nat) : KeptMemory s (State.postponeUpdate s c) := by
  simp [State.postponeUpdate]

@[simp] theorem State.postponeAll_memory (s : State) : KeptMemory s (State.postponeAll s) := by
  first
  | (simp [State.postponeAll]; done)
  | (unfold State.postponeAll; (try dsimp only); (repeat' split) <;> (try simp); done)
  | (unfold State.postponeAll; (try dsimp only); (repeat' split) <;> (try simp [*]); done)

@[simp] theorem State.settleBy_memory (s : State) (c : Nat) (past : DramCmd → Bool) : KeptMemory s (State.settleBy s c past) := by
  first
  | (simp [State.settleBy]; done)
  | (unfold State.settleBy; (try dsimp only); (repeat' split) <;> (try simp); done)
  | (unfold State.settleBy; (try dsimp only); (repeat' split) <;> (try simp [*]); done)

@[simp] theorem State.enterSr_memory (s : State) (c : Nat) : KeptMemory s (State.enterSr s c) := by
  simp [State.enterSr]

@[simp] theorem State.exitSr_memory (s : State) (c : Nat) : KeptMemory s (State.exitSr s c) := by
  simp [State.exitSr]

@[simp] theorem State.multiplierStep_memory (s : State) (old : Nat) (new : Nat) (c : Nat) : KeptMemory s (State.multiplierStep s old new c) := by
  first
  | (simp [State.multiplierStep]; done)
  | (unfold State.multiplierStep; (try dsimp only); (repeat' split) <;> (try simp); done)
  | (unfold State.multiplierStep; (try dsimp only); (repeat' split) <;> (try simp [*]); done)

@[simp] theorem State.settleAll_memory (s : State) : KeptMemory s (State.settleAll s) := by
  first
  | (simp [State.settleAll]; done)
  | (unfold State.settleAll; (try dsimp only); (repeat' split) <;> (try simp); done)
  | (unfold State.settleAll; (try dsimp only); (repeat' split) <;> (try simp [*]); done)

@[simp] theorem State.setShadowTim_memory (s : State) (c : Nat) (point : Nat) (band : Nat) : KeptMemory s (State.setShadowTim s c point band) := by
  simp [State.setShadowTim]

@[simp] theorem State.copyTim_memory (s : State) (c : Nat) : KeptMemory s (State.copyTim s c) := by
  simp [State.copyTim]

@[simp] theorem State.retime_memory (s : State) (c : Nat) (point : Nat) (band : Nat) : KeptMemory s (State.retime s c point band) := by
  simp [State.retime]

@[simp] theorem State.legStops_memory (s : State) (l : Leg) : KeptMemory s (State.legStops s l) := by
  unfold State.legStops; (try dsimp only); (repeat' split) <;> (try simp)

@[simp] theorem State.legTraffic_memory (s : State) (b : Nat) (n : Nat) : KeptMemory s (State.legTraffic s b n) := by
  first
  | (simp [State.legTraffic]; done)
  | (unfold State.legTraffic; (try dsimp only); (repeat' split) <;> (try simp); done)
  | (unfold State.legTraffic; (try dsimp only); (repeat' split) <;> (try simp [*]); done)

@[simp] theorem State.legPart_memory (s : State) (b : Nat) : KeptMemory s (State.legPart s b) := by
  first
  | (simp [State.legPart]; done)
  | (unfold State.legPart; (try dsimp only); (repeat' split) <;> (try simp); done)
  | (unfold State.legPart; (try dsimp only); (repeat' split) <;> (try simp [*]); done)

@[simp] theorem State.setIncRun_memory (s : State) (b : Nat) (n : Nat) : KeptMemory s (State.setIncRun s b n) := by
  simp [State.setIncRun]

@[simp] theorem State.setPreRun_memory (s : State) (b : Nat) (n : Nat) : KeptMemory s (State.setPreRun s b n) := by
  simp [State.setPreRun]

@[simp] theorem State.rerunLeg_memory (s : State) (b : Nat) : KeptMemory s (State.rerunLeg s b) := by
  simp [State.rerunLeg]

@[simp] theorem State.rowDone_memory (s : State) (b : Nat) : KeptMemory s (State.rowDone s b) := by
  first
  | (simp [State.rowDone]; done)
  | (unfold State.rowDone; (try dsimp only); (repeat' split) <;> (try simp); done)
  | (unfold State.rowDone; (try dsimp only); (repeat' split) <;> (try simp [*]); done)

@[simp] theorem State.passBlock_memory (s : State) (b : Nat) : KeptMemory s (State.passBlock s b) := by
  simp [State.passBlock]

@[simp] theorem State.legCut_memory (s : State) (l : Leg) : KeptMemory s (State.legCut s l) := by
  first
  | (simp [State.legCut]; done)
  | (unfold State.legCut; (try dsimp only); (repeat' split) <;> (try simp); done)
  | (unfold State.legCut; (try dsimp only); (repeat' split) <;> (try simp [*]); done)

@[simp] theorem State.endLegs_memory (s : State) (c : Nat) (kinds : List Nat) : KeptMemory s (State.endLegs s c kinds) := by
  simp [State.endLegs]

@[simp] theorem State.steeredBack_memory (s : State) (l : Leg) : KeptMemory s (State.steeredBack s l) := by
  first
  | (simp [State.steeredBack]; done)
  | (unfold State.steeredBack; (try dsimp only); (repeat' split) <;> (try simp); done)
  | (unfold State.steeredBack; (try dsimp only); (repeat' split) <;> (try simp [*]); done)

@[simp] theorem State.legIncomplete_memory (s : State) (l : Leg) : KeptMemory s (State.legIncomplete s l) := by
  simp [State.legIncomplete]

@[simp] theorem State.abortDramLegs_memory (s : State) : KeptMemory s (State.abortDramLegs s) := by
  simp [State.abortDramLegs]

@[simp] theorem State.preempt_memory (s : State) (l : Leg) : KeptMemory s (State.preempt s l) := by
  simp [State.preempt]

@[simp] theorem State.preemptBank_memory (s : State) (c : Nat) (a : Nat) : KeptMemory s (State.preemptBank s c a) := by
  first
  | (simp [State.preemptBank]; done)
  | (unfold State.preemptBank; (try dsimp only); (repeat' split) <;> (try simp); done)
  | (unfold State.preemptBank; (try dsimp only); (repeat' split) <;> (try simp [*]); done)

@[simp] theorem State.preemptCws_memory (s : State) (p : Partition) (o : Nat) (y3 : Nat) : KeptMemory s (State.preemptCws s p o y3) := by
  induction y3 generalizing s p o <;> unfold State.preemptCws <;> (try dsimp only) <;> (repeat' split) <;> (try simp [*])

@[simp] theorem State.reachBanks_memory (s : State) (rt : Bool) (p : Partition) (o : Nat) (n : Nat) : KeptMemory s (State.reachBanks s rt p o n) := by
  first
  | (simp [State.reachBanks]; done)
  | (unfold State.reachBanks; (try dsimp only); (repeat' split) <;> (try simp); done)
  | (unfold State.reachBanks; (try dsimp only); (repeat' split) <;> (try simp [*]); done)

@[simp] theorem State.railOff_memory (s : State) (r : Nat) : KeptMemory s (State.railOff s r) := by
  simp [State.railOff]

@[simp] theorem State.railsOff_memory (s : State) (g : Nat) : KeptMemory s (State.railsOff s g) := by
  simp [State.railsOff]

@[simp] theorem State.retireNow_memory (s : State) (c : Nat) (why : Nat) : KeptMemory s (State.retireNow s c why) := by
  first
  | (simp [State.retireNow]; done)
  | (unfold State.retireNow; (try dsimp only); (repeat' split) <;> (try simp); done)
  | (unfold State.retireNow; (try dsimp only); (repeat' split) <;> (try simp [*]); done)

@[simp] theorem State.putOff_memory (s : State) (x : Later) : KeptMemory s (State.putOff s x) := by
  first
  | (simp [State.putOff]; done)
  | (unfold State.putOff; (try dsimp only); (repeat' split) <;> (try simp); done)
  | (unfold State.putOff; (try dsimp only); (repeat' split) <;> (try simp [*]); done)

@[simp] theorem State.retire_memory (s : State) (c : Nat) (why : Nat) : KeptMemory s (State.retire s c why) := by
  simp [State.retire]

@[simp] theorem State.retireGroup_memory (s : State) (g : Nat) : KeptMemory s (State.retireGroup s g) := by
  simp [State.retireGroup]

@[simp] theorem State.centreEyes_memory (s : State) (c : Nat) (lanes : List Nat) : KeptMemory s (State.centreEyes s c lanes) := by
  first
  | (simp [State.centreEyes]; done)
  | (unfold State.centreEyes; (try dsimp only); (repeat' split) <;> (try simp); done)
  | (unfold State.centreEyes; (try dsimp only); (repeat' split) <;> (try simp [*]); done)

@[simp] theorem State.narrowNow_memory (s : State) (c : Nat) : KeptMemory s (State.narrowNow s c) := by
  first
  | (simp [State.narrowNow]; done)
  | (unfold State.narrowNow; (try dsimp only); (repeat' split) <;> (try simp); done)
  | (unfold State.narrowNow; (try dsimp only); (repeat' split) <;> (try simp [*]); done)

@[simp] theorem State.narrow_memory (s : State) (c : Nat) : KeptMemory s (State.narrow s c) := by
  simp [State.narrow]

@[simp] theorem State.doLater_memory (s : State) : KeptMemory s (State.doLater s) := by
  unfold State.doLater
  refine KeptMemory_trans (t := { s with dmc := { s.dmc with later := [] } }) (by simp) (foldl_memory _ _ _ (fun t x => ?_))
  repeat' split
  all_goals simp

@[simp] theorem State.laneSpared_memory (s : State) (c : Nat) (kind : Nat) (lane : Nat) (spare : Nat) (free : Nat) : KeptMemory s (State.laneSpared s c kind lane spare free) := by
  simp [State.laneSpared]

@[simp] theorem State.failData_memory (s : State) (c : Nat) (lane : Nat) : KeptMemory s (State.failData s c lane) := by
  unfold State.failData; (try dsimp only); (repeat' split) <;> (try simp)

@[simp] theorem State.failCa_memory (s : State) (c : Nat) (lane : Nat) : KeptMemory s (State.failCa s c lane) := by
  unfold State.failCa; (try dsimp only); (repeat' split) <;> (try simp)

@[simp] theorem State.clkLost_memory (s : State) (g : Nat) (b : Nat) : KeptMemory s (State.clkLost s g b) := by
  simp [State.clkLost]

@[simp] theorem State.logRepair_memory (s : State) (entry : Nat) : KeptMemory s (State.logRepair s entry) := by
  simp [State.logRepair]

@[simp] theorem State.sparesOut_memory (s : State) (c : Nat) (bank : Nat) (row : Nat) : KeptMemory s (State.sparesOut s c bank row) := by
  simp [State.sparesOut]

@[simp] theorem State.repairColumn_memory (s : State) (c : Nat) (p : Nat) (col : Nat) : KeptMemory s (State.repairColumn s c p col) := by
  unfold State.repairColumn; (try dsimp only); (repeat' split) <;> (try simp)

@[simp] theorem State.placeBlocks_memory (s : State) (k : Nat) (n : Nat) : KeptMemory s (State.placeBlocks s k n) := by
  first
  | (simp [State.placeBlocks]; done)
  | (unfold State.placeBlocks; (try dsimp only); (repeat' split) <;> (try simp); done)
  | (unfold State.placeBlocks; (try dsimp only); (repeat' split) <;> (try simp [*]); done)

@[simp] theorem State.emitPacket_memory (s : State) (k : Nat) (p : Packet) (resent : Bool) : KeptMemory s (State.emitPacket s k p resent) := by
  first
  | (simp [State.emitPacket]; done)
  | (unfold State.emitPacket; (try dsimp only); (repeat' split) <;> (try simp); done)
  | (unfold State.emitPacket; (try dsimp only); (repeat' split) <;> (try simp [*]); done)

@[simp] theorem State.emitBlock_memory (s : State) (k : Nat) (b : RxBlock) : KeptMemory s (State.emitBlock s k b) := by
  first
  | (simp [State.emitBlock]; done)
  | (unfold State.emitBlock; (try dsimp only); (repeat' split) <;> (try simp); done)
  | (unfold State.emitBlock; (try dsimp only); (repeat' split) <;> (try simp [*]); done)

@[simp] theorem State.sendNew_memory (s : State) (k : Nat) (p : Packet) : KeptMemory s (State.sendNew s k p) := by
  simp [State.sendNew]

@[simp] theorem State.takeWaiting_memory (s : State) (k : Nat) (e : Waiting × Nat) : KeptMemory s (State.takeWaiting s k e) := by
  first
  | (simp [State.takeWaiting]; done)
  | (unfold State.takeWaiting; (try dsimp only); (repeat' split) <;> (try simp); done)
  | (unfold State.takeWaiting; (try dsimp only); (repeat' split) <;> (try simp [*]); done)

@[simp] theorem State.pumpRun_memory (s : State) (k : Nat) (y2 : Nat) : KeptMemory s (State.pumpRun s k y2) := by
  induction y2 generalizing s k <;> unfold State.pumpRun <;> (try dsimp only) <;> (repeat' split) <;> (try simp [*])

@[simp] theorem State.crCount_memory (s : State) (k : Nat) (n : Nat) : KeptMemory s (State.crCount s k n) := by
  first
  | (simp [State.crCount]; done)
  | (unfold State.crCount; (try dsimp only); (repeat' split) <;> (try simp); done)
  | (unfold State.crCount; (try dsimp only); (repeat' split) <;> (try simp [*]); done)

@[simp] theorem State.pump_memory (s : State) (k : Nat) : KeptMemory s (State.pump s k) := by
  simp [State.pump]

@[simp] theorem State.sendPacket_memory (s : State) (k : Nat) (p : Packet) (conf : optParam Bool true) : KeptMemory s (State.sendPacket s k p conf) := by
  simp [State.sendPacket]

@[simp] theorem State.noteAdmission_memory (s : State) (a : Status × Nat × Nat) : KeptMemory s (State.noteAdmission s a) := by
  simp [State.noteAdmission]

@[simp] theorem State.classesNow_memory (s : State) : KeptMemory s (State.classesNow s) := by
  simp [State.classesNow]

@[simp] theorem State.shedClass_memory (s : State) (n : Nat) (r : Res) : KeptMemory s (State.shedClass s n r) := by
  simp [State.shedClass]

@[simp] theorem State.shedLoop_memory (s : State) (y1 : Nat) : KeptMemory s (State.shedLoop s y1) := by
  induction y1 generalizing s <;> unfold State.shedLoop <;> (try dsimp only) <;> (repeat' split) <;> (try simp [*])

@[simp] theorem State.evaluate_memory (s : State) : KeptMemory s (State.evaluate s) := by
  simp [State.evaluate]

theorem execShedEvaluation_memory (s : State) (t : State) (h : (execShedEvaluation s) = .next t) : KeptMemory s t := by
  unfold execShedEvaluation at h; (try dsimp only at h); (repeat' split at h) <;> (try simp only [Host.Outcome.next.injEq, reduceCtorEq] at h) <;> (try subst h) <;> (try simp)

@[simp] theorem State.reinstate_memory (s : State) (n : Nat) : KeptMemory s (State.reinstate s n) := by
  simp [State.reinstate]

@[simp] theorem State.reinstateAll_memory (s : State) : KeptMemory s (State.reinstateAll s) := by
  simp [State.reinstateAll]

theorem execReinstatement_memory (s : State) (t : State) (h : (execReinstatement s) = .next t) : KeptMemory s t := by
  unfold execReinstatement at h; (try dsimp only at h); (repeat' split at h) <;> (try simp only [Host.Outcome.next.injEq, reduceCtorEq] at h) <;> (try subst h) <;> (try simp)

@[simp] theorem State.holdUpdate_memory (s : State) : KeptMemory s (State.holdUpdate s) := by
  simp [State.holdUpdate]

theorem execHoldExceeded_memory (n : Fin 32) (s : State) (t : State) (h : (execHoldExceeded n s) = .next t) : KeptMemory s t := by
  unfold execHoldExceeded at h; (try dsimp only at h); (repeat' split at h) <;> (try simp only [Host.Outcome.next.injEq, reduceCtorEq] at h) <;> (try subst h) <;> (try simp)

@[simp] theorem State.setDomain_memory (s : State) (d : Nat) (x : Domain) : KeptMemory s (State.setDomain s d x) := by
  simp [State.setDomain]

@[simp] theorem State.setSource_memory (s : State) (i : Nat) (x : Source) : KeptMemory s (State.setSource s i x) := by
  simp [State.setSource]

@[simp] theorem State.logException_memory (s : State) (e : ExcEntry) : KeptMemory s (State.logException s e) := by
  simp [State.logException]

@[simp] theorem State.exception_memory (s : State) (bytes : List Byte) (chain : Nat) (why : ExcReason) (domain : Option Nat) : KeptMemory s (State.exception s bytes chain why domain) := by
  simp [State.exception]

@[simp] theorem State.declareGap_memory (s : State) (src : Nat) (first : Nat) (count : Nat) : KeptMemory s (State.declareGap s src first count) := by
  simp [State.declareGap]

@[simp] theorem State.setCapLog_memory (s : State) (p : Nat) (x : CapLog) : KeptMemory s (State.setCapLog s p x) := by
  simp [State.setCapLog]

@[simp] theorem State.release_memory (s : State) (src : Nat) (f : FailRec) (late : Bool) : KeptMemory s (State.release s src f late) := by
  unfold State.release; (try dsimp only); (repeat' split) <;> (try simp)

@[simp] theorem State.releaseRun_memory (s : State) (src : Nat) (y2 : List (Nat × FailRec)) : KeptMemory s (State.releaseRun s src y2) := by
  induction y2 generalizing s src <;> unfold State.releaseRun <;> (try dsimp only) <;> (repeat' split) <;> (try simp [*])

@[simp] theorem State.releaseAll_memory (s : State) (src : Nat) (pos : Option Nat) (y3 : List (Nat × FailRec)) : KeptMemory s (State.releaseAll s src pos y3) := by
  induction y3 generalizing s src pos <;> unfold State.releaseAll <;> (try dsimp only) <;> (repeat' split) <;> (try simp [*])

@[simp] theorem State.pushWindow_memory (s : State) (src : Nat) (nx : Nat) (new : Nat) : KeptMemory s (State.pushWindow s src nx new) := by
  simp [State.pushWindow]

@[simp] theorem State.inOrder_memory (s : State) (src : Nat) (q : Nat) (f : FailRec) : KeptMemory s (State.inOrder s src q f) := by
  simp [State.inOrder]

@[simp] theorem State.timerUpdate_memory (s : State) (src : Nat) (nx : Option Nat) : KeptMemory s (State.timerUpdate s src nx) := by
  simp [State.timerUpdate]

@[simp] theorem State.arrive_memory (s : State) (src : Nat) (f : FailRec) : KeptMemory s (State.arrive s src f) := by
  unfold State.arrive; (try dsimp only); (repeat' split) <;> (try simp)

@[simp] theorem State.loseNx_memory (s : State) (src : Nat) : KeptMemory s (State.loseNx s src) := by
  simp [State.loseNx]

@[simp] theorem State.sourcesLost_memory (s : State) (k : Nat) : KeptMemory s (State.sourcesLost s k) := by
  simp [State.sourcesLost]

@[simp] theorem State.queueMoved_memory (s : State) : KeptMemory s (State.queueMoved s) := by
  unfold State.queueMoved; (try dsimp only); (repeat' split) <;> (try simp)

@[simp] theorem State.heapCheck_memory (s : State) : KeptMemory s (State.heapCheck s) := by
  simp [State.heapCheck]

theorem State.takeHeap_memory (s : State) (d : Nat) (use : HeapUse) (n : Nat) (t : State) (h : s.takeHeap d use n = some t) : KeptMemory s t := by
  unfold State.takeHeap at h
  split at h
  · simp_all
  · simp only [Option.map_eq_some_iff] at h
    obtain ⟨a, _, rfl⟩ := h
    simp

/-- A heap place taken or refused. -/
@[simp] theorem State.takeHeapD_memory (s : State) (d : Nat) (use : HeapUse) (n : Nat) : KeptMemory s ((s.takeHeap d use n).getD s) := by
  cases h : s.takeHeap d use n with
  | none => simp
  | some t => simpa using State.takeHeap_memory s d use n t h

theorem State.takeAll_memory (s : State) (l : List HeapNeed) (t : State) (h : s.takeAll l = some t) : KeptMemory s t := by
  unfold State.takeAll at h
  induction l generalizing s with
  | nil => simp_all
  | cons x r ih =>
    rw [List.foldlM_cons] at h
    obtain ⟨u, hu, hr⟩ := Option.bind_eq_some_iff.mp h
    exact KeptMemory_trans (State.takeHeap_memory _ _ _ _ _ hu) (ih _ hr)

@[simp] theorem State.spill_memory (s : State) (d : Nat) : KeptMemory s (State.spill s d) := by
  simp [State.spill]

@[simp] theorem State.applyRecord_memory (s : State) (d : Nat) (x : Located) (f : FailRec) (late : Bool) :
    KeptMemory s (State.applyRecord s d x f late) := by
  unfold State.applyRecord
  dsimp only
  split
  · simp
  · rename_i h hh
    have h1 := State.takeAll_memory _ _ _ hh
    split <;> simp_all

@[simp] theorem State.traffic_memory (s : State) (n : Nat) (bytes : Nat) (label : Nat) : KeptMemory s (State.traffic s n bytes label).1 := by
  simp [State.traffic]

@[simp] theorem State.finish_memory (s : State) (r : ResultRec) : KeptMemory s (State.finish s r) := by
  simp [State.finish]

@[simp] theorem State.checkRound_memory (s : State) (p : Nat) (runner : Option Nat) : KeptMemory s (State.checkRound s p runner) := by
  first
  | (simp [State.checkRound]; done)
  | (unfold State.checkRound; (try dsimp only); (repeat' split) <;> (try simp); done)
  | (unfold State.checkRound; (try dsimp only); (repeat' split) <;> (try simp [*]); done)

@[simp] theorem State.round_memory (s : State) (p : Nat) (engine : Nat) : KeptMemory s (State.round s p engine) := by
  unfold State.round; (try dsimp only); (repeat' split) <;> (try simp)

@[simp] theorem State.engineTick_memory (s : State) (e : Nat) : KeptMemory s (State.engineTick s e) := by
  first
  | (simp [State.engineTick]; done)
  | (unfold State.engineTick; (try dsimp only); (repeat' split) <;> (try simp); done)
  | (unfold State.engineTick; (try dsimp only); (repeat' split) <;> (try simp [*]); done)

@[simp] theorem State.enginesTick_memory (s : State) : KeptMemory s (State.enginesTick s) := by
  first
  | (simp [State.enginesTick]; done)
  | (unfold State.enginesTick; (try dsimp only); (repeat' split) <;> (try simp); done)
  | (unfold State.enginesTick; (try dsimp only); (repeat' split) <;> (try simp [*]); done)

@[simp] theorem State.takeOutcome_memory (s : State) (d : Nat) (engine : Nat) (o : PassOutcome) : KeptMemory s (State.takeOutcome s d engine o) := by
  unfold State.takeOutcome; (try dsimp only); (repeat' split) <;> (try simp)

@[simp] theorem State.recordBits_memory (s : State) (found : List Nat) : KeptMemory s (State.recordBits s found) := by
  first
  | (simp [State.recordBits]; done)
  | (unfold State.recordBits; (try dsimp only); (repeat' split) <;> (try simp); done)
  | (unfold State.recordBits; (try dsimp only); (repeat' split) <;> (try simp [*]); done)

@[simp] theorem State.senseBits_memory (s : State) (among : Nat → Bool) (found : List Nat) : KeptMemory s (State.senseBits s among found) := by
  first
  | (simp [State.senseBits]; done)
  | (unfold State.senseBits; (try dsimp only); (repeat' split) <;> (try simp); done)
  | (unfold State.senseBits; (try dsimp only); (repeat' split) <;> (try simp [*]); done)

@[simp] theorem State.reinforced_memory (s : State) (l : List Nat) : KeptMemory s (State.reinforced s l) := by
  simp [State.reinforced]

@[simp] theorem State.blow_memory (s : State) (l : List Nat) : KeptMemory s (State.blow s l) := by
  simp [State.blow]

@[simp] theorem State.lockedOut_memory (s : State) : KeptMemory s (State.lockedOut s) := by
  first
  | (simp [State.lockedOut]; done)
  | (unfold State.lockedOut; (try dsimp only); (repeat' split) <;> (try simp); done)
  | (unfold State.lockedOut; (try dsimp only); (repeat' split) <;> (try simp [*]); done)

@[simp] theorem FuseRun.pulse_memory (x : FuseRun) (n : Nat) : KeptMemory x.st (x.pulse n).st := by simp [FuseRun.pulse]

@[simp] theorem FuseRun.verified_memory (x : FuseRun) (b : Nat) : KeptMemory x.st (x.verified b).st := by simp [FuseRun.verified]

@[simp] theorem FuseRun.program_memory (x : FuseRun) (b : Nat) : KeptMemory x.st (x.program b).st := by
  unfold FuseRun.program
  repeat' split
  all_goals simp

@[simp] theorem FuseRun.pulses_memory (x : FuseRun) (l : List Nat) : KeptMemory x.st (l.foldl (fun (y : FuseRun) _ => y.pulse 1) x).st := by
  induction l generalizing x with
  | nil => simp
  | cons b r ih => exact KeptMemory_trans (FuseRun.pulse_memory x 1) (ih _)

@[simp] theorem FuseRun.boost_memory (x : FuseRun) (l : List Nat) : KeptMemory x.st (x.boost l).st := by simp [FuseRun.boost]

@[simp] theorem FuseRun.sense_memory (x : FuseRun) (f : Nat → Bool) : KeptMemory x.st (x.sense f).1.st := by simp [FuseRun.sense]

@[simp] theorem FuseRun.settle_memory (x : FuseRun) (n : Nat) (ws : List DWord) (k : Nat) : KeptMemory x.st (x.settle n ws k).st := by
  induction k generalizing x with
  | zero => unfold FuseRun.settle; dsimp only; split <;> simp
  | succ k ih =>
    unfold FuseRun.settle
    dsimp only
    repeat' split
    all_goals simp [ih]

@[simp] theorem FuseRun.locks_memory (x : FuseRun) (l : List Nat) : KeptMemory x.st (l.foldl FuseRun.verified x).st := by
  induction l generalizing x with
  | nil => simp
  | cons b r ih => exact KeptMemory_trans (FuseRun.verified_memory x b) (ih _)

@[simp] theorem FuseRun.step_memory (x : FuseRun) (e : FuseStep) : KeptMemory x.st (x.step e).st := by
  unfold FuseRun.step
  repeat' split
  all_goals simp

@[simp] theorem FuseRun.upTo_memory (x : FuseRun) (n : Nat) (l : List FuseStep) : KeptMemory x.st (x.upTo n l).1.st := by
  induction n generalizing x l with
  | zero => simp [FuseRun.upTo]
  | succ n ih =>
    cases l with
    | nil => simp [FuseRun.upTo]
    | cons e r => unfold FuseRun.upTo; dsimp only; split <;> simp [ih]

@[simp] theorem FuseRun.steps_memory (x : FuseRun) (l : List FuseStep) : KeptMemory x.st (l.foldl FuseRun.step x).st := by
  induction l generalizing x with
  | nil => simp
  | cons e r ih => exact KeptMemory_trans (FuseRun.step_memory x e) (ih _)

@[simp] theorem State.fuseGoesOn_memory (s : State) : KeptMemory s (State.fuseGoesOn s) := by
  unfold State.fuseGoesOn
  split
  · simp
  · simp [State.drawn]

@[simp] theorem State.fuseCut_memory (s : State) : KeptMemory s (State.fuseCut s) := by
  unfold State.fuseCut; (try dsimp only); (repeat' split) <;> (try simp)

@[simp] theorem State.fuseAsk_memory (s : State) (o : FuseOp) : KeptMemory s (State.fuseAsk s o) := by
  first
  | (simp [State.fuseAsk]; done)
  | (unfold State.fuseAsk; (try dsimp only); (repeat' split) <;> (try simp); done)
  | (unfold State.fuseAsk; (try dsimp only); (repeat' split) <;> (try simp [*]); done)

@[simp] theorem State.fuseNext_memory (s : State) : KeptMemory s (State.fuseNext s) := by
  first
  | (simp [State.fuseNext]; done)
  | (unfold State.fuseNext; (try dsimp only); (repeat' split) <;> (try simp); done)
  | (unfold State.fuseNext; (try dsimp only); (repeat' split) <;> (try simp [*]); done)

@[simp] theorem State.fuseEnds_memory (s : State) (st : Status) (pulses : Nat) : KeptMemory s (State.fuseEnds s st pulses) := by
  simp [State.fuseEnds]

@[simp] theorem State.recordMarginal_memory (s : State) : KeptMemory s (State.recordMarginal s) := by
  simp [State.recordMarginal]

@[simp] theorem State.judgeAll_memory (s : State) : KeptMemory s (State.judgeAll s) := by
  simp [State.judgeAll]

@[simp] theorem State.senseReport_memory (s : State) : KeptMemory s (State.senseReport s) := by
  simp [State.senseReport]

@[simp] theorem State.senseAll_memory (s : State) (weak : List (Nat × DWord)) (cold : Bool) : KeptMemory s (State.senseAll s weak cold) := by
  simp [State.senseAll]

@[simp] theorem State.writeSlot_memory (s : State) : KeptMemory s (State.writeSlot s) := by
  simp [State.writeSlot]

@[simp] theorem State.enterMode_memory (s : State) (m : Mode) : KeptMemory s (State.enterMode s m) := by
  simp [State.enterMode]

@[simp] theorem State.dropLatches_memory (s : State) (gone : List (Nat × Session)) : KeptMemory s (State.dropLatches s gone) := by
  first
  | (simp [State.dropLatches]; done)
  | (unfold State.dropLatches; (try dsimp only); (repeat' split) <;> (try simp); done)
  | (unfold State.dropLatches; (try dsimp only); (repeat' split) <;> (try simp [*]); done)

@[simp] theorem State.endSessions_memory (s : State) (p : Session → Bool) : KeptMemory s (State.endSessions s p) := by
  simp [State.endSessions]

@[simp] theorem State.forgetSessions_memory (s : State) : KeptMemory s (State.forgetSessions s) := by
  first
  | (simp [State.forgetSessions]; done)
  | (unfold State.forgetSessions; (try dsimp only); (repeat' split) <;> (try simp); done)
  | (unfold State.forgetSessions; (try dsimp only); (repeat' split) <;> (try simp [*]); done)

@[simp] theorem State.endAtOnce_memory (s : State) (p : Session → Bool) : KeptMemory s (State.endAtOnce s p) := by
  first
  | (simp [State.endAtOnce]; done)
  | (unfold State.endAtOnce; (try dsimp only); (repeat' split) <;> (try simp); done)
  | (unfold State.endAtOnce; (try dsimp only); (repeat' split) <;> (try simp [*]); done)

@[simp] theorem State.safeDomains_memory (s : State) : KeptMemory s (State.safeDomains s) := by
  simp [State.safeDomains]

@[simp] theorem State.dmcSafe_memory (s : State) : KeptMemory s (State.dmcSafe s) := by
  simp [State.dmcSafe]

@[simp] theorem State.idleLanes_memory (s : State) : KeptMemory s (State.idleLanes s) := by
  simp [State.idleLanes]

@[simp] theorem State.sendSafe_memory (s : State) (src : Nat) : KeptMemory s (State.sendSafe s src) := by
  first
  | (simp [State.sendSafe]; done)
  | (unfold State.sendSafe; (try dsimp only); (repeat' split) <;> (try simp); done)
  | (unfold State.sendSafe; (try dsimp only); (repeat' split) <;> (try simp [*]); done)

@[simp] theorem State.setBoot_memory (s : State) (result : Nat) : KeptMemory s (State.setBoot s result) := by
  simp [State.setBoot]

@[simp] theorem State.safeStop_memory (s : State) (src : Nat) : KeptMemory s (State.safeStop s src) := by
  first
  | (simp [State.safeStop]; done)
  | (unfold State.safeStop; (try dsimp only); (repeat' split) <;> (try simp); done)
  | (unfold State.safeStop; (try dsimp only); (repeat' split) <;> (try simp [*]); done)

@[simp] theorem State.safeBoot_memory (s t : State) : KeptMemory t (State.safeBoot s t) := by
  unfold State.safeBoot
  split <;> simp

@[simp] theorem State.safeReaction_memory (s : State) (src : Nat) : KeptMemory s (State.safeReaction s src) := by
  simp [State.safeReaction]

@[simp] theorem State.fatal_memory (s : State) (src : Nat) (a : Nat) (b : Nat) (forced : optParam Bool false) : KeptMemory s (State.fatal s src a b forced) := by
  simp [State.fatal]

@[simp] theorem State.sessionReply_memory (s : State) (st : Status) (data : optParam (List Byte) []) : KeptMemory s (State.sessionReply s st data) := by
  simp [State.sessionReply]

@[simp] theorem State.pkTake_memory (s : State) : KeptMemory s (State.pkTake s) := by
  first
  | (simp [State.pkTake]; done)
  | (unfold State.pkTake; (try dsimp only); (repeat' split) <;> (try simp); done)
  | (unfold State.pkTake; (try dsimp only); (repeat' split) <;> (try simp [*]); done)

@[simp] theorem State.issueNonce_memory (s : State) (path : Nat) : KeptMemory s (State.issueNonce s path) := by
  simp [State.issueNonce]

@[simp] theorem State.opNonce_memory (s : State) (r : Req) : KeptMemory s (State.opNonce s r) := by
  unfold State.opNonce; (try dsimp only); (repeat' split) <;> (try simp)

theorem execNonce_memory (r : Req) (s : State) (t : State) (h : (execNonce r s) = .next t) : KeptMemory s t := by
  simp only [execNonce, Host.Outcome.next.injEq] at h; subst h; simp

theorem execNonceExpire_memory (p : Path) (s : State) (t : State) (h : (execNonceExpire p s) = .next t) : KeptMemory s t := by
  unfold execNonceExpire at h; (try dsimp only at h); (repeat' split at h) <;> (try simp only [Host.Outcome.next.injEq, reduceCtorEq] at h) <;> (try subst h) <;> (try simp)

@[simp] theorem State.consumeNonce_memory (s : State) (r : Req) (ext : List Byte) : KeptMemory s (State.consumeNonce s r ext) := by
  unfold State.consumeNonce; (try dsimp only); (repeat' split) <;> (try simp)

@[simp] theorem State.openFailed_memory (s : State) (path : Nat) : KeptMemory s (State.openFailed s path) := by
  simp [State.openFailed]

@[simp] theorem State.openSession_memory (s : State) (r : Req) (ext : List Byte) (key : List Byte) : KeptMemory s (State.openSession s r ext key) := by
  simp [State.openSession]

@[simp] theorem State.openTakes_memory (s : State) (r : Req) (ext : List Byte) : KeptMemory s (State.openTakes s r ext) := by
  first
  | (simp [State.openTakes]; done)
  | (unfold State.openTakes; (try dsimp only); (repeat' split) <;> (try simp); done)
  | (unfold State.openTakes; (try dsimp only); (repeat' split) <;> (try simp [*]); done)

@[simp] theorem State.opOpen_memory (s : State) (r : Req) (ext : List Byte) : KeptMemory s (State.opOpen s r ext) := by
  unfold State.opOpen; (try dsimp only); (repeat' split) <;> (try simp)

theorem execSessionOpen_memory (r : Req) (ext : List Byte) (s : State) (t : State) (h : (execSessionOpen r ext s) = .next t) : KeptMemory s t := by
  simp only [execSessionOpen, Host.Outcome.next.injEq] at h; subst h; simp

@[simp] theorem State.opClose_memory (s : State) (r : Req) : KeptMemory s (State.opClose s r) := by
  unfold State.opClose; (try dsimp only); (repeat' split) <;> (try simp)

theorem execSessionClose_memory (r : Req) (s : State) (t : State) (h : (execSessionClose r s) = .next t) : KeptMemory s t := by
  simp only [execSessionClose, Host.Outcome.next.injEq] at h; subst h; simp

@[simp] theorem State.opEvict_memory (s : State) (r : Req) (ext : List Byte) : KeptMemory s (State.opEvict s r ext) := by
  unfold State.opEvict; (try dsimp only); (repeat' split) <;> (try simp)

theorem execEvict_memory (r : Req) (ext : List Byte) (s : State) (t : State) (h : (execEvict r ext s) = .next t) : KeptMemory s t := by
  simp only [execEvict, Host.Outcome.next.injEq] at h; subst h; simp

theorem execSessionIdleTimeout_memory (slot : Fin 16) (s : State) (t : State) (h : (execSessionIdleTimeout slot s) = .next t) : KeptMemory s t := by
  unfold execSessionIdleTimeout at h; (try dsimp only at h); (repeat' split at h) <;> (try simp only [Host.Outcome.next.injEq, reduceCtorEq] at h) <;> (try subst h) <;> (try simp)

@[simp] theorem State.opIdentity_memory (s : State) (r : Req) : KeptMemory s (State.opIdentity s r) := by
  unfold State.opIdentity; (try dsimp only); (repeat' split) <;> (try simp)

theorem execIdentity_memory (r : Req) (s : State) (t : State) (h : (execIdentity r s) = .next t) : KeptMemory s t := by
  simp only [execIdentity, Host.Outcome.next.injEq] at h; subst h; simp

@[simp] theorem State.opAttest_memory (s : State) (r : Req) (hnonce : List Byte) : KeptMemory s (State.opAttest s r hnonce) := by
  unfold State.opAttest; (try dsimp only); (repeat' split) <;> (try simp)

theorem execAttest_memory (r : Req) (hnonce : List Byte) (s : State) (t : State) (h : (execAttest r hnonce s) = .next t) : KeptMemory s t := by
  simp only [execAttest, Host.Outcome.next.injEq] at h; subst h; simp

@[simp] theorem State.opEnroll_memory (s : State) (r : Req) : KeptMemory s (State.opEnroll s r) := by
  unfold State.opEnroll; (try dsimp only); (repeat' split) <;> (try simp)

theorem execEnroll_memory (r : Req) (s : State) (t : State) (h : (execEnroll r s) = .next t) : KeptMemory s t := by
  simp only [execEnroll, Host.Outcome.next.injEq] at h; subst h; simp

@[simp] theorem State.dbgWrite_memory (s : State) (r : Req) (v : Word) : KeptMemory s (State.dbgWrite s r v) := by
  simp [State.dbgWrite]

theorem execDebugUnlock_memory (r : Req) (v : Word) (s : State) (t : State) (h : (execDebugUnlock r v s) = .next t) : KeptMemory s t := by
  simp only [execDebugUnlock, Host.Outcome.next.injEq] at h; subst h; simp

theorem execSecFatal_memory (cause : Fin 5) (s : State) (t : State) (h : (execSecFatal cause s) = .next t) : KeptMemory s t := by
  unfold execSecFatal at h; (try dsimp only at h); (repeat' split at h) <;> (try simp only [Host.Outcome.next.injEq, reduceCtorEq] at h) <;> (try subst h) <;> (try simp)

@[simp] theorem State.setSession_memory (s : State) (slot : Nat) (x : Session) : KeptMemory s (State.setSession s slot x) := by
  simp [State.setSession]

@[simp] theorem State.tagFailed_memory (s : State) (slot : Nat) (x : Session) (chain : Nat) : KeptMemory s (State.tagFailed s slot x chain) := by
  simp [State.tagFailed]

@[simp] theorem State.tagCheck_memory (s : State) (path : Nat) (p : Packet) : KeptMemory s (State.tagCheck s path p).1 := by
  unfold State.tagCheck; (try dsimp only); (repeat' split) <;> (try simp)

@[simp] theorem State.tagPacket_memory (s : State) (slot : Nat) (x : Session) (p : Packet) : KeptMemory s (State.tagPacket s slot x p).1 := by
  unfold State.tagPacket; (try dsimp only); (repeat' split) <;> (try simp)

@[simp] theorem State.servingFor_memory (s : State) (sess : Option (Nat × Session)) : KeptMemory s (State.servingFor s sess) := by
  first
  | (simp [State.servingFor]; done)
  | (unfold State.servingFor; (try dsimp only); (repeat' split) <;> (try simp); done)
  | (unfold State.servingFor; (try dsimp only); (repeat' split) <;> (try simp [*]); done)

@[simp] theorem State.servingDone_memory (s : State) : KeptMemory s (State.servingDone s) := by
  first
  | (simp [State.servingDone]; done)
  | (unfold State.servingDone; (try dsimp only); (repeat' split) <;> (try simp); done)
  | (unfold State.servingDone; (try dsimp only); (repeat' split) <;> (try simp [*]); done)

@[simp] theorem State.sendTagged_memory (s : State) (k : Nat) (e : Nat × Session) (p : Packet) (conf : Bool) : KeptMemory s (State.sendTagged s k e p conf) := by
  first
  | (simp [State.sendTagged]; done)
  | (unfold State.sendTagged; (try dsimp only); (repeat' split) <;> (try simp); done)
  | (unfold State.sendTagged; (try dsimp only); (repeat' split) <;> (try simp [*]); done)

@[simp] theorem State.answerWith_memory (s : State) (k : Nat) (sess : Option (Nat × Session)) (p : Packet) (conf : optParam Bool true) : KeptMemory s (State.answerWith s k sess p conf) := by
  unfold State.answerWith; (try dsimp only); (repeat' split) <;> (try simp)

@[simp] theorem State.sendEmpty_memory (s : State) (k : Nat) (type : Nat) (label : Nat) (rid : Nat) (sess : Option (Nat × Session)) (st : Status) : KeptMemory s (State.sendEmpty s k type label rid sess st) := by
  simp [State.sendEmpty]

@[simp] theorem State.sendFragments_memory (s : State) (k : Nat) (label : Nat) (rid : Nat) (sess : Option (Nat × Session)) (st : Status) (conf : Bool) (y7 : Nat) (y8 : List (List Byte)) : KeptMemory s (State.sendFragments s k label rid sess st conf y7 y8) := by
  induction y8 generalizing s k label rid sess st conf y7 <;> unfold State.sendFragments <;> (try dsimp only) <;> (repeat' split) <;> (try simp [*])

@[simp] theorem State.answerBrd_memory (s : State) (j : BrdJob) : KeptMemory s (State.answerBrd s j) := by
  first
  | (simp [State.answerBrd]; done)
  | (unfold State.answerBrd; (try dsimp only); (repeat' split) <;> (try simp); done)
  | (unfold State.answerBrd; (try dsimp only); (repeat' split) <;> (try simp [*]); done)

@[simp] theorem State.deliver_memory (s : State) (id : Nat) (slot : Nat) (w : JobCw) : KeptMemory s (State.deliver s id slot w) := by
  first
  | (simp [State.deliver]; done)
  | (unfold State.deliver; (try dsimp only); (repeat' split) <;> (try simp); done)
  | (unfold State.deliver; (try dsimp only); (repeat' split) <;> (try simp [*]); done)

@[simp] theorem State.loseEntry_memory (s : State) (d : Nat) : KeptMemory s (State.loseEntry s d) := by
  simp [State.loseEntry]

@[simp] theorem State.loseMap_memory (s : State) (d : Nat) : KeptMemory s (State.loseMap s d) := by
  unfold State.loseMap; (try dsimp only); (repeat' split) <;> (try simp)

@[simp] theorem State.damaged_memory (s : State) (d : Nat) : KeptMemory s (State.damaged s d) := by
  simp [State.damaged]

@[simp] theorem State.losePool_memory (s : State) (p : Nat) : KeptMemory s (State.losePool s p) := by
  unfold State.losePool
  dsimp only
  refine KeptMemory_trans ?_ (foldl_memory _ _ _ (fun t x => ?_))
  · simp
  · cases Tab.look t.cad.domains x <;> simp

@[simp] theorem State.readerFails_memory (s : State) (reader : Reader) : KeptMemory s (State.readerFails s reader) := by
  unfold State.readerFails; (try dsimp only); (repeat' split) <;> (try simp)

@[simp] theorem State.latMax_memory (s : State) (c : Nat) (n : Nat) : KeptMemory s (State.latMax s c n) := by
  first
  | (simp [State.latMax]; done)
  | (unfold State.latMax; (try dsimp only); (repeat' split) <;> (try simp); done)
  | (unfold State.latMax; (try dsimp only); (repeat' split) <;> (try simp [*]); done)

@[simp] theorem State.preemptWaiting_memory (s : State) (c : Nat) : KeptMemory s (State.preemptWaiting s c) := by
  first
  | (simp [State.preemptWaiting]; done)
  | (unfold State.preemptWaiting; (try dsimp only); (repeat' split) <;> (try simp); done)
  | (unfold State.preemptWaiting; (try dsimp only); (repeat' split) <;> (try simp [*]); done)

@[simp] theorem State.lateHit_memory (s : State) (c : Nat) (late : Bool) : KeptMemory s (State.lateHit s c late) := by
  simp [State.lateHit]

@[simp] theorem State.refreshTick_memory (s0 : State) (c : Nat) : KeptMemory s0 (State.refreshTick s0 c) := by
  simp [State.refreshTick]

theorem execRefreshTick_memory (c : Fin 32) (s : State) (t : State) (h : (execRefreshTick c s) = .next t) : KeptMemory s t := by
  simp only [execRefreshTick, Host.Outcome.next.injEq] at h; subst h; simp

@[simp] theorem State.pullIn_memory (s : State) (c : Nat) : KeptMemory s (State.pullIn s c) := by
  simp [State.pullIn]

theorem execPullInRefresh_memory (c : Fin 32) (s : State) (t : State) (h : (execPullInRefresh c s) = .next t) : KeptMemory s t := by
  simp only [execPullInRefresh, Host.Outcome.next.injEq] at h; subst h; simp

@[simp] theorem State.closeRow_memory (s : State) (c : Nat) (bank : Nat) : KeptMemory s (State.closeRow s c bank) := by
  first
  | (simp [State.closeRow]; done)
  | (unfold State.closeRow; (try dsimp only); (repeat' split) <;> (try simp); done)
  | (unfold State.closeRow; (try dsimp only); (repeat' split) <;> (try simp [*]); done)

theorem execRowIdlePrecharge_memory (c : Fin 32) (b : Fin 32) (s : State) (t : State) (h : execRowIdlePrecharge c b s = .next t) : KeptMemory s t := by
  unfold execRowIdlePrecharge at h
  split at h <;> (simp only [Host.Outcome.next.injEq] at h; subst h; simp)

@[simp] theorem State.dueMerge_memory (s : State) (c : Nat) (a : Nat) : KeptMemory s (State.dueMerge s c a) := by
  first
  | (simp [State.dueMerge]; done)
  | (unfold State.dueMerge; (try dsimp only); (repeat' split) <;> (try simp); done)
  | (unfold State.dueMerge; (try dsimp only); (repeat' split) <;> (try simp [*]); done)

@[simp] theorem State.reissue_memory (s : State) (c : Nat) (back : Nat) : KeptMemory s (State.reissue s c back) := by
  first
  | (simp [State.reissue]; done)
  | (unfold State.reissue; (try dsimp only); (repeat' split) <;> (try simp); done)
  | (unfold State.reissue; (try dsimp only); (repeat' split) <;> (try simp [*]); done)

@[simp] theorem State.fullCal_memory (s : State) (r : CalResult) (point : Nat) : KeptMemory s (State.fullCal s r point) := by
  simp [State.fullCal]

@[simp] theorem State.orderTransit_memory (s : State) (point : Nat) (ticks : Nat) (cal : CalResult) : KeptMemory s (State.orderTransit s point ticks cal) := by
  first
  | (simp [State.orderTransit]; done)
  | (unfold State.orderTransit; (try dsimp only); (repeat' split) <;> (try simp); done)
  | (unfold State.orderTransit; (try dsimp only); (repeat' split) <;> (try simp [*]); done)

@[simp] theorem State.stepTransit_memory (s : State) (m : Transit) (step : Nat) : KeptMemory s (State.stepTransit s m step) := by
  first
  | (simp [State.stepTransit]; done)
  | (unfold State.stepTransit; (try dsimp only); (repeat' split) <;> (try simp); done)
  | (unfold State.stepTransit; (try dsimp only); (repeat' split) <;> (try simp [*]); done)

@[simp] theorem State.transitSleep_memory (s : State) : KeptMemory s (State.transitSleep s) := by
  first
  | (simp [State.transitSleep]; done)
  | (unfold State.transitSleep; (try dsimp only); (repeat' split) <;> (try simp); done)
  | (unfold State.transitSleep; (try dsimp only); (repeat' split) <;> (try simp [*]); done)

@[simp] theorem State.transitWake_memory (s : State) : KeptMemory s (State.transitWake s) := by
  first
  | (simp [State.transitWake]; done)
  | (unfold State.transitWake; (try dsimp only); (repeat' split) <;> (try simp); done)
  | (unfold State.transitWake; (try dsimp only); (repeat' split) <;> (try simp [*]); done)

@[simp] theorem State.transitDone_memory (s : State) : KeptMemory s (State.transitDone s) := by
  first
  | (simp [State.transitDone]; done)
  | (unfold State.transitDone; (try dsimp only); (repeat' split) <;> (try simp); done)
  | (unfold State.transitDone; (try dsimp only); (repeat' split) <;> (try simp [*]); done)

@[simp] theorem State.transitStep_memory (s : State) : KeptMemory s (State.transitStep s) := by
  first
  | (simp [State.transitStep]; done)
  | (unfold State.transitStep; (try dsimp only); (repeat' split) <;> (try simp); done)
  | (unfold State.transitStep; (try dsimp only); (repeat' split) <;> (try simp [*]); done)

theorem execTransitStart_memory (ticks : Nat) (cal : CalResult) (s : State) (t : State) (h : (execTransitStart ticks cal s) = .next t) : KeptMemory s t := by
  unfold execTransitStart at h; (try dsimp only at h); (repeat' split at h) <;> (try simp only [Host.Outcome.next.injEq, reduceCtorEq] at h) <;> (try subst h) <;> (try simp)

@[simp] theorem State.holdPoint_memory (s : State) (p : Nat) : KeptMemory s (State.holdPoint s p) := by
  simp [State.holdPoint]

theorem execDmcFreqReq_memory (r : Req) (v : Word) (s : State) (t : State) (h : (execDmcFreqReq r v s) = .next t) : KeptMemory s t := by
  simp only [execDmcFreqReq, Host.Outcome.next.injEq] at h; subst h; simp

@[simp] theorem State.hotpos_memory (s : State) (c : Nat) (k : Nat) : KeptMemory s (State.hotpos s c k) := by
  unfold State.hotpos; (try dsimp only); (repeat' split) <;> (try simp)

theorem execHotpos_memory (c : Fin 32) (sym : Fin 36) (s : State) (t : State) (h : (execHotpos c sym s) = .next t) : KeptMemory s t := by
  simp only [execHotpos, Host.Outcome.next.injEq] at h; subst h; simp

theorem execEccInjArm_memory (r : Req) (v : Word) (s : State) (t : State) (h : (execEccInjArm r v s) = .next t) : KeptMemory s t := by
  simp only [execEccInjArm, Host.Outcome.next.injEq] at h; subst h; simp

@[simp] theorem State.startLeg_memory (s0 : State) (b : Nat) : KeptMemory s0 (State.startLeg s0 b) := by
  unfold State.startLeg; (try dsimp only); (repeat' split) <;> (try simp)

@[simp] theorem State.nextDram_memory (s : State) (c : Nat) : KeptMemory s (State.nextDram s c).2 := by
  unfold State.nextDram; (try dsimp only); (repeat' split) <;> (try simp)

@[simp] theorem State.nextBase_memory (s : State) : KeptMemory s (State.nextBase s).2 := by
  unfold State.nextBase; (try dsimp only); (repeat' split) <;> (try simp)

/-- A leg's start keeps them where the schedule before it did. -/
theorem State.tryLeg_memory (s : State) (n : Nat × State) (h : KeptMemory s n.2) : KeptMemory s (State.tryLeg s n) := by
  unfold State.tryLeg
  split
  · simp
  · split
    · simp_all
    · simp_all

@[simp] theorem State.nextFull_memory (s : State) : KeptMemory s (State.nextFull s).2 := by
  first
  | (simp [State.nextFull]; done)
  | (unfold State.nextFull; (try dsimp only); (repeat' split) <;> (try simp); done)
  | (unfold State.nextFull; (try dsimp only); (repeat' split) <;> (try simp [*]); done)

/-- A leg of a full-stack self-test keeps them where the choice before it did. -/
theorem State.tryFull_memory (s : State) (n : Nat × State) (h : KeptMemory s n.2) : KeptMemory s (State.tryFull s n) := by
  unfold State.tryFull
  repeat' split
  all_goals simp_all

theorem execLegStart_memory (w : LegWho) (s : State) (t : State) (h : (execLegStart w s) = .next t) : KeptMemory s t := by
  unfold execLegStart at h
  repeat' split at h
  all_goals first
    | (simp only [Host.Outcome.next.injEq] at h; subst h; simp; done)
    | (simp only [Host.Outcome.next.injEq] at h; subst h; exact State.tryLeg_memory _ _ (by simp))
    | (simp only [Host.Outcome.next.injEq] at h; subst h; exact State.tryFull_memory _ _ (by simp))

@[simp] theorem State.sramFailed_memory (s : State) (b : Nat) : KeptMemory s (State.sramFailed s b) := by
  simp [State.sramFailed]

@[simp] theorem State.vxuFailed_memory (s : State) (u : Nat) : KeptMemory s (State.vxuFailed s u) := by
  simp [State.vxuFailed]

@[simp] theorem State.engineFails_memory (s : State) (e : Nat) (d : Nat) : KeptMemory s (State.engineFails s e d) := by
  simp [State.engineFails]

theorem execLegBudgetExpire_memory (block : BitVec 32) (tally : BitVec 32) (s : State) (t : State) (h : (execLegBudgetExpire block tally s) = .next t) : KeptMemory s t := by
  unfold execLegBudgetExpire at h; (try dsimp only at h); (repeat' split at h) <;> (try simp only [Host.Outcome.next.injEq, reduceCtorEq] at h) <;> (try subst h) <;> (try simp)

theorem execClkBundleLost_memory (g : Fin 4) (b : Fin 2) (s : State) (t : State) (h : (execClkBundleLost g b s) = .next t) : KeptMemory s t := by
  simp only [execClkBundleLost, Host.Outcome.next.injEq] at h; subst h; simp

@[simp] theorem State.parcelLost_memory (s : State) (parcel : Nat) (ch : Nat) : KeptMemory s (State.parcelLost s parcel ch) := by
  simp [State.parcelLost]

@[simp] theorem State.putMoved_memory (s : State) (ref : Nat) (m : MovedSlice) : KeptMemory s (State.putMoved s ref m) := by
  simp [State.putMoved]

@[simp] theorem State.loseSlice_memory (s : State) (c : Nat) (ref : Nat) : KeptMemory s (State.loseSlice s c ref) := by
  simp [State.loseSlice]

@[simp] theorem State.salvageEnds_memory (s : State) (v : Salvage) : KeptMemory s (State.salvageEnds s v) := by
  simp [State.salvageEnds]

@[simp] theorem State.startFulltest_memory (s : State) (inLoad : Bool) : KeptMemory s (State.startFulltest s inLoad) := by
  simp [State.startFulltest]

theorem execFulltest_memory (r : Req) (s : State) (t : State) (h : (execFulltest r s) = .next t) : KeptMemory s t := by
  simp only [execFulltest, Host.Outcome.next.injEq] at h; subst h; simp

theorem execFulltestDone_memory (s : State) (t : State) (h : (execFulltestDone s) = .next t) : KeptMemory s t := by
  unfold execFulltestDone at h; (try dsimp only at h); (repeat' split at h) <;> (try simp only [Host.Outcome.next.injEq, reduceCtorEq] at h) <;> (try subst h) <;> (try simp)

theorem execAbortFulltest_memory (r : Req) (s : State) (t : State) (h : (execAbortFulltest r s) = .next t) : KeptMemory s t := by
  simp only [execAbortFulltest, Host.Outcome.next.injEq] at h; subst h; simp

theorem execFuseCommit_memory (r : Req) (s : State) (t : State) (h : (execFuseCommit r s) = .next t) : KeptMemory s t := by
  simp only [execFuseCommit, Host.Outcome.next.injEq] at h; subst h; simp

theorem execLegCmd_memory (r : Req) (s : State) (t : State) (h : (execLegCmd r s) = .next t) : KeptMemory s t := by
  simp only [execLegCmd, Host.Outcome.next.injEq] at h; subst h; simp

@[simp] theorem State.calValue_memory (s : State) (c : Nat) (kind : Nat) (lane : Nat) (v : Nat) : KeptMemory s (State.calValue s c kind lane v) := by
  simp [State.calValue]

@[simp] theorem State.calStep_memory (s : State) (c : Nat) (values : List (Nat × Nat)) : KeptMemory s (State.calStep s c values) := by
  unfold State.calStep
  dsimp only
  refine KeptMemory_trans (t := List.foldl _ s _) (foldl_memory _ _ s ?_)
    (KeptMemory_trans (t := State.setChan _ c _) (State.setChan_memory _ _ _) (State.inc64_memory _ _ _))
  intro t x
  split <;> simp

theorem execCalStep_memory (c : Fin 32) (values : List (Nat × Nat)) (s : State) (t : State) (h : (execCalStep c values s) = .next t) : KeptMemory s t := by
  unfold execCalStep at h; (try dsimp only at h); (repeat' split at h) <;> (try simp only [Host.Outcome.next.injEq, reduceCtorEq] at h) <;> (try subst h) <;> (try simp)

theorem execCalStepForced_memory (c : Fin 32) (values : List (Nat × Nat)) (s : State) (t : State) (h : (execCalStepForced c values s) = .next t) : KeptMemory s t := by
  unfold execCalStepForced at h; (try dsimp only at h); (repeat' split at h) <;> (try simp only [Host.Outcome.next.injEq, reduceCtorEq] at h) <;> (try subst h) <;> (try simp)

@[simp] theorem State.tapMove_memory (s : State) (c : Nat) (kind : Nat) (lane : Nat) : KeptMemory s (State.tapMove s c kind lane) := by
  unfold State.tapMove; (try dsimp only); (repeat' split) <;> (try simp)

theorem execCalTapMove_memory (c : Fin 32) (kind : Fin 4) (lane : Fin 78) (s : State) (t : State) (h : (execCalTapMove c kind lane s) = .next t) : KeptMemory s t := by
  unfold execCalTapMove at h; (try dsimp only at h); (repeat' split at h) <;> (try simp only [Host.Outcome.next.injEq, reduceCtorEq] at h) <;> (try subst h) <;> (try simp)

@[simp] theorem State.pd13_memory (s : State) (x : PwrState) : KeptMemory s (State.pd13 s x) := by
  simp [State.pd13]

@[simp] theorem State.manufactured_memory (s : State) (made : List (Nat × DWord)) : KeptMemory s (State.manufactured s made) := by
  simp [State.manufactured]

theorem execSense_memory (why : SenseWhy) (weak : List (Fin 1024 × BitVec 64)) (s : State) (t : State) (h : (execSense why weak s) = .next t) : KeptMemory s t := by
  unfold execSense at h; (try dsimp only at h); (repeat' split at h) <;> (try simp only [Host.Outcome.next.injEq, reduceCtorEq] at h) <;> (try subst h) <;> (try simp)

theorem execReinforce_memory (r : Req) (s : State) (t : State) (h : (execReinforce r s) = .next t) : KeptMemory s t := by
  simp only [execReinforce, Host.Outcome.next.injEq] at h; subst h; simp

@[simp] theorem State.setSlock_memory (s : State) (n : Nat) : KeptMemory s (State.setSlock s n) := by
  unfold State.setSlock; (try dsimp only); (repeat' split) <;> (try simp)

theorem execFseSlock_memory (r : Req) (n : Fin 16) (v : Word) (s : State) (t : State) (h : (execFseSlock r n v s) = .next t) : KeptMemory s t := by
  simp only [execFseSlock, Host.Outcome.next.injEq] at h; subst h; simp

@[simp] theorem State.exclude_memory (s : State) (n : Nat) : KeptMemory s (State.exclude s n) := by
  simp [State.exclude]

@[simp] theorem State.modelOnly_memory (s : State) (u : Nat) : KeptMemory s (State.modelOnly s u) := by
  simp [State.modelOnly]

@[simp] theorem State.exclusion_memory (s : State) : KeptMemory s (State.exclusion s) := by
  simp [State.exclusion]

@[simp] theorem State.updateModel_memory (s : State) (m : Thermals) : KeptMemory s (State.updateModel s m) := by
  simp [State.updateModel]

@[simp] theorem State.setLevel_memory (s : State) (new : Nat) (u : Nat) : KeptMemory s (State.setLevel s new u) := by
  simp [State.setLevel]

@[simp] theorem State.throttle_memory (s : State) : KeptMemory s (State.throttle s) := by
  simp [State.throttle]

@[simp] theorem State.throttleStep_memory (s : State) : KeptMemory s (State.throttleStep s) := by
  simp [State.throttleStep]

theorem execThrottleStep_memory (s : State) (t : State) (h : (execThrottleStep s) = .next t) : KeptMemory s t := by
  unfold execThrottleStep at h; (try dsimp only at h); (repeat' split at h) <;> (try simp only [Host.Outcome.next.injEq, reduceCtorEq] at h) <;> (try subst h) <;> (try simp)

@[simp] theorem State.warnMoves_memory (s : State) (base : Bool) (old : Bool) (new : Bool) : KeptMemory s (State.warnMoves s base old new) := by
  first
  | (simp [State.warnMoves]; done)
  | (unfold State.warnMoves; (try dsimp only); (repeat' split) <;> (try simp); done)
  | (unfold State.warnMoves; (try dsimp only); (repeat' split) <;> (try simp [*]); done)

@[simp] theorem State.warning_memory (s : State) : KeptMemory s (State.warning s) := by
  simp [State.warning]

@[simp] theorem State.followTarget_memory (s : State) : KeptMemory s (State.followTarget s) := by
  unfold State.followTarget; (try dsimp only); (repeat' split) <;> (try simp)

@[simp] theorem State.bandStep_memory (s : State) : KeptMemory s (State.bandStep s) := by
  simp [State.bandStep]

@[simp] theorem State.intervalStep_memory (s : State) : KeptMemory s (State.intervalStep s) := by
  simp [State.intervalStep]

@[simp] theorem State.takeReadings_memory (s : State) (m : Thermals) : KeptMemory s (State.takeReadings s m) := by
  simp [State.takeReadings]

@[simp] theorem State.takeRails_memory (s : State) (m : Thermals) : KeptMemory s (State.takeRails s m) := by
  simp [State.takeRails]

theorem execFasterPointTimer_memory (s : State) (t : State) (h : (execFasterPointTimer s) = .next t) : KeptMemory s t := by
  unfold execFasterPointTimer at h; (try dsimp only at h); (repeat' split at h) <;> (try simp only [Host.Outcome.next.injEq, reduceCtorEq] at h) <;> (try subst h) <;> (try simp)

theorem execRailPeak_memory (r : Fin 6) (mA : BitVec 16) (s : State) (t : State) (h : execRailPeak r mA s = .next t) : KeptMemory s t := by
  unfold execRailPeak at h
  split at h <;> (simp only [Host.Outcome.next.injEq] at h; subst h; simp)

@[simp] theorem State.clearPeaks_memory (s : State) : KeptMemory s (State.clearPeaks s) := by
  simp [State.clearPeaks]

theorem execClearPeak_memory (r : Req) (s : State) (t : State) (h : (execClearPeak r s) = .next t) : KeptMemory s t := by
  simp only [execClearPeak, Host.Outcome.next.injEq] at h; subst h; simp

theorem execMgcWatchdog_memory (core : Fin 4) (s : State) (t : State) (h : (execMgcWatchdog core s) = .next t) : KeptMemory s t := by
  unfold execMgcWatchdog at h; (try dsimp only at h); (repeat' split at h) <;> (try simp only [Host.Outcome.next.injEq, reduceCtorEq] at h) <;> (try subst h) <;> (try simp)

@[simp] theorem State.copyEntry_memory (s : State) (e : HistEntry) : KeptMemory s (State.copyEntry s e) := by
  simp [State.copyEntry]

@[simp] theorem State.ledgerCopy_memory (s : State) (e : HistEntry) (bad : Option Nat) : KeptMemory s (State.ledgerCopy s e bad) := by
  unfold State.ledgerCopy; (try dsimp only); (repeat' split) <;> (try simp)

theorem execLedgerCopy_memory (bad : Option (BitVec 32)) (s : State) (t : State) (h : (execLedgerCopy bad s) = .next t) : KeptMemory s t := by
  unfold execLedgerCopy at h; (try dsimp only at h); (repeat' split at h) <;> (try simp only [Host.Outcome.next.injEq, reduceCtorEq] at h) <;> (try subst h) <;> (try simp)

theorem execAckAlertn_memory (r : Req) (s : State) (t : State) (h : (execAckAlertn r s) = .next t) : KeptMemory s t := by
  simp only [execAckAlertn, Host.Outcome.next.injEq] at h; subst h; simp

theorem execClearAll_memory (r : Req) (s : State) (t : State) (h : (execClearAll r s) = .next t) : KeptMemory s t := by
  simp only [execClearAll, Host.Outcome.next.injEq] at h; subst h; simp

theorem execFltForce_memory (r : Req) (i : Fin 4) (v : Word) (s : State) (t : State) (h : (execFltForce r i v s) = .next t) : KeptMemory s t := by
  simp only [execFltForce, Host.Outcome.next.injEq] at h; subst h; simp

@[simp] theorem State.budget_memory (s : State) : KeptMemory s (State.budget s) := by
  simp [State.budget]

@[simp] theorem State.trialTick_memory (s : State) : KeptMemory s (State.trialTick s) := by
  simp [State.trialTick]

theorem execAvailMsTick_memory (s0 : State) (t : State) (h : (execAvailMsTick s0) = .next t) : KeptMemory s0 t := by
  unfold execAvailMsTick at h; (try dsimp only at h); (repeat' split at h) <;> (try simp only [Host.Outcome.next.injEq, reduceCtorEq] at h) <;> (try subst h) <;> (try simp)

@[simp] theorem State.slotLost_memory (s : State) (w : Nat) : KeptMemory s (State.slotLost s w) := by
  first
  | (simp [State.slotLost]; done)
  | (unfold State.slotLost; (try dsimp only); (repeat' split) <;> (try simp); done)
  | (unfold State.slotLost; (try dsimp only); (repeat' split) <;> (try simp [*]); done)

theorem execAvailSlotWrite_memory (bad : Option (BitVec 32)) (s : State) (t : State) (h : execAvailSlotWrite bad s = .next t) : KeptMemory s t := by
  cases bad <;> (simp only [execAvailSlotWrite, Host.Outcome.next.injEq] at h; subst h; simp)

theorem execAvailBucketRoll_memory (s : State) (t : State) (h : (execAvailBucketRoll s) = .next t) : KeptMemory s t := by
  unfold execAvailBucketRoll at h; (try dsimp only at h); (repeat' split at h) <;> (try simp only [Host.Outcome.next.injEq, reduceCtorEq] at h) <;> (try subst h) <;> (try simp)

@[simp] theorem State.pmcClear_memory (s : State) (n : Nat) : KeptMemory s (State.pmcClear s n) := by
  simp [State.pmcClear]

@[simp] theorem State.pmcSelect_memory (s : State) (n : Nat) (v : Word) : KeptMemory s (State.pmcSelect s n v) := by
  simp [State.pmcSelect]

theorem execPmcSelWrite_memory (r : Req) (n : Fin 128) (v : Word) (s : State) (t : State) (h : (execPmcSelWrite r n v s) = .next t) : KeptMemory s t := by
  simp only [execPmcSelWrite, Host.Outcome.next.injEq] at h; subst h; simp

theorem execCounterWrap_memory (n : Fin 128) (inc : BitVec 48) (s : State) (t : State) (h : (execCounterWrap n inc s) = .next t) : KeptMemory s t := by
  unfold execCounterWrap at h; (try dsimp only at h); (repeat' split at h) <;> (try simp only [Host.Outcome.next.injEq, reduceCtorEq] at h) <;> (try subst h) <;> (try simp)

@[simp] theorem State.sampleLost_memory (s : State) : KeptMemory s (State.sampleLost s) := by
  simp [State.sampleLost]

@[simp] theorem State.takeSample_memory (s : State) (n : Nat) (skid : Nat) (x : SampleCtx) : KeptMemory s (State.takeSample s n skid x) := by
  first
  | (simp [State.takeSample]; done)
  | (unfold State.takeSample; (try dsimp only); (repeat' split) <;> (try simp); done)
  | (unfold State.takeSample; (try dsimp only); (repeat' split) <;> (try simp [*]); done)

theorem execPmcSample_memory (n : Fin 128) (skid : Option (Fin 16)) (s : State) (t : State) (h : (execPmcSample n skid s) = .next t) : KeptMemory s t := by
  unfold execPmcSample at h; (try dsimp only at h); (repeat' split at h) <;> (try simp only [Host.Outcome.next.injEq, reduceCtorEq] at h) <;> (try subst h) <;> (try simp)

@[simp] theorem State.vxuProgError_memory (s : State) (u : Nat) (word : Nat) : KeptMemory s (State.vxuProgError s u word) := by
  simp [State.vxuProgError]

@[simp] theorem State.vxuIntegrity_memory (s : State) (u : Nat) : KeptMemory s (State.vxuIntegrity s u) := by
  simp [State.vxuIntegrity]

@[simp] theorem State.vxuBadWord_memory (s : State) (u : Nat) (w : WordAt) : KeptMemory s (State.vxuBadWord s u w) := by
  unfold State.vxuBadWord; (try dsimp only); (repeat' split) <;> (try simp)

@[simp] theorem State.composeRun_memory (s : State) (u : Nat) (y2 : Nat) : KeptMemory s (State.composeRun s u y2) := by
  induction y2 generalizing s u <;> unfold State.composeRun <;> (try dsimp only) <;> (repeat' split) <;> (try simp [*])

@[simp] theorem State.sendVec_memory (s : State) (k : Nat) (label : Nat) (l : List (List Byte)) : KeptMemory s (State.sendVec s k label l) := by
  first
  | (simp [State.sendVec]; done)
  | (unfold State.sendVec; (try dsimp only); (repeat' split) <;> (try simp); done)
  | (unfold State.sendVec; (try dsimp only); (repeat' split) <;> (try simp [*]); done)

@[simp] theorem State.closePacket_memory (s : State) (u : Nat) : KeptMemory s (State.closePacket s u) := by
  simp [State.closePacket]

@[simp] theorem State.sendFrame_memory (s : State) (u : Nat) (b : List Byte) : KeptMemory s (State.sendFrame s u b) := by
  simp [State.sendFrame]

@[simp] theorem State.stopStream_memory (s : State) (u : Nat) (reason : Nat) (withEnd : Bool) : KeptMemory s (State.stopStream s u reason withEnd) := by
  simp [State.stopStream]

@[simp] theorem State.streamOver_memory (s : State) (u : Nat) : KeptMemory s (State.streamOver s u) := by
  first
  | (simp [State.streamOver]; done)
  | (unfold State.streamOver; (try dsimp only); (repeat' split) <;> (try simp); done)
  | (unfold State.streamOver; (try dsimp only); (repeat' split) <;> (try simp [*]); done)

@[simp] theorem State.composeAll_memory (s : State) (u : Nat) : KeptMemory s (State.composeAll s u) := by
  simp [State.composeAll]

@[simp] theorem State.streamLost_memory (s : State) (u : Nat) (k : Nat) : KeptMemory s (State.streamLost s u k) := by
  simp [State.streamLost]

@[simp] theorem State.dropOwed_memory (s : State) (k : Nat) : KeptMemory s (State.dropOwed s k) := by
  first
  | (simp [State.dropOwed]; done)
  | (unfold State.dropOwed; (try dsimp only); (repeat' split) <;> (try simp); done)
  | (unfold State.dropOwed; (try dsimp only); (repeat' split) <;> (try simp [*]); done)

@[simp] theorem State.endStreams_memory (s : State) (reason : Nat) : KeptMemory s (State.endStreams s reason) := by
  simp [State.endStreams]

@[simp] theorem State.sendData_memory (s : State) (u : Nat) (f : VecFrame) (rest : List VecFrame) : KeptMemory s (State.sendData s u f rest) := by
  simp [State.sendData]

@[simp] theorem State.sendStall_memory (s : State) (u : Nat) (gap : Bool) : KeptMemory s (State.sendStall s u gap) := by
  simp [State.sendStall]

@[simp] theorem State.underrun_memory (s : State) (u : Nat) : KeptMemory s (State.underrun s u) := by
  simp [State.underrun]

@[simp] theorem State.sendEnd_memory (s : State) (u : Nat) (reason : Nat) : KeptMemory s (State.sendEnd s u reason) := by
  simp [State.sendEnd]

@[simp] theorem State.sendPause_memory (s : State) (u : Nat) : KeptMemory s (State.sendPause s u) := by
  simp [State.sendPause]

@[simp] theorem State.sendOwed_memory (s : State) (u : Nat) (o : OwedEnd) (rest : List OwedEnd) : KeptMemory s (State.sendOwed s u o rest) := by
  simp [State.sendOwed]

@[simp] theorem State.boundStop_memory (s : State) (u : Nat) : KeptMemory s (State.boundStop s u) := by
  first
  | (simp [State.boundStop]; done)
  | (unfold State.boundStop; (try dsimp only); (repeat' split) <;> (try simp); done)
  | (unfold State.boundStop; (try dsimp only); (repeat' split) <;> (try simp [*]); done)

@[simp] theorem State.slotEmpty_memory (s : State) (u : Nat) : KeptMemory s (State.slotEmpty s u) := by
  first
  | (simp [State.slotEmpty]; done)
  | (unfold State.slotEmpty; (try dsimp only); (repeat' split) <;> (try simp); done)
  | (unfold State.slotEmpty; (try dsimp only); (repeat' split) <;> (try simp [*]); done)

@[simp] theorem State.slotSend_memory (s : State) (u : Nat) : KeptMemory s (State.slotSend s u) := by
  unfold State.slotSend; (try dsimp only); (repeat' split) <;> (try simp)

@[simp] theorem State.slotsSend_memory (s : State) (u : Nat) (y2 : Nat) : KeptMemory s (State.slotsSend s u y2) := by
  induction y2 generalizing s u <;> unfold State.slotsSend <;> (try dsimp only) <;> (repeat' split) <;> (try simp [*])

@[simp] theorem State.pacerCycle_memory (s : State) (u : Nat) : KeptMemory s (State.pacerCycle s u) := by
  unfold State.pacerCycle; (try dsimp only); (repeat' split) <;> (try simp)

@[simp] theorem State.pacerRun_memory (s : State) (u : Nat) (y2 : Nat) : KeptMemory s (State.pacerRun s u y2) := by
  induction y2 generalizing s u <;> unfold State.pacerRun <;> (try dsimp only) <;> (repeat' split) <;> (try simp [*])

theorem execVxuFrameSlot_memory (u : Fin 16) (cycles : Nat) (s : State) (t : State) (h : (execVxuFrameSlot u cycles s) = .next t) : KeptMemory s t := by
  simp only [execVxuFrameSlot, Host.Outcome.next.injEq] at h; subst h; simp

theorem execVecPacketClose_memory (u : Fin 16) (s : State) (t : State) (h : execVecPacketClose u s = .next t) : KeptMemory s t := by
  unfold execVecPacketClose at h
  split at h <;> (simp only [Host.Outcome.next.injEq] at h; subst h; simp)

@[simp] theorem State.vxuStart_memory (s : State) (u : Nat) : KeptMemory s (State.vxuStart s u) := by
  unfold State.vxuStart; (try dsimp only); (repeat' split) <;> (try simp)

@[simp] theorem State.vxuPause_memory (s0 : State) (u : Nat) : KeptMemory s0 (State.vxuPause s0 u) := by
  simp [State.vxuPause]

@[simp] theorem State.vxuResume_memory (s : State) (u : Nat) : KeptMemory s (State.vxuResume s u) := by
  simp [State.vxuResume]

@[simp] theorem State.vxuStop_memory (s : State) (u : Nat) : KeptMemory s (State.vxuStop s u) := by
  simp [State.vxuStop]

@[simp] theorem State.vxuDo_memory (s : State) (op : VxuOp) (u : Nat) : KeptMemory s (State.vxuDo s op u) := by
  unfold State.vxuDo; (try dsimp only); (repeat' split) <;> (try simp)

@[simp] theorem State.noteGcmd_memory (s : State) (sel : VxuSel) (op : VxuOp) : KeptMemory s (State.noteGcmd s sel op) := by
  unfold State.noteGcmd; (try dsimp only); (repeat' split) <;> (try simp)

@[simp] theorem State.vxuCmd_memory (s : State) (r : Req) (sel : VxuSel) (op : VxuOp) : KeptMemory s (State.vxuCmd s r sel op) := by
  simp [State.vxuCmd]

theorem execVxuStart_memory (r : Req) (sel : VxuSel) (s : State) (t : State) (h : (execVxuStart r sel s) = .next t) : KeptMemory s t := by
  simp only [execVxuStart, Host.Outcome.next.injEq] at h; subst h; simp

theorem execVxuPause_memory (r : Req) (sel : VxuSel) (s : State) (t : State) (h : (execVxuPause r sel s) = .next t) : KeptMemory s t := by
  simp only [execVxuPause, Host.Outcome.next.injEq] at h; subst h; simp

theorem execVxuResume_memory (r : Req) (sel : VxuSel) (s : State) (t : State) (h : (execVxuResume r sel s) = .next t) : KeptMemory s t := by
  simp only [execVxuResume, Host.Outcome.next.injEq] at h; subst h; simp

theorem execVxuStop_memory (r : Req) (sel : VxuSel) (s : State) (t : State) (h : (execVxuStop r sel s) = .next t) : KeptMemory s t := by
  simp only [execVxuStop, Host.Outcome.next.injEq] at h; subst h; simp

@[simp] theorem State.vxuCharge_memory (s : State) (u : Nat) (bytes : Nat) : KeptMemory s (State.vxuCharge s u bytes) := by
  simp [State.vxuCharge]

@[simp] theorem State.becomeReady_memory (s : State) (u : Nat) : KeptMemory s (State.becomeReady s u) := by
  first
  | (simp [State.becomeReady]; done)
  | (unfold State.becomeReady; (try dsimp only); (repeat' split) <;> (try simp); done)
  | (unfold State.becomeReady; (try dsimp only); (repeat' split) <;> (try simp [*]); done)

theorem execVxuReady_memory (u : Fin 16) (s : State) (t : State) (h : (execVxuReady u s) = .next t) : KeptMemory s t := by
  unfold execVxuReady at h; (try dsimp only at h); (repeat' split at h) <;> (try simp only [Host.Outcome.next.injEq, reduceCtorEq] at h) <;> (try subst h) <;> (try simp)

@[simp] theorem State.startMiss_memory (s : State) (u : Nat) : KeptMemory s (State.startMiss s u) := by
  simp [State.startMiss]

theorem execStartDeadlineExpire_memory (u : Fin 16) (s : State) (t : State) (h : (execStartDeadlineExpire u s) = .next t) : KeptMemory s t := by
  unfold execStartDeadlineExpire at h; (try dsimp only at h); (repeat' split at h) <;> (try simp only [Host.Outcome.next.injEq, reduceCtorEq] at h) <;> (try subst h) <;> (try simp)

theorem execStartMark_memory (u : Fin 16) (s : State) (t : State) (h : (execStartMark u s) = .next t) : KeptMemory s t := by
  unfold execStartMark at h; (try dsimp only at h); (repeat' split at h) <;> (try simp only [Host.Outcome.next.injEq, reduceCtorEq] at h) <;> (try subst h) <;> (try simp)

theorem execVxuBoundStop_memory (u : Fin 16) (s : State) (t : State) (h : (execVxuBoundStop u s) = .next t) : KeptMemory s t := by
  unfold execVxuBoundStop at h; (try dsimp only at h); (repeat' split at h) <;> (try simp only [Host.Outcome.next.injEq, reduceCtorEq] at h) <;> (try subst h) <;> (try simp)

@[simp] theorem State.vxuInstr_memory (s : State) (u : Nat) (op : Nat) (effect : DWord → VxuUnit → VxuUnit) : KeptMemory s (State.vxuInstr s u op effect) := by
  unfold State.vxuInstr; (try dsimp only); (repeat' split) <;> (try simp)

theorem execNop_memory (u : Fin 16) (s : State) (t : State) (h : (execNop u s) = .next t) : KeptMemory s t := by
  simp only [execNop, Host.Outcome.next.injEq] at h; subst h; simp

theorem execLit_memory (u : Fin 16) (s : State) (t : State) (h : (execLit u s) = .next t) : KeptMemory s t := by
  simp only [execLit, Host.Outcome.next.injEq] at h; subst h; simp

theorem execRlit_memory (u : Fin 16) (s : State) (t : State) (h : (execRlit u s) = .next t) : KeptMemory s t := by
  simp only [execRlit, Host.Outcome.next.injEq] at h; subst h; simp

theorem execTpl_memory (u : Fin 16) (s : State) (t : State) (h : (execTpl u s) = .next t) : KeptMemory s t := by
  simp only [execTpl, Host.Outcome.next.injEq] at h; subst h; simp

theorem execEmit_memory (u : Fin 16) (s : State) (t : State) (h : (execEmit u s) = .next t) : KeptMemory s t := by
  simp only [execEmit, Host.Outcome.next.injEq] at h; subst h; simp

theorem execEmits_memory (u : Fin 16) (s : State) (t : State) (h : (execEmits u s) = .next t) : KeptMemory s t := by
  simp only [execEmits, Host.Outcome.next.injEq] at h; subst h; simp

theorem execSetx_memory (u : Fin 16) (s : State) (t : State) (h : (execSetx u s) = .next t) : KeptMemory s t := by
  simp only [execSetx, Host.Outcome.next.injEq] at h; subst h; simp

theorem execAddx_memory (u : Fin 16) (s : State) (t : State) (h : (execAddx u s) = .next t) : KeptMemory s t := by
  simp only [execAddx, Host.Outcome.next.injEq] at h; subst h; simp

theorem execAndx_memory (u : Fin 16) (s : State) (t : State) (h : (execAndx u s) = .next t) : KeptMemory s t := by
  simp only [execAndx, Host.Outcome.next.injEq] at h; subst h; simp

theorem execOrx_memory (u : Fin 16) (s : State) (t : State) (h : (execOrx u s) = .next t) : KeptMemory s t := by
  simp only [execOrx, Host.Outcome.next.injEq] at h; subst h; simp

theorem execXorx_memory (u : Fin 16) (s : State) (t : State) (h : (execXorx u s) = .next t) : KeptMemory s t := by
  simp only [execXorx, Host.Outcome.next.injEq] at h; subst h; simp

theorem execCpyx_memory (u : Fin 16) (s : State) (t : State) (h : (execCpyx u s) = .next t) : KeptMemory s t := by
  simp only [execCpyx, Host.Outcome.next.injEq] at h; subst h; simp

theorem execXadd_memory (u : Fin 16) (s : State) (t : State) (h : (execXadd u s) = .next t) : KeptMemory s t := by
  simp only [execXadd, Host.Outcome.next.injEq] at h; subst h; simp

theorem execSetm_memory (u : Fin 16) (s : State) (t : State) (h : (execSetm u s) = .next t) : KeptMemory s t := by
  simp only [execSetm, Host.Outcome.next.injEq] at h; subst h; simp

theorem execField_memory (u : Fin 16) (s : State) (t : State) (h : (execField u s) = .next t) : KeptMemory s t := by
  simp only [execField, Host.Outcome.next.injEq] at h; subst h; simp

theorem execLoop_memory (u : Fin 16) (s : State) (t : State) (h : (execLoop u s) = .next t) : KeptMemory s t := by
  simp only [execLoop, Host.Outcome.next.injEq] at h; subst h; simp

theorem execEndl_memory (u : Fin 16) (s : State) (t : State) (h : (execEndl u s) = .next t) : KeptMemory s t := by
  simp only [execEndl, Host.Outcome.next.injEq] at h; subst h; simp

theorem execCall_memory (u : Fin 16) (s : State) (t : State) (h : (execCall u s) = .next t) : KeptMemory s t := by
  simp only [execCall, Host.Outcome.next.injEq] at h; subst h; simp

theorem execRet_memory (u : Fin 16) (s : State) (t : State) (h : (execRet u s) = .next t) : KeptMemory s t := by
  simp only [execRet, Host.Outcome.next.injEq] at h; subst h; simp

theorem execMark_memory (u : Fin 16) (s : State) (t : State) (h : (execMark u s) = .next t) : KeptMemory s t := by
  simp only [execMark, Host.Outcome.next.injEq] at h; subst h; simp

theorem execPausept_memory (u : Fin 16) (s : State) (t : State) (h : (execPausept u s) = .next t) : KeptMemory s t := by
  simp only [execPausept, Host.Outcome.next.injEq] at h; subst h; simp

theorem execEndProg_memory (u : Fin 16) (s : State) (t : State) (h : (execEndProg u s) = .next t) : KeptMemory s t := by
  simp only [execEndProg, Host.Outcome.next.injEq] at h; subst h; simp

@[simp] theorem State.acceptRecord_memory (s : State) (k : Nat) (l : List Byte) : KeptMemory s (State.acceptRecord s k l) := by
  simp [State.acceptRecord]

@[simp] theorem State.failPacket_memory (s : State) (k : Nat) (payload : List Byte) : KeptMemory s (State.failPacket s k payload) := by
  simp [State.failPacket]

theorem execFailPacket_memory (k : Fin 16) (payload : List Byte) (s : State) (t : State) (h : execFailPacket k payload s = .next t) : KeptMemory s t := by
  unfold execFailPacket at h
  split at h <;> (simp only [Host.Outcome.next.injEq] at h; subst h; simp)

@[simp] theorem State.orderRecord_memory (s : State) (f : FailRec) : KeptMemory s (State.orderRecord s f) := by
  simp [State.orderRecord]

@[simp] theorem State.gapExpire_memory (s : State) (src : Nat) : KeptMemory s (State.gapExpire s src) := by
  unfold State.gapExpire; (try dsimp only); (repeat' split) <;> (try simp)

theorem execGapTimerExpire_memory (src : Fin 256) (s : State) (t : State) (h : (execGapTimerExpire src s) = .next t) : KeptMemory s t := by
  unfold execGapTimerExpire at h; (try dsimp only at h); (repeat' split at h) <;> (try simp only [Host.Outcome.next.injEq, reduceCtorEq] at h) <;> (try subst h) <;> (try simp)

@[simp] theorem State.fold_memory (s : State) (r : Released) : KeptMemory s (State.fold s r) := by
  unfold State.fold; (try dsimp only); (repeat' split) <;> (try simp)

theorem execFoldRecord_memory (s : State) (t : State) (h : (execFoldRecord s) = .next t) : KeptMemory s t := by
  unfold execFoldRecord at h; (try dsimp only at h); (repeat' split at h) <;> (try simp only [Host.Outcome.next.injEq, reduceCtorEq] at h) <;> (try subst h) <;> (try simp)

theorem execResync_memory (r : Req) (src : Fin 256) (s : State) (t : State) (h : (execResync r src s) = .next t) : KeptMemory s t := by
  simp only [execResync, Host.Outcome.next.injEq] at h; subst h; simp

@[simp] theorem State.openOne_memory (s : State) (c : DomCmd) (i : Nat) : KeptMemory s (State.openOne s c i) := by
  simp [State.openOne]

@[simp] theorem State.closeOne_memory (s : State) (q : QueuedClose) (i : Nat) : KeptMemory s (State.closeOne s q i) := by
  simp [State.closeOne]

@[simp] theorem State.runQueuedCloses_memory (s : State) : KeptMemory s (State.runQueuedCloses s) := by
  simp [State.runQueuedCloses]

@[simp] theorem State.releaseOne_memory (s : State) (d : Nat) : KeptMemory s (State.releaseOne s d) := by
  simp [State.releaseOne]

@[simp] theorem State.withPools_memory (s : State) (t : Tab Pool) : KeptMemory s (State.withPools s t) := by
  first
  | (simp [State.withPools]; done)
  | (unfold State.withPools; (try dsimp only); (repeat' split) <;> (try simp); done)
  | (unfold State.withPools; (try dsimp only); (repeat' split) <;> (try simp [*]); done)

@[simp] theorem State.domOne_memory (s : State) (c : DomCmd) (i : Nat) : KeptMemory s (State.domOne s c i) := by
  first
  | (simp [State.domOne]; done)
  | (unfold State.domOne; (try dsimp only); (repeat' split) <;> (try simp); done)
  | (unfold State.domOne; (try dsimp only); (repeat' split) <;> (try simp [*]); done)

@[simp] theorem State.domRun_memory (s : State) (c : DomCmd) (n : Nat) : KeptMemory s (State.domRun s c n) := by
  first
  | (simp [State.domRun]; done)
  | (unfold State.domRun; (try dsimp only); (repeat' split) <;> (try simp); done)
  | (unfold State.domRun; (try dsimp only); (repeat' split) <;> (try simp [*]); done)

@[simp] theorem State.domStart_memory (s : State) (c : DomCmd) (upto : Option (BitVec 25)) : KeptMemory s (State.domStart s c upto) := by
  first
  | (simp [State.domStart]; done)
  | (unfold State.domStart; (try dsimp only); (repeat' split) <;> (try simp); done)
  | (unfold State.domStart; (try dsimp only); (repeat' split) <;> (try simp [*]); done)

@[simp] theorem State.domStep_memory (s : State) : KeptMemory s (State.domStep s) := by
  first
  | (simp [State.domStep]; done)
  | (unfold State.domStep; (try dsimp only); (repeat' split) <;> (try simp); done)
  | (unfold State.domStep; (try dsimp only); (repeat' split) <;> (try simp [*]); done)

@[simp] theorem State.stopDomCmd_memory (s : State) : KeptMemory s (State.stopDomCmd s) := by
  first
  | (simp [State.stopDomCmd]; done)
  | (unfold State.stopDomCmd; (try dsimp only); (repeat' split) <;> (try simp); done)
  | (unfold State.stopDomCmd; (try dsimp only); (repeat' split) <;> (try simp [*]); done)

theorem execDomOpen_memory (r : Req) (upto : Option (BitVec 25)) (s : State) (t : State) (h : (execDomOpen r upto s) = .next t) : KeptMemory s t := by
  simp only [execDomOpen, Host.Outcome.next.injEq] at h; subst h; simp

@[simp] theorem State.acceptClose_memory (s : State) (fenced : Bool) (upto : Option (BitVec 25)) : KeptMemory s (State.acceptClose s fenced upto) := by
  simp [State.acceptClose]

theorem execDomClose_memory (r : Req) (fenced : Bool) (upto : Option (BitVec 25)) (s : State) (t : State) (h : (execDomClose r fenced upto s) = .next t) : KeptMemory s t := by
  simp only [execDomClose, Host.Outcome.next.injEq] at h; subst h; simp

theorem execDomRelease_memory (r : Req) (upto : Option (BitVec 25)) (s : State) (t : State) (h : (execDomRelease r upto s) = .next t) : KeptMemory s t := by
  simp only [execDomRelease, Host.Outcome.next.injEq] at h; subst h; simp

theorem execPoolDef_memory (r : Req) (upto : Option (BitVec 25)) (s : State) (t : State) (h : (execPoolDef r upto s) = .next t) : KeptMemory s t := by
  simp only [execPoolDef, Host.Outcome.next.injEq] at h; subst h; simp

theorem execPoolDel_memory (r : Req) (upto : Option (BitVec 25)) (s : State) (t : State) (h : (execPoolDel r upto s) = .next t) : KeptMemory s t := by
  simp only [execPoolDel, Host.Outcome.next.injEq] at h; subst h; simp

@[simp] theorem State.fenceExpire_memory (s : State) (id : Nat) (srcs : List Nat) (first : Nat) : KeptMemory s (State.fenceExpire s id srcs first) := by
  simp [State.fenceExpire]

theorem execFenceTimerExpire_memory (d : BitVec 24) (s : State) (t : State) (h : (execFenceTimerExpire d s) = .next t) : KeptMemory s t := by
  unfold execFenceTimerExpire at h; (try dsimp only at h); (repeat' split at h) <;> (try simp only [Host.Outcome.next.injEq, reduceCtorEq] at h) <;> (try subst h) <;> (try simp)

@[simp] theorem State.becomeClosed_memory (s : State) (d : Nat) (c : CloseRec) : KeptMemory s (State.becomeClosed s d c) := by
  simp [State.becomeClosed]

theorem execCloseRecordBuild_memory (d : BitVec 24) (s : State) (t : State) (h : execCloseRecordBuild d s = .next t) : KeptMemory s t := by
  unfold execCloseRecordBuild at h
  dsimp only at h
  split at h
  · split at h
    · simp only [Host.Outcome.next.injEq] at h; subst h; simp
    · rename_i hh
      have h1 := State.takeAll_memory _ _ _ hh
      simp only [Host.Outcome.next.injEq] at h
      subst h
      simp_all
  · simp only [Host.Outcome.next.injEq] at h; subst h; simp

theorem execCadExcRptrWrite_memory (r : Req) (v : Word) (s : State) (t : State) (h : (execCadExcRptrWrite r v s) = .next t) : KeptMemory s t := by
  simp only [execCadExcRptrWrite, Host.Outcome.next.injEq] at h; subst h; simp

@[simp] theorem State.closeRecordLost_memory (s : State) (d : Nat) (e : Nat) : KeptMemory s (State.closeRecordLost s d e) := by
  unfold State.closeRecordLost; (try dsimp only); (repeat' split) <;> (try simp)

@[simp] theorem State.engineEnds_memory (s : State) (e : Nat) (nodes : Nat) : KeptMemory s (State.engineEnds s e nodes) := by
  simp [State.engineEnds]

@[simp] theorem State.takeUp_memory (s : State) (e : Nat) (d : Nat) (intact : Bool) : KeptMemory s (State.takeUp s e d intact) := by
  simp [State.takeUp]

@[simp] theorem State.handRounds_memory (s : State) : KeptMemory s (State.handRounds s) := by
  unfold State.handRounds
  exact foldl_memory _ _ _ (fun t p => by cases t.freeEngine <;> cases Tab.look t.cad.pools p <;> simp)

@[simp] theorem State.takeHead_memory (s : State) (intact : Bool) : KeptMemory s (State.takeHead s intact) := by
  first
  | (simp [State.takeHead]; done)
  | (unfold State.takeHead; (try dsimp only); (repeat' split) <;> (try simp); done)
  | (unfold State.takeHead; (try dsimp only); (repeat' split) <;> (try simp [*]); done)

theorem execRaeTakeUp_memory (intact : Bool) (s : State) (t : State) (h : (execRaeTakeUp intact s) = .next t) : KeptMemory s t := by
  unfold execRaeTakeUp at h; (try dsimp only at h); (repeat' split at h) <;> (try simp only [Host.Outcome.next.injEq, reduceCtorEq] at h) <;> (try subst h) <;> (try simp)

theorem execTimeBudgetExpire_memory (e : Fin 64) (nodes : Nat) (s : State) (t : State) (h : (execTimeBudgetExpire e nodes s) = .next t) : KeptMemory s t := by
  unfold execTimeBudgetExpire at h; (try dsimp only at h); (repeat' split at h) <;> (try simp only [Host.Outcome.next.injEq, reduceCtorEq] at h) <;> (try subst h) <;> (try simp)

theorem execNodeBudgetSpent_memory (e : Fin 64) (s : State) (t : State) (h : (execNodeBudgetSpent e s) = .next t) : KeptMemory s t := by
  unfold execNodeBudgetSpent at h; (try dsimp only at h); (repeat' split at h) <;> (try simp only [Host.Outcome.next.injEq, reduceCtorEq] at h) <;> (try subst h) <;> (try simp)

@[simp] theorem State.passEnds_memory (s : State) (e : Nat) (d : Nat) (c : CloseRec) : KeptMemory s (State.passEnds s e d c) := by
  simp [State.passEnds]

theorem execFirstPassEnd_memory (e : Fin 64) (s : State) (t : State) (h : (execFirstPassEnd e s) = .next t) : KeptMemory s t := by
  unfold execFirstPassEnd at h; (try dsimp only at h); (repeat' split at h) <;> (try simp only [Host.Outcome.next.injEq, reduceCtorEq] at h) <;> (try subst h) <;> (try simp)

theorem execPoolRound_memory (pool : BitVec 16) (s : State) (t : State) (h : (execPoolRound pool s) = .next t) : KeptMemory s t := by
  unfold execPoolRound at h; (try dsimp only at h); (repeat' split at h) <;> (try simp only [Host.Outcome.next.injEq, reduceCtorEq] at h) <;> (try subst h) <;> (try simp)

@[simp] theorem State.engineError_memory (s : State) (e : Nat) (d : Nat) : KeptMemory s (State.engineError s e d) := by
  simp [State.engineError]

theorem execRaeEngineError_memory (e : Fin 64) (s : State) (t : State) (h : (execRaeEngineError e s) = .next t) : KeptMemory s t := by
  unfold execRaeEngineError at h; (try dsimp only at h); (repeat' split at h) <;> (try simp only [Host.Outcome.next.injEq, reduceCtorEq] at h) <;> (try subst h) <;> (try simp)

@[simp] theorem State.resultReady_memory (s : State) : KeptMemory s (State.resultReady s) := by
  simp [State.resultReady]

theorem execHoldoffExpire_memory (s : State) (t : State) (h : (execHoldoffExpire s) = .next t) : KeptMemory s t := by
  unfold execHoldoffExpire at h; (try dsimp only at h); (repeat' split at h) <;> (try simp only [Host.Outcome.next.injEq, reduceCtorEq] at h) <;> (try subst h) <;> (try simp)

@[simp] theorem State.ringCfg_memory (s : State) (v : Word) : KeptMemory s (State.ringCfg s v) := by
  simp [State.ringCfg]

theorem execRaeRingCfgWrite_memory (r : Req) (v : Word) (s : State) (t : State) (h : (execRaeRingCfgWrite r v s) = .next t) : KeptMemory s t := by
  simp only [execRaeRingCfgWrite, Host.Outcome.next.injEq] at h; subst h; simp

theorem execRaeRingRptrWrite_memory (r : Req) (v : Word) (s : State) (t : State) (h : (execRaeRingRptrWrite r v s) = .next t) : KeptMemory s t := by
  simp only [execRaeRingRptrWrite, Host.Outcome.next.injEq] at h; subst h; simp

@[simp] theorem State.reanalyse_memory (s : State) : KeptMemory s (State.reanalyse s) := by
  unfold State.reanalyse
  dsimp only
  simp [State.takeHeapD_memory]

theorem execReanalyse_memory (r : Req) (s : State) (t : State) (h : (execReanalyse r s) = .next t) : KeptMemory s t := by
  simp only [execReanalyse, Host.Outcome.next.injEq] at h; subst h; simp

theorem execClearLat_memory (r : Req) (s : State) (t : State) (h : (execClearLat r s) = .next t) : KeptMemory s t := by
  simp only [execClearLat, Host.Outcome.next.injEq] at h; subst h; simp

@[simp] theorem State.abandonAnalyses_memory (s : State) : KeptMemory s (State.abandonAnalyses s) := by
  simp [State.abandonAnalyses]

@[simp] theorem State.freshQueue_memory (s : State) : KeptMemory s (State.freshQueue s) := by
  simp [State.freshQueue]

@[simp] theorem State.laneFails_memory (s : State) (l : Nat) : KeptMemory s (State.laneFails s l) := by
  simp [State.laneFails]

@[simp] theorem State.sendEpoch_memory (s : State) (k : Nat) (kind : Nat) (mask : Nat) (epoch : Nat) (stripe : Nat) : KeptMemory s (State.sendEpoch s k kind mask epoch stripe) := by
  simp [State.sendEpoch]

@[simp] theorem State.sendColumn_memory (s : State) (k : Nat) (f : Nat → Nat × Nat) : KeptMemory s (State.sendColumn s k f) := by
  first
  | (simp [State.sendColumn]; done)
  | (unfold State.sendColumn; (try dsimp only); (repeat' split) <;> (try simp); done)
  | (unfold State.sendColumn; (try dsimp only); (repeat' split) <;> (try simp [*]); done)

@[simp] theorem State.skewCheck_memory (s : State) (k : Nat) : KeptMemory s (State.skewCheck s k) := by
  first
  | (simp [State.skewCheck]; done)
  | (unfold State.skewCheck; (try dsimp only); (repeat' split) <;> (try simp); done)
  | (unfold State.skewCheck; (try dsimp only); (repeat' split) <;> (try simp [*]); done)

@[simp] theorem State.lapse_memory (s : State) (k : Nat) : KeptMemory s (State.lapse s k) := by
  simp [State.lapse]

@[simp] theorem State.linkChanged_memory (s : State) : KeptMemory s (State.linkChanged s) := by
  simp [State.linkChanged]

@[simp] theorem State.chainDown_memory (s : State) (k : Nat) (reason : Nat) : KeptMemory s (State.chainDown s k reason) := by
  simp [State.chainDown]

@[simp] theorem State.lossEvent_memory (s : State) (l : Nat) (cond : Nat) : KeptMemory s (State.lossEvent s l cond) := by
  unfold State.lossEvent; (try dsimp only); (repeat' split) <;> (try simp)

@[simp] theorem State.countDrops_memory (s : State) (lanes : List (Nat × Nat)) : KeptMemory s (State.countDrops s lanes) := by
  simp [State.countDrops]

@[simp] theorem State.formFails_memory (s : State) (k : Nat) : KeptMemory s (State.formFails s k) := by
  first
  | (simp [State.formFails]; done)
  | (unfold State.formFails; (try dsimp only); (repeat' split) <;> (try simp); done)
  | (unfold State.formFails; (try dsimp only); (repeat' split) <;> (try simp [*]); done)

@[simp] theorem State.lanesLeave_memory (s : State) (k : Nat) (lanes : List (Nat × Nat)) : KeptMemory s (State.lanesLeave s k lanes) := by
  first
  | (simp [State.lanesLeave]; done)
  | (unfold State.lanesLeave; (try dsimp only); (repeat' split) <;> (try simp); done)
  | (unfold State.lanesLeave; (try dsimp only); (repeat' split) <;> (try simp [*]); done)

@[simp] theorem State.belowMinw_memory (s : State) (k : Nat) : KeptMemory s (State.belowMinw s k) := by
  first
  | (simp [State.belowMinw]; done)
  | (unfold State.belowMinw; (try dsimp only); (repeat' split) <;> (try simp); done)
  | (unfold State.belowMinw; (try dsimp only); (repeat' split) <;> (try simp [*]); done)

@[simp] theorem State.giveWay_memory (s : State) (k : Nat) (mask : Nat) : KeptMemory s (State.giveWay s k mask) := by
  first
  | (simp [State.giveWay]; done)
  | (unfold State.giveWay; (try dsimp only); (repeat' split) <;> (try simp); done)
  | (unfold State.giveWay; (try dsimp only); (repeat' split) <;> (try simp [*]); done)

@[simp] theorem State.dropTo_memory (s : State) (k : Nat) (mask : Nat) (lanes : List (Nat × Nat)) : KeptMemory s (State.dropTo s k mask lanes) := by
  simp [State.dropTo]

@[simp] theorem State.loseLanes_memory (s : State) (k : Nat) (lost : List Nat) (cond : Nat) : KeptMemory s (State.loseLanes s k lost cond) := by
  unfold State.loseLanes; (try dsimp only); (repeat' split) <;> (try simp)

theorem execLaneLoss_memory (k : Fin 16) (lanes : BitVec 64) (cond : LossCond) (s : State) (t : State) (h : (execLaneLoss k lanes cond s) = .next t) : KeptMemory s t := by
  unfold execLaneLoss at h; (try dsimp only at h); (repeat' split at h) <;> (try simp only [Host.Outcome.next.injEq, reduceCtorEq] at h) <;> (try subst h) <;> (try simp)

@[simp] theorem State.dropReceived_memory (s : State) (k : Nat) (mask : Nat) (epoch : Nat) (stripe : Nat) : KeptMemory s (State.dropReceived s k mask epoch stripe) := by
  unfold State.dropReceived; (try dsimp only); (repeat' split) <;> (try simp)

theorem execDropReceived_memory (k : Fin 16) (body : BitVec 56) (s : State) (t : State) (h : (execDropReceived k body s) = .next t) : KeptMemory s t := by
  unfold execDropReceived at h; (try dsimp only at h); (repeat' split at h) <;> (try simp only [Host.Outcome.next.injEq, reduceCtorEq] at h) <;> (try subst h) <;> (try simp)

theorem execLaneSignalDetect_memory (l : Fin 64) (s : State) (t : State) (h : (execLaneSignalDetect l s) = .next t) : KeptMemory s t := by
  unfold execLaneSignalDetect at h; (try dsimp only at h); (repeat' split at h) <;> (try simp only [Host.Outcome.next.injEq, reduceCtorEq] at h) <;> (try subst h) <;> (try simp)

theorem execNoSignal_memory (l : Fin 64) (s : State) (t : State) (h : (execNoSignal l s) = .next t) : KeptMemory s t := by
  unfold execNoSignal at h; (try dsimp only at h); (repeat' split at h) <;> (try simp only [Host.Outcome.next.injEq, reduceCtorEq] at h) <;> (try subst h) <;> (try simp)

@[simp] theorem State.tapRequest_memory (s : State) (l : Nat) (control : Nat) (limit : Nat) : KeptMemory s (State.tapRequest s l control limit).1 := by
  unfold State.tapRequest; (try dsimp only); (repeat' split) <;> (try simp)

@[simp] theorem State.sendFrameOn_memory (s : State) (l : Nat) (control : Nat) (status : Nat) : KeptMemory s (State.sendFrameOn s l control status) := by
  first
  | (simp [State.sendFrameOn]; done)
  | (unfold State.sendFrameOn; (try dsimp only); (repeat' split) <;> (try simp); done)
  | (unfold State.sendFrameOn; (try dsimp only); (repeat' split) <;> (try simp [*]); done)

@[simp] theorem State.trainingFrame_memory (s : State) (l : Nat) (control : Nat) (status : Nat) (limit : Nat) (own : Nat) : KeptMemory s (State.trainingFrame s l control status limit own) := by
  simp [State.trainingFrame]

theorem execTrainingFrame_memory (l : Fin 64) (control : BitVec 16) (status : BitVec 16) (atLimit : BitVec 3) (own : BitVec 16) (s : State) (t : State) (h : (execTrainingFrame l control status atLimit own s) = .next t) : KeptMemory s t := by
  unfold execTrainingFrame at h; (try dsimp only at h); (repeat' split at h) <;> (try simp only [Host.Outcome.next.injEq, reduceCtorEq] at h) <;> (try subst h) <;> (try simp)

@[simp] theorem State.applyInjection_memory (s : State) (l : Nat) : KeptMemory s (State.applyInjection s l) := by
  unfold State.applyInjection; (try dsimp only); (repeat' split) <;> (try simp)

theorem execTrainingEnd_memory (l : Fin 64) (s : State) (t : State) (h : (execTrainingEnd l s) = .next t) : KeptMemory s t := by
  unfold execTrainingEnd at h; (try dsimp only at h); (repeat' split at h) <;> (try simp only [Host.Outcome.next.injEq, reduceCtorEq] at h) <;> (try subst h) <;> (try simp)

theorem execTrainTmo_memory (l : Fin 64) (s : State) (t : State) (h : (execTrainTmo l s) = .next t) : KeptMemory s t := by
  unfold execTrainTmo at h; (try dsimp only at h); (repeat' split at h) <;> (try simp only [Host.Outcome.next.injEq, reduceCtorEq] at h) <;> (try subst h) <;> (try simp)

@[simp] theorem State.sendCapx_memory (s : State) (k : Nat) (on : Nat → Bool) : KeptMemory s (State.sendCapx s k on) := by
  first
  | (simp [State.sendCapx]; done)
  | (unfold State.sendCapx; (try dsimp only); (repeat' split) <;> (try simp); done)
  | (unfold State.sendCapx; (try dsimp only); (repeat' split) <;> (try simp [*]); done)

theorem execLockAchieved_memory (l : Fin 64) (s : State) (t : State) (h : (execLockAchieved l s) = .next t) : KeptMemory s t := by
  unfold execLockAchieved at h; (try dsimp only at h); (repeat' split at h) <;> (try simp only [Host.Outcome.next.injEq, reduceCtorEq] at h) <;> (try subst h) <;> (try simp)

theorem execLockTmo_memory (l : Fin 64) (s : State) (t : State) (h : (execLockTmo l s) = .next t) : KeptMemory s t := by
  unfold execLockTmo at h; (try dsimp only at h); (repeat' split at h) <;> (try simp only [Host.Outcome.next.injEq, reduceCtorEq] at h) <;> (try subst h) <;> (try simp)

theorem execCapxMatch_memory (l : Fin 64) (body : BitVec 56) (s : State) (t : State) (h : (execCapxMatch l body s) = .next t) : KeptMemory s t := by
  unfold execCapxMatch at h; (try dsimp only at h); (repeat' split at h) <;> (try simp only [Host.Outcome.next.injEq, reduceCtorEq] at h) <;> (try subst h) <;> (try simp)

@[simp] theorem State.capxMismatch_memory (s : State) (k : Nat) (l : Nat) (got : Option Nat) : KeptMemory s (State.capxMismatch s k l got) := by
  simp [State.capxMismatch]

theorem execCapxMismatch_memory (l : Fin 64) (body : Option (BitVec 56)) (s : State) (t : State) (h : (execCapxMismatch l body s) = .next t) : KeptMemory s t := by
  unfold execCapxMismatch at h; (try dsimp only at h); (repeat' split at h) <;> (try simp only [Host.Outcome.next.injEq, reduceCtorEq] at h) <;> (try subst h) <;> (try simp)

@[simp] theorem State.laneReady_memory (s : State) (l : Nat) : KeptMemory s (State.laneReady s l) := by
  unfold State.laneReady; (try dsimp only); (repeat' split) <;> (try simp)

theorem execLaneReady_memory (l : Fin 64) (s : State) (t : State) (h : (execLaneReady l s) = .next t) : KeptMemory s t := by
  unfold execLaneReady at h; (try dsimp only at h); (repeat' split at h) <;> (try simp only [Host.Outcome.next.injEq, reduceCtorEq] at h) <;> (try subst h) <;> (try simp)

theorem execBackoffExpire_memory (l : Fin 64) (s : State) (t : State) (h : (execBackoffExpire l s) = .next t) : KeptMemory s t := by
  unfold execBackoffExpire at h; (try dsimp only at h); (repeat' split at h) <;> (try simp only [Host.Outcome.next.injEq, reduceCtorEq] at h) <;> (try subst h) <;> (try simp)

@[simp] theorem State.announce_memory (s : State) (k : Nat) (mask : Nat) (form : Bool) : KeptMemory s (State.announce s k mask form) := by
  simp [State.announce]

theorem execChainFormation_memory (k : Fin 16) (windowEnd : Bool) (s : State) (t : State) (h : (execChainFormation k windowEnd s) = .next t) : KeptMemory s t := by
  unfold execChainFormation at h; (try dsimp only at h); (repeat' split at h) <;> (try simp only [Host.Outcome.next.injEq, reduceCtorEq] at h) <;> (try subst h) <;> (try simp)

theorem execRejoinAnnounce_memory (k : Fin 16) (s : State) (t : State) (h : (execRejoinAnnounce k s) = .next t) : KeptMemory s t := by
  unfold execRejoinAnnounce at h; (try dsimp only at h); (repeat' split at h) <;> (try simp only [Host.Outcome.next.injEq, reduceCtorEq] at h) <;> (try subst h) <;> (try simp)

@[simp] theorem State.commit_memory (s : State) (k : Nat) (mask : Nat) (form : Bool) : KeptMemory s (State.commit s k mask form) := by
  simp [State.commit]

theorem execRejoinAckReceived_memory (k : Fin 16) (body : BitVec 56) (s : State) (t : State) (h : (execRejoinAckReceived k body s) = .next t) : KeptMemory s t := by
  unfold execRejoinAckReceived at h; (try dsimp only at h); (repeat' split at h) <;> (try simp only [Host.Outcome.next.injEq, reduceCtorEq] at h) <;> (try subst h) <;> (try simp)

theorem execRejoinLapsed_memory (k : Fin 16) (s : State) (t : State) (h : (execRejoinLapsed k s) = .next t) : KeptMemory s t := by
  unfold execRejoinLapsed at h; (try dsimp only at h); (repeat' split at h) <;> (try simp only [Host.Outcome.next.injEq, reduceCtorEq] at h) <;> (try subst h) <;> (try simp)

theorem execPartnerCommitReceived_memory (k : Fin 16) (body : BitVec 56) (s : State) (t : State) (h : (execPartnerCommitReceived k body s) = .next t) : KeptMemory s t := by
  unfold execPartnerCommitReceived at h; (try dsimp only at h); (repeat' split at h) <;> (try simp only [Host.Outcome.next.injEq, reduceCtorEq] at h) <;> (try subst h) <;> (try simp)

@[simp] theorem State.commitTimeout_memory (s : State) (k : Nat) (old : Nat) (form : Bool) : KeptMemory s (State.commitTimeout s k old form) := by
  simp [State.commitTimeout]

theorem execPartnerCommitTimeout_memory (k : Fin 16) (s : State) (t : State) (h : (execPartnerCommitTimeout k s) = .next t) : KeptMemory s t := by
  unfold execPartnerCommitTimeout at h; (try dsimp only at h); (repeat' split at h) <;> (try simp only [Host.Outcome.next.injEq, reduceCtorEq] at h) <;> (try subst h) <;> (try simp)

@[simp] theorem State.chainFormed_memory (s : State) (k : Nat) : KeptMemory s (State.chainFormed s k) := by
  simp [State.chainFormed]

@[simp] theorem State.exchangeDone_memory (s : State) (k : Nat) : KeptMemory s (State.exchangeDone s k) := by
  unfold State.exchangeDone; (try dsimp only); (repeat' split) <;> (try simp)

@[simp] theorem State.switchTx_memory (s : State) (k : Nat) (w : Switch) : KeptMemory s (State.switchTx s k w) := by
  simp [State.switchTx]

@[simp] theorem State.switchRx_memory (s : State) (k : Nat) (w : Switch) : KeptMemory s (State.switchRx s k w) := by
  simp [State.switchRx]

theorem execEpochSwitch_memory (k : Fin 16) (transmit : Bool) (s : State) (t : State) (h : (execEpochSwitch k transmit s) = .next t) : KeptMemory s t := by
  unfold execEpochSwitch at h; (try dsimp only at h); (repeat' split at h) <;> (try simp only [Host.Outcome.next.injEq, reduceCtorEq] at h) <;> (try subst h) <;> (try simp)

theorem execLaneMarkerSend_memory (l : Fin 64) (s : State) (t : State) (h : (execLaneMarkerSend l s) = .next t) : KeptMemory s t := by
  unfold execLaneMarkerSend at h; (try dsimp only at h); (repeat' split at h) <;> (try simp only [Host.Outcome.next.injEq, reduceCtorEq] at h) <;> (try subst h) <;> (try simp)

theorem execWaddingInsert_memory (k : Fin 16) (s : State) (t : State) (h : (execWaddingInsert k s) = .next t) : KeptMemory s t := by
  unfold execWaddingInsert at h; (try dsimp only at h); (repeat' split at h) <;> (try simp only [Host.Outcome.next.injEq, reduceCtorEq] at h) <;> (try subst h) <;> (try simp)

@[simp] theorem State.codeword_memory (s : State) (k : Nat) (l : Nat) (scr : Nat) (corrected : Option Nat) (blocks : List RxBlock) (offs : Nat) : KeptMemory s (State.codeword s k l scr corrected blocks offs) := by
  unfold State.codeword; (try dsimp only); (repeat' split) <;> (try simp)

theorem execReceiveEmptySlot_memory (l : Fin 64) (s : State) (t : State) (h : (execReceiveEmptySlot l s) = .next t) : KeptMemory s t := by
  unfold execReceiveEmptySlot at h; (try dsimp only at h); (repeat' split at h) <;> (try simp only [Host.Outcome.next.injEq, reduceCtorEq] at h) <;> (try subst h) <;> (try simp)

@[simp] theorem State.retrain_memory (s : State) (l : Nat) : KeptMemory s (State.retrain s l) := by
  unfold State.retrain; (try dsimp only); (repeat' split) <;> (try simp)

theorem execRetrain_memory (r : Req) (l : Fin 64) (s : State) (t : State) (h : (execRetrain r l s) = .next t) : KeptMemory s t := by
  simp only [execRetrain, Host.Outcome.next.injEq] at h; subst h; simp

@[simp] theorem State.prbsGenerate_memory (s : State) (l : Nat) : KeptMemory s (State.prbsGenerate s l) := by
  first
  | (simp [State.prbsGenerate]; done)
  | (unfold State.prbsGenerate; (try dsimp only); (repeat' split) <;> (try simp); done)
  | (unfold State.prbsGenerate; (try dsimp only); (repeat' split) <;> (try simp [*]); done)

@[simp] theorem State.prbsCheck_memory (s : State) (l : Nat) : KeptMemory s (State.prbsCheck s l) := by
  first
  | (simp [State.prbsCheck]; done)
  | (unfold State.prbsCheck; (try dsimp only); (repeat' split) <;> (try simp); done)
  | (unfold State.prbsCheck; (try dsimp only); (repeat' split) <;> (try simp [*]); done)

@[simp] theorem State.prbsConfig_memory (s : State) (l : Nat) (v : Word) : KeptMemory s (State.prbsConfig s l v) := by
  simp [State.prbsConfig]

theorem execPrbsCfgWrite_memory (r : Req) (l : Fin 64) (v : Word) (s : State) (t : State) (h : (execPrbsCfgWrite r l v s) = .next t) : KeptMemory s t := by
  simp only [execPrbsCfgWrite, Host.Outcome.next.injEq] at h; subst h; simp

@[simp] theorem State.inject_memory (s : State) (l : Nat) (kind : Nat) (n : Nat) : KeptMemory s (State.inject s l kind n) := by
  simp [State.inject]

theorem execInjectBit_memory (r : Req) (l : Fin 64) (count : BitVec 8) (s : State) (t : State) (h : (execInjectBit r l count s) = .next t) : KeptMemory s t := by
  simp only [execInjectBit, Host.Outcome.next.injEq] at h; subst h; simp

theorem execInjectSymbol_memory (r : Req) (l : Fin 64) (count : BitVec 8) (s : State) (t : State) (h : (execInjectSymbol r l count s) = .next t) : KeptMemory s t := by
  simp only [execInjectSymbol, Host.Outcome.next.injEq] at h; subst h; simp

theorem execInjectSync_memory (r : Req) (l : Fin 64) (s : State) (t : State) (h : (execInjectSync r l s) = .next t) : KeptMemory s t := by
  simp only [execInjectSync, Host.Outcome.next.injEq] at h; subst h; simp

theorem execInjectLol_memory (r : Req) (l : Fin 64) (s : State) (t : State) (h : (execInjectLol r l s) = .next t) : KeptMemory s t := by
  simp only [execInjectLol, Host.Outcome.next.injEq] at h
  subst h
  refine State.hostWrite_memory s r _ _ _ (fun u => ?_)
  split <;> simp

@[simp] theorem State.laneTick_memory (s : State) (l : Nat) : KeptMemory s (State.laneTick s l) := by
  first
  | (simp [State.laneTick]; done)
  | (unfold State.laneTick; (try dsimp only); (repeat' split) <;> (try simp); done)
  | (unfold State.laneTick; (try dsimp only); (repeat' split) <;> (try simp [*]); done)

@[simp] theorem State.lanesTick_memory (s : State) : KeptMemory s (State.lanesTick s) := by
  first
  | (simp [State.lanesTick]; done)
  | (unfold State.lanesTick; (try dsimp only); (repeat' split) <;> (try simp); done)
  | (unfold State.lanesTick; (try dsimp only); (repeat' split) <;> (try simp [*]); done)

@[simp] theorem State.quadPower_memory (s : State) : KeptMemory s (State.quadPower s) := by
  simp [State.quadPower]

@[simp] theorem State.linksStart_memory (s : State) : KeptMemory s (State.linksStart s) := by
  simp [State.linksStart]

@[simp] theorem State.linksOff_memory (s : State) : KeptMemory s (State.linksOff s) := by
  simp [State.linksOff]

@[simp] theorem State.bareSettings_memory (s : State) : KeptMemory s (State.bareSettings s) := by
  simp [State.bareSettings]

@[simp] theorem State.loadWords_memory (s : State) (a : Nat) (v : List Byte) (off : Nat) (n : Nat) : KeptMemory s (State.loadWords s a v off n) := by
  simp [State.loadWords]

@[simp] theorem State.applyEntry_memory (s : State) (e : Entry) : KeptMemory s (State.applyEntry s e) := by
  unfold State.applyEntry; (try dsimp only); (repeat' split) <;> (try simp)

@[simp] theorem State.withEntries_memory (s : State) (es : List Entry) (gen : Nat) : KeptMemory s (State.withEntries s es gen) := by
  simp [State.withEntries]

theorem State.judgeEntries_memory (s : State) (warm : Bool) (img : List Byte) (es : List Entry) (t : State)
    (h : (s.judgeEntries warm img es).next = some t) : KeptMemory s t := by
  unfold State.judgeEntries at h
  dsimp only at h
  repeat' split at h
  all_goals simp only [reduceCtorEq, Option.some.injEq] at h
  subst h
  simp

theorem State.judgeImage_memory (s : State) (warm : Bool) (slot : List Byte) (t : State)
    (h : (s.judgeImage warm slot).next = some t) : KeptMemory s t := by
  unfold State.judgeImage at h
  dsimp only at h
  repeat' split at h
  all_goals first
    | (simp only [reduceCtorEq] at h; done)
    | exact State.judgeEntries_memory _ _ _ _ _ h

@[simp] theorem State.mapSlices_memory (t : State) (s : State) (warm : Bool) : KeptMemory t (State.mapSlices t s warm) := by
  simp [State.mapSlices]

@[simp] theorem State.withShadows_memory (s : State) (mask : Nat) : KeptMemory s (State.withShadows s mask) := by
  simp [State.withShadows]

@[simp] theorem State.commitStat_memory (s : State) (r : Req) (v : Word) (st : Status) : KeptMemory s (State.commitStat s r v st) := by
  simp [State.commitStat]

@[simp] theorem State.commitRejected_memory (s : State) (r : Req) (v : Word) (st : Status) (adm : Option (Status × Nat × Nat)) : KeptMemory s (State.commitRejected s r v st adm) := by
  unfold State.commitRejected; (try dsimp only); (repeat' split) <;> (try simp)

@[simp] theorem State.commitEffects_memory (s : State) (t : State) : KeptMemory t (State.commitEffects s t) := by
  unfold State.commitEffects
  dsimp only
  repeat' split
  all_goals simp

@[simp] theorem State.commitPassed_memory (s t : State) (r : Req) (v : Word) (a : Option (Status × Nat × Nat)) :
    KeptMemory t (State.commitPassed s t r v a) := by
  cases a <;> simp [State.commitPassed]

@[simp] theorem State.commitWrite_memory (s : State) (r : Req) (v : Word) : KeptMemory s (State.commitWrite s r v) := by
  unfold State.commitWrite; (try dsimp only); (repeat' split) <;> (try simp)

@[simp] theorem State.discardWrite_memory (s : State) (r : Req) (v : Word) : KeptMemory s (State.discardWrite s r v) := by
  unfold State.discardWrite; (try dsimp only); (repeat' split) <;> (try simp)

theorem execCommit_memory (r : Req) (mask : BitVec 16) (s : State) (t : State) (h : (execCommit r mask s) = .next t) : KeptMemory s t := by
  simp only [execCommit, Host.Outcome.next.injEq] at h; subst h; simp

theorem execDiscard_memory (r : Req) (mask : BitVec 16) (s : State) (t : State) (h : (execDiscard r mask s) = .next t) : KeptMemory s t := by
  simp only [execDiscard, Host.Outcome.next.injEq] at h; subst h; simp

@[simp] theorem State.setPage_memory (s : State) (p : Nat) (l : List Byte) : KeptMemory s (State.setPage s p l) := by
  simp [State.setPage]

@[simp] theorem State.erase_memory (s : State) (p : Nat) (n : Nat) : KeptMemory s (State.erase s p n) := by
  simp [State.erase]

@[simp] theorem State.program_memory (s : State) (p : Nat) (l : List Byte) : KeptMemory s (State.program s p l) := by
  first
  | (simp [State.program]; done)
  | (unfold State.program; (try dsimp only); (repeat' split) <;> (try simp); done)
  | (unfold State.program; (try dsimp only); (repeat' split) <;> (try simp [*]); done)

@[simp] theorem State.writeSpw_memory (s : State) (act : Nat) (conf : Nat) (trial : Bool) (rbk : Bool) (tboots : Nat) : KeptMemory s (State.writeSpw s act conf trial rbk tboots) := by
  unfold State.writeSpw
  exact ⟨rfl, rfl⟩

@[simp] theorem State.saveSettings_memory (s : State) (ok : Bool) : KeptMemory s (State.saveSettings s ok) := by
  simp [State.saveSettings]

@[simp] theorem State.setTraverse_memory (s : State) (body : List Byte) : KeptMemory s (State.setTraverse s body) := by
  simp [State.setTraverse]

@[simp] theorem State.resetSettings_memory (s : State) (format : Nat) : KeptMemory s (State.resetSettings s format) := by
  simp [State.resetSettings]

@[simp] theorem State.loadSettings_memory (s : State) : KeptMemory s (State.loadSettings s) := by
  unfold State.loadSettings; (try dsimp only); (repeat' split) <;> (try simp)

@[simp] theorem State.dropSettings_memory (s : State) (kept : Nat) : KeptMemory s (State.dropSettings s kept) := by
  first
  | (simp [State.dropSettings]; done)
  | (unfold State.dropSettings; (try dsimp only); (repeat' split) <;> (try simp); done)
  | (unfold State.dropSettings; (try dsimp only); (repeat' split) <;> (try simp [*]); done)

theorem execSettingsSave_memory (ok : Bool) (s : State) (t : State) (h : (execSettingsSave ok s) = .next t) : KeptMemory s t := by
  unfold execSettingsSave at h; (try dsimp only at h); (repeat' split at h) <;> (try simp only [Host.Outcome.next.injEq, reduceCtorEq] at h) <;> (try subst h) <;> (try simp)

@[simp] theorem State.updDone_memory (s : State) (st : Status) : KeptMemory s (State.updDone s st) := by
  simp [State.updDone]

@[simp] theorem State.stageNew_memory (s : State) (w : List Byte) : KeptMemory s (State.stageNew s w) := by
  simp [State.stageNew]

theorem execUpdBegin_memory (r : Req) (flashOk : Bool) (s : State) (t : State) (h : (execUpdBegin r flashOk s) = .next t) : KeptMemory s t := by
  simp only [execUpdBegin, Host.Outcome.next.injEq] at h; subst h; simp

@[simp] theorem State.storeChunk_memory (s : State) : KeptMemory s (State.storeChunk s) := by
  simp [State.storeChunk]

theorem execUpdChunk_memory (r : Req) (flashOk : Bool) (s : State) (t : State) (h : (execUpdChunk r flashOk s) = .next t) : KeptMemory s t := by
  simp only [execUpdChunk, Host.Outcome.next.injEq] at h; subst h; simp

theorem execUpdVerify_memory (r : Req) (s : State) (t : State) (h : (execUpdVerify r s) = .next t) : KeptMemory s t := by
  simp only [execUpdVerify, Host.Outcome.next.injEq] at h; subst h; simp

@[simp] theorem State.writeImage_memory (s : State) (slot : Nat) (l : List Byte) : KeptMemory s (State.writeImage s slot l) := by
  simp [State.writeImage]

@[simp] theorem State.verifyFirmware_memory (s : State) : KeptMemory s (State.verifyFirmware s).1 := by
  unfold State.verifyFirmware; (try dsimp only); (repeat' split) <;> (try simp)

@[simp] theorem State.voidSlot_memory (s : State) (i : Nat) : KeptMemory s (State.voidSlot s i) := by
  unfold State.voidSlot
  exact State.setPage_memory _ _ _

@[simp] theorem State.verify_memory (s : State) : KeptMemory s (State.verify s).1 := by
  unfold State.verify; (try dsimp only); (repeat' split) <;> (try simp)

theorem execVerifyDone_memory (flashOk : Bool) (s : State) (t : State) (h : (execVerifyDone flashOk s) = .next t) : KeptMemory s t := by
  unfold execVerifyDone at h; (try dsimp only at h); (repeat' split at h) <;> (try simp only [Host.Outcome.next.injEq, reduceCtorEq] at h) <;> (try subst h) <;> (try simp)

@[simp] theorem State.beginWarm_memory (s : State) : KeptMemory s (State.beginWarm s) := by
  simp [State.beginWarm]

theorem execActivate_memory (r : Req) (ok : Bool) (s : State) (t : State) (h : execActivate r ok s = .next t) : KeptMemory s t := by
  simp only [execActivate, Host.Outcome.next.injEq] at h
  subst h
  refine State.hostWrite_memory s r _ _ _ (fun u => ?_)
  split <;> simp

@[simp] theorem State.advanceFloors_memory (s : State) : KeptMemory s (State.advanceFloors s) := by
  simp [State.advanceFloors]

@[simp] theorem State.raiseFloors_memory (s : State) : KeptMemory s (State.raiseFloors s) := by
  simp [State.raiseFloors]

@[simp] theorem State.confirm_memory (s : State) : KeptMemory s (State.confirm s) := by
  simp [State.confirm]

theorem execConfirm_memory (r : Req) (s : State) (t : State) (h : (execConfirm r s) = .next t) : KeptMemory s t := by
  simp only [execConfirm, Host.Outcome.next.injEq] at h; subst h; simp

@[simp] theorem State.unstage_memory (s : State) : KeptMemory s (State.unstage s) := by
  simp [State.unstage]

@[simp] theorem State.rollBack_memory (s : State) (cause : Nat) : KeptMemory s (State.rollBack s cause) := by
  simp [State.rollBack]

@[simp] theorem State.rollWarm_memory (s : State) (cause : Nat) : KeptMemory s (State.rollWarm s cause) := by
  simp [State.rollWarm]

theorem execRollback_memory (r : Req) (s : State) (t : State) (h : (execRollback r s) = .next t) : KeptMemory s t := by
  simp only [execRollback, Host.Outcome.next.injEq] at h; subst h; simp

theorem execUpdAbort_memory (r : Req) (s : State) (t : State) (h : (execUpdAbort r s) = .next t) : KeptMemory s t := by
  simp only [execUpdAbort, Host.Outcome.next.injEq] at h; subst h; simp

theorem execTrialExpire_memory (s : State) (t : State) (h : (execTrialExpire s) = .next t) : KeptMemory s t := by
  unfold execTrialExpire at h; (try dsimp only at h); (repeat' split at h) <;> (try simp only [Host.Outcome.next.injEq, reduceCtorEq] at h) <;> (try subst h) <;> (try simp)

@[simp] theorem State.foundBad_memory (s : State) (w : LedgerWord) : KeptMemory s (State.foundBad s w) := by
  first
  | (simp [State.foundBad]; done)
  | (unfold State.foundBad; (try dsimp only); (repeat' split) <;> (try simp); done)
  | (unfold State.foundBad; (try dsimp only); (repeat' split) <;> (try simp [*]); done)

@[simp] theorem State.coldStart_memory (s : State) : KeptMemory s (State.coldStart s) := by
  simp [State.coldStart]

theorem execResetNRelease_memory (s : State) (t : State) (h : (execResetNRelease s) = .next t) : KeptMemory s t := by
  simp only [execResetNRelease, Host.Outcome.next.injEq] at h; subst h; simp

theorem execPwrgoodRise_memory (s : State) (t : State) (h : (execPwrgoodRise s) = .next t) : KeptMemory s t := by
  simp only [execPwrgoodRise, Host.Outcome.next.injEq] at h; subst h; simp

theorem execRootPllLock_memory (s : State) (t : State) (h : (execRootPllLock s) = .next t) : KeptMemory s t := by
  unfold execRootPllLock at h; (try dsimp only at h); (repeat' split at h) <;> (try simp only [Host.Outcome.next.injEq, reduceCtorEq] at h) <;> (try subst h) <;> (try simp)

@[simp] theorem State.pwrgoodLost_memory (s : State) : KeptMemory s (State.pwrgoodLost s) := by
  simp [State.pwrgoodLost]

theorem execPwrgoodLost_memory (s : State) (t : State) (h : (execPwrgoodLost s) = .next t) : KeptMemory s t := by
  simp only [execPwrgoodLost, Host.Outcome.next.injEq] at h; subst h; simp

@[simp] theorem State.clockLost_memory (s : State) (pll : Nat) : KeptMemory s (State.clockLost s pll) := by
  simp [State.clockLost]

theorem execClockLost_memory (pll : Bool) (s : State) (t : State) (h : (execClockLost pll s) = .next t) : KeptMemory s t := by
  simp only [execClockLost, Host.Outcome.next.injEq] at h; subst h; simp

theorem execShutdownRearm_memory (s : State) (t : State) (h : (execShutdownRearm s) = .next t) : KeptMemory s t := by
  unfold execShutdownRearm at h; (try dsimp only at h); (repeat' split at h) <;> (try simp only [Host.Outcome.next.injEq, reduceCtorEq] at h) <;> (try subst h) <;> (try simp)

@[simp] theorem State.setDomains_memory (s : State) (l : List (Nat × PwrState)) : KeptMemory s (State.setDomains s l) := by
  simp [State.setDomains]

@[simp] theorem State.domainsOn_memory (s : State) : KeptMemory s (State.domainsOn s) := by
  simp [State.domainsOn]

@[simp] theorem State.domainsHold_memory (s : State) : KeptMemory s (State.domainsHold s) := by
  simp [State.domainsHold]

@[simp] theorem State.announceRecords_memory (s : State) : KeptMemory s (State.announceRecords s) := by
  unfold State.announceRecords
  dsimp only
  have h : ∀ l : List ShutRec, KeptMemory s (l.foldl (fun (t : State) r =>
    (t.event Reg.THM_EVENTS Fld.THM_EVENTS_SHUT_RECORD).alert 0x56 0xFF (leAt r.bytes (4 * 0) 4) (leAt r.bytes (4 * 1) 4)
      (leAt r.bytes (4 * 2) 4) (leAt r.bytes (4 * 3) 4)) s) := by
    intro l
    apply foldl_memory
    intro t x
    simp only [KeptMemory, State.event_memory, State.alert_memory, and_self]
  exact h _

@[simp] theorem State.enterService_memory (s : State) : KeptMemory s (State.enterService s) := by
  simp [State.enterService]

@[simp] theorem State.enterMaintain_memory (s : State) (fromLoad : Bool) : KeptMemory s (State.enterMaintain s fromLoad) := by
  simp [State.enterMaintain]

@[simp] theorem State.leaveHold_memory (s : State) (cal : CalResult) : KeptMemory s (State.leaveHold s cal) := by
  simp [State.leaveHold]

theorem execModeReqService_memory (r : Req) (cal : CalResult) (s : State) (t : State) (h : (execModeReqService r cal s) = .next t) : KeptMemory s t := by
  simp only [execModeReqService, Host.Outcome.next.injEq] at h; subst h; simp

@[simp] theorem State.askHold_memory (s : State) : KeptMemory s (State.askHold s) := by
  simp [State.askHold]

theorem execModeReqHold_memory (r : Req) (s : State) (t : State) (h : (execModeReqHold r s) = .next t) : KeptMemory s t := by
  simp only [execModeReqHold, Host.Outcome.next.injEq] at h; subst h; simp

theorem execModeReqMaintain_memory (r : Req) (s : State) (t : State) (h : (execModeReqMaintain r s) = .next t) : KeptMemory s t := by
  simp only [execModeReqMaintain, Host.Outcome.next.injEq] at h; subst h; simp

@[simp] theorem State.runSet_memory (s : State) (img : List Byte) : KeptMemory s (State.runSet s img) := by
  simp [State.runSet]

@[simp] theorem State.setUpdBoot_memory (s : State) (source : Nat) (refusal : Nat × Status) : KeptMemory s (State.setUpdBoot s source refusal) := by
  simp [State.setUpdBoot]

@[simp] theorem State.runRecovery_memory (s : State) : KeptMemory s (State.runRecovery s) := by
  simp [State.runRecovery]

@[simp] theorem State.bootAct_memory (s : State) : KeptMemory s (State.bootAct s) := by
  simp [State.bootAct]

@[simp] theorem State.chooseSet_memory (s : State) : KeptMemory s (State.chooseSet s) := by
  simp [State.chooseSet]

@[simp] theorem State.emptyConfig_memory (s : State) : KeptMemory s (State.emptyConfig s) := by
  simp [State.emptyConfig]

@[simp] theorem State.setCfgLog_memory (s : State) (seen : List (Nat × Verdict)) : KeptMemory s (State.setCfgLog s seen) := by
  simp [State.setCfgLog]

@[simp] theorem State.configRefused_memory (s : State) (v : Nat × Verdict) : KeptMemory s (State.configRefused s v) := by
  unfold State.configRefused
  cases v.2.adm <;> simp

theorem State.takeConfig_memory (s : State) (i : Nat) (v : Verdict) (h : ∀ t, v.next = some t → KeptMemory s t) : KeptMemory s (State.takeConfig s i v) := by
  unfold State.takeConfig
  cases hn : v.next with
  | none => cases v.adm <;> simp
  | some t =>
    have h1 := h t hn
    cases v.adm <;> simp_all

/-- The image of a slot taken into use (R42). -/
@[simp] theorem State.takeJudged_memory (s : State) (i : Nat) (w : Bool) (b : List Byte) :
    KeptMemory s (s.takeConfig i (s.judgeImage w b)) :=
  State.takeConfig_memory _ _ _ (fun _ h => State.judgeImage_memory _ _ _ _ h)

@[simp] theorem State.chooseConfig_memory (s : State) : KeptMemory s (State.chooseConfig s) := by
  unfold State.chooseConfig
  dsimp only
  repeat' split
  all_goals simp

@[simp] theorem State.restoreAvail_memory (s : State) : KeptMemory s (State.restoreAvail s) := by
  unfold State.restoreAvail; (try dsimp only); (repeat' split) <;> (try simp)

@[simp] theorem State.coldEntries_memory (s : State) : KeptMemory s (State.coldEntries s) := by
  simp [State.coldEntries]

@[simp] theorem State.readFuses_memory (s : State) : KeptMemory s (State.readFuses s) := by
  simp [State.readFuses]

@[simp] theorem State.applyRepair_memory (s : State) (e : Nat) : KeptMemory s (State.applyRepair s e) := by
  simp [State.applyRepair]

@[simp] theorem State.bringUp_memory (s : State) : KeptMemory s (State.bringUp s) := by
  simp [State.bringUp]

@[simp] theorem State.foundPages_memory (s : State) (l : List (Fin 2112 × List Byte)) : KeptMemory s (State.foundPages s l) := by
  simp [State.foundPages]

@[simp] theorem State.takeSpw_memory (s : State) : KeptMemory s (State.takeSpw s) := by
  simp [State.takeSpw]

@[simp] theorem State.loadFloors_memory (s : State) : KeptMemory s (State.loadFloors s) := by
  simp [State.loadFloors]

@[simp] theorem State.loadSteps_memory (s : State) : KeptMemory s (State.loadSteps s) := by
  simp [State.loadSteps]

@[simp] theorem State.loadEntry_memory (s : State) (found : LoadFind) : KeptMemory s (State.loadEntry s found) := by
  unfold State.loadEntry; (try dsimp only); (repeat' split) <;> (try simp)

theorem execLoadEntry_memory (found : LoadFind) (s : State) (t : State) (h : (execLoadEntry found s) = .next t) : KeptMemory s t := by
  unfold execLoadEntry at h; (try dsimp only at h); (repeat' split at h) <;> (try simp only [Host.Outcome.next.injEq, reduceCtorEq] at h) <;> (try subst h) <;> (try simp)

@[simp] theorem State.eccFailed_memory (s : State) (c : Nat) (incomplete : Bool) : KeptMemory s (State.eccFailed s c incomplete) := by
  simp [State.eccFailed]

@[simp] theorem State.startCount_memory (s : State) (fails : List Nat) : KeptMemory s (State.startCount s fails) := by
  first
  | (simp [State.startCount]; done)
  | (unfold State.startCount; (try dsimp only); (repeat' split) <;> (try simp); done)
  | (unfold State.startCount; (try dsimp only); (repeat' split) <;> (try simp [*]); done)

@[simp] theorem State.eccMaps_memory (s : State) (l : List (Nat × StVerdict)) : KeptMemory s (State.eccMaps s l) := by
  simp [State.eccMaps]

@[simp] theorem State.loadEnds_memory (s : State) : KeptMemory s (State.loadEnds s) := by
  simp [State.loadEnds]

@[simp] theorem State.warmSet_memory (s : State) : KeptMemory s (State.warmSet s).1 := by
  unfold State.warmSet; (try dsimp only); (repeat' split) <;> (try simp)

@[simp] theorem State.chainsChanged_memory (t : State) (s : State) : KeptMemory t (State.chainsChanged t s) := by
  simp [State.chainsChanged]

@[simp] theorem State.platsLost_memory (s : State) : KeptMemory s (State.platsLost s) := by
  first
  | (simp [State.platsLost]; done)
  | (unfold State.platsLost; (try dsimp only); (repeat' split) <;> (try simp); done)
  | (unfold State.platsLost; (try dsimp only); (repeat' split) <;> (try simp [*]); done)

@[simp] theorem State.activationEnds_memory (s : State) (fw : Status) (cfg : Status) : KeptMemory s (State.activationEnds s fw cfg) := by
  simp [State.activationEnds]

@[simp] theorem State.warmReturn_memory (s : State) (back : Mode) : KeptMemory s (State.warmReturn s back) := by
  simp [State.warmReturn]

@[simp] theorem State.putNak_memory (s : State) (k : Nat) : KeptMemory s (State.putNak s k) := by
  first
  | (simp [State.putNak]; done)
  | (unfold State.putNak; (try dsimp only); (repeat' split) <;> (try simp); done)
  | (unfold State.putNak; (try dsimp only); (repeat' split) <;> (try simp [*]); done)

@[simp] theorem State.sendNak_memory (s : State) (k : Nat) : KeptMemory s (State.sendNak s k) := by
  simp [State.sendNak]

@[simp] theorem State.putAck_memory (s : State) (k : Nat) : KeptMemory s (State.putAck s k) := by
  first
  | (simp [State.putAck]; done)
  | (unfold State.putAck; (try dsimp only); (repeat' split) <;> (try simp); done)
  | (unfold State.putAck; (try dsimp only); (repeat' split) <;> (try simp [*]); done)

@[simp] theorem State.sendAck_memory (s : State) (k : Nat) : KeptMemory s (State.sendAck s k) := by
  simp [State.sendAck]

@[simp] theorem State.flushAck_memory (s : State) (k : Nat) : KeptMemory s (State.flushAck s k) := by
  first
  | (simp [State.flushAck]; done)
  | (unfold State.flushAck; (try dsimp only); (repeat' split) <;> (try simp); done)
  | (unfold State.flushAck; (try dsimp only); (repeat' split) <;> (try simp [*]); done)

@[simp] theorem State.flushAcks_memory (s : State) : KeptMemory s (State.flushAcks s) := by
  first
  | (simp [State.flushAcks]; done)
  | (unfold State.flushAcks; (try dsimp only); (repeat' split) <;> (try simp); done)
  | (unfold State.flushAcks; (try dsimp only); (repeat' split) <;> (try simp [*]); done)

@[simp] theorem State.linkError_memory (s : State) (k : Nat) : KeptMemory s (State.linkError s k) := by
  simp [State.linkError]

@[simp] theorem State.overrun_memory (s : State) (k : Nat) : KeptMemory s (State.overrun s k) := by
  simp [State.overrun]

@[simp] theorem State.acceptPacket_memory (s : State) (k : Nat) (p : Packet) : KeptMemory s (State.acceptPacket s k p) := by
  simp [State.acceptPacket]

@[simp] theorem State.contentError_memory (s : State) (k : Nat) (p : Packet) : KeptMemory s (State.contentError s k p) := by
  simp [State.contentError]

@[simp] theorem State.takeGrants_memory (s : State) (k : Nat) (payload : List Byte) : KeptMemory s (State.takeGrants s k payload) := by
  simp [State.takeGrants]

@[simp] theorem State.releasePackets_memory (s : State) (k : Nat) (n : Nat) : KeptMemory s (State.releasePackets s k n) := by
  simp [State.releasePackets]

@[simp] theorem State.replay_memory (s : State) (k : Nat) : KeptMemory s (State.replay s k) := by
  unfold State.replay; (try dsimp only); (repeat' split) <;> (try simp)

@[simp] theorem State.ackInvalid_memory (s : State) (k : Nat) : KeptMemory s (State.ackInvalid s k) := by
  simp [State.ackInvalid]

@[simp] theorem State.ackTaken_memory (s : State) (k : Nat) (x : Nat) : KeptMemory s (State.ackTaken s k x) := by
  first
  | (simp [State.ackTaken]; done)
  | (unfold State.ackTaken; (try dsimp only); (repeat' split) <;> (try simp); done)
  | (unfold State.ackTaken; (try dsimp only); (repeat' split) <;> (try simp [*]); done)

@[simp] theorem State.nakTaken_memory (s : State) (k : Nat) (x : Nat) : KeptMemory s (State.nakTaken s k x) := by
  first
  | (simp [State.nakTaken]; done)
  | (unfold State.nakTaken; (try dsimp only); (repeat' split) <;> (try simp); done)
  | (unfold State.nakTaken; (try dsimp only); (repeat' split) <;> (try simp [*]); done)

theorem execAckReceived_memory (k : Fin 16) (body : BitVec 56) (s : State) (t : State) (h : (execAckReceived k body s) = .next t) : KeptMemory s t := by
  unfold execAckReceived at h; (try dsimp only at h); (repeat' split at h) <;> (try simp only [Host.Outcome.next.injEq, reduceCtorEq] at h) <;> (try subst h) <;> (try simp)

theorem execNakReceived_memory (k : Fin 16) (body : BitVec 56) (s : State) (t : State) (h : (execNakReceived k body s) = .next t) : KeptMemory s t := by
  unfold execNakReceived at h; (try dsimp only at h); (repeat' split at h) <;> (try simp only [Host.Outcome.next.injEq, reduceCtorEq] at h) <;> (try subst h) <;> (try simp)

theorem execReplayTimeout_memory (k : Fin 16) (s : State) (t : State) (h : (execReplayTimeout k s) = .next t) : KeptMemory s t := by
  unfold execReplayTimeout at h; (try dsimp only at h); (repeat' split at h) <;> (try simp only [Host.Outcome.next.injEq, reduceCtorEq] at h) <;> (try subst h) <;> (try simp)

@[simp] theorem State.grantPool_memory (s : State) (k : Nat) (n : Nat) (more : Nat) : KeptMemory s (State.grantPool s k n more) := by
  simp [State.grantPool]

@[simp] theorem State.grantPools_memory (s : State) (k : Nat) : KeptMemory s (State.grantPools s k) := by
  simp [State.grantPools]

@[simp] theorem State.markMoved_memory (s : State) (k : Nat) : KeptMemory s (State.markMoved s k) := by
  first
  | (simp [State.markMoved]; done)
  | (unfold State.markMoved; (try dsimp only); (repeat' split) <;> (try simp); done)
  | (unfold State.markMoved; (try dsimp only); (repeat' split) <;> (try simp [*]); done)

@[simp] theorem State.markAllMoved_memory (s : State) : KeptMemory s (State.markAllMoved s) := by
  first
  | (simp [State.markAllMoved]; done)
  | (unfold State.markAllMoved; (try dsimp only); (repeat' split) <;> (try simp); done)
  | (unfold State.markAllMoved; (try dsimp only); (repeat' split) <;> (try simp [*]); done)

@[simp] theorem State.sendGrants_memory (s : State) (k : Nat) : KeptMemory s (State.sendGrants s k) := by
  simp [State.sendGrants]

theorem execCreditGrantSend_memory (k : Fin 16) (s : State) (t : State) (h : (execCreditGrantSend k s) = .next t) : KeptMemory s t := by
  unfold execCreditGrantSend at h; (try dsimp only at h); (repeat' split at h) <;> (try simp only [Host.Outcome.next.injEq, reduceCtorEq] at h) <;> (try subst h) <;> (try simp)

theorem execAlertSend_memory (k : Fin 16) (s : State) (t : State) (h : (execAlertSend k s) = .next t) : KeptMemory s t := by
  unfold execAlertSend at h; (try dsimp only at h); (repeat' split at h) <;> (try simp only [Host.Outcome.next.injEq, reduceCtorEq] at h) <;> (try subst h) <;> (try simp)

@[simp] theorem State.latch_memory (s : State) (r : Req) (e : Nat) (v : Nat) : KeptMemory s (State.latch s r e v) := by
  unfold State.latch; (try dsimp only); (repeat' split) <;> (try simp)

@[simp] theorem State.busRead_memory (s : State) (r : Req) (a : Nat) : KeptMemory s (State.busRead s r a).1 := by
  unfold State.busRead; (try dsimp only); (repeat' split) <;> (try simp)

@[simp] theorem State.readOne_memory (s : State) (r : Req) (a : Nat) (size : Nat) (late : Bool) : KeptMemory s (State.readOne s r a size late).1 := by
  first
  | (simp [State.readOne]; done)
  | (unfold State.readOne; (try dsimp only); (repeat' split) <;> (try simp); done)
  | (unfold State.readOne; (try dsimp only); (repeat' split) <;> (try simp [*]); done)

@[simp] theorem State.regRead_memory (s : State) (r : Req) (a : Nat) (size : Nat) (late : Bool) : KeptMemory s (State.regRead s r a size late).1 := by
  unfold State.regRead; (try dsimp only); (repeat' split) <;> (try simp)

@[simp] theorem State.storeWord_memory (s : State) (row : RegRow) (a : Nat) (v : Word) : KeptMemory s (State.storeWord s row a v) := by
  simp [State.storeWord]

@[simp] theorem State.storeShadow_memory (s : State) (row : RegRow) (a : Nat) (v : Word) : KeptMemory s (State.storeShadow s row a v) := by
  simp [State.storeShadow]

@[simp] theorem State.writePlain_memory (s : State) (r : Req) (row : RegRow) (a : Nat) (size : Nat) (v : Nat) : KeptMemory s (State.writePlain s r row a size v) := by
  simp [State.writePlain]

@[simp] theorem State.unlisted_memory (s : State) (r : Req) (a : Nat) (before : List (Bool × Status)) : KeptMemory s (State.unlisted s r a before) := by
  simp [State.unlisted]

@[simp] theorem State.writeVxu_memory (s : State) (r : Req) (sel : VxuSel) (code : Nat) : KeptMemory s (State.writeVxu s r sel code) := by
  unfold State.writeVxu; (try dsimp only); (repeat' split) <;> (try simp)

@[simp] theorem State.requestCheck_memory (s : State) (k : Nat) (p : Packet) : KeptMemory s (State.requestCheck s k p).1 := by
  unfold State.requestCheck; (try dsimp only); (repeat' split) <;> (try simp)

@[simp] theorem State.chainTraffic_memory (s : State) (k cls label : Nat) (p : Partition) (o n : Nat) :
    KeptMemory s (State.chainTraffic s k cls label p o n).1 := by
  unfold State.chainTraffic
  dsimp only
  by_cases h : cls = 0 ∨ bitOf (s.classChains cls) k = true <;> simp [h]

@[simp] theorem State.sessionOp_memory (s : State) (r : Req) (op : Nat) (ext : List Byte) : KeptMemory s (State.sessionOp s r op ext) := by
  unfold State.sessionOp; (try dsimp only); (repeat' split) <;> (try simp)

@[simp] theorem State.sessionChecked_memory (s : State) (r : Req) (op : Nat) (slot : List Byte) (ext : List Byte) (late : Bool) : KeptMemory s (State.sessionChecked s r op slot ext late) := by
  simp [State.sessionChecked]

@[simp] theorem State.runSessionOp_memory (s : State) (r : Req) (slot : List Byte) (ext : List Byte) (late : Bool) : KeptMemory s (State.runSessionOp s r slot ext late).st := by
  simp [State.runSessionOp]

@[simp] theorem State.queueCodeword_memory (s : State) (k : Nat) (l : Nat) (slots : List (Option RxBlock)) : KeptMemory s (State.queueCodeword s k l slots) := by
  first
  | (simp [State.queueCodeword]; done)
  | (unfold State.queueCodeword; (try dsimp only); (repeat' split) <;> (try simp); done)
  | (unfold State.queueCodeword; (try dsimp only); (repeat' split) <;> (try simp [*]); done)

@[simp] theorem State.popCodewords_memory (s : State) (ls : List Nat) : KeptMemory s (State.popCodewords s ls) := by
  first
  | (simp [State.popCodewords]; done)
  | (unfold State.popCodewords; (try dsimp only); (repeat' split) <;> (try simp); done)
  | (unfold State.popCodewords; (try dsimp only); (repeat' split) <;> (try simp [*]); done)

@[simp] theorem State.i3cReturn_memory (s : State) (l : List Byte) : KeptMemory s (State.i3cReturn s l) := by
  simp [State.i3cReturn]

@[simp] theorem State.i3cNack_memory (s : State) : KeptMemory s (State.i3cNack s) := by
  simp [State.i3cNack]

@[simp] theorem State.i3cArrive_memory (s : State) : KeptMemory s (State.i3cArrive s) := by
  simp [State.i3cArrive]

@[simp] theorem State.badFrame_memory (s : State) : KeptMemory s (State.badFrame s) := by
  simp [State.badFrame]

@[simp] theorem State.i3cAnswer_memory (s : State) (l : List Byte) (sid : optParam Nat 0) : KeptMemory s (State.i3cAnswer s l sid) := by
  simp [State.i3cAnswer]

@[simp] theorem State.i3cRead_memory (s : State) (l : List Byte) (late : Bool) : KeptMemory s (State.i3cRead s l late) := by
  simp [State.i3cRead]

@[simp] theorem State.i3cRespond_memory (s : State) (sess : Option (Nat × Session)) (l : List Byte) : KeptMemory s (State.i3cRespond s sess l) := by
  first
  | (simp [State.i3cRespond]; done)
  | (unfold State.i3cRespond; (try dsimp only); (repeat' split) <;> (try simp); done)
  | (unfold State.i3cRespond; (try dsimp only); (repeat' split) <;> (try simp [*]); done)

theorem execI3cPrivateRead_memory (s : State) (t : State) (h : (execI3cPrivateRead s) = .next t) : KeptMemory s t := by
  unfold execI3cPrivateRead at h; (try dsimp only at h); (repeat' split at h) <;> (try simp only [Host.Outcome.next.injEq, reduceCtorEq] at h) <;> (try subst h) <;> (try simp)

@[simp] theorem State.takeAddress_memory (s : State) (a : Nat) : KeptMemory s (State.takeAddress s a) := by
  simp [State.takeAddress]

theorem execEntdaa_memory (addr : BitVec 7) (s : State) (t : State) (h : (execEntdaa addr s) = .next t) : KeptMemory s t := by
  unfold execEntdaa at h; (try dsimp only at h); (repeat' split at h) <;> (try simp only [Host.Outcome.next.injEq, reduceCtorEq] at h) <;> (try subst h) <;> (try simp)

theorem execSetdasa_memory (static : BitVec 7) (addr : BitVec 7) (s : State) (t : State) (h : (execSetdasa static addr s) = .next t) : KeptMemory s t := by
  unfold execSetdasa at h; (try dsimp only at h); (repeat' split at h) <;> (try simp only [Host.Outcome.next.injEq, reduceCtorEq] at h) <;> (try subst h) <;> (try simp)

theorem execSetnewda_memory (addr : BitVec 7) (s : State) (t : State) (h : (execSetnewda addr s) = .next t) : KeptMemory s t := by
  unfold execSetnewda at h; (try dsimp only at h); (repeat' split at h) <;> (try simp only [Host.Outcome.next.injEq, reduceCtorEq] at h) <;> (try subst h) <;> (try simp)

theorem execRstdaa_memory (s : State) (t : State) (h : (execRstdaa s) = .next t) : KeptMemory s t := by
  simp only [execRstdaa, Host.Outcome.next.injEq] at h; subst h; simp

theorem execEnec_memory (s : State) (t : State) (h : (execEnec s) = .next t) : KeptMemory s t := by
  simp only [execEnec, Host.Outcome.next.injEq] at h; subst h; simp

theorem execDisec_memory (s : State) (t : State) (h : (execDisec s) = .next t) : KeptMemory s t := by
  simp only [execDisec, Host.Outcome.next.injEq] at h; subst h; simp

@[simp] theorem State.i3cGet_memory (s : State) (l : List Byte) : KeptMemory s (State.i3cGet s l) := by
  simp [State.i3cGet]

theorem execGetpid_memory (s : State) (t : State) (h : (execGetpid s) = .next t) : KeptMemory s t := by
  simp only [execGetpid, Host.Outcome.next.injEq] at h; subst h; simp

theorem execGetbcr_memory (s : State) (t : State) (h : (execGetbcr s) = .next t) : KeptMemory s t := by
  simp only [execGetbcr, Host.Outcome.next.injEq] at h; subst h; simp

theorem execGetdcr_memory (s : State) (t : State) (h : (execGetdcr s) = .next t) : KeptMemory s t := by
  simp only [execGetdcr, Host.Outcome.next.injEq] at h; subst h; simp

theorem execGetstatus_memory (s : State) (t : State) (h : (execGetstatus s) = .next t) : KeptMemory s t := by
  simp only [execGetstatus, Host.Outcome.next.injEq] at h; subst h; simp

theorem execGetmwl_memory (s : State) (t : State) (h : (execGetmwl s) = .next t) : KeptMemory s t := by
  simp only [execGetmwl, Host.Outcome.next.injEq] at h; subst h; simp

theorem execGetmrl_memory (s : State) (t : State) (h : (execGetmrl s) = .next t) : KeptMemory s t := by
  simp only [execGetmrl, Host.Outcome.next.injEq] at h; subst h; simp

theorem execI3cUnsupportedCcc_memory (reply : Bool) (s : State) (t : State) (h : (execI3cUnsupportedCcc reply s) = .next t) : KeptMemory s t := by
  unfold execI3cUnsupportedCcc at h; (try dsimp only at h); (repeat' split at h) <;> (try simp only [Host.Outcome.next.injEq, reduceCtorEq] at h) <;> (try subst h) <;> (try simp)

@[simp] theorem State.enrolAnswer_memory (s : State) (j : EnrolJob) (st : Status) : KeptMemory s (State.enrolAnswer s j st) := by
  first
  | (simp [State.enrolAnswer]; done)
  | (unfold State.enrolAnswer; (try dsimp only); (repeat' split) <;> (try simp); done)
  | (unfold State.enrolAnswer; (try dsimp only); (repeat' split) <;> (try simp [*]); done)

@[simp] theorem State.enrolOver_memory (s : State) (j : EnrolJob) (st : Status) : KeptMemory s (State.enrolOver s j st) := by
  first
  | (simp [State.enrolOver]; done)
  | (unfold State.enrolOver; (try dsimp only); (repeat' split) <;> (try simp); done)
  | (unfold State.enrolOver; (try dsimp only); (repeat' split) <;> (try simp [*]); done)

@[simp] theorem State.fuseDone_memory (s : State) (k : FuseKind) (st : Status) : KeptMemory s (State.fuseDone s k st) := by
  first
  | (simp [State.fuseDone]; done)
  | (unfold State.fuseDone; (try dsimp only); (repeat' split) <;> (try simp); done)
  | (unfold State.fuseDone; (try dsimp only); (repeat' split) <;> (try simp [*]); done)

theorem execFuseOperationEnd_memory (res : FuseResult) (s : State) (t : State) (h : execFuseOperationEnd res s = .next t) : KeptMemory s t := by
  unfold execFuseOperationEnd at h
  split at h <;> (simp only [Host.Outcome.next.injEq] at h; subst h; simp [FuseRun.steps_memory])

@[simp] theorem State.tapReset_memory (s : State) : KeptMemory s (State.tapReset s) := by
  simp [State.tapReset]

@[simp] theorem State.setShift_memory (s : State) (l : List Bool) : KeptMemory s (State.setShift s l) := by
  simp [State.setShift]

@[simp] theorem State.tapShift_memory (s : State) (tdi : Bool) : KeptMemory s (State.tapShift s tdi) := by
  unfold State.tapShift; (try dsimp only); (repeat' split) <;> (try simp)

@[simp] theorem State.tapAct_memory (s : State) (tdi : Bool) : KeptMemory s (State.tapAct s tdi) := by
  unfold State.tapAct; (try dsimp only); (repeat' split) <;> (try simp)

@[simp] theorem State.tapEnter_memory (s : State) (t : TapState) : KeptMemory s (State.tapEnter s t) := by
  unfold State.tapEnter; (try dsimp only); (repeat' split) <;> (try simp)

@[simp] theorem State.tapStep_memory (s : State) (e : Bool × Bool) : KeptMemory s (State.tapStep s e) := by
  simp [State.tapStep]

theorem execTestAccessPortOperation_memory (trstN : Bool) (steps : List (Bool × Bool)) (s : State) (t : State) (h : (execTestAccessPortOperation trstN steps s) = .next t) : KeptMemory s t := by
  unfold execTestAccessPortOperation at h; (try dsimp only at h); (repeat' split at h) <;> (try simp only [Host.Outcome.next.injEq, reduceCtorEq] at h) <;> (try subst h) <;> (try simp)

@[simp] theorem State.tickCounters_memory (s : State) : KeptMemory s (State.tickCounters s) := by
  simp [State.tickCounters]

@[simp] theorem State.withFetchWord_memory (s : State) (nbits : Nat) (w : Nat) : KeptMemory s (State.withFetchWord s nbits w) := by
  unfold State.withFetchWord; (try dsimp only); (repeat' split) <;> (try simp)

end Sys2Proof.Machine
end

