-- ==== Sys2Proof/Laws/KeptMode.lean ====
section
/-! SUPPORT. Sys2Proof/Laws/KeptMode.lean: the operations that keep the major mode. -/
namespace Sys2Proof.Machine

@[simp] theorem foldl_major {α : Type} (f : State → α → State) (l : List α) (s : State) (h : ∀ t x, (f t x).mode = t.mode) :
    (l.foldl f s).mode = s.mode := by
  induction l generalizing s with
  | nil => rfl
  | cons x r ih => simp [List.foldl, ih, h]

@[simp] theorem ite_mode (p : Prop) [Decidable p] (s t : State) : (if p then s else t).mode = if p then s.mode else t.mode := by
  split <;> rfl

/-- A fold of steps that keep them keeps them. -/
theorem foldl_mode {α : Type} (f : State → α → State) (l : List α) (s : State) (h : ∀ t x, KeptMode t (f t x)) :
    KeptMode s (l.foldl f s) := by
  induction l generalizing s with
  | nil => simp
  | cons x r ih =>
    have h1 := h s x
    have h2 := ih (f s x)
    simp only [List.foldl]
    simp_all

/-- What two operations keep, the one after the other keeps. -/
theorem KeptMode_trans {s t u : State} (h : KeptMode s t) (k : KeptMode t u) : KeptMode s u := by
  simp_all

@[simp] theorem State.wr_mode (s : State) (a : Nat) (v : Word) : KeptMode s (State.wr s a v) := by
  simp [State.wr]

@[simp] theorem State.wrN_mode (s : State) (a : Nat) (n : Nat) : KeptMode s (State.wrN s a n) := by
  simp [State.wrN]

@[simp] theorem State.wr64_mode (s : State) (a : Nat) (n : Nat) : KeptMode s (State.wr64 s a n) := by
  simp [State.wr64]

@[simp] theorem State.setFld_mode (s : State) (a : Nat) (f : Fld) (n : Nat) : KeptMode s (State.setFld s a f n) := by
  simp [State.setFld]

@[simp] theorem State.setBits_mode (s : State) (a : Nat) (m : Word) : KeptMode s (State.setBits s a m) := by
  simp [State.setBits]

@[simp] theorem State.event_mode (s : State) (a : Nat) (f : Fld) : KeptMode s (State.event s a f) := by
  simp [State.event]

@[simp] theorem State.satInc_mode (s : State) (a : Nat) (n : optParam Nat 1) : KeptMode s (State.satInc s a n) := by
  simp [State.satInc]

@[simp] theorem State.inc64_mode (s : State) (a : Nat) (n : optParam Nat 1) : KeptMode s (State.inc64 s a n) := by
  simp [State.inc64]

@[simp] theorem State.setVxu_mode (s : State) (u : Nat) (x : VxuUnit) : KeptMode s (State.setVxu s u x) := by
  simp [State.setVxu]

@[simp] theorem State.setLane_mode (s : State) (l : Nat) (x : Lane) : KeptMode s (State.setLane s l x) := by
  simp [State.setLane]

@[simp] theorem State.setChainL_mode (s : State) (k : Nat) (x : ChainLnk) : KeptMode s (State.setChainL s k x) := by
  simp [State.setChainL]

@[simp] theorem State.setChainP_mode (s : State) (k : Nat) (x : ChainPkt) : KeptMode s (State.setChainP s k x) := by
  simp [State.setChainP]

@[simp] theorem State.emit_mode (s : State) (e : Emission) : KeptMode s (State.emit s e) := by
  simp [State.emit]

@[simp] theorem State.reply_mode (s : State) (st : Status) (data : optParam (List Byte) []) : KeptMode s (State.reply s st data) := by
  simp [State.reply]

@[simp] theorem State.draw_mode (s : State) : KeptMode s (State.draw s) := by
  simp [State.draw]

@[simp] theorem State.drawn_mode (s : State) (n : Nat) : KeptMode s (State.drawn s n) := by
  simp [State.drawn]

@[simp] theorem State.queueAlert_mode (s : State) (k : Nat) (al : Alert) : KeptMode s (State.queueAlert s k al) := by
  simp [State.queueAlert]

@[simp] theorem State.driveAlertN_mode (s : State) (code : Nat) : KeptMode s (State.driveAlertN s code) := by
  simp [State.driveAlertN]

@[simp] theorem State.alert_mode (s : State) (code : Nat) (chain : Nat) (p0 : Nat) (p1 : Nat) (p2 : Nat) (p3 : Nat) : KeptMode s (State.alert s code chain p0 p1 p2 p3) := by
  simp [State.alert]

@[simp] theorem State.setSticky_mode (s : State) (src : Nat) : KeptMode s (State.setSticky s src) := by
  simp [State.setSticky]

@[simp] theorem State.formEntry_mode (s : State) (src : Nat) (sev : Nat) (a : Nat) (b : Nat) (gt : Nat) (forced : Bool) (cold : Bool) : KeptMode s (State.formEntry s src sev a b gt forced cold) := by
  simp [State.formEntry]

@[simp] theorem State.detect_mode (s : State) (src : Nat) (a : Nat) (b : Nat) (forced : optParam Bool false) : KeptMode s (State.detect s src a b forced) := by
  unfold State.detect; (try dsimp only); (repeat' split) <;> (try simp)

@[simp] theorem State.ledgerWrote_mode (s : State) (l : List LedgerWord) : KeptMode s (State.ledgerWrote s l) := by
  first
  | (simp [State.ledgerWrote]; done)
  | (unfold State.ledgerWrote; (try dsimp only); (repeat' split) <;> (try simp); done)
  | (unfold State.ledgerWrote; (try dsimp only); (repeat' split) <;> (try simp [*]); done)

@[simp] theorem State.checkWord_mode (s : State) (w : LedgerWord) : KeptMode s (State.checkWord s w) := by
  first
  | (simp [State.checkWord]; done)
  | (unfold State.checkWord; (try dsimp only); (repeat' split) <;> (try simp); done)
  | (unfold State.checkWord; (try dsimp only); (repeat' split) <;> (try simp [*]); done)

@[simp] theorem State.checkLedger_mode (s : State) : KeptMode s (State.checkLedger s) := by
  first
  | (simp [State.checkLedger]; done)
  | (unfold State.checkLedger; (try dsimp only); (repeat' split) <;> (try simp); done)
  | (unfold State.checkLedger; (try dsimp only); (repeat' split) <;> (try simp [*]); done)

@[simp] theorem State.sampleCount_mode (s : State) (n : Nat) (inc : Nat) (x : SampleCtx) : KeptMode s (State.sampleCount s n inc x) := by
  first
  | (simp [State.sampleCount]; done)
  | (unfold State.sampleCount; (try dsimp only); (repeat' split) <;> (try simp); done)
  | (unfold State.sampleCount; (try dsimp only); (repeat' split) <;> (try simp [*]); done)

@[simp] theorem State.pmcAdd_mode (s : State) (n : Nat) (inc : Nat) (a : Nat) (b : Nat) : KeptMode s (State.pmcAdd s n inc a b) := by
  simp [State.pmcAdd]

@[simp] theorem State.count_mode (s : State) (ev : Nat) (inc : Nat) (filter : Nat) (part : optParam (Option Nat) none) (a : optParam Nat 0) (b : optParam Nat 0) (off : optParam Nat a) : KeptMode s (State.count s ev inc filter part a b off) := by
  simp [State.count]

@[simp] theorem State.countRefusal_mode (s : State) (st : Status) (addr : optParam Nat 0) : KeptMode s (State.countRefusal s st addr) := by
  unfold State.countRefusal; (try dsimp only); (repeat' split) <;> (try simp)

@[simp] theorem State.reject_mode (s : State) (r : Req) (addr : Nat) (write : Bool) (size : Nat) (st : Status) : KeptMode s (State.reject s r addr write size st) := by
  simp [State.reject]

@[simp] theorem State.hostWrite_mode (s : State) (r : Req) (addr : Nat) (st : Status) (effect : State → State) (heffect : ∀ (t0 : State), KeptMode t0 (effect t0)) : KeptMode s (State.hostWrite s r addr st effect) := by
  simp [State.hostWrite, heffect]

@[simp] theorem State.setChan_mode (s : State) (c : Nat) (x : Chan) : KeptMode s (State.setChan s c x) := by
  simp [State.setChan]

@[simp] theorem State.setEngine_mode (s : State) (e : Nat) (x : Engine) : KeptMode s (State.setEngine s e x) := by
  simp [State.setEngine]

@[simp] theorem State.capUpdate_mode (s : State) : KeptMode s (State.capUpdate s) := by
  simp [State.capUpdate]

@[simp] theorem State.capacityChange_mode (s : State) : KeptMode s (State.capacityChange s) := by
  simp [State.capacityChange]

@[simp] theorem State.stray_mode (s : State) (n : Nat) (conforming : Bool) : KeptMode s (State.stray s n conforming) := by
  first
  | (simp [State.stray]; done)
  | (unfold State.stray; (try dsimp only); (repeat' split) <;> (try simp); done)
  | (unfold State.stray; (try dsimp only); (repeat' split) <;> (try simp [*]); done)

@[simp] theorem State.charge_mode (s : State) (n : Nat) (bytes : Nat) : KeptMode s (State.charge s n bytes).1 := by
  unfold State.charge; (try dsimp only); (repeat' split) <;> (try simp)

@[simp] theorem State.served_mode (s : State) (n : Nat) (bytes : Nat) (conforming : Bool) (label : optParam (Option Nat) none) : KeptMode s (State.served s n bytes conforming label) := by
  simp [State.served]

@[simp] theorem State.latServed_mode (s : State) (n : Nat) (age : Nat) : KeptMode s (State.latServed s n age) := by
  first
  | (simp [State.latServed]; done)
  | (unfold State.latServed; (try dsimp only); (repeat' split) <;> (try simp); done)
  | (unfold State.latServed; (try dsimp only); (repeat' split) <;> (try simp [*]); done)

@[simp] theorem State.countMiss_mode (s : State) (n : Nat) : KeptMode s (State.countMiss s n) := by
  first
  | (simp [State.countMiss]; done)
  | (unfold State.countMiss; (try dsimp only); (repeat' split) <;> (try simp); done)
  | (unfold State.countMiss; (try dsimp only); (repeat' split) <;> (try simp [*]); done)

@[simp] theorem State.miss_mode (s : State) (n : Nat) (reason : Nat) : KeptMode s (State.miss s n reason) := by
  simp [State.miss]

@[simp] theorem State.guaranteeMiss_mode (s : State) (n : Nat) (reason : Nat) : KeptMode s (State.guaranteeMiss s n reason) := by
  first
  | (simp [State.guaranteeMiss]; done)
  | (unfold State.guaranteeMiss; (try dsimp only); (repeat' split) <;> (try simp); done)
  | (unfold State.guaranteeMiss; (try dsimp only); (repeat' split) <;> (try simp [*]); done)

@[simp] theorem State.store_mode (s : State) (k : Nat) (d : BitVec 512) (e : SymErr) : KeptMode s (State.store s k d e) := by
  simp [State.store]

@[simp] theorem State.countRefresh_mode (s : State) (c : Nat) (k : DramCmd) : KeptMode s (State.countRefresh s c k) := by
  first
  | (simp [State.countRefresh]; done)
  | (unfold State.countRefresh; (try dsimp only); (repeat' split) <;> (try simp); done)
  | (unfold State.countRefresh; (try dsimp only); (repeat' split) <;> (try simp [*]); done)

@[simp] theorem State.command_mode (s : State) (c : Nat) (k : DramCmd) : KeptMode s (State.command s c k) := by
  first
  | (simp [State.command]; done)
  | (unfold State.command; (try dsimp only); (repeat' split) <;> (try simp); done)
  | (unfold State.command; (try dsimp only); (repeat' split) <;> (try simp [*]); done)

@[simp] theorem State.openRow_mode (s : State) (c : Nat) (a : Nat) : KeptMode s (State.openRow s c a) := by
  first
  | (simp [State.openRow]; done)
  | (unfold State.openRow; (try dsimp only); (repeat' split) <;> (try simp); done)
  | (unfold State.openRow; (try dsimp only); (repeat' split) <;> (try simp [*]); done)

@[simp] theorem State.column_mode (s : State) (c : Nat) (k : DramCmd) : KeptMode s (State.column s c k) := by
  simp [State.column]

@[simp] theorem State.countCw_mode (s : State) (ev : Nat) (c : Nat) (a : Nat) (part : Option (Nat × Nat)) (inPart : Bool) : KeptMode s (State.countCw s ev c a part inPart) := by
  first
  | (simp [State.countCw]; done)
  | (unfold State.countCw; (try dsimp only); (repeat' split) <;> (try simp); done)
  | (unfold State.countCw; (try dsimp only); (repeat' split) <;> (try simp [*]); done)

@[simp] theorem State.queueLeg_mode (s : State) (c : Nat) (block : Nat) : KeptMode s (State.queueLeg s c block) := by
  simp [State.queueLeg]

@[simp] theorem State.holdChannel_mode (s : State) (c : Nat) : KeptMode s (State.holdChannel s c) := by
  simp [State.holdChannel]

@[simp] theorem State.countMismatch_mode (s : State) (c : Nat) (persistent : Bool) : KeptMode s (State.countMismatch s c persistent) := by
  simp [State.countMismatch]

@[simp] theorem State.latchEcc_mode (s : State) (c : Nat) (a : Nat) (cls : EccClass) (located : SymErr) (src : Nat) : KeptMode s (State.latchEcc s c a cls located src) := by
  simp [State.latchEcc]

@[simp] theorem State.candidate_mode (s : State) (c : Nat) (a : Nat) : KeptMode s (State.candidate s c a) := by
  simp [State.candidate]

@[simp] theorem State.countHot_mode (s : State) (c : Nat) (located : SymErr) : KeptMode s (State.countHot s c located) := by
  first
  | (simp [State.countHot]; done)
  | (unfold State.countHot; (try dsimp only); (repeat' split) <;> (try simp); done)
  | (unfold State.countHot; (try dsimp only); (repeat' split) <;> (try simp [*]); done)

@[simp] theorem State.reportEcc_mode (s : State) (c : Nat) (a : Nat) (cls : EccClass) (located : SymErr) (src : Nat) (part : Option (Nat × Nat)) : KeptMode s (State.reportEcc s c a cls located src part) := by
  unfold State.reportEcc; (try dsimp only); (repeat' split) <;> (try simp)

@[simp] theorem State.transientMismatch_mode (s : State) (c : Nat) (a : Nat) (located : SymErr) (src : Nat) : KeptMode s (State.transientMismatch s c a located src) := by
  simp [State.transientMismatch]

@[simp] theorem State.keepSent_mode (s : State) (c : Nat) (a : Nat) (d : BitVec 512) (e : SymErr) : KeptMode s (State.keepSent s c a d e) := by
  first
  | (simp [State.keepSent]; done)
  | (unfold State.keepSent; (try dsimp only); (repeat' split) <;> (try simp); done)
  | (unfold State.keepSent; (try dsimp only); (repeat' split) <;> (try simp [*]); done)

@[simp] theorem State.storeCmd_mode (s : State) (c : Nat) (a : Nat) (d : BitVec 512) (e : SymErr) : KeptMode s (State.storeCmd s c a d e) := by
  first
  | (simp [State.storeCmd]; done)
  | (unfold State.storeCmd; (try dsimp only); (repeat' split) <;> (try simp); done)
  | (unfold State.storeCmd; (try dsimp only); (repeat' split) <;> (try simp [*]); done)

@[simp] theorem State.poisonWrite_mode (s : State) (c : Nat) (a : Nat) : KeptMode s (State.poisonWrite s c a) := by
  simp [State.poisonWrite]

@[simp] theorem State.issueWrite_mode (s : State) (c : Nat) (a : Nat) (d : BitVec 512) (part : Option (Nat × Nat)) : KeptMode s (State.issueWrite s c a d part) := by
  simp [State.issueWrite]

@[simp] theorem State.addWb_mode (s : State) (c : Nat) (a : Nat) : KeptMode s (State.addWb s c a) := by
  first
  | (simp [State.addWb]; done)
  | (unfold State.addWb; (try dsimp only); (repeat' split) <;> (try simp); done)
  | (unfold State.addWb; (try dsimp only); (repeat' split) <;> (try simp [*]); done)

@[simp] theorem State.arrayRead_mode (s : State) (c : Nat) (a : Nat) (errs : ReadErrs) (src0 : Nat) (part : Option (Nat × Nat)) : KeptMode s (State.arrayRead s c a errs src0 part).st := by
  unfold State.arrayRead; (try dsimp only); (repeat' split) <;> (try simp)

@[simp] theorem State.freeMerge_mode (s : State) (c : Nat) (a : Nat) : KeptMode s (State.freeMerge s c a) := by
  simp [State.freeMerge]

@[simp] theorem State.rmw_mode (s : State) (c : Nat) (e : MergeEntry) (errs : ReadErrs) (part0 : Option (Nat × Nat)) : KeptMode s (State.rmw s c e errs part0).st := by
  unfold State.rmw; (try dsimp only); (repeat' split) <;> (try simp)

@[simp] theorem State.drainMerge_mode (s : State) (c : Nat) (y2 : Nat) : KeptMode s (State.drainMerge s c y2) := by
  induction y2 generalizing s c <;> unfold State.drainMerge <;> (try dsimp only) <;> (repeat' split) <;> (try simp [*])

@[simp] theorem State.flushMerge_mode (s : State) (c : Nat) (y2 : Nat) : KeptMode s (State.flushMerge s c y2) := by
  induction y2 generalizing s c <;> unfold State.flushMerge <;> (try dsimp only) <;> (repeat' split) <;> (try simp [*])

@[simp] theorem State.applyWrite_mode (s : State) (c : Nat) (a : Nat) (d : BitVec 512) (w : BitVec 64) (cls : Nat) (paid : Nat) (part0 : Option (Nat × Nat)) : KeptMode s (State.applyWrite s c a d w cls paid part0) := by
  unfold State.applyWrite; (try dsimp only); (repeat' split) <;> (try simp)

@[simp] theorem State.promote_mode (s : State) (c : Nat) (y2 : Nat) : KeptMode s (State.promote s c y2) := by
  induction y2 generalizing s c <;> unfold State.promote <;> (try dsimp only) <;> (repeat' split) <;> (try simp [*])

@[simp] theorem State.askChan_mode (s : State) (c : Nat) (a : Nat) (cls : Nat) (conf : Bool) (since : Nat) (op : ReqOp) : KeptMode s (State.askChan s c a cls conf since op) := by
  first
  | (simp [State.askChan]; done)
  | (unfold State.askChan; (try dsimp only); (repeat' split) <;> (try simp); done)
  | (unfold State.askChan; (try dsimp only); (repeat' split) <;> (try simp [*]); done)

@[simp] theorem State.askWrite_mode (s : State) (c : Nat) (a : Nat) (cls : Nat) (conf : Bool) (since : Nat) (d : BitVec 512) (w : BitVec 64) : KeptMode s (State.askWrite s c a cls conf since d w) := by
  first
  | (simp [State.askWrite]; done)
  | (unfold State.askWrite; (try dsimp only); (repeat' split) <;> (try simp); done)
  | (unfold State.askWrite; (try dsimp only); (repeat' split) <;> (try simp [*]); done)

@[simp] theorem State.readCw_mode (s : State) (c : Nat) (a : Nat) (n : Nat) (errs : ReadErrs) (part : Option (Nat × Nat)) : KeptMode s (State.readCw s c a n errs part).st := by
  unfold State.readCw; (try dsimp only); (repeat' split) <;> (try simp)

@[simp] theorem State.sentFor_mode (s : State) (c : Nat) (n : Nat) (r : DmcReq) : KeptMode s (State.sentFor s c n r) := by
  first
  | (simp [State.sentFor]; done)
  | (unfold State.sentFor; (try dsimp only); (repeat' split) <;> (try simp); done)
  | (unfold State.sentFor; (try dsimp only); (repeat' split) <;> (try simp [*]); done)

@[simp] theorem State.writeOrWait_mode (s : State) (c : Nat) (a : Nat) (d : BitVec 512) (w : BitVec 64) (cls : Nat) (conf : Bool) (since : Nat) (part : Option (Nat × Nat)) : KeptMode s (State.writeOrWait s c a d w cls conf since part) := by
  first
  | (simp [State.writeOrWait]; done)
  | (unfold State.writeOrWait; (try dsimp only); (repeat' split) <;> (try simp); done)
  | (unfold State.writeOrWait; (try dsimp only); (repeat' split) <;> (try simp [*]); done)

@[simp] theorem State.readRun_mode (s : State) (pi : Nat) (p : Partition) (o : Nat) (y4 : Nat) : KeptMode s (State.readRun s pi p o y4).st := by
  induction y4 generalizing s pi p o <;> unfold State.readRun <;> (try dsimp only) <;> (repeat' split) <;> (try simp [*])

@[simp] theorem State.readBytes_mode (s : State) (pi : Nat) (p : Partition) (o : Nat) (n : Nat) : KeptMode s (State.readBytes s pi p o n).st := by
  simp [State.readBytes]

@[simp] theorem State.writeRun_mode (s : State) (pi : Nat) (p : Partition) (o : Nat) (l : List Byte) (cls : Nat) (conf : Bool) (y7 : Nat) : KeptMode s (State.writeRun s pi p o l cls conf y7) := by
  induction y7 generalizing s pi p o l cls conf <;> unfold State.writeRun <;> (try dsimp only) <;> (repeat' split) <;> (try simp [*])

@[simp] theorem State.writeBytes_mode (s : State) (pi : Nat) (p : Partition) (o : Nat) (l : List Byte) (cls : Nat) (conf : optParam Bool true) : KeptMode s (State.writeBytes s pi p o l cls conf) := by
  simp [State.writeBytes]

@[simp] theorem State.prechargeAll_mode (s : State) (c : Nat) : KeptMode s (State.prechargeAll s c) := by
  first
  | (simp [State.prechargeAll]; done)
  | (unfold State.prechargeAll; (try dsimp only); (repeat' split) <;> (try simp); done)
  | (unfold State.prechargeAll; (try dsimp only); (repeat' split) <;> (try simp [*]); done)

@[simp] theorem State.refreshed_mode (s : State) (c : Nat) (n : Nat) (owed : Nat) : KeptMode s (State.refreshed s c n owed) := by
  simp [State.refreshed]

@[simp] theorem State.issueRefreshes_mode (s : State) (c : Nat) (n : Nat) : KeptMode s (State.issueRefreshes s c n) := by
  first
  | (simp [State.issueRefreshes]; done)
  | (unfold State.issueRefreshes; (try dsimp only); (repeat' split) <;> (try simp); done)
  | (unfold State.issueRefreshes; (try dsimp only); (repeat' split) <;> (try simp [*]); done)

@[simp] theorem State.issueOwed_mode (s : State) (c : Nat) : KeptMode s (State.issueOwed s c) := by
  simp [State.issueOwed]

@[simp] theorem State.forceRefresh_mode (s : State) (c : Nat) : KeptMode s (State.forceRefresh s c) := by
  first
  | (simp [State.forceRefresh]; done)
  | (unfold State.forceRefresh; (try dsimp only); (repeat' split) <;> (try simp); done)
  | (unfold State.forceRefresh; (try dsimp only); (repeat' split) <;> (try simp [*]); done)

@[simp] theorem State.postponeUpdate_mode (s : State) (c : Nat) : KeptMode s (State.postponeUpdate s c) := by
  simp [State.postponeUpdate]

@[simp] theorem State.postponeAll_mode (s : State) : KeptMode s (State.postponeAll s) := by
  first
  | (simp [State.postponeAll]; done)
  | (unfold State.postponeAll; (try dsimp only); (repeat' split) <;> (try simp); done)
  | (unfold State.postponeAll; (try dsimp only); (repeat' split) <;> (try simp [*]); done)

@[simp] theorem State.settleBy_mode (s : State) (c : Nat) (past : DramCmd → Bool) : KeptMode s (State.settleBy s c past) := by
  first
  | (simp [State.settleBy]; done)
  | (unfold State.settleBy; (try dsimp only); (repeat' split) <;> (try simp); done)
  | (unfold State.settleBy; (try dsimp only); (repeat' split) <;> (try simp [*]); done)

@[simp] theorem State.enterSr_mode (s : State) (c : Nat) : KeptMode s (State.enterSr s c) := by
  simp [State.enterSr]

@[simp] theorem State.exitSr_mode (s : State) (c : Nat) : KeptMode s (State.exitSr s c) := by
  simp [State.exitSr]

@[simp] theorem State.multiplierStep_mode (s : State) (old : Nat) (new : Nat) (c : Nat) : KeptMode s (State.multiplierStep s old new c) := by
  first
  | (simp [State.multiplierStep]; done)
  | (unfold State.multiplierStep; (try dsimp only); (repeat' split) <;> (try simp); done)
  | (unfold State.multiplierStep; (try dsimp only); (repeat' split) <;> (try simp [*]); done)

@[simp] theorem State.settleAll_mode (s : State) : KeptMode s (State.settleAll s) := by
  first
  | (simp [State.settleAll]; done)
  | (unfold State.settleAll; (try dsimp only); (repeat' split) <;> (try simp); done)
  | (unfold State.settleAll; (try dsimp only); (repeat' split) <;> (try simp [*]); done)

@[simp] theorem State.setShadowTim_mode (s : State) (c : Nat) (point : Nat) (band : Nat) : KeptMode s (State.setShadowTim s c point band) := by
  simp [State.setShadowTim]

@[simp] theorem State.copyTim_mode (s : State) (c : Nat) : KeptMode s (State.copyTim s c) := by
  simp [State.copyTim]

@[simp] theorem State.retime_mode (s : State) (c : Nat) (point : Nat) (band : Nat) : KeptMode s (State.retime s c point band) := by
  simp [State.retime]

@[simp] theorem State.legStops_mode (s : State) (l : Leg) : KeptMode s (State.legStops s l) := by
  unfold State.legStops; (try dsimp only); (repeat' split) <;> (try simp)

@[simp] theorem State.legTraffic_mode (s : State) (b : Nat) (n : Nat) : KeptMode s (State.legTraffic s b n) := by
  first
  | (simp [State.legTraffic]; done)
  | (unfold State.legTraffic; (try dsimp only); (repeat' split) <;> (try simp); done)
  | (unfold State.legTraffic; (try dsimp only); (repeat' split) <;> (try simp [*]); done)

@[simp] theorem State.legPart_mode (s : State) (b : Nat) : KeptMode s (State.legPart s b) := by
  first
  | (simp [State.legPart]; done)
  | (unfold State.legPart; (try dsimp only); (repeat' split) <;> (try simp); done)
  | (unfold State.legPart; (try dsimp only); (repeat' split) <;> (try simp [*]); done)

@[simp] theorem State.setIncRun_mode (s : State) (b : Nat) (n : Nat) : KeptMode s (State.setIncRun s b n) := by
  simp [State.setIncRun]

@[simp] theorem State.setPreRun_mode (s : State) (b : Nat) (n : Nat) : KeptMode s (State.setPreRun s b n) := by
  simp [State.setPreRun]

@[simp] theorem State.rerunLeg_mode (s : State) (b : Nat) : KeptMode s (State.rerunLeg s b) := by
  simp [State.rerunLeg]

@[simp] theorem State.rowDone_mode (s : State) (b : Nat) : KeptMode s (State.rowDone s b) := by
  first
  | (simp [State.rowDone]; done)
  | (unfold State.rowDone; (try dsimp only); (repeat' split) <;> (try simp); done)
  | (unfold State.rowDone; (try dsimp only); (repeat' split) <;> (try simp [*]); done)

@[simp] theorem State.passBlock_mode (s : State) (b : Nat) : KeptMode s (State.passBlock s b) := by
  simp [State.passBlock]

@[simp] theorem State.legCut_mode (s : State) (l : Leg) : KeptMode s (State.legCut s l) := by
  first
  | (simp [State.legCut]; done)
  | (unfold State.legCut; (try dsimp only); (repeat' split) <;> (try simp); done)
  | (unfold State.legCut; (try dsimp only); (repeat' split) <;> (try simp [*]); done)

@[simp] theorem State.endLegs_mode (s : State) (c : Nat) (kinds : List Nat) : KeptMode s (State.endLegs s c kinds) := by
  simp [State.endLegs]

@[simp] theorem State.steeredBack_mode (s : State) (l : Leg) : KeptMode s (State.steeredBack s l) := by
  first
  | (simp [State.steeredBack]; done)
  | (unfold State.steeredBack; (try dsimp only); (repeat' split) <;> (try simp); done)
  | (unfold State.steeredBack; (try dsimp only); (repeat' split) <;> (try simp [*]); done)

@[simp] theorem State.legIncomplete_mode (s : State) (l : Leg) : KeptMode s (State.legIncomplete s l) := by
  simp [State.legIncomplete]

@[simp] theorem State.abortDramLegs_mode (s : State) : KeptMode s (State.abortDramLegs s) := by
  simp [State.abortDramLegs]

@[simp] theorem State.preempt_mode (s : State) (l : Leg) : KeptMode s (State.preempt s l) := by
  simp [State.preempt]

@[simp] theorem State.preemptBank_mode (s : State) (c : Nat) (a : Nat) : KeptMode s (State.preemptBank s c a) := by
  first
  | (simp [State.preemptBank]; done)
  | (unfold State.preemptBank; (try dsimp only); (repeat' split) <;> (try simp); done)
  | (unfold State.preemptBank; (try dsimp only); (repeat' split) <;> (try simp [*]); done)

@[simp] theorem State.preemptCws_mode (s : State) (p : Partition) (o : Nat) (y3 : Nat) : KeptMode s (State.preemptCws s p o y3) := by
  induction y3 generalizing s p o <;> unfold State.preemptCws <;> (try dsimp only) <;> (repeat' split) <;> (try simp [*])

@[simp] theorem State.reachBanks_mode (s : State) (rt : Bool) (p : Partition) (o : Nat) (n : Nat) : KeptMode s (State.reachBanks s rt p o n) := by
  first
  | (simp [State.reachBanks]; done)
  | (unfold State.reachBanks; (try dsimp only); (repeat' split) <;> (try simp); done)
  | (unfold State.reachBanks; (try dsimp only); (repeat' split) <;> (try simp [*]); done)

@[simp] theorem State.railOff_mode (s : State) (r : Nat) : KeptMode s (State.railOff s r) := by
  simp [State.railOff]

@[simp] theorem State.railsOff_mode (s : State) (g : Nat) : KeptMode s (State.railsOff s g) := by
  simp [State.railsOff]

@[simp] theorem State.retireNow_mode (s : State) (c : Nat) (why : Nat) : KeptMode s (State.retireNow s c why) := by
  first
  | (simp [State.retireNow]; done)
  | (unfold State.retireNow; (try dsimp only); (repeat' split) <;> (try simp); done)
  | (unfold State.retireNow; (try dsimp only); (repeat' split) <;> (try simp [*]); done)

@[simp] theorem State.putOff_mode (s : State) (x : Later) : KeptMode s (State.putOff s x) := by
  first
  | (simp [State.putOff]; done)
  | (unfold State.putOff; (try dsimp only); (repeat' split) <;> (try simp); done)
  | (unfold State.putOff; (try dsimp only); (repeat' split) <;> (try simp [*]); done)

@[simp] theorem State.retire_mode (s : State) (c : Nat) (why : Nat) : KeptMode s (State.retire s c why) := by
  simp [State.retire]

@[simp] theorem State.retireGroup_mode (s : State) (g : Nat) : KeptMode s (State.retireGroup s g) := by
  simp [State.retireGroup]

@[simp] theorem State.centreEyes_mode (s : State) (c : Nat) (lanes : List Nat) : KeptMode s (State.centreEyes s c lanes) := by
  first
  | (simp [State.centreEyes]; done)
  | (unfold State.centreEyes; (try dsimp only); (repeat' split) <;> (try simp); done)
  | (unfold State.centreEyes; (try dsimp only); (repeat' split) <;> (try simp [*]); done)

@[simp] theorem State.narrowNow_mode (s : State) (c : Nat) : KeptMode s (State.narrowNow s c) := by
  first
  | (simp [State.narrowNow]; done)
  | (unfold State.narrowNow; (try dsimp only); (repeat' split) <;> (try simp); done)
  | (unfold State.narrowNow; (try dsimp only); (repeat' split) <;> (try simp [*]); done)

@[simp] theorem State.narrow_mode (s : State) (c : Nat) : KeptMode s (State.narrow s c) := by
  simp [State.narrow]

@[simp] theorem State.doLater_mode (s : State) : KeptMode s (State.doLater s) := by
  unfold State.doLater
  refine KeptMode_trans (t := { s with dmc := { s.dmc with later := [] } }) (by simp) (foldl_mode _ _ _ (fun t x => ?_))
  repeat' split
  all_goals simp

@[simp] theorem State.laneSpared_mode (s : State) (c : Nat) (kind : Nat) (lane : Nat) (spare : Nat) (free : Nat) : KeptMode s (State.laneSpared s c kind lane spare free) := by
  simp [State.laneSpared]

@[simp] theorem State.failData_mode (s : State) (c : Nat) (lane : Nat) : KeptMode s (State.failData s c lane) := by
  unfold State.failData; (try dsimp only); (repeat' split) <;> (try simp)

@[simp] theorem State.failCa_mode (s : State) (c : Nat) (lane : Nat) : KeptMode s (State.failCa s c lane) := by
  unfold State.failCa; (try dsimp only); (repeat' split) <;> (try simp)

@[simp] theorem State.clkLost_mode (s : State) (g : Nat) (b : Nat) : KeptMode s (State.clkLost s g b) := by
  simp [State.clkLost]

@[simp] theorem State.logRepair_mode (s : State) (entry : Nat) : KeptMode s (State.logRepair s entry) := by
  simp [State.logRepair]

@[simp] theorem State.copyCw_mode (s : State) (c : Nat) (a : Nat) : KeptMode s (State.copyCw s c a) := by
  unfold State.copyCw; (try dsimp only); (repeat' split) <;> (try simp)

@[simp] theorem State.sparesOut_mode (s : State) (c : Nat) (bank : Nat) (row : Nat) : KeptMode s (State.sparesOut s c bank row) := by
  simp [State.sparesOut]

@[simp] theorem State.repairRow_mode (s : State) (c : Nat) (p : Nat) : KeptMode s (State.repairRow s c p) := by
  unfold State.repairRow; (try dsimp only); (repeat' split) <;> (try simp)

@[simp] theorem State.repairColumn_mode (s : State) (c : Nat) (p : Nat) (col : Nat) : KeptMode s (State.repairColumn s c p col) := by
  unfold State.repairColumn; (try dsimp only); (repeat' split) <;> (try simp)

@[simp] theorem State.rowFailed_mode (s : State) (c : Nat) (p : Nat) (column : Option Nat) : KeptMode s (State.rowFailed s c p column) := by
  unfold State.rowFailed; (try dsimp only); (repeat' split) <;> (try simp)

@[simp] theorem State.placeBlocks_mode (s : State) (k : Nat) (n : Nat) : KeptMode s (State.placeBlocks s k n) := by
  first
  | (simp [State.placeBlocks]; done)
  | (unfold State.placeBlocks; (try dsimp only); (repeat' split) <;> (try simp); done)
  | (unfold State.placeBlocks; (try dsimp only); (repeat' split) <;> (try simp [*]); done)

@[simp] theorem State.emitPacket_mode (s : State) (k : Nat) (p : Packet) (resent : Bool) : KeptMode s (State.emitPacket s k p resent) := by
  first
  | (simp [State.emitPacket]; done)
  | (unfold State.emitPacket; (try dsimp only); (repeat' split) <;> (try simp); done)
  | (unfold State.emitPacket; (try dsimp only); (repeat' split) <;> (try simp [*]); done)

@[simp] theorem State.emitBlock_mode (s : State) (k : Nat) (b : RxBlock) : KeptMode s (State.emitBlock s k b) := by
  first
  | (simp [State.emitBlock]; done)
  | (unfold State.emitBlock; (try dsimp only); (repeat' split) <;> (try simp); done)
  | (unfold State.emitBlock; (try dsimp only); (repeat' split) <;> (try simp [*]); done)

@[simp] theorem State.sendNew_mode (s : State) (k : Nat) (p : Packet) : KeptMode s (State.sendNew s k p) := by
  simp [State.sendNew]

@[simp] theorem State.takeWaiting_mode (s : State) (k : Nat) (e : Waiting × Nat) : KeptMode s (State.takeWaiting s k e) := by
  first
  | (simp [State.takeWaiting]; done)
  | (unfold State.takeWaiting; (try dsimp only); (repeat' split) <;> (try simp); done)
  | (unfold State.takeWaiting; (try dsimp only); (repeat' split) <;> (try simp [*]); done)

@[simp] theorem State.pumpRun_mode (s : State) (k : Nat) (y2 : Nat) : KeptMode s (State.pumpRun s k y2) := by
  induction y2 generalizing s k <;> unfold State.pumpRun <;> (try dsimp only) <;> (repeat' split) <;> (try simp [*])

@[simp] theorem State.crCount_mode (s : State) (k : Nat) (n : Nat) : KeptMode s (State.crCount s k n) := by
  first
  | (simp [State.crCount]; done)
  | (unfold State.crCount; (try dsimp only); (repeat' split) <;> (try simp); done)
  | (unfold State.crCount; (try dsimp only); (repeat' split) <;> (try simp [*]); done)

@[simp] theorem State.pump_mode (s : State) (k : Nat) : KeptMode s (State.pump s k) := by
  simp [State.pump]

@[simp] theorem State.sendPacket_mode (s : State) (k : Nat) (p : Packet) (conf : optParam Bool true) : KeptMode s (State.sendPacket s k p conf) := by
  simp [State.sendPacket]

@[simp] theorem State.noteAdmission_mode (s : State) (a : Status × Nat × Nat) : KeptMode s (State.noteAdmission s a) := by
  simp [State.noteAdmission]

@[simp] theorem State.classesNow_mode (s : State) : KeptMode s (State.classesNow s) := by
  simp [State.classesNow]

@[simp] theorem State.shedClass_mode (s : State) (n : Nat) (r : Res) : KeptMode s (State.shedClass s n r) := by
  simp [State.shedClass]

@[simp] theorem State.shedLoop_mode (s : State) (y1 : Nat) : KeptMode s (State.shedLoop s y1) := by
  induction y1 generalizing s <;> unfold State.shedLoop <;> (try dsimp only) <;> (repeat' split) <;> (try simp [*])

@[simp] theorem State.evaluate_mode (s : State) : KeptMode s (State.evaluate s) := by
  simp [State.evaluate]

theorem execShedEvaluation_mode (s : State) (t : State) (h : (execShedEvaluation s) = .next t) : KeptMode s t := by
  unfold execShedEvaluation at h; (try dsimp only at h); (repeat' split at h) <;> (try simp only [Host.Outcome.next.injEq, reduceCtorEq] at h) <;> (try subst h) <;> (try simp)

@[simp] theorem State.reinstate_mode (s : State) (n : Nat) : KeptMode s (State.reinstate s n) := by
  simp [State.reinstate]

@[simp] theorem State.reinstateAll_mode (s : State) : KeptMode s (State.reinstateAll s) := by
  simp [State.reinstateAll]

theorem execReinstatement_mode (s : State) (t : State) (h : (execReinstatement s) = .next t) : KeptMode s t := by
  unfold execReinstatement at h; (try dsimp only at h); (repeat' split at h) <;> (try simp only [Host.Outcome.next.injEq, reduceCtorEq] at h) <;> (try subst h) <;> (try simp)

@[simp] theorem State.holdUpdate_mode (s : State) : KeptMode s (State.holdUpdate s) := by
  simp [State.holdUpdate]

theorem execHoldExceeded_mode (n : Fin 32) (s : State) (t : State) (h : (execHoldExceeded n s) = .next t) : KeptMode s t := by
  unfold execHoldExceeded at h; (try dsimp only at h); (repeat' split at h) <;> (try simp only [Host.Outcome.next.injEq, reduceCtorEq] at h) <;> (try subst h) <;> (try simp)

@[simp] theorem State.setDomain_mode (s : State) (d : Nat) (x : Domain) : KeptMode s (State.setDomain s d x) := by
  simp [State.setDomain]

@[simp] theorem State.setSource_mode (s : State) (i : Nat) (x : Source) : KeptMode s (State.setSource s i x) := by
  simp [State.setSource]

@[simp] theorem State.logException_mode (s : State) (e : ExcEntry) : KeptMode s (State.logException s e) := by
  simp [State.logException]

@[simp] theorem State.exception_mode (s : State) (bytes : List Byte) (chain : Nat) (why : ExcReason) (domain : Option Nat) : KeptMode s (State.exception s bytes chain why domain) := by
  simp [State.exception]

@[simp] theorem State.declareGap_mode (s : State) (src : Nat) (first : Nat) (count : Nat) : KeptMode s (State.declareGap s src first count) := by
  simp [State.declareGap]

@[simp] theorem State.setCapLog_mode (s : State) (p : Nat) (x : CapLog) : KeptMode s (State.setCapLog s p x) := by
  simp [State.setCapLog]

@[simp] theorem State.writeBlockCws_mode (s : State) (p : Nat) (part : Partition) (x : CapLog) (i : Nat) (y5 : Nat) : KeptMode s (State.writeBlockCws s p part x i y5) := by
  induction y5 generalizing s p part x i <;> unfold State.writeBlockCws <;> (try dsimp only) <;> (repeat' split) <;> (try simp [*])

@[simp] theorem State.writeBlock_mode (s : State) (p : Nat) (ring : Bool) : KeptMode s (State.writeBlock s p ring) := by
  unfold State.writeBlock; (try dsimp only); (repeat' split) <;> (try simp)

@[simp] theorem State.capture_mode (s : State) (src : Nat) (f : FailRec) : KeptMode s (State.capture s src f) := by
  simp [State.capture]

@[simp] theorem State.release_mode (s : State) (src : Nat) (f : FailRec) (late : Bool) : KeptMode s (State.release s src f late) := by
  unfold State.release; (try dsimp only); (repeat' split) <;> (try simp)

@[simp] theorem State.releaseRun_mode (s : State) (src : Nat) (y2 : List (Nat × FailRec)) : KeptMode s (State.releaseRun s src y2) := by
  induction y2 generalizing s src <;> unfold State.releaseRun <;> (try dsimp only) <;> (repeat' split) <;> (try simp [*])

@[simp] theorem State.releaseAll_mode (s : State) (src : Nat) (pos : Option Nat) (y3 : List (Nat × FailRec)) : KeptMode s (State.releaseAll s src pos y3) := by
  induction y3 generalizing s src pos <;> unfold State.releaseAll <;> (try dsimp only) <;> (repeat' split) <;> (try simp [*])

@[simp] theorem State.pushWindow_mode (s : State) (src : Nat) (nx : Nat) (new : Nat) : KeptMode s (State.pushWindow s src nx new) := by
  simp [State.pushWindow]

@[simp] theorem State.inOrder_mode (s : State) (src : Nat) (q : Nat) (f : FailRec) : KeptMode s (State.inOrder s src q f) := by
  simp [State.inOrder]

@[simp] theorem State.timerUpdate_mode (s : State) (src : Nat) (nx : Option Nat) : KeptMode s (State.timerUpdate s src nx) := by
  simp [State.timerUpdate]

@[simp] theorem State.arrive_mode (s : State) (src : Nat) (f : FailRec) : KeptMode s (State.arrive s src f) := by
  unfold State.arrive; (try dsimp only); (repeat' split) <;> (try simp)

@[simp] theorem State.loseNx_mode (s : State) (src : Nat) : KeptMode s (State.loseNx s src) := by
  simp [State.loseNx]

@[simp] theorem State.sourcesLost_mode (s : State) (k : Nat) : KeptMode s (State.sourcesLost s k) := by
  simp [State.sourcesLost]

@[simp] theorem State.queueMoved_mode (s : State) : KeptMode s (State.queueMoved s) := by
  unfold State.queueMoved; (try dsimp only); (repeat' split) <;> (try simp)

@[simp] theorem State.heapCheck_mode (s : State) : KeptMode s (State.heapCheck s) := by
  simp [State.heapCheck]

theorem State.takeHeap_mode (s : State) (d : Nat) (use : HeapUse) (n : Nat) (t : State) (h : s.takeHeap d use n = some t) : KeptMode s t := by
  unfold State.takeHeap at h
  split at h
  · simp_all
  · simp only [Option.map_eq_some_iff] at h
    obtain ⟨a, _, rfl⟩ := h
    simp

/-- A heap place taken or refused. -/
@[simp] theorem State.takeHeapD_mode (s : State) (d : Nat) (use : HeapUse) (n : Nat) : KeptMode s ((s.takeHeap d use n).getD s) := by
  cases h : s.takeHeap d use n with
  | none => simp
  | some t => simpa using State.takeHeap_mode s d use n t h

theorem State.takeAll_mode (s : State) (l : List HeapNeed) (t : State) (h : s.takeAll l = some t) : KeptMode s t := by
  unfold State.takeAll at h
  induction l generalizing s with
  | nil => simp_all
  | cons x r ih =>
    rw [List.foldlM_cons] at h
    obtain ⟨u, hu, hr⟩ := Option.bind_eq_some_iff.mp h
    exact KeptMode_trans (State.takeHeap_mode _ _ _ _ _ hu) (ih _ hr)

@[simp] theorem State.spill_mode (s : State) (d : Nat) : KeptMode s (State.spill s d) := by
  simp [State.spill]

@[simp] theorem State.applyRecord_mode (s : State) (d : Nat) (x : Located) (f : FailRec) (late : Bool) :
    KeptMode s (State.applyRecord s d x f late) := by
  unfold State.applyRecord
  dsimp only
  split
  · simp
  · rename_i h hh
    have h1 := State.takeAll_mode _ _ _ hh
    split <;> simp_all

@[simp] theorem State.traffic_mode (s : State) (n : Nat) (bytes : Nat) (label : Nat) : KeptMode s (State.traffic s n bytes label).1 := by
  simp [State.traffic]

@[simp] theorem State.finish_mode (s : State) (r : ResultRec) : KeptMode s (State.finish s r) := by
  simp [State.finish]

@[simp] theorem State.checkRound_mode (s : State) (p : Nat) (runner : Option Nat) : KeptMode s (State.checkRound s p runner) := by
  first
  | (simp [State.checkRound]; done)
  | (unfold State.checkRound; (try dsimp only); (repeat' split) <;> (try simp); done)
  | (unfold State.checkRound; (try dsimp only); (repeat' split) <;> (try simp [*]); done)

@[simp] theorem State.round_mode (s : State) (p : Nat) (engine : Nat) : KeptMode s (State.round s p engine) := by
  unfold State.round; (try dsimp only); (repeat' split) <;> (try simp)

@[simp] theorem State.engineTick_mode (s : State) (e : Nat) : KeptMode s (State.engineTick s e) := by
  first
  | (simp [State.engineTick]; done)
  | (unfold State.engineTick; (try dsimp only); (repeat' split) <;> (try simp); done)
  | (unfold State.engineTick; (try dsimp only); (repeat' split) <;> (try simp [*]); done)

@[simp] theorem State.enginesTick_mode (s : State) : KeptMode s (State.enginesTick s) := by
  first
  | (simp [State.enginesTick]; done)
  | (unfold State.enginesTick; (try dsimp only); (repeat' split) <;> (try simp); done)
  | (unfold State.enginesTick; (try dsimp only); (repeat' split) <;> (try simp [*]); done)

@[simp] theorem State.takeOutcome_mode (s : State) (d : Nat) (engine : Nat) (o : PassOutcome) : KeptMode s (State.takeOutcome s d engine o) := by
  unfold State.takeOutcome; (try dsimp only); (repeat' split) <;> (try simp)

@[simp] theorem State.recordBits_mode (s : State) (found : List Nat) : KeptMode s (State.recordBits s found) := by
  first
  | (simp [State.recordBits]; done)
  | (unfold State.recordBits; (try dsimp only); (repeat' split) <;> (try simp); done)
  | (unfold State.recordBits; (try dsimp only); (repeat' split) <;> (try simp [*]); done)

@[simp] theorem State.senseBits_mode (s : State) (among : Nat → Bool) (found : List Nat) : KeptMode s (State.senseBits s among found) := by
  first
  | (simp [State.senseBits]; done)
  | (unfold State.senseBits; (try dsimp only); (repeat' split) <;> (try simp); done)
  | (unfold State.senseBits; (try dsimp only); (repeat' split) <;> (try simp [*]); done)

@[simp] theorem State.reinforced_mode (s : State) (l : List Nat) : KeptMode s (State.reinforced s l) := by
  simp [State.reinforced]

@[simp] theorem State.blow_mode (s : State) (l : List Nat) : KeptMode s (State.blow s l) := by
  simp [State.blow]

@[simp] theorem State.lockedOut_mode (s : State) : KeptMode s (State.lockedOut s) := by
  first
  | (simp [State.lockedOut]; done)
  | (unfold State.lockedOut; (try dsimp only); (repeat' split) <;> (try simp); done)
  | (unfold State.lockedOut; (try dsimp only); (repeat' split) <;> (try simp [*]); done)

@[simp] theorem FuseRun.pulse_mode (x : FuseRun) (n : Nat) : KeptMode x.st (x.pulse n).st := by simp [FuseRun.pulse]

@[simp] theorem FuseRun.verified_mode (x : FuseRun) (b : Nat) : KeptMode x.st (x.verified b).st := by simp [FuseRun.verified]

@[simp] theorem FuseRun.program_mode (x : FuseRun) (b : Nat) : KeptMode x.st (x.program b).st := by
  unfold FuseRun.program
  repeat' split
  all_goals simp

@[simp] theorem FuseRun.pulses_mode (x : FuseRun) (l : List Nat) : KeptMode x.st (l.foldl (fun (y : FuseRun) _ => y.pulse 1) x).st := by
  induction l generalizing x with
  | nil => simp
  | cons b r ih => exact KeptMode_trans (FuseRun.pulse_mode x 1) (ih _)

@[simp] theorem FuseRun.boost_mode (x : FuseRun) (l : List Nat) : KeptMode x.st (x.boost l).st := by simp [FuseRun.boost]

@[simp] theorem FuseRun.sense_mode (x : FuseRun) (f : Nat → Bool) : KeptMode x.st (x.sense f).1.st := by simp [FuseRun.sense]

@[simp] theorem FuseRun.settle_mode (x : FuseRun) (n : Nat) (ws : List DWord) (k : Nat) : KeptMode x.st (x.settle n ws k).st := by
  induction k generalizing x with
  | zero => unfold FuseRun.settle; dsimp only; split <;> simp
  | succ k ih =>
    unfold FuseRun.settle
    dsimp only
    repeat' split
    all_goals simp [ih]

@[simp] theorem FuseRun.locks_mode (x : FuseRun) (l : List Nat) : KeptMode x.st (l.foldl FuseRun.verified x).st := by
  induction l generalizing x with
  | nil => simp
  | cons b r ih => exact KeptMode_trans (FuseRun.verified_mode x b) (ih _)

@[simp] theorem FuseRun.step_mode (x : FuseRun) (e : FuseStep) : KeptMode x.st (x.step e).st := by
  unfold FuseRun.step
  repeat' split
  all_goals simp

@[simp] theorem FuseRun.upTo_mode (x : FuseRun) (n : Nat) (l : List FuseStep) : KeptMode x.st (x.upTo n l).1.st := by
  induction n generalizing x l with
  | zero => simp [FuseRun.upTo]
  | succ n ih =>
    cases l with
    | nil => simp [FuseRun.upTo]
    | cons e r => unfold FuseRun.upTo; dsimp only; split <;> simp [ih]

@[simp] theorem FuseRun.steps_mode (x : FuseRun) (l : List FuseStep) : KeptMode x.st (l.foldl FuseRun.step x).st := by
  induction l generalizing x with
  | nil => simp
  | cons e r ih => exact KeptMode_trans (FuseRun.step_mode x e) (ih _)

@[simp] theorem State.fuseGoesOn_mode (s : State) : KeptMode s (State.fuseGoesOn s) := by
  unfold State.fuseGoesOn
  split
  · simp
  · simp [State.drawn]

@[simp] theorem State.fuseCut_mode (s : State) : KeptMode s (State.fuseCut s) := by
  unfold State.fuseCut; (try dsimp only); (repeat' split) <;> (try simp)

@[simp] theorem State.fuseAsk_mode (s : State) (o : FuseOp) : KeptMode s (State.fuseAsk s o) := by
  first
  | (simp [State.fuseAsk]; done)
  | (unfold State.fuseAsk; (try dsimp only); (repeat' split) <;> (try simp); done)
  | (unfold State.fuseAsk; (try dsimp only); (repeat' split) <;> (try simp [*]); done)

@[simp] theorem State.fuseNext_mode (s : State) : KeptMode s (State.fuseNext s) := by
  first
  | (simp [State.fuseNext]; done)
  | (unfold State.fuseNext; (try dsimp only); (repeat' split) <;> (try simp); done)
  | (unfold State.fuseNext; (try dsimp only); (repeat' split) <;> (try simp [*]); done)

@[simp] theorem State.fuseEnds_mode (s : State) (st : Status) (pulses : Nat) : KeptMode s (State.fuseEnds s st pulses) := by
  simp [State.fuseEnds]

@[simp] theorem State.recordMarginal_mode (s : State) : KeptMode s (State.recordMarginal s) := by
  simp [State.recordMarginal]

@[simp] theorem State.judgeAll_mode (s : State) : KeptMode s (State.judgeAll s) := by
  simp [State.judgeAll]

@[simp] theorem State.senseReport_mode (s : State) : KeptMode s (State.senseReport s) := by
  simp [State.senseReport]

@[simp] theorem State.senseAll_mode (s : State) (weak : List (Nat × DWord)) (cold : Bool) : KeptMode s (State.senseAll s weak cold) := by
  simp [State.senseAll]

@[simp] theorem State.writeSlot_mode (s : State) : KeptMode s (State.writeSlot s) := by
  simp [State.writeSlot]

@[simp] theorem State.dropLatches_mode (s : State) (gone : List (Nat × Session)) : KeptMode s (State.dropLatches s gone) := by
  first
  | (simp [State.dropLatches]; done)
  | (unfold State.dropLatches; (try dsimp only); (repeat' split) <;> (try simp); done)
  | (unfold State.dropLatches; (try dsimp only); (repeat' split) <;> (try simp [*]); done)

@[simp] theorem State.endSessions_mode (s : State) (p : Session → Bool) : KeptMode s (State.endSessions s p) := by
  simp [State.endSessions]

@[simp] theorem State.forgetSessions_mode (s : State) : KeptMode s (State.forgetSessions s) := by
  first
  | (simp [State.forgetSessions]; done)
  | (unfold State.forgetSessions; (try dsimp only); (repeat' split) <;> (try simp); done)
  | (unfold State.forgetSessions; (try dsimp only); (repeat' split) <;> (try simp [*]); done)

@[simp] theorem State.endAtOnce_mode (s : State) (p : Session → Bool) : KeptMode s (State.endAtOnce s p) := by
  first
  | (simp [State.endAtOnce]; done)
  | (unfold State.endAtOnce; (try dsimp only); (repeat' split) <;> (try simp); done)
  | (unfold State.endAtOnce; (try dsimp only); (repeat' split) <;> (try simp [*]); done)

@[simp] theorem State.loseMem_mode (s : State) (chans : List Nat) : KeptMode s (State.loseMem s chans) := by
  simp [State.loseMem]

@[simp] theorem State.safeDomains_mode (s : State) : KeptMode s (State.safeDomains s) := by
  simp [State.safeDomains]

@[simp] theorem State.dmcSafe_mode (s : State) : KeptMode s (State.dmcSafe s) := by
  simp [State.dmcSafe]

@[simp] theorem State.idleLanes_mode (s : State) : KeptMode s (State.idleLanes s) := by
  simp [State.idleLanes]

@[simp] theorem State.sendSafe_mode (s : State) (src : Nat) : KeptMode s (State.sendSafe s src) := by
  first
  | (simp [State.sendSafe]; done)
  | (unfold State.sendSafe; (try dsimp only); (repeat' split) <;> (try simp); done)
  | (unfold State.sendSafe; (try dsimp only); (repeat' split) <;> (try simp [*]); done)

@[simp] theorem State.setBoot_mode (s : State) (result : Nat) : KeptMode s (State.setBoot s result) := by
  simp [State.setBoot]

@[simp] theorem State.safeBoot_mode (s t : State) : KeptMode t (State.safeBoot s t) := by
  unfold State.safeBoot
  split <;> simp

@[simp] theorem State.sessionReply_mode (s : State) (st : Status) (data : optParam (List Byte) []) : KeptMode s (State.sessionReply s st data) := by
  simp [State.sessionReply]

@[simp] theorem State.pkTake_mode (s : State) : KeptMode s (State.pkTake s) := by
  first
  | (simp [State.pkTake]; done)
  | (unfold State.pkTake; (try dsimp only); (repeat' split) <;> (try simp); done)
  | (unfold State.pkTake; (try dsimp only); (repeat' split) <;> (try simp [*]); done)

@[simp] theorem State.issueNonce_mode (s : State) (path : Nat) : KeptMode s (State.issueNonce s path) := by
  simp [State.issueNonce]

@[simp] theorem State.opNonce_mode (s : State) (r : Req) : KeptMode s (State.opNonce s r) := by
  unfold State.opNonce; (try dsimp only); (repeat' split) <;> (try simp)

theorem execNonce_mode (r : Req) (s : State) (t : State) (h : (execNonce r s) = .next t) : KeptMode s t := by
  simp only [execNonce, Host.Outcome.next.injEq] at h; subst h; simp

theorem execNonceExpire_mode (p : Path) (s : State) (t : State) (h : (execNonceExpire p s) = .next t) : KeptMode s t := by
  unfold execNonceExpire at h; (try dsimp only at h); (repeat' split at h) <;> (try simp only [Host.Outcome.next.injEq, reduceCtorEq] at h) <;> (try subst h) <;> (try simp)

@[simp] theorem State.consumeNonce_mode (s : State) (r : Req) (ext : List Byte) : KeptMode s (State.consumeNonce s r ext) := by
  unfold State.consumeNonce; (try dsimp only); (repeat' split) <;> (try simp)

@[simp] theorem State.openFailed_mode (s : State) (path : Nat) : KeptMode s (State.openFailed s path) := by
  simp [State.openFailed]

@[simp] theorem State.openSession_mode (s : State) (r : Req) (ext : List Byte) (key : List Byte) : KeptMode s (State.openSession s r ext key) := by
  simp [State.openSession]

@[simp] theorem State.openTakes_mode (s : State) (r : Req) (ext : List Byte) : KeptMode s (State.openTakes s r ext) := by
  first
  | (simp [State.openTakes]; done)
  | (unfold State.openTakes; (try dsimp only); (repeat' split) <;> (try simp); done)
  | (unfold State.openTakes; (try dsimp only); (repeat' split) <;> (try simp [*]); done)

@[simp] theorem State.opOpen_mode (s : State) (r : Req) (ext : List Byte) : KeptMode s (State.opOpen s r ext) := by
  unfold State.opOpen; (try dsimp only); (repeat' split) <;> (try simp)

theorem execSessionOpen_mode (r : Req) (ext : List Byte) (s : State) (t : State) (h : (execSessionOpen r ext s) = .next t) : KeptMode s t := by
  simp only [execSessionOpen, Host.Outcome.next.injEq] at h; subst h; simp

@[simp] theorem State.opClose_mode (s : State) (r : Req) : KeptMode s (State.opClose s r) := by
  unfold State.opClose; (try dsimp only); (repeat' split) <;> (try simp)

theorem execSessionClose_mode (r : Req) (s : State) (t : State) (h : (execSessionClose r s) = .next t) : KeptMode s t := by
  simp only [execSessionClose, Host.Outcome.next.injEq] at h; subst h; simp

@[simp] theorem State.opEvict_mode (s : State) (r : Req) (ext : List Byte) : KeptMode s (State.opEvict s r ext) := by
  unfold State.opEvict; (try dsimp only); (repeat' split) <;> (try simp)

theorem execEvict_mode (r : Req) (ext : List Byte) (s : State) (t : State) (h : (execEvict r ext s) = .next t) : KeptMode s t := by
  simp only [execEvict, Host.Outcome.next.injEq] at h; subst h; simp

theorem execSessionIdleTimeout_mode (slot : Fin 16) (s : State) (t : State) (h : (execSessionIdleTimeout slot s) = .next t) : KeptMode s t := by
  unfold execSessionIdleTimeout at h; (try dsimp only at h); (repeat' split at h) <;> (try simp only [Host.Outcome.next.injEq, reduceCtorEq] at h) <;> (try subst h) <;> (try simp)

@[simp] theorem State.opIdentity_mode (s : State) (r : Req) : KeptMode s (State.opIdentity s r) := by
  unfold State.opIdentity; (try dsimp only); (repeat' split) <;> (try simp)

theorem execIdentity_mode (r : Req) (s : State) (t : State) (h : (execIdentity r s) = .next t) : KeptMode s t := by
  simp only [execIdentity, Host.Outcome.next.injEq] at h; subst h; simp

@[simp] theorem State.opAttest_mode (s : State) (r : Req) (hnonce : List Byte) : KeptMode s (State.opAttest s r hnonce) := by
  unfold State.opAttest; (try dsimp only); (repeat' split) <;> (try simp)

theorem execAttest_mode (r : Req) (hnonce : List Byte) (s : State) (t : State) (h : (execAttest r hnonce s) = .next t) : KeptMode s t := by
  simp only [execAttest, Host.Outcome.next.injEq] at h; subst h; simp

@[simp] theorem State.opEnroll_mode (s : State) (r : Req) : KeptMode s (State.opEnroll s r) := by
  unfold State.opEnroll; (try dsimp only); (repeat' split) <;> (try simp)

theorem execEnroll_mode (r : Req) (s : State) (t : State) (h : (execEnroll r s) = .next t) : KeptMode s t := by
  simp only [execEnroll, Host.Outcome.next.injEq] at h; subst h; simp

@[simp] theorem State.dbgWrite_mode (s : State) (r : Req) (v : Word) : KeptMode s (State.dbgWrite s r v) := by
  simp [State.dbgWrite]

theorem execDebugUnlock_mode (r : Req) (v : Word) (s : State) (t : State) (h : (execDebugUnlock r v s) = .next t) : KeptMode s t := by
  simp only [execDebugUnlock, Host.Outcome.next.injEq] at h; subst h; simp

@[simp] theorem State.setSession_mode (s : State) (slot : Nat) (x : Session) : KeptMode s (State.setSession s slot x) := by
  simp [State.setSession]

@[simp] theorem State.tagFailed_mode (s : State) (slot : Nat) (x : Session) (chain : Nat) : KeptMode s (State.tagFailed s slot x chain) := by
  simp [State.tagFailed]

@[simp] theorem State.tagCheck_mode (s : State) (path : Nat) (p : Packet) : KeptMode s (State.tagCheck s path p).1 := by
  unfold State.tagCheck; (try dsimp only); (repeat' split) <;> (try simp)

@[simp] theorem State.tagPacket_mode (s : State) (slot : Nat) (x : Session) (p : Packet) : KeptMode s (State.tagPacket s slot x p).1 := by
  unfold State.tagPacket; (try dsimp only); (repeat' split) <;> (try simp)

@[simp] theorem State.servingFor_mode (s : State) (sess : Option (Nat × Session)) : KeptMode s (State.servingFor s sess) := by
  first
  | (simp [State.servingFor]; done)
  | (unfold State.servingFor; (try dsimp only); (repeat' split) <;> (try simp); done)
  | (unfold State.servingFor; (try dsimp only); (repeat' split) <;> (try simp [*]); done)

@[simp] theorem State.servingDone_mode (s : State) : KeptMode s (State.servingDone s) := by
  first
  | (simp [State.servingDone]; done)
  | (unfold State.servingDone; (try dsimp only); (repeat' split) <;> (try simp); done)
  | (unfold State.servingDone; (try dsimp only); (repeat' split) <;> (try simp [*]); done)

@[simp] theorem State.sendTagged_mode (s : State) (k : Nat) (e : Nat × Session) (p : Packet) (conf : Bool) : KeptMode s (State.sendTagged s k e p conf) := by
  first
  | (simp [State.sendTagged]; done)
  | (unfold State.sendTagged; (try dsimp only); (repeat' split) <;> (try simp); done)
  | (unfold State.sendTagged; (try dsimp only); (repeat' split) <;> (try simp [*]); done)

@[simp] theorem State.answerWith_mode (s : State) (k : Nat) (sess : Option (Nat × Session)) (p : Packet) (conf : optParam Bool true) : KeptMode s (State.answerWith s k sess p conf) := by
  unfold State.answerWith; (try dsimp only); (repeat' split) <;> (try simp)

@[simp] theorem State.sendEmpty_mode (s : State) (k : Nat) (type : Nat) (label : Nat) (rid : Nat) (sess : Option (Nat × Session)) (st : Status) : KeptMode s (State.sendEmpty s k type label rid sess st) := by
  simp [State.sendEmpty]

@[simp] theorem State.sendFragments_mode (s : State) (k : Nat) (label : Nat) (rid : Nat) (sess : Option (Nat × Session)) (st : Status) (conf : Bool) (y7 : Nat) (y8 : List (List Byte)) : KeptMode s (State.sendFragments s k label rid sess st conf y7 y8) := by
  induction y8 generalizing s k label rid sess st conf y7 <;> unfold State.sendFragments <;> (try dsimp only) <;> (repeat' split) <;> (try simp [*])

@[simp] theorem State.answerBrd_mode (s : State) (j : BrdJob) : KeptMode s (State.answerBrd s j) := by
  first
  | (simp [State.answerBrd]; done)
  | (unfold State.answerBrd; (try dsimp only); (repeat' split) <;> (try simp); done)
  | (unfold State.answerBrd; (try dsimp only); (repeat' split) <;> (try simp [*]); done)

@[simp] theorem State.deliver_mode (s : State) (id : Nat) (slot : Nat) (w : JobCw) : KeptMode s (State.deliver s id slot w) := by
  first
  | (simp [State.deliver]; done)
  | (unfold State.deliver; (try dsimp only); (repeat' split) <;> (try simp); done)
  | (unfold State.deliver; (try dsimp only); (repeat' split) <;> (try simp [*]); done)

@[simp] theorem State.gather_mode (s : State) (j : BrdJob) (p : Partition) (id : Nat) (cls : Nat) (i : Nat) (o : Nat) (y7 : Nat) : KeptMode s (State.gather s j p id cls i o y7).1 := by
  induction y7 generalizing s j p id cls i o <;> unfold State.gather <;> (try dsimp only) <;> (repeat' split) <;> (try simp [*])

@[simp] theorem State.startBrd_mode (s : State) (j : BrdJob) (p : Partition) (cls : Nat) : KeptMode s (State.startBrd s j p cls) := by
  first
  | (simp [State.startBrd]; done)
  | (unfold State.startBrd; (try dsimp only); (repeat' split) <;> (try simp); done)
  | (unfold State.startBrd; (try dsimp only); (repeat' split) <;> (try simp [*]); done)

@[simp] theorem State.loseEntry_mode (s : State) (d : Nat) : KeptMode s (State.loseEntry s d) := by
  simp [State.loseEntry]

@[simp] theorem State.loseMap_mode (s : State) (d : Nat) : KeptMode s (State.loseMap s d) := by
  unfold State.loseMap; (try dsimp only); (repeat' split) <;> (try simp)

@[simp] theorem State.damaged_mode (s : State) (d : Nat) : KeptMode s (State.damaged s d) := by
  simp [State.damaged]

@[simp] theorem State.losePool_mode (s : State) (p : Nat) : KeptMode s (State.losePool s p) := by
  unfold State.losePool
  dsimp only
  refine KeptMode_trans ?_ (foldl_mode _ _ _ (fun t x => ?_))
  · simp
  · cases Tab.look t.cad.domains x <;> simp

@[simp] theorem State.readerFails_mode (s : State) (reader : Reader) : KeptMode s (State.readerFails s reader) := by
  unfold State.readerFails; (try dsimp only); (repeat' split) <;> (try simp)

@[simp] theorem State.readFor_mode (s : State) (c : Nat) (a : Nat) (n : Nat) (errs : ReadErrs) (reader : Reader) : KeptMode s (State.readFor s c a n errs reader) := by
  first
  | (simp [State.readFor]; done)
  | (unfold State.readFor; (try dsimp only); (repeat' split) <;> (try simp); done)
  | (unfold State.readFor; (try dsimp only); (repeat' split) <;> (try simp [*]); done)

@[simp] theorem State.latMax_mode (s : State) (c : Nat) (n : Nat) : KeptMode s (State.latMax s c n) := by
  first
  | (simp [State.latMax]; done)
  | (unfold State.latMax; (try dsimp only); (repeat' split) <;> (try simp); done)
  | (unfold State.latMax; (try dsimp only); (repeat' split) <;> (try simp [*]); done)

@[simp] theorem State.serveReq_mode (s0 : State) (c : Nat) (r : DmcReq) : KeptMode s0 (State.serveReq s0 c r) := by
  first
  | (simp [State.serveReq]; done)
  | (unfold State.serveReq; (try dsimp only); (repeat' split) <;> (try simp); done)
  | (unfold State.serveReq; (try dsimp only); (repeat' split) <;> (try simp [*]); done)

@[simp] theorem State.serveRun_mode (s : State) (c : Nat) (burst : Bool) (y3 : Nat) : KeptMode s (State.serveRun s c burst y3) := by
  induction y3 generalizing s c burst <;> unfold State.serveRun <;> (try dsimp only) <;> (repeat' split) <;> (try simp [*])

@[simp] theorem State.writeDue_mode (s : State) (c : Nat) : KeptMode s (State.writeDue s c) := by
  first
  | (simp [State.writeDue]; done)
  | (unfold State.writeDue; (try dsimp only); (repeat' split) <;> (try simp); done)
  | (unfold State.writeDue; (try dsimp only); (repeat' split) <;> (try simp [*]); done)

@[simp] theorem State.preemptWaiting_mode (s : State) (c : Nat) : KeptMode s (State.preemptWaiting s c) := by
  first
  | (simp [State.preemptWaiting]; done)
  | (unfold State.preemptWaiting; (try dsimp only); (repeat' split) <;> (try simp); done)
  | (unfold State.preemptWaiting; (try dsimp only); (repeat' split) <;> (try simp [*]); done)

@[simp] theorem State.serveChan_mode (s : State) (c : Nat) : KeptMode s (State.serveChan s c) := by
  first
  | (simp [State.serveChan]; done)
  | (unfold State.serveChan; (try dsimp only); (repeat' split) <;> (try simp); done)
  | (unfold State.serveChan; (try dsimp only); (repeat' split) <;> (try simp [*]); done)

@[simp] theorem State.serveAll_mode (s : State) : KeptMode s (State.serveAll s) := by
  first
  | (simp [State.serveAll]; done)
  | (unfold State.serveAll; (try dsimp only); (repeat' split) <;> (try simp); done)
  | (unfold State.serveAll; (try dsimp only); (repeat' split) <;> (try simp [*]); done)

@[simp] theorem State.lateHit_mode (s : State) (c : Nat) (late : Bool) : KeptMode s (State.lateHit s c late) := by
  simp [State.lateHit]

@[simp] theorem State.refreshTick_mode (s0 : State) (c : Nat) : KeptMode s0 (State.refreshTick s0 c) := by
  simp [State.refreshTick]

theorem execRefreshTick_mode (c : Fin 32) (s : State) (t : State) (h : (execRefreshTick c s) = .next t) : KeptMode s t := by
  simp only [execRefreshTick, Host.Outcome.next.injEq] at h; subst h; simp

@[simp] theorem State.pullIn_mode (s : State) (c : Nat) : KeptMode s (State.pullIn s c) := by
  simp [State.pullIn]

theorem execPullInRefresh_mode (c : Fin 32) (s : State) (t : State) (h : (execPullInRefresh c s) = .next t) : KeptMode s t := by
  simp only [execPullInRefresh, Host.Outcome.next.injEq] at h; subst h; simp

@[simp] theorem State.closeRow_mode (s : State) (c : Nat) (bank : Nat) : KeptMode s (State.closeRow s c bank) := by
  first
  | (simp [State.closeRow]; done)
  | (unfold State.closeRow; (try dsimp only); (repeat' split) <;> (try simp); done)
  | (unfold State.closeRow; (try dsimp only); (repeat' split) <;> (try simp [*]); done)

theorem execRowIdlePrecharge_mode (c : Fin 32) (b : Fin 32) (s : State) (t : State) (h : execRowIdlePrecharge c b s = .next t) : KeptMode s t := by
  unfold execRowIdlePrecharge at h
  split at h <;> (simp only [Host.Outcome.next.injEq] at h; subst h; simp)

@[simp] theorem State.dmcRead_mode (s : State) (c : Nat) (a : Nat) (cls : Nat) (age : Nat) (cycles : Nat) (late : Bool) (errs : ReadErrs) (reader : Reader) : KeptMode s (State.dmcRead s c a cls age cycles late errs reader) := by
  unfold State.dmcRead; (try dsimp only); (repeat' split) <;> (try simp)

theorem execDmcRead_mode (c : Fin 32) (a : BitVec 32) (cls : Fin 32) (age : Nat) (cycles : Nat) (late : Bool) (errs : ReadErrs) (reader : Reader) (s : State) (t : State) (h : (execDmcRead c a cls age cycles late errs reader s) = .next t) : KeptMode s t := by
  unfold execDmcRead at h; (try dsimp only at h); (repeat' split at h) <;> (try simp only [Host.Outcome.next.injEq, reduceCtorEq] at h) <;> (try subst h) <;> (try simp)

@[simp] theorem State.dmcWrite_mode (s : State) (c : Nat) (a : Nat) (cls : Nat) (age : Nat) (late : Bool) (d : BitVec 512) (w : BitVec 64) : KeptMode s (State.dmcWrite s c a cls age late d w) := by
  simp [State.dmcWrite]

theorem execDmcWrite_mode (c : Fin 32) (a : BitVec 32) (cls : Fin 32) (age : Nat) (late : Bool) (data : BitVec 512) (bytes : BitVec 64) (s : State) (t : State) (h : (execDmcWrite c a cls age late data bytes s) = .next t) : KeptMode s t := by
  unfold execDmcWrite at h; (try dsimp only at h); (repeat' split at h) <;> (try simp only [Host.Outcome.next.injEq, reduceCtorEq] at h) <;> (try subst h) <;> (try simp)

@[simp] theorem State.dueMerge_mode (s : State) (c : Nat) (a : Nat) : KeptMode s (State.dueMerge s c a) := by
  first
  | (simp [State.dueMerge]; done)
  | (unfold State.dueMerge; (try dsimp only); (repeat' split) <;> (try simp); done)
  | (unfold State.dueMerge; (try dsimp only); (repeat' split) <;> (try simp [*]); done)

theorem execMergeEntryTimeout_mode (c : Fin 32) (a : BitVec 32) (errs : ReadErrs) (s : State) (t : State) (h : (execMergeEntryTimeout c a errs s) = .next t) : KeptMode s t := by
  unfold execMergeEntryTimeout at h; (try dsimp only at h); (repeat' split at h) <;> (try simp only [Host.Outcome.next.injEq, reduceCtorEq] at h) <;> (try subst h) <;> (try simp)

@[simp] theorem State.reissue_mode (s : State) (c : Nat) (back : Nat) : KeptMode s (State.reissue s c back) := by
  first
  | (simp [State.reissue]; done)
  | (unfold State.reissue; (try dsimp only); (repeat' split) <;> (try simp); done)
  | (unfold State.reissue; (try dsimp only); (repeat' split) <;> (try simp [*]); done)

@[simp] theorem State.ignored_mode (s : State) (c : Nat) (k : DramCmd) : KeptMode s (State.ignored s c k) := by
  first
  | (simp [State.ignored]; done)
  | (unfold State.ignored; (try dsimp only); (repeat' split) <;> (try simp); done)
  | (unfold State.ignored; (try dsimp only); (repeat' split) <;> (try simp [*]); done)

@[simp] theorem State.takeBack_mode (s : State) (c : Nat) (back : Nat) : KeptMode s (State.takeBack s c back) := by
  unfold State.takeBack
  dsimp only
  simp [-List.foldl_reverse]

@[simp] theorem State.errorReturn_mode (s : State) (c : Nat) (back : Nat) : KeptMode s (State.errorReturn s c back) := by
  unfold State.errorReturn
  dsimp only
  cases (s.chan c).retry.reverse[back]? with
  | none => simp
  | some k => dsimp only; (repeat' split) <;> simp

theorem execErrorReturn_mode (c : Fin 32) (back : Fin 32) (s : State) (t : State) (h : (execErrorReturn c back s) = .next t) : KeptMode s t := by
  simp only [execErrorReturn, Host.Outcome.next.injEq] at h; subst h; simp

@[simp] theorem State.caTestDone_mode (s : State) (c : Nat) (bad : List Nat) : KeptMode s (State.caTestDone s c bad) := by
  simp [State.caTestDone]

theorem execCaLaneTestDone_mode (c : Fin 32) (bad : BitVec 16) (s : State) (t : State) (h : (execCaLaneTestDone c bad s) = .next t) : KeptMode s t := by
  simp only [execCaLaneTestDone, Host.Outcome.next.injEq] at h; subst h; simp

@[simp] theorem State.fullCal_mode (s : State) (r : CalResult) (point : Nat) : KeptMode s (State.fullCal s r point) := by
  simp [State.fullCal]

@[simp] theorem State.orderTransit_mode (s : State) (point : Nat) (ticks : Nat) (cal : CalResult) : KeptMode s (State.orderTransit s point ticks cal) := by
  first
  | (simp [State.orderTransit]; done)
  | (unfold State.orderTransit; (try dsimp only); (repeat' split) <;> (try simp); done)
  | (unfold State.orderTransit; (try dsimp only); (repeat' split) <;> (try simp [*]); done)

@[simp] theorem State.stepTransit_mode (s : State) (m : Transit) (step : Nat) : KeptMode s (State.stepTransit s m step) := by
  first
  | (simp [State.stepTransit]; done)
  | (unfold State.stepTransit; (try dsimp only); (repeat' split) <;> (try simp); done)
  | (unfold State.stepTransit; (try dsimp only); (repeat' split) <;> (try simp [*]); done)

@[simp] theorem State.transitSleep_mode (s : State) : KeptMode s (State.transitSleep s) := by
  first
  | (simp [State.transitSleep]; done)
  | (unfold State.transitSleep; (try dsimp only); (repeat' split) <;> (try simp); done)
  | (unfold State.transitSleep; (try dsimp only); (repeat' split) <;> (try simp [*]); done)

@[simp] theorem State.transitWake_mode (s : State) : KeptMode s (State.transitWake s) := by
  first
  | (simp [State.transitWake]; done)
  | (unfold State.transitWake; (try dsimp only); (repeat' split) <;> (try simp); done)
  | (unfold State.transitWake; (try dsimp only); (repeat' split) <;> (try simp [*]); done)

@[simp] theorem State.transitDone_mode (s : State) : KeptMode s (State.transitDone s) := by
  first
  | (simp [State.transitDone]; done)
  | (unfold State.transitDone; (try dsimp only); (repeat' split) <;> (try simp); done)
  | (unfold State.transitDone; (try dsimp only); (repeat' split) <;> (try simp [*]); done)

@[simp] theorem State.transitStep_mode (s : State) : KeptMode s (State.transitStep s) := by
  first
  | (simp [State.transitStep]; done)
  | (unfold State.transitStep; (try dsimp only); (repeat' split) <;> (try simp); done)
  | (unfold State.transitStep; (try dsimp only); (repeat' split) <;> (try simp [*]); done)

theorem execTransitStart_mode (ticks : Nat) (cal : CalResult) (s : State) (t : State) (h : (execTransitStart ticks cal s) = .next t) : KeptMode s t := by
  unfold execTransitStart at h; (try dsimp only at h); (repeat' split at h) <;> (try simp only [Host.Outcome.next.injEq, reduceCtorEq] at h) <;> (try subst h) <;> (try simp)

@[simp] theorem State.holdPoint_mode (s : State) (p : Nat) : KeptMode s (State.holdPoint s p) := by
  simp [State.holdPoint]

theorem execDmcFreqReq_mode (r : Req) (v : Word) (s : State) (t : State) (h : (execDmcFreqReq r v s) = .next t) : KeptMode s t := by
  simp only [execDmcFreqReq, Host.Outcome.next.injEq] at h; subst h; simp

@[simp] theorem State.scrubCw_mode (s : State) (c : Nat) (a : Nat) (errs : ReadErrs) : KeptMode s (State.scrubCw s c a errs) := by
  unfold State.scrubCw; (try dsimp only); (repeat' split) <;> (try simp)

@[simp] theorem State.scrubRow_mode (s : State) (c : Nat) (errs : List (Fin 32 × ReadErrs)) : KeptMode s (State.scrubRow s c errs) := by
  simp [State.scrubRow]

theorem execScrubRow_mode (c : Fin 32) (errs : List (Fin 32 × ReadErrs)) (s : State) (t : State) (h : (execScrubRow c errs s) = .next t) : KeptMode s t := by
  unfold execScrubRow at h; (try dsimp only at h); (repeat' split at h) <;> (try simp only [Host.Outcome.next.injEq, reduceCtorEq] at h) <;> (try subst h) <;> (try simp)

theorem execCorrected2Writeback_mode (c : Fin 32) (a : BitVec 32) (s : State) (t : State) (h : (execCorrected2Writeback c a s) = .next t) : KeptMode s t := by
  unfold execCorrected2Writeback at h; (try dsimp only at h); (repeat' split at h) <;> (try simp only [Host.Outcome.next.injEq, reduceCtorEq] at h) <;> (try subst h) <;> (try simp)

@[simp] theorem State.hotpos_mode (s : State) (c : Nat) (k : Nat) : KeptMode s (State.hotpos s c k) := by
  unfold State.hotpos; (try dsimp only); (repeat' split) <;> (try simp)

theorem execHotpos_mode (c : Fin 32) (sym : Fin 36) (s : State) (t : State) (h : (execHotpos c sym s) = .next t) : KeptMode s t := by
  simp only [execHotpos, Host.Outcome.next.injEq] at h; subst h; simp

theorem execEccInjArm_mode (r : Req) (v : Word) (s : State) (t : State) (h : (execEccInjArm r v s) = .next t) : KeptMode s t := by
  simp only [execEccInjArm, Host.Outcome.next.injEq] at h; subst h; simp

@[simp] theorem State.startLeg_mode (s0 : State) (b : Nat) : KeptMode s0 (State.startLeg s0 b) := by
  unfold State.startLeg; (try dsimp only); (repeat' split) <;> (try simp)

@[simp] theorem State.nextDram_mode (s : State) (c : Nat) : KeptMode s (State.nextDram s c).2 := by
  unfold State.nextDram; (try dsimp only); (repeat' split) <;> (try simp)

@[simp] theorem State.nextBase_mode (s : State) : KeptMode s (State.nextBase s).2 := by
  unfold State.nextBase; (try dsimp only); (repeat' split) <;> (try simp)

/-- A leg's start keeps them where the schedule before it did. -/
theorem State.tryLeg_mode (s : State) (n : Nat × State) (h : KeptMode s n.2) : KeptMode s (State.tryLeg s n) := by
  unfold State.tryLeg
  split
  · simp
  · split
    · simp_all
    · simp_all

@[simp] theorem State.nextFull_mode (s : State) : KeptMode s (State.nextFull s).2 := by
  first
  | (simp [State.nextFull]; done)
  | (unfold State.nextFull; (try dsimp only); (repeat' split) <;> (try simp); done)
  | (unfold State.nextFull; (try dsimp only); (repeat' split) <;> (try simp [*]); done)

/-- A leg of a full-stack self-test keeps them where the choice before it did. -/
theorem State.tryFull_mode (s : State) (n : Nat × State) (h : KeptMode s n.2) : KeptMode s (State.tryFull s n) := by
  unfold State.tryFull
  repeat' split
  all_goals simp_all

theorem execLegStart_mode (w : LegWho) (s : State) (t : State) (h : (execLegStart w s) = .next t) : KeptMode s t := by
  unfold execLegStart at h
  repeat' split at h
  all_goals first
    | (simp only [Host.Outcome.next.injEq] at h; subst h; simp; done)
    | (simp only [Host.Outcome.next.injEq] at h; subst h; exact State.tryLeg_mode _ _ (by simp))
    | (simp only [Host.Outcome.next.injEq] at h; subst h; exact State.tryFull_mode _ _ (by simp))

@[simp] theorem State.sramFailed_mode (s : State) (b : Nat) : KeptMode s (State.sramFailed s b) := by
  simp [State.sramFailed]

@[simp] theorem State.vxuFailed_mode (s : State) (u : Nat) : KeptMode s (State.vxuFailed s u) := by
  simp [State.vxuFailed]

@[simp] theorem State.engineFails_mode (s : State) (e : Nat) (d : Nat) : KeptMode s (State.engineFails s e d) := by
  simp [State.engineFails]

@[simp] theorem State.legAction_mode (s : State) (b : Nat) (column : Option Nat) : KeptMode s (State.legAction s b column) := by
  unfold State.legAction; (try dsimp only); (repeat' split) <;> (try simp)

@[simp] theorem State.legJudged_mode (s : State) (l : Leg) (good : Bool) (column : Option Nat) : KeptMode s (State.legJudged s l good column) := by
  first
  | (simp [State.legJudged]; done)
  | (unfold State.legJudged; (try dsimp only); (repeat' split) <;> (try simp); done)
  | (unfold State.legJudged; (try dsimp only); (repeat' split) <;> (try simp [*]); done)

@[simp] theorem State.legEnds_mode (s : State) (l : Leg) (good : Bool) (column : Option Nat) : KeptMode s (State.legEnds s l good column) := by
  simp [State.legEnds]

theorem execLegEnd_mode (block : BitVec 32) (signature : BitVec 32) (column : Option (Fin 32)) (s : State) (t : State) (h : (execLegEnd block signature column s) = .next t) : KeptMode s t := by
  unfold execLegEnd at h; (try dsimp only at h); (repeat' split at h) <;> (try simp only [Host.Outcome.next.injEq, reduceCtorEq] at h) <;> (try subst h) <;> (try simp)

theorem execLegBudgetExpire_mode (block : BitVec 32) (tally : BitVec 32) (s : State) (t : State) (h : (execLegBudgetExpire block tally s) = .next t) : KeptMode s t := by
  unfold execLegBudgetExpire at h; (try dsimp only at h); (repeat' split at h) <;> (try simp only [Host.Outcome.next.injEq, reduceCtorEq] at h) <;> (try subst h) <;> (try simp)

@[simp] theorem State.columnChunk_mode (s : State) (c : Nat) : KeptMode s (State.columnChunk s c) := by
  unfold State.columnChunk; (try dsimp only); (repeat' split) <;> (try simp)

theorem execColumnRepairChunk_mode (c : Fin 32) (s : State) (t : State) (h : (execColumnRepairChunk c s) = .next t) : KeptMode s t := by
  unfold execColumnRepairChunk at h; (try dsimp only at h); (repeat' split at h) <;> (try simp only [Host.Outcome.next.injEq, reduceCtorEq] at h) <;> (try subst h) <;> (try simp)

theorem execClkBundleLost_mode (g : Fin 4) (b : Fin 2) (s : State) (t : State) (h : (execClkBundleLost g b s) = .next t) : KeptMode s t := by
  simp only [execClkBundleLost, Host.Outcome.next.injEq] at h; subst h; simp

@[simp] theorem State.parcelLost_mode (s : State) (parcel : Nat) (ch : Nat) : KeptMode s (State.parcelLost s parcel ch) := by
  simp [State.parcelLost]

@[simp] theorem State.putMoved_mode (s : State) (ref : Nat) (m : MovedSlice) : KeptMode s (State.putMoved s ref m) := by
  simp [State.putMoved]

@[simp] theorem State.loseSlice_mode (s : State) (c : Nat) (ref : Nat) : KeptMode s (State.loseSlice s c ref) := by
  simp [State.loseSlice]

@[simp] theorem State.copySlice_mode (s : State) (c : Nat) (ref : Nat) (parts : List ResPart) : KeptMode s (State.copySlice s c ref parts) := by
  unfold State.copySlice
  dsimp only
  apply foldl_mode
  intro t x
  repeat' split
  all_goals simp

@[simp] theorem State.placeSlice_mode (s : State) (c : Nat) (ref : Nat) (copy : Bool) : KeptMode s (State.placeSlice s c ref copy).1 := by
  unfold State.placeSlice; (try dsimp only); (repeat' split) <;> (try simp)

@[simp] theorem State.salvageEnds_mode (s : State) (v : Salvage) : KeptMode s (State.salvageEnds s v) := by
  simp [State.salvageEnds]

@[simp] theorem State.salvageSlice_mode (s : State) (mismatches : Nat) (dead : Bool) : KeptMode s (State.salvageSlice s mismatches dead) := by
  unfold State.salvageSlice
  dsimp only
  split
  · simp
  · rename_i v s1 h
    have hk : KeptMode s s1 := by
      repeat' split at h
      all_goals simp_all
      all_goals rw [← h.2]
      all_goals simp
    repeat' split
    all_goals simp_all

theorem execSalvageSlice_mode (mismatches : Nat) (dead : Bool) (s : State) (t : State) (h : (execSalvageSlice mismatches dead s) = .next t) : KeptMode s t := by
  unfold execSalvageSlice at h; (try dsimp only at h); (repeat' split at h) <;> (try simp only [Host.Outcome.next.injEq, reduceCtorEq] at h) <;> (try subst h) <;> (try simp)

@[simp] theorem State.startFulltest_mode (s : State) (inLoad : Bool) : KeptMode s (State.startFulltest s inLoad) := by
  simp [State.startFulltest]

theorem execFulltest_mode (r : Req) (s : State) (t : State) (h : (execFulltest r s) = .next t) : KeptMode s t := by
  simp only [execFulltest, Host.Outcome.next.injEq] at h; subst h; simp

theorem execFulltestDone_mode (s : State) (t : State) (h : (execFulltestDone s) = .next t) : KeptMode s t := by
  unfold execFulltestDone at h; (try dsimp only at h); (repeat' split at h) <;> (try simp only [Host.Outcome.next.injEq, reduceCtorEq] at h) <;> (try subst h) <;> (try simp)

theorem execAbortFulltest_mode (r : Req) (s : State) (t : State) (h : (execAbortFulltest r s) = .next t) : KeptMode s t := by
  simp only [execAbortFulltest, Host.Outcome.next.injEq] at h; subst h; simp

theorem execFuseCommit_mode (r : Req) (s : State) (t : State) (h : (execFuseCommit r s) = .next t) : KeptMode s t := by
  simp only [execFuseCommit, Host.Outcome.next.injEq] at h; subst h; simp

theorem execLegCmd_mode (r : Req) (s : State) (t : State) (h : (execLegCmd r s) = .next t) : KeptMode s t := by
  simp only [execLegCmd, Host.Outcome.next.injEq] at h; subst h; simp

@[simp] theorem State.calValue_mode (s : State) (c : Nat) (kind : Nat) (lane : Nat) (v : Nat) : KeptMode s (State.calValue s c kind lane v) := by
  simp [State.calValue]

@[simp] theorem State.calStep_mode (s : State) (c : Nat) (values : List (Nat × Nat)) : KeptMode s (State.calStep s c values) := by
  unfold State.calStep
  dsimp only
  refine KeptMode_trans (t := List.foldl _ s _) (foldl_mode _ _ s ?_)
    (KeptMode_trans (t := State.setChan _ c _) (State.setChan_mode _ _ _) (State.inc64_mode _ _ _))
  intro t x
  split <;> simp

theorem execCalStep_mode (c : Fin 32) (values : List (Nat × Nat)) (s : State) (t : State) (h : (execCalStep c values s) = .next t) : KeptMode s t := by
  unfold execCalStep at h; (try dsimp only at h); (repeat' split at h) <;> (try simp only [Host.Outcome.next.injEq, reduceCtorEq] at h) <;> (try subst h) <;> (try simp)

theorem execCalStepForced_mode (c : Fin 32) (values : List (Nat × Nat)) (s : State) (t : State) (h : (execCalStepForced c values s) = .next t) : KeptMode s t := by
  unfold execCalStepForced at h; (try dsimp only at h); (repeat' split at h) <;> (try simp only [Host.Outcome.next.injEq, reduceCtorEq] at h) <;> (try subst h) <;> (try simp)

@[simp] theorem State.tapMove_mode (s : State) (c : Nat) (kind : Nat) (lane : Nat) : KeptMode s (State.tapMove s c kind lane) := by
  unfold State.tapMove; (try dsimp only); (repeat' split) <;> (try simp)

theorem execCalTapMove_mode (c : Fin 32) (kind : Fin 4) (lane : Fin 78) (s : State) (t : State) (h : (execCalTapMove c kind lane s) = .next t) : KeptMode s t := by
  unfold execCalTapMove at h; (try dsimp only at h); (repeat' split at h) <;> (try simp only [Host.Outcome.next.injEq, reduceCtorEq] at h) <;> (try subst h) <;> (try simp)

@[simp] theorem State.pd13_mode (s : State) (x : PwrState) : KeptMode s (State.pd13 s x) := by
  simp [State.pd13]

@[simp] theorem State.manufactured_mode (s : State) (made : List (Nat × DWord)) : KeptMode s (State.manufactured s made) := by
  simp [State.manufactured]

theorem execSense_mode (why : SenseWhy) (weak : List (Fin 1024 × BitVec 64)) (s : State) (t : State) (h : (execSense why weak s) = .next t) : KeptMode s t := by
  unfold execSense at h; (try dsimp only at h); (repeat' split at h) <;> (try simp only [Host.Outcome.next.injEq, reduceCtorEq] at h) <;> (try subst h) <;> (try simp)

theorem execReinforce_mode (r : Req) (s : State) (t : State) (h : (execReinforce r s) = .next t) : KeptMode s t := by
  simp only [execReinforce, Host.Outcome.next.injEq] at h; subst h; simp

@[simp] theorem State.setSlock_mode (s : State) (n : Nat) : KeptMode s (State.setSlock s n) := by
  unfold State.setSlock; (try dsimp only); (repeat' split) <;> (try simp)

theorem execFseSlock_mode (r : Req) (n : Fin 16) (v : Word) (s : State) (t : State) (h : (execFseSlock r n v s) = .next t) : KeptMode s t := by
  simp only [execFseSlock, Host.Outcome.next.injEq] at h; subst h; simp

@[simp] theorem State.allOff_mode (s : State) : KeptMode s (State.allOff s) := by
  simp [State.allOff]

@[simp] theorem State.exclude_mode (s : State) (n : Nat) : KeptMode s (State.exclude s n) := by
  simp [State.exclude]

@[simp] theorem State.modelOnly_mode (s : State) (u : Nat) : KeptMode s (State.modelOnly s u) := by
  simp [State.modelOnly]

@[simp] theorem State.exclusion_mode (s : State) : KeptMode s (State.exclusion s) := by
  simp [State.exclusion]

@[simp] theorem State.updateModel_mode (s : State) (m : Thermals) : KeptMode s (State.updateModel s m) := by
  simp [State.updateModel]

@[simp] theorem State.setLevel_mode (s : State) (new : Nat) (u : Nat) : KeptMode s (State.setLevel s new u) := by
  simp [State.setLevel]

@[simp] theorem State.throttle_mode (s : State) : KeptMode s (State.throttle s) := by
  simp [State.throttle]

@[simp] theorem State.throttleStep_mode (s : State) : KeptMode s (State.throttleStep s) := by
  simp [State.throttleStep]

theorem execThrottleStep_mode (s : State) (t : State) (h : (execThrottleStep s) = .next t) : KeptMode s t := by
  unfold execThrottleStep at h; (try dsimp only at h); (repeat' split at h) <;> (try simp only [Host.Outcome.next.injEq, reduceCtorEq] at h) <;> (try subst h) <;> (try simp)

@[simp] theorem State.warnMoves_mode (s : State) (base : Bool) (old : Bool) (new : Bool) : KeptMode s (State.warnMoves s base old new) := by
  first
  | (simp [State.warnMoves]; done)
  | (unfold State.warnMoves; (try dsimp only); (repeat' split) <;> (try simp); done)
  | (unfold State.warnMoves; (try dsimp only); (repeat' split) <;> (try simp [*]); done)

@[simp] theorem State.warning_mode (s : State) : KeptMode s (State.warning s) := by
  simp [State.warning]

@[simp] theorem State.followTarget_mode (s : State) : KeptMode s (State.followTarget s) := by
  unfold State.followTarget; (try dsimp only); (repeat' split) <;> (try simp)

@[simp] theorem State.bandStep_mode (s : State) : KeptMode s (State.bandStep s) := by
  simp [State.bandStep]

@[simp] theorem State.intervalStep_mode (s : State) : KeptMode s (State.intervalStep s) := by
  simp [State.intervalStep]

@[simp] theorem State.takeReadings_mode (s : State) (m : Thermals) : KeptMode s (State.takeReadings s m) := by
  simp [State.takeReadings]

@[simp] theorem State.takeRails_mode (s : State) (m : Thermals) : KeptMode s (State.takeRails s m) := by
  simp [State.takeRails]

theorem execFasterPointTimer_mode (s : State) (t : State) (h : (execFasterPointTimer s) = .next t) : KeptMode s t := by
  unfold execFasterPointTimer at h; (try dsimp only at h); (repeat' split at h) <;> (try simp only [Host.Outcome.next.injEq, reduceCtorEq] at h) <;> (try subst h) <;> (try simp)

@[simp] theorem State.railFailed_mode (s : State) (r : Nat) : KeptMode s (State.railFailed s r) := by
  simp [State.railFailed]

theorem execRailPeak_mode (r : Fin 6) (mA : BitVec 16) (s : State) (t : State) (h : execRailPeak r mA s = .next t) : KeptMode s t := by
  unfold execRailPeak at h
  split at h <;> (simp only [Host.Outcome.next.injEq] at h; subst h; simp)

@[simp] theorem State.clearPeaks_mode (s : State) : KeptMode s (State.clearPeaks s) := by
  simp [State.clearPeaks]

theorem execClearPeak_mode (r : Req) (s : State) (t : State) (h : (execClearPeak r s) = .next t) : KeptMode s t := by
  simp only [execClearPeak, Host.Outcome.next.injEq] at h; subst h; simp

@[simp] theorem State.copyEntry_mode (s : State) (e : HistEntry) : KeptMode s (State.copyEntry s e) := by
  simp [State.copyEntry]

@[simp] theorem State.ledgerCopy_mode (s : State) (e : HistEntry) (bad : Option Nat) : KeptMode s (State.ledgerCopy s e bad) := by
  unfold State.ledgerCopy; (try dsimp only); (repeat' split) <;> (try simp)

theorem execLedgerCopy_mode (bad : Option (BitVec 32)) (s : State) (t : State) (h : (execLedgerCopy bad s) = .next t) : KeptMode s t := by
  unfold execLedgerCopy at h; (try dsimp only at h); (repeat' split at h) <;> (try simp only [Host.Outcome.next.injEq, reduceCtorEq] at h) <;> (try subst h) <;> (try simp)

theorem execAckAlertn_mode (r : Req) (s : State) (t : State) (h : (execAckAlertn r s) = .next t) : KeptMode s t := by
  simp only [execAckAlertn, Host.Outcome.next.injEq] at h; subst h; simp

theorem execClearAll_mode (r : Req) (s : State) (t : State) (h : (execClearAll r s) = .next t) : KeptMode s t := by
  simp only [execClearAll, Host.Outcome.next.injEq] at h; subst h; simp

@[simp] theorem State.budget_mode (s : State) : KeptMode s (State.budget s) := by
  simp [State.budget]

@[simp] theorem State.trialTick_mode (s : State) : KeptMode s (State.trialTick s) := by
  simp [State.trialTick]

theorem execAvailMsTick_mode (s0 : State) (t : State) (h : (execAvailMsTick s0) = .next t) : KeptMode s0 t := by
  unfold execAvailMsTick at h; (try dsimp only at h); (repeat' split at h) <;> (try simp only [Host.Outcome.next.injEq, reduceCtorEq] at h) <;> (try subst h) <;> (try simp)

@[simp] theorem State.slotLost_mode (s : State) (w : Nat) : KeptMode s (State.slotLost s w) := by
  first
  | (simp [State.slotLost]; done)
  | (unfold State.slotLost; (try dsimp only); (repeat' split) <;> (try simp); done)
  | (unfold State.slotLost; (try dsimp only); (repeat' split) <;> (try simp [*]); done)

theorem execAvailSlotWrite_mode (bad : Option (BitVec 32)) (s : State) (t : State) (h : execAvailSlotWrite bad s = .next t) : KeptMode s t := by
  cases bad <;> (simp only [execAvailSlotWrite, Host.Outcome.next.injEq] at h; subst h; simp)

theorem execAvailBucketRoll_mode (s : State) (t : State) (h : (execAvailBucketRoll s) = .next t) : KeptMode s t := by
  unfold execAvailBucketRoll at h; (try dsimp only at h); (repeat' split at h) <;> (try simp only [Host.Outcome.next.injEq, reduceCtorEq] at h) <;> (try subst h) <;> (try simp)

@[simp] theorem State.pmcClear_mode (s : State) (n : Nat) : KeptMode s (State.pmcClear s n) := by
  simp [State.pmcClear]

@[simp] theorem State.pmcSelect_mode (s : State) (n : Nat) (v : Word) : KeptMode s (State.pmcSelect s n v) := by
  simp [State.pmcSelect]

theorem execPmcSelWrite_mode (r : Req) (n : Fin 128) (v : Word) (s : State) (t : State) (h : (execPmcSelWrite r n v s) = .next t) : KeptMode s t := by
  simp only [execPmcSelWrite, Host.Outcome.next.injEq] at h; subst h; simp

theorem execCounterWrap_mode (n : Fin 128) (inc : BitVec 48) (s : State) (t : State) (h : (execCounterWrap n inc s) = .next t) : KeptMode s t := by
  unfold execCounterWrap at h; (try dsimp only at h); (repeat' split at h) <;> (try simp only [Host.Outcome.next.injEq, reduceCtorEq] at h) <;> (try subst h) <;> (try simp)

@[simp] theorem State.sampleLost_mode (s : State) : KeptMode s (State.sampleLost s) := by
  simp [State.sampleLost]

@[simp] theorem State.takeSample_mode (s : State) (n : Nat) (skid : Nat) (x : SampleCtx) : KeptMode s (State.takeSample s n skid x) := by
  first
  | (simp [State.takeSample]; done)
  | (unfold State.takeSample; (try dsimp only); (repeat' split) <;> (try simp); done)
  | (unfold State.takeSample; (try dsimp only); (repeat' split) <;> (try simp [*]); done)

theorem execPmcSample_mode (n : Fin 128) (skid : Option (Fin 16)) (s : State) (t : State) (h : (execPmcSample n skid s) = .next t) : KeptMode s t := by
  unfold execPmcSample at h; (try dsimp only at h); (repeat' split at h) <;> (try simp only [Host.Outcome.next.injEq, reduceCtorEq] at h) <;> (try subst h) <;> (try simp)

@[simp] theorem State.putRecord_mode (s : State) (pi : Nat) (p : Partition) (l : List Byte) : KeptMode s (State.putRecord s pi p l) := by
  simp [State.putRecord]

@[simp] theorem State.putRecords_mode (s : State) (pi : Nat) (p : Partition) (l : List (List Byte)) : KeptMode s (State.putRecords s pi p l) := by
  unfold State.putRecords
  induction l generalizing s with
  | nil => simp
  | cons x r ih =>
    simp only [List.foldl_cons]
    exact KeptMode_trans (State.putRecord_mode s pi p x) (ih _)

@[simp] theorem State.dump_mode (s : State) (pi : Nat) (p : Partition) : KeptMode s (State.dump s pi p) := by
  simp [State.dump]

theorem execCounterDump_mode (s : State) (t : State) (h : (execCounterDump s) = .next t) : KeptMode s t := by
  unfold execCounterDump at h; (try dsimp only at h); (repeat' split at h) <;> (try simp only [Host.Outcome.next.injEq, reduceCtorEq] at h) <;> (try subst h) <;> (try simp)

@[simp] theorem State.vxuProgError_mode (s : State) (u : Nat) (word : Nat) : KeptMode s (State.vxuProgError s u word) := by
  simp [State.vxuProgError]

@[simp] theorem State.vxuIntegrity_mode (s : State) (u : Nat) : KeptMode s (State.vxuIntegrity s u) := by
  simp [State.vxuIntegrity]

@[simp] theorem State.vxuBadWord_mode (s : State) (u : Nat) (w : WordAt) : KeptMode s (State.vxuBadWord s u w) := by
  unfold State.vxuBadWord; (try dsimp only); (repeat' split) <;> (try simp)

@[simp] theorem State.composeRun_mode (s : State) (u : Nat) (y2 : Nat) : KeptMode s (State.composeRun s u y2) := by
  induction y2 generalizing s u <;> unfold State.composeRun <;> (try dsimp only) <;> (repeat' split) <;> (try simp [*])

@[simp] theorem State.sendVec_mode (s : State) (k : Nat) (label : Nat) (l : List (List Byte)) : KeptMode s (State.sendVec s k label l) := by
  first
  | (simp [State.sendVec]; done)
  | (unfold State.sendVec; (try dsimp only); (repeat' split) <;> (try simp); done)
  | (unfold State.sendVec; (try dsimp only); (repeat' split) <;> (try simp [*]); done)

@[simp] theorem State.closePacket_mode (s : State) (u : Nat) : KeptMode s (State.closePacket s u) := by
  simp [State.closePacket]

@[simp] theorem State.sendFrame_mode (s : State) (u : Nat) (b : List Byte) : KeptMode s (State.sendFrame s u b) := by
  simp [State.sendFrame]

@[simp] theorem State.stopStream_mode (s : State) (u : Nat) (reason : Nat) (withEnd : Bool) : KeptMode s (State.stopStream s u reason withEnd) := by
  simp [State.stopStream]

@[simp] theorem State.streamOver_mode (s : State) (u : Nat) : KeptMode s (State.streamOver s u) := by
  first
  | (simp [State.streamOver]; done)
  | (unfold State.streamOver; (try dsimp only); (repeat' split) <;> (try simp); done)
  | (unfold State.streamOver; (try dsimp only); (repeat' split) <;> (try simp [*]); done)

@[simp] theorem State.composeAll_mode (s : State) (u : Nat) : KeptMode s (State.composeAll s u) := by
  simp [State.composeAll]

@[simp] theorem State.streamLost_mode (s : State) (u : Nat) (k : Nat) : KeptMode s (State.streamLost s u k) := by
  simp [State.streamLost]

@[simp] theorem State.dropOwed_mode (s : State) (k : Nat) : KeptMode s (State.dropOwed s k) := by
  first
  | (simp [State.dropOwed]; done)
  | (unfold State.dropOwed; (try dsimp only); (repeat' split) <;> (try simp); done)
  | (unfold State.dropOwed; (try dsimp only); (repeat' split) <;> (try simp [*]); done)

@[simp] theorem State.endStreams_mode (s : State) (reason : Nat) : KeptMode s (State.endStreams s reason) := by
  simp [State.endStreams]

@[simp] theorem State.sendData_mode (s : State) (u : Nat) (f : VecFrame) (rest : List VecFrame) : KeptMode s (State.sendData s u f rest) := by
  simp [State.sendData]

@[simp] theorem State.sendStall_mode (s : State) (u : Nat) (gap : Bool) : KeptMode s (State.sendStall s u gap) := by
  simp [State.sendStall]

@[simp] theorem State.underrun_mode (s : State) (u : Nat) : KeptMode s (State.underrun s u) := by
  simp [State.underrun]

@[simp] theorem State.sendEnd_mode (s : State) (u : Nat) (reason : Nat) : KeptMode s (State.sendEnd s u reason) := by
  simp [State.sendEnd]

@[simp] theorem State.sendPause_mode (s : State) (u : Nat) : KeptMode s (State.sendPause s u) := by
  simp [State.sendPause]

@[simp] theorem State.sendOwed_mode (s : State) (u : Nat) (o : OwedEnd) (rest : List OwedEnd) : KeptMode s (State.sendOwed s u o rest) := by
  simp [State.sendOwed]

@[simp] theorem State.boundStop_mode (s : State) (u : Nat) : KeptMode s (State.boundStop s u) := by
  first
  | (simp [State.boundStop]; done)
  | (unfold State.boundStop; (try dsimp only); (repeat' split) <;> (try simp); done)
  | (unfold State.boundStop; (try dsimp only); (repeat' split) <;> (try simp [*]); done)

@[simp] theorem State.slotEmpty_mode (s : State) (u : Nat) : KeptMode s (State.slotEmpty s u) := by
  first
  | (simp [State.slotEmpty]; done)
  | (unfold State.slotEmpty; (try dsimp only); (repeat' split) <;> (try simp); done)
  | (unfold State.slotEmpty; (try dsimp only); (repeat' split) <;> (try simp [*]); done)

@[simp] theorem State.slotSend_mode (s : State) (u : Nat) : KeptMode s (State.slotSend s u) := by
  unfold State.slotSend; (try dsimp only); (repeat' split) <;> (try simp)

@[simp] theorem State.slotsSend_mode (s : State) (u : Nat) (y2 : Nat) : KeptMode s (State.slotsSend s u y2) := by
  induction y2 generalizing s u <;> unfold State.slotsSend <;> (try dsimp only) <;> (repeat' split) <;> (try simp [*])

@[simp] theorem State.pacerCycle_mode (s : State) (u : Nat) : KeptMode s (State.pacerCycle s u) := by
  unfold State.pacerCycle; (try dsimp only); (repeat' split) <;> (try simp)

@[simp] theorem State.pacerRun_mode (s : State) (u : Nat) (y2 : Nat) : KeptMode s (State.pacerRun s u y2) := by
  induction y2 generalizing s u <;> unfold State.pacerRun <;> (try dsimp only) <;> (repeat' split) <;> (try simp [*])

theorem execVxuFrameSlot_mode (u : Fin 16) (cycles : Nat) (s : State) (t : State) (h : (execVxuFrameSlot u cycles s) = .next t) : KeptMode s t := by
  simp only [execVxuFrameSlot, Host.Outcome.next.injEq] at h; subst h; simp

theorem execVecPacketClose_mode (u : Fin 16) (s : State) (t : State) (h : execVecPacketClose u s = .next t) : KeptMode s t := by
  unfold execVecPacketClose at h
  split at h <;> (simp only [Host.Outcome.next.injEq] at h; subst h; simp)

@[simp] theorem State.vxuStart_mode (s : State) (u : Nat) : KeptMode s (State.vxuStart s u) := by
  unfold State.vxuStart; (try dsimp only); (repeat' split) <;> (try simp)

@[simp] theorem State.vxuPause_mode (s0 : State) (u : Nat) : KeptMode s0 (State.vxuPause s0 u) := by
  simp [State.vxuPause]

@[simp] theorem State.vxuResume_mode (s : State) (u : Nat) : KeptMode s (State.vxuResume s u) := by
  simp [State.vxuResume]

@[simp] theorem State.vxuStop_mode (s : State) (u : Nat) : KeptMode s (State.vxuStop s u) := by
  simp [State.vxuStop]

@[simp] theorem State.vxuDo_mode (s : State) (op : VxuOp) (u : Nat) : KeptMode s (State.vxuDo s op u) := by
  unfold State.vxuDo; (try dsimp only); (repeat' split) <;> (try simp)

@[simp] theorem State.noteGcmd_mode (s : State) (sel : VxuSel) (op : VxuOp) : KeptMode s (State.noteGcmd s sel op) := by
  unfold State.noteGcmd; (try dsimp only); (repeat' split) <;> (try simp)

@[simp] theorem State.vxuCmd_mode (s : State) (r : Req) (sel : VxuSel) (op : VxuOp) : KeptMode s (State.vxuCmd s r sel op) := by
  simp [State.vxuCmd]

theorem execVxuStart_mode (r : Req) (sel : VxuSel) (s : State) (t : State) (h : (execVxuStart r sel s) = .next t) : KeptMode s t := by
  simp only [execVxuStart, Host.Outcome.next.injEq] at h; subst h; simp

theorem execVxuPause_mode (r : Req) (sel : VxuSel) (s : State) (t : State) (h : (execVxuPause r sel s) = .next t) : KeptMode s t := by
  simp only [execVxuPause, Host.Outcome.next.injEq] at h; subst h; simp

theorem execVxuResume_mode (r : Req) (sel : VxuSel) (s : State) (t : State) (h : (execVxuResume r sel s) = .next t) : KeptMode s t := by
  simp only [execVxuResume, Host.Outcome.next.injEq] at h; subst h; simp

theorem execVxuStop_mode (r : Req) (sel : VxuSel) (s : State) (t : State) (h : (execVxuStop r sel s) = .next t) : KeptMode s t := by
  simp only [execVxuStop, Host.Outcome.next.injEq] at h; subst h; simp

@[simp] theorem State.readWords_mode (s : State) (rt : Bool) (pi : Nat) (p : Partition) (o : Nat) (n : Nat) (y6 : Nat) : KeptMode s (State.readWords s rt pi p o n y6).1 := by
  induction y6 generalizing s rt pi p o n <;> unfold State.readWords <;> (try dsimp only) <;> (repeat' split) <;> (try simp [*])

@[simp] theorem State.vxuCharge_mode (s : State) (u : Nat) (bytes : Nat) : KeptMode s (State.vxuCharge s u bytes) := by
  simp [State.vxuCharge]

@[simp] theorem State.headerCheck_mode (s : State) (u : Nat) (intact : Bool) : KeptMode s (State.headerCheck s u intact) := by
  unfold State.headerCheck; (try dsimp only); (repeat' split) <;> (try simp)

theorem execVxuHeaderCheck_mode (u : Fin 16) (intact : Bool) (s : State) (t : State) (h : (execVxuHeaderCheck u intact s) = .next t) : KeptMode s t := by
  simp only [execVxuHeaderCheck, Host.Outcome.next.injEq] at h; subst h; simp

@[simp] theorem State.programFetch_mode (s : State) (u : Nat) (intact : Bool) : KeptMode s (State.programFetch s u intact) := by
  unfold State.programFetch; (try dsimp only); (repeat' split) <;> (try simp)

theorem execVxuProgramFetch_mode (u : Fin 16) (intact : Bool) (s : State) (t : State) (h : (execVxuProgramFetch u intact s) = .next t) : KeptMode s t := by
  simp only [execVxuProgramFetch, Host.Outcome.next.injEq] at h; subst h; simp

@[simp] theorem State.becomeReady_mode (s : State) (u : Nat) : KeptMode s (State.becomeReady s u) := by
  first
  | (simp [State.becomeReady]; done)
  | (unfold State.becomeReady; (try dsimp only); (repeat' split) <;> (try simp); done)
  | (unfold State.becomeReady; (try dsimp only); (repeat' split) <;> (try simp [*]); done)

theorem execVxuReady_mode (u : Fin 16) (s : State) (t : State) (h : (execVxuReady u s) = .next t) : KeptMode s t := by
  unfold execVxuReady at h; (try dsimp only at h); (repeat' split at h) <;> (try simp only [Host.Outcome.next.injEq, reduceCtorEq] at h) <;> (try subst h) <;> (try simp)

@[simp] theorem State.startMiss_mode (s : State) (u : Nat) : KeptMode s (State.startMiss s u) := by
  simp [State.startMiss]

theorem execStartDeadlineExpire_mode (u : Fin 16) (s : State) (t : State) (h : (execStartDeadlineExpire u s) = .next t) : KeptMode s t := by
  unfold execStartDeadlineExpire at h; (try dsimp only at h); (repeat' split at h) <;> (try simp only [Host.Outcome.next.injEq, reduceCtorEq] at h) <;> (try subst h) <;> (try simp)

theorem execStartMark_mode (u : Fin 16) (s : State) (t : State) (h : (execStartMark u s) = .next t) : KeptMode s t := by
  unfold execStartMark at h; (try dsimp only at h); (repeat' split at h) <;> (try simp only [Host.Outcome.next.injEq, reduceCtorEq] at h) <;> (try subst h) <;> (try simp)

theorem execVxuBoundStop_mode (u : Fin 16) (s : State) (t : State) (h : (execVxuBoundStop u s) = .next t) : KeptMode s t := by
  unfold execVxuBoundStop at h; (try dsimp only at h); (repeat' split at h) <;> (try simp only [Host.Outcome.next.injEq, reduceCtorEq] at h) <;> (try subst h) <;> (try simp)

@[simp] theorem State.vxuInstr_mode (s : State) (u : Nat) (op : Nat) (effect : DWord → VxuUnit → VxuUnit) : KeptMode s (State.vxuInstr s u op effect) := by
  unfold State.vxuInstr; (try dsimp only); (repeat' split) <;> (try simp)

theorem execNop_mode (u : Fin 16) (s : State) (t : State) (h : (execNop u s) = .next t) : KeptMode s t := by
  simp only [execNop, Host.Outcome.next.injEq] at h; subst h; simp

theorem execLit_mode (u : Fin 16) (s : State) (t : State) (h : (execLit u s) = .next t) : KeptMode s t := by
  simp only [execLit, Host.Outcome.next.injEq] at h; subst h; simp

theorem execRlit_mode (u : Fin 16) (s : State) (t : State) (h : (execRlit u s) = .next t) : KeptMode s t := by
  simp only [execRlit, Host.Outcome.next.injEq] at h; subst h; simp

theorem execTpl_mode (u : Fin 16) (s : State) (t : State) (h : (execTpl u s) = .next t) : KeptMode s t := by
  simp only [execTpl, Host.Outcome.next.injEq] at h; subst h; simp

theorem execEmit_mode (u : Fin 16) (s : State) (t : State) (h : (execEmit u s) = .next t) : KeptMode s t := by
  simp only [execEmit, Host.Outcome.next.injEq] at h; subst h; simp

theorem execEmits_mode (u : Fin 16) (s : State) (t : State) (h : (execEmits u s) = .next t) : KeptMode s t := by
  simp only [execEmits, Host.Outcome.next.injEq] at h; subst h; simp

theorem execSetx_mode (u : Fin 16) (s : State) (t : State) (h : (execSetx u s) = .next t) : KeptMode s t := by
  simp only [execSetx, Host.Outcome.next.injEq] at h; subst h; simp

theorem execAddx_mode (u : Fin 16) (s : State) (t : State) (h : (execAddx u s) = .next t) : KeptMode s t := by
  simp only [execAddx, Host.Outcome.next.injEq] at h; subst h; simp

theorem execAndx_mode (u : Fin 16) (s : State) (t : State) (h : (execAndx u s) = .next t) : KeptMode s t := by
  simp only [execAndx, Host.Outcome.next.injEq] at h; subst h; simp

theorem execOrx_mode (u : Fin 16) (s : State) (t : State) (h : (execOrx u s) = .next t) : KeptMode s t := by
  simp only [execOrx, Host.Outcome.next.injEq] at h; subst h; simp

theorem execXorx_mode (u : Fin 16) (s : State) (t : State) (h : (execXorx u s) = .next t) : KeptMode s t := by
  simp only [execXorx, Host.Outcome.next.injEq] at h; subst h; simp

theorem execCpyx_mode (u : Fin 16) (s : State) (t : State) (h : (execCpyx u s) = .next t) : KeptMode s t := by
  simp only [execCpyx, Host.Outcome.next.injEq] at h; subst h; simp

theorem execXadd_mode (u : Fin 16) (s : State) (t : State) (h : (execXadd u s) = .next t) : KeptMode s t := by
  simp only [execXadd, Host.Outcome.next.injEq] at h; subst h; simp

theorem execSetm_mode (u : Fin 16) (s : State) (t : State) (h : (execSetm u s) = .next t) : KeptMode s t := by
  simp only [execSetm, Host.Outcome.next.injEq] at h; subst h; simp

theorem execField_mode (u : Fin 16) (s : State) (t : State) (h : (execField u s) = .next t) : KeptMode s t := by
  simp only [execField, Host.Outcome.next.injEq] at h; subst h; simp

theorem execLoop_mode (u : Fin 16) (s : State) (t : State) (h : (execLoop u s) = .next t) : KeptMode s t := by
  simp only [execLoop, Host.Outcome.next.injEq] at h; subst h; simp

theorem execEndl_mode (u : Fin 16) (s : State) (t : State) (h : (execEndl u s) = .next t) : KeptMode s t := by
  simp only [execEndl, Host.Outcome.next.injEq] at h; subst h; simp

theorem execCall_mode (u : Fin 16) (s : State) (t : State) (h : (execCall u s) = .next t) : KeptMode s t := by
  simp only [execCall, Host.Outcome.next.injEq] at h; subst h; simp

theorem execRet_mode (u : Fin 16) (s : State) (t : State) (h : (execRet u s) = .next t) : KeptMode s t := by
  simp only [execRet, Host.Outcome.next.injEq] at h; subst h; simp

theorem execMark_mode (u : Fin 16) (s : State) (t : State) (h : (execMark u s) = .next t) : KeptMode s t := by
  simp only [execMark, Host.Outcome.next.injEq] at h; subst h; simp

theorem execPausept_mode (u : Fin 16) (s : State) (t : State) (h : (execPausept u s) = .next t) : KeptMode s t := by
  simp only [execPausept, Host.Outcome.next.injEq] at h; subst h; simp

theorem execEndProg_mode (u : Fin 16) (s : State) (t : State) (h : (execEndProg u s) = .next t) : KeptMode s t := by
  simp only [execEndProg, Host.Outcome.next.injEq] at h; subst h; simp

@[simp] theorem State.acceptRecord_mode (s : State) (k : Nat) (l : List Byte) : KeptMode s (State.acceptRecord s k l) := by
  simp [State.acceptRecord]

@[simp] theorem State.failPacket_mode (s : State) (k : Nat) (payload : List Byte) : KeptMode s (State.failPacket s k payload) := by
  simp [State.failPacket]

theorem execFailPacket_mode (k : Fin 16) (payload : List Byte) (s : State) (t : State) (h : execFailPacket k payload s = .next t) : KeptMode s t := by
  unfold execFailPacket at h
  split at h <;> (simp only [Host.Outcome.next.injEq] at h; subst h; simp)

@[simp] theorem State.orderRecord_mode (s : State) (f : FailRec) : KeptMode s (State.orderRecord s f) := by
  simp [State.orderRecord]

@[simp] theorem State.failRecord_mode (s : State) (f : FailRec) : KeptMode s (State.failRecord s f) := by
  unfold State.failRecord; (try dsimp only); (repeat' split) <;> (try simp)

theorem execFailRecord_mode (s : State) (t : State) (h : (execFailRecord s) = .next t) : KeptMode s t := by
  unfold execFailRecord at h; (try dsimp only at h); (repeat' split at h) <;> (try simp only [Host.Outcome.next.injEq, reduceCtorEq] at h) <;> (try subst h) <;> (try simp)

theorem execCapBlockTimeout_mode (p : Fin 16) (s : State) (t : State) (h : (execCapBlockTimeout p s) = .next t) : KeptMode s t := by
  unfold execCapBlockTimeout at h; (try dsimp only at h); (repeat' split at h) <;> (try simp only [Host.Outcome.next.injEq, reduceCtorEq] at h) <;> (try subst h) <;> (try simp)

@[simp] theorem State.gapExpire_mode (s : State) (src : Nat) : KeptMode s (State.gapExpire s src) := by
  unfold State.gapExpire; (try dsimp only); (repeat' split) <;> (try simp)

theorem execGapTimerExpire_mode (src : Fin 256) (s : State) (t : State) (h : (execGapTimerExpire src s) = .next t) : KeptMode s t := by
  unfold execGapTimerExpire at h; (try dsimp only at h); (repeat' split at h) <;> (try simp only [Host.Outcome.next.injEq, reduceCtorEq] at h) <;> (try subst h) <;> (try simp)

@[simp] theorem State.fold_mode (s : State) (r : Released) : KeptMode s (State.fold s r) := by
  unfold State.fold; (try dsimp only); (repeat' split) <;> (try simp)

theorem execFoldRecord_mode (s : State) (t : State) (h : (execFoldRecord s) = .next t) : KeptMode s t := by
  unfold execFoldRecord at h; (try dsimp only at h); (repeat' split at h) <;> (try simp only [Host.Outcome.next.injEq, reduceCtorEq] at h) <;> (try subst h) <;> (try simp)

theorem execResync_mode (r : Req) (src : Fin 256) (s : State) (t : State) (h : (execResync r src s) = .next t) : KeptMode s t := by
  simp only [execResync, Host.Outcome.next.injEq] at h; subst h; simp

@[simp] theorem State.openOne_mode (s : State) (c : DomCmd) (i : Nat) : KeptMode s (State.openOne s c i) := by
  simp [State.openOne]

@[simp] theorem State.closeOne_mode (s : State) (q : QueuedClose) (i : Nat) : KeptMode s (State.closeOne s q i) := by
  simp [State.closeOne]

@[simp] theorem State.runQueuedCloses_mode (s : State) : KeptMode s (State.runQueuedCloses s) := by
  simp [State.runQueuedCloses]

@[simp] theorem State.releaseOne_mode (s : State) (d : Nat) : KeptMode s (State.releaseOne s d) := by
  simp [State.releaseOne]

@[simp] theorem State.withPools_mode (s : State) (t : Tab Pool) : KeptMode s (State.withPools s t) := by
  first
  | (simp [State.withPools]; done)
  | (unfold State.withPools; (try dsimp only); (repeat' split) <;> (try simp); done)
  | (unfold State.withPools; (try dsimp only); (repeat' split) <;> (try simp [*]); done)

@[simp] theorem State.domOne_mode (s : State) (c : DomCmd) (i : Nat) : KeptMode s (State.domOne s c i) := by
  first
  | (simp [State.domOne]; done)
  | (unfold State.domOne; (try dsimp only); (repeat' split) <;> (try simp); done)
  | (unfold State.domOne; (try dsimp only); (repeat' split) <;> (try simp [*]); done)

@[simp] theorem State.domRun_mode (s : State) (c : DomCmd) (n : Nat) : KeptMode s (State.domRun s c n) := by
  first
  | (simp [State.domRun]; done)
  | (unfold State.domRun; (try dsimp only); (repeat' split) <;> (try simp); done)
  | (unfold State.domRun; (try dsimp only); (repeat' split) <;> (try simp [*]); done)

@[simp] theorem State.domStart_mode (s : State) (c : DomCmd) (upto : Option (BitVec 25)) : KeptMode s (State.domStart s c upto) := by
  first
  | (simp [State.domStart]; done)
  | (unfold State.domStart; (try dsimp only); (repeat' split) <;> (try simp); done)
  | (unfold State.domStart; (try dsimp only); (repeat' split) <;> (try simp [*]); done)

@[simp] theorem State.domStep_mode (s : State) : KeptMode s (State.domStep s) := by
  first
  | (simp [State.domStep]; done)
  | (unfold State.domStep; (try dsimp only); (repeat' split) <;> (try simp); done)
  | (unfold State.domStep; (try dsimp only); (repeat' split) <;> (try simp [*]); done)

@[simp] theorem State.stopDomCmd_mode (s : State) : KeptMode s (State.stopDomCmd s) := by
  first
  | (simp [State.stopDomCmd]; done)
  | (unfold State.stopDomCmd; (try dsimp only); (repeat' split) <;> (try simp); done)
  | (unfold State.stopDomCmd; (try dsimp only); (repeat' split) <;> (try simp [*]); done)

theorem execDomOpen_mode (r : Req) (upto : Option (BitVec 25)) (s : State) (t : State) (h : (execDomOpen r upto s) = .next t) : KeptMode s t := by
  simp only [execDomOpen, Host.Outcome.next.injEq] at h; subst h; simp

@[simp] theorem State.acceptClose_mode (s : State) (fenced : Bool) (upto : Option (BitVec 25)) : KeptMode s (State.acceptClose s fenced upto) := by
  simp [State.acceptClose]

theorem execDomClose_mode (r : Req) (fenced : Bool) (upto : Option (BitVec 25)) (s : State) (t : State) (h : (execDomClose r fenced upto s) = .next t) : KeptMode s t := by
  simp only [execDomClose, Host.Outcome.next.injEq] at h; subst h; simp

theorem execDomRelease_mode (r : Req) (upto : Option (BitVec 25)) (s : State) (t : State) (h : (execDomRelease r upto s) = .next t) : KeptMode s t := by
  simp only [execDomRelease, Host.Outcome.next.injEq] at h; subst h; simp

theorem execPoolDef_mode (r : Req) (upto : Option (BitVec 25)) (s : State) (t : State) (h : (execPoolDef r upto s) = .next t) : KeptMode s t := by
  simp only [execPoolDef, Host.Outcome.next.injEq] at h; subst h; simp

theorem execPoolDel_mode (r : Req) (upto : Option (BitVec 25)) (s : State) (t : State) (h : (execPoolDel r upto s) = .next t) : KeptMode s t := by
  simp only [execPoolDel, Host.Outcome.next.injEq] at h; subst h; simp

@[simp] theorem State.fenceExpire_mode (s : State) (id : Nat) (srcs : List Nat) (first : Nat) : KeptMode s (State.fenceExpire s id srcs first) := by
  simp [State.fenceExpire]

theorem execFenceTimerExpire_mode (d : BitVec 24) (s : State) (t : State) (h : (execFenceTimerExpire d s) = .next t) : KeptMode s t := by
  unfold execFenceTimerExpire at h; (try dsimp only at h); (repeat' split at h) <;> (try simp only [Host.Outcome.next.injEq, reduceCtorEq] at h) <;> (try subst h) <;> (try simp)

@[simp] theorem State.becomeClosed_mode (s : State) (d : Nat) (c : CloseRec) : KeptMode s (State.becomeClosed s d c) := by
  simp [State.becomeClosed]

theorem execCloseRecordBuild_mode (d : BitVec 24) (s : State) (t : State) (h : execCloseRecordBuild d s = .next t) : KeptMode s t := by
  unfold execCloseRecordBuild at h
  dsimp only at h
  split at h
  · split at h
    · simp only [Host.Outcome.next.injEq] at h; subst h; simp
    · rename_i hh
      have h1 := State.takeAll_mode _ _ _ hh
      simp only [Host.Outcome.next.injEq] at h
      subst h
      simp_all
  · simp only [Host.Outcome.next.injEq] at h; subst h; simp

@[simp] theorem State.startReadout_mode (s : State) (f : Form) : KeptMode s (State.startReadout s f) := by
  unfold State.startReadout; (try dsimp only); (repeat' split) <;> (try simp)

@[simp] theorem State.readoutCmd_mode (s : State) (r : Req) (f : Form) : KeptMode s (State.readoutCmd s r f) := by
  simp [State.readoutCmd]

theorem execReadoutSummary_mode (r : Req) (s : State) (t : State) (h : (execReadoutSummary r s) = .next t) : KeptMode s t := by
  simp only [execReadoutSummary, Host.Outcome.next.injEq] at h; subst h; simp

theorem execReadoutPoints_mode (r : Req) (s : State) (t : State) (h : (execReadoutPoints r s) = .next t) : KeptMode s t := by
  simp only [execReadoutPoints, Host.Outcome.next.injEq] at h; subst h; simp

theorem execReadoutLines_mode (r : Req) (s : State) (t : State) (h : (execReadoutLines r s) = .next t) : KeptMode s t := by
  simp only [execReadoutLines, Host.Outcome.next.injEq] at h; subst h; simp

theorem execReadoutCloseRecord_mode (r : Req) (s : State) (t : State) (h : (execReadoutCloseRecord r s) = .next t) : KeptMode s t := by
  simp only [execReadoutCloseRecord, Host.Outcome.next.injEq] at h; subst h; simp

theorem execReadoutDone_mode (s : State) (t : State) (h : (execReadoutDone s) = .next t) : KeptMode s t := by
  unfold execReadoutDone at h; (try dsimp only at h); (repeat' split at h) <;> (try simp only [Host.Outcome.next.injEq, reduceCtorEq] at h) <;> (try subst h) <;> (try simp)

theorem execCadExcRptrWrite_mode (r : Req) (v : Word) (s : State) (t : State) (h : (execCadExcRptrWrite r v s) = .next t) : KeptMode s t := by
  simp only [execCadExcRptrWrite, Host.Outcome.next.injEq] at h; subst h; simp

@[simp] theorem State.closeRecordLost_mode (s : State) (d : Nat) (e : Nat) : KeptMode s (State.closeRecordLost s d e) := by
  unfold State.closeRecordLost; (try dsimp only); (repeat' split) <;> (try simp)

@[simp] theorem State.engineEnds_mode (s : State) (e : Nat) (nodes : Nat) : KeptMode s (State.engineEnds s e nodes) := by
  simp [State.engineEnds]

@[simp] theorem State.takeUp_mode (s : State) (e : Nat) (d : Nat) (intact : Bool) : KeptMode s (State.takeUp s e d intact) := by
  simp [State.takeUp]

@[simp] theorem State.handRounds_mode (s : State) : KeptMode s (State.handRounds s) := by
  unfold State.handRounds
  exact foldl_mode _ _ _ (fun t p => by cases t.freeEngine <;> cases Tab.look t.cad.pools p <;> simp)

@[simp] theorem State.takeHead_mode (s : State) (intact : Bool) : KeptMode s (State.takeHead s intact) := by
  first
  | (simp [State.takeHead]; done)
  | (unfold State.takeHead; (try dsimp only); (repeat' split) <;> (try simp); done)
  | (unfold State.takeHead; (try dsimp only); (repeat' split) <;> (try simp [*]); done)

theorem execRaeTakeUp_mode (intact : Bool) (s : State) (t : State) (h : (execRaeTakeUp intact s) = .next t) : KeptMode s t := by
  unfold execRaeTakeUp at h; (try dsimp only at h); (repeat' split at h) <;> (try simp only [Host.Outcome.next.injEq, reduceCtorEq] at h) <;> (try subst h) <;> (try simp)

theorem execTimeBudgetExpire_mode (e : Fin 64) (nodes : Nat) (s : State) (t : State) (h : (execTimeBudgetExpire e nodes s) = .next t) : KeptMode s t := by
  unfold execTimeBudgetExpire at h; (try dsimp only at h); (repeat' split at h) <;> (try simp only [Host.Outcome.next.injEq, reduceCtorEq] at h) <;> (try subst h) <;> (try simp)

theorem execNodeBudgetSpent_mode (e : Fin 64) (s : State) (t : State) (h : (execNodeBudgetSpent e s) = .next t) : KeptMode s t := by
  unfold execNodeBudgetSpent at h; (try dsimp only at h); (repeat' split at h) <;> (try simp only [Host.Outcome.next.injEq, reduceCtorEq] at h) <;> (try subst h) <;> (try simp)

@[simp] theorem State.passEnds_mode (s : State) (e : Nat) (d : Nat) (c : CloseRec) : KeptMode s (State.passEnds s e d c) := by
  simp [State.passEnds]

theorem execFirstPassEnd_mode (e : Fin 64) (s : State) (t : State) (h : (execFirstPassEnd e s) = .next t) : KeptMode s t := by
  unfold execFirstPassEnd at h; (try dsimp only at h); (repeat' split at h) <;> (try simp only [Host.Outcome.next.injEq, reduceCtorEq] at h) <;> (try subst h) <;> (try simp)

theorem execPoolRound_mode (pool : BitVec 16) (s : State) (t : State) (h : (execPoolRound pool s) = .next t) : KeptMode s t := by
  unfold execPoolRound at h; (try dsimp only at h); (repeat' split at h) <;> (try simp only [Host.Outcome.next.injEq, reduceCtorEq] at h) <;> (try subst h) <;> (try simp)

@[simp] theorem State.engineError_mode (s : State) (e : Nat) (d : Nat) : KeptMode s (State.engineError s e d) := by
  simp [State.engineError]

theorem execRaeEngineError_mode (e : Fin 64) (s : State) (t : State) (h : (execRaeEngineError e s) = .next t) : KeptMode s t := by
  unfold execRaeEngineError at h; (try dsimp only at h); (repeat' split at h) <;> (try simp only [Host.Outcome.next.injEq, reduceCtorEq] at h) <;> (try subst h) <;> (try simp)

@[simp] theorem State.resultReady_mode (s : State) : KeptMode s (State.resultReady s) := by
  simp [State.resultReady]

@[simp] theorem State.ringCopy_mode (s : State) (p : Partition) (pi : Nat) (r : ResultRec) (rest : List ResultRec) : KeptMode s (State.ringCopy s p pi r rest) := by
  simp [State.ringCopy]

theorem execResultRingCopy_mode (s : State) (t : State) (h : (execResultRingCopy s) = .next t) : KeptMode s t := by
  unfold execResultRingCopy at h; (try dsimp only at h); (repeat' split at h) <;> (try simp only [Host.Outcome.next.injEq, reduceCtorEq] at h) <;> (try subst h) <;> (try simp)

theorem execHoldoffExpire_mode (s : State) (t : State) (h : (execHoldoffExpire s) = .next t) : KeptMode s t := by
  unfold execHoldoffExpire at h; (try dsimp only at h); (repeat' split at h) <;> (try simp only [Host.Outcome.next.injEq, reduceCtorEq] at h) <;> (try subst h) <;> (try simp)

@[simp] theorem State.ringCfg_mode (s : State) (v : Word) : KeptMode s (State.ringCfg s v) := by
  simp [State.ringCfg]

theorem execRaeRingCfgWrite_mode (r : Req) (v : Word) (s : State) (t : State) (h : (execRaeRingCfgWrite r v s) = .next t) : KeptMode s t := by
  simp only [execRaeRingCfgWrite, Host.Outcome.next.injEq] at h; subst h; simp

theorem execRaeRingRptrWrite_mode (r : Req) (v : Word) (s : State) (t : State) (h : (execRaeRingRptrWrite r v s) = .next t) : KeptMode s t := by
  simp only [execRaeRingRptrWrite, Host.Outcome.next.injEq] at h; subst h; simp

@[simp] theorem State.reanalyse_mode (s : State) : KeptMode s (State.reanalyse s) := by
  unfold State.reanalyse
  dsimp only
  simp [State.takeHeapD_mode]

theorem execReanalyse_mode (r : Req) (s : State) (t : State) (h : (execReanalyse r s) = .next t) : KeptMode s t := by
  simp only [execReanalyse, Host.Outcome.next.injEq] at h; subst h; simp

theorem execClearLat_mode (r : Req) (s : State) (t : State) (h : (execClearLat r s) = .next t) : KeptMode s t := by
  simp only [execClearLat, Host.Outcome.next.injEq] at h; subst h; simp

@[simp] theorem State.abandonAnalyses_mode (s : State) : KeptMode s (State.abandonAnalyses s) := by
  simp [State.abandonAnalyses]

@[simp] theorem State.freshQueue_mode (s : State) : KeptMode s (State.freshQueue s) := by
  simp [State.freshQueue]

@[simp] theorem State.laneFails_mode (s : State) (l : Nat) : KeptMode s (State.laneFails s l) := by
  simp [State.laneFails]

@[simp] theorem State.sendEpoch_mode (s : State) (k : Nat) (kind : Nat) (mask : Nat) (epoch : Nat) (stripe : Nat) : KeptMode s (State.sendEpoch s k kind mask epoch stripe) := by
  simp [State.sendEpoch]

@[simp] theorem State.sendColumn_mode (s : State) (k : Nat) (f : Nat → Nat × Nat) : KeptMode s (State.sendColumn s k f) := by
  first
  | (simp [State.sendColumn]; done)
  | (unfold State.sendColumn; (try dsimp only); (repeat' split) <;> (try simp); done)
  | (unfold State.sendColumn; (try dsimp only); (repeat' split) <;> (try simp [*]); done)

@[simp] theorem State.skewCheck_mode (s : State) (k : Nat) : KeptMode s (State.skewCheck s k) := by
  first
  | (simp [State.skewCheck]; done)
  | (unfold State.skewCheck; (try dsimp only); (repeat' split) <;> (try simp); done)
  | (unfold State.skewCheck; (try dsimp only); (repeat' split) <;> (try simp [*]); done)

@[simp] theorem State.lapse_mode (s : State) (k : Nat) : KeptMode s (State.lapse s k) := by
  simp [State.lapse]

@[simp] theorem State.linkChanged_mode (s : State) : KeptMode s (State.linkChanged s) := by
  simp [State.linkChanged]

@[simp] theorem State.chainDown_mode (s : State) (k : Nat) (reason : Nat) : KeptMode s (State.chainDown s k reason) := by
  simp [State.chainDown]

@[simp] theorem State.lossEvent_mode (s : State) (l : Nat) (cond : Nat) : KeptMode s (State.lossEvent s l cond) := by
  unfold State.lossEvent; (try dsimp only); (repeat' split) <;> (try simp)

@[simp] theorem State.countDrops_mode (s : State) (lanes : List (Nat × Nat)) : KeptMode s (State.countDrops s lanes) := by
  simp [State.countDrops]

@[simp] theorem State.formFails_mode (s : State) (k : Nat) : KeptMode s (State.formFails s k) := by
  first
  | (simp [State.formFails]; done)
  | (unfold State.formFails; (try dsimp only); (repeat' split) <;> (try simp); done)
  | (unfold State.formFails; (try dsimp only); (repeat' split) <;> (try simp [*]); done)

@[simp] theorem State.lanesLeave_mode (s : State) (k : Nat) (lanes : List (Nat × Nat)) : KeptMode s (State.lanesLeave s k lanes) := by
  first
  | (simp [State.lanesLeave]; done)
  | (unfold State.lanesLeave; (try dsimp only); (repeat' split) <;> (try simp); done)
  | (unfold State.lanesLeave; (try dsimp only); (repeat' split) <;> (try simp [*]); done)

@[simp] theorem State.belowMinw_mode (s : State) (k : Nat) : KeptMode s (State.belowMinw s k) := by
  first
  | (simp [State.belowMinw]; done)
  | (unfold State.belowMinw; (try dsimp only); (repeat' split) <;> (try simp); done)
  | (unfold State.belowMinw; (try dsimp only); (repeat' split) <;> (try simp [*]); done)

@[simp] theorem State.giveWay_mode (s : State) (k : Nat) (mask : Nat) : KeptMode s (State.giveWay s k mask) := by
  first
  | (simp [State.giveWay]; done)
  | (unfold State.giveWay; (try dsimp only); (repeat' split) <;> (try simp); done)
  | (unfold State.giveWay; (try dsimp only); (repeat' split) <;> (try simp [*]); done)

@[simp] theorem State.dropTo_mode (s : State) (k : Nat) (mask : Nat) (lanes : List (Nat × Nat)) : KeptMode s (State.dropTo s k mask lanes) := by
  simp [State.dropTo]

@[simp] theorem State.loseLanes_mode (s : State) (k : Nat) (lost : List Nat) (cond : Nat) : KeptMode s (State.loseLanes s k lost cond) := by
  unfold State.loseLanes; (try dsimp only); (repeat' split) <;> (try simp)

theorem execLaneLoss_mode (k : Fin 16) (lanes : BitVec 64) (cond : LossCond) (s : State) (t : State) (h : (execLaneLoss k lanes cond s) = .next t) : KeptMode s t := by
  unfold execLaneLoss at h; (try dsimp only at h); (repeat' split at h) <;> (try simp only [Host.Outcome.next.injEq, reduceCtorEq] at h) <;> (try subst h) <;> (try simp)

@[simp] theorem State.dropReceived_mode (s : State) (k : Nat) (mask : Nat) (epoch : Nat) (stripe : Nat) : KeptMode s (State.dropReceived s k mask epoch stripe) := by
  unfold State.dropReceived; (try dsimp only); (repeat' split) <;> (try simp)

theorem execDropReceived_mode (k : Fin 16) (body : BitVec 56) (s : State) (t : State) (h : (execDropReceived k body s) = .next t) : KeptMode s t := by
  unfold execDropReceived at h; (try dsimp only at h); (repeat' split at h) <;> (try simp only [Host.Outcome.next.injEq, reduceCtorEq] at h) <;> (try subst h) <;> (try simp)

theorem execLaneSignalDetect_mode (l : Fin 64) (s : State) (t : State) (h : (execLaneSignalDetect l s) = .next t) : KeptMode s t := by
  unfold execLaneSignalDetect at h; (try dsimp only at h); (repeat' split at h) <;> (try simp only [Host.Outcome.next.injEq, reduceCtorEq] at h) <;> (try subst h) <;> (try simp)

theorem execNoSignal_mode (l : Fin 64) (s : State) (t : State) (h : (execNoSignal l s) = .next t) : KeptMode s t := by
  unfold execNoSignal at h; (try dsimp only at h); (repeat' split at h) <;> (try simp only [Host.Outcome.next.injEq, reduceCtorEq] at h) <;> (try subst h) <;> (try simp)

@[simp] theorem State.tapRequest_mode (s : State) (l : Nat) (control : Nat) (limit : Nat) : KeptMode s (State.tapRequest s l control limit).1 := by
  unfold State.tapRequest; (try dsimp only); (repeat' split) <;> (try simp)

@[simp] theorem State.sendFrameOn_mode (s : State) (l : Nat) (control : Nat) (status : Nat) : KeptMode s (State.sendFrameOn s l control status) := by
  first
  | (simp [State.sendFrameOn]; done)
  | (unfold State.sendFrameOn; (try dsimp only); (repeat' split) <;> (try simp); done)
  | (unfold State.sendFrameOn; (try dsimp only); (repeat' split) <;> (try simp [*]); done)

@[simp] theorem State.trainingFrame_mode (s : State) (l : Nat) (control : Nat) (status : Nat) (limit : Nat) (own : Nat) : KeptMode s (State.trainingFrame s l control status limit own) := by
  simp [State.trainingFrame]

theorem execTrainingFrame_mode (l : Fin 64) (control : BitVec 16) (status : BitVec 16) (atLimit : BitVec 3) (own : BitVec 16) (s : State) (t : State) (h : (execTrainingFrame l control status atLimit own s) = .next t) : KeptMode s t := by
  unfold execTrainingFrame at h; (try dsimp only at h); (repeat' split at h) <;> (try simp only [Host.Outcome.next.injEq, reduceCtorEq] at h) <;> (try subst h) <;> (try simp)

@[simp] theorem State.applyInjection_mode (s : State) (l : Nat) : KeptMode s (State.applyInjection s l) := by
  unfold State.applyInjection; (try dsimp only); (repeat' split) <;> (try simp)

theorem execTrainingEnd_mode (l : Fin 64) (s : State) (t : State) (h : (execTrainingEnd l s) = .next t) : KeptMode s t := by
  unfold execTrainingEnd at h; (try dsimp only at h); (repeat' split at h) <;> (try simp only [Host.Outcome.next.injEq, reduceCtorEq] at h) <;> (try subst h) <;> (try simp)

theorem execTrainTmo_mode (l : Fin 64) (s : State) (t : State) (h : (execTrainTmo l s) = .next t) : KeptMode s t := by
  unfold execTrainTmo at h; (try dsimp only at h); (repeat' split at h) <;> (try simp only [Host.Outcome.next.injEq, reduceCtorEq] at h) <;> (try subst h) <;> (try simp)

@[simp] theorem State.sendCapx_mode (s : State) (k : Nat) (on : Nat → Bool) : KeptMode s (State.sendCapx s k on) := by
  first
  | (simp [State.sendCapx]; done)
  | (unfold State.sendCapx; (try dsimp only); (repeat' split) <;> (try simp); done)
  | (unfold State.sendCapx; (try dsimp only); (repeat' split) <;> (try simp [*]); done)

theorem execLockAchieved_mode (l : Fin 64) (s : State) (t : State) (h : (execLockAchieved l s) = .next t) : KeptMode s t := by
  unfold execLockAchieved at h; (try dsimp only at h); (repeat' split at h) <;> (try simp only [Host.Outcome.next.injEq, reduceCtorEq] at h) <;> (try subst h) <;> (try simp)

theorem execLockTmo_mode (l : Fin 64) (s : State) (t : State) (h : (execLockTmo l s) = .next t) : KeptMode s t := by
  unfold execLockTmo at h; (try dsimp only at h); (repeat' split at h) <;> (try simp only [Host.Outcome.next.injEq, reduceCtorEq] at h) <;> (try subst h) <;> (try simp)

theorem execCapxMatch_mode (l : Fin 64) (body : BitVec 56) (s : State) (t : State) (h : (execCapxMatch l body s) = .next t) : KeptMode s t := by
  unfold execCapxMatch at h; (try dsimp only at h); (repeat' split at h) <;> (try simp only [Host.Outcome.next.injEq, reduceCtorEq] at h) <;> (try subst h) <;> (try simp)

@[simp] theorem State.capxMismatch_mode (s : State) (k : Nat) (l : Nat) (got : Option Nat) : KeptMode s (State.capxMismatch s k l got) := by
  simp [State.capxMismatch]

theorem execCapxMismatch_mode (l : Fin 64) (body : Option (BitVec 56)) (s : State) (t : State) (h : (execCapxMismatch l body s) = .next t) : KeptMode s t := by
  unfold execCapxMismatch at h; (try dsimp only at h); (repeat' split at h) <;> (try simp only [Host.Outcome.next.injEq, reduceCtorEq] at h) <;> (try subst h) <;> (try simp)

@[simp] theorem State.laneReady_mode (s : State) (l : Nat) : KeptMode s (State.laneReady s l) := by
  unfold State.laneReady; (try dsimp only); (repeat' split) <;> (try simp)

theorem execLaneReady_mode (l : Fin 64) (s : State) (t : State) (h : (execLaneReady l s) = .next t) : KeptMode s t := by
  unfold execLaneReady at h; (try dsimp only at h); (repeat' split at h) <;> (try simp only [Host.Outcome.next.injEq, reduceCtorEq] at h) <;> (try subst h) <;> (try simp)

theorem execBackoffExpire_mode (l : Fin 64) (s : State) (t : State) (h : (execBackoffExpire l s) = .next t) : KeptMode s t := by
  unfold execBackoffExpire at h; (try dsimp only at h); (repeat' split at h) <;> (try simp only [Host.Outcome.next.injEq, reduceCtorEq] at h) <;> (try subst h) <;> (try simp)

@[simp] theorem State.announce_mode (s : State) (k : Nat) (mask : Nat) (form : Bool) : KeptMode s (State.announce s k mask form) := by
  simp [State.announce]

theorem execChainFormation_mode (k : Fin 16) (windowEnd : Bool) (s : State) (t : State) (h : (execChainFormation k windowEnd s) = .next t) : KeptMode s t := by
  unfold execChainFormation at h; (try dsimp only at h); (repeat' split at h) <;> (try simp only [Host.Outcome.next.injEq, reduceCtorEq] at h) <;> (try subst h) <;> (try simp)

theorem execRejoinAnnounce_mode (k : Fin 16) (s : State) (t : State) (h : (execRejoinAnnounce k s) = .next t) : KeptMode s t := by
  unfold execRejoinAnnounce at h; (try dsimp only at h); (repeat' split at h) <;> (try simp only [Host.Outcome.next.injEq, reduceCtorEq] at h) <;> (try subst h) <;> (try simp)

@[simp] theorem State.commit_mode (s : State) (k : Nat) (mask : Nat) (form : Bool) : KeptMode s (State.commit s k mask form) := by
  simp [State.commit]

theorem execRejoinAckReceived_mode (k : Fin 16) (body : BitVec 56) (s : State) (t : State) (h : (execRejoinAckReceived k body s) = .next t) : KeptMode s t := by
  unfold execRejoinAckReceived at h; (try dsimp only at h); (repeat' split at h) <;> (try simp only [Host.Outcome.next.injEq, reduceCtorEq] at h) <;> (try subst h) <;> (try simp)

theorem execRejoinLapsed_mode (k : Fin 16) (s : State) (t : State) (h : (execRejoinLapsed k s) = .next t) : KeptMode s t := by
  unfold execRejoinLapsed at h; (try dsimp only at h); (repeat' split at h) <;> (try simp only [Host.Outcome.next.injEq, reduceCtorEq] at h) <;> (try subst h) <;> (try simp)

theorem execPartnerCommitReceived_mode (k : Fin 16) (body : BitVec 56) (s : State) (t : State) (h : (execPartnerCommitReceived k body s) = .next t) : KeptMode s t := by
  unfold execPartnerCommitReceived at h; (try dsimp only at h); (repeat' split at h) <;> (try simp only [Host.Outcome.next.injEq, reduceCtorEq] at h) <;> (try subst h) <;> (try simp)

@[simp] theorem State.commitTimeout_mode (s : State) (k : Nat) (old : Nat) (form : Bool) : KeptMode s (State.commitTimeout s k old form) := by
  simp [State.commitTimeout]

theorem execPartnerCommitTimeout_mode (k : Fin 16) (s : State) (t : State) (h : (execPartnerCommitTimeout k s) = .next t) : KeptMode s t := by
  unfold execPartnerCommitTimeout at h; (try dsimp only at h); (repeat' split at h) <;> (try simp only [Host.Outcome.next.injEq, reduceCtorEq] at h) <;> (try subst h) <;> (try simp)

@[simp] theorem State.chainFormed_mode (s : State) (k : Nat) : KeptMode s (State.chainFormed s k) := by
  simp [State.chainFormed]

@[simp] theorem State.exchangeDone_mode (s : State) (k : Nat) : KeptMode s (State.exchangeDone s k) := by
  unfold State.exchangeDone; (try dsimp only); (repeat' split) <;> (try simp)

@[simp] theorem State.switchTx_mode (s : State) (k : Nat) (w : Switch) : KeptMode s (State.switchTx s k w) := by
  simp [State.switchTx]

@[simp] theorem State.switchRx_mode (s : State) (k : Nat) (w : Switch) : KeptMode s (State.switchRx s k w) := by
  simp [State.switchRx]

theorem execEpochSwitch_mode (k : Fin 16) (transmit : Bool) (s : State) (t : State) (h : (execEpochSwitch k transmit s) = .next t) : KeptMode s t := by
  unfold execEpochSwitch at h; (try dsimp only at h); (repeat' split at h) <;> (try simp only [Host.Outcome.next.injEq, reduceCtorEq] at h) <;> (try subst h) <;> (try simp)

theorem execLaneMarkerSend_mode (l : Fin 64) (s : State) (t : State) (h : (execLaneMarkerSend l s) = .next t) : KeptMode s t := by
  unfold execLaneMarkerSend at h; (try dsimp only at h); (repeat' split at h) <;> (try simp only [Host.Outcome.next.injEq, reduceCtorEq] at h) <;> (try subst h) <;> (try simp)

theorem execWaddingInsert_mode (k : Fin 16) (s : State) (t : State) (h : (execWaddingInsert k s) = .next t) : KeptMode s t := by
  unfold execWaddingInsert at h; (try dsimp only at h); (repeat' split at h) <;> (try simp only [Host.Outcome.next.injEq, reduceCtorEq] at h) <;> (try subst h) <;> (try simp)

@[simp] theorem State.codeword_mode (s : State) (k : Nat) (l : Nat) (scr : Nat) (corrected : Option Nat) (blocks : List RxBlock) (offs : Nat) : KeptMode s (State.codeword s k l scr corrected blocks offs) := by
  unfold State.codeword; (try dsimp only); (repeat' split) <;> (try simp)

theorem execReceiveEmptySlot_mode (l : Fin 64) (s : State) (t : State) (h : (execReceiveEmptySlot l s) = .next t) : KeptMode s t := by
  unfold execReceiveEmptySlot at h; (try dsimp only at h); (repeat' split at h) <;> (try simp only [Host.Outcome.next.injEq, reduceCtorEq] at h) <;> (try subst h) <;> (try simp)

@[simp] theorem State.retrain_mode (s : State) (l : Nat) : KeptMode s (State.retrain s l) := by
  unfold State.retrain; (try dsimp only); (repeat' split) <;> (try simp)

theorem execRetrain_mode (r : Req) (l : Fin 64) (s : State) (t : State) (h : (execRetrain r l s) = .next t) : KeptMode s t := by
  simp only [execRetrain, Host.Outcome.next.injEq] at h; subst h; simp

@[simp] theorem State.prbsGenerate_mode (s : State) (l : Nat) : KeptMode s (State.prbsGenerate s l) := by
  first
  | (simp [State.prbsGenerate]; done)
  | (unfold State.prbsGenerate; (try dsimp only); (repeat' split) <;> (try simp); done)
  | (unfold State.prbsGenerate; (try dsimp only); (repeat' split) <;> (try simp [*]); done)

@[simp] theorem State.prbsCheck_mode (s : State) (l : Nat) : KeptMode s (State.prbsCheck s l) := by
  first
  | (simp [State.prbsCheck]; done)
  | (unfold State.prbsCheck; (try dsimp only); (repeat' split) <;> (try simp); done)
  | (unfold State.prbsCheck; (try dsimp only); (repeat' split) <;> (try simp [*]); done)

@[simp] theorem State.prbsConfig_mode (s : State) (l : Nat) (v : Word) : KeptMode s (State.prbsConfig s l v) := by
  simp [State.prbsConfig]

theorem execPrbsCfgWrite_mode (r : Req) (l : Fin 64) (v : Word) (s : State) (t : State) (h : (execPrbsCfgWrite r l v s) = .next t) : KeptMode s t := by
  simp only [execPrbsCfgWrite, Host.Outcome.next.injEq] at h; subst h; simp

@[simp] theorem State.inject_mode (s : State) (l : Nat) (kind : Nat) (n : Nat) : KeptMode s (State.inject s l kind n) := by
  simp [State.inject]

theorem execInjectBit_mode (r : Req) (l : Fin 64) (count : BitVec 8) (s : State) (t : State) (h : (execInjectBit r l count s) = .next t) : KeptMode s t := by
  simp only [execInjectBit, Host.Outcome.next.injEq] at h; subst h; simp

theorem execInjectSymbol_mode (r : Req) (l : Fin 64) (count : BitVec 8) (s : State) (t : State) (h : (execInjectSymbol r l count s) = .next t) : KeptMode s t := by
  simp only [execInjectSymbol, Host.Outcome.next.injEq] at h; subst h; simp

theorem execInjectSync_mode (r : Req) (l : Fin 64) (s : State) (t : State) (h : (execInjectSync r l s) = .next t) : KeptMode s t := by
  simp only [execInjectSync, Host.Outcome.next.injEq] at h; subst h; simp

theorem execInjectLol_mode (r : Req) (l : Fin 64) (s : State) (t : State) (h : (execInjectLol r l s) = .next t) : KeptMode s t := by
  simp only [execInjectLol, Host.Outcome.next.injEq] at h
  subst h
  refine State.hostWrite_mode s r _ _ _ (fun u => ?_)
  split <;> simp

@[simp] theorem State.laneTick_mode (s : State) (l : Nat) : KeptMode s (State.laneTick s l) := by
  first
  | (simp [State.laneTick]; done)
  | (unfold State.laneTick; (try dsimp only); (repeat' split) <;> (try simp); done)
  | (unfold State.laneTick; (try dsimp only); (repeat' split) <;> (try simp [*]); done)

@[simp] theorem State.lanesTick_mode (s : State) : KeptMode s (State.lanesTick s) := by
  first
  | (simp [State.lanesTick]; done)
  | (unfold State.lanesTick; (try dsimp only); (repeat' split) <;> (try simp); done)
  | (unfold State.lanesTick; (try dsimp only); (repeat' split) <;> (try simp [*]); done)

@[simp] theorem State.quadPower_mode (s : State) : KeptMode s (State.quadPower s) := by
  simp [State.quadPower]

@[simp] theorem State.linksStart_mode (s : State) : KeptMode s (State.linksStart s) := by
  simp [State.linksStart]

@[simp] theorem State.linksOff_mode (s : State) : KeptMode s (State.linksOff s) := by
  simp [State.linksOff]

@[simp] theorem State.bareSettings_mode (s : State) : KeptMode s (State.bareSettings s) := by
  simp [State.bareSettings]

@[simp] theorem State.loadWords_mode (s : State) (a : Nat) (v : List Byte) (off : Nat) (n : Nat) : KeptMode s (State.loadWords s a v off n) := by
  simp [State.loadWords]

@[simp] theorem State.applyEntry_mode (s : State) (e : Entry) : KeptMode s (State.applyEntry s e) := by
  unfold State.applyEntry; (try dsimp only); (repeat' split) <;> (try simp)

@[simp] theorem State.withEntries_mode (s : State) (es : List Entry) (gen : Nat) : KeptMode s (State.withEntries s es gen) := by
  simp [State.withEntries]

theorem State.judgeEntries_mode (s : State) (warm : Bool) (img : List Byte) (es : List Entry) (t : State)
    (h : (s.judgeEntries warm img es).next = some t) : KeptMode s t := by
  unfold State.judgeEntries at h
  dsimp only at h
  repeat' split at h
  all_goals simp only [reduceCtorEq, Option.some.injEq] at h
  subst h
  simp

theorem State.judgeImage_mode (s : State) (warm : Bool) (slot : List Byte) (t : State)
    (h : (s.judgeImage warm slot).next = some t) : KeptMode s t := by
  unfold State.judgeImage at h
  dsimp only at h
  repeat' split at h
  all_goals first
    | (simp only [reduceCtorEq] at h; done)
    | exact State.judgeEntries_mode _ _ _ _ _ h

@[simp] theorem State.mapSlices_mode (t : State) (s : State) (warm : Bool) : KeptMode t (State.mapSlices t s warm) := by
  simp [State.mapSlices]

@[simp] theorem State.withShadows_mode (s : State) (mask : Nat) : KeptMode s (State.withShadows s mask) := by
  simp [State.withShadows]

@[simp] theorem State.commitStat_mode (s : State) (r : Req) (v : Word) (st : Status) : KeptMode s (State.commitStat s r v st) := by
  simp [State.commitStat]

@[simp] theorem State.commitRejected_mode (s : State) (r : Req) (v : Word) (st : Status) (adm : Option (Status × Nat × Nat)) : KeptMode s (State.commitRejected s r v st adm) := by
  unfold State.commitRejected; (try dsimp only); (repeat' split) <;> (try simp)

@[simp] theorem State.commitEffects_mode (s : State) (t : State) : KeptMode t (State.commitEffects s t) := by
  unfold State.commitEffects
  dsimp only
  repeat' split
  all_goals simp

@[simp] theorem State.commitPassed_mode (s t : State) (r : Req) (v : Word) (a : Option (Status × Nat × Nat)) :
    KeptMode t (State.commitPassed s t r v a) := by
  cases a <;> simp [State.commitPassed]

@[simp] theorem State.commitWrite_mode (s : State) (r : Req) (v : Word) : KeptMode s (State.commitWrite s r v) := by
  unfold State.commitWrite; (try dsimp only); (repeat' split) <;> (try simp)

@[simp] theorem State.discardWrite_mode (s : State) (r : Req) (v : Word) : KeptMode s (State.discardWrite s r v) := by
  unfold State.discardWrite; (try dsimp only); (repeat' split) <;> (try simp)

theorem execCommit_mode (r : Req) (mask : BitVec 16) (s : State) (t : State) (h : (execCommit r mask s) = .next t) : KeptMode s t := by
  simp only [execCommit, Host.Outcome.next.injEq] at h; subst h; simp

theorem execDiscard_mode (r : Req) (mask : BitVec 16) (s : State) (t : State) (h : (execDiscard r mask s) = .next t) : KeptMode s t := by
  simp only [execDiscard, Host.Outcome.next.injEq] at h; subst h; simp

@[simp] theorem State.setPage_mode (s : State) (p : Nat) (l : List Byte) : KeptMode s (State.setPage s p l) := by
  simp [State.setPage]

@[simp] theorem State.erase_mode (s : State) (p : Nat) (n : Nat) : KeptMode s (State.erase s p n) := by
  simp [State.erase]

@[simp] theorem State.program_mode (s : State) (p : Nat) (l : List Byte) : KeptMode s (State.program s p l) := by
  first
  | (simp [State.program]; done)
  | (unfold State.program; (try dsimp only); (repeat' split) <;> (try simp); done)
  | (unfold State.program; (try dsimp only); (repeat' split) <;> (try simp [*]); done)

@[simp] theorem State.writeSpw_mode (s : State) (act : Nat) (conf : Nat) (trial : Bool) (rbk : Bool) (tboots : Nat) : KeptMode s (State.writeSpw s act conf trial rbk tboots) := by
  unfold State.writeSpw
  rfl

@[simp] theorem State.saveSettings_mode (s : State) (ok : Bool) : KeptMode s (State.saveSettings s ok) := by
  simp [State.saveSettings]

@[simp] theorem State.setTraverse_mode (s : State) (body : List Byte) : KeptMode s (State.setTraverse s body) := by
  simp [State.setTraverse]

@[simp] theorem State.resetSettings_mode (s : State) (format : Nat) : KeptMode s (State.resetSettings s format) := by
  simp [State.resetSettings]

@[simp] theorem State.loadSettings_mode (s : State) : KeptMode s (State.loadSettings s) := by
  unfold State.loadSettings; (try dsimp only); (repeat' split) <;> (try simp)

@[simp] theorem State.dropSettings_mode (s : State) (kept : Nat) : KeptMode s (State.dropSettings s kept) := by
  first
  | (simp [State.dropSettings]; done)
  | (unfold State.dropSettings; (try dsimp only); (repeat' split) <;> (try simp); done)
  | (unfold State.dropSettings; (try dsimp only); (repeat' split) <;> (try simp [*]); done)

theorem execSettingsSave_mode (ok : Bool) (s : State) (t : State) (h : (execSettingsSave ok s) = .next t) : KeptMode s t := by
  unfold execSettingsSave at h; (try dsimp only at h); (repeat' split at h) <;> (try simp only [Host.Outcome.next.injEq, reduceCtorEq] at h) <;> (try subst h) <;> (try simp)

@[simp] theorem State.updDone_mode (s : State) (st : Status) : KeptMode s (State.updDone s st) := by
  simp [State.updDone]

@[simp] theorem State.stageNew_mode (s : State) (w : List Byte) : KeptMode s (State.stageNew s w) := by
  simp [State.stageNew]

theorem execUpdBegin_mode (r : Req) (flashOk : Bool) (s : State) (t : State) (h : (execUpdBegin r flashOk s) = .next t) : KeptMode s t := by
  simp only [execUpdBegin, Host.Outcome.next.injEq] at h; subst h; simp

@[simp] theorem State.storeChunk_mode (s : State) : KeptMode s (State.storeChunk s) := by
  simp [State.storeChunk]

theorem execUpdChunk_mode (r : Req) (flashOk : Bool) (s : State) (t : State) (h : (execUpdChunk r flashOk s) = .next t) : KeptMode s t := by
  simp only [execUpdChunk, Host.Outcome.next.injEq] at h; subst h; simp

theorem execUpdVerify_mode (r : Req) (s : State) (t : State) (h : (execUpdVerify r s) = .next t) : KeptMode s t := by
  simp only [execUpdVerify, Host.Outcome.next.injEq] at h; subst h; simp

@[simp] theorem State.writeImage_mode (s : State) (slot : Nat) (l : List Byte) : KeptMode s (State.writeImage s slot l) := by
  simp [State.writeImage]

@[simp] theorem State.verifyFirmware_mode (s : State) : KeptMode s (State.verifyFirmware s).1 := by
  unfold State.verifyFirmware; (try dsimp only); (repeat' split) <;> (try simp)

@[simp] theorem State.voidSlot_mode (s : State) (i : Nat) : KeptMode s (State.voidSlot s i) := by
  unfold State.voidSlot
  exact State.setPage_mode _ _ _

@[simp] theorem State.verify_mode (s : State) : KeptMode s (State.verify s).1 := by
  unfold State.verify; (try dsimp only); (repeat' split) <;> (try simp)

theorem execVerifyDone_mode (flashOk : Bool) (s : State) (t : State) (h : (execVerifyDone flashOk s) = .next t) : KeptMode s t := by
  unfold execVerifyDone at h; (try dsimp only at h); (repeat' split at h) <;> (try simp only [Host.Outcome.next.injEq, reduceCtorEq] at h) <;> (try subst h) <;> (try simp)

@[simp] theorem State.beginWarm_mode (s : State) : KeptMode s (State.beginWarm s) := by
  simp [State.beginWarm]

theorem execActivate_mode (r : Req) (ok : Bool) (s : State) (t : State) (h : execActivate r ok s = .next t) : KeptMode s t := by
  simp only [execActivate, Host.Outcome.next.injEq] at h
  subst h
  refine State.hostWrite_mode s r _ _ _ (fun u => ?_)
  split <;> simp

@[simp] theorem State.advanceFloors_mode (s : State) : KeptMode s (State.advanceFloors s) := by
  simp [State.advanceFloors]

@[simp] theorem State.raiseFloors_mode (s : State) : KeptMode s (State.raiseFloors s) := by
  simp [State.raiseFloors]

@[simp] theorem State.confirm_mode (s : State) : KeptMode s (State.confirm s) := by
  simp [State.confirm]

theorem execConfirm_mode (r : Req) (s : State) (t : State) (h : (execConfirm r s) = .next t) : KeptMode s t := by
  simp only [execConfirm, Host.Outcome.next.injEq] at h; subst h; simp

@[simp] theorem State.unstage_mode (s : State) : KeptMode s (State.unstage s) := by
  simp [State.unstage]

@[simp] theorem State.rollBack_mode (s : State) (cause : Nat) : KeptMode s (State.rollBack s cause) := by
  simp [State.rollBack]

@[simp] theorem State.rollWarm_mode (s : State) (cause : Nat) : KeptMode s (State.rollWarm s cause) := by
  simp [State.rollWarm]

theorem execRollback_mode (r : Req) (s : State) (t : State) (h : (execRollback r s) = .next t) : KeptMode s t := by
  simp only [execRollback, Host.Outcome.next.injEq] at h; subst h; simp

theorem execUpdAbort_mode (r : Req) (s : State) (t : State) (h : (execUpdAbort r s) = .next t) : KeptMode s t := by
  simp only [execUpdAbort, Host.Outcome.next.injEq] at h; subst h; simp

theorem execTrialExpire_mode (s : State) (t : State) (h : (execTrialExpire s) = .next t) : KeptMode s t := by
  unfold execTrialExpire at h; (try dsimp only at h); (repeat' split at h) <;> (try simp only [Host.Outcome.next.injEq, reduceCtorEq] at h) <;> (try subst h) <;> (try simp)

@[simp] theorem State.foundBad_mode (s : State) (w : LedgerWord) : KeptMode s (State.foundBad s w) := by
  first
  | (simp [State.foundBad]; done)
  | (unfold State.foundBad; (try dsimp only); (repeat' split) <;> (try simp); done)
  | (unfold State.foundBad; (try dsimp only); (repeat' split) <;> (try simp [*]); done)

@[simp] theorem State.coldStart_mode (s : State) : KeptMode s (State.coldStart s) := by
  simp [State.coldStart]

theorem execResetNRelease_mode (s : State) (t : State) (h : (execResetNRelease s) = .next t) : KeptMode s t := by
  simp only [execResetNRelease, Host.Outcome.next.injEq] at h; subst h; simp

theorem execPwrgoodRise_mode (s : State) (t : State) (h : (execPwrgoodRise s) = .next t) : KeptMode s t := by
  simp only [execPwrgoodRise, Host.Outcome.next.injEq] at h; subst h; simp

theorem execRootPllLock_mode (s : State) (t : State) (h : (execRootPllLock s) = .next t) : KeptMode s t := by
  unfold execRootPllLock at h; (try dsimp only at h); (repeat' split at h) <;> (try simp only [Host.Outcome.next.injEq, reduceCtorEq] at h) <;> (try subst h) <;> (try simp)

theorem execShutdownRearm_mode (s : State) (t : State) (h : (execShutdownRearm s) = .next t) : KeptMode s t := by
  unfold execShutdownRearm at h; (try dsimp only at h); (repeat' split at h) <;> (try simp only [Host.Outcome.next.injEq, reduceCtorEq] at h) <;> (try subst h) <;> (try simp)

@[simp] theorem State.setDomains_mode (s : State) (l : List (Nat × PwrState)) : KeptMode s (State.setDomains s l) := by
  simp [State.setDomains]

@[simp] theorem State.domainsOn_mode (s : State) : KeptMode s (State.domainsOn s) := by
  simp [State.domainsOn]

@[simp] theorem State.domainsHold_mode (s : State) : KeptMode s (State.domainsHold s) := by
  simp [State.domainsHold]

@[simp] theorem State.announceRecords_mode (s : State) : KeptMode s (State.announceRecords s) := by
  unfold State.announceRecords
  dsimp only
  have h : ∀ l : List ShutRec, KeptMode s (l.foldl (fun (t : State) r =>
    (t.event Reg.THM_EVENTS Fld.THM_EVENTS_SHUT_RECORD).alert 0x56 0xFF (leAt r.bytes (4 * 0) 4) (leAt r.bytes (4 * 1) 4)
      (leAt r.bytes (4 * 2) 4) (leAt r.bytes (4 * 3) 4)) s) := by
    intro l
    apply foldl_mode
    intro t x
    simp only [KeptMode, State.event_mode, State.alert_mode, and_self]
  exact h _

@[simp] theorem State.askHold_mode (s : State) : KeptMode s (State.askHold s) := by
  simp [State.askHold]

theorem execModeReqHold_mode (r : Req) (s : State) (t : State) (h : (execModeReqHold r s) = .next t) : KeptMode s t := by
  simp only [execModeReqHold, Host.Outcome.next.injEq] at h; subst h; simp

@[simp] theorem State.runSet_mode (s : State) (img : List Byte) : KeptMode s (State.runSet s img) := by
  simp [State.runSet]

@[simp] theorem State.setUpdBoot_mode (s : State) (source : Nat) (refusal : Nat × Status) : KeptMode s (State.setUpdBoot s source refusal) := by
  simp [State.setUpdBoot]

@[simp] theorem State.runRecovery_mode (s : State) : KeptMode s (State.runRecovery s) := by
  simp [State.runRecovery]

@[simp] theorem State.bootAct_mode (s : State) : KeptMode s (State.bootAct s) := by
  simp [State.bootAct]

@[simp] theorem State.chooseSet_mode (s : State) : KeptMode s (State.chooseSet s) := by
  simp [State.chooseSet]

@[simp] theorem State.emptyConfig_mode (s : State) : KeptMode s (State.emptyConfig s) := by
  simp [State.emptyConfig]

@[simp] theorem State.setCfgLog_mode (s : State) (seen : List (Nat × Verdict)) : KeptMode s (State.setCfgLog s seen) := by
  simp [State.setCfgLog]

@[simp] theorem State.configRefused_mode (s : State) (v : Nat × Verdict) : KeptMode s (State.configRefused s v) := by
  unfold State.configRefused
  cases v.2.adm <;> simp

theorem State.takeConfig_mode (s : State) (i : Nat) (v : Verdict) (h : ∀ t, v.next = some t → KeptMode s t) : KeptMode s (State.takeConfig s i v) := by
  unfold State.takeConfig
  cases hn : v.next with
  | none => cases v.adm <;> simp
  | some t =>
    have h1 := h t hn
    cases v.adm <;> simp_all

/-- The image of a slot taken into use (R42). -/
@[simp] theorem State.takeJudged_mode (s : State) (i : Nat) (w : Bool) (b : List Byte) :
    KeptMode s (s.takeConfig i (s.judgeImage w b)) :=
  State.takeConfig_mode _ _ _ (fun _ h => State.judgeImage_mode _ _ _ _ h)

@[simp] theorem State.chooseConfig_mode (s : State) : KeptMode s (State.chooseConfig s) := by
  unfold State.chooseConfig
  dsimp only
  repeat' split
  all_goals simp

@[simp] theorem State.restoreAvail_mode (s : State) : KeptMode s (State.restoreAvail s) := by
  unfold State.restoreAvail; (try dsimp only); (repeat' split) <;> (try simp)

@[simp] theorem State.coldEntries_mode (s : State) : KeptMode s (State.coldEntries s) := by
  simp [State.coldEntries]

@[simp] theorem State.readFuses_mode (s : State) : KeptMode s (State.readFuses s) := by
  simp [State.readFuses]

@[simp] theorem State.applyRepair_mode (s : State) (e : Nat) : KeptMode s (State.applyRepair s e) := by
  simp [State.applyRepair]

@[simp] theorem State.bringUp_mode (s : State) : KeptMode s (State.bringUp s) := by
  simp [State.bringUp]

@[simp] theorem State.foundPages_mode (s : State) (l : List (Fin 2112 × List Byte)) : KeptMode s (State.foundPages s l) := by
  simp [State.foundPages]

@[simp] theorem State.takeSpw_mode (s : State) : KeptMode s (State.takeSpw s) := by
  simp [State.takeSpw]

@[simp] theorem State.loadFloors_mode (s : State) : KeptMode s (State.loadFloors s) := by
  simp [State.loadFloors]

@[simp] theorem State.loadSteps_mode (s : State) : KeptMode s (State.loadSteps s) := by
  simp [State.loadSteps]

@[simp] theorem State.eccFailed_mode (s : State) (c : Nat) (incomplete : Bool) : KeptMode s (State.eccFailed s c incomplete) := by
  simp [State.eccFailed]

@[simp] theorem State.startFail_mode (s : State) (b : Nat) : KeptMode s (State.startFail s b) := by
  simp [State.startFail]

@[simp] theorem State.startCount_mode (s : State) (fails : List Nat) : KeptMode s (State.startCount s fails) := by
  first
  | (simp [State.startCount]; done)
  | (unfold State.startCount; (try dsimp only); (repeat' split) <;> (try simp); done)
  | (unfold State.startCount; (try dsimp only); (repeat' split) <;> (try simp [*]); done)

@[simp] theorem State.assignReserve_mode (s : State) : KeptMode s (State.assignReserve s) := by
  simp [State.assignReserve]

@[simp] theorem State.eccMaps_mode (s : State) (l : List (Nat × StVerdict)) : KeptMode s (State.eccMaps s l) := by
  simp [State.eccMaps]

@[simp] theorem State.startTests_mode (s : State) (r : StartTests) : KeptMode s (State.startTests s r) := by
  simp [State.startTests]

@[simp] theorem State.drainChannel_mode (s : State) (c : Nat) : KeptMode s (State.drainChannel s c) := by
  simp [State.drainChannel]

@[simp] theorem State.warmSet_mode (s : State) : KeptMode s (State.warmSet s).1 := by
  unfold State.warmSet; (try dsimp only); (repeat' split) <;> (try simp)

@[simp] theorem State.chainsChanged_mode (t : State) (s : State) : KeptMode t (State.chainsChanged t s) := by
  simp [State.chainsChanged]

@[simp] theorem State.freshFrames_mode (t0 : State) (s : State) : KeptMode t0 (State.freshFrames t0 s) := by
  simp [State.freshFrames]

@[simp] theorem State.warmMap_mode (t : State) (s : State) : KeptMode t (State.warmMap t s) := by
  simp [State.warmMap]

@[simp] theorem State.platsLost_mode (s : State) : KeptMode s (State.platsLost s) := by
  first
  | (simp [State.platsLost]; done)
  | (unfold State.platsLost; (try dsimp only); (repeat' split) <;> (try simp); done)
  | (unfold State.platsLost; (try dsimp only); (repeat' split) <;> (try simp [*]); done)

@[simp] theorem State.warmConfig_mode (s : State) : KeptMode s (State.warmConfig s).1 := by
  unfold State.warmConfig; (try dsimp only); (repeat' split) <;> (try simp)

@[simp] theorem State.activationEnds_mode (s : State) (fw : Status) (cfg : Status) : KeptMode s (State.activationEnds s fw cfg) := by
  simp [State.activationEnds]

@[simp] theorem State.putNak_mode (s : State) (k : Nat) : KeptMode s (State.putNak s k) := by
  first
  | (simp [State.putNak]; done)
  | (unfold State.putNak; (try dsimp only); (repeat' split) <;> (try simp); done)
  | (unfold State.putNak; (try dsimp only); (repeat' split) <;> (try simp [*]); done)

@[simp] theorem State.sendNak_mode (s : State) (k : Nat) : KeptMode s (State.sendNak s k) := by
  simp [State.sendNak]

@[simp] theorem State.putAck_mode (s : State) (k : Nat) : KeptMode s (State.putAck s k) := by
  first
  | (simp [State.putAck]; done)
  | (unfold State.putAck; (try dsimp only); (repeat' split) <;> (try simp); done)
  | (unfold State.putAck; (try dsimp only); (repeat' split) <;> (try simp [*]); done)

@[simp] theorem State.sendAck_mode (s : State) (k : Nat) : KeptMode s (State.sendAck s k) := by
  simp [State.sendAck]

@[simp] theorem State.flushAck_mode (s : State) (k : Nat) : KeptMode s (State.flushAck s k) := by
  first
  | (simp [State.flushAck]; done)
  | (unfold State.flushAck; (try dsimp only); (repeat' split) <;> (try simp); done)
  | (unfold State.flushAck; (try dsimp only); (repeat' split) <;> (try simp [*]); done)

@[simp] theorem State.flushAcks_mode (s : State) : KeptMode s (State.flushAcks s) := by
  first
  | (simp [State.flushAcks]; done)
  | (unfold State.flushAcks; (try dsimp only); (repeat' split) <;> (try simp); done)
  | (unfold State.flushAcks; (try dsimp only); (repeat' split) <;> (try simp [*]); done)

@[simp] theorem State.linkError_mode (s : State) (k : Nat) : KeptMode s (State.linkError s k) := by
  simp [State.linkError]

@[simp] theorem State.overrun_mode (s : State) (k : Nat) : KeptMode s (State.overrun s k) := by
  simp [State.overrun]

@[simp] theorem State.acceptPacket_mode (s : State) (k : Nat) (p : Packet) : KeptMode s (State.acceptPacket s k p) := by
  simp [State.acceptPacket]

@[simp] theorem State.contentError_mode (s : State) (k : Nat) (p : Packet) : KeptMode s (State.contentError s k p) := by
  simp [State.contentError]

@[simp] theorem State.takeGrants_mode (s : State) (k : Nat) (payload : List Byte) : KeptMode s (State.takeGrants s k payload) := by
  simp [State.takeGrants]

@[simp] theorem State.releasePackets_mode (s : State) (k : Nat) (n : Nat) : KeptMode s (State.releasePackets s k n) := by
  simp [State.releasePackets]

@[simp] theorem State.replay_mode (s : State) (k : Nat) : KeptMode s (State.replay s k) := by
  unfold State.replay; (try dsimp only); (repeat' split) <;> (try simp)

@[simp] theorem State.ackInvalid_mode (s : State) (k : Nat) : KeptMode s (State.ackInvalid s k) := by
  simp [State.ackInvalid]

@[simp] theorem State.ackTaken_mode (s : State) (k : Nat) (x : Nat) : KeptMode s (State.ackTaken s k x) := by
  first
  | (simp [State.ackTaken]; done)
  | (unfold State.ackTaken; (try dsimp only); (repeat' split) <;> (try simp); done)
  | (unfold State.ackTaken; (try dsimp only); (repeat' split) <;> (try simp [*]); done)

@[simp] theorem State.nakTaken_mode (s : State) (k : Nat) (x : Nat) : KeptMode s (State.nakTaken s k x) := by
  first
  | (simp [State.nakTaken]; done)
  | (unfold State.nakTaken; (try dsimp only); (repeat' split) <;> (try simp); done)
  | (unfold State.nakTaken; (try dsimp only); (repeat' split) <;> (try simp [*]); done)

theorem execAckReceived_mode (k : Fin 16) (body : BitVec 56) (s : State) (t : State) (h : (execAckReceived k body s) = .next t) : KeptMode s t := by
  unfold execAckReceived at h; (try dsimp only at h); (repeat' split at h) <;> (try simp only [Host.Outcome.next.injEq, reduceCtorEq] at h) <;> (try subst h) <;> (try simp)

theorem execNakReceived_mode (k : Fin 16) (body : BitVec 56) (s : State) (t : State) (h : (execNakReceived k body s) = .next t) : KeptMode s t := by
  unfold execNakReceived at h; (try dsimp only at h); (repeat' split at h) <;> (try simp only [Host.Outcome.next.injEq, reduceCtorEq] at h) <;> (try subst h) <;> (try simp)

theorem execReplayTimeout_mode (k : Fin 16) (s : State) (t : State) (h : (execReplayTimeout k s) = .next t) : KeptMode s t := by
  unfold execReplayTimeout at h; (try dsimp only at h); (repeat' split at h) <;> (try simp only [Host.Outcome.next.injEq, reduceCtorEq] at h) <;> (try subst h) <;> (try simp)

@[simp] theorem State.grantPool_mode (s : State) (k : Nat) (n : Nat) (more : Nat) : KeptMode s (State.grantPool s k n more) := by
  simp [State.grantPool]

@[simp] theorem State.grantPools_mode (s : State) (k : Nat) : KeptMode s (State.grantPools s k) := by
  simp [State.grantPools]

@[simp] theorem State.markMoved_mode (s : State) (k : Nat) : KeptMode s (State.markMoved s k) := by
  first
  | (simp [State.markMoved]; done)
  | (unfold State.markMoved; (try dsimp only); (repeat' split) <;> (try simp); done)
  | (unfold State.markMoved; (try dsimp only); (repeat' split) <;> (try simp [*]); done)

@[simp] theorem State.markAllMoved_mode (s : State) : KeptMode s (State.markAllMoved s) := by
  first
  | (simp [State.markAllMoved]; done)
  | (unfold State.markAllMoved; (try dsimp only); (repeat' split) <;> (try simp); done)
  | (unfold State.markAllMoved; (try dsimp only); (repeat' split) <;> (try simp [*]); done)

@[simp] theorem State.sendGrants_mode (s : State) (k : Nat) : KeptMode s (State.sendGrants s k) := by
  simp [State.sendGrants]

theorem execCreditGrantSend_mode (k : Fin 16) (s : State) (t : State) (h : (execCreditGrantSend k s) = .next t) : KeptMode s t := by
  unfold execCreditGrantSend at h; (try dsimp only at h); (repeat' split at h) <;> (try simp only [Host.Outcome.next.injEq, reduceCtorEq] at h) <;> (try subst h) <;> (try simp)

theorem execAlertSend_mode (k : Fin 16) (s : State) (t : State) (h : (execAlertSend k s) = .next t) : KeptMode s t := by
  unfold execAlertSend at h; (try dsimp only at h); (repeat' split at h) <;> (try simp only [Host.Outcome.next.injEq, reduceCtorEq] at h) <;> (try subst h) <;> (try simp)

@[simp] theorem State.latch_mode (s : State) (r : Req) (e : Nat) (v : Nat) : KeptMode s (State.latch s r e v) := by
  unfold State.latch; (try dsimp only); (repeat' split) <;> (try simp)

@[simp] theorem State.busRead_mode (s : State) (r : Req) (a : Nat) : KeptMode s (State.busRead s r a).1 := by
  unfold State.busRead; (try dsimp only); (repeat' split) <;> (try simp)

@[simp] theorem State.readOne_mode (s : State) (r : Req) (a : Nat) (size : Nat) (late : Bool) : KeptMode s (State.readOne s r a size late).1 := by
  first
  | (simp [State.readOne]; done)
  | (unfold State.readOne; (try dsimp only); (repeat' split) <;> (try simp); done)
  | (unfold State.readOne; (try dsimp only); (repeat' split) <;> (try simp [*]); done)

@[simp] theorem State.regRead_mode (s : State) (r : Req) (a : Nat) (size : Nat) (late : Bool) : KeptMode s (State.regRead s r a size late).1 := by
  unfold State.regRead; (try dsimp only); (repeat' split) <;> (try simp)

@[simp] theorem State.storeWord_mode (s : State) (row : RegRow) (a : Nat) (v : Word) : KeptMode s (State.storeWord s row a v) := by
  simp [State.storeWord]

@[simp] theorem State.storeShadow_mode (s : State) (row : RegRow) (a : Nat) (v : Word) : KeptMode s (State.storeShadow s row a v) := by
  simp [State.storeShadow]

@[simp] theorem State.writePlain_mode (s : State) (r : Req) (row : RegRow) (a : Nat) (size : Nat) (v : Nat) : KeptMode s (State.writePlain s r row a size v) := by
  simp [State.writePlain]

@[simp] theorem State.unlisted_mode (s : State) (r : Req) (a : Nat) (before : List (Bool × Status)) : KeptMode s (State.unlisted s r a before) := by
  simp [State.unlisted]

@[simp] theorem State.writeVxu_mode (s : State) (r : Req) (sel : VxuSel) (code : Nat) : KeptMode s (State.writeVxu s r sel code) := by
  unfold State.writeVxu; (try dsimp only); (repeat' split) <;> (try simp)

@[simp] theorem State.requestCheck_mode (s : State) (k : Nat) (p : Packet) : KeptMode s (State.requestCheck s k p).1 := by
  unfold State.requestCheck; (try dsimp only); (repeat' split) <;> (try simp)

@[simp] theorem State.chainTraffic_mode (s : State) (k cls label : Nat) (p : Partition) (o n : Nat) :
    KeptMode s (State.chainTraffic s k cls label p o n).1 := by
  unfold State.chainTraffic
  dsimp only
  by_cases h : cls = 0 ∨ bitOf (s.classChains cls) k = true <;> simp [h]

@[simp] theorem State.serveRead_mode (s : State) (k : Nat) (p : Packet) (sess : Option (Nat × Session)) (pi : Nat) (part : Partition) : KeptMode s (State.serveRead s k p sess pi part) := by
  simp [State.serveRead]

@[simp] theorem State.serveBrd_mode (s : State) (k : Fin 16) (p : Packet) : KeptMode s (State.serveBrd s k p) := by
  unfold State.serveBrd; (try dsimp only); (repeat' split) <;> (try simp)

@[simp] theorem State.brdRequest_mode (s : State) (k : Fin 16) (p : Packet) : KeptMode s (State.brdRequest s k p) := by
  simp [State.brdRequest]

@[simp] theorem State.serveWrite_mode (s : State) (k : Nat) (p : Packet) (pi : Nat) (part : Partition) : KeptMode s (State.serveWrite s k p pi part).1 := by
  unfold State.serveWrite; (try dsimp only); (repeat' split) <;> (try simp)

@[simp] theorem State.serveBwr_mode (s : State) (k : Fin 16) (p : Packet) : KeptMode s (State.serveBwr s k p) := by
  unfold State.serveBwr; (try dsimp only); (repeat' split) <;> (try simp)

@[simp] theorem State.bwrRequest_mode (s : State) (k : Fin 16) (p : Packet) : KeptMode s (State.bwrRequest s k p) := by
  simp [State.bwrRequest]

@[simp] theorem State.sessionOp_mode (s : State) (r : Req) (op : Nat) (ext : List Byte) : KeptMode s (State.sessionOp s r op ext) := by
  unfold State.sessionOp; (try dsimp only); (repeat' split) <;> (try simp)

@[simp] theorem State.sessionChecked_mode (s : State) (r : Req) (op : Nat) (slot : List Byte) (ext : List Byte) (late : Bool) : KeptMode s (State.sessionChecked s r op slot ext late) := by
  simp [State.sessionChecked]

@[simp] theorem State.runSessionOp_mode (s : State) (r : Req) (slot : List Byte) (ext : List Byte) (late : Bool) : KeptMode s (State.runSessionOp s r slot ext late).st := by
  simp [State.runSessionOp]

@[simp] theorem State.queueCodeword_mode (s : State) (k : Nat) (l : Nat) (slots : List (Option RxBlock)) : KeptMode s (State.queueCodeword s k l slots) := by
  first
  | (simp [State.queueCodeword]; done)
  | (unfold State.queueCodeword; (try dsimp only); (repeat' split) <;> (try simp); done)
  | (unfold State.queueCodeword; (try dsimp only); (repeat' split) <;> (try simp [*]); done)

@[simp] theorem State.popCodewords_mode (s : State) (ls : List Nat) : KeptMode s (State.popCodewords s ls) := by
  first
  | (simp [State.popCodewords]; done)
  | (unfold State.popCodewords; (try dsimp only); (repeat' split) <;> (try simp); done)
  | (unfold State.popCodewords; (try dsimp only); (repeat' split) <;> (try simp [*]); done)

@[simp] theorem State.i3cReturn_mode (s : State) (l : List Byte) : KeptMode s (State.i3cReturn s l) := by
  simp [State.i3cReturn]

@[simp] theorem State.i3cNack_mode (s : State) : KeptMode s (State.i3cNack s) := by
  simp [State.i3cNack]

@[simp] theorem State.i3cArrive_mode (s : State) : KeptMode s (State.i3cArrive s) := by
  simp [State.i3cArrive]

@[simp] theorem State.badFrame_mode (s : State) : KeptMode s (State.badFrame s) := by
  simp [State.badFrame]

@[simp] theorem State.i3cAnswer_mode (s : State) (l : List Byte) (sid : optParam Nat 0) : KeptMode s (State.i3cAnswer s l sid) := by
  simp [State.i3cAnswer]

@[simp] theorem State.i3cRead_mode (s : State) (l : List Byte) (late : Bool) : KeptMode s (State.i3cRead s l late) := by
  simp [State.i3cRead]

@[simp] theorem State.i3cRespond_mode (s : State) (sess : Option (Nat × Session)) (l : List Byte) : KeptMode s (State.i3cRespond s sess l) := by
  first
  | (simp [State.i3cRespond]; done)
  | (unfold State.i3cRespond; (try dsimp only); (repeat' split) <;> (try simp); done)
  | (unfold State.i3cRespond; (try dsimp only); (repeat' split) <;> (try simp [*]); done)

theorem execI3cPrivateRead_mode (s : State) (t : State) (h : (execI3cPrivateRead s) = .next t) : KeptMode s t := by
  unfold execI3cPrivateRead at h; (try dsimp only at h); (repeat' split at h) <;> (try simp only [Host.Outcome.next.injEq, reduceCtorEq] at h) <;> (try subst h) <;> (try simp)

@[simp] theorem State.takeAddress_mode (s : State) (a : Nat) : KeptMode s (State.takeAddress s a) := by
  simp [State.takeAddress]

theorem execEntdaa_mode (addr : BitVec 7) (s : State) (t : State) (h : (execEntdaa addr s) = .next t) : KeptMode s t := by
  unfold execEntdaa at h; (try dsimp only at h); (repeat' split at h) <;> (try simp only [Host.Outcome.next.injEq, reduceCtorEq] at h) <;> (try subst h) <;> (try simp)

theorem execSetdasa_mode (static : BitVec 7) (addr : BitVec 7) (s : State) (t : State) (h : (execSetdasa static addr s) = .next t) : KeptMode s t := by
  unfold execSetdasa at h; (try dsimp only at h); (repeat' split at h) <;> (try simp only [Host.Outcome.next.injEq, reduceCtorEq] at h) <;> (try subst h) <;> (try simp)

theorem execSetnewda_mode (addr : BitVec 7) (s : State) (t : State) (h : (execSetnewda addr s) = .next t) : KeptMode s t := by
  unfold execSetnewda at h; (try dsimp only at h); (repeat' split at h) <;> (try simp only [Host.Outcome.next.injEq, reduceCtorEq] at h) <;> (try subst h) <;> (try simp)

theorem execRstdaa_mode (s : State) (t : State) (h : (execRstdaa s) = .next t) : KeptMode s t := by
  simp only [execRstdaa, Host.Outcome.next.injEq] at h; subst h; simp

theorem execEnec_mode (s : State) (t : State) (h : (execEnec s) = .next t) : KeptMode s t := by
  simp only [execEnec, Host.Outcome.next.injEq] at h; subst h; simp

theorem execDisec_mode (s : State) (t : State) (h : (execDisec s) = .next t) : KeptMode s t := by
  simp only [execDisec, Host.Outcome.next.injEq] at h; subst h; simp

@[simp] theorem State.i3cGet_mode (s : State) (l : List Byte) : KeptMode s (State.i3cGet s l) := by
  simp [State.i3cGet]

theorem execGetpid_mode (s : State) (t : State) (h : (execGetpid s) = .next t) : KeptMode s t := by
  simp only [execGetpid, Host.Outcome.next.injEq] at h; subst h; simp

theorem execGetbcr_mode (s : State) (t : State) (h : (execGetbcr s) = .next t) : KeptMode s t := by
  simp only [execGetbcr, Host.Outcome.next.injEq] at h; subst h; simp

theorem execGetdcr_mode (s : State) (t : State) (h : (execGetdcr s) = .next t) : KeptMode s t := by
  simp only [execGetdcr, Host.Outcome.next.injEq] at h; subst h; simp

theorem execGetstatus_mode (s : State) (t : State) (h : (execGetstatus s) = .next t) : KeptMode s t := by
  simp only [execGetstatus, Host.Outcome.next.injEq] at h; subst h; simp

theorem execGetmwl_mode (s : State) (t : State) (h : (execGetmwl s) = .next t) : KeptMode s t := by
  simp only [execGetmwl, Host.Outcome.next.injEq] at h; subst h; simp

theorem execGetmrl_mode (s : State) (t : State) (h : (execGetmrl s) = .next t) : KeptMode s t := by
  simp only [execGetmrl, Host.Outcome.next.injEq] at h; subst h; simp

theorem execI3cUnsupportedCcc_mode (reply : Bool) (s : State) (t : State) (h : (execI3cUnsupportedCcc reply s) = .next t) : KeptMode s t := by
  unfold execI3cUnsupportedCcc at h; (try dsimp only at h); (repeat' split at h) <;> (try simp only [Host.Outcome.next.injEq, reduceCtorEq] at h) <;> (try subst h) <;> (try simp)

@[simp] theorem State.enrolAnswer_mode (s : State) (j : EnrolJob) (st : Status) : KeptMode s (State.enrolAnswer s j st) := by
  first
  | (simp [State.enrolAnswer]; done)
  | (unfold State.enrolAnswer; (try dsimp only); (repeat' split) <;> (try simp); done)
  | (unfold State.enrolAnswer; (try dsimp only); (repeat' split) <;> (try simp [*]); done)

@[simp] theorem State.enrolOver_mode (s : State) (j : EnrolJob) (st : Status) : KeptMode s (State.enrolOver s j st) := by
  first
  | (simp [State.enrolOver]; done)
  | (unfold State.enrolOver; (try dsimp only); (repeat' split) <;> (try simp); done)
  | (unfold State.enrolOver; (try dsimp only); (repeat' split) <;> (try simp [*]); done)

@[simp] theorem State.fuseDone_mode (s : State) (k : FuseKind) (st : Status) : KeptMode s (State.fuseDone s k st) := by
  first
  | (simp [State.fuseDone]; done)
  | (unfold State.fuseDone; (try dsimp only); (repeat' split) <;> (try simp); done)
  | (unfold State.fuseDone; (try dsimp only); (repeat' split) <;> (try simp [*]); done)

theorem execFuseOperationEnd_mode (res : FuseResult) (s : State) (t : State) (h : execFuseOperationEnd res s = .next t) : KeptMode s t := by
  unfold execFuseOperationEnd at h
  split at h <;> (simp only [Host.Outcome.next.injEq] at h; subst h; simp [FuseRun.steps_mode])

@[simp] theorem State.tapReset_mode (s : State) : KeptMode s (State.tapReset s) := by
  simp [State.tapReset]

@[simp] theorem State.setShift_mode (s : State) (l : List Bool) : KeptMode s (State.setShift s l) := by
  simp [State.setShift]

@[simp] theorem State.tapShift_mode (s : State) (tdi : Bool) : KeptMode s (State.tapShift s tdi) := by
  unfold State.tapShift; (try dsimp only); (repeat' split) <;> (try simp)

@[simp] theorem State.tapAct_mode (s : State) (tdi : Bool) : KeptMode s (State.tapAct s tdi) := by
  unfold State.tapAct; (try dsimp only); (repeat' split) <;> (try simp)

@[simp] theorem State.tapEnter_mode (s : State) (t : TapState) : KeptMode s (State.tapEnter s t) := by
  unfold State.tapEnter; (try dsimp only); (repeat' split) <;> (try simp)

@[simp] theorem State.tapStep_mode (s : State) (e : Bool × Bool) : KeptMode s (State.tapStep s e) := by
  simp [State.tapStep]

theorem execTestAccessPortOperation_mode (trstN : Bool) (steps : List (Bool × Bool)) (s : State) (t : State) (h : (execTestAccessPortOperation trstN steps s) = .next t) : KeptMode s t := by
  unfold execTestAccessPortOperation at h; (try dsimp only at h); (repeat' split at h) <;> (try simp only [Host.Outcome.next.injEq, reduceCtorEq] at h) <;> (try subst h) <;> (try simp)

@[simp] theorem State.tickCounters_mode (s : State) : KeptMode s (State.tickCounters s) := by
  simp [State.tickCounters]

@[simp] theorem State.tickWork_mode (s : State) : KeptMode s (State.tickWork s) := by
  first
  | (simp [State.tickWork]; done)
  | (unfold State.tickWork; (try dsimp only); (repeat' split) <;> (try simp); done)
  | (unfold State.tickWork; (try dsimp only); (repeat' split) <;> (try simp [*]); done)

@[simp] theorem State.tick_mode (s : State) : KeptMode s (State.tick s) := by
  simp [State.tick]

@[simp] theorem State.withFetchWord_mode (s : State) (nbits : Nat) (w : Nat) : KeptMode s (State.withFetchWord s nbits w) := by
  unfold State.withFetchWord; (try dsimp only); (repeat' split) <;> (try simp)

end Sys2Proof.Machine
end

