-- ==== Sys2Proof/Laws/Tab.lean ====
section
/-! SUPPORT. Sys2Proof/Laws/Tab.lean: the sparse tables: what is read after a write, and the canonical form. -/
namespace Sys2Proof

variable {α : Type}

@[simp] theorem Tab.look_nil (k : Nat) : Tab.look ([] : Tab α) k = none := rfl

@[simp] theorem Tab.look_put_same (t : Tab α) (k : Nat) (v : α) : Tab.look (Tab.put t k v) k = some v := by
  induction t with
  | nil => simp [Tab.put, Tab.look]
  | cons p r ih =>
    simp only [Tab.put]
    split
    · simp [Tab.look]
    · split
      · simp [Tab.look]
      · simp [Tab.look, *]

theorem Tab.look_put_ne (t : Tab α) (k j : Nat) (v : α) (h : j ≠ k) : Tab.look (Tab.put t k v) j = Tab.look t j := by
  induction t with
  | nil => simp [Tab.put, Tab.look, Ne.symm h]
  | cons p r ih =>
    simp only [Tab.put]
    split
    · simp [Tab.look, Ne.symm h]
    · split
      · rename_i h1 h2
        subst h2
        simp [Tab.look, Ne.symm h]
      · simp [Tab.look, ih]

/-- A table read after a write. -/
theorem Tab.look_put (t : Tab α) (k j : Nat) (v : α) :
    Tab.look (Tab.put t k v) j = if j = k then some v else Tab.look t j := by
  split
  · rename_i h; subst h; simp
  · rename_i h; exact Tab.look_put_ne t k j v h

/-- The second of two writes under one key stands alone. -/
@[simp] theorem Tab.put_put (t : Tab α) (k : Nat) (a b : α) : Tab.put (Tab.put t k a) k b = Tab.put t k b := by
  induction t with
  | nil => simp [Tab.put]
  | cons p r ih =>
    by_cases h : k < p.1
    · simp [Tab.put, h]
    · by_cases e : p.1 = k
      · simp [Tab.put, h, e]
      · simp [Tab.put, h, e, ih]

@[simp] theorem Tab.look_del_same (t : Tab α) (k : Nat) : Tab.look (Tab.del t k) k = none := by
  induction t with
  | nil => rfl
  | cons p r ih =>
    simp only [Tab.del]
    split
    · exact ih
    · simp [Tab.look, *]

theorem Tab.look_del_ne (t : Tab α) (k j : Nat) (h : j ≠ k) : Tab.look (Tab.del t k) j = Tab.look t j := by
  induction t with
  | nil => rfl
  | cons p r ih =>
    simp only [Tab.del]
    split
    · rename_i h1
      subst h1
      simp [Tab.look, Ne.symm h, ih]
    · simp [Tab.look, ih]

/-- A table read after a removal. -/
theorem Tab.look_del (t : Tab α) (k j : Nat) :
    Tab.look (Tab.del t k) j = if j = k then none else Tab.look t j := by
  split
  · rename_i h; subst h; simp
  · rename_i h; exact Tab.look_del_ne t k j h

@[simp] theorem Tab.lookD_put_same (t : Tab α) (k : Nat) (v d : α) : Tab.lookD (Tab.put t k v) k d = v := by
  simp [Tab.lookD]

theorem Tab.lookD_put_ne (t : Tab α) (k j : Nat) (v d : α) (h : j ≠ k) :
    Tab.lookD (Tab.put t k v) j d = Tab.lookD t j d := by
  simp [Tab.lookD, Tab.look_put_ne t k j v h]

/-- The canonical form, as a property of every key behind the first. -/
theorem Tab.sorted_cons (p : Nat × α) (t : Tab α) :
    Tab.sorted (p :: t) = true ↔ (∀ q ∈ t, p.1 < q.1) ∧ Tab.sorted t = true := by
  induction t generalizing p with
  | nil => simp [Tab.sorted]
  | cons q r ih =>
    simp only [Tab.sorted, Bool.and_eq_true, decide_eq_true_eq, List.mem_cons, forall_eq_or_imp]
    constructor
    · rintro ⟨h1, h2⟩
      exact ⟨⟨h1, fun x hx => Nat.lt_trans h1 (((ih q).1 h2).1 x hx)⟩, h2⟩
    · rintro ⟨⟨h1, _⟩, h2⟩
      exact ⟨h1, h2⟩

theorem Tab.mem_put (t : Tab α) (k : Nat) (v : α) (q : Nat × α) (h : q ∈ Tab.put t k v) : q = (k, v) ∨ q ∈ t := by
  induction t with
  | nil => simpa [Tab.put] using h
  | cons p r ih =>
    simp only [Tab.put] at h
    split at h
    · simpa using h
    · split at h
      · rcases List.mem_cons.1 h with h | h
        · exact .inl h
        · exact .inr (List.mem_cons_of_mem _ h)
      · rcases List.mem_cons.1 h with h | h
        · exact .inr (h ▸ List.mem_cons_self)
        · rcases ih h with h | h
          · exact .inl h
          · exact .inr (List.mem_cons_of_mem _ h)

/-- A write keeps the canonical form. -/
theorem Tab.sorted_put (t : Tab α) (k : Nat) (v : α) (h : Tab.sorted t = true) : Tab.sorted (Tab.put t k v) = true := by
  induction t with
  | nil => rfl
  | cons p r ih =>
    have hp := (Tab.sorted_cons p r).1 h
    simp only [Tab.put]
    split
    · rename_i h1
      refine (Tab.sorted_cons _ _).2 ⟨?_, h⟩
      intro q hq
      rcases List.mem_cons.1 hq with hq | hq
      · exact hq ▸ h1
      · exact Nat.lt_trans h1 (hp.1 q hq)
    · split
      · rename_i h1 h2
        exact (Tab.sorted_cons _ _).2 ⟨fun q hq => h2 ▸ hp.1 q hq, hp.2⟩
      · rename_i h1 h2
        refine (Tab.sorted_cons _ _).2 ⟨fun q hq => ?_, ih hp.2⟩
        rcases Tab.mem_put r k v q hq with hq | hq
        · subst hq
          simp only
          omega
        · exact hp.1 q hq

/-- Dropping entries keeps the canonical form. -/
theorem Tab.sorted_filter (t : Tab α) (f : Nat × α → Bool) (h : Tab.sorted t = true) :
    Tab.sorted (List.filter f t) = true := by
  induction t with
  | nil => rfl
  | cons p r ih =>
    have hp := (Tab.sorted_cons p r).1 h
    simp only [List.filter]
    split
    · exact (Tab.sorted_cons _ _).2 ⟨fun q hq => hp.1 q (List.mem_of_mem_filter hq), ih hp.2⟩
    · exact ih hp.2

theorem Tab.mem_del (t : Tab α) (k : Nat) (q : Nat × α) (h : q ∈ Tab.del t k) : q ∈ t := by
  induction t with
  | nil => simp [Tab.del] at h
  | cons p r ih =>
    simp only [Tab.del] at h
    split at h
    · exact List.mem_cons_of_mem _ (ih h)
    · rcases List.mem_cons.1 h with h | h
      · exact h ▸ List.mem_cons_self
      · exact List.mem_cons_of_mem _ (ih h)

/-- A removal keeps the canonical form. -/
theorem Tab.sorted_del (t : Tab α) (k : Nat) (h : Tab.sorted t = true) : Tab.sorted (Tab.del t k) = true := by
  induction t with
  | nil => rfl
  | cons p r ih =>
    have hp := (Tab.sorted_cons p r).1 h
    simp only [Tab.del]
    split
    · exact ih hp.2
    · exact (Tab.sorted_cons _ _).2 ⟨fun q hq => hp.1 q (Tab.mem_del r k q hq), ih hp.2⟩

/-- A write of the entry that stands there changes nothing. -/
theorem Tab.put_look (t : Tab α) (k : Nat) (v : α) (hs : Tab.sorted t = true) (h : Tab.look t k = some v) :
    Tab.put t k v = t := by
  induction t with
  | nil => simp at h
  | cons p r ih =>
    have hp := (Tab.sorted_cons p r).1 hs
    simp only [Tab.look] at h
    split at h
    · rename_i h1
      simp only [Option.some.injEq] at h
      subst h1
      simp [Tab.put, ← h]
    · rename_i h1
      have hlt : p.1 < k := by
        by_contra hc
        have : ∀ (r : Tab α), (∀ q ∈ r, p.1 < q.1) → Tab.look r k = none := by
          intro r hr
          induction r with
          | nil => rfl
          | cons q r ihr =>
            have hq := hr q List.mem_cons_self
            simp only [Tab.look]
            rw [if_neg (by omega)]
            exact ihr (fun x hx => hr x (List.mem_cons_of_mem _ hx))
        rw [this r hp.1] at h
        cases h
      simp only [Tab.put]
      rw [if_neg (by omega), if_neg h1, ih hp.2 h]

end Sys2Proof
end

