-- ==== Sys2Proof/Laws/MemoryWf.lean ====
section
/-! SUPPORT. Sys2Proof/Laws/MemoryWf.lean: the operations that write or lose memory keep its canonical form. -/
namespace Sys2Proof.Machine

@[simp] theorem putBytes_sorted (m : List Host.Cell) (k : Nat) (l : List Byte) (h : Tab.sorted m = true) :
    Tab.sorted (putBytes m k l) = true := by
  induction l generalizing m k with
  | nil => exact h
  | cons b r ih => exact ih _ _ (Tab.sorted_put _ _ _ h)

/-- A fold of steps that keep the canonical form keeps it. -/
theorem foldl_wf {α : Type} (f : State → α → State) (l : List α) (s : State) (h : ∀ t x, t.memoryWf → (f t x).memoryWf)
    (w : s.memoryWf) : (l.foldl f s).memoryWf := by
  induction l generalizing s with
  | nil => exact w
  | cons x r ih => exact ih _ (h _ _ w)

@[simp] theorem ite_wf (p : Prop) [Decidable p] (s t : State) (hs : s.memoryWf) (ht : t.memoryWf) : (if p then s else t).memoryWf := by
  split
  · exact hs
  · exact ht

theorem State.hostWrite_wf (s : State) (r : Req) (a : Nat) (st : Status) (f : State → State) (hf : ∀ t, t.memoryWf → (f t).memoryWf)
    (w : s.memoryWf) : (s.hostWrite r a st f).memoryWf := by
  unfold State.hostWrite
  have h := hf s w
  repeat' split
  all_goals simp_all

@[simp] theorem State.store_wf (s : State) (k : Nat) (d : BitVec 512) (e : SymErr) (ws : s.memoryWf) : State.memoryWf (State.store s k d e) := by
  unfold State.store; (try dsimp only); (repeat' split) <;> (try simp [ws, Tab.sorted_filter, Tab.sorted_del, Tab.sorted_put])

@[simp] theorem State.storeCmd_wf (s : State) (c : Nat) (a : Nat) (d : BitVec 512) (e : SymErr) (ws : s.memoryWf) : State.memoryWf (State.storeCmd s c a d e) := by
  first
  | (simp [State.storeCmd, ws, Tab.sorted_filter, Tab.sorted_del, Tab.sorted_put]; done)
  | (unfold State.storeCmd; (try dsimp only); (repeat' split) <;> (try simp [ws, Tab.sorted_filter, Tab.sorted_del, Tab.sorted_put]); done)
  | (unfold State.storeCmd; (try dsimp only); (repeat' split) <;> (try simp [*, Tab.sorted_filter, Tab.sorted_del, Tab.sorted_put]); done)

@[simp] theorem State.poisonWrite_wf (s : State) (c : Nat) (a : Nat) (ws : s.memoryWf) : State.memoryWf (State.poisonWrite s c a) := by
  simp [State.poisonWrite, ws, Tab.sorted_filter, Tab.sorted_del, Tab.sorted_put]

@[simp] theorem State.issueWrite_wf (s : State) (c : Nat) (a : Nat) (d : BitVec 512) (part : Option (Nat × Nat)) (ws : s.memoryWf) : State.memoryWf (State.issueWrite s c a d part) := by
  unfold State.issueWrite; (try dsimp only); (repeat' split) <;> (try simp [ws, Tab.sorted_filter, Tab.sorted_del, Tab.sorted_put])

@[simp] theorem State.arrayRead_wf (s : State) (c : Nat) (a : Nat) (errs : ReadErrs) (src0 : Nat) (part : Option (Nat × Nat)) (ws : s.memoryWf) : State.memoryWf (State.arrayRead s c a errs src0 part).st := by
  unfold State.arrayRead; (try dsimp only); (repeat' split) <;> (try simp [ws, Tab.sorted_filter, Tab.sorted_del, Tab.sorted_put])

@[simp] theorem State.rmw_wf (s : State) (c : Nat) (e : MergeEntry) (errs : ReadErrs) (part0 : Option (Nat × Nat)) (ws : s.memoryWf) : State.memoryWf (State.rmw s c e errs part0).st := by
  unfold State.rmw; (try dsimp only); (repeat' split) <;> (try simp [ws, Tab.sorted_filter, Tab.sorted_del, Tab.sorted_put])

@[simp] theorem State.drainMerge_wf (s : State) (c : Nat) (y2 : Nat) (ws : s.memoryWf) : State.memoryWf (State.drainMerge s c y2) := by
  induction y2 generalizing s c <;> unfold State.drainMerge <;> (try dsimp only) <;> (repeat' split) <;> (try simp [*])

@[simp] theorem State.flushMerge_wf (s : State) (c : Nat) (y2 : Nat) (ws : s.memoryWf) : State.memoryWf (State.flushMerge s c y2) := by
  induction y2 generalizing s c <;> unfold State.flushMerge <;> (try dsimp only) <;> (repeat' split) <;> (try simp [*])

@[simp] theorem State.applyWrite_wf (s : State) (c : Nat) (a : Nat) (d : BitVec 512) (w : BitVec 64) (cls : Nat) (paid : Nat) (part0 : Option (Nat × Nat)) (ws : s.memoryWf) : State.memoryWf (State.applyWrite s c a d w cls paid part0) := by
  unfold State.applyWrite; (try dsimp only); (repeat' split) <;> (try simp [ws, Tab.sorted_filter, Tab.sorted_del, Tab.sorted_put])

@[simp] theorem State.readCw_wf (s : State) (c : Nat) (a : Nat) (n : Nat) (errs : ReadErrs) (part : Option (Nat × Nat)) (ws : s.memoryWf) : State.memoryWf (State.readCw s c a n errs part).st := by
  unfold State.readCw; (try dsimp only); (repeat' split) <;> (try simp [ws, Tab.sorted_filter, Tab.sorted_del, Tab.sorted_put])

@[simp] theorem State.writeOrWait_wf (s : State) (c : Nat) (a : Nat) (d : BitVec 512) (w : BitVec 64) (cls : Nat) (conf : Bool) (since : Nat) (part : Option (Nat × Nat)) (ws : s.memoryWf) : State.memoryWf (State.writeOrWait s c a d w cls conf since part) := by
  first
  | (simp [State.writeOrWait, ws, Tab.sorted_filter, Tab.sorted_del, Tab.sorted_put]; done)
  | (unfold State.writeOrWait; (try dsimp only); (repeat' split) <;> (try simp [ws, Tab.sorted_filter, Tab.sorted_del, Tab.sorted_put]); done)
  | (unfold State.writeOrWait; (try dsimp only); (repeat' split) <;> (try simp [*, Tab.sorted_filter, Tab.sorted_del, Tab.sorted_put]); done)

@[simp] theorem State.readRun_wf (s : State) (pi : Nat) (p : Partition) (o : Nat) (y4 : Nat) (ws : s.memoryWf) : State.memoryWf (State.readRun s pi p o y4).st := by
  induction y4 generalizing s pi p o <;> unfold State.readRun <;> (try dsimp only) <;> (repeat' split) <;> (try simp [*])

@[simp] theorem State.readBytes_wf (s : State) (pi : Nat) (p : Partition) (o : Nat) (n : Nat) (ws : s.memoryWf) : State.memoryWf (State.readBytes s pi p o n).st := by
  simp [State.readBytes, ws, Tab.sorted_filter, Tab.sorted_del, Tab.sorted_put]

@[simp] theorem State.writeRun_wf (s : State) (pi : Nat) (p : Partition) (o : Nat) (l : List Byte) (cls : Nat) (conf : Bool) (y7 : Nat) (ws : s.memoryWf) : State.memoryWf (State.writeRun s pi p o l cls conf y7) := by
  induction y7 generalizing s pi p o l cls conf <;> unfold State.writeRun <;> (try dsimp only) <;> (repeat' split) <;> (try simp [*])

@[simp] theorem State.writeBytes_wf (s : State) (pi : Nat) (p : Partition) (o : Nat) (l : List Byte) (cls : Nat) (conf : optParam Bool true) (ws : s.memoryWf) : State.memoryWf (State.writeBytes s pi p o l cls conf) := by
  simp [State.writeBytes, ws, Tab.sorted_filter, Tab.sorted_del, Tab.sorted_put]

@[simp] theorem State.copyCw_wf (s : State) (c : Nat) (a : Nat) (ws : s.memoryWf) : State.memoryWf (State.copyCw s c a) := by
  unfold State.copyCw; (try dsimp only); (repeat' split) <;> (try simp [ws, Tab.sorted_filter, Tab.sorted_del, Tab.sorted_put])

@[simp] theorem State.repairRow_wf (s : State) (c : Nat) (p : Nat) (ws : s.memoryWf) : State.memoryWf (State.repairRow s c p) := by
  have h : ∀ (x : Chan) (l : List Nat), (l.foldl (fun (t : State) j => t.copyCw c (rowAddr p + 64 * j)) (s.setChan c x)).memoryWf :=
    fun x l => foldl_wf _ _ _ (fun t x w => State.copyCw_wf t _ _ w) (by simp [ws])
  simp only [State.memoryWf, Memory.wf] at h
  unfold State.repairRow
  dsimp only
  generalize hx : (match Tab.look (s.chan c).rowRepair (65536 * bankOf (rowAddr p) + rowOf (rowAddr p)) with
    | some i => ({ s.chan c with
        badSpares := (s.chan c).badSpares ++ [32 * bankOf (rowAddr p) + i],
        rowRepair := Tab.del (s.chan c).rowRepair (65536 * bankOf (rowAddr p) + rowOf (rowAddr p)) } : Chan)
    | none => s.chan c) = x
  split
  · simp [ws]
  · simp [h]

@[simp] theorem State.rowFailed_wf (s : State) (c : Nat) (p : Nat) (column : Option Nat) (ws : s.memoryWf) : State.memoryWf (State.rowFailed s c p column) := by
  unfold State.rowFailed; (try dsimp only); (repeat' split) <;> (try simp [ws, Tab.sorted_filter, Tab.sorted_del, Tab.sorted_put])

@[simp] theorem State.writeBlockCws_wf (s : State) (p : Nat) (part : Partition) (x : CapLog) (i : Nat) (y5 : Nat) (ws : s.memoryWf) : State.memoryWf (State.writeBlockCws s p part x i y5) := by
  induction y5 generalizing s p part x i <;> unfold State.writeBlockCws <;> (try dsimp only) <;> (repeat' split) <;> (try simp [*])

@[simp] theorem State.writeBlock_wf (s : State) (p : Nat) (ring : Bool) (ws : s.memoryWf) : State.memoryWf (State.writeBlock s p ring) := by
  unfold State.writeBlock; (try dsimp only); (repeat' split) <;> (try simp [ws, Tab.sorted_filter, Tab.sorted_del, Tab.sorted_put])

@[simp] theorem State.capture_wf (s : State) (src : Nat) (f : FailRec) (ws : s.memoryWf) : State.memoryWf (State.capture s src f) := by
  unfold State.capture; (try dsimp only); (repeat' split) <;> (try simp [ws, Tab.sorted_filter, Tab.sorted_del, Tab.sorted_put])

@[simp] theorem State.loseMem_wf (s : State) (chans : List Nat) (ws : s.memoryWf) : State.memoryWf (State.loseMem s chans) := by
  simp [State.loseMem, ws, Tab.sorted_filter, Tab.sorted_del, Tab.sorted_put]

theorem State.enrolBegun_wf (after before : State) (via : EnrolVia) (v : State) (h : after.enrolBegun before via = some v)
    (w : after.memoryWf) : v.memoryWf := by
  unfold State.enrolBegun at h
  split at h
  · simp only [Option.some.injEq] at h
    subst h
    exact w
  · simp at h

@[simp] theorem State.gather_wf (s : State) (j : BrdJob) (p : Partition) (id : Nat) (cls : Nat) (i : Nat) (o : Nat) (y7 : Nat) (ws : s.memoryWf) : State.memoryWf (State.gather s j p id cls i o y7).1 := by
  induction y7 generalizing s j p id cls i o <;> unfold State.gather <;> (try dsimp only) <;> (repeat' split) <;> (try simp [*])

@[simp] theorem State.startBrd_wf (s : State) (j : BrdJob) (p : Partition) (cls : Nat) (ws : s.memoryWf) : State.memoryWf (State.startBrd s j p cls) := by
  first
  | (simp [State.startBrd, ws, Tab.sorted_filter, Tab.sorted_del, Tab.sorted_put]; done)
  | (unfold State.startBrd; (try dsimp only); (repeat' split) <;> (try simp [ws, Tab.sorted_filter, Tab.sorted_del, Tab.sorted_put]); done)
  | (unfold State.startBrd; (try dsimp only); (repeat' split) <;> (try simp [*, Tab.sorted_filter, Tab.sorted_del, Tab.sorted_put]); done)

@[simp] theorem State.readFor_wf (s : State) (c : Nat) (a : Nat) (n : Nat) (errs : ReadErrs) (reader : Reader) (ws : s.memoryWf) : State.memoryWf (State.readFor s c a n errs reader) := by
  first
  | (simp [State.readFor, ws, Tab.sorted_filter, Tab.sorted_del, Tab.sorted_put]; done)
  | (unfold State.readFor; (try dsimp only); (repeat' split) <;> (try simp [ws, Tab.sorted_filter, Tab.sorted_del, Tab.sorted_put]); done)
  | (unfold State.readFor; (try dsimp only); (repeat' split) <;> (try simp [*, Tab.sorted_filter, Tab.sorted_del, Tab.sorted_put]); done)

@[simp] theorem State.serveReq_wf (s0 : State) (c : Nat) (r : DmcReq) (ws0 : s0.memoryWf) : State.memoryWf (State.serveReq s0 c r) := by
  first
  | (simp [State.serveReq, ws0, Tab.sorted_filter, Tab.sorted_del, Tab.sorted_put]; done)
  | (unfold State.serveReq; (try dsimp only); (repeat' split) <;> (try simp [ws0, Tab.sorted_filter, Tab.sorted_del, Tab.sorted_put]); done)
  | (unfold State.serveReq; (try dsimp only); (repeat' split) <;> (try simp [*, Tab.sorted_filter, Tab.sorted_del, Tab.sorted_put]); done)

@[simp] theorem State.serveRun_wf (s : State) (c : Nat) (burst : Bool) (y3 : Nat) (ws : s.memoryWf) : State.memoryWf (State.serveRun s c burst y3) := by
  induction y3 generalizing s c burst <;> unfold State.serveRun <;> (try dsimp only) <;> (repeat' split) <;> (try simp [*])

@[simp] theorem State.writeDue_wf (s : State) (c : Nat) (ws : s.memoryWf) : State.memoryWf (State.writeDue s c) := by
  unfold State.writeDue
  split
  · exact ws
  · exact foldl_wf _ _ _ (fun t x w => by simp [w]) ws

@[simp] theorem State.serveChan_wf (s : State) (c : Nat) (ws : s.memoryWf) : State.memoryWf (State.serveChan s c) := by
  first
  | (simp [State.serveChan, ws, Tab.sorted_filter, Tab.sorted_del, Tab.sorted_put]; done)
  | (unfold State.serveChan; (try dsimp only); (repeat' split) <;> (try simp [ws, Tab.sorted_filter, Tab.sorted_del, Tab.sorted_put]); done)
  | (unfold State.serveChan; (try dsimp only); (repeat' split) <;> (try simp [*, Tab.sorted_filter, Tab.sorted_del, Tab.sorted_put]); done)

@[simp] theorem State.serveAll_wf (s : State) (ws : s.memoryWf) : State.memoryWf (State.serveAll s) := by
  unfold State.serveAll
  refine foldl_wf _ _ _ (fun t x w => ?_) ws
  split
  · exact State.serveChan_wf _ _ w
  · exact w

@[simp] theorem State.dmcRead_wf (s : State) (c : Nat) (a : Nat) (cls : Nat) (age : Nat) (cycles : Nat) (late : Bool) (errs : ReadErrs) (reader : Reader) (ws : s.memoryWf) : State.memoryWf (State.dmcRead s c a cls age cycles late errs reader) := by
  unfold State.dmcRead; (try dsimp only); (repeat' split) <;> (try simp [ws, Tab.sorted_filter, Tab.sorted_del, Tab.sorted_put])

theorem execDmcRead_wf (c : Fin 32) (a : BitVec 32) (cls : Fin 32) (age : Nat) (cycles : Nat) (late : Bool) (errs : ReadErrs) (reader : Reader) (s : State) (t : State) (h : (execDmcRead c a cls age cycles late errs reader s) = .next t) (ws : s.memoryWf) : t.memoryWf := by
  unfold execDmcRead at h; (try dsimp only at h); (repeat' split at h) <;> (try simp only [Host.Outcome.next.injEq, reduceCtorEq] at h) <;> (try subst h) <;> (try simp [ws, Tab.sorted_filter, Tab.sorted_del, Tab.sorted_put])

@[simp] theorem State.dmcWrite_wf (s : State) (c : Nat) (a : Nat) (cls : Nat) (age : Nat) (late : Bool) (d : BitVec 512) (w : BitVec 64) (ws : s.memoryWf) : State.memoryWf (State.dmcWrite s c a cls age late d w) := by
  simp [State.dmcWrite, ws, Tab.sorted_filter, Tab.sorted_del, Tab.sorted_put]

theorem execDmcWrite_wf (c : Fin 32) (a : BitVec 32) (cls : Fin 32) (age : Nat) (late : Bool) (data : BitVec 512) (bytes : BitVec 64) (s : State) (t : State) (h : (execDmcWrite c a cls age late data bytes s) = .next t) (ws : s.memoryWf) : t.memoryWf := by
  unfold execDmcWrite at h; (try dsimp only at h); (repeat' split at h) <;> (try simp only [Host.Outcome.next.injEq, reduceCtorEq] at h) <;> (try subst h) <;> (try simp [ws, Tab.sorted_filter, Tab.sorted_del, Tab.sorted_put])

theorem execMergeEntryTimeout_wf (c : Fin 32) (a : BitVec 32) (errs : ReadErrs) (s : State) (t : State) (h : (execMergeEntryTimeout c a errs s) = .next t) (ws : s.memoryWf) : t.memoryWf := by
  unfold execMergeEntryTimeout at h; (try dsimp only at h); (repeat' split at h) <;> (try simp only [Host.Outcome.next.injEq, reduceCtorEq] at h) <;> (try subst h) <;> (try simp [ws, Tab.sorted_filter, Tab.sorted_del, Tab.sorted_put])

@[simp] theorem State.ignored_wf (s : State) (c : Nat) (k : DramCmd) (ws : s.memoryWf) : State.memoryWf (State.ignored s c k) := by
  have h1 : ∀ (l : List Nat) (f : Nat → Nat) (m : List Host.Cell), Tab.sorted m = true →
      Tab.sorted (l.foldl (fun (m : List Host.Cell) i => Tab.del m (f i)) m) = true := by
    intro l f
    induction l with
    | nil => exact fun m w => w
    | cons i r ih => exact fun m w => ih _ (Tab.sorted_del _ _ w)
  have h2 : ∀ (l m : List Host.Cell), Tab.sorted m = true →
      Tab.sorted (l.foldl (fun (m : List Host.Cell) e => Tab.put m e.1 e.2) m) = true := by
    intro l
    induction l with
    | nil => exact fun m w => w
    | cons e r ih => exact fun m w => ih _ (Tab.sorted_put _ _ _ w)
  unfold State.ignored
  dsimp only
  refine ⟨h2 _ _ (h1 _ _ _ ws.1), ?_⟩
  split
  · exact Tab.sorted_del _ _ ws.2
  · exact Tab.sorted_put _ _ _ ws.2

@[simp] theorem State.takeBack_wf (s : State) (c : Nat) (back : Nat) (ws : s.memoryWf) : State.memoryWf (State.takeBack s c back) := by
  unfold State.takeBack
  dsimp only
  have h : ∀ l : List DramCmd, (l.foldl (fun (t : State) k => t.ignored c k) s).memoryWf :=
    fun l => foldl_wf _ _ _ (fun t x w => State.ignored_wf t _ _ w) ws
  simp only [State.memoryWf, Memory.wf] at h
  simp [h, -List.foldl_reverse]

@[simp] theorem State.errorReturn_wf (s : State) (c : Nat) (back : Nat) (ws : s.memoryWf) : State.memoryWf (State.errorReturn s c back) := by
  first
  | (simp [State.errorReturn, ws, Tab.sorted_filter, Tab.sorted_del, Tab.sorted_put]; done)
  | (unfold State.errorReturn; (try dsimp only); (repeat' split) <;> (try simp [ws, Tab.sorted_filter, Tab.sorted_del, Tab.sorted_put]); done)
  | (unfold State.errorReturn; (try dsimp only); (repeat' split) <;> (try simp [*, Tab.sorted_filter, Tab.sorted_del, Tab.sorted_put]); done)

theorem execErrorReturn_wf (c : Fin 32) (back : Fin 32) (s : State) (t : State) (h : (execErrorReturn c back s) = .next t) (ws : s.memoryWf) : t.memoryWf := by
  first
  | (simp only [execErrorReturn, Host.Outcome.next.injEq] at h; subst h; simp [ws, Tab.sorted_filter, Tab.sorted_del, Tab.sorted_put]; done)
  | (unfold execErrorReturn at h; (try dsimp only at h); (repeat' split at h) <;> (try simp only [Host.Outcome.next.injEq, reduceCtorEq] at h) <;> (try subst h) <;> (try simp [ws, Tab.sorted_filter, Tab.sorted_del, Tab.sorted_put]); done)

@[simp] theorem State.caTestDone_wf (s : State) (c : Nat) (bad : List Nat) (ws : s.memoryWf) : State.memoryWf (State.caTestDone s c bad) := by
  unfold State.caTestDone; (try dsimp only); (repeat' split) <;> (try simp [ws, Tab.sorted_filter, Tab.sorted_del, Tab.sorted_put])

theorem execCaLaneTestDone_wf (c : Fin 32) (bad : BitVec 16) (s : State) (t : State) (h : (execCaLaneTestDone c bad s) = .next t) (ws : s.memoryWf) : t.memoryWf := by
  simp only [execCaLaneTestDone, Host.Outcome.next.injEq] at h; subst h; simp [ws, Tab.sorted_filter, Tab.sorted_del, Tab.sorted_put]

@[simp] theorem State.scrubCw_wf (s : State) (c : Nat) (a : Nat) (errs : ReadErrs) (ws : s.memoryWf) : State.memoryWf (State.scrubCw s c a errs) := by
  unfold State.scrubCw; (try dsimp only); (repeat' split) <;> (try simp [ws, Tab.sorted_filter, Tab.sorted_del, Tab.sorted_put])

@[simp] theorem State.scrubRow_wf (s : State) (c : Nat) (errs : List (Fin 32 × ReadErrs)) (ws : s.memoryWf) :
    State.memoryWf (State.scrubRow s c errs) := by
  have h : ∀ l : List Nat, (l.foldl (fun (t : State) i => t.scrubCw c (rowAddr (s.rdN (Reg.ECC_C_SCRUB_PTR c)) + 64 * i)
      (rowErrs errs i)) s).memoryWf := fun l => foldl_wf _ _ _ (fun t x w => State.scrubCw_wf t _ _ _ w) ws
  simp only [State.memoryWf, Memory.wf] at h
  unfold State.scrubRow
  dsimp only
  split <;> simp [h]

theorem execScrubRow_wf (c : Fin 32) (errs : List (Fin 32 × ReadErrs)) (s : State) (t : State) (h : (execScrubRow c errs s) = .next t) (ws : s.memoryWf) : t.memoryWf := by
  unfold execScrubRow at h; (try dsimp only at h); (repeat' split at h) <;> (try simp only [Host.Outcome.next.injEq, reduceCtorEq] at h) <;> (try subst h) <;> (try simp [ws, Tab.sorted_filter, Tab.sorted_del, Tab.sorted_put])

theorem execCorrected2Writeback_wf (c : Fin 32) (a : BitVec 32) (s : State) (t : State) (h : (execCorrected2Writeback c a s) = .next t) (ws : s.memoryWf) : t.memoryWf := by
  unfold execCorrected2Writeback at h; (try dsimp only at h); (repeat' split at h) <;> (try simp only [Host.Outcome.next.injEq, reduceCtorEq] at h) <;> (try subst h) <;> (try simp [ws, Tab.sorted_filter, Tab.sorted_del, Tab.sorted_put])

@[simp] theorem State.legAction_wf (s : State) (b : Nat) (column : Option Nat) (ws : s.memoryWf) : State.memoryWf (State.legAction s b column) := by
  unfold State.legAction; (try dsimp only); (repeat' split) <;> (try simp [ws, Tab.sorted_filter, Tab.sorted_del, Tab.sorted_put])

@[simp] theorem State.legJudged_wf (s : State) (l : Leg) (good : Bool) (column : Option Nat) (ws : s.memoryWf) : State.memoryWf (State.legJudged s l good column) := by
  first
  | (simp [State.legJudged, ws, Tab.sorted_filter, Tab.sorted_del, Tab.sorted_put]; done)
  | (unfold State.legJudged; (try dsimp only); (repeat' split) <;> (try simp [ws, Tab.sorted_filter, Tab.sorted_del, Tab.sorted_put]); done)
  | (unfold State.legJudged; (try dsimp only); (repeat' split) <;> (try simp [*, Tab.sorted_filter, Tab.sorted_del, Tab.sorted_put]); done)

@[simp] theorem State.legEnds_wf (s : State) (l : Leg) (good : Bool) (column : Option Nat) (ws : s.memoryWf) : State.memoryWf (State.legEnds s l good column) := by
  unfold State.legEnds; (try dsimp only); (repeat' split) <;> (try simp [ws, Tab.sorted_filter, Tab.sorted_del, Tab.sorted_put])

theorem execLegEnd_wf (block : BitVec 32) (signature : BitVec 32) (column : Option (Fin 32)) (s : State) (t : State) (h : (execLegEnd block signature column s) = .next t) (ws : s.memoryWf) : t.memoryWf := by
  unfold execLegEnd at h; (try dsimp only at h); (repeat' split at h) <;> (try simp only [Host.Outcome.next.injEq, reduceCtorEq] at h) <;> (try subst h) <;> (try simp [ws, Tab.sorted_filter, Tab.sorted_del, Tab.sorted_put])

@[simp] theorem State.columnChunk_wf (s : State) (c : Nat) (ws : s.memoryWf) : State.memoryWf (State.columnChunk s c) := by
  have h : ∀ l : List Nat, (l.foldl (fun (t : State) a => t.copyCw c a) s).memoryWf :=
    fun l => foldl_wf _ _ _ (fun t x w => State.copyCw_wf t _ _ w) ws
  simp only [State.memoryWf, Memory.wf] at h
  unfold State.columnChunk
  dsimp only
  split
  · simp [ws]
  · split <;> simp [h]

theorem execColumnRepairChunk_wf (c : Fin 32) (s : State) (t : State) (h : (execColumnRepairChunk c s) = .next t) (ws : s.memoryWf) : t.memoryWf := by
  unfold execColumnRepairChunk at h; (try dsimp only at h); (repeat' split at h) <;> (try simp only [Host.Outcome.next.injEq, reduceCtorEq] at h) <;> (try subst h) <;> (try simp [ws, Tab.sorted_filter, Tab.sorted_del, Tab.sorted_put])

@[simp] theorem State.copySlice_wf (s : State) (c : Nat) (ref : Nat) (parts : List ResPart) (ws : s.memoryWf) :
    State.memoryWf (State.copySlice s c ref parts) := by
  unfold State.copySlice
  dsimp only
  refine foldl_wf _ _ _ (fun t x w => ?_) ws
  repeat' split
  all_goals simp [w]

@[simp] theorem State.placeSlice_wf (s : State) (c : Nat) (ref : Nat) (copy : Bool) (ws : s.memoryWf) : State.memoryWf (State.placeSlice s c ref copy).1 := by
  unfold State.placeSlice; (try dsimp only); (repeat' split) <;> (try simp [ws, Tab.sorted_filter, Tab.sorted_del, Tab.sorted_put])

@[simp] theorem State.salvageSlice_wf (s : State) (mismatches : Nat) (dead : Bool) (ws : s.memoryWf) :
    State.memoryWf (State.salvageSlice s mismatches dead) := by
  unfold State.salvageSlice
  dsimp only
  split
  · exact ws
  · rename_i v s1 h
    have hk : s1.memoryWf := by
      repeat' split at h
      all_goals simp_all
      all_goals rw [← h.2]
      all_goals simp [ws]
    have h2 : ((s1.serveChan v.ch).flushMerge v.ch (s1.chan v.ch).merge.length).memoryWf :=
      State.flushMerge_wf _ _ _ (State.serveChan_wf _ _ hk)
    repeat' split
    all_goals first
      | exact State.salvageEnds_wf _ _ h2
      | simp [h2]

theorem execSalvageSlice_wf (mismatches : Nat) (dead : Bool) (s : State) (t : State) (h : (execSalvageSlice mismatches dead s) = .next t) (ws : s.memoryWf) : t.memoryWf := by
  unfold execSalvageSlice at h; (try dsimp only at h); (repeat' split at h) <;> (try simp only [Host.Outcome.next.injEq, reduceCtorEq] at h) <;> (try subst h) <;> (try simp [ws, Tab.sorted_filter, Tab.sorted_del, Tab.sorted_put])

@[simp] theorem State.allOff_wf (s : State) (ws : s.memoryWf) : State.memoryWf (State.allOff s) := by
  simp [State.allOff, ws, Tab.sorted_filter, Tab.sorted_del, Tab.sorted_put]

@[simp] theorem State.shutdown_wf (s : State) (die : Nat) (path : Nat) (value : Int) (ws : s.memoryWf) : State.memoryWf (State.shutdown s die path value) := by
  unfold State.shutdown; (try dsimp only); (repeat' split) <;> (try simp [ws, Tab.sorted_filter, Tab.sorted_del, Tab.sorted_put])

@[simp] theorem State.scan_wf (s : State) (l : List Int) (ws : s.memoryWf) : State.memoryWf (State.scan s l) := by
  unfold State.scan; (try dsimp only); (repeat' split) <;> (try simp [ws, Tab.sorted_filter, Tab.sorted_del, Tab.sorted_put])

theorem execComparatorScan_wf (sensors : List (BitVec 16)) (s : State) (t : State) (h : (execComparatorScan sensors s) = .next t) (ws : s.memoryWf) : t.memoryWf := by
  simp only [execComparatorScan, Host.Outcome.next.injEq] at h; subst h; simp [ws, Tab.sorted_filter, Tab.sorted_del, Tab.sorted_put]

@[simp] theorem State.measure_wf (s : State) (m : Thermals) (ws : s.memoryWf) : State.memoryWf (State.measure s m) := by
  unfold State.measure; (try dsimp only); (repeat' split) <;> (try simp [ws, Tab.sorted_filter, Tab.sorted_del, Tab.sorted_put])

theorem execThermalMeasurement_wf (m : Thermals) (s : State) (t : State) (h : (execThermalMeasurement m s) = .next t) (ws : s.memoryWf) : t.memoryWf := by
  unfold execThermalMeasurement at h; (try dsimp only at h); (repeat' split at h) <;> (try simp only [Host.Outcome.next.injEq, reduceCtorEq] at h) <;> (try subst h) <;> (try simp [ws, Tab.sorted_filter, Tab.sorted_del, Tab.sorted_put])

@[simp] theorem State.railFailed_wf (s : State) (r : Nat) (ws : s.memoryWf) : State.memoryWf (State.railFailed s r) := by
  simp [State.railFailed, ws, Tab.sorted_filter, Tab.sorted_del, Tab.sorted_put]

@[simp] theorem State.railFault_wf (s : State) (src : Nat) (r : Nat) (v : Nat) (ws : s.memoryWf) : State.memoryWf (State.railFault s src r v) := by
  unfold State.railFault; (try dsimp only); (repeat' split) <;> (try simp [ws, Tab.sorted_filter, Tab.sorted_del, Tab.sorted_put])

theorem execRailOc_wf (r : Fin 6) (mA : BitVec 16) (s : State) (t : State) (h : execRailOc r mA s = .next t) (ws : s.memoryWf) :
    t.memoryWf := by
  unfold execRailOc at h
  split at h <;> (simp only [Host.Outcome.next.injEq] at h; subst h; simp [ws])

theorem execRailUv_wf (r : Fin 6) (mV : BitVec 16) (s : State) (t : State) (h : execRailUv r mV s = .next t) (ws : s.memoryWf) :
    t.memoryWf := by
  unfold execRailUv at h
  split at h <;> (simp only [Host.Outcome.next.injEq] at h; subst h; simp [ws])

@[simp] theorem State.putRecord_wf (s : State) (pi : Nat) (p : Partition) (l : List Byte) (ws : s.memoryWf) : State.memoryWf (State.putRecord s pi p l) := by
  simp [State.putRecord, ws, Tab.sorted_filter, Tab.sorted_del, Tab.sorted_put]

@[simp] theorem State.putRecords_wf (s : State) (pi : Nat) (p : Partition) (l : List (List Byte)) (ws : s.memoryWf) :
    State.memoryWf (State.putRecords s pi p l) := by
  unfold State.putRecords
  induction l generalizing s with
  | nil => exact ws
  | cons x r ih =>
    simp only [List.foldl_cons]
    exact ih _ (State.putRecord_wf s pi p x ws)

@[simp] theorem State.dump_wf (s : State) (pi : Nat) (p : Partition) (ws : s.memoryWf) : State.memoryWf (State.dump s pi p) := by
  simp [State.dump, ws, Tab.sorted_filter, Tab.sorted_del, Tab.sorted_put]

theorem execCounterDump_wf (s : State) (t : State) (h : (execCounterDump s) = .next t) (ws : s.memoryWf) : t.memoryWf := by
  unfold execCounterDump at h; (try dsimp only at h); (repeat' split at h) <;> (try simp only [Host.Outcome.next.injEq, reduceCtorEq] at h) <;> (try subst h) <;> (try simp [ws, Tab.sorted_filter, Tab.sorted_del, Tab.sorted_put])

@[simp] theorem State.readWords_wf (s : State) (rt : Bool) (pi : Nat) (p : Partition) (o : Nat) (n : Nat) (y6 : Nat) (ws : s.memoryWf) : State.memoryWf (State.readWords s rt pi p o n y6).1 := by
  induction y6 generalizing s rt pi p o n <;> unfold State.readWords <;> (try dsimp only) <;> (repeat' split) <;> (try simp [*])

@[simp] theorem State.headerCheck_wf (s : State) (u : Nat) (intact : Bool) (ws : s.memoryWf) : State.memoryWf (State.headerCheck s u intact) := by
  unfold State.headerCheck; (try dsimp only); (repeat' split) <;> (try simp [ws, Tab.sorted_filter, Tab.sorted_del, Tab.sorted_put])

theorem execVxuHeaderCheck_wf (u : Fin 16) (intact : Bool) (s : State) (t : State) (h : (execVxuHeaderCheck u intact s) = .next t) (ws : s.memoryWf) : t.memoryWf := by
  simp only [execVxuHeaderCheck, Host.Outcome.next.injEq] at h; subst h; simp [ws, Tab.sorted_filter, Tab.sorted_del, Tab.sorted_put]

@[simp] theorem State.programFetch_wf (s : State) (u : Nat) (intact : Bool) (ws : s.memoryWf) : State.memoryWf (State.programFetch s u intact) := by
  unfold State.programFetch; (try dsimp only); (repeat' split) <;> (try simp [ws, Tab.sorted_filter, Tab.sorted_del, Tab.sorted_put])

theorem execVxuProgramFetch_wf (u : Fin 16) (intact : Bool) (s : State) (t : State) (h : (execVxuProgramFetch u intact s) = .next t) (ws : s.memoryWf) : t.memoryWf := by
  simp only [execVxuProgramFetch, Host.Outcome.next.injEq] at h; subst h; simp [ws, Tab.sorted_filter, Tab.sorted_del, Tab.sorted_put]

@[simp] theorem State.failRecord_wf (s : State) (f : FailRec) (ws : s.memoryWf) : State.memoryWf (State.failRecord s f) := by
  unfold State.failRecord; (try dsimp only); (repeat' split) <;> (try simp [ws, Tab.sorted_filter, Tab.sorted_del, Tab.sorted_put])

theorem execFailRecord_wf (s : State) (t : State) (h : (execFailRecord s) = .next t) (ws : s.memoryWf) : t.memoryWf := by
  unfold execFailRecord at h; (try dsimp only at h); (repeat' split at h) <;> (try simp only [Host.Outcome.next.injEq, reduceCtorEq] at h) <;> (try subst h) <;> (try simp [ws, Tab.sorted_filter, Tab.sorted_del, Tab.sorted_put])

theorem execCapBlockTimeout_wf (p : Fin 16) (s : State) (t : State) (h : (execCapBlockTimeout p s) = .next t) (ws : s.memoryWf) : t.memoryWf := by
  unfold execCapBlockTimeout at h; (try dsimp only at h); (repeat' split at h) <;> (try simp only [Host.Outcome.next.injEq, reduceCtorEq] at h) <;> (try subst h) <;> (try simp [ws, Tab.sorted_filter, Tab.sorted_del, Tab.sorted_put])

@[simp] theorem State.startReadout_wf (s : State) (f : Form) (ws : s.memoryWf) : State.memoryWf (State.startReadout s f) := by
  unfold State.startReadout; (try dsimp only); (repeat' split) <;> (try simp [ws, Tab.sorted_filter, Tab.sorted_del, Tab.sorted_put])

@[simp] theorem State.readoutCmd_wf (s : State) (r : Req) (f : Form) (ws : s.memoryWf) : State.memoryWf (State.readoutCmd s r f) :=
  State.hostWrite_wf _ _ _ _ _ (fun t w => State.startReadout_wf t f w) ws

theorem execReadoutSummary_wf (r : Req) (s : State) (t : State) (h : (execReadoutSummary r s) = .next t) (ws : s.memoryWf) : t.memoryWf := by
  simp only [execReadoutSummary, Host.Outcome.next.injEq] at h; subst h; simp [ws, Tab.sorted_filter, Tab.sorted_del, Tab.sorted_put]

theorem execReadoutPoints_wf (r : Req) (s : State) (t : State) (h : (execReadoutPoints r s) = .next t) (ws : s.memoryWf) : t.memoryWf := by
  simp only [execReadoutPoints, Host.Outcome.next.injEq] at h; subst h; simp [ws, Tab.sorted_filter, Tab.sorted_del, Tab.sorted_put]

theorem execReadoutLines_wf (r : Req) (s : State) (t : State) (h : (execReadoutLines r s) = .next t) (ws : s.memoryWf) : t.memoryWf := by
  simp only [execReadoutLines, Host.Outcome.next.injEq] at h; subst h; simp [ws, Tab.sorted_filter, Tab.sorted_del, Tab.sorted_put]

theorem execReadoutCloseRecord_wf (r : Req) (s : State) (t : State) (h : (execReadoutCloseRecord r s) = .next t) (ws : s.memoryWf) : t.memoryWf := by
  simp only [execReadoutCloseRecord, Host.Outcome.next.injEq] at h; subst h; simp [ws, Tab.sorted_filter, Tab.sorted_del, Tab.sorted_put]

theorem execReadoutDone_wf (s : State) (t : State) (h : (execReadoutDone s) = .next t) (ws : s.memoryWf) : t.memoryWf := by
  unfold execReadoutDone at h; (try dsimp only at h); (repeat' split at h) <;> (try simp only [Host.Outcome.next.injEq, reduceCtorEq] at h) <;> (try subst h) <;> (try simp [ws, Tab.sorted_filter, Tab.sorted_del, Tab.sorted_put])

@[simp] theorem State.ringCopy_wf (s : State) (p : Partition) (pi : Nat) (r : ResultRec) (rest : List ResultRec) (ws : s.memoryWf) : State.memoryWf (State.ringCopy s p pi r rest) := by
  simp [State.ringCopy, ws, Tab.sorted_filter, Tab.sorted_del, Tab.sorted_put]

theorem execResultRingCopy_wf (s : State) (t : State) (h : (execResultRingCopy s) = .next t) (ws : s.memoryWf) : t.memoryWf := by
  unfold execResultRingCopy at h; (try dsimp only at h); (repeat' split at h) <;> (try simp only [Host.Outcome.next.injEq, reduceCtorEq] at h) <;> (try subst h) <;> (try simp [ws, Tab.sorted_filter, Tab.sorted_del, Tab.sorted_put])

@[simp] theorem State.afterReset_wf (s : State) : State.memoryWf (State.afterReset s) := ⟨rfl, rfl⟩

theorem execResetNLow_wf (s : State) (t : State) (h : (execResetNLow s) = .next t) (ws : s.memoryWf) : t.memoryWf := by
  simp only [execResetNLow, Host.Outcome.next.injEq] at h; subst h; simp [ws, Tab.sorted_filter, Tab.sorted_del, Tab.sorted_put]

@[simp] theorem State.fatalSource_wf (s : State) (src : Nat) (a : Nat) (b : Nat) (ws : s.memoryWf) : State.memoryWf (State.fatalSource s src a b) := by
  unfold State.fatalSource; (try dsimp only); (repeat' split) <;> (try simp [ws, Tab.sorted_filter, Tab.sorted_del, Tab.sorted_put])

theorem execFatalFault_wf (src : Fin 8) (a : BitVec 32) (b : BitVec 32) (s : State) (t : State) (h : (execFatalFault src a b s) = .next t) (ws : s.memoryWf) : t.memoryWf := by
  simp only [execFatalFault, Host.Outcome.next.injEq] at h; subst h; simp [ws, Tab.sorted_filter, Tab.sorted_del, Tab.sorted_put]

@[simp] theorem State.enterHold_wf (s : State) (ws : s.memoryWf) : State.memoryWf (State.enterHold s) := by
  have h : ∀ l : List Nat, (l.foldl (fun (t : State) c => (t.serveChan c).enterSr c) s.abortDramLegs).memoryWf :=
    fun l => foldl_wf _ _ _ (fun t x w => by simp [State.serveChan_wf t x w]) (by simp [ws])
  simp only [State.memoryWf, Memory.wf] at h
  unfold State.enterHold
  dsimp only
  repeat' split
  all_goals simp [h]

theorem execHoldEntryComplete_wf (s : State) (t : State) (h : (execHoldEntryComplete s) = .next t) (ws : s.memoryWf) : t.memoryWf := by
  unfold execHoldEntryComplete at h; (try dsimp only at h); (repeat' split at h) <;> (try simp only [Host.Outcome.next.injEq, reduceCtorEq] at h) <;> (try subst h) <;> (try simp [ws, Tab.sorted_filter, Tab.sorted_del, Tab.sorted_put])

@[simp] theorem State.startFail_wf (s : State) (b : Nat) (ws : s.memoryWf) : State.memoryWf (State.startFail s b) := by
  unfold State.startFail; (try dsimp only); (repeat' split) <;> (try simp [ws, Tab.sorted_filter, Tab.sorted_del, Tab.sorted_put])

@[simp] theorem State.assignReserve_wf (s : State) (ws : s.memoryWf) : State.memoryWf (State.assignReserve s) := by
  unfold State.assignReserve
  dsimp only
  refine foldl_wf _ _ _ (fun t x w => by simp [w]) ?_
  exact foldl_wf _ _ _ (fun t x w => foldl_wf _ _ _ (fun u y v => State.placeSlice_wf u _ _ _ v) w) ws

@[simp] theorem State.startTests_wf (s : State) (r : StartTests) (ws : s.memoryWf) : State.memoryWf (State.startTests s r) := by
  have h1 : ∀ v : List (Nat × StVerdict), ((v.filter (fun e => e.2 != .pass)).foldl
      (fun (t : State) e => t.eccFailed e.1 (e.2 == .incomplete)) (s.eccMaps v)).memoryWf :=
    fun v => foldl_wf _ _ _ (fun t x w => by simp [w]) (by simp [ws])
  have h2 : ∀ (u : State) (l : List Nat), u.memoryWf → (l.foldl State.startFail u).memoryWf :=
    fun u l hu => foldl_wf _ _ _ (fun t x w => State.startFail_wf t _ w) hu
  unfold State.startTests
  dsimp only
  refine State.assignReserve_wf _ ?_
  have h := h2 _ (((r.fails.map (·.toNat)).filter startTested).eraseDups) (h1 (stVerdicts r.ecc))
  simp only [State.memoryWf, Memory.wf] at h ⊢
  simpa using h

theorem execLoadComplete_wf (r : StartTests) (s : State) (t : State) (h : (execLoadComplete r s) = .next t) (ws : s.memoryWf) : t.memoryWf := by
  unfold execLoadComplete at h; (try dsimp only at h); (repeat' split at h) <;> (try simp only [Host.Outcome.next.injEq, reduceCtorEq] at h) <;> (try subst h) <;> (try simp [ws, Tab.sorted_filter, Tab.sorted_del, Tab.sorted_put])

@[simp] theorem State.drainChannel_wf (s : State) (c : Nat) (ws : s.memoryWf) : State.memoryWf (State.drainChannel s c) := by
  simp [State.drainChannel, ws, Tab.sorted_filter, Tab.sorted_del, Tab.sorted_put]

@[simp] theorem State.warmStops_wf (s : State) (ws : s.memoryWf) : State.memoryWf (State.warmStops s) := by
  have h1 : ∀ u : State, u.memoryWf → ∀ l : List Leg, (l.foldl (fun (t : State) l => t.legIncomplete l) u).memoryWf :=
    fun u hu l => foldl_wf _ _ _ (fun t x w => by simp [w]) hu
  have h2 : ∀ u : State, u.memoryWf → ∀ l : List Nat, (l.foldl (fun (t : State) c => (t.drainChannel c).enterSr c) u).memoryWf :=
    fun u hu l => foldl_wf _ _ _ (fun t x w => by simp [State.drainChannel_wf t x w]) hu
  unfold State.warmStops
  dsimp only
  generalize hu : ((s.stopDomCmd.enterMode Mode.load).endStreams 11) = u
  have hw : u.memoryWf := by rw [← hu]; simp [ws]
  have h := h2 _ (h1 u hw u.bst.running) (u.bst.running.foldl (fun (t : State) l => t.legIncomplete l) u).liveChans
  simp only [State.memoryWf, Memory.wf] at h
  simp [h]

@[simp] theorem State.freshFrames_wf (t0 : State) (s : State) (wt0 : t0.memoryWf) (ws : s.memoryWf) : State.memoryWf (State.freshFrames t0 s) := by
  simp [State.freshFrames, wt0, ws, Tab.sorted_filter, Tab.sorted_del, Tab.sorted_put]

@[simp] theorem State.warmMap_wf (t : State) (s : State) (wt : t.memoryWf) (ws : s.memoryWf) : State.memoryWf (State.warmMap t s) := by
  unfold State.warmMap
  dsimp only
  refine foldl_wf _ _ _ (fun u x w => ite_wf _ _ _ (State.placeSlice_wf u _ _ _ w) w) ?_
  have h := State.freshFrames_wf (t.mapSlices s true) s (by simp [wt]) ws
  exact h

@[simp] theorem State.warmConfig_wf (s : State) (ws : s.memoryWf) : State.memoryWf (State.warmConfig s).1 := by
  unfold State.warmConfig; (try dsimp only); (repeat' split) <;> (try simp [ws, Tab.sorted_filter, Tab.sorted_del, Tab.sorted_put])

@[simp] theorem State.warmLoad_wf (s : State) (ws : s.memoryWf) : State.memoryWf (State.warmLoad s) := by
  unfold State.warmLoad; (try dsimp only); (repeat' split) <;> (try simp [ws, Tab.sorted_filter, Tab.sorted_del, Tab.sorted_put])

theorem execWarmLoad_wf (s : State) (t : State) (h : (execWarmLoad s) = .next t) (ws : s.memoryWf) : t.memoryWf := by
  unfold execWarmLoad at h; (try dsimp only at h); (repeat' split at h) <;> (try simp only [Host.Outcome.next.injEq, reduceCtorEq] at h) <;> (try subst h) <;> (try simp [ws, Tab.sorted_filter, Tab.sorted_del, Tab.sorted_put])

theorem stateOf_wf {x : Result} {s : State} (h : ∀ t, x = .next t → t.memoryWf) (w : s.memoryWf) : (stateOf x s).memoryWf := by
  unfold stateOf
  split
  · exact h _ rfl
  · exact w

/-- What kept the memory kept its canonical form. -/
theorem KeptMemory_wf {s t : State} (h : KeptMemory s t) (w : s.memoryWf) : t.memoryWf := by
  simp_all

@[simp] theorem stateOf_execModeReqService_wf (r : Req) (cal : CalResult) (s : State) (u : State) (wu : s.memoryWf) (w : u.memoryWf) :
    (stateOf (execModeReqService r cal s) u).memoryWf :=
  stateOf_wf (fun _ h => KeptMemory_wf (execModeReqService_memory _ _ _ _ h) wu) w

@[simp] theorem stateOf_execModeReqHold_wf (r : Req) (s : State) (u : State) (wu : s.memoryWf) (w : u.memoryWf) :
    (stateOf (execModeReqHold r s) u).memoryWf :=
  stateOf_wf (fun _ h => KeptMemory_wf (execModeReqHold_memory _ _ _ h) wu) w

@[simp] theorem stateOf_execModeReqMaintain_wf (r : Req) (s : State) (u : State) (wu : s.memoryWf) (w : u.memoryWf) :
    (stateOf (execModeReqMaintain r s) u).memoryWf :=
  stateOf_wf (fun _ h => KeptMemory_wf (execModeReqMaintain_memory _ _ _ h) wu) w

@[simp] theorem stateOf_execDomOpen_wf (r : Req) (stop : Option (BitVec 25)) (s : State) (u : State) (wu : s.memoryWf) (w : u.memoryWf) :
    (stateOf (execDomOpen r stop s) u).memoryWf :=
  stateOf_wf (fun _ h => KeptMemory_wf (execDomOpen_memory _ _ _ _ h) wu) w

@[simp] theorem stateOf_execDomClose_wf (r : Req) (fenced : Bool) (stop : Option (BitVec 25)) (s : State) (u : State) (wu : s.memoryWf) (w : u.memoryWf) :
    (stateOf (execDomClose r fenced stop s) u).memoryWf :=
  stateOf_wf (fun _ h => KeptMemory_wf (execDomClose_memory _ _ _ _ _ h) wu) w

@[simp] theorem stateOf_execDomRelease_wf (r : Req) (stop : Option (BitVec 25)) (s : State) (u : State) (wu : s.memoryWf) (w : u.memoryWf) :
    (stateOf (execDomRelease r stop s) u).memoryWf :=
  stateOf_wf (fun _ h => KeptMemory_wf (execDomRelease_memory _ _ _ _ h) wu) w

@[simp] theorem stateOf_execPoolDef_wf (r : Req) (upto : Option (BitVec 25)) (s : State) (u : State) (wu : s.memoryWf) (w : u.memoryWf) :
    (stateOf (execPoolDef r upto s) u).memoryWf :=
  stateOf_wf (fun _ h => KeptMemory_wf (execPoolDef_memory _ _ _ _ h) wu) w

@[simp] theorem stateOf_execPoolDel_wf (r : Req) (upto : Option (BitVec 25)) (s : State) (u : State) (wu : s.memoryWf) (w : u.memoryWf) :
    (stateOf (execPoolDel r upto s) u).memoryWf :=
  stateOf_wf (fun _ h => KeptMemory_wf (execPoolDel_memory _ _ _ _ h) wu) w

@[simp] theorem stateOf_execReadoutSummary_wf (r : Req) (s : State) (u : State) (wu : s.memoryWf) (w : u.memoryWf) :
    (stateOf (execReadoutSummary r s) u).memoryWf :=
  stateOf_wf (fun _ h => execReadoutSummary_wf _ _ _ h wu) w

@[simp] theorem stateOf_execReadoutPoints_wf (r : Req) (s : State) (u : State) (wu : s.memoryWf) (w : u.memoryWf) :
    (stateOf (execReadoutPoints r s) u).memoryWf :=
  stateOf_wf (fun _ h => execReadoutPoints_wf _ _ _ h wu) w

@[simp] theorem stateOf_execReadoutLines_wf (r : Req) (s : State) (u : State) (wu : s.memoryWf) (w : u.memoryWf) :
    (stateOf (execReadoutLines r s) u).memoryWf :=
  stateOf_wf (fun _ h => execReadoutLines_wf _ _ _ h wu) w

@[simp] theorem stateOf_execReadoutCloseRecord_wf (r : Req) (s : State) (u : State) (wu : s.memoryWf) (w : u.memoryWf) :
    (stateOf (execReadoutCloseRecord r s) u).memoryWf :=
  stateOf_wf (fun _ h => execReadoutCloseRecord_wf _ _ _ h wu) w

@[simp] theorem stateOf_execRetrain_wf (r : Req) (l : Fin 64) (s : State) (u : State) (wu : s.memoryWf) (w : u.memoryWf) :
    (stateOf (execRetrain r l s) u).memoryWf :=
  stateOf_wf (fun _ h => KeptMemory_wf (execRetrain_memory _ _ _ _ h) wu) w

@[simp] theorem stateOf_execInjectBit_wf (r : Req) (l : Fin 64) (count : BitVec 8) (s : State) (u : State) (wu : s.memoryWf) (w : u.memoryWf) :
    (stateOf (execInjectBit r l count s) u).memoryWf :=
  stateOf_wf (fun _ h => KeptMemory_wf (execInjectBit_memory _ _ _ _ _ h) wu) w

@[simp] theorem stateOf_execInjectSymbol_wf (r : Req) (l : Fin 64) (count : BitVec 8) (s : State) (u : State) (wu : s.memoryWf) (w : u.memoryWf) :
    (stateOf (execInjectSymbol r l count s) u).memoryWf :=
  stateOf_wf (fun _ h => KeptMemory_wf (execInjectSymbol_memory _ _ _ _ _ h) wu) w

@[simp] theorem stateOf_execInjectSync_wf (r : Req) (l : Fin 64) (s : State) (u : State) (wu : s.memoryWf) (w : u.memoryWf) :
    (stateOf (execInjectSync r l s) u).memoryWf :=
  stateOf_wf (fun _ h => KeptMemory_wf (execInjectSync_memory _ _ _ _ h) wu) w

@[simp] theorem stateOf_execInjectLol_wf (r : Req) (l : Fin 64) (s : State) (u : State) (wu : s.memoryWf) (w : u.memoryWf) :
    (stateOf (execInjectLol r l s) u).memoryWf :=
  stateOf_wf (fun _ h => KeptMemory_wf (execInjectLol_memory _ _ _ _ h) wu) w

@[simp] theorem stateOf_execFulltest_wf (r : Req) (s : State) (u : State) (wu : s.memoryWf) (w : u.memoryWf) :
    (stateOf (execFulltest r s) u).memoryWf :=
  stateOf_wf (fun _ h => KeptMemory_wf (execFulltest_memory _ _ _ h) wu) w

@[simp] theorem stateOf_execFuseCommit_wf (r : Req) (s : State) (u : State) (wu : s.memoryWf) (w : u.memoryWf) :
    (stateOf (execFuseCommit r s) u).memoryWf :=
  stateOf_wf (fun _ h => KeptMemory_wf (execFuseCommit_memory _ _ _ h) wu) w

@[simp] theorem stateOf_execLegCmd_wf (r : Req) (s : State) (u : State) (wu : s.memoryWf) (w : u.memoryWf) :
    (stateOf (execLegCmd r s) u).memoryWf :=
  stateOf_wf (fun _ h => KeptMemory_wf (execLegCmd_memory _ _ _ h) wu) w

@[simp] theorem stateOf_execAbortFulltest_wf (r : Req) (s : State) (u : State) (wu : s.memoryWf) (w : u.memoryWf) :
    (stateOf (execAbortFulltest r s) u).memoryWf :=
  stateOf_wf (fun _ h => KeptMemory_wf (execAbortFulltest_memory _ _ _ h) wu) w

@[simp] theorem stateOf_execSense_wf (why : SenseWhy) (weak : List (Fin 1024 × BitVec 64)) (s : State) (u : State) (wu : s.memoryWf) (w : u.memoryWf) :
    (stateOf (execSense why weak s) u).memoryWf :=
  stateOf_wf (fun _ h => KeptMemory_wf (execSense_memory _ _ _ _ h) wu) w

@[simp] theorem stateOf_execReinforce_wf (r : Req) (s : State) (u : State) (wu : s.memoryWf) (w : u.memoryWf) :
    (stateOf (execReinforce r s) u).memoryWf :=
  stateOf_wf (fun _ h => KeptMemory_wf (execReinforce_memory _ _ _ h) wu) w

@[simp] theorem stateOf_execUpdBegin_wf (r : Req) (flashOk : Bool) (s : State) (u : State) (wu : s.memoryWf) (w : u.memoryWf) :
    (stateOf (execUpdBegin r flashOk s) u).memoryWf :=
  stateOf_wf (fun _ h => KeptMemory_wf (execUpdBegin_memory _ _ _ _ h) wu) w

@[simp] theorem stateOf_execUpdChunk_wf (r : Req) (flashOk : Bool) (s : State) (u : State) (wu : s.memoryWf) (w : u.memoryWf) :
    (stateOf (execUpdChunk r flashOk s) u).memoryWf :=
  stateOf_wf (fun _ h => KeptMemory_wf (execUpdChunk_memory _ _ _ _ h) wu) w

@[simp] theorem stateOf_execUpdVerify_wf (r : Req) (s : State) (u : State) (wu : s.memoryWf) (w : u.memoryWf) :
    (stateOf (execUpdVerify r s) u).memoryWf :=
  stateOf_wf (fun _ h => KeptMemory_wf (execUpdVerify_memory _ _ _ h) wu) w

@[simp] theorem stateOf_execActivate_wf (r : Req) (ok : Bool) (s : State) (u : State) (wu : s.memoryWf) (w : u.memoryWf) :
    (stateOf (execActivate r ok s) u).memoryWf :=
  stateOf_wf (fun _ h => KeptMemory_wf (execActivate_memory _ _ _ _ h) wu) w

@[simp] theorem stateOf_execConfirm_wf (r : Req) (s : State) (u : State) (wu : s.memoryWf) (w : u.memoryWf) :
    (stateOf (execConfirm r s) u).memoryWf :=
  stateOf_wf (fun _ h => KeptMemory_wf (execConfirm_memory _ _ _ h) wu) w

@[simp] theorem stateOf_execRollback_wf (r : Req) (s : State) (u : State) (wu : s.memoryWf) (w : u.memoryWf) :
    (stateOf (execRollback r s) u).memoryWf :=
  stateOf_wf (fun _ h => KeptMemory_wf (execRollback_memory _ _ _ h) wu) w

@[simp] theorem stateOf_execUpdAbort_wf (r : Req) (s : State) (u : State) (wu : s.memoryWf) (w : u.memoryWf) :
    (stateOf (execUpdAbort r s) u).memoryWf :=
  stateOf_wf (fun _ h => KeptMemory_wf (execUpdAbort_memory _ _ _ h) wu) w

@[simp] theorem stateOf_execReanalyse_wf (r : Req) (s : State) (u : State) (wu : s.memoryWf) (w : u.memoryWf) :
    (stateOf (execReanalyse r s) u).memoryWf :=
  stateOf_wf (fun _ h => KeptMemory_wf (execReanalyse_memory _ _ _ h) wu) w

@[simp] theorem stateOf_execClearLat_wf (r : Req) (s : State) (u : State) (wu : s.memoryWf) (w : u.memoryWf) :
    (stateOf (execClearLat r s) u).memoryWf :=
  stateOf_wf (fun _ h => KeptMemory_wf (execClearLat_memory _ _ _ h) wu) w

@[simp] theorem stateOf_execAckAlertn_wf (r : Req) (s : State) (u : State) (wu : s.memoryWf) (w : u.memoryWf) :
    (stateOf (execAckAlertn r s) u).memoryWf :=
  stateOf_wf (fun _ h => KeptMemory_wf (execAckAlertn_memory _ _ _ h) wu) w

@[simp] theorem stateOf_execClearAll_wf (r : Req) (s : State) (u : State) (wu : s.memoryWf) (w : u.memoryWf) :
    (stateOf (execClearAll r s) u).memoryWf :=
  stateOf_wf (fun _ h => KeptMemory_wf (execClearAll_memory _ _ _ h) wu) w

@[simp] theorem stateOf_execResync_wf (r : Req) (src : Fin 256) (s : State) (u : State) (wu : s.memoryWf) (w : u.memoryWf) :
    (stateOf (execResync r src s) u).memoryWf :=
  stateOf_wf (fun _ h => KeptMemory_wf (execResync_memory _ _ _ _ h) wu) w

@[simp] theorem stateOf_execFltForce_wf (r : Req) (i : Fin 4) (v : Word) (s : State) (u : State) (wu : s.memoryWf) (w : u.memoryWf) :
    (stateOf (execFltForce r i v s) u).memoryWf :=
  stateOf_wf (fun _ h => KeptMemory_wf (execFltForce_memory _ _ _ _ _ h) wu) w

@[simp] theorem stateOf_execPmcSelWrite_wf (r : Req) (n : Fin 128) (v : Word) (s : State) (u : State) (wu : s.memoryWf) (w : u.memoryWf) :
    (stateOf (execPmcSelWrite r n v s) u).memoryWf :=
  stateOf_wf (fun _ h => KeptMemory_wf (execPmcSelWrite_memory _ _ _ _ _ h) wu) w

@[simp] theorem stateOf_execDebugUnlock_wf (r : Req) (v : Word) (s : State) (u : State) (wu : s.memoryWf) (w : u.memoryWf) :
    (stateOf (execDebugUnlock r v s) u).memoryWf :=
  stateOf_wf (fun _ h => KeptMemory_wf (execDebugUnlock_memory _ _ _ _ h) wu) w

@[simp] theorem stateOf_execFseSlock_wf (r : Req) (n : Fin 16) (v : Word) (s : State) (u : State) (wu : s.memoryWf) (w : u.memoryWf) :
    (stateOf (execFseSlock r n v s) u).memoryWf :=
  stateOf_wf (fun _ h => KeptMemory_wf (execFseSlock_memory _ _ _ _ _ h) wu) w

@[simp] theorem stateOf_execClearPeak_wf (r : Req) (s : State) (u : State) (wu : s.memoryWf) (w : u.memoryWf) :
    (stateOf (execClearPeak r s) u).memoryWf :=
  stateOf_wf (fun _ h => KeptMemory_wf (execClearPeak_memory _ _ _ h) wu) w

@[simp] theorem stateOf_execPrbsCfgWrite_wf (r : Req) (l : Fin 64) (v : Word) (s : State) (u : State) (wu : s.memoryWf) (w : u.memoryWf) :
    (stateOf (execPrbsCfgWrite r l v s) u).memoryWf :=
  stateOf_wf (fun _ h => KeptMemory_wf (execPrbsCfgWrite_memory _ _ _ _ _ h) wu) w

@[simp] theorem stateOf_execDmcFreqReq_wf (r : Req) (v : Word) (s : State) (u : State) (wu : s.memoryWf) (w : u.memoryWf) :
    (stateOf (execDmcFreqReq r v s) u).memoryWf :=
  stateOf_wf (fun _ h => KeptMemory_wf (execDmcFreqReq_memory _ _ _ _ h) wu) w

@[simp] theorem stateOf_execEccInjArm_wf (r : Req) (v : Word) (s : State) (u : State) (wu : s.memoryWf) (w : u.memoryWf) :
    (stateOf (execEccInjArm r v s) u).memoryWf :=
  stateOf_wf (fun _ h => KeptMemory_wf (execEccInjArm_memory _ _ _ _ h) wu) w

@[simp] theorem stateOf_execCadExcRptrWrite_wf (r : Req) (v : Word) (s : State) (u : State) (wu : s.memoryWf) (w : u.memoryWf) :
    (stateOf (execCadExcRptrWrite r v s) u).memoryWf :=
  stateOf_wf (fun _ h => KeptMemory_wf (execCadExcRptrWrite_memory _ _ _ _ h) wu) w

@[simp] theorem stateOf_execRaeRingCfgWrite_wf (r : Req) (v : Word) (s : State) (u : State) (wu : s.memoryWf) (w : u.memoryWf) :
    (stateOf (execRaeRingCfgWrite r v s) u).memoryWf :=
  stateOf_wf (fun _ h => KeptMemory_wf (execRaeRingCfgWrite_memory _ _ _ _ h) wu) w

@[simp] theorem stateOf_execRaeRingRptrWrite_wf (r : Req) (v : Word) (s : State) (u : State) (wu : s.memoryWf) (w : u.memoryWf) :
    (stateOf (execRaeRingRptrWrite r v s) u).memoryWf :=
  stateOf_wf (fun _ h => KeptMemory_wf (execRaeRingRptrWrite_memory _ _ _ _ h) wu) w

/-- A branch of a chain of commands. -/
theorem ite_some_wf {c : Prop} [Decidable c] {x : State} {y : Option State} {t : State} (h : (if c then some x else y) = some t)
    (hx : x.memoryWf) (hy : y = some t → t.memoryWf) : t.memoryWf := by
  split at h
  · simp only [Option.some.injEq] at h
    exact h ▸ hx
  · exact hy h

@[simp] theorem State.writeModeReq_wf (s : State) (r : Req) (v : Word) (ws : s.memoryWf) : State.memoryWf (State.writeModeReq s r v) := by
  unfold State.writeModeReq; (try dsimp only); (repeat' split) <;> (try simp [ws, Tab.sorted_filter, Tab.sorted_del, Tab.sorted_put])

@[simp] theorem State.writeDcmd_wf (s : State) (r : Req) (v : Word) (ws : s.memoryWf) : State.memoryWf (State.writeDcmd s r v) := by
  unfold State.writeDcmd; (try dsimp only); (repeat' split) <;> (try simp [ws, Tab.sorted_filter, Tab.sorted_del, Tab.sorted_put])

@[simp] theorem State.writeRcmd_wf (s : State) (r : Req) (v : Word) (ws : s.memoryWf) : State.memoryWf (State.writeRcmd s r v) := by
  unfold State.writeRcmd; (try dsimp only); (repeat' split) <;> (try simp [ws, Tab.sorted_filter, Tab.sorted_del, Tab.sorted_put])

@[simp] theorem State.writeLaneCmd_wf (s : State) (r : Req) (l : Fin 64) (v : Word) (ws : s.memoryWf) : State.memoryWf (State.writeLaneCmd s r l v) := by
  unfold State.writeLaneCmd; (try dsimp only); (repeat' split) <;> (try simp [ws, Tab.sorted_filter, Tab.sorted_del, Tab.sorted_put])

@[simp] theorem State.writeInject_wf (s : State) (r : Req) (l : Fin 64) (v : Word) (ws : s.memoryWf) : State.memoryWf (State.writeInject s r l v) := by
  unfold State.writeInject; (try dsimp only); (repeat' split) <;> (try simp [ws, Tab.sorted_filter, Tab.sorted_del, Tab.sorted_put])

@[simp] theorem State.writeBst_wf (s : State) (r : Req) (v : Word) (ws : s.memoryWf) : State.memoryWf (State.writeBst s r v) := by
  unfold State.writeBst; (try dsimp only); (repeat' split) <;> (try simp [ws, Tab.sorted_filter, Tab.sorted_del, Tab.sorted_put])

@[simp] theorem State.writeFse_wf (s : State) (r : Req) (v : Word) (ws : s.memoryWf) : State.memoryWf (State.writeFse s r v) := by
  unfold State.writeFse; (try dsimp only); (repeat' split) <;> (try simp [ws, Tab.sorted_filter, Tab.sorted_del, Tab.sorted_put])

@[simp] theorem State.writeUpd_wf (s : State) (r : Req) (v : Word) (ws : s.memoryWf) : State.memoryWf (State.writeUpd s r v) := by
  unfold State.writeUpd; (try dsimp only); (repeat' split) <;> (try simp [ws, Tab.sorted_filter, Tab.sorted_del, Tab.sorted_put])

@[simp] theorem State.writeRae_wf (s : State) (r : Req) (v : Word) (ws : s.memoryWf) : State.memoryWf (State.writeRae s r v) := by
  unfold State.writeRae; (try dsimp only); (repeat' split) <;> (try simp [ws, Tab.sorted_filter, Tab.sorted_del, Tab.sorted_put])

@[simp] theorem State.writeFlt_wf (s : State) (r : Req) (v : Word) (ws : s.memoryWf) : State.memoryWf (State.writeFlt s r v) := by
  unfold State.writeFlt; (try dsimp only); (repeat' split) <;> (try simp [ws, Tab.sorted_filter, Tab.sorted_del, Tab.sorted_put])

@[simp] theorem State.writeSrcCmd_wf (s : State) (r : Req) (i : Fin 256) (v : Word) (ws : s.memoryWf) : State.memoryWf (State.writeSrcCmd s r i v) := by
  unfold State.writeSrcCmd; (try dsimp only); (repeat' split) <;> (try simp [ws, Tab.sorted_filter, Tab.sorted_del, Tab.sorted_put])

theorem State.writeCommand_wf (s : State) (r : Req) (a : Nat) (v : Word) (t : State) (h : s.writeCommand r a v = some t)
    (w : s.memoryWf) : t.memoryWf := by
  unfold State.writeCommand at h
  repeat' refine ite_some_wf h ?_ (fun h => ?_)
  all_goals first
    | (simp only [reduceCtorEq] at h; done)
    | (simp [w]; done)
    | (split <;> simp [w])

@[simp] theorem State.write4_wf (s : State) (r : Req) (a : Nat) (v : Word) (w : s.memoryWf) : (State.write4 s r a v).memoryWf := by
  unfold State.write4
  dsimp only
  split
  · exact State.writeCommand_wf _ _ _ _ _ ‹_› w
  · repeat' split
    all_goals simp [w]

@[simp] theorem State.write8_wf (s : State) (r : Req) (a : Nat) (v : BitVec 64) (ws : s.memoryWf) : State.memoryWf (State.write8 s r a v) := by
  unfold State.write8; (try dsimp only); (repeat' split) <;> (try simp [ws, Tab.sorted_filter, Tab.sorted_del, Tab.sorted_put])

@[simp] theorem State.regWrite_wf (s : State) (r : Req) (a : Nat) (size : Nat) (v : BitVec 64) (late : Bool) (ws : s.memoryWf) : State.memoryWf (State.regWrite s r a size v late) := by
  unfold State.regWrite; (try dsimp only); (repeat' split) <;> (try simp [ws, Tab.sorted_filter, Tab.sorted_del, Tab.sorted_put])

theorem execRegisterWrite_wf (r : Req) (a : BitVec 32) (size : Fin 4) (v : BitVec 64) (late : Bool) (s : State) (t : State) (h : (execRegisterWrite r a size v late s) = .next t) (ws : s.memoryWf) : t.memoryWf := by
  simp only [execRegisterWrite, Host.Outcome.next.injEq] at h; subst h; simp [ws, Tab.sorted_filter, Tab.sorted_del, Tab.sorted_put]

@[simp] theorem State.serveRead_wf (s : State) (k : Nat) (p : Packet) (sess : Option (Nat × Session)) (pi : Nat) (part : Partition) (ws : s.memoryWf) : State.memoryWf (State.serveRead s k p sess pi part) := by
  simp [State.serveRead, ws, Tab.sorted_filter, Tab.sorted_del, Tab.sorted_put]

@[simp] theorem State.serveBrd_wf (s : State) (k : Fin 16) (p : Packet) (ws : s.memoryWf) : State.memoryWf (State.serveBrd s k p) := by
  unfold State.serveBrd; (try dsimp only); (repeat' split) <;> (try simp [ws, Tab.sorted_filter, Tab.sorted_del, Tab.sorted_put])

@[simp] theorem State.brdRequest_wf (s : State) (k : Fin 16) (p : Packet) (ws : s.memoryWf) : State.memoryWf (State.brdRequest s k p) := by
  unfold State.brdRequest; (try dsimp only); (repeat' split) <;> (try simp [ws, Tab.sorted_filter, Tab.sorted_del, Tab.sorted_put])

@[simp] theorem State.serveWrite_wf (s : State) (k : Nat) (p : Packet) (pi : Nat) (part : Partition) (ws : s.memoryWf) : State.memoryWf (State.serveWrite s k p pi part).1 := by
  unfold State.serveWrite; (try dsimp only); (repeat' split) <;> (try simp [ws, Tab.sorted_filter, Tab.sorted_del, Tab.sorted_put])

@[simp] theorem State.serveBwr_wf (s : State) (k : Fin 16) (p : Packet) (ws : s.memoryWf) : State.memoryWf (State.serveBwr s k p) := by
  unfold State.serveBwr; (try dsimp only); (repeat' split) <;> (try simp [ws, Tab.sorted_filter, Tab.sorted_del, Tab.sorted_put])

@[simp] theorem State.bwrRequest_wf (s : State) (k : Fin 16) (p : Packet) (ws : s.memoryWf) : State.memoryWf (State.bwrRequest s k p) := by
  unfold State.bwrRequest; (try dsimp only); (repeat' split) <;> (try simp [ws, Tab.sorted_filter, Tab.sorted_del, Tab.sorted_put])

@[simp] theorem State.runOp_wf (s : State) (r : Req) (slot : List Byte) (ext : List Byte) (late : Bool) (ws : s.memoryWf) : State.memoryWf (State.runOp s r slot ext late).st := by
  unfold State.runOp; (try dsimp only); (repeat' split) <;> (try simp [ws, Tab.sorted_filter, Tab.sorted_del, Tab.sorted_put])

@[simp] theorem State.runOps_wf (s : State) (r : Req) (stop : Bool) (late : BitVec 32) (y4 : List (List Byte × List Byte)) (ws : s.memoryWf) : State.memoryWf (State.runOps s r stop late y4).1 := by
  induction y4 generalizing s r stop late <;> unfold State.runOps <;> (try dsimp only) <;> (repeat' split) <;> (try simp [*])

@[simp] theorem State.ctlServe_wf (s : State) (r : Req) (tagged : Bool) (modeOk : Bool) (body : List Byte) (late : BitVec 32) (ws : s.memoryWf) : State.memoryWf (State.ctlServe s r tagged modeOk body late).1 := by
  unfold State.ctlServe; (try dsimp only); (repeat' split) <;> (try simp [ws, Tab.sorted_filter, Tab.sorted_del, Tab.sorted_put])

@[simp] theorem State.ctlRequest_wf (s : State) (k : Fin 16) (p : Packet) (late : BitVec 32) (ws : s.memoryWf) :
    State.memoryWf (State.ctlRequest s k p late) := by
  unfold State.ctlRequest
  dsimp only
  repeat' split
  · rename_i h
    have h1 := State.enrolBegun_wf _ _ _ _ h (State.ctlServe_wf _ _ _ _ _ _ (by simp [ws]))
    simpa using h1
  · simp [ws]
  · simp [ws]

@[simp] theorem State.dispatchPacket_wf (s : State) (k : Fin 16) (p : Packet) (late : BitVec 32) (ws : s.memoryWf) : State.memoryWf (State.dispatchPacket s k p late) := by
  unfold State.dispatchPacket; (try dsimp only); (repeat' split) <;> (try simp [ws, Tab.sorted_filter, Tab.sorted_del, Tab.sorted_put])

@[simp] theorem State.receive_wf (s : State) (k : Fin 16) (p : Packet) (reserved : Bool) (late : optParam (BitVec 32) 0) (ws : s.memoryWf) : State.memoryWf (State.receive s k p reserved late) := by
  unfold State.receive; (try dsimp only); (repeat' split) <;> (try simp [ws, Tab.sorted_filter, Tab.sorted_del, Tab.sorted_put])

@[simp] theorem State.closeBlocks_wf (s : State) (k : Fin 16) (late : BitVec 32) (l : List (Option RxBlock)) (ws : s.memoryWf) : State.memoryWf (State.closeBlocks s k late l) := by
  first
  | (simp [State.closeBlocks, ws, Tab.sorted_filter, Tab.sorted_del, Tab.sorted_put]; done)
  | (unfold State.closeBlocks; (try dsimp only); (repeat' split) <;> (try simp [ws, Tab.sorted_filter, Tab.sorted_del, Tab.sorted_put]); done)
  | (unfold State.closeBlocks; (try dsimp only); (repeat' split) <;> (try simp [*, Tab.sorted_filter, Tab.sorted_del, Tab.sorted_put]); done)

@[simp] theorem State.takeSlot_wf (s : State) (k : Fin 16) (late : BitVec 32) (b : Option RxBlock) (ws : s.memoryWf) : State.memoryWf (State.takeSlot s k late b) := by
  first
  | (simp [State.takeSlot, ws, Tab.sorted_filter, Tab.sorted_del, Tab.sorted_put]; done)
  | (unfold State.takeSlot; (try dsimp only); (repeat' split) <;> (try simp [ws, Tab.sorted_filter, Tab.sorted_del, Tab.sorted_put]); done)
  | (unfold State.takeSlot; (try dsimp only); (repeat' split) <;> (try simp [*, Tab.sorted_filter, Tab.sorted_del, Tab.sorted_put]); done)

@[simp] theorem State.takeStripe_wf (s : State) (k : Fin 16) (late : BitVec 32) (l : List (Option RxBlock)) (ws : s.memoryWf) :
    State.memoryWf (State.takeStripe s k late l) := by
  unfold State.takeStripe
  exact foldl_wf _ _ _ (fun t x w => State.takeSlot_wf _ _ _ _ w) ws

theorem execPacketReceive_wf (k : Fin 16) (slots : List (Option RxBlock)) (late : BitVec 32) (s : State) (t : State)
    (h : execPacketReceive k slots late s = .next t) (ws : s.memoryWf) : t.memoryWf := by
  simp only [execPacketReceive, Host.Outcome.next.injEq] at h
  subst h
  exact foldl_wf _ _ _ (fun t x w => State.takeStripe_wf _ _ _ _ w) ws

theorem execCreditPacket_wf (k : Fin 16) (p : Packet) (s : State) (t : State) (h : (execCreditPacket k p s) = .next t) (ws : s.memoryWf) : t.memoryWf := by
  simp only [execCreditPacket, Host.Outcome.next.injEq] at h; subst h; simp [ws, Tab.sorted_filter, Tab.sorted_del, Tab.sorted_put]

theorem execBrd_wf (k : Fin 16) (p : Packet) (s : State) (t : State) (h : (execBrd k p s) = .next t) (ws : s.memoryWf) : t.memoryWf := by
  simp only [execBrd, Host.Outcome.next.injEq] at h; subst h; simp [ws, Tab.sorted_filter, Tab.sorted_del, Tab.sorted_put]

theorem execBwr_wf (k : Fin 16) (p : Packet) (s : State) (t : State) (h : (execBwr k p s) = .next t) (ws : s.memoryWf) : t.memoryWf := by
  simp only [execBwr, Host.Outcome.next.injEq] at h; subst h; simp [ws, Tab.sorted_filter, Tab.sorted_del, Tab.sorted_put]

theorem execCtlRequest_wf (k : Fin 16) (p : Packet) (late : BitVec 32) (s : State) (t : State) (h : (execCtlRequest k p late s) = .next t) (ws : s.memoryWf) : t.memoryWf := by
  simp only [execCtlRequest, Host.Outcome.next.injEq] at h; subst h; simp [ws, Tab.sorted_filter, Tab.sorted_del, Tab.sorted_put]

@[simp] theorem State.rxColumn_wf (s : State) (k : Fin 16) (late : BitVec 32) (f : Nat → Option RxBlock) (ws : s.memoryWf) : State.memoryWf (State.rxColumn s k late f) := by
  first
  | (simp [State.rxColumn, ws, Tab.sorted_filter, Tab.sorted_del, Tab.sorted_put]; done)
  | (unfold State.rxColumn; (try dsimp only); (repeat' split) <;> (try simp [ws, Tab.sorted_filter, Tab.sorted_del, Tab.sorted_put]); done)
  | (unfold State.rxColumn; (try dsimp only); (repeat' split) <;> (try simp [*, Tab.sorted_filter, Tab.sorted_del, Tab.sorted_put]); done)

@[simp] theorem State.destripe_wf (s : State) (k : Fin 16) (late : BitVec 32) (n : Nat) (ws : s.memoryWf) :
    State.memoryWf (State.destripe s k late n) := by
  induction n generalizing s with
  | zero => exact ws
  | succ n ih =>
    unfold State.destripe
    dsimp only
    split
    · exact ws
    · exact ih _ (foldl_wf _ _ _ (fun t x w => State.rxColumn_wf _ _ _ _ w) (KeptMemory_wf (State.popCodewords_memory _ _) ws))

@[simp] theorem State.takeCodeword_wf (s : State) (k : Nat) (l : Nat) (c : Nat × Option Nat × List RxBlock) (offs : Nat) (late : BitVec 32) (ws : s.memoryWf) : State.memoryWf (State.takeCodeword s k l c offs late) := by
  first
  | (simp [State.takeCodeword, ws, Tab.sorted_filter, Tab.sorted_del, Tab.sorted_put]; done)
  | (unfold State.takeCodeword; (try dsimp only); (repeat' split) <;> (try simp [ws, Tab.sorted_filter, Tab.sorted_del, Tab.sorted_put]); done)
  | (unfold State.takeCodeword; (try dsimp only); (repeat' split) <;> (try simp [*, Tab.sorted_filter, Tab.sorted_del, Tab.sorted_put]); done)

theorem execFecCodewordReceived_wf (l : Fin 64) (symbols : List (BitVec 10)) (offs : Fin 5) (late : BitVec 32) (s : State) (t : State) (h : (execFecCodewordReceived l symbols offs late s) = .next t) (ws : s.memoryWf) : t.memoryWf := by
  first
  | (simp only [execFecCodewordReceived, Host.Outcome.next.injEq] at h; subst h; simp [ws, Tab.sorted_filter, Tab.sorted_del, Tab.sorted_put]; done)
  | (unfold execFecCodewordReceived at h; (try dsimp only at h); (repeat' split at h) <;> (try simp only [Host.Outcome.next.injEq, reduceCtorEq] at h) <;> (try subst h) <;> (try simp [ws, Tab.sorted_filter, Tab.sorted_del, Tab.sorted_put]); done)

@[simp] theorem State.i3cServe_wf (s : State) (p : Packet) (late : BitVec 32) (ws : s.memoryWf) :
    State.memoryWf (State.i3cServe s p late) := by
  unfold State.i3cServe
  dsimp only
  split
  · rename_i h
    have h1 := State.enrolBegun_wf _ _ _ _ h (State.ctlServe_wf _ _ _ _ _ _ (by simp [ws]))
    simpa using h1
  · simp [ws]

@[simp] theorem State.i3cFrame_wf (s : State) (l : List Byte) (late : BitVec 32) (ws : s.memoryWf) : State.memoryWf (State.i3cFrame s l late) := by
  unfold State.i3cFrame; (try dsimp only); (repeat' split) <;> (try simp [ws, Tab.sorted_filter, Tab.sorted_del, Tab.sorted_put])

@[simp] theorem State.i3cWrite_wf (s : State) (l : List Byte) (late : BitVec 32) (ws : s.memoryWf) : State.memoryWf (State.i3cWrite s l late) := by
  unfold State.i3cWrite; (try dsimp only); (repeat' split) <;> (try simp [ws, Tab.sorted_filter, Tab.sorted_del, Tab.sorted_put])

theorem execI3cDirectRead_wf (bytes : List Byte) (late : Bool) (s : State) (t : State) (h : (execI3cDirectRead bytes late s) = .next t) (ws : s.memoryWf) : t.memoryWf := by
  simp only [execI3cDirectRead, Host.Outcome.next.injEq] at h; subst h; simp [ws, Tab.sorted_filter, Tab.sorted_del, Tab.sorted_put]

theorem execI3cCtlFrame_wf (bytes : List Byte) (late : BitVec 32) (s : State) (t : State) (h : (execI3cCtlFrame bytes late s) = .next t) (ws : s.memoryWf) : t.memoryWf := by
  simp only [execI3cCtlFrame, Host.Outcome.next.injEq] at h; subst h; simp [ws, Tab.sorted_filter, Tab.sorted_del, Tab.sorted_put]

@[simp] theorem State.tickWork_wf (s : State) (ws : s.memoryWf) : State.memoryWf (State.tickWork s) := by
  first
  | (simp [State.tickWork, ws, Tab.sorted_filter, Tab.sorted_del, Tab.sorted_put]; done)
  | (unfold State.tickWork; (try dsimp only); (repeat' split) <;> (try simp [ws, Tab.sorted_filter, Tab.sorted_del, Tab.sorted_put]); done)
  | (unfold State.tickWork; (try dsimp only); (repeat' split) <;> (try simp [*, Tab.sorted_filter, Tab.sorted_del, Tab.sorted_put]); done)

@[simp] theorem State.tick_wf (s : State) (ws : s.memoryWf) : State.memoryWf (State.tick s) := by
  first
  | (simp [State.tick, ws, Tab.sorted_filter, Tab.sorted_del, Tab.sorted_put]; done)
  | (unfold State.tick; (try dsimp only); (repeat' split) <;> (try simp [ws, Tab.sorted_filter, Tab.sorted_del, Tab.sorted_put]); done)
  | (unfold State.tick; (try dsimp only); (repeat' split) <;> (try simp [*, Tab.sorted_filter, Tab.sorted_del, Tab.sorted_put]); done)

end Sys2Proof.Machine
end

