-- ==== Sys2Proof/Laws/Mode.lean ====
section
/-! SUPPORT. Sys2Proof/Laws/Mode.lean: what the operations that move between modes do to the mode (R22, R23, R25, R383). -/
set_option linter.unusedTactic false
set_option linter.unreachableTactic false
set_option linter.unusedSimpArgs false
set_option linter.unusedVariables false
namespace Sys2Proof.Machine

@[simp] theorem State.enterMode_mode' (s : State) (m : Mode) : (s.enterMode m).mode = m := rfl

@[simp] theorem State.afterReset_mode' (s : State) : s.afterReset.mode = .cold := rfl

@[simp] theorem State.safeReaction_mode' (s : State) (src : Nat) : (s.safeReaction src).mode = .safe := by
  have h : (s.safeStop src).mode = .safe := rfl
  simp [State.safeReaction, h]

@[simp] theorem State.fatal_mode' (s : State) (src a b : Nat) (fo : Bool) :
    (s.fatal src a b fo).mode = if s.mode = .cold ∨ s.mode = .safe then s.mode else .safe := by
  unfold State.fatal
  split <;> simp_all

@[simp] theorem State.enterService_mode' (s : State) : s.enterService.mode = .service := by simp [State.enterService]

@[simp] theorem State.enterMaintain_mode' (s : State) (b : Bool) : (s.enterMaintain b).mode = .maintain := by
  unfold State.enterMaintain
  dsimp only
  split <;> simp

@[simp] theorem State.enterHold_mode' (s : State) : s.enterHold.mode = .hold := by
  unfold State.enterHold
  dsimp only
  repeat' split
  all_goals simp

@[simp] theorem State.leaveHold_mode' (s : State) (c : CalResult) : (s.leaveHold c).mode = .service := by
  unfold State.leaveHold
  dsimp only
  exact State.enterService_mode' _

/-! ### The table of moves -/

theorem modeMoves_refl (a : Mode) : modeMoves a a = true := by
  cases a <;> rfl

theorem modeMoves_trans (a b c : Mode) (h : modeMoves a b = true) (k : modeMoves b c = true) : modeMoves a c = true := by
  revert h k
  cases a <;> cases b <;> cases c <;> decide

/-- What keeps the mode moves as the table allows. -/
theorem KeptMode_moves {s t : State} (h : KeptMode s t) : modeMoves s.mode t.mode = true := by
  rw [h]
  exact modeMoves_refl _

theorem moves_safe (a b : Mode) (h : b = if a = .cold ∨ a = .safe then a else .safe) : modeMoves a b = true := by
  subst h
  cases a <;> decide

theorem State.fatal_moves (s : State) (src a b : Nat) (fo : Bool) : modeMoves s.mode (s.fatal src a b fo).mode = true :=
  moves_safe _ _ (State.fatal_mode' _ _ _ _ _)

theorem firstStatus_append_ok {l m : List (Bool × Status)} (h : firstStatus (l ++ m) = .ok) (hl : ∀ e ∈ l, e.2 ≠ .ok) :
    firstStatus m = .ok := by
  induction l with
  | nil => exact h
  | cons p r ih =>
    simp only [List.cons_append, firstStatus] at h
    split at h
    · exact absurd h (hl p (by simp))
    · exact ih h (fun e he => hl e (by simp [he]))

theorem State.hostWrite_moves (s : State) (r : Req) (a : Nat) (st : Status) (f : State → State)
    (h : st = .ok → modeMoves s.mode (f s).mode = true) : modeMoves s.mode (s.hostWrite r a st f).mode = true := by
  unfold State.hostWrite
  split
  · rename_i hr
    have hs : st = .ok := by
      unfold State.recovering at hr
      split at hr
      · exact absurd hr (by decide)
      · exact hr
    simpa using h hs
  · exact KeptMode_moves (State.reject_mode _ _ _ _ _ _)

/-- SERVICE is accepted only from HOLD and MAINTAIN (R25). -/
theorem serviceStatus_ok {r : Req} {s : State} (h : serviceStatus r s = .ok) : s.mode = .hold ∨ s.mode = .maintain := by
  unfold serviceStatus at h
  have h2 := firstStatus_append_ok h (by split <;> simp [State.ownerChecks, State.hostChecks])
  simp only [State.modeChecks, firstStatus] at h2
  cases hm : s.mode <;> simp_all

/-- MAINTAIN is accepted only from SERVICE (R25). -/
theorem maintainStatus_ok {r : Req} {s : State} (h : maintainStatus r s = .ok) : s.mode = .service := by
  unfold maintainStatus at h
  have h2 := firstStatus_append_ok h (by simp [State.ownerChecks])
  simp only [State.modeChecks, firstStatus] at h2
  cases hm : s.mode <;> simp_all

theorem State.shutdown_moves (s : State) (d p : Nat) (v : Int) : modeMoves s.mode (s.shutdown d p v).mode = true := by
  unfold State.shutdown
  dsimp only
  split
  · exact modeMoves_refl _
  · split <;> exact moves_safe _ _ (by simp)

theorem State.railFault_moves (s : State) (src r v : Nat) : modeMoves s.mode (s.railFault src r v).mode = true := by
  unfold State.railFault
  split <;> exact moves_safe _ _ (by simp)

theorem State.pwrgoodLost_moves (s : State) : modeMoves s.mode s.pwrgoodLost.mode = true := by
  unfold State.pwrgoodLost
  dsimp only
  repeat' split
  · exact modeMoves_refl _
  · exact moves_safe _ _ (by simp)
  · exact modeMoves_refl _

theorem State.clockLost_moves (s : State) (p : Nat) : modeMoves s.mode (s.clockLost p).mode = true := by
  unfold State.clockLost
  split
  · exact State.fatal_moves _ _ _ _ _
  · exact modeMoves_refl _

theorem State.fatalSource_moves (s : State) (src a b : Nat) : modeMoves s.mode (s.fatalSource src a b).mode = true := by
  unfold State.fatalSource
  repeat' split
  · exact State.shutdown_moves _ _ _ _
  · exact State.railFault_moves _ _ _ _
  · exact State.railFault_moves _ _ _ _
  · exact State.clockLost_moves _ _
  · exact State.pwrgoodLost_moves _
  · exact modeMoves_refl _
  · exact State.fatal_moves _ _ _ _ _

theorem State.scan_moves (s : State) (l : List Int) : modeMoves s.mode (s.scan l).mode = true := by
  unfold State.scan
  dsimp only
  repeat' split
  · exact modeMoves_refl _
  · exact modeMoves_refl _
  · exact State.shutdown_moves _ _ _ _

theorem State.measure_moves (s : State) (m : Thermals) : modeMoves s.mode (s.measure m).mode = true := by
  unfold State.measure
  dsimp only
  have hk : ((((s.takeReadings m).takeRails m).exclusion).updateModel m).mode = s.mode := by simp
  repeat' split
  · rw [← hk]
    exact State.shutdown_moves _ _ _ _
  · exact KeptMode_moves (by simp)
  · exact KeptMode_moves (by simp)

theorem foldl_moves {α : Type} (f : State → α → State) (l : List α) (s : State) (h : ∀ t x, modeMoves t.mode (f t x).mode = true) :
    modeMoves s.mode (l.foldl f s).mode = true := by
  induction l generalizing s with
  | nil => exact modeMoves_refl _
  | cons x r ih => exact modeMoves_trans _ _ _ (h s x) (ih _)

theorem execFltForce_moves (r : Req) (i : Fin 4) (v : Word) (s t : State) (h : execFltForce r i v s = .next t) :
    modeMoves s.mode t.mode = true := by
  simp only [execFltForce, Host.Outcome.next.injEq] at h
  subst h
  refine State.hostWrite_moves _ _ _ _ _ (fun _ => foldl_moves _ _ _ (fun t x => ?_))
  split
  · exact State.fatal_moves _ _ _ _ _
  · exact KeptMode_moves (by simp)

theorem execModeReqService_moves (r : Req) (c : CalResult) (s t : State) (h : execModeReqService r c s = .next t) :
    modeMoves s.mode t.mode = true := by
  simp only [execModeReqService, Host.Outcome.next.injEq] at h
  subst h
  refine State.hostWrite_moves _ _ _ _ _ (fun hs => ?_)
  rcases serviceStatus_ok hs with hm | hm <;> simp [hm, modeMoves]

theorem execModeReqMaintain_moves (r : Req) (s t : State) (h : execModeReqMaintain r s = .next t) :
    modeMoves s.mode t.mode = true := by
  simp only [execModeReqMaintain, Host.Outcome.next.injEq] at h
  subst h
  refine State.hostWrite_moves _ _ _ _ _ (fun hs => ?_)
  simp [maintainStatus_ok hs, modeMoves]

/-! ### Register writes and what carries them -/

theorem stateOf_moves {x : Result} {s : State} (h : ∀ t, x = .next t → modeMoves s.mode t.mode = true) :
    modeMoves s.mode (stateOf x s).mode = true := by
  unfold stateOf
  split
  · exact h _ rfl
  · exact modeMoves_refl _

theorem stateOf_execModeReqService_moves (r : Req) (cal : CalResult) (s : State) (u : State) (k : KeptMode u s) :
    modeMoves u.mode (stateOf (execModeReqService r cal s) u).mode = true :=
  stateOf_moves (fun _ h => k ▸ execModeReqService_moves _ _ _ _ h)

theorem stateOf_execModeReqHold_moves (r : Req) (s : State) (u : State) (k : KeptMode u s) :
    modeMoves u.mode (stateOf (execModeReqHold r s) u).mode = true :=
  stateOf_moves (fun _ h => k ▸ KeptMode_moves (execModeReqHold_mode _ _ _ h))

theorem stateOf_execModeReqMaintain_moves (r : Req) (s : State) (u : State) (k : KeptMode u s) :
    modeMoves u.mode (stateOf (execModeReqMaintain r s) u).mode = true :=
  stateOf_moves (fun _ h => k ▸ execModeReqMaintain_moves _ _ _ h)

theorem stateOf_execDomOpen_moves (r : Req) (stop : Option (BitVec 25)) (s : State) (u : State) (k : KeptMode u s) :
    modeMoves u.mode (stateOf (execDomOpen r stop s) u).mode = true :=
  stateOf_moves (fun _ h => k ▸ KeptMode_moves (execDomOpen_mode _ _ _ _ h))

theorem stateOf_execDomClose_moves (r : Req) (fenced : Bool) (stop : Option (BitVec 25)) (s : State) (u : State) (k : KeptMode u s) :
    modeMoves u.mode (stateOf (execDomClose r fenced stop s) u).mode = true :=
  stateOf_moves (fun _ h => k ▸ KeptMode_moves (execDomClose_mode _ _ _ _ _ h))

theorem stateOf_execDomRelease_moves (r : Req) (stop : Option (BitVec 25)) (s : State) (u : State) (k : KeptMode u s) :
    modeMoves u.mode (stateOf (execDomRelease r stop s) u).mode = true :=
  stateOf_moves (fun _ h => k ▸ KeptMode_moves (execDomRelease_mode _ _ _ _ h))

theorem stateOf_execPoolDef_moves (r : Req) (upto : Option (BitVec 25)) (s : State) (u : State) (k : KeptMode u s) :
    modeMoves u.mode (stateOf (execPoolDef r upto s) u).mode = true :=
  stateOf_moves (fun _ h => k ▸ KeptMode_moves (execPoolDef_mode _ _ _ _ h))

theorem stateOf_execPoolDel_moves (r : Req) (upto : Option (BitVec 25)) (s : State) (u : State) (k : KeptMode u s) :
    modeMoves u.mode (stateOf (execPoolDel r upto s) u).mode = true :=
  stateOf_moves (fun _ h => k ▸ KeptMode_moves (execPoolDel_mode _ _ _ _ h))

theorem stateOf_execReadoutSummary_moves (r : Req) (s : State) (u : State) (k : KeptMode u s) :
    modeMoves u.mode (stateOf (execReadoutSummary r s) u).mode = true :=
  stateOf_moves (fun _ h => k ▸ KeptMode_moves (execReadoutSummary_mode _ _ _ h))

theorem stateOf_execReadoutPoints_moves (r : Req) (s : State) (u : State) (k : KeptMode u s) :
    modeMoves u.mode (stateOf (execReadoutPoints r s) u).mode = true :=
  stateOf_moves (fun _ h => k ▸ KeptMode_moves (execReadoutPoints_mode _ _ _ h))

theorem stateOf_execReadoutLines_moves (r : Req) (s : State) (u : State) (k : KeptMode u s) :
    modeMoves u.mode (stateOf (execReadoutLines r s) u).mode = true :=
  stateOf_moves (fun _ h => k ▸ KeptMode_moves (execReadoutLines_mode _ _ _ h))

theorem stateOf_execReadoutCloseRecord_moves (r : Req) (s : State) (u : State) (k : KeptMode u s) :
    modeMoves u.mode (stateOf (execReadoutCloseRecord r s) u).mode = true :=
  stateOf_moves (fun _ h => k ▸ KeptMode_moves (execReadoutCloseRecord_mode _ _ _ h))

theorem stateOf_execRetrain_moves (r : Req) (l : Fin 64) (s : State) (u : State) (k : KeptMode u s) :
    modeMoves u.mode (stateOf (execRetrain r l s) u).mode = true :=
  stateOf_moves (fun _ h => k ▸ KeptMode_moves (execRetrain_mode _ _ _ _ h))

theorem stateOf_execInjectBit_moves (r : Req) (l : Fin 64) (count : BitVec 8) (s : State) (u : State) (k : KeptMode u s) :
    modeMoves u.mode (stateOf (execInjectBit r l count s) u).mode = true :=
  stateOf_moves (fun _ h => k ▸ KeptMode_moves (execInjectBit_mode _ _ _ _ _ h))

theorem stateOf_execInjectSymbol_moves (r : Req) (l : Fin 64) (count : BitVec 8) (s : State) (u : State) (k : KeptMode u s) :
    modeMoves u.mode (stateOf (execInjectSymbol r l count s) u).mode = true :=
  stateOf_moves (fun _ h => k ▸ KeptMode_moves (execInjectSymbol_mode _ _ _ _ _ h))

theorem stateOf_execInjectSync_moves (r : Req) (l : Fin 64) (s : State) (u : State) (k : KeptMode u s) :
    modeMoves u.mode (stateOf (execInjectSync r l s) u).mode = true :=
  stateOf_moves (fun _ h => k ▸ KeptMode_moves (execInjectSync_mode _ _ _ _ h))

theorem stateOf_execInjectLol_moves (r : Req) (l : Fin 64) (s : State) (u : State) (k : KeptMode u s) :
    modeMoves u.mode (stateOf (execInjectLol r l s) u).mode = true :=
  stateOf_moves (fun _ h => k ▸ KeptMode_moves (execInjectLol_mode _ _ _ _ h))

theorem stateOf_execFulltest_moves (r : Req) (s : State) (u : State) (k : KeptMode u s) :
    modeMoves u.mode (stateOf (execFulltest r s) u).mode = true :=
  stateOf_moves (fun _ h => k ▸ KeptMode_moves (execFulltest_mode _ _ _ h))

theorem stateOf_execFuseCommit_moves (r : Req) (s : State) (u : State) (k : KeptMode u s) :
    modeMoves u.mode (stateOf (execFuseCommit r s) u).mode = true :=
  stateOf_moves (fun _ h => k ▸ KeptMode_moves (execFuseCommit_mode _ _ _ h))

theorem stateOf_execLegCmd_moves (r : Req) (s : State) (u : State) (k : KeptMode u s) :
    modeMoves u.mode (stateOf (execLegCmd r s) u).mode = true :=
  stateOf_moves (fun _ h => k ▸ KeptMode_moves (execLegCmd_mode _ _ _ h))

theorem stateOf_execAbortFulltest_moves (r : Req) (s : State) (u : State) (k : KeptMode u s) :
    modeMoves u.mode (stateOf (execAbortFulltest r s) u).mode = true :=
  stateOf_moves (fun _ h => k ▸ KeptMode_moves (execAbortFulltest_mode _ _ _ h))

theorem stateOf_execSense_moves (why : SenseWhy) (weak : List (Fin 1024 × BitVec 64)) (s : State) (u : State) (k : KeptMode u s) :
    modeMoves u.mode (stateOf (execSense why weak s) u).mode = true :=
  stateOf_moves (fun _ h => k ▸ KeptMode_moves (execSense_mode _ _ _ _ h))

theorem stateOf_execReinforce_moves (r : Req) (s : State) (u : State) (k : KeptMode u s) :
    modeMoves u.mode (stateOf (execReinforce r s) u).mode = true :=
  stateOf_moves (fun _ h => k ▸ KeptMode_moves (execReinforce_mode _ _ _ h))

theorem stateOf_execUpdBegin_moves (r : Req) (flashOk : Bool) (s : State) (u : State) (k : KeptMode u s) :
    modeMoves u.mode (stateOf (execUpdBegin r flashOk s) u).mode = true :=
  stateOf_moves (fun _ h => k ▸ KeptMode_moves (execUpdBegin_mode _ _ _ _ h))

theorem stateOf_execUpdChunk_moves (r : Req) (flashOk : Bool) (s : State) (u : State) (k : KeptMode u s) :
    modeMoves u.mode (stateOf (execUpdChunk r flashOk s) u).mode = true :=
  stateOf_moves (fun _ h => k ▸ KeptMode_moves (execUpdChunk_mode _ _ _ _ h))

theorem stateOf_execUpdVerify_moves (r : Req) (s : State) (u : State) (k : KeptMode u s) :
    modeMoves u.mode (stateOf (execUpdVerify r s) u).mode = true :=
  stateOf_moves (fun _ h => k ▸ KeptMode_moves (execUpdVerify_mode _ _ _ h))

theorem stateOf_execActivate_moves (r : Req) (ok : Bool) (s : State) (u : State) (k : KeptMode u s) :
    modeMoves u.mode (stateOf (execActivate r ok s) u).mode = true :=
  stateOf_moves (fun _ h => k ▸ KeptMode_moves (execActivate_mode _ _ _ _ h))

theorem stateOf_execConfirm_moves (r : Req) (s : State) (u : State) (k : KeptMode u s) :
    modeMoves u.mode (stateOf (execConfirm r s) u).mode = true :=
  stateOf_moves (fun _ h => k ▸ KeptMode_moves (execConfirm_mode _ _ _ h))

theorem stateOf_execRollback_moves (r : Req) (s : State) (u : State) (k : KeptMode u s) :
    modeMoves u.mode (stateOf (execRollback r s) u).mode = true :=
  stateOf_moves (fun _ h => k ▸ KeptMode_moves (execRollback_mode _ _ _ h))

theorem stateOf_execUpdAbort_moves (r : Req) (s : State) (u : State) (k : KeptMode u s) :
    modeMoves u.mode (stateOf (execUpdAbort r s) u).mode = true :=
  stateOf_moves (fun _ h => k ▸ KeptMode_moves (execUpdAbort_mode _ _ _ h))

theorem stateOf_execReanalyse_moves (r : Req) (s : State) (u : State) (k : KeptMode u s) :
    modeMoves u.mode (stateOf (execReanalyse r s) u).mode = true :=
  stateOf_moves (fun _ h => k ▸ KeptMode_moves (execReanalyse_mode _ _ _ h))

theorem stateOf_execClearLat_moves (r : Req) (s : State) (u : State) (k : KeptMode u s) :
    modeMoves u.mode (stateOf (execClearLat r s) u).mode = true :=
  stateOf_moves (fun _ h => k ▸ KeptMode_moves (execClearLat_mode _ _ _ h))

theorem stateOf_execAckAlertn_moves (r : Req) (s : State) (u : State) (k : KeptMode u s) :
    modeMoves u.mode (stateOf (execAckAlertn r s) u).mode = true :=
  stateOf_moves (fun _ h => k ▸ KeptMode_moves (execAckAlertn_mode _ _ _ h))

theorem stateOf_execClearAll_moves (r : Req) (s : State) (u : State) (k : KeptMode u s) :
    modeMoves u.mode (stateOf (execClearAll r s) u).mode = true :=
  stateOf_moves (fun _ h => k ▸ KeptMode_moves (execClearAll_mode _ _ _ h))

theorem stateOf_execResync_moves (r : Req) (src : Fin 256) (s : State) (u : State) (k : KeptMode u s) :
    modeMoves u.mode (stateOf (execResync r src s) u).mode = true :=
  stateOf_moves (fun _ h => k ▸ KeptMode_moves (execResync_mode _ _ _ _ h))

theorem stateOf_execFltForce_moves (r : Req) (i : Fin 4) (v : Word) (s : State) (u : State) (k : KeptMode u s) :
    modeMoves u.mode (stateOf (execFltForce r i v s) u).mode = true :=
  stateOf_moves (fun _ h => k ▸ execFltForce_moves _ _ _ _ _ h)

theorem stateOf_execPmcSelWrite_moves (r : Req) (n : Fin 128) (v : Word) (s : State) (u : State) (k : KeptMode u s) :
    modeMoves u.mode (stateOf (execPmcSelWrite r n v s) u).mode = true :=
  stateOf_moves (fun _ h => k ▸ KeptMode_moves (execPmcSelWrite_mode _ _ _ _ _ h))

theorem stateOf_execDebugUnlock_moves (r : Req) (v : Word) (s : State) (u : State) (k : KeptMode u s) :
    modeMoves u.mode (stateOf (execDebugUnlock r v s) u).mode = true :=
  stateOf_moves (fun _ h => k ▸ KeptMode_moves (execDebugUnlock_mode _ _ _ _ h))

theorem stateOf_execFseSlock_moves (r : Req) (n : Fin 16) (v : Word) (s : State) (u : State) (k : KeptMode u s) :
    modeMoves u.mode (stateOf (execFseSlock r n v s) u).mode = true :=
  stateOf_moves (fun _ h => k ▸ KeptMode_moves (execFseSlock_mode _ _ _ _ _ h))

theorem stateOf_execClearPeak_moves (r : Req) (s : State) (u : State) (k : KeptMode u s) :
    modeMoves u.mode (stateOf (execClearPeak r s) u).mode = true :=
  stateOf_moves (fun _ h => k ▸ KeptMode_moves (execClearPeak_mode _ _ _ h))

theorem stateOf_execPrbsCfgWrite_moves (r : Req) (l : Fin 64) (v : Word) (s : State) (u : State) (k : KeptMode u s) :
    modeMoves u.mode (stateOf (execPrbsCfgWrite r l v s) u).mode = true :=
  stateOf_moves (fun _ h => k ▸ KeptMode_moves (execPrbsCfgWrite_mode _ _ _ _ _ h))

theorem stateOf_execDmcFreqReq_moves (r : Req) (v : Word) (s : State) (u : State) (k : KeptMode u s) :
    modeMoves u.mode (stateOf (execDmcFreqReq r v s) u).mode = true :=
  stateOf_moves (fun _ h => k ▸ KeptMode_moves (execDmcFreqReq_mode _ _ _ _ h))

theorem stateOf_execEccInjArm_moves (r : Req) (v : Word) (s : State) (u : State) (k : KeptMode u s) :
    modeMoves u.mode (stateOf (execEccInjArm r v s) u).mode = true :=
  stateOf_moves (fun _ h => k ▸ KeptMode_moves (execEccInjArm_mode _ _ _ _ h))

theorem stateOf_execCadExcRptrWrite_moves (r : Req) (v : Word) (s : State) (u : State) (k : KeptMode u s) :
    modeMoves u.mode (stateOf (execCadExcRptrWrite r v s) u).mode = true :=
  stateOf_moves (fun _ h => k ▸ KeptMode_moves (execCadExcRptrWrite_mode _ _ _ _ h))

theorem stateOf_execRaeRingCfgWrite_moves (r : Req) (v : Word) (s : State) (u : State) (k : KeptMode u s) :
    modeMoves u.mode (stateOf (execRaeRingCfgWrite r v s) u).mode = true :=
  stateOf_moves (fun _ h => k ▸ KeptMode_moves (execRaeRingCfgWrite_mode _ _ _ _ h))

theorem stateOf_execRaeRingRptrWrite_moves (r : Req) (v : Word) (s : State) (u : State) (k : KeptMode u s) :
    modeMoves u.mode (stateOf (execRaeRingRptrWrite r v s) u).mode = true :=
  stateOf_moves (fun _ h => k ▸ KeptMode_moves (execRaeRingRptrWrite_mode _ _ _ _ h))

theorem State.writeModeReq_moves (s : State) (r : Req) (v : Word) : modeMoves s.mode (s.writeModeReq r v).mode = true := by
  unfold State.writeModeReq
  (try dsimp only)
  repeat' split
  all_goals first
    | (with_reducible exact stateOf_execModeReqService_moves _ _ _ _ (by simp))
    | (with_reducible exact stateOf_execModeReqHold_moves _ _ _ (by simp))
    | (with_reducible exact stateOf_execModeReqMaintain_moves _ _ _ (by simp))
    | (refine KeptMode_moves ?_; simp; done)

theorem State.writeDcmd_moves (s : State) (r : Req) (v : Word) : modeMoves s.mode (s.writeDcmd r v).mode = true := by
  unfold State.writeDcmd
  (try dsimp only)
  repeat' split
  all_goals first
    | (with_reducible exact stateOf_execDomOpen_moves _ _ _ _ (by simp))
    | (with_reducible exact stateOf_execDomClose_moves _ _ _ _ _ (by simp))
    | (with_reducible exact stateOf_execDomRelease_moves _ _ _ _ (by simp))
    | (with_reducible exact stateOf_execPoolDef_moves _ _ _ _ (by simp))
    | (with_reducible exact stateOf_execPoolDel_moves _ _ _ _ (by simp))
    | (refine KeptMode_moves ?_; simp; done)

theorem State.writeRcmd_moves (s : State) (r : Req) (v : Word) : modeMoves s.mode (s.writeRcmd r v).mode = true := by
  unfold State.writeRcmd
  (try dsimp only)
  repeat' split
  all_goals first
    | (with_reducible exact stateOf_execReadoutSummary_moves _ _ _ (by simp))
    | (with_reducible exact stateOf_execReadoutPoints_moves _ _ _ (by simp))
    | (with_reducible exact stateOf_execReadoutLines_moves _ _ _ (by simp))
    | (with_reducible exact stateOf_execReadoutCloseRecord_moves _ _ _ (by simp))
    | (refine KeptMode_moves ?_; simp; done)

theorem State.writeLaneCmd_moves (s : State) (r : Req) (l : Fin 64) (v : Word) : modeMoves s.mode (s.writeLaneCmd r l v).mode = true := by
  unfold State.writeLaneCmd
  (try dsimp only)
  repeat' split
  all_goals first
    | (with_reducible exact stateOf_execRetrain_moves _ _ _ _ (by simp))
    | (refine KeptMode_moves ?_; simp; done)

theorem State.writeInject_moves (s : State) (r : Req) (l : Fin 64) (v : Word) : modeMoves s.mode (s.writeInject r l v).mode = true := by
  unfold State.writeInject
  (try dsimp only)
  repeat' split
  all_goals first
    | (with_reducible exact stateOf_execInjectBit_moves _ _ _ _ _ (by simp))
    | (with_reducible exact stateOf_execInjectSymbol_moves _ _ _ _ _ (by simp))
    | (with_reducible exact stateOf_execInjectSync_moves _ _ _ _ (by simp))
    | (with_reducible exact stateOf_execInjectLol_moves _ _ _ _ (by simp))
    | (refine KeptMode_moves ?_; simp; done)

theorem State.writeBst_moves (s : State) (r : Req) (v : Word) : modeMoves s.mode (s.writeBst r v).mode = true := by
  unfold State.writeBst
  (try dsimp only)
  repeat' split
  all_goals first
    | (with_reducible exact stateOf_execFulltest_moves _ _ _ (by simp))
    | (with_reducible exact stateOf_execFuseCommit_moves _ _ _ (by simp))
    | (with_reducible exact stateOf_execLegCmd_moves _ _ _ (by simp))
    | (with_reducible exact stateOf_execAbortFulltest_moves _ _ _ (by simp))
    | (refine KeptMode_moves ?_; simp; done)

theorem State.writeFse_moves (s : State) (r : Req) (v : Word) : modeMoves s.mode (s.writeFse r v).mode = true := by
  unfold State.writeFse
  (try dsimp only)
  repeat' split
  all_goals first
    | (with_reducible exact stateOf_execSense_moves _ _ _ _ (by simp))
    | (with_reducible exact stateOf_execReinforce_moves _ _ _ (by simp))
    | (refine KeptMode_moves ?_; simp; done)

theorem State.writeUpd_moves (s : State) (r : Req) (v : Word) : modeMoves s.mode (s.writeUpd r v).mode = true := by
  unfold State.writeUpd
  (try dsimp only)
  repeat' split
  all_goals first
    | (with_reducible exact stateOf_execUpdBegin_moves _ _ _ _ (by simp))
    | (with_reducible exact stateOf_execUpdChunk_moves _ _ _ _ (by simp))
    | (with_reducible exact stateOf_execUpdVerify_moves _ _ _ (by simp))
    | (with_reducible exact stateOf_execActivate_moves _ _ _ _ (by simp))
    | (with_reducible exact stateOf_execConfirm_moves _ _ _ (by simp))
    | (with_reducible exact stateOf_execRollback_moves _ _ _ (by simp))
    | (with_reducible exact stateOf_execUpdAbort_moves _ _ _ (by simp))
    | (refine KeptMode_moves ?_; simp; done)

theorem State.writeRae_moves (s : State) (r : Req) (v : Word) : modeMoves s.mode (s.writeRae r v).mode = true := by
  unfold State.writeRae
  (try dsimp only)
  repeat' split
  all_goals first
    | (with_reducible exact stateOf_execReanalyse_moves _ _ _ (by simp))
    | (with_reducible exact stateOf_execClearLat_moves _ _ _ (by simp))
    | (refine KeptMode_moves ?_; simp; done)

theorem State.writeFlt_moves (s : State) (r : Req) (v : Word) : modeMoves s.mode (s.writeFlt r v).mode = true := by
  unfold State.writeFlt
  (try dsimp only)
  repeat' split
  all_goals first
    | (with_reducible exact stateOf_execAckAlertn_moves _ _ _ (by simp))
    | (with_reducible exact stateOf_execClearAll_moves _ _ _ (by simp))
    | (refine KeptMode_moves ?_; simp; done)

theorem State.writeSrcCmd_moves (s : State) (r : Req) (i : Fin 256) (v : Word) : modeMoves s.mode (s.writeSrcCmd r i v).mode = true := by
  unfold State.writeSrcCmd
  (try dsimp only)
  repeat' split
  all_goals first
    | (with_reducible exact stateOf_execResync_moves _ _ _ _ (by simp))
    | (refine KeptMode_moves ?_; simp; done)

theorem ite_some_moves {c : Prop} [Decidable c] {x : State} {y : Option State} {m : Mode} {t : State}
    (h : (if c then some x else y) = some t) (hx : modeMoves m x.mode = true) (hy : y = some t → modeMoves m t.mode = true) :
    modeMoves m t.mode = true := by
  split at h
  · simp only [Option.some.injEq] at h
    exact h ▸ hx
  · exact hy h

theorem State.writeCommand_moves (s : State) (r : Req) (a : Nat) (v : Word) (t : State) (h : s.writeCommand r a v = some t) :
    modeMoves s.mode t.mode = true := by
  unfold State.writeCommand at h
  repeat' refine ite_some_moves h ?_ (fun h => ?_)
  all_goals first
    | (simp only [reduceCtorEq] at h; done)
    | (with_reducible exact stateOf_execFltForce_moves _ _ _ _ _ (by simp))
    | (with_reducible exact stateOf_execPmcSelWrite_moves _ _ _ _ _ (by simp))
    | (with_reducible exact stateOf_execDebugUnlock_moves _ _ _ _ (by simp))
    | (with_reducible exact stateOf_execFseSlock_moves _ _ _ _ _ (by simp))
    | (with_reducible exact stateOf_execClearPeak_moves _ _ _ (by simp))
    | (with_reducible exact stateOf_execPrbsCfgWrite_moves _ _ _ _ _ (by simp))
    | (with_reducible exact stateOf_execDmcFreqReq_moves _ _ _ _ (by simp))
    | (with_reducible exact stateOf_execEccInjArm_moves _ _ _ _ (by simp))
    | (with_reducible exact stateOf_execCadExcRptrWrite_moves _ _ _ _ (by simp))
    | (with_reducible exact stateOf_execRaeRingCfgWrite_moves _ _ _ _ (by simp))
    | (with_reducible exact stateOf_execRaeRingRptrWrite_moves _ _ _ _ (by simp))
    | (with_reducible exact State.writeModeReq_moves _ _ _)
    | (with_reducible exact State.writeDcmd_moves _ _ _)
    | (with_reducible exact State.writeRcmd_moves _ _ _)
    | (with_reducible exact State.writeLaneCmd_moves _ _ _ _)
    | (with_reducible exact State.writeInject_moves _ _ _ _)
    | (with_reducible exact State.writeBst_moves _ _ _)
    | (with_reducible exact State.writeFse_moves _ _ _)
    | (with_reducible exact State.writeUpd_moves _ _ _)
    | (with_reducible exact State.writeRae_moves _ _ _)
    | (with_reducible exact State.writeFlt_moves _ _ _)
    | (with_reducible exact State.writeSrcCmd_moves _ _ _ _)
    | (refine KeptMode_moves ?_; simp; done)
    | (refine KeptMode_moves ?_; split <;> simp; done)
    | (split <;> first
        | (with_reducible exact stateOf_execClearPeak_moves _ _ _ (by simp))
        | exact KeptMode_moves (by simp))

theorem State.write4_moves (s : State) (r : Req) (a : Nat) (v : Word) : modeMoves s.mode (s.write4 r a v).mode = true := by
  unfold State.write4
  dsimp only
  split
  · exact State.writeCommand_moves _ _ _ _ _ ‹_›
  · refine KeptMode_moves ?_
    repeat' split
    all_goals simp

theorem State.regWrite_moves (s : State) (r : Req) (a z : Nat) (v : BitVec 64) (late : Bool) :
    modeMoves s.mode (s.regWrite r a z v late).mode = true := by
  have h8 : modeMoves s.mode (s.write8 r a v).mode = true := by
    unfold State.write8
    dsimp only
    split
    · exact KeptMode_moves (by split <;> simp)
    · split
      · exact modeMoves_trans _ _ _ (State.write4_moves _ _ _ _) (State.write4_moves _ _ _ _)
      · exact State.write4_moves _ _ _ _
  unfold State.regWrite
  dsimp only
  repeat' split
  · exact KeptMode_moves (by simp)
  · exact h8
  · exact State.write4_moves _ _ _ _

theorem State.runOp_moves (s : State) (r : Req) (a b : List Byte) (late : Bool) : modeMoves s.mode (s.runOp r a b late).st.mode = true := by
  unfold State.runOp
  dsimp only
  repeat' split
  · exact KeptMode_moves (by simp)
  · exact KeptMode_moves (by simp)
  · exact KeptMode_moves (by simp)
  · exact State.regWrite_moves _ _ _ _ _ _

theorem State.runOps_moves (s : State) (r : Req) (b : Bool) (late : BitVec 32) (l : List (List Byte × List Byte)) :
    modeMoves s.mode (s.runOps r b late l).1.mode = true := by
  induction l generalizing s late with
  | nil => exact modeMoves_refl _
  | cons e rest ih =>
    unfold State.runOps
    dsimp only
    split
    · exact State.runOp_moves _ _ _ _ _
    · exact modeMoves_trans _ _ _ (State.runOp_moves _ _ _ _ _) (ih _ _)

theorem State.ctlServe_moves (s : State) (r : Req) (a b : Bool) (l : List Byte) (late : BitVec 32) :
    modeMoves s.mode (s.ctlServe r a b l late).1.mode = true := by
  unfold State.ctlServe
  dsimp only
  split
  · exact State.runOps_moves _ _ _ _ _
  · exact KeptMode_moves (by simp)

theorem State.enrolBegun_mode (after before : State) (via : EnrolVia) (v : State) (h : after.enrolBegun before via = some v) :
    v.mode = after.mode := by
  unfold State.enrolBegun at h
  split at h
  · simp only [Option.some.injEq] at h
    subst h
    rfl
  · simp at h

/-- A request served moves the mode as its operations do, whether it is answered at once or at an ENROLL's end. -/
theorem State.served_moves (a b u : State) (via : EnrolVia) (f : State → State) (hf : ∀ x, KeptMode x (f x))
    (h : modeMoves a.mode u.mode = true) :
    modeMoves a.mode (match u.enrolBegun b via with
      | some v => v.servingDone
      | none => (f u).servingDone).mode = true := by
  split
  · rename_i v hv
    have h1 := State.enrolBegun_mode _ _ _ _ hv
    simpa [h1] using h
  · have h1 := hf u
    simp only [KeptMode] at h1
    simpa [h1] using h

theorem State.ctlRequest_moves (s : State) (k : Fin 16) (p : Packet) (late : BitVec 32) :
    modeMoves s.mode (s.ctlRequest k p late).mode = true := by
  unfold State.ctlRequest
  dsimp only
  generalize ht : (s.setChainP k { s.chainP k with ctlOwed := (s.chainP k).ctlOwed ++ [pktCost p] }).requestCheck k p = t
  have hk : t.1.mode = s.mode := by
    rw [← ht]
    simp
  rw [← hk]
  split
  · refine State.served_moves t.1 _ _ _ (fun x => x.answerWith _ _ _) (fun x => by simp) ?_
    have h := State.ctlServe_moves (t.1.servingFor (t.1.requestSession k p)) (packetReq k p) p.tagged t.1.sessionModes (packetBody p) late
    simpa using h
  · exact KeptMode_moves (by simp)

theorem State.dispatchPacket_moves (s : State) (k : Fin 16) (p : Packet) (late : BitVec 32) :
    modeMoves s.mode (s.dispatchPacket k p late).mode = true := by
  unfold State.dispatchPacket
  split
  case h_5 => exact State.ctlRequest_moves _ _ _ _
  all_goals exact KeptMode_moves (by simp)

theorem State.receive_moves (s : State) (k : Fin 16) (p : Packet) (b : Bool) (late : BitVec 32) :
    modeMoves s.mode (s.receive k p b late).mode = true := by
  unfold State.receive
  split
  case h_6 =>
    have h := State.dispatchPacket_moves (s.acceptPacket k p) k p late
    simpa using h
  all_goals exact KeptMode_moves (by simp)

theorem State.closeBlocks_moves (s : State) (k : Fin 16) (late : BitVec 32) (l : List (Option RxBlock)) :
    modeMoves s.mode (s.closeBlocks k late l).mode = true := by
  unfold State.closeBlocks
  repeat' split
  · exact modeMoves_refl _
  · exact State.receive_moves _ _ _ _ _
  · exact KeptMode_moves (by simp)

theorem State.takeSlot_moves (s : State) (k : Fin 16) (late : BitVec 32) (b : Option RxBlock) :
    modeMoves s.mode (s.takeSlot k late b).mode = true := by
  unfold State.takeSlot
  dsimp only
  repeat' split
  all_goals first
    | exact State.closeBlocks_moves (s.setChainP _ _) _ _ _
    | exact KeptMode_moves (by simp)

theorem State.takeStripe_moves (s : State) (k : Fin 16) (late : BitVec 32) (l : List (Option RxBlock)) :
    modeMoves s.mode (s.takeStripe k late l).mode = true := by
  unfold State.takeStripe
  generalize l.filter isAck ++ l.filter (fun b => !isAck b) = m
  induction m generalizing s with
  | nil => exact modeMoves_refl _
  | cons b rest ih => exact modeMoves_trans _ _ _ (State.takeSlot_moves _ _ _ _) (ih _)

theorem State.rxColumn_moves (s : State) (k : Fin 16) (late : BitVec 32) (f : Nat → Option RxBlock) :
    modeMoves s.mode (s.rxColumn k late f).mode = true := by
  have key : ∀ u : State, u.mode = s.mode → modeMoves s.mode (if (u.chainL k).rxMask = 0 then u
      else (u.setChainL k { u.chainL k with rxStripe := ((u.chainL k).rxStripe + 1) % 4294967296 }).takeStripe k late
        (((u.chainL k).lanesIn (u.chainL k).rxMask).map f)).mode = true := by
    intro u hu
    split
    · exact KeptMode_moves hu
    · exact modeMoves_trans _ _ _ (KeptMode_moves (by simp [hu])) (State.takeStripe_moves _ _ _ _)
  unfold State.rxColumn
  dsimp only
  split
  · split
    · exact modeMoves_refl _
    · exact KeptMode_moves (by simp)
  · refine key _ ?_
    (repeat' split) <;> simp

/-- Block positions taken in turn. -/
theorem State.rxColumns_moves (s : State) (k : Fin 16) (late : BitVec 32) (f : Nat → Nat → Option RxBlock) (l : List Nat) :
    modeMoves s.mode (l.foldl (fun (t : State) i => t.rxColumn k late (f i)) s).mode = true := by
  induction l generalizing s with
  | nil => exact modeMoves_refl _
  | cons i rest ih => exact modeMoves_trans _ _ _ (State.rxColumn_moves _ _ _ _) (ih _)

theorem State.destripe_moves (s : State) (k : Fin 16) (late : BitVec 32) (n : Nat) :
    modeMoves s.mode (s.destripe k late n).mode = true := by
  induction n generalizing s with
  | zero => exact modeMoves_refl _
  | succ n ih =>
    unfold State.destripe
    dsimp only
    split
    · exact modeMoves_refl _
    · exact modeMoves_trans _ _ _ (modeMoves_trans _ _ _ (KeptMode_moves (by simp)) (State.rxColumns_moves _ k late _ _)) (ih _)

theorem State.takeCodeword_moves (s : State) (k l : Nat) (c : Nat × Option Nat × List RxBlock) (offs : Nat) (late : BitVec 32) :
    modeMoves s.mode (s.takeCodeword k l c offs late).mode = true := by
  unfold State.takeCodeword
  dsimp only
  split
  · exact modeMoves_trans _ _ _ (KeptMode_moves (by simp)) (State.destripe_moves _ _ _ _)
  · exact KeptMode_moves (by simp)

theorem execFecCodewordReceived_moves (l : Fin 64) (w : List (BitVec 10)) (o : Fin 5) (late : BitVec 32) (s t : State)
    (h : execFecCodewordReceived l w o late s = .next t) : modeMoves s.mode t.mode = true := by
  unfold execFecCodewordReceived at h
  repeat' split at h
  all_goals first
    | (cases h; exact State.takeCodeword_moves _ _ _ _ _ _)
    | (cases h; exact modeMoves_refl _)
    | (cases h; done)

theorem State.i3cServe_moves (s : State) (p : Packet) (late : BitVec 32) : modeMoves s.mode (s.i3cServe p late).mode = true := by
  unfold State.i3cServe
  dsimp only
  refine State.served_moves s _ _ _ (fun x => x.i3cRespond _ _) (fun x => by simp) ?_
  generalize hs : (if p.tagged = true then s.sessionAt 16 (tagSid p.payload) else none) = sess
  have h := State.ctlServe_moves (s.servingFor sess) (i3cReq (if p.tagged then tagSid p.payload else 0)) p.tagged s.sessionModes
    (packetBody p) late
  simpa using h

theorem State.i3cFrame_moves (s : State) (l : List Byte) (late : BitVec 32) : modeMoves s.mode (s.i3cFrame l late).mode = true := by
  unfold State.i3cFrame
  dsimp only
  split
  · generalize ht : (if (framePacket l).tagged = true then s.tagCheck 16 (framePacket l) else (s, true)) = t
    have hk : t.1.mode = s.mode := by
      rw [← ht]
      split <;> simp
    rw [← hk]
    split
    · exact State.i3cServe_moves _ _ _
    · exact KeptMode_moves (by simp)
  · exact KeptMode_moves (by simp)

theorem State.i3cWrite_moves (s : State) (l : List Byte) (late : BitVec 32) : modeMoves s.mode (s.i3cWrite l late).mode = true := by
  unfold State.i3cWrite
  split
  · exact KeptMode_moves (by simp)
  · split
    · exact KeptMode_moves (by simp)
    · exact modeMoves_trans _ _ _ (KeptMode_moves (by simp)) (State.i3cFrame_moves _ _ _)
    · exact KeptMode_moves (by simp)

end Sys2Proof.Machine
end

