-- ==== Sys2Proof/Laws/State.lean ====
section
/-! SUPPORT. Sys2Proof/Laws/State.lean: what each named update of the state leaves as it was, field by field, and what a
register, a unit, a lane, a chain or a channel reads after it. -/
namespace Sys2Proof.Machine

/-- A fold keeps what each of its steps keeps. -/
theorem foldl_keeps {α β : Type} (p : State → β) (f : State → α → State) (l : List α) (s : State) (h : ∀ t x, p (f t x) = p t) :
    p (l.foldl f s) = p s := by
  induction l generalizing s with
  | nil => rfl
  | cons x r ih => exact (ih _).trans (h s x)

@[simp] theorem State.wr_keeps (s : State) (a : Nat) (v : Word) :
    (s.wr a v).pending = s.pending ∧ (s.wr a v).mode = s.mode ∧ (s.wr a v).trans = s.trans ∧ (s.wr a v).warm = s.warm ∧ 
    (s.wr a v).shadow = s.shadow ∧ (s.wr a v).latches = s.latches ∧ (s.wr a v).gtime = s.gtime ∧ (s.wr a v).vxu = s.vxu ∧ 
    (s.wr a v).cad = s.cad ∧ (s.wr a v).rae = s.rae ∧ (s.wr a v).lanes = s.lanes ∧ (s.wr a v).chains = s.chains ∧ 
    (s.wr a v).pkt = s.pkt ∧ (s.wr a v).flt = s.flt ∧ (s.wr a v).pmc = s.pmc ∧ (s.wr a v).sec = s.sec ∧ 
    (s.wr a v).avail = s.avail ∧ (s.wr a v).cfg = s.cfg ∧ (s.wr a v).qos = s.qos ∧ (s.wr a v).dmc = s.dmc ∧ 
    (s.wr a v).bst = s.bst ∧ (s.wr a v).thm = s.thm ∧ (s.wr a v).pwr = s.pwr ∧ (s.wr a v).fse = s.fse ∧ (s.wr a v).upd = s.upd ∧ 
    (s.wr a v).aon = s.aon ∧ (s.wr a v).i3c = s.i3c ∧ (s.wr a v).tap = s.tap ∧ (s.wr a v).mem = s.mem ∧ 
    (s.wr a v).errs = s.errs ∧ (s.wr a v).out = s.out ∧ (s.wr a v).answer = s.answer ∧ (s.wr a v).fresh = s.fresh := by
  and_intros <;> rfl

@[simp] theorem State.wrN_keeps (s : State) (a n : Nat) :
    (s.wrN a n).pending = s.pending ∧ (s.wrN a n).mode = s.mode ∧ (s.wrN a n).trans = s.trans ∧ (s.wrN a n).warm = s.warm ∧ 
    (s.wrN a n).shadow = s.shadow ∧ (s.wrN a n).latches = s.latches ∧ (s.wrN a n).gtime = s.gtime ∧ (s.wrN a n).vxu = s.vxu ∧ 
    (s.wrN a n).cad = s.cad ∧ (s.wrN a n).rae = s.rae ∧ (s.wrN a n).lanes = s.lanes ∧ (s.wrN a n).chains = s.chains ∧ 
    (s.wrN a n).pkt = s.pkt ∧ (s.wrN a n).flt = s.flt ∧ (s.wrN a n).pmc = s.pmc ∧ (s.wrN a n).sec = s.sec ∧ 
    (s.wrN a n).avail = s.avail ∧ (s.wrN a n).cfg = s.cfg ∧ (s.wrN a n).qos = s.qos ∧ (s.wrN a n).dmc = s.dmc ∧ 
    (s.wrN a n).bst = s.bst ∧ (s.wrN a n).thm = s.thm ∧ (s.wrN a n).pwr = s.pwr ∧ (s.wrN a n).fse = s.fse ∧ 
    (s.wrN a n).upd = s.upd ∧ (s.wrN a n).aon = s.aon ∧ (s.wrN a n).i3c = s.i3c ∧ (s.wrN a n).tap = s.tap ∧ 
    (s.wrN a n).mem = s.mem ∧ (s.wrN a n).errs = s.errs ∧ (s.wrN a n).out = s.out ∧ (s.wrN a n).answer = s.answer ∧ 
    (s.wrN a n).fresh = s.fresh := by
  and_intros <;> rfl

@[simp] theorem State.wr64_keeps (s : State) (a n : Nat) :
    (s.wr64 a n).pending = s.pending ∧ (s.wr64 a n).mode = s.mode ∧ (s.wr64 a n).trans = s.trans ∧ (s.wr64 a n).warm = s.warm ∧ 
    (s.wr64 a n).shadow = s.shadow ∧ (s.wr64 a n).latches = s.latches ∧ (s.wr64 a n).gtime = s.gtime ∧ 
    (s.wr64 a n).vxu = s.vxu ∧ (s.wr64 a n).cad = s.cad ∧ (s.wr64 a n).rae = s.rae ∧ (s.wr64 a n).lanes = s.lanes ∧ 
    (s.wr64 a n).chains = s.chains ∧ (s.wr64 a n).pkt = s.pkt ∧ (s.wr64 a n).flt = s.flt ∧ (s.wr64 a n).pmc = s.pmc ∧ 
    (s.wr64 a n).sec = s.sec ∧ (s.wr64 a n).avail = s.avail ∧ (s.wr64 a n).cfg = s.cfg ∧ (s.wr64 a n).qos = s.qos ∧ 
    (s.wr64 a n).dmc = s.dmc ∧ (s.wr64 a n).bst = s.bst ∧ (s.wr64 a n).thm = s.thm ∧ (s.wr64 a n).pwr = s.pwr ∧ 
    (s.wr64 a n).fse = s.fse ∧ (s.wr64 a n).upd = s.upd ∧ (s.wr64 a n).aon = s.aon ∧ (s.wr64 a n).i3c = s.i3c ∧ 
    (s.wr64 a n).tap = s.tap ∧ (s.wr64 a n).mem = s.mem ∧ (s.wr64 a n).errs = s.errs ∧ (s.wr64 a n).out = s.out ∧ 
    (s.wr64 a n).answer = s.answer ∧ (s.wr64 a n).fresh = s.fresh := by
  and_intros <;> rfl

@[simp] theorem State.setFld_keeps (s : State) (a : Nat) (f : Fld) (n : Nat) :
    (s.setFld a f n).pending = s.pending ∧ (s.setFld a f n).mode = s.mode ∧ (s.setFld a f n).trans = s.trans ∧ 
    (s.setFld a f n).warm = s.warm ∧ (s.setFld a f n).shadow = s.shadow ∧ (s.setFld a f n).latches = s.latches ∧ 
    (s.setFld a f n).gtime = s.gtime ∧ (s.setFld a f n).vxu = s.vxu ∧ (s.setFld a f n).cad = s.cad ∧ 
    (s.setFld a f n).rae = s.rae ∧ (s.setFld a f n).lanes = s.lanes ∧ (s.setFld a f n).chains = s.chains ∧ 
    (s.setFld a f n).pkt = s.pkt ∧ (s.setFld a f n).flt = s.flt ∧ (s.setFld a f n).pmc = s.pmc ∧ (s.setFld a f n).sec = s.sec ∧ 
    (s.setFld a f n).avail = s.avail ∧ (s.setFld a f n).cfg = s.cfg ∧ (s.setFld a f n).qos = s.qos ∧ 
    (s.setFld a f n).dmc = s.dmc ∧ (s.setFld a f n).bst = s.bst ∧ (s.setFld a f n).thm = s.thm ∧ (s.setFld a f n).pwr = s.pwr ∧ 
    (s.setFld a f n).fse = s.fse ∧ (s.setFld a f n).upd = s.upd ∧ (s.setFld a f n).aon = s.aon ∧ (s.setFld a f n).i3c = s.i3c ∧ 
    (s.setFld a f n).tap = s.tap ∧ (s.setFld a f n).mem = s.mem ∧ (s.setFld a f n).errs = s.errs ∧ 
    (s.setFld a f n).out = s.out ∧ (s.setFld a f n).answer = s.answer ∧ (s.setFld a f n).fresh = s.fresh := by
  and_intros <;> rfl

@[simp] theorem State.setBits_keeps (s : State) (a : Nat) (m : Word) :
    (s.setBits a m).pending = s.pending ∧ (s.setBits a m).mode = s.mode ∧ (s.setBits a m).trans = s.trans ∧ 
    (s.setBits a m).warm = s.warm ∧ (s.setBits a m).shadow = s.shadow ∧ (s.setBits a m).latches = s.latches ∧ 
    (s.setBits a m).gtime = s.gtime ∧ (s.setBits a m).vxu = s.vxu ∧ (s.setBits a m).cad = s.cad ∧ (s.setBits a m).rae = s.rae ∧ 
    (s.setBits a m).lanes = s.lanes ∧ (s.setBits a m).chains = s.chains ∧ (s.setBits a m).pkt = s.pkt ∧ 
    (s.setBits a m).flt = s.flt ∧ (s.setBits a m).pmc = s.pmc ∧ (s.setBits a m).sec = s.sec ∧ (s.setBits a m).avail = s.avail ∧ 
    (s.setBits a m).cfg = s.cfg ∧ (s.setBits a m).qos = s.qos ∧ (s.setBits a m).dmc = s.dmc ∧ (s.setBits a m).bst = s.bst ∧ 
    (s.setBits a m).thm = s.thm ∧ (s.setBits a m).pwr = s.pwr ∧ (s.setBits a m).fse = s.fse ∧ (s.setBits a m).upd = s.upd ∧ 
    (s.setBits a m).aon = s.aon ∧ (s.setBits a m).i3c = s.i3c ∧ (s.setBits a m).tap = s.tap ∧ (s.setBits a m).mem = s.mem ∧ 
    (s.setBits a m).errs = s.errs ∧ (s.setBits a m).out = s.out ∧ (s.setBits a m).answer = s.answer ∧ 
    (s.setBits a m).fresh = s.fresh := by
  and_intros <;> rfl

@[simp] theorem State.event_keeps (s : State) (a : Nat) (f : Fld) :
    (s.event a f).pending = s.pending ∧ (s.event a f).mode = s.mode ∧ (s.event a f).trans = s.trans ∧ 
    (s.event a f).warm = s.warm ∧ (s.event a f).shadow = s.shadow ∧ (s.event a f).latches = s.latches ∧ 
    (s.event a f).gtime = s.gtime ∧ (s.event a f).vxu = s.vxu ∧ (s.event a f).cad = s.cad ∧ (s.event a f).rae = s.rae ∧ 
    (s.event a f).lanes = s.lanes ∧ (s.event a f).chains = s.chains ∧ (s.event a f).pkt = s.pkt ∧ (s.event a f).flt = s.flt ∧ 
    (s.event a f).pmc = s.pmc ∧ (s.event a f).sec = s.sec ∧ (s.event a f).avail = s.avail ∧ (s.event a f).cfg = s.cfg ∧ 
    (s.event a f).qos = s.qos ∧ (s.event a f).dmc = s.dmc ∧ (s.event a f).bst = s.bst ∧ (s.event a f).thm = s.thm ∧ 
    (s.event a f).pwr = s.pwr ∧ (s.event a f).fse = s.fse ∧ (s.event a f).upd = s.upd ∧ (s.event a f).aon = s.aon ∧ 
    (s.event a f).i3c = s.i3c ∧ (s.event a f).tap = s.tap ∧ (s.event a f).mem = s.mem ∧ (s.event a f).errs = s.errs ∧ 
    (s.event a f).out = s.out ∧ (s.event a f).answer = s.answer ∧ (s.event a f).fresh = s.fresh := by
  and_intros <;> rfl

@[simp] theorem State.satInc_keeps (s : State) (a n : Nat) :
    (s.satInc a n).pending = s.pending ∧ (s.satInc a n).mode = s.mode ∧ (s.satInc a n).trans = s.trans ∧ 
    (s.satInc a n).warm = s.warm ∧ (s.satInc a n).shadow = s.shadow ∧ (s.satInc a n).latches = s.latches ∧ 
    (s.satInc a n).gtime = s.gtime ∧ (s.satInc a n).vxu = s.vxu ∧ (s.satInc a n).cad = s.cad ∧ (s.satInc a n).rae = s.rae ∧ 
    (s.satInc a n).lanes = s.lanes ∧ (s.satInc a n).chains = s.chains ∧ (s.satInc a n).pkt = s.pkt ∧ 
    (s.satInc a n).flt = s.flt ∧ (s.satInc a n).pmc = s.pmc ∧ (s.satInc a n).sec = s.sec ∧ (s.satInc a n).avail = s.avail ∧ 
    (s.satInc a n).cfg = s.cfg ∧ (s.satInc a n).qos = s.qos ∧ (s.satInc a n).dmc = s.dmc ∧ (s.satInc a n).bst = s.bst ∧ 
    (s.satInc a n).thm = s.thm ∧ (s.satInc a n).pwr = s.pwr ∧ (s.satInc a n).fse = s.fse ∧ (s.satInc a n).upd = s.upd ∧ 
    (s.satInc a n).aon = s.aon ∧ (s.satInc a n).i3c = s.i3c ∧ (s.satInc a n).tap = s.tap ∧ (s.satInc a n).mem = s.mem ∧ 
    (s.satInc a n).errs = s.errs ∧ (s.satInc a n).out = s.out ∧ (s.satInc a n).answer = s.answer ∧ (s.satInc a n).fresh = s.fresh := by
  and_intros <;> rfl

@[simp] theorem State.inc64_keeps (s : State) (a n : Nat) :
    (s.inc64 a n).pending = s.pending ∧ (s.inc64 a n).mode = s.mode ∧ (s.inc64 a n).trans = s.trans ∧ 
    (s.inc64 a n).warm = s.warm ∧ (s.inc64 a n).shadow = s.shadow ∧ (s.inc64 a n).latches = s.latches ∧ 
    (s.inc64 a n).gtime = s.gtime ∧ (s.inc64 a n).vxu = s.vxu ∧ (s.inc64 a n).cad = s.cad ∧ (s.inc64 a n).rae = s.rae ∧ 
    (s.inc64 a n).lanes = s.lanes ∧ (s.inc64 a n).chains = s.chains ∧ (s.inc64 a n).pkt = s.pkt ∧ (s.inc64 a n).flt = s.flt ∧ 
    (s.inc64 a n).pmc = s.pmc ∧ (s.inc64 a n).sec = s.sec ∧ (s.inc64 a n).avail = s.avail ∧ (s.inc64 a n).cfg = s.cfg ∧ 
    (s.inc64 a n).qos = s.qos ∧ (s.inc64 a n).dmc = s.dmc ∧ (s.inc64 a n).bst = s.bst ∧ (s.inc64 a n).thm = s.thm ∧ 
    (s.inc64 a n).pwr = s.pwr ∧ (s.inc64 a n).fse = s.fse ∧ (s.inc64 a n).upd = s.upd ∧ (s.inc64 a n).aon = s.aon ∧ 
    (s.inc64 a n).i3c = s.i3c ∧ (s.inc64 a n).tap = s.tap ∧ (s.inc64 a n).mem = s.mem ∧ (s.inc64 a n).errs = s.errs ∧ 
    (s.inc64 a n).out = s.out ∧ (s.inc64 a n).answer = s.answer ∧ (s.inc64 a n).fresh = s.fresh := by
  and_intros <;> rfl

@[simp] theorem State.setVxu_keeps (s : State) (u : Nat) (x : VxuUnit) :
    (s.setVxu u x).pending = s.pending ∧ (s.setVxu u x).mode = s.mode ∧ (s.setVxu u x).trans = s.trans ∧ 
    (s.setVxu u x).warm = s.warm ∧ (s.setVxu u x).regs = s.regs ∧ (s.setVxu u x).shadow = s.shadow ∧ 
    (s.setVxu u x).latches = s.latches ∧ (s.setVxu u x).gtime = s.gtime ∧ (s.setVxu u x).cad = s.cad ∧ 
    (s.setVxu u x).rae = s.rae ∧ (s.setVxu u x).lanes = s.lanes ∧ (s.setVxu u x).chains = s.chains ∧ 
    (s.setVxu u x).pkt = s.pkt ∧ (s.setVxu u x).flt = s.flt ∧ (s.setVxu u x).pmc = s.pmc ∧ (s.setVxu u x).sec = s.sec ∧ 
    (s.setVxu u x).avail = s.avail ∧ (s.setVxu u x).cfg = s.cfg ∧ (s.setVxu u x).qos = s.qos ∧ (s.setVxu u x).dmc = s.dmc ∧ 
    (s.setVxu u x).bst = s.bst ∧ (s.setVxu u x).thm = s.thm ∧ (s.setVxu u x).pwr = s.pwr ∧ (s.setVxu u x).fse = s.fse ∧ 
    (s.setVxu u x).upd = s.upd ∧ (s.setVxu u x).aon = s.aon ∧ (s.setVxu u x).i3c = s.i3c ∧ (s.setVxu u x).tap = s.tap ∧ 
    (s.setVxu u x).mem = s.mem ∧ (s.setVxu u x).errs = s.errs ∧ (s.setVxu u x).out = s.out ∧ (s.setVxu u x).answer = s.answer ∧ 
    (s.setVxu u x).fresh = s.fresh := by
  and_intros <;> rfl

@[simp] theorem State.setLane_keeps (s : State) (l : Nat) (x : Lane) :
    (s.setLane l x).pending = s.pending ∧ (s.setLane l x).mode = s.mode ∧ (s.setLane l x).trans = s.trans ∧ 
    (s.setLane l x).warm = s.warm ∧ (s.setLane l x).regs = s.regs ∧ (s.setLane l x).shadow = s.shadow ∧ 
    (s.setLane l x).latches = s.latches ∧ (s.setLane l x).gtime = s.gtime ∧ (s.setLane l x).vxu = s.vxu ∧ 
    (s.setLane l x).cad = s.cad ∧ (s.setLane l x).rae = s.rae ∧ (s.setLane l x).chains = s.chains ∧ 
    (s.setLane l x).pkt = s.pkt ∧ (s.setLane l x).flt = s.flt ∧ (s.setLane l x).pmc = s.pmc ∧ (s.setLane l x).sec = s.sec ∧ 
    (s.setLane l x).avail = s.avail ∧ (s.setLane l x).cfg = s.cfg ∧ (s.setLane l x).qos = s.qos ∧ (s.setLane l x).dmc = s.dmc ∧ 
    (s.setLane l x).bst = s.bst ∧ (s.setLane l x).thm = s.thm ∧ (s.setLane l x).pwr = s.pwr ∧ (s.setLane l x).fse = s.fse ∧ 
    (s.setLane l x).upd = s.upd ∧ (s.setLane l x).aon = s.aon ∧ (s.setLane l x).i3c = s.i3c ∧ (s.setLane l x).tap = s.tap ∧ 
    (s.setLane l x).mem = s.mem ∧ (s.setLane l x).errs = s.errs ∧ (s.setLane l x).out = s.out ∧ 
    (s.setLane l x).answer = s.answer ∧ (s.setLane l x).fresh = s.fresh := by
  and_intros <;> rfl

@[simp] theorem State.setChainL_keeps (s : State) (k : Nat) (x : ChainLnk) :
    (s.setChainL k x).pending = s.pending ∧ (s.setChainL k x).mode = s.mode ∧ (s.setChainL k x).trans = s.trans ∧ 
    (s.setChainL k x).warm = s.warm ∧ (s.setChainL k x).regs = s.regs ∧ (s.setChainL k x).shadow = s.shadow ∧ 
    (s.setChainL k x).latches = s.latches ∧ (s.setChainL k x).gtime = s.gtime ∧ (s.setChainL k x).vxu = s.vxu ∧ 
    (s.setChainL k x).cad = s.cad ∧ (s.setChainL k x).rae = s.rae ∧ (s.setChainL k x).lanes = s.lanes ∧ 
    (s.setChainL k x).pkt = s.pkt ∧ (s.setChainL k x).flt = s.flt ∧ (s.setChainL k x).pmc = s.pmc ∧ 
    (s.setChainL k x).sec = s.sec ∧ (s.setChainL k x).avail = s.avail ∧ (s.setChainL k x).cfg = s.cfg ∧ 
    (s.setChainL k x).qos = s.qos ∧ (s.setChainL k x).dmc = s.dmc ∧ (s.setChainL k x).bst = s.bst ∧ 
    (s.setChainL k x).thm = s.thm ∧ (s.setChainL k x).pwr = s.pwr ∧ (s.setChainL k x).fse = s.fse ∧ 
    (s.setChainL k x).upd = s.upd ∧ (s.setChainL k x).aon = s.aon ∧ (s.setChainL k x).i3c = s.i3c ∧ 
    (s.setChainL k x).tap = s.tap ∧ (s.setChainL k x).mem = s.mem ∧ (s.setChainL k x).errs = s.errs ∧ 
    (s.setChainL k x).out = s.out ∧ (s.setChainL k x).answer = s.answer ∧ (s.setChainL k x).fresh = s.fresh := by
  and_intros <;> rfl

@[simp] theorem State.setChainP_keeps (s : State) (k : Nat) (x : ChainPkt) :
    (s.setChainP k x).pending = s.pending ∧ (s.setChainP k x).mode = s.mode ∧ (s.setChainP k x).trans = s.trans ∧ 
    (s.setChainP k x).warm = s.warm ∧ (s.setChainP k x).regs = s.regs ∧ (s.setChainP k x).shadow = s.shadow ∧ 
    (s.setChainP k x).latches = s.latches ∧ (s.setChainP k x).gtime = s.gtime ∧ (s.setChainP k x).vxu = s.vxu ∧ 
    (s.setChainP k x).cad = s.cad ∧ (s.setChainP k x).rae = s.rae ∧ (s.setChainP k x).lanes = s.lanes ∧ 
    (s.setChainP k x).chains = s.chains ∧ (s.setChainP k x).flt = s.flt ∧ (s.setChainP k x).pmc = s.pmc ∧ 
    (s.setChainP k x).sec = s.sec ∧ (s.setChainP k x).avail = s.avail ∧ (s.setChainP k x).cfg = s.cfg ∧ 
    (s.setChainP k x).qos = s.qos ∧ (s.setChainP k x).dmc = s.dmc ∧ (s.setChainP k x).bst = s.bst ∧ 
    (s.setChainP k x).thm = s.thm ∧ (s.setChainP k x).pwr = s.pwr ∧ (s.setChainP k x).fse = s.fse ∧ 
    (s.setChainP k x).upd = s.upd ∧ (s.setChainP k x).aon = s.aon ∧ (s.setChainP k x).i3c = s.i3c ∧ 
    (s.setChainP k x).tap = s.tap ∧ (s.setChainP k x).mem = s.mem ∧ (s.setChainP k x).errs = s.errs ∧ 
    (s.setChainP k x).out = s.out ∧ (s.setChainP k x).answer = s.answer ∧ (s.setChainP k x).fresh = s.fresh := by
  and_intros <;> rfl

@[simp] theorem State.setChan_keeps (s : State) (c : Nat) (x : Chan) :
    (s.setChan c x).pending = s.pending ∧ (s.setChan c x).mode = s.mode ∧ (s.setChan c x).trans = s.trans ∧ 
    (s.setChan c x).warm = s.warm ∧ (s.setChan c x).regs = s.regs ∧ (s.setChan c x).shadow = s.shadow ∧ 
    (s.setChan c x).latches = s.latches ∧ (s.setChan c x).gtime = s.gtime ∧ (s.setChan c x).vxu = s.vxu ∧ 
    (s.setChan c x).cad = s.cad ∧ (s.setChan c x).rae = s.rae ∧ (s.setChan c x).lanes = s.lanes ∧ 
    (s.setChan c x).chains = s.chains ∧ (s.setChan c x).pkt = s.pkt ∧ (s.setChan c x).flt = s.flt ∧ 
    (s.setChan c x).pmc = s.pmc ∧ (s.setChan c x).sec = s.sec ∧ (s.setChan c x).avail = s.avail ∧ (s.setChan c x).cfg = s.cfg ∧ 
    (s.setChan c x).qos = s.qos ∧ (s.setChan c x).bst = s.bst ∧ (s.setChan c x).thm = s.thm ∧ (s.setChan c x).pwr = s.pwr ∧ 
    (s.setChan c x).fse = s.fse ∧ (s.setChan c x).upd = s.upd ∧ (s.setChan c x).aon = s.aon ∧ (s.setChan c x).i3c = s.i3c ∧ 
    (s.setChan c x).tap = s.tap ∧ (s.setChan c x).mem = s.mem ∧ (s.setChan c x).errs = s.errs ∧ (s.setChan c x).out = s.out ∧ 
    (s.setChan c x).answer = s.answer ∧ (s.setChan c x).fresh = s.fresh := by
  and_intros <;> rfl

@[simp] theorem State.setEngine_keeps (s : State) (e : Nat) (x : Engine) :
    (s.setEngine e x).pending = s.pending ∧ (s.setEngine e x).mode = s.mode ∧ (s.setEngine e x).trans = s.trans ∧ 
    (s.setEngine e x).warm = s.warm ∧ (s.setEngine e x).regs = s.regs ∧ (s.setEngine e x).shadow = s.shadow ∧ 
    (s.setEngine e x).latches = s.latches ∧ (s.setEngine e x).gtime = s.gtime ∧ (s.setEngine e x).vxu = s.vxu ∧ 
    (s.setEngine e x).cad = s.cad ∧ (s.setEngine e x).lanes = s.lanes ∧ (s.setEngine e x).chains = s.chains ∧ 
    (s.setEngine e x).pkt = s.pkt ∧ (s.setEngine e x).flt = s.flt ∧ (s.setEngine e x).pmc = s.pmc ∧ 
    (s.setEngine e x).sec = s.sec ∧ (s.setEngine e x).avail = s.avail ∧ (s.setEngine e x).cfg = s.cfg ∧ 
    (s.setEngine e x).qos = s.qos ∧ (s.setEngine e x).dmc = s.dmc ∧ (s.setEngine e x).bst = s.bst ∧ 
    (s.setEngine e x).thm = s.thm ∧ (s.setEngine e x).pwr = s.pwr ∧ (s.setEngine e x).fse = s.fse ∧ 
    (s.setEngine e x).upd = s.upd ∧ (s.setEngine e x).aon = s.aon ∧ (s.setEngine e x).i3c = s.i3c ∧ 
    (s.setEngine e x).tap = s.tap ∧ (s.setEngine e x).mem = s.mem ∧ (s.setEngine e x).errs = s.errs ∧ 
    (s.setEngine e x).out = s.out ∧ (s.setEngine e x).answer = s.answer ∧ (s.setEngine e x).fresh = s.fresh := by
  and_intros <;> rfl

@[simp] theorem State.emit_keeps (s : State) (e : Emission) :
    (s.emit e).pending = s.pending ∧ (s.emit e).mode = s.mode ∧ (s.emit e).trans = s.trans ∧ (s.emit e).warm = s.warm ∧ 
    (s.emit e).regs = s.regs ∧ (s.emit e).shadow = s.shadow ∧ (s.emit e).latches = s.latches ∧ (s.emit e).gtime = s.gtime ∧ 
    (s.emit e).vxu = s.vxu ∧ (s.emit e).cad = s.cad ∧ (s.emit e).rae = s.rae ∧ (s.emit e).lanes = s.lanes ∧ 
    (s.emit e).chains = s.chains ∧ (s.emit e).pkt = s.pkt ∧ (s.emit e).flt = s.flt ∧ (s.emit e).pmc = s.pmc ∧ 
    (s.emit e).sec = s.sec ∧ (s.emit e).avail = s.avail ∧ (s.emit e).cfg = s.cfg ∧ (s.emit e).qos = s.qos ∧ 
    (s.emit e).dmc = s.dmc ∧ (s.emit e).bst = s.bst ∧ (s.emit e).thm = s.thm ∧ (s.emit e).pwr = s.pwr ∧ (s.emit e).fse = s.fse ∧ 
    (s.emit e).upd = s.upd ∧ (s.emit e).aon = s.aon ∧ (s.emit e).i3c = s.i3c ∧ (s.emit e).tap = s.tap ∧ (s.emit e).mem = s.mem ∧ 
    (s.emit e).errs = s.errs ∧ (s.emit e).answer = s.answer ∧ (s.emit e).fresh = s.fresh := by
  and_intros <;> rfl

@[simp] theorem State.reply_keeps (s : State) (st : Status) (d : List Byte) :
    (s.reply st d).pending = s.pending ∧ (s.reply st d).mode = s.mode ∧ (s.reply st d).trans = s.trans ∧ 
    (s.reply st d).warm = s.warm ∧ (s.reply st d).regs = s.regs ∧ (s.reply st d).shadow = s.shadow ∧ 
    (s.reply st d).latches = s.latches ∧ (s.reply st d).gtime = s.gtime ∧ (s.reply st d).vxu = s.vxu ∧ 
    (s.reply st d).cad = s.cad ∧ (s.reply st d).rae = s.rae ∧ (s.reply st d).lanes = s.lanes ∧ 
    (s.reply st d).chains = s.chains ∧ (s.reply st d).pkt = s.pkt ∧ (s.reply st d).flt = s.flt ∧ (s.reply st d).pmc = s.pmc ∧ 
    (s.reply st d).sec = s.sec ∧ (s.reply st d).avail = s.avail ∧ (s.reply st d).cfg = s.cfg ∧ (s.reply st d).qos = s.qos ∧ 
    (s.reply st d).dmc = s.dmc ∧ (s.reply st d).bst = s.bst ∧ (s.reply st d).thm = s.thm ∧ (s.reply st d).pwr = s.pwr ∧ 
    (s.reply st d).fse = s.fse ∧ (s.reply st d).upd = s.upd ∧ (s.reply st d).aon = s.aon ∧ (s.reply st d).i3c = s.i3c ∧ 
    (s.reply st d).tap = s.tap ∧ (s.reply st d).mem = s.mem ∧ (s.reply st d).errs = s.errs ∧ (s.reply st d).out = s.out ∧ 
    (s.reply st d).fresh = s.fresh := by
  and_intros <;> rfl

@[simp] theorem State.draw_keeps (s : State) :
    (s.draw).pending = s.pending ∧ (s.draw).mode = s.mode ∧ (s.draw).trans = s.trans ∧ (s.draw).warm = s.warm ∧ 
    (s.draw).regs = s.regs ∧ (s.draw).shadow = s.shadow ∧ (s.draw).latches = s.latches ∧ (s.draw).gtime = s.gtime ∧ 
    (s.draw).vxu = s.vxu ∧ (s.draw).cad = s.cad ∧ (s.draw).rae = s.rae ∧ (s.draw).lanes = s.lanes ∧ (s.draw).chains = s.chains ∧ 
    (s.draw).pkt = s.pkt ∧ (s.draw).flt = s.flt ∧ (s.draw).pmc = s.pmc ∧ (s.draw).sec = s.sec ∧ (s.draw).avail = s.avail ∧ 
    (s.draw).cfg = s.cfg ∧ (s.draw).qos = s.qos ∧ (s.draw).dmc = s.dmc ∧ (s.draw).bst = s.bst ∧ (s.draw).thm = s.thm ∧ 
    (s.draw).pwr = s.pwr ∧ (s.draw).fse = s.fse ∧ (s.draw).upd = s.upd ∧ (s.draw).aon = s.aon ∧ (s.draw).i3c = s.i3c ∧ 
    (s.draw).tap = s.tap ∧ (s.draw).mem = s.mem ∧ (s.draw).errs = s.errs ∧ (s.draw).out = s.out ∧ (s.draw).answer = s.answer := by
  and_intros <;> rfl

@[simp] theorem State.setSticky_keeps (s : State) (src : Nat) :
    (s.setSticky src).pending = s.pending ∧ (s.setSticky src).mode = s.mode ∧ (s.setSticky src).trans = s.trans ∧ 
    (s.setSticky src).warm = s.warm ∧ (s.setSticky src).shadow = s.shadow ∧ (s.setSticky src).latches = s.latches ∧ 
    (s.setSticky src).gtime = s.gtime ∧ (s.setSticky src).vxu = s.vxu ∧ (s.setSticky src).cad = s.cad ∧ 
    (s.setSticky src).rae = s.rae ∧ (s.setSticky src).lanes = s.lanes ∧ (s.setSticky src).chains = s.chains ∧ 
    (s.setSticky src).pkt = s.pkt ∧ (s.setSticky src).flt = s.flt ∧ (s.setSticky src).pmc = s.pmc ∧ 
    (s.setSticky src).sec = s.sec ∧ (s.setSticky src).avail = s.avail ∧ (s.setSticky src).cfg = s.cfg ∧ 
    (s.setSticky src).qos = s.qos ∧ (s.setSticky src).dmc = s.dmc ∧ (s.setSticky src).bst = s.bst ∧ 
    (s.setSticky src).thm = s.thm ∧ (s.setSticky src).pwr = s.pwr ∧ (s.setSticky src).fse = s.fse ∧ 
    (s.setSticky src).upd = s.upd ∧ (s.setSticky src).aon = s.aon ∧ (s.setSticky src).i3c = s.i3c ∧ 
    (s.setSticky src).tap = s.tap ∧ (s.setSticky src).mem = s.mem ∧ (s.setSticky src).errs = s.errs ∧ 
    (s.setSticky src).out = s.out ∧ (s.setSticky src).answer = s.answer ∧ (s.setSticky src).fresh = s.fresh := by
  and_intros <;> rfl

@[simp] theorem State.sampleCount_keeps (s : State) (n i : Nat) (x : SampleCtx) :
    (s.sampleCount n i x).pending = s.pending ∧ (s.sampleCount n i x).mode = s.mode ∧ (s.sampleCount n i x).trans = s.trans ∧ 
    (s.sampleCount n i x).warm = s.warm ∧ (s.sampleCount n i x).regs = s.regs ∧ (s.sampleCount n i x).shadow = s.shadow ∧ 
    (s.sampleCount n i x).latches = s.latches ∧ (s.sampleCount n i x).gtime = s.gtime ∧ (s.sampleCount n i x).vxu = s.vxu ∧ 
    (s.sampleCount n i x).cad = s.cad ∧ (s.sampleCount n i x).rae = s.rae ∧ (s.sampleCount n i x).lanes = s.lanes ∧ 
    (s.sampleCount n i x).chains = s.chains ∧ (s.sampleCount n i x).pkt = s.pkt ∧ (s.sampleCount n i x).flt = s.flt ∧ 
    (s.sampleCount n i x).sec = s.sec ∧ (s.sampleCount n i x).avail = s.avail ∧ (s.sampleCount n i x).cfg = s.cfg ∧ 
    (s.sampleCount n i x).qos = s.qos ∧ (s.sampleCount n i x).dmc = s.dmc ∧ (s.sampleCount n i x).bst = s.bst ∧ 
    (s.sampleCount n i x).thm = s.thm ∧ (s.sampleCount n i x).pwr = s.pwr ∧ (s.sampleCount n i x).fse = s.fse ∧ 
    (s.sampleCount n i x).upd = s.upd ∧ (s.sampleCount n i x).aon = s.aon ∧ (s.sampleCount n i x).i3c = s.i3c ∧ 
    (s.sampleCount n i x).tap = s.tap ∧ (s.sampleCount n i x).mem = s.mem ∧ (s.sampleCount n i x).errs = s.errs ∧ 
    (s.sampleCount n i x).out = s.out ∧ (s.sampleCount n i x).answer = s.answer ∧ (s.sampleCount n i x).fresh = s.fresh := by
  unfold State.sampleCount; dsimp only; repeat' split
  all_goals simp

@[simp] theorem State.pmcAdd_keeps (s : State) (n i a b : Nat) :
    (s.pmcAdd n i a b).pending = s.pending ∧ (s.pmcAdd n i a b).mode = s.mode ∧ (s.pmcAdd n i a b).trans = s.trans ∧ 
    (s.pmcAdd n i a b).warm = s.warm ∧ (s.pmcAdd n i a b).shadow = s.shadow ∧ (s.pmcAdd n i a b).latches = s.latches ∧ 
    (s.pmcAdd n i a b).gtime = s.gtime ∧ (s.pmcAdd n i a b).vxu = s.vxu ∧ (s.pmcAdd n i a b).cad = s.cad ∧ 
    (s.pmcAdd n i a b).rae = s.rae ∧ (s.pmcAdd n i a b).lanes = s.lanes ∧ (s.pmcAdd n i a b).chains = s.chains ∧ 
    (s.pmcAdd n i a b).pkt = s.pkt ∧ (s.pmcAdd n i a b).flt = s.flt ∧ (s.pmcAdd n i a b).sec = s.sec ∧ 
    (s.pmcAdd n i a b).avail = s.avail ∧ (s.pmcAdd n i a b).cfg = s.cfg ∧ (s.pmcAdd n i a b).qos = s.qos ∧ 
    (s.pmcAdd n i a b).dmc = s.dmc ∧ (s.pmcAdd n i a b).bst = s.bst ∧ (s.pmcAdd n i a b).thm = s.thm ∧ 
    (s.pmcAdd n i a b).pwr = s.pwr ∧ (s.pmcAdd n i a b).fse = s.fse ∧ (s.pmcAdd n i a b).upd = s.upd ∧ 
    (s.pmcAdd n i a b).aon = s.aon ∧ (s.pmcAdd n i a b).i3c = s.i3c ∧ (s.pmcAdd n i a b).tap = s.tap ∧ 
    (s.pmcAdd n i a b).mem = s.mem ∧ (s.pmcAdd n i a b).errs = s.errs ∧ (s.pmcAdd n i a b).out = s.out ∧ 
    (s.pmcAdd n i a b).answer = s.answer ∧ (s.pmcAdd n i a b).fresh = s.fresh := by
  unfold State.pmcAdd; dsimp only; split <;> simp

@[simp] theorem State.count_keeps (s : State) (ev i f : Nat) (p : Option Nat) (a b o : Nat) :
    (s.count ev i f p a b o).pending = s.pending ∧ (s.count ev i f p a b o).mode = s.mode ∧ 
    (s.count ev i f p a b o).trans = s.trans ∧ (s.count ev i f p a b o).warm = s.warm ∧ 
    (s.count ev i f p a b o).shadow = s.shadow ∧ (s.count ev i f p a b o).latches = s.latches ∧ 
    (s.count ev i f p a b o).gtime = s.gtime ∧ (s.count ev i f p a b o).vxu = s.vxu ∧ (s.count ev i f p a b o).cad = s.cad ∧ 
    (s.count ev i f p a b o).rae = s.rae ∧ (s.count ev i f p a b o).lanes = s.lanes ∧ 
    (s.count ev i f p a b o).chains = s.chains ∧ (s.count ev i f p a b o).pkt = s.pkt ∧ (s.count ev i f p a b o).flt = s.flt ∧ 
    (s.count ev i f p a b o).sec = s.sec ∧ (s.count ev i f p a b o).avail = s.avail ∧ (s.count ev i f p a b o).cfg = s.cfg ∧ 
    (s.count ev i f p a b o).qos = s.qos ∧ (s.count ev i f p a b o).dmc = s.dmc ∧ (s.count ev i f p a b o).bst = s.bst ∧ 
    (s.count ev i f p a b o).thm = s.thm ∧ (s.count ev i f p a b o).pwr = s.pwr ∧ (s.count ev i f p a b o).fse = s.fse ∧ 
    (s.count ev i f p a b o).upd = s.upd ∧ (s.count ev i f p a b o).aon = s.aon ∧ (s.count ev i f p a b o).i3c = s.i3c ∧ 
    (s.count ev i f p a b o).tap = s.tap ∧ (s.count ev i f p a b o).mem = s.mem ∧ (s.count ev i f p a b o).errs = s.errs ∧ 
    (s.count ev i f p a b o).out = s.out ∧ (s.count ev i f p a b o).answer = s.answer ∧ (s.count ev i f p a b o).fresh = s.fresh := by
  unfold State.count
  refine ⟨foldl_keeps State.pending _ _ _ (fun t x => by simp), foldl_keeps State.mode _ _ _ (fun t x => by simp), foldl_keeps State.trans _ _ _ (fun t x => by simp), foldl_keeps State.warm _ _ _ (fun t x => by simp), foldl_keeps State.shadow _ _ _ (fun t x => by simp), foldl_keeps State.latches _ _ _ (fun t x => by simp), foldl_keeps State.gtime _ _ _ (fun t x => by simp), foldl_keeps State.vxu _ _ _ (fun t x => by simp), foldl_keeps State.cad _ _ _ (fun t x => by simp), foldl_keeps State.rae _ _ _ (fun t x => by simp), foldl_keeps State.lanes _ _ _ (fun t x => by simp), foldl_keeps State.chains _ _ _ (fun t x => by simp), foldl_keeps State.pkt _ _ _ (fun t x => by simp), foldl_keeps State.flt _ _ _ (fun t x => by simp), foldl_keeps State.sec _ _ _ (fun t x => by simp), foldl_keeps State.avail _ _ _ (fun t x => by simp), foldl_keeps State.cfg _ _ _ (fun t x => by simp), foldl_keeps State.qos _ _ _ (fun t x => by simp), foldl_keeps State.dmc _ _ _ (fun t x => by simp), foldl_keeps State.bst _ _ _ (fun t x => by simp), foldl_keeps State.thm _ _ _ (fun t x => by simp), foldl_keeps State.pwr _ _ _ (fun t x => by simp), foldl_keeps State.fse _ _ _ (fun t x => by simp), foldl_keeps State.upd _ _ _ (fun t x => by simp), foldl_keeps State.aon _ _ _ (fun t x => by simp), foldl_keeps State.i3c _ _ _ (fun t x => by simp), foldl_keeps State.tap _ _ _ (fun t x => by simp), foldl_keeps State.mem _ _ _ (fun t x => by simp), foldl_keeps State.errs _ _ _ (fun t x => by simp), foldl_keeps State.out _ _ _ (fun t x => by simp), foldl_keeps State.answer _ _ _ (fun t x => by simp), foldl_keeps State.fresh _ _ _ (fun t x => by simp)⟩

@[simp] theorem State.countRefusal_keeps (s : State) (st : Status) (a : Nat) :
    (s.countRefusal st a).pending = s.pending ∧ (s.countRefusal st a).mode = s.mode ∧ (s.countRefusal st a).trans = s.trans ∧ 
    (s.countRefusal st a).warm = s.warm ∧ (s.countRefusal st a).shadow = s.shadow ∧ (s.countRefusal st a).latches = s.latches ∧ 
    (s.countRefusal st a).gtime = s.gtime ∧ (s.countRefusal st a).vxu = s.vxu ∧ (s.countRefusal st a).cad = s.cad ∧ 
    (s.countRefusal st a).rae = s.rae ∧ (s.countRefusal st a).lanes = s.lanes ∧ (s.countRefusal st a).chains = s.chains ∧ 
    (s.countRefusal st a).pkt = s.pkt ∧ (s.countRefusal st a).flt = s.flt ∧ (s.countRefusal st a).sec = s.sec ∧ 
    (s.countRefusal st a).avail = s.avail ∧ (s.countRefusal st a).cfg = s.cfg ∧ (s.countRefusal st a).qos = s.qos ∧ 
    (s.countRefusal st a).dmc = s.dmc ∧ (s.countRefusal st a).bst = s.bst ∧ (s.countRefusal st a).thm = s.thm ∧ 
    (s.countRefusal st a).pwr = s.pwr ∧ (s.countRefusal st a).fse = s.fse ∧ (s.countRefusal st a).upd = s.upd ∧ 
    (s.countRefusal st a).aon = s.aon ∧ (s.countRefusal st a).i3c = s.i3c ∧ (s.countRefusal st a).tap = s.tap ∧ 
    (s.countRefusal st a).mem = s.mem ∧ (s.countRefusal st a).errs = s.errs ∧ (s.countRefusal st a).out = s.out ∧ 
    (s.countRefusal st a).answer = s.answer ∧ (s.countRefusal st a).fresh = s.fresh := by
  unfold State.countRefusal; split <;> simp

@[simp] theorem State.queueAlert_keeps (s : State) (k : Nat) (al : Alert) :
    (s.queueAlert k al).pending = s.pending ∧ (s.queueAlert k al).mode = s.mode ∧ (s.queueAlert k al).trans = s.trans ∧ 
    (s.queueAlert k al).warm = s.warm ∧ (s.queueAlert k al).shadow = s.shadow ∧ (s.queueAlert k al).latches = s.latches ∧ 
    (s.queueAlert k al).gtime = s.gtime ∧ (s.queueAlert k al).vxu = s.vxu ∧ (s.queueAlert k al).cad = s.cad ∧ 
    (s.queueAlert k al).rae = s.rae ∧ (s.queueAlert k al).lanes = s.lanes ∧ (s.queueAlert k al).chains = s.chains ∧ 
    (s.queueAlert k al).flt = s.flt ∧ (s.queueAlert k al).pmc = s.pmc ∧ (s.queueAlert k al).sec = s.sec ∧ 
    (s.queueAlert k al).avail = s.avail ∧ (s.queueAlert k al).cfg = s.cfg ∧ (s.queueAlert k al).qos = s.qos ∧ 
    (s.queueAlert k al).dmc = s.dmc ∧ (s.queueAlert k al).bst = s.bst ∧ (s.queueAlert k al).thm = s.thm ∧ 
    (s.queueAlert k al).pwr = s.pwr ∧ (s.queueAlert k al).fse = s.fse ∧ (s.queueAlert k al).upd = s.upd ∧ 
    (s.queueAlert k al).aon = s.aon ∧ (s.queueAlert k al).i3c = s.i3c ∧ (s.queueAlert k al).tap = s.tap ∧ 
    (s.queueAlert k al).mem = s.mem ∧ (s.queueAlert k al).errs = s.errs ∧ (s.queueAlert k al).out = s.out ∧ 
    (s.queueAlert k al).answer = s.answer ∧ (s.queueAlert k al).fresh = s.fresh := by
  unfold State.queueAlert; dsimp only; split <;> simp

@[simp] theorem State.driveAlertN_keeps (s : State) (c : Nat) :
    (s.driveAlertN c).pending = s.pending ∧ (s.driveAlertN c).mode = s.mode ∧ (s.driveAlertN c).trans = s.trans ∧ 
    (s.driveAlertN c).warm = s.warm ∧ (s.driveAlertN c).regs = s.regs ∧ (s.driveAlertN c).shadow = s.shadow ∧ 
    (s.driveAlertN c).latches = s.latches ∧ (s.driveAlertN c).gtime = s.gtime ∧ (s.driveAlertN c).vxu = s.vxu ∧ 
    (s.driveAlertN c).cad = s.cad ∧ (s.driveAlertN c).rae = s.rae ∧ (s.driveAlertN c).lanes = s.lanes ∧ 
    (s.driveAlertN c).chains = s.chains ∧ (s.driveAlertN c).pkt = s.pkt ∧ (s.driveAlertN c).pmc = s.pmc ∧ 
    (s.driveAlertN c).sec = s.sec ∧ (s.driveAlertN c).avail = s.avail ∧ (s.driveAlertN c).cfg = s.cfg ∧ 
    (s.driveAlertN c).qos = s.qos ∧ (s.driveAlertN c).dmc = s.dmc ∧ (s.driveAlertN c).bst = s.bst ∧ 
    (s.driveAlertN c).thm = s.thm ∧ (s.driveAlertN c).pwr = s.pwr ∧ (s.driveAlertN c).fse = s.fse ∧ 
    (s.driveAlertN c).upd = s.upd ∧ (s.driveAlertN c).aon = s.aon ∧ (s.driveAlertN c).i3c = s.i3c ∧ 
    (s.driveAlertN c).tap = s.tap ∧ (s.driveAlertN c).mem = s.mem ∧ (s.driveAlertN c).errs = s.errs ∧ 
    (s.driveAlertN c).out = s.out ∧ (s.driveAlertN c).answer = s.answer ∧ (s.driveAlertN c).fresh = s.fresh := by
  unfold State.driveAlertN; split <;> simp

theorem State.queueAlerts_keeps (s : State) (al : Alert) (l : List Nat) :
    (l.foldl (fun t k => t.queueAlert k al) s).pending = s.pending ∧ (l.foldl (fun t k => t.queueAlert k al) s).mode = s.mode ∧ 
    (l.foldl (fun t k => t.queueAlert k al) s).trans = s.trans ∧ (l.foldl (fun t k => t.queueAlert k al) s).warm = s.warm ∧ 
    (l.foldl (fun t k => t.queueAlert k al) s).shadow = s.shadow ∧ 
    (l.foldl (fun t k => t.queueAlert k al) s).latches = s.latches ∧ 
    (l.foldl (fun t k => t.queueAlert k al) s).gtime = s.gtime ∧ (l.foldl (fun t k => t.queueAlert k al) s).vxu = s.vxu ∧ 
    (l.foldl (fun t k => t.queueAlert k al) s).cad = s.cad ∧ (l.foldl (fun t k => t.queueAlert k al) s).rae = s.rae ∧ 
    (l.foldl (fun t k => t.queueAlert k al) s).lanes = s.lanes ∧ (l.foldl (fun t k => t.queueAlert k al) s).chains = s.chains ∧ 
    (l.foldl (fun t k => t.queueAlert k al) s).flt = s.flt ∧ (l.foldl (fun t k => t.queueAlert k al) s).pmc = s.pmc ∧ 
    (l.foldl (fun t k => t.queueAlert k al) s).sec = s.sec ∧ (l.foldl (fun t k => t.queueAlert k al) s).avail = s.avail ∧ 
    (l.foldl (fun t k => t.queueAlert k al) s).cfg = s.cfg ∧ (l.foldl (fun t k => t.queueAlert k al) s).qos = s.qos ∧ 
    (l.foldl (fun t k => t.queueAlert k al) s).dmc = s.dmc ∧ (l.foldl (fun t k => t.queueAlert k al) s).bst = s.bst ∧ 
    (l.foldl (fun t k => t.queueAlert k al) s).thm = s.thm ∧ (l.foldl (fun t k => t.queueAlert k al) s).pwr = s.pwr ∧ 
    (l.foldl (fun t k => t.queueAlert k al) s).fse = s.fse ∧ (l.foldl (fun t k => t.queueAlert k al) s).upd = s.upd ∧ 
    (l.foldl (fun t k => t.queueAlert k al) s).aon = s.aon ∧ (l.foldl (fun t k => t.queueAlert k al) s).i3c = s.i3c ∧ 
    (l.foldl (fun t k => t.queueAlert k al) s).tap = s.tap ∧ (l.foldl (fun t k => t.queueAlert k al) s).mem = s.mem ∧ 
    (l.foldl (fun t k => t.queueAlert k al) s).errs = s.errs ∧ (l.foldl (fun t k => t.queueAlert k al) s).out = s.out ∧ 
    (l.foldl (fun t k => t.queueAlert k al) s).answer = s.answer ∧ (l.foldl (fun t k => t.queueAlert k al) s).fresh = s.fresh := by
  refine ⟨foldl_keeps State.pending _ _ _ (fun t x => by simp), foldl_keeps State.mode _ _ _ (fun t x => by simp), foldl_keeps State.trans _ _ _ (fun t x => by simp), foldl_keeps State.warm _ _ _ (fun t x => by simp), foldl_keeps State.shadow _ _ _ (fun t x => by simp), foldl_keeps State.latches _ _ _ (fun t x => by simp), foldl_keeps State.gtime _ _ _ (fun t x => by simp), foldl_keeps State.vxu _ _ _ (fun t x => by simp), foldl_keeps State.cad _ _ _ (fun t x => by simp), foldl_keeps State.rae _ _ _ (fun t x => by simp), foldl_keeps State.lanes _ _ _ (fun t x => by simp), foldl_keeps State.chains _ _ _ (fun t x => by simp), foldl_keeps State.flt _ _ _ (fun t x => by simp), foldl_keeps State.pmc _ _ _ (fun t x => by simp), foldl_keeps State.sec _ _ _ (fun t x => by simp), foldl_keeps State.avail _ _ _ (fun t x => by simp), foldl_keeps State.cfg _ _ _ (fun t x => by simp), foldl_keeps State.qos _ _ _ (fun t x => by simp), foldl_keeps State.dmc _ _ _ (fun t x => by simp), foldl_keeps State.bst _ _ _ (fun t x => by simp), foldl_keeps State.thm _ _ _ (fun t x => by simp), foldl_keeps State.pwr _ _ _ (fun t x => by simp), foldl_keeps State.fse _ _ _ (fun t x => by simp), foldl_keeps State.upd _ _ _ (fun t x => by simp), foldl_keeps State.aon _ _ _ (fun t x => by simp), foldl_keeps State.i3c _ _ _ (fun t x => by simp), foldl_keeps State.tap _ _ _ (fun t x => by simp), foldl_keeps State.mem _ _ _ (fun t x => by simp), foldl_keeps State.errs _ _ _ (fun t x => by simp), foldl_keeps State.out _ _ _ (fun t x => by simp), foldl_keeps State.answer _ _ _ (fun t x => by simp), foldl_keeps State.fresh _ _ _ (fun t x => by simp)⟩

@[simp] theorem State.alert_keeps (s : State) (c k a b d e : Nat) :
    (s.alert c k a b d e).pending = s.pending ∧ (s.alert c k a b d e).mode = s.mode ∧ (s.alert c k a b d e).trans = s.trans ∧ 
    (s.alert c k a b d e).warm = s.warm ∧ (s.alert c k a b d e).shadow = s.shadow ∧ (s.alert c k a b d e).latches = s.latches ∧ 
    (s.alert c k a b d e).gtime = s.gtime ∧ (s.alert c k a b d e).vxu = s.vxu ∧ (s.alert c k a b d e).cad = s.cad ∧ 
    (s.alert c k a b d e).rae = s.rae ∧ (s.alert c k a b d e).lanes = s.lanes ∧ (s.alert c k a b d e).chains = s.chains ∧ 
    (s.alert c k a b d e).pmc = s.pmc ∧ (s.alert c k a b d e).sec = s.sec ∧ (s.alert c k a b d e).avail = s.avail ∧ 
    (s.alert c k a b d e).cfg = s.cfg ∧ (s.alert c k a b d e).qos = s.qos ∧ (s.alert c k a b d e).dmc = s.dmc ∧ 
    (s.alert c k a b d e).bst = s.bst ∧ (s.alert c k a b d e).thm = s.thm ∧ (s.alert c k a b d e).pwr = s.pwr ∧ 
    (s.alert c k a b d e).fse = s.fse ∧ (s.alert c k a b d e).upd = s.upd ∧ (s.alert c k a b d e).aon = s.aon ∧ 
    (s.alert c k a b d e).i3c = s.i3c ∧ (s.alert c k a b d e).tap = s.tap ∧ (s.alert c k a b d e).mem = s.mem ∧ 
    (s.alert c k a b d e).errs = s.errs ∧ (s.alert c k a b d e).out = s.out ∧ (s.alert c k a b d e).answer = s.answer ∧ 
    (s.alert c k a b d e).fresh = s.fresh := by
  simp [State.alert, State.queueAlerts_keeps]

@[simp] theorem State.formEntry_keeps (s : State) (src sev a b gt : Nat) (fo co : Bool) :
    (s.formEntry src sev a b gt fo co).pending = s.pending ∧ (s.formEntry src sev a b gt fo co).mode = s.mode ∧ 
    (s.formEntry src sev a b gt fo co).trans = s.trans ∧ (s.formEntry src sev a b gt fo co).warm = s.warm ∧ 
    (s.formEntry src sev a b gt fo co).shadow = s.shadow ∧ (s.formEntry src sev a b gt fo co).latches = s.latches ∧ 
    (s.formEntry src sev a b gt fo co).gtime = s.gtime ∧ (s.formEntry src sev a b gt fo co).vxu = s.vxu ∧ 
    (s.formEntry src sev a b gt fo co).cad = s.cad ∧ (s.formEntry src sev a b gt fo co).rae = s.rae ∧ 
    (s.formEntry src sev a b gt fo co).lanes = s.lanes ∧ (s.formEntry src sev a b gt fo co).chains = s.chains ∧ 
    (s.formEntry src sev a b gt fo co).pmc = s.pmc ∧ (s.formEntry src sev a b gt fo co).sec = s.sec ∧ 
    (s.formEntry src sev a b gt fo co).avail = s.avail ∧ (s.formEntry src sev a b gt fo co).cfg = s.cfg ∧ 
    (s.formEntry src sev a b gt fo co).qos = s.qos ∧ (s.formEntry src sev a b gt fo co).dmc = s.dmc ∧ 
    (s.formEntry src sev a b gt fo co).bst = s.bst ∧ (s.formEntry src sev a b gt fo co).thm = s.thm ∧ 
    (s.formEntry src sev a b gt fo co).pwr = s.pwr ∧ (s.formEntry src sev a b gt fo co).fse = s.fse ∧ 
    (s.formEntry src sev a b gt fo co).upd = s.upd ∧ (s.formEntry src sev a b gt fo co).aon = s.aon ∧ 
    (s.formEntry src sev a b gt fo co).i3c = s.i3c ∧ (s.formEntry src sev a b gt fo co).tap = s.tap ∧ 
    (s.formEntry src sev a b gt fo co).mem = s.mem ∧ (s.formEntry src sev a b gt fo co).errs = s.errs ∧ 
    (s.formEntry src sev a b gt fo co).out = s.out ∧ (s.formEntry src sev a b gt fo co).answer = s.answer ∧ 
    (s.formEntry src sev a b gt fo co).fresh = s.fresh := by
  unfold State.formEntry; dsimp only; repeat' split
  all_goals simp

@[simp] theorem State.detect_keeps (s : State) (src a b : Nat) (fo : Bool) :
    (s.detect src a b fo).pending = s.pending ∧ (s.detect src a b fo).mode = s.mode ∧ (s.detect src a b fo).trans = s.trans ∧ 
    (s.detect src a b fo).warm = s.warm ∧ (s.detect src a b fo).shadow = s.shadow ∧ (s.detect src a b fo).latches = s.latches ∧ 
    (s.detect src a b fo).gtime = s.gtime ∧ (s.detect src a b fo).vxu = s.vxu ∧ (s.detect src a b fo).cad = s.cad ∧ 
    (s.detect src a b fo).rae = s.rae ∧ (s.detect src a b fo).lanes = s.lanes ∧ (s.detect src a b fo).chains = s.chains ∧ 
    (s.detect src a b fo).pmc = s.pmc ∧ (s.detect src a b fo).sec = s.sec ∧ (s.detect src a b fo).avail = s.avail ∧ 
    (s.detect src a b fo).cfg = s.cfg ∧ (s.detect src a b fo).qos = s.qos ∧ (s.detect src a b fo).dmc = s.dmc ∧ 
    (s.detect src a b fo).bst = s.bst ∧ (s.detect src a b fo).thm = s.thm ∧ (s.detect src a b fo).pwr = s.pwr ∧ 
    (s.detect src a b fo).fse = s.fse ∧ (s.detect src a b fo).upd = s.upd ∧ (s.detect src a b fo).aon = s.aon ∧ 
    (s.detect src a b fo).i3c = s.i3c ∧ (s.detect src a b fo).tap = s.tap ∧ (s.detect src a b fo).mem = s.mem ∧ 
    (s.detect src a b fo).errs = s.errs ∧ (s.detect src a b fo).out = s.out ∧ (s.detect src a b fo).answer = s.answer ∧ 
    (s.detect src a b fo).fresh = s.fresh := by
  unfold State.detect; dsimp only; repeat' split
  all_goals simp

@[simp] theorem State.reject_keeps (s : State) (r : Req) (a : Nat) (w : Bool) (z : Nat) (st : Status) :
    (s.reject r a w z st).pending = s.pending ∧ (s.reject r a w z st).mode = s.mode ∧ (s.reject r a w z st).trans = s.trans ∧ 
    (s.reject r a w z st).warm = s.warm ∧ (s.reject r a w z st).shadow = s.shadow ∧ (s.reject r a w z st).latches = s.latches ∧ 
    (s.reject r a w z st).gtime = s.gtime ∧ (s.reject r a w z st).vxu = s.vxu ∧ (s.reject r a w z st).cad = s.cad ∧ 
    (s.reject r a w z st).rae = s.rae ∧ (s.reject r a w z st).lanes = s.lanes ∧ (s.reject r a w z st).chains = s.chains ∧ 
    (s.reject r a w z st).sec = s.sec ∧ (s.reject r a w z st).avail = s.avail ∧ (s.reject r a w z st).cfg = s.cfg ∧ 
    (s.reject r a w z st).qos = s.qos ∧ (s.reject r a w z st).dmc = s.dmc ∧ (s.reject r a w z st).bst = s.bst ∧ 
    (s.reject r a w z st).thm = s.thm ∧ (s.reject r a w z st).pwr = s.pwr ∧ (s.reject r a w z st).fse = s.fse ∧ 
    (s.reject r a w z st).upd = s.upd ∧ (s.reject r a w z st).aon = s.aon ∧ (s.reject r a w z st).i3c = s.i3c ∧ 
    (s.reject r a w z st).tap = s.tap ∧ (s.reject r a w z st).mem = s.mem ∧ (s.reject r a w z st).errs = s.errs ∧ 
    (s.reject r a w z st).out = s.out ∧ (s.reject r a w z st).fresh = s.fresh := by
  unfold State.reject; dsimp only; split <;> simp

@[simp] theorem State.capUpdate_keeps (s : State) :
    (s.capUpdate).pending = s.pending ∧ (s.capUpdate).mode = s.mode ∧ (s.capUpdate).trans = s.trans ∧ 
    (s.capUpdate).warm = s.warm ∧ (s.capUpdate).shadow = s.shadow ∧ (s.capUpdate).latches = s.latches ∧ 
    (s.capUpdate).gtime = s.gtime ∧ (s.capUpdate).vxu = s.vxu ∧ (s.capUpdate).cad = s.cad ∧ (s.capUpdate).rae = s.rae ∧ 
    (s.capUpdate).lanes = s.lanes ∧ (s.capUpdate).chains = s.chains ∧ (s.capUpdate).pmc = s.pmc ∧ (s.capUpdate).sec = s.sec ∧ 
    (s.capUpdate).avail = s.avail ∧ (s.capUpdate).cfg = s.cfg ∧ (s.capUpdate).qos = s.qos ∧ (s.capUpdate).dmc = s.dmc ∧ 
    (s.capUpdate).bst = s.bst ∧ (s.capUpdate).thm = s.thm ∧ (s.capUpdate).pwr = s.pwr ∧ (s.capUpdate).fse = s.fse ∧ 
    (s.capUpdate).upd = s.upd ∧ (s.capUpdate).aon = s.aon ∧ (s.capUpdate).i3c = s.i3c ∧ (s.capUpdate).tap = s.tap ∧ 
    (s.capUpdate).mem = s.mem ∧ (s.capUpdate).errs = s.errs ∧ (s.capUpdate).out = s.out ∧ (s.capUpdate).answer = s.answer ∧ 
    (s.capUpdate).fresh = s.fresh := by
  unfold State.capUpdate; dsimp only; split <;> simp

@[simp] theorem State.capacityChange_keeps (s : State) :
    (s.capacityChange).pending = s.pending ∧ (s.capacityChange).mode = s.mode ∧ (s.capacityChange).trans = s.trans ∧ 
    (s.capacityChange).warm = s.warm ∧ (s.capacityChange).regs = s.regs ∧ (s.capacityChange).shadow = s.shadow ∧ 
    (s.capacityChange).latches = s.latches ∧ (s.capacityChange).gtime = s.gtime ∧ (s.capacityChange).vxu = s.vxu ∧ 
    (s.capacityChange).cad = s.cad ∧ (s.capacityChange).rae = s.rae ∧ (s.capacityChange).lanes = s.lanes ∧ 
    (s.capacityChange).chains = s.chains ∧ (s.capacityChange).pkt = s.pkt ∧ (s.capacityChange).flt = s.flt ∧ 
    (s.capacityChange).pmc = s.pmc ∧ (s.capacityChange).sec = s.sec ∧ (s.capacityChange).avail = s.avail ∧ 
    (s.capacityChange).cfg = s.cfg ∧ (s.capacityChange).dmc = s.dmc ∧ (s.capacityChange).bst = s.bst ∧ 
    (s.capacityChange).thm = s.thm ∧ (s.capacityChange).pwr = s.pwr ∧ (s.capacityChange).fse = s.fse ∧ 
    (s.capacityChange).upd = s.upd ∧ (s.capacityChange).aon = s.aon ∧ (s.capacityChange).i3c = s.i3c ∧ 
    (s.capacityChange).tap = s.tap ∧ (s.capacityChange).mem = s.mem ∧ (s.capacityChange).errs = s.errs ∧ 
    (s.capacityChange).out = s.out ∧ (s.capacityChange).answer = s.answer ∧ (s.capacityChange).fresh = s.fresh := by
  and_intros <;> rfl

@[simp] theorem State.setDomain_keeps (s : State) (d : Nat) (x : Domain) :
    (s.setDomain d x).pending = s.pending ∧ (s.setDomain d x).mode = s.mode ∧ (s.setDomain d x).trans = s.trans ∧ 
    (s.setDomain d x).warm = s.warm ∧ (s.setDomain d x).regs = s.regs ∧ (s.setDomain d x).shadow = s.shadow ∧ 
    (s.setDomain d x).latches = s.latches ∧ (s.setDomain d x).gtime = s.gtime ∧ (s.setDomain d x).vxu = s.vxu ∧ 
    (s.setDomain d x).rae = s.rae ∧ (s.setDomain d x).lanes = s.lanes ∧ (s.setDomain d x).chains = s.chains ∧ 
    (s.setDomain d x).pkt = s.pkt ∧ (s.setDomain d x).flt = s.flt ∧ (s.setDomain d x).pmc = s.pmc ∧ 
    (s.setDomain d x).sec = s.sec ∧ (s.setDomain d x).avail = s.avail ∧ (s.setDomain d x).cfg = s.cfg ∧ 
    (s.setDomain d x).qos = s.qos ∧ (s.setDomain d x).dmc = s.dmc ∧ (s.setDomain d x).bst = s.bst ∧ 
    (s.setDomain d x).thm = s.thm ∧ (s.setDomain d x).pwr = s.pwr ∧ (s.setDomain d x).fse = s.fse ∧ 
    (s.setDomain d x).upd = s.upd ∧ (s.setDomain d x).aon = s.aon ∧ (s.setDomain d x).i3c = s.i3c ∧ 
    (s.setDomain d x).tap = s.tap ∧ (s.setDomain d x).mem = s.mem ∧ (s.setDomain d x).errs = s.errs ∧ 
    (s.setDomain d x).out = s.out ∧ (s.setDomain d x).answer = s.answer ∧ (s.setDomain d x).fresh = s.fresh := by
  and_intros <;> rfl

@[simp] theorem State.setSource_keeps (s : State) (i : Nat) (x : Source) :
    (s.setSource i x).pending = s.pending ∧ (s.setSource i x).mode = s.mode ∧ (s.setSource i x).trans = s.trans ∧ 
    (s.setSource i x).warm = s.warm ∧ (s.setSource i x).regs = s.regs ∧ (s.setSource i x).shadow = s.shadow ∧ 
    (s.setSource i x).latches = s.latches ∧ (s.setSource i x).gtime = s.gtime ∧ (s.setSource i x).vxu = s.vxu ∧ 
    (s.setSource i x).rae = s.rae ∧ (s.setSource i x).lanes = s.lanes ∧ (s.setSource i x).chains = s.chains ∧ 
    (s.setSource i x).pkt = s.pkt ∧ (s.setSource i x).flt = s.flt ∧ (s.setSource i x).pmc = s.pmc ∧ 
    (s.setSource i x).sec = s.sec ∧ (s.setSource i x).avail = s.avail ∧ (s.setSource i x).cfg = s.cfg ∧ 
    (s.setSource i x).qos = s.qos ∧ (s.setSource i x).dmc = s.dmc ∧ (s.setSource i x).bst = s.bst ∧ 
    (s.setSource i x).thm = s.thm ∧ (s.setSource i x).pwr = s.pwr ∧ (s.setSource i x).fse = s.fse ∧ 
    (s.setSource i x).upd = s.upd ∧ (s.setSource i x).aon = s.aon ∧ (s.setSource i x).i3c = s.i3c ∧ 
    (s.setSource i x).tap = s.tap ∧ (s.setSource i x).mem = s.mem ∧ (s.setSource i x).errs = s.errs ∧ 
    (s.setSource i x).out = s.out ∧ (s.setSource i x).answer = s.answer ∧ (s.setSource i x).fresh = s.fresh := by
  and_intros <;> rfl

@[simp] theorem State.setSession_keeps (s : State) (i : Nat) (x : Session) :
    (s.setSession i x).pending = s.pending ∧ (s.setSession i x).mode = s.mode ∧ (s.setSession i x).trans = s.trans ∧ 
    (s.setSession i x).warm = s.warm ∧ (s.setSession i x).regs = s.regs ∧ (s.setSession i x).shadow = s.shadow ∧ 
    (s.setSession i x).latches = s.latches ∧ (s.setSession i x).gtime = s.gtime ∧ (s.setSession i x).vxu = s.vxu ∧ 
    (s.setSession i x).cad = s.cad ∧ (s.setSession i x).rae = s.rae ∧ (s.setSession i x).lanes = s.lanes ∧ 
    (s.setSession i x).chains = s.chains ∧ (s.setSession i x).pkt = s.pkt ∧ (s.setSession i x).flt = s.flt ∧ 
    (s.setSession i x).pmc = s.pmc ∧ (s.setSession i x).avail = s.avail ∧ (s.setSession i x).cfg = s.cfg ∧ 
    (s.setSession i x).qos = s.qos ∧ (s.setSession i x).dmc = s.dmc ∧ (s.setSession i x).bst = s.bst ∧ 
    (s.setSession i x).thm = s.thm ∧ (s.setSession i x).pwr = s.pwr ∧ (s.setSession i x).fse = s.fse ∧ 
    (s.setSession i x).upd = s.upd ∧ (s.setSession i x).aon = s.aon ∧ (s.setSession i x).i3c = s.i3c ∧ 
    (s.setSession i x).tap = s.tap ∧ (s.setSession i x).mem = s.mem ∧ (s.setSession i x).errs = s.errs ∧ 
    (s.setSession i x).out = s.out ∧ (s.setSession i x).answer = s.answer ∧ (s.setSession i x).fresh = s.fresh := by
  and_intros <;> rfl

@[simp] theorem State.setDomains_keeps (s : State) (l : List (Nat × PwrState)) :
    (s.setDomains l).pending = s.pending ∧ (s.setDomains l).mode = s.mode ∧ (s.setDomains l).trans = s.trans ∧ 
    (s.setDomains l).warm = s.warm ∧ (s.setDomains l).regs = s.regs ∧ (s.setDomains l).shadow = s.shadow ∧ 
    (s.setDomains l).latches = s.latches ∧ (s.setDomains l).gtime = s.gtime ∧ (s.setDomains l).vxu = s.vxu ∧ 
    (s.setDomains l).cad = s.cad ∧ (s.setDomains l).rae = s.rae ∧ (s.setDomains l).lanes = s.lanes ∧ 
    (s.setDomains l).chains = s.chains ∧ (s.setDomains l).pkt = s.pkt ∧ (s.setDomains l).flt = s.flt ∧ 
    (s.setDomains l).pmc = s.pmc ∧ (s.setDomains l).sec = s.sec ∧ (s.setDomains l).avail = s.avail ∧ 
    (s.setDomains l).cfg = s.cfg ∧ (s.setDomains l).qos = s.qos ∧ (s.setDomains l).dmc = s.dmc ∧ (s.setDomains l).bst = s.bst ∧ 
    (s.setDomains l).thm = s.thm ∧ (s.setDomains l).fse = s.fse ∧ (s.setDomains l).upd = s.upd ∧ (s.setDomains l).aon = s.aon ∧ 
    (s.setDomains l).i3c = s.i3c ∧ (s.setDomains l).tap = s.tap ∧ (s.setDomains l).mem = s.mem ∧ 
    (s.setDomains l).errs = s.errs ∧ (s.setDomains l).out = s.out ∧ (s.setDomains l).answer = s.answer ∧ 
    (s.setDomains l).fresh = s.fresh := by
  and_intros <;> rfl

@[simp] theorem State.safeDomains_keeps (s : State) :
    (s.safeDomains).pending = s.pending ∧ (s.safeDomains).mode = s.mode ∧ (s.safeDomains).trans = s.trans ∧ 
    (s.safeDomains).warm = s.warm ∧ (s.safeDomains).regs = s.regs ∧ (s.safeDomains).shadow = s.shadow ∧ 
    (s.safeDomains).latches = s.latches ∧ (s.safeDomains).gtime = s.gtime ∧ (s.safeDomains).vxu = s.vxu ∧ 
    (s.safeDomains).cad = s.cad ∧ (s.safeDomains).rae = s.rae ∧ (s.safeDomains).lanes = s.lanes ∧ 
    (s.safeDomains).chains = s.chains ∧ (s.safeDomains).pkt = s.pkt ∧ (s.safeDomains).flt = s.flt ∧ 
    (s.safeDomains).pmc = s.pmc ∧ (s.safeDomains).sec = s.sec ∧ (s.safeDomains).avail = s.avail ∧ (s.safeDomains).cfg = s.cfg ∧ 
    (s.safeDomains).qos = s.qos ∧ (s.safeDomains).dmc = s.dmc ∧ (s.safeDomains).bst = s.bst ∧ (s.safeDomains).thm = s.thm ∧ 
    (s.safeDomains).fse = s.fse ∧ (s.safeDomains).upd = s.upd ∧ (s.safeDomains).aon = s.aon ∧ (s.safeDomains).i3c = s.i3c ∧ 
    (s.safeDomains).tap = s.tap ∧ (s.safeDomains).mem = s.mem ∧ (s.safeDomains).errs = s.errs ∧ (s.safeDomains).out = s.out ∧ 
    (s.safeDomains).answer = s.answer ∧ (s.safeDomains).fresh = s.fresh := by
  and_intros <;> rfl

@[simp] theorem State.endSessions_keeps (s : State) (p : Session → Bool) :
    (s.endSessions p).pending = s.pending ∧ (s.endSessions p).mode = s.mode ∧ (s.endSessions p).trans = s.trans ∧ 
    (s.endSessions p).warm = s.warm ∧ (s.endSessions p).regs = s.regs ∧ (s.endSessions p).shadow = s.shadow ∧ 
    (s.endSessions p).gtime = s.gtime ∧ (s.endSessions p).vxu = s.vxu ∧ (s.endSessions p).cad = s.cad ∧ 
    (s.endSessions p).rae = s.rae ∧ (s.endSessions p).lanes = s.lanes ∧ (s.endSessions p).chains = s.chains ∧ 
    (s.endSessions p).pkt = s.pkt ∧ (s.endSessions p).flt = s.flt ∧ (s.endSessions p).pmc = s.pmc ∧ 
    (s.endSessions p).avail = s.avail ∧ (s.endSessions p).cfg = s.cfg ∧ (s.endSessions p).qos = s.qos ∧ 
    (s.endSessions p).dmc = s.dmc ∧ (s.endSessions p).bst = s.bst ∧ (s.endSessions p).thm = s.thm ∧ 
    (s.endSessions p).pwr = s.pwr ∧ (s.endSessions p).fse = s.fse ∧ (s.endSessions p).upd = s.upd ∧ 
    (s.endSessions p).aon = s.aon ∧ (s.endSessions p).i3c = s.i3c ∧ (s.endSessions p).tap = s.tap ∧ 
    (s.endSessions p).mem = s.mem ∧ (s.endSessions p).errs = s.errs ∧ (s.endSessions p).out = s.out ∧ 
    (s.endSessions p).answer = s.answer ∧ (s.endSessions p).fresh = s.fresh := by
  and_intros <;> rfl

@[simp] theorem State.endAtOnce_keeps (s : State) (p : Session → Bool) :
    (s.endAtOnce p).pending = s.pending ∧ (s.endAtOnce p).mode = s.mode ∧ (s.endAtOnce p).trans = s.trans ∧ 
    (s.endAtOnce p).warm = s.warm ∧ (s.endAtOnce p).regs = s.regs ∧ (s.endAtOnce p).shadow = s.shadow ∧ 
    (s.endAtOnce p).gtime = s.gtime ∧ (s.endAtOnce p).vxu = s.vxu ∧ (s.endAtOnce p).cad = s.cad ∧ (s.endAtOnce p).rae = s.rae ∧ 
    (s.endAtOnce p).lanes = s.lanes ∧ (s.endAtOnce p).chains = s.chains ∧ (s.endAtOnce p).flt = s.flt ∧ 
    (s.endAtOnce p).pmc = s.pmc ∧ (s.endAtOnce p).avail = s.avail ∧ (s.endAtOnce p).cfg = s.cfg ∧ (s.endAtOnce p).qos = s.qos ∧ 
    (s.endAtOnce p).bst = s.bst ∧ (s.endAtOnce p).thm = s.thm ∧ (s.endAtOnce p).pwr = s.pwr ∧ (s.endAtOnce p).fse = s.fse ∧ 
    (s.endAtOnce p).upd = s.upd ∧ (s.endAtOnce p).aon = s.aon ∧ (s.endAtOnce p).tap = s.tap ∧ (s.endAtOnce p).mem = s.mem ∧ 
    (s.endAtOnce p).errs = s.errs ∧ (s.endAtOnce p).out = s.out ∧ (s.endAtOnce p).answer = s.answer ∧ 
    (s.endAtOnce p).fresh = s.fresh := by
  and_intros <;> rfl

@[simp] theorem State.ledgerWrote_keeps (s : State) (l : List LedgerWord) :
    (s.ledgerWrote l).pending = s.pending ∧ (s.ledgerWrote l).mode = s.mode ∧ (s.ledgerWrote l).trans = s.trans ∧ 
    (s.ledgerWrote l).warm = s.warm ∧ (s.ledgerWrote l).regs = s.regs ∧ (s.ledgerWrote l).shadow = s.shadow ∧ 
    (s.ledgerWrote l).latches = s.latches ∧ (s.ledgerWrote l).gtime = s.gtime ∧ (s.ledgerWrote l).vxu = s.vxu ∧ 
    (s.ledgerWrote l).cad = s.cad ∧ (s.ledgerWrote l).rae = s.rae ∧ (s.ledgerWrote l).lanes = s.lanes ∧ 
    (s.ledgerWrote l).chains = s.chains ∧ (s.ledgerWrote l).pkt = s.pkt ∧ (s.ledgerWrote l).pmc = s.pmc ∧ 
    (s.ledgerWrote l).sec = s.sec ∧ (s.ledgerWrote l).avail = s.avail ∧ (s.ledgerWrote l).cfg = s.cfg ∧ 
    (s.ledgerWrote l).qos = s.qos ∧ (s.ledgerWrote l).dmc = s.dmc ∧ (s.ledgerWrote l).bst = s.bst ∧ 
    (s.ledgerWrote l).thm = s.thm ∧ (s.ledgerWrote l).pwr = s.pwr ∧ (s.ledgerWrote l).fse = s.fse ∧ 
    (s.ledgerWrote l).upd = s.upd ∧ (s.ledgerWrote l).aon = s.aon ∧ (s.ledgerWrote l).i3c = s.i3c ∧ 
    (s.ledgerWrote l).tap = s.tap ∧ (s.ledgerWrote l).mem = s.mem ∧ (s.ledgerWrote l).errs = s.errs ∧ 
    (s.ledgerWrote l).out = s.out ∧ (s.ledgerWrote l).answer = s.answer ∧ (s.ledgerWrote l).fresh = s.fresh := by
  and_intros <;> rfl

@[simp] theorem State.idleLanes_keeps (s : State) :
    (s.idleLanes).pending = s.pending ∧ (s.idleLanes).mode = s.mode ∧ (s.idleLanes).trans = s.trans ∧ 
    (s.idleLanes).warm = s.warm ∧ (s.idleLanes).regs = s.regs ∧ (s.idleLanes).shadow = s.shadow ∧ 
    (s.idleLanes).latches = s.latches ∧ (s.idleLanes).gtime = s.gtime ∧ (s.idleLanes).vxu = s.vxu ∧ (s.idleLanes).cad = s.cad ∧ 
    (s.idleLanes).rae = s.rae ∧ (s.idleLanes).chains = s.chains ∧ (s.idleLanes).pkt = s.pkt ∧ (s.idleLanes).flt = s.flt ∧ 
    (s.idleLanes).pmc = s.pmc ∧ (s.idleLanes).sec = s.sec ∧ (s.idleLanes).avail = s.avail ∧ (s.idleLanes).cfg = s.cfg ∧ 
    (s.idleLanes).qos = s.qos ∧ (s.idleLanes).dmc = s.dmc ∧ (s.idleLanes).bst = s.bst ∧ (s.idleLanes).thm = s.thm ∧ 
    (s.idleLanes).pwr = s.pwr ∧ (s.idleLanes).fse = s.fse ∧ (s.idleLanes).upd = s.upd ∧ (s.idleLanes).aon = s.aon ∧ 
    (s.idleLanes).i3c = s.i3c ∧ (s.idleLanes).tap = s.tap ∧ (s.idleLanes).mem = s.mem ∧ (s.idleLanes).errs = s.errs ∧ 
    (s.idleLanes).out = s.out ∧ (s.idleLanes).answer = s.answer ∧ (s.idleLanes).fresh = s.fresh := by
  and_intros <;> rfl

@[simp] theorem State.enterMode_keeps (s : State) (m : Mode) :
    (s.enterMode m).pending = s.pending ∧ (s.enterMode m).warm = s.warm ∧ (s.enterMode m).regs = s.regs ∧ 
    (s.enterMode m).shadow = s.shadow ∧ (s.enterMode m).latches = s.latches ∧ (s.enterMode m).gtime = s.gtime ∧ 
    (s.enterMode m).vxu = s.vxu ∧ (s.enterMode m).rae = s.rae ∧ (s.enterMode m).lanes = s.lanes ∧ 
    (s.enterMode m).chains = s.chains ∧ (s.enterMode m).pkt = s.pkt ∧ (s.enterMode m).pmc = s.pmc ∧ 
    (s.enterMode m).sec = s.sec ∧ (s.enterMode m).cfg = s.cfg ∧ (s.enterMode m).qos = s.qos ∧ (s.enterMode m).dmc = s.dmc ∧ 
    (s.enterMode m).bst = s.bst ∧ (s.enterMode m).thm = s.thm ∧ (s.enterMode m).pwr = s.pwr ∧ (s.enterMode m).fse = s.fse ∧ 
    (s.enterMode m).upd = s.upd ∧ (s.enterMode m).aon = s.aon ∧ (s.enterMode m).i3c = s.i3c ∧ (s.enterMode m).tap = s.tap ∧ 
    (s.enterMode m).mem = s.mem ∧ (s.enterMode m).errs = s.errs ∧ (s.enterMode m).out = s.out ∧ 
    (s.enterMode m).answer = s.answer ∧ (s.enterMode m).fresh = s.fresh := by
  and_intros <;> rfl

@[simp] theorem State.loseMem_keeps (s : State) (l : List Nat) :
    (s.loseMem l).pending = s.pending ∧ (s.loseMem l).mode = s.mode ∧ (s.loseMem l).trans = s.trans ∧ 
    (s.loseMem l).warm = s.warm ∧ (s.loseMem l).regs = s.regs ∧ (s.loseMem l).shadow = s.shadow ∧ 
    (s.loseMem l).latches = s.latches ∧ (s.loseMem l).gtime = s.gtime ∧ (s.loseMem l).vxu = s.vxu ∧ (s.loseMem l).cad = s.cad ∧ 
    (s.loseMem l).rae = s.rae ∧ (s.loseMem l).lanes = s.lanes ∧ (s.loseMem l).chains = s.chains ∧ (s.loseMem l).pkt = s.pkt ∧ 
    (s.loseMem l).flt = s.flt ∧ (s.loseMem l).pmc = s.pmc ∧ (s.loseMem l).sec = s.sec ∧ (s.loseMem l).avail = s.avail ∧ 
    (s.loseMem l).cfg = s.cfg ∧ (s.loseMem l).qos = s.qos ∧ (s.loseMem l).dmc = s.dmc ∧ (s.loseMem l).bst = s.bst ∧ 
    (s.loseMem l).thm = s.thm ∧ (s.loseMem l).pwr = s.pwr ∧ (s.loseMem l).fse = s.fse ∧ (s.loseMem l).upd = s.upd ∧ 
    (s.loseMem l).aon = s.aon ∧ (s.loseMem l).i3c = s.i3c ∧ (s.loseMem l).tap = s.tap ∧ (s.loseMem l).out = s.out ∧ 
    (s.loseMem l).answer = s.answer ∧ (s.loseMem l).fresh = s.fresh := by
  and_intros <;> rfl

@[simp] theorem State.blow_keeps (s : State) (l : List Nat) :
    (s.blow l).pending = s.pending ∧ (s.blow l).mode = s.mode ∧ (s.blow l).trans = s.trans ∧ (s.blow l).warm = s.warm ∧ 
    (s.blow l).regs = s.regs ∧ (s.blow l).shadow = s.shadow ∧ (s.blow l).latches = s.latches ∧ (s.blow l).gtime = s.gtime ∧ 
    (s.blow l).vxu = s.vxu ∧ (s.blow l).cad = s.cad ∧ (s.blow l).rae = s.rae ∧ (s.blow l).lanes = s.lanes ∧ 
    (s.blow l).chains = s.chains ∧ (s.blow l).pkt = s.pkt ∧ (s.blow l).flt = s.flt ∧ (s.blow l).pmc = s.pmc ∧ 
    (s.blow l).sec = s.sec ∧ (s.blow l).avail = s.avail ∧ (s.blow l).cfg = s.cfg ∧ (s.blow l).qos = s.qos ∧ 
    (s.blow l).dmc = s.dmc ∧ (s.blow l).bst = s.bst ∧ (s.blow l).thm = s.thm ∧ (s.blow l).pwr = s.pwr ∧ (s.blow l).upd = s.upd ∧ 
    (s.blow l).aon = s.aon ∧ (s.blow l).i3c = s.i3c ∧ (s.blow l).tap = s.tap ∧ (s.blow l).mem = s.mem ∧ 
    (s.blow l).errs = s.errs ∧ (s.blow l).out = s.out ∧ (s.blow l).answer = s.answer ∧ (s.blow l).fresh = s.fresh := by
  and_intros <;> rfl

@[simp] theorem State.recordBits_keeps (s : State) (l : List Nat) :
    (s.recordBits l).pending = s.pending ∧ (s.recordBits l).mode = s.mode ∧ (s.recordBits l).trans = s.trans ∧ 
    (s.recordBits l).warm = s.warm ∧ (s.recordBits l).shadow = s.shadow ∧ (s.recordBits l).latches = s.latches ∧ 
    (s.recordBits l).gtime = s.gtime ∧ (s.recordBits l).vxu = s.vxu ∧ (s.recordBits l).cad = s.cad ∧ 
    (s.recordBits l).rae = s.rae ∧ (s.recordBits l).lanes = s.lanes ∧ (s.recordBits l).chains = s.chains ∧ 
    (s.recordBits l).pmc = s.pmc ∧ (s.recordBits l).sec = s.sec ∧ (s.recordBits l).avail = s.avail ∧ 
    (s.recordBits l).cfg = s.cfg ∧ (s.recordBits l).qos = s.qos ∧ (s.recordBits l).dmc = s.dmc ∧ (s.recordBits l).bst = s.bst ∧ 
    (s.recordBits l).thm = s.thm ∧ (s.recordBits l).pwr = s.pwr ∧ (s.recordBits l).upd = s.upd ∧ (s.recordBits l).aon = s.aon ∧ 
    (s.recordBits l).i3c = s.i3c ∧ (s.recordBits l).tap = s.tap ∧ (s.recordBits l).mem = s.mem ∧ 
    (s.recordBits l).errs = s.errs ∧ (s.recordBits l).out = s.out ∧ (s.recordBits l).answer = s.answer ∧ 
    (s.recordBits l).fresh = s.fresh := by
  unfold State.recordBits
  dsimp only
  split <;> refine ⟨by simp <;> exact foldl_keeps State.pending _ _ _ (fun t x => by simp), by simp <;> exact foldl_keeps State.mode _ _ _ (fun t x => by simp), by simp <;> exact foldl_keeps State.trans _ _ _ (fun t x => by simp), by simp <;> exact foldl_keeps State.warm _ _ _ (fun t x => by simp), by simp <;> exact foldl_keeps State.shadow _ _ _ (fun t x => by simp), by simp <;> exact foldl_keeps State.latches _ _ _ (fun t x => by simp), by simp <;> exact foldl_keeps State.gtime _ _ _ (fun t x => by simp), by simp <;> exact foldl_keeps State.vxu _ _ _ (fun t x => by simp), by simp <;> exact foldl_keeps State.cad _ _ _ (fun t x => by simp), by simp <;> exact foldl_keeps State.rae _ _ _ (fun t x => by simp), by simp <;> exact foldl_keeps State.lanes _ _ _ (fun t x => by simp), by simp <;> exact foldl_keeps State.chains _ _ _ (fun t x => by simp), by simp <;> exact foldl_keeps State.pmc _ _ _ (fun t x => by simp), by simp <;> exact foldl_keeps State.sec _ _ _ (fun t x => by simp), by simp <;> exact foldl_keeps State.avail _ _ _ (fun t x => by simp), by simp <;> exact foldl_keeps State.cfg _ _ _ (fun t x => by simp), by simp <;> exact foldl_keeps State.qos _ _ _ (fun t x => by simp), by simp <;> exact foldl_keeps State.dmc _ _ _ (fun t x => by simp), by simp <;> exact foldl_keeps State.bst _ _ _ (fun t x => by simp), by simp <;> exact foldl_keeps State.thm _ _ _ (fun t x => by simp), by simp <;> exact foldl_keeps State.pwr _ _ _ (fun t x => by simp), by simp <;> exact foldl_keeps State.upd _ _ _ (fun t x => by simp), by simp <;> exact foldl_keeps State.aon _ _ _ (fun t x => by simp), by simp <;> exact foldl_keeps State.i3c _ _ _ (fun t x => by simp), by simp <;> exact foldl_keeps State.tap _ _ _ (fun t x => by simp), by simp <;> exact foldl_keeps State.mem _ _ _ (fun t x => by simp), by simp <;> exact foldl_keeps State.errs _ _ _ (fun t x => by simp), by simp <;> exact foldl_keeps State.out _ _ _ (fun t x => by simp), by simp <;> exact foldl_keeps State.answer _ _ _ (fun t x => by simp), by simp <;> exact foldl_keeps State.fresh _ _ _ (fun t x => by simp)⟩

@[simp] theorem State.senseBits_keeps (s : State) (f : Nat → Bool) (l : List Nat) :
    (s.senseBits f l).pending = s.pending ∧ (s.senseBits f l).mode = s.mode ∧ (s.senseBits f l).trans = s.trans ∧ 
    (s.senseBits f l).warm = s.warm ∧ (s.senseBits f l).shadow = s.shadow ∧ (s.senseBits f l).latches = s.latches ∧ 
    (s.senseBits f l).gtime = s.gtime ∧ (s.senseBits f l).vxu = s.vxu ∧ (s.senseBits f l).cad = s.cad ∧ 
    (s.senseBits f l).rae = s.rae ∧ (s.senseBits f l).lanes = s.lanes ∧ (s.senseBits f l).chains = s.chains ∧ 
    (s.senseBits f l).pmc = s.pmc ∧ (s.senseBits f l).sec = s.sec ∧ (s.senseBits f l).avail = s.avail ∧ 
    (s.senseBits f l).cfg = s.cfg ∧ (s.senseBits f l).qos = s.qos ∧ (s.senseBits f l).dmc = s.dmc ∧ 
    (s.senseBits f l).bst = s.bst ∧ (s.senseBits f l).thm = s.thm ∧ (s.senseBits f l).pwr = s.pwr ∧ 
    (s.senseBits f l).upd = s.upd ∧ (s.senseBits f l).aon = s.aon ∧ (s.senseBits f l).i3c = s.i3c ∧ 
    (s.senseBits f l).tap = s.tap ∧ (s.senseBits f l).mem = s.mem ∧ (s.senseBits f l).errs = s.errs ∧ 
    (s.senseBits f l).out = s.out ∧ (s.senseBits f l).answer = s.answer ∧ (s.senseBits f l).fresh = s.fresh := by
  simp [State.senseBits]

@[simp] theorem State.reinforced_keeps (s : State) (l : List Nat) :
    (s.reinforced l).pending = s.pending ∧ (s.reinforced l).mode = s.mode ∧ (s.reinforced l).trans = s.trans ∧ 
    (s.reinforced l).warm = s.warm ∧ (s.reinforced l).shadow = s.shadow ∧ (s.reinforced l).latches = s.latches ∧ 
    (s.reinforced l).gtime = s.gtime ∧ (s.reinforced l).vxu = s.vxu ∧ (s.reinforced l).cad = s.cad ∧ 
    (s.reinforced l).rae = s.rae ∧ (s.reinforced l).lanes = s.lanes ∧ (s.reinforced l).chains = s.chains ∧ 
    (s.reinforced l).pkt = s.pkt ∧ (s.reinforced l).flt = s.flt ∧ (s.reinforced l).pmc = s.pmc ∧ (s.reinforced l).sec = s.sec ∧ 
    (s.reinforced l).avail = s.avail ∧ (s.reinforced l).cfg = s.cfg ∧ (s.reinforced l).qos = s.qos ∧ 
    (s.reinforced l).dmc = s.dmc ∧ (s.reinforced l).bst = s.bst ∧ (s.reinforced l).thm = s.thm ∧ (s.reinforced l).pwr = s.pwr ∧ 
    (s.reinforced l).upd = s.upd ∧ (s.reinforced l).aon = s.aon ∧ (s.reinforced l).i3c = s.i3c ∧ (s.reinforced l).tap = s.tap ∧ 
    (s.reinforced l).mem = s.mem ∧ (s.reinforced l).errs = s.errs ∧ (s.reinforced l).out = s.out ∧ 
    (s.reinforced l).answer = s.answer ∧ (s.reinforced l).fresh = s.fresh := by
  unfold State.reinforced; split <;> simp

@[simp] theorem State.lockedOut_keeps (s : State) :
    (s.lockedOut).pending = s.pending ∧ (s.lockedOut).mode = s.mode ∧ (s.lockedOut).trans = s.trans ∧ 
    (s.lockedOut).warm = s.warm ∧ (s.lockedOut).shadow = s.shadow ∧ (s.lockedOut).latches = s.latches ∧ 
    (s.lockedOut).gtime = s.gtime ∧ (s.lockedOut).vxu = s.vxu ∧ (s.lockedOut).cad = s.cad ∧ (s.lockedOut).rae = s.rae ∧ 
    (s.lockedOut).lanes = s.lanes ∧ (s.lockedOut).chains = s.chains ∧ (s.lockedOut).pmc = s.pmc ∧ (s.lockedOut).sec = s.sec ∧ 
    (s.lockedOut).avail = s.avail ∧ (s.lockedOut).cfg = s.cfg ∧ (s.lockedOut).qos = s.qos ∧ (s.lockedOut).dmc = s.dmc ∧ 
    (s.lockedOut).bst = s.bst ∧ (s.lockedOut).thm = s.thm ∧ (s.lockedOut).pwr = s.pwr ∧ (s.lockedOut).fse = s.fse ∧ 
    (s.lockedOut).upd = s.upd ∧ (s.lockedOut).aon = s.aon ∧ (s.lockedOut).i3c = s.i3c ∧ (s.lockedOut).tap = s.tap ∧ 
    (s.lockedOut).mem = s.mem ∧ (s.lockedOut).errs = s.errs ∧ (s.lockedOut).out = s.out ∧ (s.lockedOut).answer = s.answer := by
  simp [State.lockedOut]

@[simp] theorem FuseRun.pulse_keeps (x : FuseRun) (n : Nat) :
    (x.pulse n).st.pending = x.st.pending ∧ (x.pulse n).st.mode = x.st.mode ∧ (x.pulse n).st.trans = x.st.trans ∧ 
    (x.pulse n).st.warm = x.st.warm ∧ (x.pulse n).st.shadow = x.st.shadow ∧ (x.pulse n).st.latches = x.st.latches ∧ 
    (x.pulse n).st.gtime = x.st.gtime ∧ (x.pulse n).st.vxu = x.st.vxu ∧ (x.pulse n).st.cad = x.st.cad ∧ 
    (x.pulse n).st.rae = x.st.rae ∧ (x.pulse n).st.lanes = x.st.lanes ∧ (x.pulse n).st.chains = x.st.chains ∧ 
    (x.pulse n).st.pmc = x.st.pmc ∧ (x.pulse n).st.sec = x.st.sec ∧ (x.pulse n).st.avail = x.st.avail ∧ 
    (x.pulse n).st.cfg = x.st.cfg ∧ (x.pulse n).st.qos = x.st.qos ∧ (x.pulse n).st.dmc = x.st.dmc ∧ 
    (x.pulse n).st.bst = x.st.bst ∧ (x.pulse n).st.thm = x.st.thm ∧ (x.pulse n).st.pwr = x.st.pwr ∧ 
    (x.pulse n).st.upd = x.st.upd ∧ (x.pulse n).st.aon = x.st.aon ∧ (x.pulse n).st.i3c = x.st.i3c ∧ 
    (x.pulse n).st.tap = x.st.tap ∧ (x.pulse n).st.mem = x.st.mem ∧ (x.pulse n).st.errs = x.st.errs ∧ 
    (x.pulse n).st.out = x.st.out ∧ (x.pulse n).st.answer = x.st.answer := by
  and_intros <;> rfl

@[simp] theorem FuseRun.verified_keeps (x : FuseRun) (b : Nat) :
    (x.verified b).st.pending = x.st.pending ∧ (x.verified b).st.mode = x.st.mode ∧ (x.verified b).st.trans = x.st.trans ∧ 
    (x.verified b).st.warm = x.st.warm ∧ (x.verified b).st.shadow = x.st.shadow ∧ (x.verified b).st.latches = x.st.latches ∧ 
    (x.verified b).st.gtime = x.st.gtime ∧ (x.verified b).st.vxu = x.st.vxu ∧ (x.verified b).st.cad = x.st.cad ∧ 
    (x.verified b).st.rae = x.st.rae ∧ (x.verified b).st.lanes = x.st.lanes ∧ (x.verified b).st.chains = x.st.chains ∧ 
    (x.verified b).st.pmc = x.st.pmc ∧ (x.verified b).st.sec = x.st.sec ∧ (x.verified b).st.avail = x.st.avail ∧ 
    (x.verified b).st.cfg = x.st.cfg ∧ (x.verified b).st.qos = x.st.qos ∧ (x.verified b).st.dmc = x.st.dmc ∧ 
    (x.verified b).st.bst = x.st.bst ∧ (x.verified b).st.thm = x.st.thm ∧ (x.verified b).st.pwr = x.st.pwr ∧ 
    (x.verified b).st.upd = x.st.upd ∧ (x.verified b).st.aon = x.st.aon ∧ (x.verified b).st.i3c = x.st.i3c ∧ 
    (x.verified b).st.tap = x.st.tap ∧ (x.verified b).st.mem = x.st.mem ∧ (x.verified b).st.errs = x.st.errs ∧ 
    (x.verified b).st.out = x.st.out ∧ (x.verified b).st.answer = x.st.answer := by
  and_intros <;> rfl

@[simp] theorem FuseRun.program_keeps (x : FuseRun) (b : Nat) :
    (x.program b).st.pending = x.st.pending ∧ (x.program b).st.mode = x.st.mode ∧ (x.program b).st.trans = x.st.trans ∧ 
    (x.program b).st.warm = x.st.warm ∧ (x.program b).st.shadow = x.st.shadow ∧ (x.program b).st.latches = x.st.latches ∧ 
    (x.program b).st.gtime = x.st.gtime ∧ (x.program b).st.vxu = x.st.vxu ∧ (x.program b).st.cad = x.st.cad ∧ 
    (x.program b).st.rae = x.st.rae ∧ (x.program b).st.lanes = x.st.lanes ∧ (x.program b).st.chains = x.st.chains ∧ 
    (x.program b).st.pmc = x.st.pmc ∧ (x.program b).st.sec = x.st.sec ∧ (x.program b).st.avail = x.st.avail ∧ 
    (x.program b).st.cfg = x.st.cfg ∧ (x.program b).st.qos = x.st.qos ∧ (x.program b).st.dmc = x.st.dmc ∧ 
    (x.program b).st.bst = x.st.bst ∧ (x.program b).st.thm = x.st.thm ∧ (x.program b).st.pwr = x.st.pwr ∧ 
    (x.program b).st.upd = x.st.upd ∧ (x.program b).st.aon = x.st.aon ∧ (x.program b).st.i3c = x.st.i3c ∧ 
    (x.program b).st.tap = x.st.tap ∧ (x.program b).st.mem = x.st.mem ∧ (x.program b).st.errs = x.st.errs ∧ 
    (x.program b).st.out = x.st.out ∧ (x.program b).st.answer = x.st.answer := by
  unfold FuseRun.program; repeat' split
  all_goals simp

@[simp] theorem FuseRun.pulses_keeps (x : FuseRun) (l : List Nat) :
    (l.foldl (fun (y : FuseRun) _ => y.pulse 1) x).st.pending = x.st.pending ∧ 
    (l.foldl (fun (y : FuseRun) _ => y.pulse 1) x).st.mode = x.st.mode ∧ 
    (l.foldl (fun (y : FuseRun) _ => y.pulse 1) x).st.trans = x.st.trans ∧ 
    (l.foldl (fun (y : FuseRun) _ => y.pulse 1) x).st.warm = x.st.warm ∧ 
    (l.foldl (fun (y : FuseRun) _ => y.pulse 1) x).st.shadow = x.st.shadow ∧ 
    (l.foldl (fun (y : FuseRun) _ => y.pulse 1) x).st.latches = x.st.latches ∧ 
    (l.foldl (fun (y : FuseRun) _ => y.pulse 1) x).st.gtime = x.st.gtime ∧ 
    (l.foldl (fun (y : FuseRun) _ => y.pulse 1) x).st.vxu = x.st.vxu ∧ 
    (l.foldl (fun (y : FuseRun) _ => y.pulse 1) x).st.cad = x.st.cad ∧ 
    (l.foldl (fun (y : FuseRun) _ => y.pulse 1) x).st.rae = x.st.rae ∧ 
    (l.foldl (fun (y : FuseRun) _ => y.pulse 1) x).st.lanes = x.st.lanes ∧ 
    (l.foldl (fun (y : FuseRun) _ => y.pulse 1) x).st.chains = x.st.chains ∧ 
    (l.foldl (fun (y : FuseRun) _ => y.pulse 1) x).st.pmc = x.st.pmc ∧ 
    (l.foldl (fun (y : FuseRun) _ => y.pulse 1) x).st.sec = x.st.sec ∧ 
    (l.foldl (fun (y : FuseRun) _ => y.pulse 1) x).st.avail = x.st.avail ∧ 
    (l.foldl (fun (y : FuseRun) _ => y.pulse 1) x).st.cfg = x.st.cfg ∧ 
    (l.foldl (fun (y : FuseRun) _ => y.pulse 1) x).st.qos = x.st.qos ∧ 
    (l.foldl (fun (y : FuseRun) _ => y.pulse 1) x).st.dmc = x.st.dmc ∧ 
    (l.foldl (fun (y : FuseRun) _ => y.pulse 1) x).st.bst = x.st.bst ∧ 
    (l.foldl (fun (y : FuseRun) _ => y.pulse 1) x).st.thm = x.st.thm ∧ 
    (l.foldl (fun (y : FuseRun) _ => y.pulse 1) x).st.pwr = x.st.pwr ∧ 
    (l.foldl (fun (y : FuseRun) _ => y.pulse 1) x).st.upd = x.st.upd ∧ 
    (l.foldl (fun (y : FuseRun) _ => y.pulse 1) x).st.aon = x.st.aon ∧ 
    (l.foldl (fun (y : FuseRun) _ => y.pulse 1) x).st.i3c = x.st.i3c ∧ 
    (l.foldl (fun (y : FuseRun) _ => y.pulse 1) x).st.tap = x.st.tap ∧ 
    (l.foldl (fun (y : FuseRun) _ => y.pulse 1) x).st.mem = x.st.mem ∧ 
    (l.foldl (fun (y : FuseRun) _ => y.pulse 1) x).st.errs = x.st.errs ∧ 
    (l.foldl (fun (y : FuseRun) _ => y.pulse 1) x).st.out = x.st.out ∧ 
    (l.foldl (fun (y : FuseRun) _ => y.pulse 1) x).st.answer = x.st.answer := by
  induction l generalizing x with
  | nil => simp
  | cons b r ih => simpa using ih (x.pulse 1)

@[simp] theorem FuseRun.boost_keeps (x : FuseRun) (l : List Nat) :
    (x.boost l).st.pending = x.st.pending ∧ (x.boost l).st.mode = x.st.mode ∧ (x.boost l).st.trans = x.st.trans ∧ 
    (x.boost l).st.warm = x.st.warm ∧ (x.boost l).st.shadow = x.st.shadow ∧ (x.boost l).st.latches = x.st.latches ∧ 
    (x.boost l).st.gtime = x.st.gtime ∧ (x.boost l).st.vxu = x.st.vxu ∧ (x.boost l).st.cad = x.st.cad ∧ 
    (x.boost l).st.rae = x.st.rae ∧ (x.boost l).st.lanes = x.st.lanes ∧ (x.boost l).st.chains = x.st.chains ∧ 
    (x.boost l).st.pmc = x.st.pmc ∧ (x.boost l).st.sec = x.st.sec ∧ (x.boost l).st.avail = x.st.avail ∧ 
    (x.boost l).st.cfg = x.st.cfg ∧ (x.boost l).st.qos = x.st.qos ∧ (x.boost l).st.dmc = x.st.dmc ∧ 
    (x.boost l).st.bst = x.st.bst ∧ (x.boost l).st.thm = x.st.thm ∧ (x.boost l).st.pwr = x.st.pwr ∧ 
    (x.boost l).st.upd = x.st.upd ∧ (x.boost l).st.aon = x.st.aon ∧ (x.boost l).st.i3c = x.st.i3c ∧ 
    (x.boost l).st.tap = x.st.tap ∧ (x.boost l).st.mem = x.st.mem ∧ (x.boost l).st.errs = x.st.errs ∧ 
    (x.boost l).st.out = x.st.out ∧ (x.boost l).st.answer = x.st.answer := by
  simp [FuseRun.boost]

@[simp] theorem FuseRun.sense_keeps (x : FuseRun) (f : Nat → Bool) :
    ((x.sense f).1).st.pending = x.st.pending ∧ ((x.sense f).1).st.mode = x.st.mode ∧ ((x.sense f).1).st.trans = x.st.trans ∧ 
    ((x.sense f).1).st.warm = x.st.warm ∧ ((x.sense f).1).st.shadow = x.st.shadow ∧ ((x.sense f).1).st.latches = x.st.latches ∧ 
    ((x.sense f).1).st.gtime = x.st.gtime ∧ ((x.sense f).1).st.vxu = x.st.vxu ∧ ((x.sense f).1).st.cad = x.st.cad ∧ 
    ((x.sense f).1).st.rae = x.st.rae ∧ ((x.sense f).1).st.lanes = x.st.lanes ∧ ((x.sense f).1).st.chains = x.st.chains ∧ 
    ((x.sense f).1).st.pmc = x.st.pmc ∧ ((x.sense f).1).st.sec = x.st.sec ∧ ((x.sense f).1).st.avail = x.st.avail ∧ 
    ((x.sense f).1).st.cfg = x.st.cfg ∧ ((x.sense f).1).st.qos = x.st.qos ∧ ((x.sense f).1).st.dmc = x.st.dmc ∧ 
    ((x.sense f).1).st.bst = x.st.bst ∧ ((x.sense f).1).st.thm = x.st.thm ∧ ((x.sense f).1).st.pwr = x.st.pwr ∧ 
    ((x.sense f).1).st.upd = x.st.upd ∧ ((x.sense f).1).st.aon = x.st.aon ∧ ((x.sense f).1).st.i3c = x.st.i3c ∧ 
    ((x.sense f).1).st.tap = x.st.tap ∧ ((x.sense f).1).st.mem = x.st.mem ∧ ((x.sense f).1).st.errs = x.st.errs ∧ 
    ((x.sense f).1).st.out = x.st.out ∧ ((x.sense f).1).st.answer = x.st.answer := by
  simp [FuseRun.sense]

@[simp] theorem FuseRun.settle_keeps (x : FuseRun) (n : Nat) (ws : List DWord) (k : Nat) :
    (x.settle n ws k).st.pending = x.st.pending ∧ (x.settle n ws k).st.mode = x.st.mode ∧ 
    (x.settle n ws k).st.trans = x.st.trans ∧ (x.settle n ws k).st.warm = x.st.warm ∧ 
    (x.settle n ws k).st.shadow = x.st.shadow ∧ (x.settle n ws k).st.latches = x.st.latches ∧ 
    (x.settle n ws k).st.gtime = x.st.gtime ∧ (x.settle n ws k).st.vxu = x.st.vxu ∧ (x.settle n ws k).st.cad = x.st.cad ∧ 
    (x.settle n ws k).st.rae = x.st.rae ∧ (x.settle n ws k).st.lanes = x.st.lanes ∧ (x.settle n ws k).st.chains = x.st.chains ∧ 
    (x.settle n ws k).st.pmc = x.st.pmc ∧ (x.settle n ws k).st.sec = x.st.sec ∧ (x.settle n ws k).st.avail = x.st.avail ∧ 
    (x.settle n ws k).st.cfg = x.st.cfg ∧ (x.settle n ws k).st.qos = x.st.qos ∧ (x.settle n ws k).st.dmc = x.st.dmc ∧ 
    (x.settle n ws k).st.bst = x.st.bst ∧ (x.settle n ws k).st.thm = x.st.thm ∧ (x.settle n ws k).st.pwr = x.st.pwr ∧ 
    (x.settle n ws k).st.upd = x.st.upd ∧ (x.settle n ws k).st.aon = x.st.aon ∧ (x.settle n ws k).st.i3c = x.st.i3c ∧ 
    (x.settle n ws k).st.tap = x.st.tap ∧ (x.settle n ws k).st.mem = x.st.mem ∧ (x.settle n ws k).st.errs = x.st.errs ∧ 
    (x.settle n ws k).st.out = x.st.out ∧ (x.settle n ws k).st.answer = x.st.answer := by
  induction k generalizing x with
  | zero => unfold FuseRun.settle; dsimp only; split <;> simp
  | succ k ih => unfold FuseRun.settle; dsimp only; repeat' split
                 all_goals simp [ih]

@[simp] theorem FuseRun.blows_keeps (x : FuseRun) (l : List Nat) :
    (l.foldl FuseRun.verified x).st.pending = x.st.pending ∧ (l.foldl FuseRun.verified x).st.mode = x.st.mode ∧ 
    (l.foldl FuseRun.verified x).st.trans = x.st.trans ∧ (l.foldl FuseRun.verified x).st.warm = x.st.warm ∧ 
    (l.foldl FuseRun.verified x).st.shadow = x.st.shadow ∧ (l.foldl FuseRun.verified x).st.latches = x.st.latches ∧ 
    (l.foldl FuseRun.verified x).st.gtime = x.st.gtime ∧ (l.foldl FuseRun.verified x).st.vxu = x.st.vxu ∧ 
    (l.foldl FuseRun.verified x).st.cad = x.st.cad ∧ (l.foldl FuseRun.verified x).st.rae = x.st.rae ∧ 
    (l.foldl FuseRun.verified x).st.lanes = x.st.lanes ∧ (l.foldl FuseRun.verified x).st.chains = x.st.chains ∧ 
    (l.foldl FuseRun.verified x).st.pmc = x.st.pmc ∧ (l.foldl FuseRun.verified x).st.sec = x.st.sec ∧ 
    (l.foldl FuseRun.verified x).st.avail = x.st.avail ∧ (l.foldl FuseRun.verified x).st.cfg = x.st.cfg ∧ 
    (l.foldl FuseRun.verified x).st.qos = x.st.qos ∧ (l.foldl FuseRun.verified x).st.dmc = x.st.dmc ∧ 
    (l.foldl FuseRun.verified x).st.bst = x.st.bst ∧ (l.foldl FuseRun.verified x).st.thm = x.st.thm ∧ 
    (l.foldl FuseRun.verified x).st.pwr = x.st.pwr ∧ (l.foldl FuseRun.verified x).st.upd = x.st.upd ∧ 
    (l.foldl FuseRun.verified x).st.aon = x.st.aon ∧ (l.foldl FuseRun.verified x).st.i3c = x.st.i3c ∧ 
    (l.foldl FuseRun.verified x).st.tap = x.st.tap ∧ (l.foldl FuseRun.verified x).st.mem = x.st.mem ∧ 
    (l.foldl FuseRun.verified x).st.errs = x.st.errs ∧ (l.foldl FuseRun.verified x).st.out = x.st.out ∧ 
    (l.foldl FuseRun.verified x).st.answer = x.st.answer := by
  induction l generalizing x with
  | nil => simp
  | cons b r ih => simpa using ih (x.verified b)

@[simp] theorem FuseRun.step_keeps (x : FuseRun) (e : FuseStep) :
    (x.step e).st.pending = x.st.pending ∧ (x.step e).st.mode = x.st.mode ∧ (x.step e).st.trans = x.st.trans ∧ 
    (x.step e).st.warm = x.st.warm ∧ (x.step e).st.shadow = x.st.shadow ∧ (x.step e).st.latches = x.st.latches ∧ 
    (x.step e).st.gtime = x.st.gtime ∧ (x.step e).st.vxu = x.st.vxu ∧ (x.step e).st.cad = x.st.cad ∧ 
    (x.step e).st.rae = x.st.rae ∧ (x.step e).st.lanes = x.st.lanes ∧ (x.step e).st.chains = x.st.chains ∧ 
    (x.step e).st.pmc = x.st.pmc ∧ (x.step e).st.sec = x.st.sec ∧ (x.step e).st.avail = x.st.avail ∧ 
    (x.step e).st.cfg = x.st.cfg ∧ (x.step e).st.qos = x.st.qos ∧ (x.step e).st.dmc = x.st.dmc ∧ (x.step e).st.bst = x.st.bst ∧ 
    (x.step e).st.thm = x.st.thm ∧ (x.step e).st.pwr = x.st.pwr ∧ (x.step e).st.upd = x.st.upd ∧ (x.step e).st.aon = x.st.aon ∧ 
    (x.step e).st.i3c = x.st.i3c ∧ (x.step e).st.tap = x.st.tap ∧ (x.step e).st.mem = x.st.mem ∧ 
    (x.step e).st.errs = x.st.errs ∧ (x.step e).st.out = x.st.out ∧ (x.step e).st.answer = x.st.answer := by
  unfold FuseRun.step; repeat' split
  all_goals simp

@[simp] theorem FuseRun.upTo_keeps (x : FuseRun) (n : Nat) (l : List FuseStep) :
    ((x.upTo n l).1).st.pending = x.st.pending ∧ ((x.upTo n l).1).st.mode = x.st.mode ∧ ((x.upTo n l).1).st.trans = x.st.trans ∧ 
    ((x.upTo n l).1).st.warm = x.st.warm ∧ ((x.upTo n l).1).st.shadow = x.st.shadow ∧ 
    ((x.upTo n l).1).st.latches = x.st.latches ∧ ((x.upTo n l).1).st.gtime = x.st.gtime ∧ ((x.upTo n l).1).st.vxu = x.st.vxu ∧ 
    ((x.upTo n l).1).st.cad = x.st.cad ∧ ((x.upTo n l).1).st.rae = x.st.rae ∧ ((x.upTo n l).1).st.lanes = x.st.lanes ∧ 
    ((x.upTo n l).1).st.chains = x.st.chains ∧ ((x.upTo n l).1).st.pmc = x.st.pmc ∧ ((x.upTo n l).1).st.sec = x.st.sec ∧ 
    ((x.upTo n l).1).st.avail = x.st.avail ∧ ((x.upTo n l).1).st.cfg = x.st.cfg ∧ ((x.upTo n l).1).st.qos = x.st.qos ∧ 
    ((x.upTo n l).1).st.dmc = x.st.dmc ∧ ((x.upTo n l).1).st.bst = x.st.bst ∧ ((x.upTo n l).1).st.thm = x.st.thm ∧ 
    ((x.upTo n l).1).st.pwr = x.st.pwr ∧ ((x.upTo n l).1).st.upd = x.st.upd ∧ ((x.upTo n l).1).st.aon = x.st.aon ∧ 
    ((x.upTo n l).1).st.i3c = x.st.i3c ∧ ((x.upTo n l).1).st.tap = x.st.tap ∧ ((x.upTo n l).1).st.mem = x.st.mem ∧ 
    ((x.upTo n l).1).st.errs = x.st.errs ∧ ((x.upTo n l).1).st.out = x.st.out ∧ ((x.upTo n l).1).st.answer = x.st.answer := by
  induction n generalizing x l with
  | zero => simp [FuseRun.upTo]
  | succ n ih =>
    cases l with
    | nil => simp [FuseRun.upTo]
    | cons e r => unfold FuseRun.upTo; dsimp only; split <;> simp [ih]

@[simp] theorem FuseRun.steps_keeps (x : FuseRun) (l : List FuseStep) :
    (l.foldl FuseRun.step x).st.pending = x.st.pending ∧ (l.foldl FuseRun.step x).st.mode = x.st.mode ∧ 
    (l.foldl FuseRun.step x).st.trans = x.st.trans ∧ (l.foldl FuseRun.step x).st.warm = x.st.warm ∧ 
    (l.foldl FuseRun.step x).st.shadow = x.st.shadow ∧ (l.foldl FuseRun.step x).st.latches = x.st.latches ∧ 
    (l.foldl FuseRun.step x).st.gtime = x.st.gtime ∧ (l.foldl FuseRun.step x).st.vxu = x.st.vxu ∧ 
    (l.foldl FuseRun.step x).st.cad = x.st.cad ∧ (l.foldl FuseRun.step x).st.rae = x.st.rae ∧ 
    (l.foldl FuseRun.step x).st.lanes = x.st.lanes ∧ (l.foldl FuseRun.step x).st.chains = x.st.chains ∧ 
    (l.foldl FuseRun.step x).st.pmc = x.st.pmc ∧ (l.foldl FuseRun.step x).st.sec = x.st.sec ∧ 
    (l.foldl FuseRun.step x).st.avail = x.st.avail ∧ (l.foldl FuseRun.step x).st.cfg = x.st.cfg ∧ 
    (l.foldl FuseRun.step x).st.qos = x.st.qos ∧ (l.foldl FuseRun.step x).st.dmc = x.st.dmc ∧ 
    (l.foldl FuseRun.step x).st.bst = x.st.bst ∧ (l.foldl FuseRun.step x).st.thm = x.st.thm ∧ 
    (l.foldl FuseRun.step x).st.pwr = x.st.pwr ∧ (l.foldl FuseRun.step x).st.upd = x.st.upd ∧ 
    (l.foldl FuseRun.step x).st.aon = x.st.aon ∧ (l.foldl FuseRun.step x).st.i3c = x.st.i3c ∧ 
    (l.foldl FuseRun.step x).st.tap = x.st.tap ∧ (l.foldl FuseRun.step x).st.mem = x.st.mem ∧ 
    (l.foldl FuseRun.step x).st.errs = x.st.errs ∧ (l.foldl FuseRun.step x).st.out = x.st.out ∧ 
    (l.foldl FuseRun.step x).st.answer = x.st.answer := by
  induction l generalizing x with
  | nil => simp
  | cons e r ih => simpa using ih (x.step e)

@[simp] theorem State.fuseGoesOn_keeps (s : State) :
    (s.fuseGoesOn).pending = s.pending ∧ (s.fuseGoesOn).mode = s.mode ∧ (s.fuseGoesOn).trans = s.trans ∧ 
    (s.fuseGoesOn).warm = s.warm ∧ (s.fuseGoesOn).shadow = s.shadow ∧ (s.fuseGoesOn).latches = s.latches ∧ 
    (s.fuseGoesOn).gtime = s.gtime ∧ (s.fuseGoesOn).vxu = s.vxu ∧ (s.fuseGoesOn).cad = s.cad ∧ (s.fuseGoesOn).rae = s.rae ∧ 
    (s.fuseGoesOn).lanes = s.lanes ∧ (s.fuseGoesOn).chains = s.chains ∧ (s.fuseGoesOn).pmc = s.pmc ∧ 
    (s.fuseGoesOn).sec = s.sec ∧ (s.fuseGoesOn).avail = s.avail ∧ (s.fuseGoesOn).cfg = s.cfg ∧ (s.fuseGoesOn).qos = s.qos ∧ 
    (s.fuseGoesOn).dmc = s.dmc ∧ (s.fuseGoesOn).bst = s.bst ∧ (s.fuseGoesOn).thm = s.thm ∧ (s.fuseGoesOn).pwr = s.pwr ∧ 
    (s.fuseGoesOn).upd = s.upd ∧ (s.fuseGoesOn).aon = s.aon ∧ (s.fuseGoesOn).i3c = s.i3c ∧ (s.fuseGoesOn).tap = s.tap ∧ 
    (s.fuseGoesOn).mem = s.mem ∧ (s.fuseGoesOn).errs = s.errs ∧ (s.fuseGoesOn).out = s.out ∧ (s.fuseGoesOn).answer = s.answer := by
  unfold State.fuseGoesOn; split <;> simp [State.drawn]

@[simp] theorem State.fuseCut_keeps (s : State) :
    (s.fuseCut).pending = s.pending ∧ (s.fuseCut).mode = s.mode ∧ (s.fuseCut).trans = s.trans ∧ (s.fuseCut).warm = s.warm ∧ 
    (s.fuseCut).shadow = s.shadow ∧ (s.fuseCut).latches = s.latches ∧ (s.fuseCut).gtime = s.gtime ∧ (s.fuseCut).vxu = s.vxu ∧ 
    (s.fuseCut).cad = s.cad ∧ (s.fuseCut).rae = s.rae ∧ (s.fuseCut).lanes = s.lanes ∧ (s.fuseCut).chains = s.chains ∧ 
    (s.fuseCut).pmc = s.pmc ∧ (s.fuseCut).avail = s.avail ∧ (s.fuseCut).cfg = s.cfg ∧ (s.fuseCut).qos = s.qos ∧ 
    (s.fuseCut).dmc = s.dmc ∧ (s.fuseCut).bst = s.bst ∧ (s.fuseCut).thm = s.thm ∧ (s.fuseCut).upd = s.upd ∧ 
    (s.fuseCut).aon = s.aon ∧ (s.fuseCut).i3c = s.i3c ∧ (s.fuseCut).tap = s.tap ∧ (s.fuseCut).mem = s.mem ∧ 
    (s.fuseCut).errs = s.errs ∧ (s.fuseCut).out = s.out ∧ (s.fuseCut).answer = s.answer := by
  simp [State.fuseCut]

@[simp] theorem State.setBoot_keeps (s : State) (n : Nat) :
    (s.setBoot n).pending = s.pending ∧ (s.setBoot n).mode = s.mode ∧ (s.setBoot n).trans = s.trans ∧ 
    (s.setBoot n).warm = s.warm ∧ (s.setBoot n).shadow = s.shadow ∧ (s.setBoot n).latches = s.latches ∧ 
    (s.setBoot n).gtime = s.gtime ∧ (s.setBoot n).vxu = s.vxu ∧ (s.setBoot n).cad = s.cad ∧ (s.setBoot n).rae = s.rae ∧ 
    (s.setBoot n).lanes = s.lanes ∧ (s.setBoot n).chains = s.chains ∧ (s.setBoot n).pkt = s.pkt ∧ (s.setBoot n).flt = s.flt ∧ 
    (s.setBoot n).pmc = s.pmc ∧ (s.setBoot n).sec = s.sec ∧ (s.setBoot n).avail = s.avail ∧ (s.setBoot n).cfg = s.cfg ∧ 
    (s.setBoot n).qos = s.qos ∧ (s.setBoot n).dmc = s.dmc ∧ (s.setBoot n).bst = s.bst ∧ (s.setBoot n).thm = s.thm ∧ 
    (s.setBoot n).pwr = s.pwr ∧ (s.setBoot n).fse = s.fse ∧ (s.setBoot n).upd = s.upd ∧ (s.setBoot n).aon = s.aon ∧ 
    (s.setBoot n).i3c = s.i3c ∧ (s.setBoot n).tap = s.tap ∧ (s.setBoot n).mem = s.mem ∧ (s.setBoot n).errs = s.errs ∧ 
    (s.setBoot n).out = s.out ∧ (s.setBoot n).answer = s.answer ∧ (s.setBoot n).fresh = s.fresh := by
  simp [State.setBoot]

@[simp] theorem State.countRefresh_keeps (s : State) (c : Nat) (k : DramCmd) :
    (s.countRefresh c k).pending = s.pending ∧ (s.countRefresh c k).mode = s.mode ∧ (s.countRefresh c k).trans = s.trans ∧ 
    (s.countRefresh c k).warm = s.warm ∧ (s.countRefresh c k).shadow = s.shadow ∧ (s.countRefresh c k).latches = s.latches ∧ 
    (s.countRefresh c k).gtime = s.gtime ∧ (s.countRefresh c k).vxu = s.vxu ∧ (s.countRefresh c k).cad = s.cad ∧ 
    (s.countRefresh c k).rae = s.rae ∧ (s.countRefresh c k).lanes = s.lanes ∧ (s.countRefresh c k).chains = s.chains ∧ 
    (s.countRefresh c k).pkt = s.pkt ∧ (s.countRefresh c k).flt = s.flt ∧ (s.countRefresh c k).sec = s.sec ∧ 
    (s.countRefresh c k).avail = s.avail ∧ (s.countRefresh c k).cfg = s.cfg ∧ (s.countRefresh c k).qos = s.qos ∧ 
    (s.countRefresh c k).dmc = s.dmc ∧ (s.countRefresh c k).bst = s.bst ∧ (s.countRefresh c k).thm = s.thm ∧ 
    (s.countRefresh c k).pwr = s.pwr ∧ (s.countRefresh c k).fse = s.fse ∧ (s.countRefresh c k).upd = s.upd ∧ 
    (s.countRefresh c k).aon = s.aon ∧ (s.countRefresh c k).i3c = s.i3c ∧ (s.countRefresh c k).tap = s.tap ∧ 
    (s.countRefresh c k).mem = s.mem ∧ (s.countRefresh c k).errs = s.errs ∧ (s.countRefresh c k).out = s.out ∧ 
    (s.countRefresh c k).answer = s.answer ∧ (s.countRefresh c k).fresh = s.fresh := by
  unfold State.countRefresh; split <;> simp

@[simp] theorem State.command_keeps (s : State) (c : Nat) (k : DramCmd) :
    (s.command c k).pending = s.pending ∧ (s.command c k).mode = s.mode ∧ (s.command c k).trans = s.trans ∧ 
    (s.command c k).warm = s.warm ∧ (s.command c k).shadow = s.shadow ∧ (s.command c k).latches = s.latches ∧ 
    (s.command c k).gtime = s.gtime ∧ (s.command c k).vxu = s.vxu ∧ (s.command c k).cad = s.cad ∧ (s.command c k).rae = s.rae ∧ 
    (s.command c k).lanes = s.lanes ∧ (s.command c k).chains = s.chains ∧ (s.command c k).pkt = s.pkt ∧ 
    (s.command c k).flt = s.flt ∧ (s.command c k).sec = s.sec ∧ (s.command c k).avail = s.avail ∧ (s.command c k).cfg = s.cfg ∧ 
    (s.command c k).qos = s.qos ∧ (s.command c k).bst = s.bst ∧ (s.command c k).thm = s.thm ∧ (s.command c k).pwr = s.pwr ∧ 
    (s.command c k).fse = s.fse ∧ (s.command c k).upd = s.upd ∧ (s.command c k).aon = s.aon ∧ (s.command c k).i3c = s.i3c ∧ 
    (s.command c k).tap = s.tap ∧ (s.command c k).mem = s.mem ∧ (s.command c k).errs = s.errs ∧ (s.command c k).out = s.out ∧ 
    (s.command c k).answer = s.answer ∧ (s.command c k).fresh = s.fresh := by
  unfold State.command
  refine ⟨(foldl_keeps State.pending _ _ _ (fun t x => by simp)).trans (by simp), (foldl_keeps State.mode _ _ _ (fun t x => by simp)).trans (by simp), (foldl_keeps State.trans _ _ _ (fun t x => by simp)).trans (by simp), (foldl_keeps State.warm _ _ _ (fun t x => by simp)).trans (by simp), (foldl_keeps State.shadow _ _ _ (fun t x => by simp)).trans (by simp), (foldl_keeps State.latches _ _ _ (fun t x => by simp)).trans (by simp), (foldl_keeps State.gtime _ _ _ (fun t x => by simp)).trans (by simp), (foldl_keeps State.vxu _ _ _ (fun t x => by simp)).trans (by simp), (foldl_keeps State.cad _ _ _ (fun t x => by simp)).trans (by simp), (foldl_keeps State.rae _ _ _ (fun t x => by simp)).trans (by simp), (foldl_keeps State.lanes _ _ _ (fun t x => by simp)).trans (by simp), (foldl_keeps State.chains _ _ _ (fun t x => by simp)).trans (by simp), (foldl_keeps State.pkt _ _ _ (fun t x => by simp)).trans (by simp), (foldl_keeps State.flt _ _ _ (fun t x => by simp)).trans (by simp), (foldl_keeps State.sec _ _ _ (fun t x => by simp)).trans (by simp), (foldl_keeps State.avail _ _ _ (fun t x => by simp)).trans (by simp), (foldl_keeps State.cfg _ _ _ (fun t x => by simp)).trans (by simp), (foldl_keeps State.qos _ _ _ (fun t x => by simp)).trans (by simp), (foldl_keeps State.bst _ _ _ (fun t x => by simp)).trans (by simp), (foldl_keeps State.thm _ _ _ (fun t x => by simp)).trans (by simp), (foldl_keeps State.pwr _ _ _ (fun t x => by simp)).trans (by simp), (foldl_keeps State.fse _ _ _ (fun t x => by simp)).trans (by simp), (foldl_keeps State.upd _ _ _ (fun t x => by simp)).trans (by simp), (foldl_keeps State.aon _ _ _ (fun t x => by simp)).trans (by simp), (foldl_keeps State.i3c _ _ _ (fun t x => by simp)).trans (by simp), (foldl_keeps State.tap _ _ _ (fun t x => by simp)).trans (by simp), (foldl_keeps State.mem _ _ _ (fun t x => by simp)).trans (by simp), (foldl_keeps State.errs _ _ _ (fun t x => by simp)).trans (by simp), (foldl_keeps State.out _ _ _ (fun t x => by simp)).trans (by simp), (foldl_keeps State.answer _ _ _ (fun t x => by simp)).trans (by simp), (foldl_keeps State.fresh _ _ _ (fun t x => by simp)).trans (by simp)⟩

@[simp] theorem State.settleBy_keeps (s : State) (c : Nat) (p : DramCmd → Bool) :
    (s.settleBy c p).pending = s.pending ∧ (s.settleBy c p).mode = s.mode ∧ (s.settleBy c p).trans = s.trans ∧ 
    (s.settleBy c p).warm = s.warm ∧ (s.settleBy c p).shadow = s.shadow ∧ (s.settleBy c p).latches = s.latches ∧ 
    (s.settleBy c p).gtime = s.gtime ∧ (s.settleBy c p).vxu = s.vxu ∧ (s.settleBy c p).cad = s.cad ∧ 
    (s.settleBy c p).rae = s.rae ∧ (s.settleBy c p).lanes = s.lanes ∧ (s.settleBy c p).chains = s.chains ∧ 
    (s.settleBy c p).pkt = s.pkt ∧ (s.settleBy c p).flt = s.flt ∧ (s.settleBy c p).sec = s.sec ∧ 
    (s.settleBy c p).avail = s.avail ∧ (s.settleBy c p).cfg = s.cfg ∧ (s.settleBy c p).qos = s.qos ∧ 
    (s.settleBy c p).bst = s.bst ∧ (s.settleBy c p).thm = s.thm ∧ (s.settleBy c p).pwr = s.pwr ∧ (s.settleBy c p).fse = s.fse ∧ 
    (s.settleBy c p).upd = s.upd ∧ (s.settleBy c p).aon = s.aon ∧ (s.settleBy c p).i3c = s.i3c ∧ (s.settleBy c p).tap = s.tap ∧ 
    (s.settleBy c p).mem = s.mem ∧ (s.settleBy c p).errs = s.errs ∧ (s.settleBy c p).out = s.out ∧ 
    (s.settleBy c p).answer = s.answer ∧ (s.settleBy c p).fresh = s.fresh := by
  unfold State.settleBy
  refine ⟨(foldl_keeps State.pending _ _ _ (fun t x => by simp)).trans (by simp), (foldl_keeps State.mode _ _ _ (fun t x => by simp)).trans (by simp), (foldl_keeps State.trans _ _ _ (fun t x => by simp)).trans (by simp), (foldl_keeps State.warm _ _ _ (fun t x => by simp)).trans (by simp), (foldl_keeps State.shadow _ _ _ (fun t x => by simp)).trans (by simp), (foldl_keeps State.latches _ _ _ (fun t x => by simp)).trans (by simp), (foldl_keeps State.gtime _ _ _ (fun t x => by simp)).trans (by simp), (foldl_keeps State.vxu _ _ _ (fun t x => by simp)).trans (by simp), (foldl_keeps State.cad _ _ _ (fun t x => by simp)).trans (by simp), (foldl_keeps State.rae _ _ _ (fun t x => by simp)).trans (by simp), (foldl_keeps State.lanes _ _ _ (fun t x => by simp)).trans (by simp), (foldl_keeps State.chains _ _ _ (fun t x => by simp)).trans (by simp), (foldl_keeps State.pkt _ _ _ (fun t x => by simp)).trans (by simp), (foldl_keeps State.flt _ _ _ (fun t x => by simp)).trans (by simp), (foldl_keeps State.sec _ _ _ (fun t x => by simp)).trans (by simp), (foldl_keeps State.avail _ _ _ (fun t x => by simp)).trans (by simp), (foldl_keeps State.cfg _ _ _ (fun t x => by simp)).trans (by simp), (foldl_keeps State.qos _ _ _ (fun t x => by simp)).trans (by simp), (foldl_keeps State.bst _ _ _ (fun t x => by simp)).trans (by simp), (foldl_keeps State.thm _ _ _ (fun t x => by simp)).trans (by simp), (foldl_keeps State.pwr _ _ _ (fun t x => by simp)).trans (by simp), (foldl_keeps State.fse _ _ _ (fun t x => by simp)).trans (by simp), (foldl_keeps State.upd _ _ _ (fun t x => by simp)).trans (by simp), (foldl_keeps State.aon _ _ _ (fun t x => by simp)).trans (by simp), (foldl_keeps State.i3c _ _ _ (fun t x => by simp)).trans (by simp), (foldl_keeps State.tap _ _ _ (fun t x => by simp)).trans (by simp), (foldl_keeps State.mem _ _ _ (fun t x => by simp)).trans (by simp), (foldl_keeps State.errs _ _ _ (fun t x => by simp)).trans (by simp), (foldl_keeps State.out _ _ _ (fun t x => by simp)).trans (by simp), (foldl_keeps State.answer _ _ _ (fun t x => by simp)).trans (by simp), (foldl_keeps State.fresh _ _ _ (fun t x => by simp)).trans (by simp)⟩

@[simp] theorem State.prechargeAll_keeps (s : State) (c : Nat) :
    (s.prechargeAll c).pending = s.pending ∧ (s.prechargeAll c).mode = s.mode ∧ (s.prechargeAll c).trans = s.trans ∧ 
    (s.prechargeAll c).warm = s.warm ∧ (s.prechargeAll c).shadow = s.shadow ∧ (s.prechargeAll c).latches = s.latches ∧ 
    (s.prechargeAll c).gtime = s.gtime ∧ (s.prechargeAll c).vxu = s.vxu ∧ (s.prechargeAll c).cad = s.cad ∧ 
    (s.prechargeAll c).rae = s.rae ∧ (s.prechargeAll c).lanes = s.lanes ∧ (s.prechargeAll c).chains = s.chains ∧ 
    (s.prechargeAll c).pkt = s.pkt ∧ (s.prechargeAll c).flt = s.flt ∧ (s.prechargeAll c).sec = s.sec ∧ 
    (s.prechargeAll c).avail = s.avail ∧ (s.prechargeAll c).cfg = s.cfg ∧ (s.prechargeAll c).qos = s.qos ∧ 
    (s.prechargeAll c).bst = s.bst ∧ (s.prechargeAll c).thm = s.thm ∧ (s.prechargeAll c).pwr = s.pwr ∧ 
    (s.prechargeAll c).fse = s.fse ∧ (s.prechargeAll c).upd = s.upd ∧ (s.prechargeAll c).aon = s.aon ∧ 
    (s.prechargeAll c).i3c = s.i3c ∧ (s.prechargeAll c).tap = s.tap ∧ (s.prechargeAll c).mem = s.mem ∧ 
    (s.prechargeAll c).errs = s.errs ∧ (s.prechargeAll c).out = s.out ∧ (s.prechargeAll c).answer = s.answer ∧ 
    (s.prechargeAll c).fresh = s.fresh := by
  unfold State.prechargeAll; dsimp only; split <;> simp

@[simp] theorem State.refreshed_keeps (s : State) (c n o : Nat) :
    (s.refreshed c n o).pending = s.pending ∧ (s.refreshed c n o).mode = s.mode ∧ (s.refreshed c n o).trans = s.trans ∧ 
    (s.refreshed c n o).warm = s.warm ∧ (s.refreshed c n o).shadow = s.shadow ∧ (s.refreshed c n o).latches = s.latches ∧ 
    (s.refreshed c n o).gtime = s.gtime ∧ (s.refreshed c n o).vxu = s.vxu ∧ (s.refreshed c n o).cad = s.cad ∧ 
    (s.refreshed c n o).rae = s.rae ∧ (s.refreshed c n o).lanes = s.lanes ∧ (s.refreshed c n o).chains = s.chains ∧ 
    (s.refreshed c n o).pkt = s.pkt ∧ (s.refreshed c n o).flt = s.flt ∧ (s.refreshed c n o).sec = s.sec ∧ 
    (s.refreshed c n o).avail = s.avail ∧ (s.refreshed c n o).cfg = s.cfg ∧ (s.refreshed c n o).qos = s.qos ∧ 
    (s.refreshed c n o).bst = s.bst ∧ (s.refreshed c n o).thm = s.thm ∧ (s.refreshed c n o).pwr = s.pwr ∧ 
    (s.refreshed c n o).fse = s.fse ∧ (s.refreshed c n o).upd = s.upd ∧ (s.refreshed c n o).aon = s.aon ∧ 
    (s.refreshed c n o).i3c = s.i3c ∧ (s.refreshed c n o).tap = s.tap ∧ (s.refreshed c n o).mem = s.mem ∧ 
    (s.refreshed c n o).errs = s.errs ∧ (s.refreshed c n o).out = s.out ∧ (s.refreshed c n o).answer = s.answer ∧ 
    (s.refreshed c n o).fresh = s.fresh := by
  unfold State.refreshed
  split
  · simp
  · refine ⟨(foldl_keeps State.pending _ _ _ (fun t x => by simp)).trans (by simp), (foldl_keeps State.mode _ _ _ (fun t x => by simp)).trans (by simp), (foldl_keeps State.trans _ _ _ (fun t x => by simp)).trans (by simp), (foldl_keeps State.warm _ _ _ (fun t x => by simp)).trans (by simp), (foldl_keeps State.shadow _ _ _ (fun t x => by simp)).trans (by simp), (foldl_keeps State.latches _ _ _ (fun t x => by simp)).trans (by simp), (foldl_keeps State.gtime _ _ _ (fun t x => by simp)).trans (by simp), (foldl_keeps State.vxu _ _ _ (fun t x => by simp)).trans (by simp), (foldl_keeps State.cad _ _ _ (fun t x => by simp)).trans (by simp), (foldl_keeps State.rae _ _ _ (fun t x => by simp)).trans (by simp), (foldl_keeps State.lanes _ _ _ (fun t x => by simp)).trans (by simp), (foldl_keeps State.chains _ _ _ (fun t x => by simp)).trans (by simp), (foldl_keeps State.pkt _ _ _ (fun t x => by simp)).trans (by simp), (foldl_keeps State.flt _ _ _ (fun t x => by simp)).trans (by simp), (foldl_keeps State.sec _ _ _ (fun t x => by simp)).trans (by simp), (foldl_keeps State.avail _ _ _ (fun t x => by simp)).trans (by simp), (foldl_keeps State.cfg _ _ _ (fun t x => by simp)).trans (by simp), (foldl_keeps State.qos _ _ _ (fun t x => by simp)).trans (by simp), (foldl_keeps State.bst _ _ _ (fun t x => by simp)).trans (by simp), (foldl_keeps State.thm _ _ _ (fun t x => by simp)).trans (by simp), (foldl_keeps State.pwr _ _ _ (fun t x => by simp)).trans (by simp), (foldl_keeps State.fse _ _ _ (fun t x => by simp)).trans (by simp), (foldl_keeps State.upd _ _ _ (fun t x => by simp)).trans (by simp), (foldl_keeps State.aon _ _ _ (fun t x => by simp)).trans (by simp), (foldl_keeps State.i3c _ _ _ (fun t x => by simp)).trans (by simp), (foldl_keeps State.tap _ _ _ (fun t x => by simp)).trans (by simp), (foldl_keeps State.mem _ _ _ (fun t x => by simp)).trans (by simp), (foldl_keeps State.errs _ _ _ (fun t x => by simp)).trans (by simp), (foldl_keeps State.out _ _ _ (fun t x => by simp)).trans (by simp), (foldl_keeps State.answer _ _ _ (fun t x => by simp)).trans (by simp), (foldl_keeps State.fresh _ _ _ (fun t x => by simp)).trans (by simp)⟩

@[simp] theorem State.issueRefreshes_keeps (s : State) (c n : Nat) :
    (s.issueRefreshes c n).pending = s.pending ∧ (s.issueRefreshes c n).mode = s.mode ∧ (s.issueRefreshes c n).trans = s.trans ∧ 
    (s.issueRefreshes c n).warm = s.warm ∧ (s.issueRefreshes c n).shadow = s.shadow ∧ 
    (s.issueRefreshes c n).latches = s.latches ∧ (s.issueRefreshes c n).gtime = s.gtime ∧ (s.issueRefreshes c n).vxu = s.vxu ∧ 
    (s.issueRefreshes c n).cad = s.cad ∧ (s.issueRefreshes c n).rae = s.rae ∧ (s.issueRefreshes c n).lanes = s.lanes ∧ 
    (s.issueRefreshes c n).chains = s.chains ∧ (s.issueRefreshes c n).pkt = s.pkt ∧ (s.issueRefreshes c n).flt = s.flt ∧ 
    (s.issueRefreshes c n).sec = s.sec ∧ (s.issueRefreshes c n).avail = s.avail ∧ (s.issueRefreshes c n).cfg = s.cfg ∧ 
    (s.issueRefreshes c n).qos = s.qos ∧ (s.issueRefreshes c n).bst = s.bst ∧ (s.issueRefreshes c n).thm = s.thm ∧ 
    (s.issueRefreshes c n).pwr = s.pwr ∧ (s.issueRefreshes c n).fse = s.fse ∧ (s.issueRefreshes c n).upd = s.upd ∧ 
    (s.issueRefreshes c n).aon = s.aon ∧ (s.issueRefreshes c n).i3c = s.i3c ∧ (s.issueRefreshes c n).tap = s.tap ∧ 
    (s.issueRefreshes c n).mem = s.mem ∧ (s.issueRefreshes c n).errs = s.errs ∧ (s.issueRefreshes c n).out = s.out ∧ 
    (s.issueRefreshes c n).answer = s.answer ∧ (s.issueRefreshes c n).fresh = s.fresh := by
  unfold State.issueRefreshes; dsimp only; split <;> simp

@[simp] theorem State.issueOwed_keeps (s : State) (c : Nat) :
    (s.issueOwed c).pending = s.pending ∧ (s.issueOwed c).mode = s.mode ∧ (s.issueOwed c).trans = s.trans ∧ 
    (s.issueOwed c).warm = s.warm ∧ (s.issueOwed c).shadow = s.shadow ∧ (s.issueOwed c).latches = s.latches ∧ 
    (s.issueOwed c).gtime = s.gtime ∧ (s.issueOwed c).vxu = s.vxu ∧ (s.issueOwed c).cad = s.cad ∧ (s.issueOwed c).rae = s.rae ∧ 
    (s.issueOwed c).lanes = s.lanes ∧ (s.issueOwed c).chains = s.chains ∧ (s.issueOwed c).pkt = s.pkt ∧ 
    (s.issueOwed c).flt = s.flt ∧ (s.issueOwed c).sec = s.sec ∧ (s.issueOwed c).avail = s.avail ∧ (s.issueOwed c).cfg = s.cfg ∧ 
    (s.issueOwed c).qos = s.qos ∧ (s.issueOwed c).bst = s.bst ∧ (s.issueOwed c).thm = s.thm ∧ (s.issueOwed c).pwr = s.pwr ∧ 
    (s.issueOwed c).fse = s.fse ∧ (s.issueOwed c).upd = s.upd ∧ (s.issueOwed c).aon = s.aon ∧ (s.issueOwed c).i3c = s.i3c ∧ 
    (s.issueOwed c).tap = s.tap ∧ (s.issueOwed c).mem = s.mem ∧ (s.issueOwed c).errs = s.errs ∧ (s.issueOwed c).out = s.out ∧ 
    (s.issueOwed c).answer = s.answer ∧ (s.issueOwed c).fresh = s.fresh := by
  simp [State.issueOwed]

@[simp] theorem State.enterSr_keeps (s : State) (c : Nat) :
    (s.enterSr c).pending = s.pending ∧ (s.enterSr c).mode = s.mode ∧ (s.enterSr c).trans = s.trans ∧ 
    (s.enterSr c).warm = s.warm ∧ (s.enterSr c).shadow = s.shadow ∧ (s.enterSr c).latches = s.latches ∧ 
    (s.enterSr c).gtime = s.gtime ∧ (s.enterSr c).vxu = s.vxu ∧ (s.enterSr c).cad = s.cad ∧ (s.enterSr c).rae = s.rae ∧ 
    (s.enterSr c).lanes = s.lanes ∧ (s.enterSr c).chains = s.chains ∧ (s.enterSr c).pkt = s.pkt ∧ (s.enterSr c).flt = s.flt ∧ 
    (s.enterSr c).sec = s.sec ∧ (s.enterSr c).avail = s.avail ∧ (s.enterSr c).cfg = s.cfg ∧ (s.enterSr c).qos = s.qos ∧ 
    (s.enterSr c).bst = s.bst ∧ (s.enterSr c).thm = s.thm ∧ (s.enterSr c).pwr = s.pwr ∧ (s.enterSr c).fse = s.fse ∧ 
    (s.enterSr c).upd = s.upd ∧ (s.enterSr c).aon = s.aon ∧ (s.enterSr c).i3c = s.i3c ∧ (s.enterSr c).tap = s.tap ∧ 
    (s.enterSr c).mem = s.mem ∧ (s.enterSr c).errs = s.errs ∧ (s.enterSr c).out = s.out ∧ (s.enterSr c).answer = s.answer ∧ 
    (s.enterSr c).fresh = s.fresh := by
  simp [State.enterSr]

@[simp] theorem State.exitSr_keeps (s : State) (c : Nat) :
    (s.exitSr c).pending = s.pending ∧ (s.exitSr c).mode = s.mode ∧ (s.exitSr c).trans = s.trans ∧ (s.exitSr c).warm = s.warm ∧ 
    (s.exitSr c).regs = s.regs ∧ (s.exitSr c).shadow = s.shadow ∧ (s.exitSr c).latches = s.latches ∧ 
    (s.exitSr c).gtime = s.gtime ∧ (s.exitSr c).vxu = s.vxu ∧ (s.exitSr c).cad = s.cad ∧ (s.exitSr c).rae = s.rae ∧ 
    (s.exitSr c).lanes = s.lanes ∧ (s.exitSr c).chains = s.chains ∧ (s.exitSr c).pkt = s.pkt ∧ (s.exitSr c).flt = s.flt ∧ 
    (s.exitSr c).pmc = s.pmc ∧ (s.exitSr c).sec = s.sec ∧ (s.exitSr c).avail = s.avail ∧ (s.exitSr c).cfg = s.cfg ∧ 
    (s.exitSr c).qos = s.qos ∧ (s.exitSr c).bst = s.bst ∧ (s.exitSr c).thm = s.thm ∧ (s.exitSr c).pwr = s.pwr ∧ 
    (s.exitSr c).fse = s.fse ∧ (s.exitSr c).upd = s.upd ∧ (s.exitSr c).aon = s.aon ∧ (s.exitSr c).i3c = s.i3c ∧ 
    (s.exitSr c).tap = s.tap ∧ (s.exitSr c).mem = s.mem ∧ (s.exitSr c).errs = s.errs ∧ (s.exitSr c).out = s.out ∧ 
    (s.exitSr c).answer = s.answer ∧ (s.exitSr c).fresh = s.fresh := by
  and_intros <;> rfl

@[simp] theorem State.dmcSafe_keeps (s : State) :
    (s.dmcSafe).pending = s.pending ∧ (s.dmcSafe).mode = s.mode ∧ (s.dmcSafe).trans = s.trans ∧ (s.dmcSafe).warm = s.warm ∧ 
    (s.dmcSafe).shadow = s.shadow ∧ (s.dmcSafe).latches = s.latches ∧ (s.dmcSafe).gtime = s.gtime ∧ (s.dmcSafe).vxu = s.vxu ∧ 
    (s.dmcSafe).cad = s.cad ∧ (s.dmcSafe).rae = s.rae ∧ (s.dmcSafe).lanes = s.lanes ∧ (s.dmcSafe).chains = s.chains ∧ 
    (s.dmcSafe).pkt = s.pkt ∧ (s.dmcSafe).flt = s.flt ∧ (s.dmcSafe).sec = s.sec ∧ (s.dmcSafe).avail = s.avail ∧ 
    (s.dmcSafe).cfg = s.cfg ∧ (s.dmcSafe).qos = s.qos ∧ (s.dmcSafe).bst = s.bst ∧ (s.dmcSafe).thm = s.thm ∧ 
    (s.dmcSafe).pwr = s.pwr ∧ (s.dmcSafe).fse = s.fse ∧ (s.dmcSafe).upd = s.upd ∧ (s.dmcSafe).aon = s.aon ∧ 
    (s.dmcSafe).i3c = s.i3c ∧ (s.dmcSafe).tap = s.tap ∧ (s.dmcSafe).mem = s.mem ∧ (s.dmcSafe).errs = s.errs ∧ 
    (s.dmcSafe).out = s.out ∧ (s.dmcSafe).answer = s.answer ∧ (s.dmcSafe).fresh = s.fresh := by
  unfold State.dmcSafe
  refine ⟨foldl_keeps State.pending _ _ _ (fun t x => by dsimp only; split <;> simp), foldl_keeps State.mode _ _ _ (fun t x => by dsimp only; split <;> simp), foldl_keeps State.trans _ _ _ (fun t x => by dsimp only; split <;> simp), foldl_keeps State.warm _ _ _ (fun t x => by dsimp only; split <;> simp), foldl_keeps State.shadow _ _ _ (fun t x => by dsimp only; split <;> simp), foldl_keeps State.latches _ _ _ (fun t x => by dsimp only; split <;> simp), foldl_keeps State.gtime _ _ _ (fun t x => by dsimp only; split <;> simp), foldl_keeps State.vxu _ _ _ (fun t x => by dsimp only; split <;> simp), foldl_keeps State.cad _ _ _ (fun t x => by dsimp only; split <;> simp), foldl_keeps State.rae _ _ _ (fun t x => by dsimp only; split <;> simp), foldl_keeps State.lanes _ _ _ (fun t x => by dsimp only; split <;> simp), foldl_keeps State.chains _ _ _ (fun t x => by dsimp only; split <;> simp), foldl_keeps State.pkt _ _ _ (fun t x => by dsimp only; split <;> simp), foldl_keeps State.flt _ _ _ (fun t x => by dsimp only; split <;> simp), foldl_keeps State.sec _ _ _ (fun t x => by dsimp only; split <;> simp), foldl_keeps State.avail _ _ _ (fun t x => by dsimp only; split <;> simp), foldl_keeps State.cfg _ _ _ (fun t x => by dsimp only; split <;> simp), foldl_keeps State.qos _ _ _ (fun t x => by dsimp only; split <;> simp), foldl_keeps State.bst _ _ _ (fun t x => by dsimp only; split <;> simp), foldl_keeps State.thm _ _ _ (fun t x => by dsimp only; split <;> simp), foldl_keeps State.pwr _ _ _ (fun t x => by dsimp only; split <;> simp), foldl_keeps State.fse _ _ _ (fun t x => by dsimp only; split <;> simp), foldl_keeps State.upd _ _ _ (fun t x => by dsimp only; split <;> simp), foldl_keeps State.aon _ _ _ (fun t x => by dsimp only; split <;> simp), foldl_keeps State.i3c _ _ _ (fun t x => by dsimp only; split <;> simp), foldl_keeps State.tap _ _ _ (fun t x => by dsimp only; split <;> simp), foldl_keeps State.mem _ _ _ (fun t x => by dsimp only; split <;> simp), foldl_keeps State.errs _ _ _ (fun t x => by dsimp only; split <;> simp), foldl_keeps State.out _ _ _ (fun t x => by dsimp only; split <;> simp), foldl_keeps State.answer _ _ _ (fun t x => by dsimp only; split <;> simp), foldl_keeps State.fresh _ _ _ (fun t x => by dsimp only; split <;> simp)⟩

@[simp] theorem State.safeStop_keeps (s : State) (src : Nat) :
    (s.safeStop src).pending = s.pending ∧ (s.safeStop src).warm = s.warm ∧ (s.safeStop src).shadow = s.shadow ∧ 
    (s.safeStop src).latches = s.latches ∧ (s.safeStop src).gtime = s.gtime ∧ (s.safeStop src).rae = s.rae ∧ 
    (s.safeStop src).lanes = s.lanes ∧ (s.safeStop src).chains = s.chains ∧ (s.safeStop src).pmc = s.pmc ∧ 
    (s.safeStop src).cfg = s.cfg ∧ (s.safeStop src).qos = s.qos ∧ (s.safeStop src).thm = s.thm ∧ (s.safeStop src).upd = s.upd ∧ 
    (s.safeStop src).aon = s.aon ∧ (s.safeStop src).i3c = s.i3c ∧ (s.safeStop src).tap = s.tap ∧ (s.safeStop src).mem = s.mem ∧ 
    (s.safeStop src).errs = s.errs ∧ (s.safeStop src).out = s.out ∧ (s.safeStop src).answer = s.answer := by
  simp [State.safeStop]

@[simp] theorem State.safeBoot_keeps (s : State) (t : State) :
    (s.safeBoot t).pending = t.pending ∧ (s.safeBoot t).mode = t.mode ∧ (s.safeBoot t).trans = t.trans ∧ 
    (s.safeBoot t).warm = t.warm ∧ (s.safeBoot t).shadow = t.shadow ∧ (s.safeBoot t).latches = t.latches ∧ 
    (s.safeBoot t).gtime = t.gtime ∧ (s.safeBoot t).vxu = t.vxu ∧ (s.safeBoot t).cad = t.cad ∧ (s.safeBoot t).rae = t.rae ∧ 
    (s.safeBoot t).lanes = t.lanes ∧ (s.safeBoot t).chains = t.chains ∧ (s.safeBoot t).pkt = t.pkt ∧ 
    (s.safeBoot t).flt = t.flt ∧ (s.safeBoot t).pmc = t.pmc ∧ (s.safeBoot t).sec = t.sec ∧ (s.safeBoot t).avail = t.avail ∧ 
    (s.safeBoot t).cfg = t.cfg ∧ (s.safeBoot t).qos = t.qos ∧ (s.safeBoot t).dmc = t.dmc ∧ (s.safeBoot t).bst = t.bst ∧ 
    (s.safeBoot t).thm = t.thm ∧ (s.safeBoot t).pwr = t.pwr ∧ (s.safeBoot t).fse = t.fse ∧ (s.safeBoot t).upd = t.upd ∧ 
    (s.safeBoot t).aon = t.aon ∧ (s.safeBoot t).i3c = t.i3c ∧ (s.safeBoot t).tap = t.tap ∧ (s.safeBoot t).mem = t.mem ∧ 
    (s.safeBoot t).errs = t.errs ∧ (s.safeBoot t).out = t.out ∧ (s.safeBoot t).answer = t.answer ∧ (s.safeBoot t).fresh = t.fresh := by
  unfold State.safeBoot; split <;> simp

@[simp] theorem State.sendSafe_keeps (s : State) (src : Nat) :
    (s.sendSafe src).pending = s.pending ∧ (s.sendSafe src).mode = s.mode ∧ (s.sendSafe src).trans = s.trans ∧ 
    (s.sendSafe src).warm = s.warm ∧ (s.sendSafe src).regs = s.regs ∧ (s.sendSafe src).shadow = s.shadow ∧ 
    (s.sendSafe src).latches = s.latches ∧ (s.sendSafe src).gtime = s.gtime ∧ (s.sendSafe src).vxu = s.vxu ∧ 
    (s.sendSafe src).cad = s.cad ∧ (s.sendSafe src).rae = s.rae ∧ (s.sendSafe src).lanes = s.lanes ∧ 
    (s.sendSafe src).chains = s.chains ∧ (s.sendSafe src).pkt = s.pkt ∧ (s.sendSafe src).flt = s.flt ∧ 
    (s.sendSafe src).pmc = s.pmc ∧ (s.sendSafe src).sec = s.sec ∧ (s.sendSafe src).avail = s.avail ∧ 
    (s.sendSafe src).cfg = s.cfg ∧ (s.sendSafe src).qos = s.qos ∧ (s.sendSafe src).dmc = s.dmc ∧ (s.sendSafe src).bst = s.bst ∧ 
    (s.sendSafe src).thm = s.thm ∧ (s.sendSafe src).pwr = s.pwr ∧ (s.sendSafe src).fse = s.fse ∧ (s.sendSafe src).upd = s.upd ∧ 
    (s.sendSafe src).aon = s.aon ∧ (s.sendSafe src).i3c = s.i3c ∧ (s.sendSafe src).tap = s.tap ∧ (s.sendSafe src).mem = s.mem ∧ 
    (s.sendSafe src).errs = s.errs ∧ (s.sendSafe src).answer = s.answer ∧ (s.sendSafe src).fresh = s.fresh := by
  unfold State.sendSafe
  refine ⟨foldl_keeps State.pending _ _ _ (fun t x => by simp), foldl_keeps State.mode _ _ _ (fun t x => by simp), foldl_keeps State.trans _ _ _ (fun t x => by simp), foldl_keeps State.warm _ _ _ (fun t x => by simp), foldl_keeps State.regs _ _ _ (fun t x => by simp), foldl_keeps State.shadow _ _ _ (fun t x => by simp), foldl_keeps State.latches _ _ _ (fun t x => by simp), foldl_keeps State.gtime _ _ _ (fun t x => by simp), foldl_keeps State.vxu _ _ _ (fun t x => by simp), foldl_keeps State.cad _ _ _ (fun t x => by simp), foldl_keeps State.rae _ _ _ (fun t x => by simp), foldl_keeps State.lanes _ _ _ (fun t x => by simp), foldl_keeps State.chains _ _ _ (fun t x => by simp), foldl_keeps State.pkt _ _ _ (fun t x => by simp), foldl_keeps State.flt _ _ _ (fun t x => by simp), foldl_keeps State.pmc _ _ _ (fun t x => by simp), foldl_keeps State.sec _ _ _ (fun t x => by simp), foldl_keeps State.avail _ _ _ (fun t x => by simp), foldl_keeps State.cfg _ _ _ (fun t x => by simp), foldl_keeps State.qos _ _ _ (fun t x => by simp), foldl_keeps State.dmc _ _ _ (fun t x => by simp), foldl_keeps State.bst _ _ _ (fun t x => by simp), foldl_keeps State.thm _ _ _ (fun t x => by simp), foldl_keeps State.pwr _ _ _ (fun t x => by simp), foldl_keeps State.fse _ _ _ (fun t x => by simp), foldl_keeps State.upd _ _ _ (fun t x => by simp), foldl_keeps State.aon _ _ _ (fun t x => by simp), foldl_keeps State.i3c _ _ _ (fun t x => by simp), foldl_keeps State.tap _ _ _ (fun t x => by simp), foldl_keeps State.mem _ _ _ (fun t x => by simp), foldl_keeps State.errs _ _ _ (fun t x => by simp), foldl_keeps State.answer _ _ _ (fun t x => by simp), foldl_keeps State.fresh _ _ _ (fun t x => by simp)⟩

@[simp] theorem State.safeReaction_keeps (s : State) (src : Nat) :
    (s.safeReaction src).pending = s.pending ∧ (s.safeReaction src).warm = s.warm ∧ (s.safeReaction src).shadow = s.shadow ∧ 
    (s.safeReaction src).gtime = s.gtime ∧ (s.safeReaction src).rae = s.rae ∧ (s.safeReaction src).chains = s.chains ∧ 
    (s.safeReaction src).cfg = s.cfg ∧ (s.safeReaction src).qos = s.qos ∧ (s.safeReaction src).thm = s.thm ∧ 
    (s.safeReaction src).upd = s.upd ∧ (s.safeReaction src).aon = s.aon ∧ (s.safeReaction src).tap = s.tap ∧ 
    (s.safeReaction src).mem = s.mem ∧ (s.safeReaction src).errs = s.errs ∧ (s.safeReaction src).answer = s.answer := by
  simp [State.safeReaction]

@[simp] theorem State.fatal_keeps (s : State) (src a b : Nat) (fo : Bool) :
    (s.fatal src a b fo).pending = s.pending ∧ (s.fatal src a b fo).warm = s.warm ∧ (s.fatal src a b fo).shadow = s.shadow ∧ 
    (s.fatal src a b fo).gtime = s.gtime ∧ (s.fatal src a b fo).rae = s.rae ∧ (s.fatal src a b fo).chains = s.chains ∧ 
    (s.fatal src a b fo).cfg = s.cfg ∧ (s.fatal src a b fo).qos = s.qos ∧ (s.fatal src a b fo).thm = s.thm ∧ 
    (s.fatal src a b fo).upd = s.upd ∧ (s.fatal src a b fo).aon = s.aon ∧ (s.fatal src a b fo).tap = s.tap ∧ 
    (s.fatal src a b fo).mem = s.mem ∧ (s.fatal src a b fo).errs = s.errs ∧ (s.fatal src a b fo).answer = s.answer := by
  unfold State.fatal; split <;> simp

@[simp] theorem State.countMiss_keeps (s : State) (n : Nat) :
    (s.countMiss n).pending = s.pending ∧ (s.countMiss n).mode = s.mode ∧ (s.countMiss n).trans = s.trans ∧ 
    (s.countMiss n).warm = s.warm ∧ (s.countMiss n).shadow = s.shadow ∧ (s.countMiss n).latches = s.latches ∧ 
    (s.countMiss n).gtime = s.gtime ∧ (s.countMiss n).vxu = s.vxu ∧ (s.countMiss n).cad = s.cad ∧ (s.countMiss n).rae = s.rae ∧ 
    (s.countMiss n).lanes = s.lanes ∧ (s.countMiss n).chains = s.chains ∧ (s.countMiss n).pkt = s.pkt ∧ 
    (s.countMiss n).flt = s.flt ∧ (s.countMiss n).pmc = s.pmc ∧ (s.countMiss n).sec = s.sec ∧ (s.countMiss n).avail = s.avail ∧ 
    (s.countMiss n).cfg = s.cfg ∧ (s.countMiss n).qos = s.qos ∧ (s.countMiss n).dmc = s.dmc ∧ (s.countMiss n).bst = s.bst ∧ 
    (s.countMiss n).thm = s.thm ∧ (s.countMiss n).pwr = s.pwr ∧ (s.countMiss n).fse = s.fse ∧ (s.countMiss n).upd = s.upd ∧ 
    (s.countMiss n).aon = s.aon ∧ (s.countMiss n).i3c = s.i3c ∧ (s.countMiss n).tap = s.tap ∧ (s.countMiss n).mem = s.mem ∧ 
    (s.countMiss n).errs = s.errs ∧ (s.countMiss n).out = s.out ∧ (s.countMiss n).answer = s.answer ∧ 
    (s.countMiss n).fresh = s.fresh := by
  and_intros <;> rfl

@[simp] theorem State.miss_keeps (s : State) (n r : Nat) :
    (s.miss n r).pending = s.pending ∧ (s.miss n r).mode = s.mode ∧ (s.miss n r).trans = s.trans ∧ (s.miss n r).warm = s.warm ∧ 
    (s.miss n r).shadow = s.shadow ∧ (s.miss n r).latches = s.latches ∧ (s.miss n r).gtime = s.gtime ∧ 
    (s.miss n r).vxu = s.vxu ∧ (s.miss n r).cad = s.cad ∧ (s.miss n r).rae = s.rae ∧ (s.miss n r).lanes = s.lanes ∧ 
    (s.miss n r).chains = s.chains ∧ (s.miss n r).pmc = s.pmc ∧ (s.miss n r).sec = s.sec ∧ (s.miss n r).avail = s.avail ∧ 
    (s.miss n r).cfg = s.cfg ∧ (s.miss n r).dmc = s.dmc ∧ (s.miss n r).bst = s.bst ∧ (s.miss n r).thm = s.thm ∧ 
    (s.miss n r).pwr = s.pwr ∧ (s.miss n r).fse = s.fse ∧ (s.miss n r).upd = s.upd ∧ (s.miss n r).aon = s.aon ∧ 
    (s.miss n r).i3c = s.i3c ∧ (s.miss n r).tap = s.tap ∧ (s.miss n r).mem = s.mem ∧ (s.miss n r).errs = s.errs ∧ 
    (s.miss n r).out = s.out ∧ (s.miss n r).answer = s.answer ∧ (s.miss n r).fresh = s.fresh := by
  unfold State.miss; dsimp only; repeat' split
  all_goals simp

@[simp] theorem State.served_keeps (s : State) (n b : Nat) (c : Bool) (l : Option Nat) :
    (s.served n b c l).pending = s.pending ∧ (s.served n b c l).mode = s.mode ∧ (s.served n b c l).trans = s.trans ∧ 
    (s.served n b c l).warm = s.warm ∧ (s.served n b c l).shadow = s.shadow ∧ (s.served n b c l).latches = s.latches ∧ 
    (s.served n b c l).gtime = s.gtime ∧ (s.served n b c l).vxu = s.vxu ∧ (s.served n b c l).cad = s.cad ∧ 
    (s.served n b c l).rae = s.rae ∧ (s.served n b c l).lanes = s.lanes ∧ (s.served n b c l).chains = s.chains ∧ 
    (s.served n b c l).pkt = s.pkt ∧ (s.served n b c l).flt = s.flt ∧ (s.served n b c l).sec = s.sec ∧ 
    (s.served n b c l).avail = s.avail ∧ (s.served n b c l).cfg = s.cfg ∧ (s.served n b c l).qos = s.qos ∧ 
    (s.served n b c l).dmc = s.dmc ∧ (s.served n b c l).bst = s.bst ∧ (s.served n b c l).thm = s.thm ∧ 
    (s.served n b c l).pwr = s.pwr ∧ (s.served n b c l).fse = s.fse ∧ (s.served n b c l).upd = s.upd ∧ 
    (s.served n b c l).aon = s.aon ∧ (s.served n b c l).i3c = s.i3c ∧ (s.served n b c l).tap = s.tap ∧ 
    (s.served n b c l).mem = s.mem ∧ (s.served n b c l).errs = s.errs ∧ (s.served n b c l).out = s.out ∧ 
    (s.served n b c l).answer = s.answer ∧ (s.served n b c l).fresh = s.fresh := by
  unfold State.served; dsimp only; repeat' split
  all_goals simp

@[simp] theorem State.stray_keeps (s : State) (n : Nat) (b : Bool) :
    (s.stray n b).pending = s.pending ∧ (s.stray n b).mode = s.mode ∧ (s.stray n b).trans = s.trans ∧ 
    (s.stray n b).warm = s.warm ∧ (s.stray n b).regs = s.regs ∧ (s.stray n b).shadow = s.shadow ∧ 
    (s.stray n b).latches = s.latches ∧ (s.stray n b).gtime = s.gtime ∧ (s.stray n b).vxu = s.vxu ∧ (s.stray n b).cad = s.cad ∧ 
    (s.stray n b).rae = s.rae ∧ (s.stray n b).lanes = s.lanes ∧ (s.stray n b).chains = s.chains ∧ (s.stray n b).pkt = s.pkt ∧ 
    (s.stray n b).flt = s.flt ∧ (s.stray n b).pmc = s.pmc ∧ (s.stray n b).sec = s.sec ∧ (s.stray n b).avail = s.avail ∧ 
    (s.stray n b).cfg = s.cfg ∧ (s.stray n b).dmc = s.dmc ∧ (s.stray n b).bst = s.bst ∧ (s.stray n b).thm = s.thm ∧ 
    (s.stray n b).pwr = s.pwr ∧ (s.stray n b).fse = s.fse ∧ (s.stray n b).upd = s.upd ∧ (s.stray n b).aon = s.aon ∧ 
    (s.stray n b).i3c = s.i3c ∧ (s.stray n b).tap = s.tap ∧ (s.stray n b).mem = s.mem ∧ (s.stray n b).errs = s.errs ∧ 
    (s.stray n b).out = s.out ∧ (s.stray n b).answer = s.answer ∧ (s.stray n b).fresh = s.fresh := by
  unfold State.stray; split <;> simp

@[simp] theorem State.charge_keeps (s : State) (n b : Nat) :
    ((s.charge n b).1).pending = s.pending ∧ ((s.charge n b).1).mode = s.mode ∧ ((s.charge n b).1).trans = s.trans ∧ 
    ((s.charge n b).1).warm = s.warm ∧ ((s.charge n b).1).regs = s.regs ∧ ((s.charge n b).1).shadow = s.shadow ∧ 
    ((s.charge n b).1).latches = s.latches ∧ ((s.charge n b).1).gtime = s.gtime ∧ ((s.charge n b).1).vxu = s.vxu ∧ 
    ((s.charge n b).1).cad = s.cad ∧ ((s.charge n b).1).rae = s.rae ∧ ((s.charge n b).1).lanes = s.lanes ∧ 
    ((s.charge n b).1).chains = s.chains ∧ ((s.charge n b).1).pkt = s.pkt ∧ ((s.charge n b).1).flt = s.flt ∧ 
    ((s.charge n b).1).pmc = s.pmc ∧ ((s.charge n b).1).sec = s.sec ∧ ((s.charge n b).1).avail = s.avail ∧ 
    ((s.charge n b).1).cfg = s.cfg ∧ ((s.charge n b).1).dmc = s.dmc ∧ ((s.charge n b).1).bst = s.bst ∧ 
    ((s.charge n b).1).thm = s.thm ∧ ((s.charge n b).1).pwr = s.pwr ∧ ((s.charge n b).1).fse = s.fse ∧ 
    ((s.charge n b).1).upd = s.upd ∧ ((s.charge n b).1).aon = s.aon ∧ ((s.charge n b).1).i3c = s.i3c ∧ 
    ((s.charge n b).1).tap = s.tap ∧ ((s.charge n b).1).mem = s.mem ∧ ((s.charge n b).1).errs = s.errs ∧ 
    ((s.charge n b).1).out = s.out ∧ ((s.charge n b).1).answer = s.answer ∧ ((s.charge n b).1).fresh = s.fresh := by
  unfold State.charge; split <;> simp

/-! ### What is read after an update -/

/-- A register word written reads what was written, every other word what it read before. -/
theorem State.rd_wr (s : State) (a b : Nat) (v : Word) : (s.wr a v).rd b = if b = a then v else s.rd b := by
  unfold State.wr State.rd
  by_cases hv : v = resetWord a
  · simp only [hv, if_true, Tab.look_del]
    by_cases hb : b = a
    · simp [hb]
    · simp [hb]
  · simp only [hv, if_false, Tab.look_put]
    by_cases hb : b = a
    · simp [hb]
    · simp [hb]

@[simp] theorem State.rd_wr_same (s : State) (a : Nat) (v : Word) : (s.wr a v).rd a = v := by
  simp [State.rd_wr]

theorem State.rd_wr_ne (s : State) (a b : Nat) (v : Word) (h : b ≠ a) : (s.wr a v).rd b = s.rd b := by
  simp [State.rd_wr, h]

@[simp] theorem State.vxuU_setVxu (s : State) (u : Nat) (x : VxuUnit) : (s.setVxu u x).vxuU u = x := by
  simp [State.vxuU, State.setVxu]

theorem State.vxuU_setVxu_ne (s : State) (u v : Nat) (x : VxuUnit) (h : v ≠ u) : (s.setVxu u x).vxuU v = s.vxuU v := by
  simp [State.vxuU, State.setVxu, Tab.lookD_put_ne, h]

@[simp] theorem State.lane_setLane (s : State) (l : Nat) (x : Lane) : (s.setLane l x).lane l = x := by
  simp [State.lane, State.setLane]

theorem State.lane_setLane_ne (s : State) (l m : Nat) (x : Lane) (h : m ≠ l) : (s.setLane l x).lane m = s.lane m := by
  simp [State.lane, State.setLane, Tab.lookD_put_ne, h]

@[simp] theorem State.chainL_setChainL (s : State) (k : Nat) (x : ChainLnk) : (s.setChainL k x).chainL k = x := by
  simp [State.chainL, State.setChainL]

theorem State.chainL_setChainL_ne (s : State) (k j : Nat) (x : ChainLnk) (h : j ≠ k) : (s.setChainL k x).chainL j = s.chainL j := by
  simp [State.chainL, State.setChainL, Tab.lookD_put_ne, h]

@[simp] theorem State.chainP_setChainP (s : State) (k : Nat) (x : ChainPkt) : (s.setChainP k x).chainP k = x := by
  simp [State.chainP, State.setChainP]

theorem State.chainP_setChainP_ne (s : State) (k j : Nat) (x : ChainPkt) (h : j ≠ k) : (s.setChainP k x).chainP j = s.chainP j := by
  simp [State.chainP, State.setChainP, Tab.lookD_put_ne, h]

@[simp] theorem State.chan_setChan (s : State) (c : Nat) (x : Chan) : (s.setChan c x).chan c = x := by
  simp [State.chan, State.setChan]

@[simp] theorem State.setChan_setChan (s : State) (k : Nat) (x y : Chan) : (s.setChan k x).setChan k y = s.setChan k y := by
  simp [State.setChan]

@[simp] theorem State.setVxu_setVxu (s : State) (k : Nat) (x y : VxuUnit) : (s.setVxu k x).setVxu k y = s.setVxu k y := by
  simp [State.setVxu]

@[simp] theorem State.setLane_setLane (s : State) (k : Nat) (x y : Lane) : (s.setLane k x).setLane k y = s.setLane k y := by
  simp [State.setLane]

@[simp] theorem State.setChainL_setChainL (s : State) (k : Nat) (x y : ChainLnk) : (s.setChainL k x).setChainL k y = s.setChainL k y := by
  simp [State.setChainL]

theorem State.chan_setChan_ne (s : State) (c d : Nat) (x : Chan) (h : d ≠ c) : (s.setChan c x).chan d = s.chan d := by
  simp [State.chan, State.setChan, Tab.lookD_put_ne, h]

@[simp] theorem State.engine_setEngine (s : State) (e : Nat) (x : Engine) : (s.setEngine e x).engine e = x := by
  simp [State.engine, State.setEngine]

@[simp] theorem State.answer_reply (s : State) (st : Status) (d : List Byte) : (s.reply st d).answer = ⟨st, d⟩ := rfl

@[simp] theorem State.rd_reply (s : State) (st : Status) (d : List Byte) (a : Nat) : (s.reply st d).rd a = s.rd a := rfl

/-! ### How a command with a status table is answered -/

/-- Outside the recovery loader the table's status stands. -/
@[simp] theorem State.recovering_ok (s : State) (a : Nat) (st : Status) (h : s.upd.recovery = false) : s.recovering a st = st := by
  simp [State.recovering, h]

/-- OK: the effect, and the answer OK. -/
theorem State.hostWrite_ok (s : State) (r : Req) (a : Nat) (f : State → State) (st : Status) (h : s.upd.recovery = false)
    (hs : st = .ok) : s.hostWrite r a st f = (f s).reply .ok := by
  simp [State.hostWrite, h, hs]

/-- Any other status: the access is rejected with it. -/
theorem State.hostWrite_not_ok (s : State) (r : Req) (a : Nat) (f : State → State) (st : Status) (h : s.upd.recovery = false)
    (hs : st ≠ .ok) : s.hostWrite r a st f = s.reject r a true 2 st := by
  simp [State.hostWrite, h, hs]

@[simp] theorem State.answer_reject (s : State) (r : Req) (a : Nat) (w : Bool) (z : Nat) (st : Status) :
    (s.reject r a w z st).answer = ⟨st, []⟩ := by
  unfold State.reject
  dsimp only
  split <;> rfl

end Sys2Proof.Machine
end

