-- ==== Sys2Proof/Laws/Regs.lean ====
section
/-! SUPPORT. Sys2Proof/Laws/Regs.lean: the registers that alerts, faults, counters and refused accesses leave as they were. -/
namespace Sys2Proof.Machine

/-- A fold over a list keeps what its steps keep for the list's members. -/
theorem foldl_keeps_mem {α β : Type} (p : State → β) (f : State → α → State) (l : List α) (s : State)
    (h : ∀ t x, x ∈ l → p (f t x) = p t) : p (l.foldl f s) = p s := by
  induction l generalizing s with
  | nil => rfl
  | cons x r ih => exact (ih _ (fun t y hy => h t y (by simp [hy]))).trans (h s x (by simp))

theorem State.rd_wr64 (s : State) (a n b : Nat) (h : b ≠ a) (h4 : b ≠ a + 4) : (s.wr64 a n).rd b = s.rd b := by
  simp [State.wr64, State.wrN, State.rd_wr, h, h4]

/-- An alert writes only the packet layer's ALERT_LOST and EVENTS (R243). -/
theorem State.rd_alert (s : State) (c k x y z w a : Nat) (h : a < 0x120000 ∨ 0x124000 ≤ a) : (s.alert c k x y z w).rd a = s.rd a := by
  have hq : ∀ (al : Alert) (t : State) (j : Nat), j < 16 → (t.queueAlert j al).rd a = t.rd a := by
    intro al t j hj
    have h1 : a ≠ Reg.LNK_P_ALERT_LOST j := by unfold Reg.LNK_P_ALERT_LOST; omega
    have h2 : a ≠ Reg.LNK_P_EVENTS j := by unfold Reg.LNK_P_EVENTS; omega
    unfold State.queueAlert
    dsimp only
    split
    · rfl
    · simp only [State.event, State.setBits, State.satInc, State.wrN, State.rd_wr, h1, h2, if_false]
      rfl
  have hf : ∀ al : Alert, (s.alertChains.foldl (fun t j => t.queueAlert j al) s).rd a = s.rd a := by
    intro al
    refine foldl_keeps_mem (fun t => t.rd a) _ _ _ (fun t j hj => hq al t j ?_)
    simp only [State.alertChains, bitList, List.mem_filter, List.mem_range] at hj
    exact hj.1
  unfold State.alert State.driveAlertN
  dsimp only
  split <;> exact hf _

/-- A history entry writes no other register than an alert does (R377, R382). -/
theorem State.rd_formEntry (s : State) (src sev x y gt : Nat) (fo co : Bool) (a : Nat) (h : a < 0x120000 ∨ 0x124000 ≤ a) :
    (s.formEntry src sev x y gt fo co).rd a = s.rd a := by
  unfold State.formEntry
  dsimp only
  repeat' split
  all_goals first
    | rfl
    | exact State.rd_alert _ _ _ _ _ _ _ _ h

/-- A detected fault writes FLT_STICKY and what an alert does (R371, R382). -/
theorem State.rd_detect (s : State) (src x y : Nat) (fo : Bool) (a : Nat) (h : a < 0x120000 ∨ 0x124000 ≤ a)
    (h2 : a < 0x10010 ∨ 0x10020 ≤ a) : (s.detect src x y fo).rd a = s.rd a := by
  have h3 : ∀ sev, faultSev src = some sev → (s.setSticky src).rd a = s.rd a := by
    intro sev hs
    have hlt : src < 128 := by
      unfold faultSev at hs
      repeat' split at hs
      all_goals first
        | omega
        | simp at hs
    unfold State.setSticky State.setBits
    rw [State.rd_wr_ne]
    unfold Reg.FLT_STICKY
    omega
  unfold State.detect
  split
  · rfl
  · rename_i sev hs
    dsimp only
    repeat' split
    all_goals first
      | exact h3 sev hs
      | rfl
      | (rw [State.rd_formEntry _ _ _ _ _ _ _ _ _ h]; exact h3 sev hs)

/-- A sample count writes no register (R396). -/
theorem State.rd_sampleCount (s : State) (n i : Nat) (x : SampleCtx) (a : Nat) : (s.sampleCount n i x).rd a = s.rd a := by
  simp [State.rd]

/-- A counted event writes counters alone (R388 to R391). -/
theorem State.rd_count (s : State) (ev i f : Nat) (p : Option Nat) (x y z : Nat) (a : Nat) (h : a < 0x20000 ∨ 0x30000 ≤ a) :
    (s.count ev i f p x y z).rd a = s.rd a := by
  unfold State.count
  refine foldl_keeps_mem (fun t => t.rd a) _ _ _ (fun t n hn => ?_)
  have hn' : n < 128 := by
    simp only [State.pmcHits, List.mem_map, List.mem_filter] at hn
    obtain ⟨q, ⟨_, hq⟩, rfl⟩ := hn
    simp only [Bool.and_eq_true, decide_eq_true_eq] at hq
    omega
  have h1 : a ≠ Reg.PMC_CNT n := by unfold Reg.PMC_CNT; omega
  have h2 : a ≠ Reg.PMC_CNT n + 4 := by unfold Reg.PMC_CNT; omega
  have h3 : a ≠ Reg.PMC_OVF (n / 32) := by unfold Reg.PMC_OVF; omega
  have h4 : a ≠ Reg.PMC_EVENTS := by unfold Reg.PMC_EVENTS; omega
  unfold State.pmcAdd
  dsimp only
  split
  · exact (State.rd_sampleCount _ _ _ _ _).trans (State.rd_wr64 _ _ _ _ h1 h2)
  · simp only [State.event, State.setBits, State.rd_wr, h3, h4, if_false]
    exact (State.rd_sampleCount _ _ _ _ _).trans (State.rd_wr64 _ _ _ _ h1 h2)

/-- A refused access writes GLB_ERR_ADDR, GLB_ERR_INFO, GLB_ERR_CNT, GLB_EVENTS, the counts of SEC and PMC, and what a fault
does (R424, R495, R511). -/
theorem State.rd_reject (s : State) (r : Req) (x : Nat) (w : Bool) (z : Nat) (st : Status) (a : Nat)
    (h : a < 0x120000 ∨ 0x124000 ≤ a) (h2 : a < 0x10010 ∨ 0x10020 ≤ a) (h3 : a < 0x20000 ∨ 0x30000 ≤ a)
    (h4 : a ≠ Reg.GLB_ERR_ADDR ∧ a ≠ Reg.GLB_ERR_INFO ∧ a ≠ Reg.GLB_ERR_CNT ∧ a ≠ Reg.GLB_EVENTS)
    (h5 : a ≠ Reg.SEC_AUTH_REJ ∧ a ≠ Reg.SEC_PRIV_REJ) : (s.reject r x w z st).rd a = s.rd a := by
  have hc : ∀ (t : State) , (t.countRefusal st x).rd a = t.rd a := by
    intro t
    unfold State.countRefusal
    split
    · rw [State.rd_count _ _ _ _ _ _ _ _ _ h3, State.satInc, State.wrN, State.rd_wr_ne _ _ _ _ h5.1]
    · rw [State.rd_count _ _ _ _ _ _ _ _ _ h3, State.satInc, State.wrN, State.rd_wr_ne _ _ _ _ h5.2]
    · rfl
  unfold State.reject
  dsimp only
  split
  · rw [State.rd_reply, State.rd_detect _ _ _ _ _ _ h h2, hc]
    simp only [State.event, State.setBits, State.satInc, State.wrN, State.rd_wr, h4, if_false]
  · rw [State.rd_reply, hc]
    simp only [State.event, State.setBits, State.satInc, State.wrN, State.rd_wr, h4, if_false]

/-- A capability update writes GLB_CAP and what an alert does (R31). -/
theorem State.rd_capUpdate (s : State) (a : Nat) (h : a < 0x120000 ∨ 0x124000 ≤ a) (h2 : a ≠ Reg.GLB_CAP) :
    s.capUpdate.rd a = s.rd a := by
  unfold State.capUpdate
  dsimp only
  split
  · rfl
  · rw [State.rd_alert _ _ _ _ _ _ _ _ h, State.wrN, State.rd_wr_ne _ _ _ _ h2]

/-- Bits set in a register read 1 after it. -/
theorem State.setBits_bit (s : State) (a : Nat) (m : Word) (i : Nat) (h : m.getLsbD i = true) :
    ((s.setBits a m).rd a).getLsbD i = true := by
  simp [State.setBits, h]

/-- A detected fault of an assigned source is sticky (R371); in COLD only the AON's sources are detected (R376). -/
theorem State.sticky_detect (s : State) (src x y : Nat) (fo : Bool) (h : (faultSev src).isSome = true)
    (hc : s.mode ≠ .cold ∨ aonSource src = true) :
    (s.detect src x y fo).sticky src = true := by
  obtain ⟨sev, hs⟩ := Option.isSome_iff_exists.mp h
  have hlt : src < 128 := by
    unfold faultSev at hs
    repeat' split at hs
    all_goals first
      | omega
      | simp at hs
  have ha : Reg.FLT_STICKY (src / 32) < 0x120000 := by unfold Reg.FLT_STICKY; omega
  have hb : ((s.setSticky src).rd (Reg.FLT_STICKY (src / 32))).toNat.testBit (src % 32) = true := by
    have hm : (BitVec.ofNat 32 (1 <<< (src % 32))).getLsbD (src % 32) = true := by
      have : src % 32 < 32 := Nat.mod_lt _ (by decide)
      simp [BitVec.getLsbD_ofNat, this, Nat.testBit_shiftLeft]
    have := State.setBits_bit s (Reg.FLT_STICKY (src / 32)) _ _ hm
    rw [BitVec.getLsbD] at this
    exact this
  unfold State.detect State.sticky State.rdN
  simp only [hs]
  repeat' split
  all_goals first
    | (rename_i hm; simp_all; done)
    | exact hb
    | (rw [State.rd_formEntry _ _ _ _ _ _ _ _ _ (Or.inl ha)]; exact hb)

end Sys2Proof.Machine
end

