-- ==== Sys2Proof/WellFormed.lean ====
section
/-! DEFINITION. Sys2Proof/WellFormed.lean: the commands whose operands spell something that can come from outside the stack:
fields of their widths, strings of their lengths, codeword addresses, error positions. The meanings take every command; one
that is not well formed is a command nothing can send. -/
namespace Sys2Proof

/-- A SID has 16 bits (R417). -/
def Req.wf (r : Req) : Bool := decide (r.sid < 65536)

/-- A packet's fields fit its blocks, and a tag of 32 bytes is there exactly when TAGGED is 1 (R215, R216). -/
def Packet.wf (p : Packet) : Bool :=
  decide (p.type ≤ 6) && decide (p.lseq < 65536) && decide (p.label < 256) && p.payload.length % 8 == 0 &&
    decide (p.payload.length < 1024) && p.tag.length == (if p.tagged then 32 else 0)

/-- Calibration names channels below 32, lanes of a channel, and settings of a lane (R332). -/
def CalResult.wf (r : CalResult) : Bool :=
  r.noEye.all (fun e => decide (e.1 < 32) && decide (e.2 < 256)) &&
    r.values.all (fun e => decide (e.1 < 32) && decide (e.2.1 < 640))

/-- An error of a codeword names symbols 0 to 35 or the address symbols, each once and by a mask that is not zero (R279). -/
def symsWf (l : List (Nat × BitVec 16)) : Bool :=
  l.all (fun e => decide (e.1 < 38) && e.2 != 0#16) && decide ((l.map (·.1)).Nodup)

/-- Each of the three errors of a read is one. -/
def ReadErrs.wf (e : ReadErrs) : Bool := symsWf e.cell && symsWf e.line && symsWf e.reread

/-- A region's bits have been pulsed or not: at most every bit of the array (R431). -/
def FuseResult.wf (r : FuseResult) : Bool := r.fails.all (fun n => decide (n < 65536))

/-- A measurement reads 76 sensors, 20 nodes of the model and 6 rails (R338, R340, R360). -/
def Thermals.wf (m : Thermals) : Bool :=
  m.sensors.length == 76 && m.nodes.length == 20 && m.rails.length == 6

/-- A page of the configuration flash holds 16 KiB (R453). -/
def LoadFind.wf (f : LoadFind) : Bool := f.pages.all (fun e => e.2.length == 16384)

/-- An exception-log read names a count of 32 bits. -/
def Reader.wf : Reader → Bool
  | .exceptionLog n => decide (n < 4294967296)
  | .data => true
  | .domainEntry _ => true
  | .domainMap _ => true
  | .poolEntry _ => true

/-- A sense by command has a requester. -/
def SenseWhy.wf : SenseWhy → Bool
  | .command r => r.wf
  | .coldLoad made => made.all (fun e => decide (e.1.val < 64) || decide (960 ≤ e.1.val))
  | .bandChange => true

/-- A channel-local address of a codeword: below 3 GiB, a multiple of 64 (R9, R252). -/
def cwAddressOk (a : BitVec 32) : Bool := decide (a.toNat < 3 * 2 ^ 30) && a.toNat % 64 == 0

/-- The command is well formed. -/
def Instr.wf (i : Instr) : Bool :=
  match i with
  | .resetNLow => true
  | .resetNRelease => true
  | .rootPllLock => true
  | .pwrgoodRise => true
  | .pwrgoodLost => true
  | .clockLost _ => true
  | .shutdownRearm => true
  | .loadEntry found => found.wf
  | .loadComplete r => r.cal.wf
  | .modeReqService r cal => r.wf && cal.wf
  | .modeReqHold r => r.wf
  | .holdEntryComplete => true
  | .modeReqMaintain r => r.wf
  | .warmLoad => true
  | .fatalFault _ _ _ => true
  | .vxuStart r _ => r.wf
  | .vxuPause r _ => r.wf
  | .vxuResume r _ => r.wf
  | .vxuStop r _ => r.wf
  | .vxuHeaderCheck _ _ => true
  | .vxuReady _ => true
  | .startDeadlineExpire _ => true
  | .startMark _ => true
  | .vxuFrameSlot _ _ => true
  | .vxuProgramFetch _ _ => true
  | .vxuBoundStop _ => true
  | .vecPacketClose _ => true
  | .nop _ => true
  | .lit _ => true
  | .rlit _ => true
  | .tpl _ => true
  | .emit _ => true
  | .emits _ => true
  | .setx _ => true
  | .addx _ => true
  | .andx _ => true
  | .orx _ => true
  | .xorx _ => true
  | .cpyx _ => true
  | .xadd _ => true
  | .setm _ => true
  | .field _ => true
  | .loop _ => true
  | .endl _ => true
  | .call _ => true
  | .ret _ => true
  | .mark _ => true
  | .pausept _ => true
  | .endProg _ => true
  | .failPacket _ payload => payload.length % 32 == 0 && decide (32 ≤ payload.length) && decide (payload.length ≤ 576)
  | .failRecord => true
  | .capBlockTimeout _ => true
  | .gapTimerExpire _ => true
  | .foldRecord => true
  | .resync r _ => r.wf
  | .domOpen r _ => r.wf
  | .domClose r _ _ => r.wf
  | .domRelease r _ => r.wf
  | .poolDef r _ => r.wf
  | .poolDel r _ => r.wf
  | .fenceTimerExpire _ => true
  | .closeRecordBuild _ => true
  | .readoutSummary r => r.wf
  | .readoutPoints r => r.wf
  | .readoutLines r => r.wf
  | .readoutCloseRecord r => r.wf
  | .readoutDone => true
  | .cadExcRptrWrite r _ => r.wf
  | .raeTakeUp _ => true
  | .timeBudgetExpire _ _ => true
  | .nodeBudgetSpent _ => true
  | .firstPassEnd _ => true
  | .poolRound _ => true
  | .raeEngineError _ => true
  | .resultRingCopy => true
  | .holdoffExpire => true
  | .reanalyse r => r.wf
  | .clearLat r => r.wf
  | .raeRingCfgWrite r _ => r.wf
  | .raeRingRptrWrite r _ => r.wf
  | .shedEvaluation => true
  | .reinstatement => true
  | .holdExceeded _ => true
  | .laneSignalDetect _ => true
  | .noSignal _ => true
  | .trainingFrame _ _ _ _ _ => true
  | .trainingEnd _ => true
  | .trainTmo _ => true
  | .lockAchieved _ => true
  | .lockTmo _ => true
  | .capxMatch _ _ => true
  | .capxMismatch _ _ => true
  | .laneReady _ => true
  | .backoffExpire _ => true
  | .chainFormation _ _ => true
  | .laneLoss _ lanes _ => lanes != 0#64
  | .dropReceived _ _ => true
  | .rejoinAnnounce _ => true
  | .rejoinAckReceived _ _ => true
  | .rejoinLapsed _ => true
  | .partnerCommitReceived _ _ => true
  | .partnerCommitTimeout _ => true
  | .epochSwitch _ _ => true
  | .laneMarkerSend _ => true
  | .waddingInsert _ => true
  | .retrain r _ => r.wf
  | .prbsCfgWrite r _ _ => r.wf
  | .injectBit r _ _ => r.wf
  | .injectSymbol r _ _ => r.wf
  | .injectSync r _ => r.wf
  | .injectLol r _ => r.wf
  | .packetReceive _ _ _ => true
  | .creditPacket _ p => p.wf
  | .brd _ p => p.wf
  | .bwr _ p => p.wf
  | .ctlRequest _ p _ => p.wf
  | .ackReceived _ _ => true
  | .nakReceived _ _ => true
  | .replayTimeout _ => true
  | .creditGrantSend _ => true
  | .alertSend _ => true
  | .nonce r => r.wf
  | .nonceExpire _ => true
  | .sessionOpen r ext => r.wf && (ext.length == 320 || ext.length == 464)
  | .sessionClose r => r.wf
  | .identity r => r.wf
  | .attest r hnonce => r.wf && hnonce.length == 32
  | .enroll r => r.wf
  | .evict r ext => r.wf && ext.length == 16
  | .sessionIdleTimeout _ => true
  | .debugUnlock r _ => r.wf
  | .secFatal _ => true
  | .i3cDirectRead _ _ => true
  | .i3cCtlFrame _ _ => true
  | .i3cPrivateRead => true
  | .entdaa _ => true
  | .setdasa _ _ => true
  | .setnewda _ => true
  | .rstdaa => true
  | .enec => true
  | .disec => true
  | .getpid => true
  | .getbcr => true
  | .getdcr => true
  | .getstatus => true
  | .getmwl => true
  | .getmrl => true
  | .i3cUnsupportedCcc _ => true
  | .refreshTick _ => true
  | .pullInRefresh _ => true
  | .rowIdlePrecharge _ _ => true
  | .dmcRead _ a _ _ _ _ errs reader => errs.wf && reader.wf && cwAddressOk a
  | .dmcWrite _ a _ _ _ _ bytes => cwAddressOk a && bytes != 0#64
  | .mergeEntryTimeout _ a errs => errs.wf && cwAddressOk a
  | .errorReturn _ _ => true
  | .caLaneTestDone _ _ => true
  | .transitStart _ cal => cal.wf
  | .dmcFreqReq r _ => r.wf
  | .scrubRow _ errs => errs.all (fun e => e.2.wf)
  | .corrected2Writeback _ a => cwAddressOk a
  | .hotpos _ _ => true
  | .eccInjArm r _ => r.wf
  | .legStart _ => true
  | .legEnd _ _ _ => true
  | .legBudgetExpire _ _ => true
  | .columnRepairChunk _ => true
  | .clkBundleLost _ _ => true
  | .salvageSlice _ _ => true
  | .fulltest r => r.wf
  | .fulltestDone => true
  | .abortFulltest r => r.wf
  | .fuseCommit r => r.wf
  | .legCmd r => r.wf
  | .calStep _ values => values.all (fun e => decide (e.1 < 640))
  | .calStepForced _ values => values.all (fun e => decide (e.1 < 640))
  | .calTapMove _ _ _ => true
  | .thermalMeasurement m => m.wf
  | .throttleStep => true
  | .fasterPointTimer => true
  | .comparatorScan sensors => sensors.length == 76
  | .railOc _ _ => true
  | .railUv _ _ => true
  | .railPeak _ _ => true
  | .clearPeak r => r.wf
  | .mgcWatchdog _ => true
  | .ledgerCopy _ => true
  | .ackAlertn r => r.wf
  | .clearAll r => r.wf
  | .fltForce r _ _ => r.wf
  | .availMsTick => true
  | .availSlotWrite _ => true
  | .availBucketRoll => true
  | .pmcSelWrite r _ _ => r.wf
  | .counterWrap _ _ => true
  | .pmcSample _ _ => true
  | .counterDump => true
  | .sense why _ => why.wf
  | .reinforce r => r.wf
  | .fseSlock r _ _ => r.wf
  | .fuseOperationEnd res => res.wf
  | .updBegin r _ => r.wf
  | .updChunk r _ => r.wf
  | .updVerify r => r.wf
  | .verifyDone _ => true
  | .activate r _ => r.wf
  | .confirm r => r.wf
  | .rollback r => r.wf
  | .updAbort r => r.wf
  | .trialExpire => true
  | .settingsSave _ => true
  | .commit r _ => r.wf
  | .discard r _ => r.wf
  | .registerWrite r _ _ _ _ => r.wf
  | .fecCodewordReceived _ symbols _ _ => symbols.length == 544
  | .receiveEmptySlot _ => true
  | .testAccessPortOperation _ _ => true

end Sys2Proof
end

