-- ==== Sys2Proof/Tests/Slice0.lean ====
section
/-! SUPPORT. Sys2Proof/Tests/Slice0.lean: tests: what the check of well-formedness turns away, the manual's worked examples, and a
witness for the hypotheses of every statement. -/
namespace Sys2Proof.Tests
set_option Elab.async false
open Sys2Proof.Machine

/-! ### States the tests start from -/

/-- A session of a role on chain 0. -/
def session (sid : Nat) (role : Role) : Session :=
  ⟨sid, role, 0, 0, [], 300, 0, 0, 0, 0, 0, 0, []⟩

/-- The stack in a mode, released and clocked, with sessions 1 Owner, 2 Operator, 3 Observer and 4 enrolment on chain 0. -/
def run (m : Mode) : State :=
  { mode := m
    aon := ⟨true, true, true⟩
    fse := { sensed := true }
    thm := {}
    sec := { katOk := true, sessions := [(0, session 1 .owner), (1, session 2 .operator), (2, session 3 .observer),
      (3, session 4 .enrolment)] } }

/-- The session of the Owner. -/
def owner : Req := ⟨.chain 0, 1⟩

/-- The session of the Operator. -/
def operator : Req := ⟨.chain 0, 2⟩

/-- The session of the Observer. -/
def observer : Req := ⟨.chain 0, 3⟩

/-- A request without a session. -/
def nobody : Req := ⟨.chain 0, 0⟩

/-- Nobody's session. -/
def stranger : Req := ⟨.chain 0, 9⟩

/-- A field of what a command leaves; a default where it does not answer a next state. -/
def after {α : Type} (c : Instr) (s : State) (d : α) (f : State → α) : α :=
  match exec c s with
  | .next t => f t
  | _ => d

/-- An outcome is a next state. -/
def goes (o : Host.Outcome State Fault Refusal) : Bool :=
  match o with
  | .next _ => true
  | _ => false

/-- A state with one vector unit. -/
def withUnit (s : State) (x : VxuUnit) : State := { s with vxu := [(3, x)] }

/-- A running unit of 512-bit vectors whose next words are given. -/
def unitAt (ws : List DWord) : VxuUnit :=
  { state := .running, hdrOk := true, width := 3, progLen := 4096, subLen := 64, readBound := 99999, decodeBound := 99999
    resv := ws.map some, fetched := 8 * ws.length }

/-- That unit in SERVICE. -/
def decoding (ws : List DWord) : State := withUnit (run .service) (unitAt ws)

/-- The next word of a unit is this one, an instruction that R55 admits. -/
def decodesNow (s : State) (u : Nat) (w : DWord) : Bool :=
  (s.vxuU u).decoding && (s.vxuU u).wordAt (s.vxuU u).pos == .at (some w) && wellFormedWord w && !(s.vxuU u).badInstr w &&
    (s.vxuU u).badWord ((s.vxuU u).pos + 1) ((s.vxuU u).litWords (wOp w)) == none && !((s.vxuU u).taken (wOp w)).overBound

theorem decodesNext_of_decodesNow {s : State} {u : Nat} {w : DWord} (h : decodesNow s u w = true) :
    s.decodesNext u (wOp w) w := by
  simp only [decodesNow, Bool.and_eq_true, beq_iff_eq, Bool.not_eq_true'] at h
  exact ⟨h.1.1.1.1.1, h.1.1.1.1.2, h.1.1.1.2, rfl, h.1.1.2, h.1.2, h.2⟩

/-- A register given a value. -/
def reg (a v : Nat) (s : State) : State := s.wrN a v

/-- Registers given values. -/
def withRegs (l : List (Nat × Nat)) (s : State) : State := l.foldl (fun t e => t.wrN e.1 e.2) s

/-- The partitions of the example in Modes and configuration, on fewer channels: P0 VEC, P1 CAD, P2 CAP, P3 BUF, of one parcel
(P1: six), on two channels each; label 9 in class 9. -/
def laidOut (m : Mode) : State :=
  { run m with
    cfg := { empty := false, gen := 7
             parts := [(0, ⟨1, 12, 0x3, [0]⟩), (1, ⟨3, 12, 0xC, [1, 4, 5, 6, 7, 8]⟩), (2, ⟨2, 12, 0x30, [2]⟩), (3, ⟨4, 12, 0xC0, [3]⟩)]
             frames := [(0, List.range 16), (1, List.range 16), (34, List.range 16), (35, List.range 16),
               (68, List.range 16), (69, List.range 16), (102, List.range 16), (103, List.range 16)] }
    dmc := { chans := (List.range 8).map (fun c => (c, { on := true })) }
    regs := [(Reg.QOS_LABEL 2, 0x0900#32)] }

/-- That stack in SERVICE with chain 1 UP on four lanes and 1,000 credits of every pool. -/
def linked : State :=
  { laidOut .service with
    lanes := (List.range 4).map (fun l => (l, { state := .active, ready := true, cwLock := true, blkLock := true }))
    chains := [(1, { en := true, minw := 2, lanes := 0xF, state := .up, txMask := 0xF, rxMask := 0xF })]
    pkt := [(1, { granted := (List.range 33).map (fun n => (n, 1000)), given := (List.range 33).map (fun n => (n, 1000)) })] }

/-! ### Witnesses: states and operands that meet the hypotheses of the statements -/

theorem witness_StepRunsFront : { run .service with pending := [.clearAll owner] }.pending = .clearAll owner :: [] ∧
    State.reset.pending = [] := by decide

theorem witness_TickAdvancesGtime : (run .service).pending = [] ∧ (run .service).aon.pll = true ∧
    State.reset.pending = [] ∧ State.reset.aon.pll = false := by decide

/-- Nothing going on, with every lane off and no chain UP; and with chain 1 UP. -/
theorem witness_TickAdvancesGtime_quiet : (run .service).coreQuiet ∧ (run .service).linkQuiet ∧ (run .service).aon.pll = true := by
  refine ⟨⟨rfl, fun c => ⟨rfl, rfl, rfl⟩, ?_, ?_, rfl, fun e => rfl, rfl, rfl⟩, ⟨fun l => rfl, fun k => rfl⟩, rfl⟩ <;> decide +kernel

theorem witness_EdgeSoundKept : (run .service).edgeSound = true ∧
    goes (step { run .service with pending := [.clearAll owner] }) = true := by decide

theorem witness_MemoryCanonicalKept : { run .service with mem := [(0, 1), (7, 2)] }.memoryWf ∧
    goes (step { run .service with mem := [(0, 1), (7, 2)] }) = true := by decide

theorem witness_LeftAlone : goes (exec (.clearAll owner) (run .service)) = true ∧ memoryCmd (.clearAll owner) = false ∧
    fuseCmd (.clearAll owner) = false ∧ outerCmd (.clearAll owner) = false := by decide

theorem witness_ModeTable : after (.modeReqHold owner) (run .service) none (·.trans) = some .hold ∧
    after .holdEntryComplete { run .service with trans := some .hold } .cold (·.mode) = .hold ∧
    goes (exec .resetNLow (run .maintain)) = true := by decide

theorem witness_ResetAndPowerPins :
    (run .cold).fse.op = none ∧ (∃ s : State, s.mode = .cold ∧ s.aon.pwrgood = true ∧ s.aon.resetN = true ∧ s.fse.sensed = false) ∧
    (∃ s : State, s.aon.resetN = true ∧ s.aon.pwrgood = true ∧ s.aon.pll = false) ∧ (run .cold).aon.pll = true ∧
    (run .cold).mode = .cold ∧ (run .cold).coolEnough = true ∧
    (∃ s : State, s.tap.state = .idle ∧ s.tap.ir = 1) :=
  ⟨by decide, ⟨{ mode := .cold, aon := ⟨true, true, false⟩ }, by decide⟩, ⟨{ aon := ⟨true, true, false⟩ }, by decide⟩,
    by decide, by decide, by decide, ⟨{ tap := { state := .idle } }, by decide⟩⟩

theorem witness_FatalReaction : (run .service).aon = ⟨true, true, true⟩ ∧ (run .service).mode ≠ .cold ∧
    (run .service).mode ≠ .safe ∧ (run .service).thm.hot = false ∧ (run .safe).mode = .safe ∧ (run .cold).mode = .cold := by
  decide

theorem witness_Loads : (run .cold).released = true ∧ (run .cold).fuseLocked 0 = false ∧ (⟨none, []⟩ : LoadFind).sec = none ∧
    (⟨some 1#2, []⟩ : LoadFind).sec = some 1#2 ∧ State.reset.released = false ∧ (run .load).mode = .load ∧
    (run .load).warm = false ∧ (run .load).bst.fulltest = false ∧ (run .load).upd.recovery = false ∧
    { run .load with cfg := { empty := false } }.cfg.empty = false ∧ (run .load).cfg.empty = true ∧
    { run .load with upd := { recovery := true } }.upd.recovery = true ∧ (run .hold).mode ≠ .load ∧
    { run .maintain with trans := some .load }.trans = some .load ∧ (run .service).trans ≠ some .load ∧
    { run .service with trans := some .load }.noneHeld = true ∧ (run .load).bst.fulltest = false ∧
    { laidOut .service with dmc := { chans := [(1, { on := true, held := true })] } }.noneHeld = false := by decide +kernel

theorem witness_ModeRequests : (run .hold).upd.recovery = false ∧ serviceStatus owner (run .hold) = .ok ∧
    holdStatus operator (run .service) = .ok ∧ maintainStatus owner (run .service) = .ok ∧
    serviceStatus owner (run .service) = .eState ∧ holdStatus owner (run .hold) = .eState ∧
    maintainStatus operator (run .service) = .ePriv ∧ (run .service).role observer = some .observer ∧
    (run .service).role operator = some .operator ∧ (run .hold).role owner = some .owner ∧
    (decoding []).role operator = some .operator ∧ (∃ u < 16, ((decoding []).vxuU u).state ≠ .idle) ∧
    { run .service with trans := some .hold }.busyEngines = 0 ∧ { run .service with trans := some .hold }.noneHeld = true := by decide

/-- A word of each instruction, from its row of R54, is decoded next: those of one word. -/
theorem witness_VxuInstructions : [0x0000000000000000#64, 0x10200000000004D2, 0x1120FFFFFFFFFFFF, 0x11E0800000000000,
    0x1220000000000007, 0x1320000000000007, 0x1420000000000007, 0x1522000000000000, 0x1622000000000000, 0x1720000000000030,
    0x1820000600000000, 0x3000000000000011, 0x2000000000000002, 0x2200000000000000, 0x3100000000000000, 0x3F00000000000000,
    0x0400000000000000, 0x0500300000000000, 0x0500200100000000].all (fun w => decodesNow (decoding [w]) 3 w) = true := by
  decide +kernel

/-- Those with literal words. -/
theorem witness_VxuLiterals : [0x0100000000000000#64, 0x0200000000000000, 0x0300000000000001].all (fun w =>
    decodesNow (decoding [w, 1, 2, 3, 4, 5, 6, 7, 8]) 3 w) = true := by decide +kernel

/-- ENDL with passes left and on the last, RET, and PAUSEPT with a pause pending. -/
theorem witness_VxuControlInstructions :
    [1, 2].all (fun n => decodesNow (withUnit (run .service) { unitAt [0x2100000000000000] with
      loops := [⟨n, false, 0, 0⟩] }) 3 0x2100000000000000) = true ∧
    decodesNow (withUnit (run .service) { unitAt [] with
      sub := [some 0x2300000000000000], inSub := true, calls := [⟨false, 7⟩] }) 3 0x2300000000000000 = true ∧
    decodesNow (withUnit (run .service) { unitAt [0x3100000000000000] with ppend := true }) 3 0x3100000000000000 = true := by
  decide +kernel

/-- What EMIT and EMITS of count 1 and one template ask besides. -/
theorem witness_VxuEmittingInstructions : bitsOf (0x0500200100000000 : Nat) 31 0 = 0 ∧
    bitsOf (0x0500200100000000 : Nat) 51 48 = 0 ∧ (unitAt []).width = 3 ∧ (unitAt []).mark = none ∧
    (unitAt []).cur = ⟨[], none⟩ ∧ (unitAt []).frames.length < 64 ∧ (unitAt []).x.length = 8 ∧
    (∀ i < 8, 1 ≤ (unitAt []).m.getD i 48 ∧ (unitAt []).m.getD i 48 ≤ 48) ∧
    (let x := unitAt [0x0100000000000000, 1, 2, 3, 4, 5, 6, 7, 8]
     let y := { x.taken 0x01 with emis := some (.lit 1), litFrom := ⟨x.composed, x.cur, x.mark, (x.taken 0x01).pos - 1⟩ }
     y.litBroken 1 = false ∧ y.badWord y.pos 8 = none ∧ (y.advance 8).overBound = false) ∧
    bitsOf (0x0200000000000000 : Nat) 31 0 + 1 = 1 := by decide +kernel

/-- END of a RUNNING unit with and without a frame to send, and of an ARMED one. -/
theorem witness_VxuControlInstructions_end :
    (((unitAt [0x3F00000000000000]).taken 0x3F).closeFrame.frames = [] ∧ (unitAt []).state = .running) ∧
    (({ unitAt [0x3F00000000000000] with frames := [⟨[1], none⟩] }.taken 0x3F).closeFrame.frames ≠ []) ∧
    decodesNow (withUnit (run .service) { unitAt [0x3F00000000000000] with state := .armed }) 3 0x3F00000000000000 = true ∧
    (unitAt []).ppend = false := by decide +kernel

/-- Unit 3 bound to chain 1 under label 9, whose class is RT-STREAM, in partition 0. -/
def streaming (x : VxuUnit) : State :=
  withUnit (reg (Reg.QOS_C_CFG 9 0) 0x100 (reg (Reg.VXU_BIND 3) 0x80010900 linked)) x

theorem witness_VxuCommands : (streaming {}).upd.recovery = false ∧
    vxuCmdStatus operator (.unit 3) .start (streaming {}) = .ok ∧
    vxuCmdStatus operator (.unit 3) .pause (streaming (unitAt [])) = .ok ∧
    vxuCmdStatus owner (.group 8) .pause (streaming (unitAt [])) = .ok ∧
    vxuCmdStatus operator (.unit 3) .resume (streaming { state := .paused }) = .ok ∧
    vxuCmdStatus operator (.unit 3) .stop (streaming {}) = .ok ∧ ((streaming {}).vxuU 3).state = .idle ∧
    vxuCmdStatus operator (.unit 3) .stop (streaming (unitAt [])) = .ok ∧ ((streaming (unitAt [])).vxuU 3).state ≠ .idle ∧
    vxuCmdStatus operator (.unit 3) .start (streaming (unitAt [])) = .eBusy ∧
    vxuCmdStatus observer (.unit 3) .start (streaming {}) = .ePriv := by decide +kernel

/-- A program header (R51): 512-bit vectors, no pause points, of 4,096 bytes without a subroutine section, with its bounds. -/
def headerBytes (rb db : Nat) : List Byte :=
  [0x4D, 0x5A, 0x56, 0x50] ++ leBytes 2 1 ++ [3, 0] ++ leBytes 8 4096 ++ leBytes 4 0 ++ leBytes 4 rb ++ leBytes 4 db ++ List.replicate 36 0

/-- Unit 3 LOADING with that header in its partition, and a class that admits it. -/
def headed : State :=
  (withRegs [(Reg.QOS_C_CFG 9 2, 1000), (Reg.QOS_C_CFG 9 3, 100000)] (streaming { state := .loading })).store (memKey 0 0)
    (bytesData (headerBytes 65536 65536)) []

theorem witness_VxuHeader :
    (headed.vxuPart 3).any (fun p =>
       let h := (headed.reachBanks (headed.realTime (headed.vxuClass 3) 0 false) p.2 0 64).readBytes p.1 p.2 0 64
       (headed.vxuU 3).state == .loading && !(headed.vxuU 3).hdrOk && !(headed.vxuU 3).out && (headed.vxuU 3).progOff == 0 &&
         !headed.headerWaits 3 && h.intact && !headed.parcelGone p.2 0 64 && headed.headerStatus 3 h.bytes true == .ok) = true := by
  decide +kernel

/-- A unit whose header has been read and whose program is being fetched; and one with all of a short program at hand. -/
def loadingUnit : VxuUnit := { state := .loading, hdrOk := true, width := 3, progLen := 4096, subLen := 64 }
/-- All of a short program at hand. -/
def readyUnit : VxuUnit := { loadingUnit with progLen := 136, resv := [some 0x3F00000000000000], fetched := 8 }

/-- A header that is refused, a header that has been read, and no partition: what the header check does nothing for. -/
theorem witness_VxuHeader_refused : headed.headerStatus 3 (List.replicate 64 0) true = .eIntegrity ∧
    loadingUnit.hdrOk = true ∧ (withUnit (run .service) { state := .loading }).vxuPart 3 = none := by decide +kernel

theorem witness_VxuStreamEvents_start :
    (streaming readyUnit).vxuReady 3 = true ∧ readyUnit.emis = none ∧ readyUnit.ending = none ∧ (streaming readyUnit).startAt 3 = 0 ∧
    (let s := { reg (Reg.VXU_START_AT 3) 5 (streaming readyUnit) with gtime := 5 }
     s.vxuReady 3 = true ∧ s.startAt 3 ≠ 0 ∧ s.startAt 3 ≤ s.now) ∧
    (let s := { reg (Reg.QOS_SRES_START 3) 1 (reg (Reg.VXU_START_AT 3) 5 (streaming loadingUnit)) with gtime := 5 }
     s.startAt 3 ≠ 0 ∧ s.startAt 3 ≤ s.now ∧ (s.vxuU 3).state = .loading ∧ s.vxuReady 3 = false ∧ s.deadlinePassed 3 = true ∧
       { s with gtime := 4 }.now < s.startAt 3) ∧
    (reg (Reg.QOS_C_CFG 9 4) 100000 (streaming loadingUnit)).deadlinePassed 3 = false ∧
    (let s := { reg (Reg.VXU_START_AT 3) 5 (streaming { unitAt [] with state := .armed }) with gtime := 5 }
     s.startAt 3 ≤ s.now ∧ (s.vxuU 3).state = .armed ∧ (s.vxuU 3).ending = none) := by decide +kernel

/-- A unit with one slot due in the next cycle. -/
def due (x : VxuUnit) : State := streaming { x with due := 1 }

theorem witness_VxuStreamEvents_slotDue : (due (unitAt [])).slotDue 3 ∧ (due (unitAt [])).canAccept 3 = true ∧
    (withUnit (run .service) { unitAt [] with due := 1 }).slotDue 3 ∧
    (withUnit (run .service) { unitAt [] with due := 1 }).canAccept 3 = false := by
  unfold State.slotDue; decide +kernel

theorem witness_VxuStreamEvents_slots :
    (let x := { unitAt [] with frames := [⟨[1], none⟩] }
     x.frames = ⟨[1], none⟩ :: [] ∧ x.emis = none ∧ x.ending = none ∧ x.packet.length < 7) ∧
    (let x := { unitAt [] with ending := some 1, packet := List.replicate 6 [0] }
     x.frames = [] ∧ x.ending = some 1 ∧ x.packet.length < 7) ∧
    (let x := { unitAt [] with stopped := true, ppend := true }
     x.frames = [] ∧ x.ending = none ∧ x.overBound = false ∧ x.stopped = true) ∧
    (unitAt []).stopped = false ∧ (unitAt []).overBound = false ∧
    (∀ p ∈ [0, 1, 2], (reg (Reg.VXU_POLICY 3) p (due (unitAt []))).fld (Reg.VXU_POLICY 3) Fld.VXU_POLICY_POLICY = p) ∧
    (let x : VxuUnit := { state := .idle, owed := [⟨({} : VxuUnit).ctlFrame 3 3 2, 1, 9, false⟩] }
     x.state ≠ .running ∧ x.owed ≠ [] ∧ (streaming x).canAccept 3 = true ∧ (withUnit (run .service) x).canAccept 3 = false) := by
  decide +kernel

theorem witness_VxuStreamEvents_rest :
    (let x := { unitAt [] with winRead := 100000 }
     x.state = .running ∧ x.ending = none ∧ x.overBound = true ∧ x.closeFrame.frames = [] ∧ { x with state := .armed }.overBound = true ∧
       { x with frames := [⟨[1], none⟩] }.closeFrame.frames ≠ []) ∧
    (let x := { unitAt [] with packet := [[1]], tPacket := 0 }
     x.packet ≠ [] ∧ x.tPacket + 16 ≤ { streaming x with gtime := 16 }.now ∧ { streaming x with gtime := 15 }.now < x.tPacket + 16 ∧
       (streaming x).chainUp ((streaming x).vxuChain 3) = true) ∧
    (let s := reg (Reg.QOS_SRES_SIZE 3) 1 (streaming loadingUnit)
     s.vxuPart 3 = (Tab.look s.cfg.parts 0).map (fun p => (0, p)) ∧ (s.vxuPart 3).isSome = true ∧ loadingUnit.hdrOk = true ∧
     loadingUnit.state ≠ .idle ∧ min (64 - (0 + 64 + 64 + 0) % 64) (loadingUnit.mainLen - loadingUnit.fetched) ≠ 0 ∧
     (s.vxuPart 3).all (fun p => !s.fetchWaits 3 p.2 128 64) ∧
     8 * loadingUnit.resv.length + 64 ≤ s.rdN (Reg.QOS_SRES_SIZE 3) * 4096 ∧
     ¬ 8 * loadingUnit.resv.length + 64 ≤ (streaming loadingUnit).rdN (Reg.QOS_SRES_SIZE 3) * 4096) := by decide +kernel

/-- A waiting codeword access: its channel is held for a lane test. -/
theorem witness_VxuStreamEvents_waits :
    (let s := streaming loadingUnit
     let h := { s with dmc := { s.dmc with chans := s.dmc.chans.map (fun (e : Nat × Chan) => (e.1, { e.2 with held := true })) } }
     (h.vxuPart 3).any (fun p => h.fetchWaits 3 p.2 128 64) && h.headerWaits 3) = true := by decide +kernel

/-- A fail record with its CRC (R79, R80). -/
def record (sseq src label site flags addr mask vcyc : Nat) : List Byte :=
  let l := leBytes 4 sseq ++ leBytes 1 src ++ leBytes 1 label ++ leBytes 2 (site + flags * 1024) ++ leBytes 6 addr ++
    leBytes 2 0 ++ leBytes 8 mask ++ leBytes 4 vcyc ++ leBytes 2 0
  l ++ leBytes 2 (crc16 l)

/-- The plat descriptor of the example in Fail cadastre. -/
def platBytes : List Byte :=
  leBytes 4 0x03031010 ++ leBytes 4 0x00050008 ++ List.replicate 8 0 ++
    (List.range 16).flatMap (fun i => leBytes 2 (13 + i)) ++
    (List.range 16).flatMap (fun i => leBytes 2 (i - 3)) ++ [0x1D#8, 0, 0x1E, 0, 0x1F, 0] ++ List.replicate 10 0 ++
    (List.range 8).map (fun j => BitVec.ofNat 8 j) ++ List.replicate 152 0

/-- Sources 7 (MODE FOLD) and 17 (MODE LOG into a ring in P2) on chain 1, and plat 0 at site 137; domain 824 is OPEN there. -/
def collecting : State :=
  let s := withRegs ((List.range 64).map (fun i => (Reg.CAD_PLAT 0 i, leAt platBytes (4 * i) 4)))
    (withRegs [(Reg.CAD_SRC_CFG 7, 0x80010900), (Reg.CAD_SRC_CFG 17, 0xC0014121)] linked)
  { s with cad := { domains := [(824, { state := .open, site := 137, block := 2, rs := 16, cs := 16 })]
                    siteMap := [(256 * 137 + 2, (824, true))], sitePlat := [(137, 0)] } }

/-- A record in the ingest queue, with what its source holds. -/
def arriving (b : List Byte) (x : Source) : State :=
  { collecting with cad := { collecting.cad with ingest := [⟨b, 1⟩], sources := [(7, x)] } }

/-- A record of source 7 at the address of the example, plain, with SYNC, and a MARKER. -/
def plain (sseq : Nat) : List Byte := record sseq 7 9 137 0 0x5A3C1F27 0x24 0
/-- A MARKER of source 7. -/
def marker (sseq : Nat) : List Byte := record sseq 7 9 0 1 0 0 5

/-- A record that passes the checks of R89, of a source in MODE FOLD. -/
def foldsNow (s : State) (f : FailRec) : Bool :=
  let i := recSource f.bytes
  recCrcOk f.bytes && recFormatOk f.bytes && s.srcEnabled i && s.fld (Reg.CAD_SRC_CFG i) Fld.CAD_SRC_CFG_CHAIN == f.chain &&
    recLabel f.bytes == s.fld (Reg.CAD_SRC_CFG i) Fld.CAD_SRC_CFG_LABEL && s.srcMode i == 0

theorem foldsRecord_of_foldsNow {s : State} {f : FailRec} (h : foldsNow s f = true) : s.foldsRecord f := by
  simp only [foldsNow, Bool.and_eq_true, beq_iff_eq] at h
  exact ⟨⟨h.1.1.1.1.1, h.1.1.1.1.2, h.1.1.1.2, h.1.1.2, h.1.2⟩, .inl h.2⟩

/-- Source 7 in MODE BOTH, logging to a ring in P2 whose open block has room. -/
def both : State := reg (Reg.CAD_SRC_CFG 7) 0xC0010922 collecting

theorem witness_FailRecords_both : both.foldsRecord ⟨plain 5, 1⟩ := by
  unfold State.foldsRecord State.passesChecks State.blockOpen; decide +kernel

theorem witness_FailRecords_packet : (arriving (plain 5) {}).chainUp 1 = true ∧ (arriving (plain 5) {}).mode ≠ .cold ∧
    (arriving (plain 5) {}).mode ≠ .safe ∧ (arriving (plain 5) {}).cadPart.isSome = true ∧ { linked with cfg := {} }.cadPart = none ∧
    { linked with cfg := {} }.chainUp 1 = true ∧ (run .service).chainUp 1 = false ∧ (run .service).cad.ingest = [] ∧
    (arriving (plain 5) {}).cad.ingest = ⟨plain 5, 1⟩ :: [] := by decide +kernel

theorem witness_FailRecords : collecting.cadPart.isSome = true ∧
    foldsNow (arriving (plain 0x2A10) {}) ⟨plain 0x2A10, 1⟩ = true ∧
    foldsNow (arriving (marker 0x2A10) {}) ⟨marker 0x2A10, 1⟩ = true ∧ (arriving (plain 0x2A10) {}).mode = .service ∧
    recMarker (marker 5) = true ∧ recMarker (plain 5) = false ∧ recSync (plain 5) = false ∧
    (match (arriving (plain 5) {}).resolve (plain 5) false with | .inl d => d.1 == 824 | _ => false) = true ∧
    recSseq (plain 0xFFFFFFFF) = 0xFFFFFFFF := by decide +kernel

/-- The distances of R84 at their bounds: 1 and 1,023 are held, 2^31 is FAR, a number behind NX in no gap and a held number are
duplicates. -/
theorem witness_FailRecords_order :
    serialDist 0x2A10 0x2A11 = 1 ∧ serialDist 0xFFFFFFFF 1022 = 1023 ∧ serialDist 0 0x80000000 = 2147483648 ∧
    2147483648 < serialDist 1 0 ∧ inGap [] 0 = false ∧ recSync (plain 0) = false ∧
    ([(0x2A11, (⟨plain 0x2A11, 1⟩ : FailRec))].any (fun h => h.1 == 0x2A11)) = true := by decide +kernel

theorem witness_FailRecords_log :
    (let f : FailRec := ⟨plain 5 ++ [], 1⟩
     (arriving f.bytes {}).logSource f = none) ∧
    (let f : FailRec := ⟨List.replicate 32 1, 1⟩
     recCrcOk f.bytes = false ∧ (arriving f.bytes {}).logSource f = none) ∧
    (let f : FailRec := ⟨record 5 17 0x41 137 0 0 1 0, 1⟩
     collecting.logSource f = some 17 ∧ collecting.srcMode 17 = 1 ∧ (collecting.capLog (collecting.srcLog 17)).full = false ∧
       (collecting.capLog (collecting.srcLog 17)).recs.length < 126) := by decide +kernel

theorem witness_GapsCaptureFold :
    (let x : Source := { nx := some 0x2A11, held := [(0x2A12, ⟨plain 0x2A12, 1⟩)], timer := true }
     let s := { arriving [] x with gtime := 6250 }
     (s.source 7).timer = true ∧ (s.source 7).nx = some 0x2A11 ∧ serialDist 0x2A11 0x2A12 ≠ 0 ∧
       2 * (s.source 7).tGap + 625 * s.gapTime 7 ≤ 2 * s.now ∧ 2 * (arriving [] x).now < 2 * x.tGap + 625 * (arriving [] x).gapTime 7) ∧
    (let s := { collecting with cad := { collecting.cad with caps := [(2, { recs := [plain 1] })] }, gtime := 3125 }
     (s.capLog 2).recs ≠ [] ∧ (s.capLog 2).start + 3125 ≤ s.now ∧ (run .service).now < (s.capLog 2).start + 3125) ∧
    (Tab.look collecting.cfg.parts 2).isSome = true ∧ collecting.capRing 2 = true ∧ collecting.capRing 3 = false ∧
    (∀ w ∈ [0, 2 ^ 28 - 4096], w + 4096 < 2 ^ 28 ∨ 2 ^ 28 ≤ w + 4096) ∧
    (let x : Source := { held := [(5, ⟨plain 5, 1⟩)], timer := true }
     x.nx = none ∧ x.held ≠ [] ∧ x.timer = true) ∧
    (collecting.capLog 2).recs = [] := by decide +kernel

/-- On an empty heap of enough units an allocation finds a place. -/
theorem heapPlace_empty {s : State} {n : Nat} (h : s.heapTaken = []) (hn : n ≤ s.heapUnits) :
    ∃ a, s.heapPlace n = some a ∧ heapBase / 64 ≤ a ∧ a + n ≤ heapBase / 64 + s.heapUnits := by
  have hs : (s.heapPlace n).isSome = true := by
    simp only [State.heapPlace, h, List.find?_isSome]
    exact ⟨heapBase / 64, by simp, by simp; omega⟩
  obtain ⟨a, ha⟩ := Option.isSome_iff_exists.mp hs
  have hf := List.find?_some ha
  simp at hf
  exact ⟨a, ha, by omega, by omega⟩

/-- With one place taken, an allocation still finds one where twice its units are left. -/
theorem heapPlace_second {s : State} {n : Nat} {p : HeapSpace} (h : s.heapTaken = [p]) (lo : heapBase / 64 ≤ p.first)
    (hi : p.first + p.units ≤ heapBase / 64 + s.heapUnits) (room : p.units + 2 * n ≤ s.heapUnits) :
    (s.heapPlace n).isSome = true := by
  simp only [State.heapPlace, h, List.find?_isSome]
  by_cases hp : heapBase / 64 + n ≤ p.first
  · exact ⟨heapBase / 64, by simp, by simp; omega⟩
  · exact ⟨p.first + p.units, by simp, by simp; omega⟩

/-- On a heap that one place fills, an allocation finds none. -/
theorem heapPlace_full {s : State} {n : Nat} {p : HeapSpace} (h : p ∈ s.heapTaken) (hf : p.first = heapBase / 64)
    (hu : p.units = s.heapUnits) (hn : 0 < n) : s.heapPlace n = none := by
  simp only [State.heapPlace, List.find?_eq_none]
  intro a _ hfit
  simp only [Bool.and_eq_true, decide_eq_true_eq, List.all_eq_true, Bool.or_eq_true] at hfit
  have := hfit.2 p h
  omega

/-- The heap filled by a place that a domain lost. -/
def heapFull : List HeapSpace := [⟨.spill, heapBase / 64, collecting.heapUnits⟩]

/-- A record to fold, released, with the heap's lost places. -/
def folding (lost : List HeapSpace) : State :=
  { collecting with cad := { collecting.cad with released := [⟨⟨plain 5, 1⟩, false, 0⟩], heapLost := lost } }

/-- The state in which the fold pipe takes that record. -/
def folded (lost : List HeapSpace) : State :=
  (folding lost).foldState ⟨⟨plain 5, 1⟩, false, 0⟩ [] 824 ⟨2, 53728, [63802, 63805]⟩

/-- The same state, its cadastre written out. -/
def unfolded (lost : List HeapSpace) : State := { folded lost with cad := { collecting.cad with heapLost := lost }, cfg := collecting.cfg }

theorem folded_eq (l : List HeapSpace) : folded l = unfolded l := by
  have hc : (folded l).cad = { collecting.cad with heapLost := l } := by
    simp [folded, State.foldState, State.traffic, folding]; rfl
  have hg : (folded l).cfg = collecting.cfg := by simp [folded, State.foldState, State.traffic, folding]
  unfold unfolded
  rw [← hc, ← hg]

theorem folded_needs : ∀ l ∈ [[], heapFull],
    ((unfolded l).foldPlan 824 ⟨2, 53728, [63802, 63805]⟩).needs = [⟨824, .lot (lotKey 53728 63802), 1⟩] := by decide +kernel

theorem unfolded_heap (l : List HeapSpace) : (unfolded l).heapTaken = l ∧ (unfolded l).heapUnits = collecting.heapUnits :=
  ⟨show l ++ [] = l by simp, rfl⟩

/-- A state in which an allocation has been made at a place. -/
def placed (s : State) (d : Nat) (use : HeapUse) (n a : Nat) : State :=
  ({ s.draw with cad := { s.cad with heapUsed := s.cad.heapUsed + n } } : State).setDomain d
    { s.domain d with spaces := (s.domain d).spaces ++ [⟨use, a, n⟩] }

theorem takeHeap_placed {s : State} {d n a : Nat} {use : HeapUse} (h : s.heapPlace n = some a) (hn : n ≠ 0) :
    s.takeHeap d use n = some (placed s d use n a) := by
  unfold State.takeHeap
  rw [if_neg hn, h]
  rfl

theorem takeHeap_none {s : State} {d n : Nat} {use : HeapUse} (h : s.heapPlace n = none) (hn : n ≠ 0) : s.takeHeap d use n = none := by
  unfold State.takeHeap
  rw [if_neg hn, h]
  rfl

theorem takeHeap_zero (s : State) (d : Nat) (use : HeapUse) : s.takeHeap d use 0 = some s := rfl

theorem witness_Fold : (folding []).mode = .service ∧ (folding []).cad.released = ⟨⟨plain 5, 1⟩, false, 0⟩ :: [] ∧
    (folding []).resolve (plain 5) false = .inl (824, ⟨2, 53728, [63802, 63805]⟩) ∧
    ({ folding [] with cad := { (folding []).cad with siteMap := [] } }).resolve (plain 5) false = .inr (.noDomain, none) := by
  decide +kernel

theorem witness_Fold_heap :
    ((folded []).takeAll ((folded []).foldPlan 824 ⟨2, 53728, [63802, 63805]⟩).needs).isSome = true ∧
    (folded heapFull).takeAll ((folded heapFull).foldPlan 824 ⟨2, 53728, [63802, 63805]⟩).needs = none := by
  rw [folded_eq, folded_eq]
  constructor
  · obtain ⟨a, ha, _⟩ := heapPlace_empty (n := 1) (unfolded_heap []).1 (by rw [(unfolded_heap []).2]; decide +kernel)
    rw [folded_needs [] (by simp)]
    simp [State.takeAll, takeHeap_placed ha]
  · have hp := heapPlace_full (s := unfolded heapFull) (n := 1) (p := ⟨.spill, heapBase / 64, collecting.heapUnits⟩)
      (by rw [(unfolded_heap heapFull).1]; exact List.mem_cons_self) rfl (unfolded_heap heapFull).2.symm (by decide)
    rw [folded_needs heapFull (by simp)]
    simp [State.takeAll, takeHeap_none hp]

/-- The registers of the domain commands, in SERVICE, over the domains from 0 on. -/
def commanding (first count spare : Nat) : State :=
  withRegs [(Reg.CAD_DFIRST, first), (Reg.CAD_DCOUNT, count), (Reg.CAD_DSPARE, spare), (Reg.CAD_FENCE_SRC 0, 0x80), (Reg.CAD_FENCE_ID, 5)]
    collecting

theorem witness_DomainCommands : (commanding 0 6 0x1010).upd.recovery = false ∧
    openStatus operator (commanding 0 6 0x1010) = .ok ∧ closeStatus operator true (commanding 824 1 0) = .ok ∧
    closeStatus owner false (commanding 824 1 0) = .ok ∧ (commanding 824 1 0).mode = .service ∧
    closeStatus owner true { commanding 824 1 0 with mode := .hold } = .ok ∧
    (commanding 824 1 0).dCount = 1 ∧ (commanding 0 6 0x1010).dCount = 6 ∧
    releaseStatus operator (commanding 824 1 0) = .ok ∧ poolDefStatus operator (commanding 0 1 0x00070101) = .ok ∧
    (let s := commanding 0 1 0x00070101
     poolDelStatus operator { s with cad := { s.cad with pools := [(7, { pr := 1, pc := 1 })] } } = .ok) ∧
    resyncStatus operator collecting = .ok ∧
    openStatus observer (commanding 0 6 0x1010) = .ePriv ∧ openStatus operator { commanding 0 6 0x1010 with mode := .hold } = .eState ∧
    openStatus operator (commanding 0xFFFFFF 1 0x1010) = .ok ∧ openStatus operator (commanding 0xFFFFFF 2 0x1010) = .eRange := by
  decide +kernel

/-- Domain 824 CLOSING: in mode IMMEDIATE with nothing left to fold, and FENCED on source 7 with its timer running. -/
def closing (fence : Option (Nat × List Nat × Nat)) (lost : List HeapSpace) : State :=
  { collecting with cad := { collecting.cad with
      heapLost := lost
      domains := [(824, { state := .closing, site := 137, block := 2, rs := 16, cs := 16, timer := fence.isSome, fence := fence })] } }

/-- Domain 824 CLOSING with more failing points than its spares hold. -/
def overflowing (pool : Nat) : State :=
  { closing none [] with cad := { (closing none []).cad with
      domains := [(824, { state := .closing, site := 137, block := 2, fp := 1, pool := pool, rowT := [(5, 1)], colT := [(7, 1)] })] } }

theorem witness_Closing : (closing none []).mode = .service ∧ (closing none []).closeReady 824 = true ∧
    ((closing none []).closeRecord 824).ovf = false ∧ (closing none heapFull).closeReady 824 = true ∧
    (∀ p ∈ [0, 7], (overflowing p).closeReady 824 = true ∧ ((overflowing p).closeRecord 824).ovf = true ∧
      ((overflowing p).domain 824).pool = p) ∧
    (closing (some (5, [7], 824)) []).closeReady 824 = false := by decide +kernel

theorem heapUnits_of_cfg {s t : State} (h : s.cfg = t.cfg) : s.heapUnits = t.heapUnits := by
  unfold State.heapUnits State.cadPart
  rw [h]

theorem placed_taken {s : State} {d n a : Nat} {use : HeapUse} {x : Domain} (h : s.cad.heapLost = []) (hd : s.cad.domains = [(d, x)])
    (hx : x.spaces = []) : (placed s d use n a).heapTaken = [⟨use, a, n⟩] := by
  have h1 : s.domain d = x := by simp [State.domain, hd, Tab.lookD, Tab.look]
  simp [placed, State.heapTaken, State.setDomain, h, hd, h1, hx, State.draw, Tab.put]

/-- What closing a domain without lots needs is found on an empty heap. -/
theorem takes_of_empty {s : State} {x : Domain} (hu : s.heapUnits = collecting.heapUnits) (hl : s.cad.heapLost = [])
    (hd : s.cad.domains = [(824, x)]) (hx : x.spaces = [])
    (hc : s.closeNeeds 824 (s.closeRecord 824) = [⟨824, .closeRec, 1⟩, ⟨824, .lotList, 0⟩, ⟨824, .result, 14⟩]) :
    (s.takeAll (s.closeNeeds 824 (s.closeRecord 824))).isSome = true := by
  have big : 100 ≤ collecting.heapUnits := by decide +kernel
  have ht : s.heapTaken = [] := by simp [State.heapTaken, hl, hd, hx]
  obtain ⟨a, ha, h1, h2⟩ := heapPlace_empty (n := 1) ht (by omega)
  have hp : (placed s 824 .closeRec 1 a).heapUnits = s.heapUnits := heapUnits_of_cfg rfl
  have h3 := heapPlace_second (n := 14) (placed_taken hl hd hx) h1 (by rw [hp]; exact h2) (by rw [hp]; show 1 + 2 * 14 ≤ _; omega)
  obtain ⟨b, hb⟩ := Option.isSome_iff_exists.mp h3
  rw [hc]
  simp [State.takeAll, takeHeap_placed ha, takeHeap_zero, takeHeap_placed hb]

/-- What closing needs in a state, of domain 824. -/
def needs824 (s : State) : List HeapNeed := s.closeNeeds 824 (s.closeRecord 824)

theorem closing_needs :
    let l : List HeapNeed := [⟨824, .closeRec, 1⟩, ⟨824, .lotList, 0⟩, ⟨824, .result, 14⟩]
    needs824 (closing none []) = l ∧ needs824 (overflowing 0) = l ∧ needs824 (overflowing 7) = l ∧ needs824 (closing none heapFull) = l := by
  decide +kernel

theorem closing_cfg (fence : Option (Nat × List Nat × Nat)) (lost : List HeapSpace) : (closing fence lost).cfg = collecting.cfg := by
  unfold closing; dsimp only

theorem overflowing_cfg (p : Nat) : (overflowing p).cfg = collecting.cfg := by
  unfold overflowing; dsimp only; rw [closing_cfg]

theorem closing_lost (fence : Option (Nat × List Nat × Nat)) (lost : List HeapSpace) : (closing fence lost).cad.heapLost = lost := by
  unfold closing; rfl

theorem overflowing_lost (p : Nat) : (overflowing p).cad.heapLost = [] := by
  unfold overflowing; dsimp only; exact closing_lost none []

theorem closing_domains (fence : Option (Nat × List Nat × Nat)) (lost : List HeapSpace) :
    ∃ x, (closing fence lost).cad.domains = [(824, x)] ∧ x.spaces = [] := by
  unfold closing; exact ⟨_, rfl, rfl⟩

theorem overflowing_domains (p : Nat) : ∃ x, (overflowing p).cad.domains = [(824, x)] ∧ x.spaces = [] := by
  unfold overflowing; exact ⟨_, rfl, rfl⟩

theorem witness_Closing_heap : ((closing none []).takeAll (needs824 (closing none []))).isSome = true ∧
    ((overflowing 0).takeAll (needs824 (overflowing 0))).isSome = true ∧
    ((overflowing 7).takeAll (needs824 (overflowing 7))).isSome = true ∧
    (closing none heapFull).takeAll (needs824 (closing none heapFull)) = none := by
  obtain ⟨n1, n2, n3, n4⟩ := closing_needs
  obtain ⟨x, hx, hx'⟩ := closing_domains none []
  obtain ⟨y, hy, hy'⟩ := overflowing_domains 0
  obtain ⟨z, hz, hz'⟩ := overflowing_domains 7
  refine ⟨takes_of_empty (heapUnits_of_cfg (closing_cfg _ _)) (closing_lost _ _) hx hx' n1,
    takes_of_empty (heapUnits_of_cfg (overflowing_cfg 0)) (overflowing_lost 0) hy hy' n2,
    takes_of_empty (heapUnits_of_cfg (overflowing_cfg 7)) (overflowing_lost 7) hz hz' n3, ?_⟩
  have hm : (⟨.spill, heapBase / 64, collecting.heapUnits⟩ : HeapSpace) ∈ (closing none heapFull).heapTaken := by
    unfold State.heapTaken
    rw [closing_lost]
    exact List.mem_cons_self
  have h := heapPlace_full (n := 1) hm rfl (heapUnits_of_cfg (closing_cfg none heapFull)).symm (by decide)
  rw [n4]
  simp [State.takeAll, takeHeap_none h]

theorem witness_Closing_fence : (∃ x, (824, x) ∈ (closing (some (5, [7], 824)) []).cad.domains ∧ x.state = .closing ∧ x.timer = true ∧
      x.fenceDue ≤ 2 * (run .service).now ∧ x.fence = some (5, [7], 824)) ∧
    (∀ e ∈ (closing (some (5, [7], 824)) []).cad.domains, ∀ a b, e.2.fence = some (a, b, 824) → a = 5 ∧ b = [7]) ∧
    (∃ i ∈ [7], (closing (some (5, [7], 824)) []).fenceWaits 5 i = true) ∧
    (∀ e ∈ (closing none []).cad.domains, ∀ a b, e.2.fence = some (a, b, 824) →
      (2 * (closing none []).now < e.2.fenceDue ∨ ∀ i ∈ b, (closing none []).fenceWaits a i = false)) := by
  refine ⟨⟨_, List.mem_cons_self, rfl, rfl, by decide, rfl⟩, ?_, ⟨7, List.mem_cons_self, by decide +kernel⟩, ?_⟩
  · intro e h a b q
    obtain rfl := List.mem_singleton.mp h
    injection q with q
    injection q with q1 q2
    injection q2 with q2 _
    exact ⟨q1.symm, q2.symm⟩
  · intro e h a b q
    obtain rfl := List.mem_singleton.mp h
    cases q

/-- A readout of domain 824 into P3. -/
def reading (mode : Mode) (max : Nat) : State :=
  { withRegs [(Reg.CAD_RDOM, 824), (Reg.CAD_RMAX, max), (Reg.CAD_RDEST + 4, 0x30000000)] collecting with mode := mode }

theorem witness_Readouts : (reading .service 128).upd.recovery = false ∧ readoutStatus operator .summary (reading .service 128) = .ok ∧
    readoutStatus operator .points (reading .service 64) = .ok ∧ readoutStatus operator .lines (reading .service 64) = .ok ∧
    (let s := reading .service 4096
     readoutStatus owner .closeRecord { s with cad := { s.cad with domains := [(824, { state := .closed })] } } = .ok) ∧
    readoutStatus operator .summary (reading .service 63) = .eRange ∧ readoutStatus observer .points (reading .service 64) = .ePriv ∧
    (reading .service 64).role owner = some .owner ∧ formAdmits .closeRecord ((reading .service 64).domain 824).state = false ∧
    formAdmits .points ((reading .service 64).domain 824).state = true ∧
    (let s := reading .service 64
     readoutStatus operator .summary { s with cad := { s.cad with readout := some ⟨824, 1, 3, 0, 1, false, 0, 0, true⟩ } } = .eBusy) ∧
    collecting.cad.readout = none ∧
    { collecting.cad with readout := some ⟨824, 1, 3, 0, 1, false, 0, 0, true⟩ }.readout.isSome = true := by decide +kernel

/-- The exception log with 16 entries unread, its pointers at the wrap of the ring. -/
def excLog : State := withRegs [(Reg.CAD_EXC_WPTR, 6), (Reg.CAD_EXC_RPTR, 4194294)] collecting

theorem witness_ExceptionPointer : excLog.upd.recovery = false ∧ excLog.role operator = some .operator ∧
    excLog.role observer = some .observer ∧
    (let u := (excLog.rdN Reg.CAD_EXC_WPTR + 4194304 - excLog.rdN Reg.CAD_EXC_RPTR) % 4194304
     let d (v : Nat) := (v % 4194304 + 4194304 - excLog.rdN Reg.CAD_EXC_RPTR) % 4194304
     d 6 ≤ u ∧ u < d 7) := by decide +kernel

/-- The close records of domains 40, 41 and 42 of the example in Redundancy analysis: spares (2, 2), pool 7 of (1, 1). -/
def poolRec (d : Nat) (rows cols : List (Nat × Nat)) (pts : List (Nat × Nat)) : CloseRec :=
  { domain := d, flags := 0, plat := 0, rs := 2, cs := 2, pr := 1, pc := 1, pool := 7, hr := rows.length, hc := cols.length
    lp := pts.length, fp := 0, rows := 0, cols := 0, tClosed := 0, tbud := 0, nbud := 64, heavyRows := rows, heavyCols := cols
    points := pts, ovf := false }

/-- Domain 40: row 5 heavy. -/
def rec40 : CloseRec := poolRec 40 [(5, 4)] [] [(8, 20), (9, 20), (12, 30), (14, 31)]
/-- Domain 41: row 3 heavy. -/
def rec41 : CloseRec := poolRec 41 [(3, 4)] [] [(10, 50), (10, 51), (20, 60), (21, 61), (22, 62)]
/-- Domain 42: rows 2 and 7 heavy. -/
def rec42 : CloseRec :=
  poolRec 42 [(2, 4), (7, 4)] [] [(30, 70), (31, 70), (32, 70), (40, 80), (41, 81), (42, 82)]

theorem test_example_first_passes :
    (firstPass rec40 65536 2).options.map (fun o => (o.rows, o.cols)) = [(0, 0)] ∧ (firstPass rec40 65536 2).nodes = 2 ∧
    (firstPass rec41 65536 2).options.map (fun o => (o.rows, o.cols)) = [(1, 0), (0, 1)] ∧
    (firstPass rec41 65536 2).nodes = 1 + 3 + 2 ∧
    (firstPass rec42 65536 2).options.map (fun o => (o.rows, o.cols)) = [(1, 1)] ∧
    (firstPass rec42 65536 2).nodes = 1 + 1 + 1 + 2 := by decide +kernel

theorem test_example_round :
    bestChoice ([rec40, rec41, rec42].map (fun c => (firstPass c 65536 2).options)) 1 1 = [some 0, some 0, none] := by
  decide +kernel

theorem witness_SolutionsRepair : rec40.heavyRows.length = rec40.hr ∧ rec40.heavyCols.length = rec40.hc ∧
    (match (searchStage rec40 2 2 65536 0).1 with | .solution _ => true | _ => false) = true := by decide +kernel

theorem witness_FailuresAreProofs : rec41.points.Nodup ∧
    (match (searchStage rec41 2 2 65536 0).1 with | .fail .. => true | _ => false) = true := by decide +kernel

theorem witness_RoundIsExact :
    validChoice [[⟨0, 0, []⟩], [⟨1, 0, []⟩]] [some 0, none] = true ∧
    (choiceDemand [[⟨0, 0, []⟩], [⟨1, 0, []⟩]] [some 0, some 0]).1 ≤ 1 := by decide +kernel

/-- Domain 40 waiting for analysis, without a pool, with a close record of a budget. -/
def analysing (st : DomState) (queue : List Nat) (c : CloseRec) (e : Engine) : State :=
  { collecting with
    cad := { collecting.cad with
      domains := [(40, { state := st, closeRec := some c, nbud := c.nbud, pool := c.pool })]
      pools := [(7, { pr := 1, pc := 1 })] }
    rae := { queue := queue, engines := [(0, e)] } }

/-- The close record of domain 40 without a pool. -/
def solo : CloseRec := { rec40 with pool := 0, pr := 0, pc := 0 }

theorem witness_AnalysisEvents : (analysing .closed [40] solo {}).mode = .service ∧
    (analysing .closed [40] solo {}).rae.queue = 40 :: [] ∧ (analysing .closed [40] solo {}).handRounds.freeEngine = some 0 ∧
    (analysing .closed [40] solo {}).rae.dispatch = true ∧
    ((analysing .closed [40] solo {}).domain 40).closeRec = some solo ∧ solo.pool = 0 ∧ solo.domain = 40 ∧ rec40.pool ≠ 0 ∧
    ((analysing .analysing [] solo { domain := some 40 }).engine 0).domain = some 40 ∧
    ((analysing .analysing [] solo { domain := some 40 }).engine 0).spent = none ∧
    (let s := { analysing .analysing [] solo { domain := some 40 } with gtime := 10 ^ 12 }
     4 * (s.engine 0).tTake + 1250 * (s.domain 40).tbud ≤ 4 * s.now) ∧
    (let s := (analysing .analysing [] solo { domain := some 40 }).setDomain 40 { state := .analysing, tbud := 10 }
     4 * s.now < 4 * (s.engine 0).tTake + 1250 * (s.domain 40).tbud) ∧
    (let s := analysing .analysing [] solo { domain := some 40 }
     (s.engine 0).nodes ≤ 0 ∧ 0 ≤ s.nodesToMake 0 ∧ (firstPass solo (s.domain 40).nodeLimit 2).kind ≠ 3 ∧
       (firstPass solo (s.domain 40).nodeLimit 2).partialSearch = false) ∧
    (firstPass { solo with nbud := 0 } (({ nbud := 0 } : Domain).nodeLimit) 2).kind = 3 := by decide +kernel

/-- What the events of an analysis do nothing for, and a head that is no longer CLOSED. -/
theorem witness_AnalysisEvents_idle : { analysing .closed [40] solo {} with mode := .hold }.mode ≠ .service ∧
    (analysing .closed [] solo {}).rae.queue = [] ∧
    (let s := analysing .closed [40] solo {}
     { s with rae := { s.rae with engines := (List.range 64).map (fun e => (e, { failed := true })) } }.handRounds.freeEngine = none) ∧
    ((analysing .done [40] solo {}).domain 40).state ≠ .closed ∧ (analysing .done [40] solo {}).handRounds.freeEngine = some 0 ∧
    ((analysing .closed [] solo {}).engine 0).domain = none ∧
    ((analysing .analysing [] solo { domain := some 40, spent := some (1, 0) }).engine 0).spent ≠ none ∧
    (analysing .closed [] solo {}).roundDue 7 = false ∧ ((analysing .analysing [] rec40 { domain := some 40 }).domain 40).closeRec = some rec40 ∧
    rec40.domain = 40 := by decide +kernel

theorem witness_AnalysisEvents_round :
    (let s := analysing .analysing [] rec40 {}
     let t := s.setDomain 40 { s.domain 40 with outcome := some (firstPass rec40 65536 2) }
     let q : Pool := { pr := 1, pc := 1, round := [40], runner := some 0 }
     let v := { t with cad := { t.cad with pools := [(7, q)] } }
     v.roundDue 7 = true ∧ v.roundEngine 7 = some 0 ∧ Tab.look v.cad.pools 7 = some q) := by decide +kernel

/-- The result ring in P3 with two slots, enabled or not, with pointers. -/
def ringed (cfg w r : Nat) : State :=
  withRegs [(Reg.RAE_RING_CFG, cfg), (Reg.RAE_RING_SLOTS, 2), (Reg.RAE_RING_WPTR, w), (Reg.RAE_RING_RPTR, r), (Reg.RAE_ARG, 40),
    (Reg.RAE_ABUD, 0x00010001)] (analysing .done [] solo {})

/-- The ring's configuration: PART 3, label 9, enabled, alerts enabled. -/
def ringWord : Nat :=
  3 * 2 ^ Fld.RAE_RING_CFG_PART.lo + 9 * 2 ^ Fld.RAE_RING_CFG_LABEL.lo + 2 ^ Fld.RAE_RING_CFG_EN.lo + 2 ^ Fld.RAE_RING_CFG_ALERT_EN.lo

theorem witness_ResultRing :
    (let s := ringed ringWord 1 1
     s.mode = .service ∧ (Tab.look s.cfg.parts (s.fld Reg.RAE_RING_CFG Fld.RAE_RING_CFG_PART)).isSome = true ∧
       s.flag Reg.RAE_RING_CFG Fld.RAE_RING_CFG_EN = true ∧ s.ringFull = false ∧ 2 ≤ s.ringSlots ∧
       s.flag Reg.RAE_RING_CFG Fld.RAE_RING_CFG_ALERT_EN = true) ∧
    (let s := { ringed ringWord 0 0 with rae := { (ringed ringWord 0 0).rae with holdoff := true, holdoffDue := 5, ringNew := 1 } }
     s.rae.holdoff = true ∧ 2 * s.now < s.rae.holdoffDue ∧ s.rae.holdoffDue ≤ 2 * { s with gtime := 3 }.now ∧ s.rae.ringNew ≠ 0) ∧
    (ringed ringWord 0 1).ringFull = true ∧ (ringed 0 0 0).flag Reg.RAE_RING_CFG Fld.RAE_RING_CFG_ALERT_EN = false ∧
    (ringed 0 0 0).upd.recovery = false ∧ ringCfgStatus operator (BitVec.ofNat 32 ringWord) (ringed 0 5 5) = .ok ∧
    wget (BitVec.ofNat 32 ringWord) Fld.RAE_RING_CFG_EN = 1 ∧ (ringed 0 0 0).flag Reg.RAE_RING_CFG Fld.RAE_RING_CFG_EN = false ∧
    ringRptrStatus operator 1 (ringed ringWord 1 0) = .ok ∧ clearLatStatus operator (ringed 0 0 0) = .ok ∧
    (let s := ringed ringWord 1 1
     { s with rae := { s.rae with copyQ := [soloResult (s.domain 40) solo (spentOutcome 2 0 [] 1) 0 0] } }.rae.copyQ ≠ []) ∧
    { ringed ringWord 1 1 with mode := .hold }.mode = .hold ∧ (ringed ringWord 1 1).rae.copyQ = [] ∧
    ringCfgStatus observer 0 (ringed 0 5 5) = .ePriv ∧ reanalyseStatus owner { ringed 0 0 0 with mode := .hold } = .eState ∧
    (ringed 0 0 0).rae.holdoff = false := by decide +kernel

/-- Domain 40 DONE, undecided, without a pool. -/
def undecided : State :=
  (ringed 0 0 0).setDomain 40 { (ringed 0 0 0).domain 40 with
    result := some (soloResult ((ringed 0 0 0).domain 40) solo (spentOutcome 2 0 [] 1) 0 0) }

theorem undecided_heap : undecided.heapTaken = [] ∧ 14 ≤ undecided.heapUnits := by decide +kernel

theorem witness_ResultRing_reanalyse : reanalyseStatus owner undecided = .ok := by
  obtain ⟨a, ha, _⟩ := heapPlace_empty undecided_heap.1 undecided_heap.2
  have h : (undecided.takeHeap undecided.raeArg .result 14).isNone = false := by
    rw [takeHeap_placed ha (by decide)]; rfl
  unfold reanalyseStatus
  rw [h]
  decide +kernel

/-- Class 9 a LAT class of w × 10^6 B/s by chain 1 from P3, as in the example in Service classes; shed or in force. -/
def latent (w inforce shed : Nat) : State :=
  let s := withRegs [(Reg.QOS_C_CFG 9 0, 0x01640309), (Reg.QOS_C_CFG 9 1, 0x40830002), (Reg.QOS_C_CFG 9 2, w), (Reg.QOS_C_CFG 9 3, 200)]
    linked
  { s with gtime := 31250000, qos := { inforce := inforce, shed := shed } }

theorem witness_ShedRule : { latent 16000 0x200 0 with qos := { inforce := 0x200, change := true } }.qos.change = true ∧
    (latent 16000 0x200 0).mode = .service ∧ (latent 60000 0x200 0).overloaded false [9] (.tx 1) = true ∧
    (latent 16000 0x200 0).inForce 9 = true ∧ (latent 16000 0 0x200).isShed 9 = true ∧ 9 ∈ (latent 16000 0x200 0).forceList ∧
    (latent 16000 0x200 0).qos.change = false ∧ { latent 0 0 0 with mode := .hold }.mode ≠ .service := by decide +kernel

theorem witness_QosEvents : (latent 16000 0 0x200).mode = .service ∧ (latent 16000 0 0x200).qos.change = false ∧
    31250000 ≤ (latent 16000 0 0x200).stableTicks ∧ (latent 16000 0 0x200).shedOrder = [9] ∧
    resOrder.all (fun r => !(latent 16000 0 0x200).overloaded false (9 :: (latent 16000 0 0x200).forceList) r) = true ∧
    resOrder.any (fun r => (latent 60000 0 0x200).overloaded false (9 :: (latent 60000 0 0x200).forceList) r) = true ∧
    { latent 0 0 0 with gtime := 31249999 }.stableTicks < 31250000 ∧ (latent 0 0 0).shedOrder = [] ∧
    Tab.look (latent 0 0 0).qos.withheld 9 = none ∧ bitOf (latent 0 0 0).qos.stray 9 = false ∧
    (let s := { reg (Reg.QOS_C_CFG 9 0) 0x200 linked with qos := { inforce := 0x200, withheld := [(9, (3, false))] } }
     Tab.look s.qos.withheld 9 = some (3, false) ∧ s.classType 9 = 2 ∧ s.inForce 9 = true ∧ s.holdWithholds = false ∧
       2 * (s.now - 3) ≤ s.classP3 9 * 625 ∧ { s with gtime := 400 }.classP3 9 * 625 < 2 * ({ s with gtime := 400 }.now - 3)) := by
  decide +kernel

/-- The address of Reg.QOS_C_CFG 9 2, of a writable field of a granted kind, with the value of the example in Register interface. -/
def shadowed : State :=
  let s := latent 16000 0x200 0
  { s with shadow := [(Reg.QOS_C_CFG 9 2, 0x4E20)] }

theorem witness_CommitAndDiscard : shadowed.upd.recovery = false ∧ (shadowed.role operator).isSome = true ∧
    shadowed.commitRole operator 1 = true ∧ Tab.sorted shadowed.shadow = true ∧ regGroup (Reg.QOS_C_CFG 9 2) = 0 ∧
    shadowed.commitRole operator 8 = false ∧ shadowed.commitRole owner 63 = true ∧ shadowed.role stranger = none ∧
    ((1 : BitVec 16) ≠ 0 ∧ (1 : BitVec 16).toNat < 64) ∧ ¬ ((0 : BitVec 16) ≠ 0 ∧ (0 : BitVec 16).toNat < 64) ∧
    ¬ ((64 : BitVec 16) ≠ 0 ∧ (64 : BitVec 16).toNat < 64) ∧ shadowed.commitRole owner 64 = true := by decide +kernel

theorem witness_CommitAndDiscard_judge : ((run .service).commitJudge ((run .service).withShadows 4) 4).1 = .ok ∧
    (shadowed.commitJudge (shadowed.withShadows 1) 1).1 ≠ .ok := by decide +kernel

theorem witness_RegisterWrites :
    (let s := { latent 0 0 0 with cfg := { (latent 0 0 0).cfg with runtime := 0x3FF } }
     s.upd.recovery = false ∧ s.role owner = some .owner ∧ s.role stranger = none ∧
     [Reg.QOS_INFORCE, Reg.VXU_BIND 3, Reg.CAD_DFIRST].all (fun a =>
       (match regRow? a with | some w => w.width == 4 && w.elem a == a | none => false) && a % 4 == 0 &&
         (s.writeCommand owner a 1).isNone && !(decide (0xA1000 ≤ a) && decide (a < 0xA1018))) = true ∧
     (regRow? Reg.QOS_INFORCE).map (·.writable) = some 0 ∧
     ((regRow? (Reg.VXU_BIND 3)).map (·.rws)).getD 0 ≠ 0 ∧ ((regRow? (Reg.VXU_BIND 3)).map (·.writable)).getD 0 ≠ 0 ∧
     bitOf s.cfg.runtime (runtimeBit (Reg.VXU_BIND 3)) = true ∧ s.plainStatus (Reg.VXU_BIND 3) 1 = .ok ∧
     (regRow? Reg.CAD_DFIRST).map (·.rws) = some 0 ∧ ((regRow? Reg.CAD_DFIRST).map (·.writable)).getD 0 ≠ 0 ∧
     s.plainStatus Reg.CAD_DFIRST 1 = .ok ∧ 0xA0221 % 2 ^ 2 ≠ 0) := by decide +kernel

theorem witness_RegisterWrites_rest :
    ((run .service).writeCommand owner Reg.GLB_COMMIT 1).isSome = true ∧ regRow? 0xFFFFF0 = none ∧
    ((run .service).writeCommand owner 0xFFFFF0 1).isNone = true ∧
    bitOf (run .service).cfg.runtime (runtimeBit (Reg.VXU_BIND 3)) = false ∧
    (match row64 (Reg.VXU_START_AT 3) with
      | some w => w.writable != 0 && w.rws == 0 && (run .service).plainStatus (Reg.VXU_START_AT 3) 5 == .ok && Reg.VXU_START_AT 3 % 8 == 0 &&
          decide (0xA1018 ≤ Reg.VXU_START_AT 3)
      | none => false) = true ∧
    (run .service).role observer = some .observer ∧ Reg.CAD_DFIRST / 4 * 4 ≠ Reg.GLB_COMMIT ∧ Reg.CAD_DFIRST / 4 * 4 ≠ Reg.FLT_CMD ∧
    (Reg.CAD_DFIRST + 2) % 2 ^ 2 ≠ 0 ∧ (Reg.CAD_DFIRST + 1) % 2 ^ 0 = 0 ∧ Reg.CAD_DFIRST % 2 ^ 2 = 0 := by decide +kernel

/-- A lane of chain 1 given a state, on the lanes of the example, 2 s after the clock's start. -/
def laneAt (x : Lane) : State := { linked with gtime := 625000000, lanes := [(0, x), (1, { state := .active, ready := true, cwLock := true, blkLock := true })] }

theorem witness_LaneBringUp :
    (laneAt { state := .detect }).laneIn 0 .detect = true ∧ ((laneAt { state := .detect }).lane 0).backoff = false ∧
    ((laneAt { state := .detect }).lane 0).signalSent = false ∧ (laneAt { state := .train, rxReady := 8, txReady := 8 }).laneIn 0 .train = true ∧
    ((laneAt { state := .train }).lane 0).tTimer + 312500000 ≤ (laneAt { state := .train }).now ∧
    (laneAt { state := .train, tTimer := 625000000 }).now < ((laneAt { state := .train, tTimer := 625000000 }).lane 0).tTimer + 312500 ∧
    capxValid (capxBody 1 0) = true ∧ capxMatches { partner := 0x1648 } 1 0 (capxBody 1 0) = true ∧
    capxMatches { partner := 7 } 1 0 (capxBody 1 0) = false ∧
    bitsOf (0x1000#16).toNat 15 8 = 0x10 ∧ bitsOf (0x0001#16).toNat 15 8 = 0 ∧ (0#3).getLsbD 1 = false ∧
    (laneAt { state := .lock, cwLock := true, blkLock := true }).laneIn 0 .lock = true ∧
    (laneAt { state := .lock }).chainOf 0 = some 1 ∧ (laneAt { state := .capx }).laneIn 0 .capx = true ∧
    (laneAt { state := .standby }).laneIn 0 .standby = true ∧ (laneAt { state := .standby }).skewOf 1 0 ≤ 125 ∧
    ((laneAt { state := .detect, backoff := true }).lane 0).backoff = true := by decide +kernel

/-- The times of a bring-up at their bounds, the frames of the end of training, and what its events do nothing for. -/
theorem witness_LaneBringUp_bounds :
    ((laneAt { state := .detect, signalSent := true }).lane 0).signalSent = true ∧
    ((laneAt { state := .train, frames := some 16 }).lane 0).frames.getD 0 = 16 ∧ ((laneAt { state := .train }).lane 0).frames.getD 0 = 0 ∧
    (∀ n, ((laneAt { state := .train }).lane 0).inj ≠ some (1, n)) ∧
    (let n := (laneAt {}).now
     (n - 93750001) + 93750000 < n ∧ (n - 625001) + 625000 < n ∧ (n - 312501) + 312500 < n ∧ (n - 312500) + 312500 ≤ n ∧
       (n - 3125000) + 3125000 ≤ n ∧ (n - 312500000) + 312500000 ≤ n ∧ n < (n - 312499) + 312500) ∧
    ((laneAt { state := .lock }).lane 0).cwLock = false ∧ ((laneAt { state := .standby, ready := true }).lane 0).ready = true ∧
    (let s := laneAt { state := .standby, markAt := some 1126 }
     (s.setLane 1 { s.lane 1 with markAt := some 1000 }).skewOf 1 0 = 126) ∧
    ((laneAt { failStreak := 16, backoff := true }).lane 0).failStreak = 16 ∧ ((laneAt {}).lane 0).backoff = false ∧
    (laneAt { state := .train }).laneIn 0 .detect = false ∧ (laneAt { state := .standby }).chainOf 0 = some 1 ∧
    ((laneAt {}).setChainL 1 { (laneAt {}).chainL 1 with state := .off } |>.chainL 1).state = .off := by
  refine ⟨?_, ?_, ?_, fun n h => ?_, ?_, ?_, ?_, ?_, ?_, ?_, ?_, ?_, ?_⟩
  case refine_4 => cases h
  all_goals decide +kernel

/-- A chain in a state of formation or rejoin, its lanes as in the example, with lane L3 (bit 3) ready or all four. -/
def chainAt (x : ChainLnk) (ready : List Nat) : State :=
  { linked with
    lanes := (List.range 4).map (fun l => (l, { state := if ready.contains l then .standby else .active, ready := true, cwLock := true,
                                                blkLock := true }))
    chains := [(1, { x with en := true, minw := 2, lanes := 0xF })] }

theorem witness_ChainExchange :
    (chainAt {} [0, 1, 2, 3]).mayForm 1 = true ∧ ((chainAt {} [0, 1, 2, 3]).chainL 1).state = .off ∧
    (chainAt { windowOver := true } [0, 1]).mayForm 1 = true ∧
    ((chainAt { window := true } [3]).chainL 1).windowAt + 31250000 ≤ { chainAt { window := true } [3] with gtime := 31250000 }.now ∧
    popcount 16 ((chainAt { window := true } [3]).readyMask 1) < ((chainAt { window := true } [3]).chainL 1).minw ∧
    (chainAt { state := .up, txMask := 7, rxMask := 7 } [3]).mayRejoin 1 = true ∧
    ((chainAt { state := .up, txMask := 7, rejoin := .announced 15 false } [3]).chainL 1).rejoin = .announced 15 false ∧
    15 &&& 15 = 15 ∧ 15 &&& 7 = 7 ∧ 31 &&& 15 ≠ 31 ∧
    epochValid 2 (epochBody 2 15 1 4096) = true ∧ bitsOf (epochBody 2 15 1 4096) 55 40 = 15 ∧ epochValid 2 (epochBody 2 15 1 4096 + 1) = false ∧
    epochValid 3 (epochBody 3 15 1 4096) = true ∧ (chainAt { tSent := 5 } []).now < ((chainAt { tSent := 5 } []).chainL 1).tSent + 3125 ∧
    ((chainAt { tSent := 5 } []).chainL 1).tSent + 3125 ≤ { chainAt { tSent := 5 } [] with gtime := 5000 }.now ∧
    ((chainAt { rejoin := .announced 15 true } [0, 1, 2, 3]).chainL 1).minw ≤ popcount 16 3 ∧
    ((chainAt { rejoin := .committed 15 7 false false } [3]).chainL 1).rejoin = .committed 15 7 false false ∧
    ((chainAt {} []).chainL 1).minw ≤ popcount 16 7 ∧
    ((chainAt { state := .forming, rejoin := .committed 15 0 true true, txSwitch := some ⟨15, 0, 4096, false, []⟩ } []).chainL 1).rxSwitch = none ∧
    (chainAt {} []).lanesRun = true ∧ (linked.chainL 2).en = false ∧ (chainAt { state := .up, txMask := 15 } []).mayRejoin 1 = false ∧
    ((chainAt {} []).chainL 1).rejoin = .none ∧ ((chainAt {} []).chainL 1).txSwitch = none ∧ epochValid 3 (epochBody 3 15 1 4096 + 1) = false := by
  decide +kernel

/-- An ACK that names too much, the mask there was, or too few lanes for a formation; the times of an exchange; and the masks it ends on. -/
theorem witness_ChainExchange_ends :
    (31 &&& 15 ≠ 31 ∧ 8 &&& 7 ≠ 7 ∧ popcount 16 1 < 2 ∧ 2 ≤ popcount 16 15 ∧ 15 ≠ 7) ∧
    (chainAt { tSent := 5 } []).now ≤ ((chainAt { tSent := 5 } []).chainL 1).tSent + 3125 ∧
    (let s := { chainAt { state := .up, txMask := 7, txSwitch := some ⟨15, 1, 9, false, []⟩, rejoin := .committed 15 7 false false } [3] with gtime := 3126 }
     (s.chainL 1).tSent + 3125 < s.now ∧ (s.chainL 1).minw ≤ popcount 16 (7 &&& (s.chainL 1).txTarget) ∧
       (∀ p ∈ (s.chainL 1).rxSwitch, p.drop = false)) ∧
    (let x := { (linked.chainL 1) with txSwitch := some ⟨1, 1, 9, true, []⟩, rxSwitch := some ⟨7, 1, 9, true, []⟩ }
     popcount 16 (7 &&& x.txTarget) < x.minw ∧ (∀ p ∈ x.rxSwitch, p.drop = true)) := by decide +kernel


theorem witness_LossAndCodewords :
    linked.lanesRun = true ∧ (linked.chainL 1).state = .up ∧ (linked.chainL 1).rejoin = .none ∧ (linked.lane 3).state = .active ∧
    bitOf (linked.chainL 1).txTarget ((linked.chainL 1).laneList.idxOf 3) = true ∧
    (linked.chainL 1).laneList.filter (fun m => bitOf 8 m && (LossCond.marker != .skew || linked.skewLost m)) = [3] ∧
    (let s := { linked with gtime := 31250 }.setLane 3 { linked.lane 3 with skewAt := some 0 }
     (s.chainL 1).laneList.filter (fun m => bitOf 0xF m && (LossCond.skew != .skew || s.skewLost m)) = [3]) ∧
    linked.maskWithout 1 [3] = 7 ∧ (linked.chainL 1).minw ≤ popcount 16 (linked.maskWithout 1 [3]) ∧
    popcount 16 (linked.maskWithout 1 [1, 2, 3]) < (linked.chainL 1).minw ∧
    (linked.chainL 1).running = true ∧ (linked.chainL 1).txSwitch = none ∧ epochValid 0 (epochBody 0 15 1 4096) = true ∧
    epochValid 0 (epochBody 1 15 1 4096) = false ∧ (linked.chainL 2).running = false ∧ linked.chainOf 0 = some 1 ∧
    linked.chainOf 9 = none ∧ (linked.lane 0).locked = true ∧ (linked.lane 9).locked = false ∧
    (linked.chainL 1).laneList = [0, 1, 2, 3] ∧ (linked.chainL 2).laneList = [] := by decide +kernel

/-- DROPs that name all transmitting lanes, and three of them, with and without a DROP of the stack's own pending. -/
theorem witness_LossAndCodewords_drops :
    (let both (x : ChainLnk) (b : Nat) := x.maskBy (fun m => bitOf x.txTarget (x.laneList.idxOf m) && bitOf (bitsOf b 55 40) (x.laneList.idxOf m))
     let x := linked.chainL 1
     let own := { x with txSwitch := some ⟨14, 1, 9, true, []⟩ }
     both x (epochBody 0 15 1 4096) = x.txMask ∧ both x (epochBody 0 7 1 4096) ≠ x.txMask ∧
       x.minw ≤ popcount 16 (both x (epochBody 0 7 1 4096)) ∧ x.minw ≤ popcount 16 (both own (epochBody 0 7 1 4096)) ∧
       own.txSwitch = some ⟨14, 1, 9, true, []⟩) := by decide +kernel

/-- The codeword of zeros, and one with 16 symbols wrong. -/
def codeword (bad : Nat) : List (BitVec 10) := List.replicate (544 - bad) 0 ++ List.replicate bad 1

theorem witness_LossAndCodewords_codeword :
    (codeword 0).length = 544 ∧ (codeword 16).length = 544 ∧ ((codeword 0).drop 1).length ≠ 544 ∧
    (fecReceive 0 (codeword 0)).2.1 = some 0 ∧ (fecReceive 0 (codeword 16)).2.1 = none := by
  decide +kernel

theorem witness_LossAndCodewords_loss :
    (let d := fecReceive 0 (codeword 0)
     ((linked.codeword 1 0 d.1 d.2.1 d.2.2 0).codewordLoss 1 0 (linked.lane 0).cwLock).1 = []) ∧
    (let s := linked.setLane 0 { linked.lane 0 with uncRun := 3 }
     ((s.codeword 1 0 0 none [] 0).codewordLoss 1 0 (s.lane 0).cwLock).1 ≠ []) ∧
    (∃ m ∈ linked.rxLanes 1, m ≠ 0 ∧ (linked.lane m).rxq = []) ∧
    (linked.setChainL 1 { linked.chainL 1 with rxMask := 0 } |>.chainL 1).rxMask = 0 ∧ (linked.chainL 1).rxSwitch = none := by decide +kernel

theorem witness_LaneCommands :
    linked.upd.recovery = false ∧ retrainStatus owner 0 (laneAt { state := .train }) = .ok ∧
    ((laneAt { state := .train }).lane 0).state ≠ .off ∧ ((laneAt { state := .train }).lane 0).state ≠ .test ∧
    (linked.chainL 1).rejoin = .none ∧ linked.chainOf 0 = some 1 ∧ linked.chainOf 9 = none ∧
    retrainStatus owner 9 linked = .ok ∧ (linked.lane 9).state = .off ∧
    prbsStatus owner 9 0x80000001#32 linked = .ok ∧ wget 0x80000001#32 Fld.LNK_L_PRBS_CFG_TX_EN = 1 ∧
    prbsStatus owner 9 0#32 { linked with lanes := [(9, { state := .test })] } = .ok ∧
    injectBitStatus owner 9 1 { linked with lanes := [(9, { state := .test })] } = .ok ∧
    injectSymbolStatus owner 0 1 linked = .ok ∧ injectSymbolStatus owner 0 15 linked = .ok ∧ linked.injectable 0 = true ∧
    injectSyncStatus owner 0 (laneAt { state := .train }) = .ok ∧ (laneAt { state := .train }).injectable 0 = false ∧
    injectSymbolStatus owner 0 1 (laneAt { state := .train }) = .ok := by decide +kernel

/-- A RETRAIN of a lane in an exchange; an injection of LOL on a lane of no chain, of one in LOCK, and of an ACTIVE one. -/
theorem witness_LaneCommands_lol :
    (let s := chainAt { state := .up, txMask := 7, rxMask := 7, rejoin := .announced 15 false } [3]
     retrainStatus owner 3 s = .ok ∧ s.chainOf 3 = some 1 ∧ bitOf 15 ((s.chainL 1).laneList.idxOf 3) = true) ∧
    (let s := chainAt { state := .up, txMask := 7, rxMask := 7, txSwitch := some ⟨15, 1, 9, false, []⟩
                        rejoin := .committed 15 7 false false } [3]
     retrainStatus owner 3 s = .ok ∧ bitOf (s.chainL 1).txTarget ((s.chainL 1).laneList.idxOf 3) = true ∧
       (s.chainL 1).minw ≤ popcount 16 (s.maskWithout 1 [3])) ∧
    injectLolStatus owner 9 linked = .ok ∧ injectLolStatus owner 3 linked = .ok ∧ (linked.lane 3).state = .active ∧
    (linked.chainL 1).state = .up ∧ bitOf (linked.chainL 1).txTarget ((linked.chainL 1).laneList.idxOf 3) = true ∧
    (let s := chainAt { state := .up, txMask := 7, rxMask := 7 } [3]
     injectLolStatus owner 3 s = .ok ∧ s.chainOf 3 = some 1 ∧ (s.lane 3).state = .standby ∧
       bitOf (s.chainL 1).txTarget ((s.chainL 1).laneList.idxOf 3) = false) := by decide +kernel

theorem witness_LaneCommands_refused : linked.role operator = some .operator ∧ linked.role owner = some .owner ∧
    (run .safe).role owner = some .owner ∧ (run .safe).mode ≠ .service ∧ (run .safe).mode ≠ .maintain ∧ linked.mode = .service ∧
    retrainStatus owner 0 linked = .eBusy ∧ (linked.lane 0).state = .active ∧
    ((laneAt { state := .test, inj := some (3, 0) }).lane 0).inj.isSome = true ∧ ((laneAt { state := .test, inj := some (3, 0) }).lane 0).state = .test := by
  decide +kernel

/-- A BRD of `n` bytes of a partition at an offset, with RID 9 (R234). -/
def brdBody (part off n : Nat) : List Byte := leBytes 4 9 ++ leBytes 4 part ++ leBytes 8 ((n / 8 - 1) * 2 ^ 37 + off)

/-- A BWR of a partition at an offset, with RID 9 (R235). -/
def bwrBody (part off : Nat) (l : List Byte) : List Byte := leBytes 4 9 ++ leBytes 4 part ++ leBytes 8 off ++ l

/-- A CTL request of one READ, of GLB_MODE (R238). -/
def ctlRead : List Byte :=
  List.replicate 4 0#8 ++ [1] ++ List.replicate 11 0 ++ [1, 2, 0, 0] ++ leBytes 4 Reg.GLB_MODE ++ List.replicate 8 0

/-- A packet of label 9 (class 9) with LSEQ 0; CREDIT, CTL and ALERT have label 0. -/
def pkt (type : Nat) (b : List Byte) : Packet := ⟨0, type, if type = 3 ∨ type = 4 then 9 else 0, false, b, []⟩

/-- The same behind the session prefix of a SID and a SCNT, under the tag of a key (R237). -/
def tagged (sid scnt : Nat) (key : BitVec 512) (p : Packet) : Packet :=
  let q : Packet := { p with tagged := true, payload := leBytes 2 sid ++ List.replicate 6 0#8 ++ leBytes 8 scnt ++ p.payload }
  { q with tag := tagOf key q }

/-- A chain that has sent n packets not yet acknowledged. -/
def unacked (n streak : Nat) : State :=
  { linked with pkt := [(1, { (linked.chainP 1) with txNext := n, streak := streak, replay := (List.range n).map (fun i => { pkt 6 [] with lseq := i }) })] }

theorem witness_PacketsAreKept : linked.chainUp 1 = true ∧ linked.chainUp 2 = false ∧ ((unacked 3 0).chainP 1).txNext < 65536 ∧
    ((unacked 3 0).chainP 1).replay.length ≤ 4096 ∧ ((unacked 3 0).chainP 1).rbufUsed ≤ (unacked 3 0).rbufSize 1 ∧
    ((unacked 3 0).chainP 1).replay.length = 3 ∧ (((unacked 3 0).sendPacket 1 (pkt 6 [])).chainP 1).replay.length = 4 := by
  decide +kernel

/-- A FAIL packet of one record. -/
def failPkt : Packet := ⟨0, 2, 9, false, plain 0, []⟩

theorem witness_PacketReceiver :
    linked.takesBlocks 2 = false ∧ linked.takesBlocks 1 = true ∧ (linked.chainP 1).rxAsm = [] ∧ packetFits failPkt = true ∧
    (packetBlocks failPkt).length = 6 ∧ linked.judgePacket 1 { failPkt with lseq := 1 } false = .linkError ∧
    linked.judgePacket 1 { failPkt with lseq := 32767 } false = .linkError ∧
    linked.judgePacket 1 { failPkt with lseq := 32768 } false = .duplicate ∧
    linked.judgePacket 1 { failPkt with lseq := 65535 } false = .duplicate ∧
    { linked with pkt := [] }.judgePacket 1 failPkt false = .overrun ∧
    linked.judgePacket 1 { failPkt with payload := [] } false = .contentError ∧ packetFits { failPkt with payload := [] } = true ∧
    linked.judgePacket 1 failPkt false = .accepted ∧ (linked.chainP 1).nakE = none ∧ linked.cadPart.isSome = true ∧
    linked.ackRoom 1 = false ∧ { linked with gtime := 13 }.ackRoom 1 = true ∧ { linked with gtime := 12 }.ackRoom 1 = false ∧
    (let s := linked.setChainP 1 { linked.chainP 1 with nakE := some (0, 0), e := 0 }
     (s.chainP 1).nakE = some ((s.chainP 1).e, 0)) ∧ 2 * ({ linked with gtime := 312 }.now - 0) < 625 ∧ ¬2 * ({ linked with gtime := 313 }.now - 0) < 625 := by decide +kernel

/-- The chain of the session of the stack, for tagged packets: the Operator's, on chain 1. -/
def talking : State := { linked with sec := { linked.sec with sessions := [(1, { session 2 .operator with path := 1 })] } }

theorem witness_PartnerRequests_tagged :
    talking.sessionAt 1 2 = some (1, { session 2 .operator with path := 1 }) ∧
    [3, 4, 5].all (fun type =>
      let b := if type = 3 then brdBody 3 0 64 else if type = 4 then bwrBody 3 0 (List.replicate 64 0) else
        ctlRead
      let p := tagged 2 1 300 (pkt type b)
      talking.judgePacket 1 { p with type := type } false == .accepted && p.tagged && tagScnt p.payload == 1 &&
        tagSid p.payload == 2 && (talking.sessionAt 1 (tagSid (tagged 9 1 300 (pkt type b)).payload)).isNone &&
        decide (tagScnt (tagged 2 0 300 (pkt type b)).payload ≤ 0)) = true := by decide +kernel

/-- The operations of a tagged CTL request begin no ENROLL. -/
theorem witness_PartnerRequests_enrol :
    (let p := tagged 2 1 300 (pkt 5 ctlRead)
     let u := ((talking.acceptPacket 1 p).servingFor (some (1, session 2 .operator))).ctlServe (packetReq 1 p) true talking.sessionModes (packetBody p) 0
     u.1.sec.enrol = none) := by decide +kernel

theorem witness_PartnerRequests_tag (key : BitVec 512) (p : Packet) : tagOf key (tagged 2 1 key p) = (tagged 2 1 key p).tag := rfl

theorem witness_PartnerRequests :
    linked.judgePacket 1 (pkt 0 (leBytes 3 4096 ++ [9] ++ leBytes 3 0 ++ [0xFF])) false = .accepted ∧
    linked.judgePacket 1 (pkt 3 (brdBody 3 0 560)) false = .accepted ∧ (pkt 3 []).tagged = false ∧
    Tab.look linked.cfg.parts 3 = some ⟨4, 12, 0xC0, [3]⟩ ∧ linked.accessStatus ⟨.chain 1, 0⟩ false 9 3 0 560 = .ok ∧
    linked.judgePacket 1 (pkt 4 (bwrBody 3 64 (List.replicate 64 0x5A))) false = .accepted ∧
    (bwrBody 3 64 (List.replicate 64 0x5A)).length = 80 ∧ linked.accessStatus ⟨.chain 1, 0⟩ true 9 3 64 64 = .ok ∧
    (match linked.place ⟨4, 12, 0xC0, [3]⟩ 64 with | .at c a => !linked.cwBusy c (cwAddr a) && decide ((linked.chan c).wq.length < 64) && !linked.injArmed c (cwAddr a) | _ => false) = true ∧
    linked.accessStatus ⟨.chain 1, 0⟩ true 9 3 (2 ^ 37 - 8) 8 = .eRange ∧ linked.accessStatus ⟨.chain 1, 0⟩ true 9 1 0 8 = .eAccess ∧
    linked.judgePacket 1 (pkt 4 (bwrBody 3 (2 ^ 37 - 8) (List.replicate 8 0))) false = .accepted := by decide +kernel

theorem witness_PartnerRequests_ctl :
    (let p := pkt 5 (ctlRead)
     let s1 := linked.acceptPacket 1 p
     let y := s1.chainP 1
     linked.judgePacket 1 p false = .accepted ∧
     ((s1.setChainP 1 { y with ctlOwed := y.ctlOwed ++ [pktCost p] }).ctlServe ⟨.chain 1, 0⟩ false linked.sessionModes p.payload 0).1.chainUp 1
       = true) := by decide +kernel

/-- Chain 1 as the alert path, with one alert. -/
def alerting : State :=
  { reg Reg.GLB_GCFG 0x20000 linked with pkt := [(1, { (linked.chainP 1) with alerts := List.replicate 19 ⟨1, 1, 0, 0, 0, 0, 0, 0⟩ })] }

theorem witness_PartnerRequests_alert : alerting.alertsGo 1 = true ∧ alerting.alertRoom 1 = true ∧ (alerting.chainP 1).alerts ≠ [] ∧
    (alerting.setChainP 1 { alerting.chainP 1 with granted := [] }).alertRoom 1 = false ∧ alerting.alertsGo 2 = false ∧
    (linked.chainP 1).alerts = [] := by decide +kernel

theorem witness_AckAndReplay :
    (unacked 3 16).chainUp 1 = true ∧ ((unacked 3 0).chainP 1).index 0 < ((unacked 3 0).chainP 1).replay.length ∧
    ((unacked 3 0).chainP 1).waiting = [] ∧ ((unacked 3 0).chainP 1).index 65535 = 65535 ∧
    ((unacked 3 0).chainP 1).replay.length ≤ ((unacked 3 0).chainP 1).index 3 ∧ ((unacked 3 0).chainP 1).index 3 ≠ 65535 ∧
    3 = ((unacked 3 0).chainP 1).txNext ∧ ((unacked 3 0).chainP 1).streak < 16 ∧ 16 ≤ ((unacked 3 16).chainP 1).streak ∧
    ((unacked 3 0).chainP 1).replay ≠ [] ∧ ((unacked 3 0).chainP 1).sentAt.headD 0 + 625 < { unacked 3 0 with gtime := 626 }.now ∧
    { unacked 3 0 with gtime := 625 }.now ≤ ((unacked 3 0).chainP 1).sentAt.headD 0 + 625 ∧ (linked.chainP 1).replay = [] ∧
    (linked.chainP 1).waiting = [] ∧ linked.chainUp 2 = false ∧ 4 ≠ ((unacked 3 0).chainP 1).txNext := by decide +kernel

/-- ACK and NAK blocks of a number carry it under a right CRC; with another CRC they do not hold. -/
theorem witness_AckAndReplay_blocks :
    [0, 1, 3, 65535].all (fun n => bitsOf (ackBlock n).body 55 40 == n && crcHolds 0x91 (ackBlock n).body &&
      bitsOf (nakBlock n).body 55 40 == n && crcHolds 0x92 (nakBlock n).body && !crcHolds 0x92 (ackBlock n).body &&
      !crcHolds 0x91 (nakBlock n).body) = true := by decide +kernel

/-- Whether some codeword of the example's BRD has to wait. -/
def brdWaits (s : State) : Bool :=
  let j : BrdJob := ⟨1, pkt 3 (brdBody 3 0 64), none, 3, true, []⟩
  (s.gather j ⟨4, 12, 0xC0, [3]⟩ 0 9 0 0 1).2.any (fun w => w == .waits)

theorem witness_PartnerRequests_waits : brdWaits (linked.store (memKey 6 0) 7 []) = false ∧
    brdWaits (linked.setChan 6 { (linked.chan 6) with held := true }) = true := by decide +kernel

theorem witness_RolesAreRequired :
    hostRow (.vxuStart stranger (.unit 3)) = some (stranger, false) ∧ (run .safe).role stranger = none ∧
    (run .service).role observer = some .observer ∧ (run .service).role ⟨.chain 0, 4⟩ = some .enrolment ∧
    hostRow (.modeReqMaintain operator) = some (operator, true) ∧ (run .service).role operator = some .operator := by decide +kernel

theorem witness_FusesOnlyGrow :
    (let s := { run .service with fse := { bits := [(7, 0x10#64)], sensed := true } }
     goes (exec .enec s) = true ∧ s.fuseSet 7 4 = true ∧ s.fuseSet 7 5 = false) := by decide +kernel

/-- A private key of the tests. -/
def scalar : List Byte := [5]

/-- The stack with an owner: HOST_KEY 0x21 of an Operator, and nonces 1 and 2 outstanding on chain 0. -/
def owned : State :=
  { laidOut .service with sec := { (run .service).sec with
      lifecycle := .owned, hostKeys := [⟨0x21, .operator, p521Public scalar⟩]
      nonces := [⟨0, 1, 9⟩, ⟨0, 2, 10⟩] } }

/-- The head of an OPEN of a role for 60 s under HOST_KEY 0x21 and a nonce, with the ephemeral key of scalar 7 (R414). -/
def openHead (role nonce : Nat) : List Byte :=
  [0x21#8] ++ leBytes 1 role ++ [0, 0] ++ leBytes 4 60 ++ leBytes 32 nonce ++ p521Public [7] ++ List.replicate 3 0

/-- That OPEN with a signature. -/
def openWith (role nonce : Nat) (sig : List Byte) : List Byte := openHead role nonce ++ sig ++ List.replicate 12 0

/-- That OPEN with a signature of zeros. -/
def opening (role nonce : Nat) : List Byte := openWith role nonce (List.replicate 132 0)

/-- That OPEN signed by the key of HOST_KEY 0x21. -/
def signed (role nonce : Nat) : List Byte :=
  openWith role nonce (ecdsaSign 11 scalar (openHead role nonce ++ List.replicate 64 0))

theorem witness_OpeningSessions_nonces :
    firstStatus (owned.opChecks nobody 0x20 ++ [(!owned.opensSessions, .eState), (owned.nonceBlocked 0, .eBusy)]) = .ok ∧
    firstStatus (owned.opChecks stranger 0x20 ++ [(!owned.opensSessions, .eState), (owned.nonceBlocked 0, .eBusy)]) = .eAuth ∧
    (owned.sec.nonces.find? (fun x => x.path == 0)) = some ⟨0, 1, 9⟩ ∧ (owned.sec.nonces.filter (fun x => x.path == 0)).length ≤ 4 ∧
    9 ≤ { owned with gtime := 9 }.now ∧ owned.now < 9 ∧ (∀ x ∈ owned.sec.nonces, x.path ≠ 1) := by decide +kernel

theorem witness_OpeningSessions : owned.openEarly nobody (opening 2 1) = .ok ∧ owned.openEarly nobody [0x21] = .eRange ∧
    { owned with mode := .hold }.openEarly nobody (opening 2 1) = .eState ∧ owned.openStatus nobody (opening 2 3) = .eAuth := by
  decide +kernel

theorem witness_OpeningSessions_signed : owned.openEarly nobody (signed 2 1) = .ok ∧ owned.openStatus nobody (signed 2 1) = .ok ∧
    owned.openStatus nobody (opening 2 1) = .eAuth := by decide +kernel

/-- SEC with one operation running and eight waiting. -/
def secFull : State := { owned with sec := { owned.sec with pk := [9, 18, 27, 36, 45, 54, 63, 72, 81] } }

theorem witness_SessionOperations_full : secFull.pkFull = true ∧ owned.pkFull = false ∧ secFull.sessionModes = true := by
  decide +kernel

theorem witness_SessionOperations : owned.sessionModes = true ∧ owned.role owner = some .owner ∧
    zeros (leBytes 2 2 ++ List.replicate 14 0) 2 14 = true ∧ zeros (leBytes 2 2 ++ List.replicate 14 1) 2 14 = false ∧
    owned.role operator = some .operator ∧ owned.role stranger = none ∧ stranger.sid ≠ 0 ∧
    (Tab.look owned.sec.sessions 1) = some (session 2 .operator) ∧ (Tab.look owned.sec.sessions 5) = none ∧
    owned.now < 0 + 300 * 312500000 ∧ 0 + 300 * 312500000 ≤ { owned with gtime := 93750000000 }.now ∧ nobody.sid = 0 ∧
    (run .load).sessionModes = false ∧ (run .load).role owner = some .owner ∧ owned.upd.recovery = false ∧
    { owned with mode := .maintain }.recovering Reg.SEC_DBG_CTL ({ owned with mode := .maintain }.dbgStatus owner 0x80000001) = .ok ∧
    wget 0x80000001#32 Fld.SEC_DBG_CTL_UNLOCK = 1 ∧ owned.dbgStatus owner 0x80000001 = .eState ∧
    { owned with mode := .maintain }.dbgStatus owner 1 = .ok ∧ wget 1#32 Fld.SEC_DBG_CTL_UNLOCK = 0 := by decide +kernel

theorem witness_SessionOperations_sids : ¬owned.sidFree (leAt [2#8, 0] 0 2) ∧ owned.sidFree (leAt [9#8, 0] 0 2) := by
  constructor
  · intro h
    exact h (1, session 2 .operator) (by simp [owned, run]) rfl
  · unfold State.sidFree
    decide +kernel

/-- A stack without an owner in MAINTAIN, whose session 4 may enrol, and the ENROLL of that session. -/
def unowned : State := { run .maintain with sec := { (run .maintain).sec with lifecycle := .unowned } }
/-- The request of the enrolment session. -/
def enrolling : Req := ⟨.chain 0, 4⟩
/-- A fuse operation under way on a fresh array. -/
def fusing (o : FuseOp) : State := { unowned with fse := { unowned.fse with op := some o } }

theorem witness_FuseOperations_enrol :
    (let st (s : State) : Status := firstStatus
        [((s.role enrolling).isNone, .eAuth), (s.role enrolling != some .enrolment || s.sec.lifecycle == .owned, .eWriteOnce),
          (s.mode != .maintain, .eState), (s.slocked 1 || s.slocked 2, .eLocked), (s.pkFull || s.sec.enrol.isSome, .eBusy),
          (!(s.fuseBlank 1 && s.fuseBlank 2), .eIntegrity)]
     st unowned = .ok ∧ unowned.fse.op = none ∧ st (fusing ⟨.reinforce, []⟩) = .ok ∧ st (run .service) = .eState) := by decide +kernel

theorem witness_FuseOperations :
    fseCmdStatus owner true (run .service) = .ok ∧ fseCmdStatus owner ((run .maintain).mode == .maintain) (run .maintain) = .ok ∧
    fseCmdStatus owner true (fusing ⟨.reinforce, []⟩) = .eBusy ∧ (run .service).recovering Reg.FSE_CMD .ok = .ok ∧
    slockStatus owner 5 (run .service) = .ok ∧ wget 1#32 Fld.FSE_SLOCK_SLOCK = 1 ∧
    ((run .service).event (Reg.FSE_SLOCK 5) Fld.FSE_SLOCK_SLOCK).slocked 5 = true ∧ (run .service).fse.op = none ∧
    (5 : Nat) ∈ { run .service with fse := { slockSet := [5] } }.fse.slockSet ∧
    (let s := { run .cold with fse := {} }
     s.mode = .cold ∧ s.fse.sensed = false ∧ s.aon.resetN = true ∧ s.aon.pwrgood = true ∧ s.fuseLocked 0 = false) ∧
    ({ run .cold with fse := { bits := [(63, 1#64)] } }).fuseLocked 0 = true ∧
    (let s := { run .service with fse := { senseDue := true } }
     s.mode ≠ .cold ∧ s.mode ≠ .safe ∧ s.fse.op = none ∧ s.fse.senseDue = true) ∧ (run .service).fse.senseDue = false := by
  decide +kernel

/-- Ends of operations: bits that verify, a first bit that fails, a first step that meets a lock of either kind. -/
theorem witness_FuseOperations_end :
    (let b := 5 * 4096 + 9
     let ok : FuseResult := ⟨[], [], none, []⟩
     (fusing ⟨.repair, [.blow b]⟩).fse.op = some ⟨.repair, [.blow b]⟩ ∧ ok.fails = none ∧ b % 4096 < 4032 ∧
     unowned.slocked (b / 4096) = false ∧ unowned.fuseLocked (b / 4096) = false ∧ unowned.fuseBit b = false ∧
     (([FuseStep.blow b].foldl FuseRun.step ⟨fusing ⟨.repair, [.blow b]⟩, ok, 0, none⟩).stop.getD .ok) = .ok ∧
     (({ ok with fails := some 0 } : FuseResult).fails = some 0) ∧
     (unowned.event (Reg.FSE_SLOCK 5) Fld.FSE_SLOCK_SLOCK).slocked (FuseStep.blow b).region = true ∧
     ({ unowned with fse := { bits := [(5 * 64 + 63, 1#64)] } }).fuseLocked 5 = true) := by decide +kernel

/-- An ENROLL at its end, given as a command; a repair and a patch at their ends. -/
theorem witness_FuseOperations_done :
    (let j : EnrolJob := ⟨enrolling, (3, session 4 .enrolment), .command, []⟩
     let s := { fusing ⟨.enrol, []⟩ with sec := { unowned.sec with enrol := some j } }
     s.fse.op = some ⟨.enrol, []⟩ ∧ s.sec.enrol = some j ∧ j.via = .command ∧ s.fse.waiting = []) ∧
    (fusing ⟨.repair, []⟩).fse.op = some ⟨.repair, []⟩ ∧ (fusing ⟨.patch, []⟩).fse.op = some ⟨.patch, []⟩ ∧
    (let s := { unowned with fse := { op := some ⟨.repair, []⟩, waiting := [⟨.patch, []⟩] } }
     s.fse.waiting = ⟨.patch, []⟩ :: [] ∧ s.mode = .maintain) := by decide +kernel

theorem witness_I3cCodes : (run .safe).i3c.da = none ∧ (run .safe).aon.resetN = true ∧ (run .safe).i3cAddress = none ∧
    { run .safe with i3c := { da := some 9 } }.i3cAddress ≠ none ∧ { run .safe with i3c := { da := some 9 } }.i3c.da ≠ none ∧ 0x3B#7 ≠ 0x3A#7 := by
  decide

/-- The port with a dynamic address and an answer unread. -/
def addressed (answer : Option (List Byte)) : State := { run .safe with i3c := { da := some 9, answer := answer } }

theorem witness_I3cTransfers : (addressed none).i3cAddress ≠ none ∧ (run .safe).i3cAddress = none ∧ (addressed none).i3c.answer = none ∧ publicWord Reg.GLB_MODE = true ∧ Reg.GLB_MODE % 4 = 0 ∧
    publicWord Reg.QOS_INFORCE = false ∧ Reg.QOS_INFORCE % 4 = 0 ∧ (addressed none).role ⟨.i3c, 0⟩ = none ∧
    frameOk ([0#8] ++ leBytes 2 32 ++ ctlRead) = true ∧ leAt ([0#8] ++ leBytes 2 32 ++ ctlRead) 0 1 = 0 ∧
    frameOk ([2#8] ++ leBytes 2 32 ++ ctlRead) = false ∧ (addressed (some [0])).i3c.answer = some [0] := by decide +kernel

/-- A tagged frame of the session of the port, of a SCNT not used yet and of one used, and one of no session. -/
def porting : State := { addressed none with sec := { (run .safe).sec with sessions := [(1, { session 2 .operator with path := 16 })] } }

theorem witness_I3cTransfers_tagged :
    (let payload := leBytes 2 9 ++ List.replicate 6 0#8 ++ leBytes 8 1 ++ ctlRead
     let l := [1#8] ++ leBytes 2 payload.length ++ payload ++ List.replicate 32 0
     frameOk l = true ∧ leAt l 0 1 = 1 ∧ (porting.sessionAt 16 (tagSid (framePacket l).payload)) = none) ∧
    (porting.sessionAt 16 2).isSome = true ∧ porting.sec.enrol = none := by decide +kernel

/-- Direct READs of every form: one that spans into a word of the subset, into none, a size beyond the table, a wrong length. -/
theorem witness_I3cTransfers_reads : publicWord 0x30010 = true ∧ publicWord (0x30010 + 4) = true ∧ 0x30010 % 8 = 0 ∧
    publicWord 0x3004C = true ∧ publicWord (0x3004C + 4) = false ∧ (Reg.GLB_MODE + 1) % 4 ≠ 0 ∧ 3 < leAt (leBytes 4 Reg.GLB_MODE ++ [4#8]) 4 1 ∧
    (leBytes 4 Reg.GLB_MODE).length ≠ 5 ∧ (0x3F#8 ≠ 1#8 ∧ 0x3F#8 ≠ 5#8) := by decide +kernel

/-- A stack whose channel 0 stands so and carries the CAD partition, with records of an RT-CAPTURE class in force in an ingest queue
of 4,096 bytes, which 128 of them fill. -/
def chanFill (m : Mode) (x : Chan) (n : Nat) : State :=
  let s := withRegs [(Reg.QOS_IQ_SIZE, 1), (Reg.QOS_C_CFG 9 0, 0x200)] collecting
  { s with
    mode := m
    cfg := { s.cfg with parts := [(1, ⟨3, 12, 1, [1]⟩)] }
    dmc := { chans := [(0, x)], point := 2 }
    thm := { points := 0x3F }
    qos := { s.qos with inforce := 0x200 }
    cad := { s.cad with ingest := List.replicate n ⟨plain 5, 1⟩ } }

/-- The same, 31 % full. -/
def chanIs (m : Mode) (x : Chan) : State := chanFill m x 40

/-- What a refresh tick leaves to the channel where postponement stays as it is (R174). -/
theorem witness_RefreshRules_same (s : State) (c : Nat) (h1 : ((s.chan c).postpone && decide (s.boundFill c s.captureClasses < 25)) = false)
    (h2 : (!(s.chan c).postpone && decide (50 ≤ s.boundFill c (s.captureClasses.filter s.inForce))) = false) : s.postponeUpdate c = s := by
  simp only [State.postponeUpdate, h1, h2, Bool.false_eq_true, if_false]

theorem witness_RefreshRules :
    [({ on := true, pulled := 8 } : Chan), { on := true, owed := 7 }, { on := true, held := true, owed := 8 },
      { on := true, postpone := true, owed := 6 }, { on := true, postpone := true, owed := 7 }, { on := true, owed := 1 }].all (fun x =>
        let s := chanIs .service x
        (s.chan 0).on && !(s.chan 0).sr && (s.chan 0).width != .retired && !s.inTransit &&
          !((s.chan 0).postpone && decide (s.boundFill 0 s.captureClasses < 25)) &&
          !(!(s.chan 0).postpone && decide (50 ≤ s.boundFill 0 (s.captureClasses.filter s.inForce)))) = true := by decide +kernel

/-- Postponement at its bounds, 64 and 31 records of the queue's 128; a row open; a request of level 3 that waits. -/
theorem witness_RefreshRules_bounds :
    50 ≤ (chanFill .service { on := true } 64).boundFill 0 ((chanFill .service {} 64).captureClasses.filter (chanFill .service {} 64).inForce) ∧
    (chanFill .service { on := true, postpone := true } 31).boundFill 0 (chanFill .service {} 31).captureClasses < 25 ∧
    (let x : Chan := { on := true, pulled := 7, openRows := [(3, 7)] }
     (chanIs .service x).inTransit = false ∧ x.held = false ∧ x.waiting.any (fun r => decide (((chanIs .service x).reqBid r).level ≤ 3)) = false ∧
       Tab.look x.openRows 3 = some 7) ∧
    ((chanIs .service { sr := true }).chan 0).sr = true ∧ Tab.look ((chanIs .service {}).chan 0).openRows 3 = none := by decide +kernel

/-- Channel 0 ready, with codeword 0x40 written and an error stored there. -/
def written (e : SymErr) (x : Chan) : State :=
  { chanIs .service { x with on := true } with
    mem := (List.range 64).map (fun i => (64 + i, 0x5A#8)), errs := if e = [] then [] else [(64, e)] }

/-- A merge entry of codeword 0x40 for class 9, with byte 0 valid. -/
def entry40 : MergeEntry := { addr := 0x40, data := 5, valid := 1, cls := 9, charged := 1 }

/-- A write of class 9 that waits for a codeword. -/
def waitingWrite (a : Nat) : DmcReq := ⟨0, a, 9, true, 0, .write 0 1 0, some 0⟩

/-- A ROW leg on row 0, whose bank holds codeword 0x40. -/
def tested (s : State) : State := { s with bst := { s.bst with running := [⟨legBlock 1 0 0, true, none, 0⟩] } }

theorem witness_CodewordAccess :
    cwValid (0x40#32).toNat = true ∧ cwValid (0xBFFFFFC0#32).toNat = true ∧ cwValid 0xC0000000 = false ∧ cwValid 0x41 = false ∧
    errsValid noErrs = true ∧ (written [] {}).chanReady 0 = true ∧ (chanIs .service {}).chanReady 0 = false ∧
    (written [] {}).cwBusy 0 0x40 = false ∧ (written [] {}).injArmed 0 0x40 = false ∧ ((written [] {}).chan 0).mergeOf 0x40 = none ∧
    ((written [] {}).chan 0).wq.length < 64 ∧ ((written [] { merge := List.replicate 766 { entry40 with addr := 0 } }).chan 0).merge.length < 767 ∧
    (∀ i < 64, Tab.look (written [] {}).mem (64 + i) ≠ none) ∧ (written [] {}).storedErr 64 = [] ∧
    (written poisonErr {}).storedErr 64 = poisonErr ∧ ((written [] {}).chan 0).queued 0x40 0 = none := by decide +kernel

/-- A write in the queue that answers a read; a leg that a real-time request ends; requests that wait. -/
theorem witness_CodewordAccess_waits :
    (let x : Chan := { wq := [⟨0, 0x40, 9, true, 0, .write 5 allBytes 64, some 0⟩] }
     ((written [] x).chan 0).queued 0x40 1 = some 5 ∧ (written [] x).bankLeg 0 0x40 = none) ∧
    (tested (written [] {})).bankLeg 0 0x40 = some ⟨legBlock 1 0 0, true, none, 0⟩ ∧
    (let s := reg (Reg.QOS_C_CFG 1 0) 0x101 (tested (written [] {}))
     s.realTime 1 0 (s.charge 1 64).2 = true ∧ s.realTime 7 0 (s.charge 7 64).2 = false) ∧
    (let s := written [] { held := true, wq := [waitingWrite 0x40] }
     s.cwBusy 0 0x40 = true ∧ (s.chan 0).queued 0x40 0 = none ∧ (s.chan 0).openWrite 0x40 = some (waitingWrite 0x40) ∧
       (s.chan 0).openWrite 0x80 = none ∧ s.cwBusy 0 0x80 = true) ∧
    (({ merge := List.replicate 896 { entry40 with addr := 0 } } : Chan).mergeFull 0x40 1 = true) ∧
    64 ≤ ({ wq := List.replicate 64 (waitingWrite 0x80) } : Chan).wq.length := by decide +kernel

theorem witness_CodewordAccess_merge :
    (let s := { written [] { merge := [entry40] } with gtime := 625 }
     (s.chan 0).mergeOf 0x40 = some entry40 ∧ entry40.t + 625 ≤ s.now ∧ (s.chan 0).held = false ∧ s.bankLeg 0 0x40 = none ∧
       { s with gtime := 624 }.now < entry40.t + 625) ∧
    ((written [] { merge := [entry40], held := true }).chan 0).held = true ∧ (tested (written [] {})).bankLeg 0 0x40 ≠ none := by
  decide +kernel

/-- A request that finds no ROW leg on its bank ends none. -/
theorem witness_CodewordAccess_same (s : State) (c a : Nat) (h : s.bankLeg c a = none) : s.preemptBank c a = s := by
  simp only [State.preemptBank, h]

theorem witness_ReplayAndPoints :
    (let x : Chan := { on := true, retry := [⟨3, 0, 0, 0, [], [], [], none⟩, ⟨2, 0, 0, 7, [], [], [], none⟩, ⟨1, 0, 0, 0, [], [], [], none⟩]
                       issued := 3, refused := some (0, 2) }
     let s := chanIs .service x
     (s.chan 0).retry.reverse[2]? = some ⟨3, 0, 0, 0, [], [], [], none⟩ ∧ s.inWindow ⟨3, 0, 0, 0, [], [], [], none⟩ = true ∧
     { s with gtime := 100 }.inWindow ⟨3, 0, 0, 0, [], [], [], none⟩ = false ∧ (s.chan 0).refused = some (0, 2) ∧ (s.chan 0).issued - 1 - 2 = 0 ∧
     ((s.chan 0).issued - 1 - 1) ≠ 0 ∧ (s.chan 0).retry.length ≤ 3 ∧ (s.chan 0).sr = false) ∧
    (let s := chanIs .service { on := true, held := true }
     (s.chan 0).held = true ∧ (s.chan 0).waiting = [] ∧ (s.chan 0).owed = 0 ∧ (s.chan 0).merge.any (fun e => e.due) = false) ∧
    ((chanIs .service {}).chan 0).held = false := by decide +kernel

/-- A transit due, 1 ms after the last one and a tick before; a transit under way, in its first and its last step; DMC_FREQ_REQ. -/
theorem witness_ReplayAndPoints_points :
    (let s := { chanIs .service {} with gtime := 312500, dmc := { due := some 3, tEnd := some 0 } }
     s.dmc.due = some 3 ∧ s.dmc.tEnd = some 0 ∧ ¬s.now < 0 + 312500 ∧ s.trans = none ∧ s.mode = .service ∧ s.inTransit = false ∧
       { s with gtime := 312499 }.now < 0 + 312500) ∧
    (let m : Transit := ⟨3, 0, 5, ⟨[], []⟩, 1⟩
     let s := { chanIs .service {} with gtime := 5, dmc := { move := some m } }
     s.dmc.move = some m ∧ m.step = 1 ∧ s.inTransit = true ∧ { m with step := 7 }.over_ ≤ s.now ∧ m.point ≠ s.dmc.point) ∧
    (chanIs .hold {}).recovering Reg.DMC_FREQ_REQ (freqReqStatus operator 4 (chanIs .hold {})) = .ok ∧
    freqReqStatus operator 4 (chanIs .service {}) = .eState ∧ (chanIs .service {}).dmc.due = none := by decide +kernel

theorem witness_SingleErrorsAreLocated : 0 < 38 ∧ 37 < 38 ∧ (1#16 : Sym) ≠ 0 := by decide

/-- The row that SCRUB_ROW takes next, written, on a channel in SERVICE, with an error in its first codeword. -/
def scrubbing (ptr : Nat) (e : SymErr) : State :=
  { reg (Reg.ECC_C_SCRUB_PTR 0) ptr (chanIs .service { on := true }) with
    mem := (List.range 2048).map (fun i => (2048 * ptr + i, 0#8)), errs := if e = [] then [] else [(2048 * ptr, e)] }

theorem witness_IntegrityEvents_scrub :
    [0, 1572862, 1572863].all (fun ptr => (scrubbing ptr []).rdN (Reg.ECC_C_SCRUB_PTR 0) == ptr &&
      (List.range 32).all (fun i => !(scrubbing ptr []).unwritten (memKey 0 (rowAddr ptr + 64 * i)) &&
        (scrubbing ptr []).storedErr (memKey 0 (rowAddr ptr + 64 * i)) == [])) = true ∧
    (scrubbing 0 []).chanReady 0 = true ∧ ((scrubbing 0 []).chan 0).held = false ∧ ((scrubbing 0 []).chan 0).width ≠ .retired ∧
    (scrubbing 0 []).bankLeg 0 (rowAddr 0) = none ∧ (scrubbing 0 []).mode = .service ∧ (chanIs .safe {}).mode ≠ .service := by decide +kernel

theorem witness_IntegrityEvents_mends :
    (let s := scrubbing 0 [(3, 1)]
     let o := rowAddr 0
     (∀ j < 64, Tab.look s.mem (memKey 0 o + j) ≠ none) ∧ (s.chan 0).pending o = false ∧ s.injArmed 0 o = false ∧
       (decodeErr (errAdd (s.storedErr (memKey 0 o)) [])).1 = .corrected1) ∧
    ([] : List (Fin 32 × ReadErrs)).all (fun e => errsValid e.2) = true := by decide +kernel

theorem witness_IntegrityEvents :
    (let s := written [(3, 1), (9, 2)] { wb := [0x40] }
     (s.chan 0).wb.contains 0x40 = true ∧ s.chanReady 0 = true ∧ (s.chan 0).held = false ∧ s.bankLeg 0 0x40 = none ∧
     (s.chan 0).pending 0x40 = false ∧ (decodeErr (s.storedErr 64)).1 = .corrected2 ∧ s.injArmed 0 0x40 = false) ∧
    ((written [] { wb := [0x40], merge := [entry40] }).chan 0).pending 0x40 = true ∧ (decodeErr poisonErr).1 = .poison ∧
    ((written [] {}).chan 0).wb.contains 0x40 = false ∧ (written [] {}).recovering Reg.ECC_INJ_CTL (injStatus owner 0x90400000 (written [] {})) = .ok ∧
    injStatus operator 0x90400000 (written [] {}) = .ePriv ∧
    (let s := withRegs [(Reg.ECC_INJ_ADDR, 0x40), (Reg.ECC_INJ_CTL, 0x90400000)] (written [] {})
     s.injArmed 0 0x40 = true ∧ s.fld Reg.ECC_INJ_CTL Fld.ECC_INJ_CTL_KIND = 1 ∧ s.chanReady 0 = true ∧
     s.cwBusy 0 0x40 = false ∧ (s.chan 0).wq.length < 64) := by decide +kernel

/-- Hot positions: at their count and one below, with spares and without, with a lane that accounts for the corrected bits. -/
theorem witness_IntegrityEvents_hot :
    ((written [] {}).chan 0).freeData ≠ [] ∧ ((written [] { oot := List.replicate 14 1 }).chan 0).oot.length ≤ 14 ∧
    Tab.look ((written [] {}).chan 0).hotLast 5 = none ∧ (written [] { hotCnt := [(5, 64)] }).hotCount 0 5 = 64 ∧
    (written [] { hotCnt := [(5, 63)] }).hotCount 0 5 < 64 ∧
    (let x : Chan := { dataFail := [72, 73, 74, 75, 76, 77], hotBits := [((symLanes false 5).headD 0, 9)] }
     x.freeData = [] ∧ ((symLanes (x.width == .half) 5).find? (x.guilty 5)) = (symLanes false 5).head? ∧
       (x.steer[(symLanes false 5).headD 0]?).any (fun p => decide (p < 78)) = true) := by decide +kernel

/-- Channel 0 in SERVICE with legs running, up to 4 on the stack and 2 on a rail. -/
def legging (m : Mode) (x : Chan) (running : List Leg) : State :=
  let s := reg Reg.BST_LEG_CFG 0x2400 (run m)
  { s with dmc := { chans := [(0, { x with on := true })] }, bst := { s.bst with running := running } }

/-- Legs of every kind that fails something: spare row 3 of bank 1, lane 5, command lane 2, check logic, vector unit 3, engine 6. -/
def failing : List Nat := [legBlock 2 0 35, legBlock 3 0 5, legBlock 4 0 2, legBlock 5 0 0, legBlock 7 3 0, legBlock 8 6 0]

theorem witness_LegEvents_next :
    (let s := legging .service { oot := [7], rerun := [8] } []
     let x := s.chan 0
     x.oot = 7 :: [] ∧ ({ x with oot := [] } : Chan).rerun = 8 :: [] ∧ (s.nextDram 0).1 = 7) ∧
    ((legging .service { rowLegs := 256 } []).chan 0).oot = [] ∧ 256 ≤ ((legging .service { rowLegs := 256 } []).chan 0).rowLegs ∧
    ((legging .service { rowLegs := 255 } []).chan 0).rowLegs < 256 := by decide +kernel

/-- Legs that start: of a row, of the base die, and of a full-stack test in MAINTAIN. -/
theorem witness_LegEvents_start :
    (let s := legging .service { rowLegs := 255, trvPtr := 1572862 } []
     let x := s.chan 0
     let n := s.nextDram 0
     s.trans = none ∧ s.inTransit = false ∧ s.bst.fulltest = false ∧ x.on = true ∧ x.width ≠ .retired ∧ x.sr = false ∧ x.held = false ∧
     s.legRoom n.1 = true ∧ s.underLeg n.1 = false ∧ n.2.legEligible n.1 = true ∧ s.legSteers n.1 = false) ∧
    (let s := legging .service {} []
     let n := s.nextBase
     s.legRoom n.1 = true ∧ s.underLeg n.1 = false ∧ n.2.legEligible n.1 = true) ∧
    (let s := { legging .maintain {} [] with bst := { fulltest := true } }
     let n := s.nextFull
     s.bst.aborting = false ∧ s.fullOver = false ∧ s.legRoom n.1 = true ∧ s.underLeg n.1 = false ∧ s.blockOut n.1 = false ∧
       n.2.legReady n.1 = true) := by decide +kernel

/-- Blocks passed over, blocks on which no leg can run, limits reached, a bank under a leg, and a test that is over. -/
theorem witness_LegEvents_none :
    (let s := legging .service { passOver := [legBlock 1 0 0] } []
     s.legRoom (s.nextDram 0).1 = true ∧ s.underLeg (s.nextDram 0).1 = false ∧ (s.nextDram 0).2.legEligible (s.nextDram 0).1 = false) ∧
    (let s := reg Reg.BST_LEG_CFG 0x2400 (run .service)
     s.legRoom s.nextBase.1 = true ∧ s.nextBase.2.legEligible s.nextBase.1 = false ∧ s.underLeg s.nextBase.1 = false) ∧
    (legging .service {} (List.replicate 4 ⟨legBlock 6 0 0, true, none, 0⟩)).legRoom (legBlock 1 0 0) = false ∧
    (legging .service {} [⟨legBlock 1 0 0, true, none, 0⟩]).underLeg (legBlock 1 0 0) = true ∧
    (legging .service { held := true } []).chan 0 = { on := true, held := true } ∧ (legging .service {} []).bst.fulltest = false ∧
    (let s := { run .maintain with bst := { fulltest := true } }
     s.blockOut s.nextFull.1 = true) ∧
    (let s := { legging .maintain { held := true } [] with bst := { fulltest := true } }
     s.blockOut s.nextFull.1 = false ∧ s.nextFull.2.legReady s.nextFull.1 = false) ∧
    ({ run .maintain with bst := { fulltest := true, ftPos := fullBlocks } }).fullOver = true := by decide +kernel

theorem witness_LegEvents_ends :
    (legging .service { incRun := [(legBlock 1 0 9, 7)] } [⟨legBlock 1 0 9, true, none, 0⟩]).incRun (legBlock 1 0 9) = 7 ∧
    (legging .service {} [⟨legBlock 1 0 9, true, none, 0⟩]).incRun (legBlock 1 0 9) < 7 ∧
    (legging .service {} []).legOf (legBlock 1 0 9) = none ∧
    (legging .service {} []).budgetOver ⟨legBlock 1 0 9, true, none, 0⟩ = true ∧
    (reg Reg.BST_LEG_CFG 0x2414 (run .service)).budgetOver ⟨legBlock 1 0 9, true, none, 0⟩ = false ∧
    failing.all (fun b => b < 2 ^ 32 && (legging .service {} [⟨b, true, none, 0⟩]).legOf b == some ⟨b, true, none, 0⟩) = true ∧
    failing.map blockKind = [2, 3, 4, 5, 7, 8] ∧ failing.all (fun b => decide (0 < legTally b)) = true ∧ legTally (legBlock 1 0 9) = 352 ∧
    ((legging .service {} []).chan 0).colFails.contains (1024 * 0 + 32 * 0 + 5) = false ∧
    Tab.look ((legging .service {} []).chan 0).rowRepair 9 = none ∧ (((legging .service {} []).chan 0).spareRows 0).head? = some 0 ∧
    (legging .service {} []).inTransit = false ∧ blockIndex (legBlock 1 0 9) ≠ 1572863 := by decide +kernel

/-- A signature that is not the expected one. -/
theorem witness_LegEvents_signature (b : BitVec 32) : Config.legSignature b + 1#32 ≠ Config.legSignature b := by
  generalize Config.legSignature b = v
  bv_omega

theorem witness_LegEvents_copy :
    ((legging .service { colCopy := [(7, 62)] } []).chan 0).colCopy = (7, 62) :: [] ∧
    ((legging .service { colCopy := [(7, 63)] } []).chan 0).colCopy = (7, 63) :: [] ∧
    ((legging .service {} []).chan 0).colCopy = [] ∧ (legging .service { colCopy := [(7, 63)] } []).copyHeld 0 = false ∧
    (legging .service { colCopy := [(7, 63)] } [⟨legBlock 1 0 0, true, none, 0⟩]).copyHeld 0 = true ∧ (legging .service {} []).bst.log.length < 8192 ∧
    ({ legging .service {} [] with bst := { clkLost := [1] } }).bst.clkLost.contains (2 * 0 + 0) = false ∧
    ({ legging .service {} [] with bst := { clkLost := [1] } }).bst.clkLost.contains (2 * 0 + 1) = true := by decide +kernel

/-- A channel that died with two slices of 8 MiB, and a reserve channel with room for one. -/
def salvaged : State :=
  { laidOut .service with
    cfg := { (laidOut .service).cfg with
      salvage := some ⟨0, [5, 37], 0, 0⟩, resMask := 4, resParcels := [1], frames := [(0, [1]), (1, [2]), (5, [9]), (34, [3])] } }

theorem witness_SelfTestAndCalibration_salvage :
    salvaged.cfg.salvage = some ⟨0, 5 :: [37], 0, 0⟩ ∧ 5 < 2 ^ 20 ∧ salvaged.mode = .service ∧
    (let q := (salvaged.serveChan 0).flushMerge 0 (salvaged.chan 0).merge.length
     q.resChans ≠ [] ∧ q.resChans.all (fun n => decide (ceilDiv (q.sliceSize 5 / 4096) q.resChans.length * 4096 ≤ q.resFree n)) = true ∧
       1024 * 0 ≤ q.sliceSize 5 / 64 ∧ q.sliceSize 5 / 64 < 1024 * 10000) ∧
    (legging .safe {} []).mode ≠ .service ∧ (legging .service {} []).cfg.salvage = none ∧ (legging .service {} []).cfg.retQueue = [] ∧
    (let s := { salvaged with cfg := { salvaged.cfg with salvage := none, retQueue := [0] } }
     s.cfg.retQueue = 0 :: [] ∧ s.slicesOf 0 ≠ []) ∧ (legging .service {} []).slicesOf 0 = [] := by decide +kernel

/-- The commands of BST that pass their checks, and that fail them. -/
theorem witness_SelfTestAndCalibration_commands :
    (let checks (s : State) (l : List (Bool × Status)) : Status := s.recovering Reg.BST_CMD (firstStatus (s.ownerChecks owner ++ l))
     let full (s : State) : Status := checks s [(s.mode != .maintain, .eState), (s.bst.fulltest || s.committing || s.salvaging, .eBusy)]
     let abort (s : State) : Status := checks s [(!s.bst.fulltest, .eState)]
     let fuse (s : State) : Status := checks s [(s.mode != .maintain, .eState), (s.bst.fulltest || s.committing, .eBusy),
        (decide (122 * s.blankSets.length < s.unfused.length), .eResource)]
     let leg (s : State) : Status := checks s [(!(s.mode == .service || s.mode == .maintain), .eState),
        (!blockInRange (s.rdN Reg.BST_ARG), .eRange),
        (decide (blockKind (s.rdN Reg.BST_ARG) ≤ 5) && decide (16 ≤ (s.chan (blockUnit (s.rdN Reg.BST_ARG))).oot.length), .eBusy),
        (s.blockConflict (s.rdN Reg.BST_ARG), .eConflict)]
     let testing := { legging .maintain {} [] with bst := { fulltest := true } }
     full (legging .maintain {} []) = .ok ∧ full testing = .eBusy ∧ abort testing = .ok ∧ abort (run .maintain) = .eState ∧
     fuse (legging .maintain {} []) = .ok ∧ fuse testing = .eBusy ∧ (legging .maintain {} []).fse.op = none ∧
     leg (reg Reg.BST_ARG (legBlock 3 0 77) (legging .service { oot := List.replicate 15 0 } [])) = .ok ∧
     leg (reg Reg.BST_ARG (legBlock 5 0 0) (legging .service { oot := List.replicate 16 0 } [])) = .eBusy ∧
     leg (reg Reg.BST_ARG (legBlock 7 15 0) (legging .service {} [])) = .ok ∧ blockKind (legBlock 3 0 77) ≤ 5 ∧ 5 < blockKind (legBlock 7 15 0)) := by
  decide +kernel

theorem witness_SelfTestAndCalibration_done :
    (let s := { run .maintain with bst := { fulltest := true, ftPos := fullBlocks } }
     s.bst.fulltest = true ∧ s.bst.running = [] ∧ s.fullOver = true) ∧
    ({ run .maintain with bst := { fulltest := true, aborting := true } }).bst.aborting = true ∧
    ({ run .maintain with bst := { fulltest := true } }).fullOver = false ∧ (run .maintain).bst.fulltest = false := by decide +kernel

theorem witness_SelfTestAndCalibration_cal :
    (let s := legging .service { bench := [(9, ⟨30, 0, 0⟩)], target := [(9, 31)], calPos := 1, rejRun := [(9, 2)] } []
     s.calRuns 0 = true ∧ s.bst.running = [] ∧ calKind (s.chan 0).calPos = 0 ∧ 9 ∈ calLanes (s.chan 0).calPos ∧
     Tab.look (s.chan 0).bench (512 * s.dmc.point + (128 * 0 + 9)) = some ⟨30, 0, 0⟩ ∧ s.thm.band = 0 ∧
     Tab.look (s.chan 0).target (128 * 0 + 9) = some 31 ∧ Tab.look (s.chan 0).lastMove (laneKey 0 9) = none ∧
     Tab.look (s.chan 0).target (128 * 1 + 9) = none ∧ 2 ≤ Tab.lookD (s.chan 0).rejRun (laneKey 0 9) 0 ∧
     absDiff 30 30 ≤ s.fld Reg.CAL_CFG Fld.CAL_CFG_LIM ∧ s.fld Reg.CAL_CFG Fld.CAL_CFG_LIM < absDiff 100 30 ∧
     Tab.lookD (s.chan 0).setting 9 0 ≠ 30) ∧
    (let s := { legging .service { lastMove := [(9, 0)] } [] with gtime := 3125 }
     Tab.look (s.chan 0).lastMove (laneKey 0 9) = some 0 ∧ 0 + 3125 ≤ s.now ∧ { s with gtime := 3124 }.now < 0 + 3125) ∧
    (legging .service { held := true } []).calRuns 0 = false := by decide +kernel

/-- A measurement of one temperature everywhere, in 1/16 °C. -/
def measured (t : Nat) : Thermals :=
  ⟨List.replicate 76 (BitVec.ofNat 16 t), List.replicate 20 (BitVec.ofNat 16 t, 256), 0, List.replicate 6 (0, 0, 0)⟩

/-- A stack whose units were last estimated so, at a throttle level, its timers running. -/
def warm (t level : Nat) (rising falling : Bool) : State :=
  { run .service with gtime := 6250000, thm := { (run .service).thm with
      level := level, rising := rising, falling := falling
      reading := (List.range 76).map (fun n => (n, Int.ofNat t))
      median := thmUnits.map (fun u => (u, Int.ofNat t)), model := thmUnits.map (fun u => (u, Int.ofNat t)) } }

theorem witness_ThermalEvents :
    (let after (t : Nat) : State := ((((run .service).takeReadings (measured t)).takeRails (measured t)).exclusion).updateModel (measured t)
     (after (16 * 118 - 1)).anyAt limShut = false ∧ (after (16 * 118)).anyAt limShut = true) ∧
    (run .service).thm.cool = false ∧ (run .service).thm.hot = false ∧
    (warm (16 * 115) 3 true false).anyAt limThr = true ∧ (warm (16 * 115) 3 true false).thm.level < (warm 0 0 true true).thm.maxlvl ∧
    (warm 0 0 true true).thm.tStep + 6250000 ≤ (warm 0 0 true true).now ∧ (warm 0 0 true true).thm.maxlvl ≤ (warm 0 4 true true).thm.level ∧
    { warm 0 0 true true with gtime := 312500000 }.thm.tPermit + 312500000 ≤ 312500000 ∧ (run .service).now < (run .service).thm.tPermit + 312500000 ∧
    (warm (16 * 108 - 1) 1 false true).allBelow limThrClear = true ∧ (warm (16 * 108) 1 false true).allBelow limThrClear = false ∧
    (run .cold).mode = .cold ∧ { run .safe with thm := { cool := true } }.thm.cool = true ∧
    { run .service with thm := { permit := some 3 } }.thm.permit = some 3 ∧ (run .service).thm.permit = none ∧
    (run .service).hotSensors (List.replicate 76 (16 * 125)) ≠ [] ∧ (run .service).hotSensors (List.replicate 76 (16 * 118 - 1)) = [] ∧
    (warm (16 * 118) 1 false false).anyAt limShut = true ∧ (warm (16 * 118) 1 false false).mode ≠ .cold ∧
    { run .service with thm := { hot := true } }.thm.hot = true ∧
    railTrip 3 < 14001 ∧ 14000 ≤ railTrip 3 ∧ railTrip 4 < 3501 ∧ 3500 ≤ railTrip 5 ∧
    100 * 1044 < 95 * railMv 3 ∧ 95 * railMv 3 ≤ 100 * 1045 ∧ 100 * 1709 < 95 * railMv 4 ∧ 95 * railMv 5 ≤ 100 * 1710 ∧
    90 * railRated 3 < 100 * 9901 ∧ 100 * 9900 ≤ 90 * railRated 3 ∧ 90 * railRated 4 < 100 * 2251 ∧ 100 * 2250 ≤ 90 * railRated 5 ∧
    (run .service).recovering Reg.PWR_CMD (firstStatus ((run .service).ownerChecks owner)) = .ok ∧
    (run .service).recovering Reg.PWR_CMD (firstStatus ((run .service).ownerChecks observer)) ≠ .ok := by decide +kernel

/-- A history entry of a severity. -/
def entry (sev hseq : Nat) : HistEntry := ⟨none, 20, sev, false, false, 0, 0, hseq, 0, 0⟩

/-- A stack with entries to copy, and so many copied in this second. -/
def copying (l : List HistEntry) (all corrected : Nat) : State :=
  { run .service with flt := { (run .service).flt with toCopy := l, copied := all, copiedCorr := corrected } }

theorem witness_FaultsAndAvailability :
    nextCopy (copying [entry 0 1, entry 3 2] 0 0).flt.toCopy = some (entry 3 2) ∧
    (copying [entry 0 1] 63 63).copyAdmitted (entry 0 1) = true ∧ (copying [entry 0 1] 64 64).copyAdmitted (entry 0 1) = false ∧
    (copying [entry 1 1] 255 64).copyAdmitted (entry 1 1) = true ∧ (copying [entry 1 1] 256 64).copyAdmitted (entry 1 1) = false ∧
    (copying [] 0 0).flt.toCopy = [] ∧
    (let ack (r : Req) (s : State) := s.recovering Reg.FLT_CMD (firstStatus [((s.role r).isNone, .eAuth), (s.role r == some .enrolment, .ePriv)])
     ack observer (run .service) = .ok ∧ ack nobody (run .service) = .eAuth ∧
       ack observer { run .service with upd := { recovery := true } } = .eState) ∧
    (run .service).recovering Reg.FLT_CMD (firstStatus ((run .service).hostChecks operator)) = .ok ∧
    (run .service).recovering Reg.FLT_CMD (firstStatus ((run .service).hostChecks observer)) = .ePriv ∧
    (faultSev 20).isSome = true ∧ faultSev 20 ≠ some 3 ∧ (run .service).recovering (Reg.FLT_FORCE 0) (forceStatus owner 0 0x100000 (run .service)) = .ok ∧
    (run .maintain).recovering (Reg.FLT_FORCE 0) (forceStatus owner 0 1 (run .maintain)) = .ok ∧
    (run .service).recovering (Reg.FLT_FORCE 0) (forceStatus observer 0 1 (run .service)) = .ePriv ∧ faultSev 0 = some 3 ∧
    (run .service).aon.pwrgood = true ∧ (run .cold).aon.pwrgood = true ∧ { run .cold with aon := {} }.aon.pwrgood = false ∧
    604800000 ≤ ({ run .service with avail := { (run .service).avail with buckets := [(5, 604800000)] } }.avail.buckets.headD (0, 0)).2 ∧
    ({ run .service with avail := { (run .service).avail with buckets := [(5, 604799999)] } }.avail.buckets.headD (0, 0)).2 < 604800000 := by
  decide +kernel

/-- An event that a sample may describe. -/
def context : SampleCtx := ⟨0, 0, 0, 0⟩

/-- A sample of counter 0. -/
def sample : Sample := ⟨0, 0, 0, 0, 0, 0, (0, 0)⟩

/-- Counter 5 counting event 0x09, sampled each 100, with a count, the events its due sample may describe, and samples held. -/
def counting (cnt due : Nat) (samples : List Sample) : State :=
  let s := withRegs [(Reg.PMC_SEL 5, 0xC0000009), (Reg.PMC_SPER 5, 100), (Reg.PMC_CNT 5, cnt % 2 ^ 32), (Reg.PMC_CNT 5 + 4, cnt / 2 ^ 32)]
    (laidOut .service)
  { s with pmc := { s.pmc with due := [(5, List.replicate due context)], samples := samples } }

/-- That stack with a dump period, a DMP partition on ch0 and requests that wait there. -/
def dumpable (l : List DmcReq) : State :=
  let s := reg Reg.PMC_CFG 0x7FFFFFFF (counting 0 0 [])
  { s with cfg := { s.cfg with parts := [(4, ⟨5, 12, 0x3, [9]⟩)], frames := [(288, [16]), (289, [16])] }
           dmc := { s.dmc with chans := [(0, { on := true, wq := l })] } }

theorem witness_CounterEvents :
    (counting 0 0 []).recovering (Reg.PMC_SEL 5) (pmcSelStatus owner 5 0x80000009 (counting 0 0 [])) = .ok ∧
    (counting 0 0 []).recovering (Reg.PMC_SEL 5) (pmcSelStatus nobody 5 0x80000009 (counting 0 0 [])) = .eAuth ∧
    (counting 0 0 []).rd (Reg.PMC_SEL 5) &&& 0x3FFFFFFF = 0x80000009#32 &&& selMask &&& 0x3FFFFFFF ∧
    (counting 0 0 []).recovering (Reg.PMC_SEL 5) (pmcSelStatus owner 5 0x80000015 (counting 0 0 [])) = .ok ∧
    (counting 0 0 []).rd (Reg.PMC_SEL 5) &&& 0x3FFFFFFF ≠ 0x80000015#32 &&& selMask &&& 0x3FFFFFFF ∧
    (counting (2 ^ 48 - 1) 0 []).flag (Reg.PMC_SEL 5) Fld.PMC_SEL_EN = true ∧
    2 ^ 48 ≤ (counting (2 ^ 48 - 1) 0 []).rd64 (Reg.PMC_CNT 5) + (1#48).toNat ∧
    ¬2 ^ 48 ≤ (counting (2 ^ 48 - 2) 0 []).rd64 (Reg.PMC_CNT 5) + (1#48).toNat ∧
    (Tab.lookD (counting 0 3 []).pmc.due 5 [])[2]? = some context ∧ (Tab.lookD (counting 0 3 []).pmc.due 5 []).length = 3 ∧
    (Tab.lookD (counting 0 16 []).pmc.due 5 []).length = 16 ∧ (Tab.lookD (counting 0 16 []).pmc.due 5 [])[15]? = some context ∧
    (counting 0 1 (List.replicate 511 sample)).pmc.samples.length < 512 ∧ 512 ≤ (counting 0 1 (List.replicate 512 sample)).pmc.samples.length ∧
    (let s := dumpable []
     s.mode = .service ∧ s.fld Reg.PMC_CFG Fld.PMC_CFG_PERIOD ≠ 0 ∧ s.dmpPart.isSome = true ∧ s.dumping = false ∧
       s.pmc.wptr + 1024 * s.dumpRecords.length < s.dmpPart.elim 0 (fun p => p.2.size)) ∧
    (dumpable [⟨0, 16 * 2 ^ 23, 0, true, 0, .write 0 0 64, none⟩]).dumping = true ∧
    (run .safe).mode ≠ .service := by decide +kernel

/-- A stack in MAINTAIN or SERVICE with a staging record. -/
def staging (m : Mode) (u : UpdSt) : State := { run m with upd := u }

/-- SPW of a trial of slot 1, confirmed slot 0: ACT 1, TRIAL as onTrial reads it. -/
def trial : DWord := 0xA000000000#64

theorem witness_UpdateCommands :
    (staging .service { stage := .staged }).role owner = some .owner ∧ (staging .service { stage := .staged }).upd.stage = .staged ∧
    (staging .service { stage := .verifying }).upd.stage = .verifying ∧ (staging .service { stage := .verified, type := 2 }).patchDue = none ∧
    activateStatus owner true (staging .service { stage := .verified, type := 2 }) = .ok ∧
    (let s := staging .maintain { stage := .verified, type := 1, target := 1
                                  flash := [(imgBase 1, List.replicate 22 0#8 ++ [5, 0] ++ List.replicate 16360 0)] }
     s.patchDue.bind s.patchRegion = some 11 ∧ s.fse.op = none ∧ activateStatus owner true s = .ok) ∧
    (staging .service { spw := trial }).onTrial = true ∧ (staging .service { spw := trial }).updBusy = false ∧
    (staging .service { spw := trial }).trans = none ∧ (staging .service { spw := trial }).inTransit = false ∧
    86400000 ≤ (staging .service { spw := trial, trialMs := 86400000 }).upd.trialMs ∧
    (let s := { staging .service { spw := trial, trialMs := 86400000, trialAt := 9 } with gtime := 10, aon := ⟨true, true, true⟩ }
     s.upd.trialAt < s.now ∧ { s with gtime := 9 }.now ≤ s.upd.trialAt) ∧ (staging .service {}).onTrial = false ∧
    (staging .maintain { setReset := true }).upd.setReset = true ∧ (staging .hold {}).mode = .hold ∧
    (let checks (r : Req) (s : State) (l : List (Bool × Status)) := firstStatus (s.updChecks r ++ l)
     let s := staging .service { stage := .staged }
     checks owner s [(s.upd.stage != .staged, .eState)] = .ok ∧ checks operator s [(s.upd.stage != .staged, .eState)] = .ePriv ∧
       checks owner s [(s.updBusy, .eState)] = .ok ∧ activateStatus owner true s = .eState ∧ beginStatus operator true s = .ePriv ∧
       chunkStatus operator true s = .ePriv) ∧
    (let s := staging .service { spw := trial }
     firstStatus (s.updChecks owner ++ [(!s.onTrial, .eState), (s.updBusy, .eBusy)]) = .ok ∧
       firstStatus (s.updChecks owner ++ [(!s.onTrial, .eState), (s.updBusy || s.trans.isSome || s.inTransit, .eBusy)]) = .ok) ∧
    (let s := { staging .service { spw := trial } with trans := some .load }
     firstStatus (s.updChecks owner ++ [(!s.onTrial, .eState), (s.updBusy || s.trans.isSome || s.inTransit, .eBusy)]) = .eBusy) := by decide +kernel

/-- A CONFIG package's chunk 0 of generation 1 in two chunks in the window, with a digest, and a staging record. -/
def begun (d : BitVec 512) (u : UpdSt) : State :=
  { run .service with
    upd := u
    regs := [(Reg.UPD_WIN 0, 0x50445A4D), (Reg.UPD_WIN 1, 0x20001), (Reg.UPD_WIN 2, 0x21648), (Reg.UPD_WIN 3, 16384), (Reg.UPD_WIN 20, 1)] ++
      (List.range 16).map (fun i => (Reg.UPD_WIN (48 + i), BitVec.ofNat 32 (d.toNat >>> (32 * i)))) }

/-- The bytes of some words of the window. -/
def winWords (s : State) (l : List Nat) : List Byte := l.flatMap (fun i => leBytes 4 (s.rdN (Reg.UPD_WIN i)))

theorem look_other {α : Type} (l : List Nat) (f : Nat → Nat) (g : Nat → α) (a : Nat) (h : ∀ k ∈ l, f k ≠ a) :
    Tab.look (l.map (fun k => (f k, g k))) a = none := by
  induction l with
  | nil => rfl
  | cons k l ih =>
    rw [List.map_cons, Tab.look, if_neg (h k (List.mem_cons_self ..))]
    exact ih (fun j hj => h j (List.mem_cons_of_mem _ hj))

theorem begun_page (d : BitVec 512) (u : UpdSt) (h : u.spw = 0) : (begun d u).chunk0Page = deltaBase 1 := by
  show deltaBase (1 - b2n (bitOf u.spw.toNat 39)) = _
  rw [h]; rfl

theorem begun_rd (d : BitVec 512) (u : UpdSt) (i : Nat) (h : i < 48 ∨ 64 ≤ i) :
    (begun d u).rdN (Reg.UPD_WIN i) = (begun 0 {}).rdN (Reg.UPD_WIN i) := by
  have none (e : Nat) : Tab.look ((List.range 16).map (fun k => (Reg.UPD_WIN (48 + k), BitVec.ofNat 32 (e >>> (32 * k))))) (Reg.UPD_WIN i) = none := by
    refine look_other _ _ _ _ (fun k hk => ?_)
    have hk : k < 16 := List.mem_range.mp hk
    unfold Reg.UPD_WIN
    omega
  simp only [begun, State.rdN, State.rd, List.cons_append, List.nil_append, Tab.look, none]

theorem begun_digest (d : BitVec 512) (u : UpdSt) (i : Nat) (h : i < 16) :
    (begun d u).rdN (Reg.UPD_WIN (48 + i)) = d.toNat >>> (32 * i) % 2 ^ 32 := by
  interval_cases i <;> rfl

theorem window_split (d : BitVec 512) (u : UpdSt) :
    (begun d u).window = winWords (begun 0 {}) (List.range 48) ++ bytes64 d ++ winWords (begun 0 {}) ((List.range 4032).map (64 + ·)) := by
  have split : List.range 4096 = List.range 48 ++ (List.range 16).map (48 + ·) ++ (List.range 4032).map (64 + ·) := by
    rw [← List.range_add, ← List.range_add]
  have side (l : List Nat) (h : ∀ i ∈ l, i < 48 ∨ 64 ≤ i) :
      l.flatMap (fun i => leBytes 4 ((begun d u).rdN (Reg.UPD_WIN i))) = winWords (begun 0 {}) l :=
    List.flatMap_congr (fun i hi => by rw [begun_rd d u i (h i hi)])
  have mid : ((List.range 16).map (48 + ·)).flatMap (fun i => leBytes 4 ((begun d u).rdN (Reg.UPD_WIN i))) = bytes64 d := by
    have bytes (x : Nat) : leBytes 4 (x % 2 ^ 32) = leBytes 4 x := by
      unfold leBytes
      refine List.map_congr_left (fun i hi => ?_)
      have hi : i < 4 := List.mem_range.mp hi
      apply BitVec.eq_of_toNat_eq
      have : i = 0 ∨ i = 1 ∨ i = 2 ∨ i = 3 := by omega
      rcases this with rfl | rfl | rfl | rfl <;> simp [Nat.shiftRight_eq_div_pow] <;> omega
    rw [List.flatMap_map]
    rw [List.flatMap_congr (g := fun i => leBytes 4 (d.toNat >>> (32 * i)))
      (fun i hi => by rw [begun_digest d u i (List.mem_range.mp hi), bytes])]
    simp [leBytes, bytes64, List.range_succ, ← Nat.shiftRight_add]
  rw [State.window, split, List.flatMap_append, List.flatMap_append, mid, side _ (fun i h => .inl (List.mem_range.mp h)),
    side _ (fun i h => by obtain ⟨k, -, rfl⟩ := List.mem_map.mp h; exact .inr (Nat.le_add_right _ _))]

theorem slice_left (l m : List Byte) (off count : Nat) (h : off + count ≤ l.length) : slice (l ++ m) off count = slice l off count :=
  List.map_congr_left (fun i hi => by
    have : i < count := List.mem_range.mp hi
    rw [List.getD_append _ _ _ _ (by omega)])

theorem slice_at (l m r : List Byte) : slice (l ++ m ++ r) l.length m.length = m := by
  refine List.ext_getElem (by simp [slice]) (fun i _ hi => ?_)
  simp [slice, List.getElem?_append_right, List.getElem?_append_left, hi]

/-- The bytes before the digest of chunk 0, and those behind it. -/
def before : List Byte := winWords (begun 0 {}) (List.range 48)
def behind : List Byte := winWords (begun 0 {}) ((List.range 4032).map (64 + ·))

theorem before_length : before.length = 192 := by decide +kernel

/-- The window with its digest as SHA-512 gives it. -/
theorem window_begun (u : UpdSt) : (begun (sha512 (before ++ behind)) u).window = before ++ (bytes64 (sha512 (before ++ behind)) ++ behind) := by
  rw [window_split, List.append_assoc]; rfl

theorem leAt_begun (u : UpdSt) (off count : Nat) (h : off + count ≤ 192) :
    leAt (begun (sha512 (before ++ behind)) u).window off count = leAt before off count := by
  rw [window_begun, leAt, slice_left _ _ _ _ (by rw [before_length]; exact h)]; rfl

theorem chunk0Ok_begun (u : UpdSt) : chunk0Ok (begun (sha512 (before ++ behind)) u).window = true := by
  have len : (bytes64 (sha512 (before ++ behind))).length = 64 := by simp [bytes64, leBytes]
  have dig : slice (before ++ (bytes64 (sha512 (before ++ behind)) ++ behind)) 192 64 = bytes64 (sha512 (before ++ behind)) := by
    have := slice_at before (bytes64 (sha512 (before ++ behind))) behind
    rwa [before_length, len, List.append_assoc] at this
  have rest : (before ++ (bytes64 (sha512 (before ++ behind)) ++ behind)).take 192 ++
      (before ++ (bytes64 (sha512 (before ++ behind)) ++ behind)).drop 256 = before ++ behind := by
    rw [List.take_left' before_length, ← List.append_assoc, List.drop_left' (by simp [before_length, len])]
  have left (off count : Nat) (h : off + count ≤ 192) :
      slice (before ++ (bytes64 (sha512 (before ++ behind)) ++ behind)) off count = slice before off count :=
    slice_left _ _ _ _ (by rw [before_length]; exact h)
  rw [window_begun, chunk0Ok, rest, dig]
  simp only [leAt, left _ _ (by decide : 0 + 4 ≤ 192), left _ _ (by decide : 4 + 2 ≤ 192), left _ _ (by decide : 10 + 2 ≤ 192),
    left _ _ (by decide : 12 + 4 ≤ 192), beq_self_eq_true, Bool.and_true]
  decide +kernel

/-- BEGIN passes, of a chunk 0 not held and of the one held. -/
theorem witness_UpdateCommands_begin :
    (let s := begun (sha512 (before ++ behind)) {}
     beginStatus owner true s = .ok ∧ s.sameChunk0 s.window = false) ∧
    (let w := (begun (sha512 (before ++ behind)) {}).window
     let s := begun (sha512 (before ++ behind)) { stage := .receiving, flash := [(deltaBase 1, w)], digest := leAt w 192 8 }
     beginStatus owner true s = .ok ∧ s.sameChunk0 s.window = true) := by
  have ok (u : UpdSt) (h : (begun (sha512 (before ++ behind)) u).updBusy = false) :
      beginStatus owner true (begun (sha512 (before ++ behind)) u) = .ok := by
    have type : pkgType (begun (sha512 (before ++ behind)) u).window = 2 := by
      rw [pkgType, leAt_begun _ _ _ (by decide)]; decide +kernel
    have name : leAt (begun (sha512 (before ++ behind)) u).window 8 2 = 0x1648 := by
      rw [leAt_begun _ _ _ (by decide)]; decide +kernel
    have gen : (begun (sha512 (before ++ behind)) u).cfg.gen < leAt (begun (sha512 (before ++ behind)) u).window 80 4 := by
      rw [leAt_begun _ _ _ (by decide)]; show 0 < leAt before 80 4; decide +kernel
    have len : leAt (begun (sha512 (before ++ behind)) u).window 12 4 = 16384 := by
      rw [leAt_begun _ _ _ (by decide)]; decide +kernel
    have g : (begun (sha512 (before ++ behind)) u).updChecks owner = [(false, .eAuth), (false, .ePriv), (false, .eState)] := rfl
    simp [beginStatus, State.badBase, chunk0Ok_begun, type, name, len, Nat.not_le.mpr gen, h, g, firstStatus]
  refine ⟨⟨ok _ rfl, rfl⟩, ok _ rfl, ?_⟩
  have page (w : List Byte) (n : Nat) : State.page (begun (sha512 (before ++ behind)) { stage := .receiving, flash := [(deltaBase 1, w)], digest := n })
      (deltaBase 1) = w := rfl
  have at_ (w : List Byte) (n : Nat) : State.chunk0Page (begun (sha512 (before ++ behind)) { stage := .receiving, flash := [(deltaBase 1, w)], digest := n })
      = deltaBase 1 := begun_page _ _ rfl
  simp only [State.sameChunk0, at_, page, window_begun, beq_self_eq_true, Bool.and_true]
  simp only [begun, beq_self_eq_true, Bool.and_true]

/-- Chunk 1 awaited. -/
def receiving (u : UpdSt) : State :=
  { run .service with regs := [(Reg.UPD_ARG, 1)], upd := { u with stage := .receiving, type := 2, next := 1, total := 2 } }

/-- The chunk table with the digest of what the window holds. -/
def table : UpdSt := { flash := [(deltaBase 1, List.replicate 4368 0 ++ (bytes64 (sha512 (receiving {}).window)).take 16 ++ [])] }

theorem witness_UpdateCommands_chunk : chunkStatus owner true (receiving table) = .ok := by
  have win (u : UpdSt) : (receiving u).window = (receiving {}).window := by simp only [State.window, receiving, State.rdN, State.rd]
  have place : (receiving table).chunk0Page = deltaBase 1 := by
    show deltaBase (1 - b2n (bitOf (0 : DWord).toNat 39)) = _; rfl
  have page : (receiving table).page (deltaBase 1) = List.replicate 4368 0 ++ (bytes64 (sha512 (receiving {}).window)).take 16 ++ [] := by
    have look (x : List Byte) : Tab.lookD [(deltaBase 1, x)] (deltaBase 1) erasedPage = x := rfl
    exact look _
  have right : (receiving table).chunkRight = true := by
    have dig := slice_at (List.replicate 4368 0) ((bytes64 (sha512 (receiving {}).window)).take 16) []
    have len : ((bytes64 (sha512 (receiving {}).window)).take 16).length = 16 := by simp [bytes64, leBytes]
    rw [List.length_replicate, len] at dig
    rw [State.chunkRight, place, page, win]
    exact beq_iff_eq.mpr dig
  have a (u : UpdSt) : (receiving u).updChecks owner = [(false, .eAuth), (false, .ePriv), (false, .eState)] := rfl
  have b : (receiving {}).chunkArg = 1 := by decide +kernel
  have b (u : UpdSt) : (receiving u).chunkArg = (receiving u).upd.next := b
  have c (u : UpdSt) : ((receiving u).upd.stage != .receiving) = false := rfl
  simp [chunkStatus, right, a, b, c, firstStatus]

/-! ### Commands that are not well formed are turned away -/

/-- An ill-formed packet for each check of a packet, and the well-formed one. -/
theorem test_wf_packet :
    [({ pkt 3 [] with type := 7 } : Packet), { pkt 3 [] with lseq := 65536 }, { pkt 3 [] with label := 256 }, { pkt 3 [] with payload := [0] },
      { pkt 3 [] with payload := List.replicate 1024 0 }, { pkt 3 [] with tag := [0] }, { pkt 3 [] with tagged := true }].all
      (fun p => !p.wf && !(Instr.creditPacket 0 p).wf && !(Instr.brd 0 p).wf && !(Instr.bwr 0 p).wf && !(Instr.ctlRequest 0 p 0).wf) = true ∧ (pkt 3 (brdBody 3 0 64)).wf = true := by decide +kernel

theorem test_wf_requester : Req.wf ⟨.i3c, 65536⟩ = false ∧ (Instr.nonce ⟨.i3c, 65536⟩).wf = false ∧ (Instr.nonce ⟨.i3c, 65535⟩).wf = true ∧
    (Instr.vxuStart ⟨.chain 0, 65536⟩ (.unit 0)).wf = false ∧ (Instr.registerWrite ⟨.chain 0, 65536⟩ 0 2 0 false).wf = false ∧
    (Instr.sense (.command ⟨.chain 0, 65536⟩) []).wf = false := by decide

theorem test_wf_strings :
    (Instr.failPacket 0 []).wf = false ∧ (Instr.failPacket 0 (List.replicate 33 0)).wf = false ∧
    (Instr.failPacket 0 (List.replicate 608 0)).wf = false ∧ (Instr.failPacket 0 (List.replicate 576 0)).wf = true ∧
    (Instr.sessionOpen nobody (List.replicate 321 0)).wf = false ∧ (Instr.attest nobody (List.replicate 31 0)).wf = false ∧
    (Instr.evict owner (List.replicate 15 0)).wf = false ∧ (Instr.comparatorScan (List.replicate 75 0)).wf = false ∧
    (Instr.fecCodewordReceived 0 (List.replicate 543 0) 0 0).wf = false ∧ (Instr.laneLoss 1 0 .los).wf = false ∧
    LoadFind.wf ⟨none, [(0, [])]⟩ = false := by decide +kernel

theorem test_wf_memory :
    symsWf [(38, 1)] = false ∧ symsWf [(3, 0)] = false ∧ symsWf [(3, 1), (3, 2)] = false ∧ symsWf [(37, 1), (0, 2)] = true ∧
    (Instr.dmcRead 0 0xC0000000 0 0 0 false noErrs .data).wf = false ∧ (Instr.dmcRead 0 0x20 0 0 0 false noErrs .data).wf = false ∧
    (Instr.dmcRead 0 0x40 0 0 0 false { noErrs with cell := [(38, 1)] } .data).wf = false ∧
    (Instr.dmcRead 0 0x40 0 0 0 false noErrs (.exceptionLog 4294967296)).wf = false ∧
    (Instr.dmcWrite 0 0x40 0 0 false 0 0).wf = false ∧ (Instr.mergeEntryTimeout 0 1 noErrs).wf = false ∧
    (Instr.scrubRow 0 [(5, { noErrs with line := [(3, 0)] })]).wf = false ∧ (Instr.corrected2Writeback 0 1).wf = false := by decide

theorem test_wf_results :
    CalResult.wf ⟨[(32, 0)], []⟩ = false ∧ CalResult.wf ⟨[(0, 256)], []⟩ = false ∧ CalResult.wf ⟨[], [(0, 640, 1)]⟩ = false ∧
    CalResult.wf ⟨[], [(32, 0, 1)]⟩ = false ∧ FuseResult.wf ⟨[], [], some 65536, []⟩ = false ∧
    SenseWhy.wf (.coldLoad [(64, 1)]) = false ∧ SenseWhy.wf (.coldLoad [(63, 1), (960, 1)]) = true ∧
    (Instr.calStep 0 [(640, 1)]).wf = false ∧ (Instr.calStepForced 0 [(640, 1)]).wf = false ∧
    Thermals.wf { measured 0 with sensors := [] } = false ∧ Thermals.wf { measured 0 with nodes := [] } = false ∧
    Thermals.wf { measured 0 with rails := [] } = false ∧
    Thermals.wf (measured 800) = true := by decide +kernel

/-- The table gives no row bits, so no word spells a command. -/
theorem test_no_word (n w : Nat) : decodeTableWord n w = none := rfl

theorem test_reset : State.reset.mode = .cold ∧ State.reset.pending = [] ∧ State.reset.mem = [] ∧ State.reset.memoryWf := by
  decide +kernel

/-! ### The manual's worked examples -/

/-- The card of the example in Service classes under generation 9: P0 VEC, P2 CAP and P3 BUF on ch16 to ch31, P1 CAD on ch0 to
ch15; four chains of 8 lanes; class n a stream for n up to 4, fail traffic for n up to 8; class 9 of `w` × 10^6 B/s. -/
def card (w : Nat) : State :=
  let streams : List (Nat × Nat) := (List.range 4).flatMap (fun i =>
    [(Reg.QOS_C_CFG (i + 1) 0, 0x01000101 + (200 - i) * 65536 + i), (Reg.QOS_C_CFG (i + 1) 2, 800000),
     (Reg.QOS_C_CFG (i + 1) 3, 4096), (Reg.QOS_C_CFG (i + 1) 4, 200), (Reg.VXU_BIND i, 0x80001000 + i * 65792),
     (Reg.QOS_SRES_SIZE i, 64), (Reg.QOS_SRES_START i, 512)])
  let fails : List (Nat × Nat) := (List.range 4).flatMap (fun i =>
    [(Reg.QOS_C_CFG (i + 5) 0, 0x01000205 + (150 - i) * 65536 + i), (Reg.QOS_C_CFG (i + 5) 1, 2 ^ i),
     (Reg.QOS_C_CFG (i + 5) 2, 24000), (Reg.QOS_CRES_SIZE (i + 5), 256)])
  let sources : List (Nat × Nat) := (List.range 64).map (fun n =>
    (Reg.CAD_SRC_CFG n, 0xC0000022 + n / 16 * 65536 + (0x40 + n / 16) * 256))
  let s := withRegs (streams ++ fails ++ sources ++
    [(Reg.QOS_C_CFG 9 0, 0x01640309), (Reg.QOS_C_CFG 9 1, 0x40830001), (Reg.QOS_C_CFG 9 2, w), (Reg.QOS_C_CFG 9 3, 200),
     (Reg.QOS_LABEL 4, 0x04030201), (Reg.QOS_LABEL 8, 9), (Reg.QOS_LABEL 16, 0x08070605), (Reg.QOS_IQ_SIZE, 2048)]) (run .service)
  { s with
    cfg := { empty := false, gen := 9
             parts := [(0, ⟨1, 12, 0xFFFF0000, List.range 16⟩), (1, ⟨3, 12, 0xFFFF, (List.range 192).map (· + 16)⟩),
               (2, ⟨2, 12, 0xFFFF0000, (List.range 64).map (· + 208)⟩), (3, ⟨4, 12, 0xFFFF0000, (List.range 32).map (· + 272)⟩)] }
    dmc := { chans := (List.range 32).map (fun c => (c, { on := true })) }
    chains := (List.range 4).map (fun k => (k, { en := true, lanes := 0xFF * 2 ^ (8 * k), state := .up, txMask := 0xFF, rxMask := 0xFF }))
    qos := { inforce := 0x3FE } }

/-- The example of Service classes: generation 9 passes with 16,000 and fails with 48,000 × 10^6 B/s on class 9 of P3. -/
theorem test_admission : (card 16000).admission = (.ok, 0, 0) ∧ (card 48000).admission.1 = .eOvercommit := by decide +kernel

/-- The check values that R80, R216 and R434 give for "123456789". -/
theorem test_crc : (let l : List Byte := (List.range 9).map (fun i => BitVec.ofNat 8 (0x31 + i))
    crc16 l = 0x29B1 ∧ crc32 l = 0xCBF43926 ∧ crc64 l = 0x6C40DF5F0B497347) := by decide +kernel

/-- The START body of the example in Packets and ordering: LSEQ 0x3A07, label 0x41, LEN 72, untagged. -/
theorem test_start_body : startBody ⟨0x3A07, 2, 0x41, false, List.replicate 576 0, []⟩ = 0x3A07419000 := by decide +kernel

/-- The domain entry of the example in Stack memory controller: a = 0x0028_E480. -/
theorem test_row_mapping : cwOfRow 0x28E480 = 18 ∧ bankGroup 0x28E480 = 4 ∧ bankIn 0x28E480 = 2 ∧ rowOf 0x28E480 = 40 := by decide

/-- Its address symbols, in Data integrity, on ch12. -/
theorem test_address_symbols : addrSyms 12 0x28E480 = (0xA392#16, 0x3000#16) := by decide

/-- The example of Vector streaming: 800 × 10^6 B/s gives INC 0x51EB_851F. -/
theorem test_inc : (card 16000).vxuInc 0 = 0x51EB851F := by decide +kernel

/-- The example of Fail cadastre: the packed record translates into block 2. -/
theorem test_translate : (translate platBytes 0x5A3C1F27 0x24).map (fun y => (y.block, y.row)) = some (2, 0xD1E0) := by decide +kernel

/-- The fuse header of 122 words in class 4, as R433 lays it out. -/
theorem test_fuse_header : (fuseImage 5 122 []).headD 0 = 0x0400007A00000000#64 := by decide +kernel

/-- The example of Register interface: a single-byte write is answered E_WIDTH and recorded as 0x0304_0012. -/
theorem test_error_info :
    after (.registerWrite ⟨.chain 0, 0x12⟩ 0xA0221 0 9 false)
      { run .service with sec := { (run .service).sec with sessions := [(0, session 0x12 .operator)] } } (.ok, 0)
      (fun t => (t.answer.status, t.rdN Reg.GLB_ERR_INFO)) = (.eWidth, 0x03040012) := by decide +kernel

/-- An idle tick of SCLK moves GTIME; a command at the front runs. -/
theorem test_step : (match step (run .service) with | .next t => t.gtime == 1 | _ => false) = true ∧
    (match step { run .service with pending := [.resetNLow] } with | .next t => t.pending == [] && t.mode == .cold | _ => false) = true := by
  decide +kernel

/-- SHA-512 and HMAC-SHA-512 of "abc" under the key "abc", and an ECDSA P-521 key and signature of "abc" that OpenSSL made. -/
theorem test_crypto :
    sha512Bytes [0x61, 0x62, 0x63] = beString 64 0xDDAF35A193617ABACC417349AE20413112E6FA4E89A97EA20A9EEEE64B55D39A2192992A274FC1A836BA3C23A3FEEBBD454D4423643CE80E2A9AC94FA54CA49F ∧
    bytes64 (hmac512 [0x61, 0x62, 0x63] [0x61, 0x62, 0x63]) = beString 64 0x1A97E05C35E6727690DFDF2E8079B34FEFABF15236ABC9170DCCDCF5623E4C5CE72A446842BD7607186C9E3F21C0A0EDF6AB6C5EC8304A1F969C20C1455E9B7C ∧
    (let key := beString 133 (0x0401EC0F2F72073E4C82C03DA6576A38BCDA8131596938CCB69A4F56726C01E062FF9E81FE65E0B3548F17A930F45A98013928E8C3BAC8FFA764E7C929D688993356 * 2 ^ 536 +
      0x5800031366FBF5D07586BF241EAE05523BC9AB0B7297FE0DE4FD12FAAB16CFB6F69CA3B57370F9BB36DE5BF6615D74F9EAE7C54FB422D5EC3F14828BC7986BD542984A)
     let sig := beString 132 (0x01C8696F3FD690B335C873C76B92698F9536E0F81C6AAAB1F985118A9C8D11BB5733518059317CF29492E283CE9AE2EEBA2DFECBA2302A3B8413A5AC2F4230C0B906 * 2 ^ 528 +
       0x0044CAC5CE20051041B4136957EE5D8487D184EAEEFC446EF974401F238FDDA8F2C9032B8C8754438049D9F003983EA8A4D6203DC283B5A713C61B6138BE3ACCBAF1)
     p521Valid key = true ∧ ecdsaVerify key [0x61, 0x62, 0x63] sig = true ∧ ecdsaVerify key [0x61, 0x62, 0x64] sig = false) := by
  decide +kernel

end Sys2Proof.Tests
end

section
/-! PROOFS. The reset state, and what a register write stores: the role checks of a write as the Owner passes them, the ways
REGISTER_WRITE can go, and what each of them leaves in the registers (R423, R493, R494, R496, R500). -/
namespace Sys2Proof.Machine

/-! ### The state after reset -/

/-- Nothing is listed in the register file after reset, so every word reads its Reset column (R3). -/
theorem State.rd_reset (a : Nat) : State.reset.rd a = resetWord a := rfl

/-- Settles O2: the register file reads its Reset column because it lists nothing; the rest are fields of the initial state. -/
theorem resetState : Obligations.ResetState := by
  refine ⟨rfl, State.rd_reset, rfl, rfl, rfl, rfl, ?_, rfl, ?_⟩
  · exact ⟨rfl, rfl⟩
  · decide

/-! ### The role checks of a write (R408, R423) -/

/-- The role checks of a write never hold for the Owner, so the checks behind them decide. -/
theorem State.firstStatus_writeChecks_owner {s : State} {r : Req} (h : s.role r = some .owner) (a : Nat)
    (l : List (Bool × Status)) : firstStatus (s.writeChecks r a ++ l) = firstStatus l := by
  unfold State.writeChecks
  split
  · simp [State.ownerChecks, firstStatus, h]
  · simp [State.hostChecks, firstStatus, h]

/-- The role checks alone pass for the Owner. -/
theorem State.firstStatus_writeChecks_owner_ok {s : State} {r : Req} (h : s.role r = some .owner) (a : Nat) :
    firstStatus (s.writeChecks r a) = .ok := by
  have := State.firstStatus_writeChecks_owner h a []
  rwa [List.append_nil] at this

/-- The role checks made before the register is known never hold for the Owner either. -/
theorem State.firstStatus_earlyChecks_owner {s : State} {r : Req} (h : s.role r = some .owner) (a : Nat) (v : BitVec 64)
    (l : List (Bool × Status)) : firstStatus (s.earlyChecks r a v ++ l) = firstStatus l := by
  unfold State.earlyChecks
  split
  · simp [firstStatus, h]
  · exact State.firstStatus_writeChecks_owner h a l

/-- Without a session every write fails its first check. -/
theorem State.firstStatus_earlyChecks_none {s : State} {r : Req} (h : s.role r = none) (a : Nat) (v : BitVec 64)
    (l : List (Bool × Status)) : firstStatus (s.earlyChecks r a v ++ l) = .eAuth := by
  unfold State.earlyChecks State.writeChecks
  split
  · simp [firstStatus, h]
  · split
    · simp [State.ownerChecks, firstStatus, h]
    · simp [State.hostChecks, firstStatus, h]

/-- An Observer writes nothing but a commit and an alert acknowledgement, whose checks are their own. -/
theorem State.firstStatus_earlyChecks_observer {s : State} {r : Req} (h : s.role r = some .observer) {a : Nat}
    (hc : a ≠ Reg.GLB_COMMIT) (hf : a ≠ Reg.FLT_CMD) (v : BitVec 64) (l : List (Bool × Status)) :
    firstStatus (s.earlyChecks r a v ++ l) = .ePriv := by
  unfold State.earlyChecks State.writeChecks
  rw [if_neg (by simp [hc, hf])]
  split
  · simp [State.ownerChecks, firstStatus, h]
  · simp [State.hostChecks, firstStatus, h]

/-! ### What a refused write leaves -/

/-- A status that is neither counted (R424) nor raises LOCKED_WRITE (R495) leaves every register but the error record's. -/
theorem State.rd_reject_uncounted (s : State) (r : Req) (a : Nat) (w : Bool) (z b : Nat) {st : Status}
    (hst : st = .eAccess ∨ st = .eBusy) (hA : b ≠ Reg.GLB_ERR_ADDR) (hI : b ≠ Reg.GLB_ERR_INFO) (hC : b ≠ Reg.GLB_ERR_CNT)
    (hE : b ≠ Reg.GLB_EVENTS) : (s.reject r a w z st).rd b = s.rd b := by
  rcases hst with rfl | rfl <;>
    simp [State.reject, State.countRefusal, State.event, State.setBits, State.satInc, State.wrN, State.rd_wr, hA, hI, hC, hE]

/-! ### A word stored -/

@[simp] theorem State.storeWord_shadow (s : State) (row : RegRow) (a : Nat) (v : Word) :
    (s.storeWord row a v).shadow = s.shadow := by
  simp [State.storeWord]

/-- Another word is left as it was. -/
theorem State.rd_storeWord_ne (s : State) (row : RegRow) {a b : Nat} (v : Word) (h : b ≠ a) :
    (s.storeWord row a v).rd b = s.rd b :=
  State.rd_wr_ne _ _ _ _ h

/-- The word itself: the RW fields as written, the W1C bits written with 1 clear, the rest as before (R4, R494). -/
theorem State.rd_storeWord_same (s : State) (row : RegRow) (a : Nat) (v : Word) :
    (s.storeWord row a v).rd a =
      ((s.rd a &&& ~~~ row.wordBits a row.rw) ||| (v &&& row.wordBits a row.rw)) &&& ~~~ (v &&& row.wordBits a row.w1c) :=
  State.rd_wr_same _ _ _

/-- The first word of a register takes the register's low bits. -/
theorem RegRow.wordBits_first {row : RegRow} {a : Nat} (h : row.elem a = a) (bits : Nat) :
    row.wordBits a bits = BitVec.ofNat 32 bits := by
  simp [RegRow.wordBits, h]

/-! ### The halves of a 64-bit register (R496) -/

/-- Banks of 64-bit registers lie a multiple of 8 bytes apart. -/
theorem regMapOf_stride8 (a : Nat) :
    (regMapOf a).all (fun row => row.width != 8 || row.stride % 8 == 0) = true := by
  unfold regMapOf
  split
  case h_12 => split <;> decide
  all_goals decide

/-- What `row64` finds: a register of the map that is 8 bytes wide and starts at the address. -/
theorem row64_spec {a : Nat} {row : RegRow} (h : row64 a = some row) :
    row.width = 8 ∧ row.elem a = a ∧ row.stride % 8 = 0 ∧ row.base + row.off ≤ a := by
  unfold row64 at h
  split at h
  case h_2 => cases h
  rename_i row' hrow
  split at h
  case isFalse => cases h
  rename_i hw
  cases h
  have hmem := List.mem_of_find?_eq_some hrow
  have hcov := List.find?_some hrow
  have hstride := List.all_eq_true.mp (regMapOf_stride8 a) row hmem
  refine ⟨hw.1, hw.2, by simpa [hw.1] using hstride, ?_⟩
  by_contra hlt
  simp [RegRow.covers, Nat.lt_of_not_le hlt] at hcov

/-- The second word of a 64-bit register is not its start. -/
theorem RegRow.elem_high_ne {a : Nat} {row : RegRow} (h : row64 a = some row) : a + 4 ≠ row.elem (a + 4) := by
  obtain ⟨hw, he, hs, hle⟩ := row64_spec h
  have hmod : ∀ d, (if row.stride = 0 then d else d % row.stride) % row.width = d % 8 := by
    intro d
    rw [hw]
    split
    · rfl
    · exact Nat.mod_mod_of_dvd _ (Nat.dvd_of_mod_eq_zero hs)
  simp only [RegRow.elem, hmod] at he ⊢
  omega

/-- The second word of a 64-bit register takes the register's high bits. -/
theorem RegRow.wordBits_high {a : Nat} {row : RegRow} (h : row64 a = some row) (bits : Nat) :
    row.wordBits (a + 4) bits = BitVec.ofNat 32 (bits / 2 ^ 32) := by
  simp [RegRow.wordBits, RegRow.elem_high_ne h]

/-! ### A register without a command of its own (R493 steps 6 to 8) -/

section
variable {s : State} {row : RegRow} {a : Nat} (r : Req) (size v : Nat)

/-- No writable field: E_ACCESS. -/
theorem State.writePlain_readOnly (hw : row.writable = 0) :
    s.writePlain r row a size v = s.reject r a true size .eAccess := by
  simp [State.writePlain, hw]

variable (hrec : s.upd.recovery = false) (hw : row.writable ≠ 0) (hl : ¬ (0xA1000 ≤ a ∧ a < 0xA1018))
include hrec hw hl

/-- RWS fields whose run-time change is not granted: E_LOCKED (R45). -/
theorem State.writePlain_locked (hs : row.rws ≠ 0) (hg : bitOf s.cfg.runtime (runtimeBit a) = false) :
    s.writePlain r row a size v = s.reject r a true size .eLocked := by
  simp [State.writePlain, State.notGranted, hrec, hw, hl, hs, hg]

/-- RWS fields whose run-time change is granted: the shadow is written (R500). -/
theorem State.writePlain_shadow (hs : row.rws ≠ 0) (hg : bitOf s.cfg.runtime (runtimeBit a) = true)
    (hok : s.plainStatus a v = .ok) :
    s.writePlain r row a size v = (s.storeShadow row a (BitVec.ofNat 32 v)).reply .ok := by
  simp [State.writePlain, State.notGranted, hrec, hw, hl, hs, hg, hok]

/-- A 4-byte register without RWS fields is stored (R494). -/
theorem State.writePlain_word (hs : row.rws = 0) (h4 : row.width = 4) (hok : s.plainStatus a v = .ok) :
    s.writePlain r row a size v = (s.storeWord row a (BitVec.ofNat 32 v)).reply .ok := by
  simp [State.writePlain, hrec, hw, hl, hs, h4, hok]

/-- A 64-bit register without RWS fields is stored, both halves (R496). -/
theorem State.writePlain_double (hs : row.rws = 0) (h8 : row.width = 8) (hok : s.plainStatus a v = .ok) :
    s.writePlain r row a size v =
      ((s.storeWord row a (BitVec.ofNat 32 v)).storeWord row (a + 4) (BitVec.ofNat 32 (v / 2 ^ 32))).reply .ok := by
  simp [State.writePlain, hrec, hw, hl, hs, h8, hok]

end

/-! ### The ways REGISTER_WRITE can go (R493, R496) -/

/-- The command's size operand is the log 2 of the access size in bytes (R487). -/
theorem exec_registerWrite (r : Req) (a : BitVec 32) (size : Fin 4) (v : BitVec 64) (late : Bool) (s : State) :
    exec (.registerWrite r a size v late) s = .next (s.regWrite r a.toNat (2 ^ size.val) v late) := rfl

/-- A failed check is answered whether or not the register answers in time. -/
theorem lateStatus_of_ne_ok (late : Bool) {st : Status} (h : st ≠ .ok) : lateStatus late st = st := by
  simp [lateStatus, h]

/-- A write that fails the checks made before its register is known is refused with their status. -/
theorem State.regWrite_refused {s : State} {r : Req} {a size : Nat} {v : BitVec 64} {late : Bool} {st : Status}
    (hst : firstStatus (s.earlyChecks r (a / 4 * 4) v ++ [(a % size != 0, .eAlign), (decide (size < 4), .eWidth)]) = st)
    (hne : st ≠ .ok) : s.regWrite r a size v late = s.reject r a true (sizeCode size) st := by
  simp [State.regWrite, hst, lateStatus_of_ne_ok late hne, hne]

/-- An unaligned write by the Owner. -/
theorem State.regWrite_unaligned {s : State} {r : Req} (ho : s.role r = some .owner) {a size : Nat} (ha : a % size ≠ 0)
    (v : BitVec 64) (late : Bool) : s.regWrite r a size v late = s.reject r a true (sizeCode size) .eAlign :=
  State.regWrite_refused (by simp [State.firstStatus_earlyChecks_owner ho, firstStatus, ha]) (by decide)

/-- An aligned write by the Owner of 1 or 2 bytes. -/
theorem State.regWrite_narrow {s : State} {r : Req} (ho : s.role r = some .owner) {a size : Nat} (ha : a % size = 0)
    (hz : size < 4) (v : BitVec 64) (late : Bool) :
    s.regWrite r a size v late = s.reject r a true (sizeCode size) .eWidth :=
  State.regWrite_refused (by simp [State.firstStatus_earlyChecks_owner ho, firstStatus, ha, hz]) (by decide)

section
variable {s : State} {r : Req} (ho : s.role r = some .owner) {a : Nat}
include ho

/-- An aligned write of 4 or 8 bytes by the Owner whose register does not answer in time (R487). -/
theorem State.regWrite_late {size : Nat} (ha : a % size = 0) (hz : 4 ≤ size) (v : BitVec 64) :
    s.regWrite r a size v true = s.reject r a true (sizeCode size) .eBusy := by
  simp [State.regWrite, State.firstStatus_earlyChecks_owner ho, firstStatus, ha, Nat.not_lt.mpr hz, lateStatus]

/-- An aligned 4-byte write by the Owner. -/
theorem State.regWrite_four (ha : a % 4 = 0) (v : BitVec 64) : s.regWrite r a 4 v false = s.write4 r a (v.truncate 32) := by
  simp [State.regWrite, State.firstStatus_earlyChecks_owner ho, firstStatus, ha, lateStatus]

/-- An aligned 8-byte write by the Owner. -/
theorem State.regWrite_eight (ha : a % 8 = 0) (v : BitVec 64) : s.regWrite r a 8 v false = s.write8 r a v := by
  simp [State.regWrite, State.firstStatus_earlyChecks_owner ho, firstStatus, ha, lateStatus]

/-- A reserved location is written without effect. -/
theorem State.write4_reserved {v : Word} (hc : s.writeCommand r a v = none) (hr : regRow? a = none) :
    s.write4 r a v = s.reply .ok := by
  simp [State.write4, hc, State.firstStatus_writeChecks_owner_ok ho, hr]

/-- A word of a 4-byte register that stands for no command is written as a plain register. -/
theorem State.write4_plain {v : Word} {row : RegRow} (hc : s.writeCommand r a v = none) (hr : regRow? a = some row)
    (h4 : row.width = 4) : s.write4 r a v = s.writePlain r row a 2 v.toNat := by
  simp [State.write4, hc, State.firstStatus_writeChecks_owner_ok ho, hr, h4]

/-- A 64-bit register written whole is written as a plain register. -/
theorem State.write8_plain {row : RegRow} (hr : row64 a = some row) (v : BitVec 64) :
    s.write8 r a v = s.writePlain r row a 3 v.toNat := by
  simp [State.write8, hr, State.firstStatus_writeChecks_owner_ok ho]

end

/-- A word that stands for a command does what its command does. -/
theorem State.write4_command {s t : State} {r : Req} {a : Nat} {v : Word} (hc : s.writeCommand r a v = some t) :
    s.write4 r a v = t := by
  simp [State.write4, hc]

/-! ### Both halves stored -/

/-- A 64-bit value as the two words its halves are stored as. -/
theorem extractLsb'_half (v : BitVec 64) (h : Fin 2) :
    v.extractLsb' (32 * h) 32 = BitVec.ofNat 32 (v.toNat / 2 ^ (32 * h.val)) := by
  apply BitVec.eq_of_toNat_eq
  simp [Nat.shiftRight_eq_div_pow]

/-- After both halves of a 64-bit register are stored, each half has taken its own bits of the value. -/
theorem State.rd_storeWord_halves (s : State) {row : RegRow} {a : Nat} (hr : row64 a = some row) (v : BitVec 64) (h : Fin 2) :
    ((s.storeWord row a (BitVec.ofNat 32 v.toNat)).storeWord row (a + 4) (BitVec.ofNat 32 (v.toNat / 2 ^ 32))).rd (a + 4 * h) =
      ((s.rd (a + 4 * h) &&& ~~~ BitVec.ofNat 32 (row.rw / 2 ^ (32 * h.val))) |||
        (v.extractLsb' (32 * h) 32 &&& BitVec.ofNat 32 (row.rw / 2 ^ (32 * h.val)))) &&&
          ~~~ (v.extractLsb' (32 * h) 32 &&& BitVec.ofNat 32 (row.w1c / 2 ^ (32 * h.val))) := by
  obtain ⟨-, he, -, -⟩ := row64_spec hr
  rw [extractLsb'_half]
  match h with
  | 0 =>
    rw [State.rd_storeWord_ne _ _ _ (by simp)]
    simpa [RegRow.wordBits_first he] using State.rd_storeWord_same s row a (BitVec.ofNat 32 v.toNat)
  | 1 =>
    have hlow := State.rd_storeWord_ne s row (BitVec.ofNat 32 v.toNat) (by omega : a + 4 ≠ a)
    have hhigh := State.rd_storeWord_same (s.storeWord row a (BitVec.ofNat 32 v.toNat)) row (a + 4)
      (BitVec.ofNat 32 (v.toNat / 2 ^ 32))
    rw [hlow, RegRow.wordBits_high hr, RegRow.wordBits_high hr] at hhigh
    exact hhigh

/-! ### The obligation -/

/-- Settles O34: the checks made before the register is known decide the refused writes; what passes them is a command's, a
reserved location's or a plain register's write, and each of these has its own lemma above. -/
theorem registerWrites : Obligations.RegisterWrites := by
  intro s r a v row late hrec errorOnly
  have hone : BitVec.ofNat 32 (v.truncate 32).toNat = v.truncate 32 := BitVec.ofNat_toNat _ _
  have hval : (v.truncate 32).toNat = v.toNat % 2 ^ 32 := BitVec.toNat_setWidth _ _
  have hfour : s.role r = some .owner → a.toNat % 4 = 0 →
      exec (.registerWrite r a 2 v false) s = .next (s.write4 r a.toNat (v.truncate 32)) := fun ho ha =>
    congrArg Host.Outcome.next (State.regWrite_four ho ha v)
  have hrefused : ∀ (z : Nat) (st : Status), st = .eAccess ∨ st = .eBusy → errorOnly (s.reject r a.toNat true z st) :=
    fun z st hst => ⟨by simp, fun b hA hI hC hE => State.rd_reject_uncounted s r _ _ z b hst hA hI hC hE⟩
  refine ⟨?command, ?reserved, ?word, ?double, ?noSession, ?observer, ?unaligned, ?narrow, ?busy⟩
  case command =>
    intro ho ha t hc
    rw [hfour ho ha, State.write4_command hc]
  case reserved =>
    intro ho ha hc hr
    rw [hfour ho ha, State.write4_reserved ho hc hr]
  case word =>
    intro ho hr h4 he ha hc hl
    rw [hfour ho ha, State.write4_plain ho hc hr h4, hval]
    refine ⟨fun hw => ?_, fun hw hs hg => ?_, fun hw hs hg hok => ?_, fun hw hs hok => ?_⟩
    · rw [State.writePlain_readOnly r 2 _ hw]
      exact ⟨_, rfl, State.answer_reject .., hrefused 2 _ (.inl rfl)⟩
    · rw [State.writePlain_locked r 2 _ hrec hw hl hs hg]
      exact ⟨_, rfl, State.answer_reject .., by simp⟩
    · rw [State.writePlain_shadow r 2 _ hrec hw hl hs hg hok, ← hval, hone, State.storeShadow, RegRow.wordBits_first he]
    · rw [State.writePlain_word r 2 _ hrec hw hl hs h4 hok, ← hval, hone]
      refine ⟨_, rfl, State.answer_reply .., by simp, fun b hb => ?_, ?_⟩
      · rw [State.rd_reply, State.rd_storeWord_ne _ _ _ hb]
      · rw [State.rd_reply, State.rd_storeWord_same, RegRow.wordBits_first he, RegRow.wordBits_first he]
  case double =>
    intro ho hr ha hl hw hs hok
    obtain ⟨h8, -, -, -⟩ := row64_spec hr
    have hexec : exec (.registerWrite r a 3 v false) s = .next (s.write8 r a.toNat v) :=
      congrArg Host.Outcome.next (State.regWrite_eight ho ha v)
    rw [hexec, State.write8_plain ho hr, State.writePlain_double r 3 _ hrec hw hl hs h8 hok]
    refine ⟨_, rfl, State.answer_reply .., by simp, fun b hb hb4 => ?_, fun h => ?_⟩
    · rw [State.rd_reply, State.rd_storeWord_ne _ _ _ hb4, State.rd_storeWord_ne _ _ _ hb]
    · exact (State.rd_reply ..).trans (State.rd_storeWord_halves s hr v h)
  case noSession =>
    intro hn size
    rw [exec_registerWrite, State.regWrite_refused (State.firstStatus_earlyChecks_none hn _ v _) (by decide)]
    exact ⟨_, rfl, State.answer_reject .., by simp⟩
  case observer =>
    intro hobs hc hf size
    rw [exec_registerWrite, State.regWrite_refused (State.firstStatus_earlyChecks_observer hobs hc hf v _) (by decide)]
    exact ⟨_, rfl, State.answer_reject .., by simp⟩
  case unaligned =>
    intro ho size ha
    rw [exec_registerWrite, State.regWrite_unaligned ho ha]
    exact ⟨_, rfl, State.answer_reject .., by simp⟩
  case narrow =>
    intro ho size hz ha
    have hz4 : 2 ^ size.val < 4 := Nat.pow_lt_pow_right (by decide : 1 < 2) hz
    rw [exec_registerWrite, State.regWrite_narrow ho ha hz4]
    exact ⟨_, rfl, State.answer_reject .., by simp⟩
  case busy =>
    intro ho size hz ha
    have hz4 : 4 ≤ 2 ^ size.val := Nat.pow_le_pow_right (by decide : 0 < 2) hz
    rw [exec_registerWrite, State.regWrite_late ho ha hz4]
    exact ⟨_, rfl, State.answer_reject .., hrefused _ _ (.inr rfl)⟩

end Sys2Proof.Machine
end

section
/-! PROOFS. The clock and the two slow ports: every command but the fourteen of the pins, the I3C bus and the test port keeps what
the always-on island watches; those keep the queue and GTIME (two of them set it to zero) and the bounds of the ports (R16, R488,
R490, R491, R531, R532). -/
namespace Sys2Proof.Machine

/-! ### What the I3C port and the test port may hold -/

/-- The bounds of the I3C port: its counts saturate, its address has 7 bits (R488, R490, R491). -/
def I3cSt.sound (p : I3cSt) : Prop := p.badFrame ≤ 255 ∧ p.dropped ≤ 65535 ∧ ∀ a, p.da = some a → a < 128

/-- The bounds of the test port: an 8-bit instruction and 43 boundary cells (R531, R532). -/
def TapSt.sound (p : TapSt) : Prop := p.ir < 256 ∧ p.cells.length = 43

/-- The invariant part by part: the clock behind the lock, the lock behind RESET_N, the two ports. -/
theorem State.edgeSound_iff (s : State) : s.edgeSound = true ↔
    (s.aon.pll = false → s.gtime = 0) ∧ (s.aon.pll = true → s.aon.resetN = true) ∧ s.i3c.sound ∧ s.tap.sound := by
  simp only [State.edgeSound, I3cSt.sound, TapSt.sound, Bool.and_eq_true, Bool.or_eq_true, Bool.not_eq_true', beq_iff_eq,
    decide_eq_true_eq, Option.all_eq_true, and_assoc]
  cases s.aon.pll <;> simp

/-- What a command does that moves neither the queue nor GTIME: the invariant stays. -/
structure EdgeStep (s t : State) : Prop where
  pending : t.pending = s.pending
  gtime : t.gtime = s.gtime
  sound : s.edgeSound = true → t.edgeSound = true

theorem EdgeStep.refl (s : State) : EdgeStep s s := ⟨rfl, rfl, id⟩

theorem EdgeStep.trans {s t u : State} (h : EdgeStep s t) (k : EdgeStep t u) : EdgeStep s u :=
  ⟨k.pending.trans h.pending, k.gtime.trans h.gtime, k.sound ∘ h.sound⟩

/-- What keeps all that the island watches keeps the invariant. -/
theorem EdgeStep.of_kept {s t : State} (h : KeptEdge s t) : EdgeStep s t := by
  obtain ⟨hq, hg, ha, ht, hda, hb, hd⟩ := h
  exact ⟨hq, hg, fun hs => by simpa [State.edgeSound_iff, I3cSt.sound, hg, ha, ht, hda, hb, hd] using hs⟩

/-- A change of the I3C port within its bounds. -/
theorem State.i3c_edgeStep (s : State) {p : I3cSt} (h : s.i3c.sound → p.sound) : EdgeStep s { s with i3c := p } := by
  refine ⟨rfl, rfl, fun hs => ?_⟩
  rw [State.edgeSound_iff] at hs ⊢
  obtain ⟨hc, hl, hi, ht⟩ := hs
  exact ⟨hc, hl, h hi, ht⟩

/-- A change of the test port within its bounds. -/
theorem State.tap_edgeStep (s : State) {p : TapSt} (h : s.tap.sound → p.sound) : EdgeStep s { s with tap := p } := by
  refine ⟨rfl, rfl, fun hs => ?_⟩
  rw [State.edgeSound_iff] at hs ⊢
  obtain ⟨hc, hl, hi, ht⟩ := hs
  exact ⟨hc, hl, hi, h ht⟩

/-- A pin that rises, or PWRGOOD that falls: the lock stays, and RESET_N does not fall. -/
theorem State.aon_edgeStep (s : State) (p : AonSt) (hl : p.pll = s.aon.pll) (hr : s.aon.resetN = true → p.resetN = true) :
    EdgeStep s { s with aon := p } := by
  refine ⟨rfl, rfl, fun hs => ?_⟩
  rw [State.edgeSound_iff] at hs ⊢
  obtain ⟨hc, hlock, hi, ht⟩ := hs
  exact ⟨fun h => hc (hl ▸ h), fun h => hr (hlock (hl ▸ h)), hi, ht⟩

/-! ### RESET_N, PWRGOOD and a FATAL fault -/

theorem EdgeStep.coldStart {s t : State} (h : EdgeStep s t) : EdgeStep s t.coldStart := h.trans (.of_kept t.coldStart_edge)

theorem State.pwrgoodLost_edgeStep (s : State) : EdgeStep s s.pwrgoodLost := by
  have hfall := s.aon_edgeStep { s.aon with pwrgood := false } rfl id
  unfold State.pwrgoodLost
  dsimp only
  split
  · exact .refl s
  · split
    · exact hfall.trans (.of_kept (State.fatal_edge ..))
    · exact hfall

theorem State.fatalSource_edgeStep (s : State) (src a b : Nat) : EdgeStep s (s.fatalSource src a b) := by
  by_cases h : src = 7
  · subst h
    exact s.pwrgoodLost_edgeStep
  · exact .of_kept (State.fatalSource_edge s src a b h)

/-- What RESET_N keeps of the queue and of the test port, whatever the ledger is found to hold (R524). -/
theorem State.afterReset_keeps (s : State) : s.afterReset.pending = s.pending ∧ s.afterReset.tap = s.tap := by
  simp [State.afterReset]

theorem State.afterReset_edgeSound (s : State) (h : s.edgeSound = true) : s.afterReset.edgeSound = true := by
  rw [State.edgeSound_iff] at h ⊢
  obtain ⟨-, -, -, ht⟩ := h
  refine ⟨fun _ => rfl, fun h => absurd h Bool.false_ne_true, ⟨Nat.zero_le _, Nat.zero_le _, nofun⟩, ?_⟩
  rw [s.afterReset_keeps.2]
  exact ht

/-- The lock zeroes GTIME and comes only with RESET_N high. -/
theorem execRootPllLock_keeps {s t : State} (h : execRootPllLock s = .next t) :
    t.pending = s.pending ∧ (t.gtime = s.gtime ∨ t.gtime = 0) ∧ (s.edgeSound = true → t.edgeSound = true) := by
  unfold execRootPllLock at h
  split at h
  next hlock =>
    cases h
    refine ⟨rfl, .inr rfl, fun hs => ?_⟩
    rw [State.edgeSound_iff] at hs ⊢
    exact ⟨fun _ => rfl, fun _ => hlock.1, hs.2.2⟩
  next =>
    cases h
    exact ⟨rfl, .inl rfl, id⟩

/-! ### The I3C port -/

theorem State.takeAddress_edgeStep (s : State) (a : BitVec 7) : EdgeStep s (s.takeAddress a.toNat) :=
  s.i3c_edgeStep fun ⟨hb, hd, _⟩ => ⟨hb, hd, fun x hx => by cases hx; exact a.isLt⟩

theorem State.badFrame_edgeStep (s : State) : EdgeStep s s.badFrame :=
  s.i3c_edgeStep fun ⟨_, hd, ha⟩ => ⟨Nat.min_le_left .., hd, ha⟩

theorem State.i3cArrive_edgeStep (s : State) : EdgeStep s s.i3cArrive := by
  unfold State.i3cArrive
  split
  · exact s.i3c_edgeStep fun ⟨hb, _, ha⟩ => ⟨hb, Nat.min_le_left .., ha⟩
  · exact .refl s

theorem State.i3cRead_edgeStep (s : State) (l : List Byte) (late : Bool) : EdgeStep s (s.i3cRead l late) := by
  unfold State.i3cRead
  split
  · exact .of_kept (by simp)
  · exact s.badFrame_edgeStep

theorem State.i3cServe_edge (s : State) (p : Packet) (late : BitVec 32) : KeptEdge s (s.i3cServe p late) := by
  unfold State.i3cServe
  dsimp only
  split
  next v hv => exact KeptEdge_trans (KeptEdge_trans (by simp) (State.enrolBegun_edge _ _ _ _ hv)) (State.servingDone_edge v)
  next => simp

theorem State.i3cFrame_edgeStep (s : State) (l : List Byte) (late : BitVec 32) : EdgeStep s (s.i3cFrame l late) := by
  have hserved : ∀ v : State × Bool, EdgeStep s v.1 → EdgeStep s (if v.2 then v.1.i3cServe (framePacket l) late
      else v.1.i3cAnswer (frameAnswer (newPacket 5 0 (ctlResponse (packetBody (framePacket l)) .eAuth [] 0)))) := by
    intro v hv
    split
    · exact hv.trans (.of_kept (v.1.i3cServe_edge ..))
    · exact hv.trans (.of_kept (v.1.i3cAnswer_edge ..))
  unfold State.i3cFrame
  split
  · refine hserved _ ?_
    split
    · exact .of_kept (s.tagCheck_edge ..)
    · exact .refl s
  · exact s.badFrame_edgeStep

theorem State.i3cWrite_edgeStep (s : State) (l : List Byte) (late : BitVec 32) : EdgeStep s (s.i3cWrite l late) := by
  unfold State.i3cWrite
  split
  · exact .of_kept s.i3cNack_edge
  · split
    · exact s.i3cArrive_edgeStep.trans (State.i3cRead_edgeStep ..)
    · exact s.i3cArrive_edgeStep.trans (State.i3cFrame_edgeStep ..)
    · exact s.i3cArrive_edgeStep.trans (State.badFrame_edgeStep _)

theorem execI3cPrivateRead_edge {s t : State} (h : execI3cPrivateRead s = .next t) : KeptEdge s t := by
  unfold execI3cPrivateRead at h
  split at h <;> (cases h; simp)

theorem execEntdaa_edgeStep {s t : State} {a : BitVec 7} (h : execEntdaa a s = .next t) : EdgeStep s t := by
  unfold execEntdaa at h
  split at h <;> cases h
  · exact .refl s
  · exact (EdgeStep.of_kept (State.i3cReturn_edge ..)).trans (State.takeAddress_edgeStep ..)

theorem execSetdasa_edgeStep {s t : State} {st a : BitVec 7} (h : execSetdasa st a s = .next t) : EdgeStep s t := by
  unfold execSetdasa at h
  split at h <;> cases h
  · exact s.takeAddress_edgeStep a
  · exact .refl s

theorem execSetnewda_edgeStep {s t : State} {a : BitVec 7} (h : execSetnewda a s = .next t) : EdgeStep s t := by
  unfold execSetnewda at h
  split at h <;> cases h
  · exact s.takeAddress_edgeStep a
  · exact .refl s

theorem execRstdaa_edgeStep {s t : State} (h : execRstdaa s = .next t) : EdgeStep s t := by
  cases h
  exact s.i3c_edgeStep fun ⟨hb, hd, _⟩ => ⟨hb, hd, nofun⟩

/-! ### The test port -/

theorem EdgeStep.draw {s t : State} (h : EdgeStep s t) : EdgeStep s t.draw := h.trans (.of_kept t.draw_edge)

theorem State.emit_edgeStep (s : State) (e : Emission) : EdgeStep s (s.emit e) := .of_kept (s.emit_edge e)

theorem State.setShift_edgeStep (s : State) (l : List Bool) : EdgeStep s (s.setShift l) := s.tap_edgeStep id

theorem State.tapShift_edgeStep (s : State) (tdi : Bool) : EdgeStep s (s.tapShift tdi) := by
  unfold State.tapShift
  split
  · exact (s.emit_edgeStep _).draw
  · exact (s.emit_edgeStep _).trans (State.setShift_edgeStep _ _)

/-- The bits put out by a TAP step, and the free values it draws, are no part of what the island watches. -/
theorem State.tapAct_edgeStep (s : State) (tdi : Bool) : EdgeStep s (s.tapAct tdi) := by
  unfold State.tapAct
  split
  case h_1 | h_2 => exact (s.setShift_edgeStep _).draw
  case h_3 | h_4 => exact s.tapShift_edgeStep tdi
  case h_5 => exact .refl s

theorem bitsUp_length (count n : Nat) : (bitsUp count n).length = count := by
  simp [bitsUp]

theorem State.tapReset_edgeStep (s : State) : EdgeStep s s.tapReset :=
  s.tap_edgeStep fun ⟨_, hc⟩ => ⟨show 1 < 256 by decide, hc⟩

/-- An instruction taken keeps 8 bits, and boundary cells taken are 43 (R531, R532). -/
theorem State.tapEnter_edgeStep (s : State) (t : TapState) : EdgeStep s (s.tapEnter t) := by
  have hstate : EdgeStep s { s with tap := { s.tap with state := t } } := s.tap_edgeStep id
  unfold State.tapEnter
  dsimp only
  split
  · exact s.tap_edgeStep fun ⟨_, hc⟩ => ⟨Nat.mod_lt _ (by decide), hc⟩
  · split
    · refine EdgeStep.draw (s.tap_edgeStep fun ⟨hi, _⟩ => ⟨hi, ?_⟩)
      split
      · assumption
      · exact bitsUp_length ..
    · exact hstate
  · exact s.tapReset_edgeStep
  · exact hstate

theorem State.tapSteps_edgeStep (steps : List (Bool × Bool)) (s : State) : EdgeStep s (steps.foldl State.tapStep s) := by
  induction steps generalizing s with
  | nil => exact .refl s
  | cons e rest ih => exact ((s.tapAct_edgeStep e.2).trans (State.tapEnter_edgeStep ..)).trans (ih _)

theorem execTestAccessPortOperation_edgeStep {s t : State} {trstN : Bool} {steps : List (Bool × Bool)}
    (h : execTestAccessPortOperation trstN steps s = .next t) : EdgeStep s t := by
  unfold execTestAccessPortOperation at h
  split at h <;> cases h
  · exact State.tapSteps_edgeStep steps s
  · exact s.tapReset_edgeStep

/-! ### Every command -/

/-- Every command but those of the pins, the I3C bus and the test port keeps what the always-on island watches. -/
theorem exec_edge (c : Instr) (s t : State) (ho : outerCmd c = false) (h : exec c s = .next t) : KeptEdge s t := by
  cases c with
  | resetNLow | resetNRelease | rootPllLock | pwrgoodRise | pwrgoodLost | fatalFault | i3cDirectRead | i3cCtlFrame | i3cPrivateRead
  | entdaa | setdasa | setnewda | rstdaa | testAccessPortOperation => exact Bool.noConfusion (ho : true = false)
  | clockLost pll => exact execClockLost_edge pll s t h
  | shutdownRearm => exact execShutdownRearm_edge s t h
  | loadEntry found => exact execLoadEntry_edge found s t h
  | loadComplete r => exact execLoadComplete_edge r s t h
  | modeReqService r cal => exact execModeReqService_edge r cal s t h
  | modeReqHold r => exact execModeReqHold_edge r s t h
  | holdEntryComplete => exact execHoldEntryComplete_edge s t h
  | modeReqMaintain r => exact execModeReqMaintain_edge r s t h
  | warmLoad => exact execWarmLoad_edge s t h
  | vxuStart r u => exact execVxuStart_edge r u s t h
  | vxuPause r u => exact execVxuPause_edge r u s t h
  | vxuResume r u => exact execVxuResume_edge r u s t h
  | vxuStop r u => exact execVxuStop_edge r u s t h
  | vxuHeaderCheck u intact => exact execVxuHeaderCheck_edge u intact s t h
  | vxuReady u => exact execVxuReady_edge u s t h
  | startDeadlineExpire u => exact execStartDeadlineExpire_edge u s t h
  | startMark u => exact execStartMark_edge u s t h
  | vxuFrameSlot u cycles => exact execVxuFrameSlot_edge u cycles s t h
  | vxuProgramFetch u intact => exact execVxuProgramFetch_edge u intact s t h
  | vxuBoundStop u => exact execVxuBoundStop_edge u s t h
  | vecPacketClose u => exact execVecPacketClose_edge u s t h
  | nop u => exact execNop_edge u s t h
  | lit u => exact execLit_edge u s t h
  | rlit u => exact execRlit_edge u s t h
  | tpl u => exact execTpl_edge u s t h
  | emit u => exact execEmit_edge u s t h
  | emits u => exact execEmits_edge u s t h
  | setx u => exact execSetx_edge u s t h
  | addx u => exact execAddx_edge u s t h
  | andx u => exact execAndx_edge u s t h
  | orx u => exact execOrx_edge u s t h
  | xorx u => exact execXorx_edge u s t h
  | cpyx u => exact execCpyx_edge u s t h
  | xadd u => exact execXadd_edge u s t h
  | setm u => exact execSetm_edge u s t h
  | field u => exact execField_edge u s t h
  | loop u => exact execLoop_edge u s t h
  | endl u => exact execEndl_edge u s t h
  | call u => exact execCall_edge u s t h
  | ret u => exact execRet_edge u s t h
  | mark u => exact execMark_edge u s t h
  | pausept u => exact execPausept_edge u s t h
  | endProg u => exact execEndProg_edge u s t h
  | failPacket k payload => exact execFailPacket_edge k payload s t h
  | failRecord => exact execFailRecord_edge s t h
  | capBlockTimeout p => exact execCapBlockTimeout_edge p s t h
  | gapTimerExpire src => exact execGapTimerExpire_edge src s t h
  | foldRecord => exact execFoldRecord_edge s t h
  | resync r src => exact execResync_edge r src s t h
  | domOpen r upto => exact execDomOpen_edge r upto s t h
  | domClose r fenced upto => exact execDomClose_edge r fenced upto s t h
  | domRelease r upto => exact execDomRelease_edge r upto s t h
  | poolDef r upto => exact execPoolDef_edge r upto s t h
  | poolDel r upto => exact execPoolDel_edge r upto s t h
  | fenceTimerExpire d => exact execFenceTimerExpire_edge d s t h
  | closeRecordBuild d => exact execCloseRecordBuild_edge d s t h
  | readoutSummary r => exact execReadoutSummary_edge r s t h
  | readoutPoints r => exact execReadoutPoints_edge r s t h
  | readoutLines r => exact execReadoutLines_edge r s t h
  | readoutCloseRecord r => exact execReadoutCloseRecord_edge r s t h
  | readoutDone => exact execReadoutDone_edge s t h
  | cadExcRptrWrite r v => exact execCadExcRptrWrite_edge r v s t h
  | raeTakeUp intact => exact execRaeTakeUp_edge intact s t h
  | timeBudgetExpire e nodes => exact execTimeBudgetExpire_edge e nodes s t h
  | nodeBudgetSpent e => exact execNodeBudgetSpent_edge e s t h
  | firstPassEnd e => exact execFirstPassEnd_edge e s t h
  | poolRound pool => exact execPoolRound_edge pool s t h
  | raeEngineError e => exact execRaeEngineError_edge e s t h
  | resultRingCopy => exact execResultRingCopy_edge s t h
  | holdoffExpire => exact execHoldoffExpire_edge s t h
  | reanalyse r => exact execReanalyse_edge r s t h
  | clearLat r => exact execClearLat_edge r s t h
  | raeRingCfgWrite r v => exact execRaeRingCfgWrite_edge r v s t h
  | raeRingRptrWrite r v => exact execRaeRingRptrWrite_edge r v s t h
  | shedEvaluation => exact execShedEvaluation_edge s t h
  | reinstatement => exact execReinstatement_edge s t h
  | holdExceeded n => exact execHoldExceeded_edge n s t h
  | laneSignalDetect l => exact execLaneSignalDetect_edge l s t h
  | noSignal l => exact execNoSignal_edge l s t h
  | trainingFrame l control status atLimit own => exact execTrainingFrame_edge l control status atLimit own s t h
  | trainingEnd l => exact execTrainingEnd_edge l s t h
  | trainTmo l => exact execTrainTmo_edge l s t h
  | lockAchieved l => exact execLockAchieved_edge l s t h
  | lockTmo l => exact execLockTmo_edge l s t h
  | capxMatch l body => exact execCapxMatch_edge l body s t h
  | capxMismatch l body => exact execCapxMismatch_edge l body s t h
  | laneReady l => exact execLaneReady_edge l s t h
  | backoffExpire l => exact execBackoffExpire_edge l s t h
  | chainFormation k windowEnd => exact execChainFormation_edge k windowEnd s t h
  | laneLoss k lanes cond => exact execLaneLoss_edge k lanes cond s t h
  | dropReceived k body => exact execDropReceived_edge k body s t h
  | rejoinAnnounce k => exact execRejoinAnnounce_edge k s t h
  | rejoinAckReceived k body => exact execRejoinAckReceived_edge k body s t h
  | rejoinLapsed k => exact execRejoinLapsed_edge k s t h
  | partnerCommitReceived k body => exact execPartnerCommitReceived_edge k body s t h
  | partnerCommitTimeout k => exact execPartnerCommitTimeout_edge k s t h
  | epochSwitch k transmit => exact execEpochSwitch_edge k transmit s t h
  | laneMarkerSend l => exact execLaneMarkerSend_edge l s t h
  | waddingInsert k => exact execWaddingInsert_edge k s t h
  | retrain r l => exact execRetrain_edge r l s t h
  | prbsCfgWrite r l v => exact execPrbsCfgWrite_edge r l v s t h
  | injectBit r l count => exact execInjectBit_edge r l count s t h
  | injectSymbol r l count => exact execInjectSymbol_edge r l count s t h
  | injectSync r l => exact execInjectSync_edge r l s t h
  | injectLol r l => exact execInjectLol_edge r l s t h
  | packetReceive k slots late => exact execPacketReceive_edge k slots late s t h
  | creditPacket k p => exact execCreditPacket_edge k p s t h
  | brd k p => exact execBrd_edge k p s t h
  | bwr k p => exact execBwr_edge k p s t h
  | ctlRequest k p late => exact execCtlRequest_edge k p late s t h
  | ackReceived k body => exact execAckReceived_edge k body s t h
  | nakReceived k body => exact execNakReceived_edge k body s t h
  | replayTimeout k => exact execReplayTimeout_edge k s t h
  | creditGrantSend k => exact execCreditGrantSend_edge k s t h
  | alertSend k => exact execAlertSend_edge k s t h
  | nonce r => exact execNonce_edge r s t h
  | nonceExpire p => exact execNonceExpire_edge p s t h
  | sessionOpen r ext => exact execSessionOpen_edge r ext s t h
  | sessionClose r => exact execSessionClose_edge r s t h
  | identity r => exact execIdentity_edge r s t h
  | attest r hnonce => exact execAttest_edge r hnonce s t h
  | enroll r => exact execEnroll_edge r s t h
  | evict r ext => exact execEvict_edge r ext s t h
  | sessionIdleTimeout slot => exact execSessionIdleTimeout_edge slot s t h
  | debugUnlock r v => exact execDebugUnlock_edge r v s t h
  | secFatal cause => exact execSecFatal_edge cause s t h
  | enec => exact execEnec_edge s t h
  | disec => exact execDisec_edge s t h
  | getpid => exact execGetpid_edge s t h
  | getbcr => exact execGetbcr_edge s t h
  | getdcr => exact execGetdcr_edge s t h
  | getstatus => exact execGetstatus_edge s t h
  | getmwl => exact execGetmwl_edge s t h
  | getmrl => exact execGetmrl_edge s t h
  | i3cUnsupportedCcc reply => exact execI3cUnsupportedCcc_edge reply s t h
  | refreshTick c => exact execRefreshTick_edge c s t h
  | pullInRefresh c => exact execPullInRefresh_edge c s t h
  | rowIdlePrecharge c bank => exact execRowIdlePrecharge_edge c bank s t h
  | dmcRead c a cls age cycles late errs reader => exact execDmcRead_edge c a cls age cycles late errs reader s t h
  | dmcWrite c a cls age late data bytes => exact execDmcWrite_edge c a cls age late data bytes s t h
  | mergeEntryTimeout c a errs => exact execMergeEntryTimeout_edge c a errs s t h
  | errorReturn c back => exact execErrorReturn_edge c back s t h
  | caLaneTestDone c bad => exact execCaLaneTestDone_edge c bad s t h
  | transitStart ticks cal => exact execTransitStart_edge ticks cal s t h
  | dmcFreqReq r v => exact execDmcFreqReq_edge r v s t h
  | scrubRow c errs => exact execScrubRow_edge c errs s t h
  | corrected2Writeback c a => exact execCorrected2Writeback_edge c a s t h
  | hotpos c sym => exact execHotpos_edge c sym s t h
  | eccInjArm r v => exact execEccInjArm_edge r v s t h
  | legStart w => exact execLegStart_edge w s t h
  | legEnd block signature column => exact execLegEnd_edge block signature column s t h
  | legBudgetExpire block tally => exact execLegBudgetExpire_edge block tally s t h
  | columnRepairChunk c => exact execColumnRepairChunk_edge c s t h
  | clkBundleLost g b => exact execClkBundleLost_edge g b s t h
  | salvageSlice mismatches dead => exact execSalvageSlice_edge mismatches dead s t h
  | fulltest r => exact execFulltest_edge r s t h
  | fulltestDone => exact execFulltestDone_edge s t h
  | abortFulltest r => exact execAbortFulltest_edge r s t h
  | fuseCommit r => exact execFuseCommit_edge r s t h
  | legCmd r => exact execLegCmd_edge r s t h
  | calStep c values => exact execCalStep_edge c values s t h
  | calStepForced c values => exact execCalStepForced_edge c values s t h
  | calTapMove c kind lane => exact execCalTapMove_edge c kind lane s t h
  | thermalMeasurement m => exact execThermalMeasurement_edge m s t h
  | throttleStep => exact execThrottleStep_edge s t h
  | fasterPointTimer => exact execFasterPointTimer_edge s t h
  | comparatorScan sensors => exact execComparatorScan_edge sensors s t h
  | railOc r mA => exact execRailOc_edge r mA s t h
  | railUv r mV => exact execRailUv_edge r mV s t h
  | railPeak r mA => exact execRailPeak_edge r mA s t h
  | clearPeak r => exact execClearPeak_edge r s t h
  | mgcWatchdog core => exact execMgcWatchdog_edge core s t h
  | ledgerCopy bad => exact execLedgerCopy_edge bad s t h
  | ackAlertn r => exact execAckAlertn_edge r s t h
  | clearAll r => exact execClearAll_edge r s t h
  | fltForce r n v => exact execFltForce_edge r n v s t h
  | availMsTick => exact execAvailMsTick_edge s t h
  | availSlotWrite bad => exact execAvailSlotWrite_edge bad s t h
  | availBucketRoll => exact execAvailBucketRoll_edge s t h
  | pmcSelWrite r n v => exact execPmcSelWrite_edge r n v s t h
  | counterWrap n inc => exact execCounterWrap_edge n inc s t h
  | pmcSample n skid => exact execPmcSample_edge n skid s t h
  | counterDump => exact execCounterDump_edge s t h
  | sense why weak => exact execSense_edge why weak s t h
  | reinforce r => exact execReinforce_edge r s t h
  | fseSlock r n v => exact execFseSlock_edge r n v s t h
  | fuseOperationEnd res => exact execFuseOperationEnd_edge res s t h
  | updBegin r flashOk => exact execUpdBegin_edge r flashOk s t h
  | updChunk r flashOk => exact execUpdChunk_edge r flashOk s t h
  | updVerify r => exact execUpdVerify_edge r s t h
  | verifyDone flashOk => exact execVerifyDone_edge flashOk s t h
  | activate r ok => exact execActivate_edge r ok s t h
  | confirm r => exact execConfirm_edge r s t h
  | rollback r => exact execRollback_edge r s t h
  | updAbort r => exact execUpdAbort_edge r s t h
  | trialExpire => exact execTrialExpire_edge s t h
  | settingsSave ok => exact execSettingsSave_edge ok s t h
  | commit r mask => exact execCommit_edge r mask s t h
  | discard r mask => exact execDiscard_edge r mask s t h
  | registerWrite r a size v late => exact execRegisterWrite_edge r a size v late s t h
  | fecCodewordReceived l symbols offs late => exact execFecCodewordReceived_edge l symbols offs late s t h
  | receiveEmptySlot l => exact execReceiveEmptySlot_edge l s t h

/-- The commands of the pins, the I3C bus and the test port, but for RESET_N_LOW and ROOT_PLL_LOCK, leave the queue and GTIME. -/
theorem exec_edgeStep_outer {c : Instr} {s t : State} (ho : outerCmd c = true) (hr : c ≠ .resetNLow) (hl : c ≠ .rootPllLock)
    (h : exec c s = .next t) : EdgeStep s t := by
  cases c with
  | resetNLow => exact absurd rfl hr
  | rootPllLock => exact absurd rfl hl
  | resetNRelease => cases h; exact (s.aon_edgeStep { s.aon with resetN := true } rfl fun _ => rfl).coldStart
  | pwrgoodRise => cases h; exact (s.aon_edgeStep { s.aon with pwrgood := true } rfl id).coldStart
  | pwrgoodLost => cases h; exact s.pwrgoodLost_edgeStep
  | fatalFault src a b => cases h; exact s.fatalSource_edgeStep ..
  | i3cDirectRead bytes late => cases h; exact s.i3cWrite_edgeStep ..
  | i3cCtlFrame bytes late => cases h; exact s.i3cWrite_edgeStep ..
  | i3cPrivateRead => exact .of_kept (execI3cPrivateRead_edge h)
  | entdaa a => exact execEntdaa_edgeStep h
  | setdasa st a => exact execSetdasa_edgeStep h
  | setnewda a => exact execSetnewda_edgeStep h
  | rstdaa => exact execRstdaa_edgeStep h
  | testAccessPortOperation trstN steps => exact execTestAccessPortOperation_edgeStep h
  | _ => exact (Bool.false_ne_true ho).elim

/-- Every command but RESET_N_LOW and ROOT_PLL_LOCK leaves the queue and GTIME, and keeps the invariant. -/
theorem exec_edgeStep {c : Instr} {s t : State} (hr : c ≠ .resetNLow) (hl : c ≠ .rootPllLock) (h : exec c s = .next t) :
    EdgeStep s t := by
  cases ho : outerCmd c
  · exact .of_kept (exec_edge c s t ho h)
  · exact exec_edgeStep_outer ho hr hl h

/-- Every command keeps the invariant. -/
theorem exec_edgeSound {c : Instr} {s t : State} (hs : s.edgeSound = true) (h : exec c s = .next t) : t.edgeSound = true := by
  by_cases hr : c = .resetNLow
  · subst hr
    cases h
    exact s.afterReset_edgeSound hs
  by_cases hl : c = .rootPllLock
  · subst hl
    exact (execRootPllLock_keeps h).2.2 hs
  exact (exec_edgeStep hr hl h).sound hs

/-! ### A tick -/

/-- Behind the lock GTIME may be anything. -/
theorem State.gtime_edgeSound {s : State} (hs : s.edgeSound = true) (hl : s.aon.pll = true) (n : DWord) :
    ({ s with gtime := n } : State).edgeSound = true := by
  rw [State.edgeSound_iff] at hs ⊢
  exact ⟨fun h => Bool.noConfusion (hl.symm.trans h), hs.2⟩

/-- GTIME counts only behind the lock, so a tick keeps it at 0 before. -/
theorem State.tick_edgeSound {s : State} (hs : s.edgeSound = true) : s.tick.edgeSound = true := by
  unfold State.tick
  split
  next hpll =>
    have hmoved := (EdgeStep.of_kept s.markAllMoved_edge).sound hs
    have hlock : s.markAllMoved.aon.pll = true := by simp [hpll]
    exact (EdgeStep.of_kept (KeptEdge_trans (State.tickCounters_edge _) (State.tickWork_edge _))).sound
      (State.gtime_edgeSound hmoved hlock _)
  next => exact hs

/-- The queue is no part of the invariant. -/
theorem State.edgeSound_pending (s : State) (l : List Instr) : ({ s with pending := l } : State).edgeSound = s.edgeSound := by
  simp only [State.edgeSound]

/-! ### The obligations -/

/-- Settles O4: each command keeps the invariant, and a tick moves GTIME behind the lock alone. -/
theorem edgeSoundKept : Obligations.EdgeSoundKept := by
  intro s t hs h
  unfold step at h
  split at h
  next => cases h; exact State.tick_edgeSound hs
  next c rest _ =>
    rw [← s.edgeSound_pending rest] at hs
    exact exec_edgeSound hs h

/-- Settles O6: a command that moves neither the queue nor GTIME does nothing else to them; the two that zero GTIME keep the queue. -/
theorem gtimeIsNotWritten : Obligations.GtimeIsNotWritten := by
  intro c s t h
  suffices t.pending = s.pending ∧ (t.gtime = s.gtime ∨ (t.gtime = 0 ∧ (c = .resetNLow ∨ c = .rootPllLock))) from
    ⟨this.1, fun ho => exec_edge c s t ho h, this.2⟩
  by_cases hr : c = .resetNLow
  · subst hr
    cases h
    exact ⟨s.afterReset_keeps.1, .inr ⟨rfl, .inl rfl⟩⟩
  by_cases hl : c = .rootPllLock
  · subst hl
    obtain ⟨hq, hg, -⟩ := execRootPllLock_keeps h
    exact ⟨hq, hg.imp_right fun h0 => ⟨h0, .inr rfl⟩⟩
  exact ⟨(exec_edgeStep hr hl h).pending, .inl (exec_edgeStep hr hl h).gtime⟩

end Sys2Proof.Machine
end

section
/-! PROOFS. RESET_N, PWRGOOD, the root PLL, the re-arming of a shutdown and the test port (R16, R357, R460, R520, R524, R531). -/
namespace Sys2Proof.Machine

/-! ### The ledger while faults are detected and fuses programmed

A fault waits in the history until LEDGER_COPY (R379), so nothing before it writes the fault entries of the ledger. -/

@[simp] theorem State.alert_ledger (s : State) (c k x y z w : Nat) : (s.alert c k x y z w).flt.ledger = s.flt.ledger := by
  have hq : ∀ (t : State) (j : Nat) (al : Alert), (t.queueAlert j al).flt.ledger = t.flt.ledger := fun t j al => by
    unfold State.queueAlert
    dsimp only
    split <;> simp
  have hd : ∀ t : State, (t.driveAlertN c).flt.ledger = t.flt.ledger := fun t => by
    unfold State.driveAlertN
    split <;> rfl
  unfold State.alert
  rw [hd]
  exact foldl_keeps (fun t => t.flt.ledger) _ _ _ fun t j => hq t j _

@[simp] theorem State.detect_ledger (s : State) (src x y : Nat) (fo : Bool) : (s.detect src x y fo).flt.ledger = s.flt.ledger := by
  have hform : ∀ (t : State) (sev g : Nat), (t.formEntry src sev x y g fo false).flt.ledger = t.flt.ledger := fun t sev g => by
    simp only [State.formEntry, apply_ite (fun u : State => u.flt.ledger), State.alert_ledger, ite_self]
  unfold State.detect
  dsimp only
  repeat' split
  all_goals simp [hform]

@[simp] theorem State.recordBits_ledger (s : State) (l : List Nat) : (s.recordBits l).flt.ledger = s.flt.ledger := by
  have hseen : ∀ (m : List Nat) (f : State → Nat → Nat),
      (m.foldl (fun (t : State) b => t.detect 70 (b / 4096) (f t b)) s).flt.ledger = s.flt.ledger := fun m f =>
    foldl_keeps (fun t => t.flt.ledger) _ _ _ fun t b => State.detect_ledger ..
  unfold State.recordBits
  dsimp only
  split <;> simp [hseen _ (fun t b => b % 4096 + 65536 * b2n (decide (b ∈ t.fse.reinforced)))]

@[simp] theorem FuseRun.verified_ledger (x : FuseRun) (b : Nat) : (x.verified b).st.flt.ledger = x.st.flt.ledger := by
  simp [FuseRun.verified, FuseRun.pulse]

@[simp] theorem FuseRun.program_ledger (x : FuseRun) (b : Nat) : (x.program b).st.flt.ledger = x.st.flt.ledger := by
  unfold FuseRun.program
  repeat' split
  all_goals simp [FuseRun.pulse]

@[simp] theorem FuseRun.boost_ledger (x : FuseRun) (l : List Nat) : (x.boost l).st.flt.ledger = x.st.flt.ledger := by
  have hpulses : ∀ y : FuseRun, (l.foldl (fun (y : FuseRun) _ => y.pulse 1) y).st.flt.ledger = y.st.flt.ledger := by
    induction l with
    | nil => exact fun _ => rfl
    | cons b r ih => exact fun y => ih (y.pulse 1)
  simp [FuseRun.boost, hpulses]

@[simp] theorem FuseRun.sense_ledger (x : FuseRun) (f : Nat → Bool) : (x.sense f).1.st.flt.ledger = x.st.flt.ledger := by
  simp [FuseRun.sense, State.senseBits]

@[simp] theorem FuseRun.settle_ledger (x : FuseRun) (n : Nat) (ws : List DWord) (k : Nat) :
    (x.settle n ws k).st.flt.ledger = x.st.flt.ledger := by
  induction k generalizing x with
  | zero =>
    unfold FuseRun.settle
    dsimp only
    split <;> simp
  | succ k ih =>
    unfold FuseRun.settle
    dsimp only
    repeat' split
    all_goals simp [ih]

@[simp] theorem FuseRun.step_ledger (x : FuseRun) (e : FuseStep) : (x.step e).st.flt.ledger = x.st.flt.ledger := by
  have hlock : ∀ (l : List Nat) (y : FuseRun), (l.foldl FuseRun.verified y).st.flt.ledger = y.st.flt.ledger := fun l => by
    induction l with
    | nil => exact fun _ => rfl
    | cons b r ih => exact fun y => (ih (y.verified b)).trans (y.verified_ledger b)
  unfold FuseRun.step
  repeat' split
  all_goals simp [hlock, State.lockedOut]

@[simp] theorem FuseRun.upTo_ledger (x : FuseRun) (n : Nat) (l : List FuseStep) :
    (x.upTo n l).1.st.flt.ledger = x.st.flt.ledger := by
  induction n generalizing x l with
  | zero => rfl
  | succ n ih =>
    cases l with
    | nil => rfl
    | cons e r =>
      unfold FuseRun.upTo
      dsimp only
      split
      · rfl
      · rw [ih, FuseRun.step_ledger]

@[simp] theorem State.fuseCut_ledger (s : State) : s.fuseCut.flt.ledger = s.flt.ledger := by
  have hgoes : s.fuseGoesOn.flt.ledger = s.flt.ledger := by
    unfold State.fuseGoesOn
    split <;> simp [State.drawn]
  exact hgoes

/-- With no operation to cut off, the bits of the array stay (R448). -/
theorem State.fuseCut_bits {s : State} (h : s.fse.op = none) : s.fuseCut.fse.bits = s.fse.bits := by
  simp [State.fuseCut, State.fuseGoesOn, h]

/-! ### RESET_N low -/

/-- What the ledger is found to hold touches neither its fault entries nor the fuses, the flash and the pins. -/
theorem State.foundBad_keeps (s : State) (w : LedgerWord) : (s.foundBad w).flt = s.flt ∧ (s.foundBad w).fse = s.fse ∧
    (s.foundBad w).upd.flash = s.upd.flash ∧ (s.foundBad w).aon = s.aon := by
  unfold State.foundBad
  split <;> simp

theorem State.afterReset_ledger (s : State) : s.afterReset.flt.ledger = s.flt.ledger := by
  refine (foldl_keeps (fun t => t.flt.ledger) State.foundBad _ (s.fuseCut.enterMode .cold) fun t w => ?_).trans s.fuseCut_ledger
  rw [(t.foundBad_keeps w).1]

theorem State.afterReset_flash (s : State) : s.afterReset.upd.flash = s.upd.flash := by
  refine (foldl_keeps (fun t => t.upd.flash) State.foundBad _ (s.fuseCut.enterMode .cold) fun t w => ?_).trans ?_
  · exact (t.foundBad_keeps w).2.2.1
  · simp

theorem State.afterReset_aon (s : State) : s.afterReset.aon = ⟨false, s.aon.pwrgood, false⟩ := by
  simp [State.afterReset]

theorem State.afterReset_fuses {s : State} (h : s.fse.op = none) : s.afterReset.fse.bits = s.fse.bits := by
  refine (foldl_keeps (fun t => t.fse.bits) State.foundBad _ (s.fuseCut.enterMode .cold) fun t w => ?_).trans ?_
  · rw [(t.foundBad_keeps w).2.1]
  · simpa using State.fuseCut_bits h

/-! ### Pins and the lock -/

/-- Both pins high in COLD before the sense power PD13, and nothing else (R460). -/
theorem State.coldStart_eq (s : State) : s.coldStart = { s with
    pwr := if s.mode = .cold ∧ s.aon.resetN = true ∧ s.aon.pwrgood = true ∧ s.fse.sensed = false then
      { s.pwr with dom := Tab.put s.pwr.dom 13 .on } else s.pwr } := by
  unfold State.coldStart
  by_cases h : s.mode = .cold ∧ s.aon.resetN = true ∧ s.aon.pwrgood = true ∧ s.fse.sensed = false <;> simp [h]

/-- SHUTDOWN_REARM in COLD on a cool stack (R357). -/
theorem execShutdownRearm_cool {s : State} (hm : s.mode = .cold) (hc : s.coolEnough = true) : ∃ t, execShutdownRearm s = .next t ∧
    t = { s with thm := t.thm, flt := { s.flt with unchecked := t.flt.unchecked } } ∧ t.thm.trip = false ∧
    t.thm.records = s.thm.records.map (fun r => { r with armed := true }) := by
  unfold execShutdownRearm
  rw [if_pos ⟨hm, hc⟩]
  exact ⟨_, rfl, rfl, rfl, rfl⟩

/-! ### The test port -/

/-- What the test port may change: itself, the bits put out and the free values drawn. -/
def OnlyTest (s t : State) : Prop := ∃ p o n, t = { s with tap := p, out := o, fresh := n }

theorem OnlyTest.refl (s : State) : OnlyTest s s := ⟨_, _, _, rfl⟩

theorem OnlyTest.trans {s t u : State} : OnlyTest s t → OnlyTest t u → OnlyTest s u := by
  rintro ⟨p, o, n, rfl⟩ ⟨p', o', n', rfl⟩
  exact ⟨p', o', n', rfl⟩

theorem OnlyTest.eq {s t : State} : OnlyTest s t → t = { s with tap := t.tap, out := t.out, fresh := t.fresh } := by
  rintro ⟨p, o, n, rfl⟩
  rfl

theorem State.tapEnter_only (s : State) (t : TapState) : OnlyTest s (s.tapEnter t) := by
  unfold State.tapEnter
  dsimp only
  repeat' split
  all_goals exact ⟨_, _, _, rfl⟩

theorem State.tapAct_only (s : State) (tdi : Bool) : OnlyTest s (s.tapAct tdi) := by
  unfold State.tapAct State.tapShift
  repeat' split
  all_goals exact ⟨_, _, _, rfl⟩

theorem State.tapSteps_only (steps : List (Bool × Bool)) (s : State) : OnlyTest s (steps.foldl State.tapStep s) := by
  induction steps generalizing s with
  | nil => exact .refl s
  | cons e rest ih => exact ((s.tapAct_only e.2).trans (State.tapEnter_only ..)).trans (ih _)

/-- A step leaves the controller in the state that the level of TMS leads to. -/
theorem State.tapStep_state (s : State) (e : Bool × Bool) : (s.tapStep e).tap.state = tapNext s.tap.state e.1 := by
  unfold State.tapStep
  generalize s.tapAct e.2 = a, tapNext s.tap.state e.1 = n
  unfold State.tapEnter
  dsimp only
  repeat' split
  all_goals rfl

/-- Entering Test-Logic-Reset puts IDCODE in effect (R531). -/
theorem State.tapStep_reset {s : State} {e : Bool × Bool} (h : tapNext s.tap.state e.1 = .reset) : (s.tapStep e).tap.ir = 1 := by
  unfold State.tapStep
  rw [h]
  rfl

/-- Five edges with TMS high lead from every controller state to Test-Logic-Reset (IEEE 1149.1). -/
theorem tapNext_five (t : TapState) :
    tapNext (tapNext (tapNext (tapNext (tapNext t true) true) true) true) true = .reset := by
  cases t <;> rfl

/-- Data shifts put out the bits captured, bit 0 first. -/
theorem State.tapShifts_out (l rest : List Bool) (d : Bool) (s : State) (hs : s.tap.state = .shDr) (hl : s.tap.shift = l ++ rest) :
    ((List.replicate l.length (false, d)).foldl State.tapStep s).out = s.out ++ l.map .tdo := by
  induction l generalizing s rest with
  | nil => simp
  | cons b l ih =>
    have hstep : s.tapStep (false, d) = { s with
        out := s.out ++ [.tdo b], tap := { s.tap with state := .shDr, shift := l ++ (rest ++ [d]) } } := by
      simp [State.tapStep, State.tapAct, State.tapShift, State.tapEnter, tapNext, State.emit, State.setShift, hs, hl]
    have hrest := ih (rest ++ [d]) (s.tapStep (false, d)) (by rw [hstep]) (by rw [hstep])
    rw [List.length_cons, List.replicate_succ, List.foldl_cons, hrest, hstep]
    simp

/-- From Run-Test/Idle with IDCODE in effect, three edges capture it and reach Shift-DR with nothing put out. -/
theorem State.tapCapture_idcode {s : State} (hs : s.tap.state = .idle) (hi : s.tap.ir = 1) (d : Bool) :
    let t := [(true, d), (false, d), (false, d)].foldl State.tapStep s
    t.tap.state = .shDr ∧ t.tap.shift = bitsUp 32 tapIdcode ∧ t.out = s.out := by
  simp [State.tapStep, State.tapAct, State.tapEnter, tapNext, State.setShift, State.draw, State.captureDr, State.tapSelects, hs, hi]

/-! ### The obligation -/

/-- Settles O10: what RESET_N keeps, the two pins and the lock as they are written, and the test port by its steps. -/
theorem resetAndPowerPins : Obligations.ResetAndPowerPins := by
  intro s pd13
  refine ⟨?low, ?release, ?rise, ?lock, ?locked, ?rearm, ?trst, ?frame, ?five, ?idcode⟩
  case low =>
    exact ⟨_, rfl, rfl, rfl, State.rd_reset, rfl, s.afterReset_aon, s.afterReset_ledger, s.afterReset_flash,
      s.afterReset_keeps.2, s.afterReset_keeps.1, State.afterReset_fuses⟩
  case release =>
    show Host.Outcome.next (State.coldStart _) = _
    rw [State.coldStart_eq]
    simp [pd13]
  case rise =>
    show Host.Outcome.next (State.coldStart _) = _
    rw [State.coldStart_eq]
    simp [pd13]
  case lock =>
    intro hr hp hl
    simp [exec, execRootPllLock, hr, hp, hl]
  case locked =>
    intro hl
    simp [exec, execRootPllLock, hl]
  case rearm =>
    intro hm hc
    obtain ⟨t, he, hf, ht, hr⟩ := execShutdownRearm_cool hm hc
    exact ⟨t, he, hf, ht, by simp [hr], by simp [hr]⟩
  case trst => exact fun steps => ⟨_, rfl, rfl, rfl, rfl⟩
  case frame => exact fun steps => ⟨_, rfl, (State.tapSteps_only steps s).eq⟩
  case five =>
    intro d1 d2 d3 d4 d5
    have hfour : tapNext ((((s.tapStep (true, d1)).tapStep (true, d2)).tapStep (true, d3)).tapStep (true, d4)).tap.state true =
        .reset := by
      simp only [State.tapStep_state, tapNext_five]
    exact ⟨_, rfl, (State.tapStep_state ..).trans hfour, State.tapStep_reset hfour⟩
  case idcode =>
    intro d hs hi
    obtain ⟨hstate, hshift, hout⟩ := State.tapCapture_idcode hs hi d
    refine ⟨_, rfl, ?_⟩
    rw [List.foldl_append, ← hout]
    exact State.tapShifts_out (bitsUp 32 tapIdcode) [] d _ hstate (hshift.trans (List.append_nil _).symm)

end Sys2Proof.Machine
end

section
/-! PROOFS. What a tick leaves of the I3C port: nothing that a tick takes further prepares, fetches or discards an answer (R489, R491). -/
namespace Sys2Proof.Machine

@[simp] theorem foldl_i3c {α : Type} (f : State → α → State) (l : List α) (s : State) (h : ∀ t x, (f t x).i3c = t.i3c) :
    (l.foldl f s).i3c = s.i3c :=
  foldl_keeps State.i3c f l s h

@[simp] theorem ite_i3c (p : Prop) [Decidable p] (s t : State) : (if p then s else t).i3c = if p then s.i3c else t.i3c := by
  split <;> rfl

@[simp] theorem State.checkWord_i3c (s : State) (w : LedgerWord) : (s.checkWord w).i3c = s.i3c := by
  simp [State.checkWord]

@[simp] theorem State.checkLedger_i3c (s : State) : s.checkLedger.i3c = s.i3c := by
  simp [State.checkLedger]

@[simp] theorem State.latServed_i3c (s : State) (n age : Nat) : (s.latServed n age).i3c = s.i3c := by
  simp [State.latServed]

@[simp] theorem State.store_i3c (s : State) (k : Nat) (d : BitVec 512) (e : SymErr) : (s.store k d e).i3c = s.i3c := by
  simp [State.store]

@[simp] theorem State.openRow_i3c (s : State) (c a : Nat) : (s.openRow c a).i3c = s.i3c := by
  simp [State.openRow]

@[simp] theorem State.column_i3c (s : State) (c : Nat) (k : DramCmd) : (s.column c k).i3c = s.i3c := by
  simp [State.column]

@[simp] theorem State.countCw_i3c (s : State) (ev c a : Nat) (part : Option (Nat × Nat)) (inPart : Bool) :
    (s.countCw ev c a part inPart).i3c = s.i3c := by
  simp [State.countCw]

@[simp] theorem State.queueLeg_i3c (s : State) (c block : Nat) : (s.queueLeg c block).i3c = s.i3c := by
  simp [State.queueLeg]

@[simp] theorem State.holdChannel_i3c (s : State) (c : Nat) : (s.holdChannel c).i3c = s.i3c := by
  simp [State.holdChannel]

@[simp] theorem State.countMismatch_i3c (s : State) (c : Nat) (persistent : Bool) :
    (s.countMismatch c persistent).i3c = s.i3c := by
  simp [State.countMismatch]

@[simp] theorem State.latchEcc_i3c (s : State) (c a : Nat) (cls : EccClass) (located : SymErr) (src : Nat) :
    (s.latchEcc c a cls located src).i3c = s.i3c := by
  simp [State.latchEcc]

@[simp] theorem State.candidate_i3c (s : State) (c a : Nat) : (s.candidate c a).i3c = s.i3c := by
  simp [State.candidate]

@[simp] theorem State.countHot_i3c (s : State) (c : Nat) (located : SymErr) : (s.countHot c located).i3c = s.i3c := by
  simp [State.countHot]

@[simp] theorem State.reportEcc_i3c (s : State) (c a : Nat) (cls : EccClass) (located : SymErr) (src : Nat) (part : Option (Nat × Nat)) :
    (s.reportEcc c a cls located src part).i3c = s.i3c := by
  unfold State.reportEcc
  split <;> simp

@[simp] theorem State.transientMismatch_i3c (s : State) (c a : Nat) (located : SymErr) (src : Nat) :
    (s.transientMismatch c a located src).i3c = s.i3c := by
  simp [State.transientMismatch]

@[simp] theorem State.keepSent_i3c (s : State) (c a : Nat) (d : BitVec 512) (e : SymErr) : (s.keepSent c a d e).i3c = s.i3c := by
  simp [State.keepSent]

@[simp] theorem State.storeCmd_i3c (s : State) (c a : Nat) (d : BitVec 512) (e : SymErr) : (s.storeCmd c a d e).i3c = s.i3c := by
  simp [State.storeCmd]

@[simp] theorem State.poisonWrite_i3c (s : State) (c a : Nat) : (s.poisonWrite c a).i3c = s.i3c := by
  simp [State.poisonWrite]

@[simp] theorem State.issueWrite_i3c (s : State) (c a : Nat) (d : BitVec 512) (part : Option (Nat × Nat)) :
    (s.issueWrite c a d part).i3c = s.i3c := by
  simp [State.issueWrite]

@[simp] theorem State.addWb_i3c (s : State) (c a : Nat) : (s.addWb c a).i3c = s.i3c := by
  simp [State.addWb]

@[simp] theorem State.arrayRead_i3c (s : State) (c a : Nat) (errs : ReadErrs) (src0 : Nat) (part : Option (Nat × Nat)) :
    (s.arrayRead c a errs src0 part).st.i3c = s.i3c := by
  unfold State.arrayRead
  dsimp only
  repeat' split
  all_goals simp

@[simp] theorem State.freeMerge_i3c (s : State) (c a : Nat) : (s.freeMerge c a).i3c = s.i3c := by
  simp [State.freeMerge]

@[simp] theorem State.rmw_i3c (s : State) (c : Nat) (e : MergeEntry) (errs : ReadErrs) (part0 : Option (Nat × Nat)) :
    (s.rmw c e errs part0).st.i3c = s.i3c := by
  unfold State.rmw
  dsimp only
  repeat' split
  all_goals simp

@[simp] theorem State.drainMerge_i3c (s : State) (c y2 : Nat) : (s.drainMerge c y2).i3c = s.i3c := by
  induction y2 generalizing s c with
  | zero => simp [State.drainMerge]
  | succ n ih =>
    unfold State.drainMerge
    split <;> simp [ih]

@[simp] theorem State.applyWrite_i3c (s : State) (c a : Nat) (d : BitVec 512) (w : BitVec 64) (cls paid : Nat) (part0 : Option (Nat × Nat)) :
    (s.applyWrite c a d w cls paid part0).i3c = s.i3c := by
  unfold State.applyWrite
  dsimp only
  repeat' split
  all_goals simp

@[simp] theorem State.promote_i3c (s : State) (c y2 : Nat) : (s.promote c y2).i3c = s.i3c := by
  induction y2 generalizing s c with
  | zero => simp [State.promote]
  | succ n ih =>
    unfold State.promote
    dsimp only
    repeat' split
    all_goals simp [ih]

@[simp] theorem State.readCw_i3c (s : State) (c a n : Nat) (errs : ReadErrs) (part : Option (Nat × Nat)) :
    (s.readCw c a n errs part).st.i3c = s.i3c := by
  unfold State.readCw
  repeat' split
  all_goals simp

@[simp] theorem State.sentFor_i3c (s : State) (c n : Nat) (r : DmcReq) : (s.sentFor c n r).i3c = s.i3c := by
  simp [State.sentFor]

@[simp] theorem State.forceRefresh_i3c (s : State) (c : Nat) : (s.forceRefresh c).i3c = s.i3c := by
  simp [State.forceRefresh]

@[simp] theorem State.postponeUpdate_i3c (s : State) (c : Nat) : (s.postponeUpdate c).i3c = s.i3c := by
  simp [State.postponeUpdate]

@[simp] theorem State.postponeAll_i3c (s : State) : s.postponeAll.i3c = s.i3c := by
  simp [State.postponeAll]

@[simp] theorem State.settleAll_i3c (s : State) : s.settleAll.i3c = s.i3c := by
  simp [State.settleAll]

@[simp] theorem State.setShadowTim_i3c (s : State) (c point band : Nat) : (s.setShadowTim c point band).i3c = s.i3c := by
  simp [State.setShadowTim]

@[simp] theorem State.copyTim_i3c (s : State) (c : Nat) : (s.copyTim c).i3c = s.i3c := by
  simp [State.copyTim]

@[simp] theorem State.retime_i3c (s : State) (c point band : Nat) : (s.retime c point band).i3c = s.i3c := by
  simp [State.retime]

@[simp] theorem State.legStops_i3c (s : State) (l : Leg) : (s.legStops l).i3c = s.i3c := by
  unfold State.legStops
  repeat' split
  all_goals simp

@[simp] theorem State.legTraffic_i3c (s : State) (b n : Nat) : (s.legTraffic b n).i3c = s.i3c := by
  simp [State.legTraffic]

@[simp] theorem State.legPart_i3c (s : State) (b : Nat) : (s.legPart b).i3c = s.i3c := by
  simp [State.legPart]

@[simp] theorem State.setIncRun_i3c (s : State) (b n : Nat) : (s.setIncRun b n).i3c = s.i3c := by
  simp [State.setIncRun]

@[simp] theorem State.setPreRun_i3c (s : State) (b n : Nat) : (s.setPreRun b n).i3c = s.i3c := by
  simp [State.setPreRun]

@[simp] theorem State.rerunLeg_i3c (s : State) (b : Nat) : (s.rerunLeg b).i3c = s.i3c := by
  simp [State.rerunLeg]

@[simp] theorem State.rowDone_i3c (s : State) (b : Nat) : (s.rowDone b).i3c = s.i3c := by
  simp [State.rowDone]

@[simp] theorem State.passBlock_i3c (s : State) (b : Nat) : (s.passBlock b).i3c = s.i3c := by
  simp [State.passBlock]

@[simp] theorem State.legCut_i3c (s : State) (l : Leg) : (s.legCut l).i3c = s.i3c := by
  simp [State.legCut]

@[simp] theorem State.endLegs_i3c (s : State) (c : Nat) (kinds : List Nat) : (s.endLegs c kinds).i3c = s.i3c := by
  simp [State.endLegs]

@[simp] theorem State.preempt_i3c (s : State) (l : Leg) : (s.preempt l).i3c = s.i3c := by
  simp [State.preempt]

@[simp] theorem State.preemptBank_i3c (s : State) (c a : Nat) : (s.preemptBank c a).i3c = s.i3c := by
  unfold State.preemptBank
  split <;> simp

@[simp] theorem State.railOff_i3c (s : State) (r : Nat) : (s.railOff r).i3c = s.i3c := by
  simp [State.railOff]

@[simp] theorem State.railsOff_i3c (s : State) (g : Nat) : (s.railsOff g).i3c = s.i3c := by
  simp [State.railsOff]

@[simp] theorem State.retireNow_i3c (s : State) (c why : Nat) : (s.retireNow c why).i3c = s.i3c := by
  simp [State.retireNow]

@[simp] theorem State.putOff_i3c (s : State) (x : Later) : (s.putOff x).i3c = s.i3c := by
  simp [State.putOff]

@[simp] theorem State.retire_i3c (s : State) (c why : Nat) : (s.retire c why).i3c = s.i3c := by
  simp [State.retire]

@[simp] theorem State.retireGroup_i3c (s : State) (g : Nat) : (s.retireGroup g).i3c = s.i3c := by
  simp [State.retireGroup]

@[simp] theorem State.centreEyes_i3c (s : State) (c : Nat) (lanes : List Nat) : (s.centreEyes c lanes).i3c = s.i3c := by
  simp [State.centreEyes]

@[simp] theorem State.narrowNow_i3c (s : State) (c : Nat) : (s.narrowNow c).i3c = s.i3c := by
  simp [State.narrowNow]

@[simp] theorem State.narrow_i3c (s : State) (c : Nat) : (s.narrow c).i3c = s.i3c := by
  simp [State.narrow]

@[simp] theorem State.doLater_i3c (s : State) : s.doLater.i3c = s.i3c := by
  refine (foldl_i3c _ _ _ fun t x => ?_).trans rfl
  repeat' split
  all_goals simp

@[simp] theorem State.laneSpared_i3c (s : State) (c kind lane spare free : Nat) :
    (s.laneSpared c kind lane spare free).i3c = s.i3c := by
  simp [State.laneSpared]

@[simp] theorem State.failData_i3c (s : State) (c lane : Nat) : (s.failData c lane).i3c = s.i3c := by
  unfold State.failData
  dsimp only
  repeat' split
  all_goals simp

@[simp] theorem State.failCa_i3c (s : State) (c lane : Nat) : (s.failCa c lane).i3c = s.i3c := by
  unfold State.failCa
  dsimp only
  repeat' split
  all_goals simp

@[simp] theorem State.placeBlocks_i3c (s : State) (k n : Nat) : (s.placeBlocks k n).i3c = s.i3c := by
  simp [State.placeBlocks]

@[simp] theorem State.emitPacket_i3c (s : State) (k : Nat) (p : Packet) (resent : Bool) :
    (s.emitPacket k p resent).i3c = s.i3c := by
  simp [State.emitPacket]

@[simp] theorem State.emitBlock_i3c (s : State) (k : Nat) (b : RxBlock) : (s.emitBlock k b).i3c = s.i3c := by
  simp [State.emitBlock]

@[simp] theorem State.sendNew_i3c (s : State) (k : Nat) (p : Packet) : (s.sendNew k p).i3c = s.i3c := by
  simp [State.sendNew]

@[simp] theorem State.takeWaiting_i3c (s : State) (k : Nat) (e : Waiting × Nat) : (s.takeWaiting k e).i3c = s.i3c := by
  simp [State.takeWaiting]

@[simp] theorem State.pumpRun_i3c (s : State) (k y2 : Nat) : (s.pumpRun k y2).i3c = s.i3c := by
  induction y2 generalizing s k with
  | zero => simp [State.pumpRun]
  | succ n ih =>
    unfold State.pumpRun
    split <;> simp [ih]

@[simp] theorem State.crCount_i3c (s : State) (k n : Nat) : (s.crCount k n).i3c = s.i3c := by
  simp [State.crCount]

@[simp] theorem State.pump_i3c (s : State) (k : Nat) : (s.pump k).i3c = s.i3c := by
  simp [State.pump]

@[simp] theorem State.sendPacket_i3c (s : State) (k : Nat) (p : Packet) (conf : Bool) : (s.sendPacket k p conf).i3c = s.i3c := by
  simp [State.sendPacket]

@[simp] theorem State.holdUpdate_i3c (s : State) : s.holdUpdate.i3c = s.i3c := by
  simp [State.holdUpdate]

@[simp] theorem State.heapCheck_i3c (s : State) : s.heapCheck.i3c = s.i3c := by
  simp [State.heapCheck]

@[simp] theorem State.checkRound_i3c (s : State) (p : Nat) (runner : Option Nat) : (s.checkRound p runner).i3c = s.i3c := by
  unfold State.checkRound
  split <;> simp

@[simp] theorem State.engineTick_i3c (s : State) (e : Nat) : (s.engineTick e).i3c = s.i3c := by
  simp [State.engineTick]

@[simp] theorem State.enginesTick_i3c (s : State) : s.enginesTick.i3c = s.i3c := by
  simp [State.enginesTick]

@[simp] theorem State.forgetSessions_i3c (s : State) : s.forgetSessions.i3c = s.i3c := by
  simp [State.forgetSessions]

@[simp] theorem State.tagPacket_i3c (s : State) (slot : Nat) (x : Session) (p : Packet) :
    (s.tagPacket slot x p).1.i3c = s.i3c := by
  unfold State.tagPacket
  dsimp only
  split <;> simp

@[simp] theorem State.sendTagged_i3c (s : State) (k : Nat) (e : Nat × Session) (p : Packet) (conf : Bool) :
    (s.sendTagged k e p conf).i3c = s.i3c := by
  simp [State.sendTagged]

@[simp] theorem State.answerWith_i3c (s : State) (k : Nat) (sess : Option (Nat × Session)) (p : Packet) (conf : Bool) :
    (s.answerWith k sess p conf).i3c = s.i3c := by
  unfold State.answerWith
  repeat' split
  all_goals simp

@[simp] theorem State.sendFragments_i3c (s : State) (k label rid : Nat) (sess : Option (Nat × Session)) (st : Status) (conf : Bool) (y7 : Nat) (y8 : List (List Byte)) :
    (s.sendFragments k label rid sess st conf y7 y8).i3c = s.i3c := by
  induction y8 generalizing s k label rid sess st conf y7 with
  | nil => simp [State.sendFragments]
  | cons d r ih => simp [State.sendFragments, ih]

@[simp] theorem State.answerBrd_i3c (s : State) (j : BrdJob) : (s.answerBrd j).i3c = s.i3c := by
  simp [State.answerBrd]

@[simp] theorem State.deliver_i3c (s : State) (id slot : Nat) (w : JobCw) : (s.deliver id slot w).i3c = s.i3c := by
  unfold State.deliver
  split <;> simp

@[simp] theorem State.loseEntry_i3c (s : State) (d : Nat) : (s.loseEntry d).i3c = s.i3c := by
  simp [State.loseEntry]

@[simp] theorem State.loseMap_i3c (s : State) (d : Nat) : (s.loseMap d).i3c = s.i3c := by
  unfold State.loseMap
  split <;> simp

@[simp] theorem State.damaged_i3c (s : State) (d : Nat) : (s.damaged d).i3c = s.i3c := by
  simp [State.damaged]

@[simp] theorem State.losePool_i3c (s : State) (p : Nat) : (s.losePool p).i3c = s.i3c := by
  unfold State.losePool
  refine (foldl_i3c _ _ _ fun t d => ?_).trans rfl
  dsimp only
  rw [State.damaged_i3c]
  split <;> rfl

@[simp] theorem State.readerFails_i3c (s : State) (reader : Reader) : (s.readerFails reader).i3c = s.i3c := by
  unfold State.readerFails
  split <;> simp

@[simp] theorem State.readFor_i3c (s : State) (c a n : Nat) (errs : ReadErrs) (reader : Reader) :
    (s.readFor c a n errs reader).i3c = s.i3c := by
  unfold State.readFor
  dsimp only
  split <;> simp

@[simp] theorem State.latMax_i3c (s : State) (c n : Nat) : (s.latMax c n).i3c = s.i3c := by
  simp [State.latMax]

@[simp] theorem State.serveReq_i3c (s0 : State) (c : Nat) (r : DmcReq) : (s0.serveReq c r).i3c = s0.i3c := by
  unfold State.serveReq
  split <;> simp

@[simp] theorem State.serveRun_i3c (s : State) (c : Nat) (burst : Bool) (y3 : Nat) : (s.serveRun c burst y3).i3c = s.i3c := by
  induction y3 generalizing s c burst with
  | zero => simp [State.serveRun]
  | succ n ih =>
    unfold State.serveRun
    dsimp only
    repeat' split
    all_goals simp [ih]

@[simp] theorem State.writeDue_i3c (s : State) (c : Nat) : (s.writeDue c).i3c = s.i3c := by
  simp [State.writeDue]

@[simp] theorem State.preemptWaiting_i3c (s : State) (c : Nat) : (s.preemptWaiting c).i3c = s.i3c := by
  simp [State.preemptWaiting]

@[simp] theorem State.serveChan_i3c (s : State) (c : Nat) : (s.serveChan c).i3c = s.i3c := by
  simp [State.serveChan]

@[simp] theorem State.serveAll_i3c (s : State) : s.serveAll.i3c = s.i3c := by
  simp [State.serveAll]

@[simp] theorem State.fullCal_i3c (s : State) (r : CalResult) (point : Nat) : (s.fullCal r point).i3c = s.i3c := by
  simp [State.fullCal]

@[simp] theorem State.stepTransit_i3c (s : State) (m : Transit) (step : Nat) : (s.stepTransit m step).i3c = s.i3c := by
  simp [State.stepTransit]

@[simp] theorem State.transitSleep_i3c (s : State) : s.transitSleep.i3c = s.i3c := by
  unfold State.transitSleep
  split <;> simp

@[simp] theorem State.transitWake_i3c (s : State) : s.transitWake.i3c = s.i3c := by
  unfold State.transitWake
  split <;> simp

@[simp] theorem State.transitDone_i3c (s : State) : s.transitDone.i3c = s.i3c := by
  unfold State.transitDone
  split <;> simp

@[simp] theorem State.transitStep_i3c (s : State) : s.transitStep.i3c = s.i3c := by
  simp [State.transitStep]

@[simp] theorem State.openOne_i3c (s : State) (c : DomCmd) (i : Nat) : (s.openOne c i).i3c = s.i3c := by
  simp [State.openOne]

@[simp] theorem State.closeOne_i3c (s : State) (q : QueuedClose) (i : Nat) : (s.closeOne q i).i3c = s.i3c := by
  simp [State.closeOne]

@[simp] theorem State.releaseOne_i3c (s : State) (d : Nat) : (s.releaseOne d).i3c = s.i3c := by
  simp [State.releaseOne]

@[simp] theorem State.withPools_i3c (s : State) (t : Tab Pool) : (s.withPools t).i3c = s.i3c := by
  simp [State.withPools]

@[simp] theorem State.domOne_i3c (s : State) (c : DomCmd) (i : Nat) : (s.domOne c i).i3c = s.i3c := by
  unfold State.domOne
  split <;> simp

@[simp] theorem State.domRun_i3c (s : State) (c : DomCmd) (n : Nat) : (s.domRun c n).i3c = s.i3c := by
  simp [State.domRun]

@[simp] theorem State.domStep_i3c (s : State) : s.domStep.i3c = s.i3c := by
  unfold State.domStep
  split <;> simp

@[simp] theorem State.sendColumn_i3c (s : State) (k : Nat) (f : Nat → Nat × Nat) : (s.sendColumn k f).i3c = s.i3c := by
  simp [State.sendColumn]

@[simp] theorem State.sendFrameOn_i3c (s : State) (l control status : Nat) : (s.sendFrameOn l control status).i3c = s.i3c := by
  simp [State.sendFrameOn]

@[simp] theorem State.sendCapx_i3c (s : State) (k : Nat) (on : Nat → Bool) : (s.sendCapx k on).i3c = s.i3c := by
  simp [State.sendCapx]

@[simp] theorem State.prbsGenerate_i3c (s : State) (l : Nat) : (s.prbsGenerate l).i3c = s.i3c := by
  simp [State.prbsGenerate]

@[simp] theorem State.prbsCheck_i3c (s : State) (l : Nat) : (s.prbsCheck l).i3c = s.i3c := by
  simp [State.prbsCheck]

@[simp] theorem State.laneTick_i3c (s : State) (l : Nat) : (s.laneTick l).i3c = s.i3c := by
  simp [State.laneTick]

@[simp] theorem State.lanesTick_i3c (s : State) : s.lanesTick.i3c = s.i3c := by
  simp [State.lanesTick]

@[simp] theorem State.putNak_i3c (s : State) (k : Nat) : (s.putNak k).i3c = s.i3c := by
  simp [State.putNak]

@[simp] theorem State.putAck_i3c (s : State) (k : Nat) : (s.putAck k).i3c = s.i3c := by
  simp [State.putAck]

@[simp] theorem State.flushAck_i3c (s : State) (k : Nat) : (s.flushAck k).i3c = s.i3c := by
  simp [State.flushAck]

@[simp] theorem State.flushAcks_i3c (s : State) : s.flushAcks.i3c = s.i3c := by
  simp [State.flushAcks]

@[simp] theorem State.markMoved_i3c (s : State) (k : Nat) : (s.markMoved k).i3c = s.i3c := by
  simp [State.markMoved]

@[simp] theorem State.markAllMoved_i3c (s : State) : s.markAllMoved.i3c = s.i3c := by
  simp [State.markAllMoved]

@[simp] theorem State.tickCounters_i3c (s : State) : s.tickCounters.i3c = s.i3c := by
  simp [State.tickCounters]

@[simp] theorem State.tickWork_i3c (s : State) : s.tickWork.i3c = s.i3c := by
  simp [State.tickWork]

end Sys2Proof.Machine
end

section
/-! PROOFS. A tick on an empty queue: what it always leaves, and what it leaves where nothing goes on (R12, R16, R118, R148, R175,
R194, R219, R256, R268, R389). -/
namespace Sys2Proof.Machine

/-! ### What counting and sending by themselves may change -/

/-- The counters of time and the time of withheld credits move at most registers, counter samples and what QOS holds. -/
def CountFrame (s t : State) : Prop := ∃ r p q, t = { s with regs := r, pmc := p, qos := q }

/-- What lanes and chains do by themselves moves in addition the lanes, the chains, what they have put out and free values drawn. -/
def LinkFrame (s t : State) : Prop := ∃ r p q l c k o n, t = { s with
  regs := r, pmc := p, qos := q, lanes := l, chains := c, pkt := k, out := o, fresh := n }

theorem CountFrame.refl (s : State) : CountFrame s s := ⟨_, _, _, rfl⟩

theorem CountFrame.trans {s t u : State} : CountFrame s t → CountFrame t u → CountFrame s u := by
  rintro ⟨r, p, q, rfl⟩ ⟨r', p', q', rfl⟩
  exact ⟨r', p', q', rfl⟩

theorem CountFrame.link {s t : State} : CountFrame s t → LinkFrame s t := by
  rintro ⟨r, p, q, rfl⟩
  exact ⟨_, _, _, _, _, _, _, _, rfl⟩

theorem LinkFrame.refl (s : State) : LinkFrame s s := (CountFrame.refl s).link

theorem LinkFrame.trans {s t u : State} : LinkFrame s t → LinkFrame t u → LinkFrame s u := by
  rintro ⟨r, p, q, l, c, k, o, n, rfl⟩ ⟨r', p', q', l', c', k', o', n', rfl⟩
  exact ⟨r', p', q', l', c', k', o', n', rfl⟩

theorem LinkFrame.ite {p : Prop} [Decidable p] {s t u : State} (ht : LinkFrame s t) (hu : LinkFrame s u) :
    LinkFrame s (if p then t else u) := by
  split
  · exact ht
  · exact hu

theorem foldl_countFrame {α : Type} {f : State → α → State} (h : ∀ t x, CountFrame t (f t x)) (l : List α) (s : State) :
    CountFrame s (l.foldl f s) := by
  induction l generalizing s with
  | nil => exact .refl s
  | cons x l ih => exact (h s x).trans (ih _)

theorem foldl_linkFrame {α : Type} {f : State → α → State} (h : ∀ t x, LinkFrame t (f t x)) (l : List α) (s : State) :
    LinkFrame s (l.foldl f s) := by
  induction l generalizing s with
  | nil => exact .refl s
  | cons x l ih => exact (h s x).trans (ih _)

/-- A fold whose steps all leave a state as it is leaves it. -/
theorem foldl_fixed {α β : Type} {f : β → α → β} {b : β} {l : List α} (h : ∀ x ∈ l, f b x = b) : l.foldl f b = b := by
  induction l with
  | nil => rfl
  | cons x l ih =>
    rw [List.foldl_cons, h x (by simp)]
    exact ih fun y hy => h y (by simp [hy])

/-! ### Counters -/

theorem State.pmcAdd_countFrame (s : State) (n inc a b : Nat) : CountFrame s (s.pmcAdd n inc a b) := by
  have hsample : ∀ (t : State) (x : SampleCtx), CountFrame t (t.sampleCount n inc x) := fun t x => by
    unfold State.sampleCount
    dsimp only
    repeat' split
    all_goals exact ⟨_, _, _, rfl⟩
  have hwrite : ∀ t : State, CountFrame t (t.wr64 (Reg.PMC_CNT n) ((s.rd64 (Reg.PMC_CNT n) + inc) % 2 ^ 48)) := fun t => ⟨_, _, _, rfl⟩
  unfold State.pmcAdd
  dsimp only
  split
  · exact (hwrite s).trans (hsample _ _)
  · exact ((hwrite s).trans (hsample _ _)).trans ⟨_, _, _, rfl⟩

theorem State.count_countFrame (s : State) (ev inc filter : Nat) (part : Option Nat) (a b off : Nat) :
    CountFrame s (s.count ev inc filter part a b off) :=
  foldl_countFrame (fun t _ => t.pmcAdd_countFrame ..) _ _

theorem State.inc64_countFrame (s : State) (a n : Nat) : CountFrame s (s.inc64 a n) := ⟨_, _, _, rfl⟩

theorem State.crCount_countFrame (s : State) (k n : Nat) : CountFrame s (s.crCount k n) := by
  unfold State.crCount
  split
  · exact (s.inc64_countFrame ..).trans (State.count_countFrame ..)
  · exact .refl s

theorem State.tickCounters_countFrame (s : State) : CountFrame s s.tickCounters := by
  refine CountFrame.trans ?_ (foldl_countFrame (fun t k => t.crCount_countFrame k tickCycles) _ _)
  exact ((s.count_countFrame ..).trans (State.count_countFrame ..)).trans (State.count_countFrame ..)

theorem State.holdUpdate_countFrame (s : State) : CountFrame s s.holdUpdate := ⟨_, _, _, rfl⟩

/-- The counters of time lie outside the words of the classes. -/
theorem State.rd_tickCounters (s : State) {a : Nat} (h : 0xa1000 ≤ a) (h2 : a < 0xa1800) : s.tickCounters.rd a = s.rd a := by
  have hcount : ∀ (t : State) (ev inc filter : Nat), (t.count ev inc filter).rd a = t.rd a := fun t ev inc filter =>
    State.rd_count t ev inc filter none 0 0 0 a (.inr (by omega))
  have hwait : ∀ (t : State) (k : Nat), (t.crCount k tickCycles).rd a = t.rd a := fun t k => by
    unfold State.crCount
    split
    · rw [hcount, State.inc64, State.rd_wr64 _ _ _ _ (by simp only [Reg.LNK_P_CRWAIT]; omega) (by simp only [Reg.LNK_P_CRWAIT]; omega)]
    · rfl
  refine (foldl_keeps (fun t => t.rd a) _ _ _ hwait).trans ?_
  rw [hcount, hcount, hcount]

/-- The RT-CAPTURE classes are told by the class words alone. -/
theorem State.captureClasses_of_rd {s t : State} (h : ∀ a, 0xa1000 ≤ a → a < 0xa1800 → t.rd a = s.rd a) :
    t.captureClasses = s.captureClasses := by
  refine List.filter_congr fun n hn => ?_
  have hlt : n < 32 := List.mem_range.mp hn
  have hword : t.classWord n 0 = s.classWord n 0 := by
    simp only [State.classWord, State.rdN]
    rw [h _ (by simp only [Reg.QOS_C_CFG]; omega) (by simp only [Reg.QOS_C_CFG]; omega)]
  simp only [State.classType, hword]

/-! ### Links -/

theorem State.markMoved_linkFrame (s : State) (k : Nat) : LinkFrame s (s.markMoved k) := by
  unfold State.markMoved
  dsimp only
  split
  · exact ⟨_, _, _, _, _, _, _, _, rfl⟩
  · exact .refl s

theorem State.emitBlock_linkFrame (s : State) (k : Nat) (b : RxBlock) : LinkFrame s (s.emitBlock k b) := by
  unfold State.emitBlock State.placeBlocks
  dsimp only
  split <;> exact ⟨_, _, _, _, _, _, _, _, rfl⟩

theorem State.putAck_linkFrame (s : State) (k : Nat) : LinkFrame s (s.putAck k) :=
  LinkFrame.trans (t := s.setChainP k _) ⟨_, _, _, _, _, _, _, _, rfl⟩ (State.emitBlock_linkFrame ..)

theorem State.putNak_linkFrame (s : State) (k : Nat) : LinkFrame s (s.putNak k) := by
  have hset : ∀ x, LinkFrame s (s.setChainP k x) := fun x => ⟨_, _, _, _, _, _, _, _, rfl⟩
  have hcount : ∀ (t : State) (a b : Nat) (f : Fld), LinkFrame t ((t.satInc a).event b f) := fun t a b f =>
    ⟨_, _, _, _, _, _, _, _, rfl⟩
  exact .ite (hset _) (((hset _).trans (State.emitBlock_linkFrame ..)).trans (hcount ..))

theorem State.flushAck_linkFrame (s : State) (k : Nat) : LinkFrame s (s.flushAck k) := by
  have hack : LinkFrame s (if s.chainUp k && (s.chainP k).ackOwed && s.ackRoom k then s.putAck k else s) :=
    .ite (s.putAck_linkFrame k) (.refl s)
  exact .ite (hack.trans (State.putNak_linkFrame _ k)) hack

theorem State.sendCapx_linkFrame (s : State) (k : Nat) (on : Nat → Bool) : LinkFrame s (s.sendCapx k on) :=
  foldl_linkFrame (fun _ _ => ⟨_, _, _, _, _, _, _, _, rfl⟩) _ _

theorem State.emitOn_linkFrame (s : State) (l : Nat) (x : Lane) (e : Emission) : LinkFrame s ((s.draw.setLane l x).emit e) :=
  ⟨_, _, _, _, _, _, _, _, rfl⟩

theorem State.sendFrameOn_linkFrame (s : State) (l control status : Nat) : LinkFrame s (s.sendFrameOn l control status) := by
  unfold State.sendFrameOn
  exact State.emitOn_linkFrame ..

theorem State.prbsGenerate_linkFrame (s : State) (l : Nat) : LinkFrame s (s.prbsGenerate l) := by
  unfold State.prbsGenerate
  exact State.emitOn_linkFrame ..

theorem State.prbsCheck_linkFrame (s : State) (l : Nat) : LinkFrame s (s.prbsCheck l) := by
  have hset : ∀ x : Lane, LinkFrame s (s.draw.setLane l x) := fun x => ⟨_, _, _, _, _, _, _, _, rfl⟩
  unfold State.prbsCheck
  exact ((hset _).trans (State.inc64_countFrame ..).link).trans (State.inc64_countFrame ..).link

theorem State.laneTick_linkFrame (s : State) (l : Nat) : LinkFrame s (s.laneTick l) := by
  have hframe : LinkFrame s (if s.frameEnds l then s.sendFrameOn l 0 0 else s) := .ite (s.sendFrameOn_linkFrame ..) (.refl s)
  have hprbs : ∀ t : State, LinkFrame t (if t.prbsSends l then t.prbsGenerate l else t) := fun t =>
    .ite (t.prbsGenerate_linkFrame l) (.refl t)
  have hcheck : ∀ t : State, LinkFrame t (if t.prbsOn l then t.prbsCheck l else t) := fun t =>
    .ite (t.prbsCheck_linkFrame l) (.refl t)
  unfold State.laneTick
  exact .ite ((hframe.trans (hprbs _)).trans (hcheck _)) hframe

theorem State.lanesTick_linkFrame (s : State) : LinkFrame s s.lanesTick :=
  (foldl_linkFrame (fun t l => t.laneTick_linkFrame l) _ _).trans
    (foldl_linkFrame (fun t _ => .ite (t.sendCapx_linkFrame ..) (.refl t)) _ _)

/-! ### Where every lane is off and no chain is UP -/

theorem State.markAllMoved_of_linkQuiet {s : State} (h : s.linkQuiet) : s.markAllMoved = s :=
  foldl_fixed fun k _ => by simp [State.markMoved, h.2 k]

theorem State.flushAcks_of_linkQuiet {s : State} (h : s.linkQuiet) : s.flushAcks = s :=
  foldl_fixed fun k _ => by simp [State.flushAck, h.2 k]

theorem State.laneTick_of_linkQuiet {s : State} (h : s.linkQuiet) (l : Nat) : s.laneTick l = s := by
  simp [State.laneTick, State.frameEnds, State.laneIn, h.1 l]

theorem State.lanesTick_of_linkQuiet {s : State} (h : s.linkQuiet) : s.lanesTick = s := by
  have hlanes : (List.range 64).foldl State.laneTick s = s := foldl_fixed fun l _ => State.laneTick_of_linkQuiet h l
  have hcapx : ∀ l, s.capxDue l = false := fun l => by simp [State.capxDue, State.laneIn, h.1 l]
  unfold State.lanesTick
  rw [hlanes]
  exact foldl_fixed fun k _ => by simp [hcapx]

/-- Counting changes neither lanes nor chains. -/
theorem State.linkQuiet_of_countFrame {s t : State} (h : s.linkQuiet) : CountFrame s t → t.linkQuiet := by
  rintro ⟨r, p, q, rfl⟩
  exact h

/-! ### Where nothing goes on in the blocks -/

/-- The work of the controllers, the cadastre and the engines does nothing where none of it waits. -/
theorem State.coreWork_of_coreQuiet {s : State} (h : s.coreQuiet) :
    s.transitStep.settleAll.serveAll.postponeAll.domStep.enginesTick = s := by
  obtain ⟨hmove, hchan, hcap, hpost, hcmd, heng, -, -⟩ := h
  have hnone : s.dmc.move = none := by simpa [State.inTransit] using hmove
  have htransit : s.transitStep = s := by
    simp [State.transitStep, State.transitSleep, State.transitWake, State.transitDone, hnone]
  have hsettle : s.settleAll = s := foldl_fixed fun c _ => by simp [(hchan c).2.1, (hchan c).2.2]
  have hserve : s.serveAll = s := foldl_fixed fun c _ => by simp [(hchan c).1]
  have hpostpone : s.postponeAll = s := by simp [State.postponeAll, hcap, hpost]
  have hdom : s.domStep = s := by simp [State.domStep, hcmd]
  have hengines : s.enginesTick = s := foldl_fixed fun e _ => by simp [State.engineTick, heng e]
  rw [htransit, hsettle, hserve, hpostpone, hdom, hengines]

/-- No ledger word to check and no session that has ended: nothing is checked or forgotten. -/
theorem State.checkLedger_forgetSessions {s : State} (hl : s.flt.unchecked = []) (hc : s.sec.closing = []) :
    s.checkLedger.forgetSessions = s := by
  have hledger : s.checkLedger = s := by
    unfold State.checkLedger
    rw [hl, List.foldl_nil, ← hl]
  rw [hledger, State.forgetSessions, hc, List.filter_nil, ← hc]

/-- What links and counters change is no part of the blocks; the classes are told by their words. -/
theorem State.coreQuiet_of_linkFrame {s t : State} (h : s.coreQuiet) (hf : LinkFrame s t)
    (hr : ∀ a, 0xa1000 ≤ a → a < 0xa1800 → t.rd a = s.rd a) : t.coreQuiet := by
  have hclasses := State.captureClasses_of_rd hr
  obtain ⟨hmove, hchan, hcap, hrest⟩ := h
  obtain ⟨r, p, q, l, c, k, o, n, rfl⟩ := hf
  exact ⟨hmove, hchan, hclasses.trans hcap, hrest⟩

/-- The time is no part of the blocks. -/
theorem State.coreQuiet_gtime {s : State} (h : s.coreQuiet) (g : DWord) : ({ s with gtime := g } : State).coreQuiet := h

/-- A tick's work on a quiet state: owed ACKs, withheld credit and the lanes. -/
theorem State.tickWork_of_coreQuiet {s : State} (h : s.coreQuiet) : s.tickWork = s.flushAcks.holdUpdate.lanesTick := by
  have hacks : s.flushAcks.checkLedger.forgetSessions = s.flushAcks := by
    obtain ⟨r, p, q, l, c, k, o, n, hf⟩ := foldl_linkFrame (fun t k => t.flushAck_linkFrame k) (List.range 16) s
    obtain ⟨-, -, -, -, -, -, hl, hc⟩ := h
    change s.flushAcks = _ at hf
    exact State.checkLedger_forgetSessions (by rw [hf]; exact hl) (by rw [hf]; exact hc)
  unfold State.tickWork
  rw [State.coreWork_of_coreQuiet h, hacks]

/-! ### The tick -/

/-- The state whose work a tick does: the grants noted, GTIME on, the time counted. -/
def State.tickStart (s : State) : State := ({ s.markAllMoved with gtime := s.gtime + 1 }).tickCounters

theorem State.tick_eq {s : State} (h : s.aon.pll = true) : s.tick = s.tickStart.tickWork := if_pos h

/-- What a tick always keeps. -/
theorem State.tick_keeps {s : State} (h : s.aon.pll = true) : s.tick.gtime = s.gtime + 1 ∧ s.tick.mode = s.mode ∧
    KeptFuses s s.tick ∧ s.tick.aon = s.aon ∧ s.tick.i3c = s.i3c ∧ s.tick.tap = s.tap ∧ s.tick.pending = s.pending := by
  rw [State.tick_eq h]
  simp [State.tickStart]

/-- Where the blocks are quiet, noting the grants and counting the time leave them so. -/
theorem State.tickStart_coreQuiet {s : State} (h : s.coreQuiet) : s.tickStart.coreQuiet := by
  have hmoved : LinkFrame s s.markAllMoved := foldl_linkFrame (fun t k => t.markMoved_linkFrame k) _ _
  have hregs : ∀ a, s.markAllMoved.rd a = s.rd a := fun a =>
    foldl_keeps (fun t => t.rd a) _ _ _ fun t k => by
      unfold State.markMoved
      dsimp only
      split <;> rfl
  have hnoted : s.markAllMoved.coreQuiet := State.coreQuiet_of_linkFrame h hmoved fun a _ _ => hregs a
  exact State.coreQuiet_of_linkFrame (State.coreQuiet_gtime hnoted (s.gtime + 1)) (State.tickCounters_countFrame _).link fun a h1 h2 => State.rd_tickCounters _ h1 h2

/-- Where the blocks are quiet, a tick moves GTIME, and what links and counters move. -/
theorem State.tick_linkFrame {s : State} (hp : s.aon.pll = true) (h : s.coreQuiet) :
    LinkFrame { s with gtime := s.gtime + 1 } s.tick := by
  have hmoved : LinkFrame { s with gtime := s.gtime + 1 } { s.markAllMoved with gtime := s.gtime + 1 } := by
    obtain ⟨r, p, q, l, c, k, o, n, hf⟩ := foldl_linkFrame (fun t k => t.markMoved_linkFrame k) (List.range 16) s
    change s.markAllMoved = _ at hf
    rw [hf]
    exact ⟨_, _, _, _, _, _, _, _, rfl⟩
  have hacks : ∀ t : State, LinkFrame t t.flushAcks := fun t => foldl_linkFrame (fun u k => u.flushAck_linkFrame k) _ _
  rw [State.tick_eq hp, State.tickWork_of_coreQuiet (State.tickStart_coreQuiet h)]
  exact (((hmoved.trans (State.tickCounters_countFrame _).link).trans (hacks _)).trans
    (State.holdUpdate_countFrame _).link).trans (State.lanesTick_linkFrame _)

/-- Where moreover the links are quiet, a tick moves GTIME and what counters move. -/
theorem State.tick_countFrame {s : State} (hp : s.aon.pll = true) (h : s.coreQuiet) (hl : s.linkQuiet) :
    CountFrame { s with gtime := s.gtime + 1 } s.tick := by
  have hstart : CountFrame { s with gtime := s.gtime + 1 } s.tickStart := by
    unfold State.tickStart
    rw [State.markAllMoved_of_linkQuiet hl]
    exact State.tickCounters_countFrame _
  have hlater : ({ s with gtime := s.gtime + 1 } : State).linkQuiet := hl
  have hquiet : s.tickStart.linkQuiet := State.linkQuiet_of_countFrame hlater hstart
  rw [State.tick_eq hp, State.tickWork_of_coreQuiet (State.tickStart_coreQuiet h), State.flushAcks_of_linkQuiet hquiet,
    State.lanesTick_of_linkQuiet (State.linkQuiet_of_countFrame hquiet (State.holdUpdate_countFrame _))]
  exact hstart.trans (State.holdUpdate_countFrame _)

/-! ### The obligation -/

/-- Settles O3: GTIME moves before the work of the tick, which keeps it; where nothing goes on the work comes down to the counters
and, unless the links are quiet too, to what they send by themselves. -/
theorem tickAdvancesGtime : Obligations.TickAdvancesGtime := by
  intro s hq
  have hstep : step s = .next s.tick := by simp [step, hq]
  refine ⟨fun hp => ?_, fun hp => ?_⟩
  · obtain ⟨hg, hm, hf, ha, hi, ht, hpend⟩ := State.tick_keeps hp
    refine ⟨s.tick, hstep, hg, hm, hf, ha, hi, ht, hpend.trans hq, fun hc => ?_, fun hc hl => ?_⟩
    · obtain ⟨r, p, q, l, c, k, o, n, hframe⟩ := State.tick_linkFrame hp hc
      rw [hframe]
    · obtain ⟨r, p, q, hframe⟩ := State.tick_countFrame hp hc hl
      rw [hframe]
  · rw [hstep, State.tick, if_neg (by simp [hp])]

end Sys2Proof.Machine
end

section
/-! PROOFS. Codewords in memory: what the data stored there read after a write, what counting and the commands of a channel leave of
the controllers, and reads and writes of the array (R256, R257, R266, R283 to R291). -/
namespace Sys2Proof.Machine

/-! ### Data and bytes -/

theorem leNat_append_singleton (l : List Byte) (n : Nat) :
    leNat (l ++ [BitVec.ofNat 8 n]) = leNat l + 2 ^ (8 * l.length) * (n % 256) := by
  induction l with
  | nil => simp [leNat]
  | cons b l ih =>
    rw [List.cons_append, leNat, ih, leNat, List.length_cons, show 8 * (l.length + 1) = 8 * l.length + 8 by omega, Nat.pow_add]
    ring

/-- The little-endian bytes of a number read as the number, cut to them. -/
theorem leNat_leBytes (n x : Nat) : leNat (leBytes n x) = x % 2 ^ (8 * n) := by
  induction n with
  | zero => simp [leBytes, leNat, Nat.mod_one]
  | succ n ih =>
    have hlast : leBytes (n + 1) x = leBytes n x ++ [BitVec.ofNat 8 (x >>> (8 * n))] := by
      simp [leBytes, List.range_succ]
    rw [hlast, leNat_append_singleton, ih, Nat.shiftRight_eq_div_pow, show (leBytes n x).length = n by simp [leBytes],
      show 8 * (n + 1) = 8 * n + 8 by omega, Nat.pow_add, Nat.mod_mul]

theorem length_dataBytes (d : BitVec 512) : (dataBytes d).length = 64 := by simp [dataBytes, leBytes]

theorem bytesData_dataBytes (d : BitVec 512) : bytesData (dataBytes d) = d := by
  apply BitVec.eq_of_toNat_eq
  rw [bytesData, dataBytes, leNat_leBytes, BitVec.toNat_ofNat]
  have := d.isLt
  omega

/-! ### The stored codeword -/

/-- Memory after bytes were put: those bytes from the key on, and elsewhere what it held. -/
theorem look_putBytes (l : List Byte) (m : List Host.Cell) (k j : Nat) :
    Tab.look (putBytes m k l) j = if k ≤ j ∧ j < k + l.length then l[j - k]? else Tab.look m j := by
  induction l generalizing m k with
  | nil => simp [putBytes]
  | cons b l ih =>
    rw [putBytes, ih, Tab.look_put, List.length_cons]
    by_cases hj : j = k
    · simp [hj]
    · by_cases hin : k + 1 ≤ j ∧ j < k + 1 + l.length
      · rw [if_pos hin, if_pos (by omega), show j - k = j - (k + 1) + 1 by omega, List.getElem?_cons_succ]
      · rw [if_neg hin, if_neg hj, if_neg (by omega)]

/-- Every byte of the codeword at a key has been written. -/
def State.whole (s : State) (k : Nat) : Prop := ∀ i < 64, Tab.look s.mem (k + i) ≠ none

/-- The data of a codeword written in whole are what memory lists there, whatever is drawn for other bytes (R537). -/
theorem State.stored_of_whole {s t : State} {k : Nat} (h : s.whole k) (hm : t.mem = s.mem) : t.stored k = s.stored k := by
  unfold State.stored
  rw [hm]
  congr 1
  refine List.map_congr_left fun i hi => ?_
  obtain ⟨b, hb⟩ := Option.ne_none_iff_exists'.mp (h i (List.mem_range.mp hi))
  rw [hb]
  rfl

/-- Memory and the stored errors are those of `s` with one codeword written, without an error. -/
structure Written (s t : State) (k : Nat) (d : BitVec 512) : Prop where
  mem : t.mem = putBytes s.mem k (dataBytes d)
  errs : t.errs = Tab.del s.errs k

theorem Written.stored {s t : State} {k : Nat} {d : BitVec 512} (h : Written s t k d) : t.stored k = d := by
  have hbytes : (List.range 64).map (fun i => (Tab.look t.mem (k + i)).getD (Config.freeByte t.fresh (k + i))) = dataBytes d := by
    refine List.ext_getElem (by simp [length_dataBytes]) fun i h1 h2 => ?_
    have hi : i < 64 := by simpa using h1
    rw [List.getElem_map, List.getElem_range, h.mem, look_putBytes, length_dataBytes, if_pos (by omega), Nat.add_sub_cancel_left,
      List.getElem?_eq_getElem h2, Option.getD_some]
  rw [State.stored, hbytes, bytesData_dataBytes]

theorem Written.storedErr {s t : State} {k : Nat} {d : BitVec 512} (h : Written s t k d) : t.storedErr k = [] := by
  simp [State.storedErr, Tab.lookD, h.errs]

theorem Written.look_elsewhere {s t : State} {k : Nat} {d : BitVec 512} (h : Written s t k d) {m : Nat} (hm : m < k ∨ k + 64 ≤ m) :
    Tab.look t.mem m = Tab.look s.mem m := by
  rw [h.mem, look_putBytes, length_dataBytes, if_neg (by omega)]

theorem Written.storedErr_elsewhere {s t : State} {k : Nat} {d : BitVec 512} (h : Written s t k d) {m : Nat} (hm : m ≠ k) :
    t.storedErr m = s.storedErr m := by
  rw [State.storedErr, State.storedErr, h.errs, Tab.lookD, Tab.lookD, Tab.look_del_ne _ _ _ hm]

/-- The codeword stored without an error. -/
theorem State.store_written (s : State) (k : Nat) (d : BitVec 512) : Written s (s.store k d []) k d := by
  have hnone : errNorm [] = [] := by decide
  constructor <;> simp only [State.store, hnone, if_true]

/-! ### What counting leaves -/

/-- The words of an injection (R298) read what they read before. -/
def InjKept (s t : State) : Prop := ∀ a, a = Reg.ECC_INJ_CTL ∨ a = Reg.ECC_INJ_ADDR → t.rd a = s.rd a

theorem InjKept.trans {s t u : State} (h : InjKept s t) (k : InjKept t u) : InjKept s u := fun a ha => (k a ha).trans (h a ha)

theorem InjKept.injArmed {s t : State} (h : InjKept s t) (c a : Nat) : t.injArmed c a = s.injArmed c a := by
  have hctl := h _ (.inl rfl)
  have haddr := h _ (.inr rfl)
  simp only [State.injArmed, State.flag, State.fld, State.rdN, hctl, haddr]

/-- Counters move, and what is kept of classes and samples; an armed injection stays. -/
structure Counted (s t : State) : Prop where
  frame : CountFrame s t
  inj : InjKept s t

theorem Counted.refl (s : State) : Counted s s := ⟨.refl s, fun _ _ => rfl⟩

theorem Counted.trans {s t u : State} (h : Counted s t) (k : Counted t u) : Counted s u := ⟨h.frame.trans k.frame, h.inj.trans k.inj⟩

/-- A register outside the injection words written. -/
theorem Counted.wr (s : State) {a : Nat} (v : Word) (h : a ≠ Reg.ECC_INJ_CTL ∧ a ≠ Reg.ECC_INJ_ADDR) : Counted s (s.wr a v) := by
  refine ⟨⟨_, _, _, rfl⟩, fun b hb => State.rd_wr_ne _ _ _ _ ?_⟩
  rintro rfl
  exact hb.elim h.1 h.2

theorem Counted.count (s : State) (ev inc filter : Nat) (part : Option Nat) (a b off : Nat) :
    Counted s (s.count ev inc filter part a b off) := by
  refine ⟨s.count_countFrame .., fun r hr => State.rd_count _ _ _ _ _ _ _ _ _ (.inr ?_)⟩
  rcases hr with rfl | rfl <;> decide

theorem Counted.countCw (s : State) (ev c a : Nat) (part : Option (Nat × Nat)) (inPart : Bool) :
    Counted s (s.countCw ev c a part inPart) := .count ..

theorem Counted.inc64 (s : State) {a : Nat} (n : Nat) (h : a ≠ Reg.ECC_INJ_CTL ∧ a ≠ Reg.ECC_INJ_ADDR)
    (h4 : a + 4 ≠ Reg.ECC_INJ_CTL ∧ a + 4 ≠ Reg.ECC_INJ_ADDR) : Counted s (s.inc64 a n) :=
  (Counted.wr s _ h).trans (Counted.wr _ _ h4)

theorem Counted.event (s : State) {a : Nat} (f : Fld) (h : a ≠ Reg.ECC_INJ_CTL ∧ a ≠ Reg.ECC_INJ_ADDR) : Counted s (s.event a f) :=
  Counted.wr s _ h

theorem Counted.setQos (s : State) (q : QosSt) : Counted s { s with qos := q } := ⟨⟨_, _, _, rfl⟩, fun _ _ => rfl⟩

theorem Counted.stray (s : State) (n : Nat) (conf : Bool) : Counted s (s.stray n conf) := by
  unfold State.stray
  split
  · exact .refl s
  · exact ⟨⟨_, _, _, rfl⟩, fun _ _ => rfl⟩

theorem Counted.charge (s : State) (n bytes : Nat) : Counted s (s.charge n bytes).1 := by
  unfold State.charge
  split
  · exact (Counted.setQos s _).trans (.stray ..)
  · exact .stray ..

theorem Counted.served (s : State) (n bytes : Nat) (conf : Bool) : Counted s (s.served n bytes conf) := by
  have hbytes : Counted s (s.inc64 (Reg.QOS_C_BYTES n) bytes) := by
    apply Counted.inc64 <;> simp only [Reg.QOS_C_BYTES, Reg.ECC_INJ_CTL, Reg.ECC_INJ_ADDR] <;> omega
  unfold State.served
  dsimp only
  split
  · exact .refl s
  · split
    · exact (hbytes.trans (.count ..)).trans (.count ..)
    · exact hbytes.trans (.count ..)

theorem Counted.latServed (s : State) (n age : Nat) : Counted s (s.latServed n age) := by
  have hmax : ∀ v, Counted s (s.wrN (Reg.QOS_C_LATMAX n) v) := fun v =>
    .wr _ _ (by simp only [Reg.QOS_C_LATMAX, Reg.ECC_INJ_CTL, Reg.ECC_INJ_ADDR]; omega)
  unfold State.latServed
  dsimp only
  split
  · split
    · exact (hmax _).trans (.wr _ _ (by simp only [Reg.QOS_C_LATOVER, Reg.ECC_INJ_CTL, Reg.ECC_INJ_ADDR]; omega))
    · exact hmax _
  · exact .refl s

theorem Counted.lateHit (s : State) (c : Nat) (late : Bool) : Counted s (s.lateHit c late) := by
  unfold State.lateHit
  split
  · exact .event _ _ (by simp only [Reg.DMC_EVENTS, Reg.ECC_INJ_CTL, Reg.ECC_INJ_ADDR]; omega)
  · exact .refl s

/-- A controller's counter of 64 bits. -/
theorem Counted.dmcCounter (s : State) (c : Nat) {o : Nat} (ho : o < 0x100) (h8 : o % 16 = 0 ∨ o % 16 = 8) (hd : o ≠ 8) :
    Counted s (s.inc64 (0x200000 + o + c * 0x1000) 1) := by
  apply Counted.inc64 <;> simp only [Reg.ECC_INJ_CTL, Reg.ECC_INJ_ADDR] <;> omega

theorem Counted.countRefresh (s : State) (c : Nat) (k : DramCmd) : Counted s (s.countRefresh c k) := by
  unfold State.countRefresh
  split
  · exact .refl s
  · exact (Counted.dmcCounter s c (o := 0x10) (by omega) (by omega) (by omega)).trans (.count ..)

/-- What counting leaves of a controller. -/
theorem Counted.dmc {s t : State} (h : Counted s t) : t.dmc = s.dmc := by
  obtain ⟨⟨r, p, q, rfl⟩, -⟩ := h
  rfl

theorem Counted.memory {s t : State} (h : Counted s t) : t.mem = s.mem ∧ t.errs = s.errs := by
  obtain ⟨⟨r, p, q, rfl⟩, -⟩ := h
  exact ⟨rfl, rfl⟩

theorem Counted.answer {s t : State} (h : Counted s t) : t.answer = s.answer := by
  obtain ⟨⟨r, p, q, rfl⟩, -⟩ := h
  rfl

theorem Counted.chan {s t : State} (h : Counted s t) (c : Nat) : t.chan c = s.chan c := by
  rw [State.chan, State.chan, h.dmc]

theorem Counted.cwBusy {s t : State} (h : Counted s t) (c a : Nat) : t.cwBusy c a = s.cwBusy c a := by
  obtain ⟨⟨r, p, q, rfl⟩, -⟩ := h
  rfl

theorem Counted.now {s t : State} (h : Counted s t) : t.now = s.now := by
  obtain ⟨⟨r, p, q, rfl⟩, -⟩ := h
  rfl

theorem Counted.cadImage {s t : State} (h : Counted s t) (c a : Nat) : t.cadImage c a = s.cadImage c a := by
  obtain ⟨⟨r, p, q, rfl⟩, -⟩ := h
  rfl

/-! ### What the commands of a channel leave -/

/-- Commands were issued on a channel: its merge buffer and its write backs stay, and so does what lies outside the controllers but
counters and free values drawn. -/
structure Issued (c : Nat) (s t : State) : Prop where
  rest : ∃ r p q d n, t = { s with regs := r, pmc := p, qos := q, dmc := d, fresh := n }
  merge : (t.chan c).merge = (s.chan c).merge
  wb : (t.chan c).wb = (s.chan c).wb
  inj : InjKept s t

theorem Issued.refl (c : Nat) (s : State) : Issued c s s := ⟨⟨_, _, _, _, _, rfl⟩, rfl, rfl, fun _ _ => rfl⟩

theorem Issued.trans {c : Nat} {s t u : State} (h : Issued c s t) (k : Issued c t u) : Issued c s u := by
  refine ⟨?_, k.merge.trans h.merge, k.wb.trans h.wb, h.inj.trans k.inj⟩
  obtain ⟨r, p, q, d, n, rfl⟩ := h.rest
  obtain ⟨r', p', q', d', n', rfl⟩ := k.rest
  exact ⟨r', p', q', d', n', rfl⟩

theorem Counted.issued {s t : State} (h : Counted s t) (c : Nat) : Issued c s t := by
  refine ⟨?_, by rw [h.chan], by rw [h.chan], h.inj⟩
  obtain ⟨r, p, q, rfl⟩ := h.frame
  exact ⟨_, _, _, _, _, rfl⟩

theorem Issued.memory {c : Nat} {s t : State} (h : Issued c s t) : t.mem = s.mem ∧ t.errs = s.errs := by
  obtain ⟨r, p, q, d, n, rfl⟩ := h.rest
  exact ⟨rfl, rfl⟩

theorem Issued.storedErr {c : Nat} {s t : State} (h : Issued c s t) (k : Nat) : t.storedErr k = s.storedErr k := by
  rw [State.storedErr, State.storedErr, h.memory.2]

theorem Issued.whole {c : Nat} {s t : State} (h : Issued c s t) {k : Nat} (hw : s.whole k) : t.whole k := by
  unfold State.whole
  rw [h.memory.1]
  exact hw

/-- What a channel holds changed, but not its merge buffer or its write backs. -/
theorem Issued.setChan (s : State) (c : Nat) (x : Chan) (hm : x.merge = (s.chan c).merge := by rfl)
    (hw : x.wb = (s.chan c).wb := by rfl) : Issued c s (s.setChan c x) :=
  ⟨⟨_, _, _, _, _, rfl⟩, by rw [State.chan_setChan, hm], by rw [State.chan_setChan, hw], fun _ _ => rfl⟩

theorem Issued.draw (c : Nat) (s : State) : Issued c s s.draw := ⟨⟨_, _, _, _, _, rfl⟩, rfl, rfl, fun _ _ => rfl⟩

theorem foldl_counted {α : Type} {f : State → α → State} (h : ∀ t x, Counted t (f t x)) (l : List α) (s : State) :
    Counted s (l.foldl f s) := by
  induction l generalizing s with
  | nil => exact .refl s
  | cons x l ih => exact (h s x).trans (ih _)

theorem Issued.command (s : State) (c : Nat) (k : DramCmd) : Issued c s (s.command c k) :=
  (Issued.setChan s c _).trans ((foldl_counted (fun t o => .countRefresh t c o) _ _).issued c)

theorem Issued.openRow (s : State) (c a : Nat) : Issued c s (s.openRow c a) := by
  have hclosed : Issued c s (if (Tab.look (s.chan c).openRows (bankOf a)).isSome then s.command c (s.plainCmd 4 a) else s) := by
    split
    · exact .command ..
    · exact .refl c s
  have hcounted : ∀ t : State, Counted t ((t.inc64 (Reg.DMC_ACT_CNT c)).count 4 1 c none a c) := fun t =>
    (Counted.dmcCounter t c (o := 0x30) (by omega) (by omega) (by omega)).trans (.count ..)
  unfold State.openRow
  dsimp only
  exact ((hclosed.trans (.command ..)).trans (Issued.setChan _ c _)).trans ((hcounted _).issued c)

theorem Issued.column (s : State) (c : Nat) (k : DramCmd) : Issued c s (s.column c k) := by
  unfold State.column
  split
  · refine (Issued.command s c k).trans (Counted.issued ?_ c)
    exact (Counted.dmcCounter _ c (o := 0x38) (by omega) (by omega) (by omega)).trans (.count ..)
  · exact (Issued.openRow ..).trans (.command ..)

theorem Issued.keepSent (s : State) (c a : Nat) (d : BitVec 512) (e : SymErr) : Issued c s (s.keepSent c a d e) := by
  have hnumber : ∀ t : State, Issued c t { t with dmc := { t.dmc with reqSeq := t.dmc.reqSeq + 1 } } := fun t =>
    ⟨⟨_, _, _, _, _, rfl⟩, rfl, rfl, fun _ _ => rfl⟩
  unfold State.keepSent
  dsimp only
  split
  · exact (Issued.setChan s c _).trans (hnumber _)
  · exact hnumber _

theorem Issued.sentFor (s : State) (c n : Nat) (r : DmcReq) : Issued c s (s.sentFor c n r) := Issued.setChan s c _

/-! ### Writes of the array -/

/-- What is issued for a write before its data are stored. -/
def State.writeIssued (s : State) (c a : Nat) (d : BitVec 512) (e : SymErr) : State :=
  ((s.column c { kind := 2, addr := a, at_ := s.now, data := d, err := e, oldMem := s.cellsAt (memKey c a)
                 oldErr := s.storedErr (memKey c a) }).inc64 (Reg.DMC_WR_CNT c)).keepSent c a d e

theorem State.storeCmd_eq (s : State) (c a : Nat) (d : BitVec 512) (e : SymErr) :
    s.storeCmd c a d e = (s.writeIssued c a d e).store (memKey c a) d e := by
  rw [State.storeCmd, State.writeIssued]

theorem State.writeIssued_issued (s : State) (c a : Nat) (d : BitVec 512) (e : SymErr) : Issued c s (s.writeIssued c a d e) := by
  have hcounted : ∀ t : State, Counted t (t.inc64 (Reg.DMC_WR_CNT c)) := fun t =>
    .dmcCounter t c (o := 0x28) (by omega) (by omega) (by omega)
  exact ((Issued.column ..).trans ((hcounted _).issued c)).trans (.keepSent ..)

/-- A write without an injection on its codeword: commands are issued, and the data are stored without an error. -/
theorem State.issueWrite_unarmed {s : State} {c a : Nat} (h : s.injArmed c a = false) (d : BitVec 512) (part : Option (Nat × Nat)) :
    ∃ u, Issued c s u ∧ s.issueWrite c a d part = u.store (memKey c a) d [] := by
  have hcounted : Counted s (s.countCw 3 c a part true) := .countCw ..
  have hunarmed : (s.countCw 3 c a part true).injArmed c a = false := (hcounted.inj.injArmed c a).trans h
  refine ⟨_, (hcounted.issued c).trans (State.writeIssued_issued _ c a d []), ?_⟩
  simp only [State.issueWrite, hunarmed, Bool.false_eq_true, if_false, State.storeCmd_eq]

/-! ### Reads of the array -/

/-- What is issued before a read of the array gives its data. -/
def State.readIssued (s : State) (c a : Nat) (part : Option (Nat × Nat)) : State :=
  ((s.column c (s.plainCmd 1 a)).inc64 (Reg.DMC_RD_CNT c)).countCw 2 c a part true

theorem State.readIssued_issued (s : State) (c a : Nat) (part : Option (Nat × Nat)) : Issued c s (s.readIssued c a part) :=
  (Issued.column ..).trans
    (Counted.issued ((Counted.dmcCounter _ c (o := 0x20) (by omega) (by omega) (by omega)).trans (.countCw ..)) c)

/-- One read of a codeword written in whole: its stored error alone decides. -/
theorem State.rawRead_whole {s : State} {c a : Nat} (h : s.whole (memKey c a)) : s.rawRead c a [] =
    ((decodeErr (errAdd (s.storedErr (memKey c a)) [])).1, (decodeErr (errAdd (s.storedErr (memKey c a)) [])).2,
      delivered (s.stored (memKey c a)) (errAdd (s.storedErr (memKey c a)) []) (decodeErr (errAdd (s.storedErr (memKey c a)) [])).2) := by
  have hwritten : s.unwritten (memKey c a) = false := by
    rw [State.unwritten, List.all_eq_false]
    exact ⟨0, by simp, by simpa using h 0 (by omega)⟩
  simp [State.rawRead, hwritten]

theorem delivered_nil (d : BitVec 512) : delivered d [] [] = d := by
  have hbits : dataBits [] = 0 := rfl
  simp [delivered, hbits]

/-- A read of the array whose first read gives CLEAN delivers the data. -/
theorem State.arrayRead_of_clean {s : State} {c a src : Nat} {part : Option (Nat × Nat)} {l : SymErr} {d : BitVec 512}
    (h : (s.readIssued c a part).rawRead c a [] = (.clean, l, d)) :
    s.arrayRead c a noErrs src part = ⟨(s.readIssued c a part).draw, some d, .clean⟩ := by
  have hcell : errNorm noErrs.cell = [] := by decide
  have hline : noErrs.line = [] := rfl
  unfold State.readIssued at h ⊢
  simp [State.arrayRead, hcell, hline, h, State.reportEcc]

/-- A read of the array whose first read gives POISON delivers nothing, and reports it unless a scrub made it. -/
theorem State.arrayRead_of_poison {s : State} {c a src : Nat} {part : Option (Nat × Nat)} {l : SymErr} {d : BitVec 512}
    (h : (s.readIssued c a part).rawRead c a [] = (.poison, l, d)) : s.arrayRead c a noErrs src part =
      ⟨(if src = 2 then s.readIssued c a part else (s.readIssued c a part).reportEcc c a .poison l src part).draw, none, .poison⟩ := by
  have hcell : errNorm noErrs.cell = [] := by decide
  have hline : noErrs.line = [] := rfl
  unfold State.readIssued at h ⊢
  simp [State.arrayRead, hcell, hline, h]

/-- A codeword written in whole and without an error is read CLEAN, with its data. -/
theorem State.arrayRead_clean {s : State} {c a : Nat} (hw : s.whole (memKey c a)) (he : s.storedErr (memKey c a) = [])
    (src : Nat) (part : Option (Nat × Nat)) :
    ∃ u, Issued c s u ∧ s.arrayRead c a noErrs src part = ⟨u, some (s.stored (memKey c a)), .clean⟩ := by
  have hissued := s.readIssued_issued c a part
  have hclean : decodeErr (errAdd [] []) = (.clean, []) := by decide +kernel
  have hnone : errAdd [] [] = [] := by decide
  have hraw : (s.readIssued c a part).rawRead c a [] = (.clean, [], s.stored (memKey c a)) := by
    rw [State.rawRead_whole (hissued.whole hw), hissued.storedErr, he, hclean, hnone, delivered_nil,
      State.stored_of_whole hw hissued.memory.1]
  refine ⟨(s.readIssued c a part).draw, hissued.trans (.draw ..), ?_⟩
  exact State.arrayRead_of_clean hraw

/-- A codeword written in whole and stored as poison is read POISON: nothing is delivered, and memory stays. -/
theorem State.arrayRead_poison {s : State} {c a : Nat} (hw : s.whole (memKey c a)) (he : s.storedErr (memKey c a) = poisonErr)
    (src : Nat) (part : Option (Nat × Nat)) : (s.arrayRead c a noErrs src part).data = none ∧
      KeptMemory s (s.arrayRead c a noErrs src part).st := by
  have hissued := s.readIssued_issued c a part
  have hpoison : decodeErr (errAdd poisonErr []) = (.poison, []) := by decide +kernel
  have hraw := State.rawRead_whole (hissued.whole hw)
  rw [hissued.storedErr, he, hpoison] at hraw
  have hmem : KeptMemory s (s.readIssued c a part) := hissued.memory
  rw [State.arrayRead_of_poison hraw]
  refine ⟨rfl, ?_⟩
  dsimp only
  split <;> simp [hmem]

end Sys2Proof.Machine
end

section
/-! PROOFS. Codewords written and read through a channel that serves them (R102, R255, R257, R284 to R291, R312). -/
namespace Sys2Proof.Machine

/-! ### The steps of a request -/

/-- A bank that no ROW leg holds has none to preempt. -/
theorem State.preemptBank_of_no_leg {s : State} {c a : Nat} (h : s.bankLeg c a = none) : s.preemptBank c a = s := by
  rw [State.preemptBank, h]

/-- A channel that serves a codeword has no ROW leg on its bank. -/
theorem State.preemptBank_of_not_busy {s : State} {c a : Nat} (h : s.cwBusy c a = false) : s.preemptBank c a = s := by
  have hleg : (s.bankLeg c a).isSome = false := by
    unfold State.cwBusy at h
    simp only [Bool.or_eq_false_iff] at h
    exact h.1.1.2
  exact State.preemptBank_of_no_leg (Option.isNone_iff_eq_none.mp (by simpa using hleg))

/-- A request of some bytes taken: charged, counted, and late or not. -/
def State.taken (s : State) (c cls n : Nat) (late : Bool) : State :=
  ((s.charge cls n).1.served cls n (s.charge cls n).2).lateHit c late

theorem State.taken_counted (s : State) (c cls n : Nat) (late : Bool) : Counted s (s.taken c cls n late) :=
  ((Counted.charge ..).trans (.served ..)).trans (.lateHit ..)

/-- A read that must wait joins the requests of its channel; another is served for its reader. -/
theorem State.dmcRead_eq (s : State) (c a cls age cycles : Nat) (late : Bool) (errs : ReadErrs) (reader : Reader) :
    s.dmcRead c a cls age cycles late errs reader =
      if s.readWaits c a then
        (s.taken c cls 64 late).askChan c a cls (s.charge cls 64).2 (s.now - age * 25 / 8) (.read errs reader)
      else (((s.taken c cls 64 late).latServed cls age).readFor c a s.dmc.reqSeq errs reader).latMax c cycles := by
  have h := s.taken_counted c cls 64 late
  have hwaits : (s.taken c cls 64 late).readWaits c a = s.readWaits c a := by
    rw [State.readWaits, State.readWaits, h.cwBusy, h.chan, h.dmc]
  rw [← hwaits, ← h.dmc]
  rfl

/-- A write is merged or written, or it waits, once its request has been taken. -/
theorem State.dmcWrite_eq (s : State) (c a cls age : Nat) (late : Bool) (d : BitVec 512) (w : BitVec 64) :
    s.dmcWrite c a cls age late d w = (s.taken c cls (byteCount w) late).writeOrWait c a d w cls (s.charge cls (byteCount w)).2
      (s.now - age * 25 / 8) ((s.taken c cls (byteCount w) late).partOfAddr c a) := by
  rw [State.dmcWrite, State.taken]

/-- A write that its channel serves is applied, and stands in the write queue as issued. -/
theorem State.writeOrWait_served {s : State} {c a : Nat} {w : BitVec 64} (hb : s.cwBusy c a = false)
    (hf : (s.chan c).mergeFull a w = false) (hq : (s.chan c).wq.length < 64) (d : BitVec 512) (cls : Nat) (conf : Bool) (since : Nat)
    (part : Option (Nat × Nat)) :
    Issued c (s.applyWrite c a d w cls (paidBytes conf w) part) (s.writeOrWait c a d w cls conf since part) := by
  have hfull : ¬ 64 ≤ (s.chan c).wq.length := by omega
  unfold State.writeOrWait
  simp only [hb, hf, hfull, Bool.or_false, decide_false, Bool.false_eq_true, if_false]
  exact ((Counted.latServed ..).issued c).trans (.sentFor ..)

theorem State.writeOrWait_waits {s : State} {c a : Nat} {w : BitVec 64}
    (h : s.cwBusy c a = true ∨ (s.chan c).mergeFull a w = true ∨ 64 ≤ (s.chan c).wq.length) (d : BitVec 512) (cls : Nat)
    (conf : Bool) (since : Nat) (part : Option (Nat × Nat)) :
    s.writeOrWait c a d w cls conf since part = s.askWrite c a cls conf since d w := by
  unfold State.writeOrWait
  rw [if_pos]
  simpa [or_assoc] using h

/-! ### Writes served -/

theorem Chan.mergeFull_allBytes (x : Chan) (a : Nat) : x.mergeFull a allBytes = false := by simp [Chan.mergeFull]

theorem Chan.mergeOf_of_merge {x y : Chan} (h : x.merge = y.merge) (a : Nat) : x.mergeOf a = y.mergeOf a := by
  rw [Chan.mergeOf, Chan.mergeOf, h]

/-- A merge entry freed is gone. -/
theorem State.mergeOf_freeMerge (s : State) (c a : Nat) : ((s.freeMerge c a).chan c).mergeOf a = none := by
  simp [State.freeMerge, Chan.mergeOf, List.find?_eq_none]

/-- What is stored is no part of the controllers. -/
theorem State.chan_store (s : State) (k : Nat) (d : BitVec 512) (e : SymErr) (c : Nat) : (s.store k d e).chan c = s.chan c := by
  simp only [State.chan, State.store]

theorem Written.of_kept {s t u : State} {k : Nat} {d : BitVec 512} (hk : KeptMemory s t) (h : Written t u k d) : Written s u k d :=
  ⟨by rw [h.mem, hk.1], by rw [h.errs, hk.2]⟩

theorem Written.then_kept {s t u : State} {k : Nat} {d : BitVec 512} (h : Written s t k d) (hk : KeptMemory t u) : Written s u k d :=
  ⟨by rw [hk.1, h.mem], by rw [hk.2, h.errs]⟩

/-- What a write that is not answered by the merge buffer begins with: the write back of its codeword is superseded, its merge entry
freed (R287, R291). -/
def State.cleared (s : State) (c a : Nat) : State :=
  (s.setChan c { s.chan c with wb := (s.chan c).wb.filter (fun x => x != a) }).freeMerge c a

/-- A full write without an injection clears its codeword's entries and is issued. -/
theorem State.applyWrite_allBytes {s : State} {c a : Nat} (h : s.injArmed c a = false) (d : BitVec 512) (cls paid : Nat)
    (part : Option (Nat × Nat)) :
    ∃ u, Issued c (s.cleared c a) u ∧ s.applyWrite c a d allBytes cls paid part = u.store (memKey c a) d [] := by
  have hkept : InjKept s (s.cleared c a) := fun _ _ => rfl
  obtain ⟨u, hu, heq⟩ := State.issueWrite_unarmed ((hkept.injArmed c a).trans h) d (trafficPart cls part)
  refine ⟨u, hu, ?_⟩
  rw [← heq, State.applyWrite, if_pos rfl, State.cleared]

/-- A full write leaves its codeword written, and neither a merge entry nor a write back of it. -/
theorem State.applyWrite_full {s : State} {c a : Nat} (h : s.injArmed c a = false) (d : BitVec 512) (cls paid : Nat)
    (part : Option (Nat × Nat)) : Written s (s.applyWrite c a d allBytes cls paid part) (memKey c a) d ∧
      ((s.applyWrite c a d allBytes cls paid part).chan c).mergeOf a = none ∧
      ((s.applyWrite c a d allBytes cls paid part).chan c).wb.contains a = false := by
  obtain ⟨u, hu, happly⟩ := State.applyWrite_allBytes h d cls paid part
  have hchan := u.chan_store (memKey c a) d [] c
  have hcleared : KeptMemory s (s.cleared c a) := ⟨rfl, rfl⟩
  have hwritten := (State.store_written u (memKey c a) d).of_kept hu.memory
  rw [happly, hchan]
  refine ⟨hwritten.of_kept hcleared, ?_, ?_⟩
  · rw [Chan.mergeOf_of_merge hu.merge]
    exact State.mergeOf_freeMerge ..
  · rw [hu.wb]
    simp [State.cleared, State.freeMerge]

/-- The entry that a narrow write allocates (R287). -/
def newEntry (a : Nat) (d : BitVec 512) (w : BitVec 64) (cls paid now : Nat) : MergeEntry :=
  { addr := a, data := mergeData 0#512 d w, valid := w, cls := cls, charged := paid, t := now }

/-- A narrow write without an entry allocates one while the buffer is not full enough to drain. -/
theorem State.applyWrite_narrow {s : State} {c a : Nat} {w : BitVec 64} (hw : w ≠ allBytes) (hm : (s.chan c).mergeOf a = none)
    (hl : (s.chan c).merge.length < 767) (d : BitVec 512) (cls paid : Nat) (part : Option (Nat × Nat)) :
    KeptMemory s (s.applyWrite c a d w cls paid part) ∧
      ((s.applyWrite c a d w cls paid part).chan c).merge = (s.chan c).merge ++ [newEntry a d w cls paid s.now] := by
  have hroom : ¬ 768 ≤ (s.chan c).merge.length + 1 := by omega
  have hnone : ∀ l, ({ s.chan c with wb := l } : Chan).mergeOf a = none := fun l => hm
  unfold State.applyWrite
  simp only [hw, if_false, State.chan_setChan, hnone, hroom, State.setChan_setChan]
  exact ⟨⟨rfl, rfl⟩, rfl⟩

/-- A full write that its channel serves (R287, R291). -/
theorem State.dmcWrite_full {s : State} {c a : Nat} (hb : s.cwBusy c a = false) (hi : s.injArmed c a = false)
    (hq : (s.chan c).wq.length < 64) (cls age : Nat) (late : Bool) (d : BitVec 512) :
    Written s (s.dmcWrite c a cls age late d allBytes) (memKey c a) d ∧
      ((s.dmcWrite c a cls age late d allBytes).chan c).mergeOf a = none ∧
      ((s.dmcWrite c a cls age late d allBytes).chan c).wb.contains a = false := by
  have h := s.taken_counted c cls (byteCount allBytes) late
  obtain ⟨hwritten, hmerge, hwb⟩ := State.applyWrite_full ((h.inj.injArmed c a).trans hi) d cls
    (paidBytes (s.charge cls (byteCount allBytes)).2 allBytes) ((s.taken c cls (byteCount allBytes) late).partOfAddr c a)
  have hissued := State.writeOrWait_served
    ((h.cwBusy c a).trans hb) (Chan.mergeFull_allBytes ..) (by rw [h.chan]; exact hq) d cls
    (s.charge cls (byteCount allBytes)).2 (s.now - age * 25 / 8) ((s.taken c cls (byteCount allBytes) late).partOfAddr c a)
  rw [← State.dmcWrite_eq] at hissued
  refine ⟨(hwritten.of_kept h.memory).then_kept hissued.memory, ?_, ?_⟩
  · exact (Chan.mergeOf_of_merge hissued.merge a).trans hmerge
  · rw [hissued.wb]
    exact hwb

/-- A narrow write that its channel serves and for whose codeword no merge entry stands (R287, R290). -/
theorem State.dmcWrite_narrow {s : State} {c a : Nat} {w : BitVec 64} (hb : s.cwBusy c a = false) (hw : w ≠ allBytes)
    (hm : (s.chan c).mergeOf a = none) (hl : (s.chan c).merge.length < 767) (hq : (s.chan c).wq.length < 64) (cls age : Nat)
    (late : Bool) (d : BitVec 512) : KeptMemory s (s.dmcWrite c a cls age late d w) ∧
      ((s.dmcWrite c a cls age late d w).chan c).merge =
        (s.chan c).merge ++ [newEntry a d w cls (paidBytes (s.charge cls (byteCount w)).2 w) s.now] := by
  have h := s.taken_counted c cls (byteCount w) late
  obtain ⟨hmem, hmerge⟩ := State.applyWrite_narrow hw (by rw [h.chan]; exact hm) (by rw [h.chan]; exact hl) d cls
    (paidBytes (s.charge cls (byteCount w)).2 w) ((s.taken c cls (byteCount w) late).partOfAddr c a)
  have hfull : (s.chan c).mergeFull a w = false := by
    have : ¬ 896 ≤ (s.chan c).merge.length := by omega
    simp [Chan.mergeFull, this]
  have hissued := State.writeOrWait_served
    ((h.cwBusy c a).trans hb) (by rw [h.chan]; exact hfull) (by rw [h.chan]; exact hq) d cls
    (s.charge cls (byteCount w)).2 (s.now - age * 25 / 8) ((s.taken c cls (byteCount w) late).partOfAddr c a)
  rw [← State.dmcWrite_eq] at hissued
  refine ⟨?_, ?_⟩
  · exact ⟨(hissued.memory.1.trans hmem.1).trans h.memory.1, (hissued.memory.2.trans hmem.2).trans h.memory.2⟩
  · rw [hissued.merge, hmerge, h.chan, h.now]

/-! ### Reads served -/

/-- A delivered codeword answers its reader OK, with what the cadastre's tables hold there (R102) or the data. -/
theorem State.readFor_of_data {s : State} {c a n : Nat} {errs : ReadErrs} {reader : Reader} {d : BitVec 512}
    (h : (s.readCw c a n errs (s.partOfAddr c a)).data = some d) :
    (s.readFor c a n errs reader).answer = ⟨.ok, (s.cadImage c a).getD (dataBytes d)⟩ ∧
      KeptMemory (s.readCw c a n errs (s.partOfAddr c a)).st (s.readFor c a n errs reader) := by
  unfold State.readFor
  dsimp only
  rw [h]
  exact ⟨rfl, rfl, rfl⟩

/-- A codeword that is not delivered answers its reader E_INTEGRITY, with zeros (R284). -/
theorem State.readFor_of_none {s : State} {c a n : Nat} {errs : ReadErrs} {reader : Reader}
    (h : (s.readCw c a n errs (s.partOfAddr c a)).data = none) :
    (s.readFor c a n errs reader).answer = ⟨.eIntegrity, List.replicate 64 0⟩ ∧
      KeptMemory (s.readCw c a n errs (s.partOfAddr c a)).st (s.readFor c a n errs reader) := by
  unfold State.readFor
  dsimp only
  rw [h]
  exact ⟨rfl, by simp⟩

/-- A codeword that the write queue holds whole is read from there (R257). -/
theorem State.readCw_queued {s : State} {c a n : Nat} {b : BitVec 512} (h : (s.chan c).queued a n = some b) (errs : ReadErrs)
    (part : Option (Nat × Nat)) : s.readCw c a n errs part = ⟨s, some b, .clean⟩ := by
  rw [State.readCw, h]

/-- Without a write in the queue and without a merge entry a codeword is read from the array. -/
theorem State.readCw_array {s : State} {c a n : Nat} (hq : (s.chan c).queued a n = none) (hm : (s.chan c).mergeOf a = none)
    (errs : ReadErrs) (part : Option (Nat × Nat)) : s.readCw c a n errs part = s.arrayRead c a errs 0 part := by
  rw [State.readCw, hq, hm]

/-- A read that its channel serves: a state in which counters alone have moved, in which the codeword is read for the reader. -/
theorem State.dmcRead_served {s : State} {c a : Nat} (h : s.readWaits c a = false) (cls age cycles : Nat) (late : Bool)
    (errs : ReadErrs) (reader : Reader) : ∃ u, Counted s u ∧
      s.dmcRead c a cls age cycles late errs reader = (u.readFor c a s.dmc.reqSeq errs reader).latMax c cycles := by
  refine ⟨_, (s.taken_counted c cls 64 late).trans (.latServed _ cls age), ?_⟩
  rw [State.dmcRead_eq, h, if_neg (by simp)]

/-- A served read whose codeword is delivered and leaves memory. -/
theorem State.dmcRead_delivered {s : State} {c a : Nat} {errs : ReadErrs} {d : BitVec 512} (hw : s.readWaits c a = false)
    (h : ∀ u, Counted s u → (u.readCw c a s.dmc.reqSeq errs (u.partOfAddr c a)).data = some d ∧
      KeptMemory u (u.readCw c a s.dmc.reqSeq errs (u.partOfAddr c a)).st) (cls age cycles : Nat) (late : Bool) (reader : Reader) :
    (s.dmcRead c a cls age cycles late errs reader).answer = ⟨.ok, (s.cadImage c a).getD (dataBytes d)⟩ ∧
      KeptMemory s (s.dmcRead c a cls age cycles late errs reader) := by
  obtain ⟨u, hu, heq⟩ := State.dmcRead_served hw cls age cycles late errs reader
  obtain ⟨hdata, hkept⟩ := h u hu
  obtain ⟨hanswer, hread⟩ := State.readFor_of_data (reader := reader) hdata
  rw [heq, ← hu.cadImage]
  exact ⟨hanswer, ((hread.1.trans hkept.1).trans hu.memory.1), ((hread.2.trans hkept.2).trans hu.memory.2)⟩

/-- A served read whose codeword is not delivered and leaves memory. -/
theorem State.dmcRead_lost {s : State} {c a : Nat} {errs : ReadErrs} (hw : s.readWaits c a = false)
    (h : ∀ u, Counted s u → (u.readCw c a s.dmc.reqSeq errs (u.partOfAddr c a)).data = none ∧
      KeptMemory u (u.readCw c a s.dmc.reqSeq errs (u.partOfAddr c a)).st) (cls age cycles : Nat) (late : Bool) (reader : Reader) :
    (s.dmcRead c a cls age cycles late errs reader).answer = ⟨.eIntegrity, List.replicate 64 0⟩ ∧
      KeptMemory s (s.dmcRead c a cls age cycles late errs reader) := by
  obtain ⟨u, hu, heq⟩ := State.dmcRead_served hw cls age cycles late errs reader
  obtain ⟨hdata, hkept⟩ := h u hu
  obtain ⟨hanswer, hread⟩ := State.readFor_of_none (reader := reader) hdata
  rw [heq]
  exact ⟨hanswer, ((hread.1.trans hkept.1).trans hu.memory.1), ((hread.2.trans hkept.2).trans hu.memory.2)⟩

end Sys2Proof.Machine
end

section
/-! PROOFS. Codeword requests that wait for their channel, and merge entries that time out (R12, R255, R257, R288 to R290). -/
namespace Sys2Proof.Machine

/-! ### Requests that wait -/

/-- A request of a class to a codeword waits at a channel. -/
def Chan.Waits (x : Chan) (a cls : Nat) (op : ReqOp) : Prop := ∃ q ∈ x.waiting, q.addr = a ∧ q.cls = cls ∧ q.op = op

theorem Chan.mem_waiting {x : Chan} {q : DmcReq} :
    q ∈ x.waiting ↔ q ∈ x.rq ∨ (q ∈ x.wq ∧ q.op.isSent = false) ∨ q ∈ x.arb := by
  simp [Chan.waiting]

/-- A request that leaves its arbiter for a queue waits there. -/
theorem Chan.mem_waiting_enqueue {x : Chan} {q r : DmcReq} (hs : q.op.isSent = false) (h : q ∈ x.waiting) (hr : q ≠ r) (tag : Nat)
    (round : Tab Nat) : q ∈ (x.enqueue r tag round).waiting := by
  have harb : q ∈ x.arb → q ∈ x.arb.erase r := (List.mem_erase_of_ne hr).mpr
  rw [Chan.mem_waiting] at h ⊢
  unfold Chan.enqueue
  dsimp only
  split <;> grind

/-- The request moved stands in its queue, with its tag. -/
theorem Chan.moved_waits (x : Chan) {r : DmcReq} (hs : r.op.isSent = false) (tag : Nat) (round : Tab Nat) :
    { r with tag := some tag } ∈ (x.enqueue r tag round).waiting := by
  rw [Chan.mem_waiting]
  unfold Chan.enqueue
  dsimp only
  split <;> simp [hs]

/-- A request that waits still waits after another, or it itself, was moved to a queue. -/
theorem Chan.Waits.enqueue {x : Chan} {a cls : Nat} {op : ReqOp} (hs : op.isSent = false) (h : x.Waits a cls op) (r : DmcReq)
    (tag : Nat) (round : Tab Nat) : (x.enqueue r tag round).Waits a cls op := by
  obtain ⟨q, hq, ha, hc, rfl⟩ := h
  by_cases hr : q = r
  · subst hr
    exact ⟨_, x.moved_waits hs tag round, ha, hc, rfl⟩
  · exact ⟨q, Chan.mem_waiting_enqueue hs hq hr tag round, ha, hc, rfl⟩

theorem State.promote_waits {c a cls : Nat} {op : ReqOp} (hs : op.isSent = false) (n : Nat) (s : State)
    (h : (s.chan c).Waits a cls op) : ((s.promote c n).chan c).Waits a cls op := by
  induction n generalizing s with
  | zero => exact h
  | succ n ih =>
    unfold State.promote
    dsimp only
    split
    · refine ih _ ?_
      rw [State.chan_setChan]
      exact h.enqueue hs ..
    · exact h

/-- Promotion moves requests within the controllers alone. -/
theorem State.promote_dmc (c n : Nat) (s : State) : ∃ m, s.promote c n = { s with dmc := m } := by
  induction n generalizing s with
  | zero => exact ⟨_, rfl⟩
  | succ n ih =>
    unfold State.promote
    dsimp only
    split
    · obtain ⟨m, hm⟩ := ih (s.setChan c _)
      exact ⟨m, hm⟩
    · exact ⟨_, rfl⟩

theorem State.chan_reqSeq (s : State) (n c : Nat) : ({ s with dmc := { s.dmc with reqSeq := n } } : State).chan c = s.chan c := rfl

/-- A request that arrives at a channel waits there; nothing but the controllers changes. -/
theorem State.askChan_waits (s : State) (c a cls : Nat) (conf : Bool) (since : Nat) {op : ReqOp} (hs : op.isSent = false) :
    ((s.askChan c a cls conf since op).chan c).Waits a cls op ∧ ∃ m, s.askChan c a cls conf since op = { s with dmc := m } := by
  unfold State.askChan
  dsimp only
  refine ⟨State.promote_waits hs _ _ ?_, ?_⟩
  · refine ⟨⟨s.dmc.reqSeq, a, cls, conf, since, op, none⟩, Chan.mem_waiting.mpr (.inr (.inr ?_)), rfl, rfl, rfl⟩
    rw [State.chan_reqSeq, State.chan_setChan]
    simp
  · obtain ⟨m, hm⟩ := State.promote_dmc c _ _
    exact ⟨m, hm⟩

/-- A read that its channel cannot serve and no write in the queue answers waits there (R12, R255). -/
theorem State.dmcRead_waits {s : State} {c a : Nat} (hb : s.cwBusy c a = true) (hq : (s.chan c).queued a s.dmc.reqSeq = none)
    (cls age cycles : Nat) (late : Bool) (errs : ReadErrs) (reader : Reader) :
    KeptMemory s (s.dmcRead c a cls age cycles late errs reader) ∧
      (s.dmcRead c a cls age cycles late errs reader).answer = s.answer ∧
      ((s.dmcRead c a cls age cycles late errs reader).chan c).Waits a cls (.read errs reader) := by
  have h := s.taken_counted c cls 64 late
  have hwaits : s.readWaits c a = true := by simp [State.readWaits, hb, hq]
  rw [State.dmcRead_eq, if_pos hwaits]
  obtain ⟨hjoined, m, hm⟩ := (s.taken c cls 64 late).askChan_waits c a cls (s.charge cls 64).2 (s.now - age * 25 / 8)
    (op := .read errs reader) rfl
  refine ⟨?_, ?_, hjoined⟩
  · rw [hm]
    exact h.memory
  · rw [hm]
    exact h.answer

/-- A write that waits joins the requests of its channel, or is laid over a pending write in place (R257). -/
theorem State.askWrite_waits (s : State) (c a cls : Nat) (conf : Bool) (since : Nat) (d : BitVec 512) (w : BitVec 64) :
    ((s.chan c).openWrite a = none → ((s.askWrite c a cls conf since d w).chan c).Waits a cls (.write d w (paidBytes conf w))) ∧
      ∀ q, (s.chan c).openWrite a = some q → ∃ e ∈ ((s.askWrite c a cls conf since d w).chan c).wq,
        e.addr = a ∧ e.seq = q.seq ∧ e.op = q.op.over d w (paidBytes conf w) := by
  unfold State.askWrite
  refine ⟨fun h => ?_, fun q h => ?_⟩
  · rw [h]
    exact (s.askChan_waits c a cls conf since rfl).1
  · have haddr : q.addr = a := by
      have := List.find?_some h
      simp only [Bool.and_eq_true, beq_iff_eq] at this
      exact this.1.1
    rw [h]
    dsimp only
    rw [State.chan_setChan]
    exact ⟨_, List.mem_map_of_mem (List.mem_of_find?_eq_some h), by simp [haddr]⟩

/-- A write that its channel cannot serve waits there. -/
theorem State.dmcWrite_waits {s : State} {c a : Nat} {w : BitVec 64}
    (h : s.cwBusy c a = true ∨ (s.chan c).mergeFull a w = true ∨ 64 ≤ (s.chan c).wq.length) (cls age : Nat) (late : Bool)
    (d : BitVec 512) : KeptMemory s (s.dmcWrite c a cls age late d w) ∧
      ((s.chan c).openWrite a = none →
        ((s.dmcWrite c a cls age late d w).chan c).Waits a cls (.write d w (paidBytes (s.charge cls (byteCount w)).2 w))) ∧
      ∀ q, (s.chan c).openWrite a = some q → ∃ e ∈ ((s.dmcWrite c a cls age late d w).chan c).wq,
        e.addr = a ∧ e.seq = q.seq ∧ e.op = q.op.over d w (paidBytes (s.charge cls (byteCount w)).2 w) := by
  have ht := s.taken_counted c cls (byteCount w) late
  have hwaits := State.writeOrWait_waits (s := s.taken c cls (byteCount w) late) (c := c) (a := a) (w := w)
    (by rw [ht.cwBusy, ht.chan]; exact h) d cls (s.charge cls (byteCount w)).2 (s.now - age * 25 / 8)
    ((s.taken c cls (byteCount w) late).partOfAddr c a)
  rw [State.dmcWrite_eq, hwaits, ← ht.chan]
  refine ⟨?_, State.askWrite_waits ..⟩
  simp [ht.memory]

/-! ### Merge entries that time out (R288 to R290) -/

/-- A read-modify-write of an entry begun: the entry freed, counted, charged. -/
def State.rmwTaken (s : State) (c : Nat) (e : MergeEntry) (part : Option (Nat × Nat)) : State :=
  let s0 := ((s.freeMerge c e.addr).inc64 (Reg.ECC_C_RMW c)).countCw 0x18 c e.addr part false
  (s0.charge e.cls (128 - e.charged)).1.served e.cls (128 - e.charged) (s0.charge e.cls (128 - e.charged)).2

theorem State.rmwTaken_counted (s : State) (c : Nat) (e : MergeEntry) (part : Option (Nat × Nat)) :
    Counted (s.freeMerge c e.addr) (s.rmwTaken c e part) := by
  have hrmw : Counted (s.freeMerge c e.addr) ((s.freeMerge c e.addr).inc64 (Reg.ECC_C_RMW c)) := by
    apply Counted.inc64 <;> simp only [Reg.ECC_C_RMW, Reg.ECC_INJ_CTL, Reg.ECC_INJ_ADDR] <;> omega
  exact ((hrmw.trans (.countCw ..)).trans (.charge ..)).trans (.served ..)

/-- An entry whose codeword is read CLEAN, and on which no injection is armed, is written over it and gone. -/
theorem State.rmw_written {s : State} {c : Nat} {e : MergeEntry} (hw : s.whole (memKey c e.addr))
    (he : s.storedErr (memKey c e.addr) = []) (hi : s.injArmed c e.addr = false) (part : Option (Nat × Nat)) :
    Written s (s.rmw c e noErrs part).st (memKey c e.addr) (mergeData (s.stored (memKey c e.addr)) e.data e.valid) ∧
      ((s.rmw c e noErrs part).st.chan c).mergeOf e.addr = none := by
  have hfree : InjKept s (s.freeMerge c e.addr) := fun _ _ => rfl
  have hkept : KeptMemory s (s.freeMerge c e.addr) := ⟨rfl, rfl⟩
  have htaken := s.rmwTaken_counted c e (trafficPart e.cls part)
  have hmem : (s.rmwTaken c e (trafficPart e.cls part)).mem = s.mem := htaken.memory.1.trans hkept.1
  have hwhole : (s.rmwTaken c e (trafficPart e.cls part)).whole (memKey c e.addr) := (htaken.issued c).whole hw
  have herr : (s.rmwTaken c e (trafficPart e.cls part)).storedErr (memKey c e.addr) = [] :=
    ((htaken.issued c).storedErr _).trans he
  obtain ⟨u, hu, hread⟩ := State.arrayRead_clean hwhole herr 1 (trafficPart e.cls part)
  have hissued : Issued c (s.freeMerge c e.addr) u := (htaken.issued c).trans hu
  have hunarmed : u.injArmed c e.addr = false := ((hfree.trans hissued.inj).injArmed c e.addr).trans hi
  obtain ⟨v, hv, hwrite⟩ := State.issueWrite_unarmed hunarmed (mergeData (s.stored (memKey c e.addr)) e.data e.valid)
    (trafficPart e.cls part)
  have hrmw : (s.rmw c e noErrs part).st =
      v.store (memKey c e.addr) (mergeData (s.stored (memKey c e.addr)) e.data e.valid) [] := by
    rw [State.stored_of_whole hw hmem] at hread
    rw [← hwrite]
    unfold State.rmwTaken at hread
    dsimp only at hread
    simp only [State.rmw, hread]
  rw [hrmw, State.chan_store]
  refine ⟨((State.store_written ..).of_kept (hissued.trans hv).memory).of_kept hkept, ?_⟩
  rw [Chan.mergeOf_of_merge (hissued.trans hv).merge]
  exact State.mergeOf_freeMerge ..

end Sys2Proof.Machine
end

section
/-! PROOFS. The commands that read and write codewords and time merge entries out, and what they leave (R255, R257, R267,
R284 to R291, R312). -/
namespace Sys2Proof.Machine

/-! ### The commands -/

theorem noErrs_valid : errsValid noErrs = true := rfl

/-- An address that is no codeword's, or an error at no position, is ill formed (log 11). -/
theorem exec_dmcRead_illFormed {s : State} {c cls : Fin 32} {a : BitVec 32} {age cycles : Nat} {late : Bool} {errs : ReadErrs}
    {reader : Reader} (h : cwValid a.toNat = false ∨ errsValid errs = false) :
    exec (.dmcRead c a cls age cycles late errs reader) s = .fault .illFormed := by
  change execDmcRead c a cls age cycles late errs reader s = _
  rcases h with h | h <;> simp [execDmcRead, h]

/-- An address that is no codeword's, or a write of no byte, is ill formed (log 11). -/
theorem exec_dmcWrite_illFormed {s : State} {c cls : Fin 32} {a : BitVec 32} {age : Nat} {late : Bool} {d : BitVec 512}
    {w : BitVec 64} (h : cwValid a.toNat = false ∨ w = 0) : exec (.dmcWrite c a cls age late d w) s = .fault .illFormed := by
  change execDmcWrite c a cls age late d w s = _
  rcases h with h | h <;> simp [execDmcWrite, h]

/-- On a channel that takes no commands a request stays where it is. -/
theorem exec_dmcRead_not_ready {s : State} {c cls : Fin 32} {a : BitVec 32} {age cycles : Nat} {late : Bool} {reader : Reader}
    (hv : cwValid a.toNat = true) (hr : s.chanReady c = false) :
    exec (.dmcRead c a cls age cycles late noErrs reader) s = .next s := by
  change execDmcRead c a cls age cycles late noErrs reader s = _
  simp [execDmcRead, hv, noErrs_valid, hr]

theorem exec_dmcWrite_not_ready {s : State} {c cls : Fin 32} {a : BitVec 32} {age : Nat} {late : Bool} {d : BitVec 512}
    {w : BitVec 64} (hv : cwValid a.toNat = true) (hr : s.chanReady c = false) (hw : w ≠ 0) :
    exec (.dmcWrite c a cls age late d w) s = .next s := by
  change execDmcWrite c a cls age late d w s = _
  simpa [execDmcWrite, hv, hr] using hw

/-- A real-time read preempts the ROW leg on its bank, if that one is preemptible, before it is taken (R312). -/
theorem exec_dmcRead_realTime {s : State} {c cls : Fin 32} {a : BitVec 32} {age cycles : Nat} {late : Bool} {reader : Reader}
    (hv : cwValid a.toNat = true) (hr : s.chanReady c = true) (ht : s.realTime cls age (s.charge cls 64).2 = true) :
    exec (.dmcRead c a cls age cycles late noErrs reader) s =
      .next ((s.preemptBank c a.toNat).dmcRead c a.toNat cls age cycles late noErrs reader) := by
  change execDmcRead c a cls age cycles late noErrs reader s = _
  simp [execDmcRead, hv, noErrs_valid, hr, ht]

/-- With no leg to preempt a read of any class is taken as it is. -/
theorem exec_dmcRead_ready {s : State} {c cls : Fin 32} {a : BitVec 32} {age cycles : Nat} {late : Bool} {reader : Reader}
    (hv : cwValid a.toNat = true) (hr : s.chanReady c = true) (hp : s.preemptBank c a.toNat = s) :
    exec (.dmcRead c a cls age cycles late noErrs reader) s = .next (s.dmcRead c a.toNat cls age cycles late noErrs reader) := by
  change execDmcRead c a cls age cycles late noErrs reader s = _
  simp [execDmcRead, hv, noErrs_valid, hr, hp]

/-- With no leg to preempt a write of any class is taken as it is. -/
theorem exec_dmcWrite_ready {s : State} {c cls : Fin 32} {a : BitVec 32} {age : Nat} {late : Bool} {d : BitVec 512}
    {w : BitVec 64} (hv : cwValid a.toNat = true) (hr : s.chanReady c = true) (hp : s.preemptBank c a.toNat = s) (hw : w ≠ 0) :
    exec (.dmcWrite c a cls age late d w) s = .next (s.dmcWrite c a.toNat cls age late d w) := by
  change execDmcWrite c a cls age late d w s = _
  simpa [execDmcWrite, hv, hr, hp] using hw

/-! ### The time-out of a merge entry -/

theorem exec_mergeEntryTimeout_illFormed {s : State} {c : Fin 32} {a : BitVec 32} {errs : ReadErrs} (h : errsValid errs = false) :
    exec (.mergeEntryTimeout c a errs) s = .fault .illFormed := by
  change execMergeEntryTimeout c a errs s = _
  simp [execMergeEntryTimeout, h]

theorem exec_mergeEntryTimeout_not_ready {s : State} {c : Fin 32} {a : BitVec 32} (h : s.chanReady c = false) :
    exec (.mergeEntryTimeout c a noErrs) s = .next s := by
  change execMergeEntryTimeout c a noErrs s = _
  simp [execMergeEntryTimeout, noErrs_valid, h]

theorem exec_mergeEntryTimeout_none {s : State} {c : Fin 32} {a : BitVec 32} (h : s.chanReady c = true)
    (hm : (s.chan c).mergeOf a.toNat = none) : exec (.mergeEntryTimeout c a noErrs) s = .next s := by
  change execMergeEntryTimeout c a noErrs s = _
  simp [execMergeEntryTimeout, noErrs_valid, h, hm]

/-- An entry of a channel that takes commands: young, it stays; held up, it is marked due; otherwise it is written. -/
theorem exec_mergeEntryTimeout_some {s : State} {c : Fin 32} {a : BitVec 32} {e : MergeEntry} (h : s.chanReady c = true)
    (hm : (s.chan c).mergeOf a.toNat = some e) : exec (.mergeEntryTimeout c a noErrs) s =
      if s.now < e.t + 625 then .next s
      else if (s.chan c).held || (s.bankLeg c e.addr).isSome then .next (s.dueMerge c e.addr)
      else .next (s.rmw c e noErrs (s.partOfAddr c e.addr)).st := by
  change execMergeEntryTimeout c a noErrs s = _
  simp [execMergeEntryTimeout, noErrs_valid, h, hm]

/-- The entry found for a codeword is the codeword's, and stands in the buffer. -/
theorem Chan.mergeOf_some {x : Chan} {a : Nat} {e : MergeEntry} (h : x.mergeOf a = some e) : e ∈ x.merge ∧ e.addr = a :=
  ⟨List.mem_of_find?_eq_some h, by simpa using List.find?_some h⟩

/-- An entry marked due stands in the buffer with its mark. -/
theorem State.dueMerge_mem {s : State} {c : Nat} {e : MergeEntry} (h : e ∈ (s.chan c).merge) :
    { e with due := true } ∈ ((s.dueMerge c e.addr).chan c).merge := by
  rw [State.dueMerge, State.chan_setChan]
  exact List.mem_map.mpr ⟨e, h, if_pos rfl⟩

/-! ### Reads of what memory holds -/

/-- A read that its channel serves from the array, of a codeword written in whole and without an error. -/
theorem State.dmcRead_clean {s : State} {c a : Nat} (hb : s.cwBusy c a = false) (hq : (s.chan c).queued a s.dmc.reqSeq = none)
    (hm : (s.chan c).mergeOf a = none) (hw : s.whole (memKey c a)) (he : s.storedErr (memKey c a) = []) (cls age cycles : Nat)
    (late : Bool) (reader : Reader) :
    (s.dmcRead c a cls age cycles late noErrs reader).answer =
        ⟨.ok, (s.cadImage c a).getD (dataBytes (s.stored (memKey c a)))⟩ ∧
      KeptMemory s (s.dmcRead c a cls age cycles late noErrs reader) := by
  refine State.dmcRead_delivered (by simp [State.readWaits, hb]) (fun u hu => ?_) ..
  have hwhole : u.whole (memKey c a) := (hu.issued c).whole hw
  obtain ⟨v, hv, hread⟩ := State.arrayRead_clean hwhole (((hu.issued c).storedErr _).trans he) 0 (u.partOfAddr c a)
  rw [State.readCw_array (by rw [hu.chan]; exact hq) (by rw [hu.chan]; exact hm), hread]
  exact ⟨congrArg some (State.stored_of_whole hw hu.memory.1), hv.memory⟩

/-- A read that its channel serves from the array, of a codeword stored as poison. -/
theorem State.dmcRead_poison {s : State} {c a : Nat} (hb : s.cwBusy c a = false) (hq : (s.chan c).queued a s.dmc.reqSeq = none)
    (hm : (s.chan c).mergeOf a = none) (hw : s.whole (memKey c a)) (he : s.storedErr (memKey c a) = poisonErr)
    (cls age cycles : Nat) (late : Bool) (reader : Reader) :
    (s.dmcRead c a cls age cycles late noErrs reader).answer = ⟨.eIntegrity, List.replicate 64 0⟩ ∧
      KeptMemory s (s.dmcRead c a cls age cycles late noErrs reader) := by
  refine State.dmcRead_lost (by simp [State.readWaits, hb]) (fun u hu => ?_) ..
  have hwhole : u.whole (memKey c a) := (hu.issued c).whole hw
  rw [State.readCw_array (by rw [hu.chan]; exact hq) (by rw [hu.chan]; exact hm)]
  exact State.arrayRead_poison hwhole (((hu.issued c).storedErr _).trans he) 0 (u.partOfAddr c a)

/-- A read that the write queue answers, whether its channel serves the codeword or not (R257). -/
theorem State.dmcRead_queued {s : State} {c a : Nat} {b : BitVec 512} (hq : (s.chan c).queued a s.dmc.reqSeq = some b)
    (cls age cycles : Nat) (late : Bool) (reader : Reader) :
    (s.dmcRead c a cls age cycles late noErrs reader).answer = ⟨.ok, (s.cadImage c a).getD (dataBytes b)⟩ ∧
      KeptMemory s (s.dmcRead c a cls age cycles late noErrs reader) := by
  refine State.dmcRead_delivered (by simp [State.readWaits, hq]) (fun u hu => ?_) ..
  rw [State.readCw_queued (by rw [hu.chan]; exact hq)]
  exact ⟨rfl, rfl, rfl⟩

/-- What `Written` says of the codeword and of all others. -/
theorem Written.codeword {s t : State} {k : Nat} {d : BitVec 512} (h : Written s t k d) : t.stored k = d ∧ t.storedErr k = [] ∧
    (∀ m, m < k ∨ k + 64 ≤ m → Tab.look t.mem m = Tab.look s.mem m) ∧ ∀ m, m ≠ k → t.storedErr m = s.storedErr m :=
  ⟨h.stored, h.storedErr, fun _ hm => h.look_elsewhere hm, fun _ hm => h.storedErr_elsewhere hm⟩

/-! ### The obligation -/

/-- Settles O51: each clause is the rule of the path its request takes, through the write queue, the merge buffer, the array or the
requests that wait. -/
theorem codewordAccess : Obligations.CodewordAccess := by
  intro s c cls a age cycles late d w errs reader
  refine ⟨exec_dmcRead_illFormed, exec_dmcWrite_illFormed, exec_mergeEntryTimeout_illFormed, fun hv hr =>
    ⟨exec_dmcRead_not_ready hv hr, exec_dmcWrite_not_ready hv hr, exec_mergeEntryTimeout_not_ready hr⟩, fun hv hr => ?_⟩
  refine ⟨fun hb => ?_, fun b hp hq => ?_, fun l hl hpre ht => ?_, fun hp => ?_, fun e hm => ?_, exec_mergeEntryTimeout_none hr⟩
  · have hp := State.preemptBank_of_not_busy hb
    refine ⟨fun hi hq => ?_, fun h0 hw hm hl hq => ?_, fun hq hm hw => ?_⟩
    · obtain ⟨hwritten, hmerge, hwb⟩ := State.dmcWrite_full hb hi hq cls age late d
      obtain ⟨hd, he, helse⟩ := hwritten.codeword
      exact ⟨_, exec_dmcWrite_ready hv hr hp (by decide), hd, he, helse, hmerge, hwb⟩
    · exact ⟨_, exec_dmcWrite_ready hv hr hp h0, State.dmcWrite_narrow hb hw hm hl hq cls age late d⟩
    · exact ⟨fun he => ⟨_, exec_dmcRead_ready hv hr hp, State.dmcRead_clean hb hq hm hw he ..⟩,
        fun he => ⟨_, exec_dmcRead_ready hv hr hp, State.dmcRead_poison hb hq hm hw he ..⟩⟩
  · exact ⟨_, exec_dmcRead_ready hv hr hp, State.dmcRead_queued hq ..⟩
  · have hleg : s.preemptBank c a.toNat = s.preempt l := by simp [State.preemptBank, hl, hpre]
    exact (exec_dmcRead_realTime hv hr ht).trans (by rw [hleg])
  · exact ⟨fun hb hq => ⟨_, exec_dmcRead_ready hv hr hp, State.dmcRead_waits hb hq ..⟩,
      fun h0 hwait => ⟨_, exec_dmcWrite_ready hv hr hp h0, State.dmcWrite_waits hwait ..⟩⟩
  · obtain ⟨hmem, haddr⟩ := Chan.mergeOf_some hm
    have hexec := exec_mergeEntryTimeout_some hr hm
    rw [← haddr]
    refine ⟨fun hold hheld hleg hw he hi => ?_, fun hold hheld => ?_, fun hyoung => ?_⟩
    · obtain ⟨hwritten, hfreed⟩ := State.rmw_written hw he hi (s.partOfAddr c e.addr)
      obtain ⟨hd, herr, helse⟩ := hwritten.codeword
      rw [if_neg (by omega), if_neg (by simp [hheld, hleg])] at hexec
      exact ⟨_, hexec, hd, herr, helse, hfreed⟩
    · rw [if_neg (by omega), if_pos (by simpa [Option.isSome_iff_ne_none] using hheld)] at hexec
      exact ⟨_, hexec, ⟨rfl, rfl⟩, _, State.dueMerge_mem hmem, rfl⟩
    · rw [hexec, if_pos hyoung]

end Sys2Proof.Machine
end

section
/-! PROOFS. The table of modes, over every command (R22, R23, R25, R383). -/
namespace Sys2Proof.Machine

/-! ### Commands that end or enter a mode -/

/-- The four commands that the table of R23 gives a row of their own: what leaves SAFE and COLD, what ends LOAD, what enters HOLD. -/
def ownRow (c : Instr) : Bool :=
  match c with
  | .resetNLow | .loadEntry .. | .loadComplete .. | .holdEntryComplete => true
  | _ => false

/-- LOAD entered from COLD ends in LOAD, or in SAFE where SEC fails a start-up check (R406). -/
theorem State.loadEntry_mode_or (s : State) (found : LoadFind) :
    (s.loadEntry found).mode = .load ∨ (s.loadEntry found).mode = .safe := by
  unfold State.loadEntry
  dsimp only
  split
  · exact .inr (by simp)
  · exact .inl (by simp)

/-- A cold load ends in SERVICE or MAINTAIN (R23). -/
theorem State.loadEnds_mode_or (s : State) : s.loadEnds.mode = .service ∨ s.loadEnds.mode = .maintain := by
  unfold State.loadEnds
  split
  · exact .inr (by simp)
  split
  · exact .inr (by simp)
  · exact .inl (by simp)

/-- A warm load returns to the mode it came from (R27). -/
theorem State.warmReturn_mode_eq (s : State) {back : Mode} (h : back = .service ∨ back = .maintain) :
    (s.warmReturn back).mode = back := by
  rcases h with rfl | rfl <;> simp [State.warmReturn]

theorem execWarmLoad_keeps_mode {s t : State} (h : execWarmLoad s = .next t) : t.mode = s.mode := by
  unfold execWarmLoad at h
  split at h
  · next hw =>
    cases h
    exact State.warmReturn_mode_eq _ hw.2.2
  · cases h
    rfl

theorem execRailOc_moves {r : Fin 6} {mA : BitVec 16} {s t : State} (h : execRailOc r mA s = .next t) :
    modeMoves s.mode t.mode = true := by
  unfold execRailOc at h
  split at h <;> cases h
  · exact State.railFault_moves ..
  · exact modeMoves_refl _

theorem execRailUv_moves {r : Fin 6} {mV : BitVec 16} {s t : State} (h : execRailUv r mV s = .next t) :
    modeMoves s.mode t.mode = true := by
  unfold execRailUv at h
  split at h <;> cases h
  · exact State.railFault_moves ..
  · exact modeMoves_refl _

theorem execSecFatal_moves {cause : Fin 5} {s t : State} (h : execSecFatal cause s = .next t) :
    modeMoves s.mode t.mode = true := by
  unfold execSecFatal at h
  split at h <;> cases h
  · exact modeMoves_refl _
  · exact State.fatal_moves ..

theorem execMgcWatchdog_moves {core : Fin 4} {s t : State} (h : execMgcWatchdog core s = .next t) :
    modeMoves s.mode t.mode = true := by
  unfold execMgcWatchdog at h
  split at h <;> cases h
  · exact modeMoves_refl _
  · exact State.fatal_moves ..

theorem execThermalMeasurement_moves {m : Thermals} {s t : State} (h : execThermalMeasurement m s = .next t) :
    modeMoves s.mode t.mode = true := by
  unfold execThermalMeasurement at h
  split at h <;> obtain rfl := Host.Outcome.next.inj h
  · exact KeptMode_moves (s.takeReadings_mode m)
  · exact s.measure_moves m

/-- Every command without a row of its own moves the mode along the rows that the others share. -/
theorem exec_moves {c : Instr} {s t : State} (ho : ownRow c = false) (h : exec c s = .next t) :
    modeMoves s.mode t.mode = true := by
  cases c with
  | resetNLow | loadEntry | loadComplete | holdEntryComplete => exact Bool.noConfusion (ho : true = false)
  | modeReqService r cal => exact execModeReqService_moves r cal s t h
  | modeReqMaintain r => exact execModeReqMaintain_moves r s t h
  | warmLoad => exact KeptMode_moves (execWarmLoad_keeps_mode h)
  | fatalFault src a b => cases h; exact State.fatalSource_moves ..
  | pwrgoodLost => cases h; exact State.pwrgoodLost_moves _
  | clockLost pll => cases h; exact State.clockLost_moves ..
  | secFatal cause => exact execSecFatal_moves h
  | mgcWatchdog core => exact execMgcWatchdog_moves h
  | thermalMeasurement m => exact execThermalMeasurement_moves h
  | comparatorScan sensors => cases h; exact State.scan_moves ..
  | railOc r mA => exact execRailOc_moves h
  | railUv r mV => exact execRailUv_moves h
  | fltForce r n v => exact execFltForce_moves r n v s t h
  | registerWrite r a size v late => cases h; exact State.regWrite_moves ..
  | packetReceive k slots late => cases h; exact foldl_moves _ _ _ fun u l => State.takeStripe_moves u k late l
  | creditPacket k p | brd k p | bwr k p => cases h; exact State.receive_moves ..
  | ctlRequest k p late => cases h; exact State.receive_moves ..
  | fecCodewordReceived l symbols offs late => exact execFecCodewordReceived_moves l symbols offs late s t h
  | i3cDirectRead bytes late | i3cCtlFrame bytes late => cases h; exact State.i3cWrite_moves ..
  | resetNRelease => exact KeptMode_moves (execResetNRelease_mode s t h)
  | rootPllLock => exact KeptMode_moves (execRootPllLock_mode s t h)
  | pwrgoodRise => exact KeptMode_moves (execPwrgoodRise_mode s t h)
  | i3cPrivateRead => exact KeptMode_moves (execI3cPrivateRead_mode s t h)
  | entdaa addr => exact KeptMode_moves (execEntdaa_mode addr s t h)
  | setdasa static addr => exact KeptMode_moves (execSetdasa_mode static addr s t h)
  | setnewda addr => exact KeptMode_moves (execSetnewda_mode addr s t h)
  | rstdaa => exact KeptMode_moves (execRstdaa_mode s t h)
  | testAccessPortOperation trstN steps => exact KeptMode_moves (execTestAccessPortOperation_mode trstN steps s t h)
  | shutdownRearm => exact KeptMode_moves (execShutdownRearm_mode s t h)
  | modeReqHold r => exact KeptMode_moves (execModeReqHold_mode r s t h)
  | vxuStart r u => exact KeptMode_moves (execVxuStart_mode r u s t h)
  | vxuPause r u => exact KeptMode_moves (execVxuPause_mode r u s t h)
  | vxuResume r u => exact KeptMode_moves (execVxuResume_mode r u s t h)
  | vxuStop r u => exact KeptMode_moves (execVxuStop_mode r u s t h)
  | vxuHeaderCheck u intact => exact KeptMode_moves (execVxuHeaderCheck_mode u intact s t h)
  | vxuReady u => exact KeptMode_moves (execVxuReady_mode u s t h)
  | startDeadlineExpire u => exact KeptMode_moves (execStartDeadlineExpire_mode u s t h)
  | startMark u => exact KeptMode_moves (execStartMark_mode u s t h)
  | vxuFrameSlot u cycles => exact KeptMode_moves (execVxuFrameSlot_mode u cycles s t h)
  | vxuProgramFetch u intact => exact KeptMode_moves (execVxuProgramFetch_mode u intact s t h)
  | vxuBoundStop u => exact KeptMode_moves (execVxuBoundStop_mode u s t h)
  | vecPacketClose u => exact KeptMode_moves (execVecPacketClose_mode u s t h)
  | nop u => exact KeptMode_moves (execNop_mode u s t h)
  | lit u => exact KeptMode_moves (execLit_mode u s t h)
  | rlit u => exact KeptMode_moves (execRlit_mode u s t h)
  | tpl u => exact KeptMode_moves (execTpl_mode u s t h)
  | emit u => exact KeptMode_moves (execEmit_mode u s t h)
  | emits u => exact KeptMode_moves (execEmits_mode u s t h)
  | setx u => exact KeptMode_moves (execSetx_mode u s t h)
  | addx u => exact KeptMode_moves (execAddx_mode u s t h)
  | andx u => exact KeptMode_moves (execAndx_mode u s t h)
  | orx u => exact KeptMode_moves (execOrx_mode u s t h)
  | xorx u => exact KeptMode_moves (execXorx_mode u s t h)
  | cpyx u => exact KeptMode_moves (execCpyx_mode u s t h)
  | xadd u => exact KeptMode_moves (execXadd_mode u s t h)
  | setm u => exact KeptMode_moves (execSetm_mode u s t h)
  | field u => exact KeptMode_moves (execField_mode u s t h)
  | loop u => exact KeptMode_moves (execLoop_mode u s t h)
  | endl u => exact KeptMode_moves (execEndl_mode u s t h)
  | call u => exact KeptMode_moves (execCall_mode u s t h)
  | ret u => exact KeptMode_moves (execRet_mode u s t h)
  | mark u => exact KeptMode_moves (execMark_mode u s t h)
  | pausept u => exact KeptMode_moves (execPausept_mode u s t h)
  | endProg u => exact KeptMode_moves (execEndProg_mode u s t h)
  | failPacket k payload => exact KeptMode_moves (execFailPacket_mode k payload s t h)
  | failRecord => exact KeptMode_moves (execFailRecord_mode s t h)
  | capBlockTimeout p => exact KeptMode_moves (execCapBlockTimeout_mode p s t h)
  | gapTimerExpire src => exact KeptMode_moves (execGapTimerExpire_mode src s t h)
  | foldRecord => exact KeptMode_moves (execFoldRecord_mode s t h)
  | resync r src => exact KeptMode_moves (execResync_mode r src s t h)
  | domOpen r upto => exact KeptMode_moves (execDomOpen_mode r upto s t h)
  | domClose r fenced upto => exact KeptMode_moves (execDomClose_mode r fenced upto s t h)
  | domRelease r upto => exact KeptMode_moves (execDomRelease_mode r upto s t h)
  | poolDef r upto => exact KeptMode_moves (execPoolDef_mode r upto s t h)
  | poolDel r upto => exact KeptMode_moves (execPoolDel_mode r upto s t h)
  | fenceTimerExpire d => exact KeptMode_moves (execFenceTimerExpire_mode d s t h)
  | closeRecordBuild d => exact KeptMode_moves (execCloseRecordBuild_mode d s t h)
  | readoutSummary r => exact KeptMode_moves (execReadoutSummary_mode r s t h)
  | readoutPoints r => exact KeptMode_moves (execReadoutPoints_mode r s t h)
  | readoutLines r => exact KeptMode_moves (execReadoutLines_mode r s t h)
  | readoutCloseRecord r => exact KeptMode_moves (execReadoutCloseRecord_mode r s t h)
  | readoutDone => exact KeptMode_moves (execReadoutDone_mode s t h)
  | cadExcRptrWrite r v => exact KeptMode_moves (execCadExcRptrWrite_mode r v s t h)
  | raeTakeUp intact => exact KeptMode_moves (execRaeTakeUp_mode intact s t h)
  | timeBudgetExpire e nodes => exact KeptMode_moves (execTimeBudgetExpire_mode e nodes s t h)
  | nodeBudgetSpent e => exact KeptMode_moves (execNodeBudgetSpent_mode e s t h)
  | firstPassEnd e => exact KeptMode_moves (execFirstPassEnd_mode e s t h)
  | poolRound pool => exact KeptMode_moves (execPoolRound_mode pool s t h)
  | raeEngineError e => exact KeptMode_moves (execRaeEngineError_mode e s t h)
  | resultRingCopy => exact KeptMode_moves (execResultRingCopy_mode s t h)
  | holdoffExpire => exact KeptMode_moves (execHoldoffExpire_mode s t h)
  | reanalyse r => exact KeptMode_moves (execReanalyse_mode r s t h)
  | clearLat r => exact KeptMode_moves (execClearLat_mode r s t h)
  | raeRingCfgWrite r v => exact KeptMode_moves (execRaeRingCfgWrite_mode r v s t h)
  | raeRingRptrWrite r v => exact KeptMode_moves (execRaeRingRptrWrite_mode r v s t h)
  | shedEvaluation => exact KeptMode_moves (execShedEvaluation_mode s t h)
  | reinstatement => exact KeptMode_moves (execReinstatement_mode s t h)
  | holdExceeded n => exact KeptMode_moves (execHoldExceeded_mode n s t h)
  | laneSignalDetect l => exact KeptMode_moves (execLaneSignalDetect_mode l s t h)
  | noSignal l => exact KeptMode_moves (execNoSignal_mode l s t h)
  | trainingFrame l control status atLimit own => exact KeptMode_moves (execTrainingFrame_mode l control status atLimit own s t h)
  | trainingEnd l => exact KeptMode_moves (execTrainingEnd_mode l s t h)
  | trainTmo l => exact KeptMode_moves (execTrainTmo_mode l s t h)
  | lockAchieved l => exact KeptMode_moves (execLockAchieved_mode l s t h)
  | lockTmo l => exact KeptMode_moves (execLockTmo_mode l s t h)
  | capxMatch l body => exact KeptMode_moves (execCapxMatch_mode l body s t h)
  | capxMismatch l body => exact KeptMode_moves (execCapxMismatch_mode l body s t h)
  | laneReady l => exact KeptMode_moves (execLaneReady_mode l s t h)
  | backoffExpire l => exact KeptMode_moves (execBackoffExpire_mode l s t h)
  | chainFormation k windowEnd => exact KeptMode_moves (execChainFormation_mode k windowEnd s t h)
  | laneLoss k lanes cond => exact KeptMode_moves (execLaneLoss_mode k lanes cond s t h)
  | dropReceived k body => exact KeptMode_moves (execDropReceived_mode k body s t h)
  | rejoinAnnounce k => exact KeptMode_moves (execRejoinAnnounce_mode k s t h)
  | rejoinAckReceived k body => exact KeptMode_moves (execRejoinAckReceived_mode k body s t h)
  | rejoinLapsed k => exact KeptMode_moves (execRejoinLapsed_mode k s t h)
  | partnerCommitReceived k body => exact KeptMode_moves (execPartnerCommitReceived_mode k body s t h)
  | partnerCommitTimeout k => exact KeptMode_moves (execPartnerCommitTimeout_mode k s t h)
  | epochSwitch k transmit => exact KeptMode_moves (execEpochSwitch_mode k transmit s t h)
  | laneMarkerSend l => exact KeptMode_moves (execLaneMarkerSend_mode l s t h)
  | waddingInsert k => exact KeptMode_moves (execWaddingInsert_mode k s t h)
  | retrain r l => exact KeptMode_moves (execRetrain_mode r l s t h)
  | prbsCfgWrite r l v => exact KeptMode_moves (execPrbsCfgWrite_mode r l v s t h)
  | injectBit r l count => exact KeptMode_moves (execInjectBit_mode r l count s t h)
  | injectSymbol r l count => exact KeptMode_moves (execInjectSymbol_mode r l count s t h)
  | injectSync r l => exact KeptMode_moves (execInjectSync_mode r l s t h)
  | injectLol r l => exact KeptMode_moves (execInjectLol_mode r l s t h)
  | ackReceived k body => exact KeptMode_moves (execAckReceived_mode k body s t h)
  | nakReceived k body => exact KeptMode_moves (execNakReceived_mode k body s t h)
  | replayTimeout k => exact KeptMode_moves (execReplayTimeout_mode k s t h)
  | creditGrantSend k => exact KeptMode_moves (execCreditGrantSend_mode k s t h)
  | alertSend k => exact KeptMode_moves (execAlertSend_mode k s t h)
  | nonce r => exact KeptMode_moves (execNonce_mode r s t h)
  | nonceExpire p => exact KeptMode_moves (execNonceExpire_mode p s t h)
  | sessionOpen r ext => exact KeptMode_moves (execSessionOpen_mode r ext s t h)
  | sessionClose r => exact KeptMode_moves (execSessionClose_mode r s t h)
  | identity r => exact KeptMode_moves (execIdentity_mode r s t h)
  | attest r hnonce => exact KeptMode_moves (execAttest_mode r hnonce s t h)
  | enroll r => exact KeptMode_moves (execEnroll_mode r s t h)
  | evict r ext => exact KeptMode_moves (execEvict_mode r ext s t h)
  | sessionIdleTimeout slot => exact KeptMode_moves (execSessionIdleTimeout_mode slot s t h)
  | debugUnlock r v => exact KeptMode_moves (execDebugUnlock_mode r v s t h)
  | enec => exact KeptMode_moves (execEnec_mode s t h)
  | disec => exact KeptMode_moves (execDisec_mode s t h)
  | getpid => exact KeptMode_moves (execGetpid_mode s t h)
  | getbcr => exact KeptMode_moves (execGetbcr_mode s t h)
  | getdcr => exact KeptMode_moves (execGetdcr_mode s t h)
  | getstatus => exact KeptMode_moves (execGetstatus_mode s t h)
  | getmwl => exact KeptMode_moves (execGetmwl_mode s t h)
  | getmrl => exact KeptMode_moves (execGetmrl_mode s t h)
  | i3cUnsupportedCcc reply => exact KeptMode_moves (execI3cUnsupportedCcc_mode reply s t h)
  | refreshTick c => exact KeptMode_moves (execRefreshTick_mode c s t h)
  | pullInRefresh c => exact KeptMode_moves (execPullInRefresh_mode c s t h)
  | rowIdlePrecharge c bank => exact KeptMode_moves (execRowIdlePrecharge_mode c bank s t h)
  | dmcRead c a cls age cycles late errs reader => exact KeptMode_moves (execDmcRead_mode c a cls age cycles late errs reader s t h)
  | dmcWrite c a cls age late data bytes => exact KeptMode_moves (execDmcWrite_mode c a cls age late data bytes s t h)
  | mergeEntryTimeout c a errs => exact KeptMode_moves (execMergeEntryTimeout_mode c a errs s t h)
  | errorReturn c back => exact KeptMode_moves (execErrorReturn_mode c back s t h)
  | caLaneTestDone c bad => exact KeptMode_moves (execCaLaneTestDone_mode c bad s t h)
  | transitStart ticks cal => exact KeptMode_moves (execTransitStart_mode ticks cal s t h)
  | dmcFreqReq r v => exact KeptMode_moves (execDmcFreqReq_mode r v s t h)
  | scrubRow c errs => exact KeptMode_moves (execScrubRow_mode c errs s t h)
  | corrected2Writeback c a => exact KeptMode_moves (execCorrected2Writeback_mode c a s t h)
  | hotpos c sym => exact KeptMode_moves (execHotpos_mode c sym s t h)
  | eccInjArm r v => exact KeptMode_moves (execEccInjArm_mode r v s t h)
  | legStart w => exact KeptMode_moves (execLegStart_mode w s t h)
  | legEnd block signature column => exact KeptMode_moves (execLegEnd_mode block signature column s t h)
  | legBudgetExpire block tally => exact KeptMode_moves (execLegBudgetExpire_mode block tally s t h)
  | columnRepairChunk c => exact KeptMode_moves (execColumnRepairChunk_mode c s t h)
  | clkBundleLost g b => exact KeptMode_moves (execClkBundleLost_mode g b s t h)
  | salvageSlice mismatches dead => exact KeptMode_moves (execSalvageSlice_mode mismatches dead s t h)
  | fulltest r => exact KeptMode_moves (execFulltest_mode r s t h)
  | fulltestDone => exact KeptMode_moves (execFulltestDone_mode s t h)
  | abortFulltest r => exact KeptMode_moves (execAbortFulltest_mode r s t h)
  | fuseCommit r => exact KeptMode_moves (execFuseCommit_mode r s t h)
  | legCmd r => exact KeptMode_moves (execLegCmd_mode r s t h)
  | calStep c values => exact KeptMode_moves (execCalStep_mode c values s t h)
  | calStepForced c values => exact KeptMode_moves (execCalStepForced_mode c values s t h)
  | calTapMove c kind lane => exact KeptMode_moves (execCalTapMove_mode c kind lane s t h)
  | throttleStep => exact KeptMode_moves (execThrottleStep_mode s t h)
  | fasterPointTimer => exact KeptMode_moves (execFasterPointTimer_mode s t h)
  | railPeak r mA => exact KeptMode_moves (execRailPeak_mode r mA s t h)
  | clearPeak r => exact KeptMode_moves (execClearPeak_mode r s t h)
  | ledgerCopy bad => exact KeptMode_moves (execLedgerCopy_mode bad s t h)
  | ackAlertn r => exact KeptMode_moves (execAckAlertn_mode r s t h)
  | clearAll r => exact KeptMode_moves (execClearAll_mode r s t h)
  | availMsTick => exact KeptMode_moves (execAvailMsTick_mode s t h)
  | availSlotWrite bad => exact KeptMode_moves (execAvailSlotWrite_mode bad s t h)
  | availBucketRoll => exact KeptMode_moves (execAvailBucketRoll_mode s t h)
  | pmcSelWrite r n v => exact KeptMode_moves (execPmcSelWrite_mode r n v s t h)
  | counterWrap n inc => exact KeptMode_moves (execCounterWrap_mode n inc s t h)
  | pmcSample n skid => exact KeptMode_moves (execPmcSample_mode n skid s t h)
  | counterDump => exact KeptMode_moves (execCounterDump_mode s t h)
  | sense why weak => exact KeptMode_moves (execSense_mode why weak s t h)
  | reinforce r => exact KeptMode_moves (execReinforce_mode r s t h)
  | fseSlock r n v => exact KeptMode_moves (execFseSlock_mode r n v s t h)
  | fuseOperationEnd res => exact KeptMode_moves (execFuseOperationEnd_mode res s t h)
  | updBegin r flashOk => exact KeptMode_moves (execUpdBegin_mode r flashOk s t h)
  | updChunk r flashOk => exact KeptMode_moves (execUpdChunk_mode r flashOk s t h)
  | updVerify r => exact KeptMode_moves (execUpdVerify_mode r s t h)
  | verifyDone flashOk => exact KeptMode_moves (execVerifyDone_mode flashOk s t h)
  | activate r ok => exact KeptMode_moves (execActivate_mode r ok s t h)
  | confirm r => exact KeptMode_moves (execConfirm_mode r s t h)
  | rollback r => exact KeptMode_moves (execRollback_mode r s t h)
  | updAbort r => exact KeptMode_moves (execUpdAbort_mode r s t h)
  | trialExpire => exact KeptMode_moves (execTrialExpire_mode s t h)
  | settingsSave ok => exact KeptMode_moves (execSettingsSave_mode ok s t h)
  | commit r mask => exact KeptMode_moves (execCommit_mode r mask s t h)
  | discard r mask => exact KeptMode_moves (execDiscard_mode r mask s t h)
  | receiveEmptySlot l => exact KeptMode_moves (execReceiveEmptySlot_mode l s t h)

/-! ### The commands with a row of their own -/

/-- LOAD_ENTRY leaves COLD alone (R23), for LOAD or, where SEC fails, for SAFE. -/
theorem execLoadEntry_moves {found : LoadFind} {s t : State} (h : execLoadEntry found s = .next t) :
    modeMoves s.mode t.mode = true ∨ (s.mode = .cold ∧ (t.mode = .load ∨ t.mode = .safe)) := by
  unfold execLoadEntry at h
  split at h <;> cases h
  · next hr =>
    obtain ⟨hcold, -⟩ : s.mode = .cold ∧ _ := by simpa [State.released, and_assoc] using hr
    exact .inr ⟨hcold, s.loadEntry_mode_or found⟩
  · exact .inl (modeMoves_refl _)

/-- LOAD_COMPLETE ends LOAD alone. -/
theorem execLoadComplete_moves {r : StartTests} {s t : State} (h : execLoadComplete r s = .next t) :
    modeMoves s.mode t.mode = true ∨ (s.mode = .load ∧ (t.mode = .service ∨ t.mode = .maintain)) := by
  unfold execLoadComplete at h
  split at h <;> obtain rfl := Host.Outcome.next.inj h
  · next hl => exact .inr ⟨hl.1, State.loadEnds_mode_or _⟩
  · exact .inl (modeMoves_refl _)

/-- HOLD_ENTRY_COMPLETE enters HOLD for an accepted request alone. -/
theorem execHoldEntryComplete_moves {s t : State} (h : execHoldEntryComplete s = .next t) :
    modeMoves s.mode t.mode = true ∨ (s.trans = some .hold ∧ t.mode = .hold) := by
  unfold execHoldEntryComplete at h
  split at h <;> cases h
  · next hh => exact .inr ⟨hh.1, s.enterHold_mode'⟩
  · exact .inl (modeMoves_refl _)

/-! ### The obligation -/

/-- Settles O9: the four commands with a row of their own do what it says, and every other one moves along the shared rows. -/
theorem modeTable : Obligations.ModeTable := by
  intro c s t h
  cases ho : ownRow c
  · exact .inl (exec_moves ho h)
  cases c with
  | resetNLow =>
    cases h
    exact .inr (.inl ⟨rfl, s.afterReset_mode'⟩)
  | loadEntry found =>
    exact (execLoadEntry_moves h).imp id fun hl => .inr (.inl ⟨⟨found, rfl⟩, hl⟩)
  | loadComplete r =>
    exact (execLoadComplete_moves h).imp id fun hl => .inr (.inr (.inl ⟨⟨r, rfl⟩, hl⟩))
  | holdEntryComplete =>
    exact (execHoldEntryComplete_moves h).imp id fun hh => .inr (.inr (.inr ⟨rfl, hh⟩))
  | _ => exact (Bool.false_ne_true ho).elim

end Sys2Proof.Machine
end

section
/-! PROOFS. Sending on a chain: what a packet handed to a chain, and the packets that leave with it, keep (R161, R192, R220 to R228). -/
namespace Sys2Proof.Machine

/-! ### The packet layer of a chain -/

theorem ChainPkt.spend_keeps (x : ChainPkt) (pool : Option Nat) (n : Nat) :
    (x.spend pool n).replay = x.replay ∧ (x.spend pool n).waiting = x.waiting ∧ (x.spend pool n).e = x.e ∧
      (x.spend pool n).granted = x.granted ∧ (x.spend pool n).alerts = x.alerts := by
  cases pool <;> simp [ChainPkt.spend]

theorem ChainPkt.returned_keeps (x : ChainPkt) (p : Packet) :
    (x.returned p).replay = x.replay ∧ (x.returned p).waiting = x.waiting ∧ (x.returned p).e = x.e ∧
      (x.returned p).granted = x.granted ∧ (x.returned p).alerts = x.alerts := by
  unfold ChainPkt.returned
  split <;> simp

/-- What a packet layer has been given to send, sent or waiting. -/
def ChainPkt.packets (x : ChainPkt) : List Packet := x.replay ++ x.waiting.map (·.pkt)

/-- One packet is another but for the number that sending gives it. -/
def SameBut (p q : Packet) : Prop := q.type = p.type ∧ q.label = p.label ∧ q.payload = p.payload

/-- Later on a packet layer still holds what it held, and receives and queues alerts as before. -/
structure ChainPkt.Keeps (x y : ChainPkt) : Prop where
  packets : ∀ p ∈ x.packets, ∃ q ∈ y.packets, SameBut p q
  e : y.e = x.e
  granted : y.granted = x.granted
  alerts : y.alerts = x.alerts

theorem ChainPkt.Keeps.refl (x : ChainPkt) : x.Keeps x := ⟨fun p h => ⟨p, h, rfl, rfl, rfl⟩, rfl, rfl, rfl⟩

theorem ChainPkt.Keeps.trans {x y z : ChainPkt} (h : x.Keeps y) (k : y.Keeps z) : x.Keeps z := by
  refine ⟨fun p hp => ?_, k.e.trans h.e, k.granted.trans h.granted, k.alerts.trans h.alerts⟩
  obtain ⟨q, hq, ht, hl, hp⟩ := h.packets p hp
  obtain ⟨r, hr, ht', hl', hp'⟩ := k.packets q hq
  exact ⟨r, hr, ht'.trans ht, hl'.trans hl, hp'.trans hp⟩

/-! ### What sending keeps -/

/-- What sending on chain `k` may change: at most what links and counting move, the chains' states not among it; on the chain every
packet in hand stays in hand. -/
structure Sent (k : Nat) (s t : State) : Prop where
  frame : LinkFrame s t
  up : ∀ j, t.chainUp j = s.chainUp j
  chain : (s.chainP k).Keeps (t.chainP k)

theorem Sent.refl (k : Nat) (s : State) : Sent k s s := ⟨.refl s, fun _ => rfl, .refl _⟩

theorem Sent.trans {k : Nat} {s t u : State} (h : Sent k s t) (g : Sent k t u) : Sent k s u :=
  ⟨h.frame.trans g.frame, fun j => (g.up j).trans (h.up j), h.chain.trans g.chain⟩

/-- A packet held stays held. -/
theorem Sent.holdsPacket {k type label : Nat} {payload : List Byte} {s t : State} (h : Sent k s t)
    (hp : s.holdsPacket k type label payload) : t.holdsPacket k type label payload := by
  obtain ⟨q, hq, rfl, rfl, rfl⟩ := hp
  exact h.chain.packets q hq

theorem Sent.memory {k : Nat} {s t : State} (h : Sent k s t) : t.mem = s.mem ∧ t.errs = s.errs := by
  obtain ⟨_, _, _, _, _, _, _, _, rfl⟩ := h.frame
  exact ⟨rfl, rfl⟩

theorem Sent.vxu {k : Nat} {s t : State} (h : Sent k s t) : t.vxu = s.vxu := by
  obtain ⟨_, _, _, _, _, _, _, _, rfl⟩ := h.frame
  rfl

/-- Counting moves neither chains nor their packets. -/
theorem Sent.of_count {k : Nat} {s t : State} (h : CountFrame s t) : Sent k s t := by
  obtain ⟨_, _, _, rfl⟩ := h
  exact ⟨⟨_, _, _, _, _, _, _, _, rfl⟩, fun _ => rfl, .refl _⟩

/-- A change of the packet layer of the chain alone. -/
theorem Sent.setChainP {k : Nat} {s : State} {x : ChainPkt} (h : (s.chainP k).Keeps x) : Sent k s (s.setChainP k x) :=
  ⟨⟨_, _, _, _, _, _, _, _, rfl⟩, fun _ => rfl, by rw [State.chainP_setChainP]; exact h⟩

/-- Blocks placed in the stripes leave the chain's state. -/
theorem State.placeBlocks_sent (s : State) (k n : Nat) : Sent k s (s.placeBlocks k n) := by
  unfold State.placeBlocks
  dsimp only
  split
  · exact .refl k s
  refine ⟨⟨_, _, _, _, _, _, _, _, rfl⟩, fun j => ?_, .refl _⟩
  simp only [State.chainUp, State.setChainL_keeps]
  by_cases hj : j = k
  · rw [hj, State.chainL_setChainL]
  · rw [State.chainL_setChainL_ne _ _ _ _ hj]

theorem State.emit_sent (s : State) (k : Nat) (e : Emission) : Sent k s (s.emit e) :=
  ⟨⟨_, _, _, _, _, _, _, _, rfl⟩, fun _ => rfl, .refl _⟩

theorem State.emitPacket_sent (s : State) (k : Nat) (p : Packet) (resent : Bool) : Sent k s (s.emitPacket k p resent) :=
  (s.emit_sent k _).trans (State.placeBlocks_sent ..)

/-! ### A waiting packet that leaves -/

/-- What waits next stands at its place. -/
theorem State.nextWaiting_mem {s : State} {k : Nat} {e : Waiting × Nat} (h : s.nextWaiting k = some e) :
    (s.chainP k).waiting[e.2]? = some e.1 := by
  have hfold : ∀ (l : List (Waiting × Nat)) (b : Option (Waiting × Nat)), l.foldl (fun b e => match b with
      | none => some e
      | some c => if s.goesBefore k c.1 e.1 then some c else some e) b = some e → b = some e ∨ e ∈ l := by
    intro l
    induction l with
    | nil => exact fun b hb => .inl hb
    | cons x l ih =>
      intro b hb
      rcases ih _ hb with hx | hx
      · rcases b with _ | c
        · exact .inr (by simp_all)
        · dsimp only at hx
          split at hx
          · exact .inl hx
          · exact .inr (by simp_all)
      · exact .inr (List.mem_cons_of_mem _ hx)
  have hmem : e ∈ s.ready k := (hfold _ none h).resolve_left (by simp)
  have hzip := (List.mem_filter.mp hmem).1
  obtain ⟨i, hi⟩ := List.mem_iff_getElem?.mp hzip
  rw [List.getElem?_zip_eq_some] at hi
  obtain ⟨hw, hr⟩ := hi
  rw [List.getElem?_range (List.getElem?_eq_some_iff.mp hw).1, Option.some.injEq] at hr
  rwa [← hr]

/-- A packet that leaves moves from the waiting packets to the sent ones. -/
theorem ChainPkt.Keeps.leave {x y : ChainPkt} {w : Waiting} {i n : Nat} (hw : x.waiting[i]? = some w)
    (hr : y.replay = x.replay ++ [{ w.pkt with lseq := n }]) (hq : y.waiting = x.waiting.eraseIdx i) (he : y.e = x.e)
    (hg : y.granted = x.granted) (ha : y.alerts = x.alerts) : x.Keeps y := by
  refine ⟨fun p hp => ?_, he, hg, ha⟩
  rw [ChainPkt.packets, hr, hq]
  rcases List.mem_append.mp hp with hp | hp
  · exact ⟨p, by simp [hp], rfl, rfl, rfl⟩
  · obtain ⟨v, hv, rfl⟩ := List.mem_map.mp hp
    obtain ⟨j, hj⟩ := List.mem_iff_getElem?.mp hv
    by_cases hji : j = i
    · obtain rfl : w = v := by simpa [hji, hw] using hj
      exact ⟨{ w.pkt with lseq := n }, by simp, rfl, rfl, rfl⟩
    · have hmem : v ∈ x.waiting.eraseIdx i := List.mem_eraseIdx_iff_getElem?.mpr ⟨j, hji, hj⟩
      exact ⟨v.pkt, List.mem_append_right _ (List.mem_map_of_mem hmem), rfl, rfl, rfl⟩

/-- A waiting packet taken and sent. -/
theorem State.sendNew_sent {s : State} {k : Nat} {e : Waiting × Nat} (h : (s.chainP k).waiting[e.2]? = some e.1) :
    Sent k s ((s.takeWaiting k e).sendNew k e.1.pkt) := by
  have hset : ∀ x y : ChainPkt, (s.chainP k).Keeps y → Sent k s ((s.setChainP k x).setChainP k y) := fun x y hy =>
    ⟨⟨_, _, _, _, _, _, _, _, rfl⟩, fun _ => rfl, by rw [State.chainP_setChainP]; exact hy⟩
  unfold State.sendNew
  refine (((hset _ _ (.leave (n := ((s.takeWaiting k e).chainP k).txNext) h ?_ ?_ ?_ ?_ ?_)).trans
    (State.emitPacket_sent ..)).trans (.of_count (State.inc64_countFrame ..))).trans (.of_count (State.count_countFrame ..))
  all_goals simp [State.takeWaiting, ChainPkt.spend_keeps, ChainPkt.returned_keeps]

theorem State.pumpRun_sent (k n : Nat) (s : State) : Sent k s (s.pumpRun k n) := by
  induction n generalizing s with
  | zero => exact .refl k s
  | succ n ih =>
    unfold State.pumpRun
    split
    · exact .refl k s
    · next e he =>
      split
      · exact (State.sendNew_sent (State.nextWaiting_mem he)).trans (ih _)
      · exact .refl k s

theorem State.pump_sent (s : State) (k : Nat) : Sent k s (s.pump k) := by
  unfold State.pump
  split
  · exact s.pumpRun_sent k _
  · exact .refl k s

/-! ### A new packet -/

/-- A packet handed to a chain waits behind those that wait. -/
theorem ChainPkt.Keeps.wait (x : ChainPkt) (w : Waiting) : x.Keeps { x with waiting := x.waiting ++ [w] } := by
  refine ⟨fun p hp => ⟨p, ?_, rfl, rfl, rfl⟩, rfl, rfl, rfl⟩
  simp only [ChainPkt.packets, List.map_append, ← List.append_assoc]
  exact List.mem_append_left _ hp

theorem State.sendPacket_sent (s : State) (k : Nat) (p : Packet) (conf : Bool) : Sent k s (s.sendPacket k p conf) := by
  unfold State.sendPacket
  split
  · exact (Sent.setChainP (.wait ..)).trans (State.pump_sent ..)
  · exact .refl k s

/-- On a chain that is UP the chain then holds the packet. -/
theorem State.sendPacket_holds {s : State} {k : Nat} (h : s.chainUp k = true) (type label : Nat) (payload : List Byte) (conf : Bool) :
    (s.sendPacket k (newPacket type label payload) conf).holdsPacket k type label payload := by
  unfold State.sendPacket
  rw [if_pos h]
  refine (State.pump_sent ..).holdsPacket ⟨newPacket type label payload, ?_, rfl, rfl, rfl⟩
  rw [State.chainP_setChainP]
  simp

end Sys2Proof.Machine
end

section
/-! PROOFS. Mode requests of the host: what an accepted one leaves, and which checks refuse one (R23, R25, R26, R63, R270, R493). -/
namespace Sys2Proof.Machine

/-! ### Streams ended by a mode (R63) -/

theorem State.vxuU_reply (s : State) (st : Status) (d : List Byte) (u : Nat) : (s.reply st d).vxuU u = s.vxuU u := rfl

theorem State.closePacket_state (s : State) (u v : Nat) : ((s.closePacket u).vxuU v).state = (s.vxuU v).state := by
  unfold State.closePacket State.sendVec
  dsimp only
  split
  · rfl
  rw [State.vxuU, (State.sendPacket_sent ..).vxu, ← State.vxuU]
  by_cases hv : v = u
  · rw [hv, State.vxuU_setVxu]
  · rw [State.vxuU_setVxu_ne _ _ _ _ hv]

/-- A stream stopped is IDLE, and no other changes its state. -/
theorem State.stopStream_state (s : State) (u reason v : Nat) (withEnd : Bool) :
    ((s.stopStream u reason withEnd).vxuU v).state = if v = u then .idle else (s.vxuU v).state := by
  unfold State.stopStream
  rw [State.closePacket_state]
  by_cases hv : v = u
  · rw [hv, State.vxuU_setVxu, if_pos rfl]
    split <;> rfl
  · rw [State.vxuU_setVxu_ne _ _ _ _ hv, if_neg hv]

/-- Streams ended over a list of units leave those IDLE, and IDLE units IDLE. -/
theorem State.endStreams_fold_idle (reason v : Nat) (l : List Nat) (s : State) (h : (s.vxuU v).state = .idle ∨ v ∈ l) :
    ((l.foldl (fun t u => if (t.vxuU u).state = .idle then t else t.stopStream u reason true) s).vxuU v).state = .idle := by
  induction l generalizing s with
  | nil => exact h.resolve_right (by simp)
  | cons u l ih =>
    refine ih _ ?_
    by_cases hv : v = u
    · left
      subst hv
      dsimp only
      split
      · assumption
      · rw [State.stopStream_state, if_pos rfl]
    · refine h.imp (fun hi => ?_) (fun hm => (List.mem_cons.mp hm).resolve_left hv)
      dsimp only
      split
      · exact hi
      · rw [State.stopStream_state, if_neg hv, hi]

theorem State.endStreams_idle (s : State) (reason : Nat) {u : Nat} (hu : u < 16) :
    ((s.endStreams reason).vxuU u).state = .idle :=
  State.endStreams_fold_idle reason u _ s (.inr (List.mem_range.mpr hu))

/-! ### Requests accepted and refused -/

section
variable {s : State} {r : Req} {cal : CalResult} (hrec : s.upd.recovery = false)
include hrec

/-- A host write that its table refuses is a rejected access. -/
theorem exec_refused {c : Instr} {a : Nat} {st : Status} {f : State → State} (hc : exec c s = .next (s.hostWrite r a st f))
    (hst : st ≠ .ok) : exec c s = .next (s.reject r a true 2 st) := by
  rw [hc, State.hostWrite_not_ok _ _ _ _ _ hrec hst]

theorem exec_modeReqService_ok (h : serviceStatus r s = .ok) :
    exec (.modeReqService r cal) s = .next ((if s.mode = .hold then s.leaveHold cal else s.enterService).reply .ok) := by
  rw [exec, execModeReqService, State.hostWrite_ok _ _ _ _ _ hrec h]

theorem exec_modeReqHold_ok (h : holdStatus r s = .ok) : exec (.modeReqHold r) s = .next (s.askHold.reply .ok) := by
  rw [exec, execModeReqHold, State.hostWrite_ok _ _ _ _ _ hrec h]

theorem exec_modeReqMaintain_ok (h : maintainStatus r s = .ok) :
    exec (.modeReqMaintain r) s = .next (((s.stopDomCmd.enterMaintain false).endStreams 10).reply .ok) := by
  rw [exec, execModeReqMaintain, State.hostWrite_ok _ _ _ _ _ hrec h]

end

/-! ### The checks of a request (R25) -/

/-- An Observer fails the role checks of every request. -/
theorem requests_of_observer {s : State} {r : Req} (h : s.role r = some .observer) :
    holdStatus r s = .ePriv ∧ maintainStatus r s = .ePriv ∧ serviceStatus r s = .ePriv := by
  refine ⟨?_, ?_, ?_⟩
  · simp [holdStatus, State.hostChecks, firstStatus, h]
  · simp [maintainStatus, State.ownerChecks, firstStatus, h]
  · unfold serviceStatus
    split <;> simp [State.ownerChecks, State.hostChecks, firstStatus, h]

/-- An Operator fails those of a request for MAINTAIN. -/
theorem maintainStatus_of_operator {s : State} {r : Req} (h : s.role r = some .operator) : maintainStatus r s = .ePriv := by
  simp [maintainStatus, State.ownerChecks, firstStatus, h]

/-- The Owner passes them, and the table of R23 lists SERVICE alone for HOLD and MAINTAIN. -/
theorem requests_of_owner_outside_service {s : State} {r : Req} (h : s.role r = some .owner) (hm : s.mode ≠ .service) :
    holdStatus r s = .eState ∧ maintainStatus r s = .eState := by
  simp [holdStatus, maintainStatus, State.hostChecks, State.ownerChecks, State.modeChecks, firstStatus, h, hm]

/-- A unit that is not IDLE makes a request for HOLD wait, whatever else is under way. -/
theorem holdStatus_busy {s : State} {r : Req} (h : s.role r = some .operator) (hm : s.mode = .service)
    (hu : ∃ u < 16, (s.vxuU u).state ≠ .idle) : holdStatus r s = .eBusy := by
  obtain ⟨u, hu, hbusy⟩ := hu
  have hany : (List.range 16).any (fun u => (s.vxuU u).state != .idle) = true :=
    List.any_eq_true.mpr ⟨u, List.mem_range.mpr hu, by simpa using hbusy⟩
  simp only [holdStatus, State.hostChecks, State.modeChecks, h, hm, hany, List.cons_append, List.nil_append, firstStatus]
  simp

/-! ### The obligation -/

/-- Settles O13: each request is a host write, and the checks of its table decide. -/
theorem modeRequests : Obligations.ModeRequests := by
  intro s r cal hrec
  refine ⟨fun h => ?_, fun h => ?_, fun h => ?_, fun st hst h => ?_, fun st hst h => ?_, fun st hst h => ?_,
    requests_of_observer, maintainStatus_of_operator, requests_of_owner_outside_service, holdStatus_busy, fun ht hb hn => ?_⟩
  · refine ⟨_, exec_modeReqService_ok hrec h, ?_, rfl⟩
    split <;> simp
  · exact ⟨_, exec_modeReqHold_ok hrec h, rfl, s.askHold_mode, rfl, rfl⟩
  · refine ⟨_, exec_modeReqMaintain_ok hrec h, by simp, fun u hu => ?_, State.answer_reply ..⟩
    rw [State.vxuU_reply, State.endStreams_idle _ _ hu]
  · subst h
    exact ⟨_, exec_refused hrec rfl hst, by simp⟩
  · subst h
    exact ⟨_, exec_refused hrec rfl hst, by simp⟩
  · subst h
    exact ⟨_, exec_refused hrec rfl hst, by simp⟩
  · exact ⟨_, if_pos ⟨ht, hb, hn⟩, s.enterHold_mode'⟩

end Sys2Proof.Machine
end

section
/-! PROOFS. A FATAL fault of each source, in the running modes, in SAFE and in COLD (R22, R371, R376, R383, R384, R421, R522). -/
namespace Sys2Proof.Machine

/-! ### What the SAFE blocks name (R384) -/

theorem State.alert_safeSrc (s : State) (c k x y z w : Nat) : (s.alert c k x y z w).flt.safeSrc = s.flt.safeSrc := by
  have hdrive : ∀ t : State, (t.driveAlertN c).flt.safeSrc = t.flt.safeSrc := fun t => by
    unfold State.driveAlertN
    split <;> rfl
  unfold State.alert
  rw [hdrive]
  exact foldl_keeps (fun t => t.flt.safeSrc) _ _ _ fun t j => by simp

/-- A fault detected renames nothing. -/
theorem State.detect_safeSrc (s : State) (src x y : Nat) (fo : Bool) : (s.detect src x y fo).flt.safeSrc = s.flt.safeSrc := by
  have hform : ∀ (t : State) (sev g : Nat), (t.formEntry src sev x y g fo false).flt.safeSrc = t.flt.safeSrc := fun t sev g => by
    simp only [State.formEntry, apply_ite (fun u : State => u.flt.safeSrc), State.alert_safeSrc, ite_self]
  unfold State.detect
  dsimp only
  repeat' split
  all_goals simp [hform]

/-! ### The reaction (R383) -/

/-- What the reaction to a FATAL fault of a source at a time leaves. -/
structure InSafe (src now : Nat) (t : State) : Prop where
  mode : t.mode = .safe
  sticky : t.sticky src = true
  safeSrc : t.flt.safeSrc = some (src, now % 4294967296)
  sessions : t.sec.sessions = []
  streams : ∀ u, (t.vxuU u).state = .idle

/-- What follows the reaction for a source of its own leaves mode, registers, faults and units, and opens no session. -/
theorem InSafe.of_kept {src now : Nat} {t u : State} (h : InSafe src now t) (hm : u.mode = t.mode) (hr : u.regs = t.regs)
    (hf : u.flt = t.flt) (hx : u.sec.sessions = []) (hv : u.vxu = t.vxu) : InSafe src now u := by
  refine ⟨hm.trans h.mode, ?_, by rw [hf, h.safeSrc], hx, fun v => ?_⟩
  · simpa only [State.sticky, State.rdN, State.rd, hr] using h.sticky
  · simpa only [State.vxuU, hv] using h.streams v

theorem State.safeReaction_leaves (s : State) (src : Nat) :
    (s.safeReaction src).flt.safeSrc = some (src, s.now % 4294967296) ∧ (s.safeReaction src).sec.sessions = [] ∧
      (s.safeReaction src).vxu = [] := by
  have hflt : (s.safeStop src).flt.safeSrc = some (src, s.now % 4294967296) := rfl
  have hvxu : (s.safeStop src).vxu = [] := rfl
  refine ⟨by simp [State.safeReaction, hflt], ?_, by simp [State.safeReaction, hvxu]⟩
  simp [State.safeReaction, State.endAtOnce, State.dropLatches]

/-- Sources 0 to 7 are the FATAL ones (R370). -/
theorem faultSev_fatal {src : Nat} (h : src < 8) : (faultSev src).isSome = true := by
  rw [faultSev, if_pos (by omega)]
  rfl

/-- Outside COLD and SAFE a FATAL fault leads to SAFE. -/
theorem State.fatal_inSafe {s : State} (hc : s.mode ≠ .cold) (hs : s.mode ≠ .safe) {src : Nat} (h : src < 8) (a b : Nat) :
    InSafe src s.now (s.fatal src a b) := by
  obtain ⟨hsrc, hsess, hvxu⟩ := s.safeReaction_leaves src
  have heq : s.fatal src a b = (s.safeReaction src).detect src a b := by rw [State.fatal, if_neg (not_or.mpr ⟨hc, hs⟩)]
  rw [heq]
  refine ⟨by simp, State.sticky_detect _ _ _ _ _ (faultSev_fatal h) (.inl (by simp)), ?_, by simpa using hsess, fun u => ?_⟩
  · rw [State.detect_safeSrc, hsrc]
  · simp [State.vxuU, hvxu, Tab.lookD]

/-- In SAFE and in COLD a FATAL fault is detected, and no more. -/
theorem State.fatal_of_cold_or_safe {s : State} (h : s.mode = .cold ∨ s.mode = .safe) (src a b : Nat) :
    s.fatal src a b = s.detect src a b := by
  rw [State.fatal, if_pos h]

/-! ### Each source -/

theorem InSafe.allOff {src now : Nat} {t : State} (h : InSafe src now t) : InSafe src now t.allOff :=
  h.of_kept rfl rfl rfl rfl rfl

theorem InSafe.railFailed {src now : Nat} {t : State} (h : InSafe src now t) (r : Nat) : InSafe src now (t.railFailed r) :=
  h.of_kept rfl rfl rfl h.sessions rfl

section
variable {s : State} (hc : s.mode ≠ .cold) (hs : s.mode ≠ .safe)
include hc hs

/-- A shutdown that none has preceded turns everything off behind the reaction (R355). -/
theorem State.shutdown_inSafe (hh : s.thm.hot = false) (die path : Nat) (v : Int) : InSafe 0 s.now (s.shutdown die path v) := by
  have hfatal : ∀ (t : State) (n : Nat), t.mode = s.mode → t.now = s.now → InSafe 0 s.now (t.fatal 0 die n) := fun t n hm hn =>
    hn ▸ State.fatal_inSafe (hm ▸ hc) (hm ▸ hs) (by decide) die n
  unfold State.shutdown
  simp only [hh, Bool.false_eq_true, if_false, hc]
  refine (hfatal _ _ ?_ ?_).allOff <;> simp [State.now]

/-- A rail fault turns its rail off behind the reaction (R361, R383). -/
theorem State.railFault_inSafe {src : Nat} (h : src < 8) (r v : Nat) : InSafe src s.now (s.railFault src r v) := by
  rw [State.railFault, if_neg hc]
  exact (State.fatal_inSafe hc hs h r v).railFailed r

theorem State.clockLost_inSafe (hl : s.aon.pll = true) (n : Nat) : InSafe 3 s.now (s.clockLost n) := by
  rw [State.clockLost, if_pos hl]
  exact State.fatal_inSafe hc hs (by decide) n 0

end

/-- With both pins high PWRGOOD falls into the reaction of source 7 (R522). -/
theorem State.pwrgoodLost_eq {s : State} (hp : s.aon = ⟨true, true, true⟩) :
    s.pwrgoodLost = ({ s with aon := ⟨true, false, true⟩ } : State).fatal 7 0 0 := by
  simp [State.pwrgoodLost, hp]

theorem State.pwrgoodLost_inSafe {s : State} (hp : s.aon = ⟨true, true, true⟩) (hc : s.mode ≠ .cold) (hs : s.mode ≠ .safe) :
    InSafe 7 s.now s.pwrgoodLost := by
  rw [State.pwrgoodLost_eq hp]
  exact State.fatal_inSafe (s := { s with aon := ⟨true, false, true⟩ }) hc hs (by decide) 0 0

/-- FATAL_FAULT of each of the eight sources. -/
theorem State.fatalSource_inSafe {s : State} (hp : s.aon = ⟨true, true, true⟩) (hc : s.mode ≠ .cold) (hs : s.mode ≠ .safe)
    {src : Nat} (h : src < 8) (hh : src = 0 → s.thm.hot = false) (a b : Nat) : InSafe src s.now (s.fatalSource src a b) := by
  have hother : ∀ {n : Nat}, n < 8 → InSafe n s.now (if s.mode = .cold then s else s.fatal n a b) := fun hn => by
    rw [if_neg hc]
    exact State.fatal_inSafe hc hs hn a b
  match src, h with
  | 0, _ => exact State.shutdown_inSafe hc hs (hh rfl) ..
  | 1, _ => exact State.railFault_inSafe hc hs (by decide) ..
  | 2, _ => exact State.railFault_inSafe hc hs (by decide) ..
  | 3, _ => exact State.clockLost_inSafe hc hs (by rw [hp]) _
  | 4, _ => exact hother (by decide)
  | 5, _ => exact hother (by decide)
  | 6, _ => exact hother (by decide)
  | 7, _ => exact State.pwrgoodLost_inSafe hp hc hs

/-- A source of 4 to 6 outside COLD is a FATAL fault of its own (R383). -/
theorem State.fatalSource_of_mid {s : State} (hc : s.mode ≠ .cold) {src : Nat} (h4 : 4 ≤ src) (h6 : src ≤ 6) (a b : Nat) :
    s.fatalSource src a b = s.fatal src a b := by
  match src, h4, h6 with
  | 4, _, _ => exact if_neg hc
  | 5, _, _ => exact if_neg hc
  | 6, _, _ => exact if_neg hc

/-! ### The obligation -/

/-- Settles O11: every source meets the one reaction, which in SAFE and in COLD is the detection alone. -/
theorem fatalReaction : Obligations.FatalReaction := by
  intro s hp
  have hsafe : ∀ {src : Nat} {t : State}, InSafe src s.now t → t.mode = .safe ∧ t.sticky src = true ∧
      t.flt.safeSrc = some (src, s.now % 4294967296) ∧ t.sec.sessions = [] ∧ ∀ u, (t.vxuU u).state = .idle := fun h =>
    ⟨h.mode, h.sticky, h.safeSrc, h.sessions, h.streams⟩
  have hlost : exec .pwrgoodLost s = .next (({ s with aon := ⟨true, false, true⟩ } : State).fatal 7 0 0) :=
    congrArg Host.Outcome.next (State.pwrgoodLost_eq hp)
  refine ⟨fun hc hs => ⟨fun src a b hh => ?_, ?_, fun pll => ?_, fun cause => ?_, fun core => ?_⟩, fun hs src a b h4 h6 => ?_,
    fun hc => ⟨?_, ?_⟩⟩
  · exact ⟨_, rfl, hsafe (State.fatalSource_inSafe hp hc hs src.isLt (fun h => hh (Fin.ext h)) ..)⟩
  · exact ⟨_, hlost, hsafe (State.fatal_inSafe (s := { s with aon := ⟨true, false, true⟩ }) hc hs (by decide) 0 0), by simp⟩
  · exact ⟨_, rfl, hsafe (State.clockLost_inSafe hc hs (by rw [hp]) _)⟩
  · exact ⟨_, if_neg hc, hsafe (State.fatal_inSafe hc hs (by decide) ..)⟩
  · exact ⟨_, if_neg hc, hsafe (State.fatal_inSafe hc hs (by decide) ..)⟩
  · have hc : s.mode ≠ .cold := by simp [hs]
    refine ⟨_, congrArg Host.Outcome.next ((State.fatalSource_of_mid hc h4 h6 ..).trans
      (State.fatal_of_cold_or_safe (.inr hs) ..)), by simpa using hs, ?_, State.detect_safeSrc ..⟩
    exact State.sticky_detect _ _ _ _ _ (faultSev_fatal src.isLt) (.inl hc)
  · refine ⟨_, congrArg Host.Outcome.next ((if_pos (by rw [hp])).trans (State.fatal_of_cold_or_safe (.inl hc) ..)), ?_, ?_⟩
    · simpa using hc
    · exact State.sticky_detect _ _ _ _ _ (by decide) (.inr (by decide))
  · have hcold : ({ s with aon := ⟨true, false, true⟩ } : State).mode = .cold := hc
    refine ⟨_, hlost.trans (congrArg Host.Outcome.next (State.fatal_of_cold_or_safe (.inl hcold) 7 0 0)), ?_, ?_⟩
    · simpa using hc
    · exact State.sticky_detect _ _ _ _ _ (by decide) (.inr (by decide))

end Sys2Proof.Machine
end

section
/-! PROOFS. Reinstatement of shed classes, and the miss of withheld credit (R26, R175, R178, R180). -/
namespace Sys2Proof.Machine

/-! ### Sets of classes as bits, and saturating counters -/

/-- A mask holds the bits it was made of. -/
theorem bitOf_maskOf (l : List Nat) (i : Nat) : bitOf (maskOf l) i = decide (i ∈ l) := by
  have hfold : ∀ (l : List Nat) (a : Nat), bitOf (l.foldl (fun a i => a ||| (1 <<< i)) a) i = (bitOf a i || decide (i ∈ l)) := by
    intro l
    induction l with
    | nil => simp
    | cons j l ih =>
      intro a
      rw [List.foldl_cons, ih]
      simp only [bitOf, Nat.testBit_or, Nat.one_shiftLeft, Nat.testBit_two_pow, List.mem_cons, Bool.decide_or, Bool.or_assoc, eq_comm]
  rw [maskOf, hfold]
  simp [bitOf]

/-- A counter raised reads its old value raised, up to the most it holds. -/
theorem State.rdN_satInc (s : State) (a n : Nat) : (s.satInc a n).rdN a = sat32 (s.rdN a) n := by
  simp only [State.satInc, State.wrN, State.rdN, State.rd_wr_same, BitVec.toNat_ofNat, sat32]
  exact Nat.mod_eq_of_lt (by omega)

/-! ### Reinstatement (R178) -/

/-- The demand of a class, added to that of the classes in force, fits present capacity. -/
def State.fits (s : State) (n : Nat) : Prop := ∀ r ∈ resOrder, s.overloaded false (n :: s.forceList) r = false

theorem State.reinstate_of_not_fits {s : State} {n : Nat} (h : ¬ s.fits n) : s.reinstate n = s := by
  refine if_pos (List.any_eq_true.mpr ?_)
  simpa [State.fits] using h

/-- A class that fits moves from the shed classes to those in force. -/
theorem State.reinstate_of_fits {s : State} {n : Nat} (h : s.fits n) : (s.reinstate n).qos.inforce = s.qos.inforce ||| 2 ^ n ∧
    (s.reinstate n).qos.shed = maskOf (((List.range 32).filter s.isShed).filter (· != n)) := by
  have hfit : resOrder.any (s.overloaded false (n :: s.forceList)) = false := by simpa [State.fits] using h
  simp [State.reinstate, hfit]

/-- What reinstatements do to the classes: none leaves force, and none is lost. -/
structure Reinstated (s t : State) : Prop where
  inForce : ∀ m < 32, s.inForce m = true → t.inForce m = true
  shed : ∀ m < 32, s.isShed m = true → t.inForce m = true ∨ t.isShed m = true

theorem Reinstated.refl (s : State) : Reinstated s s := ⟨fun _ _ h => h, fun _ _ h => .inr h⟩

theorem Reinstated.trans {s t u : State} (h : Reinstated s t) (k : Reinstated t u) : Reinstated s u :=
  ⟨fun m hm hs => k.inForce m hm (h.inForce m hm hs), fun m hm hs => (h.shed m hm hs).elim (fun hf => .inl (k.inForce m hm hf))
    (k.shed m hm)⟩

theorem State.reinstate_inForce {s : State} {n : Nat} (h : s.fits n) : (s.reinstate n).inForce n = true := by
  simp [State.inForce, bitOf, (State.reinstate_of_fits h).1, Nat.testBit_or]

theorem State.reinstate_reinstated (s : State) (n : Nat) : Reinstated s (s.reinstate n) := by
  by_cases hf : s.fits n
  · obtain ⟨hforce, hshed⟩ := State.reinstate_of_fits hf
    refine ⟨fun m _ hm => ?_, fun m hlt hm => ?_⟩
    · simp only [State.inForce, bitOf] at hm ⊢
      simp [hforce, Nat.testBit_or, hm]
    · by_cases hmn : m = n
      · exact .inl (by rw [hmn]; exact State.reinstate_inForce hf)
      · right
        rw [State.isShed, hshed, bitOf_maskOf]
        simp [hmn, hlt, hm]
  · rw [State.reinstate_of_not_fits hf]
    exact .refl s

theorem State.reinstateAll_fold (l : List Nat) (s : State) : Reinstated s (l.foldl (fun t n => t.reinstate n) s) := by
  induction l generalizing s with
  | nil => exact .refl s
  | cons n l ih => exact (s.reinstate_reinstated n).trans (ih _)

/-- The first shed class is tried before any other changes what is in force. -/
theorem State.reinstateAll_cons {s : State} {n : Nat} {rest : List Nat} (h : s.shedOrder = n :: rest) :
    s.reinstateAll = rest.foldl (fun t m => t.reinstate m) (s.reinstate n) := by
  rw [State.reinstateAll, h, List.foldl_cons]

/-- In SERVICE, at 100 ms without a change, every shed class is tried. -/
theorem exec_reinstatement_due {s : State} (hm : s.mode = .service) (hc : s.qos.change = false) (ht : 31250000 ≤ s.stableTicks) :
    exec .reinstatement s = .next s.reinstateAll :=
  if_pos ⟨hm, by simp [hc], ht⟩

theorem exec_reinstatement_not_due {s : State} (h : s.mode ≠ .service ∨ s.qos.change = true ∨ s.stableTicks < 31250000) :
    exec .reinstatement s = .next s := by
  refine if_neg fun ⟨hm, hc, ht⟩ => ?_
  rcases h with h | h | h
  · exact h hm
  · simp [h] at hc
  · omega

/-! ### Withheld credit (R175, R179) -/

/-- A miss is counted, and alerted or, within 1 ms of the last alert, not. -/
theorem State.miss_eq (s : State) (n reason : Nat) : s.miss n reason = s.countMiss n ∨
    s.miss n reason = ({ s.countMiss n with qos := { (s.countMiss n).qos with
      missAlert := Tab.put (s.countMiss n).qos.missAlert n s.now } } : State).alert 0x12 0xFF n reason 0 0 :=
  ite_eq_or_eq ..

/-- A miss leaves the intervals and the classes in force, and counts one more for its class. -/
theorem State.miss_leaves (s : State) {n : Nat} (h : n < 32) (reason : Nat) :
    (s.miss n reason).qos.withheld = s.qos.withheld ∧ (s.miss n reason).qos.inforce = s.qos.inforce ∧
      (s.miss n reason).rdN (Reg.QOS_C_MISS n) = sat32 (s.rdN (Reg.QOS_C_MISS n)) 1 := by
  have hreg : Reg.QOS_C_MISS n < 0x120000 ∧ Reg.QOS_C_MISS n ≠ Reg.QOS_EVENTS := by
    simp only [Reg.QOS_C_MISS, Reg.QOS_EVENTS]
    omega
  have hcount : (s.countMiss n).rdN (Reg.QOS_C_MISS n) = sat32 (s.rdN (Reg.QOS_C_MISS n)) 1 := by
    rw [← State.rdN_satInc, State.countMiss, State.event, State.setBits, State.rdN, State.rd_wr_ne _ _ _ _ hreg.2, ← State.rdN]
  rcases s.miss_eq n reason with heq | heq <;> rw [heq]
  · exact ⟨by simp, by simp, hcount⟩
  · refine ⟨by simp, by simp, ?_⟩
    rw [State.rdN, State.rd_alert _ _ _ _ _ _ _ _ (.inl hreg.1)]
    exact hcount

/-- An interval not yet reported is judged (R175). -/
theorem execHoldExceeded_open {s : State} {n : Fin 32} {since : Nat} (h : Tab.look s.qos.withheld n = some (since, false)) :
    execHoldExceeded n s =
      if s.classType n = 2 ∧ s.inForce n ∧ !bitOf s.qos.stray n ∧ !s.holdWithholds ∧ s.classP3 n * 625 < 2 * (s.now - since) then
        .next (({ s with qos := { s.qos with withheld := Tab.put s.qos.withheld n (since, true) } } : State).miss n 3)
      else .next s := by
  simp only [execHoldExceeded, h]

/-- Without an interval, and of one reported before, nothing comes. -/
theorem execHoldExceeded_closed {s : State} {n : Fin 32} {since : Nat}
    (h : Tab.look s.qos.withheld n = none ∨ Tab.look s.qos.withheld n = some (since, true)) : execHoldExceeded n s = .next s := by
  rcases h with h | h <;> simp only [execHoldExceeded, h]

/-! ### The obligation -/

/-- Settles O32: the first shed class meets the state as it is, later ones take nothing out of force; an interval is judged once. -/
theorem qosEvents : Obligations.QosEvents := by
  intro s n rest since
  refine ⟨fun hm hc ht => ⟨fun ho => ?_, fun ho => ?_⟩, exec_reinstatement_not_due, fun hw => ⟨?_, fun hmiss => ?_⟩,
    execHoldExceeded_closed⟩
  · have hall := State.reinstateAll_cons ho
    have hlater := State.reinstateAll_fold rest (s.reinstate n)
    have hboth := (s.reinstate_reinstated n).trans hlater
    rw [← hall] at hlater hboth
    refine ⟨_, exec_reinstatement_due hm hc ht, hboth.inForce, hboth.shed, fun hf => ?_, fun hf hr => ?_⟩
    · exact hlater.inForce n n.isLt (State.reinstate_inForce hf)
    · rw [hall, hr]
      exact State.reinstate_of_not_fits hf
  · rw [exec_reinstatement_due hm hc ht, State.reinstateAll, ho, List.foldl_nil]
  · rintro ⟨htype, hforce, hstray, hhold, hlong⟩
    obtain ⟨hwith, hin, hcount⟩ := State.miss_leaves
      ({ s with qos := { s.qos with withheld := Tab.put s.qos.withheld n (since, true) } } : State) n.isLt 3
    refine ⟨_, (execHoldExceeded_open hw).trans (if_pos ⟨htype, hforce, by simp [hstray], by simp [hhold], hlong⟩), ?_, hcount, hin⟩
    rw [hwith]
    exact Tab.look_put_same ..
  · refine (execHoldExceeded_open hw).trans (if_neg fun ⟨htype, hforce, hstray, hhold, hlong⟩ => hmiss ?_)
    exact ⟨htype, hforce, by simpa using hstray, by simpa using hhold, hlong⟩

end Sys2Proof.Machine
end

section
/-! PROOFS. NONCE, its expiry and OPEN (R28, R413 to R417, R421, R424). -/
namespace Sys2Proof.Machine

/-! ### Status tables and what a refused session operation leaves -/

/-- A table of refusals that comes to OK has met none of its conditions. -/
theorem firstStatus_ok {l : List (Bool × Status)} (h : firstStatus l = .ok) (hl : ∀ e ∈ l, e.2 ≠ .ok) : ∀ e ∈ l, e.1 = false := by
  induction l with
  | nil => simp
  | cons p l ih =>
    rw [firstStatus] at h
    split at h
    · exact absurd h (hl p (by simp))
    · next hp =>
      intro e he
      rcases List.mem_cons.mp he with rfl | he
      · simpa using hp
      · exact ih h (fun e he => hl e (List.mem_cons_of_mem _ he)) e he

@[simp] theorem State.sessionReply_sec (s : State) (st : Status) (d : List Byte) : (s.sessionReply st d).sec = s.sec := by
  simp [State.sessionReply]

@[simp] theorem State.sessionReply_answer (s : State) (st : Status) (d : List Byte) : (s.sessionReply st d).answer = ⟨st, d⟩ := rfl

/-- A refusal counted writes its count in SEC and counters (R424). -/
theorem State.rd_countRefusal (s : State) (st : Status) (x a : Nat) (h : a < 0x20000 ∨ 0x30000 ≤ a)
    (h2 : a ≠ Reg.SEC_AUTH_REJ ∧ a ≠ Reg.SEC_PRIV_REJ) : (s.countRefusal st x).rd a = s.rd a := by
  unfold State.countRefusal
  split
  · rw [State.rd_count _ _ _ _ _ _ _ _ _ h, State.satInc, State.wrN, State.rd_wr_ne _ _ _ _ h2.1]
  · rw [State.rd_count _ _ _ _ _ _ _ _ _ h, State.satInc, State.wrN, State.rd_wr_ne _ _ _ _ h2.2]
  · rfl

/-! ### Nonces (R413) -/

/-- A fifth nonce of a path replaces its oldest. -/
theorem addNonce_count (l : List Nonce) (n : Nonce) (h : (l.filter (fun x => x.path == n.path)).length ≤ 4) :
    ((addNonce l n).filter (fun x => x.path == n.path)).length ≤ 4 := by
  unfold addNonce
  dsimp only
  split
  · next hfour =>
    have hhead : (l.filter (fun x => x.path == n.path)).headD n ∈ l.filter (fun x => x.path == n.path) := by
      cases hm : l.filter (fun x => x.path == n.path) with
      | nil => simp [hm] at hfour
      | cons y r => simp
    rw [List.filter_append, ← List.erase_filter, List.length_append, List.length_erase_of_mem hhead]
    simp only [List.filter_singleton, beq_self_eq_true, cond_true, List.length_singleton]
    omega
  · simp only [List.filter_append, List.length_append, List.filter_singleton, beq_self_eq_true, cond_true, List.length_singleton]
    omega

theorem mem_addNonce (l : List Nonce) (n : Nonce) : n ∈ addNonce l n := List.mem_append_right _ (List.mem_singleton_self n)

/-- The checks of NONCE. -/
def State.nonceStatus (s : State) (r : Req) : Status :=
  firstStatus (s.opChecks r 0x20 ++ [(!s.opensSessions, .eState), (s.nonceBlocked r.path.num, .eBusy)])

theorem exec_nonce_ok {s : State} {r : Req} (h : s.nonceStatus r = .ok) :
    exec (.nonce r) s = .next (s.issueNonce r.path.num) := by
  rw [exec, execNonce, State.opNonce, ← State.nonceStatus, h]

theorem exec_nonce_refused {s : State} {r : Req} (h : s.nonceStatus r ≠ .ok) :
    exec (.nonce r) s = .next (s.sessionReply (s.nonceStatus r)) := by
  rw [exec, execNonce, State.opNonce, ← State.nonceStatus]
  split
  · exact absurd ‹_› h
  · rfl

/-- The nonce that NONCE issues. -/
def State.newNonce (s : State) (path : Nat) : Nonce :=
  ⟨path, BitVec.ofNat 256 (leNat (randomBytes s.fresh 32)), s.now + 312500000⟩

theorem State.issueNonce_leaves (s : State) (path : Nat) : (s.issueNonce path).answer.status = .ok ∧
    (s.issueNonce path).answer.data.length = 48 ∧
    (s.issueNonce path).sec = { s.sec with nonces := addNonce s.sec.nonces (s.newNonce path) } := by
  refine ⟨rfl, ?_, State.sessionReply_sec ..⟩
  rw [State.issueNonce, State.sessionReply_answer]
  simp [randomBytes, leBytes]

/-! ### OPEN refused (R415) -/

theorem exec_sessionOpen_early {s : State} {r : Req} {ext : List Byte} (h : s.openEarly r ext ≠ .ok) :
    exec (.sessionOpen r ext) s = .next (s.sessionReply (s.openEarly r ext)) := by
  rw [exec, execSessionOpen, State.opOpen]
  split
  · exact absurd ‹_› h
  · rfl

/-- The state in which an OPEN that names its nonce goes on: SEC has taken its work, and the nonce is consumed. -/
def State.opening (s : State) (r : Req) (ext : List Byte) : State := (s.openTakes r ext).consumeNonce r ext

/-- SEC's work and the nonce are all that the checks from step 3 on move. -/
theorem State.opening_eq (s : State) (r : Req) (ext : List Byte) : ∃ pk n, s.opening r ext =
    { s with sec := { s.sec with pk := pk, nonces := (s.consumeNonce r ext).sec.nonces }, fresh := n } := by
  have hconsume : ∀ t : State, t.now = s.now → t.sec.nonces = s.sec.nonces → t.consumeNonce r ext =
      { t with sec := { t.sec with nonces := (s.consumeNonce r ext).sec.nonces } } := fun t ht hn => by
    have hnonce : t.openNonce r ext = s.openNonce r ext := by simp only [State.openNonce, ht, hn]
    unfold State.consumeNonce
    rw [hnonce]
    split
    · rw [hn]
    · rw [← hn]
  unfold State.opening State.openTakes
  split
  · exact ⟨_, _, hconsume s.pkTake rfl rfl⟩
  · exact ⟨_, _, hconsume s rfl rfl⟩

theorem exec_sessionOpen_late {s : State} {r : Req} {ext : List Byte} (he : s.openEarly r ext = .ok) (h : s.openStatus r ext ≠ .ok) :
    exec (.sessionOpen r ext) s = .next (((s.opening r ext).openFailed r.path.num).sessionReply (s.openStatus r ext)) := by
  rw [exec, execSessionOpen, State.opOpen, he]
  dsimp only
  split
  · exact absurd ‹_› h
  · rfl

theorem exec_sessionOpen_ok {s : State} {r : Req} {ext : List Byte} (he : s.openEarly r ext = .ok) (h : s.openStatus r ext = .ok) :
    exec (.sessionOpen r ext) s =
      .next ((s.opening r ext).openSession r ext ((s.openKey ext).getD ([], .owner)).1) := by
  rw [exec, execSessionOpen, State.opOpen, he]
  dsimp only
  rw [h]
  rfl

/-- A failure counted is no session and no nonce (R415). -/
theorem State.openFailed_leaves (s : State) (path : Nat) : (s.openFailed path).sec.sessions = s.sec.sessions ∧
    (s.openFailed path).sec.nonces = s.sec.nonces ∧
    (s.openFailed path).rdN Reg.SEC_OPEN_FAIL = sat32 (s.rdN Reg.SEC_OPEN_FAIL) 1 := by
  refine ⟨rfl, rfl, ?_⟩
  rw [State.openFailed]
  dsimp only
  rw [State.rdN, State.event, State.setBits, State.rd_wr_ne _ _ _ _ (by decide), ← State.rdN, State.rdN_satInc]
  rfl

theorem mem_of_look {α : Type} {t : Tab α} {k : Nat} {v : α} (h : Tab.look t k = some v) : (k, v) ∈ t := by
  induction t with
  | nil => exact absurd h (by simp)
  | cons p t ih =>
    rw [Tab.look] at h
    split at h
    · next hk =>
      obtain rfl := Option.some.inj h
      exact hk ▸ List.mem_cons_self
    · exact List.mem_cons_of_mem _ (ih h)

/-! ### A slot and a SID for the new session (R416, R421) -/

/-- Fewer than 16 sessions, open or being answered, leave a slot of the 16 free. -/
theorem State.freeSlot_free {s : State} (h : s.sec.sessions.length + s.sec.closing.length < 16) : s.freeSlot < 16 ∧
    Tab.look s.sec.sessions s.freeSlot = none ∧ ∀ e ∈ s.sec.closing, e.1 ≠ s.freeSlot := by
  unfold State.freeSlot
  cases hfind : (List.range 16).find? (fun i => (Tab.look s.sec.sessions i).isNone && !s.sec.closing.any (fun e => e.1 == i)) with
  | some i =>
    obtain ⟨hlt, hfree⟩ := And.intro (List.mem_of_find?_eq_some hfind) (List.find?_some hfind)
    simp only [Bool.and_eq_true, Option.isNone_iff_eq_none, Bool.not_eq_true', List.any_eq_false, beq_iff_eq] at hfree
    exact ⟨List.mem_range.mp hlt, hfree.1, fun e he => hfree.2 e he⟩
  | none =>
    have hused : List.range 16 ⊆ s.sec.sessions.map (·.1) ++ s.sec.closing.map (·.1) := fun i hi => by
      have hi := List.find?_eq_none.mp hfind i hi
      simp only [Bool.and_eq_true, Option.isNone_iff_eq_none, Bool.not_eq_true', List.any_eq_false, beq_iff_eq, not_and, not_forall,
        not_not] at hi
      by_cases hl : Tab.look s.sec.sessions i = none
      · obtain ⟨e, he, hei⟩ := hi hl
        exact List.mem_append_right _ (List.mem_map.mpr ⟨e, he, hei⟩)
      · obtain ⟨v, hv⟩ := Option.ne_none_iff_exists'.mp hl
        exact List.mem_append_left _ (List.mem_map.mpr ⟨(i, v), mem_of_look hv, rfl⟩)
    have hlen := (List.subperm_of_subset List.nodup_range hused).length_le
    simp at hlen
    omega

/-- A search for a SID that ends on 0 or on one in use has seen nothing else on its way. -/
theorem nextSid_bad {used : List Nat} {fuel n : Nat} (hn : n < 65536) (h : nextSid used fuel n ∈ 0 :: used) :
    ∀ i ≤ fuel, (n + i) % 65536 ∈ 0 :: used := by
  induction fuel generalizing n with
  | zero =>
    intro i hi
    obtain rfl : i = 0 := by omega
    rwa [Nat.add_zero, Nat.mod_eq_of_lt hn]
  | succ fuel ih =>
    rw [nextSid] at h
    split at h
    · next hbad =>
      intro i hi
      cases i with
      | zero => simpa [Nat.mod_eq_of_lt hn] using hbad
      | succ i =>
        have hnext := ih (Nat.mod_lt _ (by decide)) h i (by omega)
        rwa [Nat.mod_add_mod, Nat.add_assoc, Nat.add_comm 1 i] at hnext
    · next hgood =>
      simp_all

/-- More tries than SIDs in use find one that is neither 0 nor in use. -/
theorem nextSid_free {used : List Nat} {fuel n : Nat} (hn : n < 65536) (hf : fuel < 65536) (hu : used.length < fuel) :
    nextSid used fuel n ∉ 0 :: used := by
  intro h
  have hseen : (List.range (fuel + 1)).map (fun i => (n + i) % 65536) ⊆ 0 :: used := fun m hm => by
    obtain ⟨i, hi, rfl⟩ := List.mem_map.mp hm
    exact nextSid_bad hn h i (Nat.le_of_lt_succ (List.mem_range.mp hi))
  have hdistinct : ((List.range (fuel + 1)).map (fun i => (n + i) % 65536)).Nodup := by
    refine List.Nodup.map_on (fun i hi j hj hij => ?_) List.nodup_range
    simp only [List.mem_range] at hi hj
    omega
  have hlen := (List.subperm_of_subset hdistinct hseen).length_le
  simp at hlen
  omega

/-! ### OPEN accepted (R416, R417) -/

/-- The session that opens stands in the lowest free slot, with the role granted and the next free SID. -/
theorem State.openSession_leaves (s : State) (r : Req) (ext key : List Byte) :
    ((s.openSession r ext key).answer.status = .ok ∧ (s.openSession r ext key).sec.nonces = s.sec.nonces) ∧
      ∃ x : Session, (s.openSession r ext key).sec.sessions = Tab.put s.sec.sessions s.freeSlot x ∧ x.path = r.path.num ∧
        x.role = s.grantedRole ext ∧ x.timeout = (if leAt ext 4 4 = 0 then s.sec.idle else leAt ext 4 4) ∧ x.tOpen = s.now ∧
        x.sid = nextSid ((s.sec.sessions ++ s.sec.closing).map (fun e => e.2.sid)) 32 ((s.sec.lastSid + 1) % 65536) := by
  unfold State.openSession
  dsimp only
  simp only [State.sessionReply_sec, State.sessionReply_answer, State.count_keeps, State.inc64_keeps]
  exact ⟨⟨trivial, trivial⟩, _, rfl, rfl, rfl, rfl, rfl, rfl⟩

/-- OPEN is refused while 16 sessions are open or being answered (R416). -/
theorem State.openStatus_room {s : State} {r : Req} {ext : List Byte} (h : s.openStatus r ext = .ok) :
    s.sec.sessions.length + s.sec.closing.length < 16 := by
  unfold State.openStatus at h
  split at h
  · exact absurd h (by decide)
  split at h
  · exact absurd h (by decide)
  · have hall := firstStatus_ok h (by simp)
    simp only [List.forall_mem_cons, Bool.or_eq_false_iff, decide_eq_false_iff_not] at hall
    obtain ⟨-, -, -, -, ⟨hroom, -⟩, -⟩ := hall
    omega

/-! ### The obligation -/

/-- Settles O45: the checks of NONCE and OPEN decide; an OPEN that passes finds a slot and a SID because fewer than 16 are taken. -/
theorem openingSessions : Obligations.OpeningSessions := by
  intro s r p ext
  refine ⟨⟨fun h => ?_, fun h => ?_⟩, fun n hn => ⟨fun ht => ?_, fun ht => ?_⟩, fun hn => ?_, fun st hst h => ?_, fun st hst he h => ?_,
    fun he h => ?_⟩
  · obtain ⟨hok, hlen, hsec⟩ := s.issueNonce_leaves r.path.num
    refine ⟨_, s.newNonce r.path.num, exec_nonce_ok h, hok, hlen, ?_, rfl, rfl, fun hc => ?_, ?_⟩ <;> rw [hsec]
    · exact mem_addNonce _ _
    · exact addNonce_count _ (s.newNonce r.path.num) hc
  · exact ⟨_, exec_nonce_refused h, rfl, State.sessionReply_sec ..⟩
  · simp only [exec, execNonceExpire, hn, if_pos ht]
  · simp only [exec, execNonceExpire, hn, if_neg (Nat.not_le.mpr ht)]
  · have hnone : s.sec.nonces.find? (fun x => x.path == p.num) = none := by simpa using hn
    simp only [exec, execNonceExpire, hnone]
  · subst h
    exact ⟨_, exec_sessionOpen_early hst, rfl, State.sessionReply_sec ..⟩
  · subst h
    obtain ⟨pk, m, hopening⟩ := s.opening_eq r ext
    obtain ⟨hsess, hnon, hfail⟩ := (s.opening r ext).openFailed_leaves r.path.num
    refine ⟨_, exec_sessionOpen_late he hst, rfl, ?_, ?_, ?_⟩
    · rw [State.sessionReply_sec, hsess, hopening]
    · rw [State.sessionReply_sec, hnon, hopening]
    · rw [State.sessionReply, State.rdN, State.rd_reply, State.rd_countRefusal _ _ _ _ (.inr (by decide)) (by decide), ← State.rdN, hfail,
        hopening]
      rfl
  · obtain ⟨pk, m, hopening⟩ := s.opening_eq r ext
    obtain ⟨⟨hok, hnon⟩, x, hsess, hpath, hrole, htime, hopen, hsid⟩ :=
      (s.opening r ext).openSession_leaves r ext ((s.openKey ext).getD ([], .owner)).1
    have hroom := State.openStatus_room h
    obtain ⟨hslot, hfree, hclosing⟩ := State.freeSlot_free hroom
    have hfresh := nextSid_free (used := (s.sec.sessions ++ s.sec.closing).map (fun e => e.2.sid)) (fuel := 32)
      (Nat.mod_lt (s.sec.lastSid + 1) (by decide : 0 < 65536)) (by decide) (by simp; omega)
    rw [hopening] at hnon hsess hrole htime hopen hsid
    simp only [← hsid, List.mem_cons, not_or] at hfresh
    refine ⟨_, x, s.freeSlot, exec_sessionOpen_ok he h, hok, ?_, hslot, hfree, hclosing, ?_, hpath, ?_, htime, hopen, hfresh.1, ?_⟩
    · rw [hopening]
      exact hnon
    · rw [hopening]
      exact hsess
    · simpa [State.grantedRole] using hrole
    · intro e he heq
      exact hfresh.2 (List.mem_map.mpr ⟨e, List.mem_append_left _ he, heq⟩)

end Sys2Proof.Machine
end

section
/-! PROOFS. Commit and discard of shadows (R44, R48, R502 to R504, R509, R511). -/
namespace Sys2Proof.Machine

/-! ### Words of no commit group (R502) -/

/-- A word of a block whose rows are of no group is of none. -/
theorem regGroup_of_block {a : Nat} {l : List RegRow} (hl : regMapOf a = l) (h : ∀ r ∈ l, r.group = 6) : regGroup a = 6 := by
  unfold regGroup regRow?
  split
  · next hr => exact h _ (hl ▸ List.mem_of_find?_eq_some hr)
  · rfl

/-- The packet layer's block has no shadows. -/
theorem regGroup_packetLayer {a : Nat} (h : ¬ (a < 0x120000 ∨ 0x124000 ≤ a)) : regGroup a = 6 := by
  refine regGroup_of_block (l := regMapLnk) ?_ (by decide)
  have hblock : a / 0x10000 = 18 := by omega
  simp [regMapOf, hblock]

theorem regGroup_pmcCnt : ∀ n < 128, regGroup (Reg.PMC_CNT n) = 6 ∧ regGroup (Reg.PMC_CNT n + 4) = 6 := by decide

theorem regGroup_pmcOvf : ∀ n < 4, regGroup (Reg.PMC_OVF n) = 6 := by decide

theorem regGroup_sheds : ∀ n < 32, regGroup (Reg.QOS_C_SHEDS n) = 6 := by decide

/-! ### What leaves the shadows and the settings in effect -/

/-- The shadows, and every register word of a commit group, stay as they are. -/
structure SettingsKept (s t : State) : Prop where
  shadow : t.shadow = s.shadow
  rd : ∀ a, regGroup a < 6 → t.rd a = s.rd a

theorem SettingsKept.refl (s : State) : SettingsKept s s := ⟨rfl, fun _ _ => rfl⟩

theorem SettingsKept.trans {s t u : State} (h : SettingsKept s t) (k : SettingsKept t u) : SettingsKept s u :=
  ⟨k.shadow.trans h.shadow, fun a ha => (k.rd a ha).trans (h.rd a ha)⟩

theorem SettingsKept.foldl {α : Type} {f : State → α → State} {l : List α} (h : ∀ t, ∀ x ∈ l, SettingsKept t (f t x)) (s : State) :
    SettingsKept s (l.foldl f s) :=
  ⟨foldl_keeps_mem State.shadow f l s fun t x hx => (h t x hx).shadow,
    fun a ha => foldl_keeps_mem (fun t => t.rd a) f l s fun t x hx => (h t x hx).rd a ha⟩

theorem SettingsKept.of_regs {s t u : State} (h : SettingsKept s t) (hr : u.regs = t.regs) (hs : u.shadow = t.shadow) : SettingsKept s u :=
  ⟨hs.trans h.shadow, fun a ha => (by rw [State.rd, hr]; rfl : u.rd a = t.rd a).trans (h.rd a ha)⟩

/-! One rule for each operation, to be read from the end of the operations back to their start. -/

theorem SettingsKept.wr {s t : State} (k : SettingsKept s t) {a : Nat} (h : regGroup a = 6) (v : Word) : SettingsKept s (t.wr a v) :=
  k.trans ⟨by simp, fun b hb => State.rd_wr_ne t a b v fun hba => by rw [hba, h] at hb; exact absurd hb (by decide)⟩

theorem SettingsKept.wrN {s t : State} (k : SettingsKept s t) {a : Nat} (h : regGroup a = 6) (n : Nat) : SettingsKept s (t.wrN a n) :=
  k.wr h _

theorem SettingsKept.event {s t : State} (k : SettingsKept s t) {a : Nat} (h : regGroup a = 6) (f : Fld) :
    SettingsKept s (t.event a f) := k.wr h _

theorem SettingsKept.satInc {s t : State} (k : SettingsKept s t) {a : Nat} (h : regGroup a = 6) (n : Nat) :
    SettingsKept s (t.satInc a n) := k.wr h _

theorem SettingsKept.wr64 {s t : State} (k : SettingsKept s t) {a : Nat} (h : regGroup a = 6) (h4 : regGroup (a + 4) = 6) (n : Nat) :
    SettingsKept s (t.wr64 a n) := (k.wrN h n).wrN h4 _

theorem SettingsKept.alert {s t : State} (h : SettingsKept s t) (c k x y z w : Nat) : SettingsKept s (t.alert c k x y z w) := by
  refine h.trans ⟨by simp, fun a ha => State.rd_alert _ _ _ _ _ _ _ _ (by_contra fun h => ?_)⟩
  rw [regGroup_packetLayer h] at ha
  exact absurd ha (by decide)

theorem SettingsKept.capUpdate {s t : State} (h : SettingsKept s t) : SettingsKept s t.capUpdate := by
  unfold State.capUpdate
  dsimp only
  split
  · exact h
  · exact (h.wrN (by decide) _).alert ..

theorem SettingsKept.sampleCount {s t : State} (h : SettingsKept s t) (n i : Nat) (x : SampleCtx) :
    SettingsKept s (t.sampleCount n i x) := h.of_regs (by simp) (by simp)

theorem SettingsKept.pmcAdd {s t : State} (h : SettingsKept s t) {n : Nat} (hn : n < 128) (inc a b : Nat) :
    SettingsKept s (t.pmcAdd n inc a b) := by
  obtain ⟨hlow, hhigh⟩ := regGroup_pmcCnt n hn
  have hcount := (h.wr64 hlow hhigh ((t.rd64 (Reg.PMC_CNT n) + inc) % 2 ^ 48)).sampleCount n inc
    ⟨t.now, a, b, (t.rd64 (Reg.PMC_CNT n) + inc) % 2 ^ 48⟩
  unfold State.pmcAdd
  dsimp only
  split
  · exact hcount
  · exact (hcount.wr (regGroup_pmcOvf _ (by omega)) _).event (by decide) _

theorem SettingsKept.count {s t : State} (h : SettingsKept s t) (ev i f : Nat) (p : Option Nat) (x y z : Nat) :
    SettingsKept s (t.count ev i f p x y z) := by
  refine h.trans (.foldl (fun u n hn => (SettingsKept.refl u).pmcAdd ?_ ..) t)
  simp only [State.pmcHits, List.mem_map, List.mem_filter] at hn
  obtain ⟨q, ⟨-, hq⟩, rfl⟩ := hn
  simp only [Bool.and_eq_true, decide_eq_true_eq] at hq
  omega

theorem SettingsKept.countRefusal {s t : State} (h : SettingsKept s t) (st : Status) (x : Nat) :
    SettingsKept s (t.countRefusal st x) := by
  unfold State.countRefusal
  split
  · exact (h.satInc (by decide) _).count ..
  · exact (h.satInc (by decide) _).count ..
  · exact h

theorem SettingsKept.reply {s t : State} (h : SettingsKept s t) (st : Status) (d : List Byte) : SettingsKept s (t.reply st d) :=
  h.of_regs rfl rfl

theorem SettingsKept.commitStat {s t : State} (h : SettingsKept s t) (r : Req) (v : Word) (st : Status) :
    SettingsKept s (t.commitStat r v st) := h.wrN (by decide) _

theorem SettingsKept.noteAdmission {s t : State} (h : SettingsKept s t) (a : Status × Nat × Nat) : SettingsKept s (t.noteAdmission a) :=
  h.wrN (by decide) _

/-- A refusal for want of a session is no fault (R495). -/
theorem State.reject_eAuth (s : State) (r : Req) (x : Nat) (w : Bool) (z : Nat) : s.reject r x w z .eAuth =
    (((((s.wrN Reg.GLB_ERR_ADDR x).wrN Reg.GLB_ERR_INFO (errInfo r w z .eAuth)).satInc Reg.GLB_ERR_CNT).event Reg.GLB_EVENTS
      Fld.GLB_EVENTS_ACCESS_REJ).countRefusal .eAuth x).reply .eAuth := rfl

theorem State.reject_settings (s : State) (r : Req) (x : Nat) (w : Bool) (z : Nat) : SettingsKept s (s.reject r x w z .eAuth) := by
  rw [State.reject_eAuth]
  have herr := ((SettingsKept.refl s).wrN (by decide : regGroup Reg.GLB_ERR_ADDR = 6) x).wrN
    (by decide : regGroup Reg.GLB_ERR_INFO = 6) (errInfo r w z .eAuth)
  exact (((herr.satInc (by decide) _).event (by decide) _).countRefusal ..).reply ..

/-! ### The classes after a commit (R176, R178) -/

theorem SettingsKept.reinstate {s t : State} (h : SettingsKept s t) (n : Nat) : SettingsKept s (t.reinstate n) := by
  unfold State.reinstate
  dsimp only
  split
  · exact h
  · refine ((SettingsKept.event (h.of_regs ?_ ?_) (by decide) _).alert ..).capUpdate <;> rfl

theorem SettingsKept.reinstateAll {s t : State} (h : SettingsKept s t) : SettingsKept s t.reinstateAll :=
  h.trans (.foldl (fun u n _ => (SettingsKept.refl u).reinstate n) t)

theorem State.lowestOn_mem {s : State} {o : List Res} {n : Nat} (h : s.lowestOn o = some n) : n ∈ s.forceList := by
  have hfold : ∀ (f : Option Nat → Nat → Option Nat) (l : List Nat) (b : Option Nat), (∀ b m, f b m = b ∨ f b m = some m) →
      l.foldl f b = some n → b = some n ∨ n ∈ l := by
    intro f l
    induction l with
    | nil => exact fun b _ h => .inl h
    | cons m l ih =>
      intro b hf h
      rcases ih (f b m) hf h with hb | hl
      · rcases hf b m with hk | hm
        · exact .inl (hk ▸ hb)
        · exact .inr (by simp_all)
      · exact .inr (List.mem_cons_of_mem _ hl)
  refine (hfold _ _ _ (fun b m => ?_) h).elim (fun hnone => absurd hnone (by simp)) List.mem_of_mem_filter
  cases b with
  | none => exact .inr rfl
  | some k => exact (ite_eq_or_eq ..).symm

theorem SettingsKept.shedClass {s t : State} (h : SettingsKept s t) {n : Nat} (hn : n < 32) (r : Res) :
    SettingsKept s (t.shedClass n r) := by
  unfold State.shedClass
  refine (((SettingsKept.satInc (h.of_regs ?_ ?_) (regGroup_sheds n hn) _).event (by decide) _).alert ..).capUpdate <;> rfl

theorem SettingsKept.shedLoop {s t : State} (h : SettingsKept s t) (fuel : Nat) : SettingsKept s (t.shedLoop fuel) := by
  induction fuel generalizing t with
  | zero => exact h
  | succ fuel ih =>
    rw [State.shedLoop]
    split
    · next hlow =>
      have hmem := State.lowestOn_mem hlow
      exact ih (h.shedClass (List.mem_range.mp (List.mem_of_mem_filter hmem)) _)
    · exact h

theorem SettingsKept.evaluate {s t : State} (h : SettingsKept s t) : SettingsKept s t.evaluate := by
  unfold State.evaluate
  refine SettingsKept.shedLoop (h.of_regs ?_ ?_) 32 <;> rfl

theorem SettingsKept.classesNow {s t : State} (h : SettingsKept s t) : SettingsKept s t.classesNow := h.of_regs rfl rfl

theorem SettingsKept.losesNx {s t : State} (h : SettingsKept s t) (l : List Nat) :
    SettingsKept s (l.foldl (fun (u : State) i => u.loseNx i) t) :=
  h.trans (.foldl (fun u i _ => ((SettingsKept.refl u).of_regs rfl rfl : SettingsKept u (u.loseNx i))) t)

/-- What a commit does beyond the registers leaves the settings it has made. -/
theorem State.commitEffects_settings (s t : State) : SettingsKept t (s.commitEffects t) := by
  have hsources := (SettingsKept.refl t).losesNx (s.sourcesChanged t)
  unfold State.commitEffects
  dsimp only
  generalize List.foldl (fun (u : State) i => u.loseNx i) t (s.sourcesChanged t) = t1 at hsources ⊢
  have hclasses : ∀ c, SettingsKept t ({ t1 with cad := c } : State).classesNow.capUpdate := fun c => by
    refine SettingsKept.capUpdate (.classesNow (hsources.of_regs ?_ ?_)) <;> rfl
  split
  · split
    · exact (hclasses _).evaluate.reinstateAll
    · exact (hclasses _).evaluate
  · exact hclasses _

/-! ### Shadows put into effect (R44, R500) -/

/-- The shadows of the groups of a mask, written into the registers. -/
def writeShadow (mask : Nat) (t : State) (e : Nat × Word) : State := if bitOf mask (regGroup e.1) then t.wr e.1 e.2 else t

theorem writeShadow_rd_ne {mask a : Nat} {e : Nat × Word} (h : a ≠ e.1) (t : State) : (writeShadow mask t e).rd a = t.rd a := by
  unfold writeShadow
  split
  · exact State.rd_wr_ne _ _ _ _ h
  · rfl

/-- Of shadows in their order, each of a named group stands in its register when all are written. -/
theorem rd_foldl_writeShadow {mask a : Nat} {v : Word} {l : Tab Word} (hs : Tab.sorted l = true) (hl : Tab.look l a = some v)
    (hg : bitOf mask (regGroup a) = true) (t : State) : (l.foldl (writeShadow mask) t).rd a = v := by
  induction l generalizing t with
  | nil => exact absurd hl (by simp)
  | cons p l ih =>
    obtain ⟨hlater, hrest⟩ := (Tab.sorted_cons p l).mp hs
    rw [Tab.look] at hl
    split at hl
    · next hp =>
      obtain rfl := Option.some.inj hl
      subst hp
      refine (foldl_keeps_mem (fun u => u.rd p.1) _ l _ fun u e he => writeShadow_rd_ne (Nat.ne_of_lt (hlater e he)) u).trans ?_
      rw [writeShadow, if_pos hg, State.rd_wr_same]
    · exact ih hrest hl _

theorem State.withShadows_shadow (s : State) (mask : Nat) :
    (s.withShadows mask).shadow = s.shadow.filter (fun e => !bitOf mask (regGroup e.1)) := rfl

theorem State.rd_withShadows {s : State} {mask a : Nat} {v : Word} (hs : Tab.sorted s.shadow = true)
    (hl : Tab.look s.shadow a = some v) (hg : bitOf mask (regGroup a) = true) : (s.withShadows mask).rd a = v :=
  rd_foldl_writeShadow hs hl hg s

/-! ### The word of GLB_COMMIT, and its checks (R503) -/

theorem wget_commitWord_mask (d : Bool) (mask : BitVec 16) : wget (commitWord d mask) Fld.GLB_COMMIT_MASK = mask.toNat := by
  have hmask : fldMask Fld.GLB_COMMIT_MASK = BitVec.ofNat 32 (2 ^ 16 - 1) := by decide
  have hlt := mask.isLt
  rw [wget, hmask, commitWord, ← BitVec.ofNat_and, Nat.and_two_pow_sub_one_eq_mod]
  have hlow : (b2n d * 2 ^ 31 + mask.toNat) % 2 ^ 16 = mask.toNat := by omega
  rw [hlow]
  simp [Fld.GLB_COMMIT_MASK]
  omega

/-- A group named by a legal mask is one of the six. -/
theorem group_lt_of_legal {mask g : Nat} (hm : mask < 64) (hg : bitOf mask g = true) : g < 6 := by
  by_contra h
  rw [bitOf, Nat.testBit_lt_two_pow (hm.trans_le (Nat.pow_le_pow_right (show 0 < 2 by decide) (by omega : 6 ≤ g)))] at hg
  exact absurd hg (by decide)

/-- A legal mask of a role that may write it passes the first steps, outside the recovery loader. -/
theorem State.commitEntry_ok {s : State} {r : Req} {mask : BitVec 16} (hrec : s.upd.recovery = false)
    (hrole : s.commitRole r mask.toNat = true) (hl : mask ≠ 0 ∧ mask.toNat < 64) : s.commitEntry r mask.toNat = .ok := by
  have hzero : mask.toNat ≠ 0 := fun h => hl.1 (BitVec.eq_of_toNat_eq h)
  simp [State.commitEntry, firstStatus, hrec, hrole, hzero, hl.2]

theorem State.commitEntry_ePriv {s : State} {r : Req} {mask : Nat} (hrole : s.commitRole r mask = false) :
    s.commitEntry r mask = .ePriv := by
  simp [State.commitEntry, firstStatus, hrole]

theorem State.commitEntry_eRange {s : State} {r : Req} {mask : BitVec 16} (hrec : s.upd.recovery = false)
    (hrole : s.commitRole r mask.toNat = true) (hl : ¬ (mask ≠ 0 ∧ mask.toNat < 64)) : s.commitEntry r mask.toNat = .eRange := by
  have hbad : (mask.toNat == 0 || decide (64 ≤ mask.toNat)) = true := by
    by_contra h
    simp only [Bool.or_eq_true, beq_iff_eq, decide_eq_true_eq, not_or, not_le] at h
    exact hl ⟨fun h0 => h.1 (by simp [h0]), h.2⟩
  simp [State.commitEntry, firstStatus, hrec, hrole, hbad]

/-! ### What a refusal and a commit that passes leave -/

/-- A commit or a discard refused: answered so, with shadows, settings and classes as they were. -/
structure CommitRefused (s : State) (st : Status) (t : State) : Prop where
  answer : t.answer = ⟨st, []⟩
  settings : SettingsKept s t
  inforce : t.qos.inforce = s.qos.inforce

theorem State.reject_refused (s : State) (r : Req) (x : Nat) (w : Bool) (z : Nat) :
    CommitRefused s .eAuth (s.reject r x w z .eAuth) := by
  refine ⟨by rw [State.reject_eAuth]; rfl, s.reject_settings r x w z, ?_⟩
  rw [State.reject_eAuth]
  simp

theorem State.commitRejected_refused (s : State) (r : Req) (v : Word) (st : Status) (adm : Option (Status × Nat × Nat)) :
    CommitRefused s st (s.commitRejected r v st adm) := by
  refine ⟨rfl, ?_, ?_⟩
  · unfold State.commitRejected
    dsimp only
    refine .reply (.event (.satInc (.commitStat (.countRefusal ?_ ..) ..) (by decide) _) (by decide) _) ..
    have hnote : SettingsKept s (match adm with | some a => s.noteAdmission a | none => s) := by
      cases adm with
      | none => exact .refl s
      | some a => exact (SettingsKept.refl s).noteAdmission a
    split
    · exact hnote.event (by decide) _
    · exact hnote
  · unfold State.commitRejected
    cases adm <;> dsimp only <;> split <;> simp [State.commitStat, State.noteAdmission]

/-- A commit rejected is counted (R511). -/
theorem State.commitRejected_counted (s : State) (r : Req) (v : Word) (st : Status) (adm : Option (Status × Nat × Nat)) :
    (s.commitRejected r v st adm).rdN Reg.GLB_COMMIT_REJ = sat32 (s.rdN Reg.GLB_COMMIT_REJ) 1 := by
  have hkept : ∀ u : State, u.rd Reg.GLB_COMMIT_REJ = s.rd Reg.GLB_COMMIT_REJ →
      ((u.countRefusal st Reg.GLB_COMMIT).commitStat r v st).rd Reg.GLB_COMMIT_REJ = s.rd Reg.GLB_COMMIT_REJ := fun u hu => by
    rw [State.commitStat, State.wrN, State.rd_wr_ne _ _ _ _ (by decide), State.rd_countRefusal _ _ _ _ (.inl (by decide)) (by decide), hu]
  have hadm : (match adm with | some a => s.noteAdmission a | none => s).rd Reg.GLB_COMMIT_REJ = s.rd Reg.GLB_COMMIT_REJ := by
    cases adm with
    | none => rfl
    | some a => exact State.rd_wr_ne _ _ _ _ (by decide)
  unfold State.commitRejected
  dsimp only
  rw [State.rdN, State.rd_reply, State.event, State.setBits, State.rd_wr_ne _ _ _ _ (by decide), ← State.rdN, State.rdN_satInc,
    State.rdN, hkept _ ?_, ← State.rdN]
  split
  · exact (State.rd_wr_ne _ _ _ _ (by decide)).trans hadm
  · exact hadm

theorem State.commitPassed_settings (s t : State) (r : Req) (v : Word) (adm : Option (Status × Nat × Nat)) :
    SettingsKept t (s.commitPassed t r v adm) := by
  unfold State.commitPassed
  dsimp only
  refine .reply (.event (.satInc (.wr64 (.commitStat (.trans ?_ (s.commitEffects_settings _)) ..) (by decide) (by decide) _)
    (by decide) _) (by decide) _) ..
  cases adm with
  | none => exact .refl t
  | some a => exact (SettingsKept.refl t).noteAdmission a

theorem State.commitPassed_answer (s t : State) (r : Req) (v : Word) (adm : Option (Status × Nat × Nat)) :
    (s.commitPassed t r v adm).answer = ⟨.ok, []⟩ := rfl

theorem State.wr_eq (s : State) (a : Nat) (v : Word) : s.wr a v = { s with regs := (s.wr a v).regs } := by
  unfold State.wr
  generalize ite (v = resetWord a) _ _ = regs
  rfl

theorem State.reply_eq {s t : State} (h : t = { s with regs := t.regs }) (st : Status) :
    t.reply st = { s with regs := (t.reply st).regs, answer := ⟨st, []⟩ } := congrArg (fun u => State.reply u st) h

/-- A commit or discard noted in GLB_COMMIT_STAT and answered changes no other register. -/
theorem State.commitStat_reply (s : State) (r : Req) (v : Word) (st : Status) :
    (s.commitStat r v st).reply .ok = { s with regs := ((s.commitStat r v st).reply .ok).regs, answer := ⟨.ok, []⟩ } ∧
      ∀ a, a ≠ Reg.GLB_COMMIT_STAT → ((s.commitStat r v st).reply .ok).rd a = s.rd a := by
  unfold State.commitStat State.wrN
  exact ⟨State.reply_eq (State.wr_eq ..) _, fun a ha => (State.rd_reply ..).trans (State.rd_wr_ne _ _ _ _ ha)⟩

/-! ### The two commands -/

theorem exec_commit_of_no_role {s : State} {r : Req} {mask : BitVec 16} (h : s.role r = none) :
    exec (.commit r mask) s = .next (s.reject r Reg.GLB_COMMIT true 2 .eAuth) :=
  congrArg Host.Outcome.next (if_pos (by simp [h]))

theorem exec_discard_of_no_role {s : State} {r : Req} {mask : BitVec 16} (h : s.role r = none) :
    exec (.discard r mask) s = .next (s.reject r Reg.GLB_COMMIT true 2 .eAuth) :=
  congrArg Host.Outcome.next (if_pos (by simp [h]))

section
variable {s : State} {r : Req} {mask : BitVec 16} (hs : (s.role r).isSome = true)
include hs

theorem exec_commit_refused {st : Status} (he : s.commitEntry r mask.toNat = st) (hst : st ≠ .ok) :
    exec (.commit r mask) s = .next (s.commitRejected r (commitWord false mask) st none) := by
  refine congrArg Host.Outcome.next ((if_neg (by simpa [← Option.isSome_iff_ne_none] using hs)).trans ?_)
  dsimp only
  rw [wget_commitWord_mask, he]
  split
  · exact absurd rfl hst
  · rfl

/-- A commit whose first steps pass is judged from step 3 on. -/
theorem exec_commit_judged (he : s.commitEntry r mask.toNat = .ok) : exec (.commit r mask) s = .next
    (if (s.commitJudge (s.withShadows mask.toNat) mask.toNat).1 = .ok then
      s.commitPassed (s.withShadows mask.toNat) r (commitWord false mask) (s.commitJudge (s.withShadows mask.toNat) mask.toNat).2
    else s.commitRejected r (commitWord false mask) (s.commitJudge (s.withShadows mask.toNat) mask.toNat).1
      (s.commitJudge (s.withShadows mask.toNat) mask.toNat).2) := by
  refine congrArg Host.Outcome.next ((if_neg (by simpa [← Option.isSome_iff_ne_none] using hs)).trans ?_)
  dsimp only
  rw [wget_commitWord_mask, he]

theorem exec_discard_refused {st : Status} (he : s.commitEntry r mask.toNat = st) (hst : st ≠ .ok) : exec (.discard r mask) s =
    .next (((s.countRefusal st Reg.GLB_COMMIT).commitStat r (commitWord true mask) st).reply st) := by
  refine congrArg Host.Outcome.next ((if_neg (by simpa [← Option.isSome_iff_ne_none] using hs)).trans ?_)
  dsimp only
  rw [wget_commitWord_mask, he]
  split
  · exact absurd rfl hst
  · rfl

theorem exec_discard_ok (he : s.commitEntry r mask.toNat = .ok) : exec (.discard r mask) s =
    .next ((({ s with shadow := s.shadow.filter (fun e => !bitOf mask.toNat (regGroup e.1)) } : State).commitStat r
      (commitWord true mask) .ok).reply .ok) := by
  refine congrArg Host.Outcome.next ((if_neg (by simpa [← Option.isSome_iff_ne_none] using hs)).trans ?_)
  dsimp only
  rw [wget_commitWord_mask, he]

/-- A first step that fails refuses both commands with its status. -/
theorem both_refused {st : Status} (he : s.commitEntry r mask.toNat = st) (hst : st ≠ .ok) :
    (∃ t, exec (.commit r mask) s = .next t ∧ CommitRefused s st t) ∧ ∃ t, exec (.discard r mask) s = .next t ∧ CommitRefused s st t := by
  refine ⟨⟨_, exec_commit_refused hs he hst, s.commitRejected_refused ..⟩, _, exec_discard_refused hs he hst, rfl, ?_, ?_⟩
  · exact (((SettingsKept.refl s).countRefusal ..).commitStat ..).reply ..
  · simp [State.commitStat]

end

/-! ### The obligation -/

theorem CommitRefused.spelled {s t : State} {st : Status} (h : CommitRefused s st t) : t.answer = ⟨st, []⟩ ∧ t.shadow = s.shadow ∧
    (∀ a, regGroup a < 6 → t.rd a = s.rd a) ∧ t.qos.inforce = s.qos.inforce :=
  ⟨h.answer, h.settings.shadow, h.settings.rd, h.inforce⟩

theorem exists_refused_spelled {s : State} {st : Status} {p : Result} (h : ∃ t, p = .next t ∧ CommitRefused s st t) :
    ∃ t, p = .next t ∧ t.answer = ⟨st, []⟩ ∧ t.shadow = s.shadow ∧ (∀ a, regGroup a < 6 → t.rd a = s.rd a) ∧
      t.qos.inforce = s.qos.inforce :=
  h.imp fun _ ⟨ht, hr⟩ => ⟨ht, hr.spelled⟩

/-- Settles O33: all that a commit writes beside its shadows lies in words of no commit group. -/
theorem commitAndDiscard : Obligations.CommitAndDiscard := by
  intro s r mask hrec
  refine ⟨fun hs hrole hl => ?_, fun hnone => ?_, fun hs hrole => ?_, fun hs hrole hl => ?_⟩
  · have he := State.commitEntry_ok hrec hrole hl
    obtain ⟨hdiscard, hregs⟩ := State.commitStat_reply { s with shadow := s.shadow.filter (fun e => !bitOf mask.toNat (regGroup e.1)) }
      r (commitWord true mask) .ok
    refine ⟨fun hok hsorted => ⟨_, (exec_commit_judged hs he).trans (congrArg _ (if_pos hok)), s.commitPassed_answer .., ?_,
      fun a v ha hg => ?_⟩, fun hbad => ⟨_, (exec_commit_judged hs he).trans (congrArg _ (if_neg hbad)), ?_,
      s.commitRejected_counted ..⟩, _, exec_discard_ok hs he, congrArg State.answer hdiscard, hdiscard, hregs⟩
    · exact (s.commitPassed_settings ..).shadow
    · rw [(s.commitPassed_settings ..).rd a (group_lt_of_legal hl.2 hg), State.rd_withShadows hsorted ha hg]
    · exact (s.commitRejected_refused ..).spelled
  · exact ⟨⟨_, exec_commit_of_no_role hnone, (s.reject_refused ..).spelled⟩, _, exec_discard_of_no_role hnone,
      (s.reject_refused ..).spelled⟩
  · exact And.imp exists_refused_spelled exists_refused_spelled (both_refused hs (State.commitEntry_ePriv hrole) (by decide))
  · exact And.imp exists_refused_spelled exists_refused_spelled (both_refused hs (State.commitEntry_eRange hrec hrole hl) (by decide))

end Sys2Proof.Machine
end

section
/-! PROOFS. A packet accepted from a partner: what taking it leaves of the stack (R218, R221, R222, R228). -/
namespace Sys2Proof.Machine

/-! ### What taking a packet leaves -/

/-- A packet taken moves the packet layer of its chain and counters: the chains' states, the settings in effect, armed injections, the
scopes of dumps and the values still to be drawn stay. -/
structure Received (s t : State) : Prop where
  frame : LinkFrame s t
  up : ∀ j, t.chainUp j = s.chainUp j
  settings : SettingsKept s t
  inj : InjKept s t
  scopes : t.pmc.scopes = s.pmc.scopes
  fresh : t.fresh = s.fresh

theorem Received.refl (s : State) : Received s s := ⟨.refl s, fun _ => rfl, .refl s, fun _ _ => rfl, rfl, rfl⟩

theorem Received.trans {s t u : State} (h : Received s t) (g : Received t u) : Received s u :=
  ⟨h.frame.trans g.frame, fun j => (g.up j).trans (h.up j), h.settings.trans g.settings, h.inj.trans g.inj, g.scopes.trans h.scopes,
    g.fresh.trans h.fresh⟩

theorem Received.setChainP (s : State) (k : Nat) (x : ChainPkt) : Received s (s.setChainP k x) :=
  ⟨⟨_, _, _, _, _, _, _, _, rfl⟩, fun _ => rfl, (SettingsKept.refl s).of_regs rfl rfl, fun _ _ => rfl, rfl, rfl⟩

theorem State.count_scopes (s : State) (ev i f : Nat) (p : Option Nat) (a b o : Nat) :
    (s.count ev i f p a b o).pmc.scopes = s.pmc.scopes := by
  have hadd : ∀ (t : State) (n i a b : Nat), (t.pmcAdd n i a b).pmc.scopes = t.pmc.scopes := fun t n i a b => by
    have hsample : ∀ (u : State) (x : SampleCtx), (u.sampleCount n i x).pmc.scopes = u.pmc.scopes := fun u x => by
      unfold State.sampleCount
      dsimp only
      repeat' split
      all_goals rfl
    unfold State.pmcAdd
    dsimp only
    split <;> simp [hsample]
  exact foldl_keeps (fun t => t.pmc.scopes) _ _ _ fun t n => hadd ..

theorem Received.count (s : State) (ev i f : Nat) (p : Option Nat) (a b o : Nat) : Received s (s.count ev i f p a b o) :=
  ⟨(State.count_countFrame ..).link, fun j => by simp [State.chainUp, State.chainL], (SettingsKept.refl s).count .., (Counted.count ..).inj,
    State.count_scopes .., by simp⟩

/-- A register of a chain's packet layer counted up. -/
theorem Received.rxPackets (s : State) (k : Fin 16) : Received s (s.inc64 (Reg.LNK_P_RX_PKTS k)) := by
  have hlow : regGroup (Reg.LNK_P_RX_PKTS k) = 6 ∧ regGroup (Reg.LNK_P_RX_PKTS k + 4) = 6 := by
    constructor <;> refine regGroup_packetLayer ?_ <;> simp only [Reg.LNK_P_RX_PKTS] <;> omega
  refine ⟨(State.inc64_countFrame ..).link, fun _ => rfl, (SettingsKept.refl s).wr64 hlow.1 hlow.2 _, (Counted.inc64 s 1 ?_ ?_).inj, rfl, rfl⟩
  all_goals
    simp only [Reg.LNK_P_RX_PKTS, Reg.ECC_INJ_CTL, Reg.ECC_INJ_ADDR]
    omega

/-- A block of the stack's own put on a chain. -/
theorem Received.emitBlock (s : State) (k : Nat) (b : RxBlock) : Received s (s.emitBlock k b) := by
  have hplace : ∀ (t : State) (n : Nat), Received t (t.placeBlocks k n) := fun t n => by
    obtain ⟨hframe, hup, -⟩ := t.placeBlocks_sent k n
    have hregs : (t.placeBlocks k n).regs = t.regs ∧ (t.placeBlocks k n).shadow = t.shadow ∧ (t.placeBlocks k n).pmc = t.pmc ∧
        (t.placeBlocks k n).fresh = t.fresh := by
      unfold State.placeBlocks
      dsimp only
      split <;> simp
    obtain ⟨hr, hs, hp, hf⟩ := hregs
    exact ⟨hframe, hup, (SettingsKept.refl t).of_regs hr hs, fun a _ => by simp only [State.rd, hr], by rw [hp], hf⟩
  have hemit : ∀ e, Received s (s.emit e) := fun e =>
    ⟨⟨_, _, _, _, _, _, _, _, rfl⟩, fun _ => rfl, (SettingsKept.refl s).of_regs rfl rfl, fun _ _ => rfl, rfl, rfl⟩
  exact (hemit _).trans (hplace ..)

theorem Received.sendAck (s : State) (k : Nat) : Received s (s.sendAck k) := by
  unfold State.sendAck
  split
  · exact (Received.setChainP ..).trans (.emitBlock ..)
  · exact .setChainP ..

theorem State.acceptPacket_received (s : State) (k : Fin 16) (p : Packet) : Received s (s.acceptPacket k p) :=
  (((Received.setChainP s k _).trans (.rxPackets _ k)).trans (.count ..)).trans (.sendAck ..)

/-! ### The packet layer after it (R221, R222) -/

theorem State.emitBlock_sent (s : State) (k : Nat) (b : RxBlock) : Sent k s (s.emitBlock k b) :=
  (s.emit_sent k _).trans (State.placeBlocks_sent ..)

theorem State.sendAck_sent (s : State) (k : Nat) : Sent k s (s.sendAck k) := by
  unfold State.sendAck
  split
  · unfold State.putAck
    refine (Sent.setChainP ?_).trans (State.emitBlock_sent ..)
    exact ⟨fun p hp => ⟨p, hp, rfl, rfl, rfl⟩, rfl, rfl, rfl⟩
  · exact .setChainP ⟨fun p hp => ⟨p, hp, rfl, rfl, rfl⟩, rfl, rfl, rfl⟩

/-- E moves on, and the totals granted to the stack stay. -/
theorem State.acceptPacket_chainP (s : State) (k : Nat) (p : Packet) :
    ((s.acceptPacket k p).chainP k).e = ((s.chainP k).e + 1) % 65536 ∧ ((s.acceptPacket k p).chainP k).granted = (s.chainP k).granted := by
  have hafter : ∀ x, Sent k (s.setChainP k x)
      (((s.setChainP k x).inc64 (Reg.LNK_P_RX_PKTS k)).count 0x09 1 k none p.lseq k |>.sendAck k) := fun x =>
    ((Sent.of_count (State.inc64_countFrame ..)).trans (.of_count (State.count_countFrame ..))).trans (State.sendAck_sent ..)
  unfold State.acceptPacket
  dsimp only
  rw [(hafter _).chain.e, (hafter _).chain.granted, State.chainP_setChainP]
  exact ⟨rfl, rfl⟩

/-! ### What requests see after it -/

section
variable {s t : State} (h : Received s t)
include h

theorem Received.mem : t.mem = s.mem := by
  obtain ⟨_, _, _, _, _, _, _, _, rfl⟩ := h.frame
  rfl

theorem Received.sec : t.sec = s.sec := by
  obtain ⟨_, _, _, _, _, _, _, _, rfl⟩ := h.frame
  rfl

theorem Received.now : t.now = s.now := by
  obtain ⟨_, _, _, _, _, _, _, _, rfl⟩ := h.frame
  rfl

theorem Received.mode : t.mode = s.mode := by
  obtain ⟨_, _, _, _, _, _, _, _, rfl⟩ := h.frame
  rfl

theorem Received.cfg : t.cfg = s.cfg := by
  obtain ⟨_, _, _, _, _, _, _, _, rfl⟩ := h.frame
  rfl

theorem Received.dmc : t.dmc = s.dmc := by
  obtain ⟨_, _, _, _, _, _, _, _, rfl⟩ := h.frame
  rfl

theorem Received.errs : t.errs = s.errs := by
  obtain ⟨_, _, _, _, _, _, _, _, rfl⟩ := h.frame
  rfl

theorem Received.cwBusy (c a : Nat) : t.cwBusy c a = s.cwBusy c a := by
  obtain ⟨_, _, _, _, _, _, _, _, rfl⟩ := h.frame
  rfl

theorem Received.place (p : Partition) (o : Nat) : t.place p o = s.place p o := by
  obtain ⟨_, _, _, _, _, _, _, _, rfl⟩ := h.frame
  rfl

theorem Received.anyLost (p : Partition) (o n : Nat) : t.anyLost p o n = s.anyLost p o n := by
  simp only [State.anyLost, h.place]

theorem Received.sessionAt (path sid : Nat) : t.sessionAt path sid = s.sessionAt path sid := by
  rw [State.sessionAt, State.sessionAt, h.sec]

theorem Received.sessionModes : t.sessionModes = s.sessionModes := by
  rw [State.sessionModes, State.sessionModes, h.mode]

theorem Received.labelClass {l : Nat} (hl : l < 256) : t.labelClass l = s.labelClass l := by
  have hword : ∀ i < 64, regGroup (Reg.QOS_LABEL i) = 0 := by decide
  have hgroup := hword (l / 4) (by omega)
  simp only [State.labelClass, State.rdN, h.settings.rd _ (by omega : regGroup (Reg.QOS_LABEL (l / 4)) < 6)]

theorem Received.accessPriv (r : Req) (write : Bool) (part off n : Nat) :
    t.accessPriv r write part off n = s.accessPriv r write part off n := by
  have hrole : t.role r = s.role r := by rw [State.role, State.role, h.sessionAt]
  have hcfg : t.fld Reg.PMC_CFG Fld.PMC_CFG_OBS_PART = s.fld Reg.PMC_CFG Fld.PMC_CFG_OBS_PART := by
    rw [State.fld, State.fld, h.settings.rd _ (by decide)]
  have hscope : ∀ role sc, t.scopeMay role sc = s.scopeMay role sc := fun role sc => by
    cases role <;> simp only [State.scopeMay, hcfg]
  simp only [State.accessPriv, State.dmpMay, hrole, hscope, h.scopes, h.cfg]

/-- A request accepted is judged as it was on its arrival (R236). -/
theorem Received.accessStatus {l : Nat} (hl : l < 256) (r : Req) (write : Bool) (part off n : Nat) :
    t.accessStatus r write l part off n = s.accessStatus r write l part off n := by
  simp only [State.accessStatus, State.unmapped, h.labelClass hl, h.accessPriv, h.sec, h.mode, h.cfg]

end

/-! ### The way to the unit that serves it (R221) -/

theorem State.receive_accepted {s : State} {k : Fin 16} {p : Packet} {reserved : Bool} (h : s.judgePacket k p reserved = .accepted)
    (late : BitVec 32) : s.receive k p reserved late = (s.acceptPacket k p).dispatchPacket k p late := by
  rw [State.receive, h]

/-- An accepted packet came on a chain that is UP, and its label is one of the 256. -/
theorem State.judgePacket_accepted {s : State} {k : Nat} {p : Packet} {reserved : Bool} (h : s.judgePacket k p reserved = .accepted) :
    s.chainUp k = true ∧ p.label < 256 := by
  by_cases hseen : (!s.takesBlocks k || !packetFits p) = true
  · rw [State.judgePacket, if_pos hseen] at h
    exact absurd h (by decide)
  · simp only [State.takesBlocks, packetFits, Bool.or_eq_true, Bool.not_eq_true', not_or, Bool.not_eq_false, Bool.and_eq_true,
      decide_eq_true_eq] at hseen
    exact ⟨hseen.1.1, hseen.2.1.1.1.2⟩

/-- An answer without data, handed to a chain that is UP. -/
theorem State.sendEmpty_leaves {s : State} {k : Nat} (h : s.chainUp k = true) (type label rid : Nat) (st : Status) :
    (s.sendEmpty k type label rid none st).mem = s.mem ∧
      (s.sendEmpty k type label rid none st).holdsPacket k type label (fragment rid st true (Config.freeNat s.fresh) []) :=
  ⟨(State.sendPacket_sent s.draw k _ true).memory.1, State.sendPacket_holds (s := s.draw) h ..⟩

end Sys2Proof.Machine
end

section
/-! PROOFS. A partner's requests answered without the memory: tags that fail, requests refused, credits, CTL requests and alerts (R227,
R236, R238, R239, R241, R418, R420). -/
namespace Sys2Proof.Machine

/-! ### What a refusal leaves -/

/-- Memory, the chains' states and the values still to be drawn stay. -/
structure AnswerKept (s t : State) : Prop where
  mem : t.mem = s.mem
  fresh : t.fresh = s.fresh
  up : ∀ j, t.chainUp j = s.chainUp j

theorem AnswerKept.of_fields {s t : State} (hm : t.mem = s.mem) (hf : t.fresh = s.fresh) (hc : t.chains = s.chains)
    (hmode : t.mode = s.mode) : AnswerKept s t := ⟨hm, hf, fun _ => by simp only [State.chainUp, State.chainL, hc, hmode]⟩

theorem AnswerKept.trans {s t u : State} (h : AnswerKept s t) (k : AnswerKept t u) : AnswerKept s u :=
  ⟨k.mem.trans h.mem, k.fresh.trans h.fresh, fun j => (k.up j).trans (h.up j)⟩

theorem Received.answerKept {s t : State} (h : Received s t) : AnswerKept s t := ⟨h.mem, h.fresh, h.up⟩

theorem State.countRefusal_answerKept (s : State) (st : Status) (a : Nat) : AnswerKept s (s.countRefusal st a) := by
  refine .of_fields ?_ ?_ ?_ ?_ <;> simp

theorem State.tagFailed_answerKept (s : State) (slot : Nat) (x : Session) (chain : Nat) : AnswerKept s (s.tagFailed slot x chain) := by
  unfold State.tagFailed
  dsimp only
  split <;> refine .of_fields ?_ ?_ ?_ ?_ <;> simp

/-- An answer without data to a request that a state refuses, on a chain that is UP. -/
theorem AnswerKept.sendEmpty {s t : State} (h : AnswerKept s t) {k : Nat} (hup : s.chainUp k = true) (type label rid : Nat) (st : Status) :
    (t.sendEmpty k type label rid none st).mem = s.mem ∧
      (t.sendEmpty k type label rid none st).holdsPacket k type label (fragment rid st true (Config.freeNat s.fresh) []) := by
  rw [← h.mem, ← h.fresh]
  exact State.sendEmpty_leaves ((h.up k).trans hup) ..

/-! ### The session check of a tagged packet (R418, R420) -/

/-- A packet that names no open session of its chain, or whose tag differs, or that is not newer than the last accepted. -/
def State.tagBad (s : State) (k : Nat) (p : Packet) : Prop := s.sessionAt k (tagSid p.payload) = none ∨
  ∃ e, s.sessionAt k (tagSid p.payload) = some e ∧ (tagOf e.2.khs p ≠ p.tag ∨ tagScnt p.payload ≤ e.2.scntIn)

theorem State.tagCheck_bad {s : State} {k : Nat} {p : Packet} (h : s.tagBad k p) :
    (s.tagCheck k p).2 = false ∧ AnswerKept s (s.tagCheck k p).1 := by
  have hreplay : AnswerKept s (s.satInc Reg.SEC_REPLAY) := by refine .of_fields ?_ ?_ ?_ ?_ <;> simp
  unfold State.tagCheck
  rcases h with h | ⟨e, h, hbad⟩ <;> rw [h] <;> dsimp only
  · exact ⟨rfl, s.countRefusal_answerKept ..⟩
  · split
    · exact ⟨rfl, (s.tagFailed_answerKept e.1 e.2 k).trans (State.countRefusal_answerKept _ .eAuth 0)⟩
    · next htag =>
      have hold : tagScnt p.payload ≤ e.2.scntIn := hbad.resolve_left (by simpa using htag)
      rw [if_pos hold]
      exact ⟨rfl, hreplay.trans (State.countRefusal_answerKept _ .eAuth 0)⟩

theorem State.tagCheck_good {s : State} {k : Nat} {p : Packet} {e : Nat × Session} (h : s.sessionAt k (tagSid p.payload) = some e)
    (ht : tagOf e.2.khs p = p.tag) (hn : e.2.scntIn < tagScnt p.payload) :
    s.tagCheck k p = (s.setSession e.1 { e.2 with scntIn := tagScnt p.payload, tLast := s.now }, true) := by
  rw [State.tagCheck, h]
  simp only [ht, bne_self_eq_false, Bool.false_eq_true, if_false, if_neg (Nat.not_le.mpr hn)]

theorem State.brdRequest_bad {s : State} {k : Fin 16} {p : Packet} (ht : p.tagged = true) (h : s.tagBad k p) :
    s.brdRequest k p = (s.tagCheck k p).1.sendEmpty k 3 p.label (leAt (packetBody p) 0 4) none .eAuth := by
  simp [State.brdRequest, State.requestCheck, ht, (State.tagCheck_bad h).1]

theorem State.bwrRequest_bad {s : State} {k : Fin 16} {p : Packet} (ht : p.tagged = true) (h : s.tagBad k p) :
    s.bwrRequest k p = (s.tagCheck k p).1.sendEmpty k 4 p.label (leAt (packetBody p) 0 4) none .eAuth := by
  simp [State.bwrRequest, State.requestCheck, ht, (State.tagCheck_bad h).1]

theorem State.brdRequest_checked {s t : State} {k : Fin 16} {p : Packet} (h : s.requestCheck k p = (t, true)) :
    s.brdRequest k p = t.serveBrd k p := by
  simp [State.brdRequest, h]

theorem State.bwrRequest_checked {s t : State} {k : Fin 16} {p : Packet} (h : s.requestCheck k p = (t, true)) :
    s.bwrRequest k p = t.serveBwr k p := by
  simp [State.bwrRequest, h]

/-- An untagged request has no tag to fail. -/
theorem State.requestCheck_untagged (s : State) (k : Nat) {p : Packet} (h : p.tagged = false) : s.requestCheck k p = (s, true) := by
  simp [State.requestCheck, h]

theorem State.requestCheck_tagged (s : State) (k : Nat) {p : Packet} (h : p.tagged = true) : s.requestCheck k p = s.tagCheck k p := by
  simp [State.requestCheck, h]

/-! ### BRD and BWR refused (R236) -/

theorem State.serveBrd_refused {s : State} {k : Fin 16} {p : Packet} {st : Status} (hp : p.tagged = false) (hst : st ≠ .ok)
    (h : s.accessStatus (packetReq k p) false p.label (leAt (packetBody p) 4 1) (brdRange (packetBody p)).1 (brdRange (packetBody p)).2 = st) :
    s.serveBrd k p = (s.countRefusal st).sendEmpty k 3 p.label (leAt (packetBody p) 0 4) none st := by
  have hsess : s.requestSession k p = none := by simp [State.requestSession, hp]
  unfold State.serveBrd
  dsimp only
  rw [h, hsess]
  split
  · exact absurd rfl hst
  · rfl

/-- What a BWR comes to before it is answered. -/
def State.bwrOutcome (s : State) (k : Fin 16) (p : Packet) : State × Status :=
  match s.accessStatus (packetReq k p) true p.label (leAt (packetBody p) 4 1) (leAt (packetBody p) 8 8) ((packetBody p).length - 16),
    Tab.look s.cfg.parts (leAt (packetBody p) 4 1) with
  | .ok, some part => s.serveWrite k p (leAt (packetBody p) 4 1) part
  | st, _ => (s.countRefusal st, st)

/-- An untagged BWR is completed without a tag, where RESP asks for it or it failed. -/
theorem State.serveBwr_eq (s : State) (k : Fin 16) {p : Packet} (hp : p.tagged = false) : s.serveBwr k p =
    if leAt (packetBody p) 5 1 = 1 ∨ (s.bwrOutcome k p).2 ≠ .ok then
      (s.bwrOutcome k p).1.sendEmpty k 4 p.label (leAt (packetBody p) 0 4) none (s.bwrOutcome k p).2
    else (s.bwrOutcome k p).1 := by
  have hsess : s.requestSession k p = none := by simp [State.requestSession, hp]
  rw [← hsess]
  rfl

theorem State.bwrOutcome_refused {s : State} {k : Fin 16} {p : Packet} {st : Status} (hst : st ≠ .ok)
    (h : s.accessStatus (packetReq k p) true p.label (leAt (packetBody p) 4 1) (leAt (packetBody p) 8 8)
      ((packetBody p).length - 16) = st) : s.bwrOutcome k p = (s.countRefusal st, st) := by
  rw [State.bwrOutcome, h]
  split
  · exact absurd rfl hst
  · rfl

theorem State.serveBwr_refused {s : State} {k : Fin 16} {p : Packet} {st : Status} (hp : p.tagged = false) (hst : st ≠ .ok)
    (h : s.accessStatus (packetReq k p) true p.label (leAt (packetBody p) 4 1) (leAt (packetBody p) 8 8)
      ((packetBody p).length - 16) = st) :
    s.serveBwr k p = (s.countRefusal st).sendEmpty k 4 p.label (leAt (packetBody p) 0 4) none st := by
  rw [s.serveBwr_eq k hp, State.bwrOutcome_refused hst h]
  exact if_pos (.inr hst)

/-! ### Credits from the partner (R227) -/

/-- Grants taken replace the totals granted, and leave E. -/
theorem State.takeGrants_chainP (s : State) (k : Nat) (b : List Byte) : ((s.takeGrants k b).chainP k).e = (s.chainP k).e ∧
    ((s.takeGrants k b).chainP k).granted =
      (grants b).foldl (fun t g => if g.1 ≤ 32 then Tab.put t g.1 g.2 else t) (s.chainP k).granted := by
  unfold State.takeGrants
  have hsent := State.pump_sent (s.setChainP k { s.chainP k with
    granted := (grants b).foldl (fun t g => if g.1 ≤ 32 then Tab.put t g.1 g.2 else t) (s.chainP k).granted }) k
  rw [hsent.chain.e, hsent.chain.granted, State.chainP_setChainP]
  exact ⟨rfl, rfl⟩

/-! ### CTL requests (R238, R239) -/

/-- A CTL request's credits stand owed until its response is sent. -/
def State.ctlOwing (s : State) (k : Nat) (p : Packet) : State :=
  s.setChainP k { s.chainP k with ctlOwed := (s.chainP k).ctlOwed ++ [pktCost p] }

theorem State.ctlOwing_received (s : State) (k : Nat) (p : Packet) : Received s (s.ctlOwing k p) := .setChainP ..

theorem State.ctlRequest_bad {s : State} {k : Fin 16} {p : Packet} (ht : p.tagged = true) (h : (s.ctlOwing k p).tagBad k p)
    (late : BitVec 32) : s.ctlRequest k p late = ((s.ctlOwing k p).tagCheck k p).1.sendPacket k
      (newPacket 5 0 (ctlResponse (packetBody p) .eAuth [] 0)) := by
  have hbad := (State.tagCheck_bad h).1
  unfold State.ctlOwing at hbad ⊢
  simp only [State.ctlRequest, State.requestCheck, ht, if_true, hbad, Bool.false_eq_true, if_false, State.answerWith]

/-- What is served for a CTL request whose session check leaves a state. -/
def State.ctlServed (v : State) (k : Fin 16) (p : Packet) (late : BitVec 32) : State × List Byte :=
  (v.servingFor (v.requestSession k p)).ctlServe (packetReq k p) p.tagged v.sessionModes (packetBody p) late

theorem State.ctlRequest_answered {s v : State} {k : Fin 16} {p : Packet} (h : (s.ctlOwing k p).requestCheck k p = (v, true))
    {late : BitVec 32} (he : (v.ctlServed k p late).1.enrolBegun v (.chain k (packetBody p)) = none) : s.ctlRequest k p late =
      ((v.ctlServed k p late).1.answerWith k (v.requestSession k p) (newPacket 5 0 (v.ctlServed k p late).2)).servingDone := by
  unfold State.ctlOwing at h
  unfold State.ctlServed at he ⊢
  simp only [State.ctlRequest, h, if_true, he]

/-- No ENROLL in progress after a request: it has begun none. -/
theorem State.enrolBegun_of_none {after : State} (h : after.sec.enrol = none) (before : State) (via : EnrolVia) :
    after.enrolBegun before via = none := by
  unfold State.enrolBegun
  rw [h]
  split
  · next h2 => exact absurd h2 (by simp)
  · rfl

/-- An ENROLL in progress before a request: it begins none. -/
theorem State.enrolBegun_of_same {after before : State} (h : after.sec.enrol = before.sec.enrol) (via : EnrolVia) :
    after.enrolBegun before via = none := by
  unfold State.enrolBegun
  rw [h]
  split
  · next h1 h2 => exact absurd (h1.symm.trans h2) (by simp)
  · rfl

/-! ### An untagged request begins no ENROLL (R408, R412) -/

/-- SID 0 is no session's. -/
theorem State.role_of_sid_zero (s : State) {r : Req} (h : r.sid = 0) : s.role r = none := by
  simp [State.role, State.sessionAt, h]

theorem State.opNonce_enrol (s : State) (r : Req) : (s.opNonce r).sec.enrol = s.sec.enrol := by
  unfold State.opNonce
  split
  · rw [(s.issueNonce_leaves r.path.num).2.2]
  · rw [State.sessionReply_sec]

theorem State.openFailed_enrol (s : State) (path : Nat) : (s.openFailed path).sec.enrol = s.sec.enrol := rfl

theorem State.openSession_enrol (s : State) (r : Req) (ext key : List Byte) : (s.openSession r ext key).sec.enrol = s.sec.enrol := by
  simp [State.openSession]

theorem State.opOpen_enrol (s : State) (r : Req) (ext : List Byte) : (s.opOpen r ext).sec.enrol = s.sec.enrol := by
  obtain ⟨pk, n, hopening⟩ := s.opening_eq r ext
  rw [State.opening] at hopening
  unfold State.opOpen
  split
  · dsimp only
    rw [hopening]
    split
    · rw [State.openSession_enrol]
    · rw [State.sessionReply_sec, State.openFailed_enrol]
  · rw [State.sessionReply_sec]

theorem State.endSessions_enrol (s : State) (p : Session → Bool) : (s.endSessions p).sec.enrol = s.sec.enrol := rfl

theorem State.opClose_enrol (s : State) (r : Req) : (s.opClose r).sec.enrol = s.sec.enrol := by
  unfold State.opClose
  split <;> rw [State.sessionReply_sec]
  exact s.endSessions_enrol _

theorem State.opEvict_enrol (s : State) (r : Req) (ext : List Byte) : (s.opEvict r ext).sec.enrol = s.sec.enrol := by
  unfold State.opEvict
  dsimp only
  split <;> rw [State.sessionReply_sec]
  rfl

theorem State.opIdentity_enrol (s : State) (r : Req) : (s.opIdentity r).sec.enrol = s.sec.enrol := by
  unfold State.opIdentity
  split <;> rw [State.sessionReply_sec]

theorem State.opAttest_enrol (s : State) (r : Req) (n : List Byte) : (s.opAttest r n).sec.enrol = s.sec.enrol := by
  unfold State.opAttest
  split
  · dsimp only
    rw [State.sessionReply_sec]
    rfl
  · rw [State.sessionReply_sec]

theorem State.opEnroll_enrol (s : State) {r : Req} (h : r.sid = 0) : (s.opEnroll r).sec.enrol = s.sec.enrol := by
  have hrefused : s.opEnroll r = s.sessionReply .eAuth := by
    rw [State.opEnroll, s.role_of_sid_zero h]
    rfl
  rw [hrefused, State.sessionReply_sec]

theorem State.sessionOp_enrol (s : State) {r : Req} (h : r.sid = 0) (op : Nat) (ext : List Byte) :
    (s.sessionOp r op ext).sec.enrol = s.sec.enrol := by
  unfold State.sessionOp
  split
  · exact s.opNonce_enrol r
  · exact s.opOpen_enrol r ext
  · exact s.opClose_enrol r
  · exact s.opIdentity_enrol r
  · exact s.opAttest_enrol r ext
  · exact s.opEnroll_enrol h
  · exact s.opEvict_enrol r ext
  · rw [State.sessionReply_sec]

theorem State.runSessionOp_enrol (s : State) {r : Req} (h : r.sid = 0) (slot ext : List Byte) (late : Bool) :
    (s.runSessionOp r slot ext late).st.sec.enrol = s.sec.enrol := by
  change (s.sessionChecked r (leAt slot 0 1) slot ext late).sec.enrol = s.sec.enrol
  unfold State.sessionChecked
  split
  · rw [State.sessionReply_sec]
  · split
    · rw [State.sessionReply_sec]
    · split
      · rw [State.sessionReply_sec]
      · exact s.sessionOp_enrol h ..

theorem State.busRead_sec (s : State) (r : Req) (a : Nat) : (s.busRead r a).1.sec = s.sec := by
  have hlatch : ∀ e v, (s.draw.latch r e v).sec = s.sec := fun e v => by
    unfold State.latch
    split <;> rfl
  unfold State.busRead
  split
  · rfl
  · dsimp only
    split
    · rfl
    · split
      · exact hlatch ..
      · split <;> rfl

theorem State.readOne_sec (s : State) (r : Req) (a size : Nat) (late : Bool) : (s.readOne r a size late).1.sec = s.sec := by
  unfold State.readOne
  dsimp only
  split
  · simp
  · split
    · rw [State.busRead_sec, State.busRead_sec]
    · exact s.busRead_sec ..

theorem State.regRead_sec (s : State) (r : Req) (a size : Nat) (late : Bool) : (s.regRead r a size late).1.sec = s.sec := by
  unfold State.regRead
  dsimp only
  split
  · split
    · exact s.readOne_sec ..
    · rw [State.readOne_sec, State.readOne_sec]
  · exact s.readOne_sec ..

theorem State.runOp_enrol (s : State) {r : Req} (h : r.sid = 0) {slot : List Byte} (hop : untaggedOp slot = true) (ext : List Byte)
    (late : Bool) : (s.runOp r slot ext late).st.sec.enrol = s.sec.enrol := by
  unfold State.runOp
  dsimp only
  split
  · exact s.runSessionOp_enrol h ..
  · next hop2 =>
    have hread : leAt slot 0 1 = 1 := by
      simp only [untaggedOp, Bool.or_eq_true, beq_iff_eq, hop2, false_or, Bool.and_eq_true] at hop
      exact hop.1.1
    split
    · rfl
    · simp only [State.regRead_sec]

theorem State.runOps_enrol {r : Req} (h : r.sid = 0) (stop : Bool) {l : List (List Byte × List Byte)}
    (hl : ∀ e ∈ l, untaggedOp e.1 = true) (s : State) (late : BitVec 32) : (s.runOps r stop late l).1.sec.enrol = s.sec.enrol := by
  induction l generalizing s late with
  | nil => rfl
  | cons e l ih =>
    have hop := s.runOp_enrol h (hl e List.mem_cons_self) e.2 (late.getLsbD 0)
    rw [State.runOps]
    dsimp only
    split
    · exact hop
    · exact (ih (fun e he => hl e (List.mem_cons_of_mem _ he)) _ _).trans hop

/-- An untagged request, of no session, begins no ENROLL. -/
theorem State.ctlServe_enrol (s : State) {r : Req} (h : r.sid = 0) (modeOk : Bool) (body : List Byte) (late : BitVec 32) :
    (s.ctlServe r false modeOk body late).1.sec.enrol = s.sec.enrol := by
  unfold State.ctlServe
  dsimp only
  split
  · next hok =>
    have hall := firstStatus_ok hok (by simp)
    simp only [List.forall_mem_cons, Bool.not_false, Bool.true_and, Bool.not_eq_false', List.all_eq_true] at hall
    exact State.runOps_enrol h _ hall.2.2.1 _ _
  · simp

theorem State.ctlServed_untagged_enrol (v : State) (k : Fin 16) {p : Packet} (h : p.tagged = false) (late : BitVec 32) :
    (v.ctlServed k p late).1.sec.enrol = v.sec.enrol := by
  rw [State.ctlServed, h]
  exact State.ctlServe_enrol _ (by simp [packetReq, h]) ..

/-! ### Alerts (R241) -/

theorem exec_alertSend_goes {s : State} {k : Fin 16} (hg : s.alertsGo k = true) (hr : s.alertRoom k = true) (ha : (s.chainP k).alerts ≠ []) :
    exec (.alertSend k) s = .next ((s.setChainP k { s.chainP k with alerts := (s.chainP k).alerts.drop 18 }).sendPacket k
      (newPacket 6 0 (((s.chainP k).alerts.take 18).flatMap Alert.bytes))) :=
  if_pos (by simpa [hg, hr] using ha)

theorem exec_alertSend_stays {s : State} {k : Fin 16} (h : s.alertsGo k = false ∨ s.alertRoom k = false ∨ (s.chainP k).alerts = []) :
    exec (.alertSend k) s = .next s := by
  refine if_neg fun hall => ?_
  simp only [Bool.and_eq_true] at hall
  rcases h with h | h | h <;> simp [h] at hall

end Sys2Proof.Machine
end

section
/-! PROOFS. What runs in the memory leaves the chains as they are: commands, reports, the merge buffer, requests that wait and legs that
end (R255 to R257, R284 to R296, R312). -/
namespace Sys2Proof.Machine

theorem foldl_chains {α : Type} {f : State → α → State} (h : ∀ t x, (f t x).chains = t.chains) (l : List α) (s : State) :
    (l.foldl f s).chains = s.chains := foldl_keeps State.chains f l s h

theorem Counted.chains {s t : State} (h : Counted s t) : t.chains = s.chains := by
  obtain ⟨⟨r, p, q, rfl⟩, -⟩ := h
  rfl

theorem Issued.chains {c : Nat} {s t : State} (h : Issued c s t) : t.chains = s.chains := by
  obtain ⟨r, p, q, d, n, rfl⟩ := h.rest
  rfl

/-! ### Commands and reports -/

@[simp] theorem State.command_chains (s : State) (c : Nat) (k : DramCmd) : (s.command c k).chains = s.chains :=
  (Issued.command s c k).chains

@[simp] theorem State.column_chains (s : State) (c : Nat) (k : DramCmd) : (s.column c k).chains = s.chains :=
  (Issued.column s c k).chains

@[simp] theorem State.countCw_chains (s : State) (ev c a : Nat) (part : Option (Nat × Nat)) (inPart : Bool) :
    (s.countCw ev c a part inPart).chains = s.chains := (Counted.countCw s ev c a part inPart).chains

@[simp] theorem State.latchEcc_chains (s : State) (c a : Nat) (cls : EccClass) (l : SymErr) (src : Nat) :
    (s.latchEcc c a cls l src).chains = s.chains := by
  simp [State.latchEcc]

@[simp] theorem State.queueLeg_chains (s : State) (c b : Nat) : (s.queueLeg c b).chains = s.chains := by
  unfold State.queueLeg
  dsimp only
  split
  · rfl
  · simp

@[simp] theorem State.candidate_chains (s : State) (c a : Nat) : (s.candidate c a).chains = s.chains := by
  simp [State.candidate]

@[simp] theorem State.countHot_chains (s : State) (c : Nat) (l : SymErr) : (s.countHot c l).chains = s.chains := by
  simp [State.countHot]

@[simp] theorem State.countMismatch_chains (s : State) (c : Nat) (b : Bool) : (s.countMismatch c b).chains = s.chains := by
  simp [State.countMismatch]

@[simp] theorem State.reportEcc_chains (s : State) (c a : Nat) (cls : EccClass) (l : SymErr) (src : Nat) (part : Option (Nat × Nat)) :
    (s.reportEcc c a cls l src part).chains = s.chains := by
  cases cls <;> simp [State.reportEcc, State.holdChannel]

@[simp] theorem State.transientMismatch_chains (s : State) (c a : Nat) (l : SymErr) (src : Nat) :
    (s.transientMismatch c a l src).chains = s.chains := by
  simp [State.transientMismatch]

/-! ### Writes and reads of the array -/

@[simp] theorem State.storeCmd_chains (s : State) (c a : Nat) (d : BitVec 512) (e : SymErr) : (s.storeCmd c a d e).chains = s.chains := by
  rw [State.storeCmd_eq]
  exact (s.writeIssued_issued c a d e).chains

@[simp] theorem State.poisonWrite_chains (s : State) (c a : Nat) : (s.poisonWrite c a).chains = s.chains := by
  simp [State.poisonWrite]

@[simp] theorem State.issueWrite_chains (s : State) (c a : Nat) (d : BitVec 512) (part : Option (Nat × Nat)) :
    (s.issueWrite c a d part).chains = s.chains := by
  unfold State.issueWrite
  dsimp only
  split <;> simp

/-- What a read of the array leaves once its class is known. -/
theorem State.arrayRead_chains (s : State) (c a : Nat) (errs : ReadErrs) (src : Nat) (part : Option (Nat × Nat)) :
    (s.arrayRead c a errs src part).st.chains = s.chains := by
  unfold State.arrayRead
  dsimp only
  split
  all_goals
    split
    all_goals repeat' split
    all_goals simp [State.addWb]

/-! ### The merge buffer -/

@[simp] theorem State.charge_chains (s : State) (n b : Nat) : (s.charge n b).1.chains = s.chains := (Counted.charge s n b).chains

@[simp] theorem State.freeMerge_chains (s : State) (c a : Nat) : (s.freeMerge c a).chains = s.chains := rfl

theorem State.rmw_chains (s : State) (c : Nat) (e : MergeEntry) (errs : ReadErrs) (part : Option (Nat × Nat)) :
    (s.rmw c e errs part).st.chains = s.chains := by
  have htaken : (s.rmwTaken c e (trafficPart e.cls part)).chains = s.chains := (s.rmwTaken_counted c e _).chains
  have hread := (s.rmwTaken c e (trafficPart e.cls part)).arrayRead_chains c e.addr errs 1 (trafficPart e.cls part)
  rw [htaken] at hread
  unfold State.rmwTaken at hread
  dsimp only at hread
  unfold State.rmw
  dsimp only
  repeat' split
  all_goals simp [hread]

theorem State.drainMerge_chains (c n : Nat) (s : State) : (s.drainMerge c n).chains = s.chains := by
  induction n generalizing s with
  | zero => rfl
  | succ n ih =>
    unfold State.drainMerge
    split
    · rfl
    · split
      · rfl
      · rw [ih, State.rmw_chains]

theorem State.applyWrite_chains (s : State) (c a : Nat) (d : BitVec 512) (w : BitVec 64) (cls paid : Nat) (part : Option (Nat × Nat)) :
    (s.applyWrite c a d w cls paid part).chains = s.chains := by
  unfold State.applyWrite
  dsimp only
  split
  · simp
  · split
    · split <;> simp
    · split
      · rw [State.drainMerge_chains]
        simp
      · simp

/-! ### Requests -/

theorem State.askChan_chains (s : State) (c a cls : Nat) (conf : Bool) (since : Nat) (op : ReqOp) :
    (s.askChan c a cls conf since op).chains = s.chains := by
  unfold State.askChan
  dsimp only
  obtain ⟨m, hm⟩ := State.promote_dmc c (List.length ((s.setChan c { s.chan c with arb := (s.chan c).arb ++
    [⟨s.dmc.reqSeq, a, cls, conf, since, op, none⟩] }).chan c).arb) _
  rw [hm]
  rfl

theorem State.askWrite_chains (s : State) (c a cls : Nat) (conf : Bool) (since : Nat) (d : BitVec 512) (w : BitVec 64) :
    (s.askWrite c a cls conf since d w).chains = s.chains := by
  unfold State.askWrite
  split
  · simp
  · exact s.askChan_chains ..

theorem State.readCw_chains (s : State) (c a n : Nat) (errs : ReadErrs) (part : Option (Nat × Nat)) :
    (s.readCw c a n errs part).st.chains = s.chains := by
  unfold State.readCw
  split
  · rfl
  · split
    · split
      · rfl
      · exact s.rmw_chains ..
    · exact s.arrayRead_chains ..

theorem State.writeOrWait_chains (s : State) (c a : Nat) (d : BitVec 512) (w : BitVec 64) (cls : Nat) (conf : Bool) (since : Nat)
    (part : Option (Nat × Nat)) : (s.writeOrWait c a d w cls conf since part).chains = s.chains := by
  unfold State.writeOrWait
  split
  · exact s.askWrite_chains ..
  · rw [(Issued.sentFor ..).chains, (Counted.latServed ..).chains, State.applyWrite_chains]

/-! ### Runs of a partition -/

theorem State.writeRun_chains (pi : Nat) (p : Partition) (cls : Nat) (conf : Bool) (n : Nat) (s : State) (o : Nat) (l : List Byte) :
    (s.writeRun pi p o l cls conf n).chains = s.chains := by
  induction n generalizing s o l with
  | zero => rfl
  | succ n ih =>
    unfold State.writeRun
    dsimp only
    split
    · rfl
    · rw [ih]
      split
      · exact s.writeOrWait_chains ..
      · rfl

theorem State.gather_chains (j : BrdJob) (p : Partition) (id cls n : Nat) (s : State) (i o : Nat) :
    (s.gather j p id cls i o n).1.chains = s.chains := by
  induction n generalizing s i o with
  | zero => rfl
  | succ n ih =>
    unfold State.gather
    dsimp only
    rw [ih]
    split
    · split
      · exact s.askChan_chains ..
      · exact s.readCw_chains ..
    · rfl

theorem State.gather_length (j : BrdJob) (p : Partition) (id cls n : Nat) (s : State) (i o : Nat) :
    (s.gather j p id cls i o n).2.length = n := by
  induction n generalizing s i o with
  | zero => rfl
  | succ n ih =>
    unfold State.gather
    dsimp only
    rw [List.length_cons, ih]

/-! ### Legs that end early -/

theorem State.legStops_chains (s : State) (l : Leg) : (s.legStops l).chains = s.chains := by
  unfold State.legStops
  dsimp only
  repeat' split
  all_goals simp

theorem State.legPart_chains (s : State) (b : Nat) : (s.legPart b).chains = s.chains := by
  unfold State.legPart State.legTraffic
  split
  · rfl
  · exact (Counted.served ..).chains

theorem State.preempt_chains (s : State) (l : Leg) : (s.preempt l).chains = s.chains := by
  have hrerun : ∀ (t : State) (b : Nat), (t.rerunLeg b).chains = t.chains := fun t b => by
    unfold State.rerunLeg
    dsimp only
    repeat' split
    all_goals simp
  have hrun : ∀ (t : State) (b n : Nat), (t.setPreRun b n).chains = t.chains := fun t b n => by
    unfold State.setPreRun
    dsimp only
    split <;> simp
  unfold State.preempt
  dsimp only
  rw [hrerun]
  simp only [hrun, State.satInc_keeps, State.legPart_chains, State.legStops_chains]

theorem State.preemptCws_chains (p : Partition) (n : Nat) (s : State) (o : Nat) : (s.preemptCws p o n).chains = s.chains := by
  have hbank : ∀ (t : State) (c a : Nat), (t.preemptBank c a).chains = t.chains := fun t c a => by
    unfold State.preemptBank
    split
    · rfl
    · split
      · exact t.preempt_chains _
      · rfl
  induction n generalizing s o with
  | zero => rfl
  | succ n ih =>
    unfold State.preemptCws
    dsimp only
    rw [ih]
    split
    · exact hbank ..
    · rfl

theorem State.reachBanks_chains (s : State) (rt : Bool) (p : Partition) (o n : Nat) : (s.reachBanks rt p o n).chains = s.chains := by
  unfold State.reachBanks
  split
  · exact State.preemptCws_chains ..
  · rfl

end Sys2Proof.Machine
end

section
/-! PROOFS. BRD and BWR admitted: the fragments of a response, and what a write leaves (R234 to R236, R287). -/
namespace Sys2Proof.Machine

/-! ### Fragments (R234) -/

theorem State.sendFragments_sent (k label rid : Nat) (st : Status) (conf : Bool) (l : List (List Byte)) (s : State) (off : Nat) :
    Sent k s (s.sendFragments k label rid none st conf off l) := by
  induction l generalizing s off with
  | nil => exact .refl k s
  | cons d l ih => exact (s.sendPacket_sent k _ conf).trans (ih _ _)

theorem chunks_eq_nil {α : Type} {n k : Nat} {l : List α} (h : l.length ≤ n * k) : chunks n k l = [] ↔ l = [] := by
  cases k with
  | zero => simpa [chunks] using h
  | succ k => cases l <;> simp [chunks]

/-- Data cut into fragments of `n` bytes: each is handed to the chain with its offset, and LAST on the last. -/
theorem State.sendFragments_holds {k : Nat} (n label rid : Nat) (st : Status) (conf : Bool) (m : Nat) {s : State} (hup : s.chainUp k = true)
    (off : Nat) {l : List Byte} (hl : l.length ≤ n * m) {i : Nat} (hi : n * i < l.length) :
    (s.sendFragments k label rid none st conf off (chunks n m l)).holdsPacket k 3 label
      (fragment rid st (decide (l.length ≤ n * (i + 1))) (off + n * i) ((l.drop (n * i)).take n)) := by
  induction m generalizing s off l i with
  | zero => omega
  | succ m ih =>
    have hne : l ≠ [] := fun h => by simp [h] at hi
    have hrest : (l.drop n).length ≤ n * m := by
      rw [List.length_drop]
      have : n * (m + 1) = n * m + n := Nat.mul_succ n m
      omega
    have hchunks : chunks n (m + 1) l = l.take n :: chunks n m (l.drop n) := by simp [chunks, hne]
    have hlast : (chunks n m (l.drop n)).isEmpty = decide (l.length ≤ n) := by
      have hnil := (chunks_eq_nil hrest).trans List.drop_eq_nil_iff
      by_cases h : l.length ≤ n
      · rw [hnil.mpr h, decide_eq_true h, List.isEmpty_nil]
      · rw [decide_eq_false h, List.isEmpty_eq_false_iff]
        exact fun h0 => h (hnil.mp h0)
    have hsent := s.sendPacket_sent k (newPacket 3 label (fragment rid st (decide (l.length ≤ n)) off (l.take n))) conf
    rw [hchunks, State.sendFragments, hlast]
    cases i with
    | zero =>
      simp only [Nat.mul_zero, Nat.zero_add, Nat.mul_one, Nat.add_zero, List.drop_zero]
      exact (State.sendFragments_sent ..).holdsPacket (State.sendPacket_holds hup ..)
    | succ i =>
      have hmul : n * (i + 1) = n * i + n := Nat.mul_succ n i
      have hmul2 : n * (i + 1 + 1) = n * (i + 1) + n := Nat.mul_succ n (i + 1)
      have htake : (l.take n).length = n := by
        rw [List.length_take]
        omega
      have hnext := ih (s := s.sendPacket k (newPacket 3 label (fragment rid st (decide (l.length ≤ n)) off (l.take n))) conf)
        ((hsent.up k).trans hup) (off + (l.take n).length) hrest (i := i) (by rw [List.length_drop]; omega)
      rw [htake, List.drop_drop, List.length_drop] at hnext
      have hoff : off + n * (i + 1) = off + n + n * i := by omega
      have hdrop : n * (i + 1) = n + n * i := by omega
      have hend : decide (l.length ≤ n * (i + 1 + 1)) = decide (l.length - n ≤ n * (i + 1)) := by
        rw [decide_eq_decide]
        omega
      rw [hend, hoff, hdrop]
      rw [hdrop] at hnext
      rw [htake]
      exact hnext

/-! ### BRD (R234, R236) -/

theorem JobCw.length_flatMap_bytes (l : List JobCw) : (l.flatMap JobCw.bytes).length = 64 * l.length := by
  have hcw : ∀ w : JobCw, w.bytes.length = 64 := fun w => by
    cases w <;> simp [JobCw.bytes, length_dataBytes]
  induction l with
  | nil => rfl
  | cons w l ih => rw [List.flatMap_cons, List.length_append, hcw, ih, List.length_cons, Nat.mul_succ, Nat.add_comm]

/-- The codewords of a BRD of a range, as they are read or wait. -/
def State.brdGathered (s : State) (j : BrdJob) (p : Partition) (cls : Nat) (r : Nat × Nat) : State × List JobCw :=
  ({ s with dmc := { s.dmc with nextJob := s.dmc.nextJob + 1 } } : State).gather j p s.dmc.nextJob cls 0 (r.1 / 64 * 64)
    ((r.1 + r.2 - 1) / 64 + 1 - r.1 / 64)

section
variable {s : State} {j : BrdJob} {p : Partition} {cls : Nat} {b : List Byte} (hb : packetBody j.pkt = b)
include hb

/-- A BRD with a codeword that waits is in progress. -/
theorem State.startBrd_waits (h : (s.brdGathered j p cls (brdRange b)).2.any (fun w => w == .waits) = true) : s.startBrd j p cls =
    { (s.brdGathered j p cls (brdRange b)).1 with dmc := { (s.brdGathered j p cls (brdRange b)).1.dmc with
      jobs := Tab.put (s.brdGathered j p cls (brdRange b)).1.dmc.jobs s.dmc.nextJob
        { j with cws := (s.brdGathered j p cls (brdRange b)).2 } } } := by
  subst hb
  exact if_pos h

theorem State.startBrd_read (h : (s.brdGathered j p cls (brdRange b)).2.any (fun w => w == .waits) = false) : s.startBrd j p cls =
    (s.brdGathered j p cls (brdRange b)).1.answerBrd { j with cws := (s.brdGathered j p cls (brdRange b)).2 } := by
  subst hb
  exact if_neg (Bool.eq_false_iff.mp h)

end

/-- A chain is UP after what the memory did where it was before. -/
theorem State.chainUp_of_kept {s t : State} (hm : t.mode = s.mode) (hc : t.chains = s.chains) (k : Nat) : t.chainUp k = s.chainUp k := by
  simp only [State.chainUp, State.chainL, hm, hc]

theorem State.brdGathered_up (s : State) (j : BrdJob) (p : Partition) (cls : Nat) (r : Nat × Nat) (k : Nat) :
    (s.brdGathered j p cls r).1.chainUp k = s.chainUp k :=
  State.chainUp_of_kept (by simp) (State.gather_chains ..) k

/-! ### Traffic of a chain (R162, R312) -/

/-- The charge of a chain's traffic: off the class's chains it does not conform. -/
def State.chainCharged (s : State) (k cls n : Nat) : State × Bool :=
  if cls = 0 ∨ bitOf (s.classChains cls) k then s.charge cls n else (s.stray cls false, false)

theorem State.chainCharged_counted (s : State) (k cls n : Nat) : Counted s (s.chainCharged k cls n).1 := by
  unfold State.chainCharged
  split
  · exact .charge ..
  · exact .stray ..

theorem State.chainTraffic_eq (s : State) (k cls label : Nat) (p : Partition) (o n : Nat) : s.chainTraffic k cls label p o n =
    ((((s.chainCharged k cls n).1.reachBanks (s.realTime cls 0 (s.chainCharged k cls n).2) p o n).served cls n
      (s.chainCharged k cls n).2 (some label)), (s.chainCharged k cls n).2) := rfl

theorem Counted.servedLabel (s : State) (n bytes : Nat) (conf : Bool) (label : Option Nat) : Counted s (s.served n bytes conf label) := by
  have hbytes : Counted s (s.inc64 (Reg.QOS_C_BYTES n) bytes) := by
    apply Counted.inc64 <;> simp only [Reg.QOS_C_BYTES, Reg.ECC_INJ_CTL, Reg.ECC_INJ_ADDR] <;> omega
  unfold State.served
  dsimp only
  split
  · exact .refl s
  · split
    · exact (hbytes.trans (.count ..)).trans (.count ..)
    · exact hbytes.trans (.count ..)

theorem State.chainTraffic_up (s : State) (k cls label : Nat) (p : Partition) (o n j : Nat) :
    (s.chainTraffic k cls label p o n).1.chainUp j = s.chainUp j := by
  have hcharged := s.chainCharged_counted k cls n
  have hmode : (s.chainCharged k cls n).1.mode = s.mode := by
    obtain ⟨_, _, _, hc⟩ := hcharged.frame
    rw [hc]
  rw [State.chainTraffic_eq]
  refine State.chainUp_of_kept (by simp [hmode]) ?_ j
  rw [(Counted.servedLabel ..).chains, State.reachBanks_chains, hcharged.chains]

/-! ### BRD served -/

theorem State.serveBrd_ok {s : State} {k : Fin 16} {p : Packet} {part : Partition} (hp : p.tagged = false)
    (hl : Tab.look s.cfg.parts (leAt (packetBody p) 4 1) = some part)
    (h : s.accessStatus (packetReq k p) false p.label (leAt (packetBody p) 4 1) (brdRange (packetBody p)).1 (brdRange (packetBody p)).2 = .ok) :
    s.serveBrd k p = s.serveRead k p none (leAt (packetBody p) 4 1) part := by
  have hsess : s.requestSession k p = none := by simp [State.requestSession, hp]
  unfold State.serveBrd
  dsimp only
  rw [h, hl, hsess]

/-- The length a BRD names: whole 8 bytes, and no more than 64 KiB. -/
theorem brdRange_length (b : List Byte) : 0 < (brdRange b).2 ∧ (brdRange b).2 ≤ 65536 := by
  simp only [brdRange]
  omega

/-- A BRD whose codewords are gathered is answered in fragments of 560 bytes. -/
theorem State.answerBrd_holds {s : State} {j : BrdJob} {b : List Byte} (hb : packetBody j.pkt = b) (hup : s.chainUp j.chain = true)
    (hs : j.sess = none) (hcws : j.cws.length = ((brdRange b).1 + (brdRange b).2 - 1) / 64 + 1 - (brdRange b).1 / 64) {i : Nat}
    (hi : i < ((brdRange b).2 + 559) / 560) : (s.answerBrd j).holdsPacket j.chain 3 j.pkt.label (fragment (leAt b 0 4)
      (if j.cws.any (fun w => w == .bad) then .eIntegrity else .ok) (decide ((brdRange b).2 ≤ 560 * (i + 1))) ((brdRange b).1 + 560 * i)
      (((((j.cws.flatMap JobCw.bytes).drop ((brdRange b).1 % 64)).take (brdRange b).2).drop (560 * i)).take 560)) := by
  obtain ⟨hpos, hmax⟩ := brdRange_length b
  have hlen : (((j.cws.flatMap JobCw.bytes).drop ((brdRange b).1 % 64)).take (brdRange b).2).length = (brdRange b).2 := by
    rw [List.length_take, List.length_drop, JobCw.length_flatMap_bytes, hcws]
    omega
  have hcount : ∀ (u : State) (ev i f : Nat) (q : Option Nat) (a b o : Nat), (u.count ev i f q a b o).chainUp j.chain = u.chainUp j.chain :=
    fun u ev i f q a b o => State.chainUp_of_kept (by simp) (by simp) _
  have hfragment := fun (u : State) (hu : u.chainUp j.chain = true) => State.sendFragments_holds 560 j.pkt.label (leAt b 0 4)
    (if j.cws.any (fun w => w == .bad) then .eIntegrity else .ok) j.conf 118 hu (brdRange b).1 (hlen.le.trans (by omega)) (i := i)
    (by rw [hlen]; omega)
  rw [hlen] at hfragment
  unfold State.answerBrd
  simp only [hb, hs, Option.isSome_none, Bool.false_eq_true, if_false]
  exact hfragment _ ((hcount ..).trans hup)

/-! ### BWR served (R235, R236) -/

theorem State.bwrOutcome_ok {s : State} {k : Fin 16} {p : Packet} {part : Partition}
    (hl : Tab.look s.cfg.parts (leAt (packetBody p) 4 1) = some part)
    (h : s.accessStatus (packetReq k p) true p.label (leAt (packetBody p) 4 1) (leAt (packetBody p) 8 8) ((packetBody p).length - 16) = .ok) :
    s.bwrOutcome k p = s.serveWrite k p (leAt (packetBody p) 4 1) part := by
  rw [State.bwrOutcome, h, hl]

theorem State.serveWrite_lost {s : State} {k : Nat} {p : Packet} {pi : Nat} {part : Partition}
    (h : s.anyLost part (leAt (packetBody p) 8 8) ((packetBody p).length - 16) = true) : s.serveWrite k p pi part = (s, .eIntegrity) :=
  if_pos (by rw [List.length_drop]; exact h)

/-- A write without a lost slice: the chain's traffic, then the bytes, and the count of them. -/
theorem State.serveWrite_kept {s : State} {k : Nat} {p : Packet} {pi : Nat} {part : Partition}
    (h : s.anyLost part (leAt (packetBody p) 8 8) ((packetBody p).length - 16) = false) : s.serveWrite k p pi part =
      let t := s.chainTraffic k (s.labelClass p.label) p.label part (leAt (packetBody p) 8 8) ((packetBody p).drop 16).length
      ((t.1.writeBytes pi part (leAt (packetBody p) 8 8) ((packetBody p).drop 16) (s.labelClass p.label) t.2).count 0x16
        ((packetBody p).drop 16).length p.label (some pi) (leAt (packetBody p) 8 8) (leAt (packetBody p) 0 4), .ok) :=
  if_neg (by rw [List.length_drop, h]; exact Bool.false_ne_true)

theorem State.writeBytes_up (s : State) (pi : Nat) (p : Partition) (o : Nat) (l : List Byte) (cls : Nat) (conf : Bool) (j : Nat) :
    (s.writeBytes pi p o l cls conf).chainUp j = s.chainUp j := State.chainUp_of_kept (by simp) (State.writeRun_chains ..) j

theorem State.serveWrite_up (s : State) (k : Nat) (p : Packet) (pi : Nat) (part : Partition) (j : Nat) :
    (s.serveWrite k p pi part).1.chainUp j = s.chainUp j := by
  by_cases h : s.anyLost part (leAt (packetBody p) 8 8) ((packetBody p).length - 16) = true
  · rw [State.serveWrite_lost h]
  · rw [State.serveWrite_kept (Bool.eq_false_iff.mpr h)]
    dsimp only
    rw [State.chainUp_of_kept (State.count_keeps ..).2.1 (by simp), State.writeBytes_up, State.chainTraffic_up]

theorem State.serveWrite_status (s : State) (k : Nat) (p : Packet) (pi : Nat) (part : Partition) : (s.serveWrite k p pi part).2 =
    if s.anyLost part (leAt (packetBody p) 8 8) ((packetBody p).length - 16) then .eIntegrity else .ok := by
  split
  · next h => rw [State.serveWrite_lost h]
  · next h => rw [State.serveWrite_kept (Bool.eq_false_iff.mpr h)]

/-! ### One whole codeword written (R287) -/

theorem leBytes_leNat (l : List Byte) : leBytes l.length (leNat l) = l := by
  have hget : ∀ (l : List Byte) (i : Nat) (h : i < l.length), BitVec.ofNat 8 (leNat l >>> (8 * i)) = l[i] := by
    intro l
    induction l with
    | nil => exact fun i h => absurd h (by simp)
    | cons b l ih =>
      intro i h
      have hb := b.isLt
      cases i with
      | zero =>
        apply BitVec.eq_of_toNat_eq
        simp [leNat]
        omega
      | succ i =>
        have hshift : leNat (b :: l) >>> (8 * (i + 1)) = leNat l >>> (8 * i) := by
          rw [leNat, Nat.mul_succ, Nat.add_comm (8 * i), Nat.shiftRight_add, Nat.shiftRight_eq_div_pow (m := b.toNat + 256 * leNat l)]
          congr 1
          omega
        rw [hshift, ih i (by simpa using h), List.getElem_cons_succ]
  refine List.ext_getElem (by simp [leBytes]) fun i h1 h2 => ?_
  simp [leBytes, hget l i h2]

theorem leNat_lt (l : List Byte) : leNat l < 2 ^ (8 * l.length) := by
  have h := leNat_leBytes l.length (leNat l)
  rw [leBytes_leNat] at h
  rw [h]
  exact Nat.mod_lt _ (by positivity)

/-- The data of a codeword's 64 bytes are those bytes. -/
theorem dataBytes_bytesData {l : List Byte} (h : l.length = 64) : dataBytes (bytesData l) = l := by
  have hlt := leNat_lt l
  rw [h, show 8 * 64 = 512 from rfl] at hlt
  have hnat : (bytesData l).toNat = leNat l := by
    rw [bytesData, BitVec.toNat_ofNat]
    omega
  rw [dataBytes, hnat, ← h, leBytes_leNat]

theorem coverBytes_all : coverBytes 0 64 = allBytes := by decide

/-- 64 bytes written at the start of a codeword are one full write of it. -/
theorem State.writeBytes_codeword {s : State} {p : Partition} {o c a : Nat} {l : List Byte} (hp : s.place p o = .at c a) (ho : o % 64 = 0)
    (hl : l.length = 64) (pi cls : Nat) (conf : Bool) : s.writeBytes pi p o l cls conf =
      s.writeOrWait c (cwAddr a) (bytesData l) allBytes cls conf s.now (some (pi, o)) := by
  have hne : l ≠ [] := fun h => by simp [h] at hl
  have htake : l.take 64 = l := by rw [← hl, List.take_length]
  have hdrop : l.drop 64 = [] := by rw [← hl, List.drop_length]
  unfold State.writeBytes
  rw [hl, State.writeRun]
  simp only [hne, if_false, ho, Nat.sub_zero, hl, Nat.min_self, Nat.zero_add, coverBytes_all, htake, hdrop, Nat.sub_self,
    List.replicate_zero, List.nil_append, List.append_nil, hp]
  rw [State.writeRun, if_pos rfl]

/-- A codeword at a channel lies in no lost slice. -/
theorem State.anyLost_codeword {s : State} {p : Partition} {o c a : Nat} (hp : s.place p o = .at c a) (ho : o % 64 = 0) :
    s.anyLost p o 64 = false := by
  have hone : (o + 64 - 1) / 64 + 1 - o / 64 = 1 := by omega
  have hat : 64 * (o / 64) = o := by omega
  unfold State.anyLost
  rw [hone, List.range_one, List.any_cons, List.any_nil, Nat.add_zero, hat, hp]
  rfl

/-- Traffic of one codeword whose channel serves it finds no leg to end: it is counted. -/
theorem State.chainTraffic_codeword {s : State} {p : Partition} {o c a : Nat} (hp : s.place p o = .at c a) (ho : o % 64 = 0)
    (hb : s.cwBusy c (cwAddr a) = false) (k cls label : Nat) : Counted s (s.chainTraffic k cls label p o 64).1 := by
  have hcharged := s.chainCharged_counted k cls 64
  have hplace : (s.chainCharged k cls 64).1.place p o = .at c a := by
    obtain ⟨_, _, _, hc⟩ := hcharged.frame
    rw [hc]
    exact hp
  have hone : (o + 64 - 1) / 64 + 1 - o / 64 = 1 := by omega
  have hat : o / 64 * 64 = o := by omega
  have hbanks : ∀ rt, (s.chainCharged k cls 64).1.reachBanks rt p o 64 = (s.chainCharged k cls 64).1 := fun rt => by
    unfold State.reachBanks
    split
    · rw [hone, hat, State.preemptCws]
      simp only [hplace, State.preemptBank_of_not_busy ((hcharged.cwBusy c (cwAddr a)).trans hb), State.preemptCws]
    · rfl
  rw [State.chainTraffic_eq, hbanks]
  exact hcharged.trans (.servedLabel ..)

/-- A BWR of one whole codeword that its channel serves and no injection waits for leaves it written. -/
theorem State.serveWrite_codeword {s : State} {k : Nat} {p : Packet} {part : Partition} {c a : Nat} (pi : Nat)
    (hlen : (packetBody p).length = 80) (ho : leAt (packetBody p) 8 8 % 64 = 0) (hp : s.place part (leAt (packetBody p) 8 8) = .at c a)
    (hb : s.cwBusy c (cwAddr a) = false) (hq : (s.chan c).wq.length < 64) (hi : s.injArmed c (cwAddr a) = false) :
    Written s (s.serveWrite k p pi part).1 (memKey c (cwAddr a)) (bytesData ((packetBody p).drop 16)) := by
  have hdata : ((packetBody p).drop 16).length = 64 := by rw [List.length_drop, hlen]
  have hlost : s.anyLost part (leAt (packetBody p) 8 8) ((packetBody p).length - 16) = false := by
    rw [hlen]
    exact State.anyLost_codeword hp ho
  rw [State.serveWrite_kept hlost, hdata]
  dsimp only
  have ht := State.chainTraffic_codeword hp ho hb k (s.labelClass p.label) p.label
  generalize s.chainTraffic k (s.labelClass p.label) p.label part (leAt (packetBody p) 8 8) 64 = t at ht ⊢
  have hplace : t.1.place part (leAt (packetBody p) 8 8) = .at c a := by
    obtain ⟨_, _, _, hc⟩ := ht.frame
    rw [hc]
    exact hp
  rw [State.writeBytes_codeword hplace ho hdata]
  have hwritten := (State.applyWrite_full ((ht.inj.injArmed c (cwAddr a)).trans hi) (bytesData ((packetBody p).drop 16))
    (s.labelClass p.label) (paidBytes t.2 allBytes) (some (pi, leAt (packetBody p) 8 8))).1
  have hissued := State.writeOrWait_served ((ht.cwBusy c (cwAddr a)).trans hb) (Chan.mergeFull_allBytes ..) (by rw [ht.chan]; exact hq)
    (bytesData ((packetBody p).drop 16)) (s.labelClass p.label) t.2 t.1.now (some (pi, leAt (packetBody p) 8 8))
  exact ((hwritten.of_kept ht.memory).then_kept hissued.memory).then_kept (Counted.count ..).memory

/-- What `Written` says, byte by byte. -/
theorem Written.bytes {s t : State} {key : Nat} {l : List Byte} (h : Written s t key (bytesData l)) (hl : l.length = 64) {i : Nat}
    (hi : i < 64) : Tab.look t.mem (key + i) = some (l.getD i 0) := by
  rw [h.mem, look_putBytes, dataBytes_bytesData hl, hl, if_pos (by omega), Nat.add_sub_cancel_left, List.getD_eq_getElem?_getD,
    List.getElem?_eq_getElem (by omega), Option.getD_some]

end Sys2Proof.Machine
end

section
/-! PROOFS. What a partner's requests do, command by command (R221, R227, R234 to R241, R287, R418, R420). -/
namespace Sys2Proof.Machine

/-! ### The commands -/

section
variable {s : State} {k : Fin 16} {p : Packet}

theorem exec_creditPacket_accepted (h : s.judgePacket k { p with type := 0 } false = .accepted) :
    exec (.creditPacket k p) s = .next ((s.acceptPacket k { p with type := 0 }).takeGrants k p.payload) :=
  congrArg Host.Outcome.next (State.receive_accepted h 0)

theorem exec_brd_accepted (h : s.judgePacket k { p with type := 3 } false = .accepted) :
    exec (.brd k p) s = .next ((s.acceptPacket k { p with type := 3 }).brdRequest k { p with type := 3 }) :=
  congrArg Host.Outcome.next (State.receive_accepted h 0)

theorem exec_bwr_accepted (h : s.judgePacket k { p with type := 4 } false = .accepted) :
    exec (.bwr k p) s = .next ((s.acceptPacket k { p with type := 4 }).bwrRequest k { p with type := 4 }) :=
  congrArg Host.Outcome.next (State.receive_accepted h 0)

theorem exec_ctlRequest_accepted (h : s.judgePacket k { p with type := 5 } false = .accepted) (late : BitVec 32) :
    exec (.ctlRequest k p late) s = .next ((s.acceptPacket k { p with type := 5 }).ctlRequest k { p with type := 5 } late) :=
  congrArg Host.Outcome.next (State.receive_accepted h late)

end

/-! ### Tagged requests (R418, R420) -/

/-- The packet's type is no part of its tag. -/
theorem tagBad_type {s t : State} (h : Received s t) {k : Fin 16} {p : Packet} (type : Nat) (hb : s.tagBad k p) :
    t.tagBad k { p with type := type } := by
  unfold State.tagBad at hb ⊢
  rw [h.sessionAt]
  exact hb

section
variable {s : State} {k : Fin 16} {p : Packet} (ht : p.tagged = true)
include ht

theorem exec_brd_tagBad (hb : s.tagBad k p) (h : s.judgePacket k { p with type := 3 } false = .accepted) :
    ∃ t, exec (.brd k p) s = .next t ∧ t.mem = s.mem ∧
      t.holdsPacket k 3 p.label (fragment (leAt (packetBody p) 0 4) .eAuth true (Config.freeNat s.fresh) []) := by
  have hacc := s.acceptPacket_received k { p with type := 3 }
  have hbad := tagBad_type hacc 3 hb
  refine ⟨_, exec_brd_accepted h, ?_⟩
  rw [State.brdRequest_bad (p := { p with type := 3 }) ht hbad]
  exact (hacc.answerKept.trans (State.tagCheck_bad hbad).2).sendEmpty (State.judgePacket_accepted h).1 ..

theorem exec_bwr_tagBad (hb : s.tagBad k p) (h : s.judgePacket k { p with type := 4 } false = .accepted) :
    ∃ t, exec (.bwr k p) s = .next t ∧ t.mem = s.mem ∧
      t.holdsPacket k 4 p.label (fragment (leAt (packetBody p) 0 4) .eAuth true (Config.freeNat s.fresh) []) := by
  have hacc := s.acceptPacket_received k { p with type := 4 }
  have hbad := tagBad_type hacc 4 hb
  refine ⟨_, exec_bwr_accepted h, ?_⟩
  rw [State.bwrRequest_bad (p := { p with type := 4 }) ht hbad]
  exact (hacc.answerKept.trans (State.tagCheck_bad hbad).2).sendEmpty (State.judgePacket_accepted h).1 ..

theorem exec_ctlRequest_tagBad (hb : s.tagBad k p) (h : s.judgePacket k { p with type := 5 } false = .accepted) (late : BitVec 32) :
    ∃ t, exec (.ctlRequest k p late) s = .next t ∧ t.mem = s.mem ∧
      t.holdsPacket k 5 0 (ctlResponse (packetBody p) .eAuth [] 0) := by
  have howing := (s.acceptPacket_received k { p with type := 5 }).trans (State.ctlOwing_received _ k { p with type := 5 })
  have hbad := tagBad_type howing 5 hb
  have hkept := howing.answerKept.trans (State.tagCheck_bad hbad).2
  refine ⟨_, exec_ctlRequest_accepted h late, ?_⟩
  rw [State.ctlRequest_bad (p := { p with type := 5 }) ht hbad]
  exact ⟨(State.sendPacket_sent ..).memory.1.trans hkept.mem,
    State.sendPacket_holds ((hkept.up k).trans (State.judgePacket_accepted h).1) ..⟩

/-- A tag that holds: the request goes on in the state with the session's count and timer. -/
theorem requestCheck_good {e : Nat × Session} {t : State} (hrec : Received s t) (hs : s.sessionAt k (tagSid p.payload) = some e)
    (htag : tagOf e.2.khs p = p.tag) (hn : e.2.scntIn < tagScnt p.payload) (type : Nat) :
    t.requestCheck k { p with type := type } = (t.setSession e.1 { e.2 with scntIn := tagScnt p.payload, tLast := s.now }, true) := by
  have hat : t.sessionAt k (tagSid p.payload) = some e := (hrec.sessionAt ..).trans hs
  rw [State.requestCheck_tagged _ _ (p := { p with type := type }) ht, ← hrec.now]
  exact State.tagCheck_good (p := { p with type := type }) hat htag hn

end

theorem State.setSession_sessionModes (s : State) (i : Nat) (x : Session) : (s.setSession i x).sessionModes = s.sessionModes := rfl

/-- What a tagged CTL request comes to where its tag holds. -/
theorem ctlServed_tagged {k : Fin 16} {p : Packet} (ht : p.tagged = true) {v : State} {b : Bool} (hm : v.sessionModes = b)
    (late : BitVec 32) : v.ctlServed k { p with type := 5 } late =
      (v.servingFor (v.requestSession k { p with type := 5 })).ctlServe (packetReq k p) true b (packetBody p) late := by
  rw [State.ctlServed, hm]
  exact congrArg (fun b => State.ctlServe _ _ b _ _ _) ht

/-- A tagged CTL request whose tag holds is answered at once where no ENROLL is in progress after it. -/
theorem ctlRequest_tagGood {t v : State} {k : Fin 16} {p : Packet} (ht : p.tagged = true)
    (hcheck : (t.ctlOwing k { p with type := 5 }).requestCheck k { p with type := 5 } = (v, true)) {b : Bool} (hm : v.sessionModes = b)
    {late : BitVec 32} {u : State × List Byte}
    (hu : (v.servingFor (v.requestSession k { p with type := 5 })).ctlServe (packetReq k p) true b (packetBody p) late = u)
    (he : u.1.sec.enrol = none) : t.ctlRequest k { p with type := 5 } late =
      (u.1.answerWith k (v.requestSession k { p with type := 5 }) (newPacket 5 0 u.2)).servingDone := by
  have hserved := (ctlServed_tagged ht hm late).trans hu
  rw [State.ctlRequest_answered hcheck (State.enrolBegun_of_none (by rw [hserved]; exact he) ..), hserved]

/-- A tagged CTL request whose tag holds is served as its session's. -/
theorem exec_ctlRequest_tagGood {s : State} {k : Fin 16} {p : Packet} (ht : p.tagged = true) {e : Nat × Session}
    (hs : s.sessionAt k (tagSid p.payload) = some e) (htag : tagOf e.2.khs p = p.tag) (hn : e.2.scntIn < tagScnt p.payload)
    (h : s.judgePacket k { p with type := 5 } false = .accepted) (late : BitVec 32) :
    let v := ((s.acceptPacket k { p with type := 5 }).ctlOwing k { p with type := 5 }).setSession e.1
      { e.2 with scntIn := tagScnt p.payload, tLast := s.now }
    let own := v.requestSession k { p with type := 5 }
    let u := (v.servingFor own).ctlServe (packetReq k p) true s.sessionModes (packetBody p) late
    u.1.sec.enrol = none → exec (.ctlRequest k p late) s = .next ((u.1.answerWith k own (newPacket 5 0 u.2)).servingDone) := by
  intro v own u he
  have howing := (s.acceptPacket_received k { p with type := 5 }).trans (State.ctlOwing_received _ k { p with type := 5 })
  exact (exec_ctlRequest_accepted h late).trans (congrArg _ (ctlRequest_tagGood ht (requestCheck_good ht howing hs htag hn 5)
    ((State.setSession_sessionModes ..).trans howing.sessionModes) rfl he))

/-! ### Untagged requests -/

section
variable {s : State} {k : Fin 16} {p : Packet} (ht : p.tagged = false)
include ht

theorem packetBody_untagged : packetBody p = p.payload := by simp [packetBody, ht]

theorem exec_brd_untagged (h : s.judgePacket k { p with type := 3 } false = .accepted) :
    exec (.brd k p) s = .next ((s.acceptPacket k { p with type := 3 }).serveBrd k { p with type := 3 }) := by
  rw [exec_brd_accepted h, State.brdRequest_checked (State.requestCheck_untagged _ k (p := { p with type := 3 }) ht)]

theorem exec_bwr_untagged (h : s.judgePacket k { p with type := 4 } false = .accepted) :
    exec (.bwr k p) s = .next ((s.acceptPacket k { p with type := 4 }).serveBwr k { p with type := 4 }) := by
  rw [exec_bwr_accepted h, State.bwrRequest_checked (State.requestCheck_untagged _ k (p := { p with type := 4 }) ht)]

/-- The access status of an untagged request, judged once the packet is taken. -/
theorem accessStatus_taken {type : Nat} (h : s.judgePacket k { p with type := type } false = .accepted) (write : Bool) (part off n : Nat) :
    (s.acceptPacket k { p with type := type }).accessStatus (packetReq k { p with type := type }) write p.label part off n =
      s.accessStatus ⟨.chain k, 0⟩ write p.label part off n := by
  have hreq : packetReq k { p with type := type } = ⟨.chain k, 0⟩ := by simp [packetReq, ht]
  rw [hreq, (s.acceptPacket_received k { p with type := type }).accessStatus (State.judgePacket_accepted h).2]

end

section
variable {s : State} {k : Fin 16} {p : Packet}

/-- An untagged CTL request is served under no session, its credits owed. -/
theorem ctlServed_untagged (ht : p.tagged = false) {t : State} (h : Received s t) (late : BitVec 32) :
    t.ctlServed k { p with type := 5 } late =
      (t.servingFor none).ctlServe ⟨.chain k, 0⟩ false s.sessionModes p.payload late := by
  have hsess : t.requestSession k { p with type := 5 } = none := by simp [State.requestSession, ht]
  have hreq : packetReq k { p with type := 5 } = ⟨.chain k, 0⟩ := by simp [packetReq, ht]
  have hbody : packetBody { p with type := 5 } = p.payload := by simp [packetBody, ht]
  rw [State.ctlServed, hsess, hreq, hbody, h.sessionModes]
  exact congrArg (fun b => State.ctlServe _ _ b _ _ _) ht

/-- Its response is handed to its chain where that is still UP: no ENROLL begins without a session. -/
theorem exec_ctlRequest_untagged (ht : p.tagged = false) (h : s.judgePacket k { p with type := 5 } false = .accepted) (late : BitVec 32) :
    let u := (((s.acceptPacket k { p with type := 5 }).ctlOwing k { p with type := 5 }).servingFor none).ctlServe ⟨.chain k, 0⟩ false
      s.sessionModes p.payload late
    ∃ t, exec (.ctlRequest k p late) s = .next t ∧ (u.1.chainUp k = true → t.holdsPacket k 5 0 u.2) := by
  have howing := (s.acceptPacket_received k { p with type := 5 }).trans (State.ctlOwing_received _ k { p with type := 5 })
  have hserved := ctlServed_untagged (k := k) ht howing late
  have hcheck := State.requestCheck_untagged ((s.acceptPacket k { p with type := 5 }).ctlOwing k { p with type := 5 }) k
    (p := { p with type := 5 }) ht
  have henrol := State.enrolBegun_of_same
    (State.ctlServed_untagged_enrol ((s.acceptPacket k { p with type := 5 }).ctlOwing k { p with type := 5 }) k
      (p := { p with type := 5 }) ht late) (.chain k (packetBody { p with type := 5 }))
  have hsess : ((s.acceptPacket k { p with type := 5 }).ctlOwing k { p with type := 5 }).requestSession k { p with type := 5 } = none := by
    simp [State.requestSession, ht]
  refine ⟨_, (exec_ctlRequest_accepted h late).trans (congrArg _ (State.ctlRequest_answered hcheck henrol)), fun hup => ?_⟩
  rw [hsess, hserved]
  exact State.sendPacket_holds hup ..

/-! ### BRD and BWR, untagged -/

/-- An admitted BRD read: gathered, and answered in fragments or in progress. -/
theorem exec_brd_ok {part : Partition} (ht : p.tagged = false) (h : s.judgePacket k { p with type := 3 } false = .accepted)
    (hl : Tab.look s.cfg.parts (leAt p.payload 4 1) = some part)
    (hst : s.accessStatus ⟨.chain k, 0⟩ false p.label (leAt p.payload 4 1) (brdRange p.payload).1 (brdRange p.payload).2 = .ok) :
    exec (.brd k p) s = .next
      (let u := (s.acceptPacket k { p with type := 3 }).chainTraffic k (s.labelClass p.label) p.label part (brdRange p.payload).1
        (brdRange p.payload).2
      u.1.startBrd ⟨k, { p with type := 3 }, none, leAt p.payload 4 1, u.2, []⟩ part (s.labelClass p.label)) := by
  have hacc := s.acceptPacket_received k { p with type := 3 }
  have hbody : packetBody { p with type := 3 } = p.payload := by simp [packetBody, ht]
  have hlabel := hacc.labelClass (State.judgePacket_accepted h).2
  rw [exec_brd_untagged ht h, State.serveBrd_ok (p := { p with type := 3 }) (part := part) ht]
  · unfold State.serveRead
    rw [hbody, hlabel]
  · rw [hacc.cfg, hbody]
    exact hl
  · rw [hbody, accessStatus_taken ht h]
    exact hst

/-- An admitted BWR: what it comes to, and its completion where RESP asks for it or it failed. -/
theorem exec_bwr_ok {part : Partition} (ht : p.tagged = false) (h : s.judgePacket k { p with type := 4 } false = .accepted)
    (hl : Tab.look s.cfg.parts (leAt p.payload 4 1) = some part)
    (hst : s.accessStatus ⟨.chain k, 0⟩ true p.label (leAt p.payload 4 1) (leAt p.payload 8 8) (p.payload.length - 16) = .ok) :
    exec (.bwr k p) s = .next
      (let o := (s.acceptPacket k { p with type := 4 }).serveWrite k { p with type := 4 } (leAt p.payload 4 1) part
      if leAt p.payload 5 1 = 1 ∨ o.2 ≠ .ok then o.1.sendEmpty k 4 p.label (leAt p.payload 0 4) none o.2 else o.1) := by
  have hacc := s.acceptPacket_received k { p with type := 4 }
  have hbody : packetBody { p with type := 4 } = p.payload := by simp [packetBody, ht]
  rw [exec_bwr_untagged ht h, State.serveBwr_eq _ k (p := { p with type := 4 }) ht,
    State.bwrOutcome_ok (p := { p with type := 4 }) (part := part) ?_ ?_, hbody]
  · rw [hacc.cfg, hbody]
    exact hl
  · rw [hbody, accessStatus_taken ht h]
    exact hst

section
variable {part : Partition} (ht : p.tagged = false) (h : s.judgePacket k { p with type := 3 } false = .accepted)
  (hl : Tab.look s.cfg.parts (leAt p.payload 4 1) = some part)
  (hst : s.accessStatus ⟨.chain k, 0⟩ false p.label (leAt p.payload 4 1) (brdRange p.payload).1 (brdRange p.payload).2 = .ok)
include ht h hl hst

/-- A BRD that finds every codeword is answered at once, in fragments. -/
theorem exec_brd_read :
    let u := (s.acceptPacket k { p with type := 3 }).chainTraffic k (s.labelClass p.label) p.label part (brdRange p.payload).1
      (brdRange p.payload).2
    let g := u.1.brdGathered ⟨k, { p with type := 3 }, none, leAt p.payload 4 1, u.2, []⟩ part (s.labelClass p.label) (brdRange p.payload)
    g.2.any (fun w => w == .waits) = false → ∃ t, exec (.brd k p) s = .next t ∧ ∀ i < ((brdRange p.payload).2 + 559) / 560,
      t.holdsPacket k 3 p.label (fragment (leAt p.payload 0 4) (if g.2.any (fun w => w == .bad) then .eIntegrity else .ok)
        (decide ((brdRange p.payload).2 ≤ 560 * (i + 1))) ((brdRange p.payload).1 + 560 * i)
        (((((g.2.flatMap JobCw.bytes).drop ((brdRange p.payload).1 % 64)).take (brdRange p.payload).2).drop (560 * i)).take 560)) := by
  intro u g hw
  have hbody : packetBody { p with type := 3 } = p.payload := by simp [packetBody, ht]
  have hup : g.1.chainUp k = true := by
    rw [State.brdGathered_up, State.chainTraffic_up, (s.acceptPacket_received k { p with type := 3 }).up]
    exact (State.judgePacket_accepted h).1
  refine ⟨_, (exec_brd_ok ht h hl hst).trans (congrArg _ (State.startBrd_read hbody hw)), fun i hi => ?_⟩
  exact State.answerBrd_holds (j := ⟨k, { p with type := 3 }, none, leAt p.payload 4 1, u.2, g.2⟩) hbody hup rfl
    (State.gather_length ..) hi

/-- A BRD with a codeword that cannot be read now stays in progress. -/
theorem exec_brd_waits :
    let u := (s.acceptPacket k { p with type := 3 }).chainTraffic k (s.labelClass p.label) p.label part (brdRange p.payload).1
      (brdRange p.payload).2
    let j : BrdJob := ⟨k, { p with type := 3 }, none, leAt p.payload 4 1, u.2, []⟩
    let g := u.1.brdGathered j part (s.labelClass p.label) (brdRange p.payload)
    g.2.any (fun w => w == .waits) = true → ∃ t, exec (.brd k p) s = .next t ∧ t.out = g.1.out ∧
      Tab.look t.dmc.jobs u.1.dmc.nextJob = some { j with cws := g.2 } := by
  intro u j g hw
  have hbody : packetBody { p with type := 3 } = p.payload := by simp [packetBody, ht]
  exact ⟨_, (exec_brd_ok ht h hl hst).trans (congrArg _ (State.startBrd_waits hbody hw)), rfl, Tab.look_put_same ..⟩

end

/-- What the completion of a BWR leaves of memory. -/
theorem sendEmpty_memory (t : State) (k type label rid : Nat) (st : Status) : KeptMemory t (t.sendEmpty k type label rid none st) :=
  (State.sendPacket_sent t.draw k _ true).memory

theorem completion_memory (c : Prop) [Decidable c] (t : State) (k label rid : Nat) (st : Status) :
    KeptMemory t (if c then t.sendEmpty k 4 label rid none st else t) := by
  split
  · exact sendEmpty_memory ..
  · exact ⟨rfl, rfl⟩

/-- A codeword written with a payload's bytes, as the memory shows it. -/
theorem Written.leaves {s t : State} {m : Nat} {l : List Byte} (h : Written s t m (bytesData (l.drop 16))) (hl : (l.drop 16).length = 64) :
    (∀ i < 64, Tab.look t.mem (m + i) = some (l.getD (16 + i) 0)) ∧ t.storedErr m = [] ∧
      (∀ n, n ≠ m → t.storedErr n = s.storedErr n) ∧
      (∀ n, (n < m ∨ m + 64 ≤ n) → Tab.look t.mem n = Tab.look s.mem n) := by
  refine ⟨fun i hi => ?_, h.storedErr, fun n hn => h.storedErr_elsewhere hn, fun n hn => h.look_elsewhere hn⟩
  rw [h.bytes hl hi]
  simp [List.getD_eq_getElem?_getD, List.getElem?_drop]

section
variable {part : Partition} (ht : p.tagged = false) (h : s.judgePacket k { p with type := 4 } false = .accepted)
  (hl : Tab.look s.cfg.parts (leAt p.payload 4 1) = some part)
  (hst : s.accessStatus ⟨.chain k, 0⟩ true p.label (leAt p.payload 4 1) (leAt p.payload 8 8) (p.payload.length - 16) = .ok)
include ht h hl hst

/-- A BWR completes, with a completion where RESP asks for it or a slice is lost; into a lost slice nothing is written. -/
theorem exec_bwr_completes : let lost := s.anyLost part (leAt p.payload 8 8) (p.payload.length - 16)
    ∃ t, exec (.bwr k p) s = .next t ∧ (lost = true → t.mem = s.mem) ∧ (lost = true ∨ leAt p.payload 5 1 = 1 → ∃ o,
      t.holdsPacket k 4 p.label (fragment (leAt p.payload 0 4) (if lost then .eIntegrity else .ok) true o [])) := by
  intro lost
  have hacc := s.acceptPacket_received k { p with type := 4 }
  have hbody : packetBody { p with type := 4 } = p.payload := by simp [packetBody, ht]
  have hlost : (s.acceptPacket k { p with type := 4 }).anyLost part (leAt (packetBody { p with type := 4 }) 8 8)
      ((packetBody { p with type := 4 }).length - 16) = lost := by rw [hbody, hacc.anyLost]
  have hstatus := (s.acceptPacket k { p with type := 4 }).serveWrite_status k { p with type := 4 } (leAt p.payload 4 1) part
  have hup := ((s.acceptPacket k { p with type := 4 }).serveWrite_up k { p with type := 4 } (leAt p.payload 4 1) part k).trans
    ((hacc.up k).trans (State.judgePacket_accepted h).1)
  rw [hlost] at hstatus
  refine ⟨_, exec_bwr_ok ht h hl hst, fun hl => ?_, fun hor => ?_⟩ <;> dsimp only <;> rw [hstatus]
  · rw [if_pos (.inr (by simp [hl])), (sendEmpty_memory ..).1, State.serveWrite_lost (hlost.trans hl)]
    exact hacc.mem
  · rw [if_pos (hor.symm.imp_right fun hl => by simp [hl])]
    exact ⟨_, (State.sendEmpty_leaves hup ..).2⟩

/-- A BWR of one whole codeword, on a channel that can serve it now and without an armed injection, changes that codeword alone. -/
theorem exec_bwr_codeword {c a : Nat} (hlen : p.payload.length = 80) (ho : leAt p.payload 8 8 % 64 = 0)
    (hp : s.place part (leAt p.payload 8 8) = .at c a) (hb : s.cwBusy c (cwAddr a) = false) (hq : (s.chan c).wq.length < 64)
    (hi : s.injArmed c (cwAddr a) = false) : ∃ t, exec (.bwr k p) s = .next t ∧
      (∀ i < 64, Tab.look t.mem (memKey c (cwAddr a) + i) = some (p.payload.getD (16 + i) 0)) ∧
      t.storedErr (memKey c (cwAddr a)) = [] ∧ (∀ m, m ≠ memKey c (cwAddr a) → t.storedErr m = s.storedErr m) ∧
      (∀ m, (m < memKey c (cwAddr a) ∨ memKey c (cwAddr a) + 64 ≤ m) → Tab.look t.mem m = Tab.look s.mem m) := by
  have hacc := s.acceptPacket_received k { p with type := 4 }
  have hbody : packetBody { p with type := 4 } = p.payload := by simp [packetBody, ht]
  have hdata : (p.payload.drop 16).length = 64 := by rw [List.length_drop, hlen]
  have hwrite := State.serveWrite_codeword (s := s.acceptPacket k { p with type := 4 }) (k := k) (p := { p with type := 4 }) (part := part)
    (c := c) (a := a) (leAt p.payload 4 1) (by rw [hbody]; exact hlen) (by rw [hbody]; exact ho) (by rw [hbody, hacc.place]; exact hp)
    (by rw [hacc.cwBusy]; exact hb) (by rw [State.chan, hacc.dmc]; exact hq) (by rw [hacc.inj.injArmed]; exact hi)
  have hwritten := hwrite.of_kept (s := s) ⟨hacc.mem, hacc.errs⟩
  rw [hbody] at hwritten
  refine ⟨_, exec_bwr_ok ht h hl hst, Written.leaves (hwritten.then_kept ?_) hdata⟩
  exact completion_memory ..

end

end

/-! ### The obligation -/

/-- Settles O41: taking a packet leaves all that its request is judged by; what then serves it leaves its chain UP to answer on. -/
theorem partnerRequests : Obligations.PartnerRequests := by
  intro s k p late
  refine ⟨fun ht => ⟨fun hb => ⟨exec_brd_tagBad ht hb, exec_bwr_tagBad ht hb, fun h => exec_ctlRequest_tagBad ht hb h late⟩,
    fun e hs htag hn => ⟨fun h => ?_, fun h => ?_, fun h he => ?_⟩⟩, fun ⟨h, _⟩ => ?_, fun part ⟨h, ht⟩ hl hst => ?_,
    fun part ⟨h, ht⟩ hl hst => ?_, fun part c a ⟨h, ht⟩ hl hst hlen ho hp hb hq hi => ?_, fun st hne => ⟨fun ⟨h, ht⟩ hst => ?_,
    fun ⟨h, ht⟩ hst => ?_⟩, fun ⟨h, ht⟩ => exec_ctlRequest_untagged ht h late, fun hg hr ha => ?_, exec_alertSend_stays⟩
  · rw [exec_brd_accepted h, State.brdRequest_checked (requestCheck_good ht (s.acceptPacket_received ..) hs htag hn 3)]
  · rw [exec_bwr_accepted h, State.bwrRequest_checked (requestCheck_good ht (s.acceptPacket_received ..) hs htag hn 4)]
  · exact exec_ctlRequest_tagGood ht hs htag hn h late he
  · obtain ⟨he, hg⟩ := s.acceptPacket_chainP k { p with type := 0 }
    obtain ⟨he', hg'⟩ := (s.acceptPacket k { p with type := 0 }).takeGrants_chainP k p.payload
    exact ⟨_, exec_creditPacket_accepted h, he'.trans he, by rw [hg', hg]⟩
  · exact ⟨exec_brd_read ht h hl hst, exec_brd_waits ht h hl hst⟩
  · exact exec_bwr_completes ht h hl hst
  · exact exec_bwr_codeword ht h hl hst hlen ho hp hb hq hi
  · have hacc := s.acceptPacket_received k { p with type := 3 }
    have hbody : packetBody { p with type := 3 } = p.payload := by simp [packetBody, ht]
    refine ⟨_, exec_brd_untagged ht h, ?_⟩
    rw [State.serveBrd_refused (p := { p with type := 3 }) ht hne (by rw [hbody, accessStatus_taken ht h]; exact hst), hbody]
    exact (hacc.answerKept.trans (State.countRefusal_answerKept ..)).sendEmpty (State.judgePacket_accepted h).1 ..
  · have hacc := s.acceptPacket_received k { p with type := 4 }
    have hbody : packetBody { p with type := 4 } = p.payload := by simp [packetBody, ht]
    refine ⟨_, exec_bwr_untagged ht h, ?_⟩
    rw [State.serveBwr_refused (p := { p with type := 4 }) ht hne (by rw [hbody, accessStatus_taken ht h]; exact hst), hbody]
    exact (hacc.answerKept.trans (State.countRefusal_answerKept ..)).sendEmpty (State.judgePacket_accepted h).1 ..
  · have hup : s.chainUp k = true := by
      simp only [State.alertsGo, Bool.and_eq_true] at hg
      exact hg.1.2
    refine ⟨_, exec_alertSend_goes hg hr ha, ?_, State.sendPacket_holds (s := s.setChainP k _) hup ..⟩
    rw [(State.sendPacket_sent ..).chain.alerts, State.chainP_setChainP]

end Sys2Proof.Machine
end

section
/-! PROOFS. What the memory and its controllers move when refreshes follow a queue and bytes are written: never the cadastre, the clock, the
mode or the chains (R174, R255 to R257, R262, R287 to R296). -/
namespace Sys2Proof.Machine

/-! ### The two frames -/

/-- What counting and the controllers' commands move: registers, samples, classes, controllers and free values drawn. -/
def DmcFrame (s t : State) : Prop := ∃ r p q d n, t = { s with regs := r, pmc := p, qos := q, dmc := d, fresh := n }

/-- What writing to memory moves in addition: faults and the alerts they raise, the bytes and the stored errors. -/
def StoreFrame (s t : State) : Prop := ∃ r p q d n f k m e, t = { s with
  regs := r, pmc := p, qos := q, dmc := d, fresh := n, flt := f, pkt := k, mem := m, errs := e }

theorem DmcFrame.refl (s : State) : DmcFrame s s := ⟨_, _, _, _, _, rfl⟩

theorem DmcFrame.trans {s t u : State} : DmcFrame s t → DmcFrame t u → DmcFrame s u := by
  rintro ⟨r, p, q, d, n, rfl⟩ ⟨r', p', q', d', n', rfl⟩
  exact ⟨r', p', q', d', n', rfl⟩

theorem CountFrame.dmc {s t : State} : CountFrame s t → DmcFrame s t := by
  rintro ⟨r, p, q, rfl⟩
  exact ⟨_, _, _, _, _, rfl⟩

theorem DmcFrame.store {s t : State} : DmcFrame s t → StoreFrame s t := by
  rintro ⟨r, p, q, d, n, rfl⟩
  exact ⟨_, _, _, _, _, _, _, _, _, rfl⟩

theorem StoreFrame.refl (s : State) : StoreFrame s s := (DmcFrame.refl s).store

theorem StoreFrame.trans {s t u : State} : StoreFrame s t → StoreFrame t u → StoreFrame s u := by
  rintro ⟨r, p, q, d, n, f, k, m, e, rfl⟩ ⟨r', p', q', d', n', f', k', m', e', rfl⟩
  exact ⟨r', p', q', d', n', f', k', m', e', rfl⟩

theorem StoreFrame.ite {p : Prop} [Decidable p] {s t u : State} (ht : StoreFrame s t) (hu : StoreFrame s u) :
    StoreFrame s (if p then t else u) := by
  split
  · exact ht
  · exact hu

theorem Counted.store {s t : State} (h : Counted s t) : StoreFrame s t := h.frame.dmc.store

theorem Issued.dmcFrame {c : Nat} {s t : State} (h : Issued c s t) : DmcFrame s t := h.rest

theorem Issued.store {c : Nat} {s t : State} (h : Issued c s t) : StoreFrame s t := h.dmcFrame.store

theorem foldl_dmcFrame {α : Type} {f : State → α → State} (h : ∀ t x, DmcFrame t (f t x)) (l : List α) (s : State) :
    DmcFrame s (l.foldl f s) := by
  induction l generalizing s with
  | nil => exact .refl s
  | cons x l ih => exact (h s x).trans (ih _)

theorem foldl_storeFrame {α : Type} {f : State → α → State} (h : ∀ t x, StoreFrame t (f t x)) (l : List α) (s : State) :
    StoreFrame s (l.foldl f s) := by
  induction l generalizing s with
  | nil => exact .refl s
  | cons x l ih => exact (h s x).trans (ih _)

/-- What the frame of memory leaves of the state. -/
theorem StoreFrame.keeps {s t : State} (h : StoreFrame s t) : t.cad = s.cad ∧ t.cfg = s.cfg ∧ t.gtime = s.gtime ∧ t.mode = s.mode ∧
    t.rae = s.rae := by
  obtain ⟨r, p, q, d, n, f, k, m, e, rfl⟩ := h
  exact ⟨rfl, rfl, rfl, rfl, rfl⟩

/-- A cadastre put in before and after. -/
theorem StoreFrame.withCad {s t : State} (c : CadSt) : StoreFrame s t → StoreFrame { s with cad := c } { t with cad := c } := by
  rintro ⟨r, p, q, d, n, f, k, m, e, rfl⟩
  exact ⟨_, _, _, _, _, _, _, _, _, rfl⟩

theorem StoreFrame.cad {s t : State} (h : StoreFrame s t) : t.cad = s.cad := h.keeps.1

/-- What the controllers' frame leaves beside that: what stands in memory, the packet layer and what has been put out. -/
theorem DmcFrame.keeps {s t : State} (h : DmcFrame s t) : t.cad = s.cad ∧ t.mem = s.mem ∧ t.pkt = s.pkt ∧ t.out = s.out ∧
    t.chains = s.chains := by
  obtain ⟨r, p, q, d, n, rfl⟩ := h
  exact ⟨rfl, rfl, rfl, rfl, rfl⟩

/-! ### Single updates -/

theorem State.wr_dmcFrame (s : State) (a : Nat) (v : Word) : DmcFrame s (s.wr a v) := ⟨_, _, _, _, _, rfl⟩

theorem State.event_dmcFrame (s : State) (a : Nat) (f : Fld) : DmcFrame s (s.event a f) := s.wr_dmcFrame ..

theorem State.satInc_dmcFrame (s : State) (a n : Nat) : DmcFrame s (s.satInc a n) := s.wr_dmcFrame ..

theorem State.setChan_dmcFrame (s : State) (c : Nat) (x : Chan) : DmcFrame s (s.setChan c x) := ⟨_, _, _, _, _, rfl⟩

theorem State.draw_dmcFrame (s : State) : DmcFrame s s.draw := ⟨_, _, _, _, _, rfl⟩

theorem State.flt_storeFrame (s : State) (f : FltSt) : StoreFrame s { s with flt := f } := ⟨_, _, _, _, _, _, _, _, _, rfl⟩

theorem State.errs_storeFrame (s : State) (e : Tab SymErr) : StoreFrame s { s with errs := e } := ⟨_, _, _, _, _, _, _, _, _, rfl⟩

/-! ### Alerts and faults (R241 to R243, R371 to R382) -/

theorem State.alert_storeFrame (s : State) (c k x y z w : Nat) : StoreFrame s (s.alert c k x y z w) := by
  have hqueue : ∀ (t : State) (j : Nat) (al : Alert), StoreFrame t (t.queueAlert j al) := fun t j al => by
    unfold State.queueAlert
    dsimp only
    split
    all_goals exact ⟨_, _, _, _, _, _, _, _, _, rfl⟩
  unfold State.alert State.driveAlertN
  dsimp only
  refine (foldl_storeFrame (fun t j => hqueue t j ⟨c, k, s.flt.aseq, s.now, x, y, z, w⟩) s.alertChains s).trans ?_
  split
  all_goals exact ⟨_, _, _, _, _, _, _, _, _, rfl⟩

theorem State.detect_storeFrame (s : State) (src a b : Nat) (forced : Bool) : StoreFrame s (s.detect src a b forced) := by
  have hform : ∀ (t : State) (sev : Nat), StoreFrame t (t.formEntry src sev a b s.now forced false) := fun t sev => by
    unfold State.formEntry
    refine StoreFrame.ite (StoreFrame.trans ?_ (State.alert_storeFrame ..)) ?_
    all_goals exact ⟨_, _, _, _, _, _, _, _, _, rfl⟩
  have hsticky : StoreFrame s (s.setSticky src) := (s.wr_dmcFrame ..).store
  unfold State.detect
  split
  · exact .refl s
  · refine StoreFrame.ite (.refl s) (StoreFrame.ite (StoreFrame.ite ?_ ?_) (StoreFrame.ite ?_ (hsticky.trans (hform _ _))))
    all_goals exact hsticky.trans (State.flt_storeFrame ..)

/-! ### Refreshes that follow the ingest queue (R174, R262) -/

theorem State.refreshed_dmcFrame (s : State) (c n owed : Nat) : DmcFrame s (s.refreshed c n owed) := by
  have hclose : DmcFrame s (s.prechargeAll c) := by
    unfold State.prechargeAll
    dsimp only
    split
    · exact .refl s
    · exact (Issued.command ..).dmcFrame.trans (State.setChan_dmcFrame ..)
  unfold State.refreshed
  split
  · exact .refl s
  · exact hclose.trans (foldl_dmcFrame (fun t i => (Issued.command ..).dmcFrame) _ _)

theorem State.issueRefreshes_dmcFrame (s : State) (c n : Nat) : DmcFrame s (s.issueRefreshes c n) := by
  have hrun : DmcFrame s ((s.setChan c { s.chan c with owed := (s.chan c).owed - n }).refreshed c n (s.chan c).owed) :=
    (s.setChan_dmcFrame ..).trans (State.refreshed_dmcFrame ..)
  unfold State.issueRefreshes
  dsimp only
  split
  · exact (hrun.trans (State.satInc_dmcFrame ..)).trans (State.event_dmcFrame ..)
  · exact hrun

theorem State.postponeUpdate_dmcFrame (s : State) (c : Nat) : DmcFrame s (s.postponeUpdate c) := by
  have hforce : ∀ t : State, DmcFrame t (t.forceRefresh c) := fun t => by
    unfold State.forceRefresh State.issueOwed
    dsimp only
    split
    · exact .refl t
    · split
      · exact t.issueRefreshes_dmcFrame ..
      · split
        · exact t.issueRefreshes_dmcFrame ..
        · exact .refl t
  unfold State.postponeUpdate
  dsimp only
  split
  · exact (s.setChan_dmcFrame ..).trans (hforce _)
  · split
    · exact s.setChan_dmcFrame ..
    · exact .refl s

/-- Credits and refreshes follow the queue without touching it (R21, R174, R175). -/
theorem State.queueMoved_dmcFrame (s : State) : DmcFrame s s.queueMoved := by
  refine s.holdUpdate_countFrame.dmc.trans ?_
  show DmcFrame _ s.holdUpdate.postponeAll
  unfold State.postponeAll
  split
  · exact .refl _
  · exact foldl_dmcFrame (fun t c => t.postponeUpdate_dmcFrame c) _ _

@[simp] theorem State.queueMoved_cad (s : State) : s.queueMoved.cad = s.cad := s.queueMoved_dmcFrame.keeps.1

/-! ### Writes and reads of the array (R284 to R296) -/

theorem State.store_storeFrame (s : State) (k : Nat) (d : BitVec 512) (e : SymErr) : StoreFrame s (s.store k d e) :=
  ⟨_, _, _, _, _, _, _, _, _, rfl⟩

theorem State.storeCmd_storeFrame (s : State) (c a : Nat) (d : BitVec 512) (e : SymErr) : StoreFrame s (s.storeCmd c a d e) := by
  rw [State.storeCmd_eq]
  exact (s.writeIssued_issued c a d e).store.trans (State.store_storeFrame ..)

theorem State.poisonWrite_storeFrame (s : State) (c a : Nat) : StoreFrame s (s.poisonWrite c a) :=
  (s.storeCmd_storeFrame ..).trans (State.satInc_dmcFrame ..).store

theorem State.issueWrite_storeFrame (s : State) (c a : Nat) (d : BitVec 512) (part : Option (Nat × Nat)) :
    StoreFrame s (s.issueWrite c a d part) := by
  have hcount : StoreFrame s (s.countCw 3 c a part true) := (Counted.countCw ..).store
  unfold State.issueWrite
  dsimp only
  split
  · exact (hcount.trans (State.storeCmd_storeFrame ..)).trans ((State.wr_dmcFrame ..).trans (State.event_dmcFrame ..)).store
  · exact hcount.trans (State.storeCmd_storeFrame ..)

theorem State.candidate_storeFrame (s : State) (c a : Nat) : StoreFrame s (s.candidate c a) := by
  have hqueue : ∀ (t : State) (b : Nat), StoreFrame t (t.queueLeg c b) := fun t b =>
    .ite (.refl t) (t.setChan_dmcFrame ..).store
  exact (s.setChan_dmcFrame ..).store.trans (hqueue _ _)

theorem State.latchEcc_storeFrame (s : State) (c a : Nat) (cls : EccClass) (l : SymErr) (src : Nat) :
    StoreFrame s (s.latchEcc c a cls l src) :=
  (((s.wr_dmcFrame ..).trans (State.wr_dmcFrame ..)).trans ((State.wr_dmcFrame ..).trans (State.wr_dmcFrame ..))).store

theorem State.reportEcc_storeFrame (s : State) (c a : Nat) (cls : EccClass) (l : SymErr) (src : Nat) (part : Option (Nat × Nat)) :
    StoreFrame s (s.reportEcc c a cls l src part) := by
  have hcorr : ∀ (t : State) (r : Nat), StoreFrame t (((((t.inc64 r).event (Reg.ECC_C_EVENTS c) Fld.ECC_C_EVENTS_CORR).countCw 0x17 c a
      part false).latchEcc c a cls l src).countHot c l) := fun t r =>
    ((((State.inc64_countFrame ..).dmc.trans (State.event_dmcFrame ..)).store.trans (Counted.countCw ..).store).trans
      (State.latchEcc_storeFrame ..)).trans (State.setChan_dmcFrame ..).store
  have hbad : ∀ (t : State) (r n : Nat) (f : Fld), StoreFrame t (((t.wrN r n).event (Reg.ECC_C_EVENTS c) f).latchEcc c a cls l src) :=
    fun t r n f => ((t.wr_dmcFrame ..).trans (State.event_dmcFrame ..)).store.trans (State.latchEcc_storeFrame ..)
  have htail : ∀ (t : State) (n : Nat), StoreFrame t ((t.candidate c a).detect n c a) := fun t n =>
    (t.candidate_storeFrame c a).trans (State.detect_storeFrame ..)
  cases cls with
  | clean => exact .refl s
  | corrected1 | corrected2 => exact (hcorr s _).trans (htail _ 64)
  | uncorrectable => exact (hbad s ..).trans (htail _ 16)
  | poison => exact (hbad s ..).trans (htail _ 65)
  | mismatch => exact ((hbad s ..).trans (htail _ 17)).trans (State.setChan_dmcFrame ..).store

theorem State.transientMismatch_storeFrame (s : State) (c a : Nat) (l : SymErr) (src : Nat) :
    StoreFrame s (s.transientMismatch c a l src) :=
  (((s.wr_dmcFrame ..).store.trans (State.latchEcc_storeFrame ..)).trans (State.candidate_storeFrame ..)).trans (State.detect_storeFrame ..)

theorem State.arrayRead_storeFrame (s : State) (c a : Nat) (errs : ReadErrs) (src : Nat) (part : Option (Nat × Nat)) :
    StoreFrame s (s.arrayRead c a errs src part).st := by
  have hread : ∀ t : State, StoreFrame t (((t.column c (t.plainCmd 1 a)).inc64 (Reg.DMC_RD_CNT c)).countCw 2 c a part true) := fun t =>
    ((Issued.column ..).store.trans (State.inc64_countFrame ..).dmc.store).trans (Counted.countCw ..).store
  have hcell : StoreFrame s (if errNorm errs.cell = [] then s else
      { s with errs := if errAdd (s.storedErr (memKey c a)) (errNorm errs.cell) = [] then Tab.del s.errs (memKey c a)
                       else Tab.put s.errs (memKey c a) (errAdd (s.storedErr (memKey c a)) (errNorm errs.cell)) }) := by
    exact .ite (.refl s) (s.errs_storeFrame _)
  have hreport : ∀ (t : State) (cls : EccClass) (l : SymErr) (src' : Nat),
      StoreFrame t (if src = 2 ∧ cls = .poison then t else t.reportEcc c a cls l src' part) := fun t cls l src' =>
    .ite (.refl t) (t.reportEcc_storeFrame ..)
  have hdraw : ∀ t u : State, StoreFrame t u → StoreFrame t u.draw := fun t u h => h.trans u.draw_dmcFrame.store
  have hwb : ∀ t : State, StoreFrame t (if src = 0 then t.addWb c a else t) := fun t => .ite (t.setChan_dmcFrame ..).store (.refl t)
  have hpoison : ∀ t : State, StoreFrame t (if src = 2 ∧ (s.chan c).pending a = true then t else t.poisonWrite c a) := fun t =>
    .ite (.refl t) (t.poisonWrite_storeFrame c a)
  have hstart := hcell.trans (hread _)
  unfold State.arrayRead
  dsimp only
  generalize State.countCw _ 2 c a part true = t at hstart ⊢
  generalize t.rawRead c a errs.line = r
  split
  · replace hstart := hstart.trans (t.transientMismatch_storeFrame c a r.2.1 src)
    generalize t.transientMismatch c a r.2.1 src = u at hstart ⊢
    generalize u.rawRead c a errs.reread = q
    split
    · exact hdraw _ _ (hstart.trans (hreport ..))
    · exact hdraw _ _ (hstart.trans (hreport ..))
    · exact hdraw _ _ ((hstart.trans (hreport ..)).trans (hwb _))
    · exact hdraw _ _ ((hstart.trans (hreport ..)).trans (hpoison _))
    · exact hdraw _ _ (hstart.trans (hreport ..))
  · split
    · exact hdraw _ _ (hstart.trans (hreport ..))
    · exact hdraw _ _ (hstart.trans (hreport ..))
    · exact hdraw _ _ ((hstart.trans (hreport ..)).trans (hwb _))
    · exact hdraw _ _ ((hstart.trans (hreport ..)).trans (hpoison _))
    · exact hdraw _ _ (hstart.trans (hreport ..))

/-! ### The merge buffer and requests that wait (R255, R257, R287 to R291) -/

theorem State.rmw_storeFrame (s : State) (c : Nat) (e : MergeEntry) (errs : ReadErrs) (part : Option (Nat × Nat)) :
    StoreFrame s (s.rmw c e errs part).st := by
  have hread := (s.rmwTaken_counted c e (trafficPart e.cls part)).store.trans
    ((s.rmwTaken c e (trafficPart e.cls part)).arrayRead_storeFrame c e.addr errs 1 (trafficPart e.cls part))
  have hpoison : ∀ t : State, StoreFrame t ((t.poisonWrite c e.addr).detect 16 c e.addr) := fun t =>
    (t.poisonWrite_storeFrame ..).trans (State.detect_storeFrame ..)
  unfold State.rmwTaken at hread
  dsimp only at hread
  unfold State.rmw
  dsimp only
  split
  · exact hread.trans (State.issueWrite_storeFrame ..)
  · split
    · exact hread
    · split
      · exact (hread.trans (hpoison _)).trans ((State.satInc_dmcFrame ..).trans (State.event_dmcFrame ..)).store
      · exact hread.trans ((State.satInc_dmcFrame ..).trans (State.event_dmcFrame ..)).store

theorem State.drainMerge_storeFrame (c n : Nat) (s : State) : StoreFrame s (s.drainMerge c n) := by
  induction n generalizing s with
  | zero => exact .refl s
  | succ n ih =>
    unfold State.drainMerge
    split
    · exact .refl s
    · split
      · exact .refl s
      · exact (State.rmw_storeFrame ..).trans (ih _)

theorem State.applyWrite_storeFrame (s : State) (c a : Nat) (d : BitVec 512) (w : BitVec 64) (cls paid : Nat) (part : Option (Nat × Nat)) :
    StoreFrame s (s.applyWrite c a d w cls paid part) := by
  have hchan : ∀ (t : State) (x : Chan), StoreFrame t (t.setChan c x) := fun t x => (t.setChan_dmcFrame c x).store
  have hwhole : ∀ (t : State) (v : BitVec 512), StoreFrame t ((t.freeMerge c a).issueWrite c a v (trafficPart cls part)) := fun t v =>
    (hchan t _).trans (State.issueWrite_storeFrame ..)
  have hfirst := hchan s { s.chan c with wb := (s.chan c).wb.filter (fun x => x != a) }
  unfold State.applyWrite
  dsimp only
  split
  · exact hfirst.trans (hwhole _ _)
  · split
    · split
      · exact hfirst.trans (hwhole _ _)
      · exact hfirst.trans (hchan _ _)
    · split
      · exact (hfirst.trans (hchan _ _)).trans (State.drainMerge_storeFrame ..)
      · exact hfirst.trans (hchan _ _)

theorem State.askWrite_storeFrame (s : State) (c a cls : Nat) (conf : Bool) (since : Nat) (d : BitVec 512) (w : BitVec 64) :
    StoreFrame s (s.askWrite c a cls conf since d w) := by
  unfold State.askWrite
  split
  · exact (s.setChan_dmcFrame ..).store
  · unfold State.askChan
    dsimp only
    obtain ⟨m, hm⟩ := State.promote_dmc c (List.length ((s.setChan c { s.chan c with arb := (s.chan c).arb ++
      [⟨s.dmc.reqSeq, a, cls, conf, since, .write d w (paidBytes conf w), none⟩] }).chan c).arb) _
    rw [hm]
    exact ⟨_, _, _, _, _, _, _, _, _, rfl⟩

theorem State.writeOrWait_storeFrame (s : State) (c a : Nat) (d : BitVec 512) (w : BitVec 64) (cls : Nat) (conf : Bool) (since : Nat)
    (part : Option (Nat × Nat)) : StoreFrame s (s.writeOrWait c a d w cls conf since part) := by
  unfold State.writeOrWait
  split
  · exact s.askWrite_storeFrame ..
  · exact ((s.applyWrite_storeFrame ..).trans (Counted.latServed ..).store).trans (Issued.sentFor ..).store

/-! ### Runs of bytes of a partition (R235, R252) -/

theorem State.writeRun_storeFrame (pi : Nat) (p : Partition) (cls : Nat) (conf : Bool) (n : Nat) (s : State) (o : Nat) (l : List Byte) :
    StoreFrame s (s.writeRun pi p o l cls conf n) := by
  induction n generalizing s o l with
  | zero => exact .refl s
  | succ n ih =>
    unfold State.writeRun
    dsimp only
    split
    · exact .refl s
    · refine StoreFrame.trans ?_ (ih _ _ _)
      split
      · exact s.writeOrWait_storeFrame ..
      · exact .refl s

theorem State.writeBytes_storeFrame (s : State) (pi : Nat) (p : Partition) (o : Nat) (l : List Byte) (cls : Nat) (conf : Bool) :
    StoreFrame s (s.writeBytes pi p o l cls conf) := s.writeRun_storeFrame ..

/-! ### The heap's low mark (R109) -/

/-- Of the cadastre the heap's check moves the low mark alone. -/
theorem State.heapCheck_frame (s : State) : ∃ b, StoreFrame { s with cad := { s.cad with heapLow := b } } s.heapCheck := by
  unfold State.heapCheck
  split
  · exact ⟨true, State.alert_storeFrame ..⟩
  · split
    · exact ⟨false, .refl _⟩
    · exact ⟨s.cad.heapLow, .refl s⟩

end Sys2Proof.Machine
end

section
/-! PROOFS. The commands of domains, pools and sources: each processes its domains one after the other, and touches no other (R98 to R104,
R115 to R118). -/
namespace Sys2Proof.Machine

/-! ### Domains read after a write -/

@[simp] theorem State.domain_setDomain (s : State) (d : Nat) (x : Domain) : (s.setDomain d x).domain d = x := by
  simp [State.domain, State.setDomain]

theorem State.domain_setDomain_ne (s : State) {d e : Nat} (x : Domain) (h : e ≠ d) : (s.setDomain d x).domain e = s.domain e := by
  simp [State.domain, State.setDomain, Tab.lookD_put_ne, h]

theorem State.domain_of_cad {s t : State} (h : t.cad.domains = s.cad.domains) (d : Nat) : t.domain d = s.domain d := by
  rw [State.domain, State.domain, h]

/-- A fold that handles the domains from `first` on one by one: each is as its own step leaves it, in a state that agrees with the first
on what every step keeps, and the domains outside are as they were. -/
theorem foldl_domains {β : Type} (keep : State → β) {f : State → Nat → State} {first : Nat} (hk : ∀ t i, keep (f t i) = keep t)
    (ho : ∀ t i d, d ≠ first + i → (f t i).domain d = t.domain d) (m : Nat) (s : State) :
    keep ((List.range m).foldl f s) = keep s ∧
    (∀ d i, first + i = d → i < m → ∃ u, keep u = keep s ∧ u.domain d = s.domain d ∧
      ((List.range m).foldl f s).domain d = (f u i).domain d) ∧
    ∀ d, d < first ∨ first + m ≤ d → ((List.range m).foldl f s).domain d = s.domain d := by
  induction m with
  | zero => exact ⟨rfl, fun d i _ hi => absurd hi (by omega), fun _ _ => rfl⟩
  | succ m ih =>
    obtain ⟨hkeep, hin, hout⟩ := ih
    rw [List.range_succ, List.foldl_append, List.foldl_cons, List.foldl_nil]
    refine ⟨(hk _ _).trans hkeep, fun d i hd hi => ?_, fun d hd => ?_⟩
    · rcases Nat.lt_succ_iff_lt_or_eq.mp hi with hi | rfl
      · obtain ⟨u, hu, hs, ht⟩ := hin d i hd hi
        exact ⟨u, hu, hs, by rw [ho _ _ _ (by omega), ht]⟩
      · exact ⟨_, hkeep, hout _ (by omega), rfl⟩
    · rw [ho _ _ _ (by omega), hout _ (by omega)]

/-! ### A command accepted in SERVICE (R117, R118) -/

/-- How many of a command's domains are processed when its step ends. -/
def processed (count : Nat) (upto : Option (BitVec 25)) : Nat :=
  min (match upto with
    | none => count
    | some k => k.toNat) count

/-- The state in which a command begins. -/
def State.domBegun (s : State) : State := { s with cad := { s.cad with done := 0, stopped := false } }

/-- The domains of a command processed. -/
def State.domProcessed (s : State) (c : DomCmd) (n : Nat) : State :=
  (List.range n).foldl (fun (t : State) i => t.domOne c i) s.domBegun

theorem State.domStart_eq (s : State) (c : DomCmd) (upto : Option (BitVec 25)) : s.domStart c upto =
    let n := processed c.count upto
    let t := s.domProcessed c n
    { t with cad := { t.cad with done := n, dcmd := if n < c.count then some c else none } } := rfl

/-- The step of a command that is accepted: how far it is, and the domains as processing left them. -/
theorem State.domStart_leaves (s : State) (c : DomCmd) (upto : Option (BitVec 25))
    (hs : (s.domProcessed c (processed c.count upto)).cad.stopped = false) :
    ((s.domStart c upto).cad.done = processed c.count upto ∧ (s.domStart c upto).cad.stopped = false ∧
      (s.domStart c upto).cad.dcmd.isSome = decide (processed c.count upto < c.count)) ∧
    ∀ d, (s.domStart c upto).domain d = (s.domProcessed c (processed c.count upto)).domain d := by
  rw [State.domStart_eq]
  refine ⟨⟨rfl, hs, ?_⟩, fun d => rfl⟩
  dsimp only
  split <;> simp_all

/-! ### OPEN, CLOSE and RELEASE, domain by domain (R98, R101, R104) -/

section
variable (s : State)

theorem State.openOne_leaves (c : DomCmd) (i : Nat) :
    ((s.openOne c i).domain (c.first + i) = { c.new with
      state := .open, site := c.new.site + i / s.platBlocks c.new.plat, block := i % s.platBlocks c.new.plat }) ∧
    (∀ d, d ≠ c.first + i → (s.openOne c i).domain d = s.domain d) := by
  refine ⟨by simp [State.openOne, State.domain], fun d hd => by simp [State.openOne, State.domain, Tab.lookD_put_ne, hd]⟩

theorem State.closeOne_open {q : QueuedClose} {i : Nat} (h : (s.domain (q.first + i)).state = .open) :
    (s.closeOne q i).domain (q.first + i) = { s.domain (q.first + i) with
      state := .closing, closeSeq := q.seq, timer := q.fenced, fenceDue := 2 * s.now + 625 * s.fenceTime, missing := false
      fence := if q.fenced then some (q.fenceId, q.srcs, q.first) else none } := by
  rw [State.closeOne, if_pos h, State.domain_setDomain]

theorem State.closeOne_passed {q : QueuedClose} {i : Nat} (h : (s.domain (q.first + i)).state ≠ .open) : s.closeOne q i = s := by
  rw [State.closeOne, if_neg h]

theorem State.closeOne_keeps (q : QueuedClose) (i : Nat) : (s.closeOne q i).regs = s.regs ∧ (s.closeOne q i).gtime = s.gtime ∧
    (s.closeOne q i).cad.stopped = s.cad.stopped ∧ ∀ d, d ≠ q.first + i → (s.closeOne q i).domain d = s.domain d := by
  unfold State.closeOne
  dsimp only
  split
  · exact ⟨rfl, rfl, rfl, fun d hd => State.domain_setDomain_ne _ _ hd⟩
  · exact ⟨rfl, rfl, rfl, fun _ _ => rfl⟩

theorem State.fenceTime_of_regs {s t : State} (h : t.regs = s.regs) : t.fenceTime = s.fenceTime := by
  unfold State.fenceTime State.rdN State.rd
  rw [h]

theorem State.platBlocks_of_regs {s t : State} (h : t.regs = s.regs) (k : Nat) : t.platBlocks k = s.platBlocks k := by
  unfold State.platBlocks State.rdN State.rd
  rw [h]

theorem State.checkRound_cad (p : Nat) (runner : Option Nat) : ∃ l, (s.checkRound p runner).cad = { s.cad with pools := l } := by
  unfold State.checkRound
  split
  · dsimp only
    split
    · exact ⟨_, rfl⟩
    · exact ⟨s.cad.pools, rfl⟩
  · exact ⟨s.cad.pools, rfl⟩

theorem State.releaseOne_leaves (d : Nat) : (s.releaseOne d).cad.domains = Tab.del s.cad.domains d ∧
    (s.releaseOne d).cad.stopped = s.cad.stopped := by
  unfold State.releaseOne
  dsimp only
  obtain ⟨l, hl⟩ := State.checkRound_cad (State.heapCheck _) (s.domain d).pool none
  obtain ⟨b, hb⟩ := State.heapCheck_frame _
  rw [hl, hb.cad]
  split <;> simp

theorem State.releaseOne_domain (d : Nat) : ((s.releaseOne d).domain d).state = .free ∧
    ∀ e, e ≠ d → (s.releaseOne d).domain e = s.domain e := by
  simp only [State.domain, (s.releaseOne_leaves d).1, Tab.lookD, Tab.look_del]
  exact ⟨by simp, fun e he => by simp [he]⟩

end

/-! ### The commands (R117, R118) -/

section
variable {s : State} {r : Req}

/-- The status of a command of the cadastre and the command. -/
def cadCommands (s : State) (r : Req) (src : Fin 256) (upto : Option (BitVec 25)) (fenced : Bool) : List (Instr × Status) :=
  [(.domOpen r upto, openStatus r s), (.domClose r fenced upto, closeStatus r fenced s), (.domRelease r upto, releaseStatus r s),
    (.poolDef r upto, poolDefStatus r s), (.poolDel r upto, poolDelStatus r s), (.resync r src, resyncStatus r s)]

/-- Each of them is a host write: its status decides. -/
theorem exec_cadCommand {c : Instr} {st : Status} {src : Fin 256} {upto : Option (BitVec 25)} {fenced : Bool}
    (h : (c, st) ∈ cadCommands s r src upto fenced) : ∃ a effect, exec c s = .next (s.hostWrite r a st effect) := by
  simp only [cadCommands, List.mem_cons, Prod.mk.injEq, List.not_mem_nil, or_false] at h
  rcases h with ⟨rfl, rfl⟩ | ⟨rfl, rfl⟩ | ⟨rfl, rfl⟩ | ⟨rfl, rfl⟩ | ⟨rfl, rfl⟩ | ⟨rfl, rfl⟩
  all_goals exact ⟨_, _, rfl⟩

theorem exec_cadCommand_refused (hrec : s.upd.recovery = false) {c : Instr} {st : Status} {src : Fin 256} {upto : Option (BitVec 25)}
    {fenced : Bool} (h : (c, st) ∈ cadCommands s r src upto fenced) (hst : st ≠ .ok) :
    ∃ t, exec c s = .next t ∧ t.answer = ⟨st, []⟩ ∧ t.cad = s.cad := by
  obtain ⟨a, effect, he⟩ := exec_cadCommand h
  exact ⟨_, he.trans (congrArg Host.Outcome.next (State.hostWrite_not_ok _ _ _ _ _ hrec hst)), State.answer_reject .., by simp⟩

theorem exec_domOpen_ok (hrec : s.upd.recovery = false) (h : openStatus r s = .ok) (upto : Option (BitVec 25)) :
    exec (.domOpen r upto) s = .next ((s.domStart (s.domAsked 1 false) upto).reply .ok) :=
  congrArg Host.Outcome.next (State.hostWrite_ok _ _ _ _ _ hrec h)

theorem exec_domRelease_ok (hrec : s.upd.recovery = false) (h : releaseStatus r s = .ok) (upto : Option (BitVec 25)) :
    exec (.domRelease r upto) s = .next ((s.domStart (s.domAsked 3 false) upto).reply .ok) :=
  congrArg Host.Outcome.next (State.hostWrite_ok _ _ _ _ _ hrec h)

theorem exec_domClose_ok (hrec : s.upd.recovery = false) {fenced : Bool} (h : closeStatus r fenced s = .ok) (upto : Option (BitVec 25)) :
    exec (.domClose r fenced upto) s = .next ((s.acceptClose fenced upto).reply .ok) :=
  congrArg Host.Outcome.next (State.hostWrite_ok _ _ _ _ _ hrec h)

theorem exec_poolDef_ok (hrec : s.upd.recovery = false) (h : poolDefStatus r s = .ok) (upto : Option (BitVec 25)) :
    exec (.poolDef r upto) s = .next ((s.domStart (s.domAsked 4 false) upto).reply .ok) :=
  congrArg Host.Outcome.next (State.hostWrite_ok _ _ _ _ _ hrec h)

theorem exec_poolDel_ok (hrec : s.upd.recovery = false) (h : poolDelStatus r s = .ok) (upto : Option (BitVec 25)) :
    exec (.poolDel r upto) s = .next ((s.domStart (s.domAsked 5 false) upto).reply .ok) :=
  congrArg Host.Outcome.next (State.hostWrite_ok _ _ _ _ _ hrec h)

theorem exec_resync_ok (hrec : s.upd.recovery = false) (h : resyncStatus r s = .ok) (src : Fin 256) :
    exec (.resync r src) s = .next ((s.loseNx src).reply .ok) :=
  congrArg Host.Outcome.next (State.hostWrite_ok _ _ _ _ _ hrec h)

end

/-! ### What they leave -/

section
variable (s : State) (upto : Option (BitVec 25))

/-- OPEN opens the domains it has processed as the registers describe them, and no other (R98). -/
theorem State.domStart_open : let n := processed s.dCount upto
    let t := s.domStart (s.domAsked 1 false) upto
    (t.cad.done = n ∧ t.cad.stopped = false ∧ t.cad.dcmd.isSome = decide (n < s.dCount)) ∧
    (∀ i < n, t.domain (s.dFirst + i) = s.openedDomain i) ∧
    ∀ d, d < s.dFirst ∨ s.dFirst + n ≤ d → t.domain d = s.domain d := by
  obtain ⟨hkeep, hin, hout⟩ := foldl_domains (fun t : State => (t.regs, t.cad.stopped)) (f := fun t i => t.openOne (s.domAsked 1 false) i)
    (first := s.dFirst) (fun t i => rfl) (fun t i => (t.openOne_leaves (s.domAsked 1 false) i).2) (processed s.dCount upto) s.domBegun
  obtain ⟨hbusy, hdom⟩ := s.domStart_leaves (s.domAsked 1 false) upto (congrArg Prod.snd hkeep)
  refine ⟨hbusy, fun i hi => ?_, fun d hd => (hdom d).trans (hout d hd)⟩
  obtain ⟨u, hu, -, ht⟩ := hin _ i rfl hi
  have hopened := (u.openOne_leaves (s.domAsked 1 false) i).1
  rw [State.platBlocks_of_regs (s := s) (congrArg Prod.fst hu)] at hopened
  exact (hdom _).trans (ht.trans hopened)

/-- CLOSE takes the OPEN domains it has processed into CLOSING, and touches no other (R101). -/
theorem State.domStart_close (fenced : Bool) : let n := processed s.dCount upto
    let t := s.domStart (s.domAsked 2 fenced) upto
    (t.cad.done = n ∧ t.cad.stopped = false ∧ t.cad.dcmd.isSome = decide (n < s.dCount)) ∧
    (∀ d, s.dFirst ≤ d → d < s.dFirst + n → (s.domain d).state = .open → (t.domain d).state = .closing ∧
      (t.domain d).fence = (if fenced then some (s.rdN Reg.CAD_FENCE_ID, s.fenceSrcs, s.dFirst) else none) ∧
      (t.domain d).timer = fenced ∧ (t.domain d).fenceDue = 2 * s.now + 625 * s.fenceTime) ∧
    ∀ d, d < s.dFirst ∨ s.dFirst + n ≤ d ∨ (s.domain d).state ≠ .open → t.domain d = s.domain d := by
  obtain ⟨hkeep, hin, hout⟩ := foldl_domains (fun t : State => (t.regs, t.gtime, t.cad.stopped))
    (f := fun t i => t.closeOne (s.domAsked 2 fenced).close i) (first := (s.domAsked 2 fenced).close.first)
    (fun t i => by
      obtain ⟨hr, hg, hs, -⟩ := t.closeOne_keeps (s.domAsked 2 fenced).close i
      exact Prod.ext hr (Prod.ext hg hs))
    (fun t i => (t.closeOne_keeps (s.domAsked 2 fenced).close i).2.2.2) (processed s.dCount upto) s.domBegun
  obtain ⟨hbusy, hdom⟩ := s.domStart_leaves (s.domAsked 2 fenced) upto (congrArg (fun x => x.2.2) hkeep)
  have hfirst : (s.domAsked 2 fenced).close.first = s.dFirst := rfl
  refine ⟨hbusy, fun d h1 h2 ho => ?_, fun d hd => ?_⟩
  · obtain ⟨i, hi⟩ : ∃ i, (s.domAsked 2 fenced).close.first + i = d := ⟨d - s.dFirst, by omega⟩
    obtain ⟨u, hu, hs, ht⟩ := hin d i hi (by omega)
    subst hi
    have hopen : (u.domain ((s.domAsked 2 fenced).close.first + i)).state = .open := (congrArg Domain.state hs).trans ho
    have hnow : u.now = s.now := congrArg (fun x => x.2.1.toNat) hu
    have hclosed := (hdom _).trans (ht.trans (u.closeOne_open hopen))
    rw [hnow, State.fenceTime_of_regs (s := s) (congrArg Prod.fst hu)] at hclosed
    rw [hclosed]
    refine ⟨rfl, ?_, rfl, rfl⟩
    cases fenced <;> rfl
  · by_cases hr : d < s.dFirst ∨ s.dFirst + processed s.dCount upto ≤ d
    · exact (hdom d).trans (hout d hr)
    · have hnot : (s.domain d).state ≠ .open := (hd.resolve_left fun h => hr (.inl h)).resolve_left fun h => hr (.inr h)
      obtain ⟨i, hi⟩ : ∃ i, (s.domAsked 2 fenced).close.first + i = d := ⟨d - s.dFirst, by omega⟩
      obtain ⟨u, -, hs, ht⟩ := hin d i hi (by omega)
      subst hi
      have hpassed := u.closeOne_passed fun h => hnot ((congrArg Domain.state hs).symm.trans h)
      rw [hpassed] at ht
      exact (hdom _).trans (ht.trans hs)

/-- RELEASE frees the domains it has processed, and no other (R104). -/
theorem State.domStart_release : let n := processed s.dCount upto
    let t := s.domStart (s.domAsked 3 false) upto
    (t.cad.done = n ∧ t.cad.stopped = false ∧ t.cad.dcmd.isSome = decide (n < s.dCount)) ∧
    (∀ d, s.dFirst ≤ d → d < s.dFirst + n → (t.domain d).state = .free) ∧
    ∀ d, d < s.dFirst ∨ s.dFirst + n ≤ d → t.domain d = s.domain d := by
  obtain ⟨hkeep, hin, hout⟩ := foldl_domains (fun t : State => t.cad.stopped) (f := fun t i => t.releaseOne (s.dFirst + i))
    (first := s.dFirst) (fun t i => (t.releaseOne_leaves _).2) (fun t i => (t.releaseOne_domain _).2) (processed s.dCount upto) s.domBegun
  obtain ⟨hbusy, hdom⟩ := s.domStart_leaves (s.domAsked 3 false) upto hkeep
  refine ⟨hbusy, fun d h1 h2 => ?_, fun d hd => (hdom d).trans (hout d hd)⟩
  obtain ⟨i, rfl⟩ : ∃ i, d = s.dFirst + i := ⟨d - s.dFirst, by omega⟩
  obtain ⟨u, -, -, ht⟩ := hin _ i rfl (by omega)
  exact (congrArg Domain.state ((hdom _).trans ht)).trans (u.releaseOne_domain _).1

end

/-- A command on a pool has one entry to process, which it has where its step ends at all with one processed. -/
theorem processed_one {upto : Option (BitVec 25)} (h : upto ≠ some 0) : processed 1 upto = 1 := by
  cases upto with
  | none => simp [processed]
  | some k =>
    have hk : k ≠ 0 := fun hk => h (by rw [hk])
    have : k.toNat ≠ 0 := fun h0 => hk (BitVec.eq_of_toNat_eq h0)
    simp only [processed]
    omega

/-- Settles O22: each accepted command begins in the state of its registers and processes its domains one by one; the others are refused
by one host write. -/
theorem domainCommands : Obligations.DomainCommands := by
  intro s r src upto fenced hrec n busy
  have hn : n = processed s.dCount upto := by
    cases upto with
    | none => exact (Nat.min_self _).symm
    | some k => rfl
  clear_value n
  subst hn
  refine ⟨fun h => ?_, fun h hm => ?_, fun h hm => ?_, fun h => ?_, fun h hu => ?_, fun h hu => ?_, fun h => ?_, fun h => ?_, fun h => ?_,
    fun c st hmem hst => exec_cadCommand_refused hrec hmem hst⟩
  · obtain ⟨hbusy, hin, hout⟩ := s.domStart_open upto
    exact ⟨_, exec_domOpen_ok hrec h upto, rfl, hbusy, hin, hout⟩
  · obtain ⟨hbusy, hin, hout⟩ := s.domStart_close upto fenced
    refine ⟨_, exec_domClose_ok hrec h upto, ?_⟩
    rw [State.acceptClose, if_pos hm]
    exact ⟨rfl, hbusy, hin, hout⟩
  · rw [exec_domClose_ok hrec h, State.acceptClose, if_neg hm]
    rfl
  · obtain ⟨hbusy, hin, hout⟩ := s.domStart_release upto
    exact ⟨_, exec_domRelease_ok hrec h upto, rfl, hbusy, hin, hout⟩
  · rw [exec_poolDef_ok hrec h, State.domStart_eq, show (s.domAsked 4 false).count = 1 from rfl, processed_one hu]
    rfl
  · rw [exec_poolDel_ok hrec h, State.domStart_eq, show (s.domAsked 5 false).count = 1 from rfl, processed_one hu]
    rfl
  · rw [exec_poolDef_ok hrec h]
    rfl
  · rw [exec_poolDel_ok hrec h]
    rfl
  · exact exec_resync_ok hrec h src

end Sys2Proof.Machine
end

section
/-! PROOFS. The exception log's read pointer, and readouts (R91, R112, R113, R119). -/
namespace Sys2Proof.Machine

/-! ### CAD_EXC_RPTR (R91) -/

section
variable {s : State} {r : Req} (v : Word)

theorem excRptrStatus_host (h : s.role r = some .owner ∨ s.role r = some .operator) : excRptrStatus r v s =
    if (s.rdN Reg.CAD_EXC_WPTR + excEntries - s.rdN Reg.CAD_EXC_RPTR) % excEntries <
      (v.toNat % excEntries + excEntries - s.rdN Reg.CAD_EXC_RPTR) % excEntries then .eRange else .ok := by
  rcases h with h | h <;> simp [excRptrStatus, firstStatus, State.hostChecks, h]

theorem excRptrStatus_observer (h : s.role r = some .observer) : excRptrStatus r v s = .ePriv := by
  simp [excRptrStatus, firstStatus, State.hostChecks, h]

theorem exec_cadExcRptrWrite_ok (hrec : s.upd.recovery = false) (h : excRptrStatus r v s = .ok) :
    exec (.cadExcRptrWrite r v) s = .next ((s.wrN Reg.CAD_EXC_RPTR (v.toNat % excEntries)).reply .ok) :=
  congrArg Host.Outcome.next (State.hostWrite_ok _ _ _ _ _ hrec h)

/-- A refused write leaves the pointers and the log. -/
theorem exec_cadExcRptrWrite_refused (hrec : s.upd.recovery = false) {st : Status} (h : excRptrStatus r v s = st) (hst : st ≠ .ok) :
    ∃ t, exec (.cadExcRptrWrite r v) s = .next t ∧ t.answer = ⟨st, []⟩ ∧ t.rd Reg.CAD_EXC_RPTR = s.rd Reg.CAD_EXC_RPTR ∧
      t.rd Reg.CAD_EXC_WPTR = s.rd Reg.CAD_EXC_WPTR ∧ t.cad = s.cad := by
  subst h
  refine ⟨_, congrArg Host.Outcome.next (State.hostWrite_not_ok _ _ _ _ _ hrec hst), State.answer_reject .., ?_, ?_, by simp⟩
  all_goals exact State.rd_reject _ _ _ _ _ _ _ (by decide) (by decide) (by decide) (by decide) (by decide)

end

/-- Settles O25: for a host the one check left after the roles is that of the distance; an Observer fails the role check. -/
theorem exceptionPointer : Obligations.ExceptionPointer := by
  intro s r v hrec
  refine ⟨fun hr hd => ?_, fun hr hd => ?_, fun hr => ?_⟩
  · have hst : excRptrStatus r v s = .ok := (excRptrStatus_host v hr).trans (if_neg (Nat.not_lt.mpr hd))
    have hlt : v.toNat % 4194304 < 4294967296 := by omega
    refine ⟨_, exec_cadExcRptrWrite_ok v hrec hst, rfl, ?_, fun a ha => State.rd_wr_ne _ _ _ _ ha, rfl⟩
    rw [State.rdN, State.rd_reply, State.wrN, State.rd_wr_same, BitVec.toNat_ofNat, excEntries]
    omega
  · exact exec_cadExcRptrWrite_refused v hrec ((excRptrStatus_host v hr).trans (if_pos hd)) (by decide)
  · exact exec_cadExcRptrWrite_refused v hrec (excRptrStatus_observer v hr) (by decide)

/-! ### Readouts (R112, R113, R119) -/

section
variable {s : State} {r : Req} {f : Form}

/-- A readout that passes its checks goes to a partition of the configuration. -/
theorem readoutStatus_part (h : readoutStatus r f s = .ok) : ∃ p, Tab.look s.cfg.parts s.rPart = some p := by
  have hchecks := firstStatus_ok h (by simp [State.hostChecks])
  cases hl : Tab.look s.cfg.parts s.rPart with
  | some p => exact ⟨p, rfl⟩
  | none => simpa [hl] using hchecks (_, .eAccess) (List.mem_append_right _ (List.mem_cons_of_mem _ (List.mem_cons_of_mem _
      (List.mem_cons_of_mem _ (List.mem_singleton_self _)))))

theorem readoutStatus_observer (h : s.role r = some .observer) : readoutStatus r f s = .ePriv := by
  simp [readoutStatus, firstStatus, State.hostChecks, h]

theorem readoutStatus_state (hr : s.role r = some .owner ∨ s.role r = some .operator)
    (h : s.mode ≠ .service ∨ formAdmits f (s.domain s.rDom).state = false) : readoutStatus r f s = .eState := by
  have hbad : (s.mode != .service || !formAdmits f (s.domain s.rDom).state) = true := by
    rcases h with h | h <;> simp [h]
  rcases hr with hr | hr <;> simp [readoutStatus, firstStatus, State.hostChecks, hr, hbad]

theorem readoutStatus_busy (hr : s.role r = some .owner ∨ s.role r = some .operator) (hm : s.mode = .service)
    (hf : formAdmits f (s.domain s.rDom).state = true) (hb : s.cad.readout.isSome = true) : readoutStatus r f s = .eBusy := by
  rcases hr with hr | hr <;> simp [readoutStatus, firstStatus, State.hostChecks, hr, hm, hf, hb]

/-- A readout that begins stands in progress with the entries that fit; writing them leaves the cadastre. -/
theorem State.startReadout_cad {p : Partition} (h : Tab.look s.cfg.parts s.rPart = some p) : ∃ conf, (s.startReadout f).cad =
    { s.cad with readout := some ⟨s.rDom, f.code, s.rPart, s.rOff,
        (fitting (s.rdN Reg.CAD_RMAX - 64) ((s.domain s.rDom).formEntries f)).length,
        decide ((fitting (s.rdN Reg.CAD_RMAX - 64) ((s.domain s.rDom).formEntries f)).length < ((s.domain s.rDom).formEntries f).length),
        (s.domain s.rDom).folded, s.now, conf⟩ } := by
  have hwrites : ∀ (n label o : Nat) (l : List Byte), StoreFrame s
      ((s.traffic s.readoutClass n label).1.writeBytes s.rPart p o l s.readoutClass (s.traffic s.readoutClass n label).2) :=
    fun n label o l => ((Counted.charge ..).store.trans (Counted.servedLabel ..).store).trans (State.writeBytes_storeFrame ..)
  unfold State.startReadout
  rw [h]
  dsimp only
  rw [(hwrites ..).cad]
  exact ⟨_, rfl⟩

theorem State.readoutCmd_refused (hrec : s.upd.recovery = false) (h : readoutStatus r f s ≠ .ok) :
    s.readoutCmd r f = s.reject r Reg.CAD_RCMD true 2 (readoutStatus r f s) := State.hostWrite_not_ok _ _ _ _ _ hrec h

end

theorem exec_readoutDone_none {s : State} (h : s.cad.readout = none) : exec .readoutDone s = .next s := by
  show execReadoutDone s = _
  rw [execReadoutDone, h]

/-- The end of a readout writes its header and clears it (R113). -/
theorem exec_readoutDone_some {s : State} {x : Readout} (h : s.cad.readout = some x) : ∃ t, exec .readoutDone s = .next t ∧
    t.cad = { s.cad with readout := none, rstat := if x.cut then Status.eResource.code else Status.ok.code } := by
  show ∃ t, execReadoutDone s = _ ∧ _
  rw [execReadoutDone, h]
  dsimp only
  split
  · exact ⟨_, rfl, rfl⟩
  · exact ⟨_, rfl, (State.writeBytes_storeFrame ..).cad⟩

/-- Settles O24: the checks decide; a readout that begins or ends writes bytes, which leave the cadastre. -/
theorem readouts : Obligations.Readouts := by
  intro s r f
  have hexec : exec (match f with
      | .summary => .readoutSummary r
      | .points => .readoutPoints r
      | .lines => .readoutLines r
      | .closeRecord => .readoutCloseRecord r) s = .next (s.readoutCmd r f) := by
    cases f <;> rfl
  refine ⟨fun hrec hok => ?_, fun hrec st hst h => ?_, readoutStatus_observer, readoutStatus_state, readoutStatus_busy,
    fun x => exec_readoutDone_some, exec_readoutDone_none⟩
  · obtain ⟨p, hp⟩ := readoutStatus_part hok
    obtain ⟨conf, hc⟩ := State.startReadout_cad (f := f) hp
    refine ⟨_, conf, hexec.trans (congrArg Host.Outcome.next (State.hostWrite_ok _ _ _ _ _ hrec hok)), rfl, ?_, ?_⟩
    · show (s.startReadout f).cad.domains = _
      rw [hc]
    · show (s.startReadout f).cad.readout = _
      rw [hc]
  · subst h
    refine ⟨_, hexec.trans (congrArg Host.Outcome.next (State.readoutCmd_refused hrec hst)), State.answer_reject .., by simp, by simp⟩

end Sys2Proof.Machine
end

section
/-! PROOFS. Records of a source: exceptions and gaps, what is captured, and what ordering may move (R84 to R94, R233, R538). -/
namespace Sys2Proof.Machine

/-! ### Sources and logs read after a write -/

@[simp] theorem State.source_setSource (s : State) (i : Nat) (x : Source) : (s.setSource i x).source i = x := by
  simp [State.source, State.setSource]

theorem State.source_setSource_ne (s : State) {i j : Nat} (x : Source) (h : j ≠ i) : (s.setSource i x).source j = s.source j := by
  simp [State.source, State.setSource, Tab.lookD_put_ne, h]

@[simp] theorem State.capLog_setCapLog (s : State) (p : Nat) (x : CapLog) : (s.setCapLog p x).capLog p = x := by
  simp [State.capLog, State.setCapLog]

theorem State.source_of_cad {s t : State} (h : t.cad.sources = s.cad.sources) (i : Nat) : t.source i = s.source i := by
  rw [State.source, State.source, h]

theorem State.capLog_of_cad {s t : State} (h : t.cad.caps = s.cad.caps) (p : Nat) : t.capLog p = s.capLog p := by
  rw [State.capLog, State.capLog, h]

@[simp] theorem State.source_queueMoved (s : State) (i : Nat) : s.queueMoved.source i = s.source i := State.source_of_cad (by simp) i

@[simp] theorem State.capLog_queueMoved (s : State) (p : Nat) : s.queueMoved.capLog p = s.capLog p := State.capLog_of_cad (by simp) p

theorem State.now_of_edge {s t : State} (h : KeptEdge s t) : t.now = s.now := by rw [State.now, State.now, h.2.1]

/-! ### Exceptions and gaps (R86, R89 to R92) -/

/-- The cadastre after an exception: one more of all, and the log as given. -/
def CadSt.excepted (c : CadSt) (l : Tab ExcEntry) : CadSt := { c with exc := l, excTotal := (c.excTotal + 1) % 2 ^ 64 }

theorem State.logException_frame (s : State) (e : ExcEntry) :
    ∃ l, StoreFrame { s with cad := { s.cad with exc := l } } (s.logException e) := by
  unfold State.logException
  dsimp only
  split
  · exact ⟨s.cad.exc, _, _, _, _, _, _, _, _, _, rfl⟩
  · split
    · exact ⟨_, StoreFrame.trans ⟨_, _, _, _, _, _, _, _, _, rfl⟩ (State.alert_storeFrame ..)⟩
    · exact ⟨_, _, _, _, _, _, _, _, _, _, rfl⟩

/-- Of the cadastre an exception moves its log and the count of all. -/
theorem State.exception_frame (s : State) (b : List Byte) (c : Nat) (why : ExcReason) (d : Option Nat) :
    ∃ l, StoreFrame { s with cad := s.cad.excepted l } (s.exception b c why d) := by
  have hcount : StoreFrame s ((s.satInc (Reg.CAD_EXC_CNT why.code)).count 0x0F 1 why.code none (d.getD 0xFFFFFFFF) why.code) :=
    ((s.satInc_dmcFrame ..).trans (State.count_countFrame ..).dmc).store
  have hflag : ∀ t : State, StoreFrame t (if why = .heapFull then t.event Reg.CAD_EVENTS Fld.CAD_EVENTS_HEAP_FULL else t) := fun t =>
    .ite (t.event_dmcFrame ..).store (.refl t)
  unfold State.exception
  dsimp only
  generalize (s.satInc _).count 0x0F 1 why.code none _ why.code = s1 at hcount
  have hflag1 := hflag { s1 with cad := { s1.cad with excTotal := (s1.cad.excTotal + 1) % 2 ^ 64 } }
  generalize (if why = .heapFull then _ else _) = s3 at hflag1
  obtain ⟨l, hl⟩ := s3.logException_frame ⟨b, s3.now, why.code, c, d⟩
  refine ⟨l, StoreFrame.trans ?_ hl⟩
  have hcad : { s3.cad with exc := l } = s.cad.excepted l := by rw [hflag1.cad, hcount.cad]; rfl
  rw [hcad]
  exact (hcount.withCad _).trans (hflag1.withCad _)

theorem State.exception_cad (s : State) (b : List Byte) (c : Nat) (why : ExcReason) (d : Option Nat) :
    ∃ l, (s.exception b c why d).cad = s.cad.excepted l := by
  obtain ⟨l, hl⟩ := s.exception_frame b c why d
  exact ⟨l, hl.cad⟩

@[simp] theorem State.exception_sources (s : State) (b : List Byte) (c : Nat) (why : ExcReason) (d : Option Nat) :
    (s.exception b c why d).cad.sources = s.cad.sources := by
  obtain ⟨l, hl⟩ := s.exception_cad b c why d
  rw [hl]
  rfl

@[simp] theorem State.source_exception (s : State) (b : List Byte) (c : Nat) (why : ExcReason) (d : Option Nat) (i : Nat) :
    (s.exception b c why d).source i = s.source i := State.source_of_cad (by simp) i

/-- A gap of some numbers is declared newest among the source's gaps. -/
theorem State.declareGap_source (s : State) (src first : Nat) {n : Nat} (h : n ≠ 0) :
    (s.declareGap src first n).source src = { s.source src with gaps := ((first, n) :: (s.source src).gaps).take 16 } := by
  have hgap : ∀ (t : State) (x y z : Nat), (((t.satInc x).event y Fld.CAD_EVENTS_GAP).alert 0x30 0xFF src first z 0).source src =
      t.source src := fun t x y z => State.source_of_cad (by simp) src
  unfold State.declareGap
  rw [if_neg h, hgap, State.source_setSource, State.source_exception]

/-! ### What ordering may move (R84, R87) -/

/-- Ordering a source's records moves that source, the released records and what exceptions move. -/
structure Ordered (src : Nat) (s t : State) : Prop where
  sources : ∀ j, j ≠ src → t.source j = s.source j
  ingest : t.cad.ingest = s.cad.ingest

theorem Ordered.refl (src : Nat) (s : State) : Ordered src s s := ⟨fun _ _ => rfl, rfl⟩

theorem Ordered.trans {src : Nat} {s t u : State} (h : Ordered src s t) (k : Ordered src t u) : Ordered src s u :=
  ⟨fun j hj => (k.sources j hj).trans (h.sources j hj), k.ingest.trans h.ingest⟩

theorem Ordered.of_cad {src : Nat} {s t : State} (hs : t.cad.sources = s.cad.sources) (hi : t.cad.ingest = s.cad.ingest) :
    Ordered src s t := ⟨fun j _ => State.source_of_cad hs j, hi⟩

theorem Ordered.setSource (s : State) (src : Nat) (x : Source) : Ordered src s (s.setSource src x) :=
  ⟨fun _ hj => s.source_setSource_ne x hj, rfl⟩

theorem Ordered.exception (src : Nat) (s : State) (b : List Byte) (c : Nat) (why : ExcReason) (d : Option Nat) :
    Ordered src s (s.exception b c why d) := by
  obtain ⟨l, hl⟩ := s.exception_cad b c why d
  exact .of_cad (by rw [hl]; rfl) (by rw [hl]; rfl)

theorem Ordered.declareGap (s : State) (src first n : Nat) : Ordered src s (s.declareGap src first n) := by
  unfold State.declareGap
  split
  · exact .refl src s
  · have hgap : ∀ (t : State) (x y z : Nat), Ordered src t (((t.satInc x).event y Fld.CAD_EVENTS_GAP).alert 0x30 0xFF src first z 0) :=
      fun t x y z => .of_cad (by simp) (by simp)
    exact ((Ordered.exception ..).trans (.setSource ..)).trans (hgap ..)

theorem Ordered.release (s : State) (src : Nat) (f : FailRec) (late : Bool) : Ordered src s (s.release src f late) := by
  have hlate : Ordered src s (if late = true then s.event Reg.CAD_EVENTS Fld.CAD_EVENTS_LATE else s) := by
    split
    · exact .of_cad (by simp) (by simp)
    · exact .refl src s
  unfold State.release
  dsimp only
  split
  · exact hlate.trans (.setSource ..)
  · split
    · exact hlate.trans (.of_cad rfl rfl)
    · exact hlate.trans (.exception ..)

theorem Ordered.releaseRun (src : Nat) (l : List (Nat × FailRec)) (s : State) : Ordered src s (s.releaseRun src l) := by
  induction l generalizing s with
  | nil => exact .refl src s
  | cons h t ih =>
    unfold State.releaseRun
    dsimp only
    split
    · exact ((Ordered.setSource ..).trans (.release ..)).trans (ih _)
    · exact .refl src s

theorem Ordered.releaseAll (src : Nat) (l : List (Nat × FailRec)) (s : State) (pos : Option Nat) :
    Ordered src s (s.releaseAll src pos l) := by
  induction l generalizing s pos with
  | nil => exact .refl src s
  | cons h t ih =>
    unfold State.releaseAll
    dsimp only
    refine Ordered.trans ?_ (((Ordered.setSource ..).trans (.release ..)).trans (ih _ _))
    split
    · exact .refl src s
    · exact .declareGap ..

theorem Ordered.inOrder (s : State) (src q : Nat) (f : FailRec) : Ordered src s (s.inOrder src q f) :=
  ((Ordered.setSource ..).trans (.release ..)).trans (.releaseRun ..)

theorem Ordered.pushWindow (s : State) (src nx new : Nat) : Ordered src s (s.pushWindow src nx new) :=
  (((Ordered.releaseAll ..).trans (.declareGap ..)).trans (.setSource ..)).trans (.releaseRun ..)

theorem Ordered.timerUpdate (s : State) (src : Nat) (nx : Option Nat) : Ordered src s (s.timerUpdate src nx) := .setSource ..

theorem Ordered.arrive (s : State) (src : Nat) (f : FailRec) : Ordered src s (s.arrive src f) := by
  have hhold : ∀ (t : State) (b : Bool) (y : Source), Ordered src t (if b then t.exception f.bytes f.chain .duplicate none
      else t.setSource src y) := fun t b y => by
    split
    · exact .exception ..
    · exact .setSource ..
  unfold State.arrive
  dsimp only
  refine Ordered.trans ?_ (.timerUpdate ..)
  split
  · split
    · exact .inOrder ..
    · split
      · exact hhold ..
      · split
        · rename_i nx _ _ _ _ _
          refine Ordered.trans (t := s.pushWindow src nx ((recSseq f.bytes + 4294967296 - 1023) % 4294967296)) (.pushWindow ..) ?_
          split
          · split
            · exact .inOrder ..
            · exact hhold ..
          · exact .refl ..
        · split
          · exact .exception ..
          · split
            · exact .release ..
            · exact .exception ..
  · exact (Ordered.releaseAll ..).trans (.inOrder ..)

theorem Ordered.orderRecord (s : State) (f : FailRec) : Ordered (recSource f.bytes) s (s.orderRecord f) := by
  unfold State.orderRecord
  dsimp only
  repeat' split
  · exact .exception ..
  · exact .exception ..
  · exact .exception ..
  · exact .exception ..
  · exact .arrive ..

theorem Ordered.queueMoved (src : Nat) (s : State) : Ordered src s s.queueMoved := .of_cad (by simp) (by simp)

/-! ### Raw capture (R93, R94) -/

theorem State.writeBlockCws_storeFrame (p : Nat) (part : Partition) (x : CapLog) (n : Nat) (s : State) (i : Nat) :
    StoreFrame s (s.writeBlockCws p part x i n) := by
  induction n generalizing s i with
  | zero => exact .refl s
  | succ n ih =>
    unfold State.writeBlockCws
    dsimp only
    exact ((Counted.charge ..).store.trans ((Counted.served ..).store.trans (State.writeBytes_storeFrame ..))).trans (ih _ _)

/-- The log of a partition after its block has been written out (R93). -/
def CapLog.written (x : CapLog) (size : Nat) (ring : Bool) : CapLog :=
  if x.wptr + 4096 < size then { x with wptr := x.wptr + 4096, seq := (x.seq + 1) % 4294967296, recs := [] }
  else if ring then { x with wptr := 0, seq := (x.seq + 1) % 4294967296, recs := [], wraps := sat32 x.wraps 1 }
  else { x with wptr := x.wptr + 4096, seq := (x.seq + 1) % 4294967296, recs := [], full := true }

/-- A block written out moves the log of its partition alone (R93, R94). -/
theorem State.writeBlock_cad {s : State} {p : Nat} {part : Partition} (h : Tab.look s.cfg.parts p = some part) (ring : Bool) :
    (s.writeBlock p ring).cad = { s.cad with caps := Tab.put s.cad.caps p ((s.capLog p).written part.size ring) } := by
  have hcws := (s.writeBlockCws_storeFrame p part (s.capLog p) 64 0).cad
  unfold State.writeBlock CapLog.written
  simp only [h]
  generalize s.writeBlockCws p part (s.capLog p) 0 64 = t at hcws
  split
  · rw [← hcws]
    rfl
  · split
    · rw [← hcws]
      rfl
    · rw [← hcws]
      exact (State.alert_storeFrame ..).cad

theorem State.writeBlock_unknown {s : State} {p : Nat} (h : Tab.look s.cfg.parts p = none) (ring : Bool) : s.writeBlock p ring = s := by
  unfold State.writeBlock
  rw [h]

/-- A record logged moves the capture logs alone. -/
theorem State.capture_cad (s : State) (src : Nat) (f : FailRec) : ∃ c, (s.capture src f).cad = { s.cad with caps := c } := by
  have hput : ∀ y : CapLog, ∃ c, (if y.recs.length < 127 then s.setCapLog (s.srcLog src) y else
      (s.setCapLog (s.srcLog src) y).writeBlock (s.srcLog src) ((s.setCapLog (s.srcLog src) y).capRing (s.srcLog src))).cad =
        { s.cad with caps := c } := fun y => by
    split
    · exact ⟨_, rfl⟩
    · cases hp : Tab.look (s.setCapLog (s.srcLog src) y).cfg.parts (s.srcLog src) with
      | none => exact ⟨_, by rw [State.writeBlock_unknown hp]; rfl⟩
      | some part => exact ⟨_, State.writeBlock_cad hp _⟩
  unfold State.capture
  dsimp only
  generalize (if ((s.capLog (s.srcLog src)).full && s.capRing (s.srcLog src)) = true then _ else _) = x
  split
  · exact ⟨s.cad.caps, by simp⟩
  · exact hput _

theorem Ordered.capture (s : State) (src i : Nat) (f : FailRec) : Ordered src s (s.capture i f) := by
  obtain ⟨c, hc⟩ := s.capture_cad i f
  exact .of_cad (by rw [hc]) (by rw [hc])

theorem Ordered.failRecord (s : State) (f : FailRec) : Ordered (recSource f.bytes) s (s.failRecord f) := by
  unfold State.failRecord
  split
  · split
    · exact .capture ..
    · exact (Ordered.capture ..).trans (.orderRecord ..)
  · exact .orderRecord ..

end Sys2Proof.Machine
end

section
/-! PROOFS. FAIL packets and the records of the ingest queue: what arrives, and how a record is ordered, released or logged (R84, R89, R93,
R94, R233, R538). -/
namespace Sys2Proof.Machine

/-! ### FAIL packets (R114, R233) -/

theorem State.exception_cadPart (s : State) (b : List Byte) (c : Nat) (why : ExcReason) (d : Option Nat) :
    (s.exception b c why d).cadPart = s.cadPart := by
  obtain ⟨l, hl⟩ := s.exception_frame b c why d
  rw [State.cadPart, hl.keeps.2.1]
  rfl

/-- A record that arrives is counted, and stands last in the ingest queue where there is one (R114). -/
theorem State.acceptRecord_cad (s : State) (k : Nat) (l : List Byte) :
    (s.acceptRecord k l).cadPart = s.cadPart ∧ (s.acceptRecord k l).cad.sources = s.cad.sources ∧
      (s.acceptRecord k l).cad.ingest = s.cad.ingest ++ (if s.cadPart.isNone then [] else [⟨l, k⟩]) := by
  have hcount : CountFrame s (s.count 0x0D 1 (recSource l) none (recSseq l) (recSource l)) := s.count_countFrame ..
  unfold State.acceptRecord
  dsimp only
  generalize s.count 0x0D 1 (recSource l) none (recSseq l) (recSource l) = t at hcount
  obtain ⟨r, p, q, rfl⟩ := hcount
  split
  · rename_i hnone
    replace hnone : s.cadPart.isNone = true := hnone
    obtain ⟨e, he⟩ := State.exception_cad { s with regs := r, pmc := p, qos := q } l k (quickReason l) none
    exact ⟨State.exception_cadPart .., by simp, by rw [he, if_pos hnone]; simp [CadSt.excepted]⟩
  · rename_i hsome
    replace hsome : ¬ s.cadPart.isNone = true := hsome
    exact ⟨rfl, rfl, by rw [if_neg hsome]⟩

theorem State.failPacket_cad (s : State) (k : Nat) (payload : List Byte) : (s.failPacket k payload).cad.sources = s.cad.sources ∧
    (s.failPacket k payload).cad.ingest =
      s.cad.ingest ++ (if s.cadPart.isNone then [] else (chunks 32 18 payload).map (fun l => ⟨l, k⟩)) := by
  have hfold : ∀ (l : List (List Byte)) (t : State), t.cadPart = s.cadPart →
      (l.foldl (fun t r => t.acceptRecord k r) t).cad.sources = t.cad.sources ∧
        (l.foldl (fun t r => t.acceptRecord k r) t).cad.ingest =
          t.cad.ingest ++ (if s.cadPart.isNone then [] else l.map (fun r => ⟨r, k⟩)) := fun l => by
    induction l with
    | nil => simp
    | cons r l ih =>
      intro t ht
      obtain ⟨hpart, hsources, hingest⟩ := t.acceptRecord_cad k r
      obtain ⟨hs, hi⟩ := ih _ (hpart.trans ht)
      rw [ht] at hingest
      rw [List.foldl_cons]
      refine ⟨hs.trans hsources, ?_⟩
      rw [hi, hingest]
      split <;> simp
  unfold State.failPacket
  rw [State.queueMoved_cad]
  exact hfold _ s rfl

/-! ### The checks of a record (R89, R538) -/

section
variable {s : State} {f : FailRec}

/-- A record that passes the checks arrives in ordering. -/
theorem State.orderRecord_passes (h : s.passesChecks f) : s.orderRecord f = s.arrive (recSource f.bytes) f := by
  obtain ⟨hcrc, hform, hen, hchain, hlabel⟩ := h
  simp [State.orderRecord, hcrc, hform, hen, hchain, hlabel]

/-- A record that fails a check is an exception. -/
theorem State.orderRecord_fails (h : ¬ s.passesChecks f) : ∃ why, s.orderRecord f = s.exception f.bytes f.chain why none := by
  unfold State.orderRecord
  dsimp only
  split
  · exact ⟨_, rfl⟩
  · split
    · exact ⟨_, rfl⟩
    · split
      · exact ⟨_, rfl⟩
      · split
        · exact ⟨_, rfl⟩
        · rename_i hcrc hform hsrc hlabel
          refine absurd ?_ h
          simp only [Bool.not_eq_true', Bool.not_eq_false, Bool.or_eq_true, bne_iff_ne, ne_eq, not_or, not_not] at hcrc hform hsrc hlabel
          exact ⟨hcrc, hform, hsrc.1, hsrc.2, hlabel⟩

end

/-! ### What a record released leaves (R87, R88) -/

section
variable (s : State) (src : Nat) (f : FailRec)

theorem State.released_marker (h : recMarker f.bytes = true) : s.release src f false =
    s.setSource src { s.source src with mark := recVcyc f.bytes, marked := true, markSeq := s.cad.relSeq } := by
  unfold State.release
  simp [h]

theorem State.released_record {d : Nat × Located} (h : recMarker f.bytes = false) (hd : s.resolve f.bytes false = .inl d) :
    s.release src f false = { s with cad := { s.cad with
      released := s.cad.released ++ [⟨f, false, s.cad.relSeq⟩], relSeq := s.cad.relSeq + 1 } } := by
  unfold State.release
  simp [h, hd]

/-- A release leaves the numbers of its source. -/
theorem State.release_source (late : Bool) : ((s.release src f late).source src).nx = (s.source src).nx ∧
    ((s.release src f late).source src).held = (s.source src).held ∧
    ((s.release src f late).source src).gaps = (s.source src).gaps := by
  have hlate : (if late = true then s.event Reg.CAD_EVENTS Fld.CAD_EVENTS_LATE else s).source src = s.source src := by
    split
    · exact State.source_of_cad (by simp) src
    · rfl
  unfold State.release
  dsimp only
  rw [← hlate]
  generalize (if late = true then s.event Reg.CAD_EVENTS Fld.CAD_EVENTS_LATE else s) = u
  split
  · rw [State.source_setSource]
    exact ⟨rfl, rfl, rfl⟩
  · split
    · exact ⟨rfl, rfl, rfl⟩
    · rw [State.source_exception]
      exact ⟨rfl, rfl, rfl⟩

end

theorem serialDist_self (q : Nat) : serialDist q q = 0 := by simp [serialDist]

/-! ### A record that arrives (R84, R85, R87) -/

/-- A state in which records are ordered as in another. -/
structure OrdersAs (s u : State) : Prop where
  sources : u.cad.sources = s.cad.sources
  released : u.cad.released = s.cad.released
  relSeq : u.cad.relSeq = s.cad.relSeq
  now : u.now = s.now
  resolve : ∀ l late, u.resolve l late = s.resolve l late
  passes : ∀ f, u.passesChecks f = s.passesChecks f

/-- Among the sources the timer is all that its update moves. -/
theorem State.timerUpdate_source (s : State) (src : Nat) (nx : Option Nat) : (s.timerUpdate src nx).source src =
    { s.source src with timer := !(s.source src).held.isEmpty
                        tGap := if (s.source src).timer && (s.source src).nx == nx then (s.source src).tGap else s.now } := by
  rw [State.timerUpdate, State.source_setSource]

section
variable {u : State} {src : Nat} {f : FailRec}

/-- In order, and nothing held: the record is released with NX one past it. -/
theorem State.arrive_next (hheld : (u.source src).held = [])
    (h : (u.source src).nx = none ∨ (u.source src).nx = some (recSseq f.bytes) ∨ recSync f.bytes = true) :
    u.arrive src f = ((u.setSource src { u.source src with nx := some ((recSseq f.bytes + 1) % 4294967296) }).release src f
      false).timerUpdate src (u.source src).nx := by
  have hrun : u.inOrder src (recSseq f.bytes) f =
      (u.setSource src { u.source src with nx := some ((recSseq f.bytes + 1) % 4294967296) }).release src f false := by
    unfold State.inOrder
    dsimp only
    rw [(State.release_source _ src f false).2.1, State.source_setSource, hheld]
    rfl
  unfold State.arrive
  dsimp only
  split
  · rename_i nx hnx hsync
    have hq : nx = recSseq f.bytes := by
      rcases h with h | h | h
      · rw [hnx] at h
        cases h
      · rw [hnx] at h
        cases h
        rfl
      · rw [hsync] at h
        cases h
    rw [if_pos (by rw [hq, serialDist_self]), hrun]
  · have hall : u.releaseAll src none (u.source src).held = u := by
      rw [hheld]
      rfl
    rw [hall, hrun]

/-- Ahead within the window, and not held yet: the record is held. -/
theorem State.arrive_ahead {nx : Nat} (hnx : (u.source src).nx = some nx) (hsync : recSync f.bytes = false)
    (h1 : 1 ≤ serialDist nx (recSseq f.bytes)) (h2 : serialDist nx (recSseq f.bytes) ≤ 1023)
    (hnew : (u.source src).held.any (fun h => h.1 == recSseq f.bytes) = false) :
    u.arrive src f = (u.setSource src { u.source src with
      held := holdAt nx (recSseq f.bytes) f (u.source src).held }).timerUpdate src (some nx) := by
  unfold State.arrive
  dsimp only
  rw [hnx, hsync]
  dsimp only
  rw [if_neg (by omega), if_pos h2, hnew]
  rfl

/-- 2^31 ahead, behind outside the recent gaps, or held already: an exception, and the timer alone. -/
theorem State.arrive_dropped {nx : Nat} (hnx : (u.source src).nx = some nx) (hsync : recSync f.bytes = false)
    (h : serialDist nx (recSseq f.bytes) = 2147483648 ∨
      (2147483648 < serialDist nx (recSseq f.bytes) ∧ inGap (u.source src).gaps (recSseq f.bytes) = false) ∨
      (1 ≤ serialDist nx (recSseq f.bytes) ∧ serialDist nx (recSseq f.bytes) ≤ 1023 ∧
        (u.source src).held.any (fun h => h.1 == recSseq f.bytes) = true)) :
    ∃ why, u.arrive src f = (u.exception f.bytes f.chain why none).timerUpdate src (some nx) := by
  unfold State.arrive
  dsimp only
  rw [hnx, hsync]
  dsimp only
  rcases h with h | ⟨h, hgap⟩ | ⟨h1, h2, hheld⟩
  · exact ⟨.far, by rw [if_neg (by omega), if_neg (by omega), if_neg (by omega), if_pos h]⟩
  · exact ⟨.duplicate, by
      rw [if_neg (by omega), if_neg (by omega), if_neg (by omega), if_neg (by omega), hgap]
      rfl⟩
  · exact ⟨.duplicate, by rw [if_neg (by omega), if_pos h2, hheld]; rfl⟩

end

/-- How ordering leaves the source of a record, and the released records (R84, R85, R87). -/
structure Arrived (s : State) (f : FailRec) (t : State) : Prop where
  next : (s.source (recSource f.bytes)).held = [] → ((s.source (recSource f.bytes)).nx = none ∨
      (s.source (recSource f.bytes)).nx = some (recSseq f.bytes) ∨ recSync f.bytes = true) →
    (t.source (recSource f.bytes)).nx = some ((recSseq f.bytes + 1) % 4294967296) ∧ (t.source (recSource f.bytes)).held = [] ∧
    (recMarker f.bytes = true → (t.source (recSource f.bytes)).marked = true ∧
      (t.source (recSource f.bytes)).mark = recVcyc f.bytes ∧ t.cad.released = s.cad.released) ∧
    ∀ d, recMarker f.bytes = false → s.resolve f.bytes false = .inl d →
      t.cad.released = s.cad.released ++ [⟨f, false, s.cad.relSeq⟩] ∧ t.cad.relSeq = s.cad.relSeq + 1
  ahead : ∀ nx, (s.source (recSource f.bytes)).nx = some nx → recSync f.bytes = false → 1 ≤ serialDist nx (recSseq f.bytes) →
    serialDist nx (recSseq f.bytes) ≤ 1023 →
    (s.source (recSource f.bytes)).held.any (fun h => h.1 == recSseq f.bytes) = false →
    (t.source (recSource f.bytes)).nx = some nx ∧
    (t.source (recSource f.bytes)).held = holdAt nx (recSseq f.bytes) f (s.source (recSource f.bytes)).held ∧
    (t.source (recSource f.bytes)).timer = true ∧
    (t.source (recSource f.bytes)).tGap =
      (if (s.source (recSource f.bytes)).timer then (s.source (recSource f.bytes)).tGap else s.now) ∧
    t.cad.released = s.cad.released
  dropped : ∀ nx, (s.source (recSource f.bytes)).nx = some nx → recSync f.bytes = false →
    (serialDist nx (recSseq f.bytes) = 2147483648 ∨
      (2147483648 < serialDist nx (recSseq f.bytes) ∧ inGap (s.source (recSource f.bytes)).gaps (recSseq f.bytes) = false) ∨
      (1 ≤ serialDist nx (recSseq f.bytes) ∧ serialDist nx (recSseq f.bytes) ≤ 1023 ∧
        (s.source (recSource f.bytes)).held.any (fun h => h.1 == recSseq f.bytes) = true)) →
    t.source (recSource f.bytes) = { s.source (recSource f.bytes) with
      timer := !(s.source (recSource f.bytes)).held.isEmpty
      tGap := if (s.source (recSource f.bytes)).timer then (s.source (recSource f.bytes)).tGap else s.now } ∧
    t.cad.released = s.cad.released

theorem holdAt_ne_nil (nx q : Nat) (f : FailRec) (l : List (Nat × FailRec)) : holdAt nx q f l ≠ [] := by
  cases l with
  | nil => simp [holdAt]
  | cons h t => unfold holdAt; split <;> simp

theorem State.arrive_arrived (u : State) (f : FailRec) : Arrived u f (u.arrive (recSource f.bytes) f) where
  next hheld h := by
    rw [State.arrive_next hheld h, State.timerUpdate_source]
    obtain ⟨hnx, hheld', -⟩ := State.release_source
      (u.setSource (recSource f.bytes) { u.source (recSource f.bytes) with nx := some ((recSseq f.bytes + 1) % 4294967296) })
      (recSource f.bytes) f false
    rw [State.source_setSource] at hnx hheld'
    refine ⟨hnx, hheld'.trans hheld, fun hm => ?_, fun d hm hd => ?_⟩
    · rw [State.released_marker _ _ _ hm, State.source_setSource]
      exact ⟨rfl, rfl, rfl⟩
    · rw [State.released_record (u.setSource (recSource f.bytes) _) _ _ hm hd]
      exact ⟨rfl, rfl⟩
  ahead nx hnx hsync h1 h2 hnew := by
    rw [State.arrive_ahead hnx hsync h1 h2 hnew, State.timerUpdate_source, State.source_setSource]
    refine ⟨hnx, rfl, ?_, ?_, rfl⟩
    · simp [holdAt_ne_nil]
    · simp [hnx]
      rfl
  dropped nx hnx hsync h := by
    obtain ⟨why, hwhy⟩ := State.arrive_dropped hnx hsync h
    obtain ⟨l, hl⟩ := u.exception_cad f.bytes f.chain why none
    rw [hwhy, State.timerUpdate_source, State.source_exception]
    refine ⟨?_, (congrArg CadSt.released hl : (u.exception f.bytes f.chain why none).cad.released = _)⟩
    simp [hnx, State.now_of_edge (u.exception_edge f.bytes f.chain why none)]

/-- What ordering does follows from what it reads. -/
theorem Arrived.of_ordersAs {s u t : State} {f : FailRec} (h : OrdersAs s u) (k : Arrived u f t) : Arrived s f t := by
  obtain ⟨hsources, hreleased, hrelSeq, hnow, hresolve, -⟩ := h
  obtain ⟨hnext, hahead, hdropped⟩ := k
  have hsource := State.source_of_cad hsources (recSource f.bytes)
  rw [hsource, hreleased, hrelSeq] at hnext
  rw [hsource, hreleased, hnow] at hahead hdropped
  simp only [hresolve] at hnext
  exact ⟨hnext, hahead, hdropped⟩

/-! ### Capture beside folding (R80, R93, R94) -/

theorem wget_cappart_lt (w : Word) : wget w Fld.CAD_SRC_CFG_CAPPART < 16 := by
  have hle : w.toNat &&& 240 ≤ 240 := Nat.and_le_right
  have hmask : (fldMask ⟨7, 4⟩).toNat = 240 := by decide
  simp only [wget, BitVec.toNat_ushiftRight, BitVec.toNat_and, hmask, Fld.CAD_SRC_CFG_CAPPART, Nat.shiftRight_eq_div_pow]
  omega

/-- A count of records not logged leaves the checks of a record. -/
theorem State.passesChecks_capDrop (s : State) (p : Nat) (f : FailRec) :
    (s.satInc (Reg.CAD_CAP_DROP p)).passesChecks f = s.passesChecks f := by
  have hne : Reg.CAD_SRC_CFG (recSource f.bytes) ≠ Reg.CAD_CAP_DROP p := by
    simp only [Reg.CAD_SRC_CFG, Reg.CAD_CAP_DROP]
    omega
  have hrd : (s.satInc (Reg.CAD_CAP_DROP p)).rd (Reg.CAD_SRC_CFG (recSource f.bytes)) = s.rd (Reg.CAD_SRC_CFG (recSource f.bytes)) :=
    State.rd_wr_ne _ _ _ _ hne
  simp only [State.passesChecks, State.srcEnabled, State.flag, State.fld, hrd]

/-- A count of records not logged says nothing of where a record's cell lies. -/
theorem State.resolve_capDrop (s : State) {p : Nat} (hp : p < 16) (l : List Byte) (late : Bool) :
    (s.satInc (Reg.CAD_CAP_DROP p)).resolve l late = s.resolve l late := by
  have hcad : (s.satInc (Reg.CAD_CAP_DROP p)).cad = s.cad := by simp
  have hrd : ∀ k i, (s.satInc (Reg.CAD_CAP_DROP p)).rdN (Reg.CAD_PLAT k i) = s.rdN (Reg.CAD_PLAT k i) := fun k i => by
    have hne : Reg.CAD_PLAT k i ≠ Reg.CAD_CAP_DROP p := by
      simp only [Reg.CAD_PLAT, Reg.CAD_CAP_DROP]
      omega
    rw [State.rdN, State.rdN, State.satInc, State.wrN, State.rd_wr_ne _ _ _ _ hne]
  have hbytes : ∀ k, (s.satInc (Reg.CAD_CAP_DROP p)).platBytes k = s.platBytes k := fun k => by simp only [State.platBytes, hrd]
  have hplat : ∀ i, (s.satInc (Reg.CAD_CAP_DROP p)).sitePlatOf i = s.sitePlatOf i := fun i => by
    unfold State.sitePlatOf State.platDefined
    rw [hcad]
    simp only [hrd]
  unfold State.resolve
  simp only [hbytes, hplat, hcad]

section
variable {s : State} {src : Nat}

/-- A full linear log counts what it does not take. -/
theorem State.capture_full (hfull : (s.capLog (s.srcLog src)).full = true) (hring : s.capRing (s.srcLog src) = false) (f : FailRec) :
    s.capture src f = s.satInc (Reg.CAD_CAP_DROP (s.srcLog src)) := by
  simp [State.capture, hfull, hring]

/-- A log with room in its block, and not full or a ring, takes the record. -/
theorem State.capture_room (hroom : (s.capLog (s.srcLog src)).recs.length < 126)
    (h : (s.capLog (s.srcLog src)).full = false ∨ s.capRing (s.srcLog src) = true) (f : FailRec) :
    ∃ y : CapLog, y.recs = (s.capLog (s.srcLog src)).recs ++ [f.bytes] ∧ s.capture src f = s.setCapLog (s.srcLog src) y := by
  have hput : ∀ x : CapLog, x.recs = (s.capLog (s.srcLog src)).recs → x.full = false →
      ∃ y : CapLog, y.recs = (s.capLog (s.srcLog src)).recs ++ [f.bytes] ∧
        (if x.full = true then s.satInc (Reg.CAD_CAP_DROP (s.srcLog src)) else
          let y : CapLog := if x.recs = [] then { x with start := s.now, chain := f.chain, recs := [f.bytes] }
            else { x with recs := x.recs ++ [f.bytes] }
          let s2 := s.setCapLog (s.srcLog src) y
          if y.recs.length < 127 then s2 else s2.writeBlock (s.srcLog src) (s2.capRing (s.srcLog src))) =
        s.setCapLog (s.srcLog src) y := fun x hx hfull => by
    rw [if_neg (by simp [hfull])]
    dsimp only
    rw [← hx] at hroom ⊢
    split
    · rename_i hnil
      exact ⟨_, by rw [hnil]; rfl, if_pos (by simp)⟩
    · exact ⟨_, rfl, if_pos (by simp; omega)⟩
  refine hput _ ?_ ?_
  · split <;> rfl
  · split
    · rfl
    · rename_i hno
      rcases h with h | h
      · exact h
      · simpa [h] using hno

/-- A log whose block stays open takes the record or counts it: ordering goes on as without it. -/
theorem State.capture_ordersAs (h : s.blockOpen src) (f : FailRec) : OrdersAs s (s.capture src f) := by
  have hlog : OrdersAs s (s.satInc (Reg.CAD_CAP_DROP (s.srcLog src))) :=
    ⟨by simp, by simp, by simp, State.now_of_edge (by simp), fun l late => s.resolve_capDrop (wget_cappart_lt _) l late,
      fun f => s.passesChecks_capDrop _ f⟩
  by_cases hfull : (s.capLog (s.srcLog src)).full = true ∧ s.capRing (s.srcLog src) = false
  · rw [State.capture_full hfull.1 hfull.2]
    exact hlog
  · have hopen : (s.capLog (s.srcLog src)).full = false ∨ s.capRing (s.srcLog src) = true := by
      rw [not_and_or] at hfull
      simpa using hfull
    obtain ⟨y, -, hy⟩ := State.capture_room (h.resolve_right hfull) hopen f
    rw [hy]
    exact ⟨rfl, rfl, rfl, rfl, fun _ _ => rfl, fun _ => rfl⟩

end

/-! ### A record taken from the queue (R84, R89, R538) -/

theorem State.failRecord_folds {s : State} {f : FailRec} (h : s.foldsRecord f) : Arrived s f (s.failRecord f) := by
  obtain ⟨hpass, hmode⟩ := h
  obtain ⟨-, -, hen, hchain, -⟩ := id hpass
  rcases hmode with hmode | ⟨hmode, hopen⟩
  · have hlog : s.logSource f = none := by simp [State.logSource, hmode]
    rw [State.failRecord, hlog]
    dsimp only
    rw [State.orderRecord_passes hpass]
    exact s.arrive_arrived f
  · have hlog : s.logSource f = some (recSource f.bytes) := by simp [State.logSource, hen, hchain, hmode]
    have horder := State.capture_ordersAs hopen f
    rw [State.failRecord, hlog]
    dsimp only
    rw [if_neg (by omega), State.orderRecord_passes (by rwa [horder.passes])]
    exact .of_ordersAs horder (State.arrive_arrived ..)

/-- Settles O20: the packet's records go to the queue one by one, and the head of the queue is logged, ordered or both. -/
theorem failRecords : Obligations.FailRecords := by
  intro s k payload f rest i x q
  obtain ⟨hsources, hingest⟩ := s.failPacket_cad k payload
  refine ⟨fun hup hcold hsafe => ⟨s.failPacket k payload, if_pos ⟨hup, hcold, hsafe⟩, hsources, fun h => ?_, fun h => ?_⟩,
    fun h => ?_, fun h => ?_, fun hm hq => ?_⟩
  · rw [hingest, if_neg (by simpa using Option.isSome_iff_ne_none.mp h)]
  · rw [hingest, h]
    simp
  · refine if_neg fun ⟨hup, hcold, hsafe⟩ => ?_
    rcases h with h | h | h
    · simp [h] at hup
    · exact hcold h
    · exact hsafe h
  · show execFailRecord s = _
    unfold execFailRecord
    split
    · rename_i hm hq
      rcases h with h | h
      · exact absurd hm h
      · rw [hq] at h
        cases h
    · rfl
  · let u : State := { s with cad := { s.cad with ingest := rest } }
    have horder : OrdersAs s u := ⟨rfl, rfl, rfl, rfl, fun _ _ => rfl, fun _ => rfl⟩
    have hmoves : Ordered i u (u.failRecord f) := .failRecord u f
    refine ⟨(u.failRecord f).queueMoved, ?_, ?_, fun j hj => ?_, fun hf => ?_, fun hlog hfails => ?_, fun hlog hmode => ?_⟩
    · show execFailRecord s = _
      unfold execFailRecord
      split
      · rename_i hq'
        rw [hq] at hq'
        cases hq'
        rfl
      · rename_i hno
        exact (hno f rest hm hq).elim
    · rw [State.queueMoved_cad]
      exact hmoves.ingest
    · rw [State.source_queueMoved]
      exact hmoves.sources j hj
    · obtain ⟨hnext, hahead, hdropped⟩ := Arrived.of_ordersAs horder (State.failRecord_folds (s := u) hf)
      simp only [State.source_queueMoved, State.queueMoved_cad]
      exact ⟨hnext, hahead, hdropped⟩
    · obtain ⟨why, hwhy⟩ := State.orderRecord_fails (s := u) hfails
      obtain ⟨l, hl⟩ := u.exception_cad f.bytes f.chain why none
      have hrec : u.failRecord f = u.exception f.bytes f.chain why none := by
        rw [State.failRecord, show u.logSource f = none from hlog]
        exact hwhy
      rw [State.queueMoved_cad, hrec, hl]
      exact ⟨rfl, rfl, rfl⟩
    · have hrec : u.failRecord f = u.capture i f := by
        rw [State.failRecord, show u.logSource f = some i from hlog]
        exact if_pos hmode
      obtain ⟨c, hc⟩ := u.capture_cad i f
      rw [hrec, State.queueMoved_cad]
      refine ⟨by rw [hc], by rw [hc], fun hopen hroom => ?_⟩
      obtain ⟨y, hy, hput⟩ := State.capture_room (s := u) (src := i) hroom hopen f
      rw [State.capLog_queueMoved, hput]
      exact (congrArg CapLog.recs (State.capLog_setCapLog ..)).trans hy

end Sys2Proof.Machine
end

section
/-! PROOFS. How a CLOSE ends: the fence timer, the heap that closing takes, and the close record (R101, R109, R110, R124, R132). -/
namespace Sys2Proof.Machine

/-! ### The heap of the cadastre (R109) -/

/-- Heap taken: the domains hold more space, the heap has less, and choices of places were drawn. -/
def HeapTook (s t : State) : Prop := (∃ m u n, t = { s with cad := { s.cad with domains := m, heapUsed := u }, fresh := n }) ∧
  ∀ e, ∃ l, t.domain e = { s.domain e with spaces := l }

theorem HeapTook.refl (s : State) : HeapTook s s := ⟨⟨_, _, _, rfl⟩, fun e => ⟨(s.domain e).spaces, rfl⟩⟩

theorem HeapTook.trans {s t u : State} (h : HeapTook s t) (k : HeapTook t u) : HeapTook s u := by
  obtain ⟨⟨m, w, n, rfl⟩, hdom⟩ := h
  obtain ⟨⟨m', w', n', rfl⟩, hdom'⟩ := k
  refine ⟨⟨m', w', n', rfl⟩, fun e => ?_⟩
  obtain ⟨l, hl⟩ := hdom e
  obtain ⟨l', hl'⟩ := hdom' e
  exact ⟨l', hl'.trans (by rw [hl])⟩

theorem State.takeHeap_took {s t : State} {d n : Nat} {use : HeapUse} (h : s.takeHeap d use n = some t) : HeapTook s t := by
  unfold State.takeHeap at h
  split at h
  · cases h
    exact .refl s
  · obtain ⟨a, -, rfl⟩ := Option.map_eq_some_iff.mp h
    refine ⟨⟨_, _, _, rfl⟩, fun e => ?_⟩
    by_cases he : e = d
    · subst he
      exact ⟨_, State.domain_setDomain ..⟩
    · exact ⟨(s.domain e).spaces, State.domain_setDomain_ne _ _ he⟩

theorem State.takeAll_took {s t : State} {l : List HeapNeed} (h : s.takeAll l = some t) : HeapTook s t := by
  unfold State.takeAll at h
  induction l generalizing s with
  | nil =>
    cases h
    exact .refl _
  | cons n l ih =>
    obtain ⟨u, hu, hrest⟩ := Option.bind_eq_some_iff.mp h
    exact (State.takeHeap_took hu).trans (ih hrest)

theorem HeapTook.keeps {s t : State} (h : HeapTook s t) : t.cad.sources = s.cad.sources ∧ t.cad.ingest = s.cad.ingest ∧
    t.cad.released = s.cad.released ∧ t.cad.folded = s.cad.folded ∧ t.rae = s.rae ∧ t.now = s.now := by
  obtain ⟨⟨m, u, n, rfl⟩, -⟩ := h
  exact ⟨rfl, rfl, rfl, rfl, rfl, rfl⟩

/-! ### The fence timer (R101) -/

theorem State.fenceExpire_cad (s : State) (id : Nat) (srcs : List Nat) (first : Nat) :
    (s.fenceExpire id srcs first).cad = { s.cad with domains := s.cad.domains.map (fun e =>
      if e.2.state = .closing ∧ e.2.timer = true ∧ e.2.fence = some (id, srcs, first) then
        (e.1, { e.2 with fenceTimeout := true, missing := true, timer := false }) else e) } := by
  have hmiss : ∀ (l : List Nat) (g : Nat → Nat), (l.foldl (fun t i => t.wrN (Reg.CAD_FENCE_MISS i) (g i)) s).cad = s.cad := fun l g =>
    (foldl_dmcFrame (fun t i => t.wr_dmcFrame ..) l s).keeps.1
  unfold State.fenceExpire
  dsimp only
  rw [(State.alert_storeFrame ..).cad, (State.event_dmcFrame ..).keeps.1, hmiss]

/-- A CLOSING domain of a CLOSE whose fence time is over and which still waits for a source. -/
def State.fenceLate (s : State) (first : Nat) (e : Nat × Domain) : Bool :=
  e.2.state == .closing && e.2.timer && decide (e.2.fenceDue ≤ 2 * s.now) &&
    (match e.2.fence with
      | some f => f.2.2 == first && f.2.1.any (fun i => s.fenceWaits f.1 i)
      | none => false)

theorem State.fenceLate_iff {s : State} {first : Nat} {e : Nat × Domain} : s.fenceLate first e = true ↔
    e.2.state = .closing ∧ e.2.timer = true ∧ e.2.fenceDue ≤ 2 * s.now ∧
      ∃ id srcs, e.2.fence = some (id, srcs, first) ∧ ∃ i ∈ srcs, s.fenceWaits id i = true := by
  unfold State.fenceLate
  cases hf : e.2.fence with
  | none => simp
  | some f =>
    obtain ⟨id, srcs, b⟩ := f
    simp only [Bool.and_eq_true, beq_iff_eq, decide_eq_true_eq, List.any_eq_true, Option.some.injEq, Prod.mk.injEq]
    constructor
    · rintro ⟨⟨⟨hs, ht⟩, hdue⟩, rfl, hwait⟩
      exact ⟨hs, ht, hdue, id, srcs, ⟨rfl, rfl, rfl⟩, hwait⟩
    · rintro ⟨hs, ht, hdue, _, _, ⟨rfl, rfl, rfl⟩, hwait⟩
      exact ⟨⟨⟨hs, ht⟩, hdue⟩, rfl, hwait⟩

theorem execFenceTimerExpire_eq (d : BitVec 24) (s : State) : execFenceTimerExpire d s =
    match s.cad.domains.find? (s.fenceLate d.toNat) with
    | some (_, x) =>
      match s.mode, x.fence with
      | .service, some (id, srcs, first) => .next (s.fenceExpire id srcs first)
      | _, _ => .next s
    | none => .next s := rfl

/-- The timer expires for the CLOSE of the first domain that is late. -/
theorem execFenceTimerExpire_late {s : State} {d : BitVec 24} {id : Nat} {srcs : List Nat} (hm : s.mode = .service)
    (hlate : ∃ e ∈ s.cad.domains, s.fenceLate d.toNat e = true)
    (hsame : ∀ e ∈ s.cad.domains, ∀ a b, e.2.fence = some (a, b, d.toNat) → a = id ∧ b = srcs) :
    execFenceTimerExpire d s = .next (s.fenceExpire id srcs d.toNat) := by
  obtain ⟨⟨k, x⟩, hfind⟩ := Option.isSome_iff_exists.mp (List.find?_isSome.mpr hlate)
  obtain ⟨-, -, -, a, b, hfence, -⟩ := State.fenceLate_iff.mp (List.find?_some hfind)
  obtain ⟨rfl, rfl⟩ := hsame _ (List.mem_of_find?_eq_some hfind) a b hfence
  rw [execFenceTimerExpire_eq]
  rw [hfind, hm]
  dsimp only
  rw [show x.fence = _ from hfence]

theorem execFenceTimerExpire_idle {s : State} {d : BitVec 24}
    (h : s.mode ≠ .service ∨ ∀ e ∈ s.cad.domains, s.fenceLate d.toNat e = false) : execFenceTimerExpire d s = .next s := by
  rw [execFenceTimerExpire_eq]
  rcases h with h | h
  · split
    · split
      · rename_i hm _
        exact absurd hm h
      · rfl
    · rfl
  · rw [List.find?_eq_none.mpr fun e he => by simp [h e he]]

/-! ### The outcome of a closed domain (R123, R132) -/

section
variable (s : State) (d : Nat)

/-- A result leaves its domain DONE, and moves nothing else of the cadastre. -/
theorem State.finish_cad (r : ResultRec) : (s.finish r).cad = (s.setDomain r.domain { s.domain r.domain with
    state := .done, result := some r, outcome := none, resultAddr := (s.domain r.domain).placeOf .result }).cad := by
  have hite : ∀ (p : Prop) [Decidable p] (t : State) (n : Nat) (f : Fld), (if p then t.event n f else t).cad = t.cad := fun p _ t n f => by
    split
    · exact (t.event_dmcFrame ..).keeps.1
    · rfl
  have hcount : ∀ (t : State) (x y z w v u : Nat), (((t.inc64 x).count 0x11 1 y none z w).wrN v u).cad = t.cad := fun t x y z w v u =>
    (((State.inc64_countFrame ..).dmc.trans (State.count_countFrame ..).dmc).trans (State.wr_dmcFrame ..)).keeps.1
  have htraffic : ∀ (t : State) (n b l : Nat), (t.traffic n b l).1.cad = t.cad := fun t n b l =>
    ((Counted.charge ..).store.trans (Counted.servedLabel ..).store).cad
  unfold State.finish
  dsimp only
  rw [hite, hite, hcount, htraffic]

/-- Alone, the outcome is the domain's result; in a pool it waits for the round. -/
theorem State.takeOutcome_domain {s : State} {d engine : Nat} {c : CloseRec} (hc : (s.domain d).closeRec = some c) (hd : c.domain = d)
    (o : PassOutcome) : (s.takeOutcome d engine o).cad.sources = s.cad.sources ∧ ((s.takeOutcome d engine o).domain d).closeRec = some c ∧
      ((s.takeOutcome d engine o).domain d).tClosed = (s.domain d).tClosed ∧
      (c.pool = 0 → ((s.takeOutcome d engine o).domain d).state = .done) ∧
      (c.pool ≠ 0 → ((s.takeOutcome d engine o).domain d).state = .analysing ∧
        ((s.takeOutcome d engine o).domain d).outcome = some o) := by
  have htake : s.takeOutcome d engine o = if c.pool = 0 then s.finish (soloResult (s.domain d) c o engine s.now)
      else (s.setDomain d { s.domain d with state := .analysing, outcome := some o }).checkRound c.pool
        (if engine < 64 then some engine else none) := by
    unfold State.takeOutcome
    dsimp only
    rw [hc]
  rw [htake]
  split
  · rename_i hpool
    have hdom : (soloResult (s.domain d) c o engine s.now).domain = d := by
      unfold soloResult
      split <;> exact hd
    have hcad := s.finish_cad (soloResult (s.domain d) c o engine s.now)
    rw [hdom] at hcad
    rw [State.domain_of_cad (congrArg CadSt.domains hcad), State.domain_setDomain, hcad]
    exact ⟨rfl, hc, rfl, fun _ => rfl, fun h => absurd hpool h⟩
  · rename_i hpool
    have hround : ∀ (u : State) (r : Option Nat), (u.checkRound c.pool r).cad.sources = u.cad.sources ∧
        (u.checkRound c.pool r).domain d = u.domain d := fun u r => by
      obtain ⟨l, hl⟩ := u.checkRound_cad c.pool r
      exact ⟨by rw [hl], State.domain_of_cad (by rw [hl]) d⟩
    obtain ⟨hsources, hdom⟩ := hround (s.setDomain d { s.domain d with state := .analysing, outcome := some o })
      (if engine < 64 then some engine else none)
    rw [hsources, hdom, State.domain_setDomain]
    exact ⟨rfl, hc, rfl, fun h => absurd h hpool, fun _ => ⟨rfl, rfl⟩⟩

/-- A domain that closes has its close record and its time, and goes on to the analysis queue or to the outcome of an overflow. -/
theorem State.becomeClosed_eq (c : CloseRec) : ∃ u : State, u.cad.sources = s.cad.sources ∧ u.rae = s.rae ∧
    ((u.domain d).state = .closed ∧ (u.domain d).closeRec = some c ∧ (u.domain d).tClosed = s.now) ∧
    s.becomeClosed d c = if c.ovf then u.takeOutcome d 0xFF (overflowOutcome c)
      else { u with rae := { u.rae with queue := u.rae.queue ++ [d] } } := by
  have hcount : ∀ (t : State) (x y : Nat), CountFrame t (t.count 0x10 1 0 none x y) := fun t x y => State.count_countFrame ..
  refine ⟨_, ?_, ?_, ?_, rfl⟩
  · rw [(hcount ..).dmc.keeps.1]
    rfl
  · obtain ⟨r, p, q, hr⟩ := hcount (s.setDomain d _) d (65536 * c.hr + c.hc)
    rw [hr]
    rfl
  · have hdom : ∀ (x : Domain) (v : Nat), ((s.setDomain d x).count 0x10 1 0 none d v).domain d = x := fun x v =>
      (State.domain_of_cad (congrArg CadSt.domains (hcount ..).dmc.keeps.1) d).trans (s.domain_setDomain d x)
    exact ⟨congrArg Domain.state (hdom _ _), congrArg Domain.closeRec (hdom _ _), congrArg Domain.tClosed (hdom _ _)⟩

/-- A domain that has its close record: in the analysis queue, or with the outcome of an overflow (R110, R123). -/
theorem State.becomeClosed_leaves {c : CloseRec} (hd : c.domain = d) :
    (s.becomeClosed d c).cad.sources = s.cad.sources ∧ ((s.becomeClosed d c).domain d).closeRec = some c ∧
      ((s.becomeClosed d c).domain d).tClosed = s.now ∧
      (c.ovf = false → ((s.becomeClosed d c).domain d).state = .closed ∧ (s.becomeClosed d c).rae.queue = s.rae.queue ++ [d]) ∧
      (c.ovf = true → (c.pool = 0 → ((s.becomeClosed d c).domain d).state = .done) ∧
        (c.pool ≠ 0 → ((s.becomeClosed d c).domain d).state = .analysing ∧
          ((s.becomeClosed d c).domain d).outcome = some (overflowOutcome c))) := by
  obtain ⟨u, hsources, hrae, ⟨hstate, hrec, htime⟩, hu⟩ := s.becomeClosed_eq d c
  rw [hu]
  cases hovf : c.ovf with
  | false =>
    rw [if_neg (by simp)]
    exact ⟨hsources, hrec, htime, fun _ => ⟨hstate, by rw [hrae]⟩, nofun⟩
  | true =>
    obtain ⟨ho, hr, ht, hsolo, hpool⟩ := State.takeOutcome_domain (engine := 0xFF) hrec hd (overflowOutcome c)
    rw [if_pos rfl]
    exact ⟨ho.trans hsources, hr, ht.trans htime, nofun, fun _ => ⟨hsolo, hpool⟩⟩

end

/-- Settles O23: the timer expires for the CLOSE of the first domain that is late, and a domain that is ready takes its heap and closes. -/
theorem closing : Obligations.Closing := by
  intro s d c
  refine ⟨fun hm x id srcs hx hstate htimer hdue hfence hsame hwait => ?_, fun h => ?_, fun h => ?_, fun hm hready hroom => ?_,
    fun hm hready hfull => ?_⟩
  · have hlate : s.fenceLate d.toNat (d.toNat, x) = true := State.fenceLate_iff.mpr ⟨hstate, htimer, hdue, id, srcs, hfence, hwait⟩
    exact ⟨_, execFenceTimerExpire_late hm ⟨_, hx, hlate⟩ hsame, by rw [State.fenceExpire_cad], by rw [State.fenceExpire_cad]⟩
  · refine execFenceTimerExpire_idle (h.imp_right fun h e he => ?_)
    refine Bool.eq_false_iff.mpr fun hlate => ?_
    obtain ⟨-, -, hdue, a, b, hfence, i, hi, hwait⟩ := State.fenceLate_iff.mp hlate
    rcases h e he a b hfence with h | h
    · omega
    · simp [h i hi] at hwait
  · refine if_neg fun ⟨hm, hready⟩ => ?_
    rcases h with h | h
    · exact h hm
    · simp [h] at hready
  · obtain ⟨t, ht⟩ := Option.isSome_iff_exists.mp hroom
    obtain ⟨b, hb⟩ := t.heapCheck_frame
    obtain ⟨hsources, -, -, -, hrae, hnow⟩ := (State.takeAll_took ht).keeps
    obtain ⟨hcad, -, hgtime, -, hrae'⟩ := hb.keeps
    obtain ⟨hs, hrec, htime, hclosed, hovf⟩ := t.heapCheck.becomeClosed_leaves d.toNat (c := c) rfl
    have hexec : exec (.closeRecordBuild d) s = .next (t.heapCheck.becomeClosed d.toNat c) := by
      show execCloseRecordBuild d s = _
      unfold execCloseRecordBuild
      rw [if_pos ⟨hm, hready⟩]
      dsimp only
      rw [ht]
    refine ⟨_, hexec, ?_, hrec, ?_, fun h => ?_, fun h => (hovf h).1, fun h => (hovf h).2⟩
    · rw [hs, hcad]
      exact hsources
    · rw [htime, State.now, hgtime]
      exact hnow
    · obtain ⟨hstate, hqueue⟩ := hclosed h
      refine ⟨hstate, ?_⟩
      rw [hqueue, hrae']
      exact congrArg (fun r : RaeSt => r.queue ++ [d.toNat]) hrae
  · show execCloseRecordBuild d s = _
    unfold execCloseRecordBuild
    rw [if_pos ⟨hm, hready⟩]
    dsimp only
    rw [hfull]

end Sys2Proof.Machine
end

section
/-! PROOFS. Gap timers, blocks that run out, and records folded into the maps (R84 to R86, R93, R94, R97, R105 to R109). -/
namespace Sys2Proof.Machine

/-! ### The gap timer (R85, R86) -/

section
variable {s : State} {src : Nat}

/-- Without the successor in front, a run of held records releases nothing. -/
theorem State.releaseRun_stops {l : List (Nat × FailRec)} (h : ∀ g ∈ l.head?, (s.source src).nx ≠ some g.1) :
    s.releaseRun src l = s := by
  cases l with
  | nil => rfl
  | cons g l => exact if_neg (h g rfl)

/-- All that a source holds is released. -/
theorem State.releaseAll_held (l : List (Nat × FailRec)) (pos : Option Nat) (s : State) (h : (s.source src).held = l) :
    ((s.releaseAll src pos l).source src).held = [] := by
  induction l generalizing s pos with
  | nil => exact h
  | cons g l ih =>
    refine ih _ _ ?_
    rw [(State.release_source _ _ _ _).2.1, State.source_setSource]

/-- A number 1 to 1,023 after another is not just before it. -/
theorem succ_ne_of_serialDist {nx q : Nat} (h1 : 1 ≤ serialDist nx q) (h2 : serialDist nx q ≤ 1023) : (q + 1) % 4294967296 ≠ nx := by
  unfold serialDist at h1 h2
  omega

/-- A run of one held record: it is released, with NX one past it. -/
theorem State.releaseRun_one {h : Nat × FailRec} {later : List (Nat × FailRec)} (hnx : (s.source src).nx = some h.1)
    (hlater : ∀ g ∈ later.head?, g.1 ≠ (h.1 + 1) % 4294967296) :
    ((s.releaseRun src (h :: later)).source src).nx = some ((h.1 + 1) % 4294967296) ∧
      ((s.releaseRun src (h :: later)).source src).held = later ∧
      ((s.releaseRun src (h :: later)).source src).gaps = (s.source src).gaps := by
  obtain ⟨hn, hh, hg⟩ := State.release_source
    (s.setSource src { s.source src with nx := some ((h.1 + 1) % 4294967296), held := later }) src h.2 false
  rw [State.source_setSource] at hn hh hg
  rw [State.releaseRun, if_pos hnx, State.releaseRun_stops fun g hmem => ?_]
  · exact ⟨hn, hh, hg⟩
  · rw [hn]
    exact fun heq => hlater g hmem (Option.some.inj heq).symm

/-- A source that waits 1 to 1,023 numbers before its lowest held record, with no run after it: the record is released, and the numbers
before it are a gap. -/
theorem State.gapExpire_gap {nx : Nat} {h : Nat × FailRec} {later : List (Nat × FailRec)} (hnx : (s.source src).nx = some nx)
    (hheld : (s.source src).held = h :: later) (h1 : 1 ≤ serialDist nx h.1) (h2 : serialDist nx h.1 ≤ 1023)
    (hlater : ∀ g ∈ later.head?, g.1 ≠ (h.1 + 1) % 4294967296) :
    ((s.gapExpire src).source src).nx = some ((h.1 + 1) % 4294967296) ∧ ((s.gapExpire src).source src).held = later ∧
      ((s.gapExpire src).source src).timer = !later.isEmpty ∧ ((s.gapExpire src).source src).tGap = s.now ∧
      ((s.gapExpire src).source src).gaps = ((nx, serialDist nx h.1) :: (s.source src).gaps).take 16 := by
  obtain ⟨u, hu, hgap, hnow⟩ : ∃ u : State, s.gapExpire src =
      (((u.setSource src { u.source src with nx := some h.1 }).releaseRun src (h :: later)).timerUpdate src (some nx)).queueMoved ∧
      u.source src = { s.source src with gaps := ((nx, serialDist nx h.1) :: (s.source src).gaps).take 16 } ∧ u.now = s.now := by
    refine ⟨s.declareGap src nx (serialDist nx h.1), ?_, s.declareGap_source src nx (by omega),
      State.now_of_edge (s.declareGap_edge src nx (serialDist nx h.1))⟩
    unfold State.gapExpire
    dsimp only
    rw [hheld, hnx]
  obtain ⟨hn, hh, hg⟩ := State.releaseRun_one (s := u.setSource src { u.source src with nx := some h.1 })
    (by rw [State.source_setSource]) hlater
  have htime := State.now_of_edge ((u.setSource src { u.source src with nx := some h.1 }).releaseRun_edge src (h :: later))
  rw [hu, State.source_queueMoved, State.timerUpdate_source]
  refine ⟨hn, hh, congrArg (fun l : List (Nat × FailRec) => !l.isEmpty) hh, ?_, ?_⟩
  · dsimp only
    rw [hn, htime, if_neg (by simp [succ_ne_of_serialDist h1 h2])]
    exact hnow
  · exact hg.trans (by rw [State.source_setSource, hgap])

theorem State.gapExpire_all (hnx : (s.source src).nx = none) (hheld : (s.source src).held ≠ []) :
    ((s.gapExpire src).source src).held = [] ∧ ((s.gapExpire src).source src).timer = false := by
  obtain ⟨h, later, hl⟩ := List.exists_cons_of_ne_nil hheld
  have hnone := State.releaseAll_held (h :: later) none s hl
  unfold State.gapExpire
  dsimp only
  rw [hl, hnx]
  dsimp only
  rw [State.source_queueMoved, State.timerUpdate_source, hnone]
  exact ⟨rfl, rfl⟩

end

theorem Ordered.gapExpire (s : State) (src : Nat) : Ordered src s (s.gapExpire src) := by
  unfold State.gapExpire
  dsimp only
  split
  · exact .refl src s
  · exact ((((Ordered.declareGap ..).trans (.setSource ..)).trans (.releaseRun ..)).trans (.timerUpdate ..)).trans (.queueMoved ..)
  · exact ((Ordered.releaseAll ..).trans (.timerUpdate ..)).trans (.queueMoved ..)

/-! ### A record in the map of its domain (R97, R105 to R109) -/

section
variable {s t : State}

theorem State.addEntry_of_domains (h : t.cad.domains = s.cad.domains) : t.addEntry = s.addEntry := by
  funext l e
  have hdom : ∀ d, t.domain d = s.domain d := fun d => State.domain_of_cad h d
  unfold State.addEntry State.victim
  simp only [hdom]

/-- What a record does to the map follows from the cadastre. -/
theorem State.foldPlan_of_cad (hd : t.cad.domains = s.cad.domains) (hi : t.cad.lotIndex = s.cad.lotIndex)
    (hl : t.cad.tallyLines = s.cad.tallyLines) (d : Nat) (x : Located) : t.foldPlan d x = s.foldPlan d x := by
  unfold State.foldPlan
  rw [State.domain_of_cad hd, hi, hl, State.addEntry_of_domains hd]

theorem State.domain_exception (s : State) (b : List Byte) (c : Nat) (why : ExcReason) (o : Option Nat) (d : Nat) :
    (s.exception b c why o).domain d = s.domain d := by
  obtain ⟨l, hl⟩ := s.exception_cad b c why o
  exact State.domain_of_cad (by rw [hl]; rfl) d

/-- Domains spilled: that mark apart, the cadastre is as it was. -/
theorem foldl_spill (l : List Nat) (s : State) :
    (∃ m, (l.foldl (fun t v => t.spill v) s) = { s with cad := { s.cad with domains := m } }) ∧
    ∀ e, ∃ b, (l.foldl (fun t v => t.spill v) s).domain e = { s.domain e with spilled := b } := by
  induction l generalizing s with
  | nil => exact ⟨⟨s.cad.domains, rfl⟩, fun e => ⟨(s.domain e).spilled, rfl⟩⟩
  | cons v l ih =>
    obtain ⟨⟨m, hm⟩, hdom⟩ := ih (s.spill v)
    refine ⟨⟨m, hm⟩, fun e => ?_⟩
    obtain ⟨b, hb⟩ := hdom e
    refine ⟨b, hb.trans ?_⟩
    by_cases he : e = v
    · subst he
      rw [State.spill, State.domain_setDomain]
    · rw [State.spill, State.domain_setDomain_ne _ _ he]

/-- What a fold leaves of the queues of the cadastre. -/
def QueuesKept (s t : State) : Prop := t.cad.released = s.cad.released ∧ t.cad.sources = s.cad.sources ∧ t.cad.ingest = s.cad.ingest

end

section
variable (s : State) (d : Nat) (x : Located) (f : FailRec) (late : Bool)

/-- A domain with a record entered in its map: the lines and lots of the new points, and the record counted (R107). -/
def Domain.entered (y : Domain) (p : FoldPlan) (x : Located) (f : FailRec) (late : Bool) : Domain :=
  let rowT := p.fresh.foldl (fun t _ => tallyUp t x.row) y.rowT
  let colT := p.fresh.foldl tallyUp y.colT
  { y with
    lots := if p.fresh.isEmpty then y.lots else Tab.put y.lots p.key p.lot
    rowT := rowT
    colT := colT
    nRows := rowT.length
    nCols := colT.length
    fp := y.fp + p.fresh.length
    folded := y.folded + 1
    partnerLoss := y.partnerLoss || recPdrop f.bytes
    lateFolded := y.lateFolded || late }

/-- A folded record counted. -/
def State.oneFolded : State :=
  let t := ({ s with cad := { s.cad with folded := (s.cad.folded + 1) % 2 ^ 64 } }).count 0x0E 1 (recSource f.bytes) none d
    (recSseq f.bytes)
  if late then t.satInc (Reg.CAD_SRC_LATE (recSource f.bytes)) else t

theorem State.oneFolded_cad : (s.oneFolded d f late).cad = { s.cad with folded := (s.cad.folded + 1) % 2 ^ 64 } := by
  have hcount : ∀ (t : State) (n m k : Nat), (t.count 0x0E 1 n none m k).cad = t.cad := fun t n m k =>
    (State.count_countFrame ..).dmc.keeps.1
  unfold State.oneFolded
  dsimp only
  split
  · rw [(State.satInc_dmcFrame ..).keeps.1, hcount]
  · rw [hcount]

theorem State.oneFolded_domain (e : Nat) : (s.oneFolded d f late).domain e = s.domain e :=
  State.domain_of_cad (by rw [State.oneFolded_cad]) e

/-- The state in which a record takes its heap. -/
def State.foldCounted : State := s.satInc Reg.CAD_PIN_MISS (s.foldPlan d x).misses

/-- Without the heap it needs, a record marks its domain and is an exception. -/
theorem State.applyRecord_full (h : (s.foldCounted d x).takeAll (s.foldPlan d x).needs = none) :
    QueuesKept s (s.applyRecord d x f late) ∧ (s.applyRecord d x f late).domain d = { s.domain d with mapIncomplete := true } ∧
      (s.applyRecord d x f late).cad.folded = s.cad.folded ∧
      (s.applyRecord d x f late).cad.excTotal = (s.cad.excTotal + 1) % 2 ^ 64 := by
  have hcad : (s.foldCounted d x).cad = s.cad := (State.satInc_dmcFrame ..).keeps.1
  have happly : s.applyRecord d x f late = ((s.foldCounted d x).setDomain d
      { (s.foldCounted d x).domain d with mapIncomplete := true }).exception f.bytes f.chain .heapFull (some d) := by
    unfold State.applyRecord
    dsimp only
    unfold State.foldCounted at h
    rw [h]
    rfl
  rw [happly]
  generalize s.foldCounted d x = u at hcad
  rw [State.domain_of_cad (s := s) (t := u) (by rw [hcad]) d]
  obtain ⟨l, hl⟩ := (u.setDomain d { s.domain d with mapIncomplete := true }).exception_cad f.bytes f.chain .heapFull (some d)
  rw [State.domain_exception, State.domain_setDomain, QueuesKept, hl, ← hcad]
  exact ⟨⟨rfl, rfl, rfl⟩, rfl, rfl, rfl⟩

theorem State.applyRecord_some {t : State} (h : (s.foldCounted d x).takeAll (s.foldPlan d x).needs = some t) :
    ∃ v : State, v = (s.foldPlan d x).spilled.foldl (fun t e => t.spill e)
        { t.heapCheck with cad := { t.heapCheck.cad with lotIndex := (s.foldPlan d x).index, tallyLines := (s.foldPlan d x).lines } } ∧
      s.applyRecord d x f late = (v.setDomain d ((v.domain d).entered (s.foldPlan d x) x f late)).oneFolded d f late := by
  refine ⟨_, rfl, ?_⟩
  unfold State.foldCounted at h
  unfold State.applyRecord
  dsimp only
  rw [h]
  rfl

/-- With the heap it needs, a record counts in its domain with its new points. -/
theorem State.applyRecord_room (h : ((s.foldCounted d x).takeAll (s.foldPlan d x).needs).isSome = true) :
    QueuesKept s (s.applyRecord d x f late) ∧ ((s.applyRecord d x f late).domain d).folded = (s.domain d).folded + 1 ∧
      ((s.applyRecord d x f late).domain d).fp = (s.domain d).fp + (s.foldPlan d x).fresh.length ∧
      (s.applyRecord d x f late).cad.folded = (s.cad.folded + 1) % 2 ^ 64 := by
  obtain ⟨t, ht⟩ := Option.isSome_iff_exists.mp h
  obtain ⟨v, hv, happly⟩ := s.applyRecord_some d x f late ht
  have hcad : (s.foldCounted d x).cad = s.cad := (State.satInc_dmcFrame ..).keeps.1
  obtain ⟨b, hb⟩ := t.heapCheck_frame
  obtain ⟨hsources, hingest, hreleased, hfolded, -, -⟩ := (State.takeAll_took ht).keeps
  obtain ⟨l, hl⟩ := (State.takeAll_took ht).2 d
  obtain ⟨⟨m, hm⟩, hspill⟩ := foldl_spill (s.foldPlan d x).spilled
    { t.heapCheck with cad := { t.heapCheck.cad with lotIndex := (s.foldPlan d x).index, tallyLines := (s.foldPlan d x).lines } }
  obtain ⟨c, hc⟩ := hspill d
  rw [← hv] at hm hc
  have hdom : v.domain d = { s.domain d with spaces := l, spilled := c } := by
    rw [hc, State.domain_of_cad (s := t) (by rw [hb.cad]) d, hl, State.domain_of_cad (s := s) (by rw [hcad]) d]
  have hkept : v.cad.released = s.cad.released ∧ v.cad.sources = s.cad.sources ∧ v.cad.ingest = s.cad.ingest ∧
      v.cad.folded = s.cad.folded := by
    rw [hm, ← hcad]
    dsimp only
    rw [hb.cad]
    exact ⟨hreleased, hsources, hingest, hfolded⟩
  obtain ⟨hreleased, hsources, hingest, hfolded⟩ := hkept
  rw [happly, State.oneFolded_domain, State.domain_setDomain, QueuesKept, State.oneFolded_cad]
  refine ⟨⟨hreleased, hsources, hingest⟩, ?_, ?_, congrArg (fun n => (n + 1) % 2 ^ 64) hfolded⟩
  · show (v.domain d).folded + 1 = _
    rw [hdom]
  · show (v.domain d).fp + (s.foldPlan d x).fresh.length = _
    rw [hdom]

end

/-! ### A fold (R97) -/

section
variable {s : State} {r : Released} {rest : List Released}

/-- The state in which a record is taken by a fold pipe. -/
def State.foldsFrom (s : State) (rest : List Released) : State := { s with cad := { s.cad with released := rest } }

/-- Traffic of a record, charged before it is folded, moves nothing of the cadastre. -/
theorem State.fold_inl {d : Nat} {x : Located} (h : s.resolve r.fail.bytes r.late = .inl (d, x)) : ∃ v : State,
    v.cad = (s.foldsFrom rest).cad ∧ v.foldCounted d x = s.foldState r rest d x ∧
      (s.foldsFrom rest).fold r = v.applyRecord d x r.fail r.late := by
  refine ⟨((s.foldsFrom rest).draw.traffic ((s.foldsFrom rest).labelClass _)
    (64 * (Config.freeNat (s.foldsFrom rest).fresh % 3)) _).1, ?_, rfl, ?_⟩
  · exact (((s.foldsFrom rest).draw_dmcFrame.store.trans (Counted.charge ..).store).trans (Counted.servedLabel ..).store).cad
  · unfold State.fold
    dsimp only
    rw [show (s.foldsFrom rest).resolve r.fail.bytes r.late = _ from h]
    rfl

theorem State.fold_inr {e : ExcReason × Option Nat} (h : s.resolve r.fail.bytes r.late = .inr e) :
    (s.foldsFrom rest).fold r = (s.foldsFrom rest).exception r.fail.bytes r.fail.chain e.1 e.2 := by
  unfold State.fold
  dsimp only
  rw [show (s.foldsFrom rest).resolve r.fail.bytes r.late = _ from h]

end

/-- What a fold leaves of the queues, whatever its record resolves to. -/
theorem State.fold_queues (s : State) (r : Released) (rest : List Released) : QueuesKept (s.foldsFrom rest) ((s.foldsFrom rest).fold r) := by
  cases h : s.resolve r.fail.bytes r.late with
  | inl y =>
    obtain ⟨v, hcad, -, hfold⟩ := State.fold_inl (rest := rest) h
    rw [hfold, QueuesKept, ← hcad]
    cases hneeds : (v.foldCounted y.1 y.2).takeAll (v.foldPlan y.1 y.2).needs with
    | none => exact (v.applyRecord_full y.1 y.2 r.fail r.late hneeds).1
    | some t => exact (v.applyRecord_room y.1 y.2 r.fail r.late (by rw [hneeds]; rfl)).1
  | inr e =>
    obtain ⟨l, hl⟩ := (s.foldsFrom rest).exception_cad r.fail.bytes r.fail.chain e.1 e.2
    rw [State.fold_inr h, QueuesKept, hl]
    exact ⟨rfl, rfl, rfl⟩

/-! ### Blocks that run out (R93, R94) -/

theorem CapLog.written_leaves (x : CapLog) (size : Nat) (ring : Bool) : (x.written size ring).recs = [] ∧
    (x.written size ring).seq = (x.seq + 1) % 4294967296 ∧ (x.wptr + 4096 < size → (x.written size ring).wptr = x.wptr + 4096) ∧
    (size ≤ x.wptr + 4096 → ring = true → (x.written size ring).wptr = 0 ∧ (x.written size ring).full = x.full) ∧
    (size ≤ x.wptr + 4096 → ring = false → (x.written size ring).full = true) := by
  unfold CapLog.written
  by_cases hroom : x.wptr + 4096 < size
  · simp [hroom, Nat.not_le.mpr hroom]
  · cases ring <;> simp [hroom]

/-- Settles O21: a gap timer releases what waits, a block that runs out is written, and a fold takes the oldest released record. -/
theorem gapsCaptureFold : Obligations.GapsCaptureFold := by
  intro s src p r rest nx h later x c expired written
  refine ⟨fun hno => if_neg ?_, fun hm ht he => ⟨s.gapExpire src, if_pos ⟨hm, ht, he⟩, (Ordered.gapExpire s src).ingest,
    (Ordered.gapExpire s src).sources, State.gapExpire_gap, State.gapExpire_all⟩, fun hno => if_neg hno, fun hw part hpart => ?_,
    fun hno => ?_, fun hm hq => ?_⟩
  · rintro ⟨hm, ht, he⟩
    rcases hno with hno | hno | hno
    · exact hno hm
    · exact absurd ht (by rw [hno]; simp)
    · exact hno he
  · have hcad := State.writeBlock_cad hpart (s.capRing p)
    obtain ⟨hrecs, hseq, hptr, hring, hfull⟩ := (s.capLog p).written_leaves part.size (s.capRing p)
    have hlog : (s.writeBlock p (s.capRing p)).capLog p = (s.capLog p).written part.size (s.capRing p) := by
      rw [State.capLog, hcad]
      simp
    refine ⟨s.writeBlock p (s.capRing p), if_pos hw, ?_⟩
    rw [hlog, hcad]
    exact ⟨hrecs, hseq, rfl, hptr, hring, hfull⟩
  · show execFoldRecord s = _
    unfold execFoldRecord
    split
    · rename_i hm hq
      rcases hno with hno | hno
      · exact absurd hm hno
      · rw [hq] at hno
        cases hno
    · rfl
  · have hexec : exec .foldRecord s = .next ((s.foldsFrom rest).fold r).queueMoved := by
      show execFoldRecord s = _
      unfold execFoldRecord
      split
      · rename_i hq'
        rw [hq] at hq'
        cases hq'
        rfl
      · rename_i hno
        exact (hno r rest hm hq).elim
    obtain ⟨hreleased, hsources, hingest⟩ := s.fold_queues r rest
    have hdomain : ∀ d, ((s.foldsFrom rest).fold r).queueMoved.domain d = ((s.foldsFrom rest).fold r).domain d := fun d =>
      State.domain_of_cad (by rw [State.queueMoved_cad]) d
    refine ⟨_, hexec, ?_⟩
    simp only [State.queueMoved_cad, hdomain]
    refine ⟨hreleased, hsources, hingest, fun d y hd => ?_, fun e he => ?_⟩
    · obtain ⟨v, hcad, hstate, hfold⟩ := State.fold_inl (rest := rest) hd
      have hplan : v.foldPlan d y = s.foldPlan d y :=
        State.foldPlan_of_cad (by rw [hcad]; rfl) (by rw [hcad]; rfl) (by rw [hcad]; rfl) d y
      have hplan' : (v.foldCounted d y).foldPlan d y = v.foldPlan d y := by
        have hc : (v.foldCounted d y).cad = v.cad := (State.satInc_dmcFrame ..).keeps.1
        exact State.foldPlan_of_cad (by rw [hc]) (by rw [hc]) (by rw [hc]) d y
      have hdom : v.domain d = s.domain d := State.domain_of_cad (by rw [hcad]; rfl) d
      rw [← hstate, hplan', hfold, ← hplan, ← hdom]
      have htotal : v.cad.folded = s.cad.folded ∧ v.cad.excTotal = s.cad.excTotal := by
        rw [hcad]
        exact ⟨rfl, rfl⟩
      rw [← htotal.1, ← htotal.2]
      exact ⟨fun h => (v.applyRecord_room d y r.fail r.late h).2, fun h => (v.applyRecord_full d y r.fail r.late h).2⟩
    · obtain ⟨l, hl⟩ := (s.foldsFrom rest).exception_cad r.fail.bytes r.fail.chain e.1 e.2
      rw [State.fold_inr he, hl]
      exact ⟨rfl, rfl, rfl⟩

end Sys2Proof.Machine
end

section
/-! PROOFS. The blocks of a packet: what START, the data blocks and END spell is the packet they were made from (R186, R214 to R216). -/
namespace Sys2Proof.Machine

/-! ### Control blocks (R186) -/

theorem bitsOf_eq (n hi lo : Nat) : bitsOf n hi lo = n / 2 ^ lo % 2 ^ (hi + 1 - lo) := by
  rw [bitsOf, Nat.shiftRight_eq_div_pow]

theorem bitOf_eq (n i : Nat) : bitOf n i = decide (n / 2 ^ i % 2 = 1) := by
  rw [bitOf, Nat.testBit_eq_decide_div_mod_eq]

theorem crc16_lt (l : List Byte) : crc16 l < 65536 := BitVec.isLt _

theorem crc32_lt (l : List Byte) : crc32 l < 4294967296 := BitVec.isLt _

theorem blockCrc_lt (type body : Nat) : blockCrc type body < 65536 := crc16_lt _

/-- The CRC covers bits [55:16] of the body. -/
theorem blockCrc_congr (type : Nat) {a b : Nat} (h : a / 65536 = b / 65536) : blockCrc type a = blockCrc type b := by
  have hshift : ∀ x i : Nat, i < 5 → x >>> (48 - 8 * i) = x / 65536 / 2 ^ (32 - 8 * i) := fun x i hi => by
    rw [Nat.shiftRight_eq_div_pow, Nat.div_div_eq_div_mul, show 65536 = 2 ^ 16 from rfl, ← Nat.pow_add]
    congr 2
    omega
  unfold blockCrc
  congr 2
  refine List.map_congr_left fun i hi => ?_
  rw [hshift a i (List.mem_range.mp hi), hshift b i (List.mem_range.mp hi), h]

theorem sealed_div (type b : Nat) : sealed type b / 65536 = b / 65536 := by
  have := blockCrc_lt type b
  unfold sealed
  omega

theorem sealed_lt {type b : Nat} (h : b < 2 ^ 56) : sealed type b < 2 ^ 56 := by
  have := sealed_div type b
  omega

theorem crcHolds_sealed (type b : Nat) : crcHolds type (sealed type b) = true := by
  have hlt := blockCrc_lt type b
  rw [crcHolds, blockCrc_congr type (sealed_div type b), beq_iff_eq, sealed]
  omega

/-- What a control block of a type and a body reads as. -/
theorem ctlBlock_reads {type body : Nat} (ht : type < 256) (hb : body < 2 ^ 56) :
    (ctlBlock type body).type = type ∧ (ctlBlock type body).body = body := by
  have hbits : (ctlBlock type body).bits.toNat = type * 2 ^ 56 + body := by
    rw [ctlBlock, BitVec.toNat_ofNat]
    omega
  rw [RxBlock.type, RxBlock.body, hbits, bitsOf_eq, bitsOf_eq]
  omega

/-! ### START and END (R214, R215) -/

section
variable {p : Packet} (h : packetFits p = true)
include h

theorem packetFits_spec : p.type ≤ 6 ∧ p.lseq < 65536 ∧ p.label < 256 ∧ p.payload.length % 8 = 0 ∧ p.payload.length / 8 < 128 ∧
    p.tag.length = if p.tagged then 32 else 0 := by
  simpa only [packetFits, Bool.and_eq_true, decide_eq_true_eq, beq_iff_eq, and_assoc] using h

theorem startBody_lt : startBody p < 2 ^ 40 := by
  obtain ⟨-, hl, hb, -, hn, -⟩ := packetFits_spec h
  have ht : b2n p.tagged ≤ 1 := by cases p.tagged <;> decide
  unfold startBody
  omega

theorem startBlock_reads : (startBlock p).type = 0x80 + p.type ∧
    (startBlock p).body = sealed (0x80 + p.type) (startBody p * 65536) := by
  have := startBody_lt h
  have := (packetFits_spec h).1
  exact ctlBlock_reads (by omega) (sealed_lt (by omega))

/-- The fields that START spells. -/
theorem startBlock_fields : bitsOf (startBlock p).body 55 40 = p.lseq ∧ bitsOf (startBlock p).body 39 32 = p.label ∧
    bitsOf (startBlock p).body 31 25 = p.payload.length / 8 ∧ bitOf (startBlock p).body 24 = p.tagged ∧
    bitsOf (startBlock p).body 23 16 = 0 ∧ (startBlock p).body / 65536 = startBody p := by
  have hdiv := sealed_div (0x80 + p.type) (startBody p * 65536)
  obtain ⟨-, hl, hb, -, hn, -⟩ := packetFits_spec h
  rw [(startBlock_reads h).2]
  generalize sealed (0x80 + p.type) (startBody p * 65536) = body at hdiv ⊢
  rw [Nat.mul_div_cancel _ (by decide)] at hdiv
  have ht : b2n p.tagged = if p.tagged then 1 else 0 := rfl
  simp only [bitsOf_eq, bitOf_eq]
  unfold startBody at hdiv ⊢
  refine ⟨?_, ?_, ?_, ?_, ?_, hdiv⟩
  · split at ht <;> omega
  · split at ht <;> omega
  · split at ht <;> omega
  · rcases Bool.eq_false_or_eq_true p.tagged with hp | hp
    · rw [hp, decide_eq_true_iff]
      rw [if_pos hp] at ht
      omega
    · rw [hp, decide_eq_false_iff_not]
      rw [if_neg (by simp [hp])] at ht
      omega
  · split at ht <;> omega

theorem startBlock_isStart : (startBlock p).isStart = true := by
  have := (packetFits_spec h).1
  rw [RxBlock.isStart, (startBlock_reads h).1]
  simp [startBlock, ctlBlock]
  omega

theorem startBlock_kept : (startBlock p).slot = some (startBlock p) ∧ (startBlock p).isCtl 0x91 = false ∧
    (startBlock p).isCtl 0x92 = false := by
  have hlt := (packetFits_spec h).1
  have hcrc := crcHolds_sealed (0x80 + p.type) (startBody p * 65536)
  obtain ⟨htype, hbody⟩ := startBlock_reads h
  have hframe : framingType (0x80 + p.type) = true := by
    simp [framingType]
    omega
  have hdiscard : (startBlock p).discarded = false := by
    simp only [RxBlock.discarded, RxBlock.controlKept, htype, hbody, hcrc, hframe]
    simp [startBlock, ctlBlock]
  refine ⟨by rw [RxBlock.slot, hdiscard]; rfl, ?_, ?_⟩
  · rw [RxBlock.isCtl, htype]
    simp
    omega
  · rw [RxBlock.isCtl, htype]
    simp
    omega

/-- START announces the data blocks that follow it. -/
theorem startBlock_inner : (startBlock p).inner * 8 = (p.payload ++ p.tag).length := by
  obtain ⟨-, -, hlen, htag, -, -⟩ := startBlock_fields h
  obtain ⟨-, -, -, hmod, -, hsize⟩ := packetFits_spec h
  rw [RxBlock.inner, hlen, htag, List.length_append, hsize]
  split <;> omega

end

theorem endBlock_reads (p : Packet) : (endBlock p).type = 0x90 ∧ (endBlock p).body = sealed 0x90 (pcrc p * 2 ^ 24) := by
  have := crc32_lt ((leBytes 5 (startBody p)).reverse ++ (p.payload ++ p.tag))
  refine ctlBlock_reads (by decide) (sealed_lt ?_)
  simp only [pcrc, pcrcOf]
  omega

theorem endBlock_fields (p : Packet) : bitsOf (endBlock p).body 55 24 = pcrc p ∧ bitsOf (endBlock p).body 23 16 = 0 := by
  have hlt := crc32_lt ((leBytes 5 (startBody p)).reverse ++ (p.payload ++ p.tag))
  have hdiv := sealed_div 0x90 (pcrc p * 2 ^ 24)
  rw [(endBlock_reads p).2, bitsOf_eq, bitsOf_eq]
  simp only [pcrc, pcrcOf] at hdiv ⊢
  omega

theorem endBlock_kept (p : Packet) : (endBlock p).slot = some (endBlock p) ∧ (endBlock p).isCtl 0x90 = true ∧
    (endBlock p).isCtl 0x91 = false ∧ (endBlock p).isCtl 0x92 = false ∧ (endBlock p).isStart = false := by
  obtain ⟨htype, hbody⟩ := endBlock_reads p
  have hcrc := crcHolds_sealed 0x90 (pcrc p * 2 ^ 24)
  have hsync : (endBlock p).sync = 2#2 := rfl
  have hframe : framingType 0x90 = true := by decide
  rw [← hbody] at hcrc
  simp [RxBlock.slot, RxBlock.discarded, RxBlock.controlKept, RxBlock.isCtl, RxBlock.isStart, htype, hcrc, hsync, hframe]

/-! ### The data blocks (R215, R216) -/

/-- A list of whole pieces is cut into them. -/
theorem chunks_whole {n : Nat} (hn : 0 < n) {α : Type} (m : Nat) {k : Nat} (hm : m ≤ k) {l : List α} (hl : l.length = n * m) :
    (chunks n k l).length = m ∧ (chunks n k l).flatten = l ∧ ∀ c ∈ chunks n k l, c.length = n := by
  induction m generalizing k l with
  | zero =>
    obtain rfl : l = [] := List.length_eq_zero_iff.mp hl
    cases k <;> simp [chunks]
  | succ m ih =>
    obtain ⟨k, rfl⟩ : ∃ j, k = j + 1 := ⟨k - 1, by omega⟩
    have hpos : n ≤ l.length := by rw [hl]; exact Nat.le_mul_of_pos_right n (by omega)
    have hne : l.isEmpty = false := by
      cases l with
      | nil => simp at hpos; omega
      | cons => rfl
    obtain ⟨hlen, hflat, hall⟩ := ih (k := k) (l := l.drop n) (by omega) (by rw [List.length_drop, hl, Nat.mul_succ]; omega)
    simp only [chunks, hne, Bool.false_eq_true, if_false]
    refine ⟨by simp [hlen], by simp [hflat], fun c hc => ?_⟩
    rcases List.mem_cons.mp hc with rfl | hc
    · simp [hpos]
    · exact hall c hc

theorem blockBytes_data {l : List (List Byte)} (h : ∀ c ∈ l, c.length = 8) :
    blockBytes ((l.map dataBlock).map some) = some l.flatten := by
  induction l with
  | nil => rfl
  | cons c l ih =>
    have hc := h c (by simp)
    have hlt := leNat_lt c
    rw [hc] at hlt
    have hbytes : leBytes 8 (dataBlock c).bits.toNat = c := by
      rw [dataBlock, BitVec.toNat_ofNat, Nat.mod_eq_of_lt hlt, ← hc, leBytes_leNat]
    simp only [List.map_cons, blockBytes, ih fun d hd => h d (by simp [hd]), hbytes]
    rfl

/-- An error slot among the data blocks leaves none of their bytes. -/
theorem blockBytes_error {l : List (Option RxBlock)} (h : none ∈ l) : blockBytes l = none := by
  induction l with
  | nil => simp at h
  | cons b l ih =>
    cases b with
    | none => rfl
    | some b =>
      rw [blockBytes, ih (by simpa using h)]
      split <;> rfl

/-- The data blocks of a packet. -/
def dataBlocks (p : Packet) : List RxBlock := (chunks 8 160 (p.payload ++ p.tag)).map dataBlock

theorem packetBlocks_eq (p : Packet) : packetBlocks p = startBlock p :: (dataBlocks p ++ [endBlock p]) := rfl

theorem sync_of_mem_dataBlocks {p : Packet} {b : RxBlock} (h : b ∈ dataBlocks p) : b.sync = 1#2 := by
  obtain ⟨c, -, rfl⟩ := List.mem_map.mp h
  rfl

section
variable {p : Packet} (h : packetFits p = true)
include h

theorem dataBlocks_spec : (dataBlocks p).length = (startBlock p).inner ∧
    blockBytes ((dataBlocks p).map some) = some (p.payload ++ p.tag) := by
  have hinner := startBlock_inner h
  obtain ⟨-, -, -, -, hlen, htag⟩ := packetFits_spec h
  have hle : (startBlock p).inner ≤ 160 := by
    rw [List.length_append, htag] at hinner
    split at hinner <;> omega
  obtain ⟨hlen, hflat, hall⟩ := chunks_whole (n := 8) (by decide) _ hle (l := p.payload ++ p.tag) (by rw [← hinner, Nat.mul_comm])
  exact ⟨by simpa [dataBlocks] using hlen, by rw [dataBlocks, blockBytes_data hall, hflat]⟩

/-- What the blocks of a packet spell is the packet, with every field as it was sent. -/
theorem readPacket_packetBlocks : readPacket ((packetBlocks p).map some) = some (p, false) := by
  obtain ⟨hcount, hbytes⟩ := dataBlocks_spec h
  obtain ⟨hl, hb, hn, ht, hz, hs⟩ := startBlock_fields h
  obtain ⟨hcrc, hez⟩ := endBlock_fields p
  have hmod := (packetFits_spec h).2.2.2.1
  have hpayload : 8 * (p.payload.length / 8) = p.payload.length := by omega
  have hsum : pcrcOf (startBody p) (p.payload ++ p.tag) = pcrc p := rfl
  have htake : (((dataBlocks p) ++ [endBlock p]).map some).take (startBlock p).inner = (dataBlocks p).map some := by
    rw [List.map_append, List.take_left' (by simp [hcount])]
  have hdrop : (((dataBlocks p) ++ [endBlock p]).map some).drop (startBlock p).inner = [some (endBlock p)] := by
    rw [List.map_append, List.drop_left' (by simp [hcount])]
    rfl
  rw [packetBlocks_eq, List.map_cons, readPacket, htake, hdrop, hbytes]
  dsimp only
  rw [startBlock_isStart h, (endBlock_kept p).2.1, hs, hcrc, hsum, hl, hb, hn, ht, hz, hez, (startBlock_reads h).1, hpayload]
  simp

end

/-- With an error slot in the place of a data block the blocks spell no packet. -/
theorem readPacket_error {p : Packet} {ds : List (Option RxBlock)} (hn : none ∈ ds) (hl : ds.length = (startBlock p).inner) :
    readPacket (some (startBlock p) :: (ds ++ [some (endBlock p)])) = none := by
  rw [readPacket, List.take_left' hl, blockBytes_error hn]

end Sys2Proof.Machine
end

section
/-! PROOFS. The receiver of a chain: the slots a packet's blocks take, and what each verdict leaves (R216 to R222, R228, R230). -/
namespace Sys2Proof.Machine

/-! ### Slots gathered (R216, R218) -/

@[simp] theorem State.setChainP_setChainP (s : State) (k : Nat) (x y : ChainPkt) :
    (s.setChainP k x).setChainP k y = s.setChainP k y := by
  simp [State.setChainP]

/-- A chain with the slots of a packet that it has gathered. -/
def State.gathering (s : State) (k : Nat) (l : List (Option RxBlock)) : State := s.setChainP k { s.chainP k with rxAsm := l }

section
variable (s : State) (k : Nat) (l : List (Option RxBlock))

theorem State.gathering_rxAsm : ((s.gathering k l).chainP k).rxAsm = l := by rw [State.gathering, State.chainP_setChainP]

theorem State.gathering_gathering (m : List (Option RxBlock)) : (s.gathering k l).gathering k m = s.gathering k m := by
  simp only [State.gathering, State.chainP_setChainP, State.setChainP_setChainP]

theorem State.gathering_takesBlocks : (s.gathering k l).takesBlocks k = s.takesBlocks k := rfl

end

/-- An error slot, or a data block, in its place before the END. -/
def dataSlot (b : Option RxBlock) : Prop := ∀ c, b = some c → c.sync = 1#2

section
variable {s : State} {k : Fin 16} (ht : s.takesBlocks k = true) (late : BitVec 32)
include ht

/-- A START begins a packet where none is gathered. -/
theorem State.takeSlot_start {c : RxBlock} (hslot : c.slot = some c) (hack : c.isCtl 0x91 = false) (hnak : c.isCtl 0x92 = false)
    (hstart : c.isStart = true) (ha : (s.chainP k).rxAsm = []) : s.takeSlot k late (some c) = s.gathering k [some c] := by
  simp [State.takeSlot, ht, Option.bind, hslot, hack, hnak, hstart, State.closeBlocks, ha, State.gathering]

/-- A slot before the place of the END is gathered. -/
theorem State.takeSlot_data {b : Option RxBlock} (hb : dataSlot b) (hfull : blocksFull (s.chainP k).rxAsm = false) :
    s.takeSlot k late b = s.gathering k ((s.chainP k).rxAsm ++ [b]) := by
  cases b with
  | none => simp [State.takeSlot, ht, hfull, State.gathering]
  | some c =>
    have hc : c.sync = 1#2 := hb c rfl
    simp [State.takeSlot, ht, Option.bind, RxBlock.slot, RxBlock.discarded, RxBlock.isCtl, RxBlock.isStart, hc, hfull, State.gathering]

/-- An END closes what is gathered. -/
theorem State.takeSlot_end {c : RxBlock} (hslot : c.slot = some c) (hend : c.isCtl 0x90 = true) (hack : c.isCtl 0x91 = false)
    (hnak : c.isCtl 0x92 = false) (hstart : c.isStart = false) :
    s.takeSlot k late (some c) = (s.gathering k []).closeBlocks k late ((s.chainP k).rxAsm ++ [some c]) := by
  simp [State.takeSlot, ht, Option.bind, hslot, hend, hack, hnak, hstart, State.gathering]

theorem State.takeSlots_data {h : RxBlock} (l : List (Option RxBlock)) (hl : ∀ b ∈ l, dataSlot b) (r : List (Option RxBlock))
    (hroom : r.length + l.length ≤ h.inner) :
    l.foldl (fun (t : State) b => t.takeSlot k late b) (s.gathering k (some h :: r)) = s.gathering k (some h :: (r ++ l)) := by
  induction l generalizing r with
  | nil => simp
  | cons b l ih =>
    have hstep : (s.gathering k (some h :: r)).takeSlot k late b = s.gathering k (some h :: (r ++ [b])) := by
      rw [State.takeSlot_data ((s.gathering_takesBlocks ..).trans ht) late (hl b (by simp)), State.gathering_rxAsm,
        State.gathering_gathering, List.cons_append]
      rw [State.gathering_rxAsm, blocksFull, Bool.and_eq_false_iff, decide_eq_false_iff_not]
      exact .inr (by simp only [List.length_cons] at hroom; omega)
    rw [List.foldl_cons, hstep, ih (fun c hc => hl c (by simp [hc])) _ (by simp at hroom ⊢; omega)]
    simp

/-- The slots from a START to the END in its place close as one packet. -/
theorem State.takeSlots_packet {p : Packet} (hp : packetFits p = true) (ha : (s.chainP k).rxAsm = []) {ds : List (Option RxBlock)}
    (hd : ∀ b ∈ ds, dataSlot b) (hn : ds.length = (startBlock p).inner) :
    (some (startBlock p) :: (ds ++ [some (endBlock p)])).foldl (fun (t : State) b => t.takeSlot k late b) s =
      (s.gathering k []).closeBlocks k late (some (startBlock p) :: (ds ++ [some (endBlock p)])) := by
  obtain ⟨hslot, hack, hnak⟩ := startBlock_kept hp
  obtain ⟨hslot', hend, hack', hnak', hstart'⟩ := endBlock_kept p
  rw [List.foldl_cons, State.takeSlot_start ht late hslot hack hnak (startBlock_isStart hp) ha, List.foldl_append,
    State.takeSlots_data ht late ds hd [] (by simp [hn]), List.nil_append, List.foldl_cons, List.foldl_nil,
    State.takeSlot_end ((s.gathering_takesBlocks ..).trans ht) late hslot' hend hack' hnak' hstart', State.gathering_rxAsm,
    State.gathering_gathering, List.cons_append]

end

/-! ### Stripes (R192) -/

theorem chunks_flatten {α : Type} {n : Nat} (k : Nat) {l : List α} (h : l.length ≤ n * k) : (chunks n k l).flatten = l := by
  induction k generalizing l with
  | zero => simpa [chunks, eq_comm] using h
  | succ k ih =>
    cases l with
    | nil => simp [chunks]
    | cons a l =>
      have hrest : ((a :: l).drop n).length ≤ n * k := by rw [List.length_drop]; rw [Nat.mul_succ] at h; omega
      simp [chunks, ih hrest]

/-- Slots without an ACK are taken one after the other, however the stripes cut them. -/
theorem exec_packetReceive_slots {k : Fin 16} {slots : List (Option RxBlock)} (h : ∀ b ∈ slots, isAck b = false) (late : BitVec 32)
    (s : State) : exec (.packetReceive k slots late) s = .next (slots.foldl (fun (t : State) b => t.takeSlot k late b) s) := by
  have hstripe : ∀ (t : State) (l : List (Option RxBlock)), (∀ b ∈ l, isAck b = false) →
      t.takeStripe k late l = l.foldl (fun (t : State) b => t.takeSlot k late b) t := fun t l hl => by
    have hnone : l.filter isAck = [] := List.filter_eq_nil_iff.mpr fun b hb => by simp [hl b hb]
    have hall : l.filter (fun b => !isAck b) = l := List.filter_eq_self.mpr fun b hb => by simp [hl b hb]
    rw [State.takeStripe, hnone, hall, List.nil_append]
  have hstripes : ∀ (ls : List (List (Option RxBlock))) (t : State), (∀ b ∈ ls.flatten, isAck b = false) →
      ls.foldl (fun (t : State) l => t.takeStripe k late l) t = ls.flatten.foldl (fun (t : State) b => t.takeSlot k late b) t := fun ls => by
    induction ls with
    | nil => exact fun _ _ => rfl
    | cons l ls ih =>
      intro t ht
      simp only [List.flatten_cons, List.mem_append] at ht
      rw [List.foldl_cons, hstripe t l fun b hb => ht b (.inl hb), ih _ fun b hb => ht b (.inr hb), List.flatten_cons, List.foldl_append]
  have hcut : (chunks (max 1 (popcount 16 (s.chainL k).rxMask)) slots.length slots).flatten = slots :=
    chunks_flatten _ (Nat.le_mul_of_pos_left _ (by omega))
  show execPacketReceive k slots late s = _
  rw [execPacketReceive, hstripes _ _ (by rw [hcut]; exact h), hcut]

/-- A chain that takes no blocks leaves them. -/
theorem exec_packetReceive_unseen {s : State} {k : Fin 16} (h : s.takesBlocks k = false) (slots : List (Option RxBlock)) (late : BitVec 32) :
    exec (.packetReceive k slots late) s = .next s := by
  have hslot : ∀ b, s.takeSlot k late b = s := fun b => by simp [State.takeSlot, h]
  show execPacketReceive k slots late s = _
  rw [execPacketReceive, foldl_fixed]
  exact fun l _ => foldl_fixed fun b _ => hslot b

theorem isAck_some (c : RxBlock) : isAck (some c) = c.isCtl 0x91 := rfl

theorem isAck_dataSlot {b : Option RxBlock} (hb : dataSlot b) : isAck b = false := by
  cases b with
  | none => rfl
  | some c =>
    have hc : c.sync = 1#2 := hb c rfl
    simp [isAck_some, RxBlock.isCtl, hc]

section
variable {p : Packet} (hp : packetFits p = true)
include hp

/-- PACKET_RECEIVE of a START, slots for its data blocks, and the END. -/
theorem exec_packetReceive_packet {s : State} {k : Fin 16} (ht : s.takesBlocks k = true) (ha : (s.chainP k).rxAsm = [])
    {ds : List (Option RxBlock)} (hd : ∀ b ∈ ds, dataSlot b) (hn : ds.length = (startBlock p).inner) (late : BitVec 32) :
    exec (.packetReceive k (some (startBlock p) :: (ds ++ [some (endBlock p)])) late) s =
      .next ((s.setChainP k (s.chainP k)).closeBlocks k late (some (startBlock p) :: (ds ++ [some (endBlock p)]))) := by
  have hkept : s.gathering k [] = s.setChainP k (s.chainP k) := by rw [State.gathering, ← ha]
  rw [exec_packetReceive_slots, State.takeSlots_packet ht late hp ha hd hn, hkept]
  intro b hb
  rcases List.mem_cons.mp hb with rfl | hb
  · rw [isAck_some, (startBlock_kept hp).2.1]
  · rcases List.mem_append.mp hb with hb | hb
    · exact isAck_dataSlot (hd b hb)
    · rw [List.mem_singleton.mp hb, isAck_some, (endBlock_kept p).2.2.1]

/-- The blocks that a packet is sent as are received as that packet (R216, R221). -/
theorem exec_packetReceive_blocks {s : State} {k : Fin 16} (ht : s.takesBlocks k = true) (ha : (s.chainP k).rxAsm = []) (late : BitVec 32) :
    exec (.packetReceive k ((packetBlocks p).map some) late) s = .next ((s.setChainP k (s.chainP k)).receive k p false late) := by
  have hblocks : (packetBlocks p).map some = some (startBlock p) :: ((dataBlocks p).map some ++ [some (endBlock p)]) := by
    simp [packetBlocks_eq]
  have hread := readPacket_packetBlocks hp
  have hdata : ∀ b ∈ (dataBlocks p).map some, dataSlot b := fun b hb c hc => by
    obtain ⟨d, hd, rfl⟩ := List.mem_map.mp hb
    obtain rfl := Option.some.inj hc
    exact sync_of_mem_dataBlocks hd
  rw [hblocks] at hread ⊢
  rw [exec_packetReceive_packet hp ht ha hdata (by rw [List.length_map, (dataBlocks_spec hp).1]), State.closeBlocks, hread]
  rfl

/-- With an error slot for one of its data blocks a packet has a link error (R218). -/
theorem exec_packetReceive_error {s : State} {k : Fin 16} (ht : s.takesBlocks k = true) (ha : (s.chainP k).rxAsm = []) (late : BitVec 32)
    {pre post : List RxBlock} {b : RxBlock} (hb : packetBlocks p = pre ++ b :: post) (hpre : pre ≠ []) (hpost : post ≠ []) :
    exec (.packetReceive k (pre.map some ++ none :: post.map some) late) s = .next ((s.setChainP k (s.chainP k)).linkError k) := by
  obtain ⟨h, pre, rfl⟩ := List.exists_cons_of_ne_nil hpre
  obtain ⟨post, e, rfl⟩ := List.eq_nil_or_concat' post |>.resolve_left hpost
  rw [packetBlocks_eq, List.cons_append, List.cons.injEq, ← List.cons_append, ← List.append_assoc] at hb
  obtain ⟨rfl, hb⟩ := hb
  obtain ⟨hdata, hend⟩ := List.append_inj' hb rfl
  obtain rfl := List.singleton_inj.mp hend
  have hsync : ∀ c ∈ pre ++ post, c.sync = 1#2 := fun c hc => by
    refine sync_of_mem_dataBlocks (p := p) ?_
    rw [hdata]
    simp only [List.mem_append, List.mem_cons] at hc ⊢
    exact hc.imp_right .inr
  have hslots : ∀ c ∈ pre.map some ++ none :: post.map some, dataSlot c := fun c hc d hd => by
    refine hsync d ?_
    subst hd
    simpa using hc
  have hcount : (pre.map some ++ none :: post.map some).length = (startBlock p).inner := by
    rw [← (dataBlocks_spec hp).1, hdata]
    simp
  have hread := readPacket_error (p := p) (ds := pre.map some ++ none :: post.map some) (by simp) hcount
  have hexec := exec_packetReceive_packet hp ht ha hslots hcount late
  rw [State.closeBlocks, hread] at hexec
  simpa using hexec

end

end Sys2Proof.Machine
end

section
/-! PROOFS. What the receiver's verdicts leave: NAK and ACK in their places or owed, E, the discards, and the records of a FAIL packet
(R84, R218, R219, R221, R222, R228, R230). -/
namespace Sys2Proof.Machine

/-! ### A block of the stack's own (R219) -/

section
variable (s : State) (k : Nat)

theorem State.emitBlock_leaves (b : RxBlock) :
    (s.emitBlock k b).out = s.out ++ [.stripeBlock k b (s.chainL k).txStripe (s.chainL k).txPos] ∧ (s.emitBlock k b).pkt = s.pkt ∧
      (s.emitBlock k b).regs = s.regs ∧ (s.emitBlock k b).cad = s.cad ∧ (s.emitBlock k b).mem = s.mem := by
  unfold State.emitBlock State.placeBlocks
  dsimp only
  split
  all_goals exact ⟨rfl, rfl, rfl, rfl, rfl⟩

/-- An ACK goes out in the next place, or is owed. -/
theorem State.sendAck_leaves :
    (s.ackRoom k = true → (s.sendAck k).out =
      s.out ++ [.stripeBlock k (ackBlock ((s.chainP k).e + 65535)) (s.chainL k).txStripe (s.chainL k).txPos]) ∧
    (s.ackRoom k = false → (s.sendAck k).out = s.out ∧ ((s.sendAck k).chainP k).ackOwed = true) ∧
    (((s.sendAck k).chainP k).e = (s.chainP k).e ∧ ((s.sendAck k).chainP k).rxUsed = (s.chainP k).rxUsed) ∧
    (s.sendAck k).regs = s.regs ∧ (s.sendAck k).cad = s.cad ∧ (s.sendAck k).mem = s.mem := by
  unfold State.sendAck
  split
  · rename_i hroom
    unfold State.putAck
    dsimp only
    obtain ⟨hout, -, hregs, hcad, hmem⟩ := (s.setChainP k { s.chainP k with
      ackSent := (s.chainP k).ackSent + 1, ackOwed := false }).emitBlock_leaves k (ackBlock ((s.chainP k).e + 65535))
    have hchain : ∀ y, ((s.setChainP k y).emitBlock k (ackBlock ((s.chainP k).e + 65535))).chainP k = y := fun y => by
      rw [State.chainP, ((s.setChainP k y).emitBlock_leaves k _).2.1]
      exact State.chainP_setChainP ..
    rw [hchain]
    exact ⟨fun _ => hout, fun h => absurd hroom (by simp [h]), ⟨rfl, rfl⟩, hregs, hcad, hmem⟩
  · rename_i hroom
    rw [State.chainP_setChainP]
    exact ⟨fun h => absurd h hroom, fun _ => ⟨rfl, rfl⟩, ⟨rfl, rfl⟩, rfl, rfl, rfl⟩

/-- NAK of the E expected has been given within 1 µs. -/
def State.nakAgain : Bool :=
  match (s.chainP k).nakE with
  | some (e, t) => e == (s.chainP k).e && decide (2 * (s.now - t) < 625)
  | none => false

/-- A NAK put in its place. -/
def State.nakPut : State :=
  (s.setChainP k { s.chainP k with
    nakE := some ((s.chainP k).e, s.now), ackSent := (s.chainP k).ackSent + 1, nakOwed := false }).emitBlock k (nakBlock (s.chainP k).e)

theorem State.putNak_eq : s.putNak k = if s.nakAgain k then s.setChainP k { s.chainP k with nakOwed := false }
    else ((s.nakPut k).satInc (Reg.LNK_P_NAK_TX k)).event (Reg.LNK_P_EVENTS k) Fld.LNK_P_EVENTS_NAK_TX := rfl

theorem State.nakPut_leaves : (s.nakPut k).out =
      s.out ++ [.stripeBlock k (nakBlock (s.chainP k).e) (s.chainL k).txStripe (s.chainL k).txPos] ∧
    ((s.nakPut k).chainP k).e = (s.chainP k).e ∧ (s.nakPut k).regs = s.regs := by
  obtain ⟨y, hy, he⟩ : ∃ y, s.nakPut k = (s.setChainP k y).emitBlock k (nakBlock (s.chainP k).e) ∧
      y.e = (s.chainP k).e := ⟨_, rfl, rfl⟩
  obtain ⟨hout, hpkt, hregs, -, -⟩ := (s.setChainP k y).emitBlock_leaves k (nakBlock (s.chainP k).e)
  rw [hy]
  refine ⟨hout, ?_, hregs⟩
  rw [State.chainP, hpkt]
  exact (congrArg ChainPkt.e (State.chainP_setChainP s k y)).trans he

theorem State.putNak_leaves :
    ((s.chainP k).nakE = none → (s.putNak k).out =
      s.out ++ [.stripeBlock k (nakBlock (s.chainP k).e) (s.chainL k).txStripe (s.chainL k).txPos]) ∧
    (∀ since, (s.chainP k).nakE = some ((s.chainP k).e, since) → 2 * (s.now - since) < 625 → (s.putNak k).out = s.out) ∧
    ((s.putNak k).chainP k).e = (s.chainP k).e ∧ (s.putNak k).rdN (Reg.LNK_P_RX_DISCARD k) = s.rdN (Reg.LNK_P_RX_DISCARD k) := by
  rw [State.putNak_eq]
  split
  · rename_i hagain
    rw [State.chainP_setChainP]
    refine ⟨fun h => ?_, fun _ _ _ => rfl, rfl, rfl⟩
    simp [State.nakAgain, h] at hagain
  · rename_i hagain
    obtain ⟨hout, he, hregs⟩ := s.nakPut_leaves k
    refine ⟨fun _ => hout, fun since h hrecent => absurd ?_ hagain, he, ?_⟩
    · simpa [State.nakAgain, h] using hrecent
    · have hnak : Reg.LNK_P_RX_DISCARD k ≠ Reg.LNK_P_NAK_TX k := by simp [Reg.LNK_P_RX_DISCARD, Reg.LNK_P_NAK_TX]
      have hev : Reg.LNK_P_RX_DISCARD k ≠ Reg.LNK_P_EVENTS k := by simp [Reg.LNK_P_RX_DISCARD, Reg.LNK_P_EVENTS]
      rw [State.event, State.setBits, State.satInc, State.wrN, State.rdN, State.rd_wr_ne _ _ _ _ hev, State.rd_wr_ne _ _ _ _ hnak,
        State.rd, hregs]
      rfl

/-- A NAK goes out in the next place, or is owed, but for one already given within 1 µs. -/
theorem State.sendNak_leaves :
    (s.ackRoom k = true → (s.chainP k).nakE = none → (s.sendNak k).out =
      s.out ++ [.stripeBlock k (nakBlock (s.chainP k).e) (s.chainL k).txStripe (s.chainL k).txPos]) ∧
    (s.ackRoom k = false → (s.sendNak k).out = s.out ∧ ((s.sendNak k).chainP k).nakOwed = true) ∧
    (∀ since, (s.chainP k).nakE = some ((s.chainP k).e, since) → 2 * (s.now - since) < 625 → (s.sendNak k).out = s.out) ∧
    ((s.sendNak k).chainP k).e = (s.chainP k).e ∧ (s.sendNak k).rdN (Reg.LNK_P_RX_DISCARD k) = s.rdN (Reg.LNK_P_RX_DISCARD k) := by
  unfold State.sendNak
  split
  · rename_i hroom
    obtain ⟨hout, hrecent, he, hreg⟩ := s.putNak_leaves k
    exact ⟨fun _ => hout, fun h => absurd hroom (by simp [h]), hrecent, he, hreg⟩
  · rename_i hroom
    rw [State.chainP_setChainP]
    exact ⟨fun h => absurd h hroom, fun _ => ⟨rfl, rfl⟩, fun _ _ _ => rfl, rfl, rfl⟩

end

/-! ### How a chain answers (R218, R219, R222) -/

/-- A state in which a chain answers as in another. -/
structure AnswersAs (k : Nat) (s u : State) : Prop where
  chains : u.chains = s.chains
  out : u.out = s.out
  now : u.now = s.now
  sent : (u.chainP k).ackSent = (s.chainP k).ackSent

/-- The answer ACK, for E as given. -/
def State.acked (s : State) (k : Nat) (t : State) (e : Nat) : Prop :=
  (s.ackRoom k = true → t.out = s.out ++ [.stripeBlock k (ackBlock (e + 65535)) (s.chainL k).txStripe (s.chainL k).txPos]) ∧
  (s.ackRoom k = false → t.out = s.out ∧ (t.chainP k).ackOwed = true)

/-- The answer NAK: E stays, and the packet is discarded. -/
def State.nakked (s : State) (k : Nat) (t : State) : Prop := (t.chainP k).e = (s.chainP k).e ∧
  t.rdN (Reg.LNK_P_RX_DISCARD k) = sat32 (s.rdN (Reg.LNK_P_RX_DISCARD k)) 1 ∧
  (s.ackRoom k = true → (s.chainP k).nakE = none →
    t.out = s.out ++ [.stripeBlock k (nakBlock (s.chainP k).e) (s.chainL k).txStripe (s.chainL k).txPos]) ∧
  (s.ackRoom k = false → t.out = s.out ∧ (t.chainP k).nakOwed = true) ∧
  (∀ since, (s.chainP k).nakE = some ((s.chainP k).e, since) → 2 * (s.now - since) < 625 → t.out = s.out)

section
variable {k : Nat} {s u : State} (h : AnswersAs k s u)
include h

theorem AnswersAs.chainL : u.chainL k = s.chainL k := by rw [State.chainL, h.chains, State.chainL]

theorem AnswersAs.ackRoom : u.ackRoom k = s.ackRoom k := by
  unfold State.ackRoom State.positions
  rw [h.sent, h.chainL, h.now]

theorem AnswersAs.acked : s.acked k (u.sendAck k) (u.chainP k).e := by
  obtain ⟨hroom, howed, -⟩ := u.sendAck_leaves k
  rw [h.ackRoom, h.out, h.chainL] at hroom
  rw [h.ackRoom, h.out] at howed
  exact ⟨hroom, howed⟩

/-- A link error is answered with NAK. -/
theorem AnswersAs.nakked (hx : u.chainP k = s.chainP k) (hreg : u.rdN (Reg.LNK_P_RX_DISCARD k) = s.rdN (Reg.LNK_P_RX_DISCARD k)) :
    s.nakked k (u.linkError k) := by
  have hv : AnswersAs k s (u.satInc (Reg.LNK_P_RX_DISCARD k)) := ⟨h.chains, h.out, h.now, h.sent⟩
  obtain ⟨hroom, howed, hrecent, he, hd⟩ := (u.satInc (Reg.LNK_P_RX_DISCARD k)).sendNak_leaves k
  have hx' : (u.satInc (Reg.LNK_P_RX_DISCARD k)).chainP k = s.chainP k := hx
  rw [State.rdN_satInc, hreg] at hd
  rw [hx'] at hroom hrecent he
  rw [hv.ackRoom, hv.out, hv.chainL] at hroom
  rw [hv.ackRoom, hv.out] at howed
  rw [hv.now, hv.out] at hrecent
  exact ⟨he, hd, hroom, howed, hrecent⟩

end

/-! ### The verdicts (R218, R221, R222) -/

section
variable (s : State) (k : Fin 16) (p : Packet)

/-- A chain's packet layer written again as it stands. -/
def State.asItStands : State := s.setChainP k (s.chainP k)

theorem State.asItStands_chainP : (s.asItStands k).chainP k = s.chainP k := State.chainP_setChainP ..

theorem State.asItStands_answers : AnswersAs k s (s.asItStands k) := ⟨rfl, rfl, rfl, by rw [State.asItStands_chainP]⟩

theorem State.asItStands_judge : (s.asItStands k).judgePacket k p false = s.judgePacket k p false := by
  have hheld : (s.asItStands k).creditHeld k p = s.creditHeld k p := by
    unfold State.creditHeld
    rw [State.asItStands_chainP]
    rfl
  unfold State.judgePacket
  rw [hheld, State.asItStands_chainP]
  rfl

theorem State.asItStands_accept : (s.asItStands k).acceptPacket k p = s.acceptPacket k p := by
  unfold State.acceptPacket
  rw [State.asItStands_chainP]
  dsimp only
  rw [State.asItStands, State.setChainP_setChainP]
  rfl

/-- A packet accepted: E moves on, its cost counts as used, and it is acknowledged. -/
theorem State.acceptPacket_acked : s.acked k (s.acceptPacket k p) (((s.chainP k).e + 1) % 65536) ∧
    ((s.acceptPacket k p).chainP k).e = ((s.chainP k).e + 1) % 65536 ∧
    (∀ pool, s.rxPool p = some pool → Tab.lookD ((s.acceptPacket k p).chainP k).rxUsed pool 0 =
      (Tab.lookD (s.chainP k).rxUsed pool 0 + pktCost p) % 2 ^ 24) ∧
    (s.acceptPacket k p).rdN (Reg.LNK_P_FORMAT k) = s.rdN (Reg.LNK_P_FORMAT k) ∧
    (s.acceptPacket k p).cad = s.cad ∧ (s.acceptPacket k p).mem = s.mem := by
  obtain ⟨y, hy, hye, hsent, hused⟩ : ∃ y, s.acceptPacket k p =
      (((s.setChainP k y).inc64 (Reg.LNK_P_RX_PKTS k)).count 0x09 1 k none p.lseq k).sendAck k ∧
      y.e = ((s.chainP k).e + 1) % 65536 ∧ y.ackSent = (s.chainP k).ackSent ∧
      ∀ pool, s.rxPool p = some pool → Tab.lookD y.rxUsed pool 0 = (Tab.lookD (s.chainP k).rxUsed pool 0 + pktCost p) % 2 ^ 24 := by
    refine ⟨_, rfl, rfl, rfl, fun pool h => ?_⟩
    dsimp only
    rw [h]
    simp
  have hframe : DmcFrame (s.setChainP k y) (((s.setChainP k y).inc64 (Reg.LNK_P_RX_PKTS k)).count 0x09 1 k none p.lseq k) :=
    (State.inc64_countFrame ..).dmc.trans (State.count_countFrame ..).dmc
  have hreg : (((s.setChainP k y).inc64 (Reg.LNK_P_RX_PKTS k)).count 0x09 1 k none p.lseq k).rdN (Reg.LNK_P_FORMAT k) =
      s.rdN (Reg.LNK_P_FORMAT k) := by
    have h1 : Reg.LNK_P_FORMAT k ≠ Reg.LNK_P_RX_PKTS k := by simp [Reg.LNK_P_FORMAT, Reg.LNK_P_RX_PKTS]
    have h2 : Reg.LNK_P_FORMAT k ≠ Reg.LNK_P_RX_PKTS k + 4 := by simp only [Reg.LNK_P_FORMAT, Reg.LNK_P_RX_PKTS]; omega
    rw [State.rdN, State.rd_count _ _ _ _ _ _ _ _ _ (.inr (by simp only [Reg.LNK_P_FORMAT]; omega)), State.inc64, State.rd_wr64 _ _ _ _ h1 h2]
    rfl
  have hnow : (((s.setChainP k y).inc64 (Reg.LNK_P_RX_PKTS k)).count 0x09 1 k none p.lseq k).now = s.now :=
    State.now_of_edge (by simp)
  rw [hy]
  generalize ((s.setChainP k y).inc64 (Reg.LNK_P_RX_PKTS k)).count 0x09 1 k none p.lseq k = u at hframe hreg hnow
  obtain ⟨hcad, hmem, hpkt, hout, hchains⟩ := hframe.keeps
  have hx : u.chainP k = y := by
    rw [State.chainP, hpkt]
    exact State.chainP_setChainP s k y
  have hanswers : AnswersAs k s u := ⟨hchains, hout, hnow, by rw [hx]; exact hsent⟩
  have hacked := hanswers.acked
  obtain ⟨-, -, ⟨he, hrx⟩, hregs, hcad', hmem'⟩ := u.sendAck_leaves k
  rw [hx, hye] at hacked
  rw [he, hrx, hx, hcad', hmem', State.rdN, State.rd, hregs]
  exact ⟨hacked, hye, hused, hreg, hcad, hmem⟩

/-- Another content error is counted, and nothing else of the answer moves. -/
theorem State.contentError_leaves : (s.contentError k p).out = s.out ∧ ((s.contentError k p).chainP k).e = (s.chainP k).e ∧
    ((s.contentError k p).chainP k).ackOwed = (s.chainP k).ackOwed ∧
    (s.contentError k p).rdN (Reg.LNK_P_FORMAT k) = sat32 (s.rdN (Reg.LNK_P_FORMAT k)) 1 ∧
    (s.contentError k p).cad = s.cad ∧ (s.contentError k p).mem = s.mem := by
  have hev : Reg.LNK_P_FORMAT k ≠ Reg.LNK_P_EVENTS k := by simp [Reg.LNK_P_FORMAT, Reg.LNK_P_EVENTS]
  have hreg : ((s.satInc (Reg.LNK_P_FORMAT k)).event (Reg.LNK_P_EVENTS k) Fld.LNK_P_EVENTS_FORMAT).rdN (Reg.LNK_P_FORMAT k) =
      sat32 (s.rdN (Reg.LNK_P_FORMAT k)) 1 := by
    rw [State.event, State.setBits, State.rdN, State.rd_wr_ne _ _ _ _ hev, ← State.rdN, State.rdN_satInc]
  unfold State.contentError
  dsimp only
  split
  · rw [State.chainP_setChainP]
    exact ⟨rfl, rfl, rfl, hreg, rfl, rfl⟩
  · exact ⟨rfl, rfl, rfl, hreg, rfl, rfl⟩

end

/-! ### A FAIL packet accepted (R84, R228) -/

/-- With a CAD partition the records of a packet wait in the ingest queue, and the packet layer stays. -/
theorem State.failPacket_link {s : State} (h : s.cadPart.isSome = true) (k : Nat) (payload : List Byte) :
    (s.failPacket k payload).pkt = s.pkt ∧ (s.failPacket k payload).out = s.out := by
  have hrecord : ∀ (t : State) (l : List Byte), t.cadPart = s.cadPart →
      (t.acceptRecord k l).pkt = t.pkt ∧ (t.acceptRecord k l).out = t.out := fun t l ht => by
    have hcount : CountFrame t (t.count 0x0D 1 (recSource l) none (recSseq l) (recSource l)) := t.count_countFrame ..
    unfold State.acceptRecord
    dsimp only
    generalize t.count 0x0D 1 (recSource l) none (recSseq l) (recSource l) = u at hcount
    obtain ⟨r, p, q, rfl⟩ := hcount
    have hsome : ¬ ({ t with regs := r, pmc := p, qos := q } : State).cadPart.isNone = true := by
      rw [show ({ t with regs := r, pmc := p, qos := q } : State).cadPart = s.cadPart from ht]
      simpa using Option.isSome_iff_ne_none.mp h
    rw [if_neg hsome]
    exact ⟨rfl, rfl⟩
  have hfold : ∀ (l : List (List Byte)) (t : State), t.cadPart = s.cadPart →
      (l.foldl (fun t r => t.acceptRecord k r) t).pkt = t.pkt ∧ (l.foldl (fun t r => t.acceptRecord k r) t).out = t.out := fun l => by
    induction l with
    | nil => exact fun t _ => ⟨rfl, rfl⟩
    | cons r l ih =>
      intro t ht
      obtain ⟨hp, ho⟩ := hrecord t r ht
      obtain ⟨hp', ho'⟩ := ih (t.acceptRecord k r) ((t.acceptRecord_cad k r).1.trans ht)
      exact ⟨hp'.trans hp, ho'.trans ho⟩
  obtain ⟨hp, ho⟩ := hfold (chunks 32 18 payload) s rfl
  obtain ⟨-, -, hpkt, hout, -⟩ := ((chunks 32 18 payload).foldl (fun t r => t.acceptRecord k r) s).queueMoved_dmcFrame.keeps
  exact ⟨hpkt.trans hp, hout.trans ho⟩

/-- An answer stands where its place and its debts do. -/
theorem State.acked_of_link {s t u : State} {k e : Nat} (h : s.acked k t e) (hout : u.out = t.out)
    (howed : (u.chainP k).ackOwed = (t.chainP k).ackOwed) : s.acked k u e := by
  obtain ⟨hroom, hno⟩ := h
  exact ⟨fun hr => hout.trans (hroom hr), fun hr => ⟨hout.trans (hno hr).1, howed.trans (hno hr).2⟩⟩

section
variable {s u : State} {k : Fin 16} (h : AnswersAs k s u) (hx : u.chainP k = s.chainP k)
include h hx

/-- Beyond the credit outstanding, a packet is answered like a link error. -/
theorem AnswersAs.overrun (hreg : u.rdN (Reg.LNK_P_RX_DISCARD k) = s.rdN (Reg.LNK_P_RX_DISCARD k)) : s.nakked k (u.overrun k) := by
  have hovr : Reg.LNK_P_RX_DISCARD k ≠ Reg.LNK_P_CREDIT_OVR k := by simp [Reg.LNK_P_RX_DISCARD, Reg.LNK_P_CREDIT_OVR]
  have hev : Reg.LNK_P_RX_DISCARD k ≠ Reg.LNK_P_EVENTS k := by simp [Reg.LNK_P_RX_DISCARD, Reg.LNK_P_EVENTS]
  have hv : AnswersAs k s ((u.satInc (Reg.LNK_P_CREDIT_OVR k)).event (Reg.LNK_P_EVENTS k) Fld.LNK_P_EVENTS_CREDIT_OVERRUN) :=
    ⟨h.chains, h.out, h.now, h.sent⟩
  refine hv.nakked hx ?_
  rw [State.event, State.setBits, State.satInc, State.wrN, State.rdN, State.rd_wr_ne _ _ _ _ hev, State.rd_wr_ne _ _ _ _ hovr]
  exact hreg

/-- A packet behind E is acknowledged again and discarded. -/
theorem AnswersAs.duplicate (hreg : u.rdN (Reg.LNK_P_RX_DISCARD k) = s.rdN (Reg.LNK_P_RX_DISCARD k)) :
    (((u.satInc (Reg.LNK_P_RX_DISCARD k)).sendAck k).chainP k).e = (s.chainP k).e ∧
      s.acked k ((u.satInc (Reg.LNK_P_RX_DISCARD k)).sendAck k) (s.chainP k).e ∧
      ((u.satInc (Reg.LNK_P_RX_DISCARD k)).sendAck k).rdN (Reg.LNK_P_RX_DISCARD k) = sat32 (s.rdN (Reg.LNK_P_RX_DISCARD k)) 1 := by
  have hv : AnswersAs k s (u.satInc (Reg.LNK_P_RX_DISCARD k)) := ⟨h.chains, h.out, h.now, h.sent⟩
  have hv' : (u.satInc (Reg.LNK_P_RX_DISCARD k)).chainP k = s.chainP k := hx
  have hacked := hv.acked
  obtain ⟨-, -, ⟨he, -⟩, hregs, -, -⟩ := (u.satInc (Reg.LNK_P_RX_DISCARD k)).sendAck_leaves k
  rw [hv'] at hacked he
  have hd : ((u.satInc (Reg.LNK_P_RX_DISCARD k)).sendAck k).rdN (Reg.LNK_P_RX_DISCARD k) =
      (u.satInc (Reg.LNK_P_RX_DISCARD k)).rdN (Reg.LNK_P_RX_DISCARD k) := by
    rw [State.rdN, State.rd, hregs]
    rfl
  exact ⟨he, hacked, by rw [hd, State.rdN_satInc, hreg]⟩

end

/-- Settles O40: the blocks are read as the packet they were made from, and each verdict answers it. -/
theorem packetReceiver : Obligations.PacketReceiver := by
  intro s k p slots late x e1 blocks put acked nakked
  refine ⟨fun hno => exec_packetReceive_unseen hno slots late, fun ht ha hp => ?_⟩
  have hanswers := s.asItStands_answers k
  have hx := s.asItStands_chainP k
  have hexec : exec (.packetReceive k blocks late) s = .next ((s.asItStands k).receive k p false late) :=
    exec_packetReceive_blocks hp ht ha late
  obtain ⟨hacked, he, hused, hformat, hcad, hmem⟩ := s.acceptPacket_acked k p
  refine ⟨hexec, fun pre b post hb hpre hpost =>
    ⟨_, exec_packetReceive_error hp ht ha late hb hpre hpost, hanswers.nakked hx rfl⟩, ?_⟩
  rw [State.receive, s.asItStands_judge k p, s.asItStands_accept k p] at hexec
  refine ⟨fun hv => ?_, fun hv => ?_, fun hv => ?_, fun hv htype hpart => ?_⟩
  · rcases hv with hv | hv
    · exact ⟨_, hexec.trans (by rw [show s.judgePacket k p false = _ from hv]), hanswers.nakked hx rfl⟩
    · exact ⟨_, hexec.trans (by rw [show s.judgePacket k p false = _ from hv]), hanswers.overrun hx rfl⟩
  · exact ⟨_, hexec.trans (by rw [show s.judgePacket k p false = _ from hv]), hanswers.duplicate hx rfl⟩
  · obtain ⟨hout, he', howed, hformat', hcad', hmem'⟩ := (s.acceptPacket k p).contentError_leaves k p
    exact ⟨_, hexec.trans (by rw [show s.judgePacket k p false = _ from hv]), he'.trans he, State.acked_of_link hacked hout howed,
      by rw [hformat', hformat], hcad'.trans hcad, hmem'.trans hmem⟩
  · have hpart' : (s.acceptPacket k p).cadPart = s.cadPart := by
      rw [State.cadPart, (s.acceptPacket_received k p).cfg, State.cadPart]
    obtain ⟨hpkt, hout⟩ := State.failPacket_link (s := s.acceptPacket k p) (by rw [hpart']; exact hpart) k p.payload
    have hchain : ((s.acceptPacket k p).failPacket k p.payload).chainP k = (s.acceptPacket k p).chainP k := by
      rw [State.chainP, hpkt, State.chainP]
    have hdispatch : (s.acceptPacket k p).dispatchPacket k p late = (s.acceptPacket k p).failPacket k p.payload := by
      simp [State.dispatchPacket, htype]
    refine ⟨(s.acceptPacket k p).dispatchPacket k p late, hexec.trans (by rw [show s.judgePacket k p false = _ from hv]), ?_⟩
    rw [hdispatch, hchain]
    refine ⟨he, State.acked_of_link hacked hout (by rw [hchain]), hused _ (by simp [State.rxPool, htype]), ?_⟩
    rw [((s.acceptPacket k p).failPacket_cad k p.payload).2, hpart', hcad, if_neg (by simpa using Option.isSome_iff_ne_none.mp hpart)]

end Sys2Proof.Machine
end

section
/-! PROOFS. The search of an engine: what a solution covers, and what a failure proves (R130, R131, R138). -/
namespace Sys2Proof.Machine

/-! ### Rows and columns alike -/

/-- The row of a point, or its column. -/
def coord (col : Bool) (p : Nat × Nat) : Nat := if col then p.2 else p.1

/-- The spares of an axis that are left. -/
def Residue.spares (r : Residue) (col : Bool) : Nat := if col then r.ac else r.ar

/-- The points left on a line. -/
def Residue.count (r : Residue) (col : Bool) (y : Nat) : Nat := (r.pts.filter (fun p => coord col p == y)).length

/-- A line taken: a spare of its axis spent, its points gone. -/
def Residue.spend (r : Residue) (l : Line) : Residue where
  pts := r.pts.filter (fun p => coord l.col p != l.idx)
  ar := if l.col then r.ar else r.ar - 1
  ac := if l.col then r.ac - 1 else r.ac
  lines := r.lines ++ [l]

/-- The lines of one axis of a must-repair pass. -/
def mustLines (col : Bool) (r : Residue) : List Nat → Residue × Option Line
  | [] => (r, none)
  | y :: t =>
    if r.count col y ≤ r.spares (!col) then mustLines col r t
    else if r.spares col = 0 then (r, some ⟨col, y, .short⟩)
    else mustLines col (r.spend ⟨col, y, .must⟩) t

theorem mustRows_eq (r : Residue) (l : List Nat) : mustRows r l = mustLines false r l := by
  induction l generalizing r with
  | nil => rfl
  | cons y t ih => rw [mustRows, mustLines, ih, ih]; rfl

theorem mustCols_eq (r : Residue) (l : List Nat) : mustCols r l = mustLines true r l := by
  induction l generalizing r with
  | nil => rfl
  | cons y t ih => rw [mustCols, mustLines, ih, ih]; rfl

theorem Residue.spares_spend (r : Residue) (l : Line) (col : Bool) :
    (r.spend l).spares col = if col = l.col then r.spares col - 1 else r.spares col := by
  cases col <;> cases hl : l.col <;> simp [Residue.spares, Residue.spend, hl]

theorem mem_linesOf {l : List Line} {col : Bool} {i : Nat} : i ∈ linesOf l col ↔ ∃ x ∈ l, x.col = col ∧ x.idx = i := by
  simp [linesOf, and_assoc]

theorem lineCount_append (l m : List Line) (col : Bool) : lineCount (l ++ m) col = lineCount l col + lineCount m col := by
  simp [lineCount]

/-! ### Lines taken one after another -/

/-- A line taken from a spare that is left. -/
def Residue.Takes (r q : Residue) : Prop := ∃ l, r.spares l.col ≠ 0 ∧ q = r.spend l

/-- A line with more points than the other axis has spares. -/
def Residue.Forced (r : Residue) (l : Line) : Prop := r.spares (!l.col) < r.count l.col l.idx

/-- A forced line taken. -/
def Residue.Must (r q : Residue) : Prop := ∃ l, r.Forced l ∧ r.spares l.col ≠ 0 ∧ q = r.spend l

/-- Lines taken one after another. -/
abbrev Residue.Leads : Residue → Residue → Prop := Relation.ReflTransGen Residue.Takes

/-- Forced lines taken one after another. -/
abbrev Residue.MustLeads : Residue → Residue → Prop := Relation.ReflTransGen Residue.Must

theorem Residue.MustLeads.leads {r q : Residue} (h : r.MustLeads q) : r.Leads q :=
  Relation.ReflTransGen.mono (p := Residue.Takes) (fun _ _ ⟨l, _, hs, hq⟩ => ⟨l, hs, hq⟩) _ _ h

/-- Every line taken is kept, costs one spare of its axis, and covers the points it removes. -/
theorem Residue.Leads.keeps {r q : Residue} (h : r.Leads q) : r.lines ⊆ q.lines ∧
    (∀ col, lineCount q.lines col + q.spares col = lineCount r.lines col + r.spares col) ∧
    ∀ p ∈ r.pts, p ∈ q.pts ∨ ∃ col, coord col p ∈ linesOf q.lines col := by
  induction h with
  | refl => exact ⟨fun _ h => h, fun _ => rfl, fun _ h => .inl h⟩
  | @tail b c _ hstep ih =>
    obtain ⟨l, hs, rfl⟩ := hstep
    obtain ⟨hlines, hcount, hpts⟩ := ih
    have hsub : b.lines ⊆ (b.spend l).lines := List.subset_append_left ..
    refine ⟨fun _ h => hsub (hlines h), fun col => ?_, fun p hp => ?_⟩
    · rw [← hcount, Residue.spares_spend, Residue.spend, lineCount_append]
      by_cases hc : col = l.col
      · subst hc
        simp [lineCount]
        omega
      · simp [lineCount, hc, Ne.symm hc]
    · rcases hpts p hp with hp | ⟨col, hcol⟩
      · by_cases hc : coord l.col p = l.idx
        · exact .inr ⟨l.col, mem_linesOf.mpr ⟨l, by simp [Residue.spend], rfl, hc.symm⟩⟩
        · exact .inl (List.mem_filter.mpr ⟨hp, by simpa using hc⟩)
      · obtain ⟨x, hx, hxc⟩ := mem_linesOf.mp hcol
        exact .inr ⟨col, mem_linesOf.mpr ⟨x, hsub hx, hxc⟩⟩

/-- Lines taken and spares left sum up to the same. -/
theorem Residue.Leads.length {r q : Residue} (h : r.Leads q) :
    q.lines.length + q.ar + q.ac = r.lines.length + r.ar + r.ac ∧ r.lines.length ≤ q.lines.length := by
  induction h with
  | refl => exact ⟨rfl, le_rfl⟩
  | @tail b c _ hstep ih =>
    obtain ⟨l, hs, rfl⟩ := hstep
    cases hl : l.col <;> simp [Residue.spares, Residue.spend, hl] at hs ⊢ <;> omega

/-! ### Must-repair (R130) -/

/-- A pass over an axis takes forced lines, and stops at a forced line that finds no spare. -/
theorem mustLines_leads (col : Bool) (r : Residue) (l : List Nat) : r.MustLeads (mustLines col r l).1 ∧
    ∀ x, (mustLines col r l).2 = some x → (mustLines col r l).1.Forced x ∧ (mustLines col r l).1.spares x.col = 0 := by
  induction l generalizing r with
  | nil => exact ⟨.refl, nofun⟩
  | cons y t ih =>
    rw [mustLines]
    split
    · exact ih r
    · rename_i hforced
      have hforced : r.spares (!col) < r.count col y := Nat.lt_of_not_le hforced
      split
      · rename_i hs
        refine ⟨.refl, fun x hx => ?_⟩
        obtain rfl : (⟨col, y, .short⟩ : Line) = x := Option.some.inj hx
        exact ⟨hforced, hs⟩
      · rename_i hs
        obtain ⟨hlead, hstuck⟩ := ih (r.spend ⟨col, y, .must⟩)
        exact ⟨.head ⟨⟨col, y, .must⟩, hforced, hs, rfl⟩ hlead, hstuck⟩

/-- A pass that takes no line found none forced. -/
theorem mustLines_idle {col : Bool} {r : Residue} {l : List Nat} (hn : (mustLines col r l).2 = none)
    (h : (mustLines col r l).1.lines.length = r.lines.length) :
    (mustLines col r l).1 = r ∧ ∀ y ∈ l, r.count col y ≤ r.spares (!col) := by
  induction l with
  | nil => exact ⟨rfl, by simp⟩
  | cons y t ih =>
    rw [mustLines] at hn h ⊢
    by_cases hc : r.count col y ≤ r.spares (!col)
    · rw [if_pos hc] at hn h ⊢
      obtain ⟨hr, ht⟩ := ih hn h
      exact ⟨hr, List.forall_mem_cons.mpr ⟨hc, ht⟩⟩
    · rw [if_neg hc] at hn h
      split at hn
      · cases hn
      · rename_i hs
        rw [if_neg hs] at h
        have hgrown := (mustLines_leads col (r.spend ⟨col, y, .must⟩) t).1.leads.length.2
        have hone : (r.spend ⟨col, y, .must⟩).lines.length = r.lines.length + 1 := by simp [Residue.spend]
        omega

/-- No line of the points left is forced. -/
def Residue.Settled (r : Residue) : Prop := ∀ col y, r.count col y ≤ r.spares (!col)

theorem Residue.settled_of_lines {r : Residue} (hrow : ∀ y ∈ rowsOf r.pts, r.count false y ≤ r.spares true)
    (hcol : ∀ x ∈ colsOf r.pts, r.count true x ≤ r.spares false) : r.Settled := by
  have hzero : ∀ col y, (∀ p ∈ r.pts, coord col p ≠ y) → r.count col y = 0 := fun col y h => by
    simpa [Residue.count, List.filter_eq_nil_iff] using fun a b hab => h (a, b) hab
  intro col y
  by_cases h : ∃ p ∈ r.pts, coord col p = y
  · obtain ⟨p, hp, rfl⟩ := h
    cases col with
    | false => exact hrow _ (by simpa [rowsOf, coord] using ⟨p.2, hp⟩)
    | true => exact hcol _ (by simpa [colsOf, coord] using ⟨p.1, hp⟩)
  · rw [hzero col y fun p hp he => h ⟨p, hp, he⟩]
    exact Nat.zero_le _

/-- The passes of must-repair one by one. -/
theorem mustRepair_succ (n : Nat) (r : Residue) : mustRepair (n + 1) r =
    let a := mustLines false r (rowsOf r.pts)
    let b := mustLines true a.1 (colsOf a.1.pts)
    if a.2.isSome then a else if b.2.isSome then b else if b.1.lines.length = r.lines.length then b else mustRepair n b.1 := by
  rw [mustRepair, mustRows_eq]
  rcases mustLines false r (rowsOf r.pts) with ⟨r1, _ | l1⟩ <;> dsimp only
  · rw [mustCols_eq]
    rcases mustLines true r1 (colsOf r1.pts) with ⟨r2, _ | l2⟩ <;> rfl
  · rfl

/-- Must-repair takes forced lines, and stops at a forced line that finds no spare. -/
theorem mustRepair_leads (n : Nat) (r : Residue) : r.MustLeads (mustRepair n r).1 ∧
    ∀ x, (mustRepair n r).2 = some x → (mustRepair n r).1.Forced x ∧ (mustRepair n r).1.spares x.col = 0 := by
  induction n generalizing r with
  | zero => exact ⟨.refl, nofun⟩
  | succ n ih =>
    obtain ⟨ha, hastuck⟩ := mustLines_leads false r (rowsOf r.pts)
    obtain ⟨hb, hbstuck⟩ := mustLines_leads true (mustLines false r (rowsOf r.pts)).1 (colsOf (mustLines false r (rowsOf r.pts)).1.pts)
    rw [mustRepair_succ]
    dsimp only
    split
    · exact ⟨ha, hastuck⟩
    split
    · exact ⟨ha.trans hb, hbstuck⟩
    split
    · exact ⟨ha.trans hb, hbstuck⟩
    · obtain ⟨hrest, hstuck⟩ := ih (mustLines true (mustLines false r (rowsOf r.pts)).1 (colsOf (mustLines false r (rowsOf r.pts)).1.pts)).1
      exact ⟨(ha.trans hb).trans hrest, hstuck⟩

/-- Given a pass more than there are spares, must-repair ends with a pass that takes no line. -/
theorem mustRepair_settled {n : Nat} {r : Residue} (hn : r.ar + r.ac < n) (h : (mustRepair n r).2 = none) :
    (mustRepair n r).1.Settled := by
  induction n generalizing r with
  | zero => omega
  | succ n ih =>
    have ha := (mustLines_leads false r (rowsOf r.pts)).1.leads.length
    have hb := (mustLines_leads true (mustLines false r (rowsOf r.pts)).1 (colsOf (mustLines false r (rowsOf r.pts)).1.pts)).1.leads.length
    rw [mustRepair_succ] at h ⊢
    dsimp only at h ⊢
    split at h
    · rename_i ha
      simp [h] at ha
    rename_i hanone
    split at h
    · rename_i hb
      simp [h] at hb
    rename_i hbnone
    rw [if_neg hanone, if_neg hbnone]
    simp only [Option.not_isSome_iff_eq_none] at hanone hbnone
    split at h
    · rename_i hsame
      obtain ⟨har, hrow⟩ := mustLines_idle hanone (by omega)
      rw [if_pos hsame]
      rw [har] at hbnone hsame ⊢
      obtain ⟨hbr, hcol⟩ := mustLines_idle hbnone hsame
      rw [hbr]
      exact Residue.settled_of_lines hrow hcol
    · rename_i hgrown
      rw [if_neg hgrown]
      exact ih (by omega) h

/-! ### What repairs the points left -/

/-- Some lines within the spares left cover the points left. -/
def Residue.Repairable (r : Residue) : Prop :=
  ∃ k : Bool → List Nat, (∀ col, (k col).length ≤ r.spares col) ∧ ∀ p ∈ r.pts, ∃ col, coord col p ∈ k col

/-- A repair without one of its lines repairs what that line leaves. -/
theorem Residue.repairable_spend {r : Residue} {k : Bool → List Nat} (hk : ∀ col, (k col).length ≤ r.spares col)
    (hcov : ∀ p ∈ r.pts, ∃ col, coord col p ∈ k col) {l : Line} (hl : l.idx ∈ k l.col) :
    r.spares l.col ≠ 0 ∧ (r.spend l).Repairable := by
  have hpos := List.length_pos_of_mem hl
  refine ⟨fun h0 => ?_, Function.update k l.col ((k l.col).erase l.idx), fun col => ?_, fun p hp => ?_⟩
  · have := hk l.col
    omega
  · rw [Residue.spares_spend]
    by_cases hc : col = l.col
    · subst hc
      rw [Function.update_self, if_pos rfl, List.length_erase_of_mem hl]
      exact Nat.sub_le_sub_right (hk _) 1
    · rw [Function.update_of_ne hc, if_neg hc]
      exact hk col
  · obtain ⟨hp, hne⟩ := List.mem_filter.mp hp
    obtain ⟨col, hcol⟩ := hcov p hp
    refine ⟨col, ?_⟩
    by_cases hc : col = l.col
    · subst hc
      rw [Function.update_self]
      exact (List.mem_erase_of_ne (by simpa using hne)).mpr hcol
    · rw [Function.update_of_ne hc]
      exact hcol

/-- Points of one line differ in the other coordinate. -/
theorem coord_inj {col : Bool} {p q : Nat × Nat} (h : coord col p = coord col q) (h' : coord (!col) p = coord (!col) q) : p = q := by
  cases col
  · exact Prod.ext h h'
  · exact Prod.ext h' h

/-- Every repair has the forced lines: without such a line, each of its points would need its own line of the other axis. -/
theorem Residue.Forced.mem {r : Residue} {l : Line} (h : r.Forced l) (hn : r.pts.Nodup) {k : Bool → List Nat}
    (hk : ∀ col, (k col).length ≤ r.spares col) (hcov : ∀ p ∈ r.pts, ∃ col, coord col p ∈ k col) : l.idx ∈ k l.col := by
  by_contra hnot
  have hon : ∀ p ∈ r.pts.filter (fun p => coord l.col p == l.idx), p ∈ r.pts ∧ coord l.col p = l.idx := fun p hp => by
    simpa using hp
  have hdistinct : ((r.pts.filter (fun p => coord l.col p == l.idx)).map (coord (!l.col))).Nodup :=
    (hn.filter _).map_on fun p hp q hq he => coord_inj ((hon p hp).2.trans (hon q hq).2.symm) he
  have hsub : (r.pts.filter (fun p => coord l.col p == l.idx)).map (coord (!l.col)) ⊆ k (!l.col) := fun x hx => by
    obtain ⟨p, hp, rfl⟩ := List.mem_map.mp hx
    obtain ⟨hmem, hidx⟩ := hon p hp
    obtain ⟨col, hcol⟩ := hcov p hmem
    by_cases hc : col = l.col
    · subst hc
      exact absurd (hidx ▸ hcol) hnot
    · rwa [Bool.eq_not.mpr hc] at hcol
  have hle := (hdistinct.subperm hsub).length_le.trans (hk _)
  rw [List.length_map] at hle
  exact absurd h (Nat.not_lt.mpr hle)

theorem Residue.Forced.repairable {r : Residue} {l : Line} (h : r.Forced l) (hn : r.pts.Nodup) (hr : r.Repairable) :
    r.spares l.col ≠ 0 ∧ (r.spend l).Repairable := by
  obtain ⟨k, hk, hcov⟩ := hr
  exact Residue.repairable_spend hk hcov (h.mem hn hk hcov)

/-- Taking forced lines loses no repair. -/
theorem Residue.MustLeads.repairable {r q : Residue} (h : r.MustLeads q) (hn : r.pts.Nodup) (hr : r.Repairable) :
    q.pts.Nodup ∧ q.Repairable := by
  induction h with
  | refl => exact ⟨hn, hr⟩
  | tail _ hstep ih =>
    obtain ⟨l, hforced, -, rfl⟩ := hstep
    exact ⟨ih.1.filter _, (hforced.repairable ih.1 ih.2).2⟩

/-- Lines of one axis with at most `m` points each hold at most `m` points per line. -/
theorem Residue.filter_mem_le {r : Residue} {col : Bool} {m : Nat} (h : ∀ y, r.count col y ≤ m) (k : List Nat) :
    (r.pts.filter (fun p => decide (coord col p ∈ k))).length ≤ k.length * m := by
  induction k with
  | nil => simp
  | cons y k ih =>
    have hsplit : (r.pts.filter (fun p => decide (coord col p ∈ y :: k))).length ≤
        r.count col y + (r.pts.filter (fun p => decide (coord col p ∈ k))).length := by
      rw [Residue.count]
      generalize r.pts = l
      induction l with
      | nil => simp
      | cons p l ihl =>
        by_cases hy : coord col p = y <;> by_cases hk : coord col p ∈ k <;> simp_all <;> omega
    have hy := h y
    rw [List.length_cons, Nat.succ_mul]
    omega

/-- COUNT_BOUND: where no line is forced, what the spares left can cover is bounded. -/
theorem Residue.Settled.bound {r : Residue} (h : r.Settled) (hr : r.Repairable) : r.pts.length ≤ 2 * r.ar * r.ac := by
  obtain ⟨k, hk, hcov⟩ := hr
  have hsplit : r.pts.length ≤ (r.pts.filter (fun p => decide (coord false p ∈ k false))).length +
      (r.pts.filter (fun p => decide (coord true p ∈ k true))).length := by
    clear h hk
    revert hcov
    generalize r.pts = l
    induction l with
    | nil => simp
    | cons p l ih =>
      intro hcov
      obtain ⟨hp, hl⟩ := List.forall_mem_cons.mp hcov
      have := ih hl
      have hor : coord false p ∈ k false ∨ coord true p ∈ k true := by
        obtain ⟨_ | _, hcol⟩ := hp
        · exact .inl hcol
        · exact .inr hcol
      by_cases hrow : coord false p ∈ k false <;> by_cases hcol : coord true p ∈ k true <;> simp_all <;> omega
  have hrows : _ ≤ (k false).length * r.ac := Residue.filter_mem_le (h false) (k false)
  have hcols : _ ≤ (k true).length * r.ar := Residue.filter_mem_le (h true) (k true)
  have hrows' : (k false).length * r.ac ≤ r.ar * r.ac := Nat.mul_le_mul_right _ (hk false)
  have hcols' : (k true).length * r.ar ≤ r.ac * r.ar := Nat.mul_le_mul_right _ (hk true)
  have hcomm : r.ac * r.ar = r.ar * r.ac := Nat.mul_comm ..
  rw [Nat.mul_assoc]
  omega

/-! ### node() (R130) -/

/-- The residue of a branch on a point's line, where its axis has a spare. -/
def Residue.branch (q : Residue) (p : Nat × Nat) (col : Bool) : Option Residue :=
  if q.spares col = 0 then none else some (q.spend ⟨col, coord col p, .branch⟩)

/-- A branch tried. -/
def tryBranch (fuel limit calls : Nat) (q : Residue) : Option Residue → Found × Nat
  | none => (.fail 3 0 0 q.lines, calls)
  | some c => searchNode fuel limit calls c

/-- One branch tried and, where it fails, the other. -/
def tryBoth (fuel limit calls : Nat) (q : Residue) (a b : Option Residue) : Found × Nat :=
  match tryBranch fuel limit calls q a with
  | (.solution l, n) => (.solution l, n)
  | (.spent _, n) => (.spent q.lines, n)
  | (.fail _ _ _ _, n) =>
    match tryBranch fuel limit n q b with
    | (.solution l, m) => (.solution l, m)
    | (.spent _, m) => (.spent q.lines, m)
    | (.fail _ _ _ _, m) => (.fail 3 0 0 q.lines, m)

/-- The axis branched on first. -/
def Residue.firstAxis (q : Residue) (p : Nat × Nat) : Bool := decide (¬ colCount q.pts p.2 ≤ rowCount q.pts p.1)

theorem searchNode_succ (fuel limit calls : Nat) (r : Residue) : searchNode (fuel + 1) limit calls r =
    if limit ≤ calls then (.spent r.lines, calls)
    else
      match mustRepair (r.ar + r.ac + 1) r with
      | (q, some l) => (.fail 1 (lineCount (q.lines ++ [l]) false) (lineCount (q.lines ++ [l]) true) (q.lines ++ [l]), calls + 1)
      | (q, none) =>
        match q.pts with
        | [] => (.solution q.lines, calls + 1)
        | p :: _ =>
          if 2 * q.ar * q.ac < q.pts.length then (.fail 2 q.pts.length (q.ar * 256 + q.ac) q.lines, calls + 1)
          else tryBoth fuel limit (calls + 1) q (q.branch p (q.firstAxis p)) (q.branch p (!q.firstAxis p)) := by
  rw [searchNode]
  split
  · rfl
  rcases mustRepair (r.ar + r.ac + 1) r with ⟨q, _ | l⟩
  swap
  · rfl
  dsimp only
  rcases hp : q.pts with _ | ⟨p, pts⟩
  · rfl
  dsimp only
  split
  · rfl
  have hrow : (if q.ar = 0 then none else some ⟨dropRow (p :: pts) p.1, q.ar - 1, q.ac, q.lines ++ [⟨false, p.1, .branch⟩]⟩) =
      q.branch p false := by rw [← hp]; rfl
  have hcol : (if q.ac = 0 then none else some ⟨dropCol (p :: pts) p.2, q.ar, q.ac - 1, q.lines ++ [⟨true, p.2, .branch⟩]⟩) =
      q.branch p true := by rw [← hp]; rfl
  rw [hrow, hcol, Residue.firstAxis, hp, tryBoth]
  by_cases hle : colCount (p :: pts) p.2 ≤ rowCount (p :: pts) p.1
  · rw [if_pos hle, decide_eq_false (not_not.mpr hle)]
    cases q.branch p false <;> cases h : q.branch p true <;> simp only [Bool.not_false, h] <;> rfl
  · rw [if_neg hle, decide_eq_true hle]
    cases q.branch p true <;> cases h : q.branch p false <;> simp only [Bool.not_true, h] <;> rfl

/-- A solution of two branches is a solution of one of them. -/
theorem tryBoth_solution {fuel limit calls n : Nat} {q : Residue} {a b : Option Residue} {l : List Line}
    (h : tryBoth fuel limit calls q a b = (.solution l, n)) :
    ∃ x, (a = some x ∨ b = some x) ∧ ∃ m, searchNode fuel limit m x = (.solution l, n) := by
  have htry : ∀ {m k : Nat} {o : Option Residue}, tryBranch fuel limit m q o = (.solution l, k) →
      ∃ x, o = some x ∧ searchNode fuel limit m x = (.solution l, k) := fun {m k o} h => by
    cases o with
    | none => cases h
    | some x => exact ⟨x, rfl, h⟩
  rw [tryBoth] at h
  split at h
  · rename_i hfirst
    cases h
    obtain ⟨x, hx, hs⟩ := htry hfirst
    exact ⟨x, .inl hx, _, hs⟩
  · cases h
  · split at h
    · rename_i hsecond
      cases h
      obtain ⟨x, hx, hs⟩ := htry hsecond
      exact ⟨x, .inr hx, _, hs⟩
    all_goals cases h

/-- Two branches fail only where each of them does, or has no spare. -/
theorem tryBoth_fail {fuel limit calls n c d e : Nat} {q : Residue} {a b : Option Residue} {l : List Line}
    (h : tryBoth fuel limit calls q a b = (.fail c d e l, n)) :
    ∀ x, a = some x ∨ b = some x → ∃ m c d e l n, searchNode fuel limit m x = (.fail c d e l, n) := by
  rw [tryBoth] at h
  split at h
  · cases h
  · cases h
  · rename_i hfirst
    split at h
    · cases h
    · cases h
    · rename_i hsecond
      rintro x (rfl | rfl)
      · exact ⟨_, _, _, _, _, _, hfirst⟩
      · exact ⟨_, _, _, _, _, _, hsecond⟩

theorem Residue.branch_some {q x : Residue} {p : Nat × Nat} {col : Bool} :
    q.branch p col = some x ↔ q.spares col ≠ 0 ∧ x = q.spend ⟨col, coord col p, .branch⟩ := by
  unfold Residue.branch
  split <;> simp_all [eq_comm]

/-- A solution of a node is found by must-repair alone, or in a branch behind it. -/
theorem searchNode_solution {fuel limit calls n : Nat} {r : Residue} {l : List Line}
    (h : searchNode (fuel + 1) limit calls r = (.solution l, n)) :
    (∃ q, r.Leads q ∧ q.pts = [] ∧ l = q.lines) ∨ ∃ x m, r.Leads x ∧ searchNode fuel limit m x = (.solution l, n) := by
  have hlead := (mustRepair_leads (r.ar + r.ac + 1) r).1.leads
  rw [searchNode_succ] at h
  split at h
  · cases h
  split at h
  · cases h
  rename_i q hq
  rw [hq] at hlead
  split at h
  · rename_i hpts
    cases h
    exact .inl ⟨q, hlead, hpts, rfl⟩
  split at h
  · cases h
  · obtain ⟨x, hx, m, hm⟩ := tryBoth_solution h
    rw [Residue.branch_some, Residue.branch_some] at hx
    refine .inr ⟨x, m, hlead.tail ?_, hm⟩
    rcases hx with ⟨hs, rfl⟩ | ⟨hs, rfl⟩
    all_goals exact ⟨_, hs, rfl⟩

/-- A solution is what lines taken one after another leave no point of. -/
theorem searchNode_leads {fuel limit calls n : Nat} {r : Residue} {l : List Line}
    (h : searchNode fuel limit calls r = (.solution l, n)) : ∃ q, r.Leads q ∧ q.pts = [] ∧ l = q.lines := by
  induction fuel generalizing calls r with
  | zero => cases h
  | succ fuel ih =>
    rcases searchNode_solution h with hq | ⟨x, m, hlead, hx⟩
    · exact hq
    · obtain ⟨q, hq, hrest⟩ := ih hx
      exact ⟨q, hlead.trans hq, hrest⟩

/-- A node fails where must-repair does, beyond the bound on what is settled, or where the branches on a point left fail that have
a spare. -/
theorem searchNode_fail {fuel limit calls n a b c : Nat} {r : Residue} {l : List Line}
    (h : searchNode (fuel + 1) limit calls r = (.fail a b c l, n)) : ∃ q, r.MustLeads q ∧
      ((∃ x, q.Forced x ∧ q.spares x.col = 0) ∨ (q.Settled ∧ 2 * q.ar * q.ac < q.pts.length) ∨
        ∃ p ∈ q.pts, ∀ col, q.spares col ≠ 0 →
          ∃ m a b c l n, searchNode fuel limit m (q.spend ⟨col, coord col p, .branch⟩) = (.fail a b c l, n)) := by
  obtain ⟨hlead, hstuck⟩ := mustRepair_leads (r.ar + r.ac + 1) r
  have hsettled := mustRepair_settled (n := r.ar + r.ac + 1) (r := r) (by omega)
  rw [searchNode_succ] at h
  split at h
  · cases h
  split at h
  · rename_i q x hq
    rw [hq] at hlead hstuck
    exact ⟨q, hlead, .inl ⟨x, hstuck x rfl⟩⟩
  rename_i q hq
  rw [hq] at hlead hsettled
  refine ⟨q, hlead, .inr ?_⟩
  split at h
  · cases h
  rename_i p pts hpts
  split at h
  · rename_i hbound
    exact .inl ⟨hsettled rfl, hbound⟩
  · refine .inr ⟨p, by simp [hpts], fun col hs => tryBoth_fail h _ ?_⟩
    rw [Residue.branch_some, Residue.branch_some]
    cases q.firstAxis p <;> cases col <;> simp [hs]

/-- A node that fails proves that nothing repairs its points. -/
theorem searchNode_not_repairable {fuel limit calls n a b c : Nat} {r : Residue} {l : List Line} (hn : r.pts.Nodup)
    (h : searchNode fuel limit calls r = (.fail a b c l, n)) : ¬ r.Repairable := by
  induction fuel generalizing calls n a b c r l with
  | zero => cases h
  | succ fuel ih =>
    intro hr
    obtain ⟨q, hlead, hq⟩ := searchNode_fail h
    obtain ⟨hnodup, hrep⟩ := hlead.repairable hn hr
    rcases hq with ⟨x, hforced, hs⟩ | ⟨hsettled, hbound⟩ | ⟨p, hp, hbranch⟩
    · exact (hforced.repairable hnodup hrep).1 hs
    · exact Nat.not_lt.mpr (hsettled.bound hrep) hbound
    · obtain ⟨k, hk, hcov⟩ := hrep
      obtain ⟨col, hcol⟩ := hcov p hp
      obtain ⟨hs, hrest⟩ := Residue.repairable_spend (l := ⟨col, coord col p, .branch⟩) hk hcov hcol
      obtain ⟨m, a, b, c, l, n, hx⟩ := hbranch col hs
      exact ih (hnodup.filter _) hx hrest

/-! ### stage(lr, lc) (R130) -/

/-- The heavy lines of a close record. -/
def CloseRec.heavyLines (c : CloseRec) : List Line :=
  c.heavyRows.map (fun e => ⟨false, e.1, .heavy⟩) ++ c.heavyCols.map (fun e => ⟨true, e.1, .heavy⟩)

/-- Where the search of a stage begins. -/
def CloseRec.root (c : CloseRec) (lr lc : Nat) : Residue := ⟨c.points, lr - c.hr, lc - c.hc, c.heavyLines⟩

theorem searchStage_eq (c : CloseRec) (lr lc limit calls : Nat) : searchStage c lr lc limit calls =
    if lr < c.hr ∨ lc < c.hc then (.fail 1 c.hr c.hc c.heavyLines, calls)
    else
      match searchNode (lr - c.hr + (lc - c.hc) + 1) limit calls (c.root lr lc) with
      | (.fail 3 _ _ l, n) => (.fail 3 (n - calls) 0 l, n)
      | r => r := rfl

/-- A solution of a stage is its node's, within the limits. -/
theorem searchStage_solution {c : CloseRec} {lr lc limit calls n : Nat} {l : List Line}
    (h : searchStage c lr lc limit calls = (.solution l, n)) : c.hr ≤ lr ∧ c.hc ≤ lc ∧
      searchNode (lr - c.hr + (lc - c.hc) + 1) limit calls (c.root lr lc) = (.solution l, n) := by
  rw [searchStage_eq] at h
  split at h
  · cases h
  rename_i hlimits
  split at h
  · cases h
  · exact ⟨by omega, by omega, h⟩

/-- A failed stage has too many heavy lines, or its node fails. -/
theorem searchStage_fail {c : CloseRec} {lr lc limit calls n x y z : Nat} {l : List Line}
    (h : searchStage c lr lc limit calls = (.fail x y z l, n)) : lr < c.hr ∨ lc < c.hc ∨
      ∃ x y z l n, searchNode (lr - c.hr + (lc - c.hc) + 1) limit calls (c.root lr lc) = (.fail x y z l, n) := by
  rw [searchStage_eq] at h
  split at h
  · rename_i hlimits
    exact hlimits.imp_right .inl
  split at h
  · rename_i hnode
    exact .inr (.inr ⟨_, _, _, _, _, hnode⟩)
  · exact .inr (.inr ⟨_, _, _, _, _, h⟩)

/-- The heavy lines are as many as the close record counts. -/
theorem CloseRec.lineCount_heavyLines {c : CloseRec} (hr : c.heavyRows.length = c.hr) (hc : c.heavyCols.length = c.hc) :
    lineCount c.heavyLines false = c.hr ∧ lineCount c.heavyLines true = c.hc := by
  simp [lineCount, CloseRec.heavyLines, List.filter_map, Function.comp_def, hr, hc]

/-! ### The obligations -/

/-- Settles O26: every line taken costs a spare of its axis and covers the points it removes, and a solution leaves no point. -/
theorem solutionsRepair : Obligations.SolutionsRepair := by
  intro c lr lc limit calls n l hr hc h
  obtain ⟨hlr, hlc, hnode⟩ := searchStage_solution h
  obtain ⟨q, hlead, hnone, rfl⟩ := searchNode_leads hnode
  obtain ⟨hlines, hcount, hcov⟩ := hlead.keeps
  obtain ⟨hrows, hcols⟩ := CloseRec.lineCount_heavyLines hr hc
  have hrow : lineCount q.lines false + q.ar = lineCount c.heavyLines false + (lr - c.hr) := hcount false
  have hcol : lineCount q.lines true + q.ac = lineCount c.heavyLines true + (lc - c.hc) := hcount true
  have hheavy : ∀ x ∈ c.heavyLines, x.idx ∈ linesOf q.lines x.col := fun x hx => mem_linesOf.mpr ⟨x, hlines hx, rfl, rfl⟩
  refine ⟨by omega, by omega, fun p hp => ?_, fun e he => hheavy ⟨false, e.1, .heavy⟩ ?_, fun e he => hheavy ⟨true, e.1, .heavy⟩ ?_⟩
  · rcases hcov p hp with hp | ⟨_ | _, hcol⟩
    · simp [hnone] at hp
    · exact .inl hcol
    · exact .inr hcol
  · exact List.mem_append_left _ (List.mem_map_of_mem he)
  · exact List.mem_append_right _ (List.mem_map_of_mem he)

/-- Settles O27: forced lines are in every repair, and one of the branches on a point is; so a repair of the stage would be one of a node
that fails. -/
theorem failuresAreProofs : Obligations.FailuresAreProofs := by
  intro c lr lc limit calls n p a b l hn h
  rcases searchStage_fail h with hr | hc | ⟨x, y, z, l, n, hnode⟩
  · exact .inl hr
  · exact .inr (.inl hc)
  refine .inr (.inr fun rows cols hrows hcols hcov => searchNode_not_repairable hn hnode ?_)
  refine ⟨fun col => if col then cols else rows, Bool.forall_bool.mpr ⟨hrows, hcols⟩, fun p hp => ?_⟩
  exact Bool.exists_bool.mpr (hcov p hp)

end Sys2Proof.Machine
end

section
/-! PROOFS. The choice of a pool round: which choices fit, and the order of the four criteria (R134). -/
namespace Sys2Proof.Machine

/-! ### Choices that fit -/

theorem validChoice_cons {o : List PoolOption} {os : List (List PoolOption)} {ch : Choice} : validChoice (o :: os) ch = true ↔
    ∃ x cs, ch = x :: cs ∧ (∀ i, x = some i → i < o.length) ∧ validChoice os cs = true := by
  rcases ch with _ | ⟨_ | i, cs⟩ <;> simp [validChoice]

theorem validChoice_nil {ch : Choice} : validChoice [] ch = true ↔ ch = [] := by
  cases ch <;> simp [validChoice]

/-- A choice has an entry for each candidate. -/
theorem length_of_validChoice {o : List (List PoolOption)} {ch : Choice} (h : validChoice o ch = true) : ch.length = o.length := by
  induction o generalizing ch with
  | nil => rw [validChoice_nil.mp h]; rfl
  | cons o os ih =>
    obtain ⟨x, cs, rfl, -, hcs⟩ := validChoice_cons.mp h
    rw [List.length_cons, List.length_cons, ih hcs]

/-- An option and its number, among a candidate's options. -/
theorem mem_numbered {o : List PoolOption} {i : Nat} {x : PoolOption} : (i, x) ∈ (List.range o.length).zip o ↔ o[i]? = some x := by
  rw [List.mem_iff_getElem?]
  constructor
  · rintro ⟨n, hn⟩
    obtain ⟨hi, hx⟩ := List.getElem?_zip_eq_some.mp hn
    obtain ⟨-, rfl⟩ : n < o.length ∧ n = i := by simpa [List.getElem?_eq_some_iff] using hi
    exact hx
  · intro hx
    refine ⟨i, List.getElem?_zip_eq_some.mpr ⟨?_, hx⟩⟩
    obtain ⟨hi, -⟩ := List.getElem?_eq_some_iff.mp hx
    simp [hi]

/-- The choices considered are those that name options the candidates have and fit the residual. -/
theorem mem_choices {o : List (List PoolOption)} {rows cols : Nat} {ch : Choice} : ch ∈ choices o rows cols ↔
    validChoice o ch = true ∧ (choiceDemand o ch).1 ≤ rows ∧ (choiceDemand o ch).2 ≤ cols := by
  induction o generalizing rows cols ch with
  | nil => cases ch <;> simp [choices, validChoice, choiceDemand]
  | cons o os ih =>
    rcases ch with _ | ⟨_ | i, cs⟩
    · simp [choices, validChoice]
    · simp [choices, validChoice, choiceDemand, ih]
    · have hmem : some i :: cs ∈ choices (o :: os) rows cols ↔ ∃ x, o[i]? = some x ∧ (x.rows ≤ rows ∧ x.cols ≤ cols) ∧
          cs ∈ choices os (rows - x.rows) (cols - x.cols) := by
        rw [choices, List.mem_append, List.mem_flatMap]
        constructor
        · rintro (⟨⟨j, x⟩, hx, hcs⟩ | hcs)
          · split at hcs
            · rename_i hfits
              obtain ⟨c, hc, heq⟩ := List.mem_map.mp hcs
              cases heq
              exact ⟨x, mem_numbered.mp hx, hfits, hc⟩
            · cases hcs
          · simp at hcs
        · rintro ⟨x, hx, hfits, hcs⟩
          refine .inl ⟨(i, x), mem_numbered.mpr hx, ?_⟩
          rw [if_pos hfits]
          exact List.mem_map_of_mem hcs
      rw [hmem]
      cases hi : o[i]? with
      | none => simp [validChoice, List.getElem?_eq_none_iff.mp hi]
      | some x =>
        obtain ⟨hlt, -⟩ := List.getElem?_eq_some_iff.mp hi
        have hdemand : choiceDemand (o :: os) (some i :: cs) =
            (x.rows + (choiceDemand os cs).1, x.cols + (choiceDemand os cs).2) := by rw [choiceDemand, hi]
        have hvalid : validChoice (o :: os) (some i :: cs) = validChoice os cs := by simp [validChoice, hlt]
        rw [hdemand, hvalid]
        constructor
        · rintro ⟨_, ⟨⟩, hfits, hcs⟩
          obtain ⟨hv, hr, hc⟩ := ih.mp hcs
          exact ⟨hv, by omega, by omega⟩
        · rintro ⟨hv, hr, hc⟩
          exact ⟨x, rfl, by omega, ih.mpr ⟨hv, by omega, by omega⟩⟩

/-! ### The order of the criteria -/

/-- What the criteria compare, the first one first. -/
abbrev Rank := Nat ×ₗ Natᵒᵈ ×ₗ List Bool ×ₗ (List Nat)ᵒᵈ

/-- The place of a choice in the order of the criteria: candidates served, spares granted, who is served, and by which options. -/
def choiceRank (o : List (List PoolOption)) (c : Choice) : Rank :=
  toLex ((c.filter Option.isSome).length, toLex (OrderDual.toDual ((choiceDemand o c).1 + (choiceDemand o c).2),
    toLex (c.map Option.isSome, OrderDual.toDual c.reduceOption)))

theorem servesLower_eq {x y : Choice} (h : x.length = y.length) : servesLower x y =
    if x.map Option.isSome = y.map Option.isSome then none else some (decide (y.map Option.isSome < x.map Option.isSome)) := by
  induction x generalizing y with
  | nil =>
    obtain rfl := List.length_eq_zero_iff.mp h.symm
    rfl
  | cons a x ih =>
    obtain ⟨b, y, rfl⟩ := List.exists_cons_of_length_eq_add_one h.symm
    rw [servesLower]
    have := ih (y := y) (by simpa using h)
    cases a <;> cases b <;> simp [List.cons_lt_cons_iff, this]

theorem lowerOption_eq {x y : Choice} (h : x.map Option.isSome = y.map Option.isSome) :
    lowerOption x y = decide (x.reduceOption < y.reduceOption) := by
  induction x generalizing y with
  | nil =>
    obtain rfl := List.map_eq_nil_iff.mp h.symm
    rfl
  | cons a x ih =>
    obtain ⟨b, y, rfl, hb, hy⟩ := List.map_eq_cons_iff.mp h.symm
    have := ih hy.symm
    rcases a with _ | i <;> rcases b with _ | j
    · simpa [lowerOption] using this
    · simp at hb
    · simp at hb
    · by_cases hij : i = j <;> simp [lowerOption, List.cons_lt_cons_iff, this, hij]

theorem choiceRank_lt {o : List (List PoolOption)} {x y : Choice} : choiceRank o y < choiceRank o x ↔
    (y.filter Option.isSome).length < (x.filter Option.isSome).length ∨
      (y.filter Option.isSome).length = (x.filter Option.isSome).length ∧
        ((choiceDemand o x).1 + (choiceDemand o x).2 < (choiceDemand o y).1 + (choiceDemand o y).2 ∨
          (choiceDemand o y).1 + (choiceDemand o y).2 = (choiceDemand o x).1 + (choiceDemand o x).2 ∧
            (y.map Option.isSome < x.map Option.isSome ∨
              y.map Option.isSome = x.map Option.isSome ∧ x.reduceOption < y.reduceOption)) := by
  simp only [choiceRank, Prod.Lex.toLex_lt_toLex, OrderDual.toDual_lt_toDual, OrderDual.toDual_inj]

/-- One choice is better than another where it ranks higher. -/
theorem betterChoice_iff {o : List (List PoolOption)} {x y : Choice} (h : x.length = y.length) :
    betterChoice o x y = true ↔ choiceRank o y < choiceRank o x := by
  rw [choiceRank_lt]
  simp only [betterChoice, servesLower_eq h]
  split
  · rename_i hn
    simp [Ne.symm hn]
  rename_i hn
  split
  · rename_i ht
    simp [not_not.mp hn, Ne.symm ht]
  rename_i ht
  by_cases hs : x.map Option.isSome = y.map Option.isSome
  · simp [not_not.mp hn, not_not.mp ht, hs, lowerOption_eq hs]
  · simp [not_not.mp hn, not_not.mp ht, hs, Ne.symm hs]

/-! ### The best choice -/

/-- A fold that takes up what ranks higher ends with what nothing outranks. -/
theorem foldl_best {α β : Type} [LinearOrder β] (rank : α → β) {better : α → α → Bool} {p : α → Prop}
    (hbetter : ∀ x y, p x → p y → (better x y = true ↔ rank y < rank x)) {l : List α} (hl : ∀ x ∈ l, p x) {b : α} (hb : p b) :
    let r := l.foldl (fun b c => if better c b then c else b) b
    (r = b ∨ r ∈ l) ∧ rank b ≤ rank r ∧ ∀ x ∈ l, rank x ≤ rank r := by
  induction l generalizing b with
  | nil => exact ⟨.inl rfl, le_rfl, by simp⟩
  | cons c l ih =>
    obtain ⟨hc, hl⟩ := List.forall_mem_cons.mp hl
    dsimp only
    rw [List.foldl_cons]
    split
    · rename_i h
      obtain ⟨hin, hle, hall⟩ := ih hl hc
      refine ⟨.inr ?_, ((hbetter c b hc hb).mp h).le.trans hle, List.forall_mem_cons.mpr ⟨hle, hall⟩⟩
      rcases hin with hin | hin
      · rw [hin]
        exact List.mem_cons_self
      · exact List.mem_cons_of_mem _ hin
    · rename_i h
      obtain ⟨hin, hle, hall⟩ := ih hl hb
      have hcb : rank c ≤ rank b := not_lt.mp fun hlt => h ((hbetter c b hc hb).mpr hlt)
      exact ⟨hin.imp_right (List.mem_cons_of_mem _), hle, List.forall_mem_cons.mpr ⟨hcb.trans hle, hall⟩⟩

/-- Granting nothing always fits. -/
theorem none_mem_choices (o : List (List PoolOption)) (rows cols : Nat) : o.map (fun _ => none) ∈ choices o rows cols := by
  induction o generalizing rows cols with
  | nil => exact List.mem_singleton_self _
  | cons o os ih => exact List.mem_append_right _ (List.mem_map_of_mem (ih rows cols))

/-- The best choice is one of those considered, and none of them is better. -/
theorem bestChoice_spec (o : List (List PoolOption)) (rows cols : Nat) : bestChoice o rows cols ∈ choices o rows cols ∧
    ∀ ch ∈ choices o rows cols, choiceRank o ch ≤ choiceRank o (bestChoice o rows cols) := by
  have hlength : ∀ ch ∈ choices o rows cols, ch.length = o.length := fun ch h => length_of_validChoice (mem_choices.mp h).1
  have hnone := none_mem_choices o rows cols
  obtain ⟨hin, -, hall⟩ := foldl_best (choiceRank o) (better := betterChoice o) (p := fun ch => ch.length = o.length)
    (fun x y hx hy => betterChoice_iff (hx.trans hy.symm)) hlength (hlength _ hnone)
  refine ⟨?_, hall⟩
  rcases hin with hin | hin
  · rw [bestChoice, hin]
    exact hnone
  · exact hin

/-- Settles O28: the criteria are one linear order on the choices, and the choice taken is the highest of those that fit. -/
theorem roundIsExact : Obligations.RoundIsExact := by
  intro o rows cols best
  obtain ⟨hbest, hall⟩ := bestChoice_spec o rows cols
  obtain ⟨hvalid, hrows, hcols⟩ := mem_choices.mp hbest
  refine ⟨hvalid, hrows, hcols, fun ch hv hr hc => Bool.eq_false_iff.mpr fun hb => ?_⟩
  have hlength := (length_of_validChoice hv).trans (length_of_validChoice hvalid).symm
  exact (hall ch (mem_choices.mpr ⟨hv, hr, hc⟩)).not_gt ((betterChoice_iff hlength).mp hb)

end Sys2Proof.Machine
end

section
/-! PROOFS. The life of an analysis: take-up, budgets, first passes, pool rounds and engine errors (R123 to R138, R144). -/
namespace Sys2Proof.Machine

/-! ### What a result and an outcome leave (R135, R137, R146) -/

theorem State.traffic_storeFrame (s : State) (n b l : Nat) : StoreFrame s (s.traffic n b l).1 :=
  (Counted.charge ..).store.trans (Counted.servedLabel ..).store

theorem State.damaged_storeFrame (s : State) (d : Nat) : StoreFrame s (s.damaged d) :=
  (s.event_dmcFrame ..).store.trans (State.alert_storeFrame ..)

/-- A result written: of the analysis, the results that wait to be copied gain it. -/
theorem State.finish_rae (s : State) (r : ResultRec) : (s.finish r).rae = { s.rae with copyQ := s.rae.copyQ ++ [r] } := by
  unfold State.finish
  dsimp only
  split <;> split <;> simp [State.traffic]

/-- Of the cadastre the pools alone move. -/
def PoolsMove (s t : State) : Prop := ∃ l, t = { s with cad := { s.cad with pools := l } }

theorem PoolsMove.refl (s : State) : PoolsMove s s := ⟨s.cad.pools, rfl⟩

theorem PoolsMove.trans {s t u : State} : PoolsMove s t → PoolsMove t u → PoolsMove s u := by
  rintro ⟨l, rfl⟩ ⟨m, rfl⟩
  exact ⟨m, rfl⟩

theorem PoolsMove.keeps {s t : State} (h : PoolsMove s t) : t.rae = s.rae ∧ t.cad.domains = s.cad.domains ∧ t.now = s.now := by
  obtain ⟨l, rfl⟩ := h
  exact ⟨rfl, rfl, rfl⟩

theorem State.checkRound_pools (s : State) (p : Nat) (runner : Option Nat) : PoolsMove s (s.checkRound p runner) := by
  unfold State.checkRound
  split
  · dsimp only
    split
    · exact ⟨_, rfl⟩
    · exact .refl s
  · exact .refl s

theorem State.handRounds_pools (s : State) : PoolsMove s s.handRounds := by
  unfold State.handRounds
  generalize (s.cad.pools.filter _).map _ = l
  induction l generalizing s with
  | nil => exact .refl s
  | cons p l ih =>
    rw [List.foldl_cons]
    refine PoolsMove.trans ?_ (ih _)
    split
    · exact ⟨_, rfl⟩
    · exact .refl s

theorem soloResult_domain (x : Domain) (c : CloseRec) (o : PassOutcome) (e now : Nat) : (soloResult x c o e now).domain = c.domain := by
  unfold soloResult
  split <;> rfl

/-- A result leaves its domain DONE, with the result. -/
theorem State.finish_domain (s : State) (r : ResultRec) : (s.finish r).domain r.domain = { s.domain r.domain with
    state := .done, result := some r, outcome := none, resultAddr := (s.domain r.domain).placeOf .result } :=
  (State.domain_of_cad (congrArg CadSt.domains (s.finish_cad r)) _).trans (s.domain_setDomain ..)

theorem State.finish_domain_ne (s : State) {r : ResultRec} {d : Nat} (h : d ≠ r.domain) : (s.finish r).domain d = s.domain d :=
  (State.domain_of_cad (congrArg CadSt.domains (s.finish_cad r)) _).trans (s.domain_setDomain_ne _ h)

section
variable {s : State} {d e : Nat} {c : CloseRec} {o : PassOutcome} (hc : (s.domain d).closeRec = some c)
include hc

theorem State.takeOutcome_solo (hp : c.pool = 0) : s.takeOutcome d e o = s.finish (soloResult (s.domain d) c o e s.now) := by
  unfold State.takeOutcome
  dsimp only
  rw [hc]
  exact if_pos hp

theorem State.takeOutcome_pool (hp : c.pool ≠ 0) : PoolsMove (s.setDomain d { s.domain d with state := .analysing, outcome := some o })
    (s.takeOutcome d e o) := by
  unfold State.takeOutcome
  dsimp only
  rw [hc]
  dsimp only
  rw [if_neg hp]
  exact State.checkRound_pools ..

/-- An outcome taken leaves the queue and the engines. -/
theorem State.takeOutcome_rae : ∃ q, (s.takeOutcome d e o).rae = { s.rae with copyQ := q } := by
  by_cases hp : c.pool = 0
  · rw [State.takeOutcome_solo hc hp]
    exact ⟨_, State.finish_rae ..⟩
  · exact ⟨s.rae.copyQ, (State.takeOutcome_pool hc hp).keeps.1⟩

/-- Alone, the outcome is the domain's result and waits to be copied. -/
theorem State.takeOutcome_solo_leaves (hd : c.domain = d) (hp : c.pool = 0) : let r := soloResult (s.domain d) c o e s.now
    ((s.takeOutcome d e o).domain d).state = .done ∧ ((s.takeOutcome d e o).domain d).result = some r ∧
      (s.takeOutcome d e o).rae.copyQ = s.rae.copyQ ++ [r] := by
  have hdom := s.finish_domain (soloResult (s.domain d) c o e s.now)
  rw [soloResult_domain, hd] at hdom
  rw [State.takeOutcome_solo hc hp, hdom, State.finish_rae]
  exact ⟨rfl, rfl, rfl⟩

/-- In a pool, it waits for the round. -/
theorem State.takeOutcome_pool_leaves (hp : c.pool ≠ 0) :
    (s.takeOutcome d e o).domain d = { s.domain d with state := .analysing, outcome := some o } :=
  (State.domain_of_cad (State.takeOutcome_pool hc hp).keeps.2.1 d).trans (s.domain_setDomain ..)

end

/-! ### Take-up (R123) -/

theorem exec_raeTakeUp_idle {s : State} (h : s.mode ≠ .service ∨ s.rae.dispatch = false) (intact : Bool) :
    exec (.raeTakeUp intact) s = .next s := by
  refine if_neg fun ⟨hm, hd⟩ => ?_
  rcases h with h | h
  · exact h hm
  · simp [h] at hd

theorem exec_raeTakeUp {s : State} (hm : s.mode = .service) (hd : s.rae.dispatch = true) (intact : Bool) :
    exec (.raeTakeUp intact) s = .next (s.handRounds.takeHead intact) := if_pos ⟨hm, hd⟩

theorem State.takeHead_none {s : State} (h : s.rae.queue = [] ∨ s.freeEngine = none) (intact : Bool) : s.takeHead intact = s := by
  unfold State.takeHead
  split
  · rename_i hq he
    rcases h with h | h <;> simp_all
  · rfl

/-- The state in which the head of the queue is handed on. -/
def State.headTaken (s : State) (rest : List Nat) : State := { s with rae := { s.rae with queue := rest } }

theorem State.takeHead_some {s : State} {d e : Nat} {rest : List Nat} (hq : s.rae.queue = d :: rest) (he : s.freeEngine = some e)
    (intact : Bool) : s.takeHead intact =
      if (s.domain d).state = .closed then (s.headTaken rest).takeUp e d intact else s.headTaken rest := by
  unfold State.takeHead
  rw [hq, he]
  rfl

/-- An engine that has taken up a domain. -/
def State.takenUp (s : State) (e d : Nat) : Engine :=
  { s.engine e with domain := some d, last := d, phase := 1, spent := none, tTake := s.now, nodes := 0, elapsed := 0 }

/-- The domain is ANALYSING on its engine, once the load of its close record has been charged. -/
theorem State.takeUp_frame (s : State) (e d : Nat) : ∃ u,
    StoreFrame ((s.setEngine e (s.takenUp e d)).setDomain d { s.domain d with state := .analysing }) u ∧
      s.takeUp e d true = u ∧ s.takeUp e d false = (u.engineEnds e 0).closeRecordLost d e :=
  ⟨_, State.traffic_storeFrame .., rfl, rfl⟩

theorem State.takeUp_intact (s : State) (e d : Nat) : let t := s.takeUp e d true
    t.rae.queue = s.rae.queue ∧ (t.engine e).domain = some d ∧ (t.engine e).tTake = s.now ∧
      t.domain d = { s.domain d with state := .analysing } := by
  obtain ⟨u, hu, ht, -⟩ := s.takeUp_frame e d
  obtain ⟨hcad, -, -, -, hrae⟩ := hu.keeps
  have hengine : u.engine e = s.takenUp e d := (congrArg (fun r : RaeSt => Tab.lookD r.engines e {}) hrae).trans (s.engine_setEngine ..)
  dsimp only
  rw [ht, hengine, hrae, State.domain_of_cad (congrArg CadSt.domains hcad), State.domain_setDomain]
  exact ⟨rfl, rfl, rfl, rfl⟩

/-- A close record that MAP_INCOMPLETE is set in. -/
def CloseRec.incomplete (c : CloseRec) : CloseRec := { c with flags := if bitOf c.flags 2 then c.flags else c.flags + 4 }

/-- The state in which the outcome of an unreadable close record is taken. -/
def State.recordLost (s : State) (d : Nat) (c : CloseRec) : State :=
  (s.setDomain d { s.domain d with mapIncomplete := true, closeRec := some c.incomplete }).damaged d

/-- An unreadable close record: the outcome is UNDECIDED. -/
theorem State.closeRecordLost_leaves {s : State} {d : Nat} {c : CloseRec} (hc : (s.domain d).closeRec = some c) (hd : c.domain = d)
    (e : Nat) : let t := s.closeRecordLost d e
    (∃ q, t.rae = { s.rae with copyQ := q }) ∧
      (c.pool = 0 → (t.domain d).state = .done ∧ (t.domain d).result.map (·.kind) = some 3) ∧
      (c.pool ≠ 0 → (t.domain d).state = .analysing ∧ (t.domain d).outcome.map (·.kind) = some 3) := by
  have hlost : s.closeRecordLost d e = (s.recordLost d c).takeOutcome d e ⟨3, 0, [], false, 0, 0, [], 0⟩ := by
    unfold State.closeRecordLost
    dsimp only
    rw [hc]
    rfl
  have hframe : StoreFrame (s.setDomain d { s.domain d with mapIncomplete := true, closeRec := some c.incomplete }) (s.recordLost d c) :=
    State.damaged_storeFrame ..
  obtain ⟨hcad, -, -, -, hrae⟩ := hframe.keeps
  have hrec : ((s.recordLost d c).domain d).closeRec = some c.incomplete := by
    rw [State.domain_of_cad (congrArg CadSt.domains hcad), State.domain_setDomain]
  dsimp only
  rw [hlost]
  obtain ⟨q, hq⟩ := State.takeOutcome_rae (e := e) (o := ⟨3, 0, [], false, 0, 0, [], 0⟩) hrec
  refine ⟨⟨q, by rw [hq, hrae]; rfl⟩, fun hp => ?_, fun hp => ?_⟩
  · obtain ⟨hstate, hresult, -⟩ := State.takeOutcome_solo_leaves (e := e) (o := ⟨3, 0, [], false, 0, 0, [], 0⟩) hrec hd hp
    exact ⟨hstate, by rw [hresult]; rfl⟩
  · rw [State.takeOutcome_pool_leaves hrec hp]
    exact ⟨rfl, rfl⟩

theorem State.engineEnds_leaves (s : State) (e n : Nat) : (s.engineEnds e n).rae.queue = s.rae.queue ∧
    ((s.engineEnds e n).engine e).domain = none ∧ ((s.engineEnds e n).engine e).done = (s.engine e).done + 1 := by
  rw [State.engineEnds, State.engine_setEngine]
  exact ⟨rfl, rfl, rfl⟩

theorem State.engine_of_rae {s t : State} {q : List ResultRec} (h : t.rae = { s.rae with copyQ := q }) (e : Nat) :
    t.engine e = s.engine e := by
  rw [State.engine, h]
  rfl

theorem State.takeUp_lost {s : State} {e d : Nat} {c : CloseRec} (hc : (s.domain d).closeRec = some c) (hd : c.domain = d) :
    let t := s.takeUp e d false
    t.rae.queue = s.rae.queue ∧ (t.engine e).domain = none ∧
      (c.pool = 0 → (t.domain d).state = .done ∧ (t.domain d).result.map (·.kind) = some 3) ∧
      (c.pool ≠ 0 → (t.domain d).state = .analysing ∧ (t.domain d).outcome.map (·.kind) = some 3) := by
  obtain ⟨u, hu, -, ht⟩ := s.takeUp_frame e d
  obtain ⟨hcad, -, -, -, hrae⟩ := hu.keeps
  obtain ⟨hqueue, hdomain, -⟩ := u.engineEnds_leaves e 0
  have hdom : (u.engineEnds e 0).domain d = { s.domain d with state := .analysing } :=
    (State.domain_of_cad (congrArg CadSt.domains hcad) d).trans (State.domain_setDomain ..)
  obtain ⟨⟨q, hlost⟩, hsolo, hpool⟩ := State.closeRecordLost_leaves (s := u.engineEnds e 0) (by rw [hdom]; exact hc) hd e
  dsimp only
  rw [ht, State.engine_of_rae hlost, hlost]
  exact ⟨hqueue.trans (by rw [hrae]; rfl), hdomain, hsolo, hpool⟩

/-! ### Budgets (R127) -/

section
variable {s : State} {e : Fin 64} {d nodes : Nat}

theorem exec_timeBudgetExpire_due (hd : (s.engine e).domain = some d) (hs : (s.engine e).spent = none)
    (hn : (s.engine e).nodes ≤ nodes ∧ nodes ≤ s.nodesToMake e) (ht : 4 * (s.engine e).tTake + 1250 * (s.domain d).tbud ≤ 4 * s.now) :
    exec (.timeBudgetExpire e nodes) s =
      .next (s.setEngine e { s.engine e with phase := 2, spent := some (1, nodes), nodes := nodes }) := by
  show execTimeBudgetExpire e nodes s = _
  unfold execTimeBudgetExpire
  dsimp only
  rw [hd, hs]
  exact if_pos ⟨hn.1, hn.2, ht⟩

theorem exec_timeBudgetExpire_early (hd : (s.engine e).domain = some d)
    (ht : 4 * s.now < 4 * (s.engine e).tTake + 1250 * (s.domain d).tbud) : exec (.timeBudgetExpire e nodes) s = .next s := by
  show execTimeBudgetExpire e nodes s = _
  unfold execTimeBudgetExpire
  dsimp only
  rw [hd]
  split
  · rename_i heq _
    cases heq
    exact if_neg fun h => by omega
  · rfl

/-- An idle engine and a spent one have no budget left to expire. -/
theorem exec_budgets_idle (h : (s.engine e).domain = none ∨ (s.engine e).spent ≠ none) :
    exec (.timeBudgetExpire e nodes) s = .next s ∧ exec (.nodeBudgetSpent e) s = .next s := by
  have hnot : ∀ d, ¬ ((s.engine e).domain = some d ∧ (s.engine e).spent = none) := fun d ⟨hd, hs⟩ => by
    rcases h with h | h
    · simp [h] at hd
    · exact h hs
  constructor
  · show execTimeBudgetExpire e nodes s = _
    unfold execTimeBudgetExpire
    dsimp only
    split
    · rename_i d hd hs
      exact absurd ⟨hd, hs⟩ (hnot d)
    · rfl
  · show execNodeBudgetSpent e s = _
    unfold execNodeBudgetSpent
    dsimp only
    split
    · rename_i d hd hs
      exact absurd ⟨hd, hs⟩ (hnot d)
    · rfl

theorem exec_nodeBudgetSpent {c : CloseRec} (hd : (s.engine e).domain = some d) (hs : (s.engine e).spent = none)
    (hc : (s.domain d).closeRec = some c) : exec (.nodeBudgetSpent e) s =
      if (firstPass c (s.domain d).nodeLimit 2).kind = 3 ∨ (firstPass c (s.domain d).nodeLimit 2).partialSearch = true then
        .next (s.setEngine e { s.engine e with
          phase := 2, spent := some (2, (s.domain d).nodeLimit), nodes := (s.domain d).nodeLimit })
      else .next s := by
  show execNodeBudgetSpent e s = _
  unfold execNodeBudgetSpent
  dsimp only
  rw [hd, hs]
  dsimp only
  rw [hc]

/-! ### The end of a first pass (R132) -/

theorem exec_firstPassEnd {c : CloseRec} (hd : (s.engine e).domain = some d) (hc : (s.domain d).closeRec = some c) :
    exec (.firstPassEnd e) s = .next (s.passEnds e d c) := by
  show execFirstPassEnd e s = _
  unfold execFirstPassEnd
  rw [hd]
  dsimp only
  rw [hc]

theorem State.passEnds_leaves {c : CloseRec} (hc : (s.domain d).closeRec = some c) (hd : c.domain = d) : let t := s.passEnds e d c
    (t.engine e).domain = none ∧ (t.engine e).done = (s.engine e).done + 1 ∧
      (c.pool = 0 → (t.domain d).state = .done ∧
        (t.domain d).result = some (soloResult (s.domain d) c (s.passOutcome e d c) e s.now) ∧
        t.rae.copyQ = s.rae.copyQ ++ [soloResult (s.domain d) c (s.passOutcome e d c) e s.now]) ∧
      (c.pool ≠ 0 → t.domain d = { s.domain d with state := .analysing, outcome := some (s.passOutcome e d c) }) := by
  obtain ⟨-, hdomain, hdone⟩ := s.engineEnds_leaves e (s.passOutcome e d c).nodes
  have hrec : ((s.engineEnds e (s.passOutcome e d c).nodes).domain d).closeRec = some c := hc
  obtain ⟨q, hq⟩ := State.takeOutcome_rae (e := e) (o := s.passOutcome e d c) hrec
  dsimp only
  rw [State.passEnds, State.engine_of_rae hq]
  exact ⟨hdomain, hdone, fun hp => State.takeOutcome_solo_leaves hrec hd hp, fun hp => State.takeOutcome_pool_leaves hrec hp⟩

end

theorem exec_idle_engine {s : State} {e : Fin 64} (h : (s.engine e).domain = none) :
    exec (.firstPassEnd e) s = .next s ∧ exec (.raeEngineError e) s = .next s := by
  constructor
  · show execFirstPassEnd e s = _
    unfold execFirstPassEnd
    rw [h]
  · show execRaeEngineError e s = _
    unfold execRaeEngineError
    rw [h]

/-! ### Pool rounds (R133 to R136) -/

/-- A round's results name every candidate's domain. -/
theorem roundResults_domain {engine t0 now : Nat} {before after base : Nat × Nat} {cs : List (Domain × CloseRec × PassOutcome)}
    {ch : Choice} (hv : validChoice (cs.map (fun c => c.2.2.options)) ch = true) {m : Domain × CloseRec × PassOutcome} (hm : m ∈ cs) :
    ∃ r ∈ roundResults engine t0 now before after cs ch base, r.domain = m.2.1.domain := by
  induction cs generalizing ch base with
  | nil => cases hm
  | cons x cs ih =>
    obtain ⟨x, c, o⟩ := x
    obtain ⟨y, ch, rfl, hlt, hrest⟩ := validChoice_cons.mp hv
    cases y with
    | none =>
      simp only [roundResults, List.headD_cons, List.tail_cons]
      rcases List.mem_cons.mp hm with rfl | hm
      · exact ⟨_, List.mem_cons_self, by split <;> rfl⟩
      · obtain ⟨r, hr, hrd⟩ := ih hrest hm
        exact ⟨r, List.mem_cons_of_mem _ hr, hrd⟩
    | some i =>
      obtain ⟨p, hi⟩ : ∃ p, o.options[i]? = some p := ⟨_, List.getElem?_eq_getElem (hlt i rfl)⟩
      simp only [roundResults, List.headD_cons, List.tail_cons, hi]
      rcases List.mem_cons.mp hm with rfl | hm
      · exact ⟨_, List.mem_cons_self, rfl⟩
      · obtain ⟨r, hr, hrd⟩ := ih hrest hm
        exact ⟨r, List.mem_cons_of_mem _ hr, hrd⟩

/-- Once DONE, a domain stays DONE while results are written; each result's domain is. -/
theorem foldl_finish_done {l : List ResultRec} {s : State} {d : Nat} (h : (∃ r ∈ l, r.domain = d) ∨ (s.domain d).state = .done) :
    ((l.foldl (fun t r => t.finish r) s).domain d).state = .done := by
  induction l generalizing s with
  | nil => simpa using h
  | cons r l ih =>
    rw [List.foldl_cons]
    refine ih ?_
    by_cases hr : r.domain = d
    · subst hr
      exact .inr (by rw [State.finish_domain])
    · rw [State.finish_domain_ne _ (Ne.symm hr)]
      refine h.imp_left ?_
      rintro ⟨q, hq, rfl⟩
      rcases List.mem_cons.mp hq with rfl | hq
      · exact absurd rfl hr
      · exact ⟨q, hq, rfl⟩

theorem exec_poolRound_idle {s : State} {p : BitVec 16} (h : s.roundDue p.toNat = false ∨ s.roundEngine p.toNat = none) :
    exec (.poolRound p) s = .next s := by
  show execPoolRound p s = _
  unfold execPoolRound
  split
  · rename_i hdue
    rcases h with h | h
    · simp [h] at hdue
    · rw [h]
  · rfl

theorem exec_poolRound_due {s : State} {p : BitVec 16} {e : Nat} (hd : s.roundDue p.toNat = true) (he : s.roundEngine p.toNat = some e) :
    exec (.poolRound p) s = .next (s.round p.toNat e) := by
  show execPoolRound p s = _
  unfold execPoolRound
  rw [if_pos hd, he]

theorem State.round_leaves {s : State} {p : Nat} {q : Pool} (hq : Tab.look s.cad.pools p = some q) (e : Nat) :
    (∀ m ∈ s.candidates p, ((s.round p e).domain m.2.1.domain).state = .done) ∧
    (let opts := (s.candidates p).map (fun c => c.2.2.options)
    let g := choiceDemand opts (bestChoice opts (q.pr - q.grantedRows) (q.pc - q.grantedCols))
    Tab.look (s.round p e).cad.pools p = some { q with
      grantedRows := q.grantedRows + g.1, grantedCols := q.grantedCols + g.2, rounds := (q.rounds + 1) % 256
      tRound := s.now, round := [], runner := none }) := by
  unfold State.round
  rw [hq]
  refine ⟨fun m hm => foldl_finish_done (.inl (roundResults_domain ?_ hm)), Tab.look_put_same ..⟩
  exact (mem_choices.mp (bestChoice_spec ..).1).1

/-! ### Engine errors (R126) -/

theorem exec_raeEngineError {s : State} {e : Fin 64} {d : Nat} (h : (s.engine e).domain = some d) :
    exec (.raeEngineError e) s = .next (s.engineError e d) := by
  show execRaeEngineError e s = _
  unfold execRaeEngineError
  rw [h]

/-- An engine taken out of the pool is free; the cadastre, the queue and the count of re-dispatches stay. -/
theorem State.engineFails_leaves (s : State) (e d : Nat) : let t := s.engineFails e d
    (t.engine e).failed = true ∧ (t.engine e).domain = none ∧ t.rae.queue = s.rae.queue ∧ t.cad = s.cad ∧
      t.rd Reg.RAE_REDISPATCH = s.rd Reg.RAE_REDISPATCH := by
  have hframe : ∀ t : State, StoreFrame t ((t.event Reg.RAE_EVENTS Fld.RAE_EVENTS_ENGINE_FAIL).detect 41 e d) := fun t =>
    (t.event_dmcFrame ..).store.trans (State.detect_storeFrame ..)
  have hreg : ∀ t : State, ((t.event Reg.RAE_EVENTS Fld.RAE_EVENTS_ENGINE_FAIL).detect 41 e d).capUpdate.rd Reg.RAE_REDISPATCH =
      t.rd Reg.RAE_REDISPATCH := fun t => by
    rw [State.rd_capUpdate _ _ (.inr (by decide)) (by decide), State.rd_detect _ _ _ _ _ _ (.inr (by decide)) (.inr (by decide)),
      State.event, State.setBits, State.rd_wr_ne _ _ _ _ (by decide)]
  unfold State.engineFails
  dsimp only
  generalize hy : (if (s.engine e).domain.isSome then s.engineStops (s.engine e) else s.engine e) = y
  have hidle : y.domain = none := by
    rw [← hy]
    split
    · rfl
    · rename_i h
      simpa using h
  obtain ⟨hcad, -, -, -, hrae⟩ := (hframe (s.setEngine e { y with failed := true })).keeps
  have hengine : (((s.setEngine e { y with failed := true }).event Reg.RAE_EVENTS Fld.RAE_EVENTS_ENGINE_FAIL).detect 41 e d).capUpdate.engine e =
      { y with failed := true } := by
    rw [State.engine, (State.capUpdate_keeps _).2.2.2.2.2.2.2.2.2.1, hrae]
    exact s.engine_setEngine ..
  rw [hengine]
  refine ⟨rfl, hidle, ?_, ?_, hreg _⟩
  · rw [(State.capUpdate_keeps _).2.2.2.2.2.2.2.2.2.1, hrae]
    rfl
  · rw [(State.capUpdate_keeps _).2.2.2.2.2.2.2.2.1, hcad]
    rfl

theorem State.engineError_leaves (s : State) (e d : Nat) : let t := s.engineError e d
    (t.engine e).failed = true ∧ (t.engine e).domain = none ∧ t.rae.queue = d :: s.rae.queue ∧
      t.domain d = { s.domain d with state := .closed } ∧ t.rdN Reg.RAE_REDISPATCH = sat32 (s.rdN Reg.RAE_REDISPATCH) 1 := by
  obtain ⟨hfailed, hidle, hqueue, hcad, hreg⟩ := State.engineFails_leaves
    ((({ s.setDomain d { s.domain d with state := .closed } with rae := { s.rae with queue := d :: s.rae.queue } } : State).satInc
      Reg.RAE_REDISPATCH).event Reg.RAE_EVENTS Fld.RAE_EVENTS_REDISPATCH) e d
  refine ⟨hfailed, hidle, hqueue, ?_, ?_⟩
  · exact (State.domain_of_cad (congrArg CadSt.domains hcad) d).trans (State.domain_setDomain ..)
  · refine (congrArg BitVec.toNat hreg).trans ?_
    rw [State.event, State.setBits, State.rd_wr_ne _ _ _ _ (by decide), ← State.rdN, State.rdN_satInc]
    rfl

/-! ### The obligation -/

/-- Settles O29: each event is one branch of its command, and what it leaves is what its engine, its outcome and its results leave. -/
theorem analysisEvents : Obligations.AnalysisEvents := by
  intro s e d c nodes intact pool x y
  obtain ⟨hrae, hdomains, hnow⟩ := s.handRounds_pools.keeps
  have hdom : s.handRounds.domain d = y := State.domain_of_cad hdomains d
  refine ⟨fun h => exec_raeTakeUp_idle h intact, fun hm hd h => ?_, fun rest hm hd hq he => ?_, fun hx hs hn hn' ht => ?_,
    fun hx ht => exec_timeBudgetExpire_early hx ht, fun hx hs hc => ⟨fun h => ?_, fun h h' => ?_⟩, exec_budgets_idle, exec_idle_engine,
    fun hx hc hcd => ?_, exec_poolRound_idle, fun n q hdue hn hq => ?_, fun hx => ?_⟩
  · rw [exec_raeTakeUp hm hd, State.takeHead_none (h.imp_left (hrae ▸ ·))]
  · have htake : ∀ b, exec (.raeTakeUp b) s = .next (if y.state = .closed then (s.handRounds.headTaken rest).takeUp e d b
        else s.handRounds.headTaken rest) := fun b => by
      rw [exec_raeTakeUp hm hd, State.takeHead_some (hrae ▸ hq) he, hdom]
    refine ⟨fun hstate => ⟨s.handRounds.headTaken rest, (htake intact).trans (by rw [if_neg hstate]), ?_, hdomains⟩,
      fun hstate => ⟨_, (htake true).trans (by rw [if_pos hstate]), ?_⟩,
      fun hstate hc hcd => ⟨_, (htake false).trans (by rw [if_pos hstate]), ?_⟩⟩
    · exact congrArg (fun r : RaeSt => { r with queue := rest }) hrae
    · obtain ⟨hqueue, hdomain, htime, ht⟩ := (s.handRounds.headTaken rest).takeUp_intact e d
      exact ⟨hqueue, hdomain, htime.trans hnow, ht.trans (by rw [← hdom]; rfl)⟩
    · exact State.takeUp_lost (s := s.handRounds.headTaken rest) ((congrArg Domain.closeRec hdom).trans hc) hcd
  · exact exec_timeBudgetExpire_due hx hs ⟨hn, hn'⟩ ht
  · rw [exec_nodeBudgetSpent hx hs hc, if_pos h]
  · rw [exec_nodeBudgetSpent hx hs hc, if_neg (by simp [y, h, h'])]
  · exact ⟨_, exec_firstPassEnd hx hc, State.passEnds_leaves hc hcd⟩
  · exact ⟨_, exec_poolRound_due hdue hn, State.round_leaves hq n⟩
  · exact ⟨_, exec_raeEngineError hx, s.engineError_leaves e d⟩

end Sys2Proof.Machine
end

section
/-! PROOFS. What a result copied to the ring leaves of the ring's registers: no counter, class or controller writes the host's read pointer
(R145, R155, R162, R287 to R296). -/
namespace Sys2Proof.Machine

/-! ### The frame -/

/-- The read pointer of the result ring reads what it read before. -/
def RptrKept (s t : State) : Prop := t.rd Reg.RAE_RING_RPTR = s.rd Reg.RAE_RING_RPTR

theorem RptrKept.refl (s : State) : RptrKept s s := rfl

theorem RptrKept.trans {s t u : State} (h : RptrKept s t) (k : RptrKept t u) : RptrKept s u := Eq.trans k h

theorem RptrKept.ite {p : Prop} [Decidable p] {s t u : State} (ht : RptrKept s t) (hu : RptrKept s u) :
    RptrKept s (if p then t else u) := by
  split
  · exact ht
  · exact hu

theorem RptrKept.of_regs {s t : State} (h : t.regs = s.regs) : RptrKept s t := by
  rw [RptrKept, State.rd, h]
  rfl

/-- The banks of the classes and the controllers lie elsewhere in their pages of 256 bytes. -/
theorem RptrKept.wr (s : State) {a : Nat} (v : Word) (h : a % 256 ≠ 0x88) : RptrKept s (s.wr a v) :=
  State.rd_wr_ne _ _ _ _ fun he => h (by rw [← he]; rfl)

theorem RptrKept.inc64 (s : State) {a : Nat} (n : Nat) (h : a % 256 ≠ 0x88) (h4 : (a + 4) % 256 ≠ 0x88) : RptrKept s (s.inc64 a n) :=
  (RptrKept.wr s _ h).trans (.wr _ _ h4)

theorem RptrKept.count (s : State) (ev inc filter : Nat) (part : Option Nat) (a b off : Nat) :
    RptrKept s (s.count ev inc filter part a b off) := State.rd_count _ _ _ _ _ _ _ _ _ (.inr (by decide))

theorem RptrKept.alert (s : State) (c k x y z w : Nat) : RptrKept s (s.alert c k x y z w) :=
  State.rd_alert _ _ _ _ _ _ _ _ (.inr (by decide))

theorem RptrKept.detect (s : State) (src a b : Nat) (forced : Bool) : RptrKept s (s.detect src a b forced) :=
  State.rd_detect _ _ _ _ _ _ (.inr (by decide)) (.inr (by decide))

theorem RptrKept.foldl {α : Type} {f : State → α → State} (h : ∀ t x, RptrKept t (f t x)) (l : List α) (s : State) :
    RptrKept s (l.foldl f s) := foldl_keeps (fun t => t.rd Reg.RAE_RING_RPTR) f l s h

theorem RptrKept.setChan (s : State) (c : Nat) (x : Chan) : RptrKept s (s.setChan c x) := .of_regs rfl

/-! ### Traffic of a class (R155, R162, R163, R181) -/

theorem RptrKept.charge (s : State) (n b : Nat) : RptrKept s (s.charge n b).1 := .of_regs (by simp)

theorem RptrKept.served (s : State) (n b : Nat) (conf : Bool) (label : Option Nat) : RptrKept s (s.served n b conf label) := by
  have hbytes : RptrKept s (s.inc64 (Reg.QOS_C_BYTES n) b) := by
    apply RptrKept.inc64 <;> simp only [Reg.QOS_C_BYTES] <;> omega
  unfold State.served
  dsimp only
  exact .ite (.refl s) (.ite ((hbytes.trans (.count ..)).trans (.count ..)) (hbytes.trans (.count ..)))

theorem RptrKept.traffic (s : State) (n b l : Nat) : RptrKept s (s.traffic n b l).1 := (RptrKept.charge ..).trans (.served ..)

theorem RptrKept.latServed (s : State) (n age : Nat) : RptrKept s (s.latServed n age) := by
  have hmax : ∀ v, RptrKept s (s.wrN (Reg.QOS_C_LATMAX n) v) := fun v => .wr _ _ (by simp only [Reg.QOS_C_LATMAX]; omega)
  have hover : ∀ t : State, RptrKept t (t.satInc (Reg.QOS_C_LATOVER n)) := fun t => .wr _ _ (by simp only [Reg.QOS_C_LATOVER]; omega)
  unfold State.latServed
  dsimp only
  exact .ite (.ite ((hmax _).trans (hover _)) (hmax _)) (.refl s)

/-! ### Commands of a controller (R256, R266) -/

/-- A counter of a controller, of 64 bits. -/
theorem RptrKept.dmcCounter (s : State) (c : Nat) {o : Nat} (ho : o < 0x80) : RptrKept s (s.inc64 (0x200000 + o + c * 0x1000)) := by
  apply RptrKept.inc64 <;> omega

/-- A register of a channel's ECC. -/
theorem RptrKept.eccWord (s : State) (c : Nat) {o : Nat} (v : Word) (ho : o < 0x80) : RptrKept s (s.wr (0x300000 + o + c * 0x100) v) :=
  .wr _ _ (by omega)

theorem RptrKept.command (s : State) (c : Nat) (k : DramCmd) : RptrKept s (s.command c k) := by
  have hrefresh : ∀ (t : State) (o : DramCmd), RptrKept t (t.countRefresh c o) := fun t o => by
    unfold State.countRefresh
    split
    · exact .refl t
    · exact (RptrKept.dmcCounter t c (o := 0x10) (by omega)).trans (.count ..)
  exact (RptrKept.setChan s c _).trans (.foldl hrefresh ..)

theorem RptrKept.openRow (s : State) (c a : Nat) : RptrKept s (s.openRow c a) := by
  have hcounted : ∀ t : State, RptrKept t ((t.inc64 (Reg.DMC_ACT_CNT c)).count 4 1 c none a c) := fun t =>
    (RptrKept.dmcCounter t c (o := 0x30) (by omega)).trans (.count ..)
  have hclosed : RptrKept s (if (Tab.look (s.chan c).openRows (bankOf a)).isSome then s.command c (s.plainCmd 4 a) else s) :=
    .ite (.command ..) (.refl s)
  unfold State.openRow
  dsimp only
  exact ((hclosed.trans (.command ..)).trans (.setChan ..)).trans (hcounted _)

theorem RptrKept.column (s : State) (c : Nat) (k : DramCmd) : RptrKept s (s.column c k) := by
  have hhit : ∀ t : State, RptrKept t ((t.inc64 (Reg.DMC_HIT_CNT c)).count 5 1 c none k.addr c) := fun t =>
    (RptrKept.dmcCounter t c (o := 0x38) (by omega)).trans (.count ..)
  unfold State.column
  exact .ite ((RptrKept.command ..).trans (hhit _)) ((RptrKept.openRow ..).trans (.command ..))

/-! ### Writes and reads of the array (R284 to R296) -/

theorem RptrKept.keepSent (s : State) (c a : Nat) (d : BitVec 512) (e : SymErr) : RptrKept s (s.keepSent c a d e) := by
  unfold State.keepSent
  dsimp only
  split <;> exact .of_regs rfl

theorem RptrKept.store (s : State) (k : Nat) (d : BitVec 512) (e : SymErr) : RptrKept s (s.store k d e) :=
  .of_regs (by simp only [State.store])

theorem RptrKept.storeCmd (s : State) (c a : Nat) (d : BitVec 512) (e : SymErr) : RptrKept s (s.storeCmd c a d e) := by
  have hcount : ∀ t : State, RptrKept t (t.inc64 (Reg.DMC_WR_CNT c)) := fun t => .dmcCounter t c (o := 0x28) (by omega)
  rw [State.storeCmd_eq, State.writeIssued]
  exact RptrKept.trans (((RptrKept.column ..).trans (hcount _)).trans (.keepSent ..)) (.store ..)

theorem RptrKept.poisonWrite (s : State) (c a : Nat) : RptrKept s (s.poisonWrite c a) :=
  (RptrKept.storeCmd ..).trans (.eccWord _ c (o := 0x24) _ (by omega))

theorem RptrKept.countCw (s : State) (ev c a : Nat) (part : Option (Nat × Nat)) (inPart : Bool) :
    RptrKept s (s.countCw ev c a part inPart) := .count ..

theorem RptrKept.issueWrite (s : State) (c a : Nat) (d : BitVec 512) (part : Option (Nat × Nat)) :
    RptrKept s (s.issueWrite c a d part) := by
  have happlied : ∀ t : State, RptrKept t
      ((t.setFld Reg.ECC_INJ_CTL Fld.ECC_INJ_CTL_ARM 0).event Reg.ECC_G_EVENTS Fld.ECC_G_EVENTS_INJ_APPLIED) := fun t =>
    (RptrKept.wr t _ (by decide)).trans (.wr _ _ (by decide))
  unfold State.issueWrite
  dsimp only
  exact .ite (((RptrKept.countCw ..).trans (.storeCmd ..)).trans (happlied _)) ((RptrKept.countCw ..).trans (.storeCmd ..))

theorem RptrKept.latchEcc (s : State) (c a : Nat) (cls : EccClass) (l : SymErr) (src : Nat) : RptrKept s (s.latchEcc c a cls l src) :=
  (((RptrKept.eccWord s c (o := 0x44) _ (by omega)).trans (.eccWord _ c (o := 0x48) _ (by omega))).trans
    (.eccWord _ c (o := 0x50) _ (by omega))).trans (.wr _ _ (by simp only [Reg.ECC_C_LAST_TIME]; omega))

/-- A word listed as in error, and the legs it asks for, are the controller's. -/
theorem RptrKept.candidate (s : State) (c a : Nat) : RptrKept s (s.candidate c a) := by
  have hqueue : ∀ (t : State) (b : Nat), RptrKept t (t.queueLeg c b) := fun t b => .ite (.refl t) (.setChan ..)
  exact (RptrKept.setChan s c _).trans (hqueue _ _)

theorem RptrKept.reportEcc (s : State) (c a : Nat) (cls : EccClass) (l : SymErr) (src : Nat) (part : Option (Nat × Nat)) :
    RptrKept s (s.reportEcc c a cls l src part) := by
  have hevent : ∀ (t : State) (f : Fld), RptrKept t ((t.event (Reg.ECC_C_EVENTS c) f).latchEcc c a cls l src) := fun t f =>
    (RptrKept.eccWord t c (o := 0x04) _ (by omega)).trans (.latchEcc ..)
  have hcorr : ∀ (t : State), RptrKept t ((((t.event (Reg.ECC_C_EVENTS c) Fld.ECC_C_EVENTS_CORR).countCw 0x17 c a part false).latchEcc c a
      cls l src).countHot c l) := fun t =>
    (((RptrKept.eccWord t c (o := 0x04) _ (by omega)).trans (.countCw ..)).trans (.latchEcc ..)).trans (.setChan ..)
  have htail : ∀ (t : State) (n : Nat), RptrKept t ((t.candidate c a).detect n c a) := fun t n =>
    (RptrKept.candidate ..).trans (.detect ..)
  cases cls with
  | clean => exact .refl s
  | corrected1 =>
    have hcount : RptrKept s (s.inc64 (Reg.ECC_C_CORR1 c)) := by apply RptrKept.inc64 <;> simp only [Reg.ECC_C_CORR1] <;> omega
    exact (hcount.trans (hcorr _)).trans (htail _ 64)
  | corrected2 =>
    have hcount : RptrKept s (s.inc64 (Reg.ECC_C_CORR2 c)) := by apply RptrKept.inc64 <;> simp only [Reg.ECC_C_CORR2] <;> omega
    exact (hcount.trans (hcorr _)).trans (htail _ 64)
  | uncorrectable => exact ((RptrKept.eccWord s c (o := 0x18) _ (by omega)).trans (hevent _ _)).trans (htail _ 16)
  | poison => exact ((RptrKept.eccWord s c (o := 0x20) _ (by omega)).trans (hevent _ _)).trans (htail _ 65)
  | mismatch =>
    exact (((RptrKept.eccWord s c (o := 0x1c) _ (by omega)).trans (hevent _ _)).trans (htail _ 17)).trans (.setChan ..)

theorem RptrKept.transientMismatch (s : State) (c a : Nat) (l : SymErr) (src : Nat) : RptrKept s (s.transientMismatch c a l src) :=
  (((RptrKept.eccWord s c (o := 0x1c) _ (by omega)).trans (.latchEcc ..)).trans (.candidate ..)).trans (.detect ..)

/-- What a read does once its codeword has been decoded. -/
def State.readDone (t : State) (c a : Nat) (r : EccClass × SymErr × BitVec 512) (src0 src : Nat) (part : Option (Nat × Nat))
    (pending : Bool) : State :=
  let t1 := if src0 = 2 ∧ r.1 = .poison then t else t.reportEcc c a r.1 r.2.1 src part
  (match r.1 with
    | .corrected2 => if src0 = 0 then t1.addWb c a else t1
    | .uncorrectable => if src0 = 2 ∧ pending then t1 else t1.poisonWrite c a
    | _ => t1).draw

theorem RptrKept.readDone (t : State) (c a : Nat) (r : EccClass × SymErr × BitVec 512) (src0 src : Nat) (part : Option (Nat × Nat))
    (pending : Bool) : RptrKept t (t.readDone c a r src0 src part pending) := by
  have hreport : RptrKept t (if src0 = 2 ∧ r.1 = .poison then t else t.reportEcc c a r.1 r.2.1 src part) :=
    .ite (.refl t) (.reportEcc ..)
  have hdraw : ∀ u : State, RptrKept u u.draw := fun u => .of_regs rfl
  unfold State.readDone
  dsimp only
  split
  · exact (hreport.trans (.ite (.setChan ..) (.refl _))).trans (hdraw _)
  · exact (hreport.trans (.ite (.refl _) (.poisonWrite ..))).trans (hdraw _)
  · exact hreport.trans (hdraw _)

theorem RptrKept.arrayRead (s : State) (c a : Nat) (errs : ReadErrs) (src : Nat) (part : Option (Nat × Nat)) :
    RptrKept s (s.arrayRead c a errs src part).st := by
  have hcell : RptrKept s (if errNorm errs.cell = [] then s else
      { s with errs := if errAdd (s.storedErr (memKey c a)) (errNorm errs.cell) = [] then Tab.del s.errs (memKey c a)
                       else Tab.put s.errs (memKey c a) (errAdd (s.storedErr (memKey c a)) (errNorm errs.cell)) }) :=
    .ite (.refl s) (.of_regs rfl)
  have hcount : ∀ t : State, RptrKept t (t.inc64 (Reg.DMC_RD_CNT c)) := fun t => .dmcCounter t c (o := 0x20) (by omega)
  have hread : ∀ t : State, RptrKept t (((t.column c (t.plainCmd 1 a)).inc64 (Reg.DMC_RD_CNT c)).countCw 2 c a part true) := fun t =>
    ((RptrKept.column ..).trans (hcount _)).trans (.countCw ..)
  have hstart := hcell.trans (hread _)
  unfold State.arrayRead
  dsimp only
  generalize State.countCw _ 2 c a part true = t at hstart ⊢
  generalize t.rawRead c a errs.line = r
  split
  · refine (hstart.trans (.transientMismatch t c a r.2.1 src)).trans ?_
    generalize t.transientMismatch c a r.2.1 src = u
    have hdone := RptrKept.readDone u c a (u.rawRead c a errs.reread) src 3 part ((s.chan c).pending a)
    generalize u.rawRead c a errs.reread = q at hdone ⊢
    obtain ⟨cls, l, d⟩ := q
    cases cls <;> exact hdone
  · refine hstart.trans ?_
    have hdone := RptrKept.readDone t c a r src src part ((s.chan c).pending a)
    obtain ⟨cls, l, d⟩ := r
    cases cls <;> exact hdone

/-! ### The merge buffer and requests that wait (R255, R257, R287 to R291) -/

theorem RptrKept.rmw (s : State) (c : Nat) (e : MergeEntry) (errs : ReadErrs) (part : Option (Nat × Nat)) :
    RptrKept s (s.rmw c e errs part).st := by
  have hcount : ∀ t : State, RptrKept t (t.inc64 (Reg.ECC_C_RMW c)) := fun t => by
    apply RptrKept.inc64 <;> simp only [Reg.ECC_C_RMW] <;> omega
  have hread : RptrKept s ((s.rmwTaken c e (trafficPart e.cls part)).arrayRead c e.addr errs 1 (trafficPart e.cls part)).st :=
    (((((RptrKept.setChan s c _).trans (hcount _)).trans (.countCw ..)).trans (.charge ..)).trans (.served ..)).trans (.arrayRead ..)
  have hpoison : ∀ t : State, RptrKept t ((t.poisonWrite c e.addr).detect 16 c e.addr) := fun t =>
    (RptrKept.poisonWrite ..).trans (.detect ..)
  have hfail : ∀ t : State, RptrKept t ((t.satInc (Reg.ECC_C_RMW_FAIL c)).event (Reg.ECC_C_EVENTS c) Fld.ECC_C_EVENTS_RMW_FAIL) :=
    fun t => (RptrKept.eccWord t c (o := 0x30) _ (by omega)).trans (.eccWord _ c (o := 0x04) _ (by omega))
  unfold State.rmwTaken at hread
  dsimp only at hread
  unfold State.rmw
  dsimp only
  split
  · exact hread.trans (.issueWrite ..)
  · split
    · exact hread
    · exact (hread.trans (.ite (hpoison _) (.refl _))).trans (hfail _)

theorem RptrKept.drainMerge (c n : Nat) (s : State) : RptrKept s (s.drainMerge c n) := by
  induction n generalizing s with
  | zero => exact .refl s
  | succ n ih =>
    unfold State.drainMerge
    split
    · exact .refl s
    · exact .ite (.refl s) ((RptrKept.rmw ..).trans (ih _))

theorem RptrKept.applyWrite (s : State) (c a : Nat) (d : BitVec 512) (w : BitVec 64) (cls paid : Nat) (part : Option (Nat × Nat)) :
    RptrKept s (s.applyWrite c a d w cls paid part) := by
  have hfirst := RptrKept.setChan s c { s.chan c with wb := (s.chan c).wb.filter (fun x => x != a) }
  have hwhole : ∀ (t : State) (v : BitVec 512), RptrKept t ((t.freeMerge c a).issueWrite c a v (trafficPart cls part)) := fun t v =>
    (RptrKept.setChan t c _).trans (.issueWrite ..)
  unfold State.applyWrite
  dsimp only
  refine .ite (hfirst.trans (hwhole _ _)) ?_
  split
  · exact .ite (hfirst.trans (hwhole _ _)) (hfirst.trans (.setChan ..))
  · exact .ite ((hfirst.trans (.setChan ..)).trans (.drainMerge ..)) (hfirst.trans (.setChan ..))

theorem RptrKept.askWrite (s : State) (c a cls : Nat) (conf : Bool) (since : Nat) (d : BitVec 512) (w : BitVec 64) :
    RptrKept s (s.askWrite c a cls conf since d w) := by
  unfold State.askWrite
  split
  · exact .setChan ..
  · unfold State.askChan
    dsimp only
    obtain ⟨m, hm⟩ := State.promote_dmc c (List.length ((s.setChan c { s.chan c with arb := (s.chan c).arb ++
      [⟨s.dmc.reqSeq, a, cls, conf, since, .write d w (paidBytes conf w), none⟩] }).chan c).arb) _
    rw [hm]
    exact .of_regs rfl

theorem RptrKept.writeOrWait (s : State) (c a : Nat) (d : BitVec 512) (w : BitVec 64) (cls : Nat) (conf : Bool) (since : Nat)
    (part : Option (Nat × Nat)) : RptrKept s (s.writeOrWait c a d w cls conf since part) := by
  have hsent : ∀ (t : State) (n : Nat) (r : DmcReq), RptrKept t (t.sentFor c n r) := fun t n r => .setChan ..
  unfold State.writeOrWait
  exact .ite (.askWrite ..) (((RptrKept.applyWrite ..).trans (.latServed ..)).trans (hsent _ _ _))

theorem RptrKept.writeBytes (s : State) (pi : Nat) (p : Partition) (o : Nat) (l : List Byte) (cls : Nat) (conf : Bool) :
    RptrKept s (s.writeBytes pi p o l cls conf) := by
  unfold State.writeBytes
  generalize l.length / 64 + 2 = n
  induction n generalizing s o l with
  | zero => exact .refl s
  | succ n ih =>
    unfold State.writeRun
    dsimp only
    refine .ite (.refl s) (RptrKept.trans ?_ (ih _ _ _))
    split
    · exact .writeOrWait ..
    · exact .refl s

end Sys2Proof.Machine
end

section
/-! PROOFS. The result ring, its holdoff, and the commands of the analysis (R145 to R152). -/
namespace Sys2Proof.Machine

/-! ### RESULT_READY (R147) -/

theorem State.resultReady_leaves (s : State) : s.resultReady.rae.ringNew = 0 ∧ s.resultReady.rae.copyQ = s.rae.copyQ ∧
    s.resultReady.cad = s.cad ∧ ∀ a, a < 0x120000 ∨ 0x124000 ≤ a → s.resultReady.rd a = s.rd a := by
  refine ⟨rfl, ?_, ?_, fun a ha => State.rd_alert _ _ _ _ _ _ _ _ ha⟩
  · simp [State.resultReady]
  · simp [State.resultReady]

section
variable {s : State}

theorem exec_holdoffExpire_idle (h : s.rae.holdoff = false ∨ 2 * s.now < s.rae.holdoffDue) : exec .holdoffExpire s = .next s := by
  refine if_neg fun ⟨ho, hdue⟩ => ?_
  rcases h with h | h
  · simp [h] at ho
  · omega

theorem exec_holdoffExpire_due (ho : s.rae.holdoff = true) (hdue : s.rae.holdoffDue ≤ 2 * s.now) : exec .holdoffExpire s =
    if s.rae.ringNew ≠ 0 ∧ s.flag Reg.RAE_RING_CFG Fld.RAE_RING_CFG_ALERT_EN = true then
      .next ({ s with rae := { s.rae with holdoff := false } } : State).resultReady
    else .next { s with rae := { s.rae with holdoff := false } } := if_pos ⟨ho, hdue⟩

end

/-! ### A result copied (R145) -/

/-- The state in which a result has been written to its slot. -/
def State.slotWritten (s : State) (p : Partition) (pi : Nat) (r : ResultRec) : State :=
  (s.traffic s.raeClass 1024 s.raeLabel).1.writeBytes pi p (s.rd64 Reg.RAE_RING_BASE + 1024 * s.rdN Reg.RAE_RING_WPTR)
    (slice r.bytes 0 1024) s.raeClass (s.traffic s.raeClass 1024 s.raeLabel).2

/-- The write pointer advanced over the slot. -/
def State.slotTaken (u : State) (w : Nat) (rest : List ResultRec) : State :=
  let t := u.wrN Reg.RAE_RING_WPTR w
  { t with rae := { t.rae with copyQ := rest, ringNew := t.rae.ringNew + 1 } }

/-- A slot taken told: RING_FULL and RESULT_READY. -/
def State.slotTold (t : State) : State :=
  let u := if t.ringFull then t.event Reg.RAE_EVENTS Fld.RAE_EVENTS_RING_FULL else t
  if u.flag Reg.RAE_RING_CFG Fld.RAE_RING_CFG_ALERT_EN && !u.rae.holdoff then u.resultReady else u

theorem State.ringCopy_eq (s : State) (p : Partition) (pi : Nat) (r : ResultRec) (rest : List ResultRec) :
    s.ringCopy p pi r rest =
      ((s.slotWritten p pi r).slotTaken ((s.rdN Reg.RAE_RING_WPTR + 1) % s.ringSlots) rest).slotTold := by
  unfold State.ringCopy State.slotWritten
  dsimp only
  generalize State.writeBytes _ pi p _ _ _ _ = u
  rfl

/-- What a copied result leaves: the results still waiting, the pointers, and the cadastre. -/
def SlotKept (s t : State) : Prop := t.rae.copyQ = s.rae.copyQ ∧ t.rd Reg.RAE_RING_WPTR = s.rd Reg.RAE_RING_WPTR ∧
  t.rd Reg.RAE_RING_RPTR = s.rd Reg.RAE_RING_RPTR ∧ t.cad = s.cad

theorem SlotKept.refl (s : State) : SlotKept s s := ⟨rfl, rfl, rfl, rfl⟩

theorem SlotKept.trans {s t u : State} (h : SlotKept s t) (k : SlotKept t u) : SlotKept s u :=
  ⟨k.1.trans h.1, k.2.1.trans h.2.1, k.2.2.1.trans h.2.2.1, k.2.2.2.trans h.2.2.2⟩

theorem State.slotTold_kept (t : State) : SlotKept t t.slotTold := by
  have hfull : SlotKept t (if t.ringFull then t.event Reg.RAE_EVENTS Fld.RAE_EVENTS_RING_FULL else t) := by
    split
    · exact ⟨rfl, State.rd_wr_ne _ _ _ _ (by decide), State.rd_wr_ne _ _ _ _ (by decide), rfl⟩
    · exact .refl t
  have hready : ∀ (b : Bool) (u : State), SlotKept u (if b then u.resultReady else u) := fun b u => by
    split
    · obtain ⟨-, hcopy, hcad, hrd⟩ := u.resultReady_leaves
      exact ⟨hcopy, hrd _ (.inr (by decide)), hrd _ (.inr (by decide)), hcad⟩
    · exact .refl u
  exact hfull.trans (hready _ _)

theorem State.ringCopy_leaves (s : State) (p : Partition) (pi : Nat) (r : ResultRec) (rest : List ResultRec) (h2 : 2 ≤ s.ringSlots) :
    let t := s.ringCopy p pi r rest
    t.rae.copyQ = rest ∧ t.rdN Reg.RAE_RING_WPTR = (s.rdN Reg.RAE_RING_WPTR + 1) % s.ringSlots ∧
      t.rd Reg.RAE_RING_RPTR = s.rd Reg.RAE_RING_RPTR ∧ t.cad.domains = s.cad.domains := by
  have hwritten : StoreFrame s (s.slotWritten p pi r) := (s.traffic_storeFrame ..).trans (State.writeBytes_storeFrame ..)
  have hkept : RptrKept s (s.slotWritten p pi r) := (RptrKept.traffic ..).trans (.writeBytes ..)
  have hslots : s.ringSlots < 2 ^ 25 := Nat.mod_lt _ (by decide)
  have hlt : (s.rdN Reg.RAE_RING_WPTR + 1) % s.ringSlots < s.ringSlots := Nat.mod_lt _ (by omega)
  dsimp only
  rw [State.ringCopy_eq]
  generalize s.slotWritten p pi r = u at hwritten hkept
  generalize (s.rdN Reg.RAE_RING_WPTR + 1) % s.ringSlots = w at hlt
  obtain ⟨hcopy, hwptr, hrptr, hcad⟩ := (u.slotTaken w rest).slotTold_kept
  refine ⟨hcopy, ?_, hrptr.trans ((State.rd_wr_ne _ _ _ _ (by decide)).trans hkept), ?_⟩
  · have hnew : (u.slotTaken w rest).rd Reg.RAE_RING_WPTR = BitVec.ofNat 32 w := State.rd_wr_same ..
    rw [State.rdN, hwptr, hnew, BitVec.toNat_ofNat]
    exact Nat.mod_eq_of_lt (by omega)
  · rw [hcad]
    exact congrArg CadSt.domains hwritten.cad

section
variable {s : State} {r : ResultRec} {rest : List ResultRec} {p : Partition}

theorem exec_resultRingCopy (hm : s.mode = .service ∨ s.mode = .hold ∨ s.mode = .maintain) (hq : s.rae.copyQ = r :: rest)
    (hp : Tab.look s.cfg.parts (s.fld Reg.RAE_RING_CFG Fld.RAE_RING_CFG_PART) = some p)
    (hon : s.flag Reg.RAE_RING_CFG Fld.RAE_RING_CFG_EN = true) (hroom : s.ringFull = false) : exec .resultRingCopy s =
      .next (s.ringCopy p (s.fld Reg.RAE_RING_CFG Fld.RAE_RING_CFG_PART) r rest) := by
  have hmode : s.mode ≠ .cold ∧ s.mode ≠ .load ∧ s.mode ≠ .safe := by
    rcases hm with h | h | h <;> simp [h]
  show execResultRingCopy s = _
  unfold execResultRingCopy
  dsimp only
  rw [hq, hp]
  exact if_pos ⟨hmode.1, hmode.2.1, hmode.2.2, hon, by simp [hroom]⟩

theorem exec_resultRingCopy_idle (h : s.mode = .cold ∨ s.mode = .load ∨ s.mode = .safe ∨ s.rae.copyQ = [] ∨
    ¬ s.flag Reg.RAE_RING_CFG Fld.RAE_RING_CFG_EN = true ∨ s.ringFull = true) : exec .resultRingCopy s = .next s := by
  show execResultRingCopy s = _
  unfold execResultRingCopy
  dsimp only
  split
  · rename_i hq _
    refine if_neg fun ⟨hcold, hload, hsafe, hon, hroom⟩ => ?_
    rcases h with h | h | h | h | h | h
    · exact hcold h
    · exact hload h
    · exact hsafe h
    · simp [h] at hq
    · exact h hon
    · simp [h] at hroom
  · rfl

end

/-! ### The ring's registers (R150) -/

section
variable {s : State} {r : Req}

theorem exec_raeRingCfgWrite_ok {v : Word} (hrec : s.upd.recovery = false) (h : ringCfgStatus r v s = .ok) :
    exec (.raeRingCfgWrite r v) s = .next ((s.ringCfg v).reply .ok) :=
  congrArg Host.Outcome.next (State.hostWrite_ok _ _ _ _ _ hrec h)

/-- A write that sets EN clears both pointers; the configuration is stored without its reserved bits. -/
theorem State.ringCfg_leaves (s : State) (v : Word) : (s.ringCfg v).rd Reg.RAE_RING_CFG = v &&& ringCfgMask ∧
    (wget v Fld.RAE_RING_CFG_EN = 1 → ¬ s.flag Reg.RAE_RING_CFG Fld.RAE_RING_CFG_EN = true →
      (s.ringCfg v).rdN Reg.RAE_RING_WPTR = 0 ∧ (s.ringCfg v).rdN Reg.RAE_RING_RPTR = 0) ∧
    ∀ a, a ≠ Reg.RAE_RING_CFG → a ≠ Reg.RAE_RING_WPTR → a ≠ Reg.RAE_RING_RPTR → (s.ringCfg v).rd a = s.rd a := by
  have hcfg : Reg.RAE_RING_CFG ≠ Reg.RAE_RING_WPTR ∧ Reg.RAE_RING_CFG ≠ Reg.RAE_RING_RPTR := by decide
  have hptr : Reg.RAE_RING_WPTR ≠ Reg.RAE_RING_RPTR := by decide
  unfold State.ringCfg
  dsimp only
  split
  · refine ⟨?_, fun _ _ => ⟨?_, ?_⟩, fun a hc hw hr => ?_⟩
    · rw [State.wrN, State.wrN, State.rd_wr_ne _ _ _ _ hcfg.2, State.rd_wr_ne _ _ _ _ hcfg.1, State.rd_wr_same]
    · rw [State.rdN, State.wrN, State.wrN, State.rd_wr_ne _ _ _ _ hptr, State.rd_wr_same]
      rfl
    · rw [State.rdN, State.wrN, State.rd_wr_same]
      rfl
    · rw [State.wrN, State.wrN, State.rd_wr_ne _ _ _ _ hr, State.rd_wr_ne _ _ _ _ hw, State.rd_wr_ne _ _ _ _ hc]
  · rename_i hsets
    refine ⟨State.rd_wr_same .., fun hv hon => absurd ?_ hsets, fun a hc _ _ => State.rd_wr_ne _ _ _ _ hc⟩
    simp [hv, hon]

/-! ### REANALYSE (R152) -/

theorem exec_reanalyse_ok (hrec : s.upd.recovery = false) (h : reanalyseStatus r s = .ok) :
    exec (.reanalyse r) s = .next (s.reanalyse.reply .ok) :=
  congrArg Host.Outcome.next (State.hostWrite_ok _ _ _ _ _ hrec h)

/-- Taking heap for the new result, and checking what is left, leaves the registers and the queue. -/
theorem State.reanalyse_heap (s : State) : let t := ((s.takeHeap s.raeArg .result 14).getD s).heapCheck
    t.rae = s.rae ∧ ∀ a, a < 0x120000 ∨ 0x124000 ≤ a → t.rd a = s.rd a := by
  have htook : HeapTook s ((s.takeHeap s.raeArg .result 14).getD s) := by
    cases h : s.takeHeap s.raeArg .result 14 with
    | none => exact .refl s
    | some t => exact State.takeHeap_took h
  have hregs : ((s.takeHeap s.raeArg .result 14).getD s).regs = s.regs := by
    obtain ⟨⟨m, u, n, h⟩, -⟩ := htook
    rw [h]
  obtain ⟨-, -, -, -, hrae, -⟩ := htook.keeps
  obtain ⟨b, hb⟩ := ((s.takeHeap s.raeArg .result 14).getD s).heapCheck_frame
  refine ⟨hb.keeps.2.2.2.2.trans hrae, fun a ha => ?_⟩
  have hcheck : ∀ t : State, t.heapCheck.rd a = t.rd a := fun t => by
    unfold State.heapCheck
    split
    · exact State.rd_alert _ _ _ _ _ _ _ _ ha
    · split <;> rfl
  rw [hcheck, State.rd, State.rd, hregs]

theorem State.reanalyse_leaves (s : State) : let t := s.reanalyse
    (t.domain s.raeArg).state = .closed ∧ (t.domain s.raeArg).reanalysed = true ∧ t.rae.queue = s.rae.queue ++ [s.raeArg] ∧
      (t.domain s.raeArg).tbud = budgetOr (s.fld Reg.RAE_ABUD Fld.RAE_ABUD_TBUD) (s.fld Reg.CAD_DEFBUD Fld.CAD_DEFBUD_TBUD) ∧
      (t.domain s.raeArg).nbud = budgetOr (s.fld Reg.RAE_ABUD Fld.RAE_ABUD_NBUD) (s.fld Reg.CAD_DEFBUD Fld.CAD_DEFBUD_NBUD) := by
  obtain ⟨hrae, hrd⟩ := s.reanalyse_heap
  have habud := hrd Reg.RAE_ABUD (.inr (by decide))
  have hdef := hrd Reg.CAD_DEFBUD (.inr (by decide))
  dsimp only
  rw [show s.reanalyse.domain s.raeArg = _ from State.domain_setDomain _ s.raeArg _]
  refine ⟨rfl, rfl, congrArg (fun q : RaeSt => q.queue ++ [s.raeArg]) hrae, ?_, ?_⟩ <;> simp only [State.fld, habud, hdef]

/-! ### What a refused command leaves (R150, R151) -/

/-- The status of a command of the analysis and the command. -/
def raeCommands (s : State) (r : Req) (v : Word) : List (Instr × Status) :=
  [(.raeRingCfgWrite r v, ringCfgStatus r v s), (.raeRingRptrWrite r v, ringRptrStatus r v s),
    (.reanalyse r, reanalyseStatus r s), (.clearLat r, clearLatStatus r s)]

/-- Each of them is a host write: its status decides. -/
theorem exec_raeCommand {v : Word} {c : Instr} {st : Status} (h : (c, st) ∈ raeCommands s r v) :
    ∃ a effect, exec c s = .next (s.hostWrite r a st effect) := by
  simp only [raeCommands, List.mem_cons, Prod.mk.injEq, List.not_mem_nil, or_false] at h
  rcases h with ⟨rfl, rfl⟩ | ⟨rfl, rfl⟩ | ⟨rfl, rfl⟩ | ⟨rfl, rfl⟩
  all_goals exact ⟨_, _, rfl⟩

theorem exec_raeCommand_refused {v : Word} {c : Instr} {st : Status} (hrec : s.upd.recovery = false) (h : (c, st) ∈ raeCommands s r v)
    (hst : st ≠ .ok) : ∃ t, exec c s = .next t ∧ t.answer = ⟨st, []⟩ ∧ t.cad = s.cad ∧ t.rae = s.rae ∧
      t.rd Reg.RAE_RING_CFG = s.rd Reg.RAE_RING_CFG ∧ t.rd Reg.RAE_RING_WPTR = s.rd Reg.RAE_RING_WPTR ∧
      t.rd Reg.RAE_RING_RPTR = s.rd Reg.RAE_RING_RPTR := by
  obtain ⟨x, effect, he⟩ := exec_raeCommand h
  have hrd : ∀ a, 0x600000 ≤ a → a < 0x601000 → (s.reject r x true 2 st).rd a = s.rd a := fun a h1 h2 => by
    refine State.rd_reject _ _ _ _ _ _ _ (.inr (by omega)) (.inr (by omega)) (.inr (by omega)) ?_ ?_
    · simp only [Reg.GLB_ERR_ADDR, Reg.GLB_ERR_INFO, Reg.GLB_ERR_CNT, Reg.GLB_EVENTS]
      omega
    · simp only [Reg.SEC_AUTH_REJ, Reg.SEC_PRIV_REJ]
      omega
  refine ⟨_, he.trans (congrArg Host.Outcome.next (State.hostWrite_not_ok _ _ _ _ _ hrec hst)), State.answer_reject .., by simp,
    by simp, hrd _ ?_ ?_, hrd _ ?_ ?_, hrd _ ?_ ?_⟩
  all_goals decide

end

/-! ### The obligation -/

/-- Settles O30: the copy's own pointer is written after its slot, whose write leaves the host's; each command is one host write. -/
theorem resultRing : Obligations.ResultRing := by
  intro s r v ringOn alerts
  refine ⟨fun q rest p hm hq hp hon hroom h2 => ⟨_, exec_resultRingCopy hm hq hp hon hroom, s.ringCopy_leaves p _ q rest h2⟩,
    exec_resultRingCopy_idle, exec_holdoffExpire_idle, fun ho hdue h => ?_, fun ho hdue hnew ha => ?_, fun hrec => ⟨fun h => ?_,
    fun h => ?_, fun h => ?_, fun h => ?_, fun c st h hst => exec_raeCommand_refused hrec h hst⟩⟩
  · rw [exec_holdoffExpire_due ho hdue, if_neg]
    rintro ⟨hnew, ha⟩
    rcases h with h | h
    · exact hnew h
    · exact Bool.false_ne_true (h.symm.trans ha)
  · obtain ⟨hzero, hcopy, -, -⟩ := State.resultReady_leaves { s with rae := { s.rae with holdoff := false } }
    exact ⟨_, (exec_holdoffExpire_due ho hdue).trans (if_pos ⟨hnew, ha⟩), hzero, hcopy⟩
  · obtain ⟨hcfg, hclear, hrest⟩ := s.ringCfg_leaves v
    exact ⟨_, exec_raeRingCfgWrite_ok hrec h, rfl, hcfg, hclear, hrest⟩
  · exact congrArg Host.Outcome.next (State.hostWrite_ok _ _ _ _ _ hrec h)
  · exact ⟨_, exec_reanalyse_ok hrec h, rfl, s.reanalyse_leaves⟩
  · exact congrArg Host.Outcome.next (State.hostWrite_ok _ _ _ _ _ hrec h)

end Sys2Proof.Machine
end

section
/-! PROOFS. Shedding after a capacity change: each pass takes one class out of force, and the passes end where no class in force loads
what is overloaded (R158, R164, R165, R176). -/
namespace Sys2Proof.Machine

/-! ### The class of lowest RANK -/

/-- One comparison of `State.lowestOn`: the earlier class stands unless the later one ranks below it. -/
def State.lowerRank (s : State) (b : Option Nat) (n : Nat) : Option Nat :=
  match b with
  | none => some n
  | some m => if s.classRank n < s.classRank m then some n else some m

theorem State.foldl_lowerRank_mem (s : State) (l : List Nat) (m : Nat) : ∃ k ∈ m :: l, l.foldl s.lowerRank (some m) = some k := by
  induction l generalizing m with
  | nil => exact ⟨m, by simp, rfl⟩
  | cons n l ih =>
    have hone : s.lowerRank (some m) n = some n ∨ s.lowerRank (some m) n = some m := ite_eq_or_eq ..
    rw [List.foldl_cons]
    rcases hone with h | h <;> rw [h]
    · obtain ⟨k, hk, heq⟩ := ih n
      exact ⟨k, List.mem_cons_of_mem _ hk, heq⟩
    · obtain ⟨k, hk, heq⟩ := ih m
      exact ⟨k, (List.mem_cons.mp hk).elim (fun he => by simp [he]) (fun hl => by simp [hl]), heq⟩

/-- Either a class in force is the lowest on some resources, or no class in force has demand on any of them. -/
theorem State.lowestOn_cases (s : State) (o : List Res) :
    (∃ k ∈ s.forceList, s.lowestOn o = some k) ∨ (s.lowestOn o = none ∧ ∀ r ∈ o, ∀ n ∈ s.forceList, s.demandOn n r ≤ 0) := by
  have heq : s.lowestOn o =
      (s.forceList.filter (fun n => o.any (fun r => decide (0 < s.demandOn n r)))).foldl s.lowerRank none := rfl
  rw [heq]
  cases hl : s.forceList.filter (fun n => o.any (fun r => decide (0 < s.demandOn n r))) with
  | nil =>
    refine .inr ⟨rfl, fun r hr n hn => not_lt.mp fun hlt => ?_⟩
    exact List.filter_eq_nil_iff.mp hl n hn (List.any_eq_true.mpr ⟨r, hr, decide_eq_true hlt⟩)
  | cons m l =>
    obtain ⟨k, hk, hfold⟩ := s.foldl_lowerRank_mem l m
    rw [← hl] at hk
    exact .inl ⟨k, List.mem_of_mem_filter hk, hfold⟩

/-! ### One class shed -/

/-- The class leaves those in force and joins the shed ones. -/
theorem State.shedClass_qos (s : State) (k : Nat) (r : Res) : (s.shedClass k r).qos.inforce = maskOf (s.forceList.filter (· != k)) ∧
    (s.shedClass k r).qos.shed = s.qos.shed ||| 2 ^ k := by
  simp [State.shedClass]

theorem State.shedClass_inForce (s : State) (k : Nat) (r : Res) (n : Nat) :
    (s.shedClass k r).inForce n = true ↔ n < 32 ∧ n ≠ k ∧ s.inForce n = true := by
  rw [State.inForce, (s.shedClass_qos k r).1, bitOf_maskOf]
  simp [State.forceList]

theorem State.shedClass_isShed (s : State) (k : Nat) (r : Res) (n : Nat) :
    (s.shedClass k r).isShed n = true ↔ s.isShed n = true ∨ n = k := by
  simp only [State.isShed, bitOf, (s.shedClass_qos k r).2, Nat.testBit_or, Nat.testBit_two_pow, Bool.or_eq_true, decide_eq_true_eq]
  exact or_congr_right eq_comm

theorem State.shedClass_forceList (s : State) (k : Nat) (r : Res) : (s.shedClass k r).forceList = s.forceList.filter (· != k) := by
  rw [State.forceList, State.forceList, List.filter_filter]
  refine List.filter_congr fun n hn => Bool.eq_iff_iff.mpr ?_
  simp [State.shedClass_inForce, List.mem_range.mp hn]

theorem State.shedClass_fewer (s : State) {k : Nat} (r : Res) (h : k ∈ s.forceList) :
    (s.shedClass k r).forceList.length < s.forceList.length := by
  rw [State.shedClass_forceList]
  exact List.length_filter_lt_length_iff_exists.mpr ⟨k, h, by simp⟩

/-! ### What the passes do to the classes -/

/-- Shedding brings no class into force, and loses none. -/
structure Shedding (s t : State) : Prop where
  before : ∀ n < 32, t.inForce n = true → s.inForce n = true
  after : ∀ n < 32, s.inForce n = true → t.inForce n = true ∨ t.isShed n = true
  shed : ∀ n, s.isShed n = true → t.isShed n = true

theorem Shedding.refl (s : State) : Shedding s s := ⟨fun _ _ h => h, fun _ _ h => .inl h, fun _ h => h⟩

theorem Shedding.trans {s t u : State} (h : Shedding s t) (k : Shedding t u) : Shedding s u :=
  ⟨fun n hn hu => h.before n hn (k.before n hn hu), fun n hn hs => (h.after n hn hs).elim (k.after n hn) (fun ht => .inr (k.shed n ht)),
    fun n hs => k.shed n (h.shed n hs)⟩

theorem Shedding.shedClass (s : State) (k : Nat) (r : Res) : Shedding s (s.shedClass k r) where
  before n _ h := ((s.shedClass_inForce k r n).mp h).2.2
  after n hn h := by
    by_cases hk : n = k
    · exact .inr ((s.shedClass_isShed k r n).mpr (.inr hk))
    · exact .inl ((s.shedClass_inForce k r n).mpr ⟨hn, hk, h⟩)
  shed n h := (s.shedClass_isShed k r n).mpr (.inl h)

/-! ### The loop (R176) -/

/-- No class in force has demand on a resource that the demand in force overloads. -/
def State.nothingToShed (s : State) : Prop :=
  ∀ r ∈ resOrder, s.overloaded false s.forceList r = true → ∀ n ∈ s.forceList, s.demandOn n r ≤ 0

/-- A pass sheds one class in force, or ends the loop with nothing left to shed. -/
theorem State.shedLoop_succ (s : State) (fuel : Nat) :
    (∃ k ∈ s.forceList, ∃ r, s.shedLoop (fuel + 1) = (s.shedClass k r).shedLoop fuel) ∨
      (s.shedLoop (fuel + 1) = s ∧ s.nothingToShed) := by
  have hdone (h : ∀ r ∈ resOrder.filter (s.overloaded false s.forceList), ∀ n ∈ s.forceList, s.demandOn n r ≤ 0) : s.nothingToShed :=
    fun r hr ho => h r (List.mem_filter.mpr ⟨hr, ho⟩)
  rw [State.shedLoop]
  cases ho : resOrder.filter (s.overloaded false s.forceList) with
  | nil => exact .inr ⟨rfl, hdone (by simp [ho])⟩
  | cons r o =>
    rcases s.lowestOn_cases (r :: o) with ⟨k, hk, hlow⟩ | ⟨hlow, hnone⟩
    · exact .inl ⟨k, hk, r, by simp only [hlow]⟩
    · exact .inr ⟨by simp only [hlow], hdone (ho ▸ hnone)⟩

theorem State.shedLoop_shedding (s : State) (fuel : Nat) : Shedding s (s.shedLoop fuel) := by
  induction fuel generalizing s with
  | zero => exact .refl s
  | succ fuel ih =>
    rcases s.shedLoop_succ fuel with ⟨k, -, r, h⟩ | ⟨h, -⟩ <;> rw [h]
    · exact (Shedding.shedClass s k r).trans (ih _)
    · exact .refl s

/-- As many passes as there are classes in force are enough. -/
theorem State.shedLoop_ends (s : State) (fuel : Nat) (h : s.forceList.length ≤ fuel) : (s.shedLoop fuel).nothingToShed := by
  induction fuel generalizing s with
  | zero =>
    have hnil : s.forceList = [] := List.eq_nil_of_length_eq_zero (Nat.le_zero.mp h)
    intro r _ _ n hn
    simp [State.shedLoop, hnil] at hn
  | succ fuel ih =>
    rcases s.shedLoop_succ fuel with ⟨k, hk, r, heq⟩ | ⟨heq, hdone⟩ <;> rw [heq]
    · exact ih _ (Nat.le_of_lt_succ ((s.shedClass_fewer r hk).trans_le h))
    · exact hdone

theorem State.forceList_length (s : State) : s.forceList.length ≤ 32 :=
  (List.length_filter_le ..).trans_eq List.length_range

/-! ### The obligation -/

/-- Settles O31: at most 32 classes are in force and each pass of the loop sheds one of them, so its 32 passes end it. -/
theorem shedRule : Obligations.ShedRule := by
  intro s
  refine ⟨fun hc hm => ?_, fun h => if_neg fun ⟨hc, hm⟩ => ?_⟩
  · obtain ⟨hbefore, hafter, hshed⟩ := State.shedLoop_shedding { s with qos := { s.qos with change := false } } 32
    exact ⟨s.evaluate, if_pos ⟨hc, hm⟩, State.shedLoop_ends _ 32 (State.forceList_length _), hbefore, hafter, hshed⟩
  · rcases h with h | h
    · simp [h] at hc
    · exact h hm

end Sys2Proof.Machine
end

section
/-! PROOFS. Refresh of a channel, its postponement behind a filling reservoir, pull-ins, and idle rows (R174, R256, R262, R266, R268,
R274). -/
namespace Sys2Proof.Machine

/-! ### What a channel sends -/

/-- A channel after a command: the command stands last in its retry buffer, which keeps 32. -/
def Chan.send (x : Chan) (k : DramCmd) : Chan :=
  { x with
    retry := (x.retry ++ [k]).drop (x.retry.length + 1 - 32)
    issued := x.issued + 1
    work := x.work + b2n (k.kind != 4)
    wq := x.wq.filter (fun q => !q.op.sentBefore (x.issued + 1 - 32)) }

/-- What a command displaces from the retry buffer is counted, which leaves the channel. -/
theorem State.chan_command (s : State) (c : Nat) (k : DramCmd) : (s.command c k).chan c = (s.chan c).send k := by
  rw [State.command, (foldl_counted (fun t o => .countRefresh t c o) _ _).chan, State.chan_setChan]
  rfl

/-- Only what commands move differs: the open rows, the retry buffer, the write queue and the counts. -/
def Chan.OnlySent (x y : Chan) : Prop := ∃ o r i w q, y = { x with openRows := o, retry := r, issued := i, work := w, wq := q }

theorem Chan.OnlySent.refl (x : Chan) : x.OnlySent x := ⟨_, _, _, _, _, rfl⟩

theorem Chan.OnlySent.trans {x y z : Chan} : x.OnlySent y → y.OnlySent z → x.OnlySent z := by
  rintro ⟨o, r, i, w, q, rfl⟩ ⟨o', r', i', w', q', rfl⟩
  exact ⟨_, _, _, _, _, rfl⟩

theorem Chan.send_onlySent (x : Chan) (k : DramCmd) : x.OnlySent (x.send k) := ⟨_, _, _, _, _, rfl⟩

theorem Chan.send_getLast (x : Chan) (k : DramCmd) : (x.send k).retry.getLast? = some k := by
  have h : (x.retry ++ [k]).drop (x.retry.length + 1 - 32) = x.retry.drop (x.retry.length + 1 - 32) ++ [k] :=
    List.drop_append_of_le_length (by omega)
  rw [Chan.send, h, List.getLast?_concat]

/-- The last `n` commands of a channel's retry buffer are refreshes. -/
structure Chan.EndsInRefreshes (x : Chan) (n : Nat) : Prop where
  last : (x.retry.reverse.take n).all (fun k => k.kind == 5) = true
  room : n ≤ x.retry.length

theorem Chan.EndsInRefreshes.zero (x : Chan) : x.EndsInRefreshes 0 := ⟨rfl, Nat.zero_le _⟩

theorem Chan.EndsInRefreshes.send {x : Chan} {n : Nat} (h : x.EndsInRefreshes n) (hn : n < 32) {k : DramCmd} (hk : k.kind = 5) :
    (x.send k).EndsInRefreshes (n + 1) := by
  obtain ⟨hlast, hroom⟩ := h
  have hrev : (x.send k).retry.reverse = (k :: x.retry.reverse).take (min 32 (x.retry.length + 1)) := by
    rw [Chan.send, List.reverse_drop]
    simp
    omega
  constructor
  · rw [hrev, List.take_take, Nat.min_eq_left (by omega), List.take_succ_cons, List.all_cons, hlast, hk]
    rfl
  · rw [← List.length_reverse, hrev, List.length_take, List.length_cons, List.length_reverse]
    omega

/-! ### What the commands of refreshes leave -/

/-- A controller sent commands without data on a channel: the transit and DMC_REF_FORCED stay, and so does the channel but for what
commands move. -/
structure SentOn (c : Nat) (s t : State) : Prop where
  chan : (s.chan c).OnlySent (t.chan c)
  transit : t.inTransit = s.inTransit
  forced : t.rd (Reg.DMC_REF_FORCED c) = s.rd (Reg.DMC_REF_FORCED c)
  mem : t.mem = s.mem

theorem SentOn.refl (c : Nat) (s : State) : SentOn c s s := ⟨.refl _, rfl, rfl, rfl⟩

theorem SentOn.trans {c : Nat} {s t u : State} (h : SentOn c s t) (k : SentOn c t u) : SentOn c s u :=
  ⟨h.chan.trans k.chan, k.transit.trans h.transit, k.forced.trans h.forced, k.mem.trans h.mem⟩

/-- A refresh that counts raises DMC_REF_CNT and the counters of R388. -/
theorem State.rd_countRefresh (s : State) (c : Nat) (k : DramCmd) :
    (s.countRefresh c k).rd (Reg.DMC_REF_FORCED c) = s.rd (Reg.DMC_REF_FORCED c) := by
  unfold State.countRefresh
  split
  · rfl
  · rw [State.rd_count _ _ _ _ _ _ _ _ _ (.inr (by simp only [Reg.DMC_REF_FORCED]; omega)), State.inc64]
    apply State.rd_wr64 <;> simp only [Reg.DMC_REF_FORCED, Reg.DMC_REF_CNT] <;> omega

theorem SentOn.command (s : State) (c : Nat) (k : DramCmd) : SentOn c s (s.command c k) where
  chan := by
    rw [State.chan_command]
    exact Chan.send_onlySent ..
  transit := by
    rw [State.inTransit, State.command, (foldl_counted (fun t o => .countRefresh t c o) _ _).dmc]
    rfl
  forced := foldl_keeps (fun t => t.rd (Reg.DMC_REF_FORCED c)) _ _ _ (fun t o => t.rd_countRefresh c o)
  mem := (Issued.command s c k).memory.1

theorem SentOn.setChan (s : State) (c : Nat) {x : Chan} (h : (s.chan c).OnlySent x) : SentOn c s (s.setChan c x) :=
  ⟨by rwa [State.chan_setChan], rfl, rfl, rfl⟩

theorem SentOn.prechargeAll (s : State) (c : Nat) : SentOn c s (s.prechargeAll c) := by
  unfold State.prechargeAll
  split
  · exact .refl c s
  · exact (SentOn.command ..).trans (.setChan _ c ⟨_, _, _, _, _, rfl⟩)

/-- A precharge goes first where a row is open. -/
theorem State.prechargeAll_closes (s : State) (c : Nat) : ((s.prechargeAll c).chan c).openRows = [] ∧
    ((s.prechargeAll c).chan c).issued = (s.chan c).issued + (if (s.chan c).openRows = [] then 0 else 1) := by
  unfold State.prechargeAll
  by_cases h : (s.chan c).openRows = []
  · simp [h]
  · simp [h, State.chan_command, Chan.send]

/-- All-bank refreshes sent one after the other. -/
def State.sendRefreshes (s : State) (c n owed : Nat) : State :=
  (List.range n).foldl (fun (t : State) i => t.command c { t.plainCmd 5 0 with owes := some (owed - i) }) s

theorem State.sendRefreshes_succ (s : State) (c n owed : Nat) : s.sendRefreshes c (n + 1) owed =
    (s.sendRefreshes c n owed).command c { (s.sendRefreshes c n owed).plainCmd 5 0 with owes := some (owed - n) } := by
  simp only [State.sendRefreshes, List.range_succ, List.foldl_append, List.foldl_cons, List.foldl_nil]

theorem State.refreshed_eq (s : State) (c owed : Nat) {n : Nat} (h : n ≠ 0) :
    s.refreshed c n owed = (s.prechargeAll c).sendRefreshes c n owed := if_neg h

theorem SentOn.sendRefreshes (s : State) (c n owed : Nat) : SentOn c s (s.sendRefreshes c n owed) := by
  induction n with
  | zero => exact .refl c s
  | succ n ih =>
    rw [State.sendRefreshes_succ]
    exact ih.trans (.command ..)

theorem State.sendRefreshes_chan (s : State) (c owed : Nat) {n : Nat} (hn : n ≤ 32) :
    ((s.sendRefreshes c n owed).chan c).EndsInRefreshes n ∧ ((s.sendRefreshes c n owed).chan c).openRows = (s.chan c).openRows ∧
      ((s.sendRefreshes c n owed).chan c).issued = (s.chan c).issued + n := by
  induction n with
  | zero => exact ⟨.zero _, rfl, rfl⟩
  | succ n ih =>
    obtain ⟨hends, hrows, hissued⟩ := ih (by omega)
    rw [State.sendRefreshes_succ, State.chan_command]
    exact ⟨hends.send (by omega) rfl, hrows, congrArg (· + 1) hissued⟩

theorem SentOn.refreshed (s : State) (c n owed : Nat) : SentOn c s (s.refreshed c n owed) := by
  by_cases h : n = 0
  · rw [State.refreshed, if_pos h]
    exact .refl c s
  · rw [State.refreshed_eq s c owed h]
    exact (SentOn.prechargeAll s c).trans (.sendRefreshes ..)

/-- What `n` refreshes leave on a channel that stood as `x`: its rows closed, by a precharge of their own, and the refreshes sent last. -/
structure Chan.Refreshed (x y : Chan) (n : Nat) : Prop where
  issued : y.issued = x.issued + n + (if x.openRows = [] then 0 else 1)
  rows : y.openRows = []
  ends : y.EndsInRefreshes n

theorem State.refreshed_chan (s : State) (c owed : Nat) {n : Nat} (h0 : n ≠ 0) (hn : n ≤ 32) :
    (s.chan c).Refreshed ((s.refreshed c n owed).chan c) n := by
  obtain ⟨hclosed, hprecharge⟩ := s.prechargeAll_closes c
  obtain ⟨hends, hrows, hissued⟩ := (s.prechargeAll c).sendRefreshes_chan c owed hn
  rw [State.refreshed_eq s c owed h0]
  exact ⟨by rw [hissued, hprecharge]; omega, hrows.trans hclosed, hends⟩

/-! ### Refreshes owed (R262) -/

/-- Some of the owed refreshes issued, before the forced one is counted. -/
def State.payRefreshes (s : State) (c n : Nat) : State :=
  (s.setChan c { s.chan c with owed := (s.chan c).owed - n }).refreshed c n (s.chan c).owed

/-- At 8 owed the first one issued is forced. -/
theorem State.issueRefreshes_forced {s : State} {c n : Nat} (h : (s.chan c).owed = 8) (h0 : n ≠ 0) : s.issueRefreshes c n =
    ((s.payRefreshes c n).satInc (Reg.DMC_REF_FORCED c)).event (Reg.DMC_EVENTS c) Fld.DMC_EVENTS_REF_FORCED := if_pos ⟨h, h0⟩

/-- Counting a forced refresh leaves the controllers. -/
theorem State.issueRefreshes_dmc (s : State) (c n : Nat) : (s.issueRefreshes c n).dmc = (s.payRefreshes c n).dmc := by
  by_cases h : (s.chan c).owed = 8 ∧ n ≠ 0
  · rw [State.issueRefreshes_forced h.1 h.2]
    simp
  · exact congrArg State.dmc (if_neg h)

theorem State.issueRefreshes_chan (s : State) (c n : Nat) : (s.issueRefreshes c n).chan c = (s.payRefreshes c n).chan c := by
  rw [State.chan, State.chan, State.issueRefreshes_dmc]

/-- A refresh issued is owed no more; what else the channel holds but for its commands stays. -/
theorem State.issueRefreshes_onlySent (s : State) (c n : Nat) :
    ({ s.chan c with owed := (s.chan c).owed - n } : Chan).OnlySent ((s.issueRefreshes c n).chan c) := by
  have h := (SentOn.refreshed (s.setChan c { s.chan c with owed := (s.chan c).owed - n }) c n (s.chan c).owed).chan
  rwa [State.chan_setChan, ← State.payRefreshes, ← State.issueRefreshes_chan] at h

theorem State.issueRefreshes_refreshed (s : State) (c : Nat) {n : Nat} (h0 : n ≠ 0) (hn : n ≤ 32) :
    (s.chan c).Refreshed ((s.issueRefreshes c n).chan c) n := by
  have h := (s.setChan c { s.chan c with owed := (s.chan c).owed - n }).refreshed_chan c (s.chan c).owed h0 hn
  rw [State.chan_setChan, ← State.payRefreshes, ← State.issueRefreshes_chan] at h
  exact ⟨h.issued, h.rows, h.ends⟩

theorem State.issueRefreshes_inTransit (s : State) (c n : Nat) : (s.issueRefreshes c n).inTransit = s.inTransit := by
  rw [State.inTransit, State.issueRefreshes_dmc]
  exact (SentOn.refreshed (s.setChan c _) c n _).transit

theorem State.issueRefreshes_owed (s : State) (c n : Nat) : ((s.issueRefreshes c n).chan c).owed = (s.chan c).owed - n ∧
    ((s.issueRefreshes c n).chan c).pulled = (s.chan c).pulled ∧ ((s.issueRefreshes c n).chan c).postpone = (s.chan c).postpone := by
  obtain ⟨o, r, i, w, q, h⟩ := s.issueRefreshes_onlySent c n
  rw [h]
  exact ⟨rfl, rfl, rfl⟩

/-- A field that holds a set bit is flagged. -/
theorem State.flag_of_bit {s : State} {a i : Nat} {f : Fld} (h : (s.rd a).getLsbD i = true) (hm : (fldMask f).getLsbD i = true)
    (hlo : f.lo ≤ i) : s.flag a f = true := by
  have hset : (((s.rd a) &&& fldMask f) >>> f.lo).getLsbD (i - f.lo) = true := by
    rw [BitVec.getLsbD_ushiftRight, Nat.add_sub_cancel' hlo, BitVec.getLsbD_and, h, hm]
    rfl
  refine bne_iff_ne.mpr fun hz => ?_
  rw [BitVec.getLsbD, ← wget, ← State.fld, hz, Nat.zero_testBit] at hset
  exact Bool.false_ne_true hset

/-- The forced refresh is counted once, and flagged. -/
theorem State.issueRefreshes_counts {s : State} {c n : Nat} (h : (s.chan c).owed = 8) (h0 : n ≠ 0) :
    (s.issueRefreshes c n).rdN (Reg.DMC_REF_FORCED c) = sat32 (s.rdN (Reg.DMC_REF_FORCED c)) 1 ∧
      (s.issueRefreshes c n).flag (Reg.DMC_EVENTS c) Fld.DMC_EVENTS_REF_FORCED = true := by
  rw [State.issueRefreshes_forced h h0]
  constructor
  · have hne : Reg.DMC_REF_FORCED c ≠ Reg.DMC_EVENTS c := by simp only [Reg.DMC_REF_FORCED, Reg.DMC_EVENTS]; omega
    have hsent : (s.payRefreshes c n).rdN (Reg.DMC_REF_FORCED c) = s.rdN (Reg.DMC_REF_FORCED c) :=
      congrArg BitVec.toNat (SentOn.refreshed (s.setChan c _) c n _).forced
    rw [State.event, State.setBits, State.rdN, State.rd_wr_ne _ _ _ _ hne, ← State.rdN, State.rdN_satInc, hsent]
  · have hbit : ((((s.payRefreshes c n).satInc (Reg.DMC_REF_FORCED c)).event (Reg.DMC_EVENTS c) Fld.DMC_EVENTS_REF_FORCED).rd
        (Reg.DMC_EVENTS c)).getLsbD 1 = true := State.setBits_bit _ _ _ 1 (by decide)
    exact State.flag_of_bit hbit (by decide) (by decide)

/-! ### Refreshes forced, and postponement (R174, R262) -/

/-- No transit runs, and the channel is not held. -/
def State.Unblocked (s : State) (c : Nat) : Prop := s.inTransit = false ∧ (s.chan c).held = false

theorem State.not_unblocked_iff (s : State) (c : Nat) : (s.inTransit || (s.chan c).held) = true ↔ ¬ s.Unblocked c := by
  rw [State.Unblocked, ← Bool.or_eq_false_iff, Bool.not_eq_false]

theorem State.forceRefresh_blocked {s : State} {c : Nat} (h : ¬ s.Unblocked c) : s.forceRefresh c = s :=
  if_pos (by rw [(s.not_unblocked_iff c).mpr h, Bool.true_or])

/-- On a channel awake: every owed refresh without postponement, one at 8 under it. -/
theorem State.forceRefresh_unblocked {s : State} {c : Nat} (h : s.Unblocked c) (hsr : (s.chan c).sr = false) : s.forceRefresh c =
    if !(s.chan c).postpone then s.issueRefreshes c (s.chan c).owed
    else if (s.chan c).owed = 8 then s.issueRefreshes c 1 else s :=
  if_neg (by simp [h.1, h.2, hsr])

theorem State.forceRefresh_all {s : State} {c : Nat} (h : s.Unblocked c) (hsr : (s.chan c).sr = false)
    (hp : (s.chan c).postpone = false) : s.forceRefresh c = s.issueRefreshes c (s.chan c).owed :=
  (State.forceRefresh_unblocked h hsr).trans (if_pos (by simp [hp]))

theorem State.forceRefresh_postponed {s : State} {c : Nat} (h : s.Unblocked c) (hsr : (s.chan c).sr = false)
    (hp : (s.chan c).postpone = true) : s.forceRefresh c = if (s.chan c).owed = 8 then s.issueRefreshes c 1 else s :=
  (State.forceRefresh_unblocked h hsr).trans (if_neg (by simp [hp]))

/-- At 8 owed some refresh is issued, postponed or not. -/
theorem State.forceRefresh_eight {s : State} {c : Nat} (h : s.Unblocked c) (hsr : (s.chan c).sr = false) (h8 : (s.chan c).owed = 8) :
    ∃ n, n ≠ 0 ∧ s.forceRefresh c = s.issueRefreshes c n := by
  cases hp : (s.chan c).postpone with
  | false => exact ⟨(s.chan c).owed, by omega, State.forceRefresh_all h hsr hp⟩
  | true => exact ⟨1, Nat.one_ne_zero, (State.forceRefresh_postponed h hsr hp).trans (if_pos h8)⟩

theorem State.forceRefresh_cases (s : State) (c : Nat) : s.forceRefresh c = s ∨ ∃ n, s.forceRefresh c = s.issueRefreshes c n := by
  unfold State.forceRefresh
  dsimp only
  split
  · exact .inl rfl
  · split
    · exact .inr ⟨_, rfl⟩
    · split
      · exact .inr ⟨1, rfl⟩
      · exact .inl rfl

theorem State.postponeUpdate_begins {s : State} {c : Nat} (hp : (s.chan c).postpone = false)
    (hf : 50 ≤ s.boundFill c (s.captureClasses.filter s.inForce)) :
    s.postponeUpdate c = s.setChan c { s.chan c with postpone := true } :=
  (if_neg (by simp [hp])).trans (if_pos (by simp [hp, hf]))

theorem State.postponeUpdate_ends {s : State} {c : Nat} (hp : (s.chan c).postpone = true) (hf : s.boundFill c s.captureClasses < 25) :
    s.postponeUpdate c = (s.setChan c { s.chan c with postpone := false }).forceRefresh c :=
  if_pos (by simp [hp, hf])

/-- What decides whether a channel takes refreshes stays as it was. -/
structure SameStanding (c : Nat) (s t : State) : Prop where
  on : (t.chan c).on = (s.chan c).on
  sr : (t.chan c).sr = (s.chan c).sr
  width : (t.chan c).width = (s.chan c).width
  held : (t.chan c).held = (s.chan c).held
  transit : t.inTransit = s.inTransit

theorem SameStanding.refl (c : Nat) (s : State) : SameStanding c s s := ⟨rfl, rfl, rfl, rfl, rfl⟩

theorem SameStanding.trans {c : Nat} {s t u : State} (h : SameStanding c s t) (k : SameStanding c t u) : SameStanding c s u :=
  ⟨k.on.trans h.on, k.sr.trans h.sr, k.width.trans h.width, k.held.trans h.held, k.transit.trans h.transit⟩

theorem SameStanding.postpone (s : State) (c : Nat) (p : Bool) : SameStanding c s (s.setChan c { s.chan c with postpone := p }) := by
  constructor
  all_goals simp [State.inTransit, State.setChan, State.chan]

theorem SameStanding.issueRefreshes (s : State) (c n : Nat) : SameStanding c s (s.issueRefreshes c n) := by
  obtain ⟨o, r, i, w, q, h⟩ := s.issueRefreshes_onlySent c n
  exact ⟨by rw [h], by rw [h], by rw [h], by rw [h], s.issueRefreshes_inTransit c n⟩

theorem SameStanding.forceRefresh (s : State) (c : Nat) : SameStanding c s (s.forceRefresh c) := by
  rcases s.forceRefresh_cases c with h | ⟨n, h⟩ <;> rw [h]
  · exact .refl c s
  · exact .issueRefreshes s c n

theorem SameStanding.postponeUpdate (s : State) (c : Nat) : SameStanding c s (s.postponeUpdate c) := by
  unfold State.postponeUpdate
  dsimp only
  split
  · exact (SameStanding.postpone s c false).trans (.forceRefresh ..)
  · split
    · exact .postpone s c true
    · exact .refl c s

theorem SameStanding.unblocked {c : Nat} {s t : State} (h : SameStanding c s t) : t.Unblocked c ↔ s.Unblocked c := by
  rw [State.Unblocked, State.Unblocked, h.transit, h.held]

/-- Postponement ends with every owed refresh issued, where the channel may send. -/
theorem State.postponeUpdate_ends_leaves {s : State} {c : Nat} (hp : (s.chan c).postpone = true)
    (hf : s.boundFill c s.captureClasses < 25) : ((s.postponeUpdate c).chan c).postpone = false ∧
      (s.Unblocked c → (s.chan c).sr = false → ((s.postponeUpdate c).chan c).owed = 0) := by
  have hstand := SameStanding.postpone s c false
  have hpost : ((s.setChan c { s.chan c with postpone := false }).chan c).postpone = false := by rw [State.chan_setChan]
  rw [State.postponeUpdate_ends hp hf]
  generalize s.setChan c { s.chan c with postpone := false } = u at hstand hpost ⊢
  constructor
  · rcases u.forceRefresh_cases c with h | ⟨n, h⟩ <;> rw [h]
    · exact hpost
    · exact (u.issueRefreshes_owed c n).2.2.trans hpost
  · intro hfree hsr
    rw [State.forceRefresh_all (hstand.unblocked.mpr hfree) (hstand.sr.trans hsr) hpost, (u.issueRefreshes_owed c _).1, Nat.sub_self]

/-! ### REFRESH_TICK (R262) -/

/-- A channel brought up, awake and not retired. -/
def Chan.Live (x : Chan) : Prop := x.on = true ∧ x.sr = false ∧ x.width ≠ .retired

theorem Chan.live_iff (x : Chan) : (!x.on || x.sr || x.width == .retired) = false ↔ x.Live := by
  simp [Chan.Live, and_assoc]

theorem Chan.not_live_iff (x : Chan) : (!x.on || x.sr || x.width == .retired) = true ↔ ¬ x.Live := by
  rw [← x.live_iff, Bool.not_eq_false]

theorem SameStanding.live {c : Nat} {s t : State} (h : SameStanding c s t) : (t.chan c).Live ↔ (s.chan c).Live := by
  rw [Chan.Live, Chan.Live, h.on, h.sr, h.width]

/-- A refresh falls due: it is owed, up to 8, and DMC_REF_OWEDMAX follows. -/
def State.oweRefresh (s : State) (c : Nat) : State :=
  (s.setChan c { s.chan c with owed := min 8 ((s.chan c).owed + 1) }).wrN (Reg.DMC_REF_OWEDMAX c)
    (max (s.rdN (Reg.DMC_REF_OWEDMAX c)) (min 8 ((s.chan c).owed + 1)))

theorem State.oweRefresh_chan (s : State) (c : Nat) :
    (s.oweRefresh c).chan c = { s.chan c with owed := min 8 ((s.chan c).owed + 1) } :=
  State.chan_setChan ..

theorem State.oweRefresh_owed (s : State) (c : Nat) : ((s.oweRefresh c).chan c).owed = min 8 ((s.chan c).owed + 1) := by
  rw [State.oweRefresh_chan]

theorem State.oweRefresh_postpone (s : State) (c : Nat) : ((s.oweRefresh c).chan c).postpone = (s.chan c).postpone := by
  rw [State.oweRefresh_chan]

/-- Refreshes issued where one more has come to be owed. -/
theorem State.oweRefresh_issues (s : State) (c : Nat) {n : Nat} (h0 : n ≠ 0) (hn : n ≤ 32) :
    (s.chan c).Refreshed (((s.oweRefresh c).issueRefreshes c n).chan c) n ∧
      (((s.oweRefresh c).issueRefreshes c n).chan c).owed = min 8 ((s.chan c).owed + 1) - n ∧
      (((s.oweRefresh c).issueRefreshes c n).chan c).pulled = (s.chan c).pulled := by
  have hsent := (s.oweRefresh c).issueRefreshes_refreshed c h0 hn
  obtain ⟨howed, hpulled, -⟩ := (s.oweRefresh c).issueRefreshes_owed c n
  rw [State.oweRefresh_chan] at hsent howed hpulled
  exact ⟨⟨hsent.issued, hsent.rows, hsent.ends⟩, howed, hpulled⟩

theorem State.oweRefresh_forced (s : State) (c : Nat) : (s.oweRefresh c).rdN (Reg.DMC_REF_FORCED c) = s.rdN (Reg.DMC_REF_FORCED c) := by
  have hne : Reg.DMC_REF_FORCED c ≠ Reg.DMC_REF_OWEDMAX c := by simp only [Reg.DMC_REF_FORCED, Reg.DMC_REF_OWEDMAX]; omega
  exact congrArg BitVec.toNat (State.rd_wr_ne _ _ _ _ hne)

theorem SameStanding.oweRefresh (s : State) (c : Nat) : SameStanding c s (s.oweRefresh c) := by
  have h := s.oweRefresh_chan c
  exact ⟨by rw [h], by rw [h], by rw [h], by rw [h], rfl⟩

theorem State.refreshTick_not_live {s : State} {c : Nat} (h : ¬ (s.chan c).Live) : s.refreshTick c = s :=
  if_pos ((Chan.not_live_iff _).mpr fun hu => h ((SameStanding.postponeUpdate s c).live.mp hu))

theorem State.refreshTick_live {s : State} {c : Nat} (h : (s.chan c).Live) : s.refreshTick c =
    if 0 < ((s.postponeUpdate c).chan c).pulled then
      (s.postponeUpdate c).setChan c { (s.postponeUpdate c).chan c with pulled := ((s.postponeUpdate c).chan c).pulled - 1 }
    else ((s.postponeUpdate c).oweRefresh c).forceRefresh c :=
  if_neg (Bool.eq_false_iff.mp ((Chan.live_iff _).mpr ((SameStanding.postponeUpdate s c).live.mpr h)))

/-- Without a refresh pulled in ahead, the tick's own is owed, and what is forced is issued. -/
theorem State.refreshTick_owes {s : State} {c : Nat} (h : (s.chan c).Live) (hp : ((s.postponeUpdate c).chan c).pulled = 0) :
    s.refreshTick c = ((s.postponeUpdate c).oweRefresh c).forceRefresh c :=
  (State.refreshTick_live h).trans (if_neg (by omega))

/-! ### PULL_IN_REFRESH and ROW_IDLE_PRECHARGE (R256, R262) -/

/-- A channel that takes refreshes at level 4: no request of level 1 to 3 waits on it. -/
def State.Idle (s : State) (c : Nat) : Prop :=
  (s.chan c).Live ∧ s.Unblocked c ∧ (s.chan c).waiting.any (fun r => decide ((s.reqBid r).level ≤ 3)) = false

theorem State.idle_iff (s : State) (c : Nat) : (!(s.chan c).on || (s.chan c).sr || (s.chan c).width == .retired || s.inTransit ||
    (s.chan c).held || (s.chan c).waiting.any (fun r => decide ((s.reqBid r).level ≤ 3))) = false ↔ s.Idle c := by
  rw [State.Idle, ← Chan.live_iff, State.Unblocked]
  simp only [Bool.or_eq_false_iff, and_assoc]

theorem State.pullIn_not_idle {s : State} {c : Nat} (h : ¬ s.Idle c) : s.pullIn c = s :=
  if_pos (by rwa [← s.idle_iff, Bool.not_eq_false] at h)

theorem State.pullIn_idle {s : State} {c : Nat} (h : s.Idle c) : s.pullIn c =
    if 0 < (s.chan c).owed then s.issueRefreshes c 1
    else if (s.chan c).pulled < 8 then (s.setChan c { s.chan c with pulled := (s.chan c).pulled + 1 }).refreshed c 1 0
    else s :=
  if_neg (Bool.eq_false_iff.mp ((s.idle_iff c).mpr h))

/-- A refresh issued one ahead. -/
theorem State.pullAhead_issues (s : State) (c n : Nat) :
    (s.chan c).Refreshed (((s.setChan c { s.chan c with pulled := n }).refreshed c 1 0).chan c) 1 ∧
      (((s.setChan c { s.chan c with pulled := n }).refreshed c 1 0).chan c).owed = (s.chan c).owed ∧
      (((s.setChan c { s.chan c with pulled := n }).refreshed c 1 0).chan c).pulled = n := by
  have hsent := (s.setChan c { s.chan c with pulled := n }).refreshed_chan c 0 Nat.one_ne_zero (by decide)
  obtain ⟨o, r, i, w, q, hrest⟩ := (SentOn.refreshed (s.setChan c { s.chan c with pulled := n }) c 1 0).chan
  rw [State.chan_setChan] at hsent hrest
  exact ⟨⟨hsent.issued, hsent.rows, hsent.ends⟩, by rw [hrest], by rw [hrest]⟩

theorem exec_rowIdlePrecharge_blocked {s : State} {c : Fin 32} (bank : Fin 32) (h : ¬ s.Unblocked c) :
    exec (.rowIdlePrecharge c bank) s = .next s :=
  if_pos ((s.not_unblocked_iff c).mpr h)

theorem exec_rowIdlePrecharge_unblocked {s : State} {c : Fin 32} (bank : Fin 32) (h : s.Unblocked c) :
    exec (.rowIdlePrecharge c bank) s = .next (s.closeRow c bank) :=
  if_neg (by simp [h.1, h.2])

theorem State.closeRow_none {s : State} {c bank : Nat} (h : Tab.look (s.chan c).openRows bank = none) : s.closeRow c bank = s := by
  simp only [State.closeRow, h]

/-- The row's precharge is sent, and the bank has none open. -/
theorem State.closeRow_open {s : State} {c bank row : Nat} (h : Tab.look (s.chan c).openRows bank = some row) :
    (s.closeRow c bank).chan c = { (s.chan c).send (s.plainCmd 4 (rowOfBank bank row)) with
      openRows := Tab.del (s.chan c).openRows bank } ∧ (s.closeRow c bank).mem = s.mem := by
  simp only [State.closeRow, h, State.chan_setChan, State.chan_command]
  exact ⟨rfl, (SentOn.command ..).mem⟩

/-! ### The obligation -/

/-- Settles O50: a tick updates postponement, which leaves the channel's standing, and then pays, owes or issues; every refresh issued
enters the retry buffer behind the precharge of the rows. -/
theorem refreshRules : Obligations.RefreshRules := by
  intro s c bank x u y live free owed ticked issued idle
  have hstand : SameStanding c s ticked := (SameStanding.postponeUpdate s c).trans (.oweRefresh u c)
  have hpostpone : (ticked.chan c).postpone = y.postpone := u.oweRefresh_postpone c
  have howed : (ticked.chan c).owed = owed := u.oweRefresh_owed c
  have htick (hl : live) (hp : y.pulled = 0) : exec (.refreshTick c) s = .next (ticked.forceRefresh c) :=
    congrArg Host.Outcome.next (State.refreshTick_owes hl hp)
  have hissued {z : Chan} {t : State} {n : Nat} (h : z.Refreshed (t.chan c) n) : issued z t n :=
    ⟨h.issued, h.rows, h.ends.last, h.ends.room⟩
  refine ⟨State.postponeUpdate_begins, State.postponeUpdate_ends_leaves, fun hl hp => ?_, fun hl hp hb => ?_, fun hl hp hf => ?_,
    fun hi => ⟨fun ho => ?_, fun ho hp => ?_, fun ho hp => ?_⟩, fun hl => congrArg Host.Outcome.next (State.refreshTick_not_live hl),
    fun hi => congrArg Host.Outcome.next (State.pullIn_not_idle hi), fun row hf hrow => ?_, fun h => ?_⟩
  · exact congrArg Host.Outcome.next ((State.refreshTick_live hl).trans (if_pos hp))
  · rw [htick hl hp, State.forceRefresh_blocked (mt hstand.unblocked.mp hb)]
  · have hfree := hstand.unblocked.mpr hf
    have hsr : (ticked.chan c).sr = false := hstand.sr.trans hl.2.1
    refine ⟨fun hpost => ?_, fun hpost h8 => ?_, fun hpost h8 => ?_, fun h8 => ?_⟩
    · obtain ⟨hsent, hleft, hpulled⟩ := u.oweRefresh_issues c (n := owed) (by omega) (by omega)
      refine ⟨ticked.issueRefreshes c owed, ?_, hissued hsent, hleft.trans (Nat.sub_self _), hpulled.trans hp⟩
      rw [htick hl hp, State.forceRefresh_all hfree hsr (hpostpone.trans hpost), howed]
    · rw [htick hl hp, State.forceRefresh_postponed hfree hsr (hpostpone.trans hpost), if_neg (by omega)]
    · obtain ⟨hsent, hleft, -⟩ := u.oweRefresh_issues c (n := 1) (by decide) (by decide)
      refine ⟨ticked.issueRefreshes c 1, ?_, hissued hsent, hleft.trans (congrArg (· - 1) h8)⟩
      rw [htick hl hp, State.forceRefresh_postponed hfree hsr (hpostpone.trans hpost), if_pos (howed.trans h8)]
    · obtain ⟨n, h0, hforce⟩ := State.forceRefresh_eight hfree hsr (howed.trans h8)
      obtain ⟨hcount, hflag⟩ := State.issueRefreshes_counts (howed.trans h8) h0
      exact ⟨_, (htick hl hp).trans (congrArg _ hforce), hcount.trans (congrArg (sat32 · 1) (u.oweRefresh_forced c)), hflag⟩
  · obtain ⟨hleft, hpulled, -⟩ := s.issueRefreshes_owed c 1
    have hsent := s.issueRefreshes_refreshed c (n := 1) (by decide) (by decide)
    exact ⟨_, congrArg Host.Outcome.next ((State.pullIn_idle hi).trans (if_pos ho)), hissued hsent, hleft, hpulled⟩
  · obtain ⟨hsent, hleft, hpulled⟩ := s.pullAhead_issues c (x.pulled + 1)
    exact ⟨_, congrArg Host.Outcome.next ((State.pullIn_idle hi).trans ((if_neg (Nat.not_lt.mpr ho.le)).trans (if_pos hp))),
      hissued hsent, hleft.trans ho, hpulled⟩
  · exact congrArg Host.Outcome.next
      ((State.pullIn_idle hi).trans ((if_neg (Nat.not_lt.mpr ho.le)).trans (if_neg (Nat.not_lt.mpr hp))))
  · obtain ⟨hchan, hmem⟩ := State.closeRow_open hrow
    refine ⟨_, exec_rowIdlePrecharge_unblocked bank hf, by rw [hchan], by rw [hchan, Chan.send], hmem, ?_⟩
    rw [hchan]
    exact Chan.send_getLast ..
  · by_cases hf : free
    · rw [exec_rowIdlePrecharge_unblocked bank hf, State.closeRow_none (h.resolve_left (not_not_intro hf))]
    · exact exec_rowIdlePrecharge_blocked bank hf

end Sys2Proof.Machine
end

section
/-! PROOFS. Lanes and chains: what is read after an update, and what the operations of a bring-up, an exchange and a loss leave (R187,
R195 to R203). -/
namespace Sys2Proof.Machine

/-! ### Lanes, chains and the time read after an update -/

theorem State.lane_congr {s t : State} (h : t.lanes = s.lanes) (l : Nat) : t.lane l = s.lane l := by
  rw [State.lane, h, State.lane]

theorem State.chainL_congr {s t : State} (h : t.chains = s.chains) (k : Nat) : t.chainL k = s.chainL k := by
  rw [State.chainL, h, State.chainL]

@[simp] theorem State.lane_setChainL (s : State) (k : Nat) (x : ChainLnk) (l : Nat) : (s.setChainL k x).lane l = s.lane l := rfl

@[simp] theorem State.lane_event (s : State) (a : Nat) (f : Fld) (l : Nat) : (s.event a f).lane l = s.lane l := rfl

@[simp] theorem State.lane_satInc (s : State) (a n l : Nat) : (s.satInc a n).lane l = s.lane l := rfl

@[simp] theorem State.lane_wr (s : State) (a : Nat) (v : Word) (l : Nat) : (s.wr a v).lane l = s.lane l := rfl

@[simp] theorem State.lane_wrN (s : State) (a n l : Nat) : (s.wrN a n).lane l = s.lane l := rfl

@[simp] theorem State.lane_inc64 (s : State) (a n l : Nat) : (s.inc64 a n).lane l = s.lane l := rfl

@[simp] theorem State.lane_emit (s : State) (e : Emission) (l : Nat) : (s.emit e).lane l = s.lane l := rfl

@[simp] theorem State.lane_draw (s : State) (l : Nat) : s.draw.lane l = s.lane l := rfl

@[simp] theorem State.lane_reply (s : State) (st : Status) (d : List Byte) (l : Nat) : (s.reply st d).lane l = s.lane l := rfl

@[simp] theorem State.chainL_setLane (s : State) (l : Nat) (x : Lane) (k : Nat) : (s.setLane l x).chainL k = s.chainL k := rfl

@[simp] theorem State.chainL_event (s : State) (a : Nat) (f : Fld) (k : Nat) : (s.event a f).chainL k = s.chainL k := rfl

@[simp] theorem State.chainL_satInc (s : State) (a n k : Nat) : (s.satInc a n).chainL k = s.chainL k := rfl

@[simp] theorem State.chainL_inc64 (s : State) (a n k : Nat) : (s.inc64 a n).chainL k = s.chainL k := rfl

@[simp] theorem State.chainL_emit (s : State) (e : Emission) (k : Nat) : (s.emit e).chainL k = s.chainL k := rfl

@[simp] theorem State.chainL_draw (s : State) (k : Nat) : s.draw.chainL k = s.chainL k := rfl

@[simp] theorem State.chainL_reply (s : State) (st : Status) (d : List Byte) (k : Nat) : (s.reply st d).chainL k = s.chainL k := rfl

@[simp] theorem State.chainL_setChainP (s : State) (j : Nat) (x : ChainPkt) (k : Nat) : (s.setChainP j x).chainL k = s.chainL k := rfl

@[simp] theorem State.chainL_alert (s : State) (c j x y z w k : Nat) : (s.alert c j x y z w).chainL k = s.chainL k :=
  State.chainL_congr (by simp) k

@[simp] theorem State.chainL_detect (s : State) (src a b : Nat) (fo : Bool) (k : Nat) : (s.detect src a b fo).chainL k = s.chainL k :=
  State.chainL_congr (by simp) k

@[simp] theorem State.chainL_capacityChange (s : State) (k : Nat) : s.capacityChange.chainL k = s.chainL k := rfl

@[simp] theorem State.chainL_linkChanged (s : State) (k : Nat) : s.linkChanged.chainL k = s.chainL k :=
  State.chainL_congr (by simp [State.linkChanged]) k

theorem State.draw_setLane (s : State) (l : Nat) (x : Lane) : (s.setLane l x).draw = s.draw.setLane l x := rfl

/-! ### Registers after an update -/

theorem State.rd_event_ne (s : State) {a b : Nat} (f : Fld) (h : b ≠ a) : (s.event a f).rd b = s.rd b := s.rd_wr_ne _ _ _ h

/-- A one-bit field is flagged once its event has been set. -/
theorem State.flag_event (s : State) (a : Nat) {f : Fld} (h : (fldMask f).getLsbD f.lo = true) : (s.event a f).flag a f = true :=
  State.flag_of_bit (s.setBits_bit a _ _ h) h le_rfl

/-! ### The lanes of a chain (R187) -/

/-- A lane's chain is enabled and configures the lane. -/
theorem State.chainOf_spec {s : State} {l k : Nat} (h : s.chainOf l = some k) :
    k < 16 ∧ (s.chainL k).en = true ∧ bitOf (s.chainL k).lanes l = true := by
  have hp := List.find?_some h
  exact ⟨List.mem_range.mp (List.mem_of_find?_eq_some h), Bool.and_eq_true_iff.mp hp⟩

theorem ChainLnk.mem_laneList {x : ChainLnk} {l : Nat} : l ∈ x.laneList ↔ l < 64 ∧ bitOf x.lanes l = true := by
  simp [ChainLnk.laneList, bitList, bitOf]

/-- A lane stands in the list of its chain. -/
theorem State.chainOf_mem {s : State} {l k : Nat} (h : s.chainOf l = some k) (hl : l < 64) : l ∈ (s.chainL k).laneList :=
  ChainLnk.mem_laneList.mpr ⟨hl, (State.chainOf_spec h).2.2⟩

/-- The lanes under their numbers in a MASK. -/
theorem ChainLnk.mem_numbered {x : ChainLnk} {i l : Nat} :
    (i, l) ∈ (List.range x.laneList.length).zip x.laneList ↔ x.laneList[i]? = some l := by
  rw [List.mem_iff_getElem?]
  constructor
  · rintro ⟨j, hj⟩
    obtain ⟨hr, hl⟩ := List.getElem?_zip_eq_some.mp hj
    obtain ⟨hlt, rfl⟩ := List.getElem?_eq_some_iff.mp hr
    rwa [List.getElem_range]
  · intro h
    obtain ⟨hlt, -⟩ := List.getElem?_eq_some_iff.mp h
    exact ⟨i, List.getElem?_zip_eq_some.mpr ⟨by rw [List.getElem?_range hlt], h⟩⟩

/-! ### Columns and injections (R189, R209) -/

/-- A column puts out one block for each transmitting lane, and changes nothing else. -/
theorem State.sendColumn_eq (s : State) (k : Nat) (f : Nat → Nat × Nat) :
    s.sendColumn k f = { s with out := s.out ++ (s.txLanes k).map (fun l => .block l (f l).1 (f l).2) } := by
  have hfold : ∀ (ls : List Nat) (t : State), ls.foldl (fun (t : State) l => t.emit (.block l (f l).1 (f l).2)) t =
      { t with out := t.out ++ ls.map (fun l => .block l (f l).1 (f l).2) } := by
    intro ls
    induction ls with
    | nil => intro t; rw [List.foldl_nil, List.map_nil, List.append_nil]
    | cons l ls ih => intro t; rw [List.foldl_cons, ih, List.map_cons, State.emit, List.append_assoc]; rfl
  exact hfold _ s

/-- The transmitting lanes of a chain are its lanes in LOCK or later. -/
theorem State.mem_txLanes {s : State} {k l : Nat} : l ∈ s.txLanes k ↔ l ∈ (s.chainL k).laneList ∧ (s.lane l).locked = true :=
  List.mem_filter

/-- An injection of kind SYMBOL or SYNC goes out on a lane that sends codewords. -/
theorem State.applyInjection_applies {s : State} {l kind n : Nat} (h : (s.lane l).inj = some (kind, n)) (hk : kind ≠ 1)
    (hs : s.injectable l = true) : s.applyInjection l =
      (s.draw.draw.setLane l { s.lane l with inj := none }).emit (s.injected l kind n) := by
  simp only [State.applyInjection, h]
  exact if_pos ⟨hk, hs⟩

/-- One of kind BIT, and any on a lane that sends no codewords, waits. -/
theorem State.applyInjection_waits {s : State} {l : Nat} (h : ∀ kind n, (s.lane l).inj = some (kind, n) → kind = 1 ∨ s.injectable l = false) :
    s.applyInjection l = s := by
  unfold State.applyInjection
  split
  · next kind n hi =>
    refine if_neg fun ⟨hk, hs⟩ => ?_
    rcases h kind n hi with h | h
    · exact hk h
    · exact ne_true_of_eq_false h hs
  · rfl

/-! ### A failed bring-up (R195) -/

/-- A state in which a lane's bring-up has failed: the lane is in DETECT with a backoff, and the failure is counted. -/
structure BringUpFailed (s : State) (l : Nat) (t : State) : Prop where
  lane : t.lane l = { (s.lane l).detected true s.now with failStreak := min ((s.lane l).failStreak + 1) 255 }
  others : ∀ m, m ≠ l → t.lane m = s.lane m
  counted : t.rdN (Reg.LNK_L_FAILS l) = sat32 (s.rdN (Reg.LNK_L_FAILS l)) 1

theorem State.laneFails_failed (s : State) (l : Nat) : BringUpFailed s l (s.laneFails l) where
  lane := by simp [State.laneFails]
  others m h := by simp [State.laneFails, State.lane_setLane_ne, h]
  counted := State.rdN_satInc ..

/-- What leaves the lanes and the count of failures leaves the failure. -/
theorem BringUpFailed.of_kept {s t u : State} {l : Nat} (h : BringUpFailed s l t) (hl : u.lanes = t.lanes)
    (hr : u.rd (Reg.LNK_L_FAILS l) = t.rd (Reg.LNK_L_FAILS l)) : BringUpFailed s l u where
  lane := (State.lane_congr hl l).trans h.lane
  others m hm := (State.lane_congr hl m).trans (h.others m hm)
  counted := (congrArg BitVec.toNat hr).trans h.counted

/-- The event of the failure leaves it. -/
theorem BringUpFailed.event {s t : State} {l : Nat} (h : BringUpFailed s l t) (f : Fld) :
    BringUpFailed s l (t.event (Reg.LNK_L_EVENTS l) f) :=
  h.of_kept rfl (State.rd_event_ne _ _ (by simp [Reg.LNK_L_FAILS, Reg.LNK_L_EVENTS]))

/-- A CAPX mismatch is a failed bring-up, behind the events and the alert that tell of it. -/
theorem State.capxMismatch_failed (s : State) {k : Nat} (hk : k < 16) {l : Nat} (hl : l < 64) (got : Option Nat) :
    BringUpFailed s l (s.capxMismatch k l got) := by
  have hreg : Reg.LNK_L_FAILS l < 0x110000 := by rw [Reg.LNK_L_FAILS]; omega
  have hev : Reg.LNK_L_FAILS l ≠ Reg.LNK_C_EVENTS k := by rw [Reg.LNK_C_EVENTS]; omega
  have hdraw := s.draw.laneFails_failed l
  have hfail : BringUpFailed s l (s.draw.laneFails l) := ⟨hdraw.lane, hdraw.others, hdraw.counted⟩
  refine (hfail.event Fld.LNK_L_EVENTS_CAPX_MISMATCH).of_kept (by simp [State.capxMismatch]) ?_
  rw [State.capxMismatch, State.rd_alert _ _ _ _ _ _ _ _ (.inl (by omega)), State.rd_event_ne _ _ hev]

/-! ### A chain that goes down, and lanes that leave (R199, R201, R205) -/

/-- A fold keeps the chains that its steps keep. -/
theorem State.chainL_foldl {α : Type} {f : State → α → State} {k : Nat} (h : ∀ t x, (f t x).chainL k = t.chainL k) (l : List α) (s : State) :
    (l.foldl f s).chainL k = s.chainL k := foldl_keeps (fun t => t.chainL k) f l s h

theorem State.lossEvent_keeps (s : State) (l cond : Nat) : (s.lossEvent l cond).lanes = s.lanes ∧ (s.lossEvent l cond).chains = s.chains ∧
    (s.lossEvent l cond).now = s.now := by
  unfold State.lossEvent
  split <;> exact ⟨rfl, rfl, rfl⟩

/-- Drops counted change neither lanes nor chains. -/
theorem State.countDrops_keeps (s : State) (lanes : List (Nat × Nat)) :
    (s.countDrops lanes).lanes = s.lanes ∧ (s.countDrops lanes).chains = s.chains :=
  ⟨foldl_keeps State.lanes _ _ _ fun t e => (t.lossEvent_keeps e.1 e.2).1,
    foldl_keeps State.chains _ _ _ fun t e => (t.lossEvent_keeps e.1 e.2).2.1⟩

@[simp] theorem State.chainL_countDrops (s : State) (lanes : List (Nat × Nat)) (k : Nat) : (s.countDrops lanes).chainL k = s.chainL k :=
  State.chainL_congr (s.countDrops_keeps lanes).2 k

@[simp] theorem State.chainL_laneFails (s : State) (l k : Nat) : (s.laneFails l).chainL k = s.chainL k := rfl

@[simp] theorem State.chainL_lanesLeave (s : State) (j : Nat) (lanes : List (Nat × Nat)) (k : Nat) :
    (s.lanesLeave j lanes).chainL k = s.chainL k :=
  State.chainL_foldl (fun t e => by simp) _ _

/-- A formation given up leaves its chain off. -/
theorem State.formFails_chainL (s : State) (k : Nat) : (s.formFails k).chainL k = { (s.chainL k).idle with windowOver := true } := by
  rw [State.formFails, State.chainL_setChainL, State.chainL_foldl fun t l => ?_]
  split <;> rfl

@[simp] theorem State.chainL_sourcesLost (s : State) (j k : Nat) : (s.sourcesLost j).chainL k = s.chainL k := by
  refine State.chainL_foldl (fun t i => ?_) _ _
  exact (State.chainL_alert ..).trans rfl

@[simp] theorem State.chainL_dropOwed (s : State) (j k : Nat) : (s.dropOwed j).chainL k = s.chainL k := by
  refine State.chainL_foldl (fun t u => ?_) _ _
  rfl

@[simp] theorem State.chainL_streamLost (s : State) (u j k : Nat) : (s.streamLost u j).chainL k = s.chainL k := by
  unfold State.streamLost
  dsimp only
  split
  · rfl
  · exact (State.chainL_alert ..).trans rfl

@[simp] theorem State.chainL_endAtOnce (s : State) (p : Session → Bool) (k : Nat) : (s.endAtOnce p).chainL k = s.chainL k :=
  State.chainL_congr (by simp) k

/-- A chain that goes down is off. -/
theorem State.chainDown_chainL (s : State) (k reason : Nat) :
    (s.chainDown k reason).chainL k = { (s.chainL k).idle with windowOver := true } := by
  have hstreams (t : State) : ((List.range 16).foldl (fun t u => if t.vxuEnabled u && t.vxuChain u == k then t.streamLost u k else t)
      t).chainL k = t.chainL k := State.chainL_foldl (fun t u => by split <;> simp) _ _
  unfold State.chainDown
  dsimp only
  rw [State.chainL_linkChanged, State.chainL_endAtOnce]
  refine (hstreams _).trans ?_
  simp

/-- A chain that falls below MINW is off, whether it was UP or forming. -/
theorem State.belowMinw_chainL (s : State) (k : Nat) : (s.belowMinw k).chainL k = { (s.chainL k).idle with windowOver := true } := by
  unfold State.belowMinw
  split
  · exact s.formFails_chainL k
  · exact s.chainDown_chainL k 0

/-! ### The transmit direction narrowed (R199, R201, R203) -/

/-- The switch of a DROP to a mask, whose switch stripe lies 512 stripes on. -/
def ChainLnk.dropSwitch (x : ChainLnk) (mask : Nat) (lanes : List (Nat × Nat)) : Switch :=
  ⟨mask, if x.state = .forming ∧ x.txMask = 0 then 0 else (x.txEpoch + 1) % 64, (x.txStripe + 512) % 4294967296, true, x.leaving ++ lanes⟩

/-- Without an exchange nothing gives way. -/
theorem State.giveWay_none {s : State} {k : Nat} (h : (s.chainL k).rejoin = .none) (mask : Nat) : s.giveWay k mask = s := by
  simp only [State.giveWay, h]

/-- A committed exchange is over where no joining lane is left, and goes on otherwise; nothing else of the chain or its lanes changes. -/
theorem State.giveWay_committed {s : State} {k m old : Nat} {form got : Bool} (h : (s.chainL k).rejoin = .committed m old form got) (mask : Nat) :
    (s.giveWay k mask).lanes = s.lanes ∧ ∃ r, (s.giveWay k mask).chainL k = { s.chainL k with rejoin := r } := by
  unfold State.giveWay
  simp only [h]
  cases form with
  | true => exact ⟨rfl, _, rfl⟩
  | false =>
    dsimp only
    split
    · exact ⟨rfl, _, State.chainL_setChainL ..⟩
    · exact ⟨rfl, _, rfl⟩

/-- With MINW lanes left, the DROP is pending behind what gives way, and no lane has left yet. -/
theorem State.dropTo_pending {s u : State} {k mask : Nat} {lanes : List (Nat × Nat)} (hu : (s.countDrops lanes).giveWay k mask = u)
    (hw : (u.chainL k).minw ≤ popcount 16 mask) : (s.dropTo k mask lanes).lanes = u.lanes ∧
    (s.dropTo k mask lanes).chainL k = { u.chainL k with txSwitch := some ((u.chainL k).dropSwitch mask lanes) } := by
  unfold State.dropTo
  dsimp only
  rw [hu, if_neg (Nat.not_lt.mpr hw)]
  exact ⟨rfl, State.chainL_setChainL ..⟩

/-- With fewer the chain is off. -/
theorem State.dropTo_falls {s u : State} {k mask : Nat} {lanes : List (Nat × Nat)} (hu : (s.countDrops lanes).giveWay k mask = u)
    (hw : popcount 16 mask < (u.chainL k).minw) : (s.dropTo k mask lanes).chainL k = { (u.chainL k).idle with windowOver := true } := by
  unfold State.dropTo
  dsimp only
  rw [hu, if_pos hw, State.belowMinw_chainL, State.chainL_lanesLeave, State.sendEpoch, State.chainL_emit, State.chainL_setChainL]
  rfl

/-- Without an exchange nothing gives way to a DROP. -/
theorem State.dropTo_gives_none {s : State} {k : Nat} (h : (s.chainL k).rejoin = .none) (mask : Nat) (lanes : List (Nat × Nat)) :
    (s.countDrops lanes).giveWay k mask = s.countDrops lanes :=
  State.giveWay_none ((congrArg ChainLnk.rejoin (s.chainL_countDrops lanes k)).trans h) mask

/-- Without an exchange, and with MINW lanes left, a DROP adds its switch to the chain. -/
theorem State.dropTo_adds {s : State} {k mask : Nat} (hr : (s.chainL k).rejoin = .none) (hw : (s.chainL k).minw ≤ popcount 16 mask)
    (lanes : List (Nat × Nat)) :
    (s.dropTo k mask lanes).chainL k = { s.chainL k with txSwitch := some ((s.chainL k).dropSwitch mask lanes) } := by
  obtain ⟨-, hchain⟩ := State.dropTo_pending (State.dropTo_gives_none hr mask lanes) (by rwa [State.chainL_countDrops])
  rwa [State.chainL_countDrops] at hchain

/-- With fewer left it turns the chain off. -/
theorem State.dropTo_ends {s : State} {k mask : Nat} (hr : (s.chainL k).rejoin = .none) (hw : popcount 16 mask < (s.chainL k).minw)
    (lanes : List (Nat × Nat)) : (s.dropTo k mask lanes).chainL k = { (s.chainL k).idle with windowOver := true } := by
  rw [State.dropTo_falls (State.dropTo_gives_none hr mask lanes) (by rwa [State.chainL_countDrops]), State.chainL_countDrops]

/-- An exchange that lapses leaves the chain without it. -/
theorem State.lapse_chainL (s : State) (k : Nat) : (s.lapse k).chainL k = { s.chainL k with
    rejoin := .none, lapsed := some s.now, state := if (s.chainL k).state = .forming then .off else (s.chainL k).state } := by
  rw [State.lapse, State.chainL_event, State.chainL_setChainL]

theorem ChainLnk.running_of_up {x : ChainLnk} (h : x.state = .up) : x.running = true := by
  rw [ChainLnk.running, h]
  rfl

/-- Active lanes of the mask that are lost leave by a DROP, and the chain discards what it receives (R199). -/
theorem State.loseLanes_active {s : State} {k : Nat} {lost : List Nat} (cond : Nat) (hup : (s.chainL k).state = .up)
    (hrej : (s.chainL k).rejoin = .none) (hne : lost ≠ [])
    (hact : ∀ l ∈ lost, (s.lane l).state = .active ∧ bitOf (s.chainL k).txTarget ((s.chainL k).laneList.idxOf l) = true) :
    s.loseLanes k lost cond = (s.setChainL k { s.chainL k with discard := true }).dropTo k (s.maskWithout k lost)
      (lost.map fun l => (l, cond)) := by
  have hactive : lost.filter (fun l => (s.lane l).state == .active &&
      bitOf (s.chainL k).txTarget ((s.chainL k).laneList.idxOf l)) = lost :=
    List.filter_eq_self.mpr fun l hl => by simp [hact l hl]
  have hearly : lost.filter (fun l => (s.lane l).locked && (s.lane l).state != .active && (s.lane l).state != .test) = [] :=
    List.filter_eq_nil_iff.mpr fun l hl => by simp [hact l hl]
  have hsome : lost.isEmpty = false := List.isEmpty_eq_false_iff.mpr hne
  unfold State.loseLanes
  simp only [hactive, hearly, List.foldl_nil, hrej]
  rw [if_pos (by simp [ChainLnk.running_of_up hup, hne]), hsome, Bool.not_false, Bool.or_true]
  rfl

/-- A lane before LOCK, or in TEST, loses nothing. -/
theorem State.loseLanes_nothing {s : State} {k l : Nat} (cond : Nat) (h : (s.lane l).locked = false ∨ (s.lane l).state = .test) :
    s.loseLanes k [l] cond = s := by
  have hactive : ((s.lane l).state == .active) = false := by
    rcases h with h | h
    · exact beq_eq_false_iff_ne.mpr fun ha => by simp [Lane.locked, ha] at h
    · rw [h]
      rfl
  have hearly : ((s.lane l).locked && (s.lane l).state != .active && (s.lane l).state != .test) = false := by
    rcases h with h | h <;> simp [h]
  unfold State.loseLanes
  simp only [List.filter_cons, List.filter_nil, hactive, hearly, Bool.false_and, Bool.false_eq_true, if_false, List.foldl_nil, List.any_nil,
    List.isEmpty_nil, Bool.not_true, Bool.or_false, Bool.and_false]
  split <;> rfl

/-- A lane from LOCK to STANDBY that no exchange and no mask holds has failed its bring-up. -/
theorem State.loseLanes_early {s : State} {k l : Nat} (cond : Nat)
    (h : (s.lane l).state = .lock ∨ (s.lane l).state = .capx ∨ (s.lane l).state = .standby) (hrej : (s.chainL k).rejoin = .none)
    (hmask : bitOf (s.chainL k).txTarget ((s.chainL k).laneList.idxOf l) = false) :
    s.loseLanes k [l] cond = (s.lossEvent l cond).laneFails l := by
  have hactive : ((s.lane l).state == .active) = false := by
    rcases h with h | h | h <;> rw [h] <;> rfl
  have hearly : ((s.lane l).locked && (s.lane l).state != .active && (s.lane l).state != .test) = true := by
    rcases h with h | h | h <;> rw [Lane.locked, h] <;> rfl
  have hrej' : (((s.lossEvent l cond).laneFails l).chainL k).rejoin = .none := by
    rw [State.chainL_laneFails, State.chainL_congr (s.lossEvent_keeps l cond).2.1, hrej]
  unfold State.loseLanes
  simp only [List.filter_cons, List.filter_nil, hactive, hearly, Bool.false_eq_true, if_false, if_true, List.foldl_cons, List.foldl_nil,
    List.any_cons, List.any_nil, hmask, List.isEmpty_nil, Bool.not_true, Bool.or_false, Bool.and_false, hrej']

end Sys2Proof.Machine
end

section
/-! PROOFS. The bring-up of a lane: training, locks, CAPX, readiness and backoff (R193 to R197). -/
namespace Sys2Proof.Machine

/-! ### Training frames (R194) -/

/-- A pattern has as many symbols as are asked of it. -/
theorem prbsRun_length (p31 : Bool) (flip : Nat → Bool) (i r n : Nat) : (prbsRun p31 flip i r n).1.length = n := by
  induction n generalizing i r with
  | zero => rfl
  | succ n ih => exact congrArg (· + 1) (ih _ _)

/-- A tap's step and status fit their fields. -/
theorem tapStep_lt {v : Nat} (h : v < 256) (req : Nat) (limit : Bool) : (tapStep v req limit).1 < 256 ∧ (tapStep v req limit).2 < 4 := by
  unfold tapStep
  repeat' split
  all_goals exact ⟨by dsimp only; omega, by dsimp only; omega⟩

/-- Three taps written into one word, each in its byte, read back. -/
theorem bitsOf_taps {a b c : Nat} (ha : a < 256) (hb : b < 256) (hc : c < 256) :
    bitsOf (a * 65536 + b * 256 + c) 23 16 = a ∧ bitsOf (a * 65536 + b * 256 + c) 15 8 = b ∧
      bitsOf (a * 65536 + b * 256 + c) 7 0 = c := by
  simp only [bitsOf_eq]
  omega

/-- Three statuses written into one answer read back. -/
theorem bitsOf_answers {a b c : Nat} (ha : a < 4) (hb : b < 4) (hc : c < 4) :
    bitsOf (a * 2 ^ 14 + b * 2 ^ 12 + c * 2 ^ 10) 15 14 = a ∧ bitsOf (a * 2 ^ 14 + b * 2 ^ 12 + c * 2 ^ 10) 13 12 = b ∧
      bitsOf (a * 2 ^ 14 + b * 2 ^ 12 + c * 2 ^ 10) 11 10 = c := by
  simp only [bitsOf_eq]
  omega

/-- A request for taps moves LNK_L_TXEQ, and draws where a preset is asked for. -/
theorem State.tapRequest_keeps (s : State) (l control limit : Nat) : (s.tapRequest l control limit).1.lanes = s.lanes ∧
    (s.tapRequest l control limit).1.out = s.out := by
  unfold State.tapRequest
  split <;> exact ⟨rfl, rfl⟩

/-- Without a preset each tap makes the step it is asked for, and the answer holds its status. -/
theorem tapRequest_steps (s : State) (l : Nat) {control : Nat} (limit : Nat) (h1 : bitsOf control 9 8 ≠ 1)
    (h2 : bitsOf control 9 8 ≠ 2) : ∀ i < 3,
      (bitsOf ((s.tapRequest l control limit).1.rdN (Reg.LNK_L_TXEQ l)) (8 * i + 7) (8 * i),
        bitsOf (s.tapRequest l control limit).2 (11 + 2 * i) (10 + 2 * i)) =
      tapStep (bitsOf (s.rdN (Reg.LNK_L_TXEQ l)) (8 * i + 7) (8 * i)) (bitsOf control (11 + 2 * i) (10 + 2 * i)) (bitOf limit i) := by
  have hbyte : ∀ {hi lo : Nat}, hi + 1 - lo = 8 → bitsOf (s.rdN (Reg.LNK_L_TXEQ l)) hi lo < 256 := fun h => by
    rw [bitsOf_eq, h]
    exact Nat.mod_lt _ (by decide)
  obtain ⟨hpre, apre⟩ := tapStep_lt (hbyte (hi := 23) (lo := 16) rfl) (bitsOf control 15 14) (bitOf limit 2)
  obtain ⟨hmain, amain⟩ := tapStep_lt (hbyte (hi := 15) (lo := 8) rfl) (bitsOf control 13 12) (bitOf limit 1)
  obtain ⟨hpost, apost⟩ := tapStep_lt (hbyte (hi := 7) (lo := 0) rfl) (bitsOf control 11 10) (bitOf limit 0)
  obtain ⟨t2, t1, t0⟩ := bitsOf_taps hpre hmain hpost
  obtain ⟨a2, a1, a0⟩ := bitsOf_answers apre amain apost
  intro i hi
  rw [State.tapRequest, if_neg (not_or_intro h1 h2)]
  dsimp only
  rw [State.wrN, State.rdN, State.rd_wr_same, BitVec.toNat_ofNat, Nat.mod_eq_of_lt (by omega)]
  match i, hi with
  | 0, _ => exact Prod.ext t0 a0
  | 1, _ => exact Prod.ext t1 a1
  | 2, _ => exact Prod.ext t2 a2

/-- A preset updates all three taps. -/
theorem State.tapRequest_preset (s : State) (l : Nat) {control : Nat} (limit : Nat) (h : bitsOf control 9 8 = 1 ∨ bitsOf control 9 8 = 2) :
    ∀ i < 3, bitsOf (s.tapRequest l control limit).2 (11 + 2 * i) (10 + 2 * i) = 1 := by
  rw [State.tapRequest, if_pos h]
  exact (by decide : ∀ i < 3, bitsOf (1 * 2 ^ 14 + 1 * 2 ^ 12 + 1 * 2 ^ 10) (11 + 2 * i) (10 + 2 * i) = 1)

/-- A frame sent holds 3,936 symbols behind its header, and moves the generator alone. -/
theorem State.sendFrameOn_eq (s : State) (l control status : Nat) : ∃ (symbols : List Nat) (g : Nat), symbols.length = 3936 ∧
    s.sendFrameOn l control status =
      (s.draw.setLane l { s.lane l with gen := g }).emit (.training l (trainHeader control status ++ symbols)) :=
  ⟨_, _, prbsRun_length false (fun _ => false) 0 (s.genSeed l) 3936, rfl⟩

/-- A lane behind a training frame: the answer queued, the readiness of both sides counted, its own request followed, and its generator
moved on. -/
def Lane.framed (x : Lane) (control status own ans g : Nat) : Lane :=
  let rx := if bitOf control 0 then x.rxReady + 1 else 0
  let tx := if bitOf own 0 then x.txReady + 1 else 0
  { x with
    tapDue := x.tapDue.drop 1 ++ [some ans], rxReady := rx, txReady := tx, frames := x.nextFrames rx tx
    request := x.nextRequest status own, gen := g }

/-- What a training frame leaves: the taps as its request left them, the frame sent in answer, and its lane. -/
theorem State.trainingFrame_eq (s : State) (l control status limit own : Nat) : ∃ (symbols : List Nat) (g : Nat),
    symbols.length = 3936 ∧ s.trainingFrame l control status limit own =
      ((s.tapRequest l control limit).1.draw.setLane l ((s.lane l).framed control status own (s.tapRequest l control limit).2 g)).emit
        (.training l (trainHeader ((s.lane l).ownControl own) (((s.lane l).tapDue.headD none).getD 0) ++ symbols)) := by
  have hx : (s.tapRequest l control limit).1.lane l = s.lane l := State.lane_congr (s.tapRequest_keeps l control limit).1 l
  unfold State.trainingFrame
  dsimp only
  rw [hx]
  obtain ⟨symbols, g, hlen, hsend⟩ := State.sendFrameOn_eq _ l ((s.lane l).ownControl own) (((s.lane l).tapDue.headD none).getD 0)
  refine ⟨symbols, g, hlen, hsend.trans ?_⟩
  rw [State.draw_setLane, State.setLane_setLane, State.lane_setLane]
  rfl

/-! ### The end of training, the locks, CAPX and readiness (R193 to R197) -/

section
variable {s : State} {l : Fin 64}

/-- The end of training: LOCK begins, and an injection that waits for codewords goes out. -/
theorem exec_trainingEnd_leaves (hl : s.laneIn l .train = true) (hf : 16 ≤ (s.lane l).frames.getD 0) : ∃ t,
    exec (.trainingEnd l) s = .next t ∧ (t.lane l).state = .lock ∧ (t.lane l).tTimer = s.now ∧
    (∀ m, m ≠ l.val → t.lane m = s.lane m) ∧ ((∀ n, (s.lane l).inj ≠ some (1, n)) → (t.lane l).inj = none) ∧ t.regs = s.regs := by
  refine ⟨_, if_pos ⟨hl, hf⟩, ?_⟩
  generalize hx : ({ s.lane l with
      state := .lock, tTimer := s.now, rxReady := 0, txReady := 0, frames := none, request := none, tapDue := [none, none]
      scr := Config.freeNat s.fresh % 2 ^ 58 } : Lane) = x
  have hst : x.state = .lock := by rw [← hx]
  have htm : x.tTimer = s.now := by rw [← hx]
  have hinj : (s.lane l).inj = x.inj := by rw [← hx]
  rw [hinj]
  clear hx hinj
  by_cases hw : ∀ kind n, x.inj = some (kind, n) → kind = 1
  · rw [State.applyInjection_waits fun kind n hi => .inl (hw kind n (by rwa [State.lane_setLane] at hi))]
    have hnone (h : ∀ n, x.inj ≠ some (1, n)) : x.inj = none :=
      Option.eq_none_iff_forall_ne_some.mpr fun ⟨kind, n⟩ hi => h n (hw kind n hi ▸ hi)
    simp +contextual [hst, htm, hnone, State.lane_setLane_ne]
  · push Not at hw
    obtain ⟨kind, n, hi, hk⟩ := hw
    rw [State.applyInjection_applies (by rwa [State.lane_setLane]) hk (by simp [State.injectable, Lane.locked, hst])]
    simp +contextual [hst, htm, State.lane_setLane_ne]

/-- Both locks: CAPX begins, and the column that goes out holds the lane's CAPX block. -/
theorem exec_lockAchieved_leaves {k : Nat} (hk : s.chainOf l = some k) (hl : s.laneIn l .lock = true) (hcw : (s.lane l).cwLock = true)
    (hblk : (s.lane l).blkLock = true) : ∃ t, exec (.lockAchieved l) s = .next t ∧
    t.lanes = (s.setLane l { s.lane l with state := .capx, tTimer := s.now }).lanes ∧ .block l 0x55 (capxBody k l) ∈ t.out ∧
    t.regs = s.regs := by
  refine ⟨_, if_pos ⟨hl, hcw, hblk⟩, ?_⟩
  rw [hk, Option.getD_some, State.sendCapx, State.sendColumn_eq]
  refine ⟨rfl, List.mem_append_right _ (List.mem_map.mpr ⟨l, ?_, by simp⟩), rfl⟩
  exact State.mem_txLanes.mpr ⟨State.chainOf_mem hk l.isLt, by simp [Lane.locked]⟩

/-- A lane that has become ready is the only one changed, and the first of a chain that is off opens its formation window. -/
theorem State.laneReady_leaves (s : State) (l : Nat) : (s.laneReady l).lane l = { s.lane l with ready := true } ∧
    (∀ m, m ≠ l → (s.laneReady l).lane m = s.lane m) ∧
    (∀ k, s.chainOf l = some k → (s.chainL k).state = .off → (s.chainL k).windowOver = false →
      ((s.laneReady l).chainL k).window = true) := by
  have hlanes : (s.laneReady l).lanes = (s.setLane l { s.lane l with ready := true }).lanes := by
    unfold State.laneReady
    dsimp only
    split
    · rfl
    · split <;> rfl
  refine ⟨?_, fun m hm => ?_, fun k hk hoff hover => ?_⟩
  · rw [State.lane_congr hlanes, State.lane_setLane]
  · rw [State.lane_congr hlanes, State.lane_setLane_ne _ _ _ _ hm]
  · simp only [State.laneReady, hk]
    by_cases hw : (s.chainL k).window = true
    · simp [hw]
    · simp [hw, hoff, hover]

/-- CAPX_MATCH on a lane of a chain. -/
theorem exec_capxMatch_on {k : Nat} (hk : s.chainOf l = some k) (body : BitVec 56) : exec (.capxMatch l body) s =
    if s.laneIn l .capx ∧ capxValid body.toNat ∧ capxMatches (s.chainL k) k l body.toNat then
      .next ((s.setLane l { s.lane l with state := .standby, tTimer := s.now, failStreak := 0 }).setChainL k
        { s.chainL k with peer := bitsOf body.toNat 55 40 })
    else .next s := by
  change execCapxMatch l body s = _
  simp only [execCapxMatch, hk]

/-- CAPX_MISMATCH on a lane of a chain, by a block received. -/
theorem exec_capxMismatch_block {k : Nat} (hk : s.chainOf l = some k) (body : BitVec 56) : exec (.capxMismatch l (some body)) s =
    if s.laneIn l .capx ∧ (capxValid body.toNat && !capxMatches (s.chainL k) k l body.toNat) = true then
      .next (s.capxMismatch k l (some body.toNat))
    else .next s := by
  change execCapxMismatch l (some body) s = _
  simp only [execCapxMismatch, hk]
  rfl

/-- CAPX_MISMATCH on a lane of a chain, by its timer. -/
theorem exec_capxMismatch_timer {k : Nat} (hk : s.chainOf l = some k) : exec (.capxMismatch l none) s =
    if s.laneIn l .capx ∧ s.laneTmo l 312500 = true then .next (s.capxMismatch k l none) else .next s := by
  change execCapxMismatch l none s = _
  simp only [execCapxMismatch, hk]
  rfl

/-- Neither event of CAPX moves a lane of no chain. -/
theorem exec_capx_off_chain (hk : s.chainOf l = none) (body : BitVec 56) (got : Option (BitVec 56)) :
    exec (.capxMatch l body) s = .next s ∧ exec (.capxMismatch l got) s = .next s := by
  change execCapxMatch l body s = _ ∧ execCapxMismatch l got s = _
  simp only [execCapxMatch, execCapxMismatch, hk, and_self]

/-- Before the shortest of its timers no event of time moves a lane. -/
theorem exec_bringUp_early (h : s.now < (s.lane l).tTimer + 312500) : exec (.noSignal l) s = .next s ∧ exec (.trainTmo l) s = .next s ∧
    exec (.lockTmo l) s = .next s ∧ exec (.capxMismatch l none) s = .next s ∧ exec (.laneReady l) s = .next s ∧
    exec (.backoffExpire l) s = .next s := by
  have hrun : ∀ n, 312500 ≤ n → ¬ s.laneTimer l n = true := fun n hn ht => by
    have := of_decide_eq_true ht
    omega
  have htmo : ∀ n, 312500 ≤ n → ¬ s.laneTmo l n = true := fun n hn ht => by
    have := of_decide_eq_true ht
    omega
  refine ⟨if_neg fun g => hrun _ (by decide) g.2.2, if_neg fun g => htmo _ (by decide) g.2, if_neg fun g => htmo _ (by decide) g.2, ?_,
    if_neg fun g => hrun _ (by decide) g.2.2.1, if_neg fun g => hrun _ (by split <;> decide) g.2⟩
  cases hk : s.chainOf l with
  | none => exact (exec_capx_off_chain hk 0 none).2
  | some k => exact (exec_capxMismatch_timer hk).trans (if_neg fun g => htmo _ (by decide) g.2)

/-- No event of a bring-up moves a lane that is not in the state that it ends. -/
theorem exec_bringUp_elsewhere (control status own : BitVec 16) (limit : BitVec 3) (body : BitVec 56) : ∀ c st,
    (c, st) ∈ [(Instr.laneSignalDetect l, LaneState.detect), (.noSignal l, .detect), (.trainingFrame l control status limit own, .train),
      (.trainingEnd l, .train), (.trainTmo l, .train), (.lockAchieved l, .lock), (.lockTmo l, .lock), (.capxMatch l body, .capx),
      (.capxMismatch l (some body), .capx), (.capxMismatch l none, .capx), (.laneReady l, .standby)] →
    s.laneIn l st = false → exec c s = .next s := by
  intro c st hc hl
  have hno : ¬ s.laneIn l st = true := fun h => ne_true_of_eq_false hl h
  have hcapx (h : st = .capx) : exec (.capxMatch l body) s = .next s ∧ exec (.capxMismatch l (some body)) s = .next s ∧
      exec (.capxMismatch l none) s = .next s := by
    subst h
    cases hk : s.chainOf l with
    | none => exact ⟨(exec_capx_off_chain hk body none).1, (exec_capx_off_chain hk body _).2, (exec_capx_off_chain hk body none).2⟩
    | some k =>
      rw [exec_capxMatch_on hk, exec_capxMismatch_block hk, exec_capxMismatch_timer hk]
      exact ⟨if_neg fun g => hno g.1, if_neg fun g => hno g.1, if_neg fun g => hno g.1⟩
  simp only [List.mem_cons, List.not_mem_nil, or_false, Prod.mk.injEq] at hc
  rcases hc with ⟨rfl, rfl⟩ | ⟨rfl, rfl⟩ | ⟨rfl, rfl⟩ | ⟨rfl, rfl⟩ | ⟨rfl, rfl⟩ | ⟨rfl, rfl⟩ | ⟨rfl, rfl⟩ | ⟨rfl, h⟩ | ⟨rfl, h⟩ | ⟨rfl, h⟩ |
    ⟨rfl, rfl⟩
  exacts [if_neg fun g => hno g.1, if_neg fun g => hno g.1, if_neg hno, if_neg fun g => hno g.1, if_neg fun g => hno g.1,
    if_neg fun g => hno g.1, if_neg fun g => hno g.1, (hcapx h).1, (hcapx h).2.1, (hcapx h).2.2, if_neg fun g => hno g.1]

end

/-! ### The obligation -/

/-- Settles O35: each event moves its own lane alone, by the equation of the state it ends; a failure is `BringUpFailed`, and before its
timer or in another state the event's guard fails. -/
theorem laneBringUp : Obligations.LaneBringUp := by
  intro s l control status own limit body x others fails tap
  have hin {st : LaneState} (h : s.laneIn l st = true) : x.state = st := beq_iff_eq.mp (Bool.and_eq_true_iff.mp h).2
  have hfails {t : State} (h : BringUpFailed s l t) : fails t := by
    obtain ⟨hlane, hothers, hcount⟩ := h
    exact ⟨by rw [hlane, Lane.detected], by rw [hlane, Lane.detected], by rw [hlane], by rw [hlane, Lane.detected], hcount, hothers⟩
  refine ⟨fun hl hb => if_pos ⟨hl, hb⟩, fun hl hs ht => ⟨_, if_pos ⟨hl, hs, decide_eq_true ht⟩, rfl, s.flag_event _ (by decide),
    fun a ha => s.rd_event_ne _ ha⟩, fun _ hs => if_neg fun h => ?_, fun hl => ?_, exec_trainingEnd_leaves,
    fun hf => if_neg fun h => ?_, fun hl ht => ⟨_, if_pos ⟨hl, decide_eq_true ht⟩, hfails ((s.laneFails_failed l).event _)⟩,
    fun k => exec_lockAchieved_leaves, fun h => if_neg fun h' => ?_,
    fun hl ht => ⟨_, if_pos ⟨hl, decide_eq_true ht⟩, hfails ((s.laneFails_failed l).event _)⟩,
    fun k hk hl hv => ⟨fun hm => ⟨?_, ?_⟩, fun hm => ⟨?_, ?_⟩⟩,
    fun k hk hl ht => ⟨_, (exec_capxMismatch_timer hk).trans (if_pos ⟨hl, decide_eq_true ht⟩),
      hfails (s.capxMismatch_failed (State.chainOf_spec hk).1 l.isLt _)⟩, fun hl hr ht hsk => ?_,
    fun h => if_neg fun h' => ?_, fun hb ht => if_pos ⟨hb, decide_eq_true ht⟩, fun hb => if_neg fun h => ?_, exec_bringUp_early,
    exec_bringUp_elsewhere control status own limit body⟩
  · exact ne_true_of_eq_false h.2.1 hs
  · obtain ⟨symbols, g, hlen, hframe⟩ := s.trainingFrame_eq l control.toNat status.toNat limit.toNat own.toNat
    obtain ⟨hlanes, hout⟩ := s.tapRequest_keeps l control.toNat limit.toNat
    refine ⟨_, (s.tapRequest l control.toNat limit.toNat).2, symbols, (if_pos hl).trans (congrArg Host.Outcome.next hframe),
      fun m hm => ?_, hlen, congrArg (· ++ [_]) hout, ?_⟩
    · rw [State.lane_emit, State.lane_setLane_ne _ _ _ _ hm, State.lane_draw, State.lane_congr hlanes]
    · rw [State.lane_emit, State.lane_setLane]
      exact ⟨rfl, rfl, rfl, rfl, rfl, hin hl, tapRequest_steps s l limit.toNat, s.tapRequest_preset l limit.toNat⟩
  · exact Nat.not_le.mpr hf h.2
  · rcases h with h | h
    · exact ne_true_of_eq_false h h'.2.1
    · exact ne_true_of_eq_false h h'.2.2
  · exact (exec_capxMismatch_block hk body).trans (if_neg (by simp [hm]))
  · refine ⟨_, (exec_capxMatch_on hk body).trans (if_pos ⟨hl, hv, hm⟩), fun m hne => ?_, ?_, ?_⟩
    · rw [State.lane_setChainL, State.lane_setLane_ne _ _ _ _ hne]
    · rw [State.lane_setChainL, State.lane_setLane]
    · rw [State.chainL_setChainL]
  · exact (exec_capxMatch_on hk body).trans (if_neg (by simp [hm]))
  · exact ⟨_, (exec_capxMismatch_block hk body).trans (if_pos ⟨hl, by simp [hv, hm]⟩),
      hfails (s.capxMismatch_failed (State.chainOf_spec hk).1 l.isLt _)⟩
  · exact ⟨_, if_pos ⟨hl, hr, decide_eq_true ht, hsk⟩, s.laneReady_leaves l⟩
  · rcases h with h | h
    · exact ne_true_of_eq_false h'.2.1 h
    · exact absurd h'.2.2.2 (by omega)
  · exact ne_true_of_eq_false hb h.1

end Sys2Proof.Machine
end

section
/-! PROOFS. The exchange of masks on a chain: formation, rejoin, COMMIT and the switches of its directions (R192, R197, R200, R202,
R204). -/
namespace Sys2Proof.Machine

/-! ### Formation and rejoin announced (R197, R202, R204) -/

/-- A chain whose formation window has ended. -/
def State.windowEnded (s : State) (k : Nat) : State := s.setChainL k { s.chainL k with window := false, windowOver := true }

theorem State.windowEnded_chainL (s : State) (k : Nat) :
    (s.windowEnded k).chainL k = { s.chainL k with window := false, windowOver := true } := State.chainL_setChainL ..

/-- The end of the window makes no lane ready. -/
theorem State.windowEnded_readyMask (s : State) (k : Nat) : (s.windowEnded k).readyMask k = s.readyMask k := by
  rw [State.readyMask, State.windowEnded_chainL]
  rfl

/-- Once its window has ended, a chain without an exchange may form with MINW lanes ready. -/
theorem State.windowEnded_mayForm {s : State} {k : Nat} : (s.windowEnded k).mayForm k = true ↔
    (s.chainL k).rejoin = .none ∧ (s.chainL k).minw ≤ popcount 16 (s.readyMask k) := by
  simp [State.mayForm, State.windowEnded_chainL, State.windowEnded_readyMask]

/-- An ANNOUNCE leaves its exchange on the chain, which forms or stays as it was. -/
theorem State.announce_chainL (s : State) (k mask : Nat) (form : Bool) : (s.announce k mask form).chainL k = { s.chainL k with
    rejoin := .announced mask form, tSent := s.now, window := false, windowOver := (s.chainL k).windowOver || form
    state := if form then .forming else (s.chainL k).state } := by
  rw [State.announce, State.sendEpoch, State.chainL_emit, State.chainL_setChainL]

/-- CHAIN_FORMATION on a chain that is off. -/
theorem exec_chainFormation_off {s : State} {k : Fin 16} (w : Bool) (hr : s.lanesRun = true) (he : (s.chainL k).en = true)
    (ho : (s.chainL k).state = .off) : exec (.chainFormation k w) s =
      let u := if (w && (s.chainL k).window && decide ((s.chainL k).windowAt + 31250000 ≤ s.now)) = true then s.windowEnded k else s
      if u.mayForm k = true then .next (u.announce k (u.readyMask k) true) else .next u :=
  if_pos ⟨hr, he, ho⟩

/-- A chain that may form announces its ready lanes, whether its window ends here or not. -/
theorem exec_chainFormation_forms {s : State} {k : Fin 16} (w : Bool) (hr : s.lanesRun = true) (he : (s.chainL k).en = true)
    (ho : (s.chainL k).state = .off) (hf : s.mayForm k = true) : ∃ t, exec (.chainFormation k w) s = .next t ∧
    (t.chainL k).rejoin = .announced (s.readyMask k) true ∧ (t.chainL k).state = .forming := by
  have hended : (s.windowEnded k).mayForm k = true := by
    simp only [State.mayForm, Bool.and_eq_true, beq_iff_eq, decide_eq_true_eq] at hf
    exact State.windowEnded_mayForm.mpr hf.1
  rw [exec_chainFormation_off w hr he ho]
  split
  · refine ⟨_, if_pos hended, ?_⟩
    rw [State.announce_chainL, State.windowEnded_readyMask]
    exact ⟨rfl, rfl⟩
  · refine ⟨_, if_pos hf, ?_⟩
    rw [State.announce_chainL]
    exact ⟨rfl, rfl⟩

/-- A window that ends with fewer than MINW lanes ready is over. -/
theorem exec_chainFormation_window {s : State} {k : Fin 16} (hr : s.lanesRun = true) (he : (s.chainL k).en = true)
    (ho : (s.chainL k).state = .off) (hw : (s.chainL k).window = true) (ht : (s.chainL k).windowAt + 31250000 ≤ s.now)
    (hm : popcount 16 (s.readyMask k) < (s.chainL k).minw) : exec (.chainFormation k true) s = .next (s.windowEnded k) := by
  rw [exec_chainFormation_off true hr he ho]
  simp only [hw, ht, decide_true, Bool.and_true, if_true]
  exact if_neg fun h => Nat.not_le.mpr hm (State.windowEnded_mayForm.mp h).2

/-! ### The ACK and the COMMIT (R202) -/

/-- The switch of the stack's COMMIT, whose switch stripe lies 4,096 stripes on. -/
def ChainLnk.commitSwitch (x : ChainLnk) (mask : Nat) (form : Bool) : Switch :=
  ⟨mask, if form then 0 else (x.txEpoch + 1) % 64, (x.txStripe + 4096) % 4294967296, false, []⟩

/-- A COMMIT leaves its exchange, and a switch of the transmit direction to its mask. -/
theorem State.commit_chainL (s : State) (k mask : Nat) (form : Bool) : (s.commit k mask form).chainL k = { s.chainL k with
    rejoin := .committed mask (s.chainL k).txMask form false, tSent := s.now
    txSwitch := some ((s.chainL k).commitSwitch mask form) } := by
  rw [State.commit, State.sendEpoch, State.chainL_emit, State.chainL_setChainL]
  rfl

/-- A stripe found by its low 16 bits carries them. -/
theorem stripeFrom_low (now : Nat) {low : Nat} (h : low < 65536) : stripeFrom now low % 65536 = low := by
  unfold stripeFrom
  omega

theorem bitsOf_stripe_lt (b : Nat) : bitsOf b 33 18 < 65536 := by
  rw [bitsOf_eq]
  exact Nat.mod_lt _ (by decide)

section
variable {s : State} {k : Fin 16} {a : Nat} {form : Bool} {body : BitVec 56}

/-- An ACK received while an exchange is announced. -/
theorem exec_rejoinAckReceived_announced (hr : s.lanesRun = true) (ha : (s.chainL k).rejoin = .announced a form) :
    exec (.rejoinAckReceived k body) s =
      if epochValid 2 body.toNat = false then .next s
      else if bitsOf body.toNat 55 40 &&& a = bitsOf body.toNat 55 40 ∧
          bitsOf body.toNat 55 40 &&& (s.chainL k).txMask = (s.chainL k).txMask ∧ bitsOf body.toNat 55 40 ≠ (s.chainL k).txMask ∧
          (form = false ∨ (s.chainL k).minw ≤ popcount 16 (bitsOf body.toNat 55 40)) then
        .next (s.commit k (bitsOf body.toNat 55 40) form)
      else .next (s.lapse k) := by
  change execRejoinAckReceived k body s = _
  simp only [execRejoinAckReceived, ha, hr, Bool.true_eq_false, false_or]

theorem exec_rejoinLapsed_announced (ha : (s.chainL k).rejoin = .announced a form) : exec (.rejoinLapsed k) s =
    if (s.chainL k).tSent + 3125 < s.now then .next (s.lapse k) else .next s := by
  change execRejoinLapsed k s = _
  simp only [execRejoinLapsed, ha]

/-- A COMMIT of the partner received while the stack's own is out. -/
theorem exec_partnerCommitReceived_committed {m old : Nat} (hr : s.lanesRun = true) (hc : (s.chainL k).rejoin = .committed m old form false) :
    exec (.partnerCommitReceived k body) s =
      if epochValid 3 body.toNat = true ∧ m = bitsOf body.toNat 55 40 then
        .next (s.setChainL k { s.chainL k with
          rejoin := .committed m old form true
          rxSwitch := some (Switch.after ⟨m, bitsOf body.toNat 39 34, stripeFrom (s.chainL k).rxStripe (bitsOf body.toNat 33 18), false, []⟩
            (s.chainL k).rxSwitch) })
      else .next s := by
  change execPartnerCommitReceived k body s = _
  simp only [execPartnerCommitReceived, hc, hr, and_true]

/-- The time of the partner's COMMIT ends while the stack's own is out. -/
theorem exec_partnerCommitTimeout_committed {m old : Nat} (hr : s.lanesRun = true) (hc : (s.chainL k).rejoin = .committed m old form false) :
    exec (.partnerCommitTimeout k) s =
      if (s.chainL k).tSent + 3125 < s.now then .next (s.commitTimeout k old form) else .next s := by
  change execPartnerCommitTimeout k s = _
  simp only [execPartnerCommitTimeout, hc, hr, true_and]

end

/-- What a pending DROP does to the switch of a COMMIT: its mask narrows it, and it is a DROP. -/
theorem Switch.after_drop (w : Switch) {p : Switch} (h : p.drop = true) :
    (w.after (some p)).mask = w.mask &&& p.mask ∧ (w.after (some p)).drop = true := by
  simp [Switch.after, h]

/-- The epoch of a COMMIT's switch is the one it carries. -/
theorem Switch.after_epoch (w : Switch) (p : Option Switch) : (w.after p).epoch = w.epoch := by
  unfold Switch.after
  split
  · split <;> rfl
  · rfl

/-- Without a DROP pending the switch of a COMMIT stands as it is. -/
theorem Switch.after_of_no_drop (w : Switch) {p : Option Switch} (h : ∀ q ∈ p, q.drop = false) : w.after p = w := by
  unfold Switch.after
  split
  · next q => rw [if_neg (by simp [h q rfl])]
  · rfl

/-- A formation whose COMMIT is not answered is given up. -/
theorem State.commitTimeout_form (s : State) (k old : Nat) :
    (s.commitTimeout k old true).chainL k = { (s.chainL k).idle with windowOver := true } := by
  rw [State.commitTimeout, if_pos rfl, State.formFails_chainL, State.sendEpoch, State.chainL_emit]

/-- A rejoin whose COMMIT is not answered gives way to a DROP to the mask before it, less the lanes that a pending switch takes out. -/
theorem State.commitTimeout_rejoin (s : State) (k old : Nat) : ∃ lanes, s.commitTimeout k old false =
    (s.setChainL k { s.chainL k with rejoin := .none }).dropTo k (old &&& (s.chainL k).txTarget) lanes :=
  ⟨_, rfl⟩

/-- With MINW lanes left that DROP is pending. -/
theorem State.commitTimeout_pending {s : State} {k old : Nat} (h : (s.chainL k).minw ≤ popcount 16 (old &&& (s.chainL k).txTarget)) :
    ∃ sw, (s.commitTimeout k old false).chainL k = { s.chainL k with rejoin := .none, txSwitch := some sw } ∧
      sw.mask = old &&& (s.chainL k).txTarget ∧ sw.drop = true := by
  obtain ⟨lanes, htimeout⟩ := s.commitTimeout_rejoin k old
  have hu := State.chainL_setChainL s k { s.chainL k with rejoin := .none }
  rw [htimeout, State.dropTo_adds (congrArg ChainLnk.rejoin hu) (by rwa [hu]), hu]
  exact ⟨_, rfl, rfl, rfl⟩

/-- With fewer the chain is off. -/
theorem State.commitTimeout_falls {s : State} {k old : Nat} (h : popcount 16 (old &&& (s.chainL k).txTarget) < (s.chainL k).minw) :
    ((s.commitTimeout k old false).chainL k).state = .off ∧ ((s.commitTimeout k old false).chainL k).rejoin = .none := by
  obtain ⟨lanes, htimeout⟩ := s.commitTimeout_rejoin k old
  have hu := State.chainL_setChainL s k { s.chainL k with rejoin := .none }
  rw [htimeout, State.dropTo_ends (congrArg ChainLnk.rejoin hu) (by rwa [hu])]
  exact ⟨rfl, rfl⟩

/-! ### Switches (R192, R199, R200) -/

/-- What the end of an exchange leaves of its chain: masks, epochs, stripes and switches. -/
theorem State.exchangeDone_chainL (s : State) (k : Nat) : ∃ st r t d o, (s.exchangeDone k).chainL k = { s.chainL k with
    state := st, rejoin := r, tUp := t, discard := d, holdOff := o } ∧ ((s.chainL k).discard = false → d = false) := by
  unfold State.exchangeDone
  dsimp only
  split
  · split
    · split
      · refine ⟨.up, .none, s.now, false, false, ?_, fun _ => rfl⟩
        rw [State.chainFormed, State.chainL_linkChanged, State.chainL_alert, State.chainL_event, State.chainL_setChainP,
          State.chainL_setChainL]
      · refine ⟨(s.chainL k).state, .none, (s.chainL k).tUp, (s.chainL k).discard, (s.chainL k).holdOff, ?_, id⟩
        rw [State.chainL_linkChanged, State.chainL_alert, State.chainL_setChainL]
    · exact ⟨_, _, _, _, _, rfl, id⟩
  · exact ⟨_, _, _, _, _, rfl, id⟩

/-- A formation of which both directions have switched is over: the chain is UP. -/
theorem State.exchangeDone_forms {s : State} {k m old : Nat} (hc : (s.chainL k).rejoin = .committed m old true true)
    (ht : (s.chainL k).txSwitch = none) (hr : (s.chainL k).rxSwitch = none) : ((s.exchangeDone k).chainL k).state = .up := by
  simp [State.exchangeDone, hc, ht, hr, State.chainFormed]

/-- The stripe with which a direction goes on at a switch: the later one, and 0 where a chain forms. -/
def ChainLnk.stripeAt (x : ChainLnk) (mask now : Nat) (w : Switch) : Nat :=
  if x.state == .forming && mask == 0 then 0 else laterStripe w.stripe now

/-- A chain whose transmit direction is on its new mask: the blocks placed behind the switch stripe stay where they are. -/
def ChainLnk.txSwitched (x : ChainLnk) (w : Switch) : ChainLnk :=
  let past := decide ((x.txStripe + 4294967296 - w.stripe) % 4294967296 < 2147483648)
  { x with
    txMask := w.mask, txEpoch := w.epoch, txStripe := x.stripeAt x.txMask x.txStripe w
    txPos := if past && !(x.state == .forming && x.txMask == 0) then x.txPos else 0, txSwitch := none }

/-- The transmit direction is on its new mask before the exchange ends; lanes that join and leave do not change the chain. -/
theorem State.switchTx_eq (s : State) (k : Nat) (w : Switch) : ∃ u : State, s.switchTx k w = u.exchangeDone k ∧
    u.chainL k = (s.chainL k).txSwitched w := by
  refine ⟨_, rfl, ?_⟩
  rw [apply_ite (fun t : State => t.chainL k), State.chainL_linkChanged, ite_self, State.chainL_foldl fun t e => by simp,
    State.chainL_foldl fun t l => by simp, apply_ite (fun t : State => t.chainL k), State.chainL_satInc, ite_self, State.chainL_setChainL]
  simp [ChainLnk.txSwitched, ChainLnk.stripeAt, laterStripe]

/-- The receive direction on its new mask, before the exchange ends. -/
theorem State.switchRx_eq (s : State) (k : Nat) (w : Switch) : ∃ u : State, s.switchRx k w = u.exchangeDone k ∧ u.chainL k = { s.chainL k with
    rxMask := w.mask, rxEpoch := w.epoch, rxStripe := (s.chainL k).stripeAt (s.chainL k).rxMask (s.chainL k).rxStripe w, rxSwitch := none
    discard := (s.chainL k).discard && !w.drop } := by
  refine ⟨_, rfl, ?_⟩
  dsimp only
  split <;> split <;> simp [ChainLnk.stripeAt, *]

/-- EPOCH_SWITCH of the transmit direction: masks, epochs and stripes as the end of the exchange leaves them, and the chain UP where
it ends a formation. -/
theorem exec_epochSwitch_tx {s : State} {k : Fin 16} {sw : Switch} (hr : s.lanesRun = true) (h : (s.chainL k).txSwitch = some sw) :
    ∃ t, exec (.epochSwitch k true) s = .next t ∧ (t.chainL k).txMask = sw.mask ∧ (t.chainL k).txEpoch = sw.epoch ∧
      (t.chainL k).txSwitch = none ∧
      (t.chainL k).txStripe = (s.chainL k).stripeAt (s.chainL k).txMask (s.chainL k).txStripe sw ∧
      ∀ m old, (s.chainL k).rejoin = .committed m old true true → (s.chainL k).rxSwitch = none → (t.chainL k).state = .up := by
  obtain ⟨u, hu, hx⟩ := s.switchTx_eq k sw
  obtain ⟨st, r, tu, d, o, hdone, -⟩ := u.exchangeDone_chainL k
  refine ⟨u.exchangeDone k, ?_, ?_⟩
  · change execEpochSwitch k true s = _
    simp only [execEpochSwitch, hr, h, Bool.true_eq_false, if_false, hu]
  · have hup : ∀ m old, (s.chainL k).rejoin = .committed m old true true → (s.chainL k).rxSwitch = none →
        ((u.exchangeDone k).chainL k).state = .up := fun m old hc hrx =>
      State.exchangeDone_forms (by rw [hx]; exact hc) (by rw [hx]; rfl) (by rw [hx]; exact hrx)
    refine ⟨?_, ?_, ?_, ?_, hup⟩ <;> rw [hdone, hx] <;> rfl

/-- EPOCH_SWITCH of the receive direction; behind a DROP nothing more is discarded. -/
theorem exec_epochSwitch_rx {s : State} {k : Fin 16} {sw : Switch} (hr : s.lanesRun = true) (h : (s.chainL k).rxSwitch = some sw) :
    ∃ t, exec (.epochSwitch k false) s = .next t ∧ (t.chainL k).rxMask = sw.mask ∧ (t.chainL k).rxEpoch = sw.epoch ∧
      (t.chainL k).rxSwitch = none ∧
      (t.chainL k).rxStripe = (s.chainL k).stripeAt (s.chainL k).rxMask (s.chainL k).rxStripe sw ∧
      (sw.drop = true → (t.chainL k).discard = false) ∧
      ∀ m old, (s.chainL k).rejoin = .committed m old true true → (s.chainL k).txSwitch = none → (t.chainL k).state = .up := by
  obtain ⟨u, hu, hx⟩ := s.switchRx_eq k sw
  obtain ⟨st, r, tu, d, o, hdone, hd⟩ := u.exchangeDone_chainL k
  refine ⟨u.exchangeDone k, ?_, ?_⟩
  · change execEpochSwitch k false s = _
    simp only [execEpochSwitch, hr, h, Bool.true_eq_false, if_false, hu]
  · have hup : ∀ m old, (s.chainL k).rejoin = .committed m old true true → (s.chainL k).txSwitch = none →
        ((u.exchangeDone k).chainL k).state = .up := fun m old hc htx =>
      State.exchangeDone_forms (by rw [hx]; exact hc) (by rw [hx]; exact htx) (by rw [hx])
    have hdrop (hw : sw.drop = true) : ((u.exchangeDone k).chainL k).discard = false := by
      rw [hdone]
      exact hd (by rw [hx, hw, Bool.not_true, Bool.and_false])
    refine ⟨?_, ?_, ?_, ?_, hdrop, hup⟩ <;> rw [hdone, hx]

/-- A direction without a switch pending switches nothing. -/
theorem exec_epochSwitch_none {s : State} {k : Fin 16} {tx : Bool}
    (h : (if tx then (s.chainL k).txSwitch else (s.chainL k).rxSwitch) = none) : exec (.epochSwitch k tx) s = .next s := by
  change execEpochSwitch k tx s = _
  cases tx <;> simp_all [execEpochSwitch]

/-! ### The obligation -/

/-- Settles O36: an exchange that begins, is answered or lapses leaves its chain by one equation each, and a switch leaves that of its
direction behind the end of the exchange. -/
theorem chainExchange : Obligations.ChainExchange := by
  intro s k w tx body hr x b mask forms
  refine ⟨exec_chainFormation_forms w hr, exec_chainFormation_window hr, fun h => if_neg fun h' => ?_, fun h => ⟨_, if_pos h, ?_⟩,
    fun h => if_neg fun h' => ?_, fun a form ha => ⟨fun hv hsub hold hne hmin => ?_, fun hv h => ?_, fun hv => ?_, fun ht => ?_, fun ht => ?_⟩,
    fun m old form hc => ⟨fun hv hm => ?_, fun h => ?_, fun hf ht => ?_, fun hf ht hm => ?_, fun hf ht hm => ?_, fun ht => ?_⟩,
    fun sw hsw => ?_, exec_epochSwitch_none⟩
  · rcases h with h | h
    · exact ne_true_of_eq_false h h'.2.1
    · exact h h'.2.2
  · rw [State.announce_chainL]
    exact ⟨rfl, rfl, rfl, rfl⟩
  · exact ne_true_of_eq_false h h'
  · refine ⟨_, x.commitSwitch mask form, (exec_rejoinAckReceived_announced hr ha).trans ((if_neg (ne_false_of_eq_true hv)).trans
      (if_pos ⟨hsub, hold, hne, hmin⟩)), ?_⟩
    rw [State.commit_chainL]
    exact ⟨rfl, rfl, rfl, rfl, rfl, rfl⟩
  · refine ⟨_, (exec_rejoinAckReceived_announced hr ha).trans ((if_neg (ne_false_of_eq_true hv)).trans (if_neg ?_)), ?_⟩
    · rintro ⟨hsub, hold, hne, hmin⟩
      rcases h with h | h | h | ⟨hf, h⟩
      · exact h hsub
      · exact h hold
      · exact hne h
      · exact hmin.elim (fun hmin => ne_true_of_eq_false hmin hf) (Nat.not_le.mpr h)
    · rw [State.lapse_chainL]
      exact ⟨rfl, rfl⟩
  · exact (exec_rejoinAckReceived_announced hr ha).trans (if_pos hv)
  · refine ⟨_, (exec_rejoinLapsed_announced ha).trans (if_pos ht), ?_⟩
    rw [State.lapse_chainL]
    exact ⟨rfl, rfl, rfl⟩
  · exact (exec_rejoinLapsed_announced ha).trans (if_neg (Nat.not_lt.mpr ht))
  · refine ⟨_, _, (exec_partnerCommitReceived_committed hr hc).trans (if_pos ⟨hv, hm⟩), rfl, Switch.after_epoch .., fun hp => ?_,
      fun p hp hd => ?_⟩
    · rw [Switch.after_of_no_drop _ hp]
      exact ⟨rfl, rfl, stripeFrom_low _ (bitsOf_stripe_lt _)⟩
    · rw [Option.mem_def.mp hp]
      exact Switch.after_drop _ hd
  · refine (exec_partnerCommitReceived_committed hr hc).trans (if_neg ?_)
    rintro ⟨hv, hm⟩
    exact h.elim (fun h => ne_true_of_eq_false h hv) (fun h => h hm)
  · subst hf
    refine ⟨_, (exec_partnerCommitTimeout_committed hr hc).trans (if_pos ht), ?_⟩
    rw [State.commitTimeout_form]
    exact ⟨rfl, rfl, rfl⟩
  · subst hf
    obtain ⟨sw, hchain, hmask, hdrop⟩ := State.commitTimeout_pending hm
    refine ⟨_, sw, (exec_partnerCommitTimeout_committed hr hc).trans (if_pos ht), ?_⟩
    rw [hchain]
    exact ⟨rfl, rfl, hmask, hdrop⟩
  · subst hf
    exact ⟨_, (exec_partnerCommitTimeout_committed hr hc).trans (if_pos ht), State.commitTimeout_falls hm⟩
  · exact (exec_partnerCommitTimeout_committed hr hc).trans (if_neg (Nat.not_lt.mpr ht))
  · cases tx with
    | true =>
      obtain ⟨t, hexec, hmask, hepoch, hsw, hstripe, hup⟩ := exec_epochSwitch_tx hr hsw
      exact ⟨t, hexec, ⟨hmask, hepoch, hsw, hstripe⟩, hup⟩
    | false =>
      obtain ⟨t, hexec, hmask, hepoch, hsw, hstripe, hdrop, hup⟩ := exec_epochSwitch_rx hr hsw
      exact ⟨t, hexec, ⟨hmask, hepoch, hsw, hstripe, hdrop⟩, hup⟩

end Sys2Proof.Machine
end

section
/-! PROOFS. Lanes lost and DROPs received, codewords, and the blocks of a column (R184, R185, R187 to R189, R193, R198 to R203, R211). -/
namespace Sys2Proof.Machine

/-! ### 64-bit counters (R496) -/

/-- A 64-bit counter raised reads its old value raised, modulo 2^64. -/
theorem State.rd64_inc64 (s : State) (a n : Nat) : (s.inc64 a n).rd64 a = (s.rd64 a + n) % 2 ^ 64 := by
  have ha : a ≠ a + 4 := by omega
  simp only [State.inc64, State.wr64, State.wrN]
  generalize s.rd64 a + n = m
  simp only [State.rd64, State.rdN, State.rd_wr_same, State.rd_wr_ne _ _ _ _ ha, BitVec.toNat_ofNat]
  omega

/-- A 64-bit counter whose two words are not written reads what it read. -/
theorem State.rd64_of_rd {s t : State} {a : Nat} (h : t.rd a = s.rd a) (h4 : t.rd (a + 4) = s.rd (a + 4)) : t.rd64 a = s.rd64 a := by
  rw [State.rd64, State.rdN, State.rdN, h, h4]
  rfl

theorem State.rd64_inc64_ne (s : State) {a b : Nat} (n : Nat) (h : b + 4 < a ∨ a + 4 < b) : (s.inc64 a n).rd64 b = s.rd64 b :=
  State.rd64_of_rd (State.rd_wr64 _ _ _ _ (by omega) (by omega)) (State.rd_wr64 _ _ _ _ (by omega) (by omega))

theorem State.rd64_satInc_ne (s : State) {a b : Nat} (n : Nat) (h : b ≠ a) (h4 : b + 4 ≠ a) : (s.satInc a n).rd64 b = s.rd64 b :=
  State.rd64_of_rd (State.rd_wr_ne _ _ _ _ h) (State.rd_wr_ne _ _ _ _ h4)

theorem State.rdN_inc64_ne (s : State) {a b : Nat} (n : Nat) (h : b ≠ a) (h4 : b ≠ a + 4) : (s.inc64 a n).rdN b = s.rdN b :=
  congrArg BitVec.toNat (State.rd_wr64 _ _ _ _ h h4)

theorem State.rdN_setLane (s : State) (l : Nat) (x : Lane) (a : Nat) : (s.setLane l x).rdN a = s.rdN a := rfl

theorem State.rd64_setLane (s : State) (l : Nat) (x : Lane) (a : Nat) : (s.setLane l x).rd64 a = s.rd64 a := rfl

theorem State.rd64_lt (s : State) (a : Nat) : s.rd64 a < 2 ^ 64 := by
  have h := (s.rd a).isLt
  have h4 := (s.rd (a + 4)).isLt
  simp only [State.rd64, State.rdN]
  omega

/-! ### DROPs received (R198 to R200) -/

/-- The mask that a DROP received leaves of the mask the transmit direction ends on. -/
def ChainLnk.agreed (x : ChainLnk) (mask : Nat) : Nat :=
  x.maskBy (fun l => bitOf x.txTarget (x.laneList.idxOf l) && bitOf mask (x.laneList.idxOf l))

/-- Bit i of a MASK stands for the i-th lane (R187). -/
theorem ChainLnk.bitOf_maskBy {x : ChainLnk} {p : Nat → Bool} {i l : Nat} (h : x.laneList[i]? = some l) :
    bitOf (x.maskBy p) i = true → p l = true := by
  simp only [ChainLnk.maskBy, bitOf_maskOf, decide_eq_true_eq, List.mem_filterMap, Prod.exists, Option.ite_none_right_eq_some]
  rintro ⟨i', l', hl', hp, hi⟩
  cases hi
  rw [ChainLnk.mem_numbered, h] at hl'
  cases hl'
  exact hp

/-- A DROP that names every lane of that mask leaves none of them out. -/
theorem ChainLnk.none_left {x : ChainLnk} {mask : Nat} (h : x.agreed mask = x.txTarget) :
    (x.lanesIn x.txTarget).filter (fun l => !bitOf mask (x.laneList.idxOf l)) = [] := by
  refine List.filter_eq_nil_iff.mpr fun l hl => ?_
  simp only [ChainLnk.lanesIn, List.mem_filterMap, Prod.exists, ChainLnk.mem_numbered, Option.ite_none_right_eq_some] at hl
  obtain ⟨i, l', hi, hbit, hl⟩ := hl
  cases hl
  rw [← h] at hbit
  have hboth := ChainLnk.bitOf_maskBy hi hbit
  simp only [Bool.and_eq_true] at hboth
  simp [hboth.2]

section
variable {s : State} {k mask epoch stripe : Nat}

/-- The switch of the receive direction that a DROP brings by itself. -/
def ChainLnk.rxDrop (x : ChainLnk) (mask epoch stripe : Nat) : Switch := ⟨mask, epoch, stripeFrom x.rxStripe stripe, true, []⟩

/-- A DROP that leaves no transmitting lane out moves the receive direction alone. -/
theorem State.dropReceived_agrees (ht : (s.chainL k).txSwitch = none) (h : (s.chainL k).agreed mask = (s.chainL k).txMask) :
    s.dropReceived k mask epoch stripe = s.setChainL k { s.chainL k with rxSwitch := some ((s.chainL k).rxDrop mask epoch stripe) } := by
  have htarget : (s.chainL k).txTarget = (s.chainL k).txMask := by rw [ChainLnk.txTarget, ht]
  have hleft := ChainLnk.none_left (h.trans htarget.symm)
  simp only [State.dropReceived, hleft, ht, List.filter_nil, List.map_nil, List.foldl_nil, List.isEmpty_nil, Bool.not_true, Bool.or_false]
  exact if_pos (h.trans htarget.symm)

/-- A DROP that leaves transmitting lanes out, with no switch of the stack's own pending, brings a DROP of the transmit direction to the
lanes that both name. -/
theorem State.dropReceived_answers (ht : (s.chainL k).txSwitch = none) (hr : (s.chainL k).rejoin = .none)
    (h : (s.chainL k).agreed mask ≠ (s.chainL k).txMask) (hw : (s.chainL k).minw ≤ popcount 16 ((s.chainL k).agreed mask)) :
    ∃ sw d, (s.dropReceived k mask epoch stripe).chainL k = { s.chainL k with
      txSwitch := some sw, rxSwitch := some ((s.chainL k).rxDrop mask epoch stripe), discard := d } ∧
      sw.mask = (s.chainL k).agreed mask ∧ sw.drop = true := by
  have htarget : (s.chainL k).txTarget = (s.chainL k).txMask := by rw [ChainLnk.txTarget, ht]
  obtain ⟨u, lanes, d, hu⟩ : ∃ (u : State) (lanes : List (Nat × Nat)) (d : Bool), s.dropReceived k mask epoch stripe =
      (u.setChainL k { s.chainL k with rxSwitch := some ((s.chainL k).rxDrop mask epoch stripe), discard := d }).dropTo k
        ((s.chainL k).agreed mask) lanes := by
    simp only [State.dropReceived, ht]
    exact ⟨_, _, _, if_neg fun hn => h (hn.trans htarget)⟩
  rw [hu, State.dropTo_adds (by rw [State.chainL_setChainL]; exact hr) (by rw [State.chainL_setChainL]; exact hw),
    State.chainL_setChainL]
  exact ⟨_, _, rfl, rfl, rfl⟩

/-- A DROP received while one of the stack's own is pending: both directions drop to the lanes that both name, at one stripe. -/
theorem State.dropReceived_merges {own : Switch} (ht : (s.chainL k).txSwitch = some own) (hd : own.drop = true)
    (hr : (s.chainL k).rejoin = .none) (hw : (s.chainL k).minw ≤ popcount 16 ((s.chainL k).agreed mask)) :
    ∃ tx rx, ((s.dropReceived k mask epoch stripe).chainL k).txSwitch = some tx ∧
      ((s.dropReceived k mask epoch stripe).chainL k).rxSwitch = some rx ∧ tx.mask = (s.chainL k).agreed mask ∧
      rx.mask = (s.chainL k).agreed mask ∧ rx.stripe = tx.stripe ∧ tx.drop = true ∧ rx.drop = true := by
  simp only [State.dropReceived, ht, hd, if_true]
  rw [← ChainLnk.agreed, if_neg (Nat.not_lt.mpr hw), State.giveWay_none (by rw [State.chainL_event, State.chainL_setChainL]; exact hr),
    State.chainL_event, State.chainL_setChainL]
  exact ⟨_, _, rfl, rfl, rfl, rfl, rfl, rfl, rfl⟩

end

/-! ### Codewords (R184, R185, R188, R193, R211) -/

/-- Two lanes that differ in the time of their skew at most. -/
def Lane.SkewOnly (x y : Lane) : Prop := y = { x with skewAt := y.skewAt }

theorem Lane.SkewOnly.refl (x : Lane) : x.SkewOnly x := rfl

theorem Lane.SkewOnly.trans {x y z : Lane} (h : x.SkewOnly y) (g : y.SkewOnly z) : x.SkewOnly z := by
  rw [Lane.SkewOnly] at h g ⊢
  rw [g, h]

/-- The skews held against their limit move nothing but the times of the skews. -/
theorem State.skewCheck_leaves (s : State) (k : Nat) : (s.skewCheck k).regs = s.regs ∧ (s.skewCheck k).chains = s.chains ∧
    ∀ l, (s.lane l).SkewOnly ((s.skewCheck k).lane l) := by
  have hstep (t : State) (l : Nat) (a : Option Nat) (m : Nat) : (t.lane m).SkewOnly ((t.setLane l { t.lane l with skewAt := a }).lane m) := by
    by_cases h : m = l
    · rw [h, State.lane_setLane]
      rfl
    · rw [State.lane_setLane_ne _ _ _ _ h]
      exact .refl _
  refine ⟨foldl_keeps State.regs _ _ _ fun t l => ?_, foldl_keeps State.chains _ _ _ fun t l => ?_, fun m => ?_⟩
  · rfl
  · rfl
  · exact List.foldlRecOn (motive := fun t : State => (s.lane m).SkewOnly (t.lane m)) _ _ (.refl _) fun t ih l _ => ih.trans (hstep t l _ m)

/-- What the count of a codeword leaves: the chains, of the other lanes all but the time of their skew, and the counters that its outcome
raises. -/
structure CodewordCounted (s : State) (l : Nat) (corrected : Option Nat) (u : State) : Prop where
  chains : u.chains = s.chains
  others : ∀ m, m ≠ l → (s.lane m).SkewOnly (u.lane m)
  total : u.rd64 (Reg.LNK_L_CW l) = (s.rd64 (Reg.LNK_L_CW l) + 1) % 2 ^ 64
  lost : corrected = none → (u.lane l).uncRun = (s.lane l).uncRun + 1 ∧
    u.rd64 (Reg.LNK_L_CW_UNC l) = (s.rd64 (Reg.LNK_L_CW_UNC l) + 1) % 2 ^ 64 ∧
    u.rdN (Reg.LNK_L_DISCARD l) = sat32 (s.rdN (Reg.LNK_L_DISCARD l)) 80
  kept : ∀ n, corrected = some n → (u.lane l).uncRun = 0 ∧
    u.rd64 (Reg.LNK_L_CW_CORR l) = (s.rd64 (Reg.LNK_L_CW_CORR l) + (if n = 0 then 0 else 1)) % 2 ^ 64 ∧
    u.rd64 (Reg.LNK_L_SYM_CORR l) = (s.rd64 (Reg.LNK_L_SYM_CORR l) + n) % 2 ^ 64

/-- A codeword that cannot be corrected: its blocks are discarded. -/
theorem State.codeword_none (s : State) (k l scr : Nat) (blocks : List RxBlock) (offs : Nat) : ∃ y : Lane,
    y.uncRun = (s.lane l).uncRun + 1 ∧ s.codeword k l scr none blocks offs =
      (((s.inc64 (Reg.LNK_L_CW l)).setLane l y).inc64 (Reg.LNK_L_CW_UNC l)).satInc (Reg.LNK_L_DISCARD l) 80 :=
  ⟨_, rfl, rfl⟩

/-- What the count of an uncorrectable codeword leaves. -/
theorem State.codeword_lost (s : State) (k l scr : Nat) (blocks : List RxBlock) (offs : Nat) :
    CodewordCounted s l none (s.codeword k l scr none blocks offs) := by
  obtain ⟨y, hy, hu⟩ := s.codeword_none k l scr blocks offs
  rw [hu]
  have hcw : Reg.LNK_L_CW l = 0x100010 + l * 0x400 := rfl
  have hunc : Reg.LNK_L_CW_UNC l = 0x100028 + l * 0x400 := rfl
  have hdis : Reg.LNK_L_DISCARD l = 0x100030 + l * 0x400 := rfl
  refine ⟨by simp, fun m hm => ?_, ?_, fun _ => ⟨?_, ?_, ?_⟩, fun n h => nomatch h⟩
  · rw [State.lane_satInc, State.lane_inc64, State.lane_setLane_ne _ _ _ _ hm, State.lane_inc64]
    exact .refl _
  · rw [State.rd64_satInc_ne _ _ (by omega) (by omega), State.rd64_inc64_ne _ _ (by omega), State.rd64_setLane, State.rd64_inc64]
  · rw [State.lane_satInc, State.lane_inc64, State.lane_setLane, hy]
  · rw [State.rd64_satInc_ne _ _ (by omega) (by omega), State.rd64_inc64, State.rd64_setLane, State.rd64_inc64_ne _ _ (by omega)]
  · rw [State.rdN_satInc, State.rdN_inc64_ne _ _ (by omega) (by omega), State.rdN_setLane, State.rdN_inc64_ne _ _ (by omega) (by omega)]

/-- A lane whose run of uncorrectable codewords is over; of the other lanes only the time of their skew may have moved. -/
structure Marked (s : State) (l : Nat) (t : State) : Prop where
  regs : t.regs = s.regs
  chains : t.chains = s.chains
  uncRun : (t.lane l).uncRun = 0
  others : ∀ m, m ≠ l → (s.lane m).SkewOnly (t.lane m)

theorem Marked.of_setLane (s : State) (l : Nat) {y : Lane} (hy : y.uncRun = 0) : Marked s l (s.setLane l y) where
  regs := rfl
  chains := rfl
  uncRun := by rw [State.lane_setLane, hy]
  others m hm := by
    rw [State.lane_setLane_ne _ _ _ _ hm]
    exact .refl _

theorem Marked.setLane {s t : State} {l : Nat} (h : Marked s l t) {y : Lane} (hy : y.uncRun = 0) : Marked s l (t.setLane l y) where
  regs := h.regs
  chains := h.chains
  uncRun := by rw [State.lane_setLane, hy]
  others m hm := by
    rw [State.lane_setLane_ne _ _ _ _ hm]
    exact h.others m hm

theorem Marked.skewCheck {s t : State} {l : Nat} (h : Marked s l t) (k : Nat) : Marked s l (t.skewCheck k) := by
  obtain ⟨hregs, hchains, hlanes⟩ := t.skewCheck_leaves k
  refine ⟨hregs.trans h.regs, hchains.trans h.chains, ?_, fun m hm => (h.others m hm).trans (hlanes m)⟩
  rw [hlanes l]
  exact h.uncRun

theorem Marked.ite {p : Prop} [Decidable p] {s t u : State} {l : Nat} (ht : Marked s l t) (hu : Marked s l u) :
    Marked s l (if p then t else u) := by
  split
  · exact ht
  · exact hu

/-- The counters of a codeword in which `n` symbols were corrected. -/
def State.correctedCounts (s : State) (l n : Nat) : State :=
  if n = 0 then s.inc64 (Reg.LNK_L_CW l) else ((s.inc64 (Reg.LNK_L_CW l)).inc64 (Reg.LNK_L_CW_CORR l)).inc64 (Reg.LNK_L_SYM_CORR l) n

/-- The counters of LNK_L_CW, LNK_L_CW_CORR and LNK_L_SYM_CORR after it. -/
theorem State.correctedCounts_reads (s : State) (l n : Nat) :
    (s.correctedCounts l n).rd64 (Reg.LNK_L_CW l) = (s.rd64 (Reg.LNK_L_CW l) + 1) % 2 ^ 64 ∧
    (s.correctedCounts l n).rd64 (Reg.LNK_L_CW_CORR l) = (s.rd64 (Reg.LNK_L_CW_CORR l) + (if n = 0 then 0 else 1)) % 2 ^ 64 ∧
    (s.correctedCounts l n).rd64 (Reg.LNK_L_SYM_CORR l) = (s.rd64 (Reg.LNK_L_SYM_CORR l) + n) % 2 ^ 64 := by
  have hcw : Reg.LNK_L_CW l = 0x100010 + l * 0x400 := rfl
  have hcorr : Reg.LNK_L_CW_CORR l = 0x100018 + l * 0x400 := rfl
  have hsym : Reg.LNK_L_SYM_CORR l = 0x100020 + l * 0x400 := rfl
  unfold State.correctedCounts
  by_cases hn : n = 0
  · simp only [hn, if_true, Nat.add_zero]
    refine ⟨s.rd64_inc64 _ _, ?_, ?_⟩
    · rw [State.rd64_inc64_ne _ _ (by omega), Nat.mod_eq_of_lt (s.rd64_lt _)]
    · rw [State.rd64_inc64_ne _ _ (by omega), Nat.mod_eq_of_lt (s.rd64_lt _)]
  · simp only [hn, if_false]
    refine ⟨?_, ?_, ?_⟩
    · rw [State.rd64_inc64_ne _ _ (by omega), State.rd64_inc64_ne _ _ (by omega), State.rd64_inc64]
    · rw [State.rd64_inc64_ne _ _ (by omega), State.rd64_inc64, State.rd64_inc64_ne _ _ (by omega)]
    · rw [State.rd64_inc64, State.rd64_inc64_ne _ _ (by omega), State.rd64_inc64_ne _ _ (by omega)]

theorem State.correctedCounts_keeps (s : State) (l n : Nat) :
    (s.correctedCounts l n).lanes = s.lanes ∧ (s.correctedCounts l n).chains = s.chains := by
  unfold State.correctedCounts
  split <;> simp

/-- A corrected codeword: behind its counts its lane is marked, and the skews are held against their limit. -/
theorem State.codeword_some (s : State) (k l scr n : Nat) (blocks : List RxBlock) (offs : Nat) : ∃ (u : State) (d : Nat),
    s.codeword k l scr (some n) blocks offs = u.satInc (Reg.LNK_L_DISCARD l) d ∧ Marked (s.correctedCounts l n) l u := by
  unfold State.codeword
  dsimp only
  refine ⟨_, _, rfl, ?_⟩
  have hset {y : Lane} (hy : y.uncRun = 0) : Marked (s.correctedCounts l n) l (State.setLane _ l y) := .of_setLane _ l hy
  exact .ite ((Marked.ite ((hset rfl).setLane rfl) (hset rfl)).skewCheck k) (.ite ((hset rfl).setLane rfl) (hset rfl))

/-- What the count of a corrected codeword leaves. -/
theorem State.codeword_kept (s : State) (k l scr n : Nat) (blocks : List RxBlock) (offs : Nat) :
    CodewordCounted s l (some n) (s.codeword k l scr (some n) blocks offs) := by
  obtain ⟨u, d, hu, hm⟩ := s.codeword_some k l scr n blocks offs
  obtain ⟨hcw, hcorr, hsym⟩ := s.correctedCounts_reads l n
  obtain ⟨hlanes, hchains⟩ := s.correctedCounts_keeps l n
  have hreg {a v : Nat} (ha : a + 8 ≤ Reg.LNK_L_DISCARD l) (h : (s.correctedCounts l n).rd64 a = v) :
      (u.satInc (Reg.LNK_L_DISCARD l) d).rd64 a = v := by
    rw [State.rd64_satInc_ne _ _ (by omega) (by omega), ← h]
    exact State.rd64_of_rd (by rw [State.rd, hm.regs]; rfl) (by rw [State.rd, hm.regs]; rfl)
  rw [hu]
  refine ⟨hm.chains.trans hchains, fun m hne => ?_, hreg ?_ hcw, fun h => (nomatch h), fun n' h => ?_⟩
  · rw [State.lane_satInc, ← State.lane_congr hlanes]
    exact hm.others m hne
  · rw [Reg.LNK_L_CW, Reg.LNK_L_DISCARD]
    omega
  · cases h
    refine ⟨hm.uncRun, hreg ?_ hcorr, hreg ?_ hsym⟩
    · rw [Reg.LNK_L_CW_CORR, Reg.LNK_L_DISCARD]
      omega
    · rw [Reg.LNK_L_SYM_CORR, Reg.LNK_L_DISCARD]
      omega

/-- Behind every codeword stand its counts. -/
theorem State.codeword_counted (s : State) (k l scr : Nat) (corrected : Option Nat) (blocks : List RxBlock) (offs : Nat) :
    CodewordCounted s l corrected (s.codeword k l scr corrected blocks offs) := by
  cases corrected with
  | none => exact s.codeword_lost k l scr blocks offs
  | some n => exact s.codeword_kept k l scr n blocks offs

/-! ### Codewords that wait (R193) -/

/-- The lanes a chain waits for are told by its masks and by what the skew of its lanes does not move. -/
theorem State.mem_rxLanes_of_kept {s t : State} {k m : Nat} (hc : t.chainL k = s.chainL k) (hm : (s.lane m).SkewOnly (t.lane m))
    (h : m ∈ s.rxLanes k) : m ∈ t.rxLanes k := by
  simp only [State.rxLanes, hc, List.mem_filter] at h ⊢
  rw [hm]
  exact h

/-- A chain without a receive direction waits for no lane. -/
theorem State.rxLanes_of_none {s : State} {k : Nat} (h : (s.chainL k).rxMask = 0) (hs : (s.chainL k).rxSwitch = none) :
    s.rxLanes k = [] := by
  simp [State.rxLanes, h, hs, ChainLnk.lanesIn, bitOf]

/-- Nothing is destriped while some lane of the chain waits for its codeword. -/
theorem State.destripe_waits {s : State} {k : Fin 16} (h : s.rxLanes k = [] ∨ ∃ m ∈ s.rxLanes k, (s.lane m).rxq = []) (late : BitVec 32)
    (fuel : Nat) : s.destripe k late fuel = s := by
  cases fuel with
  | zero => rfl
  | succ fuel =>
    rw [State.destripe]
    refine if_pos ?_
    rcases h with h | ⟨m, hm, hq⟩
    · rw [h]
      rfl
    · exact Bool.or_eq_true_iff.mpr (.inr (List.any_eq_true.mpr ⟨m, hm, by rw [hq]; rfl⟩))

/-- A codeword that waits stands in its lane's queue. -/
theorem State.queueCodeword_eq (s : State) (k l : Nat) (slots : List (Option RxBlock)) : s.queueCodeword k l slots = s ∨
    ∃ q, s.queueCodeword k l slots = s.setLane l { s.lane l with rxq := q } := by
  unfold State.queueCodeword
  dsimp only
  split
  · split
    · exact .inr ⟨_, rfl⟩
    · exact .inl rfl
  · exact .inl rfl

/-- A codeword queued moves neither registers, chains nor other lanes, and of its own lane the queue alone. -/
theorem State.queueCodeword_counted {s u : State} {l : Nat} {corrected : Option Nat} (h : CodewordCounted s l corrected u) (k : Nat)
    (slots : List (Option RxBlock)) : CodewordCounted s l corrected (u.queueCodeword k l slots) := by
  rcases u.queueCodeword_eq k l slots with hq | ⟨q, hq⟩
  · rw [hq]
    exact h
  · rw [hq]
    refine ⟨h.chains, fun m hm => ?_, h.total, fun hc => ?_, fun n hc => ?_⟩
    · rw [State.lane_setLane_ne _ _ _ _ hm]
      exact h.others m hm
    · obtain ⟨hrun, hregs⟩ := h.lost hc
      exact ⟨by rw [State.lane_setLane]; exact hrun, hregs⟩
    · obtain ⟨hrun, hregs⟩ := h.kept n hc
      exact ⟨by rw [State.lane_setLane]; exact hrun, hregs⟩

/-- A codeword that brings no loss, while the chain waits for another lane's or has no receive direction, is counted and waits. -/
theorem State.takeCodeword_waits {s : State} {c l : Nat} {d : Nat × Option Nat × List RxBlock} {offs : Nat} (late : BitVec 32) (hc : c < 16)
    (hloss : ((s.codeword c l d.1 d.2.1 d.2.2 offs).codewordLoss c l (s.lane l).cwLock).1 = [])
    (hwait : ((s.chainL c).rxMask = 0 ∧ (s.chainL c).rxSwitch = none) ∨ ∃ m ∈ s.rxLanes c, m ≠ l ∧ (s.lane m).rxq = []) :
    CodewordCounted s l d.2.1 (s.takeCodeword c l d offs late) := by
  have hcounted := State.queueCodeword_counted (s.codeword_counted c l d.1 d.2.1 d.2.2 offs) c (codewordSlots d.2.1 d.2.2)
  have hval : (Fin.ofNat 16 c).val = c := Nat.mod_eq_of_lt hc
  have hchain := State.chainL_congr hcounted.chains c
  unfold State.takeCodeword
  simp only [hloss, List.isEmpty_nil, if_true]
  rw [State.destripe_waits]
  · exact hcounted
  · rw [hval]
    rcases hwait with ⟨hmask, hsw⟩ | ⟨m, hm, hne, hq⟩
    · exact .inl (State.rxLanes_of_none (by rw [hchain, hmask]) (by rw [hchain, hsw]))
    · refine .inr ⟨m, State.mem_rxLanes_of_kept hchain (hcounted.others m hne) hm, ?_⟩
      rw [hcounted.others m hne]
      exact hq

/-- A codeword that brings a loss takes the lanes from the chain. -/
theorem State.takeCodeword_loses {s : State} {c l : Nat} {d : Nat × Option Nat × List RxBlock} {offs : Nat} (late : BitVec 32)
    (hloss : ((s.codeword c l d.1 d.2.1 d.2.2 offs).codewordLoss c l (s.lane l).cwLock).1 ≠ []) :
    s.takeCodeword c l d offs late = (s.codeword c l d.1 d.2.1 d.2.2 offs).loseLanes c
      ((s.codeword c l d.1 d.2.1 d.2.2 offs).codewordLoss c l (s.lane l).cwLock).1
      ((s.codeword c l d.1 d.2.1 d.2.2 offs).codewordLoss c l (s.lane l).cwLock).2 :=
  if_neg (mt List.isEmpty_iff.mp hloss)

/-- A codeword of a lane that is locked in a chain. -/
theorem exec_fecCodewordReceived_taken {s : State} {l : Fin 64} {symbols : List (BitVec 10)} {c : Nat} (offs : Fin 5) (late : BitVec 32)
    (hr : s.lanesRun = true) (hs : symbols.length = 544) (hc : s.chainOf l = some c) (hl : (s.lane l).locked = true) :
    exec (.fecCodewordReceived l symbols offs late) s =
      .next (s.takeCodeword c l (fecReceive (s.lane l).scr symbols) offs late) := by
  change execFecCodewordReceived l symbols offs late s = _
  rw [execFecCodewordReceived, if_neg (not_not_intro hs)]
  simp only [hc]
  exact if_pos ⟨hr, hl⟩

/-- On a lane that is not locked, or in no chain, a codeword is not taken. -/
theorem exec_fecCodewordReceived_off {s : State} {l : Fin 64} {symbols : List (BitVec 10)} (offs : Fin 5) (late : BitVec 32)
    (hs : symbols.length = 544) (h : s.chainOf l = none ∨ (s.lane l).locked = false) :
    exec (.fecCodewordReceived l symbols offs late) s = .next s := by
  change execFecCodewordReceived l symbols offs late s = _
  rw [execFecCodewordReceived, if_neg (not_not_intro hs)]
  split
  · next hc => exact if_neg fun g => h.elim (fun h => nomatch hc.symm.trans h) (fun h => ne_true_of_eq_false h g.2)
  · rfl

/-! ### Blocks of a column (R187 to R189) -/

/-- Markers go out in one column of the chain. -/
theorem exec_laneMarkerSend_locked {s : State} {l : Fin 64} {c : Nat} (hr : s.lanesRun = true) (hc : s.chainOf l = some c)
    (hl : (s.lane l).locked = true) : exec (.laneMarkerSend l) s =
      .next (s.sendColumn c fun m => (0x4B, markerBody c m (s.chainL c).txEpoch (s.chainL c).txStripe)) := by
  have hm : s.mode ≠ .cold := by
    rintro h
    simp [State.lanesRun, h] at hr
  change execLaneMarkerSend l s = _
  simp only [execLaneMarkerSend, hc]
  exact if_pos ⟨hm, hl⟩

theorem exec_laneMarkerSend_unlocked {s : State} {l : Fin 64} (hl : (s.lane l).locked = false) : exec (.laneMarkerSend l) s = .next s := by
  change execLaneMarkerSend l s = _
  unfold execLaneMarkerSend
  split
  · exact if_neg fun g => ne_true_of_eq_false hl g.2
  · rfl

/-! ### The obligation -/

/-- Settles O37: a loss ends in `dropTo`, a DROP received is one of three equations, and a codeword that waits leaves its counts alone. -/
theorem lossAndCodewords : Obligations.LossAndCodewords := by
  intro s k l lanes cond body symbols offs late hr x b lost both y d
  refine ⟨fun hup hrej hne hact => ⟨fun hw => ?_, fun hw => ?_⟩, fun hrun hv htx hboth => ?_, fun hup hrej hv hw => ⟨fun htx hne => ?_,
    fun own htx hd => ?_⟩, fun h => if_neg fun g => ?_, fun h => if_pos h, fun hs h => exec_fecCodewordReceived_off offs late hs h,
    fun c hc hl hs => ?_, fun hl => if_pos ⟨hr, hl⟩, fun hl => ⟨if_neg fun g => ne_true_of_eq_false hl g.2, exec_laneMarkerSend_unlocked hl⟩,
    fun h => if_pos ⟨hr, List.any_eq_true.mpr h⟩, fun h => if_neg fun g => ?_, fun c hc hl => ⟨?_, ?_⟩⟩
  · have hlose := State.loseLanes_active (lossCode cond) hup hrej hne hact
    have hu := State.chainL_setChainL s k { x with discard := true }
    refine ⟨_, x.dropSwitch (s.maskWithout k lost) (lost.map fun l => (l, lossCode cond)),
      (if_pos hr).trans (congrArg Host.Outcome.next hlose), ?_⟩
    rw [State.dropTo_adds (by rw [hu]; exact hrej) (by rw [hu]; exact hw), hu]
    exact ⟨rfl, rfl, if_neg fun h => absurd (hup.symm.trans h.1) (by decide), rfl, rfl, hup, rfl⟩
  · have hlose := State.loseLanes_active (lossCode cond) hup hrej hne hact
    have hu := State.chainL_setChainL s k { x with discard := true }
    refine ⟨_, (if_pos hr).trans (congrArg Host.Outcome.next hlose), ?_⟩
    rw [State.dropTo_ends (by rw [hu]; exact hrej) (by rw [hu]; exact hw)]
    exact ⟨rfl, rfl⟩
  · exact ⟨_, x.rxDrop (bitsOf b 55 40) (bitsOf b 39 34) (bitsOf b 33 18), if_pos ⟨hr, hrun, hv⟩,
      State.dropReceived_agrees htx hboth, rfl, rfl, rfl, stripeFrom_low _ (bitsOf_stripe_lt _)⟩
  · obtain ⟨sw, g, hchain, hmask, hdrop⟩ := State.dropReceived_answers (epoch := bitsOf b 39 34) (stripe := bitsOf b 33 18) htx hrej hne hw
    refine ⟨_, sw, x.rxDrop (bitsOf b 55 40) (bitsOf b 39 34) (bitsOf b 33 18), if_pos ⟨hr, ChainLnk.running_of_up hup, hv⟩, ?_⟩
    rw [hchain]
    exact ⟨rfl, hmask, hdrop, rfl, rfl, rfl, hup⟩
  · obtain ⟨tx, rx, htx', hrx, hmtx, hmrx, hstripe, hdtx, hdrx⟩ :=
      State.dropReceived_merges (epoch := bitsOf b 39 34) (stripe := bitsOf b 33 18) htx hd hrej hw
    exact ⟨_, tx, rx, if_pos ⟨hr, ChainLnk.running_of_up hup, hv⟩, htx', hmtx, hrx, hmrx, hstripe, hdtx, hdrx⟩
  · exact h.elim (fun h => ne_true_of_eq_false h g.2.2) (fun h => ne_true_of_eq_false h g.2.1)
  · refine ⟨fun hloss => ?_, fun hloss hwait => ?_⟩
    · rw [exec_fecCodewordReceived_taken offs late hr hs hc hl, State.takeCodeword_loses late hloss]
    · have hcounted := State.takeCodeword_waits (d := d) late (State.chainOf_spec hc).1 hloss hwait
      exact ⟨_, exec_fecCodewordReceived_taken offs late hr hs hc hl, hcounted.others, hcounted.total, hcounted.lost, hcounted.kept⟩
  · obtain ⟨m, hm, hlocked⟩ := List.any_eq_true.mp g.2
    exact ne_true_of_eq_false (h m hm) hlocked
  · rw [exec_laneMarkerSend_locked hr hc hl, State.sendColumn_eq]
  · exact State.mem_txLanes.mpr ⟨State.chainOf_mem hc l.isLt, hl⟩

end Sys2Proof.Machine
end

section
/-! PROOFS. The lane commands of the host: RETRAIN, PRBS and injections (R195, R198, R203, R208, R209, R213, R423). -/
namespace Sys2Proof.Machine

/-! ### Who may give them, and when (R213, R423) -/

section
variable {s : State} {r : Req}

/-- The Operator is refused what only the Owner may do. -/
theorem State.firstStatus_ownerChecks_operator (h : s.role r = some .operator) (l : List (Bool × Status)) :
    firstStatus (s.ownerChecks r ++ l) = .ePriv := by
  simp [State.ownerChecks, firstStatus, h]

/-- The Owner passes to the checks behind. -/
theorem State.firstStatus_ownerChecks_owner (h : s.role r = some .owner) (l : List (Bool × Status)) :
    firstStatus (s.ownerChecks r ++ l) = firstStatus l := by
  simp [State.ownerChecks, firstStatus, h]

/-- Outside SERVICE and MAINTAIN a lane command is refused. -/
theorem firstStatus_lnkMode_outside (hs : s.mode ≠ .service) (hm : s.mode ≠ .maintain) (l : List (Bool × Status)) :
    firstStatus (lnkMode s ++ l) = .eState := by
  simp [lnkMode, firstStatus, hs, hm]

/-- In SERVICE and MAINTAIN the checks behind decide. -/
theorem firstStatus_lnkMode_inside (h : s.mode = .service ∨ s.mode = .maintain) (l : List (Bool × Status)) :
    firstStatus (lnkMode s ++ l) = firstStatus l := by
  rcases h with h | h <;> simp [lnkMode, firstStatus, h]

/-- Every lane command is one host write, and its table begins with the role and the mode. -/
theorem laneCommand_form (s : State) (r : Req) (l : Fin 64) (v : Word) (count : BitVec 8) : ∀ c ∈
    [(Instr.retrain r l, retrainStatus r l s), (.prbsCfgWrite r l v, prbsStatus r l v s),
      (.injectBit r l count, injectBitStatus r l count.toNat s), (.injectSymbol r l count, injectSymbolStatus r l count.toNat s),
      (.injectSync r l, injectSyncStatus r l s), (.injectLol r l, injectLolStatus r l s)],
    ∃ rest a f, c.2 = firstStatus (s.ownerChecks r ++ (lnkMode s ++ rest)) ∧ exec c.1 s = .next (s.hostWrite r a c.2 f) := by
  simp only [List.mem_cons, List.not_mem_nil, or_false, forall_eq_or_imp, forall_eq]
  exact ⟨⟨_, _, _, rfl, rfl⟩, ⟨_, _, _, rfl, rfl⟩, ⟨_, _, _, rfl, rfl⟩, ⟨_, _, _, rfl, rfl⟩, ⟨_, _, _, rfl, rfl⟩, ⟨_, _, _, rfl, rfl⟩⟩

/-- A host write refused is answered with its status, and moves neither lanes nor chains. -/
theorem State.hostWrite_refused (hrec : s.upd.recovery = false) {st : Status} (hst : st ≠ .ok) (a : Nat) (f : State → State) : ∃ t,
    (.next (s.hostWrite r a st f) : Result) = .next t ∧ t.answer = ⟨st, []⟩ ∧ t.lanes = s.lanes ∧ t.chains = s.chains := by
  rw [State.hostWrite_not_ok _ _ _ _ _ hrec hst]
  exact ⟨_, rfl, State.answer_reject .., by simp, by simp⟩

end

/-! ### RETRAIN (R203, R213) -/

section
variable {s : State} {l k : Nat}

theorem State.retrain_idle (h : (s.lane l).state = .off ∨ (s.lane l).state = .test) : s.retrain l = s := if_pos h

/-- The mask without one lane, as RETRAIN and the check of LOL spell it. -/
theorem State.maskWithout_single (s : State) (k l : Nat) : (s.chainL k).maskBy (fun m =>
    bitOf (s.chainL k).txTarget ((s.chainL k).laneList.idxOf m) && m != l) = s.maskWithout k [l] := by
  rw [State.maskWithout]
  congr 1
  funext m
  rw [List.contains_cons, List.contains_nil, Bool.or_false]
  rfl

/-- A lane that no exchange holds returns to DETECT. -/
theorem State.retrain_free (h : ¬ ((s.lane l).state = .off ∨ (s.lane l).state = .test))
    (hfree : ∀ k, s.chainOf l = some k → (s.chainL k).rejoin = .none) : s.retrain l = s.setLane l ((s.lane l).detected false s.now) := by
  rw [State.retrain, if_neg h]
  dsimp only
  split
  · rfl
  · next k hk => rw [State.chainL_setLane, hfree k hk]

/-- An announced exchange that holds the lane lapses. -/
theorem State.retrain_announced {m : Nat} {form : Bool} (h : ¬ ((s.lane l).state = .off ∨ (s.lane l).state = .test))
    (hk : s.chainOf l = some k) (ha : (s.chainL k).rejoin = .announced m form)
    (hm : bitOf m ((s.chainL k).laneList.idxOf l) = true) :
    s.retrain l = (s.setLane l ((s.lane l).detected false s.now)).lapse k := by
  rw [State.retrain, if_neg h]
  simp only [hk, State.chainL_setLane, ha, hm, if_true]

/-- A lane of a committed mask leaves it by a DROP. -/
theorem State.retrain_committed {m old : Nat} {form got : Bool} (h : ¬ ((s.lane l).state = .off ∨ (s.lane l).state = .test))
    (hk : s.chainOf l = some k) (hc : (s.chainL k).rejoin = .committed m old form got)
    (hm : bitOf (s.chainL k).txTarget ((s.chainL k).laneList.idxOf l) = true) :
    s.retrain l = (s.setLane l ((s.lane l).detected false s.now)).dropTo k (s.maskWithout k [l]) [] := by
  rw [State.retrain, if_neg h]
  simp only [hk, State.chainL_setLane, hc, hm, if_true]
  rw [State.maskWithout_single]

/-- With MINW lanes left, that DROP is pending. -/
theorem State.retrain_drops {m old : Nat} {form got : Bool} (h : ¬ ((s.lane l).state = .off ∨ (s.lane l).state = .test))
    (hk : s.chainOf l = some k) (hc : (s.chainL k).rejoin = .committed m old form got)
    (hm : bitOf (s.chainL k).txTarget ((s.chainL k).laneList.idxOf l) = true)
    (hw : (s.chainL k).minw ≤ popcount 16 (s.maskWithout k [l])) :
    (s.retrain l).lane l = (s.lane l).detected false s.now ∧
    ∃ sw, ((s.retrain l).chainL k).txSwitch = some sw ∧ sw.drop = true ∧ sw.mask = s.maskWithout k [l] := by
  rw [State.retrain_committed h hk hc hm]
  obtain ⟨hlanes, rej, hgive⟩ := State.giveWay_committed (s := s.setLane l ((s.lane l).detected false s.now)) hc (s.maskWithout k [l])
  generalize hu : (s.setLane l ((s.lane l).detected false s.now)).giveWay k (s.maskWithout k [l]) = u at hlanes hgive
  obtain ⟨hkept, hchain⟩ := State.dropTo_pending (s := s.setLane l ((s.lane l).detected false s.now)) (lanes := []) hu
    (by rw [hgive]; exact hw)
  refine ⟨?_, ?_⟩
  · rw [State.lane_congr (hkept.trans hlanes), State.lane_setLane]
  · rw [hchain]
    exact ⟨_, rfl, rfl, rfl⟩

end

/-! ### PRBS (R208) -/

/-- What a write of LNK_L_PRBS_CFG leaves. -/
theorem State.prbsConfig_leaves (s : State) (l : Nat) (v : Word) : (s.prbsConfig l v).rd (Reg.LNK_L_PRBS_CFG l) = v &&& 0xC000000F#32 ∧
    (∀ a, a ≠ Reg.LNK_L_PRBS_CFG l → (s.prbsConfig l v).rd a = s.rd a) ∧
    ((wget v Fld.LNK_L_PRBS_CFG_TX_EN = 1 ∨ wget v Fld.LNK_L_PRBS_CFG_RX_EN = 1) →
      (s.prbsConfig l v).lane l = { s.lane l with state := .test, gen := 0, check := {} }) ∧
    (wget v Fld.LNK_L_PRBS_CFG_TX_EN = 0 → wget v Fld.LNK_L_PRBS_CFG_RX_EN = 0 →
      (s.prbsConfig l v).lane l = if (s.lane l).state = .test then { s.lane l with state := .off } else s.lane l) := by
  have hon : (wget v Fld.LNK_L_PRBS_CFG_TX_EN == 1 || wget v Fld.LNK_L_PRBS_CFG_RX_EN == 1) = true ↔
      wget v Fld.LNK_L_PRBS_CFG_TX_EN = 1 ∨ wget v Fld.LNK_L_PRBS_CFG_RX_EN = 1 := by simp
  have hreg : (s.prbsConfig l v).regs = (s.wr (Reg.LNK_L_PRBS_CFG l) (v &&& prbsMask)).regs := by
    unfold State.prbsConfig
    dsimp only
    split
    · rfl
    · split <;> rfl
  have hrd (a : Nat) : (s.prbsConfig l v).rd a = (s.wr (Reg.LNK_L_PRBS_CFG l) (v &&& prbsMask)).rd a := by
    rw [State.rd, hreg]
    rfl
  refine ⟨(hrd _).trans (State.rd_wr_same ..), fun a ha => (hrd a).trans (State.rd_wr_ne _ _ _ _ ha), fun h => ?_, fun htx hrx => ?_⟩
  · rw [State.prbsConfig, if_pos (hon.mpr h), State.lane_setLane]
    rfl
  · rw [State.prbsConfig, if_neg (by simp [htx, hrx])]
    by_cases ht : (s.lane l).state = .test
    · rw [if_pos (by rwa [State.lane_wr]), State.lane_setLane, State.lane_wr, if_pos ht]
    · rw [if_neg (by rwa [State.lane_wr]), State.lane_wr, if_neg ht]

/-! ### Injections (R209) -/

theorem freePlaces_length (n : Nat) (free l : List Nat) : (freePlaces n free l).length = n := by
  induction n generalizing free l with
  | zero => rfl
  | succ n ih => exact congrArg (· + 1) (ih _ _)

/-- Places chosen among enough distinct ones are distinct, and stand among them. -/
theorem freePlaces_spec (n : Nat) (free : List Nat) {l : List Nat} (hl : l.Nodup) (hn : n ≤ l.length) :
    (freePlaces n free l).Nodup ∧ ∀ p ∈ freePlaces n free l, p ∈ l := by
  induction n generalizing free l with
  | zero => exact ⟨.nil, fun p hp => nomatch hp⟩
  | succ n ih =>
    have hi : free.headD 0 % max 1 l.length < l.length := by
      rw [Nat.max_eq_right (by omega)]
      exact Nat.mod_lt _ (by omega)
    have hget : l.getD (free.headD 0 % max 1 l.length) 0 = l[free.headD 0 % max 1 l.length] := by
      rw [List.getD_eq_getElem _ _ hi]
    have herase := hl.erase_getElem _ hi
    obtain ⟨hnodup, hmem⟩ := ih (free.drop 1) (l := l.eraseIdx (free.headD 0 % max 1 l.length)) (herase ▸ hl.erase _)
      (by rw [List.length_eraseIdx_of_lt hi]; omega)
    rw [freePlaces, hget]
    refine ⟨List.nodup_cons.mpr ⟨fun h => ?_, hnodup⟩, fun p hp => ?_⟩
    · have := hmem _ h
      rw [← herase] at this
      exact hl.not_mem_erase this
    · rcases List.mem_cons.mp hp with rfl | hp
      · exact List.getElem_mem hi
      · exact List.mem_of_mem_eraseIdx (hmem p hp)

/-- The errors of an injection of kind SYMBOL: as many as it counts, at distinct symbols of a codeword. -/
theorem State.injected_symbols (s : State) (l : Nat) {n : Nat} (hn : n ≤ 30) : ∃ errs, s.injected l 2 n = .symbolErrors l errs ∧
    errs.length = n ∧ (errs.map (·.1)).Nodup ∧ ∀ e ∈ errs, e.1 < 544 ∧ 1 ≤ e.2 ∧ e.2 < 1024 := by
  have hlen := freePlaces_length n (Config.freeList s.fresh) (List.range 544)
  obtain ⟨hnodup, hmem⟩ := freePlaces_spec n (Config.freeList s.fresh) List.nodup_range (l := List.range 544) (by rw [List.length_range]; omega)
  refine ⟨_, if_pos rfl, ?_, ?_, fun e he => ?_⟩
  · rw [List.length_zip, hlen, List.length_map, List.length_range, Nat.min_self]
  · rw [List.map_fst_zip (by rw [hlen, List.length_map, List.length_range])]
    exact hnodup
  · obtain ⟨hplace, hvalue⟩ := List.of_mem_zip he
    obtain ⟨i, -, hi⟩ := List.mem_map.mp hvalue
    exact ⟨List.mem_range.mp (hmem _ hplace), by omega, by omega⟩

/-- An injection of kind SYNC sends a sync header of 0b00 or 0b11. -/
theorem State.injected_sync (s : State) (l n : Nat) : s.injected l 3 n = .badHeader l 0 ∨ s.injected l 3 n = .badHeader l 3 := by
  simp only [State.injected, show ¬ (3 : Nat) = 2 by decide, if_false]
  split
  · exact .inl rfl
  · exact .inr rfl

section
variable {s : State} {l kind n : Nat}

/-- A lane sends codewords whether an injection waits on it or not. -/
theorem State.injectable_setInj (s : State) (l kind n : Nat) :
    (s.setLane l { s.lane l with inj := some (kind, n), flipIn := 0 }).injectable l = s.injectable l := by
  rw [State.injectable, State.lane_setLane]
  rfl

/-- An injection waits for the PRBS stream, or for codewords. -/
theorem State.inject_waits (h : kind = 1 ∨ s.injectable l = false) :
    s.inject l kind n = s.setLane l { s.lane l with inj := some (kind, n), flipIn := 0 } := by
  refine State.applyInjection_waits fun k m hi => ?_
  rw [State.lane_setLane] at hi
  cases hi
  rwa [State.injectable_setInj]

/-- What one that waits leaves: itself on its lane, and nothing sent. -/
theorem State.inject_waits_leaves (h : kind = 1 ∨ s.injectable l = false) :
    (s.inject l kind n).lane l = { s.lane l with inj := some (kind, n), flipIn := 0 } ∧ (s.inject l kind n).out = s.out := by
  rw [State.inject_waits h]
  exact ⟨State.lane_setLane .., rfl⟩

/-- On a lane that sends codewords one of kind SYMBOL or SYNC is applied at once. -/
theorem State.inject_applies (hk : kind ≠ 1) (hs : s.injectable l = true) :
    (s.inject l kind n).lane l = { s.lane l with inj := none, flipIn := 0 } ∧
    (s.inject l kind n).out = s.out ++ [s.injected l kind n] := by
  rw [State.inject, State.applyInjection_applies (kind := kind) (n := n) (by rw [State.lane_setLane]) hk (by rwa [State.injectable_setInj])]
  refine ⟨?_, rfl⟩
  rw [State.lane_emit, State.lane_setLane, State.lane_setLane]

end

/-! ### The commands -/

section
variable {s : State} {r : Req} {l : Fin 64}

/-- A legal count of an injection of kind SYMBOL. -/
theorem injectSymbolStatus_count {n : Nat} (h : injectSymbolStatus r l n s = .ok) : n ≤ 30 := by
  have := firstStatus_ok h (by simp [State.ownerChecks, lnkMode]) (n == 0 || decide (30 < n), .eRange) (by simp)
  simp only [Bool.or_eq_false_iff, decide_eq_false_iff_not, Nat.not_lt] at this
  exact this.2

/-- A legal injection of kind BIT that gets past role and mode asks only whether one waits already. -/
theorem injectBitStatus_legal {n : Nat} (hn : 1 ≤ n) (ht : (s.lane l).state = .test)
    (behind : ∀ rest, firstStatus (s.ownerChecks r ++ lnkMode s ++ rest) = firstStatus rest) :
    injectBitStatus r l n s = if (s.lane l).inj.isSome then .eBusy else .ok := by
  have hrange : (n == 0 || (s.lane l).state != .test) = false := by
    rw [ht, beq_false_of_ne (by omega)]
    rfl
  rw [injectBitStatus, behind]
  simp only [firstStatus, hrange, Bool.false_eq_true, if_false]

/-- A legal injection of at most 15 symbols that gets past role and mode asks the same. -/
theorem injectSymbolStatus_legal {n : Nat} (hn : 1 ≤ n) (hfew : n ≤ 15)
    (behind : ∀ rest, firstStatus (s.ownerChecks r ++ lnkMode s ++ rest) = firstStatus rest) :
    injectSymbolStatus r l n s = if (s.lane l).inj.isSome then .eBusy else .ok := by
  have hfew' : decide (15 < n) = false := decide_eq_false (by omega)
  have hrange : (n == 0 || decide (30 < n)) = false := by
    rw [beq_false_of_ne (by omega), decide_eq_false (by omega)]
    rfl
  rw [injectSymbolStatus, behind]
  simp only [firstStatus, hrange, hfew', Bool.false_and, Bool.false_eq_true, if_false]

/-- A legal LOL leaves the chain MINW lanes. -/
theorem injectLolStatus_lanes {k : Nat} (h : injectLolStatus r l s = .ok) (hk : s.chainOf l = some k) (ha : (s.lane l).state = .active) :
    (s.chainL k).minw ≤ popcount 16 (s.maskWithout k [l.val]) := by
  have := firstStatus_ok h (by simp [State.ownerChecks, lnkMode]) (s.lolConflict l, .eConflict) (by simp)
  simp only [State.lolConflict, hk, ha, beq_self_eq_true, Bool.true_and, decide_eq_false_iff_not, Nat.not_lt] at this
  rwa [← State.maskWithout_single]

/-- LOL on a lane of no chain. -/
theorem exec_injectLol_alone (hrec : s.upd.recovery = false) (h : injectLolStatus r l s = .ok) (hk : s.chainOf l = none) :
    exec (.injectLol r l) s = .next (s.reply .ok) := by
  refine (congrArg Host.Outcome.next (State.hostWrite_ok _ _ _ _ _ hrec h)).trans ?_
  simp only [hk]

/-- LOL on a lane of a chain: it is lost under condition UNC. -/
theorem exec_injectLol_on {k : Nat} (hrec : s.upd.recovery = false) (h : injectLolStatus r l s = .ok) (hk : s.chainOf l = some k) :
    exec (.injectLol r l) s = .next ((s.loseLanes k [l.val] 2).reply .ok) := by
  refine (congrArg Host.Outcome.next (State.hostWrite_ok _ _ _ _ _ hrec h)).trans ?_
  simp only [hk]

end

/-! ### The obligation -/

/-- Settles O38: every command is one host write whose table begins with the role and the mode; each accepted one is the equation of
its effect. -/
theorem laneCommands : Obligations.LaneCommands := by
  intro s r l v count x n waits applied commands
  have accepted {a : Nat} {st : Status} {f : State → State} {t : State} (hrec : s.upd.recovery = false) (hok : st = .ok) (h : f s = t) :
      (.next (s.hostWrite r a st f) : Result) = .next (t.reply .ok) := by
    rw [State.hostWrite_ok _ _ _ _ _ hrec hok, h]
  have behind (hrole : s.role r = some .owner) (hmode : s.mode = .service ∨ s.mode = .maintain) (rest : List (Bool × Status)) :
      firstStatus (s.ownerChecks r ++ lnkMode s ++ rest) = firstStatus rest := by
    rw [List.append_assoc, State.firstStatus_ownerChecks_owner hrole, firstStatus_lnkMode_inside hmode]
  refine ⟨fun hrec => ⟨fun hok => ⟨fun hoff htest => ⟨fun hfree => ?_, fun k m form hk ha hm => ?_, fun k m old form got hk hc hm hw => ?_⟩,
      fun hidle => ?_⟩, fun hok => ⟨_, congrArg Host.Outcome.next (State.hostWrite_ok _ _ _ _ _ hrec hok), rfl, s.prbsConfig_leaves l v⟩,
      fun hok => ?_, fun hok => ?_, fun hok => ?_, fun hok h => ?_, fun k hok hk hrej hmask hst => ?_, fun k hok hk hup hrej ha hm => ?_,
      fun c st hc hst => ?_⟩, fun hrole c hc => ?_, fun hrole hs hm c hc => ?_, fun hrole hmode => ⟨fun ha => ?_, fun hinj => ⟨?_, ?_, ?_, ?_⟩⟩⟩
  · exact accepted hrec hok (State.retrain_free (not_or_intro hoff htest) hfree)
  · refine ⟨_, accepted hrec hok (State.retrain_announced (not_or_intro hoff htest) hk ha hm), rfl, ?_, ?_⟩
    · exact State.lane_setLane ..
    · rw [State.chainL_reply, State.lapse_chainL]
  · obtain ⟨hlane, sw, hsw, hdrop, hmask⟩ := State.retrain_drops (not_or_intro hoff htest) hk hc hm hw
    exact ⟨_, sw, accepted hrec hok rfl, rfl, hlane, hsw, hdrop, hmask⟩
  · exact accepted hrec hok (State.retrain_idle hidle)
  · exact ⟨_, accepted hrec hok rfl, rfl, State.inject_waits_leaves (n := n) (kind := 1) (.inl rfl)⟩
  · refine ⟨_, accepted hrec hok rfl, rfl, fun hs => ?_, fun hs => ?_⟩
    · obtain ⟨errs, herrs, hlen, hnodup, hrange⟩ := s.injected_symbols l (injectSymbolStatus_count hok)
      obtain ⟨hlane, hout⟩ := State.inject_applies (n := n) (kind := 2) (by decide) hs
      exact ⟨errs, ⟨hlane, hout.trans (by rw [herrs])⟩, hlen, hnodup, hrange⟩
    · exact State.inject_waits_leaves (n := n) (kind := 2) (.inr hs)
  · refine ⟨_, accepted hrec hok rfl, rfl, fun hs => ?_, fun hs => ?_⟩
    · obtain ⟨hlane, hout⟩ := State.inject_applies (n := 0) (kind := 3) (by decide) hs
      rcases s.injected_sync l 0 with h | h
      · exact .inl ⟨hlane, hout.trans (by rw [h])⟩
      · exact .inr ⟨hlane, hout.trans (by rw [h])⟩
    · exact State.inject_waits_leaves (n := 0) (kind := 3) (.inr hs)
  · cases hk : s.chainOf l with
    | none => exact exec_injectLol_alone hrec hok hk
    | some k =>
      rw [exec_injectLol_on hrec hok hk, State.loseLanes_nothing]
      rcases h with h | h | h
      · exact nomatch hk.symm.trans h
      · exact .inl h
      · exact .inr h
  · refine ⟨_, exec_injectLol_on hrec hok hk, rfl, ?_⟩
    obtain ⟨hlanes, -, hnow⟩ := s.lossEvent_keeps l 2
    rw [State.lane_reply, State.loseLanes_early 2 hst hrej hmask, (State.laneFails_failed _ _).lane, State.lane_congr hlanes, hnow]
  · have hw := injectLolStatus_lanes hok hk ha
    have hu := State.chainL_setChainL s k { s.chainL k with discard := true }
    refine ⟨_, (s.chainL k).dropSwitch (s.maskWithout k [l.val]) [(l.val, 2)], exec_injectLol_on hrec hok hk, rfl, ?_, rfl, rfl⟩
    rw [State.chainL_reply, State.loseLanes_active 2 hup hrej (List.cons_ne_nil _ _) (by simpa using ⟨ha, hm⟩),
      State.dropTo_adds (by rw [hu]; exact hrej) (by rw [hu]; exact hw), hu]
    rfl
  · obtain ⟨rest, a, f, hst', hexec⟩ := laneCommand_form s r l v count (c, st) hc
    rw [hexec]
    exact State.hostWrite_refused hrec hst a f
  · obtain ⟨rest, -, -, hst, -⟩ := laneCommand_form s r l v count c hc
    rw [hst, State.firstStatus_ownerChecks_operator hrole]
  · obtain ⟨rest, -, -, hst, -⟩ := laneCommand_form s r l v count c hc
    rw [hst, State.firstStatus_ownerChecks_owner hrole, firstStatus_lnkMode_outside hs hm]
  · exact (behind hrole hmode _).trans (if_pos (beq_iff_eq.mpr ha))
  · exact (behind hrole hmode _).trans (if_pos hinj)
  · exact (behind hrole hmode _).trans (if_pos hinj)
  · intro hn htest
    exact (injectBitStatus_legal hn htest (behind hrole hmode)).trans (if_pos hinj)
  · intro hn hfew
    exact (injectSymbolStatus_legal hn hfew (behind hrole hmode)).trans (if_pos hinj)

end Sys2Proof.Machine
end
